-- ==== Sys2Proof/Word.lean ====
section
/-! DEFINITION. The word types of the module (00 R12, R13): bytes, 32-bit and 64-bit registers. -/

namespace Sys2Proof

/-- One byte (00 R12). -/
abbrev Byte := BitVec 8

/-- A 32-bit register or field (00 R13). -/
abbrev U32 := BitVec 32

/-- A 64-bit register, address or time (00 R13, 01 R37). -/
abbrev U64 := BitVec 64

end Sys2Proof
end

