-- ==== Sys2Proof/Syntax.lean ====
section
/-! DEFINITION. The commands the block takes from outside: command packets, remote operations and the messages and
events of its boundaries, and `Instr`, one constructor per row of the table of operations and events. A constructor
carries what comes from outside the block with that row. -/

namespace Sys2Proof

/-- A 64-byte command packet (02 Table 2-5). Bit 0 of `param` is bit 0 of packet byte 16. -/
structure Packet where
  opcode : BitVec 16
  flags : BitVec 16
  seq : BitVec 32
  execTime : BitVec 64
  param : BitVec 384
  deriving DecidableEq, Repr

/-- The slot or queue that a packet was accepted from: the MCC main slot (from BAR0 or I3C, 02 R66), or ring `n`. -/
inductive Via where
  | mcc
  | ring (n : Nat)
  deriving DecidableEq, Repr

/-- A remote-operation request (08 R283): its 16-byte header with the fields of 08 Table 8-3, and its payload. -/
structure Req where
  hdr : BitVec 128
  data : List Byte
  deriving DecidableEq, Repr

/-- A remote-operation response (08 R285): its header with the fields of 08 Table 8-5, and the returned bytes. -/
structure Resp where
  hdr : BitVec 128
  data : List Byte
  deriving DecidableEq, Repr

/-- What a memory reads at a unit that carries no test mark (06 R209, R217): no error, a corrected one, or an
uncorrectable one. Errors are the environment's. -/
inductive Seen where
  | clean
  | ce
  | ue
  deriving DecidableEq, Repr

/-- What a walk of the page tables reads (07 R241, R257): good entries, an entry with a reserved TYPE, or an
uncorrectable one at a level. -/
inductive Walk where
  | good
  | reserved
  | ue (level : Nat)
  deriving DecidableEq, Repr

/-- The commands and events of the module: one constructor per row of the table, with what comes from outside. -/
inductive Instr where
  /-- REGISTER_WRITE (R15): A host write to a register that has no row of its own takes effect according to the field's access type (RW, W1C, W1S, WO, RWL). -/
  | registerWrite (bar off width value : Nat)
  /-- GATED_ACCESS (R5): An access to the register window of an absent or gated unit reads zero, ignores writes and increments GATED_ACCESS_CNT. -/
  | gatedAccess (off width : Nat) (write : Bool)
  /-- HIF_FAULT_STATUS_WRITE (R88): Writing 1 to HIF_FAULT_STATUS.VALID clears VALID and OVERRUN together and re-arms fault capture. -/
  | hifFaultStatusWrite (value : BitVec 32)
  /-- MSIX_UNMASK (R80): Unmasking a vector whose pending bit is set sends the pending MSI-X message. -/
  | msixUnmask (v : Nat)
  /-- MCC_CMD_WRITE (R65): A write to MCC_CMD stores packet bytes, or is dropped and counted in MCC_REJECT_CNT while BUSY is 1 or the MCC is not served. -/
  | mccCmdWrite (abt : Bool) (off : Nat) (bytes : List Byte)
  /-- MCC_DOORBELL (R64): A write to MCC_DOORBELL while BUSY is 0 accepts the packet in MCC_CMD and sets BUSY. -/
  | mccDoorbell (value : BitVec 32)
  /-- MCC_ABT_DOORBELL (R67): A write to MCC_ABT_DOORBELL accepts a FUNC_ABORT from the abort slot whatever BUSY is, or refuses any other opcode. -/
  | mccAbtDoorbell (value : BitVec 32)
  /-- I3C_MCC_COMMAND (R66): An MCTP message from the tray controller over I3C delivers a command to the shared MCC main slot, or is answered at once with STS_BUSY. -/
  | i3cMccCommand (p : Packet) (extra : List Byte)
  /-- MGMT_NOP (R60): MGMT_NOP returns STS_OK with the MCC firmware version in RESULT0. -/
  | mgmtNop (via : Via) (p : Packet)
  /-- FUNC_ABORT (R69): FUNC_ABORT stops fetching, ends commands with STS_ABORTED, block-resets the units and marks the rings ABORTED for each selected function. -/
  | funcAbort (via : Via) (p : Packet)
  /-- RING_OPEN (R74): RING_OPEN opens a work ring or serving request ring, zeroes its indices and sets it IDLE. -/
  | ringOpen (via : Via) (p : Packet)
  /-- RING_CLOSE (R676): RING_CLOSE sets an IDLE ring CLOSED. -/
  | ringClose (via : Via) (p : Packet)
  /-- RING_RESET (R78): RING_RESET writes STS_ABORTED replies from HEAD to TAIL and returns a HALTED or ABORTED ring to IDLE. -/
  | ringReset (via : Via) (p : Packet)
  /-- BOUNCE_REGISTER (R84): BOUNCE_REGISTER registers a bounce window in confidential mode and returns a fresh salt. -/
  | bounceRegister (via : Via) (p : Packet)
  /-- BOUNCE_RELEASE (R84): BOUNCE_RELEASE releases an idle bounce window. -/
  | bounceRelease (via : Via) (p : Packet)
  /-- DB_SQ_TAIL (R75): A write to DB_SQ_TAILn accepts a new submission tail within bounds, or sets TAIL_OVF. -/
  | dbSqTail (ring : Nat) (tail : BitVec 32)
  /-- DB_CQ_HEAD (R77): A write to DB_CQ_HEADn frees completion entries within bounds, or sets CQ_HEAD_ERR; freed space releases a held reply. -/
  | dbCqHead (ring : Nat) (head : BitVec 32)
  /-- PACKET_FETCH (R76): A packet fetched from a ring's submission queue arrives at its target and is checked for execution. -/
  | packetFetch (ring : Nat) (seen : Seen)
  /-- EXEC_TIME_REACHED (R61): TIME_NS reaches a held command's EXEC_TIME and the command starts within t_EXEC_START. -/
  | execTimeReached (via : Via)
  /-- COALESCE_TIMER_EXPIRY (R81): TIME_US elapses since the first pending reply of a vector and the vector fires. -/
  | coalesceTimerExpiry (v : Nat)
  /-- TILE_MATMUL (R146): TILE_MATMUL computes a matrix product on the Weft array into long accumulators and writes or merges the output. -/
  | tileMatmul (via : Via) (p : Packet) (ue : Option Nat)
  /-- TILE_VEC (R151): TILE_VEC applies an elementwise, conversion, unary or LACC_ADD operation to COUNT elements. -/
  | tileVec (via : Via) (p : Packet) (ue : Option Nat)
  /-- TILE_VRED (R152): TILE_VRED reduces rows by sum, sum of squares, dot product, max or min. -/
  | tileVred (via : Via) (p : Packet) (ue : Option Nat)
  /-- TILE_XFER (R153): TILE_XFER loads or stores a 2-D region between the tile store and a global address as posted operations. -/
  | tileXfer (via : Via) (p : Packet) (ue : Option Nat)
  /-- TILE_ATOMIC (R154): TILE_ATOMIC issues one remote atomic, posted or returning. -/
  | tileAtomic (via : Via) (p : Packet) (ue : Option Nat)
  /-- TILE_FENCE (R155): TILE_FENCE waits until every earlier remote operation of the tile is acknowledged and reports posted faults. -/
  | tileFence (via : Via) (p : Packet)
  /-- TILE_WAIT (R141): TILE_WAIT waits until a sync-token counter reaches THRESHOLD, optionally consuming it. -/
  | tileWait (via : Via) (p : Packet)
  /-- TILE_SYNC_SET (R140): TILE_SYNC_SET sets a sync-token counter to VALUE. -/
  | tileSyncSet (via : Via) (p : Packet)
  /-- TILE_WAIT_PASS (R141): A pending wait finds its counter at or above the threshold and passes, subtracting the threshold under CONSUME. -/
  | tileWaitPass (tile : Nat)
  /-- TILE_WAIT_TIMEOUT (R154): A TILE_WAIT reaches TIMEOUT_US without passing and takes the exception STS_TIMEOUT. -/
  | tileWaitTimeout (tile : Nat)
  /-- TILE_COMMAND_COMPLETE (R142): A tile command completes, its reply is written and the sequencer starts the next command in ring order. -/
  | tileCommandComplete (tile : Nat)
  /-- EXCEPTION_DRAIN_DONE (R158): The store buffer has drained after an exception; the reply is written, TILE_EXC registers set and the ring halted. -/
  | exceptionDrainDone (tile : Nat)
  /-- SEQ_TRAP (R160): An uncorrectable sequencer or engine microcode fetch traps the unit, sets TRAPPED, latches ENGINE_TRAP and halts its ring. -/
  | seqTrap (unit off : Nat) (remapFails : Bool)
  /-- RO_RESPONSE_TIMEOUT (R138): A store-buffer entry reaches RSP_TIMEOUT_US, frees its slot and becomes a posted fault with STS_TIMEOUT. -/
  | roResponseTimeout (tile rtag : Nat)
  /-- RESPONSE_ARRIVAL (R285): A response arrives at the issuer, frees its store-buffer entry and returns its send token. -/
  | responseArrival (r : Resp)
  /-- FENCE_COMPLETE (R42): The last outstanding operation before a fence is acknowledged and the fence completes. -/
  | fenceComplete (tile : Nat)
  /-- TILE_CONV (R174): TILE_CONV computes a convolution on the tile as the matrix product of R169, with region entries. -/
  | tileConv (via : Via) (p : Packet) (ue : Option Nat)
  /-- TILE_POOL (R183): TILE_POOL reduces pooling windows by max, min, average, sum or DIV_SUM on the vector unit. -/
  | tilePool (via : Via) (p : Packet) (ue : Option Nat)
  /-- SPL_CONV (R186): SPL_CONV runs a convolution on the Splint engine, writing output through region entries. -/
  | splConv (via : Via) (p : Packet) (far : List Host.Cell) (ue : Option Nat)
  /-- SPL_WAIT (R189): SPL_WAIT waits on an SPL_SYNC counter as TILE_WAIT does. -/
  | splWait (via : Via) (p : Packet)
  /-- SPL_SYNC_SET (R189): SPL_SYNC_SET sets an SPL_SYNC counter. -/
  | splSyncSet (via : Via) (p : Packet)
  /-- PATROL_SCRUB_READ (R219): HBM patrol reads a block, writes back a corrected one and poisons and logs an uncorrectable one. -/
  | patrolScrubRead (stack off : Nat) (seen : Seen)
  /-- SRAM_PATROL_READ (R219): SRAM patrol reads a line, corrects it or sets its poison bit. -/
  | sramPatrolRead (key : Nat) (seen : Seen)
  /-- PATROL_PASS_COMPLETE (R221): A patrol pass completes, clearing corrected-error counts and incrementing PASSES. -/
  | patrolPassComplete (key : Nat)
  /-- SRAM_WRITEBACK (R209): A corrected SRAM word is written back in the next idle cycle of its bank. -/
  | sramWriteback (key : Nat)
  /-- PAGE_RETIRE_DONE (R222): The page copy ends, the remap entry is written and held accesses are released to the skein page. -/
  | pageRetireDone (page : Nat)
  /-- MEM_SCRUB (R228): MEM_SCRUB starts a read-verify scrub of the selected memories as an exclusive maintenance activity. -/
  | memScrub (via : Via) (p : Packet)
  /-- MEM_SCRUB_DONE (R228): The scrub has passed every selected block and line and replies with the poisoned and corrected counts. -/
  | memScrubDone (found : List (Nat × Bool))
  /-- MEM_ECC_TEST (R229): MEM_ECC_TEST raw-writes or raw-reads one protected unit with its check bits. -/
  | memEccTest (via : Via) (p : Packet)
  /-- HBM_TEMP_READOUT (R206): Every 1 ms the stack temperature is read into HBM_STATUS.TEMP_C. -/
  | hbmTempReadout (temps : List Nat)
  /-- CREEL_SEQ_OPEN (R246): CREEL_SEQ_OPEN opens a sequence with its geometry and page reservation. -/
  | creelSeqOpen (via : Via) (p : Packet)
  /-- CREEL_SEQ_RESERVE (R246): CREEL_SEQ_RESERVE changes the reservation of an OPEN sequence. -/
  | creelSeqReserve (via : Via) (p : Packet)
  /-- CREEL_SEQ_TRIM (R248): CREEL_SEQ_TRIM frees pages wholly at or beyond token T and zeroes the tail of the page holding T. -/
  | creelSeqTrim (via : Via) (p : Packet)
  /-- CREEL_SEQ_CLOSE (R248): CREEL_SEQ_CLOSE frees every page of the sequence. -/
  | creelSeqClose (via : Via) (p : Packet)
  /-- TRIM_CLOSE_DONE (R249): A TRIM or CLOSE finishes and the accesses held at the homes are released against the new tables. -/
  | trimCloseDone
  /-- CREEL_SEQ_QUERY (R273): CREEL_SEQ_QUERY returns a sequence's state, cause, FIRST_LOST and mapped pages. -/
  | creelSeqQuery (via : Via) (p : Packet)
  /-- CREEL_UNPARK (R252): CREEL_UNPARK sets a new reservation and returns a PARKED sequence to OPEN. -/
  | creelUnpark (via : Via) (p : Packet)
  /-- CREEL_POOL_ADD (R245): CREEL_POOL_ADD adds zero-filled allocatable pages to a unit's pool. -/
  | creelPoolAdd (via : Via) (p : Packet)
  /-- CREEL_POOL_REMOVE (R273): CREEL_POOL_REMOVE removes unreserved free pages and lists their addresses. -/
  | creelPoolRemove (via : Via) (p : Packet)
  /-- CREEL_SKEIN_GRANT (R253): CREEL_SKEIN_GRANT moves skein pages into a unit's pool above the skein floor. -/
  | creelSkeinGrant (via : Via) (p : Packet)
  /-- CREEL_GATHER (R259): CREEL_GATHER submits a gather request and completes when its status line is visible. -/
  | creelGather (via : Via) (p : Packet)
  /-- CREEL_BUCKET (R272): CREEL_BUCKET sorts sequence lengths into buckets and writes the sorted entries and start indices. -/
  | creelBucket (via : Via) (p : Packet) (far : List Host.Cell) (ue : Option Nat)
  /-- GATHER_REQUEST (R255): A 64-byte store to a gather endpoint queues one request and is answered at queue entry. -/
  | gatherRequest (q : Req)
  /-- GATHER_SERVE (R256): A Creel unit takes the next queued request, checks, translates, stores rows, fences and writes the status line with its token. -/
  | gatherServe (unit : Nat) (walk : Walk) (ue : Option Nat) (far : Option (Nat × Nat))
  /-- PAGE_WALK_COMPLETE (R242): A TLB-miss walk completes and the waiting accesses to the page proceed. -/
  | pageWalkComplete (unit seq page : Nat) (walk : Walk)
  /-- PAGE_ZERO_FILL_DONE (R245): Zero-filling of a freed or added page completes and a waiting allocation may take it. -/
  | pageZeroFillDone (page : Nat)
  /-- ATTN (R263): ATTN gathers latent rows, computes attention with long accumulators and writes or merges the outputs. -/
  | attn (via : Via) (p : Packet) (ue : Option Nat)
  /-- ATTN_NORM (R269): ATTN_NORM normalises merged records into outputs and stats. -/
  | attnNorm (via : Via) (p : Packet) (ue : Option Nat)
  /-- ATTN_BWD (R271): ATTN_BWD recomputes attention and accumulates gradients by LACC-add at declared anchors. -/
  | attnBwd (via : Via) (p : Packet) (ue : Option Nat) (far : List Host.Cell)
  /-- ATTN_GATHER_TIMEOUT (R266): A gather status line not arrived within RSP_TIMEOUT_US causes STS_TIMEOUT with DETAIL 0x0003. -/
  | attnGatherTimeout (tile : Nat)
  /-- LOAD (R287): A LOAD request at its home returns the target bytes. -/
  | load (q : Req) (seen : Seen)
  /-- STORE (R289): A STORE request at its home writes its payload, applies its token and responds. -/
  | store (q : Req) (seen : Seen)
  /-- ADD32 (R278): An ADD32 request adds its operand to a 32-bit target modulo 2^32, returning the old value if RET. -/
  | add32 (q : Req) (seen : Seen)
  /-- ADD64 (R278): An ADD64 request adds its operand to a 64-bit target modulo 2^64. -/
  | add64 (q : Req) (seen : Seen)
  /-- FADD32 (R280): An FADD32 request adds an FP32 operand to the target with one RNE rounding. -/
  | fadd32 (q : Req) (seen : Seen)
  /-- MAXU32 (R278): A MAXU32 request keeps the unsigned maximum of a 32-bit target and operand. -/
  | maxu32 (q : Req) (seen : Seen)
  /-- MAXU64 (R278): A MAXU64 request keeps the unsigned maximum of a 64-bit target and operand. -/
  | maxu64 (q : Req) (seen : Seen)
  /-- MAXS32 (R278): A MAXS32 request keeps the signed maximum of a 32-bit target and operand. -/
  | maxs32 (q : Req) (seen : Seen)
  /-- MAXS64 (R278): A MAXS64 request keeps the signed maximum of a 64-bit target and operand. -/
  | maxs64 (q : Req) (seen : Seen)
  /-- CAS32 (R278): A CAS32 request writes the new value if the 32-bit target equals compare and returns the old value. -/
  | cas32 (q : Req) (seen : Seen)
  /-- CAS64 (R278): A CAS64 request writes the new value if the 64-bit target equals compare and returns the old value. -/
  | cas64 (q : Req) (seen : Seen)
  /-- LACC_ADD (R112): A LACC_ADD request merges a LACC192 source into the destination accumulator. -/
  | laccAdd (q : Req) (seen : Seen)
  /-- UNDEFINED_OP_REQUEST (R278): A request with an undefined operation code at a home has no effect and receives STS_BAD_PARAM. -/
  | undefinedOpRequest (q : Req) (seen : Seen)
  /-- ATY_INWIN_SET (R307): ATY_INWIN_SET writes one inbound window. -/
  | atyInwinSet (via : Via) (p : Packet)
  /-- ATY_INWIN_QUERY (R307): ATY_INWIN_QUERY returns an inbound window and optionally writes it to DEST. -/
  | atyInwinQuery (via : Via) (p : Packet)
  /-- FLIT_RECEIVE (R320): A flit arrives on a link and is accepted or discarded with a NAK, delivering messages and credits. -/
  | flitReceive (link : Nat) (decodes : Bool) (corrected : Nat) (flit : List Byte) (seen : Seen)
  /-- REPLAY_TIMEOUT (R320): ACKSEQ has not advanced for t_REPLAY_TO and the sender resends from the oldest held flit. -/
  | replayTimeout (link : Nat)
  /-- IDENT (R324): A received IDENT is recorded and checked, moving the port to UP, MISWIRED or ISOLATED. -/
  | ident (link : Nat) (m : List Byte)
  /-- CLAIM (R338): A received master CLAIM is compared by key and forwarded or yielded to. -/
  | claim (link : Nat) (m : List Byte)
  /-- PRESENCE (R337): A received PRESENCE is flooded if newer and checked by the master for duplicate MOD_NUMs. -/
  | presence (link : Nat) (m : List Byte)
  /-- DUPLICATE (R337): A received DUPLICATE naming this module isolates every link and sets ISOLATED. -/
  | duplicate (link : Nat) (m : List Byte)
  /-- BERT_REQ (R336): A received BERT_REQ enters or ends the BERT state on the link. -/
  | bertReq (link : Nat) (m : List Byte)
  /-- TRAINING_COMPLETE (R323): Link training succeeds, the port enters IDENT and sends IDENT. -/
  | trainingComplete (port : Nat)
  /-- TRAIN_TIMEOUT (R323): Training does not reach IDENT within t_TRAIN and the port returns to DOWN. -/
  | trainTimeout (port : Nat)
  /-- TRAIN_RETRY (R323): t_TRAIN_RETRY after a failed training the port tries again. -/
  | trainRetry (port : Nat)
  /-- ERROR_WINDOW_END (R326): A 1 ms error-counting window ends and the threshold counts restart. -/
  | errorWindowEnd (port : Nat)
  /-- RETRAIN_COMPLETE (R326): A retrain reaches UP and held messages and the replay buffer are sent. -/
  | retrainComplete (port : Nat)
  /-- RETRAIN_TIMEOUT (R328): A retrain does not reach UP within t_RETRAIN, counts as a failure and full training starts. -/
  | retrainTimeout (port : Nat)
  /-- LOOPBACK_DONE (R328): The near-end loopback test ends and the port is retired or enters FAILED. -/
  | loopbackDone (port : Nat) (pass : Bool)
  /-- ELECT_QUIET_EXPIRY (R339): A claimant has held the best claim for t_ELECT_QUIET and becomes master. -/
  | electQuietExpiry
  /-- BEACON_PERIOD (R339): Every t_BEACON the master floods its incumbent claim with FLOOR. -/
  | beaconPeriod
  /-- MASTER_LOSS (R340): No beacon for t_MASTER_LOSS and the module drops its master and eligible modules claim anew. -/
  | masterLoss
  /-- PRESENCE_PERIOD (R337): Every t_PRESENCE a module with MOD_NUM set floods PRESENCE. -/
  | presencePeriod
  /-- TIME_SYNC_SEND (R344): Every 1 µs the module sends a VC3 time message on each downstream link. -/
  | timeSyncSend
  /-- DELAY_MEASURE_PERIOD (R344): Every 10 ms the module measures each link's delay by a DELAY_REQ exchange. -/
  | delayMeasurePeriod
  /-- ATY_FABRIC_CFG (R337): ATY_FABRIC_CFG sets MOD_NUM, priority, upstream and downstream links and JOIN once after reset. -/
  | atyFabricCfg (via : Via) (p : Packet)
  /-- ATY_ROUTE_SET (R334): ATY_ROUTE_SET writes routing table entries, or builds them for a profile topology. -/
  | atyRouteSet (via : Via) (p : Packet)
  /-- ATY_PORT_CTL (R348): ATY_PORT_CTL retrains, disables, enables or retires a link's port and optionally writes ATY_EXPECT. -/
  | atyPortCtl (via : Via) (p : Packet)
  /-- PORT_QUEUES_DRAINED (R348): A disabled port's queues have emptied and DISABLE completes. -/
  | portQueuesDrained (link : Nat)
  /-- ATY_BERT (R336): ATY_BERT trains a link and runs a bit-error test with the far end. -/
  | atyBert (via : Via) (p : Packet)
  /-- BERT_DURATION_END (R336): DURATION_MS elapses, the BERT stops and the port returns to DOWN with counts reported. -/
  | bertDurationEnd (link bitsDone : Nat) (errs : List Nat)
  /-- ATY_JOB_BIND (R342): ATY_JOB_BIND checks every listed module is readable, ADMITTED and at the same numerics level. -/
  | atyJobBind (via : Via) (p : Packet) (idents : List (Nat × Nat))
  /-- ATY_ADMIT (R346): ATY_ADMIT starts polling the partner's SP_STEP to admit a JOINING module. -/
  | atyAdmit (via : Via) (p : Packet)
  /-- ADMIT_POLL (R346): A poll reads the partner's SP_STEP and admits the module when it equals STEP. -/
  | admitPoll (step : Option Nat)
  /-- ADMIT_TIMEOUT (R346): TIMEOUT_MS elapses and ATY_ADMIT returns STS_TIMEOUT. -/
  | admitTimeout
  /-- ATY_EXPECT_WRITE (R324): A write of ATY_EXPECT applies the wiring check at once to a link already UP. -/
  | atyExpectWrite (port value : Nat)
  /-- SRV_SUBMIT (R359): SRV_SUBMIT queues a native generation request after its checks. -/
  | srvSubmit (via : Via) (p : Packet)
  /-- SRV_CANCEL (R379): SRV_CANCEL ends a live request at the next step boundary with STS_SRV_CANCELLED. -/
  | srvCancel (via : Via) (p : Packet)
  /-- SRV_EXTEND (R380): SRV_EXTEND raises a request's MAX_NEW, reserving pages and time or not. -/
  | srvExtend (via : Via) (p : Packet)
  /-- SRV_QUERY (R386): SRV_QUERY writes a request's metrics record to DEST. -/
  | srvQuery (via : Via) (p : Packet)
  /-- SRV_SUBMIT_3320 (R388): SRV_SUBMIT_3320 queues a compatibility request with temperature and top-p. -/
  | srvSubmit3320 (via : Via) (p : Packet)
  /-- SRV_ENGINE_START (R351): SRV_ENGINE_START loads a serving plan and takes ownership of its tiles and sequences. -/
  | srvEngineStart (via : Via) (p : Packet) (far : List Host.Cell) (ue : Option Nat)
  /-- SRV_ENGINE_STOP (R384): SRV_ENGINE_STOP stops admission and ends requests by completion or abort, then releases owned resources. -/
  | srvEngineStop (via : Via) (p : Packet)
  /-- SRV_RING_CFG (R387): SRV_RING_CFG sets a serving ring's mode and its TTFT, TBT, headroom and queue timeout. -/
  | srvRingCfg (via : Via) (p : Packet)
  /-- SRV_ACCOUNT_SET (R369): SRV_ACCOUNT_SET sets an account's priority, weights, rate, burst and limits. -/
  | srvAccountSet (via : Via) (p : Packet)
  /-- SRV_SAMPLER_SET (R374): SRV_SAMPLER_SET writes a sampler profile 4-15. -/
  | srvSamplerSet (via : Via) (p : Packet)
  /-- SRV_FITCH_LOAD (R370): SRV_FITCH_LOAD copies and validates a fitch image under a handle. -/
  | srvFitchLoad (via : Via) (p : Packet) (far : List Host.Cell) (ue : Option Nat)
  /-- SRV_FITCH_FREE (R370): SRV_FITCH_FREE frees an unused fitch handle. -/
  | srvFitchFree (via : Via) (p : Packet)
  /-- SERVING_PACKET_FETCH (R360): The engine fetches a further packet from a serving ring when it has room for a queued request. -/
  | servingPacketFetch (ring : Nat) (seen : Seen)
  /-- STEP_BOUNDARY (R365): At a step boundary the engine applies cancels, writes finals, refills buckets, resumes, admits and plans the step. -/
  | stepBoundary (far : List Host.Cell) (ue : Option Nat)
  /-- STEP_RUN_COMPLETE (R365): The plan's run of a step ends; tokens are sampled, fitch states advance and TOKEN records are written. -/
  | stepRunComplete (logits : List (Nat × List (BitVec 32)))
  /-- QUEUE_TIMEOUT (R364): A queued request reaches its ring's QUEUE_TIMEOUT_MS and ends with STS_TIMEOUT. -/
  | queueTimeout (ring id : Nat)
  /-- METRICS_RECORD_EXPIRY (R386): 1,024 steps after a request's FINAL its metrics record is no longer held. -/
  | metricsRecordExpiry (ring id : Nat)
  /-- SRV_STEP_MAX_NS_READ (R394): A read of SRV_STEP_MAX_NS returns the longest step since the last read and clears it. -/
  | srvStepMaxNsRead
  /-- RIM_ENABLE (R395): RIM_ENABLE designates two East-die Rim tiles and fixes their clocks. -/
  | rimEnable (via : Via) (p : Packet)
  /-- RIM_DISABLE (R414): RIM_DISABLE clears descriptors and schedule and returns the lane to DISABLED. -/
  | rimDisable (via : Via) (p : Packet)
  /-- RIM_STREAM_SET (R399): RIM_STREAM_SET copies a stream descriptor, program and known-answer data into a slot. -/
  | rimStreamSet (via : Via) (p : Packet) (far : List Host.Cell) (ue : Option Nat)
  /-- RIM_STREAM_CLEAR (R399): RIM_STREAM_CLEAR empties an unreferenced stream slot. -/
  | rimStreamClear (via : Via) (p : Packet)
  /-- RIM_SCHED_COMMIT (R403): RIM_SCHED_COMMIT checks a schedule table and waits for its activation time. -/
  | rimSchedCommit (via : Via) (p : Packet) (far : List Host.Cell) (ue : Option Nat)
  /-- RIM_KAT (R412): RIM_KAT requests a known-answer test of a stream and replies with its verdict. -/
  | rimKat (via : Via) (p : Packet)
  /-- PLT_GATE_SET (R419): PLT_GATE_SET loads a gate control list on a plant port. -/
  | pltGateSet (via : Via) (p : Packet) (far : List Host.Cell) (ue : Option Nat)
  /-- PLT_FILTER_SET (R420): PLT_FILTER_SET programs a stream filter and its flow meter. -/
  | pltFilterSet (via : Via) (p : Packet)
  /-- PLT_MACSEC_KEY (R421): PLT_MACSEC_KEY unwraps and installs a MACsec SAK on a port. -/
  | pltMacsecKey (via : Via) (p : Packet) (far : List Host.Cell) (ue : Option Nat)
  /-- SCHEDULE_ACTIVATION (R405): TIME_NS reaches ACT and the new schedule takes over captures, with tests for new streams. -/
  | scheduleActivation
  /-- RIM_CAPTURE (R410): At t_c the newest accepted input is stored into the Rim tiles. -/
  | rimCapture
  /-- RIM_COMPUTE_START (R406): At its compute start, or when its tile frees, a stream's program starts. -/
  | rimComputeStart (tile : Nat)
  /-- RIM_PROGRAM_END (R406): A Rim program ends and its result is kept, or discarded if late. -/
  | rimProgramEnd (tile : Nat)
  /-- RIM_STAGE (R411): At t_r minus t_RIM_STAGE the output stage reads the result and builds the RESULT frame. -/
  | rimStage (ue : Bool)
  /-- RIM_RELEASE (R407): At t_r the output stage releases the result frame on its ports under the output-stage rule. -/
  | rimRelease (jit : Nat)
  /-- INPUT_FRAME (R409): A received plant frame is policed and accepted as Rim input or dropped. -/
  | inputFrame (port : Nat) (frame : List Byte)
  /-- PTP_FRAME (R422): A received 802.1AS message updates PLT_PTP_OFFSET and its rate. -/
  | ptpFrame (port kind : Nat) (offset rate : Int) (locked : Bool)
  /-- PDELAY_REQ (R417): The 802.1AS instance sends a peer-delay request on a plant port. -/
  | pdelayReq (port : Nat)
  /-- GATE_CYCLE_START (R419): A gate control list cycle starts on TIME_NS at its base time or whole cycles after. -/
  | gateCycleStart (port : Nat)
  /-- RIM_LANE_RESUME (R414): At the first frame boundary after a pausing condition ends, the lane returns to ACTIVE after tests. -/
  | rimLaneResume
  /-- PLT_LISTEN_ONLY_CHANGE (R416): The PLT_LISTEN_ONLY strap changes, powering or unpowering both transmitters. -/
  | pltListenOnlyChange (level : Bool)
  /-- PLT_LINK_CHANGE (R414): A plant port gains or loses link; frames for a port without link are counted as suppressed. -/
  | pltLinkChange (port : Nat) (up : Bool)
  /-- RIM_JIT_MAX_READ (R407): A read of RIM_STRs_JIT_MAX returns the largest lateness since the last read and clears it. -/
  | rimJitMaxRead (slot : Nat)
  /-- PAIR_LINK_UP (R432): The Pairing link synchronises and HELLO is sent. -/
  | pairLinkUp
  /-- HELLO (R433): A received HELLO records the partner and checks position and numerics level. -/
  | hello (m : List Byte)
  /-- HEALTH (R436): A received HEALTH confirms the Pairing link path. -/
  | health (m : List Byte)
  /-- DIGEST (R446): A received DIGEST is compared with the own digest of that index. -/
  | digest (m : List Byte)
  /-- PAIR_CLAIM (R443): A received Pairing CLAIM message updates PEER_CLAIM and may demote the output stage. -/
  | pairClaim (m : List Byte)
  /-- HANDOVER (R460): A received HANDOVER lets the new active release from EFFECTIVE in a swap. -/
  | handover (m : List Byte)
  /-- KAT_RESULT (R449): A received KAT_RESULT completes the verdict of a mismatch test. -/
  | katResult (m : List Byte)
  /-- FAIL (R454): A received FAIL for a service makes a STANDBY or RESYNC module take over. -/
  | fail (m : List Byte)
  /-- HELLO_PERIOD (R432): Every 1 ms the module sends HELLO on the Pairing link. -/
  | helloPeriod
  /-- HEALTH_PERIOD (R436): Every t_HEALTH the module increments HEARTBEAT and sends HEALTH. -/
  | healthPeriod
  /-- CLAIM_REPEAT (R432): Every 10 µs the module repeats its CLAIM message. -/
  | claimRepeat
  /-- PAIR_LINK_DOWN (R434): No valid message for t_PL_DOWN sets PAIR_LINK_DOWN. -/
  | pairLinkDown
  /-- FABRIC_POLL (R436): Every t_FAB_POLL the controller loads the partner's SP_PAIR_HEALTH on VC2. -/
  | fabricPoll
  /-- FABRIC_POLL_RESULT (R436): A poll load returns and confirms the fabric path or triggers takeover on a failed partner. -/
  | fabricPollResult (status off value : Nat)
  /-- SILENCE_EXPIRY (R456): Both paths silent for t_SILENT make a STANDBY or RESYNC module raise its claim. -/
  | silenceExpiry
  /-- CLAIM_BEACON_RELEASE (R440): At each beacon instant the module transmits a CLAIM_BEACON frame. -/
  | claimBeaconRelease
  /-- CLAIM_BEACON_RECEIVE (R439): A partner's beacon or ALARM received on the plant port updates PEER_CLAIM. -/
  | claimBeaconReceive (port : Nat) (frame : List Byte)
  /-- DIGEST_DEADLINE (R446): At t_r minus t_CMP_DL an index without both digests is released uncompared. -/
  | digestDeadline (svc index : Nat)
  /-- KAT_VERDICT_TIMEOUT (R449): The partner's test result is not known within 10 × CADENCE_NS and the state becomes UNVERIFIED. -/
  | katVerdictTimeout (svc : Nat)
  /-- PAIR_CONFIG (R427): PAIR_CONFIG sets pair ID, partner and beacon parameters. -/
  | pairConfig (via : Via) (p : Packet)
  /-- PAIR_SVC_SET (R428): PAIR_SVC_SET defines a paired service, which enters RESYNC. -/
  | pairSvcSet (via : Via) (p : Packet)
  /-- PAIR_SVC_CLEAR (R462): PAIR_SVC_CLEAR removes a service that is not ACTIVE. -/
  | pairSvcClear (via : Via) (p : Packet)
  /-- PAIR_SWAP (R460): PAIR_SWAP hands the ACTIVE role to the STANDBY partner at an EFFECTIVE index. -/
  | pairSwap (via : Via) (p : Packet)
  /-- PAIR_HOLD_RELEASE (R450): PAIR_HOLD_RELEASE ends HOLD by requesting a known-answer test. -/
  | pairHoldRelease (via : Via) (p : Packet)
  /-- STEP_DIGEST_WRITE (R445): A write of PAIR_SVCn_DIGEST supplies the digest of the next step of a STEP service. -/
  | stepDigestWrite (svc value : Nat)
  /-- VID_SESSION_OPEN (R468): VID_SESSION_OPEN opens a decode or encode session with its pool and load. -/
  | vidSessionOpen (via : Via) (p : Packet)
  /-- VID_SESSION_CLOSE (R489): VID_SESSION_CLOSE closes a session, releasing load and pool. -/
  | vidSessionClose (via : Via) (p : Packet)
  /-- VID_DECODE (R475): VID_DECODE submits one access unit for decoding into a tensor. -/
  | vidDecode (via : Via) (p : Packet)
  /-- VID_ENCODE (R484): VID_ENCODE submits one picture for encoding. -/
  | vidEncode (via : Via) (p : Packet)
  /-- VID_UNIT_DISPATCH (R472): A free video core takes the oldest ready LIVE unit, else the oldest BATCH unit. -/
  | vidUnitDispatch (core : Nat) (far : List Host.Cell) (ue : Option Nat)
  /-- VID_COMMAND_COMPLETE (R478): A video command completes and writes its status line and token after a fence. -/
  | vidCommandComplete (sess : Nat) (far : List Host.Cell)
  /-- VID_WATCHDOG (R482): A command reaches t_VID_WDOG and ends with STS_TIMEOUT, the session entering NEEDS_IRAP. -/
  | vidWatchdog (sess : Nat)
  /-- TENANT_OPEN (R507): TENANT_OPEN opens a tenant, derives keys and may enter confidential mode. -/
  | tenantOpen (via : Via) (p : Packet)
  /-- TENANT_CLOSE (R509): TENANT_CLOSE quiesces work, clears state, starts the scrub and zeroises keys. -/
  | tenantClose (via : Via) (p : Packet)
  /-- TENANT_SCRUB (R515): TENANT_SCRUB restarts the tenant scrub from the beginning. -/
  | tenantScrub (via : Via) (p : Packet)
  /-- TENANT_SCRUB_DONE (R510): Every stack is scrubbed and SCRUB_REQUIRED clears with a notice on vector 2. -/
  | tenantScrubDone
  /-- SEC_SPDM (R505): SEC_SPDM passes one SPDM request from the host to Brudo and returns the response. -/
  | secSpdm (via : Via) (p : Packet)
  /-- SEC_NONCE (R496): SEC_NONCE returns a fresh nonce for a token command. -/
  | secNonce (via : Via) (p : Packet)
  /-- SEC_DEBUG_UNLOCK (R495): SEC_DEBUG_UNLOCK opens the debug access port on a valid token. -/
  | secDebugUnlock (via : Via) (p : Packet)
  /-- SEC_LIFECYCLE (R523): SEC_LIFECYCLE burns a lifecycle transition effective at the next system reset. -/
  | secLifecycle (via : Via) (p : Packet)
  /-- SEC_OWNER_SET (R499): SEC_OWNER_SET writes the owner key hash once. -/
  | secOwnerSet (via : Via) (p : Packet)
  /-- GET_VERSION (R505): An SPDM GET_VERSION request is answered by Brudo. -/
  | getVersion (m : List Byte)
  /-- GET_CAPABILITIES (R505): An SPDM GET_CAPABILITIES request is answered by Brudo. -/
  | getCapabilities (m : List Byte)
  /-- NEGOTIATE_ALGORITHMS (R505): An SPDM NEGOTIATE_ALGORITHMS request is answered by Brudo. -/
  | negotiateAlgorithms (m : List Byte)
  /-- GET_DIGESTS (R505): An SPDM GET_DIGESTS request returns the slot 0 chain digest. -/
  | getDigests (m : List Byte)
  /-- GET_CERTIFICATE (R498): An SPDM GET_CERTIFICATE request returns the device certificate chain. -/
  | getCertificate (m : List Byte)
  /-- CHALLENGE (R506): An SPDM CHALLENGE is answered with a signed CHALLENGE_AUTH. -/
  | challenge (m : List Byte)
  /-- GET_MEASUREMENTS (R503): An SPDM GET_MEASUREMENTS returns measurement blocks with the status in OpaqueData. -/
  | getMeasurements (m : List Byte)
  /-- KEY_EXCHANGE (R505): An SPDM KEY_EXCHANGE starts a secure session within the per-transport limit. -/
  | keyExchange (m : List Byte)
  /-- FINISH (R505): An SPDM FINISH completes session establishment. -/
  | finish (m : List Byte)
  /-- HEARTBEAT (R505): An SPDM HEARTBEAT keeps a session alive. -/
  | heartbeat (m : List Byte)
  /-- KEY_UPDATE (R505): An SPDM KEY_UPDATE updates session keys. -/
  | keyUpdate (m : List Byte)
  /-- END_SESSION (R505): An SPDM END_SESSION ends a session. -/
  | endSession (m : List Byte)
  /-- RESPOND_IF_READY (R502): An SPDM RESPOND_IF_READY retrieves a deferred response. -/
  | respondIfReady (m : List Byte)
  /-- TRNG_HEALTH_FAIL (R520): A TRNG health test fails; the DRBG refuses output, FAIL_RUN increments and start-up tests restart. -/
  | trngHealthFail
  /-- TRNG_STARTUP_PASS (R520): TRNG start-up tests pass, the DRBG reseeds and waiting requests are served. -/
  | trngStartupPass
  /-- ENTROPY_WAIT_TIMEOUT (R520): A request waiting on the DRBG for t_ENT_WAIT ends with STS_ENTROPY_FAULT. -/
  | entropyWaitTimeout
  /-- ENTROPY_STABLE_EXPIRY (R521): t_ENT_STABLE of passing health tests returns FAIL_RUN to 0. -/
  | entropyStableExpiry
  /-- DRBG_RESEED_PERIOD (R519): Every 1 s the DRBG reseeds from conditioned TRNG bits. -/
  | drbgReseedPeriod
  /-- CLK_MONITOR_WINDOW (R528): A 10 µs monitor window ends and each source's count is checked against the calibrated ratio. -/
  | clkMonitorWindow (tcxo link osc : Nat) (cal : Int) (locked : Bool)
  /-- MISSING_EDGE (R528): A source shows no edge for 50 ns and fails. -/
  | missingEdge (src : Nat)
  /-- OSC200_READY (R526): t_OSC_START after supply OSC200 becomes READY. -/
  | osc200Ready
  /-- LINK_QUAL_EXPIRY (R530): LINK has been READY for t_LINK_QUAL and AUTO switches to it. -/
  | linkQualExpiry
  /-- CLK_SWITCH_COMPLETE (R532): A switch between READY sources completes within t_CLK_SWITCH. -/
  | clkSwitchComplete
  /-- SYNC (R543): A received SYNC steers TIME_NS toward T_TX plus delay and is forwarded downstream. -/
  | sync (link : Nat) (m : List Byte)
  /-- DELAY_REQ (R542): A received DELAY_REQ is answered with DELAY_RSP carrying its arrival time. -/
  | delayReq (link : Nat) (m : List Byte)
  /-- DELAY_RSP (R542): A received DELAY_RSP gives the measured upstream delay. -/
  | delayRsp (link : Nat) (m : List Byte)
  /-- SYNC_LOSS (R546): SYNC stops arriving and the module enters HOLDOVER at the last measured rate. -/
  | syncLoss
  /-- CLK_SRC_SET (R531): CLK_SRC_SET selects AUTO or a READY source in MANUAL. -/
  | clkSrcSet (via : Via) (p : Packet)
  /-- CLK_SSC_SET (R535): CLK_SSC_SET sets a die's spread-spectrum depth and rate. -/
  | clkSscSet (via : Via) (p : Packet)
  /-- CLK_GATE_SET (R538): CLK_GATE_SET gates or ungates a gateable island. -/
  | clkGateSet (via : Via) (p : Packet)
  /-- GATE_CROSSING_EMPTY (R539): A crossing of a gated island empties and the gate takes effect there. -/
  | gateCrossingEmpty (island : Nat)
  /-- SUPPLY_APPLY (R550): Input appears at P1 and the hot-swap stage ramps under the inrush limit. -/
  | supplyApply (lost : Bool)
  /-- POWER_FAIL_WARNING (R564): Input below 38.0 V for 2 µs forces the floor state, drains store buffers and copies the log tail. -/
  | powerFailWarning
  /-- PFW_RELEASE (R565): Input above 40.0 V for 1 ms ends the warning and islands leave the floor through wake admission. -/
  | pfwRelease
  /-- SUPPLY_RESET (R565): Input below 33.0 V causes a system reset without hold. -/
  | supplyReset
  /-- LOG_TAIL_COPY_DONE (R632): The newest 512 trouble-log records are in retained SRAM and LOG_TAIL_VALID is set. -/
  | logTailCopyDone
  /-- PHASE_FAULT (R552): A regulator phase reports a fault and a spare phase is swapped in, or the cap range lowered. -/
  | phaseFault (phase : Nat)
  /-- REGULATOR_TELEMETRY (R553): Every 10 µs regulators report voltage, current and power. -/
  | regulatorTelemetry (v i bank avg100us avg10ms : Nat)
  /-- POWER_CAP_LOOP (R558): Every t_CAP_LOOP the cap loop lowers or raises one non-FIXED island. -/
  | powerCapLoop
  /-- REG_ALERT (R559): The regulator alert wire asserts and every core-PLL island enters the floor state. -/
  | regAlert
  /-- REG_ALERT_CLEAR (R559): The alert wire has been clear for 1 ms and islands return through wake admission. -/
  | regAlertClear
  /-- DROOP_DETECT (R560): An island's supply falls below threshold and its cycles are stretched. -/
  | droopDetect (island : Nat)
  /-- DROOP_RECOVER (R560): Stretching ends 4 cycles after the supply recovers. -/
  | droopRecover (island : Nat)
  /-- STRETCH_LIMIT (R562): An island reaches 240 stretched cycles in a 1 µs window and the controller lowers states. -/
  | stretchLimit (island cycles : Nat)
  /-- WAKE_ADMIT (R563): The power controller starts the next waiting wake within the pacing limits. -/
  | wakeAdmit
  /-- PSTATE_STEP (R555): A voltage or frequency step of a performance-state change completes. -/
  | pstateStep (island : Nat)
  /-- ISLAND_TEMP_REPORT (R566): Every 10 µs each island reports its junction temperature and thermal limits are applied. -/
  | islandTempReport (temps : List Nat)
  /-- THERMAL_TRIP (R567): The trip comparator fires, latches THERM_TRIP and removes the core and HBM rails. -/
  | thermalTrip
  /-- TRIP_COOLED (R567): Every sensor reads 85 °C or less and a system reset follows. -/
  | tripCooled
  /-- ENERGY_ACCOUNTING (R568): Every 10 µs measured energy is divided among partitions, rings and accounts. -/
  | energyAccounting (uj : Nat) (parts : List Nat) (rings : List (Nat × Nat)) (served : Nat)
  /-- PWR_PSTATE_SET (R557): PWR_PSTATE_SET sets the state ceiling of non-FIXED tile islands. -/
  | pwrPstateSet (via : Via) (p : Packet)
  /-- PWR_FIXED_SET (R556): PWR_FIXED_SET sets or clears FIXED on tile islands and the Splint engine. -/
  | pwrFixedSet (via : Via) (p : Packet)
  /-- PWR_CAP_SET (R558): PWR_CAP_SET sets the power cap CAP_W. -/
  | pwrCapSet (via : Via) (p : Packet)
  /-- PERST_FALL (R573): PERST_N falls; a low of t_PERST_QUAL or longer begins a system reset. -/
  | perstFall (qualifies : Bool)
  /-- PERST_RISE (R573): PERST_N rises and releases the system reset. -/
  | perstRise
  /-- RST_REQ (R590): RST_REQ requests a block, core or system reset after replying. -/
  | rstReq (via : Via) (p : Packet)
  /-- BRUDO_WATCHDOG (R572): The Brudo watchdog expires and causes a system reset. -/
  | brudoWatchdog
  /-- MGMT_WATCHDOG (R572): The management watchdog expires and causes a core reset. -/
  | mgmtWatchdog (core : Nat)
  /-- FUNCTION_LEVEL_RESET (R572): A PCIe Function Level Reset causes a core reset. -/
  | functionLevelReset
  /-- HOT_RESET (R572): A PCIe hot reset causes a core reset. -/
  | hotReset
  /-- DEBUG_RESET_REQUEST (R572): The open debug access port requests a core or system reset. -/
  | debugResetRequest (system : Bool)
  /-- CORE_RESET (R580): A core reset is entered: releases stop, FAIL sent, buffers stop, HBM self-refresh, islands reset. -/
  | coreReset
  /-- SYSTEM_RESET (R580): A system reset is entered after any hold and islands enter reset. -/
  | systemReset
  /-- FLASH_PULSE_END (R579): A flash program or erase pulse ends and a held reset begins. -/
  | flashPulseEnd (good : Bool)
  /-- RESET_RELEASE (R582): A core or system reset is released through the ordered steps to CAP_VALID. -/
  | resetRelease (fails : List (Nat × Nat)) (retOk copiesOk : Bool)
  /-- BLOCK_RESET (R577): A block reset raises a unit's idle request and resets it at idle. -/
  | blockReset (island : Nat)
  /-- BLOCK_IDLE_TIMEOUT (R577): t_IDLE_TO passes and the block reset is applied, discarding remaining store-buffer entries. -/
  | blockIdleTimeout (tile : Nat)
  /-- UPD_STAGE (R601): UPD_STAGE writes, verifies and records one image piece in the staging region. -/
  | updStage (via : Via) (p : Packet) (far : List Host.Cell) (ue : Option Nat)
  /-- UPD_COMMIT (R605): UPD_COMMIT checks gates and starts the journalled copy of the staged image. -/
  | updCommit (via : Via) (p : Packet)
  /-- UPD_ABANDON (R603): UPD_ABANDON erases the staging record area. -/
  | updAbandon (via : Via) (p : Packet)
  /-- UPD_QUERY (R614): UPD_QUERY returns update status and the staged-piece bitmap. -/
  | updQuery (via : Via) (p : Packet)
  /-- UPD_CFG_SET (R611): UPD_CFG_SET replaces the configuration store list in the other slot. -/
  | updCfgSet (via : Via) (p : Packet) (far : List Host.Cell) (ue : Option Nat)
  /-- RAS_RETIRE (R621): RAS_RETIRE retires a tile site, port, management core or video core. -/
  | rasRetire (via : Via) (p : Packet)
  /-- RAS_SELFTEST (R627): RAS_SELFTEST tests one spare or idle unit and retires it on failure. -/
  | rasSelftest (via : Via) (p : Packet) (fails : List (Nat × Nat × Nat))
  /-- RAS_LOG_FETCH (R631): RAS_LOG_FETCH copies trouble-log records from the spill ring to DEST. -/
  | rasLogFetch (via : Via) (p : Packet)
  /-- MAINT_TOKEN_RELEASE (R618): An activity releases the maintenance token and queued activities start in order. -/
  | maintTokenRelease
  /-- TILE_QUIESCED (R623): A site marked for retirement reaches quiescence and its move to a spare proceeds. -/
  | tileQuiesced (tile : Nat)
  /-- QUIESCE_TIMEOUT (R623): t_QUIESCE passes; the command in progress ends with STS_ABORTED and the ring halts. -/
  | quiesceTimeout (tile : Nat)
  /-- TILE_MOVE_COPY_DONE (R623): The tile-store copy completes, RAS_TILE_MAP is written and the old site gated. -/
  | tileMoveCopyDone (tile : Nat)
  /-- MGMT_CORE_TRAP (R625): A management core traps on an uncorrectable fetch and halts for restart or retirement. -/
  | mgmtCoreTrap (core off : Nat) (poison mcc : Bool)
  /-- MGMT_CORE_RESTART (R625): The reloaded and tested core restarts, or the spare core takes its role. -/
  | mgmtCoreRestart (core : Nat) (testOk : Bool)
  /-- SPARE_TEST_PERIOD (R627): Every 24 h the module tests each dark spare site, spare port and spare core. -/
  | spareTestPeriod (fails : List (Nat × Nat))
  /-- RAS_PERSIST (R628): Firmware appends a retirement, remap or loss record to the RAS store. -/
  | rasPersist
  /-- PLATFORM_EVENT_MESSAGE (R636): A state sensor change is sent to the tray controller as PlatformEventMessage. -/
  | platformEventMessage
  /-- PLDM_REQUEST (R636): A PLDM request over MCTP from the tray controller is answered. -/
  | pldmRequest (m : List Byte)
  /-- PMU_COUNTER_WRAP (R645): A counter wraps, sets its OVF bit and with IRQ writes a sampling record. -/
  | pmuCounterWrap (tile : Bool) (g c : Nat)
  /-- PMU_PROGRAM (R648): PMU_PROGRAM writes all eight counters of a group at once. -/
  | pmuProgram (via : Via) (p : Packet) (far : List Host.Cell) (ue : Option Nat)
  /-- PMU_READ (R646): PMU_READ copies a bracketed counter snapshot of a group to DEST. -/
  | pmuRead (via : Via) (p : Packet)
  /-- DBG_SEM_RELEASE (R657): DBG_SEM_RELEASE forces a semaphore free as SEM_FORCE does. -/
  | dbgSemRelease (via : Via) (p : Packet)
  /-- SEM_TIMEOUT (R655): A semaphore wait reaches TIMEOUT_US and the requester gets STS_SEM_HALTED or STS_TIMEOUT. -/
  | semTimeout (sem : Nat)
  /-- IDCODE (R649): The JTAG IDCODE instruction selects the identity register. -/
  | idcode
  /-- BYPASS (R649): The JTAG BYPASS instruction selects the 1-bit register. -/
  | bypass
  /-- SAMPLE_PRELOAD (R649): SAMPLE/PRELOAD captures or preloads the sideband boundary cells. -/
  | samplePreload (cells : Nat)
  /-- EXTEST (R649): EXTEST drives the sideband pins while PERST_N is low. -/
  | extest (cells : Nat)
  /-- READ32 (R651): A DAP READ32 reads 32 bits at the current target and advances it. -/
  | read32 (far : List Host.Cell) (ue : Option Nat)
  /-- WRITE32 (R651): A DAP WRITE32 writes 32 bits at the current target and advances it. -/
  | write32 (data : Nat)
  /-- READ64 (R651): A DAP READ64 reads 64 bits at the current target and advances it. -/
  | read64 (far : List Host.Cell) (ue : Option Nat)
  /-- WRITE64 (R651): A DAP WRITE64 writes 64 bits at the current target and advances it. -/
  | write64 (data : Nat)
  /-- SET_ADDR (R650): A DAP SET_ADDR sets a global address as target. -/
  | setAddr (addr : Nat)
  /-- SET_REG (R650): A DAP SET_REG sets a BAR0 offset as target. -/
  | setReg (off : Nat)
  /-- HALT (R654): A DAP HALT stops a management core or tile sequencer. -/
  | halt (unit : Nat)
  /-- RESUME (R654): A DAP RESUME continues a halted unit. -/
  | resume (unit : Nat)
  /-- SEM_FORCE (R656): A DAP SEM_FORCE releases a held semaphore and sets FORCED. -/
  | semForce (sem : Nat)
  /-- STATUS (R650): A DAP STATUS returns the last status and the gated-access count. -/
  | status
  /-- MAINT_INHIBIT_CHANGE (R663): MAINT_INHIBIT changes level after debounce and a record is written. -/
  | maintInhibitChange (level : Bool)
  /-- SLOT_ID_CHANGE (R666): Live SLOT_ID levels change, setting SLOT_CHANGED and writing a record. -/
  | slotIdChange (live : Nat)
  /-- HOLDUP_FULL (R551): The hold-up bank charges to 56 V or more and PWR_STATUS.HOLDUP_FULL becomes 1, permitting UPD_COMMIT. -/
  | holdupFull
  /-- SB_PFW_EXPIRY (R139): t_SB_PFW after a power-fail warning, store-buffer entries still unacknowledged are discarded, counted and logged. -/
  | sbPfwExpiry
  /-- INVALID_PAIRING_MESSAGE (R432): A Pairing link message with a wrong CRC or an undefined TYPE is discarded and counted in PAIR_MSG_ERR_CNT. -/
  | invalidPairingMessage (m : List Byte)
  /-- PAIRING_LINK_SYNC_LOST (R463): The Pairing link loses 64B/66B synchronisation, for example when a lane fails, and PAIR_STATUS.LINK_UP clears. -/
  | pairingLinkSyncLost
  /-- FABRIC_PATH_SILENT (R436): No confirming partner-health load within t_SILENT makes the fabric path silent and clears PAIR_STATUS.FABRIC_OK. -/
  | fabricPathSilent
  deriving DecidableEq, Repr

end Sys2Proof
end

