-- ==== Sys2Proof/Decode.lean ====
section
/-! DEFINITION. Commands as the table's words spell them. Every row of spec/opcode_table.json has an empty list of fields, so no
word spells a command: commands come as the boundary brings them (packets, doorbells, flits, frames, pins). -/

namespace Sys2Proof

/-- The command that a word of `nbits` bits spells by the table: none, since no row gives bits. -/
def decodeTableWord (_nbits _w : Nat) : Option Instr := none

end Sys2Proof
end

