-- ==== Sys2Proof/Config.lean ====
section
/-! DEFINITION. What an implementation fixes and what the spec leaves open: constants with no body, so that no proof
can see their values. Each names the rule that leaves it open; the assumption log has a row for each group. -/

namespace Sys2Proof.Config

/-- A free value of `w` bits: the `n`-th value the spec leaves open in a run (assumption 2). -/
opaque freeBits (w n : Nat) : BitVec w

/-- The element bits of an MX block that is written with scale 0xFF (03 R95, R96 give the scale only): by element
format and position (assumption 21). -/
opaque mxNanElem (fmt i : Nat) : Nat

/-- AES-256-GCM sealing of a bounce record (02 R86): the key of the session, salt, window and direction, the IV, the
associated data and the plaintext give the ciphertext and the tag. The keys are secrets of Brudo (assumption 5). -/
opaque gcmSeal (session salt window dir iv aad : Nat) (plain : List Byte) : List Byte × List Byte

/-- AES-256-GCM opening of a bounce record (02 R86): none when the tag fails (assumption 5). -/
opaque gcmOpen (session salt window dir iv aad : Nat) (cipher tag : List Byte) : Option (List Byte)

/-- What a normal read reports of a protected unit with given data and check bits (06 R209, R217: the codes' matrices
are not given): 0 clean, 1 corrected, 3 poison, anything else uncorrectable (assumption 6). -/
opaque eccOutcome (hbm : Bool) (data check : Nat) : Nat

/-- The data that a corrected read of such a unit delivers (assumption 6). -/
opaque eccFixed (hbm : Bool) (data check : Nat) : Nat

/-- The check bits the encoder stores with data (assumption 6). -/
opaque eccCheck (hbm : Bool) (data : Nat) : Nat


/-- IEEE 802.1AE protection of a frame (11 R421): key, SCI, suite, AN, SSCI, packet number and the plain frame give the frame
on the wire (assumption 5). -/
opaque macsecSeal (key sci suite an ssci pn : Nat) (frame : List Byte) : List Byte

/-- IEEE 802.1AE validation of a frame: its packet number and the plain frame, or none (assumption 5). -/
opaque macsecOpen (key sci suite an ssci : Nat) (frame : List Byte) : Option (Nat × List Byte)

/-- Whether the signature of a 120-byte security token verifies (14 Table 14-2): SIGNER, the revoked Synostra keys, the owner's
key hash and the token (assumption 5). -/
opaque sigOk (signer revoke owner : Nat) (token : List Byte) : Bool

/-- The SHA-384 digest of the Slath ROM (block 1 of 14 Table 14-4), of what a measured block covers while no image runs, and of
the certificate chain of slot 0 (0) (assumption 5). -/
opaque measure (block : Nat) : Nat

/-- The bytes of an SPDM response in the DMTF layout (assumption 62): its code, its values, and the secret of the session that
carries it, or 0. -/
opaque spdmBytes (code : Nat) (values : List Nat) (secret : Nat) : List Byte

/-- A secured SPDM message opened with the secret of its session, or none (assumption 62). -/
opaque spdmOpen (secret : Nat) (bytes : List Byte) : Option (List Byte)

/-- Whether the verify data of a FINISH is right for a key exchange (assumption 62). -/
opaque spdmFinish (secret : Nat) (bytes : List Byte) : Bool

/-- The SAK unwrapped from its 40-byte block under the key of an SPDM session (14 R518), or none (assumption 5). -/
opaque sakUnwrap (secret : Nat) (block : List Byte) : Option Nat

/-- A byte of the flash as manufactured: sector and offset. The spec does not give its contents (assumption 70). -/
opaque flashByte (sector offset : Nat) : Byte

/-- SYN_KEY_HASH, the digests of the Synostra update keys in OTP (18 Table 18-3; assumption 5). -/
opaque synKeyHash (index : Nat) : Nat

/-- Configuration records converted from one store version to another (18 R612; assumption 71). -/
opaque cfgConvert (from_ to_ : Nat) (records : List Byte) : List Byte

/-- Whether a handshake crossing joins two islands directly (01 R32; assumption 72). -/
opaque neighbour (i j : Nat) : Bool

/-- The bytes of a PLDM message in the DMTF layout (19 R636; assumption 73): its type and command, and its values. -/
opaque pldmBytes (kind : Nat) (values : List Nat) : List Byte

/-- The firmware version that MGMT_NOP reports (02 Table 2-9; no rule gives its form): by RST_STATUS.STAGE and the version of
the running image (assumption 81). -/
opaque firmwareVersion (stage version : Nat) : Nat

/-- The manufacturer code of the JTAG identity (20 R649), fused at manufacture (assumption 1). -/
opaque jtagMaker : BitVec 11

/-- The scale byte of MX bias values, which 05 Table 5-3 gives no array for (assumption 33). -/
opaque mxBiasScale : Nat

/-- One unit given to a codec: the bytes of an access unit, or of a picture in its input layout; FLUSH, or whether the picture
is a key picture; whether the session needed an IRAP picture; and for an encoder QP, and the layout, size, pitch and ROT of
the input. -/
structure VidUnit where
  bytes : List Byte
  mark : Bool
  lost : Bool
  q : Nat
  geo : List Nat
  deriving DecidableEq, Repr

/-- A decoded 4:2:0 picture: its size, its samples row by row, whether they have full range, and the matrix of the stream (1
BT.601, 2 BT.709, 3 BT.2020). Without chroma samples it is monochrome. -/
structure VidPic where
  width : Nat
  height : Nat
  luma : List Nat
  cb : List Nat
  cr : List Nat
  full : Bool
  matrix : Nat
  deriving DecidableEq, Repr

/-- What decoding a unit gives (13 R475, R481, R482): 0 decoded, 1 the stream is invalid, 2 it is outside 13 R466; whether the
unit is an IRAP or key picture; ignored film grain; blocks concealed; the parts that can be processed in parallel (R474); and
the picture that leaves. -/
structure VidDec where
  outcome : Nat
  key : Bool
  grain : Bool
  concealed : Nat
  parts : Nat
  pic : Option VidPic
  deriving DecidableEq, Repr, Inhabited

/-- The decoders of 13 Table 13-1, which the coding standards define (assumption 60): codec, bit depth, largest width and
height, and the units of the session so far, newest last. -/
opaque vidDecode (codec depth maxW maxH : Nat) (units : List VidUnit) : VidDec

/-- The encoders (13 R484 to R486; assumption 60): codec, bit depth, largest width and height, GIR_PERIOD, and the pictures of
the session so far, newest last, give the coded bytes of the last one. -/
opaque vidEncode (codec depth maxW maxH gir : Nat) (units : List VidUnit) : List Byte

end Sys2Proof.Config
end

