-- ==== Sys2Proof/Machine/Cells.lean ====
section
/-! DEFINITION. Sparse stores: a list of (key, value) pairs with keys strictly rising and no entry equal to the
value an unlisted key reads as. Registers, memory and the unit tables are held in this form, so that equal stores are
equal lists. -/

namespace Sys2Proof.Machine.Cells

variable {α : Type}

/-- The value at a key; an unlisted key reads as `d`. -/
def get (d : α) (k : Nat) : List (Nat × α) → α
  | [] => d
  | (k', v) :: l => if k' = k then v else get d k l

/-- The value at a key, if the key is listed. -/
def find (k : Nat) : List (Nat × α) → Option α
  | [] => none
  | (k', v) :: l => if k' = k then some v else find k l

/-- The store without a key. -/
def erase (k : Nat) (l : List (Nat × α)) : List (Nat × α) := l.filter (fun e => e.1 != k)

/-- The store with an entry put in its place before the first larger key. -/
def insert (k : Nat) (v : α) : List (Nat × α) → List (Nat × α)
  | [] => [(k, v)]
  | (k', v') :: l => if k < k' then (k, v) :: (k', v') :: l else (k', v') :: insert k v l

/-- The store with key `k` reading as `v`: listed only when `v` differs from the default. -/
def set [DecidableEq α] (d : α) (k : Nat) (v : α) (l : List (Nat × α)) : List (Nat × α) :=
  if v = d then erase k l else insert k v (erase k l)

/-- The store with every key of a range back at the default. -/
def clearRange (lo n : Nat) (l : List (Nat × α)) : List (Nat × α) :=
  l.filter (fun e => !(decide (lo ≤ e.1) && decide (e.1 < lo + n)))

/-- Keys strictly rising from above `k`. -/
def risesFrom (k : Nat) : List (Nat × α) → Bool
  | [] => true
  | (k', _) :: l => decide (k < k') && risesFrom k' l

/-- Keys strictly rising. -/
def rises : List (Nat × α) → Bool
  | [] => true
  | (k, _) :: l => risesFrom k l

/-- The canonical form: keys strictly rising, and no entry equal to the default. -/
def wf [DecidableEq α] (d : α) (l : List (Nat × α)) : Bool :=
  rises l && l.all (fun e => !decide (e.2 = d))

end Sys2Proof.Machine.Cells
end

