-- ==== Sys2Proof/Machine/Bits.lean ====
section
/-! DEFINITION. Bit fields, byte order and signed readings of numbers (00 R12: bit 0 is the least significant bit and
multi-byte fields are little-endian), and the saturating arithmetic the counters use. -/

namespace Sys2Proof.Machine

/-- Bits `lo + w - 1` down to `lo` of a number. -/
def bits (x lo w : Nat) : Nat := x / 2 ^ lo % 2 ^ w

/-- Bit `i` of a number. -/
def bit (x i : Nat) : Bool := x / 2 ^ i % 2 == 1

/-- A number with bits `lo + w - 1` down to `lo` replaced by the low `w` bits of `v`. -/
def setBits (x lo w v : Nat) : Nat :=
  x / 2 ^ (lo + w) * 2 ^ (lo + w) + (v % 2 ^ w) * 2 ^ lo + x % 2 ^ lo

/-- A truth value as a bit. -/
def b2n (b : Bool) : Nat := if b then 1 else 0

/-- The bytes of a number, least significant first (00 R12). -/
def leBytes : Nat → Nat → List Byte
  | 0, _ => []
  | n + 1, v => BitVec.ofNat 8 v :: leBytes n (v / 256)

/-- The number that bytes spell, least significant first (00 R12). -/
def ofLE : List Byte → Nat
  | [] => 0
  | b :: bs => b.toNat + 256 * ofLE bs

/-- The number that bytes spell, most significant first. -/
def ofBE (bs : List Byte) : Nat := ofLE bs.reverse

/-- The two's complement reading of the low `w` bits of a number. -/
def sext (w x : Nat) : Int :=
  let v := x % 2 ^ w
  if v < 2 ^ (w - 1) then (v : Int) else (v : Int) - (2 ^ w : Nat)

/-- The low `w` bits of an integer in two's complement. -/
def ofInt (w : Nat) (i : Int) : Nat := (i % ((2 ^ w : Nat) : Int)).toNat

/-- An addition that stays at `max` (saturating counters). -/
def satAdd (max x y : Nat) : Nat := if x + y ≤ max then x + y else max

/-- The largest 32-bit value. -/
def max32 : Nat := 2 ^ 32 - 1

/-- A value brought into `lo`..`hi`. -/
def clamp (lo hi x : Nat) : Nat := if x < lo then lo else if hi < x then hi else x

/-- The distance from `b` up to `a`, counting modulo 2^32 (02 R75, R77). -/
def sub32 (a b : Nat) : Nat := (a + 2 ^ 32 - b % 2 ^ 32) % 2 ^ 32

/-- The quotient rounded up. -/
def ceilDiv (a b : Nat) : Nat := (a + b - 1) / b

/-- The numbers `lo`, `lo + 1`, … of a range of `n`. -/
def rangeFrom (lo n : Nat) : List Nat := (List.range n).map (lo + ·)

/-- The bit positions below `n` that are set in a mask, lowest first. -/
def bitsOf (mask n : Nat) : List Nat := (List.range n).filter (bit mask)

/-- A mask with bit `i` set. -/
def setBit (x i : Nat) : Nat := setBits x i 1 1

/-- A mask with bit `i` cleared. -/
def clrBit (x i : Nat) : Nat := setBits x i 1 0

/-- The bits of `x` that are not set in `m`. -/
def andNot (x m : Nat) : Nat := x ^^^ (x &&& m)

end Sys2Proof.Machine
end

