-- ==== Sys2Proof/Machine/Operands.lean ====
section
/-! DEFINITION. The operand forms: fields of command packets (02 Table 2-5), of remote-operation requests and responses
(08 Tables 8-3 and 8-5), and their building. -/

namespace Sys2Proof

/-- `n` bytes of a packet from byte `off` of the packet (16 to 63), as a number (00 R12). -/
def Packet.fld (p : Packet) (off n : Nat) : Nat := p.param.toNat / 2 ^ (8 * (off - 16)) % 2 ^ (8 * n)

/-- One byte of a packet. -/
def Packet.u8 (p : Packet) (off : Nat) : Nat := p.fld off 1

/-- Two bytes of a packet. -/
def Packet.u16 (p : Packet) (off : Nat) : Nat := p.fld off 2

/-- Four bytes of a packet. -/
def Packet.u32 (p : Packet) (off : Nat) : Nat := p.fld off 4

/-- Eight bytes of a packet. -/
def Packet.u64 (p : Packet) (off : Nat) : Nat := p.fld off 8

/-- The bytes of a packet from byte `off` (16 to 63). -/
def Packet.bytes (p : Packet) (off n : Nat) : List Byte := Machine.leBytes n (p.fld off n)

/-- A packet with `n` of its bytes replaced. -/
def Packet.put (p : Packet) (off n v : Nat) : Packet :=
  { p with param := BitVec.ofNat 384 (Machine.setBits p.param.toNat (8 * (off - 16)) (8 * n) v) }

/-- Whether the opcode selects the expert form (02 R62). -/
def Packet.expert (p : Packet) : Bool := Machine.bit p.opcode.toNat 7

/-- The opcode's family, its high byte (02 Table 2-8). -/
def Packet.family (p : Packet) : Nat := p.opcode.toNat / 256

/-- The opcode with the form bit cleared. -/
def Packet.base (p : Packet) : Nat := Machine.clrBit p.opcode.toNat 7

/-- FLAGS.IRQ (02 Table 2-6). -/
def Packet.irq (p : Packet) : Bool := Machine.bit p.flags.toNat 0

/-- FLAGS.ORDERED. -/
def Packet.ordered (p : Packet) : Bool := Machine.bit p.flags.toNat 1

/-- FLAGS.LATE_OK. -/
def Packet.lateOk (p : Packet) : Bool := Machine.bit p.flags.toNat 2

/-- FLAGS.EXT_PARAM. -/
def Packet.ext (p : Packet) : Bool := Machine.bit p.flags.toNat 3

/-- The packet that 64 bytes hold, byte 0 in the lowest bits. -/
def Packet.ofBits (b : BitVec 512) : Packet where
  opcode := b.extractLsb' 0 16
  flags := b.extractLsb' 16 16
  seq := b.extractLsb' 32 32
  execTime := b.extractLsb' 64 64
  param := b.extractLsb' 128 384

/-- The 64 bytes of a packet. -/
def Packet.toBits (p : Packet) : BitVec 512 :=
  BitVec.ofNat 512 (p.opcode.toNat + 2 ^ 16 * p.flags.toNat + 2 ^ 32 * p.seq.toNat + 2 ^ 64 * p.execTime.toNat
    + 2 ^ 128 * p.param.toNat)

/-- ADDR of a request. -/
def Req.addr (q : Req) : Nat := Machine.bits q.hdr.toNat 64 64

/-- SRC_MOD. -/
def Req.srcMod (q : Req) : Nat := Machine.bits q.hdr.toNat 52 12

/-- SRC_UNIT (08 Table 8-4). -/
def Req.srcUnit (q : Req) : Nat := Machine.bits q.hdr.toNat 45 7

/-- RTAG. -/
def Req.rtag (q : Req) : Nat := Machine.bits q.hdr.toNat 38 7

/-- The payload bytes, or for a LOAD the bytes requested. -/
def Req.size (q : Req) : Nat := 4 * Machine.bits q.hdr.toNat 33 5

/-- OP (08 Table 8-1). -/
def Req.op (q : Req) : Nat := Machine.bits q.hdr.toNat 27 6

/-- TOK_EN. -/
def Req.tokEn (q : Req) : Bool := Machine.bit q.hdr.toNat 26

/-- TOK_CTR. -/
def Req.tokCtr (q : Req) : Nat := Machine.bits q.hdr.toNat 21 5

/-- TOK_TILE. -/
def Req.tokTile (q : Req) : Nat := Machine.bits q.hdr.toNat 16 5

/-- TOK_INC. -/
def Req.tokInc (q : Req) : Nat := Machine.bits q.hdr.toNat 0 16

/-- A token: its counter and increment, with the tile of a space-0x3 token (08 Table 8-3). -/
structure Tok where
  ctr : Nat
  inc : Nat
  tile : Nat
  deriving DecidableEq, Repr

/-- A request built from its fields; RTAG is filled in when the store buffer issues it. -/
def Req.make (addr srcMod srcUnit size op : Nat) (tok : Option Tok) (data : List Byte) : Req :=
  let t := match tok with
    | none => 0
    | some t => 2 ^ 26 + t.ctr % 32 * 2 ^ 21 + t.tile % 32 * 2 ^ 16 + t.inc % 2 ^ 16
  ⟨BitVec.ofNat 128 (addr % 2 ^ 64 * 2 ^ 64 + srcMod % 2 ^ 12 * 2 ^ 52 + srcUnit % 2 ^ 7 * 2 ^ 45
      + size / 4 % 32 * 2 ^ 33 + op % 64 * 2 ^ 27 + t), data⟩

/-- The request with an RTAG. -/
def Req.withTag (q : Req) (tag : Nat) : Req :=
  { q with hdr := BitVec.ofNat 128 (Machine.setBits q.hdr.toNat 38 7 tag) }

/-- DST_MOD of a response. -/
def Resp.dstMod (r : Resp) : Nat := Machine.bits r.hdr.toNat 116 12

/-- DST_UNIT of a response. -/
def Resp.dstUnit (r : Resp) : Nat := Machine.bits r.hdr.toNat 109 7

/-- RTAG of a response. -/
def Resp.rtag (r : Resp) : Nat := Machine.bits r.hdr.toNat 102 7

/-- STATUS of a response. -/
def Resp.status (r : Resp) : Nat := Machine.bits r.hdr.toNat 80 16

/-- FAULT_ADDR of a response. -/
def Resp.faultAddr (r : Resp) : Nat := Machine.bits r.hdr.toNat 0 64

/-- The response to a request (08 Table 8-5): FAULT_ADDR is the request's ADDR when the status is not STS_OK, and
URGENT answers an issuer on VC2 (08 R296, Table 8-7). -/
def Resp.make (q : Req) (status : Nat) (data : List Byte) : Resp :=
  let urgent := [0x2F, 0x30, 0x31, 0x32, 0x33, 0x34, 0x35, 0x38].contains q.srcUnit
  let data := if status = 0 then data else []
  ⟨BitVec.ofNat 128 (q.srcMod * 2 ^ 116 + q.srcUnit * 2 ^ 109 + q.rtag * 2 ^ 102 + data.length / 4 * 2 ^ 97
      + Machine.b2n urgent * 2 ^ 96 + status * 2 ^ 80 + (if status = 0 then 0 else q.addr)), data⟩

end Sys2Proof
end

