-- ==== Sys2Proof/Machine/RegTable.lean ====
section
/-! DEFINITION. The memory-mapped registers of BAR0: one `Reg` per register family of the spec's register maps, one
`Fld` per field of its field tables, and `regTable`, the access types (00 Table 0-6) by offset. Offsets are BAR0
offsets: the block base of 02 Table 2-3 plus the offset of the map. An index selects the block first (physical site,
stack, slice, port), then the register of the array. -/

namespace Sys2Proof.Machine

/-- A register: its BAR0 offset, its width in bits (00 R13) and its reset value. -/
structure Reg where
  addr : Nat
  width : Nat
  rst : Nat
  deriving DecidableEq, Repr

/-- A field of a register: the register, the lowest bit and the number of bits. -/
structure Fld where
  reg : Reg
  lo : Nat
  w : Nat
  deriving DecidableEq, Repr

/-- One family of registers as the host's accesses see it: the offset of its first register, its array dimensions
(count and stride, largest stride first), its width, and the bits of each access type of 00 Table 0-6. Bits in no
mask are RO or reserved. -/
structure RegRow where
  name : String
  base : Nat
  dims : List (Nat × Nat)
  width : Nat
  rw : Nat
  w1c : Nat
  rc : Nat
  rst : Nat
  deriving DecidableEq, Repr

/-- ID_PART, 00. -/
def Reg.ID_PART : Reg := ⟨0, 32, 1⟩
/-- ID_SERIAL, 00. -/
def Reg.ID_SERIAL : Reg := ⟨8, 64, 0⟩
/-- CAP_UNITS, 00. -/
def Reg.CAP_UNITS : Reg := ⟨0x10, 32, 0⟩
/-- RAS_TILE_MAPm, 01. -/
def Reg.RAS_TILE_MAP (m : Nat) : Reg := ⟨0x700100 + 4 * m, 32, 0⟩
/-- RAS_SITE_ACTIVE, 01. -/
def Reg.RAS_SITE_ACTIVE : Reg := ⟨0x700120, 64, 0⟩
/-- RAS_SITE_RETIRED, 01. -/
def Reg.RAS_SITE_RETIRED : Reg := ⟨0x700128, 64, 0⟩
/-- RAS_PORT_STATE, 01. -/
def Reg.RAS_PORT_STATE : Reg := ⟨0x700130, 64, 0⟩
/-- RAS_CORE_STATE, 01. -/
def Reg.RAS_CORE_STATE : Reg := ⟨0x700138, 32, 0⟩
/-- MCC_DOORBELL, 02. -/
def Reg.MCC_DOORBELL : Reg := ⟨0x100040, 32, 0⟩
/-- MCC_STATUS, 02. -/
def Reg.MCC_STATUS : Reg := ⟨0x100044, 32, 1⟩
/-- MCC_REJECT_CNT, 02. -/
def Reg.MCC_REJECT_CNT : Reg := ⟨0x100048, 32, 0⟩
/-- MCC_ABT_DOORBELL, 02. -/
def Reg.MCC_ABT_DOORBELL : Reg := ⟨0x100140, 32, 0⟩
/-- HIF_RINGn_SQ_BASE, 02. -/
def Reg.HIF_RING_SQ_BASE (n : Nat) : Reg := ⟨0x201000 + 0x40 * n, 64, 0⟩
/-- HIF_RINGn_CQ_BASE, 02. -/
def Reg.HIF_RING_CQ_BASE (n : Nat) : Reg := ⟨0x201008 + 0x40 * n, 64, 0⟩
/-- HIF_RINGn_CFG, 02. -/
def Reg.HIF_RING_CFG (n : Nat) : Reg := ⟨0x201010 + 0x40 * n, 32, 0⟩
/-- HIF_RINGn_STATE, 02. -/
def Reg.HIF_RING_STATE (n : Nat) : Reg := ⟨0x201014 + 0x40 * n, 32, 0⟩
/-- HIF_RINGn_HEAD, 02. -/
def Reg.HIF_RING_HEAD (n : Nat) : Reg := ⟨0x201018 + 0x40 * n, 32, 0⟩
/-- HIF_RINGn_TAIL, 02. -/
def Reg.HIF_RING_TAIL (n : Nat) : Reg := ⟨0x20101c + 0x40 * n, 32, 0⟩
/-- HIF_RINGn_CPL_TAIL, 02. -/
def Reg.HIF_RING_CPL_TAIL (n : Nat) : Reg := ⟨0x201020 + 0x40 * n, 32, 0⟩
/-- HIF_RINGn_CPL_HEAD, 02. -/
def Reg.HIF_RING_CPL_HEAD (n : Nat) : Reg := ⟨0x201024 + 0x40 * n, 32, 0⟩
/-- HIF_RINGn_FAULT_ADDR, 02. -/
def Reg.HIF_RING_FAULT_ADDR (n : Nat) : Reg := ⟨0x201028 + 0x40 * n, 64, 0⟩
/-- HIF_CTRL, 02. -/
def Reg.HIF_CTRL : Reg := ⟨0x200000, 32, 0⟩
/-- HIF_BLOCKED_CNT, 02. -/
def Reg.HIF_BLOCKED_CNT : Reg := ⟨0x200008, 32, 0⟩
/-- HIF_URGENT_CAUSE, 02. -/
def Reg.HIF_URGENT_CAUSE : Reg := ⟨0x200010, 32, 0⟩
/-- HIF_FAULT_STATUS, 02. -/
def Reg.HIF_FAULT_STATUS : Reg := ⟨0x200014, 32, 0⟩
/-- HIF_FAULT_ADDR, 02. -/
def Reg.HIF_FAULT_ADDR : Reg := ⟨0x200018, 64, 0⟩
/-- HIF_TAG_FAIL_CNT, 02. -/
def Reg.HIF_TAG_FAIL_CNT : Reg := ⟨0x200020, 32, 0⟩
/-- TILE_ID, 04. -/
def Reg.TILE_ID (u : Nat) : Reg := ⟨0x1000000 + 0x40000 * u, 32, 0xff⟩
/-- TILE_STATUS, 04. -/
def Reg.TILE_STATUS (u : Nat) : Reg := ⟨0x1000004 + 0x40000 * u, 32, 0⟩
/-- TILE_NUMFLAGS, 04. -/
def Reg.TILE_NUMFLAGS (u : Nat) : Reg := ⟨0x1000008 + 0x40000 * u, 32, 0⟩
/-- TILE_SYNC_OVF, 04. -/
def Reg.TILE_SYNC_OVF (u : Nat) : Reg := ⟨0x100000c + 0x40000 * u, 32, 0⟩
/-- TILE_EXC_STATUS, 04. -/
def Reg.TILE_EXC_STATUS (u : Nat) : Reg := ⟨0x1000010 + 0x40000 * u, 32, 0⟩
/-- TILE_EXC_ADDR, 04. -/
def Reg.TILE_EXC_ADDR (u : Nat) : Reg := ⟨0x1000018 + 0x40000 * u, 64, 0⟩
/-- TILE_RO_CFG, 04. -/
def Reg.TILE_RO_CFG (u : Nat) : Reg := ⟨0x1000020 + 0x40000 * u, 32, 0x7d0⟩
/-- TILE_SB_DISCARD_CNT, 04. -/
def Reg.TILE_SB_DISCARD_CNT (u : Nat) : Reg := ⟨0x1000024 + 0x40000 * u, 32, 0⟩
/-- TILE_LATE_ACK_CNT, 04. -/
def Reg.TILE_LATE_ACK_CNT (u : Nat) : Reg := ⟨0x1000028 + 0x40000 * u, 32, 0⟩
/-- TILE_SYNCc, 04. -/
def Reg.TILE_SYNC (u c : Nat) : Reg := ⟨0x1000100 + 0x40000 * u + 4 * c, 32, 0⟩
/-- TILE_EVCNTe, 04. -/
def Reg.TILE_EVCNT (u e : Nat) : Reg := ⟨0x1000200 + 0x40000 * u + 8 * e, 64, 0⟩
/-- SPL_STATUS, 05. -/
def Reg.SPL_STATUS : Reg := ⟨0xd00000, 32, 0⟩
/-- SPL_NUMFLAGS, 05. -/
def Reg.SPL_NUMFLAGS : Reg := ⟨0xd00004, 32, 0⟩
/-- SPL_SYNC_OVF, 05. -/
def Reg.SPL_SYNC_OVF : Reg := ⟨0xd00008, 32, 0⟩
/-- SPL_EXC_STATUS, 05. -/
def Reg.SPL_EXC_STATUS : Reg := ⟨0xd00010, 32, 0⟩
/-- SPL_EXC_ADDR, 05. -/
def Reg.SPL_EXC_ADDR : Reg := ⟨0xd00018, 64, 0⟩
/-- SPL_SYNCc, 05. -/
def Reg.SPL_SYNC (c : Nat) : Reg := ⟨0xd00100 + 4 * c, 32, 0⟩
/-- HBM_STATUS, 06. -/
def Reg.HBM_STATUS (u : Nat) : Reg := ⟨0x2100000 + 0x20000 * u, 32, 0⟩
/-- HBM_CE_CNT, 06. -/
def Reg.HBM_CE_CNT (u : Nat) : Reg := ⟨0x2100008 + 0x20000 * u, 64, 0⟩
/-- HBM_UE_CNT, 06. -/
def Reg.HBM_UE_CNT (u : Nat) : Reg := ⟨0x2100010 + 0x20000 * u, 32, 0⟩
/-- HBM_POISON_READ_CNT, 06. -/
def Reg.HBM_POISON_READ_CNT (u : Nat) : Reg := ⟨0x2100014 + 0x20000 * u, 32, 0⟩
/-- HBM_ERR_ADDR, 06. -/
def Reg.HBM_ERR_ADDR (u : Nat) : Reg := ⟨0x2100018 + 0x20000 * u, 64, 0⟩
/-- HBM_PATROL_CFG, 06. -/
def Reg.HBM_PATROL_CFG (u : Nat) : Reg := ⟨0x2100020 + 0x20000 * u, 32, 0x1800⟩
/-- HBM_PATROL_POS, 06. -/
def Reg.HBM_PATROL_POS (u : Nat) : Reg := ⟨0x2100024 + 0x20000 * u, 32, 0⟩
/-- HBM_RETIRE_CFG, 06. -/
def Reg.HBM_RETIRE_CFG (u : Nat) : Reg := ⟨0x2100028 + 0x20000 * u, 32, 8⟩
/-- HBM_REMAP_STATE, 06. -/
def Reg.HBM_REMAP_STATE (u : Nat) : Reg := ⟨0x210002c + 0x20000 * u, 32, 0x40000000⟩
/-- HBM_PAGES_LOST, 06. -/
def Reg.HBM_PAGES_LOST (u : Nat) : Reg := ⟨0x2100030 + 0x20000 * u, 32, 0⟩
/-- SLC_CE_CNT, 06. -/
def Reg.SLC_CE_CNT (u : Nat) : Reg := ⟨0x2200000 + 0x10000 * u, 32, 0⟩
/-- SLC_UE_CNT, 06. -/
def Reg.SLC_UE_CNT (u : Nat) : Reg := ⟨0x2200004 + 0x10000 * u, 32, 0⟩
/-- SLC_ERR_ADDR, 06. -/
def Reg.SLC_ERR_ADDR (u : Nat) : Reg := ⟨0x2200008 + 0x10000 * u, 64, 0⟩
/-- SLC_REMAP_USED, 06. -/
def Reg.SLC_REMAP_USED (u : Nat) : Reg := ⟨0x2200010 + 0x10000 * u, 32, 0⟩
/-- SLC_MACRO_FULLj, 06. -/
def Reg.SLC_MACRO_FULL (u j : Nat) : Reg := ⟨0x2200018 + 0x10000 * u + 8 * j, 64, 0⟩
/-- CRL_STATUS, 07. -/
def Reg.CRL_STATUS (u : Nat) : Reg := ⟨0x2000000 + 0x20000 * u, 32, 0⟩
/-- CRL_POOL_FREE, 07. -/
def Reg.CRL_POOL_FREE (u : Nat) : Reg := ⟨0x2000008 + 0x20000 * u, 32, 0⟩
/-- CRL_POOL_RESV, 07. -/
def Reg.CRL_POOL_RESV (u : Nat) : Reg := ⟨0x200000c + 0x20000 * u, 32, 0⟩
/-- CRL_POOL_USED, 07. -/
def Reg.CRL_POOL_USED (u : Nat) : Reg := ⟨0x2000010 + 0x20000 * u, 32, 0⟩
/-- CRL_POOL_GRANTED, 07. -/
def Reg.CRL_POOL_GRANTED (u : Nat) : Reg := ⟨0x2000014 + 0x20000 * u, 32, 0⟩
/-- CRL_TLB_HIT, 07. -/
def Reg.CRL_TLB_HIT (u : Nat) : Reg := ⟨0x2000018 + 0x20000 * u, 64, 0⟩
/-- CRL_TLB_MISS, 07. -/
def Reg.CRL_TLB_MISS (u : Nat) : Reg := ⟨0x2000020 + 0x20000 * u, 64, 0⟩
/-- CRL_GATHER_CNT, 07. -/
def Reg.CRL_GATHER_CNT (u : Nat) : Reg := ⟨0x2000028 + 0x20000 * u, 64, 0⟩
/-- CRL_DISCARD_CNT, 07. -/
def Reg.CRL_DISCARD_CNT (u : Nat) : Reg := ⟨0x2000030 + 0x20000 * u, 32, 0⟩
/-- CRL_FAULT_ADDR, 07. -/
def Reg.CRL_FAULT_ADDR (u : Nat) : Reg := ⟨0x2000038 + 0x20000 * u, 64, 0⟩
/-- CRL_PARKEDj, 07. -/
def Reg.CRL_PARKED (u j : Nat) : Reg := ⟨0x2000100 + 0x20000 * u + 8 * j, 64, 0⟩
/-- ATY_INWINn_BASE, 08. -/
def Reg.ATY_INWIN_BASE (n : Nat) : Reg := ⟨0x2431000 + 0x10 * n, 64, 0⟩
/-- ATY_INWINn_CTRL, 08. -/
def Reg.ATY_INWIN_CTRL (n : Nat) : Reg := ⟨0x2431008 + 0x10 * n, 64, 0⟩
/-- ATY_IN_REFUSED_CNT, 08. -/
def Reg.ATY_IN_REFUSED_CNT : Reg := ⟨0x2431100, 32, 0⟩
/-- ATY_IN_REFUSED_ADDR, 08. -/
def Reg.ATY_IN_REFUSED_ADDR : Reg := ⟨0x2431108, 64, 0⟩
/-- ATY_IN_REFUSED_SRC, 08. -/
def Reg.ATY_IN_REFUSED_SRC : Reg := ⟨0x2431110, 32, 0⟩
/-- ATY_PORT_STATUS, 09. -/
def Reg.ATY_PORT_STATUS (u : Nat) : Reg := ⟨0x2300000 + 0x10000 * u, 32, 0xf800000⟩
/-- ATY_PORT_ERR_CFG, 09. -/
def Reg.ATY_PORT_ERR_CFG (u : Nat) : Reg := ⟨0x2300008 + 0x10000 * u, 32, 0x10001000⟩
/-- ATY_FEC_CW_CNT, 09. -/
def Reg.ATY_FEC_CW_CNT (u : Nat) : Reg := ⟨0x2300010 + 0x10000 * u, 64, 0⟩
/-- ATY_FEC_CORR_CNT, 09. -/
def Reg.ATY_FEC_CORR_CNT (u : Nat) : Reg := ⟨0x2300018 + 0x10000 * u, 64, 0⟩
/-- ATY_FEC_UNCORR_CNT, 09. -/
def Reg.ATY_FEC_UNCORR_CNT (u : Nat) : Reg := ⟨0x2300020 + 0x10000 * u, 32, 0⟩
/-- ATY_CRC_ERR_CNT, 09. -/
def Reg.ATY_CRC_ERR_CNT (u : Nat) : Reg := ⟨0x2300024 + 0x10000 * u, 32, 0⟩
/-- ATY_REPLAY_CNT, 09. -/
def Reg.ATY_REPLAY_CNT (u : Nat) : Reg := ⟨0x2300028 + 0x10000 * u, 32, 0⟩
/-- ATY_RETRAIN_CNT, 09. -/
def Reg.ATY_RETRAIN_CNT (u : Nat) : Reg := ⟨0x230002c + 0x10000 * u, 32, 0⟩
/-- ATY_FAR_SERIAL, 09. -/
def Reg.ATY_FAR_SERIAL (u : Nat) : Reg := ⟨0x2300030 + 0x10000 * u, 64, 0⟩
/-- ATY_FAR_IDENT, 09. -/
def Reg.ATY_FAR_IDENT (u : Nat) : Reg := ⟨0x2300038 + 0x10000 * u, 32, 0xfff00000⟩
/-- ATY_EXPECT, 09. -/
def Reg.ATY_EXPECT (u : Nat) : Reg := ⟨0x230003c + 0x10000 * u, 32, 0⟩
/-- ATY_BERT_ERRl, 09. -/
def Reg.ATY_BERT_ERR (u l : Nat) : Reg := ⟨0x2300040 + 0x10000 * u + 8 * l, 64, 0⟩
/-- ATY_BERT_BITS, 09. -/
def Reg.ATY_BERT_BITS (u : Nat) : Reg := ⟨0x2300060 + 0x10000 * u, 64, 0⟩
/-- ATY_FAB_CFG, 09. -/
def Reg.ATY_FAB_CFG : Reg := ⟨0x2430000, 64, 0x1f8fff⟩
/-- ATY_FAB_STATUS, 09. -/
def Reg.ATY_FAB_STATUS : Reg := ⟨0x2430008, 64, 0xfff0001000000000⟩
/-- ATY_MASTER_SERIAL, 09. -/
def Reg.ATY_MASTER_SERIAL : Reg := ⟨0x2430010, 64, 0⟩
/-- ATY_STEP, 09. -/
def Reg.ATY_STEP : Reg := ⟨0x2430018, 64, 0⟩
/-- ATY_LINK_MAP0, 09. -/
def Reg.ATY_LINK_MAP0 : Reg := ⟨0x2430020, 32, 0⟩
/-- ATY_LINK_MAP1, 09. -/
def Reg.ATY_LINK_MAP1 : Reg := ⟨0x2430024, 32, 0⟩
/-- ATY_ROUTEm, 09. -/
def Reg.ATY_ROUTE (m : Nat) : Reg := ⟨0x2434000 + 4 * m, 32, 0⟩
/-- SRV_STATUS, 10. -/
def Reg.SRV_STATUS : Reg := ⟨0x900000, 32, 0⟩
/-- SRV_QUEUED, 10. -/
def Reg.SRV_QUEUED : Reg := ⟨0x900004, 32, 0⟩
/-- SRV_STEP_CNT, 10. -/
def Reg.SRV_STEP_CNT : Reg := ⟨0x900008, 64, 0⟩
/-- SRV_STEP_LAST_NS, 10. -/
def Reg.SRV_STEP_LAST_NS : Reg := ⟨0x900010, 32, 0⟩
/-- SRV_STEP_MAX_NS, 10. -/
def Reg.SRV_STEP_MAX_NS : Reg := ⟨0x900014, 32, 0⟩
/-- SRV_OVERRUN_CNT, 10. -/
def Reg.SRV_OVERRUN_CNT : Reg := ⟨0x900018, 32, 0⟩
/-- SRV_PAUSED, 10. -/
def Reg.SRV_PAUSED : Reg := ⟨0x90001c, 32, 0⟩
/-- SRV_TOKENS_OUT, 10. -/
def Reg.SRV_TOKENS_OUT : Reg := ⟨0x900020, 64, 0⟩
/-- SRV_TOKENS_PF, 10. -/
def Reg.SRV_TOKENS_PF : Reg := ⟨0x900028, 64, 0⟩
/-- SRV_ACCTa_BUCKET, 10. -/
def Reg.SRV_ACCT_BUCKET (a : Nat) : Reg := ⟨0x900100 + 0x10 * a, 64, 0⟩
/-- SRV_ACCTa_STATE, 10. -/
def Reg.SRV_ACCT_STATE (a : Nat) : Reg := ⟨0x900108 + 0x10 * a, 32, 0⟩
/-- SRV_RINGr_CFG, 10. -/
def Reg.SRV_RING_CFG (r : Nat) : Reg := ⟨0x902000 + 0x10 * r, 32, 0⟩
/-- SRV_RINGr_TTFT_MISS, 10. -/
def Reg.SRV_RING_TTFT_MISS (r : Nat) : Reg := ⟨0x902004 + 0x10 * r, 32, 0⟩
/-- SRV_RINGr_TBT_MISS, 10. -/
def Reg.SRV_RING_TBT_MISS (r : Nat) : Reg := ⟨0x902008 + 0x10 * r, 32, 0⟩
/-- SRV_RINGr_STALL, 10. -/
def Reg.SRV_RING_STALL (r : Nat) : Reg := ⟨0x90200c + 0x10 * r, 32, 0⟩
/-- RIM_STATUS, 11. -/
def Reg.RIM_STATUS : Reg := ⟨0xa00000, 32, 0⟩
/-- RIM_TILES, 11. -/
def Reg.RIM_TILES : Reg := ⟨0xa00004, 32, 0xffff⟩
/-- RIM_ACT_TIME, 11. -/
def Reg.RIM_ACT_TIME : Reg := ⟨0xa00008, 64, 0⟩
/-- RIM_FRAME_NS, 11. -/
def Reg.RIM_FRAME_NS : Reg := ⟨0xa00010, 32, 0⟩
/-- RIM_BUDGET_USED, 11. -/
def Reg.RIM_BUDGET_USED : Reg := ⟨0xa00014, 32, 0⟩
/-- RIM_STRs_STATUS, 11. -/
def Reg.RIM_STR_STATUS (s : Nat) : Reg := ⟨0xa00100 + 0x20 * s, 32, 0⟩
/-- RIM_STRs_RESULTS, 11. -/
def Reg.RIM_STR_RESULTS (s : Nat) : Reg := ⟨0xa00108 + 0x20 * s, 64, 0⟩
/-- RIM_STRs_MISSED, 11. -/
def Reg.RIM_STR_MISSED (s : Nat) : Reg := ⟨0xa00110 + 0x20 * s, 32, 0⟩
/-- RIM_STRs_IN_STALE, 11. -/
def Reg.RIM_STR_IN_STALE (s : Nat) : Reg := ⟨0xa00114 + 0x20 * s, 32, 0⟩
/-- RIM_STRs_JIT_MAX, 11. -/
def Reg.RIM_STR_JIT_MAX (s : Nat) : Reg := ⟨0xa00118 + 0x20 * s, 32, 0⟩
/-- PLT_STATUS, 11. -/
def Reg.PLT_STATUS : Reg := ⟨0xa80000, 32, 0⟩
/-- PLT_CFG, 11. -/
def Reg.PLT_CFG : Reg := ⟨0xa80004, 32, 0x88b50a00⟩
/-- PLT_PTP_OFFSET, 11. -/
def Reg.PLT_PTP_OFFSET : Reg := ⟨0xa80008, 64, 0⟩
/-- PLT_PTP_STATUS, 11. -/
def Reg.PLT_PTP_STATUS : Reg := ⟨0xa80010, 32, 0⟩
/-- PLT_PORTp_MAC, 11. -/
def Reg.PLT_PORT_MAC (p : Nat) : Reg := ⟨0xa81000 + 0x100 * p, 64, 0⟩
/-- PLT_PORTp_CTL, 11. -/
def Reg.PLT_PORT_CTL (p : Nat) : Reg := ⟨0xa81008 + 0x100 * p, 32, 4⟩
/-- PLT_PORTp_TX_FRAMES, 11. -/
def Reg.PLT_PORT_TX_FRAMES (p : Nat) : Reg := ⟨0xa81010 + 0x100 * p, 64, 0⟩
/-- PLT_PORTp_RX_FRAMES, 11. -/
def Reg.PLT_PORT_RX_FRAMES (p : Nat) : Reg := ⟨0xa81018 + 0x100 * p, 64, 0⟩
/-- PLT_PORTp_DROP_FILTER, 11. -/
def Reg.PLT_PORT_DROP_FILTER (p : Nat) : Reg := ⟨0xa81020 + 0x100 * p, 32, 0⟩
/-- PLT_PORTp_DROP_METER, 11. -/
def Reg.PLT_PORT_DROP_METER (p : Nat) : Reg := ⟨0xa81024 + 0x100 * p, 32, 0⟩
/-- PLT_PORTp_DROP_FRAME, 11. -/
def Reg.PLT_PORT_DROP_FRAME (p : Nat) : Reg := ⟨0xa81028 + 0x100 * p, 32, 0⟩
/-- PLT_PORTp_TX_SUPPRESSED, 11. -/
def Reg.PLT_PORT_TX_SUPPRESSED (p : Nat) : Reg := ⟨0xa8102c + 0x100 * p, 32, 0⟩
/-- PLT_PORTp_TX_GUARD_DROP, 11. -/
def Reg.PLT_PORT_TX_GUARD_DROP (p : Nat) : Reg := ⟨0xa81030 + 0x100 * p, 32, 0⟩
/-- PAIR_STATUS, 12. -/
def Reg.PAIR_STATUS : Reg := ⟨0xb00000, 32, 0⟩
/-- PAIR_MSG_ERR_CNT, 12. -/
def Reg.PAIR_MSG_ERR_CNT : Reg := ⟨0xb00004, 32, 0⟩
/-- PAIR_CFG, 12. -/
def Reg.PAIR_CFG : Reg := ⟨0xb00008, 64, 0xfff000000000⟩
/-- PAIR_PARTNER_SERIAL, 12. -/
def Reg.PAIR_PARTNER_SERIAL : Reg := ⟨0xb00010, 64, 0⟩
/-- PAIR_SVCn_STATUS, 12. -/
def Reg.PAIR_SVC_STATUS (n : Nat) : Reg := ⟨0xb00100 + 0x20 * n, 32, 0⟩
/-- PAIR_SVCn_CLAIM, 12. -/
def Reg.PAIR_SVC_CLAIM (n : Nat) : Reg := ⟨0xb00104 + 0x20 * n, 32, 0⟩
/-- PAIR_SVCn_PEER_CLAIM, 12. -/
def Reg.PAIR_SVC_PEER_CLAIM (n : Nat) : Reg := ⟨0xb00108 + 0x20 * n, 32, 0⟩
/-- PAIR_SVCn_MISMATCH, 12. -/
def Reg.PAIR_SVC_MISMATCH (n : Nat) : Reg := ⟨0xb0010c + 0x20 * n, 32, 0⟩
/-- PAIR_SVCn_UNCOMPARED, 12. -/
def Reg.PAIR_SVC_UNCOMPARED (n : Nat) : Reg := ⟨0xb00110 + 0x20 * n, 32, 0⟩
/-- PAIR_SVCn_SWITCH, 12. -/
def Reg.PAIR_SVC_SWITCH (n : Nat) : Reg := ⟨0xb00114 + 0x20 * n, 32, 0⟩
/-- PAIR_SVCn_DIGEST, 12. -/
def Reg.PAIR_SVC_DIGEST (n : Nat) : Reg := ⟨0xb00118 + 0x20 * n, 64, 0⟩
/-- VID_STATUS, 13. -/
def Reg.VID_STATUS : Reg := ⟨0xc00000, 32, 0⟩
/-- VID_LOAD_LIVE, 13. -/
def Reg.VID_LOAD_LIVE : Reg := ⟨0xc00004, 32, 0⟩
/-- VID_LOAD_BATCH, 13. -/
def Reg.VID_LOAD_BATCH : Reg := ⟨0xc00008, 32, 0⟩
/-- VID_CONCEAL_CNT, 13. -/
def Reg.VID_CONCEAL_CNT : Reg := ⟨0xc0000c, 32, 0⟩
/-- VID_DEMOTE_CNT, 13. -/
def Reg.VID_DEMOTE_CNT : Reg := ⟨0xc00010, 32, 0⟩
/-- VID_WDOG_CNT, 13. -/
def Reg.VID_WDOG_CNT : Reg := ⟨0xc00014, 32, 0⟩
/-- VID_SESSn_STATUS, 13. -/
def Reg.VID_SESS_STATUS (n : Nat) : Reg := ⟨0xc00100 + 0x10 * n, 32, 0⟩
/-- VID_SESSn_PICS, 13. -/
def Reg.VID_SESS_PICS (n : Nat) : Reg := ⟨0xc00104 + 0x10 * n, 32, 0⟩
/-- VID_SESSn_OVER, 13. -/
def Reg.VID_SESS_OVER (n : Nat) : Reg := ⟨0xc00108 + 0x10 * n, 32, 0⟩
/-- VID_SESSn_PEND, 13. -/
def Reg.VID_SESS_PEND (n : Nat) : Reg := ⟨0xc0010c + 0x10 * n, 32, 0⟩
/-- SEC_STATUS, 14. -/
def Reg.SEC_STATUS : Reg := ⟨0x600000, 32, 0⟩
/-- SEC_TRNG_STATUS, 14. -/
def Reg.SEC_TRNG_STATUS : Reg := ⟨0x600004, 32, 0x20000000⟩
/-- SEC_SCRUB_POS, 14. -/
def Reg.SEC_SCRUB_POS : Reg := ⟨0x600008, 64, 0⟩
/-- SEC_MEAS_STATE, 14. -/
def Reg.SEC_MEAS_STATE : Reg := ⟨0x600010, 32, 0⟩
/-- SEC_TRNG_FAIL_CNT, 14. -/
def Reg.SEC_TRNG_FAIL_CNT : Reg := ⟨0x600014, 32, 0⟩
/-- CLK_STATUS, 15. -/
def Reg.CLK_STATUS : Reg := ⟨0x300000, 32, 0x20000000⟩
/-- CLK_READY, 15. -/
def Reg.CLK_READY : Reg := ⟨0x300004, 32, 1⟩
/-- CLK_FAIL, 15. -/
def Reg.CLK_FAIL : Reg := ⟨0x300008, 32, 0⟩
/-- CLK_OSC_CAL, 15. -/
def Reg.CLK_OSC_CAL : Reg := ⟨0x30000c, 32, 0⟩
/-- CLK_SSC, 15. -/
def Reg.CLK_SSC : Reg := ⟨0x300010, 32, 0⟩
/-- CLK_REGBUS_CFG, 15. -/
def Reg.CLK_REGBUS_CFG : Reg := ⟨0x300014, 32, 6⟩
/-- CLK_EN0, 15. -/
def Reg.CLK_EN0 : Reg := ⟨0x300018, 64, 0⟩
/-- CLK_EN1, 15. -/
def Reg.CLK_EN1 : Reg := ⟨0x300020, 64, 0⟩
/-- CLK_TIME_NS, 15. -/
def Reg.CLK_TIME_NS : Reg := ⟨0x300100, 64, 0⟩
/-- CLK_TIME_STATUS, 15. -/
def Reg.CLK_TIME_STATUS : Reg := ⟨0x300108, 32, 0⟩
/-- CLK_TIME_DELAY, 15. -/
def Reg.CLK_TIME_DELAY : Reg := ⟨0x30010c, 32, 0⟩
/-- CLK_TIME_STEP, 15. -/
def Reg.CLK_TIME_STEP : Reg := ⟨0x300110, 64, 0⟩
/-- PWR_STATUS, 16. -/
def Reg.PWR_STATUS : Reg := ⟨0x400000, 32, 0⟩
/-- PWR_CFG, 16. -/
def Reg.PWR_CFG : Reg := ⟨0x400004, 32, 0x60e⟩
/-- PWR_INPUT, 16. -/
def Reg.PWR_INPUT : Reg := ⟨0x400008, 32, 0⟩
/-- PWR_HOLDUP, 16. -/
def Reg.PWR_HOLDUP : Reg := ⟨0x40000c, 32, 0⟩
/-- PWR_POWER, 16. -/
def Reg.PWR_POWER : Reg := ⟨0x400010, 32, 0⟩
/-- PWR_PHASE, 16. -/
def Reg.PWR_PHASE : Reg := ⟨0x400014, 32, 0xb200b200⟩
/-- PWR_E_MODULE, 16. -/
def Reg.PWR_E_MODULE : Reg := ⟨0x400018, 64, 0⟩
/-- PWR_DROOP_CFG, 16. -/
def Reg.PWR_DROOP_CFG : Reg := ⟨0x400020, 32, 0x32⟩
/-- PWR_WAKE_Q, 16. -/
def Reg.PWR_WAKE_Q : Reg := ⟨0x400024, 32, 0⟩
/-- PWR_DROOP_EXCESS_CNT, 16. -/
def Reg.PWR_DROOP_EXCESS_CNT : Reg := ⟨0x400028, 32, 0⟩
/-- PWR_ISLi, 16. -/
def Reg.PWR_ISL (i : Nat) : Reg := ⟨0x400100 + 4 * i, 32, if i < 18 || (37 ≤ i && i < 55) || i == 81 then 0x30000000 else 0x20000000⟩
/-- PWR_E_PARTp, 16. -/
def Reg.PWR_E_PART (p : Nat) : Reg := ⟨0x400400 + 8 * p, 64, 0⟩
/-- PWR_E_RINGn, 16. -/
def Reg.PWR_E_RING (n : Nat) : Reg := ⟨0x400800 + 8 * n, 64, 0⟩
/-- PWR_E_ACCTa, 16. -/
def Reg.PWR_E_ACCT (a : Nat) : Reg := ⟨0x401000 + 8 * a, 64, 0⟩
/-- RST_CAUSE, 17. -/
def Reg.RST_CAUSE : Reg := ⟨0x500000, 32, 0⟩
/-- RST_STATUS, 17. -/
def Reg.RST_STATUS : Reg := ⟨0x500004, 32, 0⟩
/-- RST_STRAP, 17. -/
def Reg.RST_STRAP : Reg := ⟨0x500008, 32, 0⟩
/-- RST_COUNT, 17. -/
def Reg.RST_COUNT : Reg := ⟨0x50000c, 32, 0⟩
/-- RST_IMG_VERSION, 18. -/
def Reg.RST_IMG_VERSION : Reg := ⟨0x500100, 32, 0⟩
/-- RST_IMG_LEVELS, 18. -/
def Reg.RST_IMG_LEVELS : Reg := ⟨0x500104, 32, 0⟩
/-- RST_STG_VERSION, 18. -/
def Reg.RST_STG_VERSION : Reg := ⟨0x500108, 32, 0⟩
/-- RST_STG_LEVELS, 18. -/
def Reg.RST_STG_LEVELS : Reg := ⟨0x50010c, 32, 0⟩
/-- RST_UPD_STATUS, 18. -/
def Reg.RST_UPD_STATUS : Reg := ⟨0x500110, 32, 0⟩
/-- RST_UPD_POS, 18. -/
def Reg.RST_UPD_POS : Reg := ⟨0x500114, 32, 0⟩
/-- RST_CFG_STATUS, 18. -/
def Reg.RST_CFG_STATUS : Reg := ⟨0x500118, 32, 0⟩
/-- RAS_HEALTH, 19. -/
def Reg.RAS_HEALTH : Reg := ⟨0x700000, 32, 0⟩
/-- RAS_MAINT, 19. -/
def Reg.RAS_MAINT : Reg := ⟨0x700004, 32, 0⟩
/-- RAS_LOG_SEQ, 19. -/
def Reg.RAS_LOG_SEQ : Reg := ⟨0x700008, 32, 0⟩
/-- RAS_STORE, 19. -/
def Reg.RAS_STORE : Reg := ⟨0x70000c, 32, 0⟩
/-- PMU_CYCLEg, 20. -/
def Reg.PMU_CYCLE (g : Nat) : Reg := ⟨0x810000 + 0x100 * g, 64, 0⟩
/-- PMU_OVFg, 20. -/
def Reg.PMU_OVF (g : Nat) : Reg := ⟨0x810008 + 0x100 * g, 32, 0⟩
/-- PMU_EVSELg_c, 20. -/
def Reg.PMU_EVSEL (g c : Nat) : Reg := ⟨0x810010 + 0x100 * g + 4 * c, 32, 0x3f800000⟩
/-- PMU_CNTg_c, 20. -/
def Reg.PMU_CNT (g c : Nat) : Reg := ⟨0x810040 + 0x100 * g + 8 * c, 64, 0⟩
/-- PMU_ABASEg_c, 20. -/
def Reg.PMU_ABASE (g c : Nat) : Reg := ⟨0x810080 + 0x100 * g + 8 * c, 64, 0⟩
/-- PMU_AMASKg_c, 20. -/
def Reg.PMU_AMASK (g c : Nat) : Reg := ⟨0x8100c0 + 0x100 * g + 8 * c, 64, 0⟩
/-- HIF_COALv, 02. -/
def Reg.HIF_COAL (v : Nat) : Reg := ⟨0x200100 + 4 * v, 32, 0⟩
/-- RAS_MEM_PATROL, 06. -/
def Reg.RAS_MEM_PATROL : Reg := ⟨0x700200, 32, 0x258⟩
/-- PMU_TOVFn, 20. -/
def Reg.PMU_TOVF (n : Nat) : Reg := ⟨0x801000 + 0x10 * n, 64, 0⟩
/-- PMU_TIRQn, 20. -/
def Reg.PMU_TIRQ (n : Nat) : Reg := ⟨0x801008 + 0x10 * n, 64, 0⟩
/-- PMU_OVF_LOST, 20. -/
def Reg.PMU_OVF_LOST : Reg := ⟨0x800000, 32, 0⟩
/-- DBG_CTL, 20. -/
def Reg.DBG_CTL : Reg := ⟨0x880000, 32, 0⟩
/-- DBG_GATED_ACCESS_CNT, 20. -/
def Reg.DBG_GATED_ACCESS_CNT : Reg := ⟨0x880008, 32, 0⟩
/-- DBG_SEM_CFG, 20. -/
def Reg.DBG_SEM_CFG : Reg := ⟨0x880080, 32, 0x3e8⟩
/-- DBG_SEMs, 20. -/
def Reg.DBG_SEM (s : Nat) : Reg := ⟨0x880100 + 4 * s, 32, 0⟩
/-- RST_SIDEBAND, 21. -/
def Reg.RST_SIDEBAND : Reg := ⟨0x500010, 32, 0⟩
/-- DBG_GATED_LAST, 20. -/
def Reg.DBG_GATED_LAST : Reg := ⟨0x880010, 64, 0⟩
/-- RST_BKPb, 17. -/
def Reg.RST_BKP0 : Reg := ⟨0x500020, 32, 0⟩
/-- RST_BKPb, 17. -/
def Reg.RST_BKP_FW (b : Nat) : Reg := ⟨0x500024 + 4 * b, 32, 0⟩
/-- RST_BKPb, 17. -/
def Reg.RST_BKP_HOST (b : Nat) : Reg := ⟨0x500030 + 4 * b, 32, 0⟩

/-! ## Fields -/

def Fld.ID_PART_PART_NUM : Fld := ⟨Reg.ID_PART, 16, 16⟩
def Fld.ID_PART_STEP_MAJOR : Fld := ⟨Reg.ID_PART, 12, 4⟩
def Fld.ID_PART_STEP_MINOR : Fld := ⟨Reg.ID_PART, 8, 4⟩
def Fld.ID_PART_PKG_CODE : Fld := ⟨Reg.ID_PART, 0, 8⟩
def Fld.CAP_UNITS_CAP_VALID : Fld := ⟨Reg.CAP_UNITS, 31, 1⟩
def Fld.CAP_UNITS_VID_CORES : Fld := ⟨Reg.CAP_UNITS, 15, 3⟩
def Fld.CAP_UNITS_MACSEC : Fld := ⟨Reg.CAP_UNITS, 14, 1⟩
def Fld.CAP_UNITS_FITCH : Fld := ⟨Reg.CAP_UNITS, 13, 1⟩
def Fld.CAP_UNITS_SPLINT : Fld := ⟨Reg.CAP_UNITS, 12, 1⟩
def Fld.CAP_UNITS_PAIR : Fld := ⟨Reg.CAP_UNITS, 11, 1⟩
def Fld.CAP_UNITS_RIM : Fld := ⟨Reg.CAP_UNITS, 10, 1⟩
def Fld.CAP_UNITS_PLANT : Fld := ⟨Reg.CAP_UNITS, 9, 1⟩
def Fld.CAP_UNITS_VIDEO : Fld := ⟨Reg.CAP_UNITS, 8, 1⟩
def Fld.CAP_UNITS_HBM_STACKS : Fld := ⟨Reg.CAP_UNITS, 0, 8⟩
def Fld.RAS_TILE_MAP_SITE_T3 (m : Nat) : Fld := ⟨Reg.RAS_TILE_MAP m, 24, 8⟩
def Fld.RAS_TILE_MAP_SITE_T2 (m : Nat) : Fld := ⟨Reg.RAS_TILE_MAP m, 16, 8⟩
def Fld.RAS_TILE_MAP_SITE_T1 (m : Nat) : Fld := ⟨Reg.RAS_TILE_MAP m, 8, 8⟩
def Fld.RAS_TILE_MAP_SITE_T0 (m : Nat) : Fld := ⟨Reg.RAS_TILE_MAP m, 0, 8⟩
def Fld.RAS_SITE_ACTIVE_ACTIVE : Fld := ⟨Reg.RAS_SITE_ACTIVE, 0, 36⟩
def Fld.RAS_SITE_RETIRED_RETIRED : Fld := ⟨Reg.RAS_SITE_RETIRED, 0, 36⟩
def Fld.RAS_PORT_STATE_PORT_RETIRED : Fld := ⟨Reg.RAS_PORT_STATE, 32, 18⟩
def Fld.RAS_PORT_STATE_PORT_ACTIVE : Fld := ⟨Reg.RAS_PORT_STATE, 0, 18⟩
def Fld.RAS_CORE_STATE_VID_RETIRED : Fld := ⟨Reg.RAS_CORE_STATE, 16, 5⟩
def Fld.RAS_CORE_STATE_VID_ACTIVE : Fld := ⟨Reg.RAS_CORE_STATE, 8, 5⟩
def Fld.RAS_CORE_STATE_MGMT_RETIRED : Fld := ⟨Reg.RAS_CORE_STATE, 4, 4⟩
def Fld.RAS_CORE_STATE_MGMT_ACTIVE : Fld := ⟨Reg.RAS_CORE_STATE, 0, 4⟩
def Fld.MCC_STATUS_ABT_REPLY_VALID : Fld := ⟨Reg.MCC_STATUS, 5, 1⟩
def Fld.MCC_STATUS_ABT_BUSY : Fld := ⟨Reg.MCC_STATUS, 4, 1⟩
def Fld.MCC_STATUS_I3C_OWNER : Fld := ⟨Reg.MCC_STATUS, 3, 1⟩
def Fld.MCC_STATUS_REJECT : Fld := ⟨Reg.MCC_STATUS, 2, 1⟩
def Fld.MCC_STATUS_REPLY_VALID : Fld := ⟨Reg.MCC_STATUS, 1, 1⟩
def Fld.MCC_STATUS_BUSY : Fld := ⟨Reg.MCC_STATUS, 0, 1⟩
def Fld.HIF_RING_CFG_VECTOR (n : Nat) : Fld := ⟨Reg.HIF_RING_CFG n, 24, 8⟩
def Fld.HIF_RING_CFG_FAMILY (n : Nat) : Fld := ⟨Reg.HIF_RING_CFG n, 16, 8⟩
def Fld.HIF_RING_CFG_INSTANCE (n : Nat) : Fld := ⟨Reg.HIF_RING_CFG n, 8, 8⟩
def Fld.HIF_RING_CFG_LOG2_SIZE (n : Nat) : Fld := ⟨Reg.HIF_RING_CFG n, 0, 5⟩
def Fld.HIF_RING_STATE_LAST_STATUS (n : Nat) : Fld := ⟨Reg.HIF_RING_STATE n, 16, 16⟩
def Fld.HIF_RING_STATE_CQ_HEAD_ERR (n : Nat) : Fld := ⟨Reg.HIF_RING_STATE n, 4, 1⟩
def Fld.HIF_RING_STATE_TAIL_OVF (n : Nat) : Fld := ⟨Reg.HIF_RING_STATE n, 3, 1⟩
def Fld.HIF_RING_STATE_STATE (n : Nat) : Fld := ⟨Reg.HIF_RING_STATE n, 0, 3⟩
def Fld.HIF_CTRL_CONF : Fld := ⟨Reg.HIF_CTRL, 0, 1⟩
def Fld.HIF_URGENT_CAUSE_CLK_SRC_FAIL : Fld := ⟨Reg.HIF_URGENT_CAUSE, 7, 1⟩
def Fld.HIF_URGENT_CAUSE_ENTROPY : Fld := ⟨Reg.HIF_URGENT_CAUSE, 6, 1⟩
def Fld.HIF_URGENT_CAUSE_ENGINE_TRAP : Fld := ⟨Reg.HIF_URGENT_CAUSE, 5, 1⟩
def Fld.HIF_URGENT_CAUSE_MGMT_UE : Fld := ⟨Reg.HIF_URGENT_CAUSE, 4, 1⟩
def Fld.HIF_URGENT_CAUSE_THERM_TRIP : Fld := ⟨Reg.HIF_URGENT_CAUSE, 3, 1⟩
def Fld.HIF_URGENT_CAUSE_REG_ALERT : Fld := ⟨Reg.HIF_URGENT_CAUSE, 2, 1⟩
def Fld.HIF_URGENT_CAUSE_PFW : Fld := ⟨Reg.HIF_URGENT_CAUSE, 1, 1⟩
def Fld.HIF_URGENT_CAUSE_CLK_FAILOVER : Fld := ⟨Reg.HIF_URGENT_CAUSE, 0, 1⟩
def Fld.HIF_FAULT_STATUS_VALID : Fld := ⟨Reg.HIF_FAULT_STATUS, 31, 1⟩
def Fld.HIF_FAULT_STATUS_OVERRUN : Fld := ⟨Reg.HIF_FAULT_STATUS, 30, 1⟩
def Fld.HIF_FAULT_STATUS_STATUS : Fld := ⟨Reg.HIF_FAULT_STATUS, 0, 16⟩
def Fld.HIF_FAULT_ADDR_BAR : Fld := ⟨Reg.HIF_FAULT_ADDR, 62, 2⟩
def Fld.HIF_FAULT_ADDR_OFFSET : Fld := ⟨Reg.HIF_FAULT_ADDR, 0, 26⟩
def Fld.TILE_ID_SITE (u : Nat) : Fld := ⟨Reg.TILE_ID u, 8, 8⟩
def Fld.TILE_ID_LOGICAL (u : Nat) : Fld := ⟨Reg.TILE_ID u, 0, 8⟩
def Fld.TILE_STATUS_TRAPPED (u : Nat) : Fld := ⟨Reg.TILE_STATUS u, 31, 1⟩
def Fld.TILE_STATUS_POSTED_FAULT (u : Nat) : Fld := ⟨Reg.TILE_STATUS u, 30, 1⟩
def Fld.TILE_STATUS_SB_COUNT (u : Nat) : Fld := ⟨Reg.TILE_STATUS u, 23, 7⟩
def Fld.TILE_STATUS_WAIT_CTR (u : Nat) : Fld := ⟨Reg.TILE_STATUS u, 6, 5⟩
def Fld.TILE_STATUS_WAITING (u : Nat) : Fld := ⟨Reg.TILE_STATUS u, 5, 1⟩
def Fld.TILE_STATUS_FENCING (u : Nat) : Fld := ⟨Reg.TILE_STATUS u, 4, 1⟩
def Fld.TILE_STATUS_ENGINE (u : Nat) : Fld := ⟨Reg.TILE_STATUS u, 0, 4⟩
def Fld.TILE_NUMFLAGS_NONREPRO (u : Nat) : Fld := ⟨Reg.TILE_NUMFLAGS u, 9, 1⟩
def Fld.TILE_NUMFLAGS_ANCHOR_MISMATCH (u : Nat) : Fld := ⟨Reg.TILE_NUMFLAGS u, 8, 1⟩
def Fld.TILE_NUMFLAGS_ABOVE_WINDOW (u : Nat) : Fld := ⟨Reg.TILE_NUMFLAGS u, 7, 1⟩
def Fld.TILE_NUMFLAGS_BELOW_WINDOW (u : Nat) : Fld := ⟨Reg.TILE_NUMFLAGS u, 6, 1⟩
def Fld.TILE_NUMFLAGS_SATURATE (u : Nat) : Fld := ⟨Reg.TILE_NUMFLAGS u, 5, 1⟩
def Fld.TILE_NUMFLAGS_INVALID (u : Nat) : Fld := ⟨Reg.TILE_NUMFLAGS u, 4, 1⟩
def Fld.TILE_NUMFLAGS_DIV_ZERO (u : Nat) : Fld := ⟨Reg.TILE_NUMFLAGS u, 3, 1⟩
def Fld.TILE_NUMFLAGS_OVERFLOW (u : Nat) : Fld := ⟨Reg.TILE_NUMFLAGS u, 2, 1⟩
def Fld.TILE_NUMFLAGS_UNDERFLOW (u : Nat) : Fld := ⟨Reg.TILE_NUMFLAGS u, 1, 1⟩
def Fld.TILE_NUMFLAGS_INEXACT (u : Nat) : Fld := ⟨Reg.TILE_NUMFLAGS u, 0, 1⟩
def Fld.TILE_EXC_STATUS_STATUS (u : Nat) : Fld := ⟨Reg.TILE_EXC_STATUS u, 16, 16⟩
def Fld.TILE_EXC_STATUS_OPCODE (u : Nat) : Fld := ⟨Reg.TILE_EXC_STATUS u, 0, 16⟩
def Fld.TILE_RO_CFG_RSP_TIMEOUT_US (u : Nat) : Fld := ⟨Reg.TILE_RO_CFG u, 0, 16⟩
def Fld.TILE_EVCNT_COUNT (u e : Nat) : Fld := ⟨Reg.TILE_EVCNT u e, 0, 48⟩
def Fld.SPL_STATUS_ROWS_DONE : Fld := ⟨Reg.SPL_STATUS, 16, 16⟩
def Fld.SPL_STATUS_WAITING : Fld := ⟨Reg.SPL_STATUS, 5, 1⟩
def Fld.SPL_STATUS_WAIT_CTR : Fld := ⟨Reg.SPL_STATUS, 1, 4⟩
def Fld.SPL_STATUS_BUSY : Fld := ⟨Reg.SPL_STATUS, 0, 1⟩
def Fld.SPL_NUMFLAGS_NONREPRO : Fld := ⟨Reg.SPL_NUMFLAGS, 9, 1⟩
def Fld.SPL_NUMFLAGS_ANCHOR_MISMATCH : Fld := ⟨Reg.SPL_NUMFLAGS, 8, 1⟩
def Fld.SPL_NUMFLAGS_ABOVE_WINDOW : Fld := ⟨Reg.SPL_NUMFLAGS, 7, 1⟩
def Fld.SPL_NUMFLAGS_BELOW_WINDOW : Fld := ⟨Reg.SPL_NUMFLAGS, 6, 1⟩
def Fld.SPL_NUMFLAGS_SATURATE : Fld := ⟨Reg.SPL_NUMFLAGS, 5, 1⟩
def Fld.SPL_NUMFLAGS_INVALID : Fld := ⟨Reg.SPL_NUMFLAGS, 4, 1⟩
def Fld.SPL_NUMFLAGS_DIV_ZERO : Fld := ⟨Reg.SPL_NUMFLAGS, 3, 1⟩
def Fld.SPL_NUMFLAGS_OVERFLOW : Fld := ⟨Reg.SPL_NUMFLAGS, 2, 1⟩
def Fld.SPL_NUMFLAGS_UNDERFLOW : Fld := ⟨Reg.SPL_NUMFLAGS, 1, 1⟩
def Fld.SPL_NUMFLAGS_INEXACT : Fld := ⟨Reg.SPL_NUMFLAGS, 0, 1⟩
def Fld.SPL_SYNC_OVF_OVF : Fld := ⟨Reg.SPL_SYNC_OVF, 0, 16⟩
def Fld.SPL_EXC_STATUS_STATUS : Fld := ⟨Reg.SPL_EXC_STATUS, 16, 16⟩
def Fld.SPL_EXC_STATUS_OPCODE : Fld := ⟨Reg.SPL_EXC_STATUS, 0, 16⟩
def Fld.HBM_STATUS_PATROL_ACTIVE (u : Nat) : Fld := ⟨Reg.HBM_STATUS u, 31, 1⟩
def Fld.HBM_STATUS_SCRUB_ACTIVE (u : Nat) : Fld := ⟨Reg.HBM_STATUS u, 30, 1⟩
def Fld.HBM_STATUS_RETIRE_ACTIVE (u : Nat) : Fld := ⟨Reg.HBM_STATUS u, 29, 1⟩
def Fld.HBM_STATUS_TEMP_C (u : Nat) : Fld := ⟨Reg.HBM_STATUS u, 8, 8⟩
def Fld.HBM_STATUS_STATE (u : Nat) : Fld := ⟨Reg.HBM_STATUS u, 0, 2⟩
def Fld.HBM_CE_CNT_COUNT (u : Nat) : Fld := ⟨Reg.HBM_CE_CNT u, 0, 48⟩
def Fld.HBM_ERR_ADDR_ADDR (u : Nat) : Fld := ⟨Reg.HBM_ERR_ADDR u, 5, 59⟩
def Fld.HBM_ERR_ADDR_UE (u : Nat) : Fld := ⟨Reg.HBM_ERR_ADDR u, 1, 1⟩
def Fld.HBM_ERR_ADDR_VALID (u : Nat) : Fld := ⟨Reg.HBM_ERR_ADDR u, 0, 1⟩
def Fld.HBM_PATROL_CFG_PERIOD_H (u : Nat) : Fld := ⟨Reg.HBM_PATROL_CFG u, 8, 8⟩
def Fld.HBM_PATROL_POS_PASSES (u : Nat) : Fld := ⟨Reg.HBM_PATROL_POS u, 20, 12⟩
def Fld.HBM_PATROL_POS_PAGE (u : Nat) : Fld := ⟨Reg.HBM_PATROL_POS u, 0, 20⟩
def Fld.HBM_RETIRE_CFG_CE_THRESH (u : Nat) : Fld := ⟨Reg.HBM_RETIRE_CFG u, 0, 8⟩
def Fld.HBM_REMAP_STATE_FREE (u : Nat) : Fld := ⟨Reg.HBM_REMAP_STATE u, 16, 16⟩
def Fld.HBM_REMAP_STATE_RETIRED (u : Nat) : Fld := ⟨Reg.HBM_REMAP_STATE u, 0, 16⟩
def Fld.SLC_ERR_ADDR_ADDR (u : Nat) : Fld := ⟨Reg.SLC_ERR_ADDR u, 6, 58⟩
def Fld.SLC_ERR_ADDR_UE (u : Nat) : Fld := ⟨Reg.SLC_ERR_ADDR u, 1, 1⟩
def Fld.SLC_ERR_ADDR_VALID (u : Nat) : Fld := ⟨Reg.SLC_ERR_ADDR u, 0, 1⟩
def Fld.SLC_REMAP_USED_USED (u : Nat) : Fld := ⟨Reg.SLC_REMAP_USED u, 0, 11⟩
def Fld.CRL_STATUS_QUEUE (u : Nat) : Fld := ⟨Reg.CRL_STATUS u, 24, 8⟩
def Fld.CRL_STATUS_ZEROING (u : Nat) : Fld := ⟨Reg.CRL_STATUS u, 3, 1⟩
def Fld.CRL_STATUS_WALKING (u : Nat) : Fld := ⟨Reg.CRL_STATUS u, 2, 1⟩
def Fld.CRL_STATUS_STATE (u : Nat) : Fld := ⟨Reg.CRL_STATUS u, 0, 2⟩
def Fld.CRL_TLB_HIT_COUNT (u : Nat) : Fld := ⟨Reg.CRL_TLB_HIT u, 0, 48⟩
def Fld.CRL_TLB_MISS_COUNT (u : Nat) : Fld := ⟨Reg.CRL_TLB_MISS u, 0, 48⟩
def Fld.CRL_GATHER_CNT_COUNT (u : Nat) : Fld := ⟨Reg.CRL_GATHER_CNT u, 0, 48⟩
def Fld.ATY_INWIN_BASE_BASE (n : Nat) : Fld := ⟨Reg.ATY_INWIN_BASE n, 16, 36⟩
def Fld.ATY_INWIN_CTRL_MOD_HI (n : Nat) : Fld := ⟨Reg.ATY_INWIN_CTRL n, 52, 12⟩
def Fld.ATY_INWIN_CTRL_MOD_LO (n : Nat) : Fld := ⟨Reg.ATY_INWIN_CTRL n, 40, 12⟩
def Fld.ATY_INWIN_CTRL_SIZE_64K (n : Nat) : Fld := ⟨Reg.ATY_INWIN_CTRL n, 8, 32⟩
def Fld.ATY_INWIN_CTRL_PERM (n : Nat) : Fld := ⟨Reg.ATY_INWIN_CTRL n, 0, 5⟩
def Fld.ATY_IN_REFUSED_SRC_OP : Fld := ⟨Reg.ATY_IN_REFUSED_SRC, 19, 6⟩
def Fld.ATY_IN_REFUSED_SRC_SRC_UNIT : Fld := ⟨Reg.ATY_IN_REFUSED_SRC, 12, 7⟩
def Fld.ATY_IN_REFUSED_SRC_SRC_MOD : Fld := ⟨Reg.ATY_IN_REFUSED_SRC, 0, 12⟩
def Fld.ATY_PORT_STATUS_STATE (u : Nat) : Fld := ⟨Reg.ATY_PORT_STATUS u, 28, 4⟩
def Fld.ATY_PORT_STATUS_LINK (u : Nat) : Fld := ⟨Reg.ATY_PORT_STATUS u, 23, 5⟩
def Fld.ATY_PORT_STATUS_LEVEL (u : Nat) : Fld := ⟨Reg.ATY_PORT_STATUS u, 15, 8⟩
def Fld.ATY_PORT_STATUS_FAR_SPINE (u : Nat) : Fld := ⟨Reg.ATY_PORT_STATUS u, 14, 1⟩
def Fld.ATY_PORT_STATUS_EXPECT_MISMATCH (u : Nat) : Fld := ⟨Reg.ATY_PORT_STATUS u, 13, 1⟩
def Fld.ATY_PORT_STATUS_UPSTREAM (u : Nat) : Fld := ⟨Reg.ATY_PORT_STATUS u, 12, 1⟩
def Fld.ATY_PORT_STATUS_RETRAIN_FAILS (u : Nat) : Fld := ⟨Reg.ATY_PORT_STATUS u, 8, 4⟩
def Fld.ATY_PORT_ERR_CFG_CORR_THRESH (u : Nat) : Fld := ⟨Reg.ATY_PORT_ERR_CFG u, 16, 16⟩
def Fld.ATY_PORT_ERR_CFG_UNCORR_THRESH (u : Nat) : Fld := ⟨Reg.ATY_PORT_ERR_CFG u, 8, 8⟩
def Fld.ATY_FAR_IDENT_MOD (u : Nat) : Fld := ⟨Reg.ATY_FAR_IDENT u, 20, 12⟩
def Fld.ATY_FAR_IDENT_LINK (u : Nat) : Fld := ⟨Reg.ATY_FAR_IDENT u, 16, 4⟩
def Fld.ATY_FAR_IDENT_PROTO_LEVEL (u : Nat) : Fld := ⟨Reg.ATY_FAR_IDENT u, 8, 8⟩
def Fld.ATY_FAR_IDENT_NUMERICS_LEVEL (u : Nat) : Fld := ⟨Reg.ATY_FAR_IDENT u, 0, 8⟩
def Fld.ATY_EXPECT_EN (u : Nat) : Fld := ⟨Reg.ATY_EXPECT u, 31, 1⟩
def Fld.ATY_EXPECT_MOD (u : Nat) : Fld := ⟨Reg.ATY_EXPECT u, 8, 12⟩
def Fld.ATY_EXPECT_LINK (u : Nat) : Fld := ⟨Reg.ATY_EXPECT u, 0, 4⟩
def Fld.ATY_FAB_CFG_JOIN : Fld := ⟨Reg.ATY_FAB_CFG, 48, 1⟩
def Fld.ATY_FAB_CFG_DOWNSTREAM_MASK : Fld := ⟨Reg.ATY_FAB_CFG, 32, 16⟩
def Fld.ATY_FAB_CFG_UPSTREAM_LINK : Fld := ⟨Reg.ATY_FAB_CFG, 16, 5⟩
def Fld.ATY_FAB_CFG_PRIORITY : Fld := ⟨Reg.ATY_FAB_CFG, 12, 4⟩
def Fld.ATY_FAB_CFG_MOD_NUM : Fld := ⟨Reg.ATY_FAB_CFG, 0, 12⟩
def Fld.ATY_FAB_STATUS_MASTER_MOD : Fld := ⟨Reg.ATY_FAB_STATUS, 52, 12⟩
def Fld.ATY_FAB_STATUS_FLOOR : Fld := ⟨Reg.ATY_FAB_STATUS, 44, 8⟩
def Fld.ATY_FAB_STATUS_PROTO_LEVEL : Fld := ⟨Reg.ATY_FAB_STATUS, 36, 8⟩
def Fld.ATY_FAB_STATUS_NUMERICS_LEVEL : Fld := ⟨Reg.ATY_FAB_STATUS, 28, 8⟩
def Fld.ATY_FAB_STATUS_ELECT : Fld := ⟨Reg.ATY_FAB_STATUS, 26, 2⟩
def Fld.ATY_FAB_STATUS_ELIGIBLE : Fld := ⟨Reg.ATY_FAB_STATUS, 25, 1⟩
def Fld.ATY_FAB_STATUS_ISOLATED : Fld := ⟨Reg.ATY_FAB_STATUS, 24, 1⟩
def Fld.ATY_FAB_STATUS_ADMIT : Fld := ⟨Reg.ATY_FAB_STATUS, 22, 2⟩
def Fld.ATY_ROUTE_ALT_MASK (m : Nat) : Fld := ⟨Reg.ATY_ROUTE m, 16, 16⟩
def Fld.ATY_ROUTE_PRI_MASK (m : Nat) : Fld := ⟨Reg.ATY_ROUTE m, 0, 16⟩
def Fld.SRV_STATUS_STATE : Fld := ⟨Reg.SRV_STATUS, 30, 2⟩
def Fld.SRV_STATUS_REPRO : Fld := ⟨Reg.SRV_STATUS, 29, 1⟩
def Fld.SRV_STATUS_ACTIVE : Fld := ⟨Reg.SRV_STATUS, 0, 13⟩
def Fld.SRV_QUEUED_COUNT : Fld := ⟨Reg.SRV_QUEUED, 0, 14⟩
def Fld.SRV_PAUSED_COUNT : Fld := ⟨Reg.SRV_PAUSED, 0, 13⟩
def Fld.SRV_ACCT_BUCKET_BUCKET (a : Nat) : Fld := ⟨Reg.SRV_ACCT_BUCKET a, 0, 40⟩
def Fld.SRV_ACCT_STATE_THROTTLED (a : Nat) : Fld := ⟨Reg.SRV_ACCT_STATE a, 31, 1⟩
def Fld.SRV_ACCT_STATE_ACTIVE (a : Nat) : Fld := ⟨Reg.SRV_ACCT_STATE a, 16, 13⟩
def Fld.SRV_ACCT_STATE_PRIORITY (a : Nat) : Fld := ⟨Reg.SRV_ACCT_STATE a, 0, 3⟩
def Fld.SRV_RING_CFG_COMPAT (r : Nat) : Fld := ⟨Reg.SRV_RING_CFG r, 31, 1⟩
def Fld.SRV_RING_CFG_TBT_TARGET_MS (r : Nat) : Fld := ⟨Reg.SRV_RING_CFG r, 16, 8⟩
def Fld.SRV_RING_CFG_TTFT_TARGET_MS (r : Nat) : Fld := ⟨Reg.SRV_RING_CFG r, 0, 16⟩
def Fld.RIM_STATUS_STATE : Fld := ⟨Reg.RIM_STATUS, 29, 3⟩
def Fld.RIM_STATUS_STREAMS : Fld := ⟨Reg.RIM_STATUS, 0, 7⟩
def Fld.RIM_TILES_TILE_B : Fld := ⟨Reg.RIM_TILES, 8, 8⟩
def Fld.RIM_TILES_TILE_A : Fld := ⟨Reg.RIM_TILES, 0, 8⟩
def Fld.RIM_STR_STATUS_SSTATE (s : Nat) : Fld := ⟨Reg.RIM_STR_STATUS s, 30, 2⟩
def Fld.RIM_STR_STATUS_KAT_PASS (s : Nat) : Fld := ⟨Reg.RIM_STR_STATUS s, 29, 1⟩
def Fld.RIM_STR_STATUS_CONSEC_MISS (s : Nat) : Fld := ⟨Reg.RIM_STR_STATUS s, 0, 8⟩
def Fld.PLT_STATUS_LISTEN_ONLY : Fld := ⟨Reg.PLT_STATUS, 31, 1⟩
def Fld.PLT_STATUS_LINK_UP : Fld := ⟨Reg.PLT_STATUS, 0, 2⟩
def Fld.PLT_CFG_ETHERTYPE : Fld := ⟨Reg.PLT_CFG, 16, 16⟩
def Fld.PLT_CFG_DRIFT_LIMIT : Fld := ⟨Reg.PLT_CFG, 8, 8⟩
def Fld.PLT_PTP_STATUS_LOCKED : Fld := ⟨Reg.PLT_PTP_STATUS, 31, 1⟩
def Fld.PLT_PTP_STATUS_DRIFT_ALARM : Fld := ⟨Reg.PLT_PTP_STATUS, 30, 1⟩
def Fld.PLT_PTP_STATUS_SLAVE_PORT : Fld := ⟨Reg.PLT_PTP_STATUS, 24, 1⟩
def Fld.PLT_PTP_STATUS_RATE_PPB : Fld := ⟨Reg.PLT_PTP_STATUS, 0, 24⟩
def Fld.PLT_PORT_MAC_MAC (p : Nat) : Fld := ⟨Reg.PLT_PORT_MAC p, 0, 48⟩
def Fld.PLT_PORT_CTL_PDELAY_NS (p : Nat) : Fld := ⟨Reg.PLT_PORT_CTL p, 16, 16⟩
def Fld.PLT_PORT_CTL_EN (p : Nat) : Fld := ⟨Reg.PLT_PORT_CTL p, 2, 1⟩
def Fld.PLT_PORT_CTL_FEC (p : Nat) : Fld := ⟨Reg.PLT_PORT_CTL p, 1, 1⟩
def Fld.PLT_PORT_CTL_AN_OFF (p : Nat) : Fld := ⟨Reg.PLT_PORT_CTL p, 0, 1⟩
def Fld.PAIR_STATUS_LINK_UP : Fld := ⟨Reg.PAIR_STATUS, 31, 1⟩
def Fld.PAIR_STATUS_PAIR_LINK_DOWN : Fld := ⟨Reg.PAIR_STATUS, 30, 1⟩
def Fld.PAIR_STATUS_FABRIC_OK : Fld := ⟨Reg.PAIR_STATUS, 29, 1⟩
def Fld.PAIR_STATUS_PARTNER : Fld := ⟨Reg.PAIR_STATUS, 27, 2⟩
def Fld.PAIR_STATUS_POS : Fld := ⟨Reg.PAIR_STATUS, 26, 1⟩
def Fld.PAIR_STATUS_POS_CONFLICT : Fld := ⟨Reg.PAIR_STATUS, 25, 1⟩
def Fld.PAIR_STATUS_LEVEL_DIFF : Fld := ⟨Reg.PAIR_STATUS, 24, 1⟩
def Fld.PAIR_STATUS_CONFIGURED : Fld := ⟨Reg.PAIR_STATUS, 23, 1⟩
def Fld.PAIR_CFG_PAIR_ID : Fld := ⟨Reg.PAIR_CFG, 48, 16⟩
def Fld.PAIR_CFG_PARTNER_MOD : Fld := ⟨Reg.PAIR_CFG, 36, 12⟩
def Fld.PAIR_CFG_BEACON_US : Fld := ⟨Reg.PAIR_CFG, 24, 10⟩
def Fld.PAIR_CFG_BEACON_OFF10 : Fld := ⟨Reg.PAIR_CFG, 0, 24⟩
def Fld.PAIR_SVC_STATUS_ROLE (n : Nat) : Fld := ⟨Reg.PAIR_SVC_STATUS n, 29, 3⟩
def Fld.PAIR_SVC_STATUS_CMP (n : Nat) : Fld := ⟨Reg.PAIR_SVC_STATUS n, 27, 2⟩
def Fld.PAIR_SVC_STATUS_TYPE (n : Nat) : Fld := ⟨Reg.PAIR_SVC_STATUS n, 26, 1⟩
def Fld.PAIR_SVC_STATUS_PINNED (n : Nat) : Fld := ⟨Reg.PAIR_SVC_STATUS n, 25, 1⟩
def Fld.PAIR_SVC_STATUS_PREF (n : Nat) : Fld := ⟨Reg.PAIR_SVC_STATUS n, 24, 1⟩
def Fld.PAIR_SVC_STATUS_MATCH_RUN (n : Nat) : Fld := ⟨Reg.PAIR_SVC_STATUS n, 16, 5⟩
def Fld.PAIR_SVC_STATUS_MISMATCH_RUN (n : Nat) : Fld := ⟨Reg.PAIR_SVC_STATUS n, 8, 2⟩
def Fld.PAIR_SVC_STATUS_ID (n : Nat) : Fld := ⟨Reg.PAIR_SVC_STATUS n, 0, 8⟩
def Fld.VID_STATUS_CORE_BUSY : Fld := ⟨Reg.VID_STATUS, 8, 5⟩
def Fld.VID_STATUS_SESSIONS : Fld := ⟨Reg.VID_STATUS, 0, 8⟩
def Fld.VID_LOAD_LIVE_LOAD : Fld := ⟨Reg.VID_LOAD_LIVE, 0, 13⟩
def Fld.VID_LOAD_BATCH_LOAD : Fld := ⟨Reg.VID_LOAD_BATCH, 0, 13⟩
def Fld.VID_SESS_STATUS_STATE (n : Nat) : Fld := ⟨Reg.VID_SESS_STATUS n, 30, 2⟩
def Fld.VID_SESS_STATUS_LIVE (n : Nat) : Fld := ⟨Reg.VID_SESS_STATUS n, 29, 1⟩
def Fld.VID_SESS_STATUS_DIR (n : Nat) : Fld := ⟨Reg.VID_SESS_STATUS n, 28, 1⟩
def Fld.VID_SESS_STATUS_CODEC (n : Nat) : Fld := ⟨Reg.VID_SESS_STATUS n, 26, 2⟩
def Fld.VID_SESS_STATUS_RING (n : Nat) : Fld := ⟨Reg.VID_SESS_STATUS n, 24, 2⟩
def Fld.VID_SESS_STATUS_LOAD (n : Nat) : Fld := ⟨Reg.VID_SESS_STATUS n, 0, 10⟩
def Fld.VID_SESS_PEND_COUNT (n : Nat) : Fld := ⟨Reg.VID_SESS_PEND n, 0, 16⟩
def Fld.SEC_STATUS_LC : Fld := ⟨Reg.SEC_STATUS, 30, 2⟩
def Fld.SEC_STATUS_LC_PENDING : Fld := ⟨Reg.SEC_STATUS, 29, 1⟩
def Fld.SEC_STATUS_DEBUG_OPEN : Fld := ⟨Reg.SEC_STATUS, 28, 1⟩
def Fld.SEC_STATUS_TENANT_OPEN : Fld := ⟨Reg.SEC_STATUS, 27, 1⟩
def Fld.SEC_STATUS_CONF : Fld := ⟨Reg.SEC_STATUS, 26, 1⟩
def Fld.SEC_STATUS_SCRUB_REQUIRED : Fld := ⟨Reg.SEC_STATUS, 25, 1⟩
def Fld.SEC_STATUS_SCRUB_ACTIVE : Fld := ⟨Reg.SEC_STATUS, 24, 1⟩
def Fld.SEC_STATUS_SCRUB_WAIT_TOKEN : Fld := ⟨Reg.SEC_STATUS, 23, 1⟩
def Fld.SEC_STATUS_COMMIT : Fld := ⟨Reg.SEC_STATUS, 22, 1⟩
def Fld.SEC_STATUS_UPDATE_STAGED : Fld := ⟨Reg.SEC_STATUS, 21, 1⟩
def Fld.SEC_STATUS_UPDATE_PENDING_BOOT : Fld := ⟨Reg.SEC_STATUS, 20, 1⟩
def Fld.SEC_STATUS_OWNER_SET : Fld := ⟨Reg.SEC_STATUS, 19, 1⟩
def Fld.SEC_STATUS_ROLLBACK : Fld := ⟨Reg.SEC_STATUS, 0, 8⟩
def Fld.SEC_TRNG_STATUS_ENTROPY_FAIL : Fld := ⟨Reg.SEC_TRNG_STATUS, 31, 1⟩
def Fld.SEC_TRNG_STATUS_DRBG_READY : Fld := ⟨Reg.SEC_TRNG_STATUS, 30, 1⟩
def Fld.SEC_TRNG_STATUS_STARTUP : Fld := ⟨Reg.SEC_TRNG_STATUS, 29, 1⟩
def Fld.SEC_TRNG_STATUS_FAIL_RUN : Fld := ⟨Reg.SEC_TRNG_STATUS, 24, 2⟩
def Fld.SEC_TRNG_STATUS_WAITERS : Fld := ⟨Reg.SEC_TRNG_STATUS, 0, 24⟩
def Fld.SEC_SCRUB_POS_STACKS_DONE : Fld := ⟨Reg.SEC_SCRUB_POS, 56, 8⟩
def Fld.SEC_SCRUB_POS_OFFSET : Fld := ⟨Reg.SEC_SCRUB_POS, 0, 36⟩
def Fld.SEC_MEAS_STATE_UNMEASURED : Fld := ⟨Reg.SEC_MEAS_STATE, 1, 11⟩
def Fld.CLK_STATUS_SRC : Fld := ⟨Reg.CLK_STATUS, 30, 2⟩
def Fld.CLK_STATUS_MODE : Fld := ⟨Reg.CLK_STATUS, 29, 1⟩
def Fld.CLK_STATUS_SWITCHING : Fld := ⟨Reg.CLK_STATUS, 28, 1⟩
def Fld.CLK_READY_READY : Fld := ⟨Reg.CLK_READY, 0, 3⟩
def Fld.CLK_FAIL_LINK : Fld := ⟨Reg.CLK_FAIL, 2, 1⟩
def Fld.CLK_FAIL_TCXO : Fld := ⟨Reg.CLK_FAIL, 1, 1⟩
def Fld.CLK_FAIL_OSC : Fld := ⟨Reg.CLK_FAIL, 0, 1⟩
def Fld.CLK_SSC_RATE_E : Fld := ⟨Reg.CLK_SSC, 24, 6⟩
def Fld.CLK_SSC_SPREAD_E : Fld := ⟨Reg.CLK_SSC, 16, 8⟩
def Fld.CLK_SSC_RATE_W : Fld := ⟨Reg.CLK_SSC, 8, 6⟩
def Fld.CLK_SSC_SPREAD_W : Fld := ⟨Reg.CLK_SSC, 0, 8⟩
def Fld.CLK_REGBUS_CFG_DIV : Fld := ⟨Reg.CLK_REGBUS_CFG, 0, 4⟩
def Fld.CLK_EN1_EN : Fld := ⟨Reg.CLK_EN1, 0, 36⟩
def Fld.CLK_TIME_STATUS_SYNCED : Fld := ⟨Reg.CLK_TIME_STATUS, 31, 1⟩
def Fld.CLK_TIME_STATUS_HOLDOVER : Fld := ⟨Reg.CLK_TIME_STATUS, 30, 1⟩
def Fld.CLK_TIME_STATUS_TIME_FAULT : Fld := ⟨Reg.CLK_TIME_STATUS, 29, 1⟩
def Fld.CLK_TIME_STATUS_HOPS : Fld := ⟨Reg.CLK_TIME_STATUS, 20, 4⟩
def Fld.CLK_TIME_STATUS_OFFSET : Fld := ⟨Reg.CLK_TIME_STATUS, 0, 20⟩
def Fld.PWR_STATUS_PFW : Fld := ⟨Reg.PWR_STATUS, 31, 1⟩
def Fld.PWR_STATUS_PFW_SEEN : Fld := ⟨Reg.PWR_STATUS, 30, 1⟩
def Fld.PWR_STATUS_REG_ALERT : Fld := ⟨Reg.PWR_STATUS, 29, 1⟩
def Fld.PWR_STATUS_REG_ALERT_SEEN : Fld := ⟨Reg.PWR_STATUS, 28, 1⟩
def Fld.PWR_STATUS_THERM_TRIP_SEEN : Fld := ⟨Reg.PWR_STATUS, 27, 1⟩
def Fld.PWR_STATUS_CAP_LIMITING : Fld := ⟨Reg.PWR_STATUS, 26, 1⟩
def Fld.PWR_STATUS_CAP_EXCEEDED : Fld := ⟨Reg.PWR_STATUS, 25, 1⟩
def Fld.PWR_STATUS_HOLDUP_FULL : Fld := ⟨Reg.PWR_STATUS, 24, 1⟩
def Fld.PWR_STATUS_INPUT_LOW : Fld := ⟨Reg.PWR_STATUS, 23, 1⟩
def Fld.PWR_STATUS_ADMIT_STOPPED : Fld := ⟨Reg.PWR_STATUS, 22, 1⟩
def Fld.PWR_CFG_CAP_W : Fld := ⟨Reg.PWR_CFG, 0, 11⟩
def Fld.PWR_INPUT_V_10MV : Fld := ⟨Reg.PWR_INPUT, 16, 16⟩
def Fld.PWR_INPUT_I_10MA : Fld := ⟨Reg.PWR_INPUT, 0, 16⟩
def Fld.PWR_HOLDUP_V_10MV : Fld := ⟨Reg.PWR_HOLDUP, 16, 16⟩
def Fld.PWR_POWER_AVG_10MS : Fld := ⟨Reg.PWR_POWER, 16, 16⟩
def Fld.PWR_POWER_AVG_100US : Fld := ⟨Reg.PWR_POWER, 0, 16⟩
def Fld.PWR_PHASE_W_ACTIVE : Fld := ⟨Reg.PWR_PHASE, 27, 5⟩
def Fld.PWR_PHASE_W_SPARE : Fld := ⟨Reg.PWR_PHASE, 24, 3⟩
def Fld.PWR_PHASE_E_ACTIVE : Fld := ⟨Reg.PWR_PHASE, 11, 5⟩
def Fld.PWR_PHASE_E_SPARE : Fld := ⟨Reg.PWR_PHASE, 8, 3⟩
def Fld.PWR_DROOP_CFG_THRESH_MV : Fld := ⟨Reg.PWR_DROOP_CFG, 0, 8⟩
def Fld.PWR_WAKE_Q_PENDING : Fld := ⟨Reg.PWR_WAKE_Q, 0, 6⟩
def Fld.PWR_ISL_PSTATE (i : Nat) : Fld := ⟨Reg.PWR_ISL i, 29, 3⟩
def Fld.PWR_ISL_FIXED (i : Nat) : Fld := ⟨Reg.PWR_ISL i, 28, 1⟩
def Fld.PWR_ISL_THROTTLED (i : Nat) : Fld := ⟨Reg.PWR_ISL i, 27, 1⟩
def Fld.PWR_ISL_FORCED_FLOOR (i : Nat) : Fld := ⟨Reg.PWR_ISL i, 26, 1⟩
def Fld.PWR_ISL_STRETCH_MAX (i : Nat) : Fld := ⟨Reg.PWR_ISL i, 16, 9⟩
def Fld.PWR_ISL_TEMP_C (i : Nat) : Fld := ⟨Reg.PWR_ISL i, 8, 8⟩
def Fld.RST_CAUSE_LEVEL : Fld := ⟨Reg.RST_CAUSE, 30, 2⟩
def Fld.RST_CAUSE_SUPPLY : Fld := ⟨Reg.RST_CAUSE, 15, 1⟩
def Fld.RST_CAUSE_PERST : Fld := ⟨Reg.RST_CAUSE, 14, 1⟩
def Fld.RST_CAUSE_THERM : Fld := ⟨Reg.RST_CAUSE, 13, 1⟩
def Fld.RST_CAUSE_CMD_SYS : Fld := ⟨Reg.RST_CAUSE, 12, 1⟩
def Fld.RST_CAUSE_CMD_CORE : Fld := ⟨Reg.RST_CAUSE, 11, 1⟩
def Fld.RST_CAUSE_WDOG_BRUDO : Fld := ⟨Reg.RST_CAUSE, 10, 1⟩
def Fld.RST_CAUSE_WDOG_MGMT : Fld := ⟨Reg.RST_CAUSE, 9, 1⟩
def Fld.RST_CAUSE_FLR : Fld := ⟨Reg.RST_CAUSE, 8, 1⟩
def Fld.RST_CAUSE_HOT_RESET : Fld := ⟨Reg.RST_CAUSE, 7, 1⟩
def Fld.RST_CAUSE_DEBUG : Fld := ⟨Reg.RST_CAUSE, 6, 1⟩
def Fld.RST_CAUSE_ESCALATED : Fld := ⟨Reg.RST_CAUSE, 4, 1⟩
def Fld.RST_CAUSE_HELD : Fld := ⟨Reg.RST_CAUSE, 3, 1⟩
def Fld.RST_CAUSE_POWER_ON : Fld := ⟨Reg.RST_CAUSE, 2, 1⟩
def Fld.RST_STATUS_STAGE : Fld := ⟨Reg.RST_STATUS, 28, 4⟩
def Fld.RST_STATUS_HOLD_PENDING : Fld := ⟨Reg.RST_STATUS, 2, 1⟩
def Fld.RST_STATUS_RSEL_UNSTABLE : Fld := ⟨Reg.RST_STATUS, 1, 1⟩
def Fld.RST_STATUS_RET_LOST : Fld := ⟨Reg.RST_STATUS, 0, 1⟩
def Fld.RST_STRAP_RSEL_ADC : Fld := ⟨Reg.RST_STRAP, 24, 8⟩
def Fld.RST_STRAP_CODE : Fld := ⟨Reg.RST_STRAP, 16, 4⟩
def Fld.RST_STRAP_SLOT_ID : Fld := ⟨Reg.RST_STRAP, 0, 6⟩
def Fld.RST_COUNT_CORE_CNT : Fld := ⟨Reg.RST_COUNT, 16, 16⟩
def Fld.RST_COUNT_SYS_CNT : Fld := ⟨Reg.RST_COUNT, 0, 16⟩
def Fld.RST_IMG_LEVELS_SEC_VERSION : Fld := ⟨Reg.RST_IMG_LEVELS, 24, 8⟩
def Fld.RST_IMG_LEVELS_PROTO_LEVEL : Fld := ⟨Reg.RST_IMG_LEVELS, 16, 8⟩
def Fld.RST_IMG_LEVELS_NUMERICS_LEVEL : Fld := ⟨Reg.RST_IMG_LEVELS, 8, 8⟩
def Fld.RST_UPD_STATUS_STATE : Fld := ⟨Reg.RST_UPD_STATUS, 29, 3⟩
def Fld.RST_UPD_STATUS_STAGED : Fld := ⟨Reg.RST_UPD_STATUS, 16, 9⟩
def Fld.RST_UPD_STATUS_TOTAL : Fld := ⟨Reg.RST_UPD_STATUS, 0, 9⟩
def Fld.RST_UPD_POS_RESUMES : Fld := ⟨Reg.RST_UPD_POS, 24, 8⟩
def Fld.RST_UPD_POS_DONE : Fld := ⟨Reg.RST_UPD_POS, 9, 9⟩
def Fld.RST_UPD_POS_SECTORS : Fld := ⟨Reg.RST_UPD_POS, 0, 9⟩
def Fld.RST_CFG_STATUS_CFG_VERSION : Fld := ⟨Reg.RST_CFG_STATUS, 16, 16⟩
def Fld.RST_CFG_STATUS_RECORDS : Fld := ⟨Reg.RST_CFG_STATUS, 6, 10⟩
def Fld.RST_CFG_STATUS_MIGRATED : Fld := ⟨Reg.RST_CFG_STATUS, 1, 1⟩
def Fld.RST_CFG_STATUS_SKIPPED : Fld := ⟨Reg.RST_CFG_STATUS, 0, 1⟩
def Fld.RAS_HEALTH_STATE : Fld := ⟨Reg.RAS_HEALTH, 30, 2⟩
def Fld.RAS_HEALTH_REPLACE : Fld := ⟨Reg.RAS_HEALTH, 29, 1⟩
def Fld.RAS_MAINT_HOLDER : Fld := ⟨Reg.RAS_MAINT, 24, 8⟩
def Fld.RAS_MAINT_SHARED : Fld := ⟨Reg.RAS_MAINT, 16, 8⟩
def Fld.RAS_MAINT_WAITING : Fld := ⟨Reg.RAS_MAINT, 8, 8⟩
def Fld.RAS_MAINT_EXCLUSIVE : Fld := ⟨Reg.RAS_MAINT, 0, 1⟩
def Fld.RAS_STORE_FULL : Fld := ⟨Reg.RAS_STORE, 31, 1⟩
def Fld.RAS_STORE_AREA : Fld := ⟨Reg.RAS_STORE, 30, 1⟩
def Fld.RAS_STORE_RECORDS : Fld := ⟨Reg.RAS_STORE, 0, 17⟩
def Fld.PMU_OVF_OVF (g : Nat) : Fld := ⟨Reg.PMU_OVF g, 0, 8⟩
def Fld.PMU_EVSEL_EN (g c : Nat) : Fld := ⟨Reg.PMU_EVSEL g c, 31, 1⟩
def Fld.PMU_EVSEL_IRQ (g c : Nat) : Fld := ⟨Reg.PMU_EVSEL g c, 30, 1⟩
def Fld.PMU_EVSEL_PRIV (g c : Nat) : Fld := ⟨Reg.PMU_EVSEL g c, 27, 3⟩
def Fld.PMU_EVSEL_CLASS (g c : Nat) : Fld := ⟨Reg.PMU_EVSEL g c, 23, 4⟩
def Fld.PMU_EVSEL_ADDR_EN (g c : Nat) : Fld := ⟨Reg.PMU_EVSEL g c, 22, 1⟩
def Fld.PMU_EVSEL_MASTER_EN (g c : Nat) : Fld := ⟨Reg.PMU_EVSEL g c, 21, 1⟩
def Fld.PMU_EVSEL_MASTER (g c : Nat) : Fld := ⟨Reg.PMU_EVSEL g c, 14, 7⟩
def Fld.PMU_EVSEL_EVENT (g c : Nat) : Fld := ⟨Reg.PMU_EVSEL g c, 0, 12⟩
def Fld.PMU_CNT_COUNT (g c : Nat) : Fld := ⟨Reg.PMU_CNT g c, 0, 48⟩
def Fld.HIF_COAL_TIME_US (v : Nat) : Fld := ⟨Reg.HIF_COAL v, 16, 10⟩
def Fld.HIF_COAL_COUNT (v : Nat) : Fld := ⟨Reg.HIF_COAL v, 0, 8⟩
def Fld.RAS_MEM_PATROL_SRAM_PERIOD_S : Fld := ⟨Reg.RAS_MEM_PATROL, 0, 17⟩
def Fld.DBG_CTL_DBG_SIDE_EFFECT : Fld := ⟨Reg.DBG_CTL, 0, 1⟩
def Fld.DBG_SEM_CFG_TIMEOUT_US : Fld := ⟨Reg.DBG_SEM_CFG, 0, 16⟩
def Fld.DBG_SEM_HELD (s : Nat) : Fld := ⟨Reg.DBG_SEM s, 31, 1⟩
def Fld.DBG_SEM_OWNER_HALTED (s : Nat) : Fld := ⟨Reg.DBG_SEM s, 30, 1⟩
def Fld.DBG_SEM_FORCED (s : Nat) : Fld := ⟨Reg.DBG_SEM s, 29, 1⟩
def Fld.DBG_SEM_OWNER (s : Nat) : Fld := ⟨Reg.DBG_SEM s, 16, 7⟩
def Fld.RST_SIDEBAND_SLOT_CHANGED : Fld := ⟨Reg.RST_SIDEBAND, 16, 1⟩
def Fld.RST_SIDEBAND_SLOT_ID_LIVE : Fld := ⟨Reg.RST_SIDEBAND, 8, 6⟩
def Fld.RST_SIDEBAND_LISTEN_ONLY : Fld := ⟨Reg.RST_SIDEBAND, 1, 1⟩
def Fld.RST_SIDEBAND_MAINT_INHIBIT : Fld := ⟨Reg.RST_SIDEBAND, 0, 1⟩
def Fld.RST_BKP0_BOOT_ATTEMPTS : Fld := ⟨Reg.RST_BKP0, 28, 4⟩
def Fld.RST_BKP0_SCRUB_REQUIRED : Fld := ⟨Reg.RST_BKP0, 27, 1⟩
def Fld.RST_BKP0_LOG_TAIL_VALID : Fld := ⟨Reg.RST_BKP0, 26, 1⟩

/-! ## Access types by offset -/

def regTable0 : List RegRow := [
  ⟨"ID_PART", 0, [], 32, 0, 0, 0, 1⟩,
  ⟨"ID_SERIAL", 8, [], 64, 0, 0, 0, 0⟩,
  ⟨"CAP_UNITS", 0x10, [], 32, 0, 0, 0, 0⟩,
  ⟨"RAS_TILE_MAP", 0x700100, [(8, 4)], 32, 0, 0, 0, 0⟩,
  ⟨"RAS_SITE_ACTIVE", 0x700120, [], 64, 0, 0, 0, 0⟩,
  ⟨"RAS_SITE_RETIRED", 0x700128, [], 64, 0, 0, 0, 0⟩,
  ⟨"RAS_PORT_STATE", 0x700130, [], 64, 0, 0, 0, 0⟩,
  ⟨"RAS_CORE_STATE", 0x700138, [], 32, 0, 0, 0, 0⟩,
  ⟨"MCC_DOORBELL", 0x100040, [], 32, 0, 0, 0, 0⟩,
  ⟨"MCC_STATUS", 0x100044, [], 32, 0, 0x26, 0, 1⟩,
  ⟨"MCC_REJECT_CNT", 0x100048, [], 32, 0, 0, 0, 0⟩,
  ⟨"MCC_ABT_DOORBELL", 0x100140, [], 32, 0, 0, 0, 0⟩,
  ⟨"HIF_RING_SQ_BASE", 0x201000, [(256, 0x40)], 64, 0, 0, 0, 0⟩,
  ⟨"HIF_RING_CQ_BASE", 0x201008, [(256, 0x40)], 64, 0, 0, 0, 0⟩,
  ⟨"HIF_RING_CFG", 0x201010, [(256, 0x40)], 32, 0, 0, 0, 0⟩,
  ⟨"HIF_RING_STATE", 0x201014, [(256, 0x40)], 32, 0, 0x18, 0, 0⟩,
  ⟨"HIF_RING_HEAD", 0x201018, [(256, 0x40)], 32, 0, 0, 0, 0⟩,
  ⟨"HIF_RING_TAIL", 0x20101c, [(256, 0x40)], 32, 0, 0, 0, 0⟩,
  ⟨"HIF_RING_CPL_TAIL", 0x201020, [(256, 0x40)], 32, 0, 0, 0, 0⟩,
  ⟨"HIF_RING_CPL_HEAD", 0x201024, [(256, 0x40)], 32, 0, 0, 0, 0⟩,
  ⟨"HIF_RING_FAULT_ADDR", 0x201028, [(256, 0x40)], 64, 0, 0, 0, 0⟩,
  ⟨"HIF_CTRL", 0x200000, [], 32, 0, 0, 0, 0⟩,
  ⟨"HIF_BLOCKED_CNT", 0x200008, [], 32, 0, 0, 0, 0⟩,
  ⟨"HIF_URGENT_CAUSE", 0x200010, [], 32, 0, 0xff, 0, 0⟩,
  ⟨"HIF_FAULT_STATUS", 0x200014, [], 32, 0, 0x80000000, 0, 0⟩,
  ⟨"HIF_FAULT_ADDR", 0x200018, [], 64, 0, 0, 0, 0⟩,
  ⟨"HIF_TAG_FAIL_CNT", 0x200020, [], 32, 0, 0, 0, 0⟩,
  ⟨"TILE_ID", 0x1000000, [(36, 0x40000)], 32, 0, 0, 0, 0xff⟩,
  ⟨"TILE_STATUS", 0x1000004, [(36, 0x40000)], 32, 0, 0, 0, 0⟩,
  ⟨"TILE_NUMFLAGS", 0x1000008, [(36, 0x40000)], 32, 0, 0x3ff, 0, 0⟩,
  ⟨"TILE_SYNC_OVF", 0x100000c, [(36, 0x40000)], 32, 0, 0xffffffff, 0, 0⟩,
  ⟨"TILE_EXC_STATUS", 0x1000010, [(36, 0x40000)], 32, 0, 0, 0, 0⟩,
  ⟨"TILE_EXC_ADDR", 0x1000018, [(36, 0x40000)], 64, 0, 0, 0, 0⟩,
  ⟨"TILE_RO_CFG", 0x1000020, [(36, 0x40000)], 32, 0xffff, 0, 0, 0x7d0⟩,
  ⟨"TILE_SB_DISCARD_CNT", 0x1000024, [(36, 0x40000)], 32, 0, 0, 0, 0⟩,
  ⟨"TILE_LATE_ACK_CNT", 0x1000028, [(36, 0x40000)], 32, 0, 0, 0, 0⟩,
  ⟨"TILE_SYNC", 0x1000100, [(36, 0x40000), (32, 4)], 32, 0xffffffff, 0, 0, 0⟩,
  ⟨"TILE_EVCNT", 0x1000200, [(36, 0x40000), (64, 8)], 64, 0, 0, 0, 0⟩,
  ⟨"SPL_STATUS", 0xd00000, [], 32, 0, 0, 0, 0⟩,
  ⟨"SPL_NUMFLAGS", 0xd00004, [], 32, 0, 0x3ff, 0, 0⟩]

def regTable1 : List RegRow := [
  ⟨"SPL_SYNC_OVF", 0xd00008, [], 32, 0, 0xffff, 0, 0⟩,
  ⟨"SPL_EXC_STATUS", 0xd00010, [], 32, 0, 0, 0, 0⟩,
  ⟨"SPL_EXC_ADDR", 0xd00018, [], 64, 0, 0, 0, 0⟩,
  ⟨"SPL_SYNC", 0xd00100, [(16, 4)], 32, 0xffffffff, 0, 0, 0⟩,
  ⟨"HBM_STATUS", 0x2100000, [(8, 0x20000)], 32, 0, 0, 0, 0⟩,
  ⟨"HBM_CE_CNT", 0x2100008, [(8, 0x20000)], 64, 0, 0, 0, 0⟩,
  ⟨"HBM_UE_CNT", 0x2100010, [(8, 0x20000)], 32, 0, 0, 0, 0⟩,
  ⟨"HBM_POISON_READ_CNT", 0x2100014, [(8, 0x20000)], 32, 0, 0, 0, 0⟩,
  ⟨"HBM_ERR_ADDR", 0x2100018, [(8, 0x20000)], 64, 0, 0, 0, 0⟩,
  ⟨"HBM_PATROL_CFG", 0x2100020, [(8, 0x20000)], 32, 0xff00, 0, 0, 0x1800⟩,
  ⟨"HBM_PATROL_POS", 0x2100024, [(8, 0x20000)], 32, 0, 0, 0, 0⟩,
  ⟨"HBM_RETIRE_CFG", 0x2100028, [(8, 0x20000)], 32, 0xff, 0, 0, 8⟩,
  ⟨"HBM_REMAP_STATE", 0x210002c, [(8, 0x20000)], 32, 0, 0, 0, 0x40000000⟩,
  ⟨"HBM_PAGES_LOST", 0x2100030, [(8, 0x20000)], 32, 0, 0, 0, 0⟩,
  ⟨"SLC_CE_CNT", 0x2200000, [(12, 0x10000)], 32, 0, 0, 0, 0⟩,
  ⟨"SLC_UE_CNT", 0x2200004, [(12, 0x10000)], 32, 0, 0, 0, 0⟩,
  ⟨"SLC_ERR_ADDR", 0x2200008, [(12, 0x10000)], 64, 0, 0, 0, 0⟩,
  ⟨"SLC_REMAP_USED", 0x2200010, [(12, 0x10000)], 32, 0, 0, 0, 0⟩,
  ⟨"SLC_MACRO_FULL", 0x2200018, [(12, 0x10000), (4, 8)], 64, 0, 0, 0, 0⟩,
  ⟨"CRL_STATUS", 0x2000000, [(8, 0x20000)], 32, 0, 0, 0, 0⟩,
  ⟨"CRL_POOL_FREE", 0x2000008, [(8, 0x20000)], 32, 0, 0, 0, 0⟩,
  ⟨"CRL_POOL_RESV", 0x200000c, [(8, 0x20000)], 32, 0, 0, 0, 0⟩,
  ⟨"CRL_POOL_USED", 0x2000010, [(8, 0x20000)], 32, 0, 0, 0, 0⟩,
  ⟨"CRL_POOL_GRANTED", 0x2000014, [(8, 0x20000)], 32, 0, 0, 0, 0⟩,
  ⟨"CRL_TLB_HIT", 0x2000018, [(8, 0x20000)], 64, 0, 0, 0, 0⟩,
  ⟨"CRL_TLB_MISS", 0x2000020, [(8, 0x20000)], 64, 0, 0, 0, 0⟩,
  ⟨"CRL_GATHER_CNT", 0x2000028, [(8, 0x20000)], 64, 0, 0, 0, 0⟩,
  ⟨"CRL_DISCARD_CNT", 0x2000030, [(8, 0x20000)], 32, 0, 0, 0, 0⟩,
  ⟨"CRL_FAULT_ADDR", 0x2000038, [(8, 0x20000)], 64, 0, 0, 0, 0⟩,
  ⟨"CRL_PARKED", 0x2000100, [(8, 0x20000), (64, 8)], 64, 0, 0, 0, 0⟩,
  ⟨"ATY_INWIN_BASE", 0x2431000, [(16, 0x10)], 64, 0, 0, 0, 0⟩,
  ⟨"ATY_INWIN_CTRL", 0x2431008, [(16, 0x10)], 64, 0, 0, 0, 0⟩,
  ⟨"ATY_IN_REFUSED_CNT", 0x2431100, [], 32, 0, 0, 0, 0⟩,
  ⟨"ATY_IN_REFUSED_ADDR", 0x2431108, [], 64, 0, 0, 0, 0⟩,
  ⟨"ATY_IN_REFUSED_SRC", 0x2431110, [], 32, 0, 0, 0, 0⟩,
  ⟨"ATY_PORT_STATUS", 0x2300000, [(18, 0x10000)], 32, 0, 0, 0, 0xf800000⟩,
  ⟨"ATY_PORT_ERR_CFG", 0x2300008, [(18, 0x10000)], 32, 0xffffff00, 0, 0, 0x10001000⟩,
  ⟨"ATY_FEC_CW_CNT", 0x2300010, [(18, 0x10000)], 64, 0, 0, 0, 0⟩,
  ⟨"ATY_FEC_CORR_CNT", 0x2300018, [(18, 0x10000)], 64, 0, 0, 0, 0⟩,
  ⟨"ATY_FEC_UNCORR_CNT", 0x2300020, [(18, 0x10000)], 32, 0, 0, 0, 0⟩]

def regTable2 : List RegRow := [
  ⟨"ATY_CRC_ERR_CNT", 0x2300024, [(18, 0x10000)], 32, 0, 0, 0, 0⟩,
  ⟨"ATY_REPLAY_CNT", 0x2300028, [(18, 0x10000)], 32, 0, 0, 0, 0⟩,
  ⟨"ATY_RETRAIN_CNT", 0x230002c, [(18, 0x10000)], 32, 0, 0, 0, 0⟩,
  ⟨"ATY_FAR_SERIAL", 0x2300030, [(18, 0x10000)], 64, 0, 0, 0, 0⟩,
  ⟨"ATY_FAR_IDENT", 0x2300038, [(18, 0x10000)], 32, 0, 0, 0, 0xfff00000⟩,
  ⟨"ATY_EXPECT", 0x230003c, [(18, 0x10000)], 32, 0x800fff0f, 0, 0, 0⟩,
  ⟨"ATY_BERT_ERR", 0x2300040, [(18, 0x10000), (4, 8)], 64, 0, 0, 0, 0⟩,
  ⟨"ATY_BERT_BITS", 0x2300060, [(18, 0x10000)], 64, 0, 0, 0, 0⟩,
  ⟨"ATY_FAB_CFG", 0x2430000, [], 64, 0, 0, 0, 0x1f8fff⟩,
  ⟨"ATY_FAB_STATUS", 0x2430008, [], 64, 0, 0, 0, 0xfff0001000000000⟩,
  ⟨"ATY_MASTER_SERIAL", 0x2430010, [], 64, 0, 0, 0, 0⟩,
  ⟨"ATY_STEP", 0x2430018, [], 64, 0xffffffffffffffff, 0, 0, 0⟩,
  ⟨"ATY_LINK_MAP0", 0x2430020, [], 32, 0, 0, 0, 0⟩,
  ⟨"ATY_LINK_MAP1", 0x2430024, [], 32, 0, 0, 0, 0⟩,
  ⟨"ATY_ROUTE", 0x2434000, [(4095, 4)], 32, 0, 0, 0, 0⟩,
  ⟨"SRV_STATUS", 0x900000, [], 32, 0, 0, 0, 0⟩,
  ⟨"SRV_QUEUED", 0x900004, [], 32, 0, 0, 0, 0⟩,
  ⟨"SRV_STEP_CNT", 0x900008, [], 64, 0, 0, 0, 0⟩,
  ⟨"SRV_STEP_LAST_NS", 0x900010, [], 32, 0, 0, 0, 0⟩,
  ⟨"SRV_STEP_MAX_NS", 0x900014, [], 32, 0, 0, 0xffffffff, 0⟩,
  ⟨"SRV_OVERRUN_CNT", 0x900018, [], 32, 0, 0, 0, 0⟩,
  ⟨"SRV_PAUSED", 0x90001c, [], 32, 0, 0, 0, 0⟩,
  ⟨"SRV_TOKENS_OUT", 0x900020, [], 64, 0, 0, 0, 0⟩,
  ⟨"SRV_TOKENS_PF", 0x900028, [], 64, 0, 0, 0, 0⟩,
  ⟨"SRV_ACCT_BUCKET", 0x900100, [(256, 0x10)], 64, 0, 0, 0, 0⟩,
  ⟨"SRV_ACCT_STATE", 0x900108, [(256, 0x10)], 32, 0, 0, 0, 0⟩,
  ⟨"SRV_RING_CFG", 0x902000, [(64, 0x10)], 32, 0, 0, 0, 0⟩,
  ⟨"SRV_RING_TTFT_MISS", 0x902004, [(64, 0x10)], 32, 0, 0, 0, 0⟩,
  ⟨"SRV_RING_TBT_MISS", 0x902008, [(64, 0x10)], 32, 0, 0, 0, 0⟩,
  ⟨"SRV_RING_STALL", 0x90200c, [(64, 0x10)], 32, 0, 0, 0, 0⟩,
  ⟨"RIM_STATUS", 0xa00000, [], 32, 0, 0, 0, 0⟩,
  ⟨"RIM_TILES", 0xa00004, [], 32, 0, 0, 0, 0xffff⟩,
  ⟨"RIM_ACT_TIME", 0xa00008, [], 64, 0, 0, 0, 0⟩,
  ⟨"RIM_FRAME_NS", 0xa00010, [], 32, 0, 0, 0, 0⟩,
  ⟨"RIM_BUDGET_USED", 0xa00014, [], 32, 0, 0, 0, 0⟩,
  ⟨"RIM_STR_STATUS", 0xa00100, [(64, 0x20)], 32, 0, 0, 0, 0⟩,
  ⟨"RIM_STR_RESULTS", 0xa00108, [(64, 0x20)], 64, 0, 0, 0, 0⟩,
  ⟨"RIM_STR_MISSED", 0xa00110, [(64, 0x20)], 32, 0, 0, 0, 0⟩,
  ⟨"RIM_STR_IN_STALE", 0xa00114, [(64, 0x20)], 32, 0, 0, 0, 0⟩,
  ⟨"RIM_STR_JIT_MAX", 0xa00118, [(64, 0x20)], 32, 0, 0, 0xffffffff, 0⟩]

def regTable3 : List RegRow := [
  ⟨"PLT_STATUS", 0xa80000, [], 32, 0, 0, 0, 0⟩,
  ⟨"PLT_CFG", 0xa80004, [], 32, 0xffffff00, 0, 0, 0x88b50a00⟩,
  ⟨"PLT_PTP_OFFSET", 0xa80008, [], 64, 0, 0, 0, 0⟩,
  ⟨"PLT_PTP_STATUS", 0xa80010, [], 32, 0, 0, 0, 0⟩,
  ⟨"PLT_PORT_MAC", 0xa81000, [(2, 0x100)], 64, 0xffffffffffff, 0, 0, 0⟩,
  ⟨"PLT_PORT_CTL", 0xa81008, [(2, 0x100)], 32, 0xffff0007, 0, 0, 4⟩,
  ⟨"PLT_PORT_TX_FRAMES", 0xa81010, [(2, 0x100)], 64, 0, 0, 0, 0⟩,
  ⟨"PLT_PORT_RX_FRAMES", 0xa81018, [(2, 0x100)], 64, 0, 0, 0, 0⟩,
  ⟨"PLT_PORT_DROP_FILTER", 0xa81020, [(2, 0x100)], 32, 0, 0, 0, 0⟩,
  ⟨"PLT_PORT_DROP_METER", 0xa81024, [(2, 0x100)], 32, 0, 0, 0, 0⟩,
  ⟨"PLT_PORT_DROP_FRAME", 0xa81028, [(2, 0x100)], 32, 0, 0, 0, 0⟩,
  ⟨"PLT_PORT_TX_SUPPRESSED", 0xa8102c, [(2, 0x100)], 32, 0, 0, 0, 0⟩,
  ⟨"PLT_PORT_TX_GUARD_DROP", 0xa81030, [(2, 0x100)], 32, 0, 0, 0, 0⟩,
  ⟨"PAIR_STATUS", 0xb00000, [], 32, 0, 0, 0, 0⟩,
  ⟨"PAIR_MSG_ERR_CNT", 0xb00004, [], 32, 0, 0, 0, 0⟩,
  ⟨"PAIR_CFG", 0xb00008, [], 64, 0, 0, 0, 0xfff000000000⟩,
  ⟨"PAIR_PARTNER_SERIAL", 0xb00010, [], 64, 0, 0, 0, 0⟩,
  ⟨"PAIR_SVC_STATUS", 0xb00100, [(64, 0x20)], 32, 0, 0, 0, 0⟩,
  ⟨"PAIR_SVC_CLAIM", 0xb00104, [(64, 0x20)], 32, 0, 0, 0, 0⟩,
  ⟨"PAIR_SVC_PEER_CLAIM", 0xb00108, [(64, 0x20)], 32, 0, 0, 0, 0⟩,
  ⟨"PAIR_SVC_MISMATCH", 0xb0010c, [(64, 0x20)], 32, 0, 0, 0, 0⟩,
  ⟨"PAIR_SVC_UNCOMPARED", 0xb00110, [(64, 0x20)], 32, 0, 0, 0, 0⟩,
  ⟨"PAIR_SVC_SWITCH", 0xb00114, [(64, 0x20)], 32, 0, 0, 0, 0⟩,
  ⟨"PAIR_SVC_DIGEST", 0xb00118, [(64, 0x20)], 64, 0, 0, 0, 0⟩,
  ⟨"VID_STATUS", 0xc00000, [], 32, 0, 0, 0, 0⟩,
  ⟨"VID_LOAD_LIVE", 0xc00004, [], 32, 0, 0, 0, 0⟩,
  ⟨"VID_LOAD_BATCH", 0xc00008, [], 32, 0, 0, 0, 0⟩,
  ⟨"VID_CONCEAL_CNT", 0xc0000c, [], 32, 0, 0, 0, 0⟩,
  ⟨"VID_DEMOTE_CNT", 0xc00010, [], 32, 0, 0, 0, 0⟩,
  ⟨"VID_WDOG_CNT", 0xc00014, [], 32, 0, 0, 0, 0⟩,
  ⟨"VID_SESS_STATUS", 0xc00100, [(128, 0x10)], 32, 0, 0, 0, 0⟩,
  ⟨"VID_SESS_PICS", 0xc00104, [(128, 0x10)], 32, 0, 0, 0, 0⟩,
  ⟨"VID_SESS_OVER", 0xc00108, [(128, 0x10)], 32, 0, 0, 0, 0⟩,
  ⟨"VID_SESS_PEND", 0xc0010c, [(128, 0x10)], 32, 0, 0, 0, 0⟩,
  ⟨"SEC_STATUS", 0x600000, [], 32, 0, 0, 0, 0⟩,
  ⟨"SEC_TRNG_STATUS", 0x600004, [], 32, 0, 0, 0, 0x20000000⟩,
  ⟨"SEC_SCRUB_POS", 0x600008, [], 64, 0, 0, 0, 0⟩,
  ⟨"SEC_MEAS_STATE", 0x600010, [], 32, 0, 0, 0, 0⟩,
  ⟨"SEC_TRNG_FAIL_CNT", 0x600014, [], 32, 0, 0, 0, 0⟩,
  ⟨"CLK_STATUS", 0x300000, [], 32, 0, 0, 0, 0x20000000⟩]

def regTable4 : List RegRow := [
  ⟨"CLK_READY", 0x300004, [], 32, 0, 0, 0, 1⟩,
  ⟨"CLK_FAIL", 0x300008, [], 32, 0, 7, 0, 0⟩,
  ⟨"CLK_OSC_CAL", 0x30000c, [], 32, 0, 0, 0, 0⟩,
  ⟨"CLK_SSC", 0x300010, [], 32, 0, 0, 0, 0⟩,
  ⟨"CLK_REGBUS_CFG", 0x300014, [], 32, 0xf, 0, 0, 6⟩,
  ⟨"CLK_EN0", 0x300018, [], 64, 0, 0, 0, 0⟩,
  ⟨"CLK_EN1", 0x300020, [], 64, 0, 0, 0, 0⟩,
  ⟨"CLK_TIME_NS", 0x300100, [], 64, 0, 0, 0, 0⟩,
  ⟨"CLK_TIME_STATUS", 0x300108, [], 32, 0, 0, 0, 0⟩,
  ⟨"CLK_TIME_DELAY", 0x30010c, [], 32, 0, 0, 0, 0⟩,
  ⟨"CLK_TIME_STEP", 0x300110, [], 64, 0, 0, 0, 0⟩,
  ⟨"PWR_STATUS", 0x400000, [], 32, 0, 0x5a000000, 0, 0⟩,
  ⟨"PWR_CFG", 0x400004, [], 32, 0, 0, 0, 0x60e⟩,
  ⟨"PWR_INPUT", 0x400008, [], 32, 0, 0, 0, 0⟩,
  ⟨"PWR_HOLDUP", 0x40000c, [], 32, 0, 0, 0, 0⟩,
  ⟨"PWR_POWER", 0x400010, [], 32, 0, 0, 0, 0⟩,
  ⟨"PWR_PHASE", 0x400014, [], 32, 0, 0, 0, 0xb200b200⟩,
  ⟨"PWR_E_MODULE", 0x400018, [], 64, 0, 0, 0, 0⟩,
  ⟨"PWR_DROOP_CFG", 0x400020, [], 32, 0xff, 0, 0, 0x32⟩,
  ⟨"PWR_WAKE_Q", 0x400024, [], 32, 0, 0, 0, 0⟩,
  ⟨"PWR_DROOP_EXCESS_CNT", 0x400028, [], 32, 0, 0, 0, 0⟩,
  ⟨"PWR_ISL", 0x400100, [(18, 4)], 32, 0, 0, 0, 0x30000000⟩,
  ⟨"PWR_ISL", 0x400148, [(19, 4)], 32, 0, 0, 0, 0x20000000⟩,
  ⟨"PWR_ISL", 0x400194, [(18, 4)], 32, 0, 0, 0, 0x30000000⟩,
  ⟨"PWR_ISL", 0x4001dc, [(26, 4)], 32, 0, 0, 0, 0x20000000⟩,
  ⟨"PWR_ISL", 0x400244, [(1, 4)], 32, 0, 0, 0, 0x30000000⟩,
  ⟨"PWR_ISL", 0x400248, [(18, 4)], 32, 0, 0, 0, 0x20000000⟩,
  ⟨"PWR_E_PART", 0x400400, [(8, 8)], 64, 0, 0, 0, 0⟩,
  ⟨"PWR_E_RING", 0x400800, [(128, 8)], 64, 0, 0, 0, 0⟩,
  ⟨"PWR_E_ACCT", 0x401000, [(256, 8)], 64, 0, 0, 0, 0⟩,
  ⟨"RST_CAUSE", 0x500000, [], 32, 0, 0xffdc, 0, 0⟩,
  ⟨"RST_STATUS", 0x500004, [], 32, 0, 0, 0, 0⟩,
  ⟨"RST_STRAP", 0x500008, [], 32, 0, 0, 0, 0⟩,
  ⟨"RST_COUNT", 0x50000c, [], 32, 0, 0, 0, 0⟩,
  ⟨"RST_IMG_VERSION", 0x500100, [], 32, 0, 0, 0, 0⟩,
  ⟨"RST_IMG_LEVELS", 0x500104, [], 32, 0, 0, 0, 0⟩,
  ⟨"RST_STG_VERSION", 0x500108, [], 32, 0, 0, 0, 0⟩,
  ⟨"RST_STG_LEVELS", 0x50010c, [], 32, 0, 0, 0, 0⟩,
  ⟨"RST_UPD_STATUS", 0x500110, [], 32, 0, 0, 0, 0⟩,
  ⟨"RST_UPD_POS", 0x500114, [], 32, 0, 0, 0, 0⟩,
  ⟨"RST_CFG_STATUS", 0x500118, [], 32, 0, 0, 0, 0⟩,
  ⟨"RAS_HEALTH", 0x700000, [], 32, 0, 0, 0, 0⟩,
  ⟨"RAS_MAINT", 0x700004, [], 32, 0, 0, 0, 0⟩,
  ⟨"RAS_LOG_SEQ", 0x700008, [], 32, 0, 0, 0, 0⟩,
  ⟨"RAS_STORE", 0x70000c, [], 32, 0, 0, 0, 0⟩]

def regTable5 : List RegRow := [
  ⟨"PMU_CYCLE", 0x810000, [(53, 0x100)], 64, 0, 0, 0, 0⟩,
  ⟨"PMU_OVF", 0x810008, [(53, 0x100)], 32, 0, 0xff, 0, 0⟩,
  ⟨"PMU_EVSEL", 0x810010, [(53, 0x100), (8, 4)], 32, 0xffffcfff, 0, 0, 0x3f800000⟩,
  ⟨"PMU_CNT", 0x810040, [(53, 0x100), (8, 8)], 64, 0xffffffffffff, 0, 0, 0⟩,
  ⟨"PMU_ABASE", 0x810080, [(53, 0x100), (8, 8)], 64, 0xffffffffffffffff, 0, 0, 0⟩,
  ⟨"PMU_AMASK", 0x8100c0, [(53, 0x100), (8, 8)], 64, 0xffffffffffffffff, 0, 0, 0⟩,
  ⟨"HIF_COAL", 0x200100, [(256, 4)], 32, 0x3ff00ff, 0, 0, 0⟩,
  ⟨"RAS_MEM_PATROL", 0x700200, [], 32, 0x1ffff, 0, 0, 0x258⟩,
  ⟨"PMU_TOVF", 0x801000, [(36, 0x10)], 64, 0, 0xffffffffffffffff, 0, 0⟩,
  ⟨"PMU_TIRQ", 0x801008, [(36, 0x10)], 64, 0xffffffffffffffff, 0, 0, 0⟩,
  ⟨"PMU_OVF_LOST", 0x800000, [], 32, 0, 0, 0, 0⟩,
  ⟨"DBG_CTL", 0x880000, [], 32, 1, 0, 0, 0⟩,
  ⟨"DBG_GATED_ACCESS_CNT", 0x880008, [], 32, 0, 0, 0, 0⟩,
  ⟨"DBG_SEM_CFG", 0x880080, [], 32, 0xffff, 0, 0, 0x3e8⟩,
  ⟨"DBG_SEM", 0x880100, [(32, 4)], 32, 0, 0, 0, 0⟩,
  ⟨"RST_SIDEBAND", 0x500010, [], 32, 0, 0x10000, 0, 0⟩,
  ⟨"DBG_GATED_LAST", 0x880010, [], 64, 0, 0, 0, 0⟩,
  ⟨"RST_BKP0", 0x500020, [], 32, 0, 0, 0, 0⟩,
  ⟨"RST_BKP_FW", 0x500024, [(3, 4)], 32, 0, 0, 0, 0⟩,
  ⟨"RST_BKP_HOST", 0x500030, [(4, 4)], 32, 0xffffffff, 0, 0, 0⟩]

/-- Every register family of BAR0. -/
def regTable : List RegRow := regTable0 ++ regTable1 ++ regTable2 ++ regTable3 ++ regTable4 ++ regTable5

end Sys2Proof.Machine
end

