-- ==== Sys2Proof/Machine/State.lean ====
section
/-! DEFINITION. The state of the module as plain data: one record per subsystem, every memory-mapped register in one
sparse store, memory as canonical lists of cells, the queue of waiting commands, and the state after reset. A register
that only reflects a list or a mode held here is computed from it (Machine/View.lean). -/

namespace Sys2Proof.Machine

/-! ## Commands and rings (02) -/

/-- A command accepted by a slot or a unit and not yet replied to: its packet, where it came from, the TIME_NS at
which the unit fetched it (02 R61), whether its EXEC_TIME no longer holds it back, whether its execution has begun,
and the ring index that goes with it: for a ring's packet, HEAD once it has started; for a unit's command from the MCC,
the ring tail it is queued behind (04 R144). -/
structure Job where
  pkt : Packet
  via : Via
  i3c : Bool
  start : Nat
  due : Bool
  begun : Bool
  behind : Nat
  deriving DecidableEq, Repr

/-- The MCC (02 R64 to R69): its packet buffers and replies, the command on the main slot, and the FUNC_ABORTs in
progress, newest first, each with whether it came through the abort slot and whether it ran late (R61). -/
structure Mcc where
  cmd : BitVec 512
  abtCmd : BitVec 512
  reply : BitVec 256
  abtReply : BitVec 256
  cur : Option Job
  aborts : List (Packet × Bool × Bool)
  extra : List Byte
  confCmd : Option (Nat × Nat)
  confAbt : Option (Nat × Nat)
  deriving DecidableEq, Repr

/-- The unit behind a ring (02 R76, R77): its command in progress, the packets fetched ahead, oldest first, the
replies held while the completion queue is full, and the replies of an open completion record (02 R87), oldest first,
each with its IRQ flag. -/
structure Engine where
  cur : Option Job
  fetched : List Job
  held : List (BitVec 256 × Bool)
  openRec : List (BitVec 256 × Bool)
  deriving DecidableEq, Repr

/-- A unit at rest. -/
def Engine.idle : Engine := ⟨none, [], [], []⟩

/-- An MSI-X table entry (02 Table 2-4, as PCIe): address, data, mask bit and pending bit. -/
structure Msix where
  addr : U64
  data : U32
  masked : Bool
  pending : Bool
  deriving DecidableEq, Repr

/-- An MSI-X entry after reset: masked, as PCIe has it (assumption 8). -/
def Msix.reset : Msix := ⟨0, 0, true, false⟩

/-- A registered bounce window (02 R84, R86): its base, its size, its salt, and the last IV used in each direction. -/
structure Bounce where
  base : Nat
  size : Nat
  salt : Nat
  ivIn : Nat
  ivOut : Nat
  deriving DecidableEq, Repr

/-- The host interface's hidden state: bounce windows by number, replies pending by vector (02 R81), the MSI-X
table, and the plaintext of the records written to bounce windows. -/
structure Hif where
  bounce : List (Nat × Bounce)
  coal : List (Nat × Nat)
  msix : List (Nat × Msix)
  stage : List Host.Cell
  deriving DecidableEq, Repr

/-! ## Memory integrity (06) -/

/-- A unit written by MEM_ECC_TEST (06 R229, R230): its key, its data and its check bits as stored. -/
structure Mark where
  key : Nat
  data : Nat
  check : Nat
  deriving DecidableEq, Repr

/-- A page retirement in progress (06 R222). -/
structure Retire where
  page : Nat
  skein : Nat
  deriving DecidableEq, Repr

/-- Memory integrity (06): SRAM lines whose valid bit is set, poisoned SRAM lines and HBM blocks, test marks, SRAM words
with corrected errors since the last patrol pass, remapped lines, lines that found no free entry, the tracked
pages of each stack, page remaps, skein pages in use, lost pages, retirements in progress, and the operations that a
retirement or a tile move holds, oldest first. -/
structure Ecc where
  valid : List Nat
  poison : List Nat
  marks : List Mark
  words : List (Nat × Nat)
  remaps : List Nat
  pages : List (Nat × Nat)
  pageMap : List (Nat × Nat)
  skeinUsed : List Nat
  lost : List Nat
  retiring : List Retire
  heldOps : List (Req × Seen)
  scrub : Option (Nat × Nat × Nat)
  deriving DecidableEq, Repr

/-! ## Tiles (04) -/

/-- Where the bytes that an operation returns go: nowhere, the tile store at an offset, or the tile store and RESULT1
of the reply (04 R154). -/
inductive Land where
  | none
  | store (off : Nat)
  | value (off : Nat)
  deriving DecidableEq, Repr

/-- An exception in its drain (04 R158): the status, DETAIL and RESULT1 of the reply. -/
structure Exc where
  status : Nat
  detail : Nat
  result1 : Nat
  deriving DecidableEq, Repr

/-- One step of a tile command's issue (04 R142, R143): a remote operation, a fence, a wait that takes its count back, an increment
of an own counter, a mark of blocks written, an
exception met after the steps before it, or the computation that follows an exchange of maxima (03 R107). -/
inductive Micro where
  | op (q : Req) (land : Land)
  | fence
  | wait (ctr thr take : Nat)
  | incr (ctr inc : Nat)
  | block (n : Nat)
  | trap (e : Exc)
  | compute
  deriving DecidableEq, Repr

/-- A store-buffer entry (04 R136): the request, where returned bytes land, whether it has been issued, and the
TIME_NS of its issue (04 R138). -/
structure SbEntry where
  req : Req
  land : Land
  issued : Bool
  issuedAt : Nat
  deriving DecidableEq, Repr

/-- A pending TILE_WAIT (04 R141): the counter, the threshold, what it takes from the counter when it passes, and the
time limit in microseconds. -/
structure TileWait where
  ctr : Nat
  thr : Nat
  take : Nat
  limit : Nat
  deriving DecidableEq, Repr

/-- What a command in progress has found so far: its arithmetic flags, the two result words, the blocks written, and
whether everything it does has been done. -/
structure Progress where
  flags : Nat
  result0 : Nat
  result1 : Nat
  blocks : Nat
  script : List Micro
  done : Bool
  deriving DecidableEq, Repr

/-- Nothing found yet. -/
def Progress.empty : Progress := ⟨0, 0, 0, 0, [], false⟩

/-- An attention command in progress (07 R263, R266, R267): its phase (0 none, 1 first gathers, 2 exchange, 3 second
gathers), the batch of gathers in flight, GCTR's value when the command began, the latent rows gathered so far with
their entry and token, the entries a gather marked PARKED, the exchange words of the maxima, and the statistics read. -/
structure Attn where
  phase : Nat
  batch : Nat
  base : Nat
  rows : List (Nat × Nat × List Byte)
  parked : List Nat
  keys : List Nat
  cbs : List Nat
  stats : List Byte
  deriving DecidableEq, Repr

/-- No attention command. -/
def Attn.none : Attn := ⟨0, 0, 0, [], [], [], [], []⟩

/-- A logical tile's sequencer and remote-operation engine (04): the progress of its command, an attention command's own progress, its store buffer, oldest
entry first, a pending wait, a pending fence, the engine that works (04 Table 4-16), the first posted fault with its
address (04 R157), an exception in drain, the times of microcode traps, the tags whose operation timed out and is not answered (04 R138), a move's fence against new work, and a halt by
the debugger (20 R654). -/
structure Tile where
  prog : Progress
  attn : Attn
  sb : List SbEntry
  wait : Option TileWait
  fencing : Bool
  engine : Nat
  posted : Option (Nat × Nat)
  exc : Option Exc
  trapped : Bool
  traps : List Nat
  stale : List Nat
  fenced : Bool
  halted : Bool
  resetting : Bool
  deriving DecidableEq, Repr

/-- A tile at rest. -/
def Tile.idle : Tile := ⟨.empty, .none, [], none, false, 0, none, none, false, [], [], false, false, false⟩

/-! ## The trouble log (19) -/

/-- One trouble-log record (19 Table 19-5). -/
structure LogRec where
  time : Nat
  seq : Nat
  code : Nat
  sev : Nat
  island : Nat
  addr : Nat
  data : Nat
  deriving DecidableEq, Repr


/-! ## What leaves the module -/

/-- Everything that crosses the module's boundary outward, or leaves one of its units for another: MSI-X messages
(02 R79), replies to the I3C entry point (02 R66), the answer to a BAR read, remote-operation requests and responses
(08), flits (09), Pairing messages (12), plant frames from the destination address to the data, and 802.1AS messages (0
Pdelay_Req, 1 Pdelay_Resp, 2 Pdelay_Resp_Follow_Up) (11), SPDM responses on
the I3C transport (14), PLDM messages (19 R636), what JTAG shifts out after an instruction and the boundary cells it drives (20
R649). -/
inductive Out where
  | msix (v : Nat) (addr : U64) (data : U32)
  | i3c (reply : BitVec 256) (extra : List Byte)
  | barRead (off : Nat) (value : U64)
  | barUnsupported (off : Nat)
  | request (q : Req)
  | response (r : Resp)
  | flit (link : Nat) (bytes : List Byte)
  | pair (bytes : List Byte)
  | plant (port : Nat) (frame : List Byte)
  | ptp (port kind : Nat)
  | spdm (bytes : List Byte)
  | pldm (bytes : List Byte)
  | jtag (instruction : Nat) (value : Nat)
  | pins (cells : Nat)
  deriving DecidableEq, Repr


/-! ## Creel (07) -/

/-- A page of a sequence as its level 3 entry has it (07 Table 7-2): the sequence, the virtual page, the page's key, and
the entry's WRITTEN, RESV and GRANTED bits. -/
structure CrlPage where
  seq : Nat
  v : Nat
  page : Nat
  written : Bool
  resv : Bool
  granted : Bool
  deriving DecidableEq, Repr

/-- A sequence that is not CLOSED (07 R236, R250; Table 7-11): state 1 OPEN or 2 PARKED, the cause, the geometry, the
reserved length, FIRST_LOST, where a write has been discarded, and the status and address of the walk that parked it. -/
structure CrlSeq where
  state : Nat
  cause : Nat
  layers : Nat
  rowBytes : Nat
  maxTok : Nat
  resvTok : Nat
  firstLost : Option Nat
  fault : Nat × Nat
  deriving DecidableEq, Repr

/-- A gather request (07 Table 7-3) queued at a Creel unit, with the path of the CREEL_GATHER that made it, if one
did. -/
structure Gather where
  unit : Nat
  seq : Nat
  layer : Nat
  page : Nat
  row0 : Nat
  rows : Nat
  tag : Nat
  dest : Nat
  status : Nat
  tokEn : Bool
  ctr : Nat
  inc : Nat
  via : Option Via
  deriving DecidableEq, Repr

/-- A page in a pool that is being zero-filled (07 R245): its key, whether it came from a grant, and whether a sequence
freed it. -/
structure CrlZero where
  page : Nat
  granted : Bool
  freed : Bool
  deriving DecidableEq, Repr

/-- The Creel units (07): the stacks of the tenant's page homes (R238), the sequences by number, the mapped pages, the
free lists with the grant mark of each page, the pages being zero-filled, the TLB's tags (unit, sequence, virtual
page), the walks in progress, accesses that wait for a walk or a page, the TRIM (false) or CLOSE (true) in progress
and the accesses it holds (R249), the gather queues, requests that wait for a queue, unreadable table entries (unit,
sequence, level, virtual page) and pages lost under them (R257). -/
structure Crl where
  homes : List Nat
  seqs : List (Nat × CrlSeq)
  maps : List CrlPage
  free : List (Nat × Bool)
  zeroing : List CrlZero
  tlb : List (Nat × Nat × Nat)
  walks : List (Nat × Nat × Nat)
  waiting : List (Req × Seen)
  busy : Option (Nat × Bool)
  held : List (Req × Seen)
  queue : List Gather
  vc0 : List Req
  bad : List (Nat × Nat × Nat × Nat)
  kept : List Nat
  deriving DecidableEq, Repr

/-- No tenant: nothing in any unit (07 R254). -/
def Crl.empty : Crl := ⟨[], [], [], [], [], [], [], [], none, [], [], [], [], []⟩

/-! ## Links and cascade (09), time (15) -/

/-- A message queued for a link: its class (0 to 3 a virtual channel, 4 link control), URGENT, and its bytes in whole
32-byte slots (09 R316, R317). -/
structure LinkMsg where
  cls : Nat
  urgent : Bool
  bytes : List Byte
  deriving DecidableEq, Repr

/-- A flit as the replay buffer holds it (09 Table 9-2): type, sequence number, SLOTMAP and the bytes of slots 1 to 19. -/
structure Flit where
  ftype : Nat
  fseq : Nat
  map : Nat
  slots : List Byte
  deriving DecidableEq, Repr

/-- One link's layer (09 R315 to R329): the sequence number of the last flit sent and of the last accepted, the replay
buffer and the queue, oldest first, free units at the far end and units owed to it per virtual channel, a message begun
and not ended (its channel, slots to come and bytes so far), the turn of the round robin, corrected symbols and errors
of the 1 ms window, the times of retrain failures, whether a training follows a failed retrain, a loopback test in progress, whether ATY_PORT_CTL disabled the port, a DISABLE
in progress,
whether the far end's IDENT has been received since training, the identity (serial, IDENT word) a spare must find, the time
of a DELAY_REQ not yet answered, and the last delay measured. -/
structure Link where
  tx : Nat
  rx : Nat
  held : List Flit
  queue : List LinkMsg
  credit : List Nat
  owed : List Nat
  part : Option (Nat × Nat × List Byte)
  turn : Bool
  corr : Nat
  bad : Nat
  fails : List Nat
  full : Bool
  loop : Bool
  off : Bool
  draining : Bool
  ident : Bool
  spare : Option (Nat × Nat)
  asked : Option Nat
  delay : Nat
  deriving DecidableEq, Repr

/-- A link before its first flit, with the credit units of 08 Table 8-8. -/
def Link.start : Link :=
  ⟨0xFFF, 0xFFF, [], [], [512, 512, 64, 16], [0, 0, 0, 0], none, false, 0, 0, [], false, false, false, false, false, none, none, 0⟩

/-- A claim (09 Table 9-3, R338). -/
structure ClaimMsg where
  incumbent : Bool
  priority : Nat
  modNum : Nat
  floor : Nat
  serial : Nat
  seq : Nat
  deriving DecidableEq, Repr

/-- The last PRESENCE of an origin (09 Table 9-3) and when it arrived. -/
structure PresMsg where
  serial : Nat
  modNum : Nat
  proto : Nat
  num : Nat
  pseq : Nat
  time : Nat
  deriving DecidableEq, Repr

/-- A bit-error test (09 R336): the link, whether this module's ATY_BERT started it, the pattern, and whether the
patterns are being sent. -/
structure BertRun where
  link : Nat
  own : Bool
  pattern : Nat
  going : Bool
  deriving DecidableEq, Repr

/-- The cascade: links by number, the best claim known, the last PRESENCE per origin, DUPLICATE messages already
forwarded (module, serial), the beacon and presence sequence numbers, the bit-error tests, the routes that tile lanes hold
(unit, home, link), messages that wait for a route or a floor, and whether
ATY_ADMIT has read SP_STEP once. -/
structure Fab where
  links : List (Nat × Link)
  best : Option ClaimMsg
  pres : List PresMsg
  dups : List (Nat × Nat)
  beacon : Nat
  pseq : Nat
  bert : List BertRun
  lanes : List (Nat × Nat × Nat)
  waiting : List LinkMsg
  polled : Bool
  deriving DecidableEq, Repr

/-- Nothing learnt, nothing sent. -/
def Fab.start : Fab := ⟨[], none, [], [], 0, 0, [], [], [], false⟩

/-- Clock selection and time distribution (15): the target of a switch in progress with the source it left and whether a
CLK_SRC_SET waits for it, whether LINK has qualified for t_LINK_QUAL, the monitor windows since TCXO and LINK were last
out of range and their counts over the last 1 ms (TCXO, LINK), whether the upstream link's delay has been measured, whether a SYNC
has come over it since it was last lost, the sequence number of
time messages, the ticks toward the next nanosecond of slew, and the islands whose gate waits for its crossings. -/
structure Clk where
  target : Option (Nat × Nat × Bool)
  qualified : Bool
  goodTcxo : Nat
  goodLink : Nat
  counts : List (Nat × Nat)
  measured : Bool
  heard : Bool
  seq : Nat
  slew : Nat
  gating : List Nat
  deriving DecidableEq, Repr

/-- Clocks after reset. -/
def Clk.start : Clk := ⟨none, false, 0, 0, [], false, false, 0, 0, []⟩


/-! ## The Rim lane and the plant port (11) -/

/-- A stream slot (11 Table 11-1) with the copies that RIM_STREAM_SET makes of its programs and its known-answer data. -/
structure RimStream where
  streamIn : Nat
  outStream : Nat
  missLimit : Nat
  outFmt : Nat
  cadence : Nat
  macs : Nat
  cycA : Nat
  cycB : Nat
  progA : List Packet
  progB : List Packet
  inAddr : Nat
  inBytes : Nat
  outBytes : Nat
  outAddr : Nat
  da : Nat
  vlan : Nat
  ports : Nat
  katIn : List Byte
  katExp : List Byte
  deriving DecidableEq, Repr

/-- A schedule entry (11 Table 11-2). -/
structure RimEntry where
  tcap : Nat
  cmp : Nat
  rel : Nat
  slot : Nat
  tiles : Nat
  deriving DecidableEq, Repr

/-- A schedule: its activation time, its frame and its entries. -/
structure RimSched where
  act : Nat
  frame : Nat
  entries : List RimEntry
  deriving DecidableEq, Repr

/-- A result from its capture to its release: its slot, its capture, compute and release times, the tiles of its entry, its
index k, the SEQ of its input, INPUT_STALE, whether it is a known-answer test, PLT_PTP_OFFSET at its capture, the state of
its program on each tile (0 waiting, 1 running, 2 ended), and, once staged, whether it was missed and its data; and whether its release instant has passed. -/
structure RimRun where
  slot : Nat
  tc : Nat
  cmp : Nat
  tr : Nat
  tiles : Nat
  k : Nat
  ref : Nat
  stale : Bool
  kat : Bool
  offset : Nat
  progA : Nat
  progB : Nat
  staged : Option (Bool × List Byte)
  out : Bool
  deriving DecidableEq, Repr

/-- What a scheduled stream carries from one result to the next: the data last released, the SEQ and data of the input last
captured, the earliest capture times of the tests asked for, that of RIM_KAT's test, whether a test has passed since the
stream entered the schedule, and the last index released. -/
structure RimRt where
  last : Option (List Byte)
  used : Option Nat
  input : List Byte
  kat : List Nat
  mccKat : Option Nat
  tested : Bool
  lastK : Nat
  deriving DecidableEq, Repr

/-- A stream that has not run. -/
def RimRt.start : RimRt := ⟨none, none, [], [], none, false, 0⟩

/-- The Rim lane (11): defined slots, the schedule in force and the one whose activation is pending, the next capture (frame
and entry), results in flight in order of capture, per-slot runtime, the accepted input frames (STREAM_IN, SEQ, arrival,
data), the last SEQ accepted by STREAM_IN, and the pausing conditions in force (1 tile move, 2 power-fail warning, 3
regulator alert, 4 thermal throttle, 5 the floor of 01 R36) with the moment before which the lane may not resume. -/
structure Rim where
  streams : List (Nat × RimStream)
  sched : Option RimSched
  commit : Option RimSched
  next : Nat × Nat
  runs : List RimRun
  rt : List (Nat × RimRt)
  inputs : List (Nat × Nat × Nat × List Byte)
  seqs : List (Nat × Nat)
  holds : List Nat
  resumeAt : Nat
  deriving DecidableEq, Repr

/-- The lane DISABLED. -/
def Rim.off : Rim := ⟨[], none, none, (0, 0), [], [], [], [], [], 0⟩

/-- A gate control list (11 R419): its base time, its cycle, and its entries of gate states and interval. -/
structure GateList where
  base : Nat
  cycle : Nat
  entries : List (Nat × Nat)
  deriving DecidableEq, Repr

/-- A stream filter and its flow meter (11 R420): EN, the destination address and VID, MAX_SDU, CIR and CBS, and the meter's
tokens in millionths of a bit with the time they were last filled. -/
structure PltFilter where
  en : Bool
  da : Nat
  vid : Nat
  maxSdu : Nat
  cir : Nat
  cbs : Nat
  tokens : Nat
  time : Nat
  deriving DecidableEq, Repr

/-- An installed MACsec security association (11 R421): channel (0 transmit, 1 to 4 receive), AN, SUITE, SCI, the next or
lowest acceptable packet number, the key and SSCI. -/
structure MacSa where
  sc : Nat
  an : Nat
  suite : Nat
  sci : Nat
  pn : Nat
  key : Nat
  ssci : Nat
  deriving DecidableEq, Repr

/-- A plant port (11 R415 to R421): the gate list that runs and one that takes over at its base time, the filters, the
security associations, newest first, and the arrival times of 802.1AS frames within the last second. -/
structure PltPort where
  gate : Option GateList
  gateNext : Option GateList
  filters : List (Nat × PltFilter)
  sas : List MacSa
  asTimes : List Nat
  deriving DecidableEq, Repr

/-- A port without settings. -/
def PltPort.start : PltPort := ⟨none, none, [], [], []⟩


/-! ## Pairing (12) -/

/-- What the Pairing link controller holds for a service beside its registers: digests of both modules that are not yet
compared (index, digest, MISSED); own results not yet compared (index, data); indices compared and not yet released; the
last compared-good data; the next step index; the index from which comparison resumes after a test; whether a verdict is
awaited and since when, the own test's index, and the two verdicts; whether the own test failed and whether a test has
passed since RESYNC; the partner's role as last learned; the time and index from which a demotion stops releases; the time
before which a takeover releases nothing; a swap as the new active (EFFECTIVE, arrival of HANDOVER) or as the old one
(EFFECTIVE, whether PAIR_SWAP waits); alarm codes to send; and when a mismatch was last recorded under R451. -/
structure PairSvc where
  own : List (Nat × Nat × Bool)
  peer : List (Nat × Nat × Bool)
  data : List (Nat × List Byte)
  compared : List Nat
  good : Option (List Byte)
  step : Nat
  resume : Nat
  waiting : Bool
  since : Nat
  test : Option Nat
  verdict : Option Bool
  peerVerdict : Option Bool
  failed : Bool
  passed : Bool
  peerRole : Nat
  stop : Option (Nat × Nat)
  notBefore : Nat
  swap : Option (Nat × Option Nat)
  give : Option (Nat × Bool)
  alarms : List Nat
  logged : Option Nat
  deriving DecidableEq, Repr

/-- A service just defined. -/
def PairSvc.start : PairSvc :=
  ⟨[], [], [], [], none, 0, 0, false, 0, none, none, none, false, false, 0, none, 0, none, none, [], none⟩

/-- The Pairing link controller (12): HEARTBEAT, HEALTHY and CLAIM_GEN; the FAIL conditions that concern the whole module
(2 abort, 4 power or thermal, 5 reset); BEACON_DA and BEACON_VLAN; the services by index; the times at which the Pairing
link and the fabric path were last confirmed; the partner's last HEARTBEAT and CLAIM_GEN read over the fabric; and the
number of beacon instants since activation. -/
structure Pair where
  heartbeat : Nat
  healthy : Bool
  claimGen : Nat
  conds : List Nat
  da : Nat
  vlan : Nat
  svcs : List (Nat × PairSvc)
  lastLink : Nat
  lastFab : Nat
  peerBeat : Nat
  peerGen : Option Nat
  beacons : Nat
  deriving DecidableEq, Repr

/-- The controller after reset. -/
def Pair.off : Pair := ⟨0, true, 0, [], 0, 0, [], 0, 0, 0, none, 0⟩


/-! ## The serving engine (10) -/

/-- The header of a serving plan (10 Table 10-1). -/
structure SrvPlan where
  level : Nat
  repro : Bool
  vocab : Nat
  eos : Nat
  layers : Nat
  rowBytes : Nat
  maxTok : Nat
  seqBase : Nat
  seqCount : Nat
  tileMask : Nat
  stepTok : Nat
  chunkMin : Nat
  chunkMax : Nat
  budget : Nat
  t0 : Nat
  cSeq : Nat
  cTok : Nat
  cCtx : Nat
  pf : Nat
  deriving DecidableEq, Repr

/-- A request (10 R358 to R390): its ring, REQ_ID, job and mode; the parameters; a derived sampler; its fitch state; its
state (Table 10-4); its sequence; the tokens known, prompt first, and how many positions are processed; its reserved
step time; the next output position; the times and counts of Table 10-6; a pending FINAL; and the step at which it ended. -/
structure SrvReq where
  ring : Nat
  id : Nat
  job : Job
  compat : Bool
  promptAddr : Nat
  promptLen : Nat
  maxNew : Nat
  account : Nat
  sprof : Nat
  sampler : Option (Nat × Nat × Nat)
  fitch : Option Nat
  fstate : Nat
  start : Nat
  key : Nat
  st : Nat
  seq : Option Nat
  toks : List Nat
  pos : Nat
  dur : Nat
  next : Nat
  fetchNs : Nat
  admitNs : Nat
  firstNs : Nat
  lastNs : Nat
  done : Nat
  tbtMax : Nat
  skipped : Nat
  pauses : Nat
  lost : Nat
  stalled : Bool
  throttled : Bool
  skippedNow : Bool
  final : Option (Nat × Nat × Nat)
  endStep : Nat
  deriving DecidableEq, Repr

/-- An account's settings (10 R369) and the fraction its bucket carries. -/
structure SrvAcct where
  priority : Nat
  pfWeight : Nat
  rate : Nat
  burst : Nat
  maxSeq : Nat
  maxPages : Nat
  frac : Nat
  deriving DecidableEq, Repr

/-- An account after SRV_ENGINE_START. -/
def SrvAcct.start : SrvAcct := ⟨0, 16, 0xFFFFFFFF, 0xFFFFFFFF, 4096, 2 ^ 64 - 1, 0⟩

/-- A step in progress: when its boundary ended and what it processes: ring, REQ_ID, positions, and whether they are a
prompt chunk. -/
structure SrvStep where
  start : Nat
  work : List (Nat × Nat × Nat × Bool)
  deriving DecidableEq, Repr

/-- The serving engine (10): the plan; requests in order of fetch, DONE ones included while their metrics are held, those
admitted in order of admission and those paused in order of pause; accounts and changes that wait for the next boundary;
sampler profiles; fitch images by handle; HEADROOM and QUEUE_TIMEOUT_MS by ring; cancels that wait (ring, REQ_ID, the
cancel's job); the step in progress; the time of the last boundary; a stop in progress (mode, DETAIL); and the tiles and
sequences owned. -/
structure Srv where
  plan : Option SrvPlan
  reqs : List SrvReq
  admitted : List (Nat × Nat)
  paused : List (Nat × Nat)
  accts : List (Nat × SrvAcct)
  acctNext : List (Nat × SrvAcct)
  samplers : List (Nat × Nat × Nat × Nat)
  fitches : List (Nat × List Byte)
  rings : List (Nat × Nat × Nat)
  cancels : List (Nat × Nat × Job)
  step : Option SrvStep
  boundary : Nat
  stop : Option (Nat × Nat)
  tileMask : Nat
  seqBase : Nat
  seqCount : Nat
  deriving DecidableEq, Repr

/-- The engine STOPPED. -/
def Srv.stopped : Srv := ⟨none, [], [], [], [], [], [], [], [], [], none, 0, none, 0, 0, 0⟩


/-! ## The video engine (13) -/

/-- An open session (13 R468 to R471, R485): its ring (0 to 3), whether it reserves its load, its direction, codec, pool, largest
picture, frame rate, bit depth and encoder settings; its picture credit in units of 1 ÷ (FPS_DEN × 10^9) with the time of its
last change; pictures output; pictures since the last key picture; the offset d and the bucket in units of 1 ÷ FPS_NUM bit;
whether a picture has been coded; and what the codec has been given since the session opened. -/
structure VidSess where
  ring : Nat
  live : Bool
  enc : Bool
  codec : Nat
  pool : Nat
  poolBytes : Nat
  maxW : Nat
  maxH : Nat
  num : Nat
  den : Nat
  depth : Nat
  gir : Nat
  cq : Nat
  qMax : Nat
  window : Nat
  cap : Nat
  gop : Nat
  credit : Nat
  creditAt : Nat
  pics : Nat
  since : Nat
  d : Nat
  bucket : Nat
  coded : Bool
  fed : List Config.VidUnit
  deriving DecidableEq, Repr

/-- A video command accepted and not complete (13 R472): its job, ring, session and priority; whether it runs without credit;
whether it has started; the cores it runs on; the cores it can use; and what it has read: its descriptor and its bitstream or
picture. -/
structure VidJob where
  job : Job
  ring : Nat
  sess : Nat
  live : Bool
  past : Bool
  started : Bool
  cores : List Nat
  parts : Nat
  desc : List Byte
  unit : List Byte
  deriving DecidableEq, Repr

/-- The video engine: open sessions by number, and commands in order of acceptance. -/
structure Vid where
  sess : List (Nat × VidSess)
  jobs : List VidJob
  deriving DecidableEq, Repr



/-! ## Brudo (14) -/

/-- What the OTP holds beside the secrets that only Brudo's cryptography sees (14 Table 14-3, Table 14-1): manufacture ended,
RMA, the toggle bits burned, revoked Synostra keys, the owner's key hash, the anti-rollback count and ENTROPY_FAIL. -/
structure Otp where
  field : Bool
  rma : Bool
  toggles : Nat
  revoke : Nat
  owner : Nat
  rollback : Nat
  entropyFail : Bool
  deriving DecidableEq, Repr

/-- An SPDM session (14 R505): its identifier, its transport (true I3C), whether FINISH established it, and the number of its
key exchange, which stands for its secrets. -/
structure SpdmSess where
  id : Nat
  i3c : Bool
  done : Bool
  secret : Nat
  deriving DecidableEq, Repr

/-- An SPDM connection of a transport: how far negotiation came (0 none, 1 version, 2 capabilities, 3 algorithms), and a
request deferred with ResponseNotReady, with its token. -/
structure SpdmConn where
  phase : Nat
  deferred : Option (Nat × List Byte)
  deriving DecidableEq, Repr

/-- A connection at its start. -/
def SpdmConn.start : SpdmConn := ⟨0, none⟩

/-- A request that waits on the DRBG (14 R520): when it came, and the SPDM request of the I3C transport, or none for the MCC's
command in progress. -/
structure DrbgWait where
  time : Nat
  msg : Option (List Byte)
  deriving DecidableEq, Repr

/-- Brudo's state (14): the tenant's master secret and the TENANT_ID; OTP and the OTP values in force since the last start;
SPDM sessions, the next secret's number, the connections of the MCC and of I3C, and the secret of the I3C session last
established; the nonce with the time it was returned; requests that wait on the DRBG; the time since which health tests pass;
the step of a TENANT_CLOSE (1 the engine stops, 2 units drain); and skein pages to return after the scrub. -/
structure Sec where
  session : Nat
  tenant : Nat
  otp : Otp
  sessions : List SpdmSess
  secrets : Nat
  conn : SpdmConn × SpdmConn
  lastI3c : Option Nat
  nonce : Option (Nat × Nat)
  waiters : List DrbgWait
  passing : Nat
  closing : Nat
  grants : List Nat
  deriving DecidableEq, Repr

/-- Brudo before its first start, on a module shipped in FIELD (assumption 1). -/
def Sec.start : Sec :=
  ⟨0, 0, ⟨true, false, 0, 0, 0, 0, false⟩, [], 0, (.start, .start), none, none, [], 0, 0, []⟩



/-! ## Reset, boot and the flash (17, 18) -/

/-- Work of the Upsett loader on the flash (18 R601, R606, R611): its kind (0 a staged piece, 1 a commit, 2 the
configuration store, 3 the erasure of the staging records), the step and the sector it has reached, the failures of this
sector's read-back, the bytes it writes, its piece or slot, whether a pulse is in progress, whether it ends when that pulse
does, whether it runs as the resumption of a commit after a reset, and what follows: whether staging restarts (a new piece 0). -/
structure FlashJob where
  kind : Nat
  step : Nat
  sector : Nat
  tries : Nat
  data : List Byte
  index : Nat
  pulse : Bool
  stop : Bool
  resume : Bool
  fresh : Bool
  deriving DecidableEq, Repr

/-- Hidden state of reset and boot: whether recovery mode was entered by a failure (18 R596, R599); the reset in force (0 none,
1 core, 2 system) and one that waits for a flash pulse (17 R579); whether the module has no supply or has tripped (16 R567);
the sectors of the flash that have been written, each from its start, the rest of it erased; the loader's work; the manifest of
the running image; and whether management firmware has not yet run since the last system reset (18 R595). -/
structure Rst where
  recFail : Bool
  level : Nat
  hold : Option Nat
  unpowered : Bool
  tripped : Bool
  flash : List (Nat × List Byte)
  job : Option FlashJob
  image : List Byte
  first : Bool
  deriving DecidableEq, Repr

/-- A module under its first system reset: supplied, its flash as manufactured. -/
def Rst.start : Rst := ⟨false, 2, none, false, false, [], none, [], true⟩


/-! ## Power (16) -/

/-- Power control (16): of tile sites and the Splint engine, by island, the performance state asked for (P1 where nothing is
listed), its ceiling (P1), and the core voltage in mV (850); the islands held in the floor state, each with a cause (1
power-fail warning, 2 regulator alert, 3 01 R36, 4 a FIXED island at its throttle limit, 5 it waits for its wake); the wakes
that wait, oldest first, each an island and whether it ungates the island; the starting times of wakes in the last 100 µs; the
islands whose clock is stretched; and when CAP_EXCEEDED was last recorded. -/
structure Pwr where
  want : List (Nat × Nat)
  ceil : List (Nat × Nat)
  volt : List (Nat × Nat)
  floors : List (Nat × Nat)
  wakes : List (Nat × Bool)
  started : List Nat
  stretching : List Nat
  capLogged : Option Nat
  deriving DecidableEq, Repr

/-- Nothing asked for, nothing forced. -/
def Pwr.start : Pwr := ⟨[], [], [], [], [], [], [], none⟩



/-! ## Reliability and maintenance (19) -/

/-- A maintenance activity that holds or waits for the token (19 Table 19-1): its code, and for code 0x11 and 0x12 the
kind of 19 Table 19-4 and the unit. -/
structure Activity where
  code : Nat
  kind : Nat
  unit : Nat
  deriving DecidableEq, Repr

/-- A tile move (19 R623): the logical tile, its site, the spare site, whether quiescence has been reached, and whether
the copy is under way. -/
structure Move where
  tile : Nat
  site : Nat
  spare : Nat
  quiet : Bool
  copying : Bool
  deriving DecidableEq, Repr

/-- Reliability and maintenance (19): the token's holders, first one first, the queue of those that wait, the tile
moves, the records of the RAS store's active area (R628) and those not yet written; the trap times of management cores and video cores (R625, Table 19-2, video cores numbered from 8), management
cores in restart, the copied log tail, oldest first (R632), and the values of the state sensors last reported (R636). -/
structure Ras where
  holders : List Activity
  queue : List Activity
  moves : List Move
  store : List Nat
  unsaved : List Nat
  coreTraps : List (Nat × Nat)
  coreDown : List Nat
  tail : List LogRec
  sensors : List (Nat × Nat)
  deriving DecidableEq, Repr

/-! ## Counters and debug (20) -/

/-- Counters and the debug access port (20): when each counter group or tile site last wrote an overflow record (R645; sites
from 64 up); the target last set (true a BAR0 offset) and the last status and result (R650); the management cores halted
(R654); and the boundary cells preloaded (R649). -/
structure Dbg where
  records : List (Nat × Nat)
  reg : Bool
  addr : Nat
  status : Nat
  result : Nat
  started : Bool
  halted : List Nat
  cells : Nat
  deriving DecidableEq, Repr

/-- Nothing accessed, nothing halted. -/
def Dbg.start : Dbg := ⟨[], false, 0, 0, 0, false, [], 0⟩


/-! ## Straps, fuses and pins (00, 17, 21) -/

/-- What fuses, OTP and straps fix (00 Table 0-4, R8; 17 R584; 21): the variant, the stepping, the serial, the MAC
addresses of the plant ports, and the MACsec ordering option. -/
structure Fuse where
  video : Bool
  stepMajor : Nat
  stepMinor : Nat
  serial : Nat
  mac0 : Nat
  mac1 : Nat
  macsec : Bool
  deriving DecidableEq, Repr

/-- The levels at the module's pins (17, 21 R663 to R666): PERST_N, MAINT_INHIBIT after its debounce, the live SLOT_ID,
the listen-only strap, and the eight RSEL readings taken at the next sampling. -/
structure Pins where
  perst : Bool
  maintInhibit : Bool
  slotId : Nat
  listenOnly : Bool
  rsel : List Nat
  deriving DecidableEq, Repr



/-! ## The machine -/

/-- The state of the module. `regs` holds every register that is not computed, by BAR0 offset, where it differs from
its reset value. `mem` holds HBM, tile stores and store slices by space and offset (06 Table 6-1), `host` the host
memory the module reads and writes. `out` lists what has crossed the boundary outward, newest first. `free` counts
the values the spec leaves open that have been drawn (the model's own field). -/
structure State where
  /-- Commands waiting, first in, first out. -/
  pending : List Instr
  /-- Registers that differ from their reset value. -/
  regs : List (Nat × BitVec 64)
  /-- HBM, tile stores and store slices. -/
  mem : List Host.Cell
  /-- Host memory. -/
  host : List Host.Cell
  /-- What has left the module, newest first. -/
  out : List Out
  /-- Open values drawn so far. -/
  free : Nat
  /-- Fuses and ordering options. -/
  fuse : Fuse
  /-- Pin levels. -/
  pins : Pins
  /-- The management command channel. -/
  mcc : Mcc
  /-- Units behind the rings, by ring number. -/
  eng : List (Nat × Engine)
  /-- The host interface. -/
  hif : Hif
  /-- Memory integrity. -/
  ecc : Ecc
  /-- Logical tiles. -/
  tiles : List (Nat × Tile)
  /-- The trouble log and its spill, newest first. -/
  log : List LogRec
  /-- Brudo. -/
  sec : Sec
  /-- Reset and boot. -/
  rst : Rst
  /-- The Creel units. -/
  crl : Crl
  /-- The cascade. -/
  fab : Fab
  /-- Clock selection and time. -/
  clk : Clk
  /-- Pairing. -/
  pair : Pair
  /-- The Rim lane. -/
  rim : Rim
  /-- Plant ports A and B. -/
  plt : PltPort × PltPort
  /-- Reliability and maintenance. -/
  ras : Ras
  /-- The serving engine. -/
  srv : Srv
  /-- The video engine. -/
  vid : Vid
  /-- Power. -/
  pwr : Pwr
  /-- Counters and debug. -/
  dbg : Dbg
  deriving DecidableEq, Repr

/-- Reasons to stop with a fault. No meaning of this model stops: every access the spec refuses is answered with the
status the spec gives it, as a next state. -/
inductive Fault where
  /-- Raised by nothing; the type must have a name for a stop, should a repair need one. Safe. -/
  | unused
  deriving DecidableEq, Repr

/-- Reasons to give a command no meaning. -/
inductive Refusal where
  /-- A row of the table with no meaning yet (raised by exec's own arm). Safe. -/
  | notModelled (mnemonic : String)
  deriving DecidableEq, Repr

/-- The machine right after reset: every register at the Reset value of its field table. The values the spec leaves
to fuses, straps or the implementer are those of assumption 1. -/
def State.reset : State where
  pending := []
  regs := []
  mem := []
  host := []
  out := []
  free := 0
  fuse := ⟨true, 1, 0, 0x0123456789ABCDEF, 0x0200_0000_0000, 0x0200_0000_0001, true⟩
  pins := ⟨false, false, 0, false, [248, 248, 248, 248, 248, 248, 248, 248]⟩
  mcc := ⟨0, 0, 0, 0, none, [], [], none, none⟩
  eng := []
  hif := ⟨[], [], [], []⟩
  ecc := ⟨[], [], [], [], [], [], [], [], [], [], [], none⟩
  tiles := []
  log := []
  sec := .start
  rst := .start
  crl := .empty
  fab := .start
  clk := .start
  pair := .off
  rim := .off
  plt := (.start, .start)
  ras := ⟨[], [], [], [], [], [], [], [], []⟩
  srv := .stopped
  vid := ⟨[], []⟩
  pwr := .start
  dbg := .start

end Sys2Proof.Machine
end

