-- ==== Sys2Proof/Machine/Status.lean ====
section
/-! DEFINITION. The status codes of 02 Table 2-20 and of the chapters' own tables. -/

namespace Sys2Proof.Machine.Sts

/-- Completed. -/
def ok : Nat := 0x0000
/-- Target holds another command. -/
def busy : Nat := 0x0001
/-- Ended by FUNC_ABORT or RING_RESET. -/
def aborted : Nat := 0x0002
/-- Unit absent in the variant or gated. -/
def unitAbsent : Nat := 0x0003
/-- Opcode unknown or not accepted on this path. -/
def badOpcode : Nat := 0x0004
/-- Parameter out of range. -/
def badParam : Nat := 0x0005
/-- Access touches a forbidden region, or a record fails authentication. -/
def accessFault : Nat := 0x0006
/-- Device or unit state forbids the command. -/
def refusedState : Nat := 0x0007
/-- Maintenance token held by an exclusive activity. -/
def maintConflict : Nat := 0x0008
/-- EXEC_TIME less than 200 ns ahead. -/
def timePassed : Nat := 0x0009
/-- No key-value page available. -/
def noPages : Nat := 0x000A
/-- Uncorrectable error on a read; channel or ring halted. -/
def eccHalt : Nat := 0x000B
/-- Random numbers unavailable. -/
def entropyFault : Nat := 0x000C
/-- Semaphore owner halted. -/
def semHalted : Nat := 0x000D
/-- Filter exceeds the array or Splint limit. -/
def filterTooLarge : Nat := 0x000E
/-- Protocol or numerics levels differ. -/
def levelMismatch : Nat := 0x000F
/-- Operation exceeded its time limit. -/
def timeout : Nat := 0x0010
/-- Ring not in a state that permits the command. -/
def ringState : Nat := 0x0100
/-- Bounce window overlaps, is in use or is not registered. -/
def windowState : Nat := 0x0101
/-- Invalid 2:4 metadata entry (04 Table 4-12). -/
def sparseMeta : Nat := 0x0200
/-- Sequencer microcode fetch uncorrectable (04 Table 4-12). -/
def seqTrap : Nat := 0x0201

end Sys2Proof.Machine.Sts
end

