-- ==== Sys2Proof/Machine/Ops.lean ====
section
/-! DEFINITION. The named operations over the state that every family shares: registers and fields, memory, what leaves
the module, MSI-X vectors, the trouble log, clock islands and the unit maps. -/

namespace Sys2Proof.Machine.State

/-! ## Registers (00 R13 to R15) -/

/-- The value of a register. -/
def rd (s : State) (r : Reg) : Nat := (Cells.get (BitVec.ofNat 64 r.rst) r.addr s.regs).toNat

/-- A register set to a value, cut to its width. -/
def wr (s : State) (r : Reg) (v : Nat) : State :=
  { s with regs := Cells.set (BitVec.ofNat 64 r.rst) r.addr (BitVec.ofNat 64 (v % 2 ^ r.width)) s.regs }

/-- The value of a field. -/
def fd (s : State) (f : Fld) : Nat := bits (s.rd f.reg) f.lo f.w

/-- Whether a one-bit field is set. -/
def fb (s : State) (f : Fld) : Bool := s.fd f != 0

/-- A field set to a value; the register's other bits stay. -/
def fw (s : State) (f : Fld) (v : Nat) : State := s.wr f.reg (setBits (s.rd f.reg) f.lo f.w v)

/-- A field set to a truth value. -/
def fbw (s : State) (f : Fld) (b : Bool) : State := s.fw f (b2n b)

/-- Bits of a register set. -/
def orReg (s : State) (r : Reg) (m : Nat) : State := s.wr r (s.rd r ||| m)

/-- A count that stays at its largest value. -/
def bump (s : State) (r : Reg) (n : Nat) : State := s.wr r (satAdd (2 ^ r.width - 1) (s.rd r) n)

/-- A count that wraps to 0 at `2 ^ w`. -/
def bumpWrap (s : State) (r : Reg) (w n : Nat) : State := s.wr r ((s.rd r + n) % 2 ^ w)

/-- A register back at its reset value. -/
def regReset (s : State) (r : Reg) : State := { s with regs := Cells.erase r.addr s.regs }

/-- Every register of a range of offsets back at its reset value. -/
def regsReset (s : State) (lo n : Nat) : State := { s with regs := Cells.clearRange lo n s.regs }

/-- TIME_NS (15 R541). -/
def now (s : State) : Nat := s.rd Reg.CLK_TIME_NS

/-! ## Memory -/

/-- A byte of the module's memory by key (space and offset). Unlisted bytes read 0 (assumption 3). -/
def byte (s : State) (k : Nat) : Byte := Cells.get 0 k s.mem

/-- `n` bytes of the module's memory. -/
def memRead (s : State) (k n : Nat) : List Byte := (List.range n).map (fun i => s.byte (k + i))

/-- Bytes put into a store of cells. -/
def putCells (k : Nat) (bs : List Byte) (l : List Host.Cell) : List Host.Cell :=
  (bs.foldl (fun (l, k) b => (Cells.set 0 k b l, k + 1)) (l, k)).1

/-- Bytes written to the module's memory, no integrity bits touched. -/
def memWrite (s : State) (k : Nat) (bs : List Byte) : State := { s with mem := putCells k bs s.mem }

/-- A byte of host memory. Unlisted bytes read 0 (assumption 3). -/
def hostByte (s : State) (a : Nat) : Byte := Cells.get 0 a s.host

/-- `n` bytes of host memory. -/
def hostRead (s : State) (a n : Nat) : List Byte := (List.range n).map (fun i => s.hostByte (a + i))

/-- Bytes written to host memory. -/
def hostWrite (s : State) (a : Nat) (bs : List Byte) : State := { s with host := putCells a bs s.host }

/-! ## Open values -/

/-- A value the spec leaves open: `w` bits that nothing constrains (assumption 2). -/
def open_ (s : State) (w : Nat) : Nat × State := ((Config.freeBits w s.free).toNat, { s with free := s.free + 1 })

/-- An element of a list that the spec leaves open which: none of an empty list. -/
def pick {α : Type} (s : State) (l : List α) : State × Option α :=
  match l with
  | [] => (s, none)
  | [x] => (s, some x)
  | l => let (v, s) := s.open_ 32; (s, l[v % l.length]?)

/-! ## What leaves the module -/

/-- Something leaves the module. -/
def emit (s : State) (o : Out) : State := { s with out := o :: s.out }

/-- The MSI-X entry of a vector. -/
def msixOf (s : State) (v : Nat) : Msix := Cells.get Msix.reset v s.hif.msix

/-- The MSI-X entry of a vector replaced. -/
def setMsix (s : State) (v : Nat) (e : Msix) : State :=
  { s with hif := { s.hif with msix := Cells.set Msix.reset v e s.hif.msix } }

/-- A vector raised: its message leaves, or its pending bit is set while it is masked (02 R80). -/
def raise (s : State) (v : Nat) : State :=
  let e := s.msixOf v
  if e.masked then s.setMsix v { e with pending := true } else s.emit (.msix v e.addr e.data)

/-- Replies pending on a vector (02 R81). -/
def coalOf (s : State) (v : Nat) : Nat := Cells.get 0 v s.hif.coal

/-- The pending count of a vector replaced. -/
def setCoal (s : State) (v n : Nat) : State := { s with hif := { s.hif with coal := Cells.set 0 v n s.hif.coal } }

/-- A vector fired at once, its pending count cleared (02 R81). -/
def fire (s : State) (v : Nat) : State := (s.setCoal v 0).raise v

/-- A reply with IRQ set on a vector, under coalescing (02 R81). -/
def replyIrq (s : State) (v : Nat) : State :=
  let count := s.fd (Fld.HIF_COAL_COUNT v)
  let time := s.fd (Fld.HIF_COAL_TIME_US v)
  if v = 0 || count = 0 || time = 0 || count ≤ s.coalOf v + 1 then s.fire v else s.setCoal v (s.coalOf v + 1)

/-- A non-maskable event: its bit of HIF_URGENT_CAUSE and vector 0 (02 R88). -/
def urgent (s : State) (b : Nat) : State := (s.orReg Reg.HIF_URGENT_CAUSE (2 ^ b)).raise 0

/-- The trouble log's next record (19 R630, Table 19-5); severities 1 and 2 raise vector 2. -/
def trouble (s : State) (code sev island addr data : Nat) : State :=
  let seq := s.rd Reg.RAS_LOG_SEQ
  let s := { s with log := ⟨s.now, seq, code, sev, island, addr, data⟩ :: s.log }
  let s := s.wr Reg.RAS_LOG_SEQ (seq + 1)
  if sev = 1 || sev = 2 then s.raise 2 else s

/-- A record that a rule requires without a code of its own (19 R678): the family of the chapter and the rule. -/
def troubleRule (s : State) (fam rule sev island addr : Nat) : State :=
  s.trouble (fam * 256 + 0xFF) sev island addr rule

/-- A record of an event that ends a command or halts a ring (19 R678). -/
def troubleCmd (s : State) (status opcode ring sev island addr : Nat) : State :=
  s.trouble status sev island addr (opcode * 65536 + ring)

/-! ## Variant, islands and maps (00 Table 0-2, 01) -/

/-- The stacks the variant populates (00 Table 0-2). -/
def stackMask (s : State) : Nat := if s.fuse.video then 0xFF else 0x77

/-- Whether an HBM stack is populated and passed its self-test (00 R9, 06 R223). Before CAP_VALID it is the variant's. -/
def stackOk (s : State) (k : Nat) : Bool :=
  if s.fb Fld.CAP_UNITS_CAP_VALID then bit (s.fd Fld.CAP_UNITS_HBM_STACKS) k else bit s.stackMask k

/-- Whether a clock island is enabled (15 R537: CLK_EN0 and CLK_EN1). -/
def islandOn (s : State) (i : Nat) : Bool :=
  if i < 64 then bit (s.rd Reg.CLK_EN0) i else bit (s.rd Reg.CLK_EN1) (i - 64)

/-- A clock enable set or cleared. -/
def setClk (s : State) (i : Nat) (b : Bool) : State :=
  if i < 64 then s.wr Reg.CLK_EN0 (setBits (s.rd Reg.CLK_EN0) i 1 (b2n b))
  else s.wr Reg.CLK_EN1 (setBits (s.rd Reg.CLK_EN1) (i - 64) 1 (b2n b))

/-- The island of a tile site (01 Table 1-5). -/
def siteIsland (n : Nat) : Nat := if n < 18 then n else n + 19

/-- The island of a stack's controller and Creel unit. -/
def stackIsland (k : Nat) : Nat := if k < 4 then 18 + k else 51 + k

/-- The island of an Atyja port. -/
def portIsland (p : Nat) : Nat := if p < 9 then 22 + p else 50 + p

/-- The island of a store slice. -/
def sliceIsland (k : Nat) : Nat := if k < 6 then 31 + k else 62 + k

/-- The physical site of a logical tile (01 R23, R29). -/
def siteOf (s : State) (t : Nat) : Nat := bits (s.rd (Reg.RAS_TILE_MAP (t / 4))) (8 * (t % 4)) 8

/-- The logical tile of a site, if it carries one. -/
def tileOf (s : State) (site : Nat) : Option Nat :=
  if bit (s.rd Reg.RAS_SITE_ACTIVE) site then (List.range 32).find? (fun t => s.siteOf t == site) else none

/-- Whether a logical tile's site is in service and clocked. -/
def tileOn (s : State) (t : Nat) : Bool :=
  decide (t < 32) && bit (s.rd Reg.RAS_SITE_ACTIVE) (s.siteOf t) && s.islandOn (siteIsland (s.siteOf t))

/-- Whether a Creel unit or HBM controller is present and clocked. -/
def stackOn (s : State) (k : Nat) : Bool := decide (k < 8) && s.stackOk k && s.islandOn (stackIsland k)

/-- Whether a store slice is clocked. -/
def sliceOn (s : State) (k : Nat) : Bool := decide (k < 12) && s.islandOn (sliceIsland k)

/-- Whether the Splint engine is clocked. -/
def splintOn (s : State) : Bool := s.islandOn 81

/-- The module's own number in the cascade, 0xFFF while unconfigured (09 R337). -/
def ownMod (s : State) : Nat := s.fd Fld.ATY_FAB_CFG_MOD_NUM

/-- Whether a module field names this module (06 R199). -/
def isOwn (s : State) (m : Nat) : Bool := m == 0xFFF || (m == s.ownMod)

/-- A count that only a debugger sees: an access to a gated or absent unit (00 R5, 20 R653), with its address. -/
def gatedAccess (s : State) (addr : Nat) : State :=
  (s.bump Reg.DBG_GATED_ACCESS_CNT 1).wr Reg.DBG_GATED_LAST addr

/-! ## Units and their records -/

/-- The unit behind a ring. -/
def engOf (s : State) (n : Nat) : Engine := Cells.get Engine.idle n s.eng

/-- The unit behind a ring replaced. -/
def setEng (s : State) (n : Nat) (e : Engine) : State := { s with eng := Cells.set Engine.idle n e s.eng }

/-- A logical tile's record. -/
def tile (s : State) (t : Nat) : Tile := Cells.get Tile.idle t s.tiles

/-- A logical tile's record replaced. -/
def setTile (s : State) (t : Nat) (x : Tile) : State := { s with tiles := Cells.set Tile.idle t x s.tiles }

/-- Whether confidential mode is in force (02 HIF_CTRL.CONF). -/
def conf (s : State) : Bool := s.fb Fld.HIF_CTRL_CONF

end Sys2Proof.Machine.State
end

