-- ==== Sys2Proof/Machine/Pmu.lean ====
section
/-! DEFINITION. Counters (20 R640 to R647; 04 R165): the programmable counters of the groups with their filters, the event
counters of tile sites, and what a wrap does. -/

namespace Sys2Proof.Machine

/-- The unit, the virtual channel and the address of the request that an event belongs to (20 R642, R643). -/
structure Origin where
  unit : Nat
  vc : Nat
  addr : Option Nat
  deriving DecidableEq, Repr

/-- Units that issue on VC2 (08 Table 8-7): management cores, Brudo, Rim, Pairing and the debug access port. -/
def onVc2 (unit : Nat) : Bool := [0x2F, 0x30, 0x31, 0x32, 0x33, 0x34, 0x35, 0x38].contains unit

/-- The privilege bit of a unit (20 R642): 0 TENANT, 1 FIRMWARE, 2 DEBUG. -/
def privOf (unit : Nat) : Nat := if unit = 0x38 then 2 else if onVc2 unit then 1 else 0

/-- The origin of an operation of a unit. -/
def Origin.of (unit addr : Nat) : Origin := ⟨unit, if onVc2 unit then 2 else 0, some addr⟩

/-- Events whose occurrences follow from cycles, from the host's bus, from the NoC or from inside a codec (assumption 80): the
model does not see them happen. -/
def pmuUnseen (g ev : Nat) : Bool :=
  [0x000, 0x005, 0x103, 0x140, 0x150, 0x151, 0x161, 0x170, 0x171].contains ev || (decide (38 ≤ g) && decide (g < 42))

/-- Tile events of the same kind: those that count cycles (04 Table 4-17). -/
def tileUnseen (e : Nat) : Bool := decide (e < 12) || e == 30 || e == 31

/-- The origin of a request; the stand-in of management core 0 counts as that core. -/
def Origin.req (q : Req) : Origin := Origin.of (if q.srcUnit = 0x7F then 0x2F else q.srcUnit) q.addr

/-- The origin of a response on a port: the unit it answers. It carries no address of its own. -/
def Origin.resp (r : Resp) : Origin := ⟨r.dstUnit, if onVc2 r.dstUnit then 2 else 0, none⟩

/-- The island of a counter group (20 Table 20-1). -/
def groupIsland (g : Nat) : Nat :=
  if g < 12 then State.sliceIsland g
  else if g < 20 then State.stackIsland (g - 12)
  else if g < 38 then State.portIsland (g - 20)
  else [74, 75, 93, 94, 76, 81, 82, 83, 84, 85, 86, 87, 88, 91, 92].getD (g - 38) 92

/-- The codes of 20 Table 20-4. -/
def pmuEvents : List Nat :=
  [0x000, 0x001, 0x002, 0x003, 0x004, 0x005, 0x006, 0x007, 0x100, 0x101, 0x102, 0x103, 0x104, 0x110, 0x111, 0x112, 0x113,
    0x120, 0x121, 0x122, 0x123, 0x124, 0x130, 0x131, 0x140, 0x150, 0x151, 0x152, 0x160, 0x161, 0x170, 0x171, 0x172]

/-- Events to which only the class filter applies, and those to which none does (20 Table 20-4). -/
def pmuFiltered (ev : Nat) : Bool := [0x001, 0x002, 0x003, 0x004, 0x100, 0x101, 0x102, 0x110, 0x111, 0x113, 0x130].contains ev

namespace State

/-! ## Wraps (20 R645, R647) -/

/-- The command in progress at the unit of a counter group or, from 64 on, a tile site: its OPCODE and SEQ. -/
def pmuCommand (s : State) (who : Nat) : Nat :=
  let job :=
    if 64 ≤ who then (match s.tileOf (who - 64) with | some t => (s.engOf t).cur | none => none)
    else if 12 ≤ who && who < 20 then (s.engOf (20 + who)).cur
    else if who = 43 then (s.engOf 44).cur
    else if 44 ≤ who && who < 49 then (s.vid.jobs.find? (fun j => j.cores.contains (who - 44))).map (·.job)
    else none
  match job with
  | some j => if j.begun then j.pkt.opcode.toNat * 2 ^ 32 + j.pkt.seq.toNat else 0
  | none => 0

/-- The record of a wrap, or its count where the group wrote one within t_PMU_OVF_GAP (20 R645): `who` is a group, or 64 and a
tile site; `what` the counter, or 0x80 and a tile event. -/
def pmuRecord (s : State) (who what : Nat) : State :=
  let gap := match Cells.find who s.dbg.records with | some t => decide (s.now < t + 10000) | none => false
  if gap then s.bump Reg.PMU_OVF_LOST 1
  else
    let island := if 64 ≤ who then siteIsland (who - 64) else groupIsland who
    let s := { s with dbg := { s.dbg with records := Cells.insert who s.now (Cells.erase who s.dbg.records) } }
    s.trouble 0x0D01 1 island 0 (what * 2 ^ 56 + who % 64 * 2 ^ 48 + s.pmuCommand who)

/-- A counter of a group has wrapped. -/
def pmuWrap (s : State) (g c : Nat) : State :=
  let s := s.orReg (Reg.PMU_OVF g) (2 ^ c)
  if s.fb (Fld.PMU_EVSEL_IRQ g c) then s.pmuRecord g c else s

/-- An event counter of a tile site has wrapped. -/
def tileWrap (s : State) (site e : Nat) : State :=
  let s := s.orReg (Reg.PMU_TOVF site) (2 ^ e)
  if bit (s.rd (Reg.PMU_TIRQ site)) e then s.pmuRecord (64 + site) (0x80 + e) else s

/-! ## Counting (20 R641 to R643) -/

/-- Whether a counter counts an event of an origin. -/
def pmuQualifies (s : State) (g c ev : Nat) (o : Option Origin) : Bool :=
  s.fb (Fld.PMU_EVSEL_EN g c) && s.fd (Fld.PMU_EVSEL_EVENT g c) == ev &&
    match o with
    | none => true
    | some o =>
      bit (s.fd (Fld.PMU_EVSEL_CLASS g c)) o.vc && (!pmuFiltered ev ||
        (bit (s.fd (Fld.PMU_EVSEL_PRIV g c)) (privOf o.unit) &&
          (!s.fb (Fld.PMU_EVSEL_MASTER_EN g c) || s.fd (Fld.PMU_EVSEL_MASTER g c) == o.unit) &&
          (!s.fb (Fld.PMU_EVSEL_ADDR_EN g c) || (match o.addr with
            | some a => (a &&& s.rd (Reg.PMU_AMASK g c)) == (s.rd (Reg.PMU_ABASE g c) &&& s.rd (Reg.PMU_AMASK g c))
            | none => false))))

/-- An event of a counter group, `n` times. -/
def pmuEvent (s : State) (g ev n : Nat) (o : Option Origin) : State :=
  if n = 0 || !s.islandOn (groupIsland g) then s
  else (List.range 8).foldl (fun s c =>
    if s.pmuQualifies g c ev o then
      let v := s.rd (Reg.PMU_CNT g c) + n
      let s := s.wr (Reg.PMU_CNT g c) (v % 2 ^ 48)
      if 2 ^ 48 ≤ v then s.pmuWrap g c else s
    else s) s

/-- An event of a tile site's event counters, counted `n` times (04 R165). -/
def tileEvent (s : State) (t e n : Nat) : State :=
  let site := s.siteOf t
  let v := s.rd (Reg.TILE_EVCNT site e) + n
  let s := s.wr (Reg.TILE_EVCNT site e) (v % 2 ^ 48)
  if 2 ^ 48 ≤ v then s.tileWrap site e else s

end State
end Sys2Proof.Machine
end

