-- ==== Sys2Proof/Machine/Crc.lean ====
section
/-! DEFINITION. The cyclic redundancy checks the spec names: CRC-32 of IEEE 802.3 (09 Table 9-2), CRC-32C (19 R628, 18),
CRC-8 with polynomial 0x07 (19 R628) and CRC-64 of ECMA-182 (12 R445). -/

namespace Sys2Proof.Machine

/-- One byte of a reflected 32-bit CRC with polynomial `poly` (reflected). -/
def crcStep (poly crc : Nat) (b : Byte) : Nat :=
  (List.range 8).foldl (fun c _ => if c % 2 = 1 then c / 2 ^^^ poly else c / 2) (crc ^^^ b.toNat)

/-- CRC-32 with the IEEE 802.3 polynomial. -/
def crc32 (bs : List Byte) : Nat := bs.foldl (crcStep 0xEDB88320) 0xFFFFFFFF ^^^ 0xFFFFFFFF

/-- CRC-32C (Castagnoli). -/
def crc32c (bs : List Byte) : Nat := bs.foldl (crcStep 0x82F63B78) 0xFFFFFFFF ^^^ 0xFFFFFFFF

/-- CRC-8 with polynomial 0x07 over bytes, most significant byte first. -/
def crc8 (bs : List Byte) : Nat :=
  bs.foldl (fun c b => (List.range 8).foldl
    (fun c _ => if 128 ≤ c then (c * 2 ^^^ 0x107) % 256 else c * 2 % 256) (c ^^^ b.toNat)) 0

/-- CRC-64 with the ECMA-182 polynomial, initial value 0, no reflection and no final XOR (12 R445). -/
def crc64 (bs : List Byte) : Nat :=
  bs.foldl (fun c b => (List.range 8).foldl
    (fun c _ => if 2 ^ 63 ≤ c then (c * 2 ^^^ 0x142F0E1EBA9EA3693) % 2 ^ 64 else c * 2) (c ^^^ b.toNat * 2 ^ 56)) 0

end Sys2Proof.Machine
end

