-- ==== Sys2Proof/Machine/Health.lean ====
section
/-! DEFINITION. The health of the module (19 R637) and the spares left (19 Table 19-7), as every family that spends a spare
reports them. -/

namespace Sys2Proof.Machine.State

/-- The numbers below `n` whose bits are clear in both masks. -/
def spareBits (a b n : Nat) : Nat := ((List.range n).filter (fun i => !bit a i && !bit b i)).length

/-- Spares left (19 Table 19-7, sensors 13 to 19): tile sites, ports, skein pages, management cores, video cores, West and East
phases. -/
def sparesLeft (s : State) : List Nat :=
  let v := s.rd Reg.RAS_CORE_STATE
  let p := s.rd Reg.RAS_PORT_STATE
  [spareBits (s.rd Reg.RAS_SITE_ACTIVE) (s.rd Reg.RAS_SITE_RETIRED) 36, spareBits p (p / 2 ^ 32) 18,
    ((List.range 8).map (fun k => if s.stackOk k then s.fd (Fld.HBM_REMAP_STATE_FREE k) else 0)).sum,
    spareBits v (v / 16) 4, if s.fuse.video then spareBits (v / 256) (v / 65536) 5 else 0,
    s.fd Fld.PWR_PHASE_W_SPARE, s.fd Fld.PWR_PHASE_E_SPARE]

/-- RAS_HEALTH.STATE (19 R637). Before CAP_VALID nothing is known lost. -/
def health (s : State) : Nat :=
  let known := s.fb Fld.CAP_UNITS_CAP_VALID
  let v := s.rd Reg.RAS_CORE_STATE
  let siteLost := (List.range 32).any (fun t => s.siteOf t == 0xFF)
  let stackLost := s.fd Fld.CAP_UNITS_HBM_STACKS != s.stackMask
  let coreLost := decide (((List.range 4).filter (bit v)).length < 3)
  let none_ := s.sparesLeft.zipIdx.any (fun (n, i) => n == 0 && (i != 4 || s.fuse.video))
  let full := !(List.range 12).all (fun k => (List.range 4).all (fun m => s.rd (Reg.SLC_MACRO_FULL k m) == 0))
  let lost := (List.range 8).any (fun k => s.rd (Reg.HBM_PAGES_LOST k) != 0)
  if s.sec.otp.entropyFail || (known && (siteLost || stackLost || coreLost)) then 3
  else if s.fd Fld.RIM_STATUS_STATE = 6 || s.fd Fld.SRV_STATUS_STATE = 3 then 2
  else if s.fb Fld.RAS_STORE_FULL || (known && (none_ || full || lost)) then 1
  else 0

/-- RAS_HEALTH brought up to date, with the record of a change. -/
def healthCheck (s : State) : State :=
  let h := s.health
  if s.fd Fld.RAS_HEALTH_STATE = h then s
  else ((s.fw Fld.RAS_HEALTH_STATE h).fbw Fld.RAS_HEALTH_REPLACE (h != 0)).trouble 0x0C85 0 0xFF 0 h

end Sys2Proof.Machine.State
end

