-- ==== Sys2Proof/Machine/Lane.lean ====
section
/-! DEFINITION. The state of the Rim lane under the events of 11 Table 11-6, and the FAIL conditions of paired services that
follow from it (12 R453), as every family raises them. -/

namespace Sys2Proof.Machine.State

/-! ## Pairing messages (12 Table 12-3) -/

/-- A message of 32 bytes sent on the Pairing link while it is synchronised: TYPE, SVC and the other bytes as a number from
byte 2 on; CRC-32C over bytes 0 to 27. -/
def pairSend (s : State) (type svc body : Nat) : State :=
  if s.fb Fld.PAIR_STATUS_LINK_UP then
    let bs := leBytes 28 (type + svc * 2 ^ 8 + body * 2 ^ 16)
    s.emit (.pair (bs ++ leBytes 4 (crc32c bs)))
  else s

/-- The hidden part of a service. -/
def svc (s : State) (n : Nat) : PairSvc := Cells.get PairSvc.start n s.pair.svcs

/-- The hidden part of a service replaced. -/
def setSvc (s : State) (n : Nat) (x : PairSvc) : State :=
  { s with pair := { s.pair with svcs := Cells.set PairSvc.start n x s.pair.svcs } }

/-- The hidden part of a service changed. -/
def updSvc (s : State) (n : Nat) (f : PairSvc → PairSvc) : State := s.setSvc n (f (s.svc n))

/-- ROLE of a service: 0 OFF, 1 RESYNC, 2 STANDBY, 3 ACTIVE, 4 FAILED. -/
def svcRole (s : State) (n : Nat) : Nat := s.fd (Fld.PAIR_SVC_STATUS_ROLE n)

/-- Whether a service is a STEP service. -/
def svcStep (s : State) (n : Nat) : Bool := s.fb (Fld.PAIR_SVC_STATUS_TYPE n)

/-- The services that are not OFF. -/
def svcsOn (s : State) : List Nat := (List.range 64).filter (fun n => s.svcRole n != 0)

/-- A role taken; a change counts in CLAIM_GEN (12 R436). -/
def setRole (s : State) (n role : Nat) : State :=
  if s.svcRole n = role then s
  else
    let s := s.fw (Fld.PAIR_SVC_STATUS_ROLE n) role
    { s with pair := { s.pair with claimGen := (s.pair.claimGen + 1) % 2 ^ 16 } }

/-! ## Streams -/

/-- A scheduled stream's runtime. -/
def rimRt (s : State) (slot : Nat) : RimRt := Cells.get RimRt.start slot s.rim.rt

/-- A scheduled stream's runtime changed. -/
def updRt (s : State) (slot : Nat) (f : RimRt → RimRt) : State :=
  { s with rim := { s.rim with rt := Cells.set RimRt.start slot (f (s.rimRt slot)) s.rim.rt } }

/-- SSTATE of a slot: 0 EMPTY, 1 DEFINED, 2 ACTIVE, 3 FAULTED. -/
def strState (s : State) (slot : Nat) : Nat := s.fd (Fld.RIM_STR_STATUS_SSTATE slot)

/-- The scheduled slot of a RIM service: the stream of its OUT_STREAM in the schedule in force (12 R428). -/
def svcSlot (s : State) (n : Nat) : Option Nat :=
  (s.rim.streams.find? (fun e => e.2.outStream == s.fd (Fld.PAIR_SVC_STATUS_ID n) && decide (2 ≤ s.strState e.1))).map (·.1)

/-- A known-answer test of a stream asked for, not to replace a capture before a given time (11 R412). -/
def askKat (s : State) (slot time : Nat) : State := s.updRt slot (fun r => { r with kat := r.kat ++ [time] })

/-- The service of a stream, if it is paired. -/
def slotSvc (s : State) (slot : Nat) : Option Nat :=
  s.svcsOn.find? (fun n => !s.svcStep n && s.svcSlot n == some slot)

/-! ## FAIL conditions (12 R453) -/

/-- RIM_STATUS.STATE: 0 DISABLED, 1 ENABLED, 2 ACTIVE, 3 PAUSED, 4 STOPPED, 5 FAULTED, 6 LOST. -/
def lane (s : State) : Nat := s.fd Fld.RIM_STATUS_STATE

/-- The cause of a service's FAIL condition, if it holds one. -/
def failCause (s : State) (n : Nat) : Option Nat :=
  let rim := !s.svcStep n
  if s.pair.conds.contains 5 then some 5
  else if s.pair.conds.contains 4 then some 4
  else if s.pair.conds.contains 2 then some 2
  else if rim && (s.svc n).failed then some 3
  else if rim && (s.lane != 2 || (match s.svcSlot n with | some k => s.strState k == 3 | none => false)) then some 1
  else none

/-- Services that enter a FAIL condition become FAILED and stop releasing; FAIL goes out once for each cause (12 R453). Services
whose conditions have ended return to RESYNC and ask for their test (R458). HEALTHY follows. -/
def pairCheck (s : State) : State :=
  let failing := (s.svcsOn.filter (fun n => s.svcRole n != 4)).filterMap (fun n => (s.failCause n).map (fun c => (n, c)))
  let back := s.svcsOn.filter (fun n => s.svcRole n == 4 && (s.failCause n).isNone)
  let s := failing.foldl (fun s e => (s.setRole e.1 4).updSvc e.1 (fun x => { x with
    waiting := false, stop := none, swap := none, passed := false })) s
  let s := [1, 2, 3, 4, 5].foldl (fun s c =>
    match failing.filter (fun e => e.2 == c) with
    | [] => s
    | l => s.pairSend 0x07 0 ((l.foldl (fun m e => m + 2 ^ e.1) 0) * 2 ^ 16 + c * 2 ^ 80)) s
  let s := back.foldl (fun s n =>
    let s := (s.setRole n 1).fw (Fld.PAIR_SVC_STATUS_MATCH_RUN n) 0
    let s := s.updSvc n (fun x => { x with passed := false })
    match s.svcSlot n with
    | some k => s.askKat k (s.now + 1000)
    | none => s) s
  let healthy := s.svcsOn.all (fun n => (s.failCause n).isNone) && s.pair.conds.isEmpty
  { s with pair := { s.pair with healthy := healthy } }

/-- A FAIL condition of the whole module begins. -/
def pairFail (s : State) (c : Nat) : State :=
  let s := if s.pair.conds.contains c then s else { s with pair := { s.pair with conds := s.pair.conds ++ [c] } }
  s.pairCheck

/-- A FAIL condition of the whole module ends. -/
def pairFailEnd (s : State) (c : Nat) : State :=
  ({ s with pair := { s.pair with conds := s.pair.conds.filter (· != c) } }).pairCheck

/-! ## The lane (11 Table 11-6) -/

/-- Whether the Rim controller owns a tile's ring (11 R396). -/
def rimOwns (s : State) (t : Nat) : Bool :=
  s.lane != 0 && decide (t < 32) && (s.fd Fld.RIM_TILES_TILE_A == t || s.fd Fld.RIM_TILES_TILE_B == t)

/-- The lane put into a state. Results in flight are dropped unless it is ACTIVE; the rest of a running program is not
started. -/
def laneTo (s : State) (st : Nat) : State :=
  let s := if st = 2 then s
    else
      let s := { s with rim := { s.rim with runs := [] } }
      [s.fd Fld.RIM_TILES_TILE_A, s.fd Fld.RIM_TILES_TILE_B].foldl (fun s t =>
        if s.rimOwns t then s.setEng t { s.engOf t with fetched := [] } else s) s
  (s.fw Fld.RIM_STATUS_STATE st).pairCheck

/-- The schedule removed, descriptors kept: scheduled streams are DEFINED again. -/
def laneUnschedule (s : State) : State :=
  let slots := s.rim.streams.map (·.1)
  let s := { s with rim := { s.rim with sched := none, runs := [], rt := [], next := (0, 0) } }
  let s := slots.foldl (fun s k => s.fw (Fld.RIM_STR_STATUS_SSTATE k) 1) s
  ((s.fw Fld.RIM_STATUS_STREAMS 0).regReset Reg.RIM_ACT_TIME).regReset Reg.RIM_FRAME_NS |>.regReset Reg.RIM_BUDGET_USED

/-- STOPPED: from every state but DISABLED and LOST. -/
def laneStop (s : State) : State :=
  if s.lane = 0 || s.lane = 6 then s else s.laneUnschedule.laneTo 4

/-- PAUSED for a condition; it stays listed until it ends. A lane that runs no schedule only keeps the condition. -/
def lanePause (s : State) (c : Nat) : State :=
  let s := if s.rim.holds.contains c then s else { s with rim := { s.rim with holds := s.rim.holds ++ [c] } }
  if s.lane = 2 then s.laneTo 3 else s

/-- A pausing condition ends; RIM_LANE_RESUME returns the lane to ACTIVE. -/
def laneHoldEnd (s : State) (c : Nat) : State := { s with rim := { s.rim with holds := s.rim.holds.filter (· != c) } }

/-- FAULTED after an exception on a Rim tile, with its record and vector 2. -/
def laneFault (s : State) (addr : Nat) : State :=
  if s.lane = 0 || s.lane = 6 then s else (s.laneTo 5).troubleRule 6 414 1 88 addr

/-- LOST: no East-die spare is left for a Rim tile. -/
def laneLost (s : State) : State := if s.lane = 0 then s else ((s.laneTo 6).troubleRule 6 414 1 88 0).healthCheck

/-- DISABLED: descriptors and schedule cleared, the tiles released. -/
def laneDisable (s : State) : State :=
  if s.lane = 0 then s
  else
    let s := s.laneUnschedule.laneTo 0
    let s := { s with rim := .off }
    let s := (List.range 64).foldl (fun s k => s.regsReset (Reg.RIM_STR_STATUS k).addr 0x20) s
    s.regReset Reg.RIM_TILES

/-- A spare tile site of the East die (01 R25, R27). -/
def eastSpare (s : State) : Bool := (rangeFrom 18 18).any (fun k =>
  !bit (s.rd Reg.RAS_SITE_ACTIVE) k && !bit (s.rd Reg.RAS_SITE_RETIRED) k && !s.ras.moves.any (fun m => m.spare == k))

/-- The site of a Rim tile is retired (11 Table 11-6, 19 R623). -/
def laneSite (s : State) (t : Nat) : State :=
  if s.rimOwns t then (if s.eastSpare then s.lanePause 1 else s.laneLost) else s

end Sys2Proof.Machine.State
end

