-- ==== Sys2Proof/Machine/Token.lean ====
section
/-! DEFINITION. The maintenance token (19 R617 to R619) and the marking of a tile site for retirement (19 R623 step 1),
as every family draws it. -/

namespace Sys2Proof.Machine.State

/-- A record of the RAS store with its CRC (19 Table 19-4), to be appended. -/
def persist (s : State) (body : Nat) : State :=
  let r := body * 256 + crc8 ((leBytes 7 body).reverse)
  { s with ras := { s.ras with unsaved := s.ras.unsaved ++ [r] } }

/-- Activity codes (19 Table 19-1). -/
def actBert : Nat := 0x10
/-- Retirement and spare insertion. -/
def actRetire : Nat := 0x11
/-- Periodic spare test. -/
def actSpareTest : Nat := 0x12
/-- RAS_SELFTEST. -/
def actSelftest : Nat := 0x20
/-- MEM_SCRUB. -/
def actMemScrub : Nat := 0x21
/-- MEM_ECC_TEST. -/
def actEccTest : Nat := 0x22
/-- Tenant scrub. -/
def actTenantScrub : Nat := 0x23
/-- UPD_COMMIT. -/
def actCommit : Nat := 0x24
/-- Commit resumption by the Slath ROM. -/
def actResume : Nat := 0x25

/-- Whether an activity is EXCLUSIVE (19 Table 19-1). -/
def exclusive (a : Activity) : Bool := decide (0x20 ≤ a.code)

/-- Whether an activity may hold the token beside its present holders. -/
def maintFits (s : State) (a : Activity) : Bool :=
  if exclusive a then s.ras.holders.isEmpty else !s.ras.holders.any exclusive

/-- The refusal of a command's activity (19 R618): the first holder's code, where the activity does not fit, or is
SHARED while an EXCLUSIVE one waits. -/
def maintRefused (s : State) (a : Activity) : Option Nat :=
  if !s.maintFits a || (!exclusive a && s.ras.queue.any exclusive) then
    some (match s.ras.holders with | h :: _ => h.code | [] => 0)
  else none

/-- The token drawn. -/
def maintTake (s : State) (a : Activity) : State := { s with ras := { s.ras with holders := s.ras.holders ++ [a] } }

/-- Whether an activity holds the token. -/
def maintHolds (s : State) (a : Activity) : Bool := s.ras.holders.contains a

/-- Whether an activity must join the queue: it does not fit, or others wait before it (19 R618). -/
def maintMustWait (s : State) (a : Activity) : Bool :=
  !s.maintFits a || (if exclusive a then !s.ras.queue.isEmpty else s.ras.queue.any exclusive)

/-- An activity joins the queue. -/
def maintQueue (s : State) (a : Activity) : State := { s with ras := { s.ras with queue := s.ras.queue ++ [a] } }

/-- A tile move whose retirement holds the token, before quiescence (19 R623 step 2). -/
def moveStart (s : State) (site : Nat) : State :=
  match (List.range 32).find? (fun t => s.siteOf t == site && bit (s.rd Reg.RAS_SITE_ACTIVE) site) with
  | none => s
  | some t => { s with ras := { s.ras with moves := s.ras.moves ++ [⟨t, site, 0xFF, false, false⟩] } }

/-- A tile site marked for retirement (19 R623 step 1): RAS_SITE_RETIRED at once, its tile fenced, the packets fetched ahead
discarded (19 R622), a Rim lane on it paused or lost first, and the token drawn or waited for. -/
def markSite (s : State) (site : Nat) : State :=
  if bit (s.rd Reg.RAS_SITE_RETIRED) site then s
  else
    let s := s.orReg Reg.RAS_SITE_RETIRED (2 ^ site)
    let s := match s.tileOf site with
      | some t =>
        let s := s.laneSite t
        (s.setTile t { s.tile t with fenced := true }).setEng t { s.engOf t with fetched := [] }
      | none => s
    let a : Activity := ⟨actRetire, 1, site⟩
    if s.maintMustWait a then s.maintQueue a else (s.maintTake a).moveStart site

end Sys2Proof.Machine.State
end

