-- ==== Sys2Proof/Machine/Mem.lean ====
section
/-! DEFINITION. Memory as its homes serve it (06, 08): regions and who may touch them, host memory and bounce windows,
reads and writes with valid bits, poison, test marks, counts, remaps and page retirement, and sync-token counters. -/

namespace Sys2Proof.Machine

/-- The key of a global address: its space and offset (01 R37). -/
def memKey (addr : Nat) : Nat := addr % 2 ^ 52

/-- The space of a key or address. -/
def spaceOf (addr : Nat) : Nat := bits addr 48 4

/-- The offset of a key or address. -/
def offOf (addr : Nat) : Nat := bits addr 0 48

/-- The module field of an address. -/
def modOf (addr : Nat) : Nat := bits addr 52 12

/-- The global address that names a key on the reporting module (06 R199: module field 0xFFF). -/
def ownAddr (k : Nat) : Nat := 0xFFF * 2 ^ 52 + k % 2 ^ 52

/-- The key of a tile-store byte. -/
def tileKey (t off : Nat) : Nat := 2 ^ 48 + t * 2 ^ 23 + off

/-- The key of a store-slice byte. -/
def sliceKey (k off : Nat) : Nat := 2 * 2 ^ 48 + k * 2 ^ 24 + off

/-- The key of an HBM byte. -/
def hbmKey (st off : Nat) : Nat := st * 2 ^ 36 + off

/-! ## Host memory and bounce windows (02 R84 to R86, 06 R201) -/

/-- The bounce window that holds a run of host bytes whole. -/
def State.windowOf (s : State) (a n : Nat) : Option (Nat × Bounce) :=
  s.hif.bounce.find? (fun e => decide (e.2.base ≤ a) && decide (a + n ≤ e.2.base + e.2.size))

/-- A bounce window replaced. -/
def State.setBounce (s : State) (w : Nat) (b : Bounce) : State :=
  { s with hif := { s.hif with bounce := Cells.insert w b (Cells.erase w s.hif.bounce) } }

/-- A host-to-device record opened (02 R86): its payload, or none for a stale IV or a failing tag, which is counted. -/
def State.openRecord (s : State) (w idx : Nat) : State × Option (List Byte) :=
  match (Cells.find w s.hif.bounce).filter (fun b => decide (4096 * (idx + 1) ≤ b.size)) with
  | none => (s, none)
  | some b =>
    let raw := s.hostRead (b.base + 4096 * idx) 4096
    let iv := ofLE (raw.take 12)
    let aad := ofLE ((raw.drop 12).take 4)
    let good := bits aad 28 4 == w && !bit aad 27 && decide (bits aad 0 13 ≤ 4064) && decide (b.ivIn < iv)
    match (if good then Config.gcmOpen s.sec.session b.salt w 0 iv aad ((raw.drop 16).take 4064) (raw.drop 4080)
        else none) with
    | none => (s.bump Reg.HIF_TAG_FAIL_CNT 1, none)
    | some pl => (s.setBounce w { b with ivIn := iv }, some (pl.take (bits aad 0 13)))

/-- A device-to-host record sealed with the next IV and written (02 R86, Table 2-21). -/
def State.sealRecord (s : State) (w idx : Nat) (payload : List Byte) : State :=
  match (Cells.find w s.hif.bounce).filter (fun b => decide (4096 * (idx + 1) ≤ b.size)) with
  | none => s
  | some b =>
    let iv := b.ivOut + 1
    let aad := w * 2 ^ 28 + 2 ^ 27 + payload.length % 2 ^ 13
    let plain := payload ++ List.replicate (4064 - payload.length) 0
    let (ct, tag) := Config.gcmSeal s.sec.session b.salt w 1 iv aad plain
    (s.setBounce w { b with ivOut := iv }).hostWrite (b.base + 4096 * idx)
      (leBytes 12 iv ++ leBytes 4 aad ++ ct.take 4064 ++ tag.take 16)

/-- Several records of a window opened in order. -/
def State.openRecords (s : State) (w : Nat) : List Nat → State × Option (List (List Byte))
  | [] => (s, some [])
  | i :: is =>
    match s.openRecord w i with
    | (s, none) => (s, none)
    | (s, some p) =>
      match s.openRecords w is with
      | (s, none) => (s, none)
      | (s, some ps) => (s, some (p :: ps))

/-- A DMA read of host memory: none where the access is forbidden (02 R84) or a record fails (02 R86). In confidential
mode the offset within the window counts payload bytes in record order (06 R201). -/
def State.hostLoad (s : State) (a n : Nat) : State × Option (List Byte) :=
  if s.conf then
    match s.windowOf a n with
    | none => (s, none)
    | some (w, b) =>
      let o := a - b.base
      let first := o / 4064
      let cnt := if n = 0 then 0 else (o + n - 1) / 4064 + 1 - first
      match s.openRecords w (rangeFrom first cnt) with
      | (s, none) => (s, none)
      | (s, some ps) =>
        let all := (ps.map (fun p => p ++ List.replicate (4064 - p.length) 0)).flatten
        (s, some ((all.drop (o - first * 4064)).take n))
  else (s, some (s.hostRead a n))

/-- A DMA write of host memory: none where it is forbidden. In confidential mode each record it touches is sealed again
from the bytes the module has written to that window (assumption 7). -/
def State.hostStore (s : State) (a : Nat) (bs : List Byte) : Option State :=
  if s.conf then
    match s.windowOf a bs.length with
    | none => none
    | some (w, b) =>
      let o := a - b.base
      let s := { s with hif := { s.hif with stage := State.putCells (w * 2 ^ 40 + o) bs s.hif.stage } }
      let first := o / 4064
      let cnt := if bs.length = 0 then 0 else (o + bs.length - 1) / 4064 + 1 - first
      some ((rangeFrom first cnt).foldl (fun s i =>
        s.sealRecord w i ((List.range 4064).map (fun j => Cells.get 0 (w * 2 ^ 40 + i * 4064 + j) s.hif.stage))) s)
  else some (s.hostWrite a bs)

/-- The global address of host memory, as a fault reports it (06 R199). -/
def hostAddr (a : Nat) : Nat := ownAddr (4 * 2 ^ 48 + a % 2 ^ 48)

/-- Whether a run of host bytes may be read or written by DMA (02 R57, R84). -/
def State.hostAllowed (s : State) (a n : Nat) : Bool := !s.conf || (s.windowOf a n).isSome

/-! ## Regions (06 R197 to R204) -/

/-- The end of a stack's allocatable region (06 Table 6-2). -/
def State.allocEnd (s : State) (st : Nat) : Nat :=
  if !s.fuse.video && (st = 0 || st = 4) then 0x840000000 else 0x880000000

/-- The end of a stack's bytes. -/
def stackEnd : Nat := 0x900000000

/-- Requesters that may touch the reserve: management cores, Brudo and the HIF bounce stager (06 R204). -/
def mayReserve (unit : Nat) : Bool := (0x2F ≤ unit && unit ≤ 0x33) || unit == 0x2E

/-- The debug access port's unit (20 R651). -/
def dapUnit : Nat := 0x38

/-- Whether an offset of a stack lies in the regions that the tenant scrub writes (14 R510, 06 Table 6-3), its skein pages
apart: the allocatable region and the reserve regions of bounce staging, Brudo, the serving engine and Creel. -/
def State.scrubRegion (s : State) (st o : Nat) : Bool :=
  let first := decide (0x8C0000000 ≤ o)
  let second := decide (0x840000000 ≤ o) && decide (o < 0x880000000)
  if s.fuse.video then decide (o < 0x880000000) || (first && [2, 3, 5, 6, 7].contains st)
  else decide (o < s.allocEnd st) || (first && [2, 5, 6].contains st) || (second && [0, 4].contains st)

/-- Whether the memory of a closed tenant is not yet scrubbed (14 R511). -/
def State.unscrubbed (s : State) : Bool := s.fb Fld.SEC_STATUS_SCRUB_REQUIRED && !s.fb Fld.SEC_STATUS_TENANT_OPEN

/-- Whether a run of HBM bytes may be touched by a unit (06 R198, R203, R204; 14 R511; 20 R651). -/
def State.hbmAllowed (s : State) (unit off n : Nat) : Bool :=
  let st := off / 2 ^ 36
  let o := off % 2 ^ 36
  decide (off < 2 ^ 39) && s.stackOk st && decide (o + n ≤ stackEnd) && !(s.unscrubbed && s.scrubRegion st o) &&
    (decide (o + n ≤ s.allocEnd st) || unit == dapUnit ||
      (mayReserve unit && (decide (o + n ≤ 0x880000000) || decide (0x8C0000000 ≤ o))))

/-- Whether a run of bytes of the module's own memory spaces may be touched by a unit: HBM, tile stores, slices. -/
def State.runAllowed (s : State) (unit key n : Nat) : Bool :=
  let off := offOf key
  match spaceOf key with
  | 0 => s.hbmAllowed unit off n
  | 1 => decide (off < 2 ^ 28) && decide (off % 2 ^ 23 + n ≤ 2 ^ 23)
  | 2 => decide (off < 2 ^ 28) && decide (off / 2 ^ 24 < 12) && decide (off % 2 ^ 24 + n ≤ 2 ^ 24)
  | _ => false

/-- Whether the offset of a run is valid on a module whose population this one cannot see: the decode of 06 Table 6-1
and the regions of 06 Table 6-2, KGM-4480 columns (assumption 9). -/
def farRunAllowed (key n : Nat) : Bool :=
  let off := offOf key
  match spaceOf key with
  | 0 => decide (off < 2 ^ 39) && decide (off % 2 ^ 36 + n ≤ 0x880000000)
  | 1 => decide (off < 2 ^ 28) && decide (off % 2 ^ 23 + n ≤ 2 ^ 23)
  | 2 => decide (off < 2 ^ 28) && decide (off / 2 ^ 24 < 12) && decide (off % 2 ^ 24 + n ≤ 2 ^ 24)
  | 3 => true
  | 5 => decide (off + n ≤ 4096)
  | 6 => off == 0
  | _ => false

/-! ## Reports -/

/-- The island of a memory key's controller, slice or tile site. -/
def State.keyIsland (s : State) (key : Nat) : Nat :=
  match spaceOf key with
  | 0 => State.stackIsland (offOf key / 2 ^ 36)
  | 1 => State.siteIsland (s.siteOf (offOf key / 2 ^ 23))
  | _ => State.sliceIsland (offOf key / 2 ^ 24)

/-- The counter group of a key's home, a tile store apart (20 Table 20-1). -/
def keyGroup (key : Nat) : Nat := if spaceOf key = 0 then 12 + offOf key / 2 ^ 36 else offOf key / 2 ^ 24

/-- A corrected error counted at its unit (06 Tables 6-13, 6-15; 04 event 40). -/
def State.countCe (s : State) (key : Nat) : State :=
  match spaceOf key with
  | 0 =>
    let st := offOf key / 2 ^ 36
    let s := s.pmuEvent (keyGroup key) 0x006 1 none
    (s.wr (Reg.HBM_CE_CNT st) (satAdd (2 ^ 48 - 1) (s.rd (Reg.HBM_CE_CNT st)) 1)).wr (Reg.HBM_ERR_ADDR st)
      (ownAddr (key / 32 * 32) + 1)
  | 1 => s.tileEvent (offOf key / 2 ^ 23) 40 1
  | _ =>
    let k := offOf key / 2 ^ 24
    let s := s.pmuEvent (keyGroup key) 0x006 1 none
    (s.bump (Reg.SLC_CE_CNT k) 1).wr (Reg.SLC_ERR_ADDR k) (ownAddr (key / 64 * 64) + 1)

/-- A newly found uncorrectable error counted at its unit. -/
def State.countUe (s : State) (key : Nat) : State :=
  match spaceOf key with
  | 0 =>
    let st := offOf key / 2 ^ 36
    let s := s.pmuEvent (keyGroup key) 0x007 1 none
    (s.bump (Reg.HBM_UE_CNT st) 1).wr (Reg.HBM_ERR_ADDR st) (ownAddr (key / 32 * 32) + 3)
  | 1 => s.tileEvent (offOf key / 2 ^ 23) 41 1
  | _ =>
    let k := offOf key / 2 ^ 24
    let s := s.pmuEvent (keyGroup key) 0x007 1 none
    (s.bump (Reg.SLC_UE_CNT k) 1).wr (Reg.SLC_ERR_ADDR k) (ownAddr (key / 64 * 64) + 3)

/-- A read of a poisoned block or line counted (06 R218, Table 6-15). -/
def State.countPoison (s : State) (key : Nat) : State :=
  match spaceOf key with
  | 0 => (s.pmuEvent (keyGroup key) 0x007 1 none).bump (Reg.HBM_POISON_READ_CNT (offOf key / 2 ^ 36)) 1
  | 1 => s.tileEvent (offOf key / 2 ^ 23) 41 1
  | _ => (s.pmuEvent (keyGroup key) 0x007 1 none).bump (Reg.SLC_UE_CNT (offOf key / 2 ^ 24)) 1

/-- Who reads, for the record of an uncorrectable read (19 Table 19-11, code 0x0C88): the row of 06 Table 6-8, the
reader's island and the status it receives. -/
structure Reader where
  row : Nat
  island : Nat
  status : Nat
  deriving DecidableEq, Repr

/-- The trouble-log record of an uncorrectable or poisoned read (06 R225, 19 Table 19-11). -/
def State.logUe (s : State) (r : Reader) (addr : Nat) (poison : Bool) : State :=
  s.trouble 0x0C88 2 r.island addr (r.status * 65536 + r.row * 256 + b2n poison)

/-! ## SRAM remap and HBM page retirement (06 R213 to R215, R221 to R223) -/

/-- The protected unit of a key: the start of its 32-byte HBM block or its 64-byte SRAM line. -/
def protKey (key : Nat) : Nat := if spaceOf key = 0 then key / 32 * 32 else key / 64 * 64

/-- The size of a protected unit with one poison state. -/
def protSize (key : Nat) : Nat := if spaceOf key = 0 then 32 else 64

/-- The size of a unit with its own check bits (06 R229). -/
def unitSize (key : Nat) : Nat := if spaceOf key = 0 then 32 else 8

/-- The protected units that a run of bytes touches. -/
def protUnits (key n : Nat) : List Nat :=
  let z := protSize key
  if n = 0 then [] else (rangeFrom (key / z) ((key + n - 1) / z + 1 - key / z)).map (· * z)

/-- An element put into a list without repeats. -/
def addOnce (x : Nat) (l : List Nat) : List Nat := if l.contains x then l else x :: l

/-- A unit poisoned. -/
def State.setPoison (s : State) (key : Nat) : State :=
  { s with ecc := { s.ecc with poison := addOnce (protKey key) s.ecc.poison } }

/-- Whether a spare tile site is left on either die: neither active nor retired (01 R29, 06 R215). -/
def State.spareSite (s : State) : Bool :=
  (List.range 36).any (fun n => !bit (s.rd Reg.RAS_SITE_ACTIVE) n && !bit (s.rd Reg.RAS_SITE_RETIRED) n)

/-- The number that a RAS store record gives a macro of 64 KiB (19 Table 19-4; assumption 74): tile stores by site, slices from
0x80000. -/
def State.macroOf (s : State) (key : Nat) : Nat :=
  if spaceOf key = 2 then 0x80000 + offOf key / 2 ^ 24 * 256 + offOf key % 2 ^ 24 / 65536
  else s.siteOf (offOf key / 2 ^ 23) * 128 + offOf key % 2 ^ 23 / 65536

/-- A line that qualifies for remap (06 R214, R215); `ue` when it is uncorrectable. -/
def State.remapLine (s : State) (key : Nat) (ue : Bool) : State :=
  let line := key / 64 * 64
  let used := (s.ecc.remaps.filter (fun l => l / 65536 == key / 65536)).length
  let s := if ue then s.setPoison line else s
  let s := { s with ecc := { s.ecc with words := s.ecc.words.filter (fun e => e.1 / 64 * 64 != line) } }
  if used < 4 then
    let s := { s with ecc := { s.ecc with remaps := line :: s.ecc.remaps } }
    let s := s.persist (6 * 2 ^ 52 + s.macroOf line * 2 ^ 32 + line % 65536 / 64 * 2 ^ 16 + used)
    if spaceOf key = 2 then s.bump (Reg.SLC_REMAP_USED (offOf key / 2 ^ 24)) 1 else s
  else if spaceOf key = 2 then
    let k := offOf key / 2 ^ 24
    let m := offOf key % 2 ^ 24 / 65536
    let s := s.orReg (Reg.SLC_MACRO_FULL k (m / 64)) (2 ^ (m % 64))
    (s.trouble 0x0C86 2 (s.keyIsland key) (ownAddr line) (b2n ue * 256 + 1)).healthCheck
  else
    let spare := s.spareSite
    let site := s.siteOf (offOf key / 2 ^ 23)
    let s := if spare then s.markSite site else s
    s.trouble 0x0C86 2 (s.keyIsland key) (ownAddr line) (b2n spare * 512 + b2n ue * 256)

/-- A corrected error of an SRAM word: the fourth since the last completed patrol pass qualifies the line. -/
def State.trackWord (s : State) (key : Nat) : State :=
  let w := key / 8 * 8
  let c := Cells.get 0 w s.ecc.words + 1
  if 4 ≤ c then s.remapLine key false
  else { s with ecc := { s.ecc with words := Cells.set 0 w c s.ecc.words } }

/-- The first skein page of a stack. -/
def skeinBase (st : Nat) : Nat := hbmKey st 0x880000000

/-- The free skein pages of a stack. -/
def State.freeSkein (s : State) (st : Nat) : List Nat :=
  ((List.range 16384).map (fun i => skeinBase st + i * 65536)).filter (fun k => !s.ecc.skeinUsed.contains k)

/-- Whether a stack has a free skein page. -/
def State.hasSkein (s : State) (st : Nat) : Bool := s.stackOk st && s.fd (Fld.HBM_REMAP_STATE_FREE st) != 0

/-- A skein page taken from one of the stacks listed; which one is open (assumption 10). -/
def State.takeSkein (s : State) (sts : List Nat) : State × Option Nat :=
  match s.pick sts with
  | (s, none) => (s, none)
  | (s, some st) =>
    match s.pick (s.freeSkein st) with
    | (s, none) => (s, none)
    | (s, some k) =>
      let s := { s with ecc := { s.ecc with skeinUsed := k :: s.ecc.skeinUsed } }
      (s.fw (Fld.HBM_REMAP_STATE_FREE st) (s.fd (Fld.HBM_REMAP_STATE_FREE st) - 1), some k)

/-- A skein page given back. -/
def State.giveSkein (s : State) (k : Nat) : State :=
  let st := offOf k / 2 ^ 36
  let s := { s with ecc := { s.ecc with skeinUsed := s.ecc.skeinUsed.filter (· != k) } }
  s.fw (Fld.HBM_REMAP_STATE_FREE st) (s.fd (Fld.HBM_REMAP_STATE_FREE st) + 1)

/-- A page that is to be retired (06 R222, R223): its copy to a skein page of its stack, else of another stack of its
die, starts; with none free it is lost. -/
def State.retirePage (s : State) (key : Nat) : State :=
  let page := key / 65536 * 65536
  let st := offOf key / 2 ^ 36
  let die := if st < 4 then [0, 1, 2, 3] else [4, 5, 6, 7]
  if s.ecc.lost.contains page || s.ecc.retiring.any (fun r => r.page == page) then s
  else
    let s := { s with ecc := { s.ecc with pages := Cells.erase page s.ecc.pages } }
    match s.takeSkein (if s.hasSkein st then [st] else die.filter s.hasSkein) with
    | (s, some k) =>
      let s := { s with ecc := { s.ecc with retiring := s.ecc.retiring ++ [Retire.mk page k] } }
      s.fw (Fld.HBM_STATUS_RETIRE_ACTIVE st) 1
    | (s, none) =>
      let s := { s with ecc := { s.ecc with lost := page :: s.ecc.lost } }
      let s := s.bump (Reg.HBM_PAGES_LOST st) 1
      let s := s.trouble 0x0C87 2 (State.stackIsland st) (ownAddr page) (s.rd (Reg.HBM_PAGES_LOST st))
      (s.persist (8 * 2 ^ 52 + st * 2 ^ 31 + offOf page % 2 ^ 36 / 65536 * 2 ^ 11)).healthCheck

/-- The tracked page that a new page replaces when 256 are tracked: the lowest count, then the lowest offset
(06 R221). -/
def victimPage : List (Nat × Nat) → Option (Nat × Nat)
  | [] => none
  | e :: l => match victimPage l with
    | none => some e
    | some f => some (if f.2 < e.2 then f else e)

/-- A corrected error of an HBM page tracked; the page retires at CE_THRESH (06 R221). -/
def State.trackPage (s : State) (key : Nat) : State :=
  let page := key / 65536 * 65536
  let st := offOf key / 2 ^ 36
  let mine := s.ecc.pages.filter (fun e => offOf e.1 / 2 ^ 36 == st)
  let c := Cells.get 0 page s.ecc.pages + 1
  let pages := if 256 ≤ mine.length && (Cells.find page s.ecc.pages).isNone then
      match victimPage mine with
      | some v => Cells.erase v.1 s.ecc.pages
      | none => s.ecc.pages
    else s.ecc.pages
  let s := { s with ecc := { s.ecc with pages := Cells.set 0 page c pages } }
  if s.fd (Fld.HBM_RETIRE_CFG_CE_THRESH st) ≤ c then s.retirePage key else s

/-- A corrected error at a unit without a test mark. -/
def State.onCe (s : State) (key : Nat) : State :=
  let s := s.countCe key
  if spaceOf key = 0 then s.trackPage key else s.trackWord key

/-- A new uncorrectable error at a unit without a test mark: poison, and remap or retirement. -/
def State.onUe (s : State) (key : Nat) : State :=
  let s := s.countUe key
  if spaceOf key = 0 then (s.setPoison key).retirePage key else s.remapLine key true

/-! ## Reads and writes at a home -/

/-- The test marks in a run of bytes. -/
def State.marksIn (s : State) (key n : Nat) : List Mark :=
  s.ecc.marks.filter (fun m => decide (m.key < key + n) && decide (key < m.key + unitSize m.key))

/-- The poisoned unit in a run of bytes, if any. -/
def State.poisonIn (s : State) (key n : Nat) : Option Nat :=
  (protUnits key n).find? (fun u => s.ecc.poison.contains u)

/-- The outcome of a mark. -/
def Mark.outcome (m : Mark) : Nat := Config.eccOutcome (spaceOf m.key == 0) m.data m.check

/-- The bytes of a run as marked units deliver them: corrected data over the stored bytes. -/
def State.readCorrected (s : State) (key n : Nat) : List Byte :=
  (List.range n).map (fun i =>
    match s.ecc.marks.find? (fun m => decide (m.key ≤ key + i) && decide (key + i < m.key + unitSize m.key)) with
    | some m =>
      if m.outcome = 1 then
        BitVec.ofNat 8 (Config.eccFixed (spaceOf m.key == 0) m.data m.check / 256 ^ (key + i - m.key))
      else s.byte (key + i)
    | none => s.byte (key + i))

/-- The lines of a run that are remapped. -/
def State.remapHits (s : State) (key n : Nat) : Nat :=
  ((protUnits key n).filter (fun u => s.ecc.remaps.contains u)).length

/-- The SRAM lines of an access counted: at a tile site its lines read or written, those read with valid clear and those in
a remap row (04 Table 4-5, events 36, 37, 39, 42), at a slice those in a remap row (20 Table 20-4). -/
def State.lineTouch (s : State) (key n : Nat) (write : Bool) : State :=
  match spaceOf key with
  | 1 =>
    let t := offOf key / 2 ^ 23
    let us := protUnits key n
    let clear := (us.filter (fun u => !s.ecc.valid.contains u)).length
    let s := (s.tileEvent t (if write then 37 else 36) us.length).tileEvent t 42 (s.remapHits key n)
    if write then s else s.tileEvent t 39 clear
  | 2 => s.pmuEvent (keyGroup key) 0x131 (s.remapHits key n) none
  | _ => s

/-- A read of a run of bytes at its home (06 R209, R211, R217, R218, R225, R230): the bytes, or none where a unit is
uncorrectable or poisoned, with every count and record. -/
def State.homeRead (s : State) (r : Reader) (key n : Nat) (seen : Seen) : State × Option (List Byte) :=
  let s := s.lineTouch key n false
  match s.poisonIn key n with
  | some u => ((s.countPoison u).logUe r (ownAddr u) true, none)
  | none =>
    let ms := s.marksIn key n
    match ms.find? (fun m => decide (2 ≤ m.outcome)) with
    | some m =>
      let s := if m.outcome = 3 then s.countPoison m.key else s.countUe m.key
      (s.logUe r (ownAddr (protKey m.key)) (m.outcome == 3), none)
    | none =>
      let s := (ms.filter (fun m => m.outcome == 1)).foldl (fun s m => s.countCe m.key) s
      match seen with
      | .clean => (s, some (s.readCorrected key n))
      | .ce => let bs := s.readCorrected key n; (s.onCe key, some bs)
      | .ue => ((s.onUe key).logUe r (ownAddr (protKey key)) false, none)

/-- Whether a write of a run needs the old bytes of some unit: part of an 8-byte SRAM word of a valid line, or part of
an HBM block (06 R210, R217). -/
def State.needsRmw (s : State) (key n : Nat) : Bool :=
  let z := unitSize key
  if key % z = 0 && (key + n) % z = 0 then false
  else if spaceOf key = 0 then true
  else (protUnits key n).any (fun u => s.ecc.valid.contains u)

/-- Bytes written at their home with valid bits, poison and marks (06 R211, R218, R224, R230). -/
def State.homeWrite (s : State) (key : Nat) (bs : List Byte) : State :=
  let n := bs.length
  if n = 0 then s
  else
    let s := s.lineTouch key n true
    let whole := (protUnits key n).filter (fun u => decide (key ≤ u) && decide (u + protSize key ≤ key + n))
    let s := s.memWrite key bs
    { s with ecc := { s.ecc with
      valid := if spaceOf key = 0 then s.ecc.valid else (protUnits key n).foldl (fun l u => addOnce u l) s.ecc.valid
      poison := s.ecc.poison.filter (fun u => !whole.contains u)
      marks := s.ecc.marks.filter (fun m => !(decide (m.key < key + n) && decide (key < m.key + unitSize m.key))) } }

/-- A store at its home: false where its read-modify-write meets an uncorrectable or poisoned unit, which leaves the
target as it stands (06 R226). -/
def State.homeStore (s : State) (r : Reader) (key : Nat) (bs : List Byte) (seen : Seen) : State × Bool :=
  if s.needsRmw key bs.length then
    match s.homeRead r key bs.length seen with
    | (s, none) => (s, false)
    | (s, some _) =>
      let s := if spaceOf key = 1 then s.tileEvent (offOf key / 2 ^ 23) 38 1 else s
      (s.homeWrite key bs, true)
  else (s.homeWrite key bs, true)

/-- The blocks that an HBM write touches in part (06 R217). -/
def partBlocks (key n : Nat) : Nat :=
  ((protUnits key n).filter (fun u => !(decide (key ≤ u) && decide (u + protSize key ≤ key + n)))).length

/-- The counter events of an access of a remote operation at an HBM controller or a slice (20 Table 20-4). -/
def State.memCount (s : State) (o : Option Origin) (key n : Nat) (read write : Bool) : State :=
  let g := keyGroup key
  match spaceOf key with
  | 0 => ((s.pmuEvent g 0x100 (b2n read) o).pmuEvent g 0x101 (b2n write) o).pmuEvent g 0x102
      (if write then partBlocks key n else 0) o
  | 2 => s.pmuEvent g 0x130 (b2n (write && s.needsRmw key n)) o
  | _ => s

/-- Every valid, poison and data bit of a run of SRAM cleared together (06 R212, R224). -/
def State.clearSram (s : State) (key n : Nat) : State :=
  let keep := fun u => !(decide (key ≤ u) && decide (u < key + n))
  { s with
    mem := Cells.clearRange key n s.mem
    ecc := { s.ecc with valid := s.ecc.valid.filter keep, poison := s.ecc.poison.filter keep
                        marks := s.ecc.marks.filter (fun m => keep m.key) } }

/-- A run of HBM written with zero and valid check bits (06 R205, R224). -/
def State.zeroHbm (s : State) (key n : Nat) : State := s.clearSram key n

/-! ## Sync tokens (04 R140, 05 R189) -/

/-- A token increment of a tile counter: it saturates, with its TILE_SYNC_OVF bit and a record (04 R140). -/
def State.syncAdd (s : State) (t ctr inc : Nat) : State :=
  let site := s.siteOf t
  let r := Reg.TILE_SYNC site ctr
  let v := s.rd r + inc
  let s := s.tileEvent t 34 1
  if v ≤ max32 then s.wr r v
  else ((s.wr r max32).orReg (Reg.TILE_SYNC_OVF site) (2 ^ ctr)).trouble 0x0281 1 (State.siteIsland site) 0 ctr

/-- A token increment of an SPL_SYNC counter (05 R189). -/
def State.splSyncAdd (s : State) (ctr inc : Nat) : State :=
  let r := Reg.SPL_SYNC ctr
  let v := s.rd r + inc
  if v ≤ max32 then s.wr r v
  else ((s.wr r max32).orReg Reg.SPL_SYNC_OVF (2 ^ ctr)).trouble 0x0281 1 81 0 (256 + ctr)

end Sys2Proof.Machine
end

