-- ==== Sys2Proof/Machine/Opcodes.lean ====
section
/-! DEFINITION. Which opcodes each path accepts (02 Table 2-8, R60 item 1, and the opcode tables of the chapters). -/

namespace Sys2Proof.Machine

/-- Opcodes that only the MCC accepts, both forms (02 Table 2-9; 06 Table 6-16; 07 Table 7-15; 08; 09 Table 9-14; 10
Table 10-9; 11 Table 11-16; 12 Table 12-12; 13 Table 13-10; 14 Table 14-9; 15; 16; 17 R590; 18 Table 18-6; 19; 20). -/
def mccBoth : List Nat :=
  [0x0100, 0x0101, 0x0110, 0x0111, 0x0112, 0x0120, 0x0121,
   0x0300, 0x0301, 0x0302, 0x0303, 0x0304, 0x0305, 0x0310, 0x0311,
   0x0400, 0x0401, 0x0402, 0x0403, 0x0404, 0x0405, 0x0410, 0x0411,
   0x0520, 0x0521, 0x0522, 0x0523, 0x0524, 0x0525, 0x0526,
   0x0600, 0x0601, 0x0602, 0x0603, 0x0604, 0x0605, 0x0611, 0x0612,
   0x0700, 0x0701, 0x0702, 0x0703, 0x0704, 0x0800, 0x0801,
   0x0900, 0x0901, 0x0902, 0x0903, 0x0904, 0x0905, 0x0906, 0x0907,
   0x0A00, 0x0A01, 0x0A02, 0x0A10, 0x0A11, 0x0A12,
   0x0B00, 0x0B10, 0x0B11, 0x0B12, 0x0B13, 0x0B14,
   0x0C00, 0x0C01, 0x0C02, 0x0C10, 0x0C11, 0x0D00, 0x0D01, 0x0D02]

/-- Opcodes that only the MCC accepts, expert form only. -/
def mccExpert : List Nat := [0x03C0, 0x06A0]

/-- Opcodes of tile rings that the MCC accepts too (04 Table 4-3). -/
def tileBoth : List Nat := [0x0200, 0x0201, 0x0202, 0x0204, 0x0205, 0x0206, 0x0207, 0x0208]

/-- Opcodes of tile rings alone (05 Table 5-1, 07). -/
def tileRing : List Nat := [0x0220, 0x02A0, 0x0221, 0x02A1, 0x0230, 0x02B0, 0x0231, 0x02B1, 0x02B2]

/-- Whether an opcode is of the Splint engine (05 Table 5-9). -/
def isSplint (op : Nat) : Bool := [0x0240, 0x0241, 0x0242, 0x02C0, 0x02C1, 0x02C2].contains op

/-- Whether a base opcode or its expert form is meant. -/
def isForm (op base : Nat) : Bool := op == base || op == base + 0x80

/-- The ring that a packet from the MCC is queued behind: that of the tile in byte 62 (04 R144), ring 44 (05 R189), or that
of the Creel unit in byte 62 (07 R259). -/
def mccQueued (p : Packet) : Option Nat :=
  if isSplint p.opcode.toNat then some 44
  else if p.family = 2 then (if p.u8 62 < 32 then some (p.u8 62) else none)
  else if isForm p.opcode.toNat 0x0320 then (if p.u8 62 < 8 then some (32 + p.u8 62) else none)
  else none

/-- Item 1 of 02 R60 on the MCC. -/
def mccOpcode (op : Nat) : Bool :=
  mccBoth.any (isForm op) || mccExpert.contains op || tileBoth.any (isForm op) ||
    [0x0240, 0x0241, 0x0242, 0x0320, 0x0321, 0x0501, 0x0502, 0x0503, 0x0810, 0x0811].any (isForm op)

/-- Item 1 of 02 R60 on ring `n`; `compat`: the serving ring is in compatibility mode (10 Table 10-9). -/
def ringOpcode (n : Nat) (compat : Bool) (op : Nat) : Bool :=
  if n < 32 then tileBoth.any (isForm op) || tileRing.contains op
  else if n < 40 then [0x0320, 0x0321].any (isForm op)
  else if n < 44 then [0x0810, 0x0811].any (isForm op)
  else if n = 44 then [0x0240, 0x0241, 0x0242].any (isForm op)
  else if 64 ≤ n && n < 128 then
    (if compat then [0x0510, 0x0501, 0x0503] else [0x0500, 0x0501, 0x0502, 0x0503]).any (isForm op)
  else false

/-- What recovery mode and LOADER_HOLD accept (18 R599), RST_REQ by its LEVEL apart. -/
def recoveryOpcode (p : Packet) : Bool :=
  [0x0100, 0x0101, 0x0B10, 0x0B11, 0x0B12, 0x0B13, 0x0B14].any (isForm p.opcode.toNat) ||
    (p.opcode.toNat == 0x0B00 && p.u8 63 == 2) || (p.opcode.toNat == 0x0B80 && p.u8 16 == 2)

/-- Whether the profile of a basic packet is 1. -/
def profileOne (p : Packet) : Bool := p.expert || p.u8 63 == 1

end Sys2Proof.Machine
end

