-- ==== Sys2Proof/Machine/Flow.lean ====
section
/-! DEFINITION. The life of a command packet (02): acceptance by the MCC and by rings, the order of checks, the wait for
EXEC_TIME, the reply with its interrupt, completion queues, ring states and halts. A command row names the path and the
packet; `runRow` is the one way such a row runs. -/

namespace Sys2Proof.Machine

/-- What a command answers with (02 Table 2-7). -/
structure Ans where
  status : Nat
  detail : Nat
  r0 : Nat
  r1 : Nat
  nonrepro : Bool
  deriving DecidableEq, Repr

/-- STS_OK with two results. -/
def Ans.ok (r0 r1 : Nat) : Ans := ⟨Sts.ok, 0, r0, r1, false⟩

/-- STS_OK. -/
def Ans.done : Ans := .ok 0 0

/-- A failing status. -/
def Ans.err (status : Nat) : Ans := ⟨status, 0, 0, 0, false⟩

/-- A failing status with a reason. -/
def Ans.errD (status detail : Nat) : Ans := ⟨status, detail, 0, 0, false⟩

/-- STS_REFUSED_STATE with its reason. -/
def Ans.refuse (detail : Nat) : Ans := .errD Sts.refusedState detail

/-- STS_BAD_PARAM. -/
def Ans.param : Ans := .err Sts.badParam

/-- STS_ACCESS_FAULT with the first faulting address in RESULT1. -/
def Ans.fault (addr : Nat) : Ans := ⟨Sts.accessFault, 0, 0, addr, false⟩

/-- The first failing check of a list, in order (02 R60): each check is whether it fails and what it answers. -/
def firstFail : List (Bool × Ans) → Option Ans
  | [] => none
  | (c, a) :: l => if c then some a else firstFail l

/-! ## Replies -/

/-- Whether a job runs late under LATE_OK, or is rejected for the time (02 R61). -/
def Job.late (j : Job) : Bool := j.pkt.execTime.toNat != 0 && decide (j.pkt.execTime.toNat < j.start + 200)

/-- Whether the time check rejects a job (02 R61). A job that a time step left behind runs (15 R544). -/
def Job.tooLate (j : Job) : Bool := j.late && !j.pkt.lateOk && !j.due

/-- The 32 bytes of a reply, PHASE clear (02 Table 2-7). -/
def replyBits (op seq time : Nat) (a : Ans) (late : Bool) : BitVec 256 :=
  BitVec.ofNat 256 (a.status % 2 ^ 16 + op % 2 ^ 16 * 2 ^ 16 + seq % 2 ^ 32 * 2 ^ 32 + time % 2 ^ 64 * 2 ^ 64
    + a.detail % 2 ^ 16 * 2 ^ 128 + (b2n a.nonrepro * 4 + b2n late * 2) * 2 ^ 144 + a.r0 % 2 ^ 32 * 2 ^ 160
    + a.r1 % 2 ^ 64 * 2 ^ 192)

/-- The reply of a job. LATE stands in the reply of a command that ran late, not in one the check rejects. -/
def Job.reply (j : Job) (a : Ans) (time : Nat) : BitVec 256 :=
  replyBits j.pkt.opcode.toNat j.pkt.seq.toNat time a (j.late && (j.pkt.lateOk || j.due) && j.begun)

namespace State

/-! ## Ring states (02 Table 2-16) -/

/-- CLOSED. -/
def closed : Nat := 0
/-- IDLE. -/
def idle : Nat := 1
/-- ACTIVE. -/
def active : Nat := 2
/-- HALTED. -/
def halted : Nat := 3
/-- ABORTED. -/
def aborted : Nat := 4

/-- The state of a ring. -/
def ringState (s : State) (n : Nat) : Nat := s.fd (Fld.HIF_RING_STATE_STATE n)

/-- A ring put into a state. -/
def setRingState (s : State) (n st : Nat) : State := s.fw (Fld.HIF_RING_STATE_STATE n) st

/-- Whether a ring is open and works. -/
def ringRuns (s : State) (n : Nat) : Bool := s.ringState n == idle || s.ringState n == active

/-- The entries of a ring's queues. -/
def ringSize (s : State) (n : Nat) : Nat := 2 ^ s.fd (Fld.HIF_RING_CFG_LOG2_SIZE n)

/-- The vector of a ring. -/
def ringVector (s : State) (n : Nat) : Nat := s.fd (Fld.HIF_RING_CFG_VECTOR n)

/-- HEAD. -/
def ringHead (s : State) (n : Nat) : Nat := s.rd (Reg.HIF_RING_HEAD n)

/-- TAIL. -/
def ringTail (s : State) (n : Nat) : Nat := s.rd (Reg.HIF_RING_TAIL n)

/-- Whether the completion queue has a free entry (02 R77). -/
def cqSpace (s : State) (n : Nat) : Bool :=
  decide (sub32 (s.rd (Reg.HIF_RING_CPL_TAIL n)) (s.rd (Reg.HIF_RING_CPL_HEAD n)) < s.ringSize n)

/-- RFLAGS.PHASE of the next entry: 1 on the first pass, inverted on each wrap (02 R77). -/
def cqPhase (s : State) (n : Nat) : Nat := (s.rd (Reg.HIF_RING_CPL_TAIL n) / s.ringSize n + 1) % 2

/-- A reply with PHASE at its place. -/
def withPhase (r : BitVec 256) (ph : Nat) : BitVec 256 := r ||| BitVec.ofNat 256 (ph * 2 ^ 144)

/-- The index of the next completion entry. -/
def cqIndex (s : State) (n : Nat) : Nat := s.rd (Reg.HIF_RING_CPL_TAIL n) % s.ringSize n

/-- CPL_TAIL advanced. -/
def cqAdvance (s : State) (n : Nat) : State := s.bumpWrap (Reg.HIF_RING_CPL_TAIL n) 32 1

/-- A reply written to the completion queue in host memory, then CPL_TAIL, then the interrupt (02 R77, R81). -/
def cqWrite (s : State) (n : Nat) (r : BitVec 256) (irq : Bool) : State :=
  let bs := leBytes 32 (withPhase r (s.cqPhase n)).toNat
  let s := (s.hostWrite (s.rd (Reg.HIF_RING_CQ_BASE n) + 32 * s.cqIndex n) bs).cqAdvance n
  if irq then s.replyIrq (s.ringVector n) else s

/-- The open completion record of a ring in confidential mode sealed and written (02 R87), if it holds a reply and the
queue has space. -/
def closeRecord (s : State) (n : Nat) : State :=
  let e := s.engOf n
  if e.openRec.isEmpty || !s.cqSpace n then s
  else
    let a := s.rd (Reg.HIF_RING_CQ_BASE n) + 4096 * s.cqIndex n
    let pay := e.openRec.foldl (fun l r => l ++ leBytes 32 (withPhase r.1 (s.cqPhase n)).toNat) []
    let s := match s.windowOf a 4096 with
      | some (w, b) => s.sealRecord w ((a - b.base) / 4096) pay
      | none => s
    let s := (s.cqAdvance n).setEng n { e with openRec := [] }
    (e.openRec.filter (·.2)).foldl (fun s _ => s.replyIrq (s.ringVector n)) s

/-- A reply to a ring: written, put into the open record of confidential mode, or held while the queue is full. The
packets of a Rim program have no queue to answer to (11 R400). -/
def ringReply (s : State) (n : Nat) (r : BitVec 256) (irq : Bool) : State :=
  let e := s.engOf n
  if s.rimOwns n then s
  else if s.conf then
    if e.held.isEmpty && decide (e.openRec.length < 127) then
      let s := s.setEng n { e with openRec := e.openRec ++ [(r, irq)] }
      if e.openRec.length = 126 then s.closeRecord n else s
    else s.setEng n { e with held := e.held ++ [(r, irq)] }
  else if e.held.isEmpty && s.cqSpace n then s.cqWrite n r irq
  else s.setEng n { e with held := e.held ++ [(r, irq)] }

/-- Held replies written while the queue has space (02 R77). -/
def flushHeldAux (n : Nat) : Nat → State → State
  | 0, s => s
  | k + 1, s =>
    let e := s.engOf n
    match e.held with
    | [] => s
    | (r, irq) :: l =>
      if s.conf then
        if e.openRec.length < 127 then
          flushHeldAux n k ((s.setEng n { e with held := l }).ringReply n r irq)
        else s
      else if s.cqSpace n then flushHeldAux n k ((s.setEng n { e with held := l }).cqWrite n r irq)
      else s

/-- Held replies written while the queue has space. -/
def flushHeld (s : State) (n : Nat) : State := flushHeldAux n (s.engOf n).held.length s

/-! ## Islands of targets -/

/-- The island of the unit that a path's commands target (01 Table 1-5). -/
def viaIsland (s : State) : Via → Nat
  | .mcc => 77
  | .ring n =>
    if n < 32 then siteIsland (s.siteOf n)
    else if n < 40 then stackIsland (n - 32)
    else if n < 44 then 82
    else if n = 44 then 81
    else 77

/-- The ring number that a record names; 0xFFFF for the MCC (19 R678). -/
def viaRing : Via → Nat
  | .mcc => 0xFFFF
  | .ring n => n

/-! ## The MCC's service (02 R677) -/

/-- RST_STATUS.STAGE. -/
def stage (s : State) : Nat := s.fd Fld.RST_STATUS_STAGE

/-- The BOOT source of the strap (17 Table 17-4). -/
def boot (s : State) : Nat := s.fd Fld.RST_STRAP_CODE / 4

/-- Whether management firmware runs. -/
def running (s : State) : Bool := s.stage == 6

/-- Whether the MCC serves an entry point (02 R677, 18 Table 18-4, R599). -/
def served (s : State) (i3c : Bool) : Bool :=
  match s.stage with
  | 6 => true
  | 4 => s.boot == 2
  | 7 => s.rst.recFail || (if i3c then s.boot == 1 else s.boot == 0)
  | _ => false

/-- Whether the ROM or the loader serves the MCC in place of management firmware. -/
def recovery (s : State) : Bool := s.stage == 7 || s.stage == 4

/-- A doorbell or write that the MCC turns away (02 R65). -/
def mccReject (s : State) : State := (s.fw Fld.MCC_STATUS_REJECT 1).bump Reg.MCC_REJECT_CNT 1

/-- The MCC's command ends with a reply (02 R64, R66, R85). -/
def mccReply (s : State) (a : Ans) : State :=
  match s.mcc.cur with
  | none => s
  | some j =>
    let r := j.reply a s.now
    let rec? := s.mcc.confCmd
    let s := { s with mcc := { s.mcc with cur := none, extra := [], confCmd := none } }
    if j.i3c then s.emit (.i3c r [])
    else
      let s := match rec? with
        | some (_, idx) => s.sealRecord 0 idx (leBytes 32 r.toNat)
        | none => { s with mcc := { s.mcc with reply := r } }
      let s := s.fw Fld.MCC_STATUS_REPLY_VALID 1
      if j.pkt.irq then s.replyIrq 1 else s

/-! ## Starting commands -/

/-- Whether a unit may not start a command now: a tile in an exception, trapped, fenced for a move, halted by the
debugger or under reset (04 R156, R160; 19 R623; 20 R654). -/
def unitHeld (s : State) (n : Nat) : Bool :=
  decide (n < 32) && ((s.tile n).exc.isSome || (s.tile n).trapped || (s.tile n).fenced || (s.tile n).halted ||
    (s.tile n).resetting)

/-- Whether serving ring `n` is in compatibility mode (10). -/
def ringCompat (s : State) (n : Nat) : Bool :=
  decide (64 ≤ n) && decide (n < 128) && s.fb (Fld.SRV_RING_CFG_COMPAT (n - 64))

/-- Whether a serving request of a ring is live (10 Table 10-4). -/
def srvLive (s : State) (n : Nat) : Bool := s.srv.reqs.any (fun r => r.ring == n && r.st != 4)

/-- Whether a ring is at rest: nothing waits, runs or is held. -/
def ringEmpty (s : State) (n : Nat) : Bool :=
  let e := s.engOf n
  e.cur.isNone && e.fetched.isEmpty && e.held.isEmpty && s.ringHead n == s.ringTail n

/-- Whether a video command of a ring is not complete. -/
def vidBusy (s : State) (n : Nat) : Bool := s.vid.jobs.any (fun j => j.ring == n && j.job.via == .ring n)

/-- An ACTIVE ring at rest, with no serving request live and no video command pending, becomes IDLE and closes its completion record (02 R87). -/
def ringSettle (s : State) (n : Nat) : State :=
  if s.ringState n == active && s.ringEmpty n && !s.srvLive n && !s.vidBusy n then (s.closeRecord n).setRingState n idle else s

/-- The ring that a packet from the MCC is queued behind; of VID_DECODE and VID_ENCODE that of their session (13 R488). -/
def queuedOn (s : State) (p : Packet) : Option Nat :=
  if p.base = 0x0810 || p.base = 0x0811 then
    (Cells.find (p.u8 16) s.vid.sess).map (fun x => 40 + x.ring)
  else mccQueued p

/-- The command that the MCC holds for a unit whose ring has reached its place (04 R144, 05 R189, 07 R259). -/
def mccTileJob (s : State) (n : Nat) : Option Job :=
  match s.mcc.cur with
  | some j =>
    if !j.begun && s.queuedOn j.pkt == some n && s.ringHead n == j.behind && !s.rimOwns n then some j else none
  | none => none

/-- The next command of a ring started while it may: HEAD passes it, and an opcode that the ring does not accept is
answered at once (02 R60 item 1, R72, R76). `k` bounds the packets looked at. -/
def startNextAux (n : Nat) : Nat → State → State
  | 0, s => s
  | k + 1, s =>
    let e := s.engOf n
    if e.cur.isSome || !e.held.isEmpty || s.unitHeld n then s
    else match s.mccTileJob n with
    | some j => s.setEng n { e with cur := some j }
    | none =>
      if s.ringState n != active && !s.rimOwns n then s
      else match e.fetched with
      | [] => s
      | j :: l =>
        let s := (if s.rimOwns n then s else s.wr (Reg.HIF_RING_HEAD n) j.behind).setEng n { e with fetched := l, cur := some j }
        if ringOpcode n (s.ringCompat n) j.pkt.opcode.toNat then s
        else
          let s := s.setEng n { e with fetched := l, cur := none }
          startNextAux n k (s.ringReply n (j.reply (.err Sts.badOpcode) s.now) j.pkt.irq)

/-- The next command of a ring started, and the ring settled. -/
def startNext (s : State) (n : Nat) : State := (startNextAux n ((s.engOf n).fetched.length + 1) s).ringSettle n

/-- The command in progress on a ring's unit ends with a reply, and the next one starts. -/
def ringFinish (s : State) (n : Nat) (a : Ans) : State :=
  let e := s.engOf n
  match e.cur with
  | none => s
  | some j =>
    let s := s.setEng n { e with cur := none }
    let s := match j.via with
      | .mcc => s.mccReply a
      | .ring m => s.ringReply m (j.reply a s.now) j.pkt.irq
    s.startNext n

/-- The command in progress on a path ends with a reply. -/
def finish (s : State) (via : Via) (a : Ans) : State :=
  match via with
  | .mcc => s.mccReply a
  | .ring n => s.ringFinish n a

/-! ## Halts (02 R78) -/

/-- A ring halted: STATE, LAST_STATUS and FAULT_ADDR, the packets fetched ahead discarded, the vector fired at once. -/
def ringHalt (s : State) (n status addr : Nat) : State :=
  let s := s.setRingState n halted
  let s := (s.fw (Fld.HIF_RING_STATE_LAST_STATUS n) status).wr (Reg.HIF_RING_FAULT_ADDR n) addr
  let s := s.setEng n { s.engOf n with fetched := [] }
  (s.closeRecord n).fire (s.ringVector n)

/-- The command in progress on a ring's unit ends with a failing DMA, and the ring halts. A command that came through
the MCC only replies. -/
def ringFail (s : State) (n : Nat) (a : Ans) : State :=
  let e := s.engOf n
  match e.cur with
  | none => s
  | some j =>
    let s := s.setEng n { e with cur := none }
    match j.via with
    | .mcc => (s.mccReply a).startNext n
    | .ring m => (s.ringReply m (j.reply a s.now) j.pkt.irq).ringHalt m a.status a.r1

/-- A failing DMA of a command on either path (02 R78). -/
def failDma (s : State) (via : Via) (a : Ans) : State :=
  match via with
  | .mcc => s.mccReply a
  | .ring n => s.ringFail n a

/-! ## Running a command row -/

/-- The job in progress on a path. -/
def jobOf (s : State) : Via → Option Job
  | .mcc => s.mcc.cur
  | .ring n => (s.engOf n).cur

/-- The job in progress on a path replaced. -/
def setJob (s : State) (via : Via) (j : Job) : State :=
  match via with
  | .mcc => { s with mcc := { s.mcc with cur := some j } }
  | .ring n => s.setEng n { s.engOf n with cur := some j }

/-- A job that a packet makes when a path accepts it. -/
def newJob (s : State) (via : Via) (i3c : Bool) (p : Packet) : Job :=
  ⟨p, via, i3c, s.now, false, false, match s.queuedOn p with | some n => s.ringTail n | none => 0⟩

/-- A packet made the command in progress of a path, where that is possible: it is already there and has not begun, or
the path is idle and takes it as its doorbell or fetch would (assumption 30). A busy MCC turns it away (02 R65). -/
def takeRow (s : State) (via : Via) (p : Packet) : State × Option Job :=
  match s.jobOf via with
  | some j =>
    if j.pkt = p ∧ j.begun = false then (s, some j)
    else (match via with | .mcc => s.mccReject | .ring _ => s, none)
  | none =>
    match via with
    | .mcc =>
      if s.served false && (!s.conf || (s.hif.bounce.isEmpty && p.base == 0x0120 && p.u8 16 == 0)) then
        let j := s.newJob .mcc false p
        (s.setJob .mcc j, some j)
      else (s.mccReject, none)
    | .ring n =>
      if s.ringRuns n && s.ringEmpty n && !s.unitHeld n then
        let s := (s.bumpWrap (Reg.HIF_RING_TAIL n) 32 1).bumpWrap (Reg.HIF_RING_HEAD n) 32 1
        let s := s.setRingState n active
        let j := s.newJob (.ring n) false p
        (s.setJob (.ring n) j, some j)
      else (s, none)

/-- Whether a path accepts an opcode. -/
def pathOpcode (s : State) (via : Via) (op : Nat) : Bool :=
  match via with
  | .mcc => mccOpcode op
  | .ring n => ringOpcode n (s.ringCompat n) op

/-- The record of a command started after its EXEC_TIME (19 Table 19-11). -/
def logLate (s : State) (via : Via) (p : Packet) : State :=
  let late := min max32 (s.now - p.execTime.toNat)
  s.trouble 0x0180 0 (s.viaIsland via) 0 (late * 2 ^ 32 + p.opcode.toNat * 65536 + viaRing via)

/-- The extended-parameter block of a packet fetched into the MCC's buffer (02 R63), with the answer where the DMA is
refused. A length outside 1 to 4,096 is a parameter out of range. -/
def extBlock (s : State) (p : Packet) : State × Option Ans :=
  if !p.ext then (s, none)
  else if p.u32 24 = 0 || 4096 < p.u32 24 then (s, some .param)
  else match s.hostLoad (p.u64 16) (p.u32 24) with
    | (s, none) => (s, some (.fault (hostAddr (p.u64 16))))
    | (s, some bs) => ({ s with mcc := { s.mcc with extra := bs } }, none)

/-- The state in which a command begins: it is marked begun, and one that starts late has its record (02 R61). -/
def beginJob (s : State) (timed : Bool) (via : Via) (j : Job) : State :=
  let s := s.setJob via { j with begun := true }
  if timed && j.late then s.logLate via j.pkt else s

/-- A command row: the packet must be its command's; the path must take it. Recovery mode refuses what it does not serve
(18 R599). Items 1 to 4 of 02 R60 are the path's opcodes and `check`; item 5 is R61. A command for a later time waits
for EXEC_TIME_REACHED. Otherwise `act` has the command's effect, with the job marked begun; its answer, if it gives
one, ends the command at once. With `timed` false EXEC_TIME is the command's own affair (11 R404). -/
def runRowT (s : State) (timed : Bool) (via : Via) (p : Packet) (mine : Bool) (check : State → Option Ans)
    (act : State → State × Option Ans) : State :=
  if !mine then s
  else
    match s.takeRow via p with
    | (s, none) => s
    | (s, some j) =>
      let (s, failing) :=
        if !s.pathOpcode via p.opcode.toNat then (s, some (Ans.err Sts.badOpcode))
        else if s.recovery && via = .mcc && !recoveryOpcode p then (s, some (.refuse 0x0B08))
        else match (if j.i3c then (s, none) else s.extBlock p) with
          | (s, some a) => (s, some a)
          | (s, none) => (s, check s)
      match failing with
      | some a => s.finish via a
      | none =>
        if timed && j.tooLate then s.finish via (.err Sts.timePassed)
        else if timed && p.execTime.toNat != 0 && !j.late && !j.due && decide (s.now < p.execTime.toNat) then s
        else
          match act (s.beginJob timed via j) with
          | (s, some a) => s.finish via a
          | (s, none) => s

/-- A command row that obeys EXEC_TIME as 02 R61 states. -/
def runRow (s : State) (via : Via) (p : Packet) (mine : Bool) (check : State → Option Ans)
    (act : State → State × Option Ans) : State := s.runRowT true via p mine check act

/-- The MCC's copy of a unit's command marked begun, so that it is not started again. -/
def markMcc (s : State) : State :=
  match s.mcc.cur with
  | some j => { s with mcc := { s.mcc with cur := some { j with begun := true } } }
  | none => s

/-- A command row of a unit behind a ring, on its ring or from the MCC, where it waits behind ring `n` and the MCC stays
busy until the unit replies. -/
def unitRow (s : State) (via : Via) (p : Packet) (mine : Bool) (n : Nat) (inRange : Bool)
    (present : State → Nat → Bool) (check : State → Nat → Option Ans) (act : State → Nat → State × Option Ans) : State :=
  let run := fun (s : State) (m : Nat) =>
    s.runRow (.ring m) p true (fun s => if present s m then check s m else some (.err Sts.unitAbsent)) (act · m)
  if !mine then s
  else match via with
  | .ring m => run s m
  | .mcc =>
    match (if inRange then (s.engOf n).cur else none) with
    | some j => if j.via = .mcc ∧ j.pkt = p ∧ j.begun = false then run s n else (s.takeRow .mcc p).1
    | none =>
      match s.takeRow .mcc p with
      | (s, none) => s
      | (s, some _) =>
        if !mccOpcode p.opcode.toNat then s.mccReply (.err Sts.badOpcode)
        else if s.recovery then s.mccReply (.refuse 0x0B08)
        else if !inRange then s.mccReply .param
        else if !present s n then s.mccReply (.err Sts.unitAbsent)
        else
          let s := s.startNext n
          match (s.engOf n).cur with
          | some j => if j.via = .mcc ∧ j.pkt = p then run s.markMcc n else s
          | none => s

end State
end Sys2Proof.Machine
end

