-- ==== Sys2Proof/Machine/ClockOps.lean ====
section
/-! DEFINITION. Selection of the reference clock (15 R526 to R533), as other families use it. -/

namespace Sys2Proof.Machine.State

/-- Whether a reference source is READY: 0 OSC200, 1 TCXO, 2 LINK (15 Table 15-1). -/
def clkReady (s : State) (c : Nat) : Bool := bit (s.rd Reg.CLK_READY) c

/-- A source's READY flag set or cleared. -/
def setReady (s : State) (c : Nat) (b : Bool) : State := s.wr Reg.CLK_READY (setBits (s.rd Reg.CLK_READY) c 1 (b2n b))

/-- The selected source. -/
def clkSrc (s : State) : Nat := s.fd Fld.CLK_STATUS_SRC

/-- A switch ends without its target, and a CLK_SRC_SET that waits for it is answered DETAIL 0x0A03 (15 R531). -/
def clkCancel (s : State) : State :=
  match s.clk.target with
  | none => s
  | some (_, _, cmd) =>
    let s := ({ s with clk := { s.clk with target := none } }).fbw Fld.CLK_STATUS_SWITCHING false
    if cmd then s.mccReply (.refuse 0x0A03) else s

/-- A source selected at once. -/
def clkTake (s : State) (c : Nat) : State := s.clkCancel.fw Fld.CLK_STATUS_SRC c

/-- A switch to a READY source begins (15 R532). -/
def clkSwitch (s : State) (c : Nat) (cmd : Bool) : State :=
  if c = s.clkSrc then s.clkCancel
  else ({ s.clkCancel with clk := { s.clk with target := some (c, s.clkSrc, cmd) } }).fbw Fld.CLK_STATUS_SWITCHING true

/-- In AUTO, the READY source highest in the order LINK, TCXO, OSC200, LINK only once it has qualified (15 R530). -/
def clkAuto (s : State) : State :=
  if !s.fb Fld.CLK_STATUS_MODE then s
  else
    let c := if s.clkReady 2 && (s.clk.qualified || s.clkSrc == 2) then 2 else if s.clkReady 1 then 1 else 0
    match s.clk.target with
    | some (t, _, _) => if t = c then s else s.clkSwitch c false
    | none => s.clkSwitch c false

/-- LINK loses READY without a failure (15 R533): the handover, its record and vector 2 where LINK is selected. The port
is down, so no SYNC arrives and HOLDOVER is set where time was synchronised (15 R546). -/
def linkHandover (s : State) : State :=
  let s := ({ s with clk := { s.clk with qualified := false, goodLink := 0, heard := false } }).setReady 2 false
  let s := if s.fb Fld.CLK_TIME_STATUS_SYNCED then s.fbw Fld.CLK_TIME_STATUS_HOLDOVER true else s
  if s.clkSrc = 2 then
    let s := if s.clkReady 1 then s.clkSwitch 1 false else s.clkTake 0
    s.troubleRule 0x0A 533 1 97 0
  else match s.clk.target with
    | some (2, _, _) => s.clkCancel
    | _ => s

end Sys2Proof.Machine.State
end

