-- ==== Sys2Proof/Machine/Issue.lean ====
section
/-! DEFINITION. What an issuing module checks before it issues a remote operation (08 R279 to R282, R303), the home that
serves it, and the routes between modules (09 R331, R332). -/

namespace Sys2Proof.Machine

/-! ## Operations (08 Table 8-1) -/

/-- Whether an operation code is defined. -/
def opDefined (op : Nat) : Bool :=
  [0x00, 0x01, 0x08, 0x28, 0x09, 0x29, 0x0A, 0x2A, 0x0C, 0x2C, 0x0D, 0x2D, 0x0E, 0x2E, 0x0F, 0x2F, 0x30, 0x31, 0x14,
    0x34].contains op

/-- LOAD. -/
def opLoad : Nat := 0x00
/-- STORE. -/
def opStore : Nat := 0x01
/-- LACC_ADD, non-returning. -/
def opLaccAdd : Nat := 0x14
/-- FADD32, non-returning. -/
def opFadd32 : Nat := 0x0A
/-- MAXU32, non-returning. -/
def opMaxU32 : Nat := 0x0C

/-- Whether an operation is an atomic. -/
def isAtomic (op : Nat) : Bool := opDefined op && decide (2 ≤ op)

/-- Whether an operation returns its target (OP bit 5). -/
def isReturning (op : Nat) : Bool := bit op 5

/-- The operation without RET. -/
def opBase (op : Nat) : Nat := op % 32

/-- The target width of an atomic. -/
def atomWidth (op : Nat) : Nat :=
  match opBase op with
  | 0x09 | 0x0D | 0x0F | 0x11 => 8
  | 0x14 => 32
  | _ => 4

/-- The payload bytes of an atomic. -/
def atomPayload (op : Nat) : Nat := if opBase op = 0x10 then 8 else if opBase op = 0x11 then 16 else atomWidth op

/-- The bytes of the target that a request touches. -/
def reqWidth (q : Req) : Nat := if isAtomic q.op then atomWidth q.op else q.size

/-- Whether an address names a gather endpoint (07 Table 7-1). -/
def isEndpoint (addr : Nat) : Bool := spaceOf addr == 3 && bit addr 47

/-- Alignment and the line rule (08 R279). The low bits of a gather endpoint's offset are its unit's number and no place
in a line, so a request of 64 bytes there counts as aligned (assumption 40). -/
def alignOk (q : Req) : Bool :=
  if isEndpoint q.addr then true
  else if isAtomic q.op then q.addr % atomWidth q.op == 0
  else q.addr % 4 == 0 && decide (q.addr % 64 + q.size ≤ 64)

/-- Whether a space takes an operation (08 Table 8-2); the sequence region's own validity is its home's. -/
def spaceTakes (q : Req) : Bool :=
  match spaceOf q.addr with
  | 0 | 2 => !q.tokEn
  | 1 => true
  | 3 =>
    if isEndpoint q.addr then q.op == opStore && q.size == 64 && !q.tokEn
    else !isAtomic q.op
  | 4 => !isAtomic q.op && !q.tokEn
  | 5 => q.op == opLoad && (q.size == 4 || q.size == 8) && q.addr % q.size == 0
  | 6 => q.op == opStore && q.size == 0 && q.tokEn
  | _ => false

/-- A malformed header (08 R282, R283, R309): an undefined code, a payload that is not the operation's, a token without
an increment, a LOAD with a token, a counter the endpoint lacks, or TOK_TILE outside space 0x3. -/
def malformed (q : Req) : Bool :=
  !opDefined q.op || (q.tokEn && q.tokInc == 0) || (q.op == opLoad && (q.tokEn || q.size == 0 || !q.data.isEmpty)) ||
  decide (64 < q.size) || (q.op == opStore && (q.data.length != q.size || (q.size == 0 && !q.tokEn))) ||
  (isAtomic q.op && (q.size != atomPayload q.op || q.data.length != q.size)) ||
  (q.tokEn && spaceOf q.addr == 6 && decide (16 ≤ q.tokCtr)) ||
  (q.tokTile != 0 && spaceOf q.addr != 3)

/-- Whether offsets of space 0x3 are inside 07 Table 7-1 and 07 R255's endpoints. -/
def seqSpaceOk (addr : Nat) : Bool := if bit addr 47 then bits addr 3 44 == 0 else true

namespace State

/-! ## Routes -/

/-- The ports of a state on a link. -/
def linkIn (s : State) (l : Nat) (sts : List Nat) : Bool :=
  (List.range 18).any (fun p =>
    s.fd (Fld.ATY_PORT_STATUS_LINK p) == l && sts.contains (s.fd (Fld.ATY_PORT_STATUS_STATE p)))

/-- The links a lookup takes (09 R332): the UP links of PRI_MASK, else those of ALT_MASK. -/
def routeLinks (s : State) (m : Nat) : List Nat :=
  let pri := (bitsOf (s.fd (Fld.ATY_ROUTE_PRI_MASK m)) 16).filter (fun l => s.linkIn l [3])
  if pri.isEmpty then (bitsOf (s.fd (Fld.ATY_ROUTE_ALT_MASK m)) 16).filter (fun l => s.linkIn l [3]) else pri

/-- Whether a destination module has a route: none before MOD_NUM is set (09 R337); a lookup without a link that is UP
waits while one trains (09 R332). -/
def routed (s : State) (m : Nat) : Bool :=
  s.isOwn m || (s.ownMod != 0xFFF && decide (m < 4095) && (!(s.routeLinks m).isEmpty ||
    (bitsOf (s.rd (Reg.ATY_ROUTE m)) 32).any (fun l => s.linkIn (l % 16) [1, 4])))

/-! ## Checks before issue (08 R303) -/

/-- The status with which the issuing module refuses an operation, if it does. -/
def issueCheck (s : State) (q : Req) : Option Nat :=
  let m := modOf q.addr
  let n := reqWidth q
  if malformed q then some Sts.badParam
  else if !alignOk q || !spaceTakes q then some Sts.accessFault
  else if !s.routed m then some Sts.accessFault
  else
    let k := memKey q.addr
    let ok := match spaceOf q.addr with
      | 3 => seqSpaceOk q.addr
      | 4 => s.isOwn m && s.hostAllowed (offOf q.addr) n
      | 5 => decide (offOf q.addr + n ≤ 4096)
      | 6 => offOf q.addr == 0
      | _ => if s.isOwn m then s.runAllowed q.srcUnit k n else farRunAllowed k n
    if ok then none else some Sts.accessFault

/-- The status-page or memory address with this module's own number shown as 0xFFF (06 R199). -/
def shownAddr (s : State) (a : Nat) : Nat := if s.isOwn (modOf a) then ownAddr a else a

/-- The memory an address lies in, as one number: its module, its space and, of those that are divided, its stack, tile or slice
(06 R198). -/
def spanUnit (s : State) (addr : Nat) : Nat :=
  let i := match spaceOf addr with
    | 0 => offOf addr / 2 ^ 36
    | 1 => offOf addr / 2 ^ 23
    | 2 => offOf addr / 2 ^ 24
    | _ => 0
  (modOf (s.shownAddr addr) * 16 + spaceOf addr) * 2 ^ 48 + i

/-- The refusal of a region of a command by the issuing module: an operation on it fails, or it spans two memories. The address is
that of its first byte (02 R57). -/
def issueRegion (s : State) : List Req → Option (Nat × Nat)
  | [] => none
  | q :: l => match (q :: l).findSome? s.issueCheck with
    | some st => some (st, if st = Sts.accessFault then s.shownAddr q.addr else 0)
    | none => if l.any (fun r => s.spanUnit r.addr != s.spanUnit q.addr) then some (Sts.accessFault, s.shownAddr q.addr) else none

/-- The first of a command's regions that the issuing module refuses (08 R304): the status and address. -/
def issueCheckAll (s : State) (regions : List (List Req)) : Option (Nat × Nat) := regions.findSome? s.issueRegion

/-! ## Homes (08 R287) -/

/-- The stacks that hold the pages of sequences on a module (07 R238); of another module, those of this tenant. -/
def seqHome (s : State) (addr : Nat) : Nat :=
  let n := s.crl.homes.length
  if n = 0 then 0 else s.crl.homes.getD ((bits addr 16 19 + bits addr 35 12) % n) 0

/-- The home of an address: module, kind and index, as one number. -/
def homeOf (s : State) (addr : Nat) : Nat :=
  let m := if s.isOwn (modOf addr) then 0xFFF else modOf addr
  let (kind, i) := match spaceOf addr with
    | 0 => (0, offOf addr / 2 ^ 36)
    | 1 => (1, offOf addr / 2 ^ 23)
    | 2 => (2, offOf addr / 2 ^ 24)
    | 3 => if bit addr 47 then (4, addr % 8) else (3, s.seqHome addr)
    | k => (k + 1, 0)
  m * 2 ^ 16 + kind * 2 ^ 8 + i % 2 ^ 8

/-- The send tokens of a home (08 Table 8-9). -/
def sendTokens (home : Nat) : Nat :=
  match home / 256 % 256 with
  | 0 => 128
  | 1 => 64
  | 2 => 64
  | 3 => 32
  | 4 => 8
  | 5 => 64
  | 6 => 4
  | _ => 8

/-- The module number a request carries in SRC_MOD: never 0xFFF (08 Table 8-3), so 0 while none is configured. -/
def srcMod (s : State) : Nat := if s.ownMod = 0xFFF then 0 else s.ownMod

/-- The island of a unit of this module (08 Table 8-4, 01 Table 1-5). -/
def unitIsland (s : State) (u : Nat) : Nat :=
  if u < 0x20 then siteIsland (s.siteOf u)
  else if u < 0x28 then stackIsland (u - 0x20)
  else if u < 0x2D then 82 + (u - 0x28)
  else match u with
    | 0x2D => 81
    | 0x2E => 76
    | 0x33 => 78
    | 0x34 => 88
    | 0x35 => 89
    | 0x36 => 91
    | 0x37 => 92
    | 0x38 => 90
    | _ => 77

/-- The reader that a request stands for (06 Table 6-8; 19 Table 19-11): the Splint engine, a Creel unit or the DMA of a ring where
one of them issued it, else a remote load; a reader on another module has no island here. -/
def readerOf (s : State) (q : Req) : Reader :=
  if q.srcMod != s.srcMod then ⟨4, 0xFF, Sts.eccHalt⟩
  else
    let u := q.srcUnit
    ⟨if u = 0x2D then 6 else if 0x20 ≤ u ∧ u < 0x28 then 7 else if 0x28 ≤ u ∧ u ≤ 0x2E then 5 else 4, s.unitIsland u, Sts.eccHalt⟩

end State
end Sys2Proof.Machine
end

