-- ==== Sys2Proof/Machine/Link.lean ====
section
/-! DEFINITION. The link layer (09 R313 to R329): flits, the replay buffer, credits, the order of the egress, the choice of
a route, and the states of ports. -/

namespace Sys2Proof.Machine

/-! ## Flits (09 R315, R316, Table 9-2) -/

/-- FTYPE IDLE. -/
def ftIdle : Nat := 0
/-- FTYPE DATA. -/
def ftData : Nat := 1
/-- FTYPE CONTROL. -/
def ftControl : Nat := 2

/-- Bytes brought to a length with zeros. -/
def padTo (n : Nat) (bs : List Byte) : List Byte := bs.take n ++ List.replicate (n - bs.length) 0

/-- The 640 bytes of a flit: header with ACKSEQ and credits, CRC, and slots 1 to 19. -/
def Flit.bytes (f : Flit) (nak : Bool) (ack : Nat) (credits : List Nat) : List Byte :=
  let head := leBytes 2 (f.ftype * 2 ^ 12 + f.fseq % 2 ^ 12) ++ leBytes 2 (b2n nak * 2 ^ 15 + ack % 2 ^ 12) ++
    (credits.map (leBytes 2)).flatten ++ leBytes 10 f.map ++ List.replicate 6 0
  let slots := padTo 608 f.slots
  head ++ leBytes 4 (crc32 (head ++ slots)) ++ slots

/-- A received flit, with its NAK, ACKSEQ and credits: none where the CRC fails or FTYPE is reserved (09 R316). -/
def flitOf (bs : List Byte) : Option (Flit × Bool × Nat × List Nat) :=
  let head := bs.take 28
  let slots := (bs.drop 32).take 608
  let w0 := ofLE (head.take 2)
  let w1 := ofLE ((head.drop 2).take 2)
  if bs.length = 640 && ofLE ((bs.drop 28).take 4) == crc32 (head ++ slots) && decide (w0 / 2 ^ 12 ≤ 2) then
    some (⟨w0 / 2 ^ 12, w0 % 2 ^ 12, ofLE ((head.drop 12).take 10), slots⟩, bit w1 15, w1 % 2 ^ 12,
      (List.range 4).map (fun i => ofLE ((head.drop (4 + 2 * i)).take 2)))
  else none

/-- The credit units of a message: its slots (08 R286). -/
def LinkMsg.units (m : LinkMsg) : Nat := ceilDiv m.bytes.length 32

/-- The 16 header bytes of a remote operation, then its bytes, in whole slots. -/
def slotsOf (hdr : BitVec 128) (data : List Byte) : List Byte :=
  padTo (ceilDiv (16 + data.length) 32 * 32) (leBytes 16 hdr.toNat ++ data)

/-- A request as a link message. -/
def reqMsg (q : Req) : LinkMsg := ⟨if onVc2 q.srcUnit then 2 else 0, false, slotsOf q.hdr q.data⟩

/-- A response as a link message, on VC1. -/
def respMsg (r : Resp) : LinkMsg := ⟨1, bit r.hdr.toNat 96, slotsOf r.hdr r.data⟩

/-- The header that a remote-operation message carries. -/
def LinkMsg.hdr (m : LinkMsg) : Nat := ofLE (m.bytes.take 16)

/-- The module a remote-operation message goes to: of a response DST_MOD, of a request its address's module. -/
def LinkMsg.dest (m : LinkMsg) : Nat := bits m.hdr 116 12

namespace State

/-! ## Links and ports -/

/-- A link's layer. -/
def link (s : State) (l : Nat) : Link := Cells.get Link.start l s.fab.links

/-- A link's layer replaced. -/
def setLink (s : State) (l : Nat) (x : Link) : State :=
  { s with fab := { s.fab with links := Cells.set Link.start l x s.fab.links } }

/-- A link's layer changed. -/
def updLink (s : State) (l : Nat) (f : Link → Link) : State := s.setLink l (f (s.link l))

/-- The port that serves a link, by ATY_LINK_MAP (09 R313). -/
def portOf (s : State) (l : Nat) : Nat :=
  l / 8 * 9 + bits (s.rd (if l < 8 then Reg.ATY_LINK_MAP0 else Reg.ATY_LINK_MAP1)) (4 * (l % 8)) 4

/-- The link a port serves; 0x1F for none. -/
def portLink (s : State) (p : Nat) : Nat := s.fd (Fld.ATY_PORT_STATUS_LINK p)

/-- A port's state (09 Table 9-4). -/
def portState (s : State) (p : Nat) : Nat := s.fd (Fld.ATY_PORT_STATUS_STATE p)

/-- The state of the port that serves a link. -/
def linkState (s : State) (l : Nat) : Nat := s.portState (s.portOf l)

/-- A port put into a state. -/
def setPort (s : State) (p st : Nat) : State := s.fw (Fld.ATY_PORT_STATUS_STATE p) st

/-- DOWN. -/
def pDown : Nat := 0
/-- TRAIN. -/
def pTrain : Nat := 1
/-- IDENT. -/
def pIdent : Nat := 2
/-- UP. -/
def pUp : Nat := 3
/-- RETRAIN. -/
def pRetrain : Nat := 4
/-- MISWIRED. -/
def pMiswired : Nat := 5
/-- ISOLATED. -/
def pIsolated : Nat := 6
/-- BERT. -/
def pBert : Nat := 7
/-- FAILED. -/
def pFailed : Nat := 8
/-- RETIRED. -/
def pRetired : Nat := 9
/-- SPARE. -/
def pSpare : Nat := 10

/-- The links that are UP. -/
def upLinks (s : State) : List Nat := (List.range 16).filter (fun l => s.linkState l == pUp)

/-! ## The egress (09 R317, R319) -/

/-- Whether a class of traffic is carried in a port state (09 Table 9-4). -/
def carries (st cls : Nat) : Bool :=
  st == pUp || (cls == 4 && (st == pIdent || st == pMiswired || st == pIsolated))

/-- Whether a message may leave now: its class is carried and the far end has the units it needs. -/
def mayLeave (st : Nat) (x : Link) (m : LinkMsg) : Bool :=
  carries st m.cls && (m.cls == 4 || decide (m.units ≤ x.credit.getD m.cls 0))

/-- The index of the next message to leave (09 R317): VC3, link control unless the flit holds one, VC2, urgent responses,
then VC1 and VC0 by turn. -/
def nextMsg (st : Nat) (x : Link) (ctl : Bool) : Option Nat :=
  let pick := fun (want : LinkMsg → Bool) =>
    (List.range x.queue.length).find? (fun i => match x.queue[i]? with
      | some m => want m && mayLeave st x m
      | none => false)
  let vc0 := pick (·.cls == 0)
  let vc1 := pick (·.cls == 1)
  (pick (·.cls == 3)).or <| (if ctl then none else pick (·.cls == 4)).or <| (pick (·.cls == 2)).or <|
    (pick (fun m => m.cls == 1 && m.urgent)).or <| if x.turn then vc1.or vc0 else vc0.or vc1

/-- Messages taken from the queue into a flit of at most 19 slots, each whole: the messages, in order of service. -/
def packFlit (st : Nat) : Nat → Link → Bool → Nat → List LinkMsg → Link × List LinkMsg
  | 0, x, _, _, ms => (x, ms)
  | k + 1, x, ctl, n, ms =>
    match nextMsg st x ctl with
    | none => (x, ms)
    | some i => match x.queue[i]? with
      | none => (x, ms)
      | some m =>
        if 19 < n + m.units then (x, ms)
        else
          let x := { x with queue := x.queue.eraseIdx i
                            credit := if m.cls = 4 then x.credit else x.credit.modify m.cls (· - m.units)
                            turn := if m.cls = 0 then true else if m.cls = 1 then false else x.turn }
          packFlit st k x (ctl || m.cls == 4) (n + m.units) (ms ++ [m])

/-- The SLOTMAP nibbles of messages from slot `i` on (09 Table 9-2). The nibble of a link-control message is `ctl`, which
the spec does not give. -/
def slotMap (ctl : Nat) : Nat → List LinkMsg → Nat
  | _, [] => 0
  | i, m :: l =>
    let one := fun j => if m.cls = 4 then ctl % 16 else 8 + b2n (j == 0) * 4 + m.cls
    ((List.range m.units).map (fun j => one j * 2 ^ (4 * (i + j) - 4))).foldl (· + ·) 0 + slotMap ctl (i + m.units) l

/-- A flit sent: ACKSEQ and the credits owed go with it. -/
def sendFlit (s : State) (l : Nat) (f : Flit) (nak : Bool) : State :=
  let x := s.link l
  (s.setLink l { x with owed := [0, 0, 0, 0] }).emit (.flit l (f.bytes nak x.rx x.owed))

/-- An IDLE flit: it repeats the last FSEQ sent (09 R319). -/
def sendIdle (s : State) (l : Nat) (nak : Bool) : State := s.sendFlit l ⟨ftIdle, (s.link l).tx, 0, []⟩ nak

/-- A response that leaves on a port counted (20 Table 20-4). -/
def countSent (s : State) (g : Nat) (m : LinkMsg) : State :=
  if m.cls = 1 then
    let r : Resp := ⟨BitVec.ofNat 128 m.hdr, []⟩
    (s.pmuEvent g 0x003 1 (some (Origin.resp r))).pmuEvent g 0x004 (b2n (r.status != 0)) (some (Origin.resp r))
  else s

/-- Flits formed and sent while messages may leave and the replay buffer has room. -/
def egressAux (l : Nat) : Nat → State → State
  | 0, s => s
  | k + 1, s =>
    let x := s.link l
    if 128 ≤ x.held.length then s
    else match packFlit (s.linkState l) (x.queue.length + 1) x false 0 [] with
    | (_, []) => s
    | (x, ms) =>
      let ctl := ms.any (·.cls == 4)
      let ms := ms.filter (·.cls == 4) ++ ms.filter (·.cls != 4)
      let (nib, s) := if ctl then s.open_ 4 else (0, s)
      let f : Flit := ⟨if ctl then ftControl else ftData, (x.tx + 1) % 2 ^ 12, slotMap nib 1 ms,
        (ms.map (·.bytes)).flatten⟩
      let s := ms.foldl (fun s m => s.countSent (20 + s.portOf l) m) s
      egressAux l k (((s.pmuEvent (20 + s.portOf l) 0x120 1 none).setLink l { x with tx := f.fseq, held := x.held ++ [f] }).sendFlit l f false)

/-- The egress of a link served. -/
def egress (s : State) (l : Nat) : State := egressAux l ((s.link l).queue.length + 1) s

/-- A message queued on a link. -/
def enqueue (s : State) (l : Nat) (m : LinkMsg) : State :=
  (s.updLink l (fun x => { x with queue := x.queue ++ [m] })).egress l

/-- A link-control message of one slot on a link. -/
def sendCtl (s : State) (l : Nat) (bs : List Byte) : State := s.enqueue l ⟨4, false, padTo 32 bs⟩

/-- A link-control message on every UP link but one (09 R318). -/
def flood (s : State) (but : Option Nat) (bs : List Byte) : State :=
  (s.upLinks.filter (fun l => some l != but)).foldl (fun s l => s.sendCtl l bs) s

/-- Every held flit after ACKSEQ resent in order (09 R320). -/
def resend (s : State) (l : Nat) : State := (s.link l).held.foldl (fun s f => s.sendFlit l f false) s

/-- A replay: counted, and every held flit resent (09 R320). -/
def replay (s : State) (l : Nat) : State :=
  ((s.bump (Reg.ATY_REPLAY_CNT (s.portOf l)) 1).pmuEvent (20 + s.portOf l) 0x122 1 none).resend l

/-! ## Routes (09 R331, R332) -/

/-- The k of a lookup: of a request from its source and home, of a response its RTAG. -/
def routeK (s : State) (m : LinkMsg) : Nat :=
  if m.cls = 1 then bits m.hdr 102 7
  else bits m.hdr 52 12 + bits m.hdr 45 7 + s.homeOf (bits m.hdr 64 64) % 256

/-- A message of a remote operation given to the link that the lookup takes; it waits while the floor is 0 (09 R341, a
request of this module) or while links train, and is dropped where a response has no route. -/
def route (s : State) (m : LinkMsg) : State :=
  let ls := s.routeLinks m.dest
  let own := m.cls != 1 && bits m.hdr 52 12 == s.srcMod
  let unit := bits m.hdr 45 7
  let home := s.homeOf (bits m.hdr 64 64)
  let lane := if own && decide (unit < 32) && decide (1 < ((s.tile unit).sb.filter
      (fun e => e.issued && s.homeOf e.req.addr == home)).length) then
    s.fab.lanes.find? (fun e => e.1 == unit && e.2.1 == home) else none
  if own && s.fd Fld.ATY_FAB_STATUS_FLOOR = 0 then { s with fab := { s.fab with waiting := s.fab.waiting ++ [m] } }
  else match lane, ls[s.routeK m % ls.length]? with
    | some (_, _, l), _ => s.enqueue l m
    | none, some l =>
      let s := if own && decide (unit < 32) then
        { s with fab := { s.fab with lanes := (unit, home, l) :: s.fab.lanes.filter (fun e => !(e.1 == unit && e.2.1 == home)) } }
        else s
      s.enqueue l m
    | none, none => if s.routed m.dest then { s with fab := { s.fab with waiting := s.fab.waiting ++ [m] } } else s

/-- Messages that waited for a link or a floor tried again. -/
def routeWaiting (s : State) : State :=
  let ms := s.fab.waiting
  ms.foldl (fun s m => s.route m) { s with fab := { s.fab with waiting := [] } }

/-- A request leaves its unit; one for another module goes to a link. -/
def launch (s : State) (q : Req) : State :=
  let s := s.emit (.request q)
  if s.isOwn (modOf q.addr) then s else s.route (reqMsg q)

/-- A response leaves its home; one for another module goes to a link. -/
def launchResp (s : State) (r : Resp) : State :=
  let s := s.emit (.response r)
  if r.dstMod == s.srcMod || r.dstMod == 0xFFF || s.ownMod == 0xFFF then s else s.route (respMsg r)

/-! ## Changes of port state (09 R322 to R329) -/

/-- A port leaves UP for a state that carries no traffic: where it serves UPSTREAM_LINK the reference is handed over
(15 R533). -/
def portLost (s : State) (p : Nat) : State :=
  if s.portLink p = s.fd Fld.ATY_FAB_CFG_UPSTREAM_LINK && decide (s.portLink p < 16) then s.linkHandover else s

/-- VC2 messages not yet sent re-routed where the table gives an UP link; the others stay, first in the queue (09 R327). -/
def rerouteVc2 (s : State) (l : Nat) : State :=
  let q := (s.link l).queue
  let vc2 := q.filter (·.cls == 2)
  let s := s.updLink l (fun x => { x with queue := q.filter (·.cls != 2) })
  let (s, keep) := vc2.foldl (fun (s, keep) m =>
    if (s.routeLinks m.dest).isEmpty then (s, keep ++ [m]) else (s.route m, keep)) (s, [])
  s.updLink l (fun x => { x with queue := keep ++ x.queue })

/-- A port starts training: in full, or keeping its coefficients. -/
def portTrain (s : State) (p : Nat) (full : Bool) : State :=
  (s.setPort p pTrain).updLink (s.portLink p) (fun x => { x with full := full, ident := false, part := none })

/-- A port enters RETRAIN (09 R326, R327). -/
def portRetrain (s : State) (p : Nat) : State :=
  let s := ((s.setPort p pRetrain).bump (Reg.ATY_RETRAIN_CNT p) 1).portLost p
  let n := ((s.link (s.portLink p)).queue.filter (fun m => m.cls == 2 && !(s.routeLinks m.dest).isEmpty)).length
  let s := s.pmuEvent (20 + p) 0x124 n (some ⟨0, 2, none⟩)
  s.rerouteVc2 (s.portLink p)

/-- VC0 and VC1 messages and the replay buffer discarded (09 R329). -/
def dropQueues (s : State) (l : Nat) : State :=
  s.updLink l (fun x => { x with queue := x.queue.filter (fun m => m.cls != 0 && m.cls != 1), held := [], part := none
                                 credit := Link.start.credit, owed := Link.start.owed, tx := Link.start.tx
                                 rx := Link.start.rx })

/-- A port enters FAILED: messages handled, a record, vector 2 (09 R329). -/
def portFail (s : State) (p : Nat) : State :=
  let s := (s.setPort p pFailed).portLost p
  let s := (s.dropQueues (s.portLink p)).rerouteVc2 (s.portLink p)
  s.troubleRule 4 329 1 (portIsland p) 0

/-- A port enters DOWN. -/
def portDown (s : State) (p : Nat) : State := (s.setPort p pDown).portLost p

end State
end Sys2Proof.Machine
end

