-- ==== Sys2Proof/Machine/Vid.lean ====
section
/-! DEFINITION. Sessions of the video engine (13): loads, the registers that show them, demotion, halts and closing, as every
family uses them. -/

namespace Sys2Proof.Machine

/-- STS_VID_CAPACITY. -/
def stsVidCapacity : Nat := 0x0800
/-- STS_VID_STREAM. -/
def stsVidStream : Nat := 0x0801
/-- STS_VID_UNSUPPORTED. -/
def stsVidUnsupported : Nat := 0x0802
/-- STS_VID_SESSION. -/
def stsVidSession : Nat := 0x0803
/-- STS_VID_POOL. -/
def stsVidPool : Nat := 0x0804
/-- STS_VID_OUTBUF. -/
def stsVidOutbuf : Nat := 0x0805

/-- The load of a session as a fraction: pixel units per FPS_DEN seconds, and FPS_DEN (13 R469). -/
def VidSess.load (x : VidSess) : Nat × Nat :=
  let area := x.maxW * x.maxH
  (area * x.num * (if x.enc then 2 else 1) * (if 2228224 < area then 2 else 1), x.den)

/-- A sum of loads. -/
def loadSum (l : List VidSess) : Nat × Nat :=
  l.foldl (fun (n, d) x => let (m, e) := x.load; (n * e + m * d, d * e)) (0, 1)

/-- A load in 10^6 units per second, rounded up. -/
def loadMega (l : Nat × Nat) : Nat := ceilDiv l.1 (l.2 * 10 ^ 6)

/-- Whether a load is at most 10^9 × `n`. -/
def loadFits (l : Nat × Nat) (n : Nat) : Bool := decide (l.1 ≤ 10 ^ 9 * n * l.2)

namespace State

/-- An open session. -/
def vidSess (s : State) (n : Nat) : Option VidSess := Cells.find n s.vid.sess

/-- A session replaced. -/
def setVidSess (s : State) (n : Nat) (x : VidSess) : State :=
  { s with vid := { s.vid with sess := Cells.insert n x (Cells.erase n s.vid.sess) } }

/-- A session changed. -/
def updVidSess (s : State) (n : Nat) (f : VidSess → VidSess) : State :=
  match s.vidSess n with
  | some x => s.setVidSess n (f x)
  | none => s

/-- STATE of a session: 0 CLOSED, 1 OPEN, 2 NEEDS_IRAP. -/
def vidState (s : State) (n : Nat) : Nat := s.fd (Fld.VID_SESS_STATUS_STATE n)

/-- A session needs an IRAP picture. -/
def vidIrap (s : State) (n : Nat) : State :=
  if s.vidState n = 0 then s else s.fw (Fld.VID_SESS_STATUS_STATE n) 2

/-- The LIVE sessions. -/
def vidLive (s : State) : List VidSess := (s.vid.sess.map (·.2)).filter (·.live)

/-- The registers that follow the sessions and the commands (13 Table 13-9). -/
def vidSync (s : State) : State :=
  let busy := (List.range 5).foldl (fun m c => if s.vid.jobs.any (fun j => j.cores.contains c) then m + 2 ^ c else m) 0
  let s := (s.fw Fld.VID_STATUS_CORE_BUSY busy).fw Fld.VID_STATUS_SESSIONS s.vid.sess.length
  let s := s.wr Reg.VID_LOAD_LIVE (loadMega (loadSum s.vidLive))
  let s := s.wr Reg.VID_LOAD_BATCH (loadMega (loadSum ((s.vid.sess.map (·.2)).filter (fun x => !x.live))))
  s.vid.sess.foldl (fun s e =>
    s.wr (Reg.VID_SESS_PEND e.1) (min 0xFFFF (s.vid.jobs.filter (fun j => j.sess == e.1)).length)) s

/-- The reply of a video command, on the path that brought it; its ring settles. -/
def vidReply (s : State) (j : VidJob) (a : Ans) : State :=
  let s := ({ s with vid := { s.vid with jobs := s.vid.jobs.erase j } }).vidSync
  let s := match j.job.via with
    | .mcc => s.mccReply a
    | .ring n => s.ringReply n (j.job.reply a s.now) j.job.pkt.irq
  s.ringSettle j.ring

/-- A video command ends and halts its ring (13 R465, R482; 02 R78). -/
def vidHalt (s : State) (j : VidJob) (a : Ans) : State := (s.vidReply j a).ringHalt j.ring a.status a.r1

/-- An uncorrectable read by a core: the ring halts, and every session bound to it needs an IRAP picture (13 R482). -/
def vidEcc (s : State) (j : VidJob) (a : Ans) : State :=
  let s := s.vidHalt j a
  (s.vid.sess.filter (fun e => 40 + e.2.ring == j.ring)).foldl (fun s e => s.vidIrap e.1) s

/-- Demotion until the LIVE load fits the cores in service (13 R473); `k` bounds the sessions. -/
def vidDemoteAux : Nat → State → State
  | 0, s => s
  | k + 1, s =>
    if loadFits (loadSum s.vidLive) (s.fd Fld.CAP_UNITS_VID_CORES) then s
    else match (s.vid.sess.filter (fun e => e.2.live)).getLast? with
      | none => s
      | some (n, x) =>
        let s := (s.setVidSess n { x with live := false }).fbw (Fld.VID_SESS_STATUS_LIVE n) false
        vidDemoteAux k ((s.bump Reg.VID_DEMOTE_CNT 1).troubleRule 8 473 1 82 n)

/-- Demotion after CAP_UNITS.VID_CORES has fallen. -/
def vidDemote (s : State) : State := (vidDemoteAux s.vid.sess.length s).vidSync

/-- A session closed, its pending commands ended with STS_ABORTED (13 R489). -/
def vidClose (s : State) (n : Nat) : State :=
  let s := (s.vid.jobs.filter (fun j => j.sess == n)).foldl (fun s j => s.vidReply j (.err Sts.aborted)) s
  let s := { s with vid := { s.vid with sess := Cells.erase n s.vid.sess } }
  ((s.regReset (Reg.VID_SESS_STATUS n)).regReset (Reg.VID_SESS_PEND n)).vidSync

/-- Every session of a set of rings (0 to 3) closed. -/
def vidCloseRings (s : State) (mask : Nat) : State :=
  (s.vid.sess.filter (fun e => bit mask e.2.ring)).foldl (fun s e => s.vidClose e.1) s

/-- A video core traps on its microcode (13 R465, 06 Table 6-8): the ring of its command halts, and sessions with a picture on
it need an IRAP picture. -/
def vidTrap (s : State) (core off : Nat) : State :=
  match s.vid.jobs.find? (fun j => j.cores.contains core) with
  | none => s
  | some j => ((s.vidIrap j.sess).vidHalt j ⟨Sts.seqTrap, 0, 0, off, false⟩).urgent 5

end State
end Sys2Proof.Machine
end

