-- ==== Sys2Proof/Machine/RasOps.lean ====
section
/-! DEFINITION. Retirement and spare insertion of ports and cores (09 R330; 19 Table 19-2), the release of the maintenance
token and the start of what waits for it (19 R618), and records for the RAS store (19 R628). -/

namespace Sys2Proof.Machine.State

/-- A unit of KIND 1 to 4 or 7 retired: its record in the trouble log and in the RAS store. -/
def logRetired (s : State) (kind unit island : Nat) : State :=
  (s.trouble 0x0C80 0 island 0 (kind * 2 ^ 60 + unit)).persist (kind * 2 ^ 52 + unit)

/-- A spare brought into service. -/
def logSpare (s : State) (kind unit island : Nat) : State :=
  (s.trouble 0x0C81 0 island 0 (kind * 2 ^ 60 + unit)).healthCheck

/-- A kind has no spare left. -/
def logNoSpare (s : State) (kind : Nat) : State := (s.trouble 0x0C82 0 0xFF 0 (kind * 2 ^ 60)).healthCheck

/-! ## Ports (09 R330) -/

/-- The ports of the die of a port. -/
def diePorts (p : Nat) : List Nat := if p < 9 then List.range 9 else rangeFrom 9 9

/-- A spare port of a port's die. -/
def sparePort (s : State) (p : Nat) : Option Nat := (diePorts p).find? (fun q => s.portState q == pSpare)

/-- The bit of RAS_PORT_STATE that says a port is retired. -/
def portRetired (s : State) (p : Nat) : Bool := bit (s.rd Reg.RAS_PORT_STATE) (32 + p)

/-- The retirement of a port (09 R330 steps 1 to 3): traffic held or re-routed, the die's spare steered onto the link and
trained in full. Without a spare the link is FAILED. -/
def portRetireNow (s : State) (p : Nat) : State :=
  let l := s.portLink p
  let far := (s.rd (Reg.ATY_FAR_SERIAL p), s.rd (Reg.ATY_FAR_IDENT p))
  let s := (s.wr Reg.RAS_PORT_STATE (clrBit (setBit (s.rd Reg.RAS_PORT_STATE) (32 + p)) p)).logRetired 2 p (portIsland p)
  let s := s.setClk (portIsland p) false
  let vc2gone := fun (s : State) => s.updLink l (fun x => { x with queue := x.queue.filter (·.cls != 2) })
  match s.sparePort p with
  | none => ((vc2gone s).portFail p).logNoSpare 2
  | some q =>
    let s := ((s.setPort p pRetired).portLost p).rerouteVc2 l
    let s := s.fw (Fld.ATY_PORT_STATUS_LINK p) 0x1F
    let s := (s.setPort q pDown).fw (Fld.ATY_PORT_STATUS_LINK q) l
    let map := if l < 8 then Reg.ATY_LINK_MAP0 else Reg.ATY_LINK_MAP1
    let s := s.wr map (setBits (s.rd map) (4 * (l % 8)) 4 (q % 9))
    let s := (s.orReg Reg.RAS_PORT_STATE (2 ^ q)).logSpare 2 q (portIsland q)
    let s := s.fbw (Fld.ATY_PORT_STATUS_UPSTREAM q) (s.fd Fld.ATY_FAB_CFG_UPSTREAM_LINK == l)
    let s := s.updLink l (fun x => { x with spare := some far })
    s.portTrain q true

/-! ## Cores -/

/-- The island of a management core. -/
def mgmtIsland : Nat := 77

/-- A management core retired: the spare core, if one is left, takes its role (19 R625). -/
def mgmtRetireNow (s : State) (c : Nat) : State :=
  let v := s.rd Reg.RAS_CORE_STATE
  let v := setBit (clrBit v c) (4 + c)
  let s := (s.wr Reg.RAS_CORE_STATE v).logRetired 3 c mgmtIsland
  match (List.range 4).find? (fun k => !bit v k && !bit v (4 + k)) with
  | some k => (s.wr Reg.RAS_CORE_STATE (setBit v k)).logSpare 3 k mgmtIsland
  | none => s.logNoSpare 3

/-- A video core retired: the spare core takes the ring dispatch; with none left CAP_UNITS.VID_CORES falls (19 Table 19-2,
00 R11). -/
def vidRetireNow (s : State) (c : Nat) : State :=
  let v := s.rd Reg.RAS_CORE_STATE
  let active := bit v (8 + c)
  let v := setBit (clrBit v (8 + c)) (16 + c)
  let s := (s.wr Reg.RAS_CORE_STATE v).logRetired 4 c (82 + c)
  let s := s.setClk (82 + c) false
  match (if active then (List.range 5).find? (fun k => !bit v (8 + k) && !bit v (16 + k)) else none) with
  | some k =>
    let s := (s.wr Reg.RAS_CORE_STATE (setBit v (8 + k))).logSpare 4 k (82 + k)
    s.setClk (82 + k) true
  | none =>
    if active then ((s.logNoSpare 4).fw Fld.CAP_UNITS_VID_CORES ((bitsOf (bits v 8 5) 5).length)).vidDemote else s

/-! ## The token's queue (19 R618) -/

/-- What an activity does when it starts holding the token. -/
def actEffect (s : State) (a : Activity) : State :=
  if a.code = actRetire then
    match a.kind with
    | 1 => s.moveStart a.unit
    | 2 => s.portRetireNow a.unit
    | 3 => s.mgmtRetireNow a.unit
    | 4 => s.vidRetireNow a.unit
    | _ => s
  else if a.code = actTenantScrub then
    (s.fbw Fld.SEC_STATUS_SCRUB_WAIT_TOKEN false).fbw Fld.SEC_STATUS_SCRUB_ACTIVE true
  else s

/-- Whether an activity is over as soon as it has started. -/
def actOver (s : State) (a : Activity) : Bool :=
  a.code == actRetire && (a.kind == 3 || a.kind == 4 || (a.kind == 2 &&
    (s.portState a.unit != pRetired || !((List.range 16).any (fun l => (s.link l).spare.isSome)))))

/-- Queued activities started in order, while the first one fits (19 R618). -/
def maintPumpAux : Nat → State → State
  | 0, s => s
  | k + 1, s =>
    match s.ras.queue with
    | [] => s
    | a :: q =>
      if s.maintFits a then
        let s := (({ s with ras := { s.ras with queue := q } }).maintTake a).actEffect a
        let s := if s.actOver a then { s with ras := { s.ras with holders := s.ras.holders.erase a } } else s
        maintPumpAux k s
      else s

/-- The queue served. -/
def maintPump (s : State) : State := maintPumpAux s.ras.queue.length s

/-- An activity releases the token, and the queue is served. -/
def maintRelease (s : State) (a : Activity) : State :=
  ({ s with ras := { s.ras with holders := s.ras.holders.erase a } }).maintPump

/-- An activity of the module starts, or waits for the token. -/
def maintStart (s : State) (a : Activity) : State := (s.maintQueue a).maintPump

/-- The retirement of a unit of KIND 1 to 4. -/
def retire (s : State) (kind unit : Nat) : State :=
  if kind = 1 then s.markSite unit
  else
    let a : Activity := ⟨actRetire, kind, unit⟩
    if s.maintHolds a || s.ras.queue.contains a then s else s.maintStart a

end Sys2Proof.Machine.State
end

