-- ==== Sys2Proof/Machine/Creel.lean ====
section
/-! DEFINITION. Creel's sequence regions at their homes (07): geometry, page homes and reservations, the TLB and its
walks, allocation, parking, and the accesses that wait. -/

namespace Sys2Proof.Machine

/-! ## Geometry (07 R236) -/

/-- Rows per page. -/
def CrlSeq.rpp (q : CrlSeq) : Nat := 65536 / q.rowBytes

/-- Pages per layer. -/
def CrlSeq.ppl (q : CrlSeq) : Nat := ceilDiv q.maxTok q.rpp

/-- Pages per layer inside the reservation (07 R246). -/
def CrlSeq.resvPages (q : CrlSeq) : Nat := ceilDiv q.resvTok q.rpp

/-- Whether a virtual page lies inside the reservation. -/
def CrlSeq.inResv (q : CrlSeq) (v : Nat) : Bool := decide (v % q.ppl < q.resvPages)

/-- The sequence of an address of a sequence region (07 Table 7-1). -/
def crlSeqOf (addr : Nat) : Nat := bits addr 35 12

/-- The virtual page of an address. -/
def crlPageOf (addr : Nat) : Nat := bits addr 16 19

/-- The token of an address. -/
def CrlSeq.token (q : CrlSeq) (addr : Nat) : Nat :=
  crlPageOf addr % q.ppl * q.rpp + bits addr 0 16 / q.rowBytes

/-- Whether an access of `n` bytes lies wholly inside one row slot of the geometry (07 R237). -/
def CrlSeq.rowOk (q : CrlSeq) (addr n : Nat) : Bool :=
  let o := bits addr 0 16
  decide (o / q.rowBytes < q.rpp) && decide (o % q.rowBytes + n ≤ q.rowBytes) && decide (q.token addr < q.maxTok) &&
    decide (crlPageOf addr / q.ppl < q.layers)

/-- Numbers `x` with `a ≤ x < a + c` and `x % n = i`. -/
def countMod (a c n i : Nat) : Nat := if n = 0 then 0 else (a + c + (n - 1 - i)) / n - (a + (n - 1 - i)) / n

namespace State

/-- Whether a tenant is open (14 R508). -/
def tenantOpen (s : State) : Bool := s.fb Fld.SEC_STATUS_TENANT_OPEN

/-- A sequence that is not CLOSED. -/
def crlSeq (s : State) (n : Nat) : Option CrlSeq := Cells.find n s.crl.seqs

/-- A sequence replaced. -/
def setCrlSeq (s : State) (n : Nat) (q : CrlSeq) : State :=
  { s with crl := { s.crl with seqs := Cells.insert n q (Cells.erase n s.crl.seqs) } }

/-- The unit of a page of a sequence (07 R238). -/
def crlHome (s : State) (n v : Nat) : Nat := s.crl.homes.getD ((v + n) % s.crl.homes.length) 0

/-- The entry of a virtual page. -/
def crlMap (s : State) (n v : Nat) : Option CrlPage := s.crl.maps.find? (fun m => m.seq == n && m.v == v)

/-- The unit of a page: its stack. -/
def pageUnit (page : Nat) : Nat := offOf page / 2 ^ 36

/-! ## Accounting (07 R245, R246) -/

/-- CRL_POOL_FREE of a unit: free pages, those being zero-filled included. -/
def poolFree (s : State) (u : Nat) : Nat :=
  (s.crl.free.filter (fun f => pageUnit f.1 == u)).length +
    (s.crl.zeroing.filter (fun z => pageUnit z.page == u)).length

/-- `R_u` of a sequence (07 R246). -/
def crlResv (s : State) (n : Nat) (q : CrlSeq) (u : Nat) : Nat :=
  let k := s.crl.homes.length
  match s.crl.homes.findIdx? (· == u) with
  | none => 0
  | some i =>
    let homed := (List.range q.layers).foldl (fun c l => c + countMod (l * q.ppl + n) q.resvPages k i) 0
    homed - (s.crl.maps.filter (fun m => m.seq == n && pageUnit m.page == u && q.inResv m.v)).length

/-- CRL_POOL_RESV of a unit. -/
def poolResv (s : State) (u : Nat) : Nat := s.crl.seqs.foldl (fun c e => c + s.crlResv e.1 e.2 u) 0

/-- CRL_POOL_USED of a unit: pages mapped, and those lost under unreadable entries (07 R257). -/
def poolUsed (s : State) (u : Nat) : Nat :=
  (s.crl.maps.filter (fun m => pageUnit m.page == u)).length + (s.crl.kept.filter (fun k => pageUnit k == u)).length

/-- The first unit whose reservations exceed its free pages, with the shortfall (07 R246). -/
def poolShort (s : State) : Option (Nat × Nat) :=
  match (List.range 8).find? (fun u => decide (s.poolFree u < s.poolResv u)) with
  | some u => some (u, s.poolResv u - s.poolFree u)
  | none => none

/-- The RESV bits of a sequence's entries after a change of its reserved length (07 R248). -/
def crlMarkResv (s : State) (n : Nat) (q : CrlSeq) : State :=
  { s with crl := { s.crl with
      maps := s.crl.maps.map (fun m => if m.seq = n then { m with resv := q.inResv m.v } else m) } }

/-! ## The TLB (07 R242, R243) -/

/-- Whether a unit's TLB holds a page. -/
def tlbHas (s : State) (u n v : Nat) : Bool := s.crl.tlb.contains (u, n, v)

/-- A page put into a unit's TLB. With 512 entries one of the others is replaced; which one is open (assumption 41). -/
def tlbPut (s : State) (u n v : Nat) : State :=
  let rest := s.crl.tlb.filter (· != (u, n, v))
  let mine := rest.filter (fun e => e.1 == u)
  if mine.length < 512 then { s with crl := { s.crl with tlb := (u, n, v) :: rest } }
  else match s.pick mine with
    | (s, some e) => { s with crl := { s.crl with tlb := (u, n, v) :: rest.filter (· != e) } }
    | (s, none) => s

/-- A sequence's entries removed on every unit (07 R243). -/
def tlbDrop (s : State) (n : Nat) : State :=
  { s with crl := { s.crl with tlb := s.crl.tlb.filter (fun e => e.2.1 != n) } }

/-! ## Parking (07 R250, R257) -/

/-- A sequence parked with a cause, its record and vector 2 (07 R250). -/
def crlPark (s : State) (n cause u addr rule st : Nat) : State :=
  match s.crlSeq n with
  | none => s
  | some q =>
    if q.state = 2 then s
    else
      let s := s.setCrlSeq n { q with state := 2, cause := cause, firstLost := none, fault := (st, addr) }
      s.troubleRule 3 rule 1 (stackIsland u) addr

/-- FIRST_LOST with a further discarded token. -/
def lowest (tok : Nat) : Option Nat → Option Nat
  | none => some tok
  | some t => some (min t tok)

/-- A write discarded (07 R250, R251). -/
def crlDiscard (s : State) (n u addr : Nat) (o : Option Origin) : State :=
  let s := s.crlPark n 1 u (ownAddr addr) 250 Sts.noPages
  let s := match s.crlSeq n with
    | some q => s.setCrlSeq n { q with firstLost := lowest (q.token addr) q.firstLost }
    | none => s
  (s.bump (Reg.CRL_DISCARD_CNT u) 1).pmuEvent (12 + u) 0x113 1 o

/-! ## Allocation (07 R247) -/

/-- What a write under a ZERO entry finds. -/
inductive Alloc where
  | page (k : Nat) (granted : Bool)
  | wait
  | none
  deriving DecidableEq, Repr

/-- A free page of a unit for a virtual page of a sequence; which of the free ones is open (assumption 42). -/
def crlAlloc (s : State) (q : CrlSeq) (u v : Nat) : State × Alloc :=
  if q.inResv v || decide (s.poolResv u < s.poolFree u) then
    match s.pick (s.crl.free.filter (fun f => pageUnit f.1 == u)) with
    | (s, some (k, g)) => ({ s with crl := { s.crl with free := s.crl.free.filter (fun f => f.1 != k) } }, .page k g)
    | (s, .none) => (s, if s.crl.zeroing.any (fun z => pageUnit z.page == u) then .wait else .none)
  else (s, .none)

/-! ## Accesses -/

/-- Whether an operation on space 0x3 may touch its region at all (07 R237): the sequence, if so. -/
def crlValid (s : State) (q : Req) : Option CrlSeq :=
  if isEndpoint q.addr || isAtomic q.op || !s.tenantOpen then none
  else match s.crlSeq (crlSeqOf q.addr) with
    | some g => if decide (q.size ≤ 64) && g.rowOk q.addr q.size then some g else none
    | none => none

/-- A translated access performed (07 R241, R247): a status with the returned bytes, or none while it waits for a page
that is being zero-filled. -/
def crlDo (s : State) (g : CrlSeq) (u : Nat) (q : Req) (seen : Seen) : State × Option (Nat × List Byte) :=
  let n := crlSeqOf q.addr
  let v := crlPageOf q.addr
  let o := bits q.addr 0 16
  let r := s.readerOf q
  let write := fun (s : State) (m : CrlPage) =>
    let s := { s with crl := { s.crl with
      maps := s.crl.maps.map (fun (e : CrlPage) => if e.seq = n ∧ e.v = v then { e with written := true } else e) } }
    let s := s.memCount (some (Origin.req q)) (m.page + o) q.size false true
    match s.homeStore r (m.page + o) q.data seen with
    | (s, true) => (s, some (Sts.ok, []))
    | (s, false) => (s, some (Sts.eccHalt, []))
  if q.op = opLoad then
    match s.crlMap n v with
    | none => (s, some (Sts.ok, List.replicate q.size 0))
    | some m =>
      let s := s.memCount (some (Origin.req q)) (m.page + o) q.size true false
      match s.homeRead r (m.page + o) q.size seen with
      | (s, some bs) => (s, some (Sts.ok, bs))
      | (s, none) => (s, some (Sts.eccHalt, []))
  else if g.state = 2 then (s.crlDiscard n u q.addr (some (Origin.req q)), some (Sts.ok, []))
  else match s.crlMap n v with
    | some m => write s m
    | none =>
      match s.crlAlloc g u v with
      | (s, .page k granted) =>
        let m : CrlPage := ⟨n, v, k, true, g.inResv v, granted⟩
        let s := { s with crl := { s.crl with maps := s.crl.maps ++ [m] } }
        write (s.tlbPut u n v) m
      | (s, .wait) => (s, none)
      | (s, .none) => (s.crlDiscard n u q.addr (some (Origin.req q)), some (Sts.ok, []))

/-- Whether two requests name one page of one sequence. -/
def samePage (a b : Req) : Bool := crlSeqOf a.addr == crlSeqOf b.addr && crlPageOf a.addr == crlPageOf b.addr

/-- A walk started for a page, where fewer than 8 pages walk at the unit (07 R242). -/
def walkStart (s : State) (u n v : Nat) (o : Option Origin) : State :=
  if s.crl.walks.contains (u, n, v) || decide (8 ≤ (s.crl.walks.filter (fun w => w.1 == u)).length) then s
  else (({ s with crl := { s.crl with walks := s.crl.walks ++ [(u, n, v)] } }).bumpWrap (Reg.CRL_TLB_MISS u) 48 1).pmuEvent
    (12 + u) 0x111 1 o

/-- An access that waits joins the others. -/
def crlWait (s : State) (q : Req) (seen : Seen) : State :=
  { s with crl := { s.crl with waiting := s.crl.waiting ++ [(q, seen)] } }

/-- An access arriving at its home unit (07 R237, R242, R247, R249, R251, R257): its answer, or none while it waits. -/
def crlArrive (s : State) (q : Req) (seen : Seen) : State × Option (Nat × List Byte) :=
  let n := crlSeqOf q.addr
  let v := crlPageOf q.addr
  let u := s.crlHome n v
  match s.crlValid q with
  | none => (s.wr (Reg.CRL_FAULT_ADDR u) (ownAddr q.addr), some (Sts.accessFault, []))
  | some g =>
    match s.crl.busy with
    | some (b, _) =>
      if b = n then ({ s with crl := { s.crl with held := s.crl.held ++ [(q, seen)] } }, none)
      else arrive s n v u g
    | none => arrive s n v u g
where
  /-- The same, with no command in progress on the sequence. -/
  arrive (s : State) (n v u : Nat) (g : CrlSeq) : State × Option (Nat × List Byte) :=
    if !s.stackOk u then (s.wr (Reg.CRL_FAULT_ADDR u) (ownAddr q.addr), some (Sts.eccHalt, []))
    else if s.crl.waiting.any (fun w => samePage w.1 q) then (s.crlWait q seen, none)
    else if s.tlbHas u n v then
      match ((s.bumpWrap (Reg.CRL_TLB_HIT u) 48 1).pmuEvent (12 + u) 0x110 1 (some (Origin.req q))).crlDo g u q seen with
      | (s, none) => (s.crlWait q seen, none)
      | r => r
    else ((s.walkStart u n v (some (Origin.req q))).crlWait q seen, none)

/-- A translation made in one step by a unit that serves a gather (07 R242, R256). -/
def tlbTouch (s : State) (u n v : Nat) (o : Option Origin) : State :=
  if s.tlbHas u n v then (s.bumpWrap (Reg.CRL_TLB_HIT u) 48 1).pmuEvent (12 + u) 0x110 1 o
  else ((s.bumpWrap (Reg.CRL_TLB_MISS u) 48 1).pmuEvent (12 + u) 0x111 1 o).tlbPut u n v

/-! ## Pages given back (07 R248) -/

/-- Granted free pages returned to the skein pool while the unit has more free pages than reservations. -/
def returnGrantedAux (u : Nat) : Nat → State → State
  | 0, s => s
  | k + 1, s =>
    if decide (s.poolResv u < s.poolFree u) && s.rd (Reg.CRL_POOL_GRANTED u) != 0 then
      match s.crl.free.find? (fun f => pageUnit f.1 == u && f.2) with
      | none => s
      | some f =>
        let s := { s with crl := { s.crl with free := s.crl.free.filter (fun e => e.1 != f.1) } }
        let s := s.wr (Reg.CRL_POOL_GRANTED u) (s.rd (Reg.CRL_POOL_GRANTED u) - 1)
        returnGrantedAux u k (s.giveSkein f.1)
    else s

/-- The same for a unit. -/
def returnGranted (s : State) (u : Nat) : State := returnGrantedAux u s.crl.free.length s

/-- Whether an entry of a page lies under an unreadable one; a block of four entries is unreadable together (07 R257). -/
def crlUnreadable (s : State) (m : CrlPage) : Bool :=
  s.crl.bad.any (fun (u, n, l, v) => u == pageUnit m.page && n == m.seq &&
    (l == 1 || (l == 2 && v / 4096 == m.v / 4096) || (l == 3 && v / 4 == m.v / 4)))

/-- The pages of a sequence that satisfy a test freed: they leave the tables and are zero-filled (07 R245, R248). Pages
under unreadable entries do not return to the pool. -/
def crlFree (s : State) (n : Nat) (p : CrlPage → Bool) : State :=
  let out := s.crl.maps.filter (fun m => m.seq == n && p m)
  let (lost, back) := out.partition s.crlUnreadable
  let s := { s with crl := { s.crl with
    maps := s.crl.maps.filter (fun m => !(m.seq == n && p m))
    zeroing := s.crl.zeroing ++ back.map (fun m => ⟨m.page, m.granted, true⟩)
    kept := s.crl.kept ++ lost.map (·.page) } }
  (List.range 8).foldl returnGranted s

/-- Every unit cleared at TENANT_CLOSE (07 R254). The stacks of the page homes stay until the next TENANT_OPEN. -/
def crlClear (s : State) : State :=
  let s := { s with crl := { Crl.empty with homes := s.crl.homes } }
  (List.range 8).foldl (fun s u => s.regReset (Reg.CRL_POOL_GRANTED u)) s

end State
end Sys2Proof.Machine
end

