-- ==== Sys2Proof/Machine/Flags.lean ====
section
/-! DEFINITION. The arithmetic flags of 03 Table 3-6 as bits of a number, and the LFLAGS of 03 Table 3-7. -/

namespace Sys2Proof.Machine.Flag

/-- A rounded result differs from the exact value. -/
def inexact : Nat := 1
/-- A tiny, inexact result. -/
def underflow : Nat := 2
/-- A finite value rounded to infinity. -/
def overflow : Nat := 4
/-- An exact infinity came from a finite operand. -/
def divZero : Nat := 8
/-- Invalid operation, or NaN or infinity into a format without it. -/
def invalid : Nat := 16
/-- A conversion clamped. -/
def saturate : Nat := 32
/-- Product bits below the window were discarded. -/
def belowWindow : Nat := 64
/-- The window saturated. -/
def aboveWindow : Nat := 128
/-- A LACC-add met two anchors. -/
def anchorMismatch : Nat := 256
/-- A result is outside the reproducibility contract. -/
def nonrepro : Nat := 512

/-- A NaN term entered (LFLAGS bit 0). -/
def lNan : Nat := 1
/-- A +Infinity term entered (LFLAGS bit 1). -/
def lPosInf : Nat := 2
/-- A -Infinity term entered (LFLAGS bit 2). -/
def lNegInf : Nat := 4
/-- BELOW_WINDOW in LFLAGS (bit 3). -/
def lBelow : Nat := 8
/-- ABOVE_WINDOW in LFLAGS (bit 4). -/
def lAbove : Nat := 16
/-- ANCHOR_MISMATCH in LFLAGS (bit 5). -/
def lAnchor : Nat := 32
/-- NONREPRO in LFLAGS (bit 6). -/
def lNonrepro : Nat := 64

/-- The sticky bits that LFLAGS shares with Table 3-6, at their places in Table 3-6 (03 R115). -/
def ofLflags (l : Nat) : Nat := bits l 3 4 * 64

/-- A flag when a condition holds. -/
def on (c : Bool) (f : Nat) : Nat := if c then f else 0

end Sys2Proof.Machine.Flag
end

