-- ==== Sys2Proof/Machine/Formats.lean ====
section
/-! DEFINITION. The number formats of 03 (R89 to R99): exact values, decoding, correct rounding into each format with
the flags of 03 Table 3-3 and R97, sub-byte packing and MX blocks. Values are exact: a magnitude times a power of two. -/

namespace Sys2Proof.Machine

/-- What an element of a format reads as: a NaN, an infinity, or exactly `m * 2 ^ e` with a sign. -/
inductive Val where
  | nan
  | inf (neg : Bool)
  | fin (neg : Bool) (m : Nat) (e : Int)
  deriving DecidableEq, Repr

/-- The magnitude of a result known exactly or from below: exactly `m * 2 ^ e`, or, when `sticky`, strictly between
`m * 2 ^ e` and `(m + 1) * 2 ^ e`. -/
structure Mag where
  m : Nat
  e : Int
  sticky : Bool
  deriving DecidableEq, Repr

/-- The layout of a floating-point format (03 Tables 3-1 and 3-2): mantissa and exponent bits, bias, unused low bits
of its container, whether it has infinities and NaNs, and the largest finite value as `maxM * 2 ^ maxE`. -/
structure FFmt where
  mb : Nat
  eb : Nat
  bias : Nat
  pad : Nat
  hasInf : Bool
  hasNan : Bool
  maxM : Nat
  maxE : Int
  deriving DecidableEq, Repr

/-- The floating-point format of a code (03 R89); integers and block formats have none. -/
def ffmt : Nat → Option FFmt
  | 1 => some ⟨23, 8, 127, 0, true, true, 2 ^ 24 - 1, 104⟩
  | 2 => some ⟨10, 8, 127, 13, true, true, 2 ^ 11 - 1, 117⟩
  | 3 => some ⟨7, 8, 127, 0, true, true, 2 ^ 8 - 1, 120⟩
  | 4 => some ⟨10, 5, 15, 0, true, true, 2 ^ 11 - 1, 5⟩
  | 5 => some ⟨3, 4, 7, 0, false, true, 14, 5⟩
  | 6 => some ⟨2, 5, 15, 0, true, true, 7, 13⟩
  | 7 => some ⟨2, 3, 3, 0, false, false, 7, 2⟩
  | 8 => some ⟨3, 2, 1, 0, false, false, 15, -1⟩
  | 9 => some ⟨1, 2, 1, 0, false, false, 3, 1⟩
  | _ => none

/-- The bits an element takes in memory, block scales aside (03 Table 3-1). -/
def elemBits (fmt sub : Nat) : Nat :=
  match fmt with
  | 1 | 2 | 17 => 32
  | 3 | 4 => 16
  | 5 | 6 | 10 | 13 | 14 | 15 => 8
  | 7 | 8 | 11 => 6
  | 9 | 12 | 16 => 4
  | 18 => 256
  | _ => sub * 0

/-- The element format of an MX format with its subformat bit (03 R90); a plain format is its own. MXINT8 elements
read as INT8 numbers and are scaled by `mxShift`. -/
def elemFmt (fmt sub : Nat) : Nat :=
  match fmt with
  | 10 => if sub = 0 then 5 else 6
  | 11 => if sub = 0 then 7 else 8
  | 12 => 9
  | 13 => 14
  | f => f

/-- Whether a format carries block scales (03 R90). -/
def isMx (fmt : Nat) : Bool := 10 ≤ fmt && fmt ≤ 13

/-- The power of two that MXINT8 elements carry besides their block's scale (03 R91). -/
def mxShift (fmt : Nat) : Int := if fmt = 13 then -6 else 0

/-- Whether a format code is defined (03 R89). -/
def fmtDefined (fmt : Nat) : Bool := 1 ≤ fmt && fmt ≤ 18

/-- Significand of a defined floating format's raw bits (03 R93: subnormals are read at their value, every NaN encoding
reads as NaN). -/
def readFloat (f : FFmt) (raw0 : Nat) : Val :=
  let raw := raw0 / 2 ^ f.pad
  let m := bits raw 0 f.mb
  let e := bits raw f.mb f.eb
  let neg := bit raw (f.mb + f.eb)
  let top := 2 ^ f.eb - 1
  if f.hasInf && e == top then (if m = 0 then .inf neg else .nan)
  else if f.hasNan && !f.hasInf && e == top && m == 2 ^ f.mb - 1 then .nan
  else if e = 0 then .fin neg m (1 - (f.bias : Int) - f.mb)
  else .fin neg (2 ^ f.mb + m) ((e : Int) - f.bias - f.mb)

/-- An integer as an exact value. -/
def Val.ofInt (i : Int) : Val := .fin (decide (i < 0)) i.natAbs 0

/-- What the raw bits of an element read as; `fmt` is the element format of a block format. -/
def readElem (fmt raw : Nat) : Val :=
  match ffmt fmt with
  | some f => readFloat f raw
  | none =>
    match fmt with
    | 14 => .ofInt (sext 8 raw)
    | 15 => .ofInt (bits raw 0 8)
    | 16 => .ofInt (sext 4 raw)
    | _ => .ofInt (sext 32 raw)

/-- An element of an MX block with its scale byte (03 R91). -/
def applyScale (fmt scale : Nat) (v : Val) : Val :=
  if scale = 255 then .nan
  else match v with
    | .fin n m e => .fin n m (e + ((scale : Int) - 127) + mxShift fmt)
    | v => v

/-- `e(x) = floor (log2 |x|)` of a nonzero finite value (03 R106). -/
def Val.expo : Val → Option Int
  | .fin _ m e => if m = 0 then none else some ((Nat.log2 m : Int) + e)
  | _ => none

/-- Whether a value is a NaN. -/
def Val.isNan : Val → Bool
  | .nan => true
  | _ => false

/-- Whether a value is an infinity. -/
def Val.isInf : Val → Bool
  | .inf _ => true
  | _ => false

/-- The sign of a value; a NaN has none. -/
def Val.neg? : Val → Bool
  | .nan => false
  | .inf n => n
  | .fin n _ _ => n

/-- The value with its sign turned. -/
def Val.negate : Val → Val
  | .nan => .nan
  | .inf n => .inf (!n)
  | .fin n m e => .fin (!n) m e

/-- The magnitude of a value. -/
def Val.abs : Val → Val
  | .nan => .nan
  | .inf _ => .inf false
  | .fin _ m e => .fin false m e

/-- Plus zero. -/
def Val.zero : Val := .fin false 0 0

/-- A signed count of units of `2 ^ e`, for a common `e` at or below the value's own exponent. -/
def scaledInt (neg : Bool) (m : Nat) (e base : Int) : Int :=
  let k : Int := (m * 2 ^ (e - base).toNat : Nat)
  if neg then -k else k

/-- Exact product (03 R101, R103): NaN for a NaN or for an infinity times zero. -/
def Val.mul : Val → Val → Val
  | .nan, _ => .nan
  | _, .nan => .nan
  | .inf a, .inf b => .inf (a != b)
  | .inf a, .fin b m _ => if m = 0 then .nan else .inf (a != b)
  | .fin a m _, .inf b => if m = 0 then .nan else .inf (a != b)
  | .fin a m e, .fin b n f => .fin (a != b) (m * n) (e + f)

/-- Exact sum. An exact zero is +0 unless both terms are -0 (assumption 22); opposite infinities give NaN. -/
def Val.add : Val → Val → Val
  | .nan, _ => .nan
  | _, .nan => .nan
  | .inf a, .inf b => if a = b then .inf a else .nan
  | .inf a, .fin _ _ _ => .inf a
  | .fin _ _ _, .inf b => .inf b
  | .fin a m e, .fin b n f =>
    let base := min e f
    let t := scaledInt a m e base + scaledInt b n f base
    if t = 0 then .fin (a && b) 0 0 else .fin (decide (t < 0)) t.natAbs base

/-- Exact comparison of finite values and infinities: whether the first is below the second. -/
def Val.lt : Val → Val → Bool
  | .nan, _ => false
  | _, .nan => false
  | .inf a, .inf b => a && !b
  | .inf a, .fin _ _ _ => a
  | .fin _ _ _, .inf b => !b
  | .fin a m e, .fin b n f =>
    let base := min e f
    decide (scaledInt a m e base < scaledInt b n f base)

/-- The larger value; NaN when either is NaN, and +0 of the two zeros (03 R118). -/
def Val.max (x y : Val) : Val :=
  if x.isNan || y.isNan then .nan
  else if x.lt y then y
  else if y.lt x then x
  else if x.neg? then y else x

/-- The smaller value; NaN when either is NaN, and -0 of the two zeros (03 R118). -/
def Val.min (x y : Val) : Val :=
  if x.isNan || y.isNan then .nan
  else if x.lt y then x
  else if y.lt x then y
  else if x.neg? then x else y

/-- How a result is rounded: to nearest even (03 R94), or stochastically with a 16-bit draw (03 R99). -/
inductive Rounding where
  | rne
  | sr (draw : Nat)
  deriving DecidableEq, Repr

/-- The number of units of `2 ^ q` a magnitude rounds to, and whether that is exact. A magnitude that is not exact must
hold at least two bits below `2 ^ q`. -/
def Mag.roundAt (r : Rounding) (x : Mag) (q : Int) : Nat × Bool :=
  if q ≤ x.e then (x.m * 2 ^ (x.e - q).toNat, !x.sticky)
  else
    let s := (q - x.e).toNat
    let lo := x.m / 2 ^ s
    let rem := x.m % 2 ^ s
    let exact := rem == 0 && !x.sticky
    match r with
    | .rne =>
      let half := 2 ^ (s - 1)
      let up := if rem = half then (x.sticky || lo % 2 == 1) else decide (half < rem)
      (if up then lo + 1 else lo, exact)
    | .sr draw =>
      let f16 := rem * 65536 / 2 ^ s
      (if exact then lo else if draw < f16 then lo + 1 else lo, exact)

/-- Whether `a * 2 ^ e` exceeds `b * 2 ^ f`. -/
def dyGt (a : Nat) (e : Int) (b : Nat) (f : Int) : Bool :=
  let base := min e f
  decide (b * 2 ^ (f - base).toNat < a * 2 ^ (e - base).toNat)

/-- The sign bit of a format at its place in the container. -/
def FFmt.signBit (f : FFmt) (neg : Bool) : Nat := if neg then 2 ^ (f.mb + f.eb + f.pad) else 0

/-- The largest finite magnitude's bits. -/
def FFmt.maxCode (f : FFmt) : Nat :=
  let e := (f.maxE + f.bias + f.mb).toNat
  (e * 2 ^ f.mb + (f.maxM - 2 ^ f.mb)) * 2 ^ f.pad

/-- The infinity's bits. -/
def FFmt.infCode (f : FFmt) : Nat := (2 ^ f.eb - 1) * 2 ^ (f.mb + f.pad)

/-- The canonical NaN (03 Table 3-2): the quiet pattern, or 0x7F for E4M3. -/
def FFmt.nanCode (f : FFmt) : Nat :=
  if f.hasInf then ((2 ^ f.eb - 1) * 2 ^ f.mb + 2 ^ (f.mb - 1)) * 2 ^ f.pad
  else (2 ^ (f.mb + f.eb) - 1) * 2 ^ f.pad

/-- Rounding of a magnitude into a floating format, with its flags (03 R94, R95, R97, R99). -/
def roundFloat (r : Rounding) (f : FFmt) (neg : Bool) (x : Mag) : Nat × Nat :=
  if x.m = 0 && !x.sticky then (f.signBit neg, 0)
  else
    let emin : Int := 1 - (f.bias : Int)
    let top : Int := (Nat.log2 x.m : Int) + x.e
    let q0 := top - f.mb
    let q := max q0 (emin - f.mb)
    let (n, exact) := x.roundAt r q
    let tiny := if q0 < q then
        let (n0, _) := x.roundAt r q0
        dyGt (2 ^ f.mb) (emin - f.mb) n0 q0
      else false
    let fl := Flag.on (!exact) Flag.inexact ||| Flag.on (!exact && tiny) Flag.underflow
    if dyGt n q f.maxM f.maxE then
      if f.hasInf then (f.signBit neg + f.infCode, Flag.inexact ||| Flag.overflow)
      else (f.signBit neg + f.maxCode, Flag.inexact ||| Flag.saturate)
    else if n < 2 ^ f.mb then (f.signBit neg + n * 2 ^ f.pad, fl)
    else
      let (n, q) := if n = 2 ^ (f.mb + 1) then (2 ^ f.mb, q + 1) else (n, q)
      let e := (q + f.mb + f.bias).toNat
      (f.signBit neg + (e * 2 ^ f.mb + (n - 2 ^ f.mb)) * 2 ^ f.pad, fl)

/-- The range of an integer format. -/
def intRange : Nat → Int × Int
  | 14 => (-128, 127)
  | 15 => (0, 255)
  | 16 => (-8, 7)
  | _ => (-(2 ^ 31 : Int), 2 ^ 31 - 1)

/-- The width of an integer format. -/
def intBits : Nat → Nat
  | 14 | 15 => 8
  | 16 => 4
  | _ => 32

/-- Rounding of a magnitude into an integer format: RNE to an integer, then the nearest extreme (03 R95). -/
def roundInt (r : Rounding) (fmt : Nat) (neg : Bool) (x : Mag) : Nat × Nat :=
  let (n, exact) := if 64 < (Nat.log2 x.m : Int) + x.e then (2 ^ 65, true) else x.roundAt r 0
  let i : Int := if neg then -(n : Int) else n
  let (lo, hi) := intRange fmt
  if i < lo then (ofInt (intBits fmt) lo, Flag.saturate ||| Flag.inexact)
  else if hi < i then (ofInt (intBits fmt) hi, Flag.saturate ||| Flag.inexact)
  else (ofInt (intBits fmt) i, Flag.on (!exact) Flag.inexact)

/-- A result before its conversion: a NaN, an infinity or a magnitude with a sign. -/
inductive Res where
  | nan
  | inf (neg : Bool)
  | fin (neg : Bool) (x : Mag)
  deriving DecidableEq, Repr

/-- An exact value as a result. -/
def Val.toRes : Val → Res
  | .nan => .nan
  | .inf n => .inf n
  | .fin n m e => .fin n ⟨m, e, false⟩

/-- Conversion into a plain format, with flags (03 Table 3-3). -/
def convert (r : Rounding) (fmt : Nat) (x : Res) : Nat × Nat :=
  match ffmt fmt, x with
  | some f, .nan => if f.hasNan then (f.nanCode, 0) else (0, Flag.invalid)
  | some f, .inf n =>
    if f.hasInf then (f.signBit n + f.infCode, 0)
    else (f.signBit n + f.maxCode, Flag.saturate ||| Flag.on (!f.hasNan) Flag.invalid)
  | some f, .fin n m => roundFloat r f n m
  | none, .nan => (0, Flag.invalid)
  | none, .inf n =>
    let (lo, hi) := intRange fmt
    (ofInt (intBits fmt) (if n then lo else hi), Flag.invalid)
  | none, .fin n m => roundInt r fmt n m

/-- Conversion of an exact value. -/
def convertVal (r : Rounding) (fmt : Nat) (v : Val) : Nat × Nat := convert r fmt v.toRes

/-- A magnitude rounded to 24 bits with an unbounded exponent: its `floor log2` (03 R96). -/
def log2Fp32 (x : Mag) : Option Int :=
  if x.m = 0 then none
  else
    let top : Int := (Nat.log2 x.m : Int) + x.e
    let (n, _) := x.roundAt .rne (top - 23)
    some ((Nat.log2 n : Int) + (top - 23))

/-- `emax` of an MX format: the exponent of the largest finite element value (03 R96). -/
def mxEmax (fmt sub : Nat) : Int :=
  match elemFmt fmt sub with
  | 5 => 8
  | 6 => 15
  | 7 => 4
  | 8 => 2
  | 9 => 2
  | _ => 0

/-- A result divided by a power of two. -/
def Res.scaleDown (k : Int) : Res → Res
  | .fin n x => .fin n { x with e := x.e - k }
  | r => r

/-- Whether a result is not finite. -/
def Res.special : Res → Bool
  | .fin _ _ => false
  | _ => true

/-- Whether a result is an infinity. -/
def Res.isInf : Res → Bool
  | .inf _ => true
  | _ => false

/-- Writing an MX block (03 R96): the scale byte, the element bits and the flags. A block with a NaN or an infinity
takes scale 0xFF, and its element bits are left open. -/
def writeMxBlock (fmt sub : Nat) (xs : List Res) : Nat × List Nat × Nat :=
  if xs.any Res.special then
    (255, (List.range xs.length).map (fun i => Config.mxNanElem fmt i % 2 ^ elemBits fmt sub),
      Flag.on (xs.any Res.isInf) Flag.invalid)
  else
    let es := xs.filterMap (fun x => match x with | .fin _ m => log2Fp32 m | _ => none)
    let sc : Int := match es with
      | [] => -127
      | e :: es => Max.max (-127) (Min.min 127 (es.foldl Max.max e - mxEmax fmt sub))
    let ws := xs.map (fun x => convert .rne (elemFmt fmt sub) (x.scaleDown (sc + mxShift fmt)))
    ((sc + 127).toNat, ws.map (·.1), (ws.map (·.2)).foldl (· ||| ·) 0)

/-- The bit offset of an element within its row (03 R92): packed along the innermost dimension. -/
def elemBitOff (fmt sub i : Nat) : Nat := i * elemBits fmt sub

/-- The bytes a run of `n` elements takes; FP6 elements take whole groups of four (03 R92). -/
def runBytes (fmt sub n : Nat) : Nat :=
  if elemBits fmt sub = 6 then ceilDiv n 4 * 3 else ceilDiv (n * elemBits fmt sub) 8

end Sys2Proof.Machine
end

