-- ==== Sys2Proof/Machine/Lacc.lean ====
section
/-! DEFINITION. The long accumulator of 03 (R100 to R114): products entering the window, the LACC192 word and
LACC-add, anchors, and the conversion of an accumulator into an output format. -/

namespace Sys2Proof.Machine

/-- A long accumulator (03 R100): the window integer, the anchor, whether it is empty (03 R111), and LFLAGS. -/
structure Acc where
  w : Int
  a : Int
  empty : Bool
  lf : Nat
  deriving DecidableEq, Repr

/-- The end of the window's range (03 R102). -/
def windowMax : Int := 2 ^ 191 - 1

/-- An accumulator that holds zero at an anchor. -/
def Acc.start (a : Int) : Acc := ⟨0, a, false, 0⟩

/-- A window sum: exact within the range, else the nearer end with ABOVE_WINDOW and NONREPRO (03 R102). -/
def satW (x : Int) (lf : Nat) : Int × Nat :=
  if windowMax < x then (windowMax, lf ||| Flag.lAbove ||| Flag.lNonrepro)
  else if x < -windowMax then (-windowMax, lf ||| Flag.lAbove ||| Flag.lNonrepro)
  else (x, lf)

/-- A magnitude `m * 2 ^ e` in units of `2 ^ (a - 190)`, truncated toward zero, and whether bits were discarded. -/
def toWindow (a : Int) (m : Nat) (e : Int) : Nat × Bool :=
  let u := a - 190
  if u ≤ e then (m * 2 ^ (e - u).toNat, false)
  else
    let s := (u - e).toNat
    (m / 2 ^ s, m % 2 ^ s != 0)

/-- A product entering the window (03 R101 to R103); the second result is the command's own flags. -/
def Acc.addTerm (c : Acc) (p : Val) : Acc × Nat :=
  match p with
  | .nan => ({ c with lf := c.lf ||| Flag.lNan }, Flag.invalid)
  | .inf n => ({ c with lf := c.lf ||| (if n then Flag.lNegInf else Flag.lPosInf) }, 0)
  | .fin neg m e =>
    if m = 0 then (c, 0)
    else
      let (q, lost) := toWindow c.a m e
      let lf := c.lf ||| Flag.on lost Flag.lBelow
      let big := decide (2 ^ 191 ≤ q)
      let (w, lf) := if big then satW (if neg then -(2 ^ 192 : Int) else 2 ^ 192) lf
        else satW (c.w + (if neg then -(q : Int) else q)) lf
      ({ c with w := w, lf := lf }, 0)

/-- All terms of a sum entering an accumulator in order. -/
def Acc.addTerms (c : Acc) (ps : List Val) : Acc × Nat :=
  ps.foldl (fun (c, fl) p => let (c, f) := c.addTerm p; (c, fl ||| f)) (c, 0)

/-- The 32 bytes of an accumulator (03 Table 3-5). -/
def Acc.toBytes (c : Acc) : List Byte :=
  leBytes 24 (ofInt 192 c.w) ++ leBytes 2 (if c.empty then 0 else ofInt 16 (c.a + 0x8000)) ++ leBytes 2 (c.lf % 128)
    ++ leBytes 4 0

/-- The accumulator that 32 bytes hold (03 Table 3-5, R111). -/
def Acc.ofBytes (bs : List Byte) : Acc :=
  let n := ofLE bs
  let enc := bits n 192 16
  ⟨sext 192 n, (enc : Int) - 0x8000, enc == 0, bits n 208 7⟩

/-- An accumulator's operand in LACC-add shifted to a larger anchor (03 R112 item 4): truncated toward zero, and
whether nonzero bits were discarded. -/
def Acc.shiftTo (c : Acc) (a : Int) : Int × Bool :=
  let d := (a - c.a).toNat
  if d = 0 then (c.w, false)
  else if 191 < d then (0, c.w != 0)
  else
    let q := c.w.natAbs / 2 ^ d
    (if c.w < 0 then -(q : Int) else q, c.w.natAbs % 2 ^ d != 0)

/-- LACC-add of a source into a destination (03 R112). -/
def laccAdd (d s : Acc) : Acc :=
  let lf := d.lf ||| s.lf
  if s.empty then { d with lf := lf }
  else if d.empty then { s with lf := lf }
  else if d.a = s.a then
    let (w, lf) := satW (d.w + s.w) lf
    ⟨w, d.a, false, lf⟩
  else
    let a := max d.a s.a
    let (x, l1) := d.shiftTo a
    let (y, l2) := s.shiftTo a
    let (w, lf) := satW (x + y) (lf ||| Flag.lAnchor ||| Flag.lNonrepro ||| Flag.on (l1 || l2) Flag.lBelow)
    ⟨w, a, false, lf⟩

/-- The value an accumulator converts from, and the flag of opposite infinities (03 R114). -/
def Acc.toVal (c : Acc) : Val × Nat :=
  let nan := bit c.lf 0
  let pos := bit c.lf 1
  let neg := bit c.lf 2
  if pos && neg then (.nan, Flag.invalid)
  else if nan then (.nan, 0)
  else if pos then (.inf false, 0)
  else if neg then (.inf true, 0)
  else if c.empty || c.w == 0 then (.zero, 0)
  else (.fin (decide (c.w < 0)) c.w.natAbs (c.a - 190), 0)

/-- An accumulator rounded once into a plain output format (03 R114), with the flags of R115. -/
def Acc.toFmt (r : Rounding) (fmt : Nat) (c : Acc) : Nat × Nat :=
  let (v, fl) := c.toVal
  let (b, g) := convertVal r fmt v
  (b, fl ||| g)

/-- The window flags of an accumulator at their places in 03 Table 3-6 (R115). -/
def Acc.flags (c : Acc) : Nat := Flag.ofLflags c.lf

/-- `ceil (log2 n)`, with 0 for `n ≤ 1` (03 R106). -/
def clog2 (n : Nat) : Nat := if n ≤ 1 then 0 else Nat.log2 (n - 1) + 1

/-- The largest exponent of a list of values (03 R106: RA, CB). -/
def maxExpo (vs : List Val) : Option Int :=
  (vs.filterMap Val.expo).foldl (fun o e => some (match o with | none => e | some x => max x e)) none

/-- The anchor from two maxima (03 R106); none where a row or column holds no nonzero value (A = 0). -/
def anchorOf (ra cb : Option Int) (kTotal : Nat) : Int :=
  match ra, cb with
  | some r, some c => r + c + 1 + clog2 kTotal
  | _, _ => 0

/-- The exchange word of a maximum (03 R107). -/
def xchgWord : Option Int → Nat
  | none => 0
  | some e => ofInt 32 (e + 0x8000)

/-- The anchor from two exchange words (03 R107). -/
def anchorOfWords (ra cb kTotal : Nat) : Int :=
  if ra = 0 || cb = 0 then 0 else (ra : Int) + cb - 0x10000 + 1 + clog2 kTotal

end Sys2Proof.Machine
end

