-- ==== Sys2Proof/Machine/Perform.lean ====
section
/-! DEFINITION. Remote operations at their homes (08 R278 to R289, R305, R309, R311): the status page, atomics, tokens,
inbound windows, held operations and responses, and the reads and writes of global addresses that the module's own
engines and commands make. -/

namespace Sys2Proof.Machine

/-! ## The status page (06 R200; 09 Table 9-5; 12 Table 12-4) -/

/-- A word of 8 bytes of the status page. -/
def State.statusWord (s : State) (off : Nat) : Nat :=
  let fs := fun f => s.fd f
  if off = 0x000 then s.fuse.serial
  else if off = 0x008 then
    b2n (s.fd Fld.ATY_FAB_STATUS_ADMIT == 2) * 2 ^ 31 + b2n (s.fd Fld.ATY_FAB_STATUS_ELECT == 3) * 2 ^ 30 +
      fs Fld.ATY_FAB_STATUS_ELIGIBLE * 2 ^ 29 + fs Fld.ATY_FAB_STATUS_ISOLATED * 2 ^ 28 +
      fs Fld.ATY_FAB_STATUS_NUMERICS_LEVEL * 2 ^ 20 + fs Fld.ATY_FAB_STATUS_PROTO_LEVEL * 2 ^ 12 + s.ownMod
  else if off = 0x010 then fs Fld.ATY_FAB_STATUS_FLOOR * 2 ^ 12 + fs Fld.ATY_FAB_STATUS_MASTER_MOD
  else if off = 0x018 then s.rd Reg.ATY_MASTER_SERIAL
  else if off = 0x020 then s.rd Reg.ATY_STEP
  else if off = 0x080 then
    s.pair.heartbeat * 2 ^ 32 + b2n s.pair.healthy * 2 ^ 31 + fs Fld.PAIR_STATUS_CONFIGURED * 2 ^ 30 +
      fs Fld.PAIR_STATUS_POS * 2 ^ 29 + s.pair.claimGen
  else if off = 0x088 then fs Fld.PAIR_CFG_PAIR_ID
  else if 0x100 ≤ off && off < 0x200 then
    let word := fun n =>
      let role := s.fd (Fld.PAIR_SVC_STATUS_ROLE n)
      role * 2 ^ 29 + (if 2 ≤ role && role ≤ 4 then s.rd (Reg.PAIR_SVC_CLAIM n) % 2 ^ 29 else 0)
    let n := (off - 0x100) / 4
    word n + word (n + 1) * 2 ^ 32
  else 0

/-- A load of the status page. -/
def State.statusLoad (s : State) (off n : Nat) : List Byte :=
  ((leBytes 8 (s.statusWord (off / 8 * 8))).drop (off % 8)).take n

/-! ## Atomics (08 Table 8-1, R280; 03 R112) -/

/-- The new bytes of an atomic's target. -/
def atomNew (op : Nat) (old data : List Byte) : List Byte :=
  let a := ofLE old
  let b := ofLE data
  let add32 := fun (x y : Nat) => match Val.add (readElem 1 x) (readElem 1 y) with | v => (convertVal .rne 1 v).1
  match opBase op with
  | 0x08 => leBytes 4 (a + b)
  | 0x09 => leBytes 8 (a + b)
  | 0x0A => leBytes 4 (add32 a b)
  | 0x0C => leBytes 4 (max a b)
  | 0x0D => leBytes 8 (max a b)
  | 0x0E => leBytes 4 (ofInt 32 (max (sext 32 a) (sext 32 b)))
  | 0x0F => leBytes 8 (ofInt 64 (max (sext 64 a) (sext 64 b)))
  | 0x10 => if a = ofLE (data.take 4) then data.drop 4 else old
  | 0x11 => if a = ofLE (data.take 8) then data.drop 8 else old
  | _ => (laccAdd (Acc.ofBytes old) (Acc.ofBytes data)).toBytes

namespace State

/-! ## Homes -/

/-- Whether a home is present and clocked (08 R309, 00 R5). -/
def homeOn (s : State) (key : Nat) : Bool :=
  match spaceOf key with
  | 0 => s.stackOn (offOf key / 2 ^ 36)
  | 1 => s.tileOn (offOf key / 2 ^ 23)
  | 2 => s.sliceOn (offOf key / 2 ^ 24)
  | 6 => s.splintOn
  | _ => true

/-- The token of an operation delivered (08 Table 8-2). -/
def deliver (s : State) (q : Req) : State :=
  if !q.tokEn then s
  else match spaceOf q.addr with
    | 1 => s.syncAdd (offOf q.addr / 2 ^ 23) q.tokCtr q.tokInc
    | 3 => if s.tileOn q.tokTile then s.syncAdd q.tokTile q.tokCtr q.tokInc else s.gatedAccess q.addr
    | 6 => s.splSyncAdd q.tokCtr q.tokInc
    | _ => s

/-- The event counters of a tile site for an incoming operation (04 Table 4-17). -/
def tileCount (s : State) (q : Req) : State :=
  if spaceOf q.addr = 1 then
    let t := offOf q.addr / 2 ^ 23
    if q.op = opLoad then s.tileEvent t 35 1
    else if isAtomic q.op then s.tileEvent t 33 1
    else s.tileEvent t 32 (b2n (q.size != 0))
  else s

/-- A load, store or atomic performed on HBM, a tile store or a slice (08 R287 to R289, 06 R225, R226). -/
def memPerform (s : State) (q : Req) (seen : Seen) : State × Nat × List Byte :=
  let k := memKey q.addr
  let r := s.readerOf q
  let s := (s.memCount (some (Origin.req q)) k (reqWidth q) (q.op != opStore) (q.op != opLoad)).tileCount q
  if q.op = opLoad then
    match s.homeRead r k q.size seen with
    | (s, some bs) => (s, Sts.ok, bs)
    | (s, none) => (s, Sts.eccHalt, [])
  else if q.op = opStore then
    match s.homeStore r k q.data seen with
    | (s, true) => (s.deliver q, Sts.ok, [])
    | (s, false) => (s, Sts.eccHalt, [])
  else
    let n := atomWidth q.op
    match s.homeRead r k n seen with
    | (s, none) => (s, Sts.eccHalt, [])
    | (s, some old) =>
      let valid := spaceOf k == 1 && (protUnits k n).any (fun u => s.ecc.valid.contains u)
      let s := if valid then s.tileEvent (offOf k / 2 ^ 23) 38 1 else s
      ((s.homeWrite k (atomNew q.op old q.data)).deliver q, Sts.ok, if isReturning q.op then old else [])

/-- A request stored to a gather endpoint (07 Table 7-3). -/
def gatherOf (u : Nat) (bs : List Byte) (via : Option Via) : Gather :=
  let n := ofLE bs
  ⟨u, bits n 0 16, bits n 16 16, bits n 32 32, bits n 64 16, bits n 80 16, bits n 96 32, bits n 128 64, bits n 192 64,
    bit n 271, bits n 256 5, bits n 272 16, via⟩

/-- The requests queued at a Creel unit. -/
def gatherDepth (s : State) (u : Nat) : Nat := (s.crl.queue.filter (fun g => g.unit == u)).length

/-- A gather request at its endpoint (07 R255): queued and answered, or waiting while the queue holds 64. -/
def gatherArrive (s : State) (q : Req) : State × Option (Nat × List Byte) :=
  let u := q.addr % 8
  if !s.tenantOpen then (s, some (Sts.accessFault, []))
  else if s.gatherDepth u < 64 && !(s.crl.vc0.any (fun w => w.addr % 8 == u)) then
    ({ s with crl := { s.crl with queue := s.crl.queue ++ [gatherOf u q.data none] } }, some (Sts.ok, []))
  else ({ s with crl := { s.crl with vc0 := s.crl.vc0 ++ [q] } }, none)

/-- The checks of a home (08 R309, R281, R279; 06 R197 to R204): the status with which it refuses. -/
def homeCheck (s : State) (q : Req) : Option Nat :=
  let k := memKey q.addr
  if malformed q then some Sts.badParam
  else if !alignOk q || !spaceTakes q then some Sts.accessFault
  else
    let ok := match spaceOf q.addr with
      | 3 => seqSpaceOk q.addr
      | 4 => q.srcMod == s.srcMod && s.hostAllowed (offOf q.addr) q.size
      | 5 => decide (offOf q.addr + q.size ≤ 4096)
      | 6 => offOf q.addr == 0
      | _ => s.runAllowed q.srcUnit k (reqWidth q)
    if ok then none else some Sts.accessFault

/-- An operation performed at its home, no held or waiting one ahead of it: the status and returned bytes, or none while
it waits. -/
def homePerform (s : State) (q : Req) (seen : Seen) : State × Option (Nat × List Byte) :=
  match s.homeCheck q with
  | some st => (s, some (st, []))
  | none =>
    if !s.homeOn (memKey q.addr) then
      let z := if q.op = opLoad then q.size else if isReturning q.op then atomWidth q.op else 0
      (s.gatedAccess q.addr, some (Sts.ok, List.replicate z 0))
    else
      let host := offOf q.addr
      match spaceOf q.addr with
      | 3 =>
        if isEndpoint q.addr then
          if s.stackOn (q.addr % 8) then s.gatherArrive q else (s.gatedAccess q.addr, some (Sts.ok, []))
        else match s.crlArrive q seen with
          | (s, some (st, bs)) => (if st = Sts.ok then s.deliver q else s, some (st, bs))
          | r => r
      | 4 =>
        if q.op = opLoad then
          if seen = .ue then (s.logUe (s.readerOf q) (s.shownAddr q.addr) false, some (Sts.eccHalt, []))
          else match s.hostLoad host q.size with
          | (s, some bs) => (s, some (Sts.ok, bs))
          | (s, none) => (s, some (Sts.accessFault, []))
        else match s.hostStore host q.data with
          | some s => (s, some (Sts.ok, []))
          | none => (s, some (Sts.accessFault, []))
      | 5 => (s, some (Sts.ok, s.statusLoad host q.size))
      | 6 => (s.deliver q, some (Sts.ok, []))
      | _ => let (s, st, bs) := s.memPerform q seen; (s, some (st, bs))

/-! ## Ingress (08 R305, 17 R576) -/

/-- Whether a window grants an operation. -/
def winGrants (s : State) (q : Req) (w : Nat) : Bool :=
  let perm := s.fd (Fld.ATY_INWIN_CTRL_PERM w)
  let k := memKey q.addr
  let base := s.fd (Fld.ATY_INWIN_BASE_BASE w) * 2 ^ 16
  let n := reqWidth q
  bit perm 0 && decide (base ≤ k) && decide (k + n ≤ base + s.fd (Fld.ATY_INWIN_CTRL_SIZE_64K w) * 2 ^ 16) &&
    decide (s.fd (Fld.ATY_INWIN_CTRL_MOD_LO w) ≤ q.srcMod) && decide (q.srcMod ≤ s.fd (Fld.ATY_INWIN_CTRL_MOD_HI w)) &&
    (q.op != opLoad || bit perm 1) && (!(q.op == opStore && q.size != 0) || bit perm 2) &&
    (!isAtomic q.op || bit perm 3) && (!q.tokEn || bit perm 4)

/-- Whether an operation from another module passes the ingress. -/
def ingressOk (s : State) (q : Req) : Bool :=
  (spaceOf q.addr == 5 && q.op == opLoad) || (List.range 16).any (s.winGrants q)

/-- A refusal at the ingress counted. -/
def ingressRefuse (s : State) (q : Req) : State :=
  ((s.bump Reg.ATY_IN_REFUSED_CNT 1).wr Reg.ATY_IN_REFUSED_ADDR q.addr).wr Reg.ATY_IN_REFUSED_SRC
    (q.op * 2 ^ 19 + q.srcUnit * 2 ^ 12 + q.srcMod)

/-- Whether a core or system reset is in force: before CAP_VALID (17 R576). -/
def inReset (s : State) : Bool := decide (s.stage < 3)

/-- Whether an operation is held for a page under retirement or a moving tile (06 R222, 08 R311). -/
def heldAtHome (s : State) (q : Req) : Bool :=
  let k := memKey q.addr
  match spaceOf k with
  | 0 => s.ecc.retiring.any (fun r => r.page == k / 65536 * 65536)
  | 1 => s.ras.moves.any (fun m => m.tile == offOf k / 2 ^ 23 && m.copying)
  | _ => false

/-- The counter group of an operation's home (20 Table 20-1): none for a tile store and the status page. -/
def reqGroup (s : State) (addr : Nat) : Option Nat :=
  match spaceOf addr with
  | 0 => some (12 + offOf addr / 2 ^ 36)
  | 2 => some (offOf addr / 2 ^ 24)
  | 3 => some (12 + if isEndpoint addr then addr % 8 else s.crlHome (crlSeqOf addr) (crlPageOf addr))
  | 4 => some 42
  | 6 => some 43
  | _ => none

/-- A request received at its home, counted with its payload. -/
def countReq (s : State) (q : Req) : State :=
  match s.reqGroup q.addr with
  | some g => (s.pmuEvent g 0x001 1 (some (Origin.req q))).pmuEvent g 0x002 (ceilDiv q.data.length 64) (some (Origin.req q))
  | none => s

/-- A response of a home counted. -/
def countResp (s : State) (q : Req) (st : Nat) : State :=
  match s.reqGroup q.addr with
  | some g => (s.pmuEvent g 0x003 1 (some (Origin.req q))).pmuEvent g 0x004 (b2n (st != 0)) (some (Origin.req q))
  | none => s

/-- A refusal sent before a home is reached. -/
def refuse (s : State) (q : Req) (st : Nat) : State := s.launchResp (Resp.make q st [])

/-- A response sent by a home. -/
def respond (s : State) (q : Req) (st : Nat) (bs : List Byte) : State := (s.countResp q st).launchResp (Resp.make q st bs)

/-- A request that has passed the ingress, at its home. -/
def serveHome (s : State) (q : Req) (seen : Seen) : State :=
  if s.heldAtHome q then { s with ecc := { s.ecc with heldOps := s.ecc.heldOps ++ [(q, seen)] } }
  else match (s.countReq q).homePerform q seen with
    | (s, some (st, bs)) => s.respond q st bs
    | (s, none) => s

/-- A request arriving at this module: its own, one from outside that the ingress passes or refuses, or one for another module on
its way. Before MOD_NUM is set the ingress serves status-page loads, whatever their module field, and nothing else (09 R337). -/
def performReq (s : State) (q : Req) (seen : Seen) : State :=
  if q.srcMod == s.srcMod then (if s.isOwn (modOf q.addr) then s.serveHome q seen else s)
  else if s.ownMod = 0xFFF then
    if spaceOf q.addr == 5 && q.op == opLoad then s.serveHome q seen else (s.ingressRefuse q).refuse q Sts.accessFault
  else if !s.isOwn (modOf q.addr) then
    if s.routed (modOf q.addr) then s.route (reqMsg q) else s.refuse q Sts.accessFault
  else if s.inReset && spaceOf q.addr != 5 then s.refuse q Sts.accessFault
  else if s.ingressOk q then s.serveHome q seen
  else (s.ingressRefuse q).refuse q Sts.accessFault

/-! ## Reads and writes that the module's own units make (08 R303, R304) -/

/-- Stands for management core 0 where it acts on an address that a command's parameters name: such an address may not
lie in the reserve (06 R204). It leaves the module as that core's identifier. -/
def mccUnit : Nat := 0x7F

/-- A request sent to another module. -/
def sendFar (s : State) (q : Req) : State :=
  s.launch (if q.srcUnit = mccUnit then
    { q with hdr := BitVec.ofNat 128 (setBits q.hdr.toNat 45 7 0x2F) } else q)

/-- An operation of an own unit performed at its home on this module, a sequence region's translation made in the same
step. -/
def homeNow (s : State) (q : Req) (seen : Seen) : State × Option (Nat × List Byte) :=
  if spaceOf q.addr == 3 && !isEndpoint q.addr && (s.homeCheck q).isNone then
    let n := crlSeqOf q.addr
    let u := s.crlHome n (crlPageOf q.addr)
    match s.crlValid q with
    | none => (s.wr (Reg.CRL_FAULT_ADDR u) (ownAddr q.addr), some (Sts.accessFault, []))
    | some g =>
      if !s.stackOk u then (s, some (Sts.eccHalt, []))
      else match (s.tlbTouch u n (crlPageOf q.addr) (some (Origin.req q))).crlDo g u q seen with
        | (s, none) => (s.crlWait q seen, none)
        | (s, some (st, bs)) => (if st = Sts.ok then s.deliver q else s, some (st, bs))
  else s.homePerform q seen

/-- A request of an own unit carried out: at once where its home is here, else sent to its module. A refusal or an
error is the status and the address. -/
def ownOp (s : State) (q : Req) (seen : Seen) : State × Option (Nat × Nat) :=
  match s.issueCheck q with
  | some st => (s, some (st, s.shownAddr q.addr))
  | none =>
    if s.isOwn (modOf q.addr) then
      match (s.countReq q).homeNow q seen with
      | (s, some (st, _)) => (s.countResp q st, if st = Sts.ok then none else some (st, s.shownAddr q.addr))
      | (s, none) => (s, none)
    else (s.sendFar q, none)

/-- Requests carried out in order; the first that fails ends them. -/
def ownOps (s : State) : List Req → State × Option (Nat × Nat)
  | [] => (s, none)
  | q :: l =>
    match s.ownOp q .clean with
    | (s, some e) => (s, some e)
    | (s, none) => s.ownOps l

/-- The stores of a run of bytes at a global address. -/
def putReqs (s : State) (unit addr : Nat) (bs : List Byte) : List Req :=
  (cutAt addr bs).map (fun (a, b) => Req.make a s.srcMod unit b.length opStore none b)
where
  /-- Bytes cut at 64-byte lines of the address. -/
  cutAt (addr : Nat) (bs : List Byte) : List (Nat × List Byte) :=
    let first := min bs.length (64 - addr % 64)
    let rest := bs.drop first
    (if first = 0 then [] else [(addr, bs.take first)]) ++
      (List.range (ceilDiv rest.length 64)).map (fun i => (addr + first + 64 * i, (rest.drop (64 * i)).take 64))

/-- The loads of a run of bytes at a global address: address and length of each. -/
def lineRuns (addr n : Nat) : List (Nat × Nat) :=
  let first := min n (64 - addr % 64)
  (if first = 0 then [] else [(addr, first)]) ++
    (List.range (ceilDiv (n - first) 64)).map (fun i => (addr + first + 64 * i, min 64 (n - first - 64 * i)))

/-- Bytes written at a global address. -/
def putGlobal (s : State) (unit addr : Nat) (bs : List Byte) : State × Option (Nat × Nat) :=
  s.ownOps (s.putReqs unit addr bs)

/-- The checks of a whole run before any of it is touched (08 R304): the status and address that refuse it. -/
def runCheck (s : State) (unit addr n op : Nat) : Option (Nat × Nat) :=
  let reqs := (lineRuns addr n).map (fun (a, z) =>
    Req.make a s.srcMod unit z op none (if op = opLoad then [] else List.replicate z 0))
  s.issueRegion reqs

/-- The loads of a run, one after the other: here at their homes, of another module as the environment answers in
`far`. `ue` names a line that reads uncorrectable. -/
def getRuns (s : State) (unit : Nat) (far : List Host.Cell) (ue : Option Nat) :
    List (Nat × Nat) → State × Except (Nat × Nat) (List Byte)
  | [] => (s, .ok [])
  | (a, z) :: l =>
    let q := Req.make a s.srcMod unit z opLoad none []
    let one : State × Except (Nat × Nat) (List Byte) :=
      match s.issueCheck q with
      | some st => (s, .error (st, s.shownAddr a))
      | none =>
        if s.isOwn (modOf a) then
          match (s.countReq q).homeNow q (if ue = some (a / 64 * 64) then .ue else .clean) with
          | (s, some (st, bs)) => (s.countResp q st, if st = Sts.ok then .ok bs else .error (st, s.shownAddr a))
          | (s, none) => (s, .ok (List.replicate z 0))
        else (s.sendFar q, .ok ((List.range z).map (fun i => Cells.get 0 (a + i) far)))
    match one with
    | (s, .error e) => (s, .error e)
    | (s, .ok bs) =>
      match s.getRuns unit far ue l with
      | (s, .error e) => (s, .error e)
      | (s, .ok cs) => (s, .ok (bs ++ cs))

/-- Bytes read at a global address. -/
def getGlobal (s : State) (unit addr n : Nat) (far : List Host.Cell) (ue : Option Nat) :
    State × Except (Nat × Nat) (List Byte) :=
  s.getRuns unit far ue (lineRuns addr n)

/-- The answer of a command whose memory access fails. -/
def accessAns (e : Nat × Nat) : Ans := ⟨e.1, 0, 0, e.2, false⟩

end State
end Sys2Proof.Machine
end

