-- ==== Sys2Proof/Machine/Plant.lean ====
section
/-! DEFINITION. The plant port (11 R408, R415 to R421): Rim frames, the transmit guard, ingress policing, MACsec and gate
control lists. -/

namespace Sys2Proof.Machine

/-! ## Frames -/

/-- A number as bytes, most significant first (IEEE 802.3 fields). -/
def beBytes (n v : Nat) : List Byte := (leBytes n v).reverse

/-- The fields of a Rim frame header (11 Table 11-4) beside its constants. -/
structure RimHead where
  kind : Nat
  stream : Nat
  flags : Nat
  claim : Nat
  seq : Nat
  time : Nat
  ref : Nat
  fmt : Nat
  deriving DecidableEq, Repr

/-- Header and data, CHK over header bytes 0 to 35 and the data (11 R408). -/
def rimPayload (h : RimHead) (data : List Byte) : List Byte :=
  let head := leBytes 1 (0x10 + h.kind % 16) ++ leBytes 1 h.stream ++ leBytes 2 h.flags ++ leBytes 4 h.claim ++
    leBytes 8 h.seq ++ leBytes 8 h.time ++ leBytes 8 h.ref ++ leBytes 2 data.length ++ leBytes 1 h.fmt ++ leBytes 1 0
  head ++ leBytes 4 (crc32c (head ++ data)) ++ data

/-- A whole frame from the destination address: addresses, C-tag, EtherType, payload. -/
def tagged (da sa vlan ethertype : Nat) (payload : List Byte) : List Byte :=
  leBytes 6 da ++ leBytes 6 sa ++ beBytes 2 0x8100 ++ beBytes 2 vlan ++ beBytes 2 ethertype ++ payload

/-- A Rim header read back; none where it is too short. -/
def RimHead.ofBytes (bs : List Byte) : Option (RimHead × Nat × Bool × List Byte) :=
  if bs.length < 40 then none
  else
    let f := fun o n => ofLE ((bs.drop o).take n)
    let len := f 32 2
    let data := (bs.drop 40).take len
    let good := f 36 4 == crc32c (bs.take 36 ++ data) && decide (40 + len ≤ bs.length)
    some (⟨f 0 1 % 16, f 1 1, f 2 2, f 4 4, f 8 8, f 16 8, f 24 8, f 34 1⟩, f 0 1 / 16, good, data)

/-- Destination address, VID (0 where untagged), EtherType and payload of a frame. -/
def frameParts (bs : List Byte) : Nat × Nat × Nat × List Byte :=
  let da := ofLE (bs.take 6)
  let ty := ofBE ((bs.drop 12).take 2)
  if ty = 0x8100 then (da, ofBE ((bs.drop 14).take 2) % 4096, ofBE ((bs.drop 16).take 2), bs.drop 18)
  else (da, 0, ty, bs.drop 14)

/-- The bytes of a Rim frame on the wire from the destination address to the FCS. -/
def rimWire (dataLen : Nat) : Nat := 62 + dataLen

namespace State

/-! ## Ports -/

/-- A plant port: 0 A, 1 B. -/
def pltPort (s : State) (p : Nat) : PltPort := if p = 0 then s.plt.1 else s.plt.2

/-- A plant port replaced. -/
def setPlt (s : State) (p : Nat) (x : PltPort) : State := { s with plt := if p = 0 then (x, s.plt.2) else (s.plt.1, x) }

/-- The source address of a port: fused until PLT_PORTp_MAC is written. The register is held as its difference from the
fused value. -/
def pltMac (s : State) (p : Nat) : Nat := s.fd (Fld.PLT_PORT_MAC_MAC p) ^^^ (if p = 0 then s.fuse.mac0 else s.fuse.mac1)

/-- Whether a port can transmit: not listen-only, enabled, with link (11 R414, R416). -/
def pltUp (s : State) (p : Nat) : Bool :=
  !s.pins.listenOnly && s.fb (Fld.PLT_PORT_CTL_EN p) && bit (s.fd Fld.PLT_STATUS_LINK_UP) p

/-- The forms that the transmit guard passes (11 R417): C-tag, EtherType, KIND 1 to 3 and length. -/
def guardOk (s : State) (frame : List Byte) : Bool :=
  let (_, _, ty, pay) := frameParts frame
  ofBE ((frame.drop 12).take 2) == 0x8100 && ty == s.fd Fld.PLT_CFG_ETHERTYPE &&
    (match RimHead.ofBytes pay with
      | some (h, _, _, data) => decide (1 ≤ h.kind) && decide (h.kind ≤ 3) && pay.length == 40 + data.length
      | none => false)

/-- The security association that protects what a port sends (11 R421): the last one installed. -/
def txSa (s : State) (p : Nat) : Option MacSa := (s.pltPort p).sas.find? (fun a => a.sc == 0)

/-- A frame protected where a transmit SA is installed, its packet number used up. -/
def pltProtect (s : State) (p : Nat) (frame : List Byte) : State × List Byte :=
  match s.txSa p with
  | none => (s, frame)
  | some a =>
    let x := s.pltPort p
    (s.setPlt p { x with sas := x.sas.map (fun b => if b = a then { b with pn := b.pn + 1 } else b) },
      Config.macsecSeal a.key a.sci a.suite a.an a.ssci a.pn frame)

/-- A frame handed to a port: suppressed and counted where it cannot leave, discarded by the guard, or sent. -/
def pltSend (s : State) (p : Nat) (frame : List Byte) : State :=
  if !s.pltUp p then s.bump (Reg.PLT_PORT_TX_SUPPRESSED p) 1
  else if !s.guardOk frame then s.bump (Reg.PLT_PORT_TX_GUARD_DROP p) 1
  else
    let (s, bs) := s.pltProtect p frame
    (s.bumpWrap (Reg.PLT_PORT_TX_FRAMES p) 64 1).emit (.plant p bs)

/-- A Rim frame sent on every port of a mask. -/
def rimSend (s : State) (ports da vlan : Nat) (h : RimHead) (data : List Byte) : State :=
  (bitsOf ports 2).foldl (fun s p =>
    s.pltSend p (tagged da (s.pltMac p) vlan (s.fd Fld.PLT_CFG_ETHERTYPE) (rimPayload h data))) s

/-- Plant time (11 R422). -/
def plantTime (_s : State) (t offset : Nat) : Nat := (t + offset) % 2 ^ 64

/-! ## Gate control lists (11 R419), in tenths of a nanosecond -/

/-- Whether a traffic class is open over a whole run of `[a, b)` from a cycle's start, over three cycles. -/
def gateOpenRun (g : GateList) (tc a b : Nat) : Bool :=
  let thrice := g.entries ++ g.entries ++ g.entries
  (thrice.foldl (fun (acc : Nat × Bool) e =>
    let (t, ok) := acc
    let u := t + 10 * e.2
    (u, ok && (decide (u ≤ a) || decide (b ≤ t) || bit e.1 tc))) (0, true)).2

/-- Whether traffic class `tc` is open on a list from `a` to `b` (tenths of ns from TIME_NS 0). -/
def gateOpen (g : Option GateList) (tc a b : Nat) : Bool :=
  match g with
  | none => true
  | some g =>
    let c := 10 * g.cycle
    let o := (a + c - 10 * g.base % c) % c
    gateOpenRun g tc o (o + (b - a))

/-- Whether a release at `t` of a frame of `wire` bytes finds class 7 open: from 6.4 ns before until its end, t_RIM_JIT
of 25 ns allowed for. -/
def releaseOpen (g : Option GateList) (t wire : Nat) : Bool := gateOpen g 7 (10 * t - 64) (10 * t + 250 + 8 * wire)

/-! ## Ingress (11 R420, R421) -/

/-- A meter charged for a frame of `n` bytes; none where it holds too few tokens. -/
def meter (now : Nat) (f : PltFilter) (n : Nat) : PltFilter × Bool :=
  let cap := f.cbs * 8 * 10 ^ 6
  let have_ := min cap (f.tokens + f.cir * (now - f.time))
  let f := { f with tokens := have_, time := now }
  if n * 8 * 10 ^ 6 ≤ have_ then ({ f with tokens := have_ - n * 8 * 10 ^ 6 }, true) else (f, false)

/-- MACsec validation of a received frame (11 R421): the plain frame, or none where a receive channel is installed and does
not validate it. -/
def pltValidate (s : State) (p : Nat) (frame : List Byte) : State × Option (List Byte) :=
  let x := s.pltPort p
  match x.sas.filter (fun a => a.sc != 0) with
  | [] => (s, some frame)
  | l =>
    match l.findSome? (fun a => (Config.macsecOpen a.key a.sci a.suite a.an a.ssci frame).map (fun r => (a, r))) with
    | none => (s, none)
    | some (a, pn, plain) =>
      if pn < a.pn then (s, none)
      else (s.setPlt p { x with sas := x.sas.map (fun b => if b = a then { b with pn := pn + 1 } else b) }, some plain)

/-- A received frame policed: the plain frame that passes a filter and its meter, or none, counted as the rules say. The
length counts the FCS. -/
def pltPolice (s : State) (p : Nat) (frame : List Byte) : State × Option (List Byte) :=
  if !s.fb (Fld.PLT_PORT_CTL_EN p) || !bit (s.fd Fld.PLT_STATUS_LINK_UP) p then (s, none)
  else
    let s := s.bumpWrap (Reg.PLT_PORT_RX_FRAMES p) 64 1
    match s.pltValidate p frame with
    | (s, none) => (s.bump (Reg.PLT_PORT_DROP_FRAME p) 1, none)
    | (s, some plain) =>
      let (da, vid, _, _) := frameParts plain
      let x := s.pltPort p
      match x.filters.find? (fun e => e.2.en && e.2.da == da && e.2.vid == vid) with
      | none => (s.bump (Reg.PLT_PORT_DROP_FILTER p) 1, none)
      | some (i, f) =>
        let n := frame.length + 4
        if f.maxSdu < n then (s, none)
        else
          let (f, ok) := meter s.now f n
          let s := s.setPlt p { s.pltPort p with filters := Cells.insert i f (Cells.erase i x.filters) }
          if ok then (s, some plain) else (s.bump (Reg.PLT_PORT_DROP_METER p) 1, none)

/-- The fixed meter of 802.1AS frames: at most 1,000 in a second on a port (11 R420). -/
def asMeter (s : State) (p : Nat) : State × Bool :=
  let x := s.pltPort p
  let recent := x.asTimes.filter (fun t => decide (s.now < t + 10 ^ 9))
  if recent.length < 1000 then (s.setPlt p { x with asTimes := recent ++ [s.now] }, true)
  else ((s.setPlt p { x with asTimes := recent }).bump (Reg.PLT_PORT_DROP_METER p) 1, false)

end State
end Sys2Proof.Machine
end

