-- ==== Sys2Proof/Machine/PairOps.lean ====
section
/-! DEFINITION. Claims, comparison and switch-over of paired services (12 R433 to R460). -/

namespace Sys2Proof.Machine.State

/-! ## Claims (12 R437 to R439) -/

/-- The pair position: 0 A, 1 B. -/
def pairPos (s : State) : Nat := s.fd Fld.PAIR_STATUS_POS

/-- Own claim of a service. -/
def claim (s : State) (n : Nat) : Nat := s.rd (Reg.PAIR_SVC_CLAIM n)

/-- The highest partner claim learned. -/
def peerClaim (s : State) (n : Nat) : Nat := s.rd (Reg.PAIR_SVC_PEER_CLAIM n)

/-- CMP of a service: 0 COMPARED, 1 UNVERIFIED, 2 MISMATCH, 3 HOLD. -/
def svcCmp (s : State) (n : Nat) : Nat := s.fd (Fld.PAIR_SVC_STATUS_CMP n)

/-- A CLAIM message. -/
def claimSend (s : State) (n : Nat) (swap : Bool) (eff : Nat) : State :=
  s.pairSend 0x04 n (b2n swap + s.claim n * 2 ^ 16 + eff * 2 ^ 48)

/-- The output stage of a service enters HOLD with an alarm code (12 R438, R450). -/
def holdEnter (s : State) (n code rule : Nat) : State :=
  let s := s.fw (Fld.PAIR_SVC_STATUS_CMP n) 3
  (s.updSvc n (fun x => { x with alarms := x.alarms ++ [code], waiting := false })).troubleRule 7 rule 1 89 0

/-- A claim raised above every EPOCH seen, and sent (12 R437); where the numbers are used up the service enters HOLD and the
answer is false (R438). -/
def raiseClaim (s : State) (n : Nat) (swap : Bool) (eff : Nat) : State × Bool :=
  let epoch := max (s.claim n / 2) (s.peerClaim n / 2) + 1
  if 0x7FFFFFFF < epoch then (s.holdEnter n 4 438, false)
  else
    let s := s.wr (Reg.PAIR_SVC_CLAIM n) (epoch * 2 + s.pairPos)
    let s := { s with pair := { s.pair with claimGen := (s.pair.claimGen + 1) % 2 ^ 16 } }
    (s.claimSend n swap eff, true)

/-! ## Comparison states (12 R447) -/

/-- Whether a service is compared: link up, levels equal, one module ACTIVE, the other STANDBY or RESYNC. -/
def pairOk (s : State) (n : Nat) : Bool :=
  let r := s.svcRole n
  let q := (s.svc n).peerRole
  !s.fb Fld.PAIR_STATUS_PAIR_LINK_DOWN && s.fb Fld.PAIR_STATUS_LINK_UP && !s.fb Fld.PAIR_STATUS_LEVEL_DIFF &&
    ((r == 3 && (q == 1 || q == 2)) || ((r == 1 || r == 2) && q == 3))

/-- CMP after a change of link, levels or roles. HOLD latches; MISMATCH stays while the pair is compared. -/
def cmpUpdate (s : State) (n : Nat) : State :=
  let c := s.svcCmp n
  if c = 3 then s
  else if !s.pairOk n then (s.fw (Fld.PAIR_SVC_STATUS_CMP n) 1).updSvc n (fun x => { x with waiting := false })
  else if c = 1 then s.fw (Fld.PAIR_SVC_STATUS_CMP n) 0
  else s

/-- CMP of every service. -/
def cmpAll (s : State) : State := s.svcsOn.foldl cmpUpdate s

/-- A role taken, and CMP after it. -/
def roleTo (s : State) (n role : Nat) : State := (s.setRole n role).cmpUpdate n

/-- The partner's role as learned. -/
def peerRoleTo (s : State) (n role : Nat) : State := (s.updSvc n (fun x => { x with peerRole := role })).cmpUpdate n

/-- PAIR_STATUS.PARTNER with its record (12 R457): 0 unknown, 1 healthy, 2 failed, 3 silent. -/
def setPartner (s : State) (v : Nat) : State :=
  if s.fd Fld.PAIR_STATUS_PARTNER = v then s else (s.fw Fld.PAIR_STATUS_PARTNER v).troubleRule 7 457 1 89 v

/-! ## Taking and giving up the ACTIVE role (12 R443, R454, R456, R458, R460) -/

/-- SWITCH counts. -/
def countSwitch (s : State) (n : Nat) : State := s.bump (Reg.PAIR_SVC_SWITCH n) 1

/-- Whether a module may take a service over: STANDBY or RESYNC and not itself failed, positions distinct (12 R433, R454). -/
def mayTake (s : State) (n : Nat) : Bool :=
  (s.svcRole n == 1 || s.svcRole n == 2) && (s.failCause n).isNone && !s.fb Fld.PAIR_STATUS_POS_CONFLICT

/-- The claim raised and the role ACTIVE, releasing nothing before a time, with ALARM CODE 3 where the partner is lost. -/
def becomeActive (s : State) (n time : Nat) (lost : Bool) : State :=
  match s.raiseClaim n false 0 with
  | (s, false) => s
  | (s, true) =>
    let s := s.updSvc n (fun x => { x with notBefore := time, swap := none, give := none, stop := none
                                           alarms := if lost then x.alarms ++ [3] else x.alarms })
    let s := if lost then s.countSwitch n else s
    s.roleTo n 3

/-- A takeover after a failure of the partner (12 R454). -/
def takeover (s : State) (n : Nat) : State :=
  let s := s.peerRoleTo n 4
  if s.mayTake n then s.becomeActive n (s.now + 200) true else s

/-- A claim of the partner learned (12 R439, R443): `eff` is the EFFECTIVE index of a swap, 0 otherwise. A STEP service, which
releases nothing, gives up its role at once. -/
def learn (s : State) (n c eff : Nat) : State :=
  if c ≤ s.peerClaim n || s.svcRole n = 0 then s
  else
    let s := s.wr (Reg.PAIR_SVC_PEER_CLAIM n) c
    if c ≤ s.claim n then s
    else
      let was := s.svcRole n
      let s := s.updSvc n (fun x => { x with peerRole := 3 })
      if was != 3 then s.cmpUpdate n
      else if s.svcStep n then (s.countSwitch n).roleTo n 2
      else s.updSvc n (fun x => { x with stop := some (s.now + 200, eff) })

/-- Whether a swap may begin (12 R460): link up, COMPARED, the other module STANDBY or ACTIVE as `peer` says. -/
def swapOk (s : State) (n peer : Nat) : Bool :=
  s.fb Fld.PAIR_STATUS_LINK_UP && s.svcCmp n == 0 && (s.svc n).peerRole == peer

/-- The new active begins a swap at an index (12 R460). -/
def swapTake (s : State) (n eff : Nat) (handed : Option Nat) : State :=
  match s.raiseClaim n true eff with
  | (s, false) => s
  | (s, true) => (s.updSvc n (fun x => { x with swap := some (eff, handed), stop := none })).setRole n 3

/-- The old active hands over at an index: HANDOVER is sent, and it releases through the index before. -/
def swapGive (s : State) (n eff : Nat) (waits : Bool) : State :=
  let s := s.updSvc n (fun x => { x with give := some (eff, waits) })
  s.pairSend 0x05 n (eff * 2 ^ 48)

/-- The end of the old active's part of a swap: STANDBY, and PAIR_SWAP answered. -/
def swapGiven (s : State) (n : Nat) : State :=
  match (s.svc n).give with
  | none => s
  | some (eff, waits) =>
    let s := s.updSvc n (fun x => { x with give := none, stop := none, peerRole := 3 })
    let s := (s.countSwitch n).roleTo n 2
    match waits, s.mcc.cur with
    | true, some j => if j.begun && j.pkt.base == 0x0703 then s.mccReply (.ok 0 eff) else s
    | _, _ => s

/-- Whether the new active of a swap may release at `t` with index `k`. -/
def swapReady (s : State) (n t k : Nat) : Bool :=
  match (s.svc n).swap with
  | none => true
  | some (eff, h) =>
    (decide (eff ≤ k) && (match h with | some a => decide (a + 200 ≤ t) | none => false)) || (s.svc n).peerRole != 3

/-- Roles brought up to a release instant at `t` of index `k`: a demotion or a swap takes effect. -/
def releaseRoles (s : State) (n t k : Nat) : State :=
  let x := s.svc n
  let s := match x.give with
    | some (eff, _) => if eff ≤ k then s.swapGiven n else s
    | none => s
  let s := match (s.svc n).stop with
    | some (a, eff) =>
      if a ≤ t && eff ≤ k then
        let s := s.updSvc n (fun x => { x with stop := none })
        if s.svcRole n = 3 then s.roleTo n 2 else s
      else s
    | none => s
  if s.svcRole n = 3 && (s.svc n).swap.isSome && s.swapReady n t k then
    ((s.countSwitch n).updSvc n (fun x => { x with swap := none, peerRole := 2 })).cmpUpdate n
  else s

/-- The output-stage rule at a release instant (12 R443, R454, R456, R460), roles brought up to it. A demotion that has been
learned but does not yet take effect lets the claim stand. -/
def outputRule (s : State) (n t k : Nat) : Bool :=
  s.svcRole n == 3 && (decide (s.peerClaim n < s.claim n) || (s.svc n).stop.isSome) && (s.failCause n).isNone &&
    decide ((s.svc n).notBefore ≤ t) && s.swapReady n t k

/-- A RESYNC module in the PREF position that has passed its test takes the ACTIVE role where the partner does not hold it
(12 R458). -/
def prefRaise (s : State) (n : Nat) : State :=
  let x := s.svc n
  if s.svcRole n = 1 && (x.passed || s.svcStep n) && x.peerRole != 3 && s.mayTake n &&
      s.fd (Fld.PAIR_SVC_STATUS_PREF n) = s.pairPos then s.becomeActive n (s.now + 200) false
  else s

/-- A STANDBY module in the PREF position of a RETURN_AUTO service starts a swap by itself (12 R459). -/
def autoSwap (s : State) (n eff : Nat) : State :=
  if s.svcRole n = 2 && !s.fb (Fld.PAIR_SVC_STATUS_PINNED n) && s.fd (Fld.PAIR_SVC_STATUS_PREF n) = s.pairPos &&
      (s.failCause n).isNone && s.swapOk n 3 then s.swapTake n eff none
  else s

/-! ## Digests (12 R445 to R452) -/

/-- The digest of a RIM result. -/
def rimDigest (out k : Nat) (data : List Byte) : Nat := crc64 (leBytes 1 out ++ leBytes 8 k ++ data)

/-- A match of index `k`. -/
def digestMatch (s : State) (n k : Nat) : State :=
  let s := s.fw (Fld.PAIR_SVC_STATUS_MATCH_RUN n) (min 16 (s.fd (Fld.PAIR_SVC_STATUS_MATCH_RUN n) + 1))
  let s := s.fw (Fld.PAIR_SVC_STATUS_MISMATCH_RUN n) 0
  let s := if s.svcCmp n = 2 then s.fw (Fld.PAIR_SVC_STATUS_CMP n) 0 else s
  let s := s.updSvc n (fun x => { x with
    compared := x.compared ++ [k], good := (Cells.find k x.data).or x.good, data := x.data.filter (fun e => e.1 != k) })
  if s.svcRole n = 1 && ((s.svc n).passed || s.svcStep n) && s.fd (Fld.PAIR_SVC_STATUS_MATCH_RUN n) = 16 then s.roleTo n 2
  else s

/-- A mismatch while COMPARED: MISMATCH, and a test of a capture late enough after the result's staging (12 R448). -/
def mismatchEnter (s : State) (n k : Nat) : State :=
  let s := s.fw (Fld.PAIR_SVC_STATUS_CMP n) 2
  let s := s.updSvc n (fun x => { x with waiting := true, since := s.now, test := none, verdict := none, peerVerdict := none })
  match s.svcSlot n with
  | none => s
  | some slot =>
    let tr := match s.rim.runs.find? (fun r => r.slot == slot && r.k == k) with
      | some r => r.tr
      | none => s.now + 300
    s.askKat slot (tr + 700)

/-- A mismatch of index `k`. -/
def digestDiffer (s : State) (n k : Nat) : State :=
  let s := (s.bump (Reg.PAIR_SVC_MISMATCH n) 1).fw (Fld.PAIR_SVC_STATUS_MATCH_RUN n) 0
  if s.svcStep n then s.troubleRule 7 452 1 89 n
  else if s.svcCmp n = 1 then
    match (s.svc n).logged with
    | some t => if s.now < t + 10 ^ 9 then s else (s.updSvc n (fun x => { x with logged := some s.now })).troubleRule 7 451 0 89 n
    | none => (s.updSvc n (fun x => { x with logged := some s.now })).troubleRule 7 451 0 89 n
  else if s.svcCmp n = 2 then
    let run := s.fd (Fld.PAIR_SVC_STATUS_MISMATCH_RUN n) + 1
    let s := (s.fw (Fld.PAIR_SVC_STATUS_MISMATCH_RUN n) run).updSvc n (fun x => { x with compared := x.compared ++ [k] })
    if run = 3 then s.holdEnter n 1 450 else s
  else if s.svcRole n = 1 || (s.svc n).peerRole = 1 then
    s.updSvc n (fun x => { x with compared := x.compared ++ [k] })
  else (s.updSvc n (fun x => { x with compared := x.compared ++ [k] })).mismatchEnter n k

/-- Whether index `k` may be compared now (12 R446, R448, R449, R451, R452). -/
def mayCompare (s : State) (n k : Nat) : Bool :=
  s.svcStep n || match s.svcCmp n with
    | 0 => true
    | 1 => s.fb Fld.PAIR_STATUS_LEVEL_DIFF
    | 2 => !(s.svc n).waiting && decide ((s.svc n).resume ≤ k)
    | _ => false

/-- Indices whose two digests are present compared, and taken off both lists. -/
def compareAll (s : State) (n : Nat) : State :=
  let x := s.svc n
  let both := x.own.filterMap (fun a => (x.peer.find? (fun b => b.1 == a.1)).map (fun b => (a, b)))
  let gone := fun (e : Nat × Nat × Bool) => !both.any (fun b => b.1.1 == e.1)
  let s := s.updSvc n (fun x => { x with own := x.own.filter gone, peer := x.peer.filter gone })
  both.foldl (fun s (a, b) =>
    if a.2.2 || b.2.2 || !s.mayCompare n a.1 then s
    else if a.2.1 = b.2.1 then s.digestMatch n a.1 else s.digestDiffer n a.1) s

/-- An own digest: kept, sent and compared. -/
def ownDigest (s : State) (n k digest : Nat) (missed : Bool) (data : List Byte) : State :=
  let s := s.updSvc n (fun x => { x with
    own := x.own ++ [(k, digest, missed)]
    data := if missed || s.svcStep n then x.data else x.data ++ [(k, data)] })
  let s := s.pairSend 0x03 n (b2n missed + k * 2 ^ 48 + digest * 2 ^ 112)
  s.compareAll n

/-! ## Verdicts (12 R449) -/

/-- The verdict of a mismatch test, once both results are known. -/
def judge (s : State) (n : Nat) : State :=
  let x := s.svc n
  match x.waiting, x.verdict, x.peerVerdict with
  | true, some true, some true =>
    let s := s.updSvc n (fun x => { x with waiting := false, resume := (x.test.getD 0) + 1 })
    s.fw (Fld.PAIR_SVC_STATUS_MISMATCH_RUN n) 0
  | true, some true, some false =>
    let s := s.updSvc n (fun x => { x with waiting := false })
    s.takeover n
  | true, some false, some _ => s.updSvc n (fun x => { x with waiting := false })
  | _, _, _ => s

/-- An own test's result for a paired service (12 R448, R453, R458). -/
def ownVerdict (s : State) (n k : Nat) (pass : Bool) : State :=
  let w := (s.svc n).waiting
  let s := s.updSvc n (fun x => { x with
    passed := x.passed || pass, failed := w && !pass, test := if w then some k else x.test
    verdict := if w then some pass else x.verdict })
  let s := if w then s.pairSend 0x06 n (b2n pass + k * 2 ^ 48) else s
  (s.pairCheck.judge n).prefRaise n

end Sys2Proof.Machine.State
end

