-- ==== Sys2Proof/Machine/PowerOps.lean ====
section
/-! DEFINITION. Performance states, the floor state and wakes (16 R554 to R559, R562, R563), as every family uses them. -/

namespace Sys2Proof.Machine

/-- Whether an island is a tile site. -/
def isSite (i : Nat) : Bool := decide (i < 18) || (decide (37 ≤ i) && decide (i < 55))

/-- The site of a tile island. -/
def islandSite (i : Nat) : Nat := if i < 18 then i else i - 19

/-- Whether an island runs in the states of 16 Table 16-2: tile sites and the Splint engine. -/
def hasPstate (i : Nat) : Bool := isSite i || i == 81

/-- Whether an island is a core PLL (15 Table 15-2). -/
def corePll (i : Nat) : Bool :=
  hasPstate i || (decide (31 ≤ i) && decide (i < 37)) || (decide (68 ≤ i) && decide (i < 74)) ||
    (decide (82 ≤ i) && decide (i < 87)) || (decide (91 ≤ i) && decide (i < 95))

/-- Whether an island lies on the West die (01 Table 1-5); the engine's, video cores' and spines' islands included. -/
def onWest (i : Nat) : Bool := decide (i < 37) || i == 81 || i == 91 || i == 93

/-- The core voltage of a performance state in mV (16 Table 16-2). -/
def milliVolts : Nat → Nat
  | 0 => 920
  | 1 => 850
  | 2 => 810
  | 3 => 790
  | _ => 780

/-- FLOOR. -/
def pFloor : Nat := 4

namespace State

/-- Power control changed. -/
def updPwr (s : State) (f : Pwr → Pwr) : State := { s with pwr := f s.pwr }

/-- The state asked for of an island. -/
def pWant (s : State) (i : Nat) : Nat := Cells.get 1 i s.pwr.want

/-- The ceiling of an island. -/
def pCeil (s : State) (i : Nat) : Nat := Cells.get 1 i s.pwr.ceil

/-- The core voltage of an island. -/
def pVolt (s : State) (i : Nat) : Nat := Cells.get 850 i s.pwr.volt

/-- The state an island runs in. -/
def pState (s : State) (i : Nat) : Nat := s.fd (Fld.PWR_ISL_PSTATE i)

/-- Whether an island is FIXED. -/
def pFixed (s : State) (i : Nat) : Bool := s.fb (Fld.PWR_ISL_FIXED i)

/-- Whether something holds an island in the floor state. -/
def pFloored (s : State) (i : Nat) : Bool := s.pwr.floors.any (fun e => e.1 == i)

/-- The state an island is going to. -/
def pTarget (s : State) (i : Nat) : Nat := if s.pFloored i then pFloor else s.pWant i

/-- The islands that run in performance states and are clocked. -/
def pIslands (s : State) : List Nat := (List.range 100).filter (fun i => hasPstate i && s.islandOn i)

/-- Whether no wake may start (16 R563). -/
def wakeStopped (s : State) : Bool := s.fb Fld.PWR_STATUS_PFW || s.fb Fld.PWR_STATUS_REG_ALERT

/-- CAP_LIMITING and ADMIT_STOPPED and PWR_WAKE_Q brought up to date. -/
def pwrSettle (s : State) : State :=
  let s := s.fbw Fld.PWR_STATUS_CAP_LIMITING (s.pIslands.any (fun i => !s.pFixed i && decide (s.pCeil i < s.pWant i)))
  let s := s.fbw Fld.PWR_STATUS_ADMIT_STOPPED s.wakeStopped
  s.fw Fld.PWR_WAKE_Q_PENDING (min 63 s.pwr.wakes.length)

/-- A wake joins the queue, once. -/
def wakeQueue (s : State) (i : Nat) (ungate : Bool) : State :=
  if s.pwr.wakes.contains (i, ungate) then s
  else (s.updPwr (fun x => { x with wakes := x.wakes ++ [(i, ungate)] })).pwrSettle

/-- The islands of one event in the order of their wakes (16 R563): the Rim tiles, the other tiles by logical number, then
islands that are no tile's. -/
def wakeOrder (s : State) (l : List Nat) : List Nat :=
  let isl := fun t => siteIsland (s.siteOf t)
  let rim := ((List.range 32).filter s.rimOwns).map isl
  let tiles := ((List.range 32).map isl).filter (fun i => !rim.contains i)
  let order := rim ++ tiles
  order.filter l.contains ++ l.filter (fun i => !order.contains i)

/-- An island put into the floor state for a cause (16 R554): the frequency falls at once, the voltage by steps. -/
def floorIn (s : State) (cause i : Nat) : State :=
  let s := if s.pwr.floors.contains (i, cause) then s else s.updPwr (fun x => { x with floors := x.floors ++ [(i, cause)] })
  let s := s.fw (Fld.PWR_ISL_PSTATE i) pFloor
  if cause ≤ 3 then s.fbw (Fld.PWR_ISL_FORCED_FLOOR i) true else s

/-- A cause of the floor state ends for islands: those that nothing else holds there wait for their wakes. -/
def floorOut (s : State) (cause : Nat) (l : List Nat) : State :=
  let held := l.filter (fun i => s.pwr.floors.contains (i, cause))
  let s := s.updPwr (fun x => { x with floors := x.floors.filter (fun e => !(e.2 == cause && held.contains e.1)) })
  let freed := s.wakeOrder (held.filter (fun i => !s.pFloored i))
  freed.foldl (fun s i =>
    if s.pWant i = pFloor then s.fbw (Fld.PWR_ISL_FORCED_FLOOR i) false
    else (s.updPwr (fun x => { x with floors := x.floors ++ [(i, 5)] })).wakeQueue i false) s

/-- A state asked for: out of FLOOR only through a wake (16 R557). -/
def pAsk (s : State) (i st : Nat) : State :=
  let wake := s.pTarget i == pFloor && !s.pFloored i && decide (st < pFloor)
  let s := s.updPwr (fun x => { x with want := Cells.set 1 i st x.want })
  if wake then (s.updPwr (fun x => { x with floors := x.floors ++ [(i, 5)] })).wakeQueue i false else s

/-- An island lowered by one state. -/
def pLower (s : State) (i : Nat) : State := s.pAsk i (min pFloor (s.pWant i + 1))

/-- FIXED set or cleared (16 R556); a FIXED island runs in P1. -/
def pFix (s : State) (i : Nat) (b : Bool) : State :=
  let s := s.fbw (Fld.PWR_ISL_FIXED i) b
  if b then (s.updPwr (fun x => { x with ceil := Cells.set 1 i 1 x.ceil })).pAsk i 1 else s

/-- One step of an island's change of state (16 R555): up, the voltage by at most 10 mV and then the frequency; down, the
frequency first. -/
def pStep (s : State) (i : Nat) : State :=
  let t := s.pTarget i
  let c := s.pState i
  let v := s.pVolt i
  let goal := milliVolts t
  let setV := fun v => s.updPwr (fun x => { x with volt := Cells.set 850 i v x.volt })
  if t < c then (if hasPstate i && decide (v < goal) then setV (min goal (v + 10)) else s.fw (Fld.PWR_ISL_PSTATE i) t)
  else if c < t then s.fw (Fld.PWR_ISL_PSTATE i) t
  else if hasPstate i && decide (goal < v) then setV (max goal (v - 10)) else s

/-- Whether the next wake may start (16 R563). -/
def wakeMay (s : State) : Bool :=
  !s.wakeStopped && !s.pwr.started.any (fun t => decide (s.now < t + 2000)) &&
    decide ((s.pwr.started.filter (fun t => decide (s.now < t + 100000))).length < 8)

end State
end Sys2Proof.Machine
end

