-- ==== Sys2Proof/Machine/Kcg.lean ====
section
/-! DEFINITION. The keyed counter generator of 03 R98: AES-128 of a counter block, as FIPS 197 defines AES. Keys and
blocks are 128-bit numbers whose most significant byte is the first byte. The S-box is computed from its definition:
the inverse in GF(2^8), then the affine map. -/

namespace Sys2Proof.Machine.Kcg

/-- Multiplication by x in GF(2^8). -/
def xtime (a : Nat) : Nat := if a < 128 then 2 * a else (2 * a) ^^^ 0x11B

/-- Multiplication in GF(2^8). -/
def gmul (a b : Nat) : Nat :=
  ((List.range 8).foldl (fun (acc, x) i => (if bit b i then acc ^^^ x else acc, xtime x)) (0, a)).1

/-- The inverse in GF(2^8), as the 254th power; 0 for 0. -/
def ginv (a : Nat) : Nat :=
  let a2 := gmul a a
  let a4 := gmul a2 a2
  let a8 := gmul a4 a4
  let a16 := gmul a8 a8
  let a32 := gmul a16 a16
  let a64 := gmul a32 a32
  let a128 := gmul a64 a64
  gmul a128 (gmul a64 (gmul a32 (gmul a16 (gmul a8 (gmul a4 a2)))))

/-- A byte turned left. -/
def rotl8 (x k : Nat) : Nat := (x * 2 ^ k) % 256 + x / 2 ^ (8 - k)

/-- The S-box. -/
def sbox (a : Nat) : Nat :=
  let b := ginv a
  b ^^^ rotl8 b 1 ^^^ rotl8 b 2 ^^^ rotl8 b 3 ^^^ rotl8 b 4 ^^^ 0x63

/-- The sixteen bytes of a block, first byte first. -/
def toBytes (x : Nat) : List Nat := (List.range 16).map (fun i => bits x (8 * (15 - i)) 8)

/-- The block of sixteen bytes. -/
def ofBytes (bs : List Nat) : Nat := bs.foldl (fun a b => a * 256 + b) 0

/-- Bytewise exclusive or. -/
def xorB (a b : List Nat) : List Nat := List.zipWith (· ^^^ ·) a b

/-- The next round key. -/
def nextKey (k : List Nat) (rcon : Nat) : List Nat :=
  let w := fun i => (k.drop (4 * i)).take 4
  let t := (w 3).drop 1 ++ (w 3).take 1
  let t := t.map sbox
  let t := match t with | [] => [] | x :: xs => (x ^^^ rcon) :: xs
  let w0 := xorB (w 0) t
  let w1 := xorB (w 1) w0
  let w2 := xorB (w 2) w1
  w0 ++ w1 ++ w2 ++ xorB (w 3) w2

/-- ShiftRows: byte `r + 4 c` comes from column `c + r`. -/
def shiftRows (s : List Nat) : List Nat :=
  (List.range 16).map (fun i => s.getD ((i + 4 * (i % 4)) % 16) 0)

/-- MixColumns of one column. -/
def mixCol : List Nat → List Nat
  | [a, b, c, d] =>
    [gmul 2 a ^^^ gmul 3 b ^^^ c ^^^ d, a ^^^ gmul 2 b ^^^ gmul 3 c ^^^ d,
     a ^^^ b ^^^ gmul 2 c ^^^ gmul 3 d, gmul 3 a ^^^ b ^^^ c ^^^ gmul 2 d]
  | l => l

/-- MixColumns. -/
def mixColumns (s : List Nat) : List Nat :=
  (List.range 4).flatMap (fun c => mixCol ((s.drop (4 * c)).take 4))

/-- AES-128 of a block under a key. -/
def aes (key block : Nat) : Nat :=
  let k0 := toBytes key
  let s0 := xorB (toBytes block) k0
  let (s, k, rc) := (List.range 9).foldl (fun (s, k, rc) _ =>
      let k := nextKey k rc
      (xorB (mixColumns (shiftRows (s.map sbox))) k, k, xtime rc)) (s0, k0, 1)
  ofBytes (xorB (shiftRows (s.map sbox)) (nextKey k rc))

/-- Draw `d` of a key, domain and step (03 R98). -/
def draw (key domain step d : Nat) : Nat :=
  let r := aes key (domain % 2 ^ 32 * 2 ^ 96 + step % 2 ^ 32 * 2 ^ 64 + d / 8 % 2 ^ 64)
  bits r (112 - 16 * (d % 8)) 16

end Sys2Proof.Machine.Kcg
end

