-- ==== Sys2Proof/Machine/Tile.lean ====
section
/-! DEFINITION. A tile's sequencer and remote-operation engine (04): the script of a command, the store buffer, fences,
waits, exceptions and the reply, and the way a tile command row runs on a ring or from the MCC. What each command does
to its operands is in the files after this one. -/

namespace Sys2Proof.Machine.State

/-! ## The store buffer (04 R136 to R139) -/

/-- A tile's record changed. -/
def updTile (s : State) (t : Nat) (f : Tile → Tile) : State := s.setTile t (f (s.tile t))

/-- Whether a power-fail warning holds back the issue of operations (04 R139). -/
def pfw (s : State) : Bool := s.fb Fld.PWR_STATUS_PFW

/-- A tag for an operation: the lowest one that is neither outstanding nor owed a late response. -/
def freeTag (x : Tile) : Nat :=
  let used := (x.sb.filter (·.issued)).map (fun e => e.req.rtag)
  match (List.range 128).find? (fun i => !used.contains i && !x.stale.contains i) with
  | some i => i
  | none => ((List.range 128).find? (fun i => !used.contains i)).getD 0

/-- The index of the oldest entry that may issue: not issued, the first of its lane, its home short of no send token
(08 R290, R300, R301). -/
def nextIssue (s : State) (sb : List SbEntry) : Option Nat :=
  (List.range sb.length).find? (fun i =>
    match sb[i]? with
    | none => false
    | some e =>
      let home := s.homeOf e.req.addr
      !e.issued && !((sb.take i).any (fun f => !f.issued && s.homeOf f.req.addr == home)) &&
        decide ((sb.filter (fun f => f.issued && s.homeOf f.req.addr == home)).length < sendTokens home))

/-- The event counters of an issued operation (04 Table 4-17). -/
def countIssue (s : State) (t : Nat) (q : Req) : State :=
  let s := (s.tileEvent t 24 1).tileEvent t 25 (ceilDiv q.data.length 64)
  if q.op = opLoad then s.tileEvent t 28 1
  else if opBase q.op = opLaccAdd then s.tileEvent t 26 1
  else if isAtomic q.op then s.tileEvent t 27 1
  else s

/-- Every entry that may issue does so, oldest first: its request leaves with a tag. -/
def issueAux (t : Nat) : Nat → State → State
  | 0, s => s
  | k + 1, s =>
    let x := s.tile t
    match s.nextIssue x.sb with
    | none => s
    | some i =>
      match x.sb[i]? with
      | none => s
      | some e =>
        let q := e.req.withTag (freeTag x)
        let s := s.setTile t { x with sb := x.sb.set i { e with req := q, issued := true, issuedAt := s.now } }
        issueAux t k ((s.countIssue t q).launch q)

/-- The issue step, stopped by a power-fail warning. -/
def issueOps (s : State) (t : Nat) : State := if s.pfw then s else issueAux t (s.tile t).sb.length s

/-- An exception of the command in progress: the sequencer stops issuing and the drain starts. -/
def raiseExc (s : State) (t status detail r1 : Nat) : State :=
  let x := s.tile t
  (s.setTile t { x with exc := some ⟨status, detail, r1⟩, prog := { x.prog with script := [] }
                        wait := none, fencing := false, engine := 5 }).tileEvent t 48 1

/-- The script of the command in progress taken up: operations enter the store buffer while it has room, own counters
are incremented, fences and waits stop it. -/
def scriptAux (t : Nat) : Nat → State → State
  | 0, s => s
  | k + 1, s =>
    let x := s.tile t
    if x.fencing || x.wait.isSome || x.exc.isSome then s
    else match x.prog.script with
    | [] => s
    | .op q land :: l =>
      if x.sb.length < 64 then
        scriptAux t k (s.setTile t { x with sb := x.sb ++ [⟨q, land, false, 0⟩]
                                            prog := { x.prog with script := l }, engine := 4 })
      else s
    | .fence :: l => s.setTile t { x with fencing := true, prog := { x.prog with script := l } }
    | .wait c thr take :: l => s.setTile t { x with wait := some ⟨c, thr, take, 0⟩, prog := { x.prog with script := l } }
    | .incr c inc :: l => scriptAux t k ((s.setTile t { x with prog := { x.prog with script := l } }).syncAdd t c inc)
    | .block n :: l => scriptAux t k (s.setTile t { x with prog := { x.prog with script := l, blocks := n } })
    | .trap e :: _ => s.raiseExc t e.status e.detail e.result1
    | .compute :: _ => s

/-- Acceptance and issue carried on as far as they go: each round of issue follows what acceptance let in. -/
def pump (s : State) (t : Nat) : State := (scriptAux t ((s.tile t).prog.script.length + 1) s).issueOps t

/-! ## Exceptions (04 R156 to R158) -/

/-- A posted operation's fault (04 R157): the first is kept; one found during a drain, or after the first, is counted
in the trouble log (04 R158). -/
def postFault (s : State) (t status addr : Nat) : State :=
  let x := s.tile t
  let s := s.tileEvent t 49 1
  if x.exc.isSome || x.posted.isSome then s.troubleRule 2 158 0 (siteIsland (s.siteOf t)) addr
  else s.setTile t { x with posted := some (status, addr) }

/-- The posted fault taken by a command (04 R157). -/
def takePosted (s : State) (t : Nat) : State :=
  match (s.tile t).posted with
  | none => s
  | some (st, a) => (s.updTile t (fun x => { x with posted := none })).raiseExc t st 1 a

/-- The end of an exception's drain, but for what owners of the ring do (04 R158): the reply, TILE_EXC, the halt. -/
def endExc (s : State) (t : Nat) : State :=
  let x := s.tile t
  match x.exc, (s.engOf t).cur with
  | some e, some j =>
    let site := s.siteOf t
    let a : Ans := ⟨e.status, e.detail, x.prog.blocks * 65536, e.result1, false⟩
    let s := s.setTile t { x with exc := none, prog := .empty, engine := 0 }
    let s := (s.wr (Reg.TILE_EXC_STATUS site) (e.status * 65536 + j.pkt.opcode.toNat)).wr (Reg.TILE_EXC_ADDR site)
      e.result1
    let s := s.setEng t { s.engOf t with cur := none }
    let s := match j.via with
      | .mcc => s.mccReply a
      | .ring n => s.ringReply n (j.reply a s.now) j.pkt.irq
    if s.rimOwns t then s.laneFault e.result1
    else if s.ringState t == closed then s else s.ringHalt t e.status e.result1
  | _, _ => s

/-! ## Completion (04 R142) -/

/-- The event a completed command counts (04 Table 4-17). -/
def doneEvent (op : Nat) : Nat :=
  match clrBit op 7 with
  | 0x0200 => 15
  | 0x0201 => 16
  | 0x0202 => 17
  | 0x0230 | 0x0231 | 0x0232 => 18
  | 0x0204 => 19
  | 0x0205 => 20
  | 0x0206 => 21
  | 0x0207 => 22
  | _ => 23

/-- Whether the command in progress has done everything that completes it. -/
def tileDone (s : State) (t : Nat) : Bool :=
  let x := s.tile t
  match (s.engOf t).cur with
  | some j => j.begun && x.prog.script.isEmpty && x.prog.done && !x.fencing && x.wait.isNone && x.exc.isNone
  | none => false

/-- The reply of a completed command, and the start of the next. -/
def tileComplete (s : State) (t : Nat) : State :=
  if s.tileDone t then
    match (s.engOf t).cur with
    | none => s
    | some j =>
      let x := s.tile t
      let s := s.setTile t { x with prog := .empty, engine := 0 }
      let s := s.tileEvent t (doneEvent j.pkt.opcode.toNat) 1
      s.ringFinish t ⟨Sts.ok, 0, x.prog.flags % 65536 + x.prog.result0 * 65536, x.prog.result1,
        bit x.prog.flags 9⟩
  else s

/-! ## Running a tile command row -/

/-- A tile command row on the tile's ring. A posted fault meets the command at its start (04 R157). -/
def tileRun (s : State) (t : Nat) (p : Packet) (mine : Bool) (check : State → Option Ans) (act : State → State) : State :=
  if !mine || s.unitHeld t then s
  else
    match s.takeRow (.ring t) p with
    | (s, none) => s
    | (s, some j) =>
      if (s.tile t).posted.isSome then
        (s.setJob (.ring t) { j with begun := true }).takePosted t
      else
        s.runRow (.ring t) p true
          (fun s => if s.tileOn t then check s else some (.err Sts.unitAbsent))
          (fun s => (act s, none))

/-- The answer of a tile command from the MCC that names a Rim tile (11 R396), its parameters checked first. -/
def rimRefusal : Option Ans → Ans
  | some a => if a.status = Sts.badParam then a else .refuse 0x0604
  | none => .refuse 0x0604

/-- A tile command row on either path. From the MCC the packet names the tile in byte 62 and waits behind its ring
(04 R144); the MCC stays busy until the tile replies. -/
def tileRow (s : State) (via : Via) (p : Packet) (mine : Bool) (check : State → Nat → Option Ans)
    (act : State → Nat → State) : State :=
  match via with
  | .ring t => if t < 32 then s.tileRun t p mine (check · t) (act · t) else s
  | .mcc =>
    let t := p.u8 62
    if !mine then s
    else
      let cur := if t < 32 then (s.engOf t).cur else none
      if (match cur with | some j => decide (j.via = Via.mcc ∧ j.pkt = p ∧ j.begun = false) | none => false) then
        s.tileRun t p mine (check · t) (act · t)
      else match s.takeRow .mcc p with
      | (s, none) => s
      | (s, some _) =>
        if !mccOpcode p.opcode.toNat then s.mccReply (.err Sts.badOpcode)
        else if s.recovery then s.mccReply (.refuse 0x0B08)
        else if 32 ≤ t then s.mccReply .param
        else if !s.tileOn t then s.mccReply (.err Sts.unitAbsent)
        else if s.rimOwns t then s.mccReply (rimRefusal (check s t))
        else if cur.isSome then s
        else
          let s := s.startNext t
          match (s.engOf t).cur with
          | some j =>
            if j.via = .mcc ∧ j.pkt = p then s.markMcc.tileRun t p mine (check · t) (act · t) else s
          | none => s

/-- A command's progress and script set, and taken up. -/
def beginTile (s : State) (t engine : Nat) (g : Progress) : State :=
  (s.updTile t (fun x => { x with prog := g, engine := engine })).pump t

/-- Arithmetic flags ORed into TILE_NUMFLAGS, and their events (03 R115, 04 Table 4-17). -/
def numFlags (s : State) (t fl : Nat) : State :=
  let s := s.orReg (Reg.TILE_NUMFLAGS (s.siteOf t)) (fl % 1024)
  [(0, 43), (6, 44), (7, 45), (9, 46), (5, 47)].foldl (fun s e => if bit fl e.1 then s.tileEvent t e.2 1 else s) s

/-! ## The tile store as a command sees it -/

/-- A run of the tile store read by the tile's own command: none where a unit is uncorrectable, with its address. The
line that the environment reports uncorrectable is named by its offset. -/
def opRead (s : State) (t off n : Nat) (ue : Option Nat) : State × Except Nat (List Byte) :=
  let seen := match ue with
    | some u => if off / 64 * 64 ≤ u && decide (u < off + n) then Seen.ue else .clean
    | none => .clean
  let k := match ue with
    | some u => if seen = .ue then tileKey t (u / 64 * 64) else tileKey t off
    | none => tileKey t off
  let r : Reader := ⟨3, siteIsland (s.siteOf t), Sts.eccHalt⟩
  if seen = .ue then
    match s.homeRead r k 64 .ue with
    | (s, _) => (s, .error (ownAddr k))
  else
    let bad := match s.poisonIn k n with
      | some u => some u
      | none => ((s.marksIn k n).find? (fun (m : Mark) => decide (2 ≤ m.outcome))).map (fun (m : Mark) => protKey m.key)
    match s.homeRead r k n .clean with
    | (s, some bs) => (s, .ok bs)
    | (s, none) => (s, .error (ownAddr (bad.getD k)))

/-- A run of the tile store written by the tile's own command; the address of a unit whose read-modify-write fails. -/
def opWrite (s : State) (t off : Nat) (bs : List Byte) : State × Option Nat :=
  let k := tileKey t off
  match s.homeStore ⟨3, siteIsland (s.siteOf t), Sts.eccHalt⟩ k bs .clean with
  | (s, true) => (s, none)
  | (s, false) => (s, some (ownAddr ((s.poisonIn k bs.length).getD (protKey k))))

/-- Whether a region lies inside the tile store. -/
def inStore (off n : Nat) : Bool := decide (off + n ≤ 2 ^ 23)

/-- Whether two regions overlap. -/
def overlap (a n b m : Nat) : Bool := decide (a < b + m) && decide (b < a + n) && decide (0 < n) && decide (0 < m)

end Sys2Proof.Machine.State
end

