-- ==== Sys2Proof/Machine/Unary.lean ====
section
/-! DEFINITION. The unary functions of 03 R119 and Table 3-9. Each finite result is computed from exact integers with
640 bits after the point and handed, with its sticky bit, to the one rounding into the output format (assumption 20). -/

namespace Sys2Proof.Machine.Unary

/-- Bits after the point of the fixed-point numbers below. -/
def prec : Nat := 640

/-- One, in fixed point. -/
def one : Nat := 2 ^ prec

/-- Product of two fixed-point numbers, rounded down. -/
def fmul (a b : Nat) : Nat := a * b / one

/-- `sum over k of x * t ^ k / (2 k + 1)`: the series of atanh (`x` the leading term, `t` the square of the argument). -/
def atanhSeries : Nat → Nat → Nat → Nat → Nat
  | 0, _, _, _ => 0
  | n + 1, k, x, t => x / (2 * k + 1) + atanhSeries n (k + 1) (fmul x t) t

/-- `ln 2 = 2 atanh (1/3)`. -/
def ln2 : Nat := 2 * atanhSeries 220 0 (one / 3) (one / 9)

/-- `1 / ln 2`. -/
def invLn2 : Nat := one * one / ln2

/-- `sum over k from n of x ^ k / k!` from its current term: the series of exp. -/
def expSeries : Nat → Nat → Nat → Nat → Nat
  | 0, _, _, _ => 0
  | n + 1, k, t, x => t + expSeries n (k + 1) (fmul t x / (k + 1)) x

/-- `exp x` for `0 ≤ x < 1`. -/
def exp01 (x : Nat) : Nat := expSeries 160 0 one x

/-- A magnitude in fixed point, rounded down. -/
def toFix (m : Nat) (e : Int) : Nat :=
  if 0 ≤ e + prec then m * 2 ^ (e + prec).toNat else m / 2 ^ (-(e + prec)).toNat

/-- `exp (-x)` of a fixed-point number: the mantissa in fixed point and the power of two it is divided by. -/
def expNeg (x : Nat) : Nat × Nat :=
  let y := fmul x invLn2
  let i := y / one + 1
  let f := i * one - y
  (exp01 (fmul f ln2), i)

/-- A fixed-point number as an inexact magnitude. -/
def ofFix (x : Nat) : Mag := ⟨x, -(prec : Int), true⟩

/-- A magnitude so small that it rounds to zero or to the least value of every format. -/
def tiny : Mag := ⟨1, -2000, true⟩

/-- A magnitude beyond the largest finite value of every format. -/
def huge : Mag := ⟨1, 2000, true⟩

/-- A magnitude beyond every threshold of this file: at least `2 ^ k`. -/
def atLeast (m : Nat) (e : Int) (k : Nat) : Bool := m != 0 && decide ((k : Int) ≤ (Nat.log2 m : Int) + e)

/-- exp2 of a nonzero finite value. -/
def exp2 (neg : Bool) (m : Nat) (e : Int) : Mag :=
  if atLeast m e 10 then (if neg then tiny else huge)
  else
    let x := toFix m e
    let i := x / one
    let f := x % one
    if f = 0 && decide (-(prec : Int) ≤ e) then ⟨1, if neg then -(i : Int) else i, false⟩
    else if neg then ⟨exp01 (fmul (one - f) ln2), -(prec : Int) - (i + 1), true⟩
    else ⟨exp01 (fmul f ln2), (i : Int) - prec, true⟩

/-- log2 of a positive finite value: sign and magnitude. -/
def log2 (m : Nat) (e : Int) : Bool × Mag :=
  let k : Int := (Nat.log2 m : Int) + e
  let y := m * one / 2 ^ Nat.log2 m
  if y = one then (decide (k < 0), ⟨k.natAbs, 0, false⟩)
  else
    let t := (y - one) * one / (y + one)
    let l := fmul (2 * atanhSeries 220 0 t (fmul t t)) invLn2
    let v : Int := k * (one : Int) + l
    if v < 0 then (true, ⟨v.natAbs - 1, -(prec : Int), true⟩) else (false, ⟨v.natAbs, -(prec : Int), true⟩)

/-- The reciprocal of a nonzero finite magnitude. -/
def recip (m : Nat) (e : Int) : Mag :=
  let k := Nat.log2 m + 200
  ⟨2 ^ k / m, -(k : Int) - e, 2 ^ k % m != 0⟩

/-- The integer square root by bits, from bit `n` down. -/
def isqrtAux : Nat → Nat → Nat → Nat
  | 0, _, r => r
  | n + 1, x, r => let c := r + 2 ^ n; isqrtAux n x (if c * c ≤ x then c else r)

/-- The integer square root. -/
def isqrt (x : Nat) : Nat := isqrtAux (Nat.log2 x / 2 + 1) x 0

/-- The reciprocal square root of a positive finite value. -/
def rsqrt (m : Nat) (e : Int) : Mag :=
  let (m, e) := if e % 2 = 0 then (m, e) else (2 * m, e - 1)
  let s := Nat.log2 m + 200
  let n := 2 ^ (2 * s)
  let r := isqrt (n / m)
  ⟨r, -(s : Int) - e / 2, r * r * m != n⟩

/-- sigmoid of a nonzero finite value. -/
def sigmoid (neg : Bool) (m : Nat) (e : Int) : Mag :=
  if atLeast m e 9 then (if neg then tiny else ofFix (one - 1))
  else
    let (u, i) := expNeg (toFix m e)
    if neg then ⟨u * (2 ^ i * one) / (2 ^ i * one + u), -(prec : Int) - i, true⟩
    else ofFix (one * (2 ^ i * one) / (2 ^ i * one + u))

/-- tanh of a nonzero finite magnitude. -/
def tanh (m : Nat) (e : Int) : Mag :=
  if atLeast m e 9 then ofFix (one - 1)
  else
    let (u, i) := expNeg (2 * toFix m e)
    let d := 2 ^ i * one
    ofFix ((d - u) * one / (d + u))

/-- pi by Machin's formula: `16 atan (1/5) - 4 atan (1/239)`. -/
def atanSeries : Nat → Nat → Nat → Nat → Int
  | 0, _, _, _ => 0
  | n + 1, k, x, d =>
    (if k % 2 = 0 then ((x / (2 * k + 1) : Nat) : Int) else -((x / (2 * k + 1) : Nat) : Int)) +
      atanSeries n (k + 1) (x / d) d

/-- pi in fixed point. -/
def pi : Nat := (16 * atanSeries 150 0 (one / 5) 25 - 4 * atanSeries 150 0 (one / 239) (239 * 239)).toNat

/-- `1 / sqrt (2 pi)` in fixed point. -/
def invSqrt2Pi : Nat := one * one / isqrt (2 * pi * one)

/-- `sum over k of x ^ (2 k + 1) / (1 * 3 * … * (2 k + 1))`. -/
def phiSeries : Nat → Nat → Nat → Nat → Nat
  | 0, _, _, _ => 0
  | n + 1, k, t, x2 => t + phiSeries n (k + 1) (fmul t x2 / (2 * k + 3)) x2

/-- Phi(x) - 1/2 of a fixed-point number below 16. -/
def phiHalf (x : Nat) : Nat :=
  let x2 := fmul x x
  let (u, i) := expNeg (x2 / 2)
  fmul (fmul (u / 2 ^ i) invSqrt2Pi) (phiSeries 900 0 x x2)

/-- A magnitude times an exact mantissa, the low bits dropped into the sticky bit. -/
def mulExact (m : Nat) (e : Int) (x : Mag) : Mag :=
  let k := Nat.log2 m + 2
  ⟨m * x.m / 2 ^ k, x.e + e + k, true⟩

/-- GELU of a nonzero finite value: `x * Phi x`. -/
def gelu (neg : Bool) (m : Nat) (e : Int) : Mag :=
  if atLeast m e 4 then (if neg then tiny else ⟨m * one - 1, e - prec, true⟩)
  else
    let h := phiHalf (toFix m e)
    mulExact m e (ofFix (if neg then one / 2 - h else one / 2 + h))

/-- SiLU of a nonzero finite value: `x * sigmoid x`. -/
def silu (neg : Bool) (m : Nat) (e : Int) : Mag :=
  if atLeast m e 9 then (if neg then tiny else ⟨m * one - 1, e - prec, true⟩)
  else mulExact m e (sigmoid neg m e)

/-- The functions of 03 R119. -/
inductive Fn where
  | exp2 | log2 | recip | rsqrt | sigmoid | tanh | gelu | silu
  deriving DecidableEq, Repr

/-- A unary function of what an element reads as, before conversion, with the flags of 03 Table 3-9. -/
def apply (f : Fn) (v : Val) : Res × Nat :=
  let half : Mag := ⟨1, -1, false⟩
  let unit : Mag := ⟨1, 0, false⟩
  let zero : Mag := ⟨0, 0, false⟩
  match f, v with
  | _, .nan => (.nan, 0)
  | .exp2, .inf n => (if n then .fin false zero else .inf false, 0)
  | .exp2, .fin n m e => (.fin false (if m = 0 then unit else exp2 n m e), 0)
  | .log2, .inf n => if n then (.nan, Flag.invalid) else (.inf false, 0)
  | .log2, .fin n m e =>
    if m = 0 then (.inf true, Flag.divZero) else if n then (.nan, Flag.invalid)
    else let (s, x) := log2 m e; (.fin s x, 0)
  | .recip, .inf n => (.fin n zero, 0)
  | .recip, .fin n m e => if m = 0 then (.inf n, Flag.divZero) else (.fin n (recip m e), 0)
  | .rsqrt, .inf n => if n then (.nan, Flag.invalid) else (.fin false zero, 0)
  | .rsqrt, .fin n m e =>
    if m = 0 then (.inf n, Flag.divZero) else if n then (.nan, Flag.invalid) else (.fin false (rsqrt m e), 0)
  | .sigmoid, .inf n => (.fin false (if n then zero else unit), 0)
  | .sigmoid, .fin n m e => (.fin false (if m = 0 then half else sigmoid n m e), 0)
  | .tanh, .inf n => (.fin n unit, 0)
  | .tanh, .fin n m e => (.fin n (if m = 0 then zero else tanh m e), 0)
  | .gelu, .inf n => (if n then .fin true zero else .inf false, 0)
  | .gelu, .fin n m e => (.fin n (if m = 0 then zero else gelu n m e), 0)
  | .silu, .inf n => (if n then .fin true zero else .inf false, 0)
  | .silu, .fin n m e => (.fin n (if m = 0 then zero else silu n m e), 0)

end Sys2Proof.Machine.Unary
end

