-- ==== Sys2Proof/Machine/TileData.lean ====
section
/-! DEFINITION. What the tile commands share (04): rows of elements in the tile store, packing of results, local and
remote output, tokens, the extension descriptor, the exchange of maxima, and the checks of regions. -/

namespace Sys2Proof.Machine

/-- 64 bytes times the lines that `n` elements of `b` bits take (04 R126). -/
def linePitch (n b : Nat) : Nat := 64 * ceilDiv (n * b) 512

/-- The raw bits of `n` packed elements (03 R92). -/
def rawElems (b n : Nat) (bs : List Byte) : List Nat :=
  let x := ofLE bs
  (List.range n).map (fun i => bits x (i * b) b)

/-- Packed elements as a number, with their bit length. -/
def packElems (b : Nat) : List Nat → Nat
  | [] => 0
  | x :: l => x % 2 ^ b + 2 ^ b * packElems b l

/-- The values of `n` elements, with the MX scale of each from one byte per 32 (03 R91). -/
def valsOf (fmt sub n : Nat) (bs scales : List Byte) : List Val :=
  let raw := rawElems (elemBits fmt sub) n bs
  (List.range n).map (fun i =>
    let v := readElem (elemFmt fmt sub) (raw.getD i 0)
    if isMx fmt then applyScale fmt (scales.getD (i / 32) 0).toNat v else v)

/-- The operand group of a format (03 Table 3-8): fixed float, integer, MX, wide float, or none. -/
def groupOf (fmt : Nat) : Nat :=
  if 5 ≤ fmt && fmt ≤ 9 then 1 else if 14 ≤ fmt && fmt ≤ 16 then 2 else if 10 ≤ fmt && fmt ≤ 13 then 3
  else if 1 ≤ fmt && fmt ≤ 4 then 4 else 0

/-- Whether a pair of operands takes the fixed anchor (03 R105). -/
def fixedPair (fa fb : Nat) : Bool := (groupOf fa == 1 || groupOf fa == 2) && (groupOf fb == 1 || groupOf fb == 2)

/-- Whether a format is an output format of matrix and reduction commands (04 Table 4-5). -/
def outFmt (fo : Nat) : Bool := (1 ≤ fo && fo ≤ 9) || fo == 17 || fo == 18

/-- The extension descriptor (04 Table 4-8). -/
structure TileExt where
  srKey : Nat
  srStep : Nat
  aScale : Nat
  bScale : Nat
  metaAddr : Nat
  xchg : Nat
  xn : Nat
  xctr : Nat
  peers : Nat
  eBase : Nat
  eStride : Nat
  deriving DecidableEq, Repr

/-- The descriptor that 64 bytes hold. SR_KEY is the little-endian number of its 16 bytes (assumption 31). -/
def TileExt.ofBytes (bs : List Byte) : TileExt :=
  let n := ofLE bs
  ⟨bits n 0 128, bits n 128 32, bits n 160 32, bits n 192 32, bits n 224 32, bits n 256 32, bits n 288 16,
    bits n 304 5, bits n 320 32, bits n 352 64, bits n 416 32⟩

/-- The rounding of output element `d` of a command (03 R98, R99). -/
def TileExt.rounding (x : TileExt) (sr : Bool) (d : Nat) : Rounding :=
  if sr then .sr (Kcg.draw x.srKey 2 x.srStep (d % 2 ^ 64)) else .rne

/-- The offset of the CB words in an exchange array (04 R148). -/
def xchgCb (m : Nat) : Nat := 64 * ceilDiv (4 * m) 64

/-- The offset of the done line in an exchange array. -/
def xchgDone (m n : Nat) : Nat := xchgCb m + 64 * ceilDiv (4 * n) 64

/-- An accumulation mode and anchor source of a command (03 Table 3-4). -/
def anchorFor (acc : Nat) (decl : Int) (fixed : Bool) (scan : Int) : Int :=
  if acc = 2 then decl else if fixed then 63 else scan

/-- The exact accumulation of one output: products against an anchor, ROUNDED marked (03 R101 to R103, R113). -/
def accumulate (acc : Nat) (anchor : Int) (ps : List Val) : Acc × Nat :=
  let (c, fl) := (Acc.start anchor).addTerms ps
  (if acc = 3 then { c with lf := c.lf ||| Flag.lNonrepro } else c, fl)

/-- An accumulator as the bits of an output element with its flags (03 R114, R115). -/
def emitAcc (r : Rounding) (fo acc : Nat) (c : Acc) : Nat × Nat :=
  if fo = 18 then (ofLE c.toBytes, c.flags)
  else
    let (b, fl) := c.toFmt r fo
    (b, fl ||| c.flags ||| Flag.on (acc == 3) Flag.nonrepro)

/-- The bytes of a store cut so that no piece crosses a 64-byte line at the destination (04 R153). -/
def cutLines (addr : Nat) (bs : List Byte) : List (Nat × List Byte) :=
  let first := min bs.length (64 - addr % 64)
  let rest := bs.drop first
  (if first = 0 then [] else [(addr, bs.take first)]) ++
    (List.range (ceilDiv rest.length 64)).map (fun i => (addr + first + 64 * i, (rest.drop (64 * i)).take 64))

/-- A run of bytes padded with zeros to whole 4-byte words (04 R127). -/
def padWords (bs : List Byte) : List Byte := bs ++ List.replicate ((4 - bs.length % 4) % 4) 0

/-- The stores of a remote run. -/
def storeOps (mod t addr : Nat) (bs : List Byte) : List Micro :=
  (cutLines addr (padWords bs)).map (fun (a, b) => .op (Req.make a mod t b.length opStore none b) .none)

/-- A bare token after a fence (04 R143): a store of no bytes to the tile that an address names. -/
def tokenOps (mod t addr : Nat) (tok : Option Tok) : List Micro :=
  match tok with
  | none => []
  | some k => [.fence, .op (Req.make addr mod t 0 opStore (some k) []) .none]

/-- The requests of a script. -/
def scriptReqs (l : List Micro) : List Req :=
  l.filterMap (fun m => match m with | .op q _ => some q | _ => none)

namespace State

/-- Whether a global address names a tile's own store. -/
def ownStore (s : State) (t addr : Nat) : Bool :=
  s.isOwn (modOf addr) && spaceOf addr == 1 && offOf addr / 2 ^ 23 == t

/-- The value of a token field: enabled, its counter and increment. -/
def tokOf (w inc : Nat) : Option Tok := if bit w 15 then some ⟨w % 32, inc, 0⟩ else none

/-- A region of the tile store that a command names: its offset and length. -/
abbrev Region := Nat × Nat

/-- The checks of R134 in order: alignment and offsets, a local output that overlaps an input, a region that runs past
the store. -/
def regionCheck (t : Nat) (ins others outs : List Region) (exempt : Bool) : Option Ans :=
  let all := ins ++ others ++ outs
  let clash := outs.any (fun o => (List.range ins.length).any (fun i =>
    match ins[i]? with
    | some r => overlap o.1 o.2 r.1 r.2 && !(exempt && i == 0 && o.1 == r.1)
    | none => false))
  if all.any (fun r => r.1 % 64 != 0 || decide (2 ^ 23 ≤ r.1)) || clash then some .param
  else match all.find? (fun r => !inStore r.1 r.2) with
    | some r => some (.fault (ownAddr (tileKey t r.1)))
    | none => none

/-- The answer of a command whose remote extent fails (08 R304). -/
def extentCheck (s : State) (regions : List (List Req)) : Option Ans :=
  (s.issueCheckAll regions).map (fun e => ⟨e.1, 0, 0, e.2, false⟩)

/-- The descriptor at an offset as a check reads it, nothing counted. -/
def peekExt (s : State) (t off : Nat) : TileExt := .ofBytes (s.memRead (tileKey t off) 64)

/-- The peers' exchange arrays (04 Table 4-8 PEER_LIST_ADDR). -/
def peerList (s : State) (t : Nat) (x : TileExt) : List Nat :=
  (List.range x.xn).map (fun i => ofLE (s.memRead (tileKey t (x.peers + 8 * i)) 8))

/-- The operations of an exchange of maxima (03 R107): every word to every peer, a fence, a token on each done line, and
the consuming wait. -/
def xchgOps (s : State) (t : Nat) (x : TileExt) (ra cb : List Nat) : List Micro :=
  let mod := s.srcMod
  let peers := s.peerList t x
  let words := fun p off (l : List Nat) => (List.range l.length).map (fun i =>
    Micro.op (Req.make (p + off + 4 * i) mod t 4 opMaxU32 none (leBytes 4 (l.getD i 0))) .none)
  let done := xchgDone ra.length cb.length
  (peers.map (fun p => words p 0 ra ++ words p (xchgCb ra.length) cb)).flatten ++ [.fence] ++
    peers.map (fun p => .op (Req.make (p + done) mod t 4 0x08 (some ⟨x.xctr, 1, 0⟩) (leBytes 4 0)) .none) ++
    [.wait x.xctr x.xn x.xn, .compute]

/-- The peers' arrays that an exchange of maxima reaches, one region each, with no data. -/
def xchgExtent (s : State) (t : Nat) (x : TileExt) (ra cb : Nat) : List (List Req) :=
  (s.peerList t x).map (fun p =>
    ((List.range ra).map (fun i => p + 4 * i) ++ (List.range cb).map (fun i => p + xchgCb ra + 4 * i)).map
      (fun a => Req.make a s.srcMod t 4 opMaxU32 none (leBytes 4 0)) ++
    [Req.make (p + xchgDone ra cb) s.srcMod t 4 0x08 (some ⟨x.xctr, 1, 0⟩) (leBytes 4 0)])

/-- Local bytes written, the first failing read-modify-write as a trap. -/
def localOut (s : State) (t off : Nat) (bs : List Byte) : State × Option Exc :=
  match s.opWrite t off bs with
  | (s, none) => (s, none)
  | (s, some a) => (s, some ⟨Sts.eccHalt, 0, a⟩)

/-- A row of output elements as bytes: the unused bits of its last byte or group, where the row's elements do not fill
it, are left open (assumption 32). -/
def packRow (s : State) (fo : Nat) (xs : List Nat) : State × List Byte :=
  let b := elemBits fo 0
  let n := xs.length * b
  let len := runBytes fo 0 xs.length
  let pad := 8 * len - n
  let (v, s) := if pad = 0 then (0, s) else s.open_ pad
  (s, leBytes len (packElems b xs + v % 2 ^ pad * 2 ^ n))

/-- One run of results put out (04 R127, R150): written locally or as stores, LACC-adds or FP32 adds. -/
def putRun (s : State) (t addr outOp fo : Nat) (xs : List Nat) : State × List Micro × Option Exc :=
  let mod := s.srcMod
  match outOp with
  | 1 => (s, (List.range xs.length).map (fun j =>
      .op (Req.make (addr + 32 * j) mod t 32 opLaccAdd none (leBytes 32 (xs.getD j 0))) .none), none)
  | 2 => (s, (List.range xs.length).map (fun j =>
      .op (Req.make (addr + 4 * j) mod t 4 opFadd32 none (leBytes 4 (xs.getD j 0))) .none), none)
  | _ =>
    let (s, bs) := s.packRow fo xs
    if s.ownStore t addr then
      let (s, e) := s.localOut t (offOf addr % 2 ^ 23) bs
      (s, [], e)
    else (s, storeOps mod t addr bs, none)

/-- Several runs put out in order; a failing one stops the rest. -/
def putRuns (s : State) (t outOp fo : Nat) : List (Nat × List Nat) → State × List Micro × Option Exc
  | [] => (s, [], none)
  | (a, xs) :: l =>
    match s.putRun t a outOp fo xs with
    | (s, ms, some e) => (s, ms, some e)
    | (s, ms, none) =>
      let (s, ns, e) := s.putRuns t outOp fo l
      (s, ms ++ ns, e)

/-- Several operand runs read in order; the first uncorrectable one is the exception. -/
def readRuns (s : State) (t : Nat) (ue : Option Nat) : List Region → State × Except Exc (List (List Byte))
  | [] => (s, .ok [])
  | (o, n) :: l =>
    match s.opRead t o n ue with
    | (s, .error a) => (s, .error ⟨Sts.eccHalt, 0, a⟩)
    | (s, .ok bs) =>
      match s.readRuns t ue l with
      | (s, .error e) => (s, .error e)
      | (s, .ok bss) => (s, .ok (bs :: bss))

end State
end Sys2Proof.Machine
end

