-- ==== Sys2Proof/Machine/TileConv.lean ====
section
/-! DEFINITION. Convolution and pooling (05): image tensors, the virtual operand of a convolution, region entries,
TILE_CONV and TILE_POOL. The product itself is shared with the Splint engine. -/

namespace Sys2Proof.Machine

/-- A reader of operand bytes: an address and a length. -/
abbrev ByteReader := Nat → Nat → List Byte

/-- The pixel pitch of `c` channels of `b` bits (05 R167). -/
def pixOf (c b : Nat) : Nat :=
  let n := ceilDiv (c * b) 8
  match [1, 2, 4, 8, 16, 32].find? (fun z => n ≤ z) with
  | some z => z
  | none => 64 * ceilDiv (c * b) 512

/-- A row pitch: the default where 0 (05 R167). -/
def rowPitchOf (given w pix : Nat) : Nat := if given = 0 then 64 * ceilDiv (w * pix) 64 else given

/-- Whether a given row pitch is legal. -/
def rowPitchBad (given w pix : Nat) : Bool := given != 0 && (given % 64 != 0 || decide (given < w * pix))

/-- A region entry (05 Table 5-4). -/
structure RegionEntry where
  row0 : Nat
  rows : Nat
  col0 : Nat
  cols : Nat
  dest : Nat
  pitch : Nat
  tok : Option Tok
  deriving DecidableEq, Repr

/-- The region entry that 32 bytes hold, COLS = 0 filled in. -/
def RegionEntry.ofBytes (outW : Nat) (bs : List Byte) : RegionEntry :=
  let n := ofLE bs
  let cols := bits n 48 16
  ⟨bits n 0 16, bits n 16 16, bits n 32 16, if cols = 0 then outW - bits n 32 16 else cols, bits n 64 64, bits n 128 32,
    State.tokOf (bits n 160 16) (bits n 176 16)⟩

/-- The convolution descriptor (05 Table 5-3). -/
structure ConvDesc where
  ext : TileExt
  extZero : Bool
  inPitch : Nat
  outPitch : Nat
  bias : Nat
  biasFmt : Nat
  biasSub : Nat
  biasEn : Bool
  relu : Bool
  decl : Int
  declRaw : Nat
  kTotal : Nat
  regions : List RegionEntry
  regionN : Nat
  deriving DecidableEq, Repr

/-- The length of a descriptor with its region entries. -/
def descLen (n : Nat) : Nat := 128 + 32 * n

/-- The descriptor that bytes hold; `wide` where BIAS_ADDR is a global address. -/
def ConvDesc.ofBytes (wide : Bool) (outW : Nat) (bs : List Byte) : ConvDesc :=
  let n := ofLE (bs.take 128)
  let k := bits n (8 * 88) 8
  { ext := TileExt.ofBytes (bs.take 64), extZero := ofLE (bs.take 64) == 0, inPitch := bits n 512 32
    outPitch := bits n 544 32, bias := bits n 576 (if wide then 64 else 32), biasFmt := bits n 640 5
    biasSub := bits n 645 1, biasEn := bit n 649, relu := bit n 648, decl := sext 16 (bits n 656 16)
    declRaw := bits n 656 16, kTotal := bits n 672 32
    regions := (List.range (min k 8)).map (fun r => RegionEntry.ofBytes outW ((bs.drop (128 + 32 * r)).take 32))
    regionN := k }

/-- No descriptor: defaults throughout (05 R174). -/
def ConvDesc.none : ConvDesc := ConvDesc.ofBytes false 0 []

/-- The geometry and formats of a convolution, on a tile or on the Splint engine. -/
structure ConvOp where
  inA : Nat
  wA : Nat
  out : Nat
  inH : Nat
  inW : Nat
  cIn : Nat
  cOut : Nat
  fh : Nat
  fw : Nat
  sh : Nat
  sw : Nat
  dh : Nat
  dw : Nat
  padT : Nat
  padL : Nat
  outH : Nat
  outW : Nat
  fi : Nat
  si : Nat
  fwt : Nat
  swt : Nat
  fo : Nat
  outOp : Nat
  ext : Bool
  sr : Bool
  sparse : Bool
  stat : Bool
  acc : Nat
  groups : Nat
  tok : Option Tok
  descAddr : Nat
  deriving DecidableEq, Repr

namespace ConvOp

/-- Channels of a group. -/
def cg (x : ConvOp) : Nat := x.cIn / x.groups

/-- Output channels of a group. -/
def ng (x : ConvOp) : Nat := x.cOut / x.groups

/-- Elements of a weight column. -/
def k (x : ConvOp) : Nat := x.fh * x.fw * x.cg

/-- Elements of a weight column as stored. -/
def kStored (x : ConvOp) : Nat := if x.sparse then x.k / 2 else x.k

/-- The full length along K with the bias element (05 R169). -/
def kFull (x : ConvOp) (d : ConvDesc) : Nat := x.k + b2n d.biasEn

/-- K_TOTAL with its default. -/
def kTotal (x : ConvOp) (d : ConvDesc) : Nat := if d.kTotal = 0 then x.kFull d else d.kTotal

/-- Output pixels. -/
def m (x : ConvOp) : Nat := x.outH * x.outW

/-- The input's pixel pitch. -/
def pixIn (x : ConvOp) : Nat := pixOf x.cIn (elemBits x.fi x.si)

/-- The bits of an output element as it is written. -/
def outBits (x : ConvOp) : Nat := if x.outOp = 1 then 256 else if x.outOp = 2 then 32 else elemBits x.fo 0

/-- The output's pixel pitch. -/
def pixOut (x : ConvOp) : Nat := pixOf x.cOut x.outBits

/-- The pitch of the weights (04 R126). -/
def pw (x : ConvOp) : Nat := linePitch x.kStored (elemBits x.fwt x.swt)

/-- The pitch of scale arrays. -/
def ps (x : ConvOp) : Nat := 64 * ceilDiv x.k 2048

/-- The pitch of the metadata. -/
def pm (x : ConvOp) : Nat := 64 * ceilDiv x.k 512

/-- Whether the layer runs on the vector unit (05 R181). -/
def onVector (x : ConvOp) : Bool := x.cg == 1 && 1 ≤ x.ng && x.ng ≤ 4

/-- Whether the anchor is fixed by the formats. -/
def fixed (x : ConvOp) : Bool := fixedPair x.fi x.fwt

/-- Whether maxima are exchanged. -/
def exchange (x : ConvOp) : Bool := x.acc == 1 && !x.fixed

/-- The virtual row of A for output pixel `i` and group `g` (05 R169): padded positions read +0; MX scales come from
the scale array of the virtual rows (assumption 34). -/
def rowA (x : ConvOp) (d : ConvDesc) (rd : ByteReader) (g i : Nat) : List Val :=
  let oy := i / x.outW
  let ox := i % x.outW
  let b := elemBits x.fi x.si
  let rp := rowPitchOf d.inPitch x.inW x.pixIn
  let scales := if isMx x.fi then rd (d.ext.aScale + i * x.ps) (x.k / 32) else []
  let taps := ((List.range x.fh).map (fun fh => (List.range x.fw).map (fun fw => (fh, fw)))).flatten
  let vals := taps.map (fun (fh, fw) =>
    let y : Int := (oy * x.sh + fh * x.dh : Nat) - (x.padT : Int)
    let xx : Int := (ox * x.sw + fw * x.dw : Nat) - (x.padL : Int)
    if y < 0 || (x.inH : Int) ≤ y || xx < 0 || (x.inW : Int) ≤ xx then List.replicate x.cg Val.zero
    else
      let base := x.inA + y.toNat * rp + xx.toNat * x.pixIn
      let px := ofLE (rd base x.pixIn)
      (List.range x.cg).map (fun c =>
        let v := readElem (elemFmt x.fi x.si) (bits px ((g * x.cg + c) * b) b)
        if isMx x.fi then applyScale x.fi (scales.getD (((fh * x.fw + fw) * x.cg + c) / 32) 0).toNat v else v))
  vals.flatten ++ (if d.biasEn then [.fin false 1 0] else [])

/-- The weights of output channel `o` along K with its bias, pruned positions zero; or the address of an invalid
metadata entry (04 R129, R130). -/
def colB (x : ConvOp) (d : ConvDesc) (rd : ByteReader) (o : Nat) : Except Nat (List Val) :=
  let b := elemBits x.fwt x.swt
  let raw := rawElems b x.kStored (rd (x.wA + o * x.pw) (runBytes x.fwt x.swt x.kStored))
  let scales := if isMx x.fwt then rd (d.ext.bScale + o * x.ps) (x.k / 32) else []
  let one := fun pos j =>
    let v := readElem (elemFmt x.fwt x.swt) (raw.getD j 0)
    if isMx x.fwt then applyScale x.fwt (scales.getD (pos / 32) 0).toNat v else v
  let bb := elemBits d.biasFmt d.biasSub
  let bias := if d.biasEn then
      let w := bits (ofLE (rd (d.bias + o * bb / 8) (ceilDiv bb 8 + 1))) (o * bb % 8) bb
      let v := readElem (elemFmt d.biasFmt d.biasSub) w
      [if isMx d.biasFmt then applyScale d.biasFmt Config.mxBiasScale v else v]
    else []
  if !x.sparse then .ok ((List.range x.k).map (fun j => one j j) ++ bias)
  else
    let ms := rd (d.ext.metaAddr + o * x.pm) (ceilDiv x.k 8)
    let entry := fun q => bits (ms.getD (q / 2) 0).toNat (4 * (q % 2)) 4
    let gs := List.range (x.k / 4)
    match gs.find? (fun q => decide (entry q / 4 ≤ entry q % 4)) with
    | some q => .error (d.ext.metaAddr + o * x.pm + q / 2)
    | none => .ok ((gs.map (fun q => (List.range 4).map (fun j =>
        if j = entry q % 4 then one (4 * q + j) (2 * q)
        else if j = entry q / 4 then one (4 * q + j) (2 * q + 1) else .zero))).flatten ++ bias)

/-- POST.RELU on an element's bits (05 R170): a set sign bit gives +0; LACC192 words are not rounded and stay. -/
def reluBits (fo v : Nat) : Nat :=
  if fo = 15 || fo = 18 then v
  else if fo = 2 then (if bit v 31 then 0 else v)
  else if bit v (elemBits fo 0 - 1) then 0 else v

/-- Output element (i, o) from its row and column, with its flags (05 R169 to R171). -/
def elem (x : ConvOp) (d : ConvDesc) (words : Option (List Nat × List Nat)) (i o : Nat) (a b : List Val) : Nat × Nat :=
  let scan := match words with
    | some (ras, cbs) => anchorOfWords (ras.getD i 0) (cbs.getD o 0) (x.kTotal d)
    | none => anchorOf (maxExpo a) (maxExpo b) (x.kTotal d)
  let (c, fl) := accumulate x.acc (anchorFor x.acc d.decl x.fixed scan) (List.zipWith Val.mul a b)
  let (v, g) := emitAcc (d.ext.rounding x.sr (d.ext.eBase + i * d.ext.eStride + o)) x.fo x.acc c
  (if d.relu then reluBits x.fo v else v, fl ||| g)

/-- The checks of geometry (05 R173, Table 5-1) that answer STS_BAD_PARAM. -/
def geomBad (x : ConvOp) (splint : Bool) : Bool :=
  let maxDil := if splint then 2 else 4
  let maxC := if splint then 4096 else 65535
  x.fh == 0 || x.fw == 0 || x.sh == 0 || x.sw == 0 || decide (4 < x.sh) || decide (4 < x.sw) || x.dh == 0 || x.dw == 0 ||
    decide (maxDil < x.dh) || decide (maxDil < x.dw) || x.inH == 0 || x.inW == 0 || x.outH == 0 || x.outW == 0 ||
    x.cIn == 0 || x.cOut == 0 || decide (maxC < x.cIn) || decide (maxC < x.cOut) || x.groups == 0 ||
    x.cIn % x.groups != 0 || x.cOut % x.groups != 0

/-- The checks of formats, anchors, pitches and bias that every engine makes (05 R167, R168, R174; 03 R106, R109). -/
def descBad (x : ConvOp) (d : ConvDesc) : Bool :=
  groupOf x.fi == 0 || groupOf x.fi != groupOf x.fwt || ((isMx x.fi || isMx x.fwt) && x.cg % 32 != 0) ||
    (d.biasEn && groupOf d.biasFmt != groupOf x.fwt) || (x.acc == 2 && d.decl == -32768) ||
    decide (x.kTotal d < x.kFull d) || decide (2 ^ 31 < x.kTotal d) || rowPitchBad d.inPitch x.inW x.pixIn ||
    (x.sr && decide (9 < x.fo)) || decide (8 < d.regionN)

/-- The bytes of the input tensor. -/
def inBytes (x : ConvOp) (d : ConvDesc) : Nat := (x.inH - 1) * rowPitchOf d.inPitch x.inW x.pixIn + x.inW * x.pixIn

/-- The bytes of the bias array. -/
def biasBytes (x : ConvOp) (d : ConvDesc) : Nat := runBytes d.biasFmt d.biasSub x.cOut

end ConvOp

/-! ## Output tensors and region entries (05 R175 to R177) -/

/-- An output tensor: its place, pitches and size, and how its elements leave. -/
structure ImgOut where
  out : Nat
  pitch : Nat
  pix : Nat
  w : Nat
  h : Nat
  c : Nat
  fo : Nat
  bits : Nat
  outOp : Nat
  deriving DecidableEq, Repr

/-- The checks of region entries (05 R175): inside the output, aligned, a token only for a tile store. -/
def regionsBad (g : ImgOut) (rs : List RegionEntry) : Bool :=
  rs.any (fun r => r.rows == 0 || decide (g.h < r.row0 + r.rows) || decide (g.w ≤ r.col0) ||
    decide (g.w < r.col0 + r.cols) || r.pitch % 64 != 0 || r.dest % 4 != 0 ||
    (match r.tok with | some k => spaceOf r.dest != 1 || k.inc == 0 | none => false))

/-- The bytes of a pixel from its element bits, zero beyond its elements (05 R167). -/
def pixelBytes (g : ImgOut) (es : List Nat) : List Byte := leBytes g.pix (packElems g.bits es)

namespace State

/-- A run of `n` pixels of row `y` from column `x0`, put to an address of their first pixel: `px` gives the elements of a
pixel. Stores to another place cover whole 4-byte words of the row (04 R127). -/
def putPixels (s : State) (t : Nat) (g : ImgOut) (px : Nat → List Nat) (y x0 n addr rowStart : Nat) :
    State × List Micro × Option Exc :=
  let mod := s.srcMod
  if g.outOp = 0 then
    let bytes := fun c m => ((List.range m).map (fun i => pixelBytes g (px (y * g.w + c + i)))).flatten
    if s.ownStore t addr then
      let (s, e) := s.localOut t (offOf addr % 2 ^ 23) (bytes x0 n)
      (s, [], e)
    else
      let back := (addr - rowStart) % 4 / g.pix
      (s, storeOps mod t (addr - back * g.pix) (bytes (x0 - back) (n + back)), none)
  else
    let one := fun i => (List.range g.c).map (fun j =>
      let v := (px (y * g.w + x0 + i)).getD j 0
      if g.outOp = 1 then
        Micro.op (Req.make (addr + i * g.pix + 32 * j) mod t 32 opLaccAdd none (leBytes 32 v)) .none
      else Micro.op (Req.make (addr + i * g.pix + 4 * j) mod t 4 opFadd32 none (leBytes 4 v)) .none)
    (s, ((List.range n).map one).flatten, none)

/-- Several runs of pixels put out; the first failure stops them. -/
def putPixelRuns (s : State) (t : Nat) (g : ImgOut) (px : Nat → List Nat) :
    List (Nat × Nat × Nat × Nat × Nat) → State × List Micro × Option Exc
  | [] => (s, [], none)
  | (y, x0, n, addr, r0) :: l =>
    match s.putPixels t g px y x0 n addr r0 with
    | (s, ms, some e) => (s, ms, some e)
    | (s, ms, none) =>
      let (s, ns, e) := s.putPixelRuns t g px l
      (s, ms ++ ns, e)

/-- The runs of a block of output pixels `i0 .. i0 + n - 1` at the main output. -/
def blockPixelRuns (g : ImgOut) (i0 n : Nat) : List (Nat × Nat × Nat × Nat × Nat) :=
  (List.range g.h).filterMap (fun y =>
    let lo := max i0 (y * g.w)
    let hi := min (i0 + n) ((y + 1) * g.w)
    if lo < hi then
      let x0 := lo - y * g.w
      some (y, x0, hi - lo, g.out + y * g.pitch + x0 * g.pix, g.out + y * g.pitch)
    else none)

/-- The stores of a region entry, its fence and its token (05 R177). -/
def putRegion (s : State) (t : Nat) (g : ImgOut) (px : Nat → List Nat) (r : RegionEntry) :
    State × List Micro × Option Exc :=
  let runs := (List.range r.rows).map (fun j =>
    (r.row0 + j, r.col0, r.cols, r.dest + j * r.pitch, r.dest + j * r.pitch))
  let (s, ms, e) := s.putPixelRuns t g px runs
  (s, ms ++ (if e.isNone then tokenOps s.srcMod t r.dest r.tok else []), e)

/-- The region entries in index order. -/
def putRegions (s : State) (t : Nat) (g : ImgOut) (px : Nat → List Nat) : List RegionEntry → State × List Micro × Option Exc
  | [] => (s, [], none)
  | r :: l =>
    match s.putRegion t g px r with
    | (s, ms, some e) => (s, ms, some e)
    | (s, ms, none) =>
      let (s, ns, e) := s.putRegions t g px l
      (s, ms ++ ns, e)

/-- Blocks of output pixels put out in order. Each reads its operands, of which the first that is bad ends the command
with the blocks before it done. -/
def imgBlocks (t : Nat) (g : ImgOut) (px : Nat → List Nat) (bad : Nat → State → State × Option Exc) :
    Nat → List (Nat × Nat) → State → State × List Micro × Bool
  | _, [], s => (s, [], true)
  | idx, (i0, n) :: l, s =>
    match bad i0 s with
    | (s, some z) => (s, [.trap z], false)
    | (s, none) =>
      match s.putPixelRuns t g px (blockPixelRuns g i0 n) with
      | (s, ms, some z) => (s, ms ++ [.trap z], false)
      | (s, ms, none) =>
        let (s, ns, ok) := imgBlocks t g px bad (idx + 1) l s
        (s, ms ++ [.block (idx + 1)] ++ ns, ok)

/-- A whole output tensor with its regions (05 R176, R177): first the blocks that hold any element of a region, then the
entries in index order, then the other blocks, then the command's token. -/
def imgOutput (s : State) (t : Nat) (g : ImgOut) (rs : List RegionEntry) (tok : Option Tok) (step : Nat)
    (px : Nat → List Nat) (bad : Nat → State → State × Option Exc) : State × List Micro :=
  let blocks := (List.range (ceilDiv (g.w * g.h) step)).map (fun b => (b * step, min step (g.w * g.h - b * step)))
  let holds := fun (b : Nat × Nat) => rs.any (fun r => (List.range r.rows).any (fun j =>
    let lo := (r.row0 + j) * g.w + r.col0
    decide (b.1 < lo + r.cols) && decide (lo < b.1 + b.2)))
  let firsts := blocks.filter holds
  let rest := blocks.filter (fun b => !holds b)
  match imgBlocks t g px bad 0 firsts s with
  | (s, ms, false) => (s, ms)
  | (s, ms, true) =>
    match s.putRegions t g px rs with
    | (s, rm, some z) => (s, ms ++ rm ++ [.trap z])
    | (s, rm, none) =>
      let (s, ns, ok) := imgBlocks t g px bad firsts.length rest s
      (s, ms ++ rm ++ ns ++ (if ok then tokenOps s.srcMod t g.out tok else []))

/-- The remote operations of an output tensor's whole extent (08 R304), with no data. -/
def imgExtent (s : State) (t : Nat) (g : ImgOut) (rs : List RegionEntry) (tok : Option Tok) : List (List Req) :=
  let px := fun _ => List.replicate g.c 0
  let far := fun a => g.outOp != 0 || !s.ownStore t a
  let main := if far g.out then
      ((List.range g.h).map (fun y => scriptReqs
        (s.putPixels t g px y 0 g.w (g.out + y * g.pitch) (g.out + y * g.pitch)).2.1)).flatten else []
  let regs := rs.map (fun r =>
    (if far r.dest then ((List.range r.rows).map (fun j => scriptReqs
        (s.putPixels t g px (r.row0 + j) r.col0 r.cols (r.dest + j * r.pitch) (r.dest + j * r.pitch)).2.1)).flatten
      else []) ++ scriptReqs (tokenOps s.srcMod t r.dest r.tok))
  main :: regs ++ [scriptReqs (tokenOps s.srcMod t g.out tok)]

/-- The local output regions of a tensor and its entries. -/
def imgLocal (s : State) (t : Nat) (g : ImgOut) (rs : List RegionEntry) : List Region :=
  let reg := fun a p h w => if s.ownStore t a then [(offOf a % 2 ^ 23, (h - 1) * p + w * g.pix)] else []
  reg g.out g.pitch g.h g.w ++ (rs.map (fun r => reg r.dest r.pitch r.rows r.cols)).flatten

end State

/-! ## TILE_CONV -/

/-- The parameters of TILE_CONV (05 Table 5-2), the basic form's filled in (05 R190). -/
def ConvOp.ofTile (p : Packet) : Option ConvOp :=
  let nib := fun off hi => if hi then p.u8 off / 16 else p.u8 off % 16
  let mode := p.u8 51
  let base : ConvOp :=
    { inA := p.u32 16, wA := p.u32 20, out := p.u64 24, inH := p.u16 32, inW := p.u16 34, cIn := p.u16 36
      cOut := p.u16 38, fh := nib 40 true, fw := nib 40 false, sh := nib 41 true, sw := nib 41 false
      dh := nib 42 true, dw := nib 42 false, padT := nib 43 true, padL := nib 43 false, outH := p.u16 44
      outW := p.u16 46, fi := p.u8 48 % 32, si := bits (p.u8 48) 5 1, fwt := p.u8 49 % 32
      swt := bits (p.u8 49) 5 1, fo := p.u8 50 % 32, outOp := bits mode 6 2, ext := bit mode 5, sr := bit mode 4
      sparse := bit mode 3, stat := bit mode 2, acc := mode % 4, groups := p.u16 60
      tok := State.tokOf (p.u16 52) (p.u16 54), descAddr := p.u32 56 }
  if p.expert then some base
  else if p.fld 48 3 != 0 || clrBit mode 5 != 0 then none
  else match p.u8 63 with
    | 1 => some { base with fi := 5, fwt := 5, fo := 5 }
    | 2 => some { base with fi := 3, fwt := 3, fo := 3 }
    | _ => none

namespace ConvOp

/-- The descriptor as a check or a command reads it. -/
def desc (x : ConvOp) (rd : ByteReader) : ConvDesc :=
  if x.ext then
    let head := rd x.descAddr 128
    ConvDesc.ofBytes false x.outW (head ++ rd (x.descAddr + 128) (32 * min 8 (head.getD 88 0).toNat))
  else .none

/-- The output tensor of TILE_CONV. -/
def img (x : ConvOp) (d : ConvDesc) : ImgOut :=
  ⟨x.out, rowPitchOf d.outPitch x.outW x.pixOut, x.pixOut, x.outW, x.outH, x.cOut, x.fo, x.outBits, x.outOp⟩

/-- The parameter checks of TILE_CONV (04 R128, R147; 05 R167, R168, R173 to R175, R181, R182). -/
def tileBad (x : ConvOp) (d : ConvDesc) (s : State) (t : Nat) : Bool :=
  let inTile := spaceOf x.out == 1
  let stFmt := if x.stat then x.fi else x.fwt
  x.geomBad false || x.descBad d || !outFmt x.fo || x.outOp == 3 || (x.outOp == 1 && x.fo != 18) ||
    (x.outOp == 2 && (x.acc != 3 || x.fo != 1)) ||
    (!x.ext && (x.sr || x.sparse || isMx x.fi || isMx x.fwt || x.exchange)) ||
    (x.sparse && (x.onVector || decide (1 < x.groups) || x.stat || !(5 ≤ stFmt && stFmt ≤ 16) || x.k % 4 != 0)) ||
    rowPitchBad d.outPitch x.outW x.pixOut || (d.outPitch == 0 && !inTile) ||
    (!s.ownStore t x.out && x.out % 4 != 0) ||
    (match x.tok with | some k => !inTile || k.inc == 0 | none => false) || regionsBad (x.img d) d.regions

/-- The exchange arrays' column count: one CB word per output channel. -/
def tileIns (x : ConvOp) (d : ConvDesc) : List State.Region :=
  [(x.inA, x.inBytes d), (x.wA, x.cOut * x.pw)] ++ (if d.biasEn then [(d.bias, x.biasBytes d)] else []) ++
    (if isMx x.fi then [(d.ext.aScale, x.m * x.ps)] else []) ++
    (if isMx x.fwt then [(d.ext.bScale, x.cOut * x.ps)] else []) ++
    (if x.sparse then [(d.ext.metaAddr, x.cOut * x.pm)] else [])

/-- The descriptor and exchange regions. -/
def tileOthers (x : ConvOp) (d : ConvDesc) : List State.Region :=
  (if x.ext then [(x.descAddr, descLen (min 8 d.regionN))] else []) ++
    (if x.exchange then [(d.ext.xchg, xchgDone x.m x.cOut + 64), (d.ext.peers, 8 * d.ext.xn)] else [])

/-- The check of TILE_CONV after its opcode and unit. -/
def tileCheck (x : ConvOp) (s : State) (t : Nat) : Option Ans :=
  let rd : ByteReader := fun o n => s.memRead (tileKey t o) n
  let d := x.desc rd
  if 7 < x.fh || 7 < x.fw then some (.err Sts.filterTooLarge)
  else if x.tileBad d s t then some .param
  else if x.exchange && !(1 ≤ d.ext.xn && d.ext.xn ≤ 256) then some .param
  else
    let g := x.img d
    let xch := if x.exchange then s.xchgExtent t d.ext x.m x.cOut else []
    (State.regionCheck t (x.tileIns d) (x.tileOthers d) (s.imgLocal t g d.regions) false).or
      (s.extentCheck (s.imgExtent t g d.regions x.tok ++ xch))

/-- Every column of B; the first invalid metadata entry stops them. -/
def cols (x : ConvOp) (d : ConvDesc) (rd : ByteReader) : List Nat → Except Nat (List (List Val))
  | [] => .ok []
  | o :: l =>
    match x.colB d rd o, x.cols d rd l with
    | .ok v, .ok vs => .ok (v :: vs)
    | .error a, _ => .error a
    | _, .error a => .error a

/-- The elements of output pixel `i`, with flags. -/
def pixel (x : ConvOp) (d : ConvDesc) (rd : ByteReader) (words : Option (List Nat × List Nat)) (bs : List (List Val))
    (i : Nat) : List (Nat × Nat) :=
  ((List.range x.groups).map (fun g =>
    let a := x.rowA d rd g i
    (List.range x.ng).map (fun j => x.elem d words i (g * x.ng + j) a (bs.getD (g * x.ng + j) [])))).flatten

/-- The convolution computed and put out on a tile. Blocks are taken over output pixels (assumption 35). -/
def tileFinish (x : ConvOp) (s : State) (t : Nat) (d : ConvDesc) (words : Option (List Nat × List Nat)) : State :=
  let rd : ByteReader := fun o n => s.readCorrected (tileKey t o) n
  match x.cols d rd (List.range x.cOut) with
  | .error a => s.raiseExc t Sts.sparseMeta 0 (ownAddr (tileKey t a))
  | .ok bs =>
    let px := x.pixel d rd words bs
    let fl := (List.range x.m).foldl (fun f i => (px i).foldl (fun f v => f ||| v.2) f) 0
    let step := if x.stat && x.groups = 1 && !x.onVector then 512 else 128
    let (s, ms) := s.imgOutput t (x.img d) d.regions x.tok step (fun i => (px i).map (·.1)) (fun _ s => (s, none))
    (s.numFlags t fl).beginTile t (if x.onVector then 2 else 1)
      { Progress.empty with flags := fl, result0 := ceilDiv x.m step, script := ms, done := true }

/-- The start of TILE_CONV: operands read, the exchange of maxima where there is one, else the convolution. -/
def tileStart (x : ConvOp) (s : State) (t : Nat) (ue : Option Nat) : State :=
  let d0 := x.desc (fun o n => s.memRead (tileKey t o) n)
  let runs := (if x.ext then [(x.descAddr, descLen (min 8 d0.regionN))] else []) ++ x.tileIns d0
  match s.readRuns t ue runs with
  | (s, .error z) => s.raiseExc t z.status z.detail z.result1
  | (s, .ok _) =>
    let rd : ByteReader := fun o n => s.readCorrected (tileKey t o) n
    let d := x.desc rd
    if x.exchange then
      match x.cols d rd (List.range x.cOut) with
      | .error a => s.raiseExc t Sts.sparseMeta 0 (ownAddr (tileKey t a))
      | .ok bs =>
        let ra := (List.range x.m).map (fun i =>
          xchgWord (maxExpo ((List.range x.groups).map (fun g => x.rowA d rd g i)).flatten))
        s.beginTile t 1 { Progress.empty with
          script := s.xchgOps t d.ext ra (bs.map (fun b => xchgWord (maxExpo b))), done := true }
    else x.tileFinish s t d none

/-- The convolution after an exchange. -/
def tileResume (x : ConvOp) (s : State) (t : Nat) : State :=
  let d := x.desc (fun o n => s.readCorrected (tileKey t o) n)
  let words := fun off n => (List.range n).map (fun i => ofLE (s.memRead (tileKey t (d.ext.xchg + off + 4 * i)) 4))
  x.tileFinish s t d (some (words 0 x.m, words (xchgCb x.m) x.cOut))

end ConvOp

/-- TILE_CONV (05 R174). -/
def execTileConv (via : Via) (p : Packet) (ue : Option Nat) (s : State) : Host.Outcome State Fault Refusal :=
  .next (s.tileRow via p (p.base == 0x0220)
    (fun s t => match ConvOp.ofTile p with | none => some .param | some x => x.tileCheck s t)
    (fun s t => match ConvOp.ofTile p with | none => s | some x => x.tileStart s t ue))

/-! ## TILE_POOL -/

/-- The parameters of TILE_POOL (05 Table 5-7), the basic form's filled in. -/
structure PoolOp where
  inA : Nat
  divisor : Nat
  out : Nat
  inH : Nat
  inW : Nat
  c : Nat
  winH : Nat
  winW : Nat
  sh : Nat
  sw : Nat
  padT : Nat
  padL : Nat
  pop : Nat
  outH : Nat
  outW : Nat
  fi : Nat
  fo : Nat
  outOp : Nat
  ext : Bool
  acc : Nat
  tok : Option Tok
  descAddr : Nat
  deriving DecidableEq, Repr

/-- The parameters of a packet (05 R190). -/
def PoolOp.ofPacket (p : Packet) : Option PoolOp :=
  let mode := p.u8 50
  let base : PoolOp :=
    { inA := p.u32 16, divisor := p.u32 20, out := p.u64 24, inH := p.u16 32, inW := p.u16 34, c := p.u16 36
      winH := p.u8 38, winW := p.u8 39, sh := p.u8 40, sw := p.u8 41, padT := p.u8 42 / 16, padL := p.u8 42 % 16
      pop := p.u8 43, outH := p.u16 44, outW := p.u16 46, fi := p.u8 48 % 32, fo := p.u8 49 % 32
      outOp := bits mode 6 2, ext := bit mode 5, acc := mode % 4, tok := State.tokOf (p.u16 52) (p.u16 54)
      descAddr := p.u32 56 }
  if p.expert then some base
  else if p.u8 63 != 1 || p.u16 48 != 0 || clrBit mode 5 != 0 then none
  else some { base with fi := 5, fo := 5 }

namespace PoolOp

/-- SUM and the averages, which accumulate. -/
def sums (x : PoolOp) : Bool := 0x32 ≤ x.pop && x.pop ≤ 0x34

/-- DIV_SUM. -/
def divSum (x : PoolOp) : Bool := x.pop == 0x35

/-- Whether the anchor is fixed. -/
def fixed (x : PoolOp) : Bool := fixedPair x.fi x.fi

/-- Whether maxima are exchanged. -/
def exchange (x : PoolOp) : Bool := x.sums && x.acc == 1 && !x.fixed

/-- The descriptor. -/
def desc (x : PoolOp) (rd : ByteReader) : ConvDesc :=
  if x.ext then
    let head := rd x.descAddr 128
    ConvDesc.ofBytes false x.outW (head ++ rd (x.descAddr + 128) (32 * min 8 (head.getD 88 0).toNat))
  else .none

/-- K_TOTAL with its default (05 R183). -/
def kTotal (x : PoolOp) (d : ConvDesc) : Nat :=
  if x.pop = 0x34 && d.kTotal != 0 then d.kTotal else x.winH * x.winW

/-- The bits of an output element. -/
def outBits (x : PoolOp) : Nat := if x.outOp = 1 then 256 else elemBits x.fo 0

/-- The input's pixel pitch. -/
def pixIn (x : PoolOp) : Nat := pixOf x.c (elemBits x.fi 0)

/-- The output tensor. -/
def img (x : PoolOp) (d : ConvDesc) : ImgOut :=
  let pix := pixOf x.c x.outBits
  ⟨x.out, rowPitchOf d.outPitch x.outW pix, pix, x.outW, x.outH, x.c, x.fo, x.outBits, x.outOp⟩

/-- The parameter checks (05 R183, R184, Table 5-7). -/
def paramBad (x : PoolOp) (d : ConvDesc) (s : State) (t : Nat) : Bool :=
  let inTile := spaceOf x.out == 1
  let okIn := (1 ≤ x.fi && x.fi ≤ 9) || (14 ≤ x.fi && x.fi ≤ 16)
  let okOut := (1 ≤ x.fo && x.fo ≤ 9) || x.fo == 14 || x.fo == 15 || x.fo == 17 || (x.fo == 18 && x.pop == 0x34)
  !(0x30 ≤ x.pop && x.pop ≤ 0x35) || x.inH == 0 || x.inW == 0 || x.c == 0 || x.winH == 0 || x.winW == 0 || x.sh == 0 ||
    x.sw == 0 || x.outH == 0 || x.outW == 0 || (if x.divSum then x.fi != 18 else !okIn) || !okOut ||
    !(x.outOp == 0 || (x.outOp == 1 && x.pop == 0x34 && x.fo == 18)) ||
    (x.divSum && (x.winH != 1 || x.winW != 1 || x.sh != 1 || x.sw != 1 || x.padT != 0 || x.padL != 0 ||
      x.divisor == 0 || decide (2 ^ 31 < x.divisor))) ||
    (x.exchange && !x.ext) || (x.sums && x.acc == 2 && d.decl == -32768) ||
    (x.sums && (decide (x.kTotal d < x.winH * x.winW) || decide (2 ^ 31 < x.kTotal d))) ||
    rowPitchBad d.inPitch x.inW x.pixIn || rowPitchBad d.outPitch x.outW (x.img d).pix ||
    (d.outPitch == 0 && !inTile) || (!s.ownStore t x.out && x.out % 4 != 0) || decide (8 < d.regionN) ||
    (match x.tok with | some k => !inTile || k.inc == 0 | none => false) || regionsBad (x.img d) d.regions

/-- The input region. -/
def ins (x : PoolOp) (d : ConvDesc) : List State.Region :=
  [(x.inA, (x.inH - 1) * rowPitchOf d.inPitch x.inW x.pixIn + x.inW * x.pixIn)]

/-- The descriptor and exchange regions; the sum's constant has no CB words, as for TILE_VRED SUM. -/
def others (x : PoolOp) (d : ConvDesc) : List State.Region :=
  (if x.ext then [(x.descAddr, descLen (min 8 d.regionN))] else []) ++
    (if x.exchange then
      [(d.ext.xchg, xchgDone (x.outH * x.outW * x.c) 0 + 64), (d.ext.peers, 8 * d.ext.xn)] else [])

/-- The check of TILE_POOL after its opcode and unit. -/
def check (x : PoolOp) (s : State) (t : Nat) : Option Ans :=
  let d := x.desc (fun o n => s.memRead (tileKey t o) n)
  if x.paramBad d s t then some .param
  else if x.exchange && !(1 ≤ d.ext.xn && d.ext.xn ≤ 256) then some .param
  else
    let g := x.img d
    let xch := if x.exchange then s.xchgExtent t d.ext (x.outH * x.outW * x.c) 0 else []
    (State.regionCheck t (x.ins d) (x.others d) (s.imgLocal t g d.regions) false).or
      (s.extentCheck (s.imgExtent t g d.regions x.tok ++ xch))

/-- The input elements of a window that lie inside the input, raw. -/
def window (x : PoolOp) (d : ConvDesc) (rd : ByteReader) (i c : Nat) : List Nat :=
  let b := elemBits x.fi 0
  let rp := rowPitchOf d.inPitch x.inW x.pixIn
  let taps := ((List.range x.winH).map (fun fh => (List.range x.winW).map (fun fw => (fh, fw)))).flatten
  taps.filterMap (fun (fh, fw) =>
    let y : Int := (i / x.outW * x.sh + fh : Nat) - (x.padT : Int)
    let xx : Int := (i % x.outW * x.sw + fw : Nat) - (x.padL : Int)
    if y < 0 || (x.inH : Int) ≤ y || xx < 0 || (x.inW : Int) ≤ xx then none
    else some (bits (ofLE (rd (x.inA + y.toNat * rp + xx.toNat * x.pixIn) x.pixIn)) (c * b) b))

/-- An exact value divided by a positive number, as a magnitude that rounds once (05 R183). -/
def quot (v : Val) (n : Nat) : Res :=
  match v with
  | .nan => .nan
  | .inf k => .inf k
  | .fin neg m e => .fin neg ⟨m * 2 ^ 400 / n, e - 400, m * 2 ^ 400 % n != 0⟩

/-- Output element (i, c) with its flags (05 R183). -/
def elem (x : PoolOp) (d : ConvDesc) (rd : ByteReader) (words : Option (List Nat)) (i c : Nat) : Nat × Nat :=
  let raws := x.window d rd i c
  if raws.isEmpty then (if x.fo = 18 then ofLE (Acc.start 0).toBytes else 0, 0)
  else if x.divSum then
    let a := Acc.ofBytes (leBytes 32 (raws.getD 0 0))
    let (v, f) := a.toVal
    let (y, g) := convert .rne x.fo (quot v x.divisor)
    (y, f ||| g ||| a.flags)
  else
    let vs := raws.map (readElem x.fi)
    match x.pop, vs with
    | 0x30, v :: l => convertVal .rne x.fo (l.foldl Val.max v)
    | 0x31, v :: l => convertVal .rne x.fo (l.foldl Val.min v)
    | _, _ =>
      let scan := match words with
        | some ws => anchorOfWords (ws.getD (i * x.c + c) 0) 0x8000 (x.kTotal d)
        | none => anchorOf (maxExpo vs) (some 0) (x.kTotal d)
      let (a, fl) := accumulate x.acc (anchorFor x.acc d.decl x.fixed scan) vs
      if x.pop = 0x34 then
        let (v, g) := emitAcc .rne x.fo x.acc a
        (v, fl ||| g)
      else
        let n := if x.pop = 0x32 then vs.length else x.winH * x.winW
        let (v, f) := a.toVal
        let (y, g) := convert .rne x.fo (quot v n)
        (y, fl ||| f ||| g ||| a.flags ||| Flag.on (x.acc == 3) Flag.nonrepro)

/-- The pooling computed and put out. -/
def finish (x : PoolOp) (s : State) (t : Nat) (d : ConvDesc) (words : Option (List Nat)) : State :=
  let rd : ByteReader := fun o n => s.readCorrected (tileKey t o) n
  let px := fun i => (List.range x.c).map (x.elem d rd words i)
  let fl := (List.range (x.outH * x.outW)).foldl (fun f i => (px i).foldl (fun f v => f ||| v.2) f) 0
  let (s, ms) := s.imgOutput t (x.img d) d.regions x.tok 128 (fun i => (px i).map (·.1)) (fun _ s => (s, none))
  (s.numFlags t fl).beginTile t 2
    { Progress.empty with flags := fl, result0 := ceilDiv (x.outH * x.outW) 128, script := ms, done := true }

/-- The start of TILE_POOL. -/
def start (x : PoolOp) (s : State) (t : Nat) (ue : Option Nat) : State :=
  let d0 := x.desc (fun o n => s.memRead (tileKey t o) n)
  let runs := (if x.ext then [(x.descAddr, descLen (min 8 d0.regionN))] else []) ++ x.ins d0
  match s.readRuns t ue runs with
  | (s, .error z) => s.raiseExc t z.status z.detail z.result1
  | (s, .ok _) =>
    let rd : ByteReader := fun o n => s.readCorrected (tileKey t o) n
    let d := x.desc rd
    if x.exchange then
      let ra := ((List.range (x.outH * x.outW)).map (fun i => (List.range x.c).map (fun c =>
        xchgWord (maxExpo ((x.window d rd i c).map (readElem x.fi)))))).flatten
      s.beginTile t 2 { Progress.empty with script := s.xchgOps t d.ext ra [], done := true }
    else x.finish s t d none

/-- The pooling after an exchange. -/
def resume (x : PoolOp) (s : State) (t : Nat) : State :=
  let d := x.desc (fun o n => s.readCorrected (tileKey t o) n)
  let words := (List.range (x.outH * x.outW * x.c)).map (fun i =>
    ofLE (s.memRead (tileKey t (d.ext.xchg + 4 * i)) 4))
  x.finish s t d (some words)

end PoolOp

/-- TILE_POOL (05 R183). -/
def execTilePool (via : Via) (p : Packet) (ue : Option Nat) (s : State) : Host.Outcome State Fault Refusal :=
  .next (s.tileRow via p (p.base == 0x0221)
    (fun s t => match PoolOp.ofPacket p with | none => some .param | some x => x.check s t)
    (fun s t => match PoolOp.ofPacket p with | none => s | some x => x.start s t ue))

end Sys2Proof.Machine
end

