-- ==== Sys2Proof/Machine/TileMat.lean ====
section
/-! DEFINITION. TILE_MATMUL (04 R123 to R130, R146 to R150). -/

namespace Sys2Proof.Machine

/-- The parameters of TILE_MATMUL (04 Tables 4-5 and 4-6), the basic form's filled in. -/
structure MatOp where
  a : Nat
  b : Nat
  out : Nat
  m : Nat
  n : Nat
  k : Nat
  fa : Nat
  sa : Nat
  fb : Nat
  sb : Nat
  fo : Nat
  outOp : Nat
  ext : Bool
  sr : Bool
  sparse : Bool
  stat : Bool
  acc : Nat
  decl : Int
  kTotal : Nat
  extAddr : Nat
  tok : Option Tok
  pitch0 : Nat
  basic : Bool
  deriving DecidableEq, Repr

/-- The formats of the basic profiles (04 Table 4-4). -/
def matProfile : Nat → Option (Nat × Nat)
  | 1 => some (5, 3)
  | 2 => some (3, 3)
  | 3 => some (3, 1)
  | 4 => some (14, 17)
  | _ => none

/-- The parameters of a packet; none for a basic packet without a profile or with a fixed field that is not 0
(04 R145). -/
def MatOp.ofPacket (p : Packet) : Option MatOp :=
  let mode := p.u8 41
  let base : MatOp :=
    { a := p.u32 16, b := p.u32 20, out := p.u64 24, m := p.u16 32, n := p.u16 34, k := p.u16 36
      fa := p.u8 38 % 32, sa := bits (p.u8 38) 5 1, fb := p.u8 39 % 32, sb := bits (p.u8 39) 5 1, fo := p.u8 40 % 32
      outOp := bits mode 6 2, ext := bit mode 5, sr := bit mode 4, sparse := bit mode 3, stat := bit mode 2
      acc := mode % 4, decl := sext 16 (p.u16 42), kTotal := p.u32 44, extAddr := p.u32 48
      tok := State.tokOf (p.u16 52) (p.u16 54), pitch0 := p.u32 56, basic := false }
  if p.expert then some base
  else if p.fld 38 6 != 0 || p.u32 44 != 0 || p.u32 48 != 0 then none
  else match matProfile (p.u8 63) with
    | none => none
    | some (f, fo) => some { base with fa := f, fb := f, fo := fo, kTotal := p.u16 36, basic := true }

namespace MatOp

/-- Whether the anchor is fixed by the formats (03 R105). -/
def fixed (x : MatOp) : Bool := fixedPair x.fa x.fb

/-- Whether the anchors come from a pre-scan with exchange (04 R148). -/
def exchange (x : MatOp) : Bool := x.acc == 1 && !x.fixed

/-- Whether A or B is held compressed. -/
def sparseA (x : MatOp) : Bool := x.sparse && x.stat

/-- Whether B is held compressed. -/
def sparseB (x : MatOp) : Bool := x.sparse && !x.stat

/-- Stored elements of a row of A. -/
def ka (x : MatOp) : Nat := if x.sparseA then x.k / 2 else x.k

/-- Stored elements of a column of B. -/
def kb (x : MatOp) : Nat := if x.sparseB then x.k / 2 else x.k

/-- The pitch of A (04 R126). -/
def pa (x : MatOp) : Nat := linePitch x.ka (elemBits x.fa x.sa)

/-- The pitch of B. -/
def pb (x : MatOp) : Nat := linePitch x.kb (elemBits x.fb x.sb)

/-- The pitch of an MX scale array (04 R126). -/
def ps (x : MatOp) : Nat := 64 * ceilDiv x.k 2048

/-- The pitch of the metadata (04 R129). -/
def pm (x : MatOp) : Nat := 64 * ceilDiv x.k 512

/-- The bits of an output element as it leaves. -/
def outBits (x : MatOp) : Nat := if x.outOp = 1 then 256 else if x.outOp = 2 then 32 else elemBits x.fo 0

/-- The bytes of an output row. -/
def rowBytes (x : MatOp) : Nat := if x.outOp = 0 then runBytes x.fo 0 x.n else x.n * x.outBits / 8

/-- The output's row stride (04 R127). -/
def pitch (x : MatOp) : Nat := if x.pitch0 = 0 then linePitch x.n x.outBits else x.pitch0

/-- The rows and columns of a block (04 R125). -/
def blockM (x : MatOp) : Nat := if x.stat then 512 else 128

/-- The columns of a block. -/
def blockN (x : MatOp) : Nat := if x.stat then 128 else 512

/-- The blocks, N outer and M inner (04 R124): first row, rows, first column, columns. -/
def blocks (x : MatOp) : List (Nat × Nat × Nat × Nat) :=
  ((List.range (ceilDiv x.n x.blockN)).map (fun j => (List.range (ceilDiv x.m x.blockM)).map (fun i =>
    (i * x.blockM, min x.blockM (x.m - i * x.blockM), j * x.blockN, min x.blockN (x.n - j * x.blockN))))).flatten

/-- The parameter checks (04 R126 to R128, R146, R147; 03 R105, R106, R109, R116). -/
def paramBad (x : MatOp) (s : State) (t : Nat) : Bool :=
  let own := s.ownStore t x.out
  let inTile := spaceOf x.out == 1
  let mx := isMx x.fa || isMx x.fb
  (x.basic && !own) || x.m == 0 || x.n == 0 || x.k == 0 || groupOf x.fa == 0 || groupOf x.fa != groupOf x.fb ||
    !outFmt x.fo || (mx && x.k % 32 != 0) || decide (x.kTotal < x.k) || decide (2 ^ 31 < x.kTotal) ||
    x.outOp == 3 || (x.outOp == 1 && x.fo != 18) || (x.outOp == 2 && (x.acc != 3 || x.fo != 1)) ||
    (x.sr && decide (9 < x.fo)) ||
    (!x.ext && (x.sr || x.sparse || mx || x.exchange)) ||
    (x.acc == 2 && x.decl == -32768) ||
    (match x.tok with | some k => !inTile || k.inc == 0 | none => false) ||
    (x.sparse && (!(5 ≤ (if x.stat then x.fa else x.fb) && (if x.stat then x.fa else x.fb) ≤ 16) || x.k % 4 != 0)) ||
    (x.pitch0 == 0 && !inTile) ||
    (!own && (x.out % 4 != 0 || x.pitch % 4 != 0 || decide (x.pitch < ceilDiv x.rowBytes 4 * 4)))

/-- Every input region. -/
def ins (x : MatOp) (e : TileExt) : List State.Region :=
  [(x.a, x.m * x.pa), (x.b, x.n * x.pb)] ++ (if isMx x.fa then [(e.aScale, x.m * x.ps)] else []) ++
    (if isMx x.fb then [(e.bScale, x.n * x.ps)] else []) ++
    (if x.sparse then [(e.metaAddr, (if x.stat then x.m else x.n) * x.pm)] else [])

/-- The descriptor and exchange regions. -/
def others (x : MatOp) (e : TileExt) : List State.Region :=
  (if x.ext then [(x.extAddr, 64)] else []) ++
    (if x.exchange then [(e.xchg, xchgDone x.m x.n + 64), (e.peers, 8 * e.xn)] else [])

/-- The local output region. -/
def outs (x : MatOp) (s : State) (t : Nat) : List State.Region :=
  if s.ownStore t x.out then [(offOf x.out % 2 ^ 23, (x.m - 1) * x.pitch + x.rowBytes)] else []

/-- The remote operations of the whole extent with no data (08 R304). -/
def extent (x : MatOp) (s : State) (t : Nat) (e : TileExt) : List (List Req) :=
  let zeros := List.replicate x.rowBytes (0 : Byte)
  let rows := (List.range x.m).map (fun i =>
    let a := x.out + i * x.pitch
    match x.outOp with
    | 1 => (List.range x.n).map (fun j => Req.make (a + 32 * j) s.srcMod t 32 opLaccAdd none (List.replicate 32 0))
    | 2 => (List.range x.n).map (fun j => Req.make (a + 4 * j) s.srcMod t 4 opFadd32 none (List.replicate 4 0))
    | _ => if s.ownStore t x.out then [] else scriptReqs (storeOps s.srcMod t a zeros))
  [rows.flatten, scriptReqs (tokenOps s.srcMod t x.out x.tok)] ++ (if x.exchange then s.xchgExtent t e x.m x.n else [])

/-- The values of row `i` of A or column `i` of B along K, pruned positions zero (03 R117, 04 R129), with the address of
an invalid metadata entry if there is one (04 R130). -/
def line (x : MatOp) (s : State) (t : Nat) (e : TileExt) (isA : Bool) (i : Nat) : Except Nat (List Val) :=
  let (base, pitch, fmt, sub, sc, sp, cnt) :=
    if isA then (x.a, x.pa, x.fa, x.sa, e.aScale, x.sparseA, x.ka) else (x.b, x.pb, x.fb, x.sb, e.bScale, x.sparseB, x.kb)
  let rd := fun off n => s.readCorrected (tileKey t off) n
  let raw := rd (base + i * pitch) (runBytes fmt sub cnt)
  let scales := if isMx fmt then rd (sc + i * x.ps) (x.k / 32) else []
  if !sp then .ok (valsOf fmt sub x.k raw scales)
  else
    let ms := rd (e.metaAddr + i * x.pm) (ceilDiv x.k 8)
    let entry := fun g => bits (ms.getD (g / 2) 0).toNat (4 * (g % 2)) 4
    let groups := List.range (x.k / 4)
    match groups.find? (fun g => decide (entry g / 4 ≤ entry g % 4)) with
    | some g => .error (ownAddr (tileKey t (e.metaAddr + i * x.pm + g / 2)))
    | none =>
      let elems := rawElems (elemBits fmt sub) cnt raw
      let one := fun pos (j : Nat) =>
        let v := readElem (elemFmt fmt sub) (elems.getD j 0)
        if isMx fmt then applyScale fmt (scales.getD (pos / 32) 0).toNat v else v
      .ok (groups.map (fun g => (List.range 4).map (fun q =>
        if q = entry g % 4 then one (4 * g + q) (2 * g)
        else if q = entry g / 4 then one (4 * g + q) (2 * g + 1)
        else .zero))).flatten

/-- Several rows or columns; the first invalid metadata entry stops them. -/
def lines (x : MatOp) (s : State) (t : Nat) (e : TileExt) (isA : Bool) : List Nat → Except Nat (List (List Val))
  | [] => .ok []
  | i :: l =>
    match x.line s t e isA i, x.lines s t e isA l with
    | .ok v, .ok vs => .ok (v :: vs)
    | .error a, _ => .error a
    | _, .error a => .error a

/-- The runs of the tile store that a block reads. -/
def blockRuns (x : MatOp) (e : TileExt) (r0 rows c0 cols : Nat) : List State.Region :=
  let side := fun base pitch fmt sub cnt sc sp i0 n => ((List.range n).map (fun d =>
    let i := i0 + d
    [(base + i * pitch, runBytes fmt sub cnt)] ++ (if isMx fmt then [(sc + i * x.ps, x.k / 32)] else []) ++
      (if sp then [(e.metaAddr + i * x.pm, ceilDiv x.k 8)] else []))).flatten
  side x.a x.pa x.fa x.sa x.ka e.aScale x.sparseA r0 rows ++ side x.b x.pb x.fb x.sb x.kb e.bScale x.sparseB c0 cols

/-- One block computed and put out (04 R123, R124, R149, R150); `anchors` gives RA and CB words, or local maxima are
used. -/
def block (x : MatOp) (s : State) (t : Nat) (e : TileExt) (ue : Option Nat) (words : Option (List Nat × List Nat))
    (idx r0 rows c0 cols : Nat) : State × List Micro × Nat × Option Exc :=
  match s.readRuns t ue (x.blockRuns e r0 rows c0 cols) with
  | (s, .error z) => (s, [], 0, some z)
  | (s, .ok _) =>
    match x.lines s t e true (rangeFrom r0 rows), x.lines s t e false (rangeFrom c0 cols) with
    | .error a, _ => (s, [], 0, some ⟨Sts.sparseMeta, 0, a⟩)
    | _, .error a => (s, [], 0, some ⟨Sts.sparseMeta, 0, a⟩)
    | .ok as, .ok bs =>
      let cbs := bs.map maxExpo
      let elem := fun (i : Nat) (av : List Val) (ra : Option Int) (j : Nat) (bv : List Val) =>
        let scan := match words with
          | some (ras, cws) => anchorOfWords (ras.getD (r0 + i) 0) (cws.getD (c0 + j) 0) x.kTotal
          | none => anchorOf ra (cbs.getD j none) x.kTotal
        let (c, fl) := accumulate x.acc (anchorFor x.acc x.decl x.fixed scan) (List.zipWith Val.mul av bv)
        let d := e.eBase + (r0 + i) * e.eStride + (c0 + j)
        let (v, g) := emitAcc (e.rounding x.sr d) x.fo x.acc c
        (v, fl ||| g)
      let rowsOut := (List.range rows).map (fun i =>
        let av := as.getD i []
        let ra := maxExpo av
        (List.range cols).map (fun j => elem i av ra j (bs.getD j [])))
      let fl := rowsOut.foldl (fun f r => r.foldl (fun f v => f ||| v.2) f) 0
      let runs := (List.range rows).map (fun i =>
        (x.out + (r0 + i) * x.pitch + c0 * x.outBits / 8, (rowsOut.getD i []).map (·.1)))
      let (s, ms, z) := s.putRuns t x.outOp x.fo runs
      (s, ms ++ (if z.isNone then [.block (idx + 1)] else []), fl, z)

/-- The blocks computed in order; an exception ends them, after what the earlier ones put out. -/
def run (x : MatOp) (t : Nat) (e : TileExt) (ue : Option Nat) (words : Option (List Nat × List Nat)) :
    Nat → List (Nat × Nat × Nat × Nat) → State → State × List Micro × Nat × Bool
  | _, [], s => (s, [], 0, true)
  | idx, (r0, rows, c0, cols) :: l, s =>
    match x.block s t e ue words idx r0 rows c0 cols with
    | (s, ms, fl, some z) => (s, ms ++ [.trap z], fl, false)
    | (s, ms, fl, none) =>
      let (s, ns, g, ok) := x.run t e ue words (idx + 1) l s
      (s, ms ++ ns, fl ||| g, ok)

/-- The passes a block takes and the rows they stream (04 Table 4-2, R124). -/
def countPasses (x : MatOp) (s : State) (t : Nat) : State :=
  let kp0 := if elemBits x.fa x.sa = 4 && elemBits x.fb x.sb = 4 then 256 else 128
  let p := ceilDiv x.k (if x.sparse then 2 * kp0 else kp0)
  let streamed := (x.blocks.map (fun b => if x.stat then b.2.2.2 else b.2.1)).foldl (· + ·) 0
  (s.tileEvent t (if x.sparse then 13 else 12) (p * x.blocks.length)).tileEvent t 14 (p * streamed)

/-- All blocks computed, the token after them, and the command's progress (04 R143, R150). -/
def finish (x : MatOp) (s : State) (t : Nat) (e : TileExt) (ue : Option Nat) (words : Option (List Nat × List Nat)) :
    State :=
  let s := x.countPasses s t
  let (s, ms, fl, ok) := x.run t e ue words 0 x.blocks s
  let s := s.numFlags t fl
  let script := ms ++ (if ok then tokenOps s.srcMod t x.out x.tok else [])
  s.beginTile t 1 { Progress.empty with flags := fl, result0 := x.blocks.length, script := script, done := true }

/-- The check of TILE_MATMUL after its opcode and unit. -/
def check (x : MatOp) (s : State) (t : Nat) : Option Ans :=
  let e := s.peekExt t x.extAddr
  if x.paramBad s t then some .param
  else if x.exchange && !(1 ≤ e.xn && e.xn ≤ 256) then some .param
  else (State.regionCheck t (x.ins e) (x.others e) (x.outs s t) false).or (s.extentCheck (x.extent s t e))

/-- The start of TILE_MATMUL: the descriptor read, the exchange of maxima where there is one, else the product. -/
def start (x : MatOp) (s : State) (t : Nat) (ue : Option Nat) : State :=
  match s.readRuns t ue (if x.ext then [(x.extAddr, 64)] else []) with
  | (s, .error z) => s.raiseExc t z.status z.detail z.result1
  | (s, .ok bss) =>
    let e := TileExt.ofBytes bss.flatten
    if x.exchange then
      match s.readRuns t ue (x.blockRuns e 0 x.m 0 x.n) with
      | (s, .error z) => s.raiseExc t z.status z.detail z.result1
      | (s, .ok _) =>
        match x.lines s t e true (List.range x.m), x.lines s t e false (List.range x.n) with
        | .error a, _ => s.raiseExc t Sts.sparseMeta 0 a
        | _, .error a => s.raiseExc t Sts.sparseMeta 0 a
        | .ok as, .ok bs =>
          let w := fun (l : List (List Val)) => l.map (fun v => xchgWord (maxExpo v))
          s.beginTile t 1 { Progress.empty with script := s.xchgOps t e (w as) (w bs), done := true }
    else x.finish s t e ue none

/-- The product after an exchange (03 R107): the common words are read from the tile's own arrays. -/
def resume (x : MatOp) (s : State) (t : Nat) : State :=
  let e := s.peekExt t x.extAddr
  let words := fun off n => (List.range n).map (fun i => ofLE (s.memRead (tileKey t (e.xchg + off + 4 * i)) 4))
  x.finish s t e none (some (words 0 x.m, words (xchgCb x.m) x.n))

end MatOp

/-- TILE_MATMUL (04 R146). -/
def execTileMatmul (via : Via) (p : Packet) (ue : Option Nat) (s : State) : Host.Outcome State Fault Refusal :=
  .next (s.tileRow via p (p.base == 0x0200)
    (fun s t => match MatOp.ofPacket p with | none => some .param | some x => x.check s t)
    (fun s t => match MatOp.ofPacket p with | none => s | some x => x.start s t ue))

end Sys2Proof.Machine
end

