-- ==== Sys2Proof/Machine/TileMove.lean ====
section
/-! DEFINITION. TILE_XFER, TILE_ATOMIC, TILE_FENCE, TILE_WAIT and TILE_SYNC_SET (04 R153 to R155). -/

namespace Sys2Proof.Machine

/-- A global address of a basic packet: its module field must be 0 and stands for 0xFFF (04 Table 4-4). -/
def basicAddr (p : Packet) (a : Nat) : Option Nat :=
  if p.expert then some a else if modOf a = 0 then some (ownAddr a) else none

/-- The parameters of TILE_XFER (04 Table 4-10). -/
structure XferOp where
  loc : Nat
  remote : Nat
  rowBytes : Nat
  rows : Nat
  dir : Nat
  locPitch : Nat
  remPitch : Nat
  tok : Option Tok
  deriving DecidableEq, Repr

/-- The parameters of a packet. -/
def XferOp.ofPacket (p : Packet) : Option XferOp :=
  match basicAddr p (p.u64 24) with
  | none => none
  | some r =>
    if profileOne p then
      some ⟨p.u32 16, r, p.u32 32, p.u16 36, p.u8 38, p.u32 40, p.u32 44, State.tokOf (p.u16 48) (p.u16 50)⟩
    else none

namespace XferOp

/-- The parameter checks (04 R134, R153, Table 4-10). -/
def paramBad (x : XferOp) : Bool :=
  x.loc % 4 != 0 || decide (2 ^ 23 ≤ x.loc) || decide (x.rowBytes < 4) || decide (4194304 < x.rowBytes) ||
    x.rowBytes % 4 != 0 || x.rows == 0 || decide (1 < x.dir) || x.locPitch % 4 != 0 || x.remPitch % 4 != 0 ||
    (match x.tok with | some k => k.inc == 0 | none => false)

/-- A row cut so that no piece crosses a 64-byte line at either end (04 R153): local offset, remote address, length. -/
def cutRowAux (l r : Nat) : Nat → Nat → List (Nat × Nat × Nat)
  | 0, _ => []
  | fuel + 1, n =>
    if n = 0 then []
    else
      let z := min n (min (64 - l % 64) (64 - r % 64))
      (l, r, z) :: cutRowAux (l + z) (r + z) fuel (n - z)

/-- The pieces of the whole region. -/
def pieces (x : XferOp) : List (Nat × Nat × Nat) :=
  ((List.range x.rows).map (fun i =>
    cutRowAux (x.loc + i * x.locPitch) (x.remote + i * x.remPitch) (x.rowBytes / 4 + 1) x.rowBytes)).flatten

/-- The bytes of the local region. -/
def locBytes (x : XferOp) : Nat := (x.rows - 1) * x.locPitch + x.rowBytes

/-- The operations, with the data of a store taken from the tile store. -/
def ops (x : XferOp) (s : State) (t : Nat) : List Micro :=
  x.pieces.map (fun (l, r, z) =>
    if x.dir = 0 then .op (Req.make r s.srcMod t z opLoad none []) (.store l)
    else .op (Req.make r s.srcMod t z opStore none (s.readCorrected (tileKey t l) z)) .none)

/-- The token: of a store at the tile that REMOTE names, of a load at the issuing tile once the last byte has landed. -/
def tokens (x : XferOp) (s : State) (t : Nat) : List Micro :=
  if x.dir = 1 then tokenOps s.srcMod t x.remote x.tok
  else match x.tok with
    | none => []
    | some k => [.fence, .incr k.ctr k.inc]

/-- The check of TILE_XFER after its opcode and unit. -/
def check (x : XferOp) (s : State) (t : Nat) : Option Ans :=
  if x.paramBad then some .param
  else if !State.inStore x.loc x.locBytes then some (.fault (ownAddr (tileKey t x.loc)))
  else s.extentCheck [scriptReqs (x.ops s t), scriptReqs (x.tokens s t)]

/-- The start of TILE_XFER: its operations are posted (04 R142). -/
def start (x : XferOp) (s : State) (t : Nat) (ue : Option Nat) : State :=
  let runs := if x.dir = 1 then (List.range x.rows).map (fun i => (x.loc + i * x.locPitch, x.rowBytes)) else []
  match s.readRuns t ue runs with
  | (s, .error z) => s.raiseExc t z.status z.detail z.result1
  | (s, .ok _) => s.beginTile t 4 { Progress.empty with script := x.ops s t ++ x.tokens s t, done := true }

end XferOp

/-- TILE_XFER (04 R153). -/
def execTileXfer (via : Via) (p : Packet) (ue : Option Nat) (s : State) : Host.Outcome State Fault Refusal :=
  .next (s.tileRow via p (p.base == 0x0204)
    (fun s t => match XferOp.ofPacket p with | none => some .param | some x => x.check s t)
    (fun s t => match XferOp.ofPacket p with | none => s | some x => x.start s t ue))

/-! ## TILE_ATOMIC -/

/-- The operation of TILE_ATOMIC with its operand (04 Table 4-10; 08 R278, R283). -/
def atomicReq (s : State) (t : Nat) (p : Packet) (target : Nat) : Req :=
  let op := p.u8 32
  let data :=
    if op = 0x30 then p.bytes 36 4 ++ p.bytes 24 4
    else if op = 0x31 then p.bytes 36 8 ++ p.bytes 24 8
    else if opBase op = opLaccAdd then s.readCorrected (tileKey t (p.u32 44)) 32
    else p.bytes 24 (atomWidth op)
  Req.make target s.srcMod t data.length op (State.tokOf (p.u16 48) (p.u16 50)) data

/-- Whether LOCAL takes part: the source of LACC-add or the destination of a returned value. -/
def atomicUsesLocal (op : Nat) : Bool := isReturning op || opBase op == opLaccAdd

/-- The check of TILE_ATOMIC after its opcode and unit (04 R134, 08 R278, R282). -/
def atomicCheck (s : State) (t : Nat) (p : Packet) : Option Ans :=
  match basicAddr p (p.u64 16) with
  | none => some .param
  | some target =>
    let op := p.u8 32
    let l := p.u32 44
    if !profileOne p || !isAtomic op || (bit (p.u16 48) 15 && p.u16 50 == 0) ||
        (atomicUsesLocal op && (l % 4 != 0 || decide (2 ^ 23 ≤ l))) then some .param
    else if atomicUsesLocal op && !State.inStore l (atomWidth op) then some (.fault (ownAddr (tileKey t l)))
    else s.extentCheck [[atomicReq s t p target]]

/-- The start of TILE_ATOMIC: a fence before a token (04 R143); a returning operation is not posted (04 R154). -/
def atomicStart (s : State) (t : Nat) (p : Packet) (ue : Option Nat) : State :=
  let op := p.u8 32
  let l := p.u32 44
  match basicAddr p (p.u64 16), s.readRuns t ue (if opBase op = opLaccAdd then [(l, 32)] else []) with
  | _, (s, .error z) => s.raiseExc t z.status z.detail z.result1
  | none, (s, .ok _) => s
  | some target, (s, .ok _) =>
    let q := atomicReq s t p target
    s.beginTile t 4 { Progress.empty with
      script := (if q.tokEn then [.fence] else []) ++ [.op q (if isReturning op then .value l else .none)]
      done := !isReturning op }

/-- TILE_ATOMIC (04 R154). -/
def execTileAtomic (via : Via) (p : Packet) (ue : Option Nat) (s : State) : Host.Outcome State Fault Refusal :=
  .next (s.tileRow via p (p.base == 0x0205) (fun s t => atomicCheck s t p) (fun s t => atomicStart s t p ue))

/-! ## Synchronisation -/

/-- TILE_FENCE (04 R155). -/
def execTileFence (via : Via) (p : Packet) (s : State) : Host.Outcome State Fault Refusal :=
  .next (s.tileRow via p (p.base == 0x0206) (fun _ _ => if profileOne p then none else some .param)
    (fun s t => s.beginTile t 4 { Progress.empty with script := [.fence], done := true }))

/-- TILE_WAIT (04 R141): the wait is pending until it passes or times out. -/
def execTileWait (via : Via) (p : Packet) (s : State) : Host.Outcome State Fault Refusal :=
  .next (s.tileRow via p (p.base == 0x0207)
    (fun _ _ => if profileOne p && (p.expert || p.u16 24 == 0) then none else some .param)
    (fun s t => s.updTile t (fun x =>
      { x with wait := some ⟨p.u8 16 % 32, p.u32 20, if bit (p.u8 17) 0 then p.u32 20 else 0, p.u16 24⟩, engine := 0
               prog := { Progress.empty with done := true } })))

/-- TILE_SYNC_SET (04 R140, Table 4-10): the counter takes the value. -/
def execTileSyncSet (via : Via) (p : Packet) (s : State) : Host.Outcome State Fault Refusal :=
  .next (s.tileRow via p (p.base == 0x0208) (fun _ _ => if profileOne p then none else some .param)
    (fun s t => (s.wr (Reg.TILE_SYNC (s.siteOf t) (p.u8 16 % 32)) (p.u32 20)).beginTile t 0
      { Progress.empty with done := true }))

end Sys2Proof.Machine
end

