-- ==== Sys2Proof/Machine/TileVec.lean ====
section
/-! DEFINITION. TILE_VEC and TILE_VRED (04 R135, R151, R152; 03 R118, R119). -/

namespace Sys2Proof.Machine

/-- The parameters of TILE_VEC (04 Table 4-7), the basic form's filled in. -/
structure VecOp where
  src0 : Nat
  src1 : Nat
  src2 : Nat
  dst : Nat
  count : Nat
  rowLen : Nat
  fi : Nat
  si : Nat
  fo : Nat
  so : Nat
  vop : Nat
  bcast : Nat
  sr : Bool
  extAddr : Nat
  deriving DecidableEq, Repr

/-- The parameters of a packet (04 R145). -/
def VecOp.ofPacket (p : Packet) : Option VecOp :=
  let base : VecOp :=
    { src0 := p.u32 16, src1 := p.u32 20, src2 := p.u32 24, dst := p.u32 28, count := p.u32 32, rowLen := p.u16 36
      fi := p.u8 38 % 32, si := bits (p.u8 38) 5 1, fo := p.u8 39 % 32, so := bits (p.u8 39) 5 1, vop := p.u8 40
      bcast := bits (p.u8 41) 1 2, sr := bit (p.u8 41) 0, extAddr := p.u32 48 }
  if p.expert then some base
  else if p.u16 38 != 0 || bit (p.u8 41) 0 then none
  else match p.u8 63 with
    | 1 => some { base with fi := 3, fo := 3 }
    | 2 => some { base with fi := 1, fo := 1 }
    | _ => none

/-- The unary function of a VOP (04 Table 4-7). -/
def unaryFn : Nat → Option Unary.Fn
  | 0x10 => some .exp2
  | 0x11 => some .log2
  | 0x12 => some .recip
  | 0x13 => some .rsqrt
  | 0x14 => some .sigmoid
  | 0x15 => some .tanh
  | 0x16 => some .gelu
  | 0x17 => some .silu
  | _ => none

namespace VecOp

/-- Elementwise arithmetic. -/
def arith (x : VecOp) : Bool := 1 ≤ x.vop && x.vop ≤ 6

/-- A unary function. -/
def unary (x : VecOp) : Bool := (unaryFn x.vop).isSome

/-- Whether SRC1 is an operand. -/
def binary (x : VecOp) : Bool := x.arith || x.vop == 8

/-- Whether an MX format takes part (04 R151). -/
def mx (x : VecOp) : Bool := isMx x.fi || isMx x.fo

/-- Elements of SRC1. -/
def n1 (x : VecOp) : Nat := if x.bcast = 0 then x.count else if x.bcast = 1 then x.count / x.rowLen else 1

/-- The parameter checks (04 R151, Table 4-7; 03 R99). -/
def paramBad (x : VecOp) : Bool :=
  x.count == 0 || decide (4194304 < x.count) || x.bcast == 3 || !(x.arith || x.unary || x.vop == 7 || x.vop == 8) ||
    (x.binary && x.bcast == 1 && (x.rowLen == 0 || x.count % x.rowLen != 0)) ||
    ((x.arith || x.unary) && !((1 ≤ x.fi && x.fi ≤ 4) && (1 ≤ x.fo && x.fo ≤ 9))) ||
    (x.vop == 7 && !(fmtDefined x.fi && fmtDefined x.fo)) || (x.vop == 8 && (x.fi != 18 || x.fo != 18)) ||
    (x.sr && decide (9 < x.fo)) || (x.mx && x.count % 32 != 0)

/-- The input regions. -/
def ins (x : VecOp) (e : TileExt) : List State.Region :=
  [(x.src0, runBytes x.fi x.si x.count)] ++ (if x.binary then [(x.src1, runBytes x.fi 0 x.n1)] else []) ++
    (if x.vop = 4 then [(x.src2, runBytes x.fi 0 x.count)] else []) ++
    (if isMx x.fi then [(e.aScale, x.count / 32)] else [])

/-- The output regions. -/
def outs (x : VecOp) (e : TileExt) : List State.Region :=
  [(x.dst, runBytes x.fo x.so x.count)] ++ (if isMx x.fo then [(e.bScale, x.count / 32)] else [])

/-- Whether the descriptor is read. -/
def usesExt (x : VecOp) : Bool := x.sr || x.mx

/-- The check of TILE_VEC after its opcode and unit. -/
def check (x : VecOp) (s : State) (t : Nat) : Option Ans :=
  if x.paramBad then some .param
  else
    let e := s.peekExt t x.extAddr
    State.regionCheck t (x.ins e) (if x.usesExt then [(x.extAddr, 64)] else []) (x.outs e) true

/-- A result of elementwise arithmetic before rounding, with the flag of an invalid operation (03 R118). -/
def arithVal (vop : Nat) (a b c : Val) : Res × Nat :=
  let inv := fun (r : Val) (ops : List Val) => Flag.on (r.isNan && !ops.any Val.isNan) Flag.invalid
  match vop with
  | 1 => let r := a.add b; (r.toRes, inv r [a, b])
  | 2 => let r := a.add b.negate; (r.toRes, inv r [a, b])
  | 3 => let r := a.mul b; (r.toRes, inv r [a, b])
  | 4 =>
    let m := a.mul b
    let r := m.add c
    (r.toRes, inv m [a, b] ||| inv r [m, c])
  | 5 => ((a.max b).toRes, 0)
  | _ => ((a.min b).toRes, 0)

/-- The accumulator that CONVERT into FMT 18 writes for an element (04 R151). -/
def toLacc (fi : Nat) (v : Val) : Acc × Nat :=
  match v with
  | .fin _ 0 _ => (Acc.start 0, 0)
  | _ =>
    let anchor : Int := if groupOf fi = 1 || groupOf fi = 2 then 63 else match v.expo with | some k => k + 1 | none => 0
    (Acc.start anchor).addTerms [v]

/-- One result: a plain element's bits, or a value for an MX block, with flags. -/
inductive Elem where
  | raw (v : Nat)
  | res (r : Res)
  deriving DecidableEq, Repr

/-- The result of one element (04 R135, R151; 03 R114, R118, R119); unary functions round with RNE (03 R119). -/
def elem (x : VecOp) (rnd : Rounding) (raw : Nat) (a b c : Val) (la lb : Acc) : Elem × Nat :=
  let out := fun (r : Res) => if isMx x.fo then (Elem.res r, 0) else let (v, f) := convert rnd x.fo r; (Elem.raw v, f)
  if x.vop = 8 then let d := laccAdd la lb; (.raw (ofLE d.toBytes), d.flags)
  else if x.vop = 7 then
    if x.fi = 18 then
      if x.fo = 18 then (.raw raw, 0)
      else
        let (v, f) := la.toVal
        let (y, g) := out v.toRes
        (y, f ||| g ||| la.flags)
    else if x.fo = 18 then let (d, f) := toLacc x.fi a; (.raw (ofLE d.toBytes), f)
    else out a.toRes
  else match unaryFn x.vop with
    | some f =>
      let (r, g) := Unary.apply f a
      let (v, h) := convert .rne x.fo r
      (.raw v, g ||| h)
    | none =>
      let (r, g) := arithVal x.vop a b c
      let (y, h) := out r
      (y, g ||| h)

/-- The results as bytes and, for an MX output, scales (03 R96). -/
def pack (x : VecOp) (s : State) (es : List Elem) : State × List Byte × List Byte × Nat :=
  if isMx x.fo then
    let rs := es.map (fun e => match e with | .res r => r | .raw _ => .nan)
    let blocks := (List.range (x.count / 32)).map (fun i => writeMxBlock x.fo x.so ((rs.drop (32 * i)).take 32))
    let raws := (blocks.map (fun b => b.2.1)).flatten
    (s, leBytes (runBytes x.fo x.so x.count) (packElems (elemBits x.fo x.so) raws),
      blocks.map (fun b => BitVec.ofNat 8 b.1), (blocks.map (fun b => b.2.2)).foldl (· ||| ·) 0)
  else
    let (s, bs) := s.packRow x.fo (es.map (fun e => match e with | .raw v => v | .res _ => 0))
    (s, bs, [], 0)

/-- The start of TILE_VEC: operands read, every element computed, results written. -/
def start (x : VecOp) (s : State) (t : Nat) (ue : Option Nat) : State :=
  match s.readRuns t ue (if x.usesExt then [(x.extAddr, 64)] else []) with
  | (s, .error z) => s.raiseExc t z.status z.detail z.result1
  | (s, .ok xs) =>
    let e := TileExt.ofBytes xs.flatten
    match s.readRuns t ue (x.ins e) with
    | (s, .error z) => s.raiseExc t z.status z.detail z.result1
    | (s, .ok bss) =>
      let b0 := bss.getD 0 []
      let b1 := if x.binary then bss.getD 1 [] else []
      let b2 := if x.vop = 4 then bss.getD 2 [] else []
      let sc := if isMx x.fi then bss.getLastD [] else []
      let v0 := if x.fi = 18 then [] else valsOf x.fi x.si x.count b0 sc
      let v1 := if x.fi = 18 then [] else valsOf x.fi 0 x.n1 b1 []
      let v2 := if x.vop = 4 then valsOf x.fi 0 x.count b2 [] else []
      let w0 := if x.fi = 18 then rawElems 256 x.count b0 else []
      let w1 := if x.fi = 18 then rawElems 256 x.n1 b1 else []
      let acc := fun (w : Nat) => Acc.ofBytes (leBytes 32 w)
      let rs := (List.range x.count).map (fun i =>
        let j := if x.bcast = 0 then i else if x.bcast = 1 then i / x.rowLen else 0
        x.elem (e.rounding (x.sr && !x.unary) (e.eBase + i)) (w0.getD i 0) (v0.getD i .zero) (v1.getD j .zero)
          (v2.getD i .zero) (acc (w0.getD i 0)) (acc (w1.getD j 0)))
      let (s, bs, scs, mf) := x.pack s (rs.map (·.1))
      let fl := rs.foldl (fun f r => f ||| r.2) mf
      let s := if x.unary then s.tileEvent t 53 (ceilDiv x.count 128) else s.tileEvent t 52 (ceilDiv x.count 512)
      match s.localOut t x.dst bs with
      | (s, some z) => s.raiseExc t z.status z.detail z.result1
      | (s, none) =>
        match (if isMx x.fo then s.localOut t e.bScale scs else (s, none)) with
        | (s, some z) => s.raiseExc t z.status z.detail z.result1
        | (s, none) => (s.numFlags t fl).beginTile t 2 { Progress.empty with flags := fl, done := true }

end VecOp

/-- TILE_VEC (04 R151). -/
def execTileVec (via : Via) (p : Packet) (ue : Option Nat) (s : State) : Host.Outcome State Fault Refusal :=
  .next (s.tileRow via p (p.base == 0x0201)
    (fun s t => match VecOp.ofPacket p with | none => some .param | some x => x.check s t)
    (fun s t => match VecOp.ofPacket p with | none => s | some x => x.start s t ue))

/-! ## TILE_VRED -/

/-- The parameters of TILE_VRED (04 Table 4-9), the basic form's filled in. -/
structure RedOp where
  src0 : Nat
  src1 : Nat
  out : Nat
  rows : Nat
  rowLen : Nat
  fi : Nat
  fo : Nat
  rop : Nat
  outOp : Nat
  ext : Bool
  sr : Bool
  acc : Nat
  kTotal : Nat
  extAddr : Nat
  tok : Option Tok
  decl : Int
  basic : Bool
  deriving DecidableEq, Repr

/-- The parameters of a packet (04 R145). -/
def RedOp.ofPacket (p : Packet) : Option RedOp :=
  let mode := p.u8 43
  let base : RedOp :=
    { src0 := p.u32 16, src1 := p.u32 20, out := p.u64 24, rows := p.u16 32, rowLen := p.u32 36, fi := p.u8 40 % 32
      fo := p.u8 41 % 32, rop := p.u8 42, outOp := bits mode 4 2, ext := bit mode 3, sr := bit mode 2, acc := mode % 4
      kTotal := p.u32 44, extAddr := p.u32 48, tok := State.tokOf (p.u16 52) (p.u16 54), decl := sext 16 (p.u16 56)
      basic := false }
  if p.expert then some base
  else if p.u8 63 != 1 || p.u16 40 != 0 || p.u8 43 != 0 || p.u32 44 != 0 then none
  else some { base with fi := 3, fo := 1, kTotal := p.u32 36, basic := true }

namespace RedOp

/-- MAX or MIN. -/
def isMm (x : RedOp) : Bool := x.rop == 0x23 || x.rop == 0x24

/-- DOT. -/
def isDot (x : RedOp) : Bool := x.rop == 0x22

/-- Whether maxima are exchanged: inputs in FMT 1 to 4 always need a pre-scan. -/
def exchange (x : RedOp) : Bool := !x.isMm && x.acc == 1

/-- The pitch of a row (04 R126). -/
def pitch (x : RedOp) : Nat := linePitch x.rowLen (elemBits x.fi 0)

/-- The bytes of the results. -/
def outBytes (x : RedOp) : Nat :=
  if x.outOp = 0 then runBytes x.fo 0 x.rows else if x.outOp = 1 then 32 * x.rows else 4 * x.rows

/-- The CB words of an exchange (04 R152). -/
def cbRows (x : RedOp) : Nat := if x.isDot then x.rows else 0

/-- The parameter checks (04 R147, R152, Table 4-9). -/
def paramBad (x : RedOp) (s : State) (t : Nat) : Bool :=
  let own := s.ownStore t x.out
  let inTile := spaceOf x.out == 1
  (x.basic && !own) || x.rows == 0 || x.rowLen == 0 || decide (4194304 < x.rowLen) ||
    !(1 ≤ x.fi && x.fi ≤ 4) || !outFmt x.fo || !(0x20 ≤ x.rop && x.rop ≤ 0x24) ||
    x.outOp == 3 || (x.outOp == 1 && x.fo != 18) || (x.outOp == 2 && (x.acc != 3 || x.fo != 1)) ||
    (x.isMm && x.outOp != 0) || decide (x.kTotal < x.rowLen) || decide (2 ^ 31 < x.kTotal) ||
    (!x.isMm && x.acc == 2 && x.decl == -32768) || (x.sr && (decide (9 < x.fo) || !x.ext)) ||
    (match x.tok with | some k => !inTile || k.inc == 0 | none => false) ||
    (!own && x.out % 4 != 0) || (x.exchange && !x.ext)

/-- The input regions. -/
def ins (x : RedOp) : List State.Region :=
  [(x.src0, x.rows * x.pitch)] ++ (if x.isDot then [(x.src1, x.rows * x.pitch)] else [])

/-- The descriptor and exchange regions. -/
def others (x : RedOp) (e : TileExt) : List State.Region :=
  (if x.ext then [(x.extAddr, 64)] else []) ++
    (if x.exchange then [(e.xchg, xchgDone x.rows x.cbRows + 64), (e.peers, 8 * e.xn)] else [])

/-- The local output region. -/
def outs (x : RedOp) (s : State) (t : Nat) : List State.Region :=
  if s.ownStore t x.out then [(offOf x.out % 2 ^ 23, x.outBytes)] else []

/-- The remote operations of the whole extent (08 R304). -/
def extent (x : RedOp) (s : State) (t : Nat) (e : TileExt) : List (List Req) :=
  let data := match x.outOp with
    | 1 => (List.range x.rows).map (fun j => Req.make (x.out + 32 * j) s.srcMod t 32 opLaccAdd none (List.replicate 32 0))
    | 2 => (List.range x.rows).map (fun j => Req.make (x.out + 4 * j) s.srcMod t 4 opFadd32 none (List.replicate 4 0))
    | _ => if s.ownStore t x.out then [] else scriptReqs (storeOps s.srcMod t x.out (List.replicate x.outBytes 0))
  [data, scriptReqs (tokenOps s.srcMod t x.out x.tok)] ++ (if x.exchange then s.xchgExtent t e x.rows x.cbRows else [])

/-- The check of TILE_VRED after its opcode and unit. -/
def check (x : RedOp) (s : State) (t : Nat) : Option Ans :=
  let e := s.peekExt t x.extAddr
  if x.paramBad s t then some .param
  else if x.exchange && !(1 ≤ e.xn && e.xn ≤ 256) then some .param
  else (State.regionCheck t x.ins (x.others e) (x.outs s t) false).or (s.extentCheck (x.extent s t e))

/-- The rows of an operand. -/
def rowVals (x : RedOp) (s : State) (t base i : Nat) : List Val :=
  valsOf x.fi 0 x.rowLen (s.readCorrected (tileKey t (base + i * x.pitch)) (runBytes x.fi 0 x.rowLen)) []

/-- CB of a row: of the constant 1 for SUM, RA for SUMSQ, SRC1's maximum for DOT (04 R152). -/
def cbOf (x : RedOp) (a b : List Val) : Option Int :=
  if x.rop = 0x20 then some 0 else if x.rop = 0x21 then maxExpo a else maxExpo b

/-- The result of one row with its flags. -/
def rowOut (x : RedOp) (s : State) (t : Nat) (e : TileExt) (words : Option (List Nat × List Nat)) (i : Nat) : Nat × Nat :=
  let a := x.rowVals s t x.src0 i
  let b := if x.isDot then x.rowVals s t x.src1 i else []
  let rnd := e.rounding x.sr (e.eBase + i * e.eStride)
  if x.isMm then
    let v := match a with
      | [] => Val.zero
      | y :: l => l.foldl (if x.rop = 0x23 then Val.max else Val.min) y
    if x.fo = 18 then let (d, f) := VecOp.toLacc x.fi v; (ofLE d.toBytes, f) else convertVal rnd x.fo v
  else
    let ps := if x.rop = 0x20 then a else if x.rop = 0x21 then a.map (fun v => v.mul v) else List.zipWith Val.mul a b
    let scan := match words with
      | some (ras, cws) =>
        let ra := ras.getD i 0
        anchorOfWords ra (if x.rop = 0x20 then 0x8000 else if x.rop = 0x21 then ra else cws.getD i 0) x.kTotal
      | none => match maxExpo a with
        | none => 0
        | some _ => anchorOf (maxExpo a) (x.cbOf a b) x.kTotal
    let (c, fl) := accumulate x.acc (anchorFor x.acc x.decl false scan) ps
    let (v, g) := emitAcc rnd x.fo x.acc c
    (v, fl ||| g)

/-- Every row reduced and put out, the token after them. -/
def finish (x : RedOp) (s : State) (t : Nat) (e : TileExt) (words : Option (List Nat × List Nat)) : State :=
  let rs := (List.range x.rows).map (x.rowOut s t e words)
  let fl := rs.foldl (fun f r => f ||| r.2) 0
  let s := s.tileEvent t 54 (ceilDiv (x.rows * x.rowLen) 512)
  let (s, ms, z) := s.putRun t x.out x.outOp x.fo (rs.map (·.1))
  let s := s.numFlags t fl
  let tail := match z with
    | some z => [.trap z]
    | none => tokenOps s.srcMod t x.out x.tok
  s.beginTile t 2 { Progress.empty with flags := fl, script := ms ++ tail, done := true }

/-- The start of TILE_VRED. -/
def start (x : RedOp) (s : State) (t : Nat) (ue : Option Nat) : State :=
  match s.readRuns t ue ((if x.ext then [(x.extAddr, 64)] else []) ++ x.ins) with
  | (s, .error z) => s.raiseExc t z.status z.detail z.result1
  | (s, .ok bss) =>
    let e := if x.ext then TileExt.ofBytes (bss.getD 0 []) else TileExt.ofBytes []
    if x.exchange then
      let w := fun base => (List.range x.rows).map (fun i => xchgWord (maxExpo (x.rowVals s t base i)))
      s.beginTile t 2 { Progress.empty with
        script := s.xchgOps t e (w x.src0) (if x.isDot then w x.src1 else []), done := true }
    else x.finish s t e none

/-- The reduction after an exchange. -/
def resume (x : RedOp) (s : State) (t : Nat) : State :=
  let e := s.peekExt t x.extAddr
  let words := fun off n => (List.range n).map (fun i => ofLE (s.memRead (tileKey t (e.xchg + off + 4 * i)) 4))
  x.finish s t e (some (words 0 x.rows, words (xchgCb x.rows) x.cbRows))

end RedOp

/-- TILE_VRED (04 R152). -/
def execTileVred (via : Via) (p : Packet) (ue : Option Nat) (s : State) : Host.Outcome State Fault Refusal :=
  .next (s.tileRow via p (p.base == 0x0202)
    (fun s t => match RedOp.ofPacket p with | none => some .param | some x => x.check s t)
    (fun s t => match RedOp.ofPacket p with | none => s | some x => x.start s t ue))

end Sys2Proof.Machine
end

