-- ==== Sys2Proof/Machine/RimOps.lean ====
section
/-! DEFINITION. The Rim lane's parts (11 R399 to R414): descriptors and programs, the checks of schedule tables, captures,
programs, staging and releases. -/

namespace Sys2Proof.Machine

/-- t_RIM_STAGE in ns (11 Table 11-13). -/
def rimStage : Nat := 300

/-! ## Stream descriptors (11 Table 11-1) -/

/-- A field of a descriptor or of a table. -/
def fieldOf (bs : List Byte) (off n : Nat) : Nat := ofLE ((bs.drop off).take n)

/-- The packets of a program read from a tile store. -/
def packetsOf (bs : List Byte) : List Packet :=
  (List.range (bs.length / 64)).map (fun i => Packet.ofBits (BitVec.ofNat 512 (ofLE ((bs.drop (64 * i)).take 64))))

/-- A stream from its descriptor, programs and known-answer data not yet read. -/
def RimStream.ofBytes (d : List Byte) : RimStream :=
  let f := fieldOf d
  ⟨f 0 1, f 1 1, f 2 1, f 3 1, f 4 4, f 8 4, f 12 4, f 16 4, [], [], f 32 4, f 36 2, f 38 2, f 40 4, f 44 6, f 50 2,
    f 52 1 % 4, [], []⟩

/-- Whether a descriptor has a field outside 11 Table 11-1. -/
def descriptorBad (d : List Byte) : Bool :=
  let x := RimStream.ofBytes d
  let na := fieldOf d 28 2
  let nb := fieldOf d 30 2
  let size := fun n => decide (n < 4) || decide (1024 < n) || n % 4 != 0
  x.missLimit == 0 || !fmtDefined (x.outFmt) || decide (x.cadence < 1000) || decide (100000000 < x.cadence) ||
    x.cadence % 10 != 0 || x.macs == 0 || decide (64 < na) || decide (64 < nb) || (na == 0) != (x.cycA == 0) ||
    (nb == 0) != (x.cycB == 0) || size x.inBytes || size x.outBytes || decide (2 ^ 23 < x.inAddr + x.inBytes) ||
    decide (2 ^ 23 < x.outAddr + x.outBytes) || decide (2 ^ 23 < fieldOf d 20 4 + 64 * na) ||
    decide (2 ^ 23 < fieldOf d 24 4 + 64 * nb) || bit x.vlan 12 || x.vlan % 4096 == 0 || x.vlan % 4096 == 4095 || x.ports == 0

/-! ## Programs (11 R400) -/

namespace State

/-- The checks of a tile packet's own parameters, and the operations it would issue, on a tile. -/
def packetCheck (s : State) (t : Nat) (p : Packet) : Option Ans × List Req :=
  match p.base with
  | 0x0200 => match MatOp.ofPacket p with
    | none => (some .param, [])
    | some x => (x.check s t, (x.extent s t (s.peekExt t x.extAddr)).flatten)
  | 0x0201 => match VecOp.ofPacket p with
    | none => (some .param, [])
    | some x => (x.check s t, [])
  | 0x0202 => match RedOp.ofPacket p with
    | none => (some .param, [])
    | some x => (x.check s t, (x.extent s t (s.peekExt t x.extAddr)).flatten)
  | 0x0204 => match XferOp.ofPacket p with
    | none => (some .param, [])
    | some x => (x.check s t, scriptReqs (x.ops s t ++ x.tokens s t))
  | 0x0205 => (atomicCheck s t p, match basicAddr p (p.u64 16) with | some a => [atomicReq s t p a] | none => [])
  | 0x0206 => (if profileOne p then none else some .param, [])
  | 0x0207 => (if profileOne p && (p.expert || p.u16 24 == 0) then none else some .param, [])
  | 0x0208 => (if profileOne p then none else some .param, [])
  | 0x0220 => match ConvOp.ofTile p with
    | none => (some .param, [])
    | some x =>
      let d := x.desc (fun o n => s.memRead (tileKey t o) n)
      (x.tileCheck s t, (s.imgExtent t (x.img d) d.regions x.tok).flatten)
  | 0x0221 => match PoolOp.ofPacket p with
    | none => (some .param, [])
    | some x =>
      let d := x.desc (fun o n => s.memRead (tileKey t o) n)
      (x.check s t, (s.imgExtent t (x.img d) d.regions x.tok).flatten)
  | _ => (some (.err Sts.badOpcode), [])

/-- Whether a request's token targets one of two tiles of this module. -/
def tokenAt (s : State) (tiles : List Nat) (q : Req) : Bool :=
  !q.tokEn || (s.isOwn (modOf q.addr) && match spaceOf q.addr with
    | 1 => tiles.contains (offOf q.addr / 2 ^ 23)
    | 3 => tiles.contains q.tokTile
    | _ => false)

/-- Whether a Rim packet breaks 11 R400 on a tile. -/
def rimPacketBad (s : State) (t : Nat) (p : Packet) : Bool :=
  let tiles := [s.fd Fld.RIM_TILES_TILE_A, s.fd Fld.RIM_TILES_TILE_B]
  let (c, reqs) := s.packetCheck t p
  !s.tileOn t || p.execTime != 0 || !reqs.all (s.tokenAt tiles) ||
    (match c with
      | some a => a.status == Sts.badOpcode || a.status == Sts.badParam || a.status == Sts.filterTooLarge
      | none => false)

/-! ## Schedules (11 R401 to R403, R419) -/

/-- A stream of a slot. -/
def rimStream (s : State) (slot : Nat) : Option RimStream := Cells.find slot s.rim.streams

/-- Whether a slot is referenced by the schedule in force or by a pending one (11 R399). -/
def slotUsed (s : State) (slot : Nat) : Bool :=
  let uses := fun (o : Option RimSched) => match o with | some x => x.entries.any (fun e => e.slot == slot) | none => false
  uses s.rim.sched || uses s.rim.commit

/-- W of an entry on a tile (11 R402). -/
def window (st : RimStream) (tileB : Bool) : Nat := ceilDiv ((if tileB then st.cycB else st.cycA) * 1000) 960

/-- The slots of a table, in order of first mention. -/
def slotsOfTable (es : List RimEntry) : List Nat := es.foldl (fun l e => if l.contains e.slot then l else l ++ [e.slot]) []

/-- The index of the first entry that fails a test of entry and index. -/
def firstBad (es : List RimEntry) (bad : RimEntry → Nat → Bool) : Option Nat :=
  (es.zipIdx.find? (fun (e, i) => bad e i)).map (·.2)

/-- Periodic windows `[a, a + w)` and `[b, b + v)` of period `f` overlap. -/
def overlapMod (f a w b v : Nat) : Bool := decide ((b + f - a % f) % f < w) || decide ((a + f - b % f) % f < v)

/-- A window of the old schedule that runs past ACT, `[a, e)` in ns, against a new window of width `w` from `b` in every
frame from ACT on. -/
def overlapOld (act f a e b w : Nat) : Bool :=
  (List.range ((e - act) / f + 1)).any (fun i => decide (act + b + i * f < e) && decide (a < act + b + i * f + w))

/-- Windows (start, end) of results of the old schedule captured before ACT that end after it, on a tile; and their release
times with the wire bytes and ports. -/
def oldRuns (s : State) (act : Nat) : List (RimEntry × RimStream × Nat) :=
  match s.rim.sched with
  | none => []
  | some o =>
    let frames := 2 + 200000 / o.frame
    let n := (act - o.act) / o.frame
    (rangeFrom (n - frames) (frames + 1)).foldr (fun f l =>
      (o.entries.filterMap (fun e => match s.rimStream e.slot with
        | some st =>
          let tc := o.act + f * o.frame + e.tcap
          if tc < act then some (e, st, tc) else none
        | none => none)) ++ l) []

/-- The first entry that breaks one of the reasons 0x0001 to 0x0008 of 11 Table 11-3, with the reason. -/
def schedBad (s : State) (act frame : Nat) (es : List RimEntry) : Option (Nat × Nat) :=
  let st := fun (e : RimEntry) => s.rimStream e.slot
  let empty : RimStream := RimStream.ofBytes []
  let str := fun (e : RimEntry) => (st e).getD empty
  let prog := fun (e : RimEntry) => (bit e.tiles 0 && (str e).progA.isEmpty) || (bit e.tiles 1 && (str e).progB.isEmpty)
  let r1 := firstBad es (fun e i => decide (frame ≤ e.tcap) ||
    (match es[i - 1]? with | some d => i != 0 && decide (e.tcap ≤ d.tcap) | none => false))
  let r2 := firstBad es (fun e _ => (st e).isNone || e.tiles % 4 == 0 || prog e)
  let r3 := firstBad es (fun e i =>
    let c := (str e).cadence
    let mine := es.zipIdx.filter (fun (d, _) => d.slot == e.slot)
    let pos := (mine.filter (fun (_, j) => decide (j < i))).length
    let head := (mine.head?.map (·.1)).getD e
    frame % c != 0 || mine.length != frame / c || e.tcap != head.tcap + pos * c || e.cmp != head.cmp || e.rel != head.rel)
  let r4 := firstBad es (fun e _ => decide (e.cmp < 150))
  let old := s.oldRuns act
  let win := fun (e : RimEntry) (b : Bool) => window (str e) b
  let clash := fun (e d : RimEntry) => [false, true].any (fun b =>
    bit e.tiles (b2n b) && bit d.tiles (b2n b) && overlapMod frame (e.tcap + e.cmp) (win e b) (d.tcap + d.cmp) (win d b))
  let clashOld := fun (e : RimEntry) => old.any (fun (d, dst, tc) => [false, true].any (fun b =>
    let a := tc + d.cmp
    bit e.tiles (b2n b) && bit d.tiles (b2n b) && decide (act < a + window dst b) &&
      overlapOld act frame a (a + window dst b) (e.tcap + e.cmp) (win e b)))
  let r5 := firstBad es (fun e i => clashOld e || [false, true].any (fun b => bit e.tiles (b2n b) && decide (frame < win e b)) ||
    es.zipIdx.any (fun (d, j) => j != i && clash e d))
  let r6 := firstBad es (fun e _ => [false, true].any (fun b =>
    bit e.tiles (b2n b) && decide (e.rel < e.cmp + win e b + rimStage)))
  -- releases, in tenths of a nanosecond: the earlier frame's wire time and t_GUARD lie between them
  let need := fun (x : RimStream) => 8 * rimWire x.outBytes + 500
  let gap := fun (a b : Nat) => 10 * ((b + frame - a % frame) % frame)
  let near := fun (e d : RimEntry) =>
    let a := e.tcap + e.rel
    let b := d.tcap + d.rel
    ((str e).ports &&& (str d).ports) != 0 && (decide (gap a b < need (str e)) || decide (gap b a < need (str d)))
  let nearOld := fun (e : RimEntry) => old.any (fun (d, dst, tc) =>
    let a := tc + d.rel
    ((str e).ports &&& dst.ports) != 0 && decide (act ≤ a) && (List.range ((a - act) / frame + 2)).any (fun i =>
      let b := act + e.tcap + e.rel + i * frame
      if a ≤ b then decide (10 * (b - a) < need dst) else decide (10 * (a - b) < need (str e))))
  let r8 := firstBad es (fun e i => nearOld e || decide (10 * frame < need (str e)) ||
    es.zipIdx.any (fun (d, j) => j != i && near e d))
  ([(1, r1), (2, r2), (3, r3), (4, r4), (5, r5), (6, r6), (8, r8)].filterMap (fun (c, r) => r.map (fun i => (c, i)))).head?

/-- BEACON_US in ns, and the beacon's place in a frame, where the pair is configured. -/
def beaconOf (s : State) : Option (Nat × Nat) :=
  if s.fb Fld.PAIR_STATUS_CONFIGURED then
    some (s.fd Fld.PAIR_CFG_BEACON_US * 1000, s.fd Fld.PAIR_CFG_BEACON_OFF10 * 10) else none

/-- RIM services. -/
def rimSvcs (s : State) : List Nat := s.svcsOn.filter (fun n => !s.svcStep n)

/-- The ports of the RIM services' streams among the slots of a table (12 R440). -/
def beaconPorts (s : State) (slots : List Nat) : Nat :=
  (slots.filterMap s.rimStream).foldl (fun m st =>
    if s.rimSvcs.any (fun n => s.fd (Fld.PAIR_SVC_STATUS_ID n) == st.outStream) then m ||| st.ports else m) 0

/-- The bytes of a beacon. -/
def beaconBytes (s : State) : Nat := rimWire (16 + 8 * s.rimSvcs.length)

/-- Whether beacons break the release check (12 R440): the entry a beacon comes too close to, or entry 0. -/
def beaconBad (s : State) (frame : Nat) (es : List RimEntry) : Option Nat :=
  match s.beaconOf with
  | none => none
  | some (per, off) =>
    let ports := s.beaconPorts (slotsOfTable es)
    if ports = 0 then none
    else if per % frame != 0 || decide (frame ≤ off) then some 0
    else
      let gap := fun (a b : Nat) => 10 * ((b + frame - a % frame) % frame)
      firstBad es (fun e _ => match s.rimStream e.slot with
        | some st =>
          (st.ports &&& ports) != 0 && (decide (gap (e.tcap + e.rel) off < 8 * rimWire st.outBytes + 500) ||
            decide (gap off (e.tcap + e.rel) < 8 * s.beaconBytes + 500))
        | none => false)

/-- The sum of MACS × 1,000 ÷ CADENCE_NS over slots, as a fraction. -/
def budgetSum (s : State) (slots : List Nat) : Nat × Nat :=
  (slots.filterMap s.rimStream).foldl (fun (n, d) st => (n * st.cadence + st.macs * 1000 * d, d * st.cadence)) (0, 1)

/-- The budget rule (11 R401): the first offending slot, or 0xFFFF for the sum. -/
def budgetBad (s : State) (slots : List Nat) : Option Nat :=
  let (n, d) := s.budgetSum slots
  (slots.find? (fun k => match s.rimStream k with
    | some st => decide (2000000 * st.cadence < st.macs * 1000)
    | none => false)).or (if 120000000 * d < n then some 0xFFFF else none)

/-- The releases of a schedule on a port: times relative to ACT within a frame, with wire bytes. -/
def releasesOn (s : State) (p : Nat) (es : List RimEntry) : List (Nat × Nat) :=
  es.filterMap (fun e => match s.rimStream e.slot with
    | some st => if bit st.ports p then some (e.tcap + e.rel, rimWire st.outBytes) else none
    | none => none)

/-- Whether every release of a schedule on a port, beacons included, finds class 7 open on a list (11 R419). -/
def gateFits (s : State) (g : Option GateList) (p act frame : Nat) (es : List RimEntry) : Bool :=
  match g with
  | none => true
  | some l =>
    let per := l.cycle / Nat.gcd frame l.cycle
    let rel := s.releasesOn p es
    let frames := (List.range per).all (fun f => rel.all (fun (o, w) => releaseOpen g (act + f * frame + o) w))
    let beacons := match s.beaconOf with
      | some (bp, off) => !bit (s.beaconPorts (slotsOfTable es)) p ||
          (List.range (l.cycle / Nat.gcd (max bp 1) l.cycle)).all (fun i => releaseOpen g (act + off + i * bp) s.beaconBytes)
      | none => true
    frames && beacons

/-- The list that runs on a port from a time on. -/
def gateAt (s : State) (p t : Nat) : Option GateList :=
  let x := s.pltPort p
  match x.gateNext with
  | some g => if g.base ≤ t then some g else x.gate
  | none => x.gate

/-! ## Captures (11 R410, R412) -/

/-- The next capture of the schedule in force: its time and entry. -/
def nextCapture (s : State) : Option (Nat × RimEntry) :=
  match s.rim.sched with
  | none => none
  | some x => (x.entries[s.rim.next.2]?).map (fun e => (x.act + s.rim.next.1 * x.frame + e.tcap, e))

/-- The capture pointer moved on. -/
def advanceCapture (s : State) : State :=
  match s.rim.sched with
  | none => s
  | some x =>
    let (f, e) := s.rim.next
    { s with rim := { s.rim with next := if e + 1 < x.entries.length then (f, e + 1) else (f + 1, 0) } }

/-- The logical tiles of an entry: A, B. -/
def rimTiles (s : State) (mask : Nat) : List Nat :=
  (if bit mask 0 then [s.fd Fld.RIM_TILES_TILE_A] else []) ++ (if bit mask 1 then [s.fd Fld.RIM_TILES_TILE_B] else [])

/-- The input that a capture at `tc` uses: the accepted frame of the highest SEQ that arrived in time and is newer than the
last one used. -/
def freshInput (s : State) (st : RimStream) (rt : RimRt) (tc : Nat) : Option (Nat × List Byte) :=
  let ok := s.rim.inputs.filter (fun (id, seq, at_, _) => id == st.streamIn && decide (at_ + 400 ≤ tc) &&
    (match rt.used with | some u => decide (u < seq) | none => true))
  ok.foldl (fun best (_, seq, _, data) => match best with
    | some (b, d) => if b < seq then some (seq, data) else some (b, d)
    | none => some (seq, data)) none

/-- A capture. -/
def capture (s : State) (tc : Nat) (e : RimEntry) : State :=
  let s := s.advanceCapture
  match s.rimStream e.slot with
  | none => s
  | some st =>
    let rt := s.rimRt e.slot
    let due := fun (t : Nat) => decide (t ≤ tc)
    let kat := rt.kat.any due || (match rt.mccKat with | some t => due t | none => false)
    let fresh := s.freshInput st rt tc
    let (data, ref, stale) :=
      if kat then (st.katIn, rt.used.getD 0, false)
      else match fresh with
        | some (seq, d) => (d, seq, false)
        | none => ((rt.input ++ List.replicate (st.inBytes - rt.input.length) 0).take st.inBytes, rt.used.getD 0, true)
    let s := s.updRt e.slot (fun rt =>
      let rt := { rt with kat := rt.kat.filter (fun t => !due t) }
      if kat then rt
      else match fresh with | some (seq, d) => { rt with used := some seq, input := d } | none => rt)
    let s := if stale then s.bump (Reg.RIM_STR_IN_STALE e.slot) 1 else s
    let s := (s.rimTiles e.tiles).foldl (fun s t => s.homeWrite (tileKey t st.inAddr) data) s
    let run : RimRun := ⟨e.slot, tc, tc + e.cmp, tc + e.rel, e.tiles, tc / st.cadence, ref, stale, kat,
      s.rd Reg.PLT_PTP_OFFSET, if bit e.tiles 0 then 0 else 2, if bit e.tiles 1 then 0 else 2, none, false⟩
    { s with rim := { s.rim with runs := s.rim.runs ++ [run] } }

/-! ## Programs (11 R406) -/

/-- The state of a run's program on tile A (0) or B (1). -/
def progOf (r : RimRun) (b : Nat) : Nat := if b = 0 then r.progA else r.progB

/-- The same, set. -/
def setProg (r : RimRun) (b v : Nat) : RimRun := if b = 0 then { r with progA := v } else { r with progB := v }

/-- The logical tile A (0) or B (1). -/
def rimTile (s : State) (b : Nat) : Nat := if b = 0 then s.fd Fld.RIM_TILES_TILE_A else s.fd Fld.RIM_TILES_TILE_B

/-- A run over: released, and its programs ended. -/
def runOver (r : RimRun) : Bool := r.out && r.progA == 2 && r.progB == 2

/-- The first run that satisfies a test changed; runs that are over leave. -/
def updRun (s : State) (p : RimRun → Bool) (f : RimRun → RimRun) : State :=
  let rs := s.rim.runs
  let i := rs.findIdx p
  { s with rim := { s.rim with runs := (rs.modify i f).filter (fun r => !runOver r) } }

/-- Whether a tile's sequencer is free of Rim packets. -/
def seqFree (s : State) (t : Nat) : Bool := (s.engOf t).cur.isNone && (s.engOf t).fetched.isEmpty

/-- The earliest waiting program of a tile started, at its compute start or when the tile is free (11 R406): its packets reach
the sequencer in order. -/
def progStart (s : State) (b : Nat) : State :=
  let t := s.rimTile b
  let waits := fun (r : RimRun) => progOf r b == 0
  match s.rim.runs.find? waits with
  | none => s
  | some r =>
    if s.lane != 2 || decide (s.now < r.cmp) || !s.seqFree t || s.rim.runs.any (fun r => progOf r b == 1) then s
    else match s.rimStream r.slot with
      | none => s
      | some st =>
        let jobs := (if b = 0 then st.progA else st.progB).map (fun p => (⟨p, .ring t, false, s.now, false, false, 0⟩ : Job))
        let s := s.updRun waits (setProg · b 1)
        (s.setEng t { s.engOf t with fetched := jobs }).startNext t

/-- The program of a tile ended: its sequencer has run every packet. -/
def progEnd (s : State) (b : Nat) : State :=
  let runs := fun (r : RimRun) => progOf r b == 1
  if s.rim.runs.any runs && s.seqFree (s.rimTile b) then s.updRun runs (setProg · b 2) else s

/-! ## Staging (11 R406, R411, R413) -/

/-- A stream FAULTED with its record and vector 2. -/
def streamFault (s : State) (slot rule : Nat) : State :=
  ((s.fw (Fld.RIM_STR_STATUS_SSTATE slot) 3).troubleRule 6 rule 1 88 slot).pairCheck

/-- RIM_KAT answered, if it waits for a test of this slot that this run is. -/
def katReply (s : State) (r : RimRun) (a : Ans) : State :=
  match (s.rimRt r.slot).mccKat with
  | some t =>
    if t ≤ r.tc then
      let s := s.updRt r.slot (fun x => { x with mccKat := none })
      match s.mcc.cur with
      | some j => if j.begun && j.pkt.base == 0x0605 then s.mccReply a else s
      | none => s
    else s
  | none => s

/-- The offset of the first differing byte. -/
def firstDiff (a b : List Byte) : Option Nat := (a.zip b).findIdx? (fun (x, y) => x != y)

/-- A known-answer test compared (11 R413); `data` is none where the result was missed. -/
def katCompare (s : State) (r : RimRun) (st : RimStream) (data : Option (List Byte)) : State :=
  let off := match data with
    | some d => firstDiff d st.katExp
    | none => some (2 ^ 64 - 1)
  let pass := off.isNone
  let s := s.fbw (Fld.RIM_STR_STATUS_KAT_PASS r.slot) pass
  let s := match off with
    | none =>
      let s := s.updRt r.slot (fun x => { x with tested := true })
      let s := if s.strState r.slot = 3 then s.fw (Fld.RIM_STR_STATUS_SSTATE r.slot) 2 else s
      s.pairCheck
    | some _ => s.streamFault r.slot 413
  let s := s.katReply r (match off with | none => .done | some o => ⟨0x0603, 0, 0, o, false⟩)
  match s.slotSvc r.slot with
  | some n => s.ownVerdict n r.k pass
  | none => s

/-- A result staged: read where it is complete, else missed. -/
def stage_ (s : State) (r : RimRun) (ue : Bool) : State :=
  match s.rimStream r.slot with
  | none => s
  | some st =>
    let b := if bit r.tiles 0 then 0 else 1
    let t := s.rimTile b
    let (s, data) := if progOf r b = 2 then
        s.homeRead ⟨4, 88, Sts.eccHalt⟩ (tileKey t st.outAddr) st.outBytes (if ue then .ue else .clean) else (s, none)
    let s := s.updRun (fun x => x.staged.isNone) (fun x => { x with staged := some (data.isNone, data.getD []) })
    let s := match data with
      | some _ => s.fw (Fld.RIM_STR_STATUS_CONSEC_MISS r.slot) 0
      | none =>
        let c := min 255 (s.fd (Fld.RIM_STR_STATUS_CONSEC_MISS r.slot) + 1)
        let s := (s.bump (Reg.RIM_STR_MISSED r.slot) 1).fw (Fld.RIM_STR_STATUS_CONSEC_MISS r.slot) c
        if st.missLimit ≤ c && s.strState r.slot = 2 then s.streamFault r.slot 406 else s
    if r.kat then s.katCompare r st data
    else match s.slotSvc r.slot with
      | some n =>
        let d := data.getD []
        let s := s.ownDigest n r.k (if data.isSome then rimDigest st.outStream r.k d else 0) data.isNone d
        s.autoSwap n (r.k + 1 + 2000 / st.cadence)
      | none => s

/-! ## Releases (11 R406, R407, R412; 12 R443 to R450) -/

/-- What a release carries before pairing: its flags and data, none where nothing may be released. -/
def plainRelease (r : RimRun) (rt : RimRt) : Option (Nat × List Byte) :=
  let base := if r.stale then 2 else 0
  match r.staged with
  | none => none
  | some (missed, d) =>
    if !rt.tested then none
    else if r.kat then rt.last.map (fun l => (base + 4, l))
    else if missed then rt.last.map (fun l => (base + 8, l))
    else some (base, d)

/-- The flags and data of a paired release (12 Table 12-6). -/
def pairedRelease (s : State) (n : Nat) (r : RimRun) (rt : RimRt) : Option (Nat × List Byte) :=
  let x := s.svc n
  let plain := plainRelease r rt
  match s.svcCmp n with
  | 2 => plain.bind (fun (f, _) => x.good.map (fun g => (f + 1, g)))
  | 3 => plain.bind (fun (f, _) => x.good.map (fun g => (f + 17, g)))
  | 1 => plain.map (fun (f, d) => (f + 32, d))
  | _ => plain.map (fun (f, d) => (if r.kat || x.compared.contains r.k then f else f + 32, d))

/-- A release instant: roles brought up to it, the output-stage rule applied, and the frame sent on the stream's ports;
`jit` is the lateness observed. -/
def release (s : State) (r : RimRun) (jit : Nat) : State :=
  match s.rimStream r.slot with
  | none => s
  | some st =>
    let paired := s.slotSvc r.slot
    let s := match paired with | some n => s.releaseRoles n r.tr r.k | none => s
    let rt := s.rimRt r.slot
    let may := s.lane == 2 && s.strState r.slot != 3 && (match paired with | some n => s.outputRule n r.tr r.k | none => true)
    let frame := match paired with | some n => s.pairedRelease n r rt | none => plainRelease r rt
    let uncompared := match paired with
      | some n => !r.kat && decide (s.svcCmp n ≤ 1) && !(s.svc n).compared.contains r.k
      | none => false
    let s := match may, frame with
      | true, some (flags, d) =>
        let claim := match paired with | some n => s.claim n | none => 0
        let h : RimHead := ⟨1, st.outStream, flags, claim, r.k, s.plantTime r.tr r.offset, r.ref, st.outFmt⟩
        let s := s.rimSend st.ports st.da st.vlan h d
        let s := (s.bumpWrap (Reg.RIM_STR_RESULTS r.slot) 64 1).wr (Reg.RIM_STR_JIT_MAX r.slot)
          (max jit (s.rd (Reg.RIM_STR_JIT_MAX r.slot)))
        let s := s.updRt r.slot (fun x => { x with last := some d })
        match paired with
        | some n => if uncompared then s.bump (Reg.PAIR_SVC_UNCOMPARED n) 1 else s
        | none => s
      | _, _ => s
    let s := match paired with
      | some n =>
        let s := if uncompared then s.fw (Fld.PAIR_SVC_STATUS_MATCH_RUN n) 0 else s
        s.updSvc n (fun x => { x with
          own := x.own.filter (fun e => decide (r.k < e.1)), peer := x.peer.filter (fun e => decide (r.k < e.1))
          data := x.data.filter (fun e => decide (r.k < e.1)), compared := x.compared.filter (fun k => decide (r.k < k)) })
      | none => s
    (s.updRt r.slot (fun x => { x with lastK := r.k })).updRun (fun x => !x.out) (fun x => { x with out := true })

/-! ## Activation and resumption (11 R405, R412, R414) -/

/-- A pending schedule takes over. Streams that it names newly start with a test; those it no longer names are DEFINED. -/
def activate (s : State) (x : RimSched) : State :=
  let new := slotsOfTable x.entries
  let old := match s.rim.sched with | some o => slotsOfTable o.entries | none => []
  let s := { s with rim := { s.rim with sched := some x, commit := none, next := (0, 0) }, pair := { s.pair with beacons := 0 } }
  let s := (old.filter (fun k => !new.contains k)).foldl (fun s k => s.fw (Fld.RIM_STR_STATUS_SSTATE k) 1) s
  let s := (new.filter (fun k => !old.contains k)).foldl (fun s k =>
    ((s.updRt k (fun _ => { RimRt.start with kat := [x.act] })).fw (Fld.RIM_STR_STATUS_SSTATE k) 2).fw
      (Fld.RIM_STR_STATUS_CONSEC_MISS k) 0) s
  let (n, d) := s.budgetSum new
  let s := ((s.wr Reg.RIM_ACT_TIME x.act).wr Reg.RIM_FRAME_NS x.frame).wr Reg.RIM_BUDGET_USED (ceilDiv n d)
  let s := s.fw Fld.RIM_STATUS_STREAMS new.length
  let s := if s.rim.holds.isEmpty then s.laneTo 2 else s.laneTo 3
  s.pairFailEnd 2

/-- The lane back to ACTIVE at a frame boundary after every pausing condition has ended; each stream tests first. -/
def resume (s : State) : State :=
  match s.rim.sched with
  | none => s
  | some x =>
    let slow := [s.fd Fld.RIM_TILES_TILE_A, s.fd Fld.RIM_TILES_TILE_B].any (fun t => s.pState (siteIsland (s.siteOf t)) != 1)
    if s.lane != 3 || !s.rim.holds.isEmpty || slow || decide (s.now < s.rim.resumeAt) || decide (s.now < x.act) ||
        (s.now - x.act) % x.frame != 0 then s
    else
      let s := { s with rim := { s.rim with next := ((s.now - x.act) / x.frame, 0) } }
      let s := (slotsOfTable x.entries).foldl (fun s k => s.askKat k s.now) s
      s.laneTo 2

/-- A pending commit and a waiting RIM_KAT ended (11 R404; 15 R544). -/
def rimCommandsEnd (s : State) : State :=
  let s := { s with rim := { s.rim with commit := none } }
  match s.mcc.cur with
  | some j => if j.begun && (j.pkt.base == 0x0604 || j.pkt.base == 0x0605) then s.mccReply (.err Sts.aborted) else s
  | none => s

end State
end Sys2Proof.Machine
end

