-- ==== Sys2Proof/Machine/CreelRows.lean ====
section
/-! DEFINITION. The Creel commands and events (07 R245 to R259, R272, R273): sequences, pools, grants, walks, zero-fill,
gathers and buckets. -/

namespace Sys2Proof.Machine
namespace State

/-- STS_CRL_SEQ_STATE (07 Table 7-12). -/
def stsCrlSeqState : Nat := 0x0300
/-- STS_CRL_PARKED. -/
def stsCrlParked : Nat := 0x0301
/-- STS_CRL_POOL. -/
def stsCrlPool : Nat := 0x0302

/-- Whether the serving engine owns a sequence (10 R351). -/
def srvOwnsSeq (s : State) (n : Nat) : Bool :=
  decide (s.srv.seqBase ≤ n) && decide (n < s.srv.seqBase + s.srv.seqCount)

/-- A Creel command on the MCC: the profile of a basic packet and the parameters `bad` (02 R60 item 3), then the tenant
(07 R254), then the command's own checks. -/
def creelRow (s : State) (via : Via) (p : Packet) (base : Nat) (absent : State → Bool) (bad : State → Bool)
    (check : State → Option Ans) (act : State → State × Option Ans) : State :=
  s.runRow via p (p.base == base)
    (fun s => firstFail [(absent s, .err Sts.unitAbsent), (!profileOne p || bad s, .param),
      (!s.tenantOpen, .refuse 0x0301)] |>.or (check s)) act

/-- The check of a sequence named by a host command: not owned by the engine, and in one of the states listed (0
CLOSED, 1 OPEN, 2 PARKED). -/
def seqCheck (s : State) (n : Nat) (sts : List Nat) : Option Ans :=
  let st := match s.crlSeq n with | some q => q.state | none => 0
  firstFail [(s.srvOwnsSeq n, .refuse 0x0505), (!sts.contains st, .err stsCrlSeqState)]

/-- The sequence of a packet. -/
def pSeq (p : Packet) : Nat := p.u16 16

/-- A change of a sequence kept only where every unit's pool covers its reservations (07 R246). -/
def crlTry (_s s' : State) : Except Ans State :=
  match s'.poolShort with
  | some (u, k) => .error ⟨Sts.noPages, u, k, 0, false⟩
  | none => .ok s'

/-- The geometry of CREEL_SEQ_OPEN. -/
def openGeom (p : Packet) : CrlSeq := ⟨1, 0, p.u16 18, p.u16 20, p.u32 24, p.u32 28, none, (0, 0)⟩

/-- Whether a geometry breaks 07 R236 or Table 7-11. -/
def geomBad (g : CrlSeq) : Bool :=
  g.layers == 0 || decide (g.rowBytes < 64) || decide (8192 < g.rowBytes) || g.rowBytes % 64 != 0 || g.maxTok == 0 ||
    decide (1048576 < g.maxTok) || decide (g.maxTok < g.resvTok) || decide (524288 < g.layers * g.ppl)

/-- A sequence opened, as commands and the serving engine open it. -/
def crlOpen (s : State) (n : Nat) (g : CrlSeq) : Except Ans State := s.crlTry (s.setCrlSeq n g)

/-- The reserved length of a sequence changed, and the sequence OPEN (07 R246, R248, R252). -/
def crlSetResv (s : State) (n : Nat) (q : CrlSeq) (tok : Nat) : Except Ans State :=
  let q := { q with resvTok := tok, state := 1, cause := 0 }
  s.crlTry ((s.setCrlSeq n q).crlMarkResv n q)

/-- Accesses that were accepted before a command on their sequence complete first (07 R249). -/
def crlFlush (s : State) (n : Nat) : State :=
  let mine := s.crl.waiting.filter (fun w => crlSeqOf w.1.addr == n)
  let s := { s with crl := { s.crl with waiting := s.crl.waiting.filter (fun w => crlSeqOf w.1.addr != n)
                                        walks := s.crl.walks.filter (fun w => w.2.1 != n) } }
  mine.foldl (fun s w =>
    match s.homeNow w.1 w.2 with
    | (s, some (st, bs)) => s.respond w.1 st bs
    | (s, none) => s) s

/-- The tail of the page that holds token `t` zeroed in every layer (07 R248). -/
def trimTail (s : State) (n : Nat) (q : CrlSeq) (t : Nat) : State :=
  if t % q.rpp = 0 then s
  else (List.range q.layers).foldl (fun s l =>
    match s.crlMap n (l * q.ppl + t / q.rpp) with
    | some m => s.homeWrite (m.page + t % q.rpp * q.rowBytes) (List.replicate ((q.rpp - t % q.rpp) * q.rowBytes) 0)
    | none => s) s

/-- The effect of CREEL_SEQ_TRIM on the tables (07 R243, R248). -/
def crlTrim (s : State) (n t : Nat) : State :=
  match s.crlSeq n with
  | none => s
  | some q =>
    let s := (s.trimTail n q t).tlbDrop n
    s.crlFree n (fun m => decide (t ≤ m.v % q.ppl * q.rpp))

/-- The effect of CREEL_SEQ_CLOSE on the tables: every page that readable entries reach is freed; pages lost under an
unreadable entry are recorded (07 R248, R257). The address of such an entry is not given and stands open. -/
def crlClose (s : State) (n : Nat) : State :=
  let s := s.tlbDrop n
  let bad := s.crl.bad.filter (fun e => e.2.1 == n)
  let s := s.crlFree n (fun _ => true)
  let s := { s with crl := { s.crl with seqs := Cells.erase n s.crl.seqs, bad := s.crl.bad.filter (fun e => e.2.1 != n) } }
  bad.foldl (fun s e => let (a, s) := s.open_ 64; s.troubleRule 3 257 0 (stackIsland e.1) a) s

/-- The accesses that a TRIM or CLOSE held, served against the new tables (07 R249). -/
def crlRelease (s : State) : State :=
  let held := s.crl.held
  let s := { s with crl := { s.crl with busy := none, held := [] } }
  held.foldl (fun s w =>
    match s.crlArrive w.1 w.2 with
    | (s, some (st, bs)) => (if st = Sts.ok then s.deliver w.1 else s).respond w.1 st bs
    | (s, none) => s) s

/-- Accesses that wait at a unit tried again in their order, each behind earlier ones to its page, where their page
does not walk. -/
def crlRetry (s : State) (u : Nat) : State :=
  let ws := s.crl.waiting
  let s := { s with crl := { s.crl with waiting := [] } }
  ws.foldl (fun s w =>
    let n := crlSeqOf w.1.addr
    let v := crlPageOf w.1.addr
    if s.crlHome n v != u || s.crl.walks.contains (u, n, v) || s.crl.waiting.any (fun x => samePage x.1 w.1) then
      s.crlWait w.1 w.2
    else match s.crlValid w.1 with
    | none => s.respond w.1 Sts.accessFault []
    | some g =>
      if s.tlbHas u n v then
        match s.crlDo g u w.1 w.2 with
        | (s, some (st, bs)) => (if st = Sts.ok then s.deliver w.1 else s).respond w.1 st bs
        | (s, none) => s.crlWait w.1 w.2
      else (s.walkStart u n v (some (Origin.req w.1))).crlWait w.1 w.2) s

/-- Pages put into a unit's pool, to be zero-filled (07 R245, R253). -/
def poolPut (s : State) (pages : List Nat) (granted : Bool) : State :=
  { s with crl := { s.crl with zeroing := s.crl.zeroing ++ pages.map (fun k => ⟨k, granted, false⟩) } }

/-- Whether any page of a range is in a pool. -/
def poolTouches (s : State) (base n : Nat) : Bool :=
  let hit := fun k => decide (base ≤ k) && decide (k < base + n * 65536)
  s.crl.free.any (fun f => hit f.1) || s.crl.zeroing.any (fun z => hit z.page) || s.crl.maps.any (fun m => hit m.page) ||
    s.crl.kept.any hit

/-- Free pages taken out of a unit's pool, zeroed ones before those still being zero-filled; which ones is open
(assumption 42). -/
def poolTake (u : Nat) : Nat → State → State × List Nat
  | 0, s => (s, [])
  | k + 1, s =>
    let fs := (s.crl.free.filter (fun f => pageUnit f.1 == u)).map (·.1)
    let zs := (s.crl.zeroing.filter (fun z => pageUnit z.page == u)).map (·.page)
    match s.pick (if fs.isEmpty then zs else fs) with
    | (s, none) => (s, [])
    | (s, some g) =>
      let s := { s with crl := { s.crl with free := s.crl.free.filter (fun f => f.1 != g)
                                            zeroing := s.crl.zeroing.filter (fun z => z.page != g) } }
      let (s, l) := poolTake u k s
      (s, g :: l)

/-- Whether a command names a Creel unit that is absent or gated, the unit number being in range. -/
def unitGone (u : Nat) (s : State) : Bool := decide (u < 8) && !s.stackOn u

/-! ## Gathers (07 R255 to R259) -/

/-- A status line (07 Table 7-4). -/
def gatherLine (g : Gather) (st kind fault : Nat) : List Byte :=
  leBytes 4 g.tag ++ leBytes 2 st ++ leBytes 1 kind ++ leBytes 1 0 ++ leBytes 8 fault ++ List.replicate 48 0

/-- The token of a gather's status line. -/
def gatherTok (g : Gather) : Option Tok := if g.tokEn then some ⟨g.ctr, g.inc, 0⟩ else none

/-- Requests that waited for a unit's queue enter it and are answered (07 R255). -/
def gatherAdmit (s : State) (u : Nat) : State :=
  match s.crl.vc0.find? (fun q => q.addr % 8 == u) with
  | none => s
  | some q =>
    let i := s.crl.vc0.findIdx (fun q => q.addr % 8 == u)
    let s := { s with crl := { s.crl with vc0 := s.crl.vc0.eraseIdx i, queue := s.crl.queue ++ [gatherOf u q.data none] } }
    s.respond q Sts.ok []

/-- The row stores of a gather in 64-byte lines, up to the first line that reads uncorrectable: what is delivered and
the address of the bad block (07 R256, R257). -/
def gatherRows (s : State) (g : Gather) (rb : Nat) (m : CrlPage) (ue : Option Nat) :
    State × List Byte × Option Nat :=
  let n := g.rows * rb / 64
  (List.range n).foldl (fun (acc : State × List Byte × Option Nat) i =>
    let (s, bs, e) := acc
    match e with
    | some _ => (s, bs, e)
    | none =>
      let k := m.page + g.row0 * rb + 64 * i
      let s := s.memCount (some (Origin.of (0x20 + g.unit) (ownAddr k))) k 64 true false
      match s.homeRead ⟨7, stackIsland g.unit, Sts.eccHalt⟩ k 64 (if ue = some i then .ue else .clean) with
      | (s, some l) => (s, bs ++ l, none)
      | (s, none) => (s, bs, some (ownAddr ((s.poisonIn k 64).getD (protKey k))))) (s, [], none)

/-- The end of a gather: the status line with its token, the count, and the reply of a CREEL_GATHER. -/
def gatherEnd (s : State) (g : Gather) (st kind fault : Nat) : State :=
  let line := gatherLine g st kind fault
  let q := Req.make g.status s.srcMod (0x20 + g.unit) 64 opStore (gatherTok g) line
  let (s, bad) := s.ownOp q .clean
  let s := match bad with
    | some e => s.wr (Reg.CRL_FAULT_ADDR g.unit) e.2
    | none => (s.bumpWrap (Reg.CRL_GATHER_CNT g.unit) 48 1).pmuEvent (12 + g.unit) 0x112 1 none
  let s := if st = Sts.ok || st = stsCrlParked then s else s.wr (Reg.CRL_FAULT_ADDR g.unit) fault
  match g.via with
  | some v => s.finish v (.err st)
  | none => s

/-- A request served (07 R256, R257): `far` is the status and address with which another module refuses a row store. -/
def gatherServe (s : State) (g : Gather) (walk : Walk) (ue : Option Nat) (far : Option (Nat × Nat)) : State :=
  match s.crlSeq g.seq with
  | none => s.gatherEnd g Sts.accessFault 0 (ownAddr (3 * 2 ^ 48 + g.seq * 2 ^ 35))
  | some q =>
    let v := g.layer * q.ppl + g.page
    let row := ownAddr (3 * 2 ^ 48 + g.seq * 2 ^ 35 + v * 65536 + g.row0 * q.rowBytes)
    if g.layer ≥ q.layers || g.page ≥ q.ppl || g.rows == 0 || g.row0 + g.rows > q.rpp || (g.tokEn && g.inc == 0) then
      s.gatherEnd g Sts.badParam 0 row
    else if s.crlHome g.seq v != g.unit || decide (q.maxTok < g.page * q.rpp + g.row0 + g.rows) then
      s.gatherEnd g Sts.accessFault 0 row
    else if !s.stackOk g.unit then s.gatherEnd g Sts.eccHalt 0 row
    else if walk != .good && !s.tlbHas g.unit g.seq v then
      match walk with
      | .ue l =>
        let s := s.crlPark g.seq 2 g.unit row 257 Sts.eccHalt
        let s := { s with crl := { s.crl with bad := (g.unit, g.seq, l, v) :: s.crl.bad } }
        s.gatherEnd g Sts.eccHalt 0 row
      | _ => (s.crlPark g.seq 2 g.unit row 241 Sts.accessFault).gatherEnd g Sts.accessFault 0 row
    else
      let s := s.tlbTouch g.unit g.seq v (some (Origin.of (0x20 + g.unit) row))
      let ok := if q.state = 2 then stsCrlParked else Sts.ok
      let (s, kind, bs, e) := match s.crlMap g.seq v with
        | none => (s, 1, List.replicate (g.rows * q.rowBytes) (0 : Byte), none)
        | some m => let (s, bs, e) := s.gatherRows g q.rowBytes m ue; (s, 0, bs, e)
      match s.putGlobal (0x20 + g.unit) g.dest bs with
      | (s, some (st, a)) => s.gatherEnd g st kind a
      | (s, none) =>
        match e, far with
        | some a, _ => s.gatherEnd g Sts.eccHalt kind a
        | none, some (st, a) => s.gatherEnd g st kind a
        | none, none => s.gatherEnd g ok kind 0

/-- The requests of a CREEL_GATHER as its unit will make them, for the check of its whole extent (08 R304). -/
def gatherExtent (s : State) (g : Gather) : Option Ans :=
  let rb := match s.crlSeq g.seq with | some q => q.rowBytes | none => 0
  (s.issueCheckAll [s.putReqs (0x20 + g.unit) g.dest (List.replicate (g.rows * rb) 0),
    [Req.make g.status s.srcMod (0x20 + g.unit) 64 opStore (gatherTok g) (List.replicate 64 0)]]).map accessAns

/-! ## Buckets (07 R272) -/

/-- The bucket of a length. -/
def bucketOf (bounds : List Nat) (len : Nat) : Nat := (bounds.findIdx? (fun b => decide (len ≤ b))).getD bounds.length

/-- Insertion behind every entry that does not come after the new one: bucket, longer first, lower SEQ first. -/
def bucketInsert (bounds : List Nat) (e : Nat × Nat) : List (Nat × Nat) → List (Nat × Nat)
  | [] => [e]
  | f :: l =>
    let key := fun (x : Nat × Nat) => bucketOf bounds x.2
    let after := decide (key e < key f) || (key e == key f && (decide (f.2 < e.2) || (f.2 == e.2 && decide (e.1 < f.1))))
    if after then e :: f :: l else f :: bucketInsert bounds e l

/-- The output of CREEL_BUCKET: the sorted entries, 16 start indices, and N. -/
def bucketOut (bounds : List Nat) (es : List (Nat × Nat)) : List Byte :=
  let sorted := es.foldl (fun l e => bucketInsert bounds e l) []
  let start := fun i => (sorted.filter (fun e => decide (bucketOf bounds e.2 < i))).length
  (sorted.map (fun e => leBytes 2 e.1 ++ leBytes 2 0 ++ leBytes 4 e.2)).flatten ++
    ((List.range 16).map (fun i => leBytes 4 (start i))).flatten ++ leBytes 4 es.length

/-- Whether numbers rise strictly. -/
def rising : List Nat → Bool
  | a :: b :: l => decide (a < b) && rising (b :: l)
  | _ => true

end State

open State

/-! ## Commands -/

/-- CREEL_SEQ_OPEN (07 R246, Table 7-11). -/
def execCreelSeqOpen (via : Via) (p : Packet) (s : State) : Host.Outcome State Fault Refusal :=
  .next (s.creelRow via p 0x0300 (fun _ => false)
    (fun _ => decide (4095 < pSeq p) || geomBad (openGeom p) || (!p.expert && p.u32 28 != p.u32 24))
    (fun s => (s.seqCheck (pSeq p) [0]).or
      (match s.crlOpen (pSeq p) (openGeom p) with | .error a => some a | .ok _ => none))
    (fun s => match s.crlOpen (pSeq p) (openGeom p) with | .error a => (s, some a) | .ok s => (s, some .done)))

/-- CREEL_SEQ_RESERVE (07 R246, R248). -/
def execCreelSeqReserve (via : Via) (p : Packet) (s : State) : Host.Outcome State Fault Refusal :=
  .next (s.creelRow via p 0x0301 (fun _ => false)
    (fun s => decide (4095 < pSeq p) || (match s.crlSeq (pSeq p) with | some q => decide (q.maxTok < p.u32 28) | none => false))
    (fun s => (s.seqCheck (pSeq p) [1]).or (match s.crlSeq (pSeq p) with
      | some q => (match s.crlSetResv (pSeq p) q (p.u32 28) with | .error a => some a | .ok _ => none)
      | none => none))
    (fun s => match s.crlSeq (pSeq p) with
      | some q => (match s.crlSetResv (pSeq p) q (p.u32 28) with
        | .error a => (s, some a)
        | .ok s => (s.tlbDrop (pSeq p), some .done))
      | none => (s, some .done)))

/-- CREEL_UNPARK (07 R252). -/
def execCreelUnpark (via : Via) (p : Packet) (s : State) : Host.Outcome State Fault Refusal :=
  .next (s.creelRow via p 0x0305 (fun _ => false)
    (fun s => decide (4095 < pSeq p) || (match s.crlSeq (pSeq p) with
      | some q => decide (q.maxTok < p.u32 28) || (!p.expert && p.u32 28 != q.maxTok)
      | none => false))
    (fun s => (s.seqCheck (pSeq p) [2]).or (match s.crlSeq (pSeq p) with
      | some q => (match s.crlSetResv (pSeq p) q (p.u32 28) with | .error a => some a | .ok _ => none)
      | none => none))
    (fun s => match s.crlSeq (pSeq p) with
      | some q => (match s.crlSetResv (pSeq p) q (p.u32 28) with
        | .error a => (s, some a)
        | .ok s => (s.tlbDrop (pSeq p), some .done))
      | none => (s, some .done)))

/-- CREEL_SEQ_TRIM (07 R248, R249): the tables change at once; the reply and the held accesses wait for
TRIM_CLOSE_DONE. -/
def execCreelSeqTrim (via : Via) (p : Packet) (s : State) : Host.Outcome State Fault Refusal :=
  .next (s.creelRow via p 0x0302 (fun _ => false) (fun _ => decide (4095 < pSeq p))
    (fun s => s.seqCheck (pSeq p) [1, 2])
    (fun s =>
      let s := (s.crlFlush (pSeq p)).crlTrim (pSeq p) (p.u32 24)
      ({ s with crl := { s.crl with busy := some (pSeq p, false) } }, none)))

/-- CREEL_SEQ_CLOSE (07 R248, R249). -/
def execCreelSeqClose (via : Via) (p : Packet) (s : State) : Host.Outcome State Fault Refusal :=
  .next (s.creelRow via p 0x0303 (fun _ => false) (fun _ => decide (4095 < pSeq p))
    (fun s => s.seqCheck (pSeq p) [1, 2])
    (fun s =>
      let s := (s.crlFlush (pSeq p)).crlClose (pSeq p)
      ({ s with crl := { s.crl with busy := some (pSeq p, true) } }, none)))

/-- The end of a TRIM or CLOSE (07 R249). -/
def execTrimCloseDone (s : State) : Host.Outcome State Fault Refusal :=
  .next (match s.crl.busy with
    | none => s
    | some _ => s.crlRelease.mccReply .done)

/-- CREEL_SEQ_QUERY (07 R273). FIRST_LOST of a sequence without a discarded write is not stated and stands open. -/
def execCreelSeqQuery (via : Via) (p : Packet) (s : State) : Host.Outcome State Fault Refusal :=
  .next (s.runRow via p (p.base == 0x0304)
    (fun _ => if !profileOne p || decide (4095 < pSeq p) then some .param else none)
    (fun s =>
      match s.crlSeq (pSeq p) with
      | none => let (v, s) := s.open_ 32; (s, some (.ok 0 v))
      | some q =>
        let mapped := (s.crl.maps.filter (fun m => m.seq == pSeq p)).length
        let (v, s) := match q.firstLost with | some t => (t, s) | none => s.open_ 32
        (s, some (.ok (q.cause * 4 + q.state) (mapped * 2 ^ 32 + v)))))

/-- CREEL_POOL_ADD (07 R245, Table 7-11). -/
def execCreelPoolAdd (via : Via) (p : Packet) (s : State) : Host.Outcome State Fault Refusal :=
  let u := p.u8 16
  let n := p.u32 20
  let base := p.u64 24
  .next (s.creelRow via p 0x0310 (unitGone u) (fun _ => decide (8 ≤ u))
    (fun s =>
      let k := memKey base
      if !s.isOwn (modOf base) || spaceOf base != 0 || offOf base / 2 ^ 36 != u || base % 65536 != 0 ||
          decide (s.allocEnd u < offOf base % 2 ^ 36 + n * 65536) || s.poolTouches k n then some (.err stsCrlPool)
      else none)
    (fun s => (s.poolPut ((List.range n).map (fun i => memKey base + i * 65536)) false, some .done)))

/-- CREEL_POOL_REMOVE (07 R273, Table 7-11). -/
def execCreelPoolRemove (via : Via) (p : Packet) (s : State) : Host.Outcome State Fault Refusal :=
  let u := p.u8 16
  let n := p.u32 20
  .next (s.creelRow via p 0x0311 (unitGone u) (fun _ => decide (8 ≤ u))
    (fun s =>
      if s.poolFree u < s.poolResv u + n then some (.err stsCrlPool)
      else match s.runCheck mccUnit (p.u64 24) (8 * n) opStore with
        | some e => some (accessAns e)
        | none => none)
    (fun s =>
      let (s, ks) := poolTake u n s
      match s.putGlobal mccUnit (p.u64 24) ((ks.map (fun k => leBytes 8 (ownAddr k))).flatten) with
      | (s, some e) => (s, some (accessAns e))
      | (s, none) => (s, some .done)))

/-- CREEL_SKEIN_GRANT (07 R253). -/
def execCreelSkeinGrant (via : Via) (p : Packet) (s : State) : Host.Outcome State Fault Refusal :=
  let u := p.u8 16
  let n := p.u32 20
  .next (s.creelRow via p 0x0340 (unitGone u) (fun _ => decide (8 ≤ u))
    (fun s =>
      let total := ((List.range 8).filter s.stackOk).foldl (fun c k => c + s.fd (Fld.HBM_REMAP_STATE_FREE k)) 0
      if total < 16384 + n || s.fd (Fld.HBM_REMAP_STATE_FREE u) < n then some (.refuse 0x0302) else none)
    (fun s =>
      let (s, ks) := (List.range n).foldl (fun (acc : State × List Nat) _ =>
        match acc.1.takeSkein [u] with
        | (s, some k) => (s, acc.2 ++ [k])
        | (s, none) => (s, acc.2)) (s, [])
      ((s.poolPut ks true).bump (Reg.CRL_POOL_GRANTED u) n, some .done)))

/-- CREEL_GATHER (07 R259): queued at its unit; the reply follows the status line. -/
def execCreelGather (via : Via) (p : Packet) (s : State) : Host.Outcome State Fault Refusal :=
  .next (s.unitRow via p (p.base == 0x0320) (32 + p.u8 62) (decide (p.u8 62 < 8)) (fun s n => s.stackOn (n - 32))
    (fun s n =>
      let g := gatherOf (n - 32) (p.bytes 16 36) none
      firstFail [(!profileOne p || g.rows == 0 || (g.tokEn && g.inc == 0), .param), (!s.tenantOpen, .refuse 0x0301),
        (s.srvOwnsSeq g.seq, .refuse 0x0505)] |>.or (s.gatherExtent g))
    (fun s n =>
      let g := gatherOf (n - 32) (p.bytes 16 36) (some (.ring n))
      ({ s with crl := { s.crl with queue := s.crl.queue ++ [g] } }, none)))

/-- CREEL_BUCKET (07 R272). -/
def execCreelBucket (via : Via) (p : Packet) (far : List Host.Cell) (ue : Option Nat) (s : State) :
    Host.Outcome State Fault Refusal :=
  let n := p.u16 40
  let nb := p.u8 42
  let unit := match via with | .ring m => m - 12 | .mcc => mccUnit
  let read := fun (s : State) => match s.getGlobal unit (p.u64 16) (8 * n) far ue with
    | (s, .error e) => (s, Except.error e)
    | (s, .ok l) => (match s.getGlobal unit (p.u64 32) (4 * nb) far ue with
      | (s, .error e) => (s, .error e)
      | (s, .ok b) => (s, .ok (l, (List.range nb).map (fun i => ofLE ((b.drop (4 * i)).take 4)))))
  .next (s.runRow via p (p.base == 0x0321)
    (fun s =>
      let absent := match via with | .ring m => !s.stackOn (m - 32) | .mcc => false
      let ext := ((s.runCheck unit (p.u64 16) (8 * n) opLoad).or (s.runCheck unit (p.u64 32) (4 * nb) opLoad)).or
        (s.runCheck unit (p.u64 24) (8 * n + 68) opStore)
      let bounds := match read s with | (_, .ok (_, b)) => rising b | _ => true
      firstFail [(absent, .err Sts.unitAbsent),
        (!profileOne p || n == 0 || decide (4096 < n) || nb == 0 || decide (15 < nb), .param),
        (!s.tenantOpen, .refuse 0x0301)] |>.or ((ext.map accessAns).or (if bounds then none else some .param)))
    (fun s =>
      match read s with
      | (s, .error e) => (s, some (accessAns e))
      | (s, .ok (l, bounds)) =>
        let es := (List.range n).map (fun i => (ofLE ((l.drop (8 * i)).take 2), ofLE ((l.drop (8 * i + 4)).take 4)))
        match s.putGlobal unit (p.u64 24) (bucketOut bounds es) with
        | (s, some e) => (s, some (accessAns e))
        | (s, none) => (s, some .done)))

/-! ## Events -/

/-- A gather request at its endpoint (07 R255). -/
def execGatherRequest (q : Req) (s : State) : Host.Outcome State Fault Refusal :=
  .next (if isEndpoint q.addr then s.performReq q .clean else s)

/-- The next queued request of a unit served (07 R256). A gather of a CREEL_GATHER replies too. -/
def execGatherServe (unit : Nat) (walk : Walk) (ue : Option Nat) (far : Option (Nat × Nat)) (s : State) :
    Host.Outcome State Fault Refusal :=
  .next (match s.crl.queue.find? (fun g => g.unit == unit) with
    | none => s
    | some g =>
      let i := s.crl.queue.findIdx (fun g => g.unit == unit)
      let s := { s with crl := { s.crl with queue := s.crl.queue.eraseIdx i } }
      (s.gatherAdmit unit).gatherServe g walk ue far)

/-- A walk completes (07 R241, R242, R257). -/
def execPageWalkComplete (unit seq page : Nat) (walk : Walk) (s : State) : Host.Outcome State Fault Refusal :=
  .next (if !s.crl.walks.contains (unit, seq, page) then s
    else
      let s := { s with crl := { s.crl with walks := s.crl.walks.filter (· != (unit, seq, page)) } }
      let here := fun (w : Req × Seen) => crlSeqOf w.1.addr == seq && crlPageOf w.1.addr == page
      match walk with
      | .good => (s.tlbPut unit seq page).crlRetry unit
      | w =>
        let mine := s.crl.waiting.filter here
        let s := { s with crl := { s.crl with waiting := s.crl.waiting.filter (fun x => !here x) } }
        let addr := ownAddr (3 * 2 ^ 48 + seq * 2 ^ 35 + page * 65536)
        let s := (s.crlPark seq 2 unit addr (if w = .reserved then 241 else 257)
          (if w = .reserved then Sts.accessFault else Sts.eccHalt)).wr (Reg.CRL_FAULT_ADDR unit) addr
        let s := match w with
          | .ue l => { s with crl := { s.crl with bad := (unit, seq, l, page) :: s.crl.bad } }
          | _ => s
        let st := if w = .reserved then Sts.accessFault else Sts.eccHalt
        (mine.foldl (fun s x => s.respond x.1 st []) s).crlRetry unit)

/-- A page of a pool is zero-filled (07 R245, R248). -/
def execPageZeroFillDone (page : Nat) (s : State) : Host.Outcome State Fault Refusal :=
  .next (match s.crl.zeroing.find? (fun z => z.page == page) with
    | none => s
    | some z =>
      let u := pageUnit page
      let s := (s.zeroHbm page 65536)
      let s := { s with crl := { s.crl with zeroing := s.crl.zeroing.filter (fun y => y.page != page)
                                            free := s.crl.free ++ [(page, z.granted)] } }
      let s := s.crlRetry u
      if z.freed then s.returnGranted u else s)

end Sys2Proof.Machine
end

