-- ==== Sys2Proof/Machine/Fetch.lean ====
section
/-! DEFINITION. Fetching packets of a ring's submission queue (02 R76, R78, R86, R87; 10 R360). -/

namespace Sys2Proof.Machine
namespace State

/-- Requests that wait for admission (10 Table 10-11). -/
def srvQueued (s : State) : Nat := (s.srv.reqs.filter (fun r => r.st == 0)).length

/-- The index of the next packet, or record, to fetch: behind those fetched already. -/
def fetchIndex (s : State) (n : Nat) : Nat :=
  match (s.engOf n).fetched.getLast? with
  | some j => j.behind
  | none => s.ringHead n

/-- Whether the target of a ring may fetch now: the ring works, something waits, the place is at most 8 packets beyond
HEAD, or one record in confidential mode (02 R76), and a serving ring has room for a request (10 R360). -/
def mayFetch (s : State) (n : Nat) : Bool :=
  s.ringRuns n && decide (0 < sub32 (s.ringTail n) (s.fetchIndex n)) &&
    decide (sub32 (s.fetchIndex n) (s.ringHead n) < if s.conf then 2 else 8) && (decide (n < 64) || decide (s.srvQueued < 8192))

/-- Packets at their target; HEAD stands at `idx` until the last of them starts, then behind it. -/
def fetched (s : State) (n idx : Nat) (ps : List Packet) : State :=
  let k := ps.length
  let jobs := ps.zipIdx.map (fun (p, i) =>
    (⟨p, .ring n, false, s.now, false, false, if i + 1 = k then (idx + 1) % 2 ^ 32 else idx⟩ : Job))
  let e := s.engOf n
  (s.setEng n { e with fetched := e.fetched ++ jobs }).startNext n

/-- A fetch that fails (02 R78): one reply without OPCODE and SEQ, HEAD behind the entry, the ring halted. While commands
ahead of the entry wait or run, the fetch is only made again later. -/
def fetchFail (s : State) (n idx : Nat) (a : Ans) : State :=
  let e := s.engOf n
  if e.cur.isNone && e.fetched.isEmpty && e.held.isEmpty then
    let s := if a.status = Sts.eccHalt then s.logUe ⟨5, s.viaIsland (.ring n), a.status⟩ a.r1 false else s
    ((s.wr (Reg.HIF_RING_HEAD n) ((idx + 1) % 2 ^ 32)).ringReply n (replyBits 0 0 s.now a false) false).ringHalt n a.status a.r1
  else s

/-- The next packet of a ring fetched, or in confidential mode its next record. -/
def ringFetch (s : State) (n : Nat) (seen : Seen) : State :=
  if !s.mayFetch n then s
  else
    let idx := s.fetchIndex n
    if s.conf then
      let a := s.rd (Reg.HIF_RING_SQ_BASE n) + 4096 * (idx % s.ringSize n)
      let bad : Ans := ⟨Sts.accessFault, 1, 0, hostAddr a, false⟩
      match s.windowOf a 4096 with
      | none => s.fetchFail n idx (.fault (hostAddr a))
      | some (w, b) =>
        if seen = .ue then s.fetchFail n idx ⟨Sts.eccHalt, 0, 0, hostAddr a, false⟩
        else match s.openRecord w ((a - b.base) / 4096) with
        | (s, none) => s.fetchFail n idx bad
        | (s, some pl) =>
          let ps := (List.range (pl.length / 64)).map (fun i => Packet.ofBits (BitVec.ofNat 512 (ofLE ((pl.drop (64 * i)).take 64))))
          if ps.isEmpty then s.fetchFail n idx bad else s.fetched n idx ps
    else
      let a := s.rd (Reg.HIF_RING_SQ_BASE n) + 64 * (idx % s.ringSize n)
      if seen = .ue then s.fetchFail n idx ⟨Sts.eccHalt, 0, 0, hostAddr a, false⟩
      else s.fetched n idx [Packet.ofBits (BitVec.ofNat 512 (ofLE (s.hostRead a 64)))]

end State
end Sys2Proof.Machine
end

