-- ==== Sys2Proof/Machine/Sampler.lean ====
section
/-! DEFINITION. Fitch images and their masks (10 R370 to R373) and the sampler (10 R374 to R376). -/

namespace Sys2Proof.Machine

/-! ## Fitch images -/

/-- `n` bytes of an image as a number. -/
def imgFld (img : List Byte) (off n : Nat) : Nat := ofLE ((img.drop off).take n)

namespace Fitch

/-- The image's tag. -/
def tag : Nat := 0x46544331

/-- States of an image. -/
def states (h : List Byte) : Nat := imgFld h 8 4

/-- Ranges of an image. -/
def ranges (h : List Byte) : Nat := imgFld h 12 4

/-- The bytes that a header gives its image. -/
def size (h : List Byte) : Nat :=
  max 64 (max (imgFld h 20 4 + 16 * states h) (imgFld h 24 4 + 8 * ranges h))

/-- The byte offset of the first malformed header field (10 Table 10-5, R371). -/
def headBad (h : List Byte) (vocab : Nat) : Option Nat :=
  ([(0, imgFld h 0 4 != tag), (4, imgFld h 4 4 != vocab), (8, states h == 0 || decide (16777215 < states h)),
    (12, decide (2 ^ 25 < ranges h)), (16, decide (states h ≤ imgFld h 16 4)), (20, imgFld h 20 4 % 64 != 0),
    (24, imgFld h 24 4 % 64 != 0)].find? (·.2)).map (·.1)

/-- A state entry: its first range, its range count and SFLAGS. -/
def state (img : List Byte) (s : Nat) : Nat × Nat × Nat :=
  let o := imgFld img 20 4 + 16 * s
  (imgFld img o 4, imgFld img (o + 4) 4, imgFld img (o + 8) 2)

/-- A range entry: FIRST, LAST, NEXT. -/
def range (img : List Byte) (i : Nat) : Nat × Nat × Nat :=
  let w := imgFld img (imgFld img 24 4 + 8 * i) 8
  (bits w 0 18, bits w 18 18, bits w 40 24)

/-- The offsets of entries that break 10 R371. -/
def bad (img : List Byte) (vocab : Nat) : List Nat :=
  let badStates := (List.range (states img)).filter (fun s =>
    let (f, c, _) := state img s
    decide (262144 < c) || decide (ranges img < f + c))
  let owned := ((List.range (states img)).map (fun s =>
    let (f, c, _) := state img s
    if ranges img < f + c then [] else (List.range c).map (fun i => (f + i, i != 0)))).flatten
  let badOwned := owned.filter (fun (i, chained) =>
    let (a, b, _) := range img i
    decide (b < a) || decide (vocab ≤ b) || (chained && decide (a ≤ (range img (i - 1)).2.1)))
  let badNext := (List.range (ranges img)).filter (fun i => decide (states img ≤ (range img i).2.2))
  badStates.map (fun s => imgFld img 20 4 + 16 * s) ++ badOwned.map (fun e => imgFld img 24 4 + 8 * e.1) ++
    badNext.map (fun i => imgFld img 24 4 + 8 * i)

/-- The lowest of a list of offsets. -/
def lowest : List Nat → Option Nat
  | [] => none
  | x :: l => some (l.foldl min x)

/-- Whether a state is FREE. -/
def free (img : List Byte) (s : Nat) : Bool := bit (state img s).2.2 1

/-- The range of a state that holds a token. -/
def rangeOf (img : List Byte) (s t : Nat) : Option (Nat × Nat × Nat) :=
  let (f, c, _) := state img s
  ((List.range c).map (fun i => range img (f + i))).find? (fun r => decide (r.1 ≤ t) && decide (t ≤ r.2.1))

/-- The mask (10 R372). -/
def allows (img : List Byte) (s eos t : Nat) : Bool :=
  if t = eos then bit (state img s).2.2 0 else free img s || (rangeOf img s t).isSome

/-- The state after a token other than EOS (10 R373). -/
def next (img : List Byte) (s t : Nat) : Nat :=
  if free img s then s else match rangeOf img s t with | some r => r.2.2 | none => s

end Fitch

/-! ## The sampler (10 R375, R376) -/

namespace Sampler

/-- A value rounded to FP32 and read again. -/
def fp32 (v : Val) : Val := readElem 1 (convertVal .rne 1 v).1

/-- `exp2` rounded once to FP32 (03 R119). -/
def exp2 (v : Val) : Val := readElem 1 (convert .rne 1 (Unary.apply .exp2 v).1).1

/-- A weight as a multiple of 2^-149; none for a NaN or an infinity. -/
def units : Val → Option Nat
  | .fin _ m e => some (if 0 ≤ e + 149 then m * 2 ^ (e + 149).toNat else m / 2 ^ (-(e + 149)).toNat)
  | _ => none

/-- The index of the largest logit among the allowed, the lowest one of equals. -/
def argmax (x : Nat → Val) : List Nat → Option Nat
  | [] => none
  | i :: l => match argmax x l with
    | none => some i
    | some j => if (x i).lt (x j) then some j else some i

/-- Insertion by weight descending, then index ascending. -/
def insertBy (e : Nat × Nat) : List (Nat × Nat) → List (Nat × Nat)
  | [] => [e]
  | f :: l => if f.2 < e.2 || (f.2 = e.2 && decide (e.1 < f.1)) then e :: f :: l else f :: insertBy e l

/-- The sum of weights. -/
def total (l : List (Nat × Nat)) : Nat := l.foldl (fun s e => s + e.2) 0

/-- The shortest prefix with `sum * 2^32 ≥ p * s`. -/
def topP (p s : Nat) : Nat → List (Nat × Nat) → List (Nat × Nat)
  | _, [] => []
  | acc, e :: l => if p * s ≤ (acc + e.2) * 2 ^ 32 then [e] else e :: topP p s (acc + e.2) l

/-- The first element whose prefix sum exceeds `u * s / 2^64`. -/
def choose (u s : Nat) : Nat → List (Nat × Nat) → Option (Nat × Nat)
  | _, [] => none
  | acc, e :: l => if u * s < (acc + e.2) * 2 ^ 64 then some e else choose u s (acc + e.2) l

/-- `log2 (w / s)` rounded once to FP32. -/
def logp2 (w s : Nat) : Nat :=
  if w = s then 0 else (convert .rne 1 (let (n, m) := Unary.log2 (w * 2 ^ 1400 / s) (-1400); .fin n m)).1

/-- What a sample gives: a token with LOGP2, a NaN among the allowed logits, or a choice that the rule leaves open. -/
inductive Pick where
  | token (t lp : Nat)
  | nan
  | openLp (t : Nat)
  | openAll
  deriving DecidableEq, Repr

/-- The procedure of 10 R375: the allowed tokens, their logits, the profile, the key and the output position. Where a
weight is itself not a number the rule gives no token, and where every weight is 0 it gives no LOGP2. -/
def sample (allowed : List Nat) (x : Nat → Val) (inv topK topPv key n : Nat) : Pick :=
  if allowed.any (fun i => (x i).isNan) then .nan
  else if inv % 2 ^ 31 = 0 then match argmax x allowed with | some t => .token t 0 | none => .openAll
  else
    let xm := match argmax x allowed with | some i => x i | none => .zero
    let scale := readElem 1 inv
    let ws := allowed.map (fun i => (i, if x i = .inf true then some 0
      else units (exp2 (fp32 ((fp32 ((x i).add xm.negate)).mul scale)))))
    if ws.any (fun e => e.2.isNone) then .openAll
    else
      let ws := ws.map (fun e => (e.1, e.2.getD 0))
      match ws.filter (fun e => e.2 != 0) with
      | [] => match allowed with | t :: _ => .openLp t | [] => .openAll
      | pos =>
        let order := pos.foldr insertBy []
        let keep := if topK = 0 then order else order.take topK
        let keep := if topPv = 0 then keep else topP topPv (total keep) 0 keep
        let s := total keep
        let u := Kcg.aes key (2 ^ 96 + n % 2 ^ 32 * 2 ^ 64) / 2 ^ 64
        match choose u s 0 keep with
        | some (t, w) => .token t (logp2 w s)
        | none => .openAll

/-- `log2 (e) / TEMP` rounded once to FP32 (10 Table 10-8). -/
def invTemp (temp : Nat) : Nat :=
  match readElem 1 temp with
  | .fin _ m e =>
    if m = 0 then 0
    else (convert .rne 1 (.fin false ⟨Unary.invLn2 * 2 ^ 400 / m, -(Unary.prec : Int) - 400 - e, true⟩)).1
  | _ => 0

/-- `RNE (TOP_P * 2^32)`, with 1.0 giving 0. -/
def topP32 (p : Nat) : Nat :=
  if p = 0x3F800000 then 0
  else match readElem 1 p with
    | .fin _ m e => ((⟨m, e, false⟩ : Mag).roundAt .rne (-32)).1
    | _ => 0

end Sampler
end Sys2Proof.Machine
end

