-- ==== Sys2Proof/Machine/ServeOps.lean ====
section
/-! DEFINITION. The serving engine's working parts (10): records and FINAL replies, stops and failures, admission and the
plan of a step, sampling. -/

namespace Sys2Proof.Machine

/-! ## Reading parameters -/

/-- A plan from its 64-byte header (10 Table 10-1). -/
def SrvPlan.ofBytes (h : List Byte) : SrvPlan :=
  let f := imgFld h
  ⟨f 2 1, bit (f 3 1) 0, f 4 4, f 8 4, f 12 2, f 14 2, f 16 4, f 20 2, f 22 2, f 24 4, f 28 2, f 30 2, f 32 4, f 36 4,
    f 40 4, f 44 4, f 48 4, f 52 4, f 56 4⟩

/-- The Creel geometry of a plan, with a reserved length (10 R362). -/
def SrvPlan.geom (g : SrvPlan) (resv : Nat) : CrlSeq := ⟨1, 0, g.layers, g.rowBytes, g.maxTok, resv, none, (0, 0)⟩

/-- The offset of the first header field outside Table 10-1. -/
def planBad (h : List Byte) : Option Nat :=
  let g := SrvPlan.ofBytes h
  ([(0, imgFld h 0 2 != 1), (4, decide (g.vocab < 2) || decide (262144 < g.vocab)), (8, decide (g.vocab ≤ g.eos)),
    (12, g.layers == 0), (14, decide (g.rowBytes < 64) || decide (8192 < g.rowBytes) || g.rowBytes % 64 != 0),
    (16, State.geomBad (g.geom 0)), (20, decide (4095 < g.seqBase)),
    (22, g.seqCount == 0 || decide (4096 < g.seqBase + g.seqCount)), (28, g.stepTok == 0),
    (30, g.chunkMin == 0 || decide (g.chunkMax < g.chunkMin))].find? (·.2)).map (·.1)

/-- The step model (10 R352). -/
def SrvPlan.cost (g : SrvPlan) (reqs toks ctx : Nat) : Nat :=
  g.t0 + g.cSeq * reqs + g.cTok * toks + ceilDiv (g.cCtx * ctx) 1000

/-- The time reservation of a length (10 R363). -/
def SrvPlan.dur (g : SrvPlan) (len : Nat) : Nat := g.cSeq + g.cTok + ceilDiv (g.cCtx * len) 1000

/-- L of a request (10 R359). -/
def SrvReq.len (r : SrvReq) : Nat := r.promptLen + r.maxNew - r.start

/-- A sampler profile: INV_TEMP_L2, TOP_K and TOP_P32 (10 R374). -/
def fixedProfile : Nat → Nat × Nat × Nat
  | 1 => (0x3FB8AA3B, 0, 0)
  | 2 => (0x4038AA3B, 0, 0xE6666666)
  | 3 => (0x3FB8AA3B, 40, 0)
  | _ => (0, 0, 0)

namespace State

/-- SRV_STATUS.STATE. -/
def srvState (s : State) : Nat := s.fd Fld.SRV_STATUS_STATE

/-- Whether the engine works on requests: RUNNING or STOPPING. -/
def srvWorks (s : State) : Bool := s.srvState == 1 || s.srvState == 2

/-- A live request. -/
def srvReq (s : State) (ring id : Nat) : Option SrvReq :=
  s.srv.reqs.find? (fun r => r.ring == ring && r.id == id && r.st != 4)

/-- A live request changed. -/
def updReq (s : State) (ring id : Nat) (f : SrvReq → SrvReq) : State :=
  { s with srv := { s.srv with
      reqs := s.srv.reqs.map (fun r => if r.ring = ring ∧ r.id = id ∧ r.st ≠ 4 then f r else r) } }

/-- Whether a request holds a sequence (10 Table 10-4). -/
def srvHolds (r : SrvReq) : Bool := r.st == 1 || r.st == 2 || r.st == 3

/-- Whether outputs carry NONREPRO (10 R367). -/
def srvNonrepro (s : State) : Bool := match s.srv.plan with | some g => !g.repro | none => false

/-- An account's settings. -/
def srvAcct (s : State) (a : Nat) : SrvAcct := Cells.get SrvAcct.start a s.srv.accts

/-- An account's settings replaced. -/
def setAcct (s : State) (a : Nat) (x : SrvAcct) : State :=
  { s with srv := { s.srv with accts := Cells.set SrvAcct.start a x s.srv.accts } }

/-- BUCKET of an account, in sixteenths of a token. -/
def bucket (s : State) (a : Nat) : Int := sext 40 (s.fd (Fld.SRV_ACCT_BUCKET_BUCKET a))

/-- BUCKET replaced; it stays inside its field. -/
def setBucket (s : State) (a : Nat) (v : Int) : State :=
  s.fw (Fld.SRV_ACCT_BUCKET_BUCKET a) (ofInt 40 (max (-2 ^ 39) (min (2 ^ 39 - 1) v)))

/-- HEADROOM and QUEUE_TIMEOUT_MS of a ring (10 R387). -/
def srvRing (s : State) (n : Nat) : Nat × Nat := Cells.get (1024, 0) n s.srv.rings

/-! ## Records (10 R354 to R356) -/

/-- A stream record written to the request's ring (10 Table 10-2). -/
def srvRecord (s : State) (r : SrvReq) (rtype status detail offset token lp : Nat) : State :=
  s.ringReply r.ring
    (replyBits rtype r.id s.now ⟨status, detail, offset, token % 2 ^ 32 + lp * 2 ^ 32, s.srvNonrepro⟩ false) r.job.pkt.irq

/-- An EVENT record: 1 PAUSED, 2 RESUMED, 3 ADMITTED. -/
def srvEvent (s : State) (r : SrvReq) (what lost : Nat) : State :=
  s.srvRecord r 0x05F1 (if what = 1 then Sts.noPages else Sts.ok) what r.next lost 0

/-- RESULT1 of a FINAL reply: TTFT and the largest time between tokens in microseconds, or the faulting address. -/
def finalR1 (r : SrvReq) (status addr : Nat) : Nat :=
  if status = Sts.accessFault ∨ status = Sts.eccHalt then addr
  else
    let ttft := if r.firstNs = 0 then 0 else (r.firstNs - r.fetchNs) / 1000
    min max32 ttft + min max32 (r.tbtMax / 1000) * 2 ^ 32

/-- The FINAL reply of a live request: the request is DONE, its sequence closed. -/
def srvFinal (s : State) (r : SrvReq) (status detail addr : Nat) : State :=
  let s := s.ringReply r.ring (r.job.reply ⟨status, detail, r.next, finalR1 r status addr, s.srvNonrepro⟩ s.now) r.job.pkt.irq
  let s := match r.seq with
    | some n => if (s.crlSeq n).isSome then (s.crlFlush n).crlClose n else s
    | none => s
  let key := (r.ring, r.id)
  let s := s.updReq r.ring r.id (fun r => { r with st := 4, endStep := s.rd Reg.SRV_STEP_CNT, final := none })
  ({ s with srv := { s.srv with admitted := s.srv.admitted.filter (· != key), paused := s.srv.paused.filter (· != key) } }).ringSettle r.ring

/-- FINAL replies of every request that is not DONE, in order of fetch. -/
def srvFinalAll (s : State) (status detail addr : Nat) : State :=
  (s.srv.reqs.filter (fun r => r.st != 4)).foldl (fun s r => s.srvFinal r status detail addr) s

/-- A cancel's own reply on its ring. -/
def cancelReply (s : State) (j : Job) (status : Nat) : State :=
  match j.via with
  | .ring n => (s.ringReply n (j.reply (.err status) s.now) j.pkt.irq).ringSettle n
  | .mcc => s

/-! ## Stops and failures (10 R383 to R385) -/

/-- Every owned sequence closed. -/
def srvCloseSeqs (s : State) : State :=
  (s.crl.seqs.filter (fun e => s.srvOwnsSeq e.1)).foldl (fun s e => (s.crlFlush e.1).crlClose e.1) s

/-- The engine STOPPED: nothing owned, no step, the metrics of DONE requests kept. -/
def srvHalted (s : State) : State :=
  let s := s.srvCloseSeqs
  let s := { s with srv := { s.srv with plan := none, step := none, stop := none, tileMask := 0, seqBase := 0, seqCount := 0,
                                        cancels := [], admitted := [], paused := [] } }
  s.fw Fld.SRV_STATUS_STATE 0

/-- Whether a stop has nothing left to wait for. -/
def srvStopReady (s : State) : Bool := s.srv.stop.isSome && s.srv.reqs.all (fun r => r.st == 4)

/-- A SRV_ENGINE_STOP in progress answered, if there is one. -/
def srvStopEnd (s : State) (a : Ans) : State :=
  match s.mcc.cur with
  | some j => if j.begun && j.pkt.base == 0x0521 then s.mccReply a else s
  | none => s

/-- A stop completed once every request is DONE (10 R384): the engine STOPPED, and SRV_ENGINE_STOP answered. -/
def srvStopCheck (s : State) : State :=
  if !s.srvStopReady then s
  else
    s.srvHalted.srvStopEnd .done

/-- The engine FAILED (10 R385): every request ended with the exception's status, a record and vector 2. -/
def srvFail (s : State) (status addr : Nat) : State :=
  if !s.srvWorks then s
  else
    let s := s.srvFinalAll status 0 addr
    let s := s.srv.cancels.foldl (fun s c => s.cancelReply c.2.2 Sts.ok) s
    let s := { s.srvStopEnd (.err status) with srv := { s.srv with step := none, stop := none, cancels := [] } }
    ((s.fw Fld.SRV_STATUS_STATE 3).troubleRule 5 385 1 77 addr).healthCheck

/-- What FUNC_ABORT of family 0x05 does (10 R383, 02 R69). -/
def srvAbort (s : State) : State :=
  let s := s.srvFinalAll Sts.aborted 0 0
  let s := s.srv.cancels.foldl (fun s c => s.cancelReply c.2.2 Sts.aborted) s
  let abortRing := fun (s : State) (n : Nat) =>
    (s.setRingState n aborted).setEng n { s.engOf n with fetched := [] }
  let s := (bitsOf s.srv.tileMask 32).foldl abortRing s
  let s := ((rangeFrom 64 64).filter (fun n => s.ringState n != closed)).foldl abortRing s
  (s.srvStopEnd (.err Sts.aborted)).srvHalted

/-! ## Submitting (10 R358, R359, R388, R391) -/

/-- The parameters of SRV_SUBMIT and SRV_SUBMIT_3320 as a request, not yet admitted. -/
def submitReq (s : State) (n : Nat) (j : Job) : SrvReq :=
  let p := j.pkt
  let old := p.base == 0x0510
  let fit := if old || !p.expert || p.u16 34 = 0xFFFF then none else some (p.u16 34)
  let start := if old then p.u32 60 else p.u32 40
  let st0 := match fit with
    | none => 0
    | some h => if p.u32 36 = 2 ^ 32 - 1 then imgFld (Cells.get [] h s.srv.fitches) 16 4 else p.u32 36 % 2 ^ 24
  { ring := n, id := p.seq.toNat, job := j, compat := old, promptAddr := p.u64 16, promptLen := p.u32 24,
    maxNew := p.u32 28, account := if old then p.u8 42 else p.u8 32, sprof := if old then 0 else p.u8 33,
    sampler := if old then some (Sampler.invTemp (p.u32 32), p.u16 40, Sampler.topP32 (p.u32 36)) else none,
    fitch := fit, fstate := st0, start := start, key := p.fld 44 16, st := 0, seq := none, toks := [], pos := 0, dur := 0,
    next := start, fetchNs := j.start, admitNs := 0, firstNs := 0, lastNs := 0, done := 0, tbtMax := 0, skipped := 0,
    pauses := 0, lost := 0, stalled := false, throttled := false, skippedNow := false, final := none, endStep := 0 }

/-- TEMP below 0 or NaN, or TOP_P outside (0, 1] (10 R388). A minus zero is 0. -/
def samplingBad (temp topP : Nat) : Bool :=
  let t := readElem 1 temp
  let q := readElem 1 topP
  t.isNan || t.lt .zero || q.isNan || !Val.lt .zero q || Val.lt (readElem 1 0x3F800000) q

/-- Parameters out of range (10 R358, R359, R388, R391). A FITCH_STATE0 that is no state of its image counts as one. -/
def submitBad (s : State) (n : Nat) (p : Packet) (r : SrvReq) : Bool :=
  let past := match s.srv.plan with
    | some g => decide (g.maxTok ≤ r.promptLen) || decide (g.maxTok ≤ r.maxNew)
    | none => false
  let noImage := match r.fitch with
    | some h => (match Cells.find h s.srv.fitches with
      | some img => decide (Fitch.states img ≤ r.fstate)
      | none => true)
    | none => false
  (s.srvReq n r.id).isSome || r.promptLen == 0 || r.maxNew == 0 || past || decide (r.maxNew ≤ r.start) || noImage ||
    (if r.compat then samplingBad (p.u32 32) (p.u32 36)
     else if p.expert then decide (15 < r.sprof) else decide (3 < r.sprof) || p.u16 34 != 0xFFFF)

/-- The pages of a geometry that a sequence homes on the unit at place `i` of `k` (07 R238, R246). -/
def pagesHomed (g : CrlSeq) (n k i : Nat) : Nat :=
  (List.range g.layers).foldl (fun c l => c + countMod (l * g.ppl + n) g.resvPages k i) 0

/-- Whether the pages of a length exceed some unit's whole pool, whichever owned sequence takes it. -/
def pagesNever (s : State) (g : SrvPlan) (len : Nat) : Bool :=
  let us := s.crl.homes
  (rangeFrom g.seqBase (min g.seqCount us.length)).all (fun n =>
    us.zipIdx.any (fun (u, i) => decide (s.poolFree u + s.poolUsed u < pagesHomed (g.geom len) n us.length i)))

/-- The checks of a submission beyond the path (10 R359), RESULT0 the output position it would have used. -/
def submitCheck (s : State) (n : Nat) (p : Packet) : Option Ans :=
  match (s.engOf n).cur with
  | none => none
  | some j =>
    let r := s.submitReq n j
    let state := s.srvState != 1
    let large := match s.srv.plan with
      | some g => !state && (decide (g.maxTok < r.len) || (!r.compat && decide (g.budget < g.t0 + g.pf + g.dur r.len)) ||
          s.pagesNever g r.len)
      | none => false
    (firstFail [(s.submitBad n p r, .param), (state, .refuse 0x0501), (large, .err 0x0501), (j.tooLate, .err Sts.timePassed)]).map
      (fun a => { a with r0 := r.start, nonrepro := s.srvNonrepro })

/-- A submission accepted: its job leaves the ring's unit and ends with the FINAL reply. -/
def submit (s : State) (n : Nat) : State :=
  match (s.engOf n).cur with
  | none => s
  | some j =>
    let s := { s with srv := { s.srv with reqs := s.srv.reqs ++ [s.submitReq n j] } }
    (s.setEng n { s.engOf n with cur := none }).startNext n

/-! ## Admission (10 R361 to R364, R389) -/

/-- The owned sequences that are closed. -/
def srvFreeSeqs (s : State) : List Nat :=
  (rangeFrom s.srv.seqBase s.srv.seqCount).filter (fun n => (s.crlSeq n).isNone)

/-- The pages that a length reserves in total. -/
def pagesOf (g : SrvPlan) (resv : Nat) : Nat := g.layers * (g.geom resv).resvPages

/-- The pages an account's admitted requests reserve. -/
def acctPages (s : State) (g : SrvPlan) (a : Nat) : Nat :=
  (s.srv.reqs.filter (fun r => srvHolds r && r.account == a)).foldl (fun c r =>
    c + (match r.seq with
      | some n => (match s.crlSeq n with | some q => pagesOf g q.resvTok | none => 0)
      | none => 0)) 0

/-- Requests that hold a sequence. -/
def srvActive (s : State) : List SrvReq := s.srv.reqs.filter srvHolds

/-- The reserved length with which a request opens its sequence. -/
def openResv (s : State) (r : SrvReq) : Nat :=
  if r.compat then min (r.promptLen + (s.srvRing r.ring).1) r.len else r.len

/-- Whether a request's time and count fit (10 R361, R363; R389). -/
def timeFits (s : State) (g : SrvPlan) (r : SrvReq) : Bool :=
  let native := s.srvActive.filter (fun x => !x.compat)
  let held := native.foldl (fun c x => c + x.dur) 0
  if r.compat then
    let old := s.srvActive.filter (·.compat)
    let ctx := old.foldl (fun c x => c + x.toks.length) (r.promptLen + 1)
    decide (s.srvActive.length + 1 < g.stepTok) &&
      decide (g.cost (old.length + 1) (old.length + 1) ctx + held ≤ g.budget)
  else decide (native.length + 1 < g.stepTok) && decide (g.t0 + g.pf + held + g.dur r.len ≤ g.budget)

/-- Whether a request's account lets it in. -/
def acctFits (s : State) (g : SrvPlan) (r : SrvReq) : Bool :=
  let a := s.srvAcct r.account
  decide ((s.srvActive.filter (fun x => x.account == r.account)).length < a.maxSeq) &&
    decide (s.acctPages g r.account + pagesOf g (s.openResv r) < a.maxPages) && decide (0 < s.bucket r.account)

/-- The fitch state after tokens already received (10 R391); none where the automaton does not allow one. -/
def fitchRun (img : List Byte) (eos : Nat) : Nat → List Nat → Option Nat
  | st, [] => some st
  | st, t :: l => if Fitch.allows img st eos t then fitchRun img eos (if t = eos then st else Fitch.next img st t) l else none

/-- A request whose sequence has been opened: its prompt read, then ADMITTED (10 R360, R391). A read that meets an
uncorrectable error fails the engine (R385). -/
def admitRead (s : State) (g : SrvPlan) (r : SrvReq) (n : Nat) (far : List Host.Cell) (ue : Option Nat) : State :=
  let s := s.updReq r.ring r.id (fun r => { r with seq := some n, st := 1, dur := if r.compat then 0 else g.dur r.len })
  let s := { s with srv := { s.srv with admitted := s.srv.admitted ++ [(r.ring, r.id)] } }
  let r := { r with seq := some n }
  match s.getGlobal mccUnit r.promptAddr (4 * r.promptLen) far ue with
  | (s, .error (st, a)) => if st = Sts.eccHalt then s.srvFail st a else s.srvFinal r st 0 a
  | (s, .ok bs) =>
    let toks := (List.range r.promptLen).map (fun i => bits (imgFld bs (4 * i) 4) 0 18)
    if toks.any (fun t => decide (g.vocab ≤ t)) then s.srvFinal r Sts.badParam 0 0
    else
      let s := s.srvEvent r 3 0
      let s := s.updReq r.ring r.id (fun r => { r with toks := toks, admitNs := s.now })
      match r.fitch with
      | none => s
      | some h =>
        match fitchRun (Cells.get [] h s.srv.fitches) g.eos r.fstate (toks.drop (toks.length - r.start)) with
        | some st => s.updReq r.ring r.id (fun r => { r with fstate := st })
        | none => s.srvFinal r 0x0504 0 0

/-- A queued request admitted where it fits; whether it was. Which free sequence it takes is open. -/
def admitOne (s : State) (g : SrvPlan) (r : SrvReq) (far : List Host.Cell) (ue : Option Nat) : State × Bool :=
  if !(s.acctFits g r && s.timeFits g r) then (s, false)
  else match s.pick s.srvFreeSeqs with
    | (_, none) => (s, false)
    | (s, some n) =>
      match s.crlOpen n (g.geom (s.openResv r)) with
      | .error _ => (s, false)
      | .ok s => (s.admitRead g r n far ue, true)

/-- Queued requests before one another: PRIORITY, then time of fetch (10 R364). -/
def admitBefore (s : State) (a b : SrvReq) : Bool :=
  let p := fun (r : SrvReq) => (s.srvAcct r.account).priority
  decide (p b < p a) || (p a == p b && decide (a.fetchNs < b.fetchNs))

/-- Insertion behind equals. -/
def insertReq (before : SrvReq → SrvReq → Bool) (r : SrvReq) : List SrvReq → List SrvReq
  | [] => [r]
  | x :: l => if before r x then r :: x :: l else x :: insertReq before r l

/-- A stable sort. -/
def sortReqs (before : SrvReq → SrvReq → Bool) (l : List SrvReq) : List SrvReq :=
  l.foldl (fun acc r => insertReq before r acc) []

/-- Admission at a boundary: the first request that does not fit blocks those behind it. -/
def admitAll (s : State) (g : SrvPlan) (far : List Host.Cell) (ue : Option Nat) : List SrvReq → State
  | [] => s
  | r :: l =>
    if s.srvState != 1 then s
    else match s.admitOne g r far ue with
    | (s, true) => s.admitAll g far ue l
    | (s, false) => s

/-! ## The boundary (10 R365) -/

/-- Cancels applied (10 R379): FINAL, then the cancel's own reply on a ring. -/
def applyCancels (s : State) : State :=
  let cs := s.srv.cancels
  let s := { s with srv := { s.srv with cancels := [] } }
  cs.foldl (fun s (ring, id, j) =>
    let s := match s.srvReq ring id with
      | some r => s.srvFinal r 0x0500 0 0
      | none => s
    s.cancelReply j Sts.ok) s

/-- Pending FINAL replies written. -/
def writeFinals (s : State) : State :=
  (s.srv.reqs.filter (fun r => r.st != 4)).foldl (fun s r =>
    match r.final with
    | some (st, d, a) => s.srvFinal r st d a
    | none => s) s

/-- Account changes that waited (10 R369). -/
def applyAccts (s : State) : State :=
  let l := s.srv.acctNext
  let s := { s with srv := { s.srv with acctNext := [] } }
  l.foldl (fun s (a, x) => (s.setAcct a x).fw (Fld.SRV_ACCT_STATE_PRIORITY a) x.priority) s

/-- A bucket refilled for the time since the last boundary (10 R368). -/
def refill (s : State) (elapsed a : Nat) : State :=
  let x := s.srvAcct a
  let cap : Int := x.burst * 16
  if x.rate = 2 ^ 32 - 1 then s.setBucket a cap
  else
    let gain := x.rate * elapsed * 16 + x.frac
    let s := s.setAcct a { x with frac := gain % 10 ^ 9 }
    s.setBucket a (min cap (s.bucket a + (gain / 10 ^ 9 : Nat)))

/-- A paused request resumed where CREEL_UNPARK succeeds (10 R382). -/
def resumeOne (s : State) (key : Nat × Nat) : State :=
  match s.srvReq key.1 key.2 with
  | none => s
  | some r =>
    match r.seq.bind (fun n => (s.crlSeq n).map (fun q => (n, q))) with
    | none => s
    | some (n, q) =>
      match s.crlSetResv n q (min (r.lost + (s.srvRing r.ring).1) r.len) with
      | .error _ => s
      | .ok s =>
        let s := (s.tlbDrop n).updReq r.ring r.id (fun r => { r with st := 1, pos := r.lost })
        let s := { s with srv := { s.srv with paused := s.srv.paused.filter (· != key) } }
        s.srvEvent r 2 0

/-- A compatibility sequence close to its reservation raised by HEADROOM, where the pools allow it (10 R389). -/
def raiseOne (s : State) (r : SrvReq) : State :=
  let h := (s.srvRing r.ring).1
  match r.seq.bind (fun n => (s.crlSeq n).map (fun q => (n, q))) with
  | none => s
  | some (n, q) =>
    if !r.compat || q.state != 1 || decide (r.pos + h / 2 < q.resvTok) || decide (q.maxTok < q.resvTok + h) then s
    else match s.crlSetResv n q (q.resvTok + h) with
      | .ok s => s.tlbDrop n
      | .error _ => s

/-- Completion entries that a ring still has (10 R357). -/
def streamRoom (s : State) (n : Nat) : Nat :=
  let free := s.ringSize n - sub32 (s.rd (Reg.HIF_RING_CPL_TAIL n)) (s.rd (Reg.HIF_RING_CPL_HEAD n))
  let e := s.engOf n
  (if s.conf then free * 127 else free) - e.openRec.length - e.held.length

/-- The admitted requests that may step, in admission order. -/
def stepReqs (s : State) : List SrvReq :=
  (s.srv.admitted.filterMap (fun k => s.srvReq k.1 k.2)).filter (fun r => (r.st == 1 || r.st == 2) && r.final.isNone)

/-- Throttling and stalls decided (10 R368, R357). -/
def decideHolds (s : State) : State :=
  let s := (List.range 256).foldl (fun s a => s.fbw (Fld.SRV_ACCT_STATE_THROTTLED a) (decide (s.bucket a ≤ 0))) s
  (s.stepReqs.foldl (fun (acc : State × List (Nat × Nat)) r =>
    let (s, used) := acc
    let thr := decide (s.bucket r.account ≤ 0)
    let u := Cells.get 0 r.ring used
    let stall := !thr && decide (s.streamRoom r.ring ≤ u)
    let s := if stall then s.bump (Reg.SRV_RING_STALL (r.ring - 64)) 1 else s
    let s := s.updReq r.ring r.id (fun r => { r with throttled := thr, stalled := stall,
                                                     skipped := satAdd max32 r.skipped (b2n (thr || stall)) })
    (s, if thr || stall then used else Cells.set 0 r.ring (u + 1) used)) (s, [])).1

/-! ## The plan of a step (10 R365, R366, R390) -/

/-- A step being planned: requests, positions, attended positions, and the work. -/
structure StepSum where
  n : Nat
  toks : Nat
  ctx : Nat
  work : List (Nat × Nat × Nat × Bool)
  deriving DecidableEq, Repr

/-- Work of `c` positions from position `pos` added. -/
def StepSum.add (x : StepSum) (r : SrvReq) (c : Nat) (chunk : Bool) : StepSum :=
  ⟨x.n + 1, x.toks + c, x.ctx + c * r.pos + c * (c + 1) / 2, x.work ++ [(r.ring, r.id, c, chunk)]⟩

/-- Whether a step stays inside the plan. -/
def StepSum.fits (g : SrvPlan) (x : StepSum) : Bool :=
  decide (g.cost x.n x.toks x.ctx ≤ g.budget) && decide (x.toks ≤ g.stepTok)

/-- The largest `c ≤ m` that satisfies a test which holds up to some point, by halving. -/
def largest (m : Nat) (p : Nat → Bool) : Nat → Nat → Nat
  | 0, acc => acc
  | k + 1, acc =>
    let c := acc + 2 ^ k
    largest m p k (if c ≤ m && p c then c else acc)

/-- Prompt chunks in order; the first request without one ends the filling. -/
def chunks (g : SrvPlan) (first : Bool) (x : StepSum) : List SrvReq → StepSum × Bool
  | [] => (x, true)
  | r :: l =>
    let left := r.toks.length - r.pos
    let m := min (min g.chunkMax left) (g.stepTok - x.toks)
    let c := largest m (fun c => (x.add r c true).fits g) 32 0
    if c = 0 || !(decide (g.chunkMin ≤ c) || c == left || first) then (x, false)
    else chunks g false (x.add r c true) l

/-- The longest context, the earlier one of equals. -/
def longest : List SrvReq → Option SrvReq
  | [] => none
  | r :: l => match longest l with
    | none => some r
    | some y => if r.pos < y.pos then some y else some r

/-- Compatibility decodes that fit, the longest contexts skipped first, those skipped in the last step only after the
others (10 R390). -/
def keepDecodes (g : SrvPlan) (x : StepSum) (need : Option SrvReq) : Nat → List SrvReq → List SrvReq
  | 0, _ => []
  | k + 1, l =>
    let y := l.foldl (fun x r => x.add r 1 false) x
    let z := match need with | some r => y.add r 1 true | none => y
    if z.fits g then l
    else
      let fresh := l.filter (fun r => !r.skippedNow)
      match longest (if fresh.isEmpty then l else fresh) with
      | none => []
      | some r => keepDecodes g x need k (l.filter (fun y => !(y.ring == r.ring && y.id == r.id)))

/-- The step planned from the requests that step. -/
def planStep (s : State) (g : SrvPlan) : State × StepSum :=
  let rs := s.stepReqs.filter (fun r => !r.throttled && !r.stalled)
  let x : StepSum := (rs.filter (fun r => r.st == 2 && !r.compat)).foldl (fun (x : StepSum) r =>
    let y := x.add r 1 false
    if y.fits g then y else x) ⟨0, 0, 0, []⟩
  let nat := rs.filter (fun r => r.st == 1 && !r.compat)
  let dec := rs.filter (fun r => r.st == 2 && r.compat)
  let kept := keepDecodes g x nat.head? dec.length dec
  let in? := fun (r : SrvReq) (l : List SrvReq) => l.any (fun y => y.ring == r.ring && y.id == r.id)
  let s := dec.foldl (fun s r =>
    let skip := !in? r kept
    s.updReq r.ring r.id (fun r => { r with skippedNow := skip, skipped := satAdd max32 r.skipped (b2n skip) })) s
  let x := kept.foldl (fun x r => x.add r 1 false) x
  let (x, more) := chunks g true x nat
  let due := fun (r : SrvReq) => r.fetchNs + s.fd (Fld.SRV_RING_CFG_TTFT_TARGET_MS (r.ring - 64)) * 10 ^ 6
  let com := sortReqs (fun a b => decide (due a < due b)) (rs.filter (fun r => r.st == 1 && r.compat))
  (s, if more then (chunks g nat.isEmpty x com).1 else x)

/-- A step boundary (10 R365 item 1, R384): where a step has work, it begins. -/
def stepBoundary (s : State) (g : SrvPlan) (far : List Host.Cell) (ue : Option Nat) : State :=
  let s := s.applyCancels.writeFinals
  let s := match s.srv.stop with
    | some (1, d) => s.srvFinalAll Sts.aborted d 0
    | _ => s
  if s.srvStopReady then s.srvStopCheck
  else
    let elapsed := s.now - s.srv.boundary
    let s := (List.range 256).foldl (fun s a => s.refill elapsed a) s.applyAccts
    let s := { s with srv := { s.srv with boundary := s.now } }
    let s := s.srv.paused.foldl resumeOne s
    let s := s.srvActive.foldl raiseOne s
    let s := s.admitAll g far ue (sortReqs s.admitBefore (s.srv.reqs.filter (fun r => r.st == 0)))
    if !s.srvWorks then s
    else
      let (s, x) := s.decideHolds.planStep g
      if x.work.isEmpty then s else { s with srv := { s.srv with step := some ⟨s.now, x.work⟩ } }

/-! ## The end of a step (10 R365 items 4 to 6, R375 to R377, R381) -/

/-- The sampler of a request. -/
def samplerOf (s : State) (r : SrvReq) : Nat × Nat × Nat :=
  match r.sampler with
  | some x => x
  | none => if r.sprof < 4 then fixedProfile r.sprof else
    (match s.srv.samplers.find? (fun e => e.1 == r.sprof) with | some e => e.2 | none => fixedProfile 0)

/-- A charge to an account. -/
def charge (s : State) (a n : Nat) : State := s.setBucket a (s.bucket a - n)

/-- A pending FINAL. -/
def pend (s : State) (r : SrvReq) (status detail addr : Nat) : State :=
  s.updReq r.ring r.id (fun r => { r with final := some (status, detail, addr) })

/-- A token sampled: its TOKEN record, the counts and targets, the fitch state, and the end of the request (10 R356,
R368, R373, R377, R390). -/
def emitToken (s : State) (g : SrvPlan) (r : SrvReq) (t lp : Nat) : State :=
  let now := s.now
  let s := ((s.srvRecord r 0x05F0 Sts.ok 0 r.next t lp).bumpWrap Reg.SRV_TOKENS_OUT 64 1).charge r.account 16
  let k := r.ring - 64
  let s := if r.compat && r.firstNs == 0 && decide (s.fd (Fld.SRV_RING_CFG_TTFT_TARGET_MS k) * 10 ^ 6 < now - r.fetchNs) then
    s.bump (Reg.SRV_RING_TTFT_MISS k) 1 else s
  let gap := if r.firstNs = 0 then 0 else now - r.lastNs
  let s := if r.compat && r.firstNs != 0 && decide (s.fd (Fld.SRV_RING_CFG_TBT_TARGET_MS k) * 10 ^ 6 < gap) then
    s.bump (Reg.SRV_RING_TBT_MISS k) 1 else s
  let st := match r.fitch with
    | some h => if t = g.eos then r.fstate else Fitch.next (Cells.get [] h s.srv.fitches) r.fstate t
    | none => r.fstate
  let s := s.updReq r.ring r.id (fun r => { r with
    toks := r.toks ++ [t], next := r.next + 1, fstate := st, st := 2, lastNs := now,
    firstNs := if r.firstNs = 0 then now else r.firstNs, tbtMax := min max32 (max r.tbtMax gap) })
  if t = g.eos then s.pend r Sts.ok 1 0
  else if r.next + 1 = r.maxNew then s.pend r Sts.ok 2 0
  else s

/-- A request sampled at its output position. The plan's logits come from its tiles; one that is missing reads +0. -/
def sampleOne (s : State) (g : SrvPlan) (r : SrvReq) (logits : List (BitVec 32)) : State :=
  let all := List.range g.vocab
  let allowed := match r.fitch with
    | none => all
    | some h => all.filter (Fitch.allows (Cells.get [] h s.srv.fitches) r.fstate g.eos)
  if allowed.isEmpty then s.pend r 0x0502 0 0
  else
    let (inv, topK, topP) := s.samplerOf r
    match Sampler.sample allowed (fun i => readElem 1 (logits.getD i 0).toNat) inv topK topP r.key r.next with
    | .token t lp => s.emitToken g r t lp
    | .nan => s.pend r 0x0505 0 0
    | .openLp t => let (lp, s) := s.open_ 32; s.emitToken g r t lp
    | .openAll =>
      match s.pick allowed with
      | (s, some t) => let (lp, s) := s.open_ 32; s.emitToken g r t lp
      | (s, none) => s

/-- A request whose sequence parked in the step (10 R381): PAUSED, or ended for a table fault. -/
def pauseOne (s : State) (r : SrvReq) (q : CrlSeq) : State :=
  if q.cause = 2 then s.pend r q.fault.1 0 q.fault.2
  else
    let lost := q.firstLost.getD r.pos
    let s := s.updReq r.ring r.id (fun r => { r with st := 3, lost := lost, pauses := r.pauses + 1 })
    let s := { s with srv := { s.srv with paused := s.srv.paused ++ [(r.ring, r.id)] } }
    s.srvEvent r 1 lost

/-- One request's part of a step that has run. -/
def stepOne (s : State) (g : SrvPlan) (logits : List (Nat × List (BitVec 32))) (w : Nat × Nat × Nat × Bool) : State :=
  let (ring, id, c, chunk) := w
  match s.srvReq ring id with
  | none => s
  | some r0 =>
    let s := if chunk then
      (s.bumpWrap Reg.SRV_TOKENS_PF 64 c).charge r0.account (c * (s.srvAcct r0.account).pfWeight) else s
    let r := { r0 with pos := r0.pos + c, done := if chunk then satAdd max32 r0.done c else r0.done }
    let s := s.updReq ring id (fun _ => r)
    let q := r.seq.bind s.crlSeq
    if s.srv.cancels.any (fun c => c.1 == ring && c.2.1 == id) then s
    else match q with
    | none => s
    | some q =>
      if q.state = 2 then s.pauseOne r q
      else if r.pos = r.toks.length then
        s.sampleOne g r (Cells.get [] (r.seq.getD 0) logits)
      else s

/-- The plan's run of a step ends. -/
def stepDone (s : State) (g : SrvPlan) (st : SrvStep) (logits : List (Nat × List (BitVec 32))) : State :=
  let s := st.work.foldl (fun s w => s.stepOne g logits w) s
  let t := min max32 (s.now - st.start)
  let s := { s with srv := { s.srv with step := none } }
  let s := (s.wr Reg.SRV_STEP_LAST_NS t).wr Reg.SRV_STEP_MAX_NS (max t (s.rd Reg.SRV_STEP_MAX_NS))
  let s := if g.budget < t then s.bump Reg.SRV_OVERRUN_CNT 1 else s
  s.bumpWrap Reg.SRV_STEP_CNT 64 1

/-! ## Metrics (10 R386) -/

/-- The 64 bytes of a metrics record (10 Table 10-6). -/
def metrics (s : State) (r : SrvReq) : List Byte :=
  leBytes 8 r.fetchNs ++ leBytes 8 r.admitNs ++ leBytes 8 r.firstNs ++ leBytes 8 r.lastNs ++ leBytes 4 r.done ++
    leBytes 4 r.next ++ leBytes 4 r.tbtMax ++ leBytes 4 r.skipped ++ leBytes 2 r.pauses ++ leBytes 1 r.st ++
    leBytes 1 (b2n s.srvNonrepro * 4 + b2n r.stalled * 2 + b2n r.throttled) ++
    leBytes 4 (r.seq.getD (2 ^ 32 - 1)) ++ leBytes 4 r.fstate ++ leBytes 4 0

/-- The record that a query finds: of the live request, else of the last one of that REQ_ID within 1,024 steps. -/
def srvMetricsOf (s : State) (ring id : Nat) : Option SrvReq :=
  (s.srvReq ring id).or
    (s.srv.reqs.reverse.find? (fun r => r.ring == ring && r.id == id && decide (s.rd Reg.SRV_STEP_CNT ≤ r.endStep + 1024)))

end State
end Sys2Proof.Machine
end

