-- ==== Sys2Proof/Machine/Serve.lean ====
section
/-! DEFINITION. The serving commands and events (10): submission, cancellation, extension and query, the engine's start and
stop, settings, fitch images, step boundaries and the ends of steps. -/

namespace Sys2Proof.Machine
namespace State

/-- A stop completed once every request is DONE. -/
def serveSettle (s : State) : State := s.srvStopCheck

/-- The ring that a command on a ring belongs to, or that a command from the MCC names in bytes 20 to 21. -/
def pRing (via : Via) (p : Packet) : Nat := match via with | .ring n => n | .mcc => p.u16 20

/-- Whether a number is that of a serving ring. -/
def isServing (n : Nat) : Bool := decide (64 ≤ n) && decide (n < 128)

/-- A submission row: the ring's own opcode, its checks, then the request queued. -/
def submitRow (s : State) (via : Via) (p : Packet) (base : Nat) : State :=
  match via with
  | .mcc => s.runRow via p (p.base == base) (fun _ => some (.err Sts.badOpcode)) (fun s => (s, none))
  | .ring n => s.runRow via p (p.base == base && isServing n) (fun s => s.submitCheck n p) (fun s => (s.submit n, none))

/-- What an extension would do: its failure, or the state with MAX_NEW raised (10 R380). -/
def extend (s : State) (ring : Nat) (p : Packet) : Except Ans State :=
  let add := p.u32 24
  match s.srvReq ring (p.u32 16), s.srv.plan with
  | some r, some g =>
    let len := r.len + add
    if g.maxTok < len then .error (.err 0x0501)
    else
      let s' := s.updReq r.ring r.id (fun r => { r with maxNew := r.maxNew + add })
      match r.seq.bind (fun n => (s.crlSeq n).map (fun q => (n, q))) with
      | none => .ok s'
      | some (n, q) =>
        if bit (p.u8 28) 0 then .ok s'
        else if q.state = 2 then .error (.err Sts.noPages)
        else
          let held := (s.srvActive.filter (fun x => !x.compat && !(x.ring == r.ring && x.id == r.id))).foldl (fun c x => c + x.dur) 0
          match s'.crlSetResv n q (max q.resvTok len) with
          | .error _ => .error (.err Sts.noPages)
          | .ok s' =>
            if !r.compat && decide (g.budget < g.t0 + g.pf + held + g.dur len) then .error (.refuse 0x0507)
            else .ok ((s'.tlbDrop n).updReq r.ring r.id (fun r => { r with dur := if r.compat then 0 else g.dur len }))
  | _, _ => .error (.err 0x0506)

/-- A fitch image read and checked: its failure, or its bytes (10 R370, R371). -/
def fitchLoad (s : State) (p : Packet) (far : List Host.Cell) (ue : Option Nat) : State × Except Ans (List Byte) :=
  let vocab := match s.srv.plan with | some g => g.vocab | none => 0
  let bad := fun (off : Nat) => (⟨0x0503, 0, 0, off, false⟩ : Ans)
  match s.getGlobal mccUnit (p.u64 24) 64 far ue with
  | (s, .error e) => (s, .error (accessAns e))
  | (s, .ok h) =>
    match Fitch.headBad h vocab with
    | some off => (s, .error (bad off))
    | none =>
      let used := s.srv.fitches.foldl (fun c f => c + f.2.length) 0
      if 2 ^ 28 < used + Fitch.size h then (s, .error (.refuse 0x0506))
      else match s.getGlobal mccUnit (p.u64 24) (Fitch.size h) far ue with
        | (s, .error e) => (s, .error (accessAns e))
        | (s, .ok img) =>
          match Fitch.lowest (Fitch.bad img vocab) with
          | some off => (s, .error (bad off))
          | none => (s, .ok img)

/-- The checks of SRV_ENGINE_START in their order (10 R351), with the plan where all pass. -/
def startCheck (s : State) (p : Packet) (far : List Host.Cell) (ue : Option Nat) : State × Except Ans SrvPlan :=
  if !s.fb Fld.CAP_UNITS_FITCH then (s, .error (.err Sts.unitAbsent))
  else if !s.tenantOpen then (s, .error (.refuse 0x0502))
  else if s.srvState != 0 then (s, .error (.refuse 0x0503))
  else match s.getGlobal mccUnit (p.u64 16) 64 far ue with
    | (s, .error e) => (s, .error (accessAns e))
    | (s, .ok h) =>
      let g := SrvPlan.ofBytes h
      match planBad h with
      | some off => (s, .error (.errD 0x0507 off))
      | none =>
        if g.level != s.fd Fld.ATY_FAB_STATUS_NUMERICS_LEVEL then (s, .error (.err Sts.levelMismatch))
        else if (bitsOf g.tileMask 32).any (fun t => s.ringState t != closed) then (s, .error (.err Sts.ringState))
        else (s, .ok g)

/-- The engine RUNNING on a plan (10 R351, R369, R374, R394). -/
def srvStart (s : State) (g : SrvPlan) : State :=
  let s := (s.regsReset 0x900000 0x2000)
  let s := (List.range 64).foldl (fun s r =>
    ((s.regReset (Reg.SRV_RING_TTFT_MISS r)).regReset (Reg.SRV_RING_TBT_MISS r)).regReset (Reg.SRV_RING_STALL r)) s
  let s := { s with srv := { Srv.stopped with plan := some g, fitches := s.srv.fitches, rings := s.srv.rings, boundary := s.now,
                                              tileMask := g.tileMask, seqBase := g.seqBase, seqCount := g.seqCount } }
  (s.fw Fld.SRV_STATUS_STATE 1).fbw Fld.SRV_STATUS_REPRO g.repro

end State

open State

/-! ## Requests -/

/-- SRV_SUBMIT (10 R358, R359). -/
def execSrvSubmit (via : Via) (p : Packet) (s : State) : Host.Outcome State Fault Refusal :=
  .next (s.submitRow via p 0x0500)

/-- SRV_SUBMIT_3320 (10 R388). -/
def execSrvSubmit3320 (via : Via) (p : Packet) (s : State) : Host.Outcome State Fault Refusal :=
  .next (s.submitRow via p 0x0510)

/-- SRV_CANCEL (10 R379): noted for the next boundary. On a ring its reply follows the FINAL reply. -/
def execSrvCancel (via : Via) (p : Packet) (s : State) : Host.Outcome State Fault Refusal :=
  let n := pRing via p
  .next (s.runRow via p (p.base == 0x0501)
    (fun s => firstFail [(!isServing n, .param), ((s.srvReq n (p.u32 16)).isNone, .err 0x0506)])
    (fun s =>
      let note := fun (s : State) (j : Job) => { s with srv := { s.srv with cancels := s.srv.cancels ++ [(n, p.u32 16, j)] } }
      match via, s.jobOf via with
      | .mcc, some j => (note s j, some .done)
      | .ring m, some j => (((note s j).setEng m { s.engOf m with cur := none }).startNext m, none)
      | _, none => (s, none)))

/-- SRV_EXTEND (10 R380). -/
def execSrvExtend (via : Via) (p : Packet) (s : State) : Host.Outcome State Fault Refusal :=
  let n := p.u16 20
  .next (s.runRow via p (p.base == 0x0502)
    (fun s => firstFail [(!isServing n || (!p.expert && p.u8 28 != 0), .param)] |>.or
      (match s.extend n p with | .error a => some a | .ok _ => none))
    (fun s => match s.extend n p with | .error a => (s, some a) | .ok s => (s, some .done)))

/-- SRV_QUERY (10 R386). -/
def execSrvQuery (via : Via) (p : Packet) (s : State) : Host.Outcome State Fault Refusal :=
  let n := p.u16 20
  .next (s.runRow via p (p.base == 0x0503)
    (fun s => firstFail [(!isServing n, .param), ((s.srvMetricsOf n (p.u32 16)).isNone, .err 0x0506)] |>.or
      ((s.runCheck mccUnit (p.u64 24) 64 opStore).map accessAns))
    (fun s => match s.srvMetricsOf n (p.u32 16) with
      | none => (s, some (.err 0x0506))
      | some r => match s.putGlobal mccUnit (p.u64 24) (s.metrics r) with
        | (s, some e) => (s, some (accessAns e))
        | (s, none) => (s, some .done)))

/-! ## The engine -/

/-- SRV_ENGINE_START (10 R350, R351). -/
def execSrvEngineStart (via : Via) (p : Packet) (far : List Host.Cell) (ue : Option Nat) (s : State) :
    Host.Outcome State Fault Refusal :=
  .next (s.runRow via p (p.base == 0x0520) (fun _ => none)
    (fun s => match s.startCheck p far ue with
      | (s, .error a) => (s, some a)
      | (s, .ok g) => (s.srvStart g, some .done)))

/-- SRV_ENGINE_STOP (10 R384): the reply follows the last FINAL reply. -/
def execSrvEngineStop (via : Via) (p : Packet) (s : State) : Host.Outcome State Fault Refusal :=
  let mode := if p.expert then p.u8 16 else 0
  .next (s.runRow via p (p.base == 0x0521)
    (fun s => firstFail [(decide (1 < mode), .param), (s.srvState != 1, .refuse 0x0501)])
    (fun s =>
      let s := ({ s with srv := { s.srv with stop := some (mode, 1) } }).fw Fld.SRV_STATUS_STATE 2
      if s.srvStopReady then (s.srvHalted, some .done) else (s, none)))

/-- SRV_RING_CFG (10 R353, R387). -/
def execSrvRingCfg (via : Via) (p : Packet) (s : State) : Host.Outcome State Fault Refusal :=
  let n := p.u16 16
  let compat := p.expert && p.u8 18 == 1
  let bad := p.expert && (decide (1 < p.u8 18) || decide (p.u32 24 < 128) || decide (65536 < p.u32 24) ||
    (compat && (p.u8 19 == 0 || p.u16 20 == 0 || (match s.srv.plan with
      | some g => decide (p.u8 19 * 10 ^ 6 < g.budget)
      | none => false))))
  .next (s.runRow via p (p.base == 0x0522)
    (fun s => firstFail [(!isServing n || bad, .param),
      (s.ringState n != idle || s.srvLive n, .errD Sts.ringState (s.ringState n))])
    (fun s =>
      let s := s.wr (Reg.SRV_RING_CFG (n - 64)) (if compat then 2 ^ 31 + p.u8 19 * 2 ^ 16 + p.u16 20 else 0)
      let rings := Cells.set (1024, 0) n (if p.expert then (p.u32 24, p.u32 28) else (1024, 0)) s.srv.rings
      ({ s with srv := { s.srv with rings := rings } }, some .done)))

/-- SRV_ACCOUNT_SET (10 R369): kept for the next boundary. -/
def execSrvAccountSet (via : Via) (p : Packet) (s : State) : Host.Outcome State Fault Refusal :=
  let a := p.u8 16
  .next (s.runRow via p (p.base == 0x0523)
    (fun _ => firstFail [(decide (7 < p.u8 17) || p.u16 28 == 0 || decide (4096 < p.u16 28) ||
      (p.expert && decide (16 < p.u8 18)), .param)])
    (fun s =>
      let old := (Cells.find a s.srv.acctNext).getD (s.srvAcct a)
      let new : SrvAcct := if p.expert then
          ⟨p.u8 17, p.u8 18, p.u32 20, p.u32 24, p.u16 28, p.u64 32, old.frac⟩
        else { old with priority := p.u8 17, maxSeq := p.u16 28 }
      ({ s with srv := { s.srv with acctNext := Cells.insert a new (Cells.erase a s.srv.acctNext) } }, some .done)))

/-- SRV_SAMPLER_SET (10 R374). -/
def execSrvSamplerSet (via : Via) (p : Packet) (s : State) : Host.Outcome State Fault Refusal :=
  let v := readElem 1 (p.u32 20)
  .next (s.runRow via p (p.base == 0x0524)
    (fun _ => firstFail [(decide (p.u8 16 < 4) || decide (15 < p.u8 16) || !p.expert || v.isNan || v.lt .zero ||
      v = .inf false || decide (262144 < p.u32 24), .param)])
    (fun s => ({ s with srv := { s.srv with
      samplers := (s.srv.samplers.filter (fun e => e.1 != p.u8 16)) ++ [(p.u8 16, p.u32 20, p.u32 24, p.u32 28)] } }, some .done)))

/-- SRV_FITCH_LOAD (10 R370). An uncorrectable read by a working engine fails it (R385). -/
def execSrvFitchLoad (via : Via) (p : Packet) (far : List Host.Cell) (ue : Option Nat) (s : State) :
    Host.Outcome State Fault Refusal :=
  let h := p.u8 16
  .next (s.runRow via p (p.base == 0x0525)
    (fun s => firstFail [(!s.fb Fld.CAP_UNITS_FITCH, .err Sts.unitAbsent), (decide (63 < h), .param),
      ((Cells.find h s.srv.fitches).isSome, .refuse 0x0504)])
    (fun s => match s.fitchLoad p far ue with
      | (s, .error a) => (if a.status = Sts.eccHalt then s.srvFail a.status a.r1 else s, some a)
      | (s, .ok img) => ({ s with srv := { s.srv with fitches := Cells.insert h img s.srv.fitches } }, some .done)))

/-- SRV_FITCH_FREE (10 R370). -/
def execSrvFitchFree (via : Via) (p : Packet) (s : State) : Host.Outcome State Fault Refusal :=
  let h := p.u8 16
  .next (s.runRow via p (p.base == 0x0526)
    (fun s => firstFail [(decide (63 < h), .param),
      (s.srv.reqs.any (fun r => r.st != 4 && r.fitch == some h), .refuse 0x0504)])
    (fun s => ({ s with srv := { s.srv with fitches := Cells.erase h s.srv.fitches } }, some .done)))

/-! ## Events -/

/-- A packet fetched from a serving ring (10 R360). -/
def execServingPacketFetch (ring : Nat) (seen : Seen) (s : State) : Host.Outcome State Fault Refusal :=
  .next (if isServing ring then s.ringFetch ring seen else s)

/-- The plan's run of a step ends (10 R365). `logits` gives the plan's FP32 logits by Creel sequence. -/
def execStepRunComplete (logits : List (Nat × List (BitVec 32))) (s : State) : Host.Outcome State Fault Refusal :=
  .next (match s.srv.plan, s.srv.step with
    | some g, some st => s.stepDone g st logits
    | _, _ => s)

/-- Metrics records 1,024 steps after the FINAL reply are no longer held (10 R386). -/
def execMetricsRecordExpiry (ring id : Nat) (s : State) : Host.Outcome State Fault Refusal :=
  .next { s with srv := { s.srv with reqs := s.srv.reqs.filter (fun r =>
    !(r.ring == ring && r.id == id && r.st == 4 && decide (r.endStep + 1024 ≤ s.rd Reg.SRV_STEP_CNT))) } }

/-- SRV_STEP_MAX_NS read: its value answers, and it clears (10 R394, 00 R13). -/
def execSrvStepMaxNsRead (s : State) : Host.Outcome State Fault Refusal :=
  .next ((s.emit (.barRead Reg.SRV_STEP_MAX_NS.addr (BitVec.ofNat 64 (s.rd Reg.SRV_STEP_MAX_NS)))).regReset Reg.SRV_STEP_MAX_NS)

end Sys2Proof.Machine
end

