-- ==== Sys2Proof/Machine/Units.lean ====
section
/-! DEFINITION. Ending what a unit does (02 R69; 17 R577): commands aborted, rings ABORTED, block resets, and the replies of
FUNC_ABORT and of a block RST_REQ once every unit is idle. -/

namespace Sys2Proof.Machine
namespace State

/-! ## Commands in progress -/

/-- The MCC's command ended with STS_ABORTED where it satisfies a test (02 R69). -/
def mccAbort (s : State) (p : Packet → Bool) : State :=
  match s.mcc.cur with
  | some j => if p j.pkt && j.pkt.base != 0x0101 then s.mccReply (.err Sts.aborted) else s
  | none => s

/-- The command in progress behind a ring ended with STS_ABORTED, and the MCC's command that waits for that ring. -/
def abortCur (s : State) (n : Nat) : State :=
  let e := s.engOf n
  let s := s.setEng n { e with cur := none, fetched := [] }
  let s := match e.cur with
    | none => s
    | some j => match j.via with
      | .mcc => s.mccReply (.err Sts.aborted)
      | .ring m =>
        if s.ringState m = closed then s
        else (s.setEng m { s.engOf m with fetched := [] }).ringReply m (j.reply (.err Sts.aborted) s.now) j.pkt.irq
  s.mccAbort (fun p => s.queuedOn p == some n)

/-- A ring that is open left ABORTED (02 R69 step 4). -/
def abortRing (s : State) (n : Nat) : State :=
  let s := s.setEng n { s.engOf n with fetched := [] }
  if s.ringState n = closed then s else (s.closeRecord n).setRingState n aborted

/-! ## Block reset (17 R577) -/

/-- A tile's registers at their reset values, event counters and saturating counts apart (17 Table 17-2). -/
def tileRegs (s : State) (site : Nat) : State :=
  let b := (Reg.TILE_ID site).addr
  (s.regsReset b 0x24).regsReset (b + 0x100) 0x80

/-- A tile's sequencer stopped (17 R577 steps 1 and 2): its command ended, its store buffer left to drain. -/
def tileStop (s : State) (t : Nat) : State :=
  let s := s.abortCur t
  s.updTile t (fun x => { x with prog := .empty, attn := .none, wait := none, fencing := false, engine := 0, exc := none
                                 resetting := true })

/-- 24 h in nanoseconds. -/
def dayNs : Nat := 86400000000000

/-- The end of a tile's drain: at a block reset its registers and its sequencer are reset, and a site that trapped is retired
where 06 R216 says so (a trap whose line or reload is bad counts twice); at TENANT_CLOSE it only stops. -/
def tileReset (s : State) (t : Nat) : State :=
  if s.sec.closing = 2 then s.updTile t (fun x => { x with resetting := false, posted := none, sb := [] })
  else
    let x := s.tile t
    let site := s.siteOf t
    let traps := x.traps.filter (fun n => decide (s.now < n + dayNs))
    let retire := x.trapped && decide (2 ≤ traps.length)
    let s := (s.tileRegs site).setTile t { Tile.idle with
      traps := if retire then [] else traps, stale := x.stale, fenced := x.fenced, halted := x.halted }
    if retire then s.markSite site else s

/-- A stopped tile whose store buffer is empty is reset. -/
def tileDrained (s : State) (t : Nat) : State :=
  let x := s.tile t
  if x.resetting && x.sb.isEmpty then s.tileReset t else s

/-- A tile stopped, and reset at once where nothing is left to drain. -/
def tileHalt (s : State) (t : Nat) : State := ((s.tileStop t).pump t).tileDrained t

/-- Entries of a tile's store buffer discarded (04 R139): counted, the first one's address logged, with its cause: 0 block
reset, 1 power-fail warning. -/
def sbDiscard (s : State) (t cause : Nat) : State :=
  let x := s.tile t
  match x.sb with
  | [] => s
  | e :: _ =>
    let site := s.siteOf t
    let s := s.setTile t { x with sb := [], stale := x.stale ++ (x.sb.filter (·.issued)).map (fun e => e.req.rtag) }
    let s := (s.bump (Reg.TILE_SB_DISCARD_CNT site) x.sb.length).tileEvent t 51 x.sb.length
    s.trouble 0x0280 1 (siteIsland site) e.req.addr (cause * 2 ^ 56 + x.sb.length)

/-- A Creel unit reset: its command ended, its TLB cleared, its queued gathers discarded; its page tables stay. -/
def creelReset (s : State) (u : Nat) : State :=
  let s := s.abortCur (32 + u)
  let s := { s with crl := { s.crl with
    tlb := s.crl.tlb.filter (fun e => e.1 != u), queue := s.crl.queue.filter (fun g => g.unit != u)
    vc0 := s.crl.vc0.filter (fun q => q.addr % 8 != u) } }
  s.regReset (Reg.CRL_FAULT_ADDR u)

/-- The Splint engine reset. -/
def splintReset (s : State) : State := (s.abortCur 44).regsReset Reg.SPL_STATUS.addr 0x200

/-- A video core reset: what runs on it ends. -/
def vidCoreReset (s : State) (c : Nat) : State :=
  match s.vid.jobs.find? (fun j => j.cores.contains c) with
  | some j => (s.vidIrap j.sess).vidReply j (.err Sts.aborted)
  | none => s

/-- What the abort of a tile does beside its own reset: the Rim lane stops (11 Table 11-6), a serving plan that owns it fails
(10 R385). -/
def tileAbort (s : State) (t : Nat) : State :=
  let s := if s.rimOwns t then (s.rimCommandsEnd.pairFail 2).laneStop else s
  let owned := bit s.srv.tileMask t && s.srvWorks
  let s := (s.tileHalt t).abortRing t
  if owned then s.srvFail Sts.aborted 0 else s

/-! ## Answers that wait for idle units -/

/-- Whether a unit is still on its way to a block reset. -/
def resetting (s : State) : Bool := s.tiles.any (fun e => e.2.resetting)

/-- A reply with given bits put on the main slot (02 R64). -/
def mccPut (s : State) (r : BitVec 256) : State :=
  match s.mcc.cur with
  | none => s
  | some j =>
    let rec? := s.mcc.confCmd
    let s := { s with mcc := { s.mcc with cur := none, extra := [], confCmd := none } }
    if j.i3c then s.emit (.i3c r [])
    else
      let s := match rec? with
        | some (_, idx) => s.sealRecord 0 idx (leBytes 32 r.toNat)
        | none => { s with mcc := { s.mcc with reply := r } }
      s.fw Fld.MCC_STATUS_REPLY_VALID 1

/-- A reply with given bits put on the abort slot (02 R67, R69). -/
def abtPut (s : State) (r : BitVec 256) : State :=
  let rec? := s.mcc.confAbt
  let s := { s with mcc := { s.mcc with confAbt := none } }
  let s := match rec? with
    | some (_, idx) => s.sealRecord 0 idx (leBytes 32 r.toNat)
    | none => { s with mcc := { s.mcc with abtReply := r } }
  s.fw Fld.MCC_STATUS_ABT_REPLY_VALID 1

/-- The function mask of a FUNC_ABORT (02 Table 2-12). -/
def abortMask (p : Packet) : Nat := if p.expert then p.u16 16 else 2 ^ p.u8 16

/-- Aborts completed where every unit is idle (02 R68, R69 step 5): one reply, that of the latest, on each slot that accepted
one. -/
def abortSettle (s : State) : State :=
  if s.resetting then s
  else
    let s := match s.mcc.cur with
      | some j => if j.begun && j.pkt.base == 0x0B00 then s.mccReply .done else s
      | none => s
    match s.mcc.aborts with
    | [] => s
    | (p, abt, late) :: l =>
      let all := (p, abt, late) :: l
      let mask := all.foldl (fun m e => m ||| abortMask e.1) 0
      let before := match l with | e :: _ => e.1.seq.toNat | [] => 0
      let r := replyBits p.opcode.toNat p.seq.toNat s.now (.ok (mask % 2 ^ 16) before) late
      let s := { s with mcc := { s.mcc with aborts := [] } }
      let viaAbt := all.any (·.2.1)
      let viaMain := all.any (fun e => !e.2.1)
      let irq := match s.mcc.cur with | some j => j.pkt.irq && !j.i3c | none => false
      let s := if viaMain then s.mccPut r else s
      let s := if viaAbt then s.abtPut r else s
      if viaAbt || irq then s.replyIrq 1 else s

end State
end Sys2Proof.Machine
end

