-- ==== Sys2Proof/Machine/Power.lean ====
section
/-! DEFINITION. Power, droop and thermal control (16): its commands and events, but for loss of supply and the thermal trip,
which are resets. -/

namespace Sys2Proof.Machine
namespace State

/-! ## Warnings (16 R559, R564, R565) -/

/-- The core-PLL islands that are clocked. -/
def corePlls (s : State) : List Nat := (List.range 100).filter (fun i => corePll i && s.islandOn i)

/-- The loader starts the pulse that a warning held back (18 R609). -/
def flashKick (s : State) : State :=
  match s.rst.job with
  | some j => { s with rst := { s.rst with job := some { j with pulse := true } } }
  | none => s

/-- A power-fail warning (16 R564; 19 R632). -/
def pfwBegin (s : State) : State :=
  if s.pfw then s
  else
    let seq := s.rd Reg.RAS_LOG_SEQ
    let s := s.trouble 0x0C84 3 80 0 (s.rd Reg.RST_COUNT * 2 ^ 32 + (seq + 1 - 512))
    let s := (s.fbw Fld.PWR_STATUS_PFW true).fbw Fld.PWR_STATUS_PFW_SEEN true
    let s := (s.urgent 1).corePlls.foldl (fun s i => s.floorIn 1 i) (s.urgent 1)
    ((s.lanePause 2).pairFail 4).pwrSettle

/-- The end of a power-fail warning (16 R565). -/
def pfwEnd (s : State) : State :=
  if !s.pfw then s
  else
    let s := (s.fbw Fld.PWR_STATUS_PFW false).floorOut 1 (List.range 100)
    let s := s.laneHoldEnd 2
    let s := if s.fb Fld.PWR_STATUS_REG_ALERT then s else s.pairFailEnd 4
    let s := (List.range 32).foldl (fun s t => s.pump t) s
    s.flashKick.pwrSettle

/-- The regulator alert (16 R559). -/
def alertBegin (s : State) : State :=
  if s.fb Fld.PWR_STATUS_REG_ALERT then s
  else
    let s := ((s.fbw Fld.PWR_STATUS_REG_ALERT true).fbw Fld.PWR_STATUS_REG_ALERT_SEEN true).urgent 2
    let s := s.corePlls.foldl (fun s i => s.floorIn 2 i) s
    ((s.lanePause 3).pairFail 4).pwrSettle

/-- The alert wire has been clear for 1 ms (16 R559). -/
def alertEnd (s : State) : State :=
  if !s.fb Fld.PWR_STATUS_REG_ALERT then s
  else
    let s := (s.fbw Fld.PWR_STATUS_REG_ALERT false).floorOut 2 (List.range 100)
    let s := s.laneHoldEnd 3
    (if s.pfw then s else s.pairFailEnd 4).pwrSettle

/-! ## The power-cap loop (16 R552, R558) -/

/-- The largest cap that the phases in service permit. -/
def capRange (s : State) : Nat :=
  1550 - 60 * ((22 - s.fd Fld.PWR_PHASE_W_ACTIVE) + (22 - s.fd Fld.PWR_PHASE_E_ACTIVE))

/-- The islands that the loop may move, by logical tile, the Splint engine last. -/
def capIslands (s : State) : List Nat :=
  ((List.range 32).map (fun t => siteIsland (s.siteOf t)) ++ [81]).filter
    (fun i => s.islandOn i && hasPstate i && !s.pFixed i)

/-- Of islands in an order of preference, the first whose value is the least. -/
def leastOf (f : Nat → Nat) : List Nat → Option Nat
  | [] => none
  | i :: l => match leastOf f l with
    | none => some i
    | some j => if f j < f i then some j else some i

/-- Which islands a period of the loop lowers or raises, if any: lowered ones, and one raised. -/
def capMoves (s : State) : List Nat × Option Nat :=
  let l := s.capIslands
  let up := l.filter (fun i => s.pTarget i != pFloor)
  if 1900 < s.fd Fld.PWR_POWER_AVG_100US then (up.filter isSite, none)
  else if s.fd Fld.PWR_CFG_CAP_W < s.fd Fld.PWR_POWER_AVG_10MS then
    ((match leastOf s.pTarget ((up.filter isSite).reverse ++ up.filter (fun i => !isSite i)) with
      | some i => [i]
      | none => []), none)
  else if s.fd Fld.PWR_POWER_AVG_10MS * 100 < 97 * s.fd Fld.PWR_CFG_CAP_W then
    ([], leastOf (fun i => pFloor - s.pWant i) (l.filter (fun i => !s.pFloored i && decide (s.pCeil i < s.pWant i) &&
      !s.fb (Fld.PWR_ISL_THROTTLED i))))
  else ([], none)

/-- CAP_EXCEEDED with its record, once a second at most. -/
def capExceeded (s : State) : State :=
  let a := s.fd Fld.PWR_POWER_AVG_10MS
  if s.capIslands.all (fun i => s.pTarget i == pFloor) && decide (s.fd Fld.PWR_CFG_CAP_W < a) then
    let s := s.fbw Fld.PWR_STATUS_CAP_EXCEEDED true
    if (match s.pwr.capLogged with | some t => decide (t + 10 ^ 9 ≤ s.now) | none => true) then
      (s.updPwr (fun x => { x with capLogged := some s.now })).trouble 0x0A80 1 0xFF 0 (a * 65536 + s.fd Fld.PWR_CFG_CAP_W)
    else s
  else s

/-- A period of the loop, with one state less for every throttled island that it does not lower itself (16 Table 16-3). -/
def capLoop (s : State) : State :=
  let (down, up) := s.capMoves
  let hot := s.capIslands.filter (fun i => s.fb (Fld.PWR_ISL_THROTTLED i) && !down.contains i)
  let s := s.capExceeded
  let s := (down ++ hot).foldl pLower s
  (match up with | some i => s.pAsk i (s.pWant i - 1) | none => s).pwrSettle

/-! ## Temperatures (16 R566; 01 R36) -/

/-- The throttle of one island. -/
def throttle (s : State) (i t : Nat) : State :=
  if 95 ≤ t then
    let s := s.fbw (Fld.PWR_ISL_THROTTLED i) true
    if s.pFixed i then s.floorIn 4 i else s
  else if t ≤ 92 then (s.fbw (Fld.PWR_ISL_THROTTLED i) false).floorOut 4 [i] else s

/-- R36 for one island, by the temperatures of its clocked neighbours. -/
def neighbourFloor (s : State) (temps : List Nat) (i : Nat) : State :=
  let near := (List.range 100).filter (fun j => (Config.neighbour i j || Config.neighbour j i) && s.islandOn j && j != i)
  let past := fun d => near.any (fun j => decide (temps.getD j 0 + d < temps.getD i 0))
  if s.pwr.floors.contains (i, 3) then
    if past 25 then s else (s.floorOut 3 [i]).troubleRule 0x0A 36 0 i 0
  else if past 30 then (s.floorIn 3 i).troubleRule 0x0A 36 0 i 0 else s

/-- The lane's pausing conditions that follow from its tiles' islands: 4 thermal throttle, 5 the floor of R36. -/
def laneHeat (s : State) : State :=
  let isl := ((List.range 32).filter s.rimOwns).map (fun t => siteIsland (s.siteOf t))
  [(4, 4), (3, 5)].foldl (fun s e =>
    if isl.any (fun i => s.pwr.floors.contains (i, e.1)) then s.lanePause e.2 else s.laneHoldEnd e.2) s

/-- A report of every island's junction temperature. -/
def tempReport (s : State) (temps : List Nat) : State :=
  let s := (List.range 100).foldl (fun s i => s.fw (Fld.PWR_ISL_TEMP_C i) (min 255 (temps.getD i 0))) s
  let s := s.pIslands.foldl (fun s i => s.throttle i (temps.getD i 0)) s
  let s := s.corePlls.foldl (fun s i => s.neighbourFloor temps i) s
  s.laneHeat.pwrSettle

/-! ## Commands (16 R570) -/

/-- The islands that TILE_MASK and SPLINT name. -/
def pwrNamed (s : State) (p : Packet) : List Nat :=
  ((bitsOf (p.u32 16) 32).map (fun t => siteIsland (s.siteOf t))) ++ if bit (p.u8 20) 0 then [81] else []

/-- Whether a mask names an island that is dark, retired or gated. -/
def pwrAbsent (s : State) (p : Packet) : Bool :=
  !(bitsOf (p.u32 16) 32).all s.tileOn || (bit (p.u8 20) 0 && !s.splintOn)

/-- Whether a mask names a Rim tile. -/
def pwrRim (s : State) (p : Packet) : Bool := (bitsOf (p.u32 16) 32).any s.rimOwns

/-- A ceiling set: an island held lower stays there, one at its old ceiling follows. -/
def pCeiling (s : State) (v i : Nat) : State :=
  let want := if s.pWant i = s.pCeil i then v else max (s.pWant i) v
  (s.updPwr (fun x => { x with ceil := Cells.set 1 i v x.ceil })).pAsk i want

end State

/-- PWR_PSTATE_SET (16 R557). -/
def execPwrPstateSet (via : Via) (p : Packet) (s : State) : Host.Outcome State Fault Refusal :=
  let v := if p.expert then p.u8 21 else 1
  .next (s.runRow via p (p.base == 0x0A10)
    (fun s => firstFail [(s.pwrAbsent p, .err Sts.unitAbsent), (decide (4 < v), .param), (s.pwrRim p, .refuse 0x0A05),
      ((s.pwrNamed p).any s.pFixed, .refuse 0x0A06)])
    (fun s => (((s.pwrNamed p).foldl (fun s i => s.pCeiling v i) s).pwrSettle, some .done)))

/-- PWR_FIXED_SET (16 R556). -/
def execPwrFixedSet (via : Via) (p : Packet) (s : State) : Host.Outcome State Fault Refusal :=
  let en := p.u8 21
  .next (s.runRow via p (p.base == 0x0A11)
    (fun s => firstFail [(s.pwrAbsent p, .err Sts.unitAbsent), (decide (1 < en), .param),
      (en == 0 && s.pwrRim p, .refuse 0x0A05)])
    (fun s => (((s.pwrNamed p).foldl (fun s i => s.pFix i (en == 1)) s).pwrSettle, some .done)))

/-- PWR_CAP_SET (16 R552, R558). -/
def execPwrCapSet (via : Via) (p : Packet) (s : State) : Host.Outcome State Fault Refusal :=
  let w := if p.expert then p.u16 16 else 1550
  .next (s.runRow via p (p.base == 0x0A12)
    (fun s => firstFail [(!profileOne p || decide (w < 400) || decide (s.capRange < w), .param)])
    (fun s => (s.fw Fld.PWR_CFG_CAP_W w, some .done)))

/-- A power-fail warning (16 R564). -/
def execPowerFailWarning (s : State) : Host.Outcome State Fault Refusal := .next s.pfwBegin

/-- The release of a power-fail warning (16 R565). -/
def execPfwRelease (s : State) : Host.Outcome State Fault Refusal := .next s.pfwEnd

/-- The regulator alert (16 R559). -/
def execRegAlert (s : State) : Host.Outcome State Fault Refusal := .next s.alertBegin

/-- The end of the regulator alert (16 R559). -/
def execRegAlertClear (s : State) : Host.Outcome State Fault Refusal := .next s.alertEnd

/-- The log tail is in retained SRAM (19 R632): the 512 newest records up to the newest header, oldest first. -/
def execLogTailCopyDone (s : State) : Host.Outcome State Fault Refusal :=
  let l := (s.log.dropWhile (fun r => r.code != 0x0C84)).take 512
  .next (if l.isEmpty then s
    else ({ s with ras := { s.ras with tail := l.reverse } }).fbw Fld.RST_BKP0_LOG_TAIL_VALID true)

/-- A regulator phase reports a fault (16 R552): phases 0 to 23 West, 24 to 47 East. -/
def execPhaseFault (phase : Nat) (s : State) : Host.Outcome State Fault Refusal :=
  let east := decide (24 ≤ phase)
  let spare := if east then Fld.PWR_PHASE_E_SPARE else Fld.PWR_PHASE_W_SPARE
  let active := if east then Fld.PWR_PHASE_E_ACTIVE else Fld.PWR_PHASE_W_ACTIVE
  let island := if east then 96 else 95
  .next (
    let s := s.logRetired 7 phase island
    let left := s.fd spare
    if left = 0 then
      let s := (s.logNoSpare 7).fw active (s.fd active - 1)
      s.fw Fld.PWR_CFG_CAP_W (min (s.fd Fld.PWR_CFG_CAP_W) s.capRange)
    else (s.fw spare (left - 1)).logSpare 7 ((if east then 48 else 24) - left) island)

/-- The regulators' report (16 R553): input voltage and current, the bank's voltage, and the two averages of the input
power. -/
def execRegulatorTelemetry (v i bank avg100us avg10ms : Nat) (s : State) : Host.Outcome State Fault Refusal :=
  let s := (s.fw Fld.PWR_INPUT_V_10MV (min v 65535)).fw Fld.PWR_INPUT_I_10MA (min i 65535)
  let s := s.fw Fld.PWR_HOLDUP_V_10MV (min bank 65535)
  let s := (s.fw Fld.PWR_POWER_AVG_100US (min avg100us 65535)).fw Fld.PWR_POWER_AVG_10MS (min avg10ms 65535)
  .next ((s.fbw Fld.PWR_STATUS_INPUT_LOW (decide (v < 4400))).fbw Fld.PWR_STATUS_HOLDUP_FULL (decide (5600 ≤ bank)))

/-- The hold-up bank stands at 56 V or more (16 R551). -/
def execHoldupFull (s : State) : Host.Outcome State Fault Refusal := .next (s.fbw Fld.PWR_STATUS_HOLDUP_FULL true)

/-- A period of the power-cap loop (16 R558). -/
def execPowerCapLoop (s : State) : Host.Outcome State Fault Refusal := .next s.capLoop

/-- An island's supply falls below its threshold (16 R560): its cycles last twice as long. -/
def execDroopDetect (island : Nat) (s : State) : Host.Outcome State Fault Refusal :=
  .next (if corePll island && s.islandOn island && !s.pwr.stretching.contains island then
    s.updPwr (fun x => { x with stretching := x.stretching ++ [island] }) else s)

/-- The supply has recovered for 4 cycles (16 R560). -/
def execDroopRecover (island : Nat) (s : State) : Host.Outcome State Fault Refusal :=
  .next (s.updPwr (fun x => { x with stretching := x.stretching.filter (· != island) }))

/-- The stretched cycles of a 1 µs window (16 R562). -/
def execStretchLimit (island cycles : Nat) (s : State) : Host.Outcome State Fault Refusal :=
  .next (if !corePll island || !s.islandOn island then s
    else
      let s := s.fw (Fld.PWR_ISL_STRETCH_MAX island) (min 511 (max (s.fd (Fld.PWR_ISL_STRETCH_MAX island)) cycles))
      if cycles < 240 || !hasPstate island then s
      else if !s.pFixed island then (s.pLower island).pwrSettle
      else
        let l := s.capIslands.filter (fun i => isSite i && onWest i == onWest island)
        ((l.foldl State.pLower s).bump Reg.PWR_DROOP_EXCESS_CNT 1).pwrSettle)

/-- A voltage or frequency step of an island (16 R555). -/
def execPstateStep (island : Nat) (s : State) : Host.Outcome State Fault Refusal :=
  .next (if island < 100 then s.pStep island else s)

/-- The islands' temperatures (16 R566). -/
def execIslandTempReport (temps : List Nat) (s : State) : Host.Outcome State Fault Refusal := .next (s.tempReport temps)

/-- Energy divided among partitions, rings and accounts (16 R568, R569): the input energy, the shares of partitions 0 to 6 and
of rings, and the energy of the serving engine's tiles, which falls to accounts by the positions of the step. -/
def execEnergyAccounting (uj : Nat) (parts : List Nat) (rings : List (Nat × Nat)) (served : Nat) (s : State) :
    Host.Outcome State Fault Refusal :=
  let add := fun (s : State) (r : Reg) (n : Nat) => s.bumpWrap r 64 n
  let (s, left) := (List.range 7).foldl (fun (s, left) p =>
    let n := min left (parts.getD p 0)
    (add s (Reg.PWR_E_PART p) n, left - n)) (add s Reg.PWR_E_MODULE uj, uj)
  let s := add s (Reg.PWR_E_PART 7) left
  let s := (rings.filter (fun e => decide (e.1 < 128))).foldl (fun s e => add s (Reg.PWR_E_RING e.1) e.2) s
  let work := match s.srv.step with | some x => x.work | none => []
  let total := (work.map (fun w => w.2.2.1)).sum
  .next (work.foldl (fun s w =>
    match s.srvReq w.1 w.2.1 with
    | some r => add s (Reg.PWR_E_ACCT (r.account % 256)) (served * w.2.2.1 / total)
    | none => s) s)

end Sys2Proof.Machine
end

