-- ==== Sys2Proof/Machine/Clock.lean ====
section
/-! DEFINITION. Clocks and the timebase (15): the clock monitor, source selection, spread, gates with the wakes they need, and
TIME_NS with the messages that steer it. -/

namespace Sys2Proof.Machine
namespace State

/-- Clock state changed. -/
def updClk (s : State) (f : Clk → Clk) : State := { s with clk := f s.clk }

/-! ## The clock monitor (15 R526 to R529) -/

/-- CLK_OSC_CAL as a signed number, in 0.01 ppm. -/
def oscCal (s : State) : Int := sext 32 (s.rd Reg.CLK_OSC_CAL)

/-- Whether a count deviates by more than 1 ÷ `part` from its nominal value scaled by a ratio `num` ÷ `den`. -/
def offBy (part : Nat) (count nominal : Nat) (num den : Int) : Bool :=
  decide ((nominal : Int) * num < ((count : Int) * den - (nominal : Int) * num).natAbs * part)

/-- A READY source fails (15 R528, R529, R531). -/
def clkFail (s : State) (c : Nat) : State :=
  if !s.clkReady c then s
  else
    let s := (s.setReady c false).orReg Reg.CLK_FAIL (2 ^ c)
    let s := if c = 1 then s.updClk (fun x => { x with goodTcxo := 0 })
      else if c = 2 then s.updClk (fun x => { x with goodLink := 0, qualified := false }) else s
    let past := fun (s : State) =>
      (((s.clkTake 0).fbw Fld.CLK_STATUS_MODE false).urgent 0).troubleRule 0x0A 529 3 97 0
    let note := fun (s : State) => (s.urgent 7).troubleRule 0x0A 529 3 97 0
    if c = s.clkSrc && c != 0 && s.clkReady 0 then past s
    else match s.clk.target with
      | some (t, from_, _) =>
        if t = c then (if s.clkReady from_ then note s.clkCancel else past s.clkCancel) else note s
      | none => note s

/-- Whether the far end of the upstream link gives the spine's time (15 Table 15-1): the spine, or a module that has sent a
SYNC. -/
def farTimed (s : State) (p : Nat) : Bool :=
  (s.fb (Fld.ATY_PORT_STATUS_FAR_SPINE p) && s.fd (Fld.ATY_FAR_IDENT_MOD p) == 0xFFF) || s.clk.heard

/-- Whether the upstream link could give the reference. -/
def linkTimed (s : State) (locked : Bool) : Bool :=
  let l := s.fd Fld.ATY_FAB_CFG_UPSTREAM_LINK
  decide (l < 16) && s.linkState l == pUp && s.farTimed (s.portOf l) && locked

/-- A monitor window (15 R528): TCXO and LINK edges in 2,000 edges of OSC200, nominally 1,000 each, OSC200 edges in 1,000 of
TCXO, the offset of OSC200 as measured against the selected source, and whether the recovery loop is locked. -/
def monitor (s : State) (tcxo link osc : Nat) (cal : Int) (locked : Bool) : State :=
  let one : Int := 10 ^ 8
  let k := one + s.oscCal
  let s := if s.clkReady 1 && offBy 100 tcxo 1000 one k then s.clkFail 1 else s
  let s := if s.clkReady 2 && offBy 100 link 1000 one k then s.clkFail 2 else s
  let s := if s.clkReady 0 && s.clkReady 1 && offBy 100 osc 2000 k one then s.clkFail 0 else s
  let cs := (tcxo, link) :: s.clk.counts.take 99
  let timed := s.linkTimed locked
  let s := s.updClk (fun x => { x with counts := cs, goodTcxo := min 100 (x.goodTcxo + 1)
                                       goodLink := if timed then min 100 (x.goodLink + 1) else 0 })
  let sumT := (cs.map (·.1)).sum
  let sumL := (cs.map (·.2)).sum
  let okT := decide (s.clk.goodTcxo = 100) && !offBy 200 sumT 100000 one k
  let s := s.setReady 1 okT
  let okL := decide (s.clk.goodLink = 100) && (if okT then !offBy 10000 sumL sumT 1 1 else !offBy 100 sumL 100000 one k)
  let s := (s.setReady 2 okL).updClk (fun x => { x with qualified := x.qualified && okL })
  let s := if s.clkSrc = 0 || !s.clkReady s.clkSrc then s else s.wr Reg.CLK_OSC_CAL (ofInt 32 cal)
  s.clkAuto

/-! ## Gates (15 R537 to R539) -/

/-- The counter group of an island (20 Table 20-1). -/
def pmuGroup (i : Nat) : Option Nat :=
  if 31 ≤ i && i < 37 then some (i - 31)
  else if 68 ≤ i && i < 74 then some (i - 62)
  else if 18 ≤ i && i < 22 then some (i - 6)
  else if 55 ≤ i && i < 59 then some (i - 39)
  else if 22 ≤ i && i < 31 then some (i - 2)
  else if 59 ≤ i && i < 68 then some (i - 30)
  else match i with
    | 74 => some 38 | 75 => some 39 | 93 => some 40 | 94 => some 41 | 76 => some 42 | 81 => some 43 | 82 => some 44
    | 83 => some 45 | 84 => some 46 | 85 => some 47 | 86 => some 48 | 87 => some 49 | 88 => some 50 | 91 => some 51
    | 92 => some 52 | _ => none

/-- A counter group's registers at their reset values. -/
def pmuReset (s : State) (g : Nat) : State := s.regsReset (Reg.PMU_CYCLE g).addr 0x100

/-- An island clocked again: its unit's registers, and its counter group's, read their reset values. -/
def islandFresh (s : State) (i : Nat) : State :=
  let s := match pmuGroup i with | some g => s.pmuReset g | none => s
  if isSite i then
    let s := s.regsReset (Reg.TILE_ID (islandSite i)).addr 0x40000
    match s.tileOf (islandSite i) with
    | some t => s.setTile t .idle
    | none => s
  else if i = 81 then s.regsReset Reg.SPL_STATUS.addr 0x10000
  else if i = 87 then
    let s := ({ s with plt := (.start, .start) }).regsReset Reg.PLT_STATUS.addr 0x80000
    s.fbw Fld.PLT_STATUS_LISTEN_ONLY s.pins.listenOnly
  else if i = 89 then
    let pos := s.fd Fld.PAIR_STATUS_POS
    let s := ({ s with pair := { Pair.off with conds := s.pair.conds, healthy := s.pair.healthy } }).regsReset
      Reg.PAIR_STATUS.addr 0x100000
    s.fw Fld.PAIR_STATUS_POS pos
  else s

/-- The MCC's command is a CLK_GATE_SET of an island in progress. -/
def gateCmd (s : State) (i : Nat) : Bool :=
  match s.mcc.cur with
  | some j => j.begun && j.pkt.base == 0x0A02 && j.pkt.u8 16 == i
  | none => false

/-- An island ungated: clocked, its registers at reset values, the command answered. -/
def ungate (s : State) (i : Nat) : State :=
  let s := (s.islandFresh i).setClk i true
  if s.gateCmd i then s.mccReply .done else s

/-- Whether an island may be gated (15 Table 15-3). -/
def mayGate (s : State) (i : Nat) : Bool :=
  if isSite i then
    match s.tileOf (islandSite i) with
    | some t => s.ringState t == closed && s.ringEmpty t && (s.tile t).sb.isEmpty && (s.tile t).wait.isNone && !s.rimOwns t
    | none => true
  else if i = 81 then s.ringState 44 == closed
  else if 82 ≤ i && i < 87 then s.vid.sess.isEmpty
  else if i = 87 then s.lane == 0
  else if i = 89 then !s.fb Fld.PAIR_STATUS_CONFIGURED
  else if i = 90 then !s.fb Fld.SEC_STATUS_DEBUG_OPEN
  else s.srv.plan.isNone

/-- Whether an island is of 15 Table 15-3. -/
def gateable (i : Nat) : Bool := hasPstate i || (decide (82 ≤ i) && decide (i < 88)) || (decide (89 ≤ i) && decide (i < 93))

/-- Whether an island is a spare or retired: a site without a logical tile, a video core that is not active. -/
def islandSpare (s : State) (i : Nat) : Bool :=
  if isSite i then !bit (s.rd Reg.RAS_SITE_ACTIVE) (islandSite i) || bit (s.rd Reg.RAS_SITE_RETIRED) (islandSite i)
  else decide (82 ≤ i) && decide (i < 87) && !bit (s.rd Reg.RAS_CORE_STATE) (8 + (i - 82))

/-- The next wake starts (16 R563): a gated island is clocked, or an island leaves the floor state. A spare site clocked for a
tile move is copied to (19 R623). -/
def wakeStart (s : State) : State :=
  match s.pwr.wakes with
  | [] => s
  | (i, un) :: l =>
    if !s.wakeMay then s
    else
      let s := s.updPwr (fun x => { x with wakes := l, started := s.now :: x.started.filter (fun t => decide (s.now < t + 100000)) })
      let s := if un then
          let s := s.ungate i
          { s with ras := { s.ras with moves := s.ras.moves.map (fun m =>
              if m.quiet && isSite i && m.spare == islandSite i then { m with copying := true } else m) } }
        else
          (s.updPwr (fun x => { x with floors := x.floors.filter (fun e => e != (i, 5)) })).fbw (Fld.PWR_ISL_FORCED_FLOOR i) false
      s.pwrSettle

/-! ## Time (15 R541 to R546) -/

/-- A time message (15 Table 15-5). -/
def timeBytes (ty hops flags seq ttx trx : Nat) : List Byte :=
  padTo 32 (leBytes 1 ty ++ leBytes 1 hops ++ leBytes 1 flags ++ leBytes 1 0 ++ leBytes 4 seq ++ leBytes 8 ttx ++ leBytes 8 trx)

/-- A time message sent on a link that is UP. -/
def sendTime (s : State) (l ty hops flags trx : Nat) : State :=
  if l < 16 && s.linkState l == pUp then
    let seq := s.clk.seq
    (s.updClk (fun x => { x with seq := (seq + 1) % 2 ^ 32 })).enqueue l ⟨3, false, timeBytes ty hops flags seq s.now trx⟩
  else s

/-- The links of DOWNSTREAM_MASK. -/
def downLinks (s : State) : List Nat := bitsOf (s.fd Fld.ATY_FAB_CFG_DOWNSTREAM_MASK) 16

/-- SYNC sent downstream while SYNCED, one hop further, at most 15 (15 R542). -/
def syncDown (s : State) : State :=
  let hops := s.fd Fld.CLK_TIME_STATUS_HOPS + 1
  if s.fb Fld.CLK_TIME_STATUS_SYNCED && decide (hops ≤ 15) then
    s.downLinks.foldl (fun s l => s.sendTime l 0x10 hops (s.fd Fld.CLK_TIME_STATUS_HOLDOVER) 0) s
  else s

/-- A job whose EXEC_TIME the step has passed starts at once, late (15 R543). -/
def stepJob (t : Nat) (j : Job) : Job :=
  if j.pkt.execTime.toNat != 0 && !j.begun && decide (j.pkt.execTime.toNat ≤ t) then { j with due := true, start := t } else j

/-- What a step of TIME_NS does to schedules and gate lists (15 R544). -/
def stepStops (s : State) : State :=
  let run := s.rim.sched.isSome || s.rim.commit.isSome
  let gates := fun (x : PltPort) => x.gate.isSome || x.gateNext.isSome
  if run || gates s.plt.1 || gates s.plt.2 then
    let s := s.rimCommandsEnd.laneStop
    { s with plt := ({ s.plt.1 with gate := none, gateNext := none }, { s.plt.2 with gate := none, gateNext := none }) }
  else s

/-- The single step of TIME_NS (15 R543). The record's ADDR names what R544 removes: bit 0 a Rim schedule, bits 1 and 2 the gate
lists of ports A and B. -/
def timeStep (s : State) (t : Nat) : State :=
  let d : Int := (t : Int) - s.now
  let gates := fun (x : PltPort) => x.gate.isSome || x.gateNext.isSome
  let what := b2n (s.rim.sched.isSome || s.rim.commit.isSome) + 2 * b2n (gates s.plt.1) + 4 * b2n (gates s.plt.2)
  let s := (s.wr Reg.CLK_TIME_NS t).wr Reg.CLK_TIME_STEP (ofInt 64 d)
  let s := (s.fbw Fld.CLK_TIME_STATUS_SYNCED true).fw Fld.CLK_TIME_STATUS_OFFSET 0
  let s := s.stepStops.troubleRule 0x0A 543 0 80 what
  let s := { s with
    mcc := { s.mcc with cur := s.mcc.cur.map (stepJob t) }
    eng := s.eng.map (fun e => (e.1, { e.2 with cur := e.2.cur.map (stepJob t) }))
    vid := { s.vid with jobs := s.vid.jobs.map (fun j => { j with job := stepJob t j.job }) } }
  (List.range 16).foldl (fun s l => if (s.link l).asked.isSome then s.updLink l (fun x => { x with asked := none }) else s) s

/-- The offset from a SYNC's target, with TIME_FAULT (15 R545). -/
def timeOffset (s : State) (d : Int) : State :=
  let s := s.fw Fld.CLK_TIME_STATUS_OFFSET (ofInt 20 (max (-524288) (min 524287 d)))
  if 10000 < d.natAbs then
    if s.fb Fld.CLK_TIME_STATUS_TIME_FAULT then s
    else (s.fbw Fld.CLK_TIME_STATUS_TIME_FAULT true).troubleRule 0x0A 545 1 80 0
  else if d.natAbs < 1000 then s.fbw Fld.CLK_TIME_STATUS_TIME_FAULT false else s

/-- A SYNC on the upstream link (15 R542 to R546). -/
def syncIn (s : State) (l : Nat) (m : List Byte) : State :=
  if fieldOf m 0 1 != 0x10 || l != s.fd Fld.ATY_FAB_CFG_UPSTREAM_LINK || decide (15 < l) || s.linkState l != pUp then s
  else
    let s := (s.fw Fld.CLK_TIME_STATUS_HOPS (fieldOf m 1 1)).updClk (fun x => { x with heard := true })
    let s := s.fbw Fld.CLK_TIME_STATUS_HOLDOVER (bit (fieldOf m 2 1) 0)
    let t : Nat := (fieldOf m 8 8 + (s.link l).delay) % 2 ^ 64
    let s := if s.fb Fld.CLK_TIME_STATUS_SYNCED then s.timeOffset ((s.now : Int) - t)
      else if s.clk.measured then s.timeStep t else s
    s.syncDown

/-- A DELAY_REQ answered (15 R542). -/
def delayReqIn (s : State) (l : Nat) (m : List Byte) : State :=
  if fieldOf m 0 1 != 0x11 || decide (15 < l) || s.linkState l != pUp then s else s.sendTime l 0x12 0 0 s.now

/-- A DELAY_RSP measures a link's delay (15 R542). -/
def delayRspIn (s : State) (l : Nat) (m : List Byte) : State :=
  if fieldOf m 0 1 != 0x12 || decide (15 < l) || s.linkState l != pUp then s
  else match (s.link l).asked with
    | none => s
    | some t1 =>
      let d : Int := (((s.now : Int) - t1) - ((fieldOf m 8 8 : Int) - fieldOf m 16 8)) / 2
      let n := min max32 d.toNat
      let s := s.updLink l (fun x => { x with asked := none, delay := n })
      if l = s.fd Fld.ATY_FAB_CFG_UPSTREAM_LINK then
        (s.wr Reg.CLK_TIME_DELAY n).updClk (fun x => { x with measured := true })
      else s

/-- A time message of any TYPE. -/
def timeIn (s : State) (l : Nat) (m : List Byte) : State := ((s.syncIn l m).delayReqIn l m).delayRspIn l m

/-- One nanosecond passes (15 R541, R545): TIME_NS counts, slewed by 100 ppm while an offset is left. -/
def tick (s : State) : State :=
  let off := sext 20 (s.fd Fld.CLK_TIME_STATUS_OFFSET)
  let n := s.clk.slew + 1
  if !s.fb Fld.CLK_TIME_STATUS_SYNCED || off == 0 then s.bumpWrap Reg.CLK_TIME_NS 64 1
  else if n < 10000 then (s.updClk (fun x => { x with slew := n })).bumpWrap Reg.CLK_TIME_NS 64 1
  else
    let off := if 0 < off then off - 1 else off + 1
    let s := s.bumpWrap Reg.CLK_TIME_NS 64 (if 0 < sext 20 (s.fd Fld.CLK_TIME_STATUS_OFFSET) then 0 else 2)
    let s := (s.updClk (fun x => { x with slew := 0 })).fw Fld.CLK_TIME_STATUS_OFFSET (ofInt 20 off)
    if off.natAbs < 1000 then s.fbw Fld.CLK_TIME_STATUS_TIME_FAULT false else s

end State

/-! ## Commands (15 R548) -/

/-- CLK_SRC_SET (15 R530, R531). -/
def execClkSrcSet (via : Via) (p : Packet) (s : State) : Host.Outcome State Fault Refusal :=
  let auto := !p.expert || p.u8 16 == 1
  let c := p.u8 17
  .next (s.runRow via p (p.base == 0x0A00)
    (fun s => firstFail [(!profileOne p || (p.expert && (decide (1 < p.u8 16) || (!auto && decide (2 < c)))), .param),
      (!auto && !s.clkReady c, .refuse 0x0A01)])
    (fun s =>
      let s := s.fbw Fld.CLK_STATUS_MODE auto
      let c := if auto then
          (if s.clkReady 2 && (s.clk.qualified || s.clkSrc == 2) then 2 else if s.clkReady 1 then 1 else 0) else c
      if c = s.clkSrc then (s.clkCancel, some .done) else (s.clkSwitch c true, none)))

/-- CLK_SSC_SET (15 R535). -/
def execClkSscSet (via : Via) (p : Packet) (s : State) : Host.Outcome State Fault Refusal :=
  let die := p.u8 16
  let prof := p.u8 63
  let spread := if p.expert then p.u8 17 else if prof = 1 then 0 else 5
  let rate := if p.expert then p.u8 18 else 31
  .next (s.runRow via p (p.base == 0x0A01)
    (fun _ => firstFail [(decide (1 < die) || (!p.expert && prof != 1 && prof != 2) || decide (20 < spread) ||
      decide (rate < 30) || decide (63 < rate), .param)])
    (fun s =>
      let s := s.fw (if die = 0 then Fld.CLK_SSC_SPREAD_W else Fld.CLK_SSC_SPREAD_E) spread
      (if !p.expert && prof == 1 then s else s.fw (if die = 0 then Fld.CLK_SSC_RATE_W else Fld.CLK_SSC_RATE_E) rate, some .done)))

/-- CLK_GATE_SET (15 R538, R539). A gate answers when its crossings are empty, an ungate when the island is clocked. -/
def execClkGateSet (via : Via) (p : Packet) (s : State) : Host.Outcome State Fault Refusal :=
  let i := p.u8 16
  let en := p.u8 17
  .next (s.runRow via p (p.base == 0x0A02)
    (fun s => firstFail [(!s.fuse.video && decide (82 ≤ i) && decide (i < 87), .err Sts.unitAbsent),
      (!State.gateable i || decide (1 < en), .param), (s.islandSpare i, .refuse 0x0A04),
      (en == 0 && s.islandOn i && !s.mayGate i, .refuse 0x0A02)])
    (fun s =>
      if s.islandOn i = (en == 1) then (s, some .done)
      else if en = 0 then (s.updClk (fun x => { x with gating := x.gating.filter (· != i) ++ [i] }), none)
      else if hasPstate i then (s.wakeQueue i true, none)
      else (s.ungate i, none)))

/-! ## Events -/

/-- A monitor window ends (15 R528). -/
def execClkMonitorWindow (tcxo link osc : Nat) (cal : Int) (locked : Bool) (s : State) : Host.Outcome State Fault Refusal :=
  .next (s.monitor tcxo link osc cal locked)

/-- A source shows no edge for 50 ns (15 R528). -/
def execMissingEdge (src : Nat) (s : State) : Host.Outcome State Fault Refusal := .next (if src < 3 then s.clkFail src else s)

/-- OSC200 has started (15 R526). -/
def execOsc200Ready (s : State) : Host.Outcome State Fault Refusal :=
  .next (if s.fb Fld.CLK_FAIL_OSC then s else (s.setReady 0 true).clkAuto)

/-- LINK has been READY for t_LINK_QUAL (15 R530). -/
def execLinkQualExpiry (s : State) : Host.Outcome State Fault Refusal :=
  .next (if s.clkReady 2 then (s.updClk (fun x => { x with qualified := true })).clkAuto else s)

/-- A switch completes (15 R532). -/
def execClkSwitchComplete (s : State) : Host.Outcome State Fault Refusal :=
  .next (match s.clk.target with
    | none => s
    | some (c, _, cmd) =>
      let s := (s.updClk (fun x => { x with target := none })).fbw Fld.CLK_STATUS_SWITCHING false
      let s := s.fw Fld.CLK_STATUS_SRC c
      if cmd then s.mccReply .done else s)

/-- A crossing of a gated island is empty (15 R539): the gate takes effect. -/
def execGateCrossingEmpty (island : Nat) (s : State) : Host.Outcome State Fault Refusal :=
  .next (if s.clk.gating.contains island then
    let s := (s.updClk (fun x => { x with gating := x.gating.filter (· != island) })).setClk island false
    if s.gateCmd island then s.mccReply .done else s
  else s)

/-- The next wake starts (16 R563). -/
def execWakeAdmit (s : State) : Host.Outcome State Fault Refusal := .next s.wakeStart

/-- SYNC (15 R543). -/
def execSync (link : Nat) (m : List Byte) (s : State) : Host.Outcome State Fault Refusal := .next (s.syncIn link m)

/-- DELAY_REQ (15 R542). -/
def execDelayReq (link : Nat) (m : List Byte) (s : State) : Host.Outcome State Fault Refusal := .next (s.delayReqIn link m)

/-- DELAY_RSP (15 R542). -/
def execDelayRsp (link : Nat) (m : List Byte) (s : State) : Host.Outcome State Fault Refusal := .next (s.delayRspIn link m)

/-- SYNC stops arriving (15 R546). -/
def execSyncLoss (s : State) : Host.Outcome State Fault Refusal :=
  .next (if s.fb Fld.CLK_TIME_STATUS_SYNCED then s.fbw Fld.CLK_TIME_STATUS_HOLDOVER true else s)

/-- Every 1 µs a time message on each downstream link (09 R344). -/
def execTimeSyncSend (s : State) : Host.Outcome State Fault Refusal := .next s.syncDown

/-- Every 10 ms the delay of each downstream link, and of the upstream link, is measured (09 R344). -/
def execDelayMeasurePeriod (s : State) : Host.Outcome State Fault Refusal :=
  let up := s.fd Fld.ATY_FAB_CFG_UPSTREAM_LINK
  let ls := (if up < 16 then [up] else []) ++ s.downLinks.filter (· != up)
  .next (ls.foldl (fun s l =>
    if s.linkState l == State.pUp then (s.updLink l (fun x => { x with asked := some s.now })).sendTime l 0x11 0 0 0 else s) s)

end Sys2Proof.Machine
end

