-- ==== Sys2Proof/Machine/FabricOps.lean ====
section
/-! DEFINITION. The cascade (09 R323 to R345): identity and its checks, election of the master, presence, the floor, and
the entry of a link into UP. -/

namespace Sys2Proof.Machine

/-- A claim as its message carries it (09 Table 9-3). -/
def ClaimMsg.bytes (c : ClaimMsg) : List Byte :=
  leBytes 1 2 ++ leBytes 1 (b2n c.incumbent * 16 + c.priority % 16) ++ leBytes 2 c.modNum ++ leBytes 1 c.floor ++
    List.replicate 3 0 ++ leBytes 8 c.serial ++ leBytes 4 c.seq

/-- The claim that a message carries. -/
def claimOf (m : List Byte) : ClaimMsg :=
  let n := ofLE m
  ⟨bit n 12, bits n 8 4, bits n 16 16 % 4096, bits n 32 8, bits n 64 64, bits n 128 32⟩

/-- Whether a claim's key is better (09 R338): INCUMBENT, then PRIORITY, then the lower serial. -/
def ClaimMsg.better (a b : ClaimMsg) : Bool :=
  if a.incumbent != b.incumbent then a.incumbent
  else if a.priority != b.priority then decide (b.priority < a.priority)
  else decide (a.serial < b.serial)

/-- A PRESENCE message (09 Table 9-3). -/
def PresMsg.bytes (p : PresMsg) : List Byte :=
  leBytes 2 3 ++ leBytes 2 p.modNum ++ leBytes 1 0 ++ leBytes 1 p.proto ++ leBytes 1 p.num ++ leBytes 1 0 ++
    leBytes 8 p.serial ++ leBytes 4 p.pseq

/-- The PRESENCE that a message carries, arriving at `t`. -/
def presOf (m : List Byte) (t : Nat) : PresMsg :=
  let n := ofLE m
  ⟨bits n 64 64, bits n 16 16 % 4096, bits n 40 8, bits n 48 8, bits n 128 32, t⟩

/-- A DUPLICATE message. -/
def dupBytes (modNum serial : Nat) : List Byte := leBytes 2 4 ++ leBytes 2 modNum ++ leBytes 4 0 ++ leBytes 8 serial

/-- A BERT_REQ message. -/
def bertBytes (pattern ms : Nat) (stop : Bool) : List Byte :=
  leBytes 1 5 ++ leBytes 1 pattern ++ leBytes 2 0 ++ leBytes 4 ms ++ leBytes 1 (b2n stop)

/-- t_PRESENCE three times over, in nanoseconds (09 R341, Table 9-12 Typ). -/
def presWindow : Nat := 300000000

namespace State

/-- The module's own serial. -/
def ownSerial (s : State) : Nat := s.fuse.serial

/-- The IDENT message of a link (09 Table 9-3, R681). -/
def identBytes (s : State) (l : Nat) : List Byte :=
  leBytes 2 1 ++ leBytes 2 s.ownMod ++ leBytes 1 l ++ leBytes 1 (s.fd Fld.ATY_FAB_STATUS_PROTO_LEVEL) ++
    leBytes 1 (s.fd Fld.ATY_FAB_STATUS_NUMERICS_LEVEL) ++ leBytes 1 (s.fd Fld.ATY_FAB_STATUS_ELIGIBLE * 2) ++
    leBytes 8 s.ownSerial

/-- IDENT sent again on every UP link (09 R323). -/
def identAll (s : State) : State := s.upLinks.foldl (fun s l => s.sendCtl l (s.identBytes l)) s

/-! ## Election (09 R338 to R341) -/

/-- ELECT: none. -/
def eNone : Nat := 0
/-- Claiming. -/
def eClaiming : Nat := 1
/-- Follower. -/
def eFollower : Nat := 2
/-- Master. -/
def eMaster : Nat := 3

/-- The election state. -/
def elect (s : State) : Nat := s.fd Fld.ATY_FAB_STATUS_ELECT

/-- The floor that a master sets: the lowest level among recent PRESENCE messages and its own (09 R341). -/
def masterFloor (s : State) : Nat :=
  (s.fab.pres.filter (fun p => decide (s.now ≤ p.time + presWindow))).foldl (fun m p => min m p.proto)
    (s.fd Fld.ATY_FAB_STATUS_PROTO_LEVEL)

/-- The module's own claim. -/
def ownClaim (s : State) (inc : Bool) : ClaimMsg :=
  ⟨inc, s.fd Fld.ATY_FAB_CFG_PRIORITY, s.ownMod, if inc then s.masterFloor else 0, s.ownSerial, s.fab.beacon⟩

/-- A claim taken as the best one known. -/
def setBest (s : State) (c : Option ClaimMsg) : State := { s with fab := { s.fab with best := c } }

/-- The master as a beacon names it, or none: FLOOR 0 (09 R341). -/
def setMaster (s : State) (c : Option ClaimMsg) : State :=
  match c with
  | some c =>
    (((s.fw Fld.ATY_FAB_STATUS_MASTER_MOD c.modNum).fw Fld.ATY_FAB_STATUS_FLOOR c.floor).wr Reg.ATY_MASTER_SERIAL
      c.serial).routeWaiting
  | none => ((s.fw Fld.ATY_FAB_STATUS_MASTER_MOD 0xFFF).fw Fld.ATY_FAB_STATUS_FLOOR 0).wr Reg.ATY_MASTER_SERIAL 0

/-- An eligible module without a known master claims, where its claim is the best it knows (09 R338). -/
def claimAnew (s : State) : State :=
  if s.fb Fld.ATY_FAB_STATUS_ELIGIBLE && s.elect == eNone then
    let c := s.ownClaim false
    match s.fab.best with
    | some b => if b.better c then s else ((s.setBest (some c)).fw Fld.ATY_FAB_STATUS_ELECT eClaiming).flood none c.bytes
    | none => ((s.setBest (some c)).fw Fld.ATY_FAB_STATUS_ELECT eClaiming).flood none c.bytes
  else s

/-- A beacon of the master: its claim with the next BEACON_SEQ and FLOOR. -/
def beaconNow (s : State) : State :=
  let s := { s with fab := { s.fab with beacon := (s.fab.beacon + 1) % 2 ^ 32 } }
  let c := s.ownClaim true
  (((s.setBest (some c)).setMaster (some c)).fw Fld.ATY_FAB_STATUS_ELECT eMaster).flood none c.bytes

/-- A received claim (09 R338 to R340). -/
def claimIn (s : State) (l : Nat) (c : ClaimMsg) : State :=
  let newer := match s.fab.best with
    | none => true
    | some b => c.better b || (!b.better c && decide (b.seq < c.seq))
  if !newer || c.serial = s.ownSerial then s
  else
    let s := s.setBest (some c)
    let s := if c.incumbent then (s.setMaster (some c)).fw Fld.ATY_FAB_STATUS_ELECT eFollower
      else if s.elect = eClaiming then s.fw Fld.ATY_FAB_STATUS_ELECT eNone
      else s
    s.flood (some l) c.bytes

/-! ## Identity (09 R323, R324) -/

/-- A link enters UP: the best claim known goes out on it, what waited is sent, and an eligible module may claim. -/
def linkUp (s : State) (p : Nat) : State :=
  let l := s.portLink p
  let s := (s.setPort p pUp).updLink l (fun x => { x with spare := none })
  let s := match s.fab.best with
    | some c => s.sendCtl l c.bytes
    | none => s
  (s.claimAnew.egress l).routeWaiting

/-- The retirement that brought in a spare port is over. -/
def spareSettled (s : State) (l : Nat) : State :=
  if (s.link l).spare.isSome then
    let s := s.updLink l (fun x => { x with spare := none })
    match s.ras.holders.find? (fun a => a.code == actRetire && a.kind == 2) with
    | some a => s.maintRelease a
    | none => s
  else s

/-- Whether ATY_EXPECT is broken by what the far end said. -/
def expectBroken (s : State) (p : Nat) : Bool :=
  s.fb (Fld.ATY_EXPECT_EN p) && (s.fd (Fld.ATY_EXPECT_MOD p) != s.fd (Fld.ATY_FAR_IDENT_MOD p) ||
    s.fd (Fld.ATY_EXPECT_LINK p) != s.fd (Fld.ATY_FAR_IDENT_LINK p))

/-- The checks of 09 R324 on what a port has recorded, and the state they lead to. A module that DUPLICATE isolated keeps
its links ISOLATED (R337). -/
def identCheck (s : State) (p : Nat) : State :=
  let l := s.portLink p
  let st := s.portState p
  if !(s.link l).ident || !(st == pIdent || st == pUp || st == pMiswired || st == pIsolated) then s
  else
    let far := (s.rd (Reg.ATY_FAR_SERIAL p), s.rd (Reg.ATY_FAR_IDENT p))
    let wrongSpare := match (s.link l).spare with
      | some (ser, idn) => ser != far.1 || idn / 2 ^ 16 != far.2 / 2 ^ 16
      | none => false
    let leave := fun (s : State) (st : Nat) => ((s.setPort p st).portLost p).spareSettled l
    if s.fb Fld.ATY_FAB_STATUS_ISOLATED then leave s pIsolated
    else if s.expectBroken p then leave (s.fbw (Fld.ATY_PORT_STATUS_EXPECT_MISMATCH p) true) pMiswired
    else if wrongSpare then leave s pMiswired
    else if s.ownMod != 0xFFF && s.fd (Fld.ATY_FAR_IDENT_MOD p) == s.ownMod then leave s pIsolated
    else
      let s := s.fbw (Fld.ATY_PORT_STATUS_EXPECT_MISMATCH p) false
      if st = pUp then s else (s.linkUp p).spareSettled l

/-- A MISWIRED or ISOLATED port returned to IDENT, its IDENT sent again and its checks made anew (09 R324). -/
def identAgain (s : State) (p : Nat) : State :=
  if s.portState p == pMiswired || (s.portState p == pIsolated && !s.fb Fld.ATY_FAB_STATUS_ISOLATED) then
    let s := s.setPort p pIdent
    (s.sendCtl (s.portLink p) (s.identBytes (s.portLink p))).identCheck p
  else s

/-- ATY_EXPECT written (09 R324). -/
def expectWrite (s : State) (p v : Nat) : State :=
  let old := s.rd (Reg.ATY_EXPECT p)
  let s := s.wr (Reg.ATY_EXPECT p) (v &&& 0x800FFF0F)
  if s.portState p = pUp then
    if s.expectBroken p then ((s.fbw (Fld.ATY_PORT_STATUS_EXPECT_MISMATCH p) true).setPort p pMiswired).portLost p else s
  else if old = s.rd (Reg.ATY_EXPECT p) then s else s.identAgain p

/-! ## Bit-error tests (09 R336) -/

/-- The activity of ATY_BERT. -/
def bertAct : Activity := ⟨actBert, 0, 0⟩

/-- A link-control message forced out of a port that carries no traffic. -/
def forceCtl (s : State) (p : Nat) (bs : List Byte) : State :=
  let st := s.portState p
  ((s.setPort p pIdent).sendCtl (s.portLink p) bs).setPort p st

/-- This module's bit-error test, if it runs one. -/
def ownBert (s : State) : Option BertRun := s.fab.bert.find? (·.own)

/-- ATY_BERT ends: the port DOWN, the token released, the reply. -/
def bertEnd (s : State) (l : Nat) (a : Ans) : State :=
  let s := { s with fab := { s.fab with bert := s.fab.bert.filter (fun b => b.link != l) } }
  let s := (s.setPort (s.portOf l) pDown).maintRelease bertAct
  s.mccReply a

/-- The training of ATY_BERT has brought the far end's IDENT: BERT_REQ and the test, or a refusal by a spine end. -/
def bertIdent (s : State) (p : Nat) (b : BertRun) (ms : Nat) : State :=
  let l := s.portLink p
  if s.fb (Fld.ATY_PORT_STATUS_FAR_SPINE p) then s.bertEnd l (.err 0x0400)
  else
    let s := (s.sendCtl l (bertBytes b.pattern ms false)).setPort p pBert
    { s with fab := { s.fab with bert := s.fab.bert.map (fun b => if b.link == l then { b with going := true } else b) } }

end State
end Sys2Proof.Machine
end

