-- ==== Sys2Proof/Machine/Fabric.lean ====
section
/-! DEFINITION. The commands and events of links and cascade (09), but for the arrival of flits and of time messages. -/

namespace Sys2Proof.Machine
namespace State

/-- STS_ATY_LINK_STATE (09 Table 9-8). -/
def stsAtyLinkState : Nat := 0x0400
/-- STS_ATY_STEP_PASSED. -/
def stsAtyStepPassed : Nat := 0x0401

/-! ## Messages of link control -/

/-- IDENT arriving on a link (09 R324). -/
def identIn (s : State) (l : Nat) (m : List Byte) : State :=
  let n := ofLE m
  let p := s.portOf l
  let st := s.portState p
  if !(st == pIdent || st == pUp || st == pMiswired || st == pIsolated) then s
  else
    let modNum := bits n 16 16 % 4096
    let moved := modNum != s.fd (Fld.ATY_FAR_IDENT_MOD p)
    let s := s.wr (Reg.ATY_FAR_SERIAL p) (bits n 64 64)
    let s := s.wr (Reg.ATY_FAR_IDENT p)
      (modNum * 2 ^ 20 + bits n 32 4 * 2 ^ 16 + bits n 40 8 * 2 ^ 8 + bits n 48 8)
    let s := s.fw (Fld.ATY_PORT_STATUS_LEVEL p) (min (bits n 40 8) (s.fd Fld.ATY_FAB_STATUS_PROTO_LEVEL))
    let s := s.fbw (Fld.ATY_PORT_STATUS_FAR_SPINE p) (bit n 56)
    let s := s.updLink l (fun x => { x with ident := true })
    match s.ownBert, s.mcc.cur with
    | some b, some j =>
      if b.link = l && !b.going then s.bertIdent p b (if j.pkt.expert then j.pkt.u32 20 else 1000) else s.identCheck p
    | _, _ =>
      if st = pMiswired || st = pIsolated then (if moved then s.identAgain p else s) else s.identCheck p

/-- PRESENCE arriving (09 R318, R337). -/
def presIn (s : State) (l : Nat) (m : List Byte) : State :=
  let p := presOf m s.now
  let newer := match s.fab.pres.find? (fun q => q.serial == p.serial) with
    | some q => decide (q.pseq < p.pseq)
    | none => p.serial != s.ownSerial
  if !newer then s
  else
    let recent := s.fab.pres.filter (fun q => q.serial != p.serial && decide (s.now ≤ q.time + presWindow))
    let s := { s with fab := { s.fab with pres := p :: s.fab.pres.filter (fun q => q.serial != p.serial) } }
    let s := s.flood (some l) p.bytes
    if s.elect = eMaster then
      (recent.filter (fun q => q.modNum == p.modNum)).foldl
        (fun s q => s.flood none (dupBytes p.modNum (max p.serial q.serial))) s
    else s

/-- DUPLICATE arriving (09 R337). One that names another module is flooded once (assumption 50). -/
def dupIn (s : State) (l : Nat) (m : List Byte) : State :=
  let n := ofLE m
  let modNum := bits n 16 16 % 4096
  let ser := bits n 64 64
  if modNum = s.ownMod && ser == s.ownSerial then
    let s := s.fbw Fld.ATY_FAB_STATUS_ISOLATED true
    (List.range 18).foldl (fun s p =>
      if [pIdent, pUp, pMiswired].contains (s.portState p) then (s.setPort p pIsolated).portLost p else s) s
  else if s.fab.dups.contains (modNum, ser) then s
  else ({ s with fab := { s.fab with dups := (modNum, ser) :: s.fab.dups } }).flood (some l) (dupBytes modNum ser)

/-- BERT_REQ arriving (09 R336). -/
def bertIn (s : State) (l : Nat) (m : List Byte) : State :=
  let n := ofLE m
  let p := s.portOf l
  let others := s.fab.bert.filter (fun b => b.link != l)
  if bit n 64 then
    if s.portState p = pBert then ({ s with fab := { s.fab with bert := others } }).portDown p else s
  else if [pIdent, pUp, pMiswired, pIsolated].contains (s.portState p) then
    ({ s with fab := { s.fab with bert := others ++ [BertRun.mk l false (bits n 8 8) true] } }).setPort p pBert |>.portLost p
  else s

/-- A link-control message of any TYPE (09 Table 9-3); an undefined TYPE does nothing. -/
def ctlIn (s : State) (l : Nat) (m : List Byte) : State :=
  match (m.headD 0).toNat with
  | 1 => s.identIn l m
  | 2 => if s.linkState l = pUp then s.claimIn l (claimOf m) else s
  | 3 => if s.linkState l = pUp then s.presIn l m else s
  | 4 => s.dupIn l m
  | 5 => s.bertIn l m
  | _ => s

/-- A link-control row: the message must be of the row's TYPE and the link must carry link control. -/
def ctlRow (s : State) (l : Nat) (m : List Byte) (ty : Nat) : State :=
  if (m.headD 0).toNat = ty && decide (l < 16) && (carries (s.linkState l) 4 || s.linkState l == pBert) then s.ctlIn l m
  else s

end State

/-- IDENT (09 R324). -/
def execIdent (link : Nat) (m : List Byte) (s : State) : Host.Outcome State Fault Refusal := .next (s.ctlRow link m 1)

/-- CLAIM (09 R338). -/
def execClaim (link : Nat) (m : List Byte) (s : State) : Host.Outcome State Fault Refusal := .next (s.ctlRow link m 2)

/-- PRESENCE (09 R337). -/
def execPresence (link : Nat) (m : List Byte) (s : State) : Host.Outcome State Fault Refusal := .next (s.ctlRow link m 3)

/-- DUPLICATE (09 R337). -/
def execDuplicate (link : Nat) (m : List Byte) (s : State) : Host.Outcome State Fault Refusal := .next (s.ctlRow link m 4)

/-- BERT_REQ (09 R336). -/
def execBertReq (link : Nat) (m : List Byte) (s : State) : Host.Outcome State Fault Refusal := .next (s.ctlRow link m 5)

/-- REPLAY_TIMEOUT (09 R320). -/
def execReplayTimeout (link : Nat) (s : State) : Host.Outcome State Fault Refusal :=
  .next (if link < 16 && !(s.link link).held.isEmpty && State.carries (s.linkState link) 4 then
    s.replay link else s)

/-! ## Training -/

/-- TRAINING_COMPLETE (09 R323): the port enters IDENT and sends IDENT. -/
def execTrainingComplete (port : Nat) (s : State) : Host.Outcome State Fault Refusal :=
  let l := s.portLink port
  .next (if port < 18 && s.portState port == State.pTrain && !(s.link l).loop then
    (s.setPort port State.pIdent).sendCtl l (s.identBytes l) else s)

/-- TRAIN_TIMEOUT (09 R323): back to DOWN; a training that followed a failed retrain leads to the loopback test (R328).
A spare's failed training ends its insertion; ATY_BERT whose training fails ends with STS_TIMEOUT (assumption 51). -/
def execTrainTimeout (port : Nat) (s : State) : Host.Outcome State Fault Refusal :=
  let l := s.portLink port
  let st := s.portState port
  .next (if port < 18 && (st == State.pTrain || st == State.pIdent) && !(s.link l).loop then
    match s.ownBert with
    | some b => if b.link = l then s.bertEnd l (.err Sts.timeout) else s.portDown port
    | none =>
      if (s.link l).full then (s.setPort port State.pTrain).updLink l (fun x => { x with loop := true, full := false })
      else (s.portDown port).spareSettled l
  else s)

/-- TRAIN_RETRY (09 R323). -/
def execTrainRetry (port : Nat) (s : State) : Host.Outcome State Fault Refusal :=
  let l := s.portLink port
  .next (if port < 18 && l < 16 && s.portState port == State.pDown && !(s.link l).off && !s.inReset then
    s.portTrain port false else s)

/-- ERROR_WINDOW_END (09 R326). -/
def execErrorWindowEnd (port : Nat) (s : State) : Host.Outcome State Fault Refusal :=
  .next (if port < 18 && s.portLink port < 16 then
    s.updLink (s.portLink port) (fun x => { x with corr := 0, bad := 0 }) else s)

/-- RETRAIN_COMPLETE (09 R320, R327): the replay buffer resent, held VC2 messages first, then the others. -/
def execRetrainComplete (port : Nat) (s : State) : Host.Outcome State Fault Refusal :=
  let l := s.portLink port
  .next (if port < 18 && s.portState port == State.pRetrain then
    let q := (s.link l).queue
    let s := (s.setPort port State.pUp).resend l
    let s := (s.updLink l (fun x => { x with queue := q.filter (·.cls == 2) })).egress l
    let s := s.updLink l (fun x => { x with queue := x.queue ++ q.filter (·.cls != 2) })
    (s.egress l).routeWaiting
  else s)

/-- RETRAIN_TIMEOUT (09 R328): a failure counted; full training, or the loopback test after 3 failures in 10 s. -/
def execRetrainTimeout (port : Nat) (s : State) : Host.Outcome State Fault Refusal :=
  let l := s.portLink port
  .next (if port < 18 && s.portState port == State.pRetrain then
    let fails := s.now :: (s.link l).fails.filter (fun t => decide (s.now ≤ t + 10000000000))
    let s := s.updLink l (fun x => { x with fails := fails })
    let s := s.fw (Fld.ATY_PORT_STATUS_RETRAIN_FAILS port) (min 15 fails.length)
    let s := s.portTrain port true
    if 3 ≤ fails.length then s.updLink l (fun x => { x with loop := true, full := false }) else s
  else s)

/-- LOOPBACK_DONE (09 R328): a port that fails is retired; one that passes enters FAILED. -/
def execLoopbackDone (port : Nat) (pass : Bool) (s : State) : Host.Outcome State Fault Refusal :=
  let l := s.portLink port
  .next (if port < 18 && s.portState port == State.pTrain && (s.link l).loop then
    let s := s.updLink l (fun x => { x with loop := false })
    if pass then s.portFail port else s.retire 2 port
  else s)

/-! ## Election and presence -/

/-- ELECT_QUIET_EXPIRY (09 R339). -/
def execElectQuietExpiry (s : State) : Host.Outcome State Fault Refusal :=
  .next (if s.elect == State.eClaiming then s.beaconNow else s)

/-- BEACON_PERIOD (09 R339). -/
def execBeaconPeriod (s : State) : Host.Outcome State Fault Refusal :=
  .next (if s.elect == State.eMaster then s.beaconNow else s)

/-- MASTER_LOSS (09 R340): no beacon; the master is dropped and claims begin anew. -/
def execMasterLoss (s : State) : Host.Outcome State Fault Refusal :=
  .next (if s.elect == State.eMaster then s
    else (((s.setMaster none).setBest none).fw Fld.ATY_FAB_STATUS_ELECT State.eNone).claimAnew)

/-- PRESENCE_PERIOD (09 R337). -/
def execPresencePeriod (s : State) : Host.Outcome State Fault Refusal :=
  .next (if s.ownMod == 0xFFF then s
    else
      let s := { s with fab := { s.fab with pseq := (s.fab.pseq + 1) % 2 ^ 32 } }
      s.flood none (PresMsg.bytes ⟨s.ownSerial, s.ownMod, s.fd Fld.ATY_FAB_STATUS_PROTO_LEVEL,
        s.fd Fld.ATY_FAB_STATUS_NUMERICS_LEVEL, s.fab.pseq, s.now⟩))

/-! ## Commands -/

/-- What FABRIC_CFG sets: MOD_NUM, PRIORITY, UPSTREAM_LINK, DOWNSTREAM_MASK, JOIN (09 Tables 9-6, 9-7). -/
def fabCfgOf (p : Packet) : Nat × Nat × Nat × Nat × Bool :=
  let up := p.u8 19
  if p.expert then (p.u16 16, p.u8 18 % 16, up, p.u16 20, bit (p.u8 22) 0)
  else (p.u16 16, 8, up, if up < 16 then clrBit 0xFFFF up else 0xFFFF, false)

/-- ATY_FABRIC_CFG (09 R337, R345). -/
def execAtyFabricCfg (via : Via) (p : Packet) (s : State) : Host.Outcome State Fault Refusal :=
  let (m, prio, up, down, join) := fabCfgOf p
  .next (s.runRow via p (p.base == 0x0400)
    (fun s => firstFail [(!profileOne p || decide (4094 < m) || !(decide (up < 16) || up == 0x1F), .param),
      (s.ownMod != 0xFFF, .refuse 0x0403)])
    (fun s =>
      let old := s.fd Fld.ATY_FAB_CFG_UPSTREAM_LINK
      let s := s.wr Reg.ATY_FAB_CFG (b2n join * 2 ^ 48 + down * 2 ^ 32 + up * 2 ^ 16 + prio * 2 ^ 12 + m)
      let s := if old = up then s else s.linkHandover
      let s := s.fw Fld.ATY_FAB_STATUS_ADMIT (if join then 1 else 2)
      let s := (List.range 18).foldl (fun s p => s.fbw (Fld.ATY_PORT_STATUS_UPSTREAM p) (s.portLink p == up && decide (up < 16))) s
      let s := s.identAll
      let s := (List.range 18).foldl (fun s p => if s.portState p = State.pUp then s.identCheck p else s.identAgain p) s
      let s := if s.elect = State.eClaiming then
        let c := s.ownClaim false
        (s.setBest (some c)).flood none c.bytes else if s.elect = State.eMaster then s.beaconNow else s.claimAnew
      (s, some .done)))

/-- The entry of destination `m` that basic ATY_ROUTE_SET builds (09 R335). -/
def routeEntry (profile base count x own m : Nat) : Nat :=
  if m < base || base + count ≤ m || m = own then 0
  else
    let mask :=
      if profile = 1 then (if m < own then 0x00FF else 0xFF00)
      else
        let mx := (m - base) % x
        let ox := (own - base) % x
        let my := (m - base) / x
        let oy := (own - base) / x
        if mx < ox then 0x000F else if ox < mx then 0x00F0 else if my < oy then 0x0F00 else 0xF000
    mask * 2 ^ 16 + mask

/-- ATY_ROUTE_SET (09 R334, R335). -/
def execAtyRouteSet (via : Via) (p : Packet) (s : State) : Host.Outcome State Fault Refusal :=
  let first := p.u16 16
  let count := p.u16 18
  let x := p.u8 20
  let range := count == 0 || decide (4095 < first + count)
  .next (s.runRow via p (p.base == 0x0401)
    (fun s => firstFail [
      (range || (!p.expert && !(p.u8 63 == 1 || p.u8 63 == 2)) ||
        (!p.expert && p.u8 63 == 2 && (x == 0 || decide (64 < x))), .param),
      (s.ownMod == 0xFFF, .refuse 0x0404),
      (!p.expert && (decide (s.ownMod < first) || decide (first + count ≤ s.ownMod)), .param)])
    (fun s =>
      if p.expert then
        match s.hostLoad (p.u64 24) (4 * count) with
        | (s, none) => (s, some (.fault (hostAddr (p.u64 24))))
        | (s, some bs) =>
          (((List.range count).foldl (fun s i => s.wr (Reg.ATY_ROUTE (first + i)) (ofLE ((bs.drop (4 * i)).take 4))) s).routeWaiting,
            some .done)
      else
        (((List.range 4095).foldl (fun s m => s.wr (Reg.ATY_ROUTE m) (routeEntry (p.u8 63) first count x s.ownMod m)) s).routeWaiting,
          some .done)))

/-- Whether a port's state permits an action of ATY_PORT_CTL (09 Table 9-7, R330, assumption 52). -/
def State.portPermits (s : State) (p action : Nat) : Bool :=
  let st := s.portState p
  match action with
  | 0 => st == State.pUp
  | 1 => !([State.pRetired, State.pSpare, State.pBert].contains st)
  | 2 => (st == State.pDown || st == State.pFailed) && !s.portRetired p
  | _ => !([State.pRetired, State.pSpare, State.pBert].contains st) && (s.sparePort p).isSome

/-- ATY_PORT_CTL (09 R330, R348). -/
def execAtyPortCtl (via : Via) (p : Packet) (s : State) : Host.Outcome State Fault Refusal :=
  let l := p.u8 16
  let action := p.u8 17
  .next (s.runRow via p (p.base == 0x0402)
    (fun s => firstFail [
      (!profileOne p || decide (15 < l) || decide (3 < action) || (!p.expert && action != 0 && action != 2), .param),
      (s.ownMod == 0xFFF, .refuse 0x0404),
      (!s.portPermits (s.portOf l) action, .err State.stsAtyLinkState)])
    (fun s =>
      let port := s.portOf l
      let s := if p.expert && bit (p.u8 18) 0 then s.expectWrite port (p.u32 20) else s
      match action with
      | 0 => (s.portRetrain port, some .done)
      | 1 =>
        let s := s.portDown port
        let s := (s.dropQueues l).rerouteVc2 l
        (s.updLink l (fun x => { x with queue := [], off := true, draining := true, loop := false }), none)
      | 2 => ((s.updLink l (fun x => { x with off := false })).portTrain port false, some .done)
      | _ => (s.retire 2 port, some .done)))

/-- PORT_QUEUES_DRAINED (09 R348): DISABLE completes. -/
def execPortQueuesDrained (link : Nat) (s : State) : Host.Outcome State Fault Refusal :=
  .next (if (s.link link).draining && (s.link link).queue.isEmpty then
    (s.updLink link (fun x => { x with draining := false })).mccReply .done else s)

/-- ATY_BERT (09 R336): the checks, the token, and the training; the MCC stays busy. -/
def execAtyBert (via : Via) (p : Packet) (s : State) : Host.Outcome State Fault Refusal :=
  let l := p.u8 16
  let ms := p.u32 20
  .next (s.runRow via p (p.base == 0x0403)
    (fun s => firstFail [
      (!profileOne p || decide (15 < l) || (p.expert && (decide (2 < p.u8 17) || ms == 0 || decide (600000 < ms))), .param),
      (s.ownMod == 0xFFF, .refuse 0x0404),
      (!([State.pDown, State.pMiswired, State.pFailed].contains (s.linkState l)) || s.portRetired (s.portOf l),
        .err State.stsAtyLinkState)] |>.or ((s.maintRefused State.bertAct).map (.errD Sts.maintConflict)))
    (fun s =>
      let s := s.maintTake State.bertAct
      let s := { s with fab := { s.fab with bert := s.fab.bert ++ [BertRun.mk l true (if p.expert then p.u8 17 else 0) false] } }
      (s.portTrain (s.portOf l) false, none)))

/-- BERT_DURATION_END (09 R336): the counts of this end; the end that started the test stops it and replies. -/
def execBertDurationEnd (link bitsDone : Nat) (errs : List Nat) (s : State) : Host.Outcome State Fault Refusal :=
  let port := s.portOf link
  .next (if link < 16 && s.portState port == State.pBert then
    let s := (s.wr (Reg.ATY_BERT_BITS port) bitsDone)
    let s := (List.range 4).foldl (fun s l => s.wr (Reg.ATY_BERT_ERR port l) (errs.getD l 0)) s
    match s.ownBert with
    | some b =>
      if b.link = link && b.going then
        (s.forceCtl port (bertBytes b.pattern 0 true)).bertEnd link
          (.ok (min max32 ((List.range 4).map (fun l => errs.getD l 0 % 2 ^ 64)).sum) (bitsDone % 2 ^ 64))
      else s
    | none => s
  else s)

/-- The address of SP_IDENT on a module. -/
def spIdentAddr (m : Nat) : Nat := m * 2 ^ 52 + 5 * 2 ^ 48 + 0x008

/-- The modules of a job checked in order (09 R342). `idents`: what the SP_IDENT loads of other modules return. -/
def bindCheck (s : State) (idents : List (Nat × Nat)) : List Nat → State × Ans
  | [] => (s, .done)
  | m :: ms =>
    let q := Req.make (spIdentAddr m) s.srcMod 0x2F 8 opLoad none []
    let (s, w) :=
      if m = s.ownMod then (s, some (s.statusWord 8))
      else if (s.issueCheck q).isSome then (s, none)
      else (s.sendFar q, Cells.find m idents)
    match w with
    | none => (s, .fault (spIdentAddr m))
    | some w =>
      if !bit w 31 then (s, ⟨Sts.refusedState, 0x0405, 0, m, false⟩)
      else if bits w 20 8 != s.fd Fld.ATY_FAB_STATUS_NUMERICS_LEVEL then
        (s, ⟨Sts.levelMismatch, m, bits w 20 8, 0, false⟩)
      else bindCheck s idents ms

/-- ATY_JOB_BIND (09 R342, R348). -/
def execAtyJobBind (via : Via) (p : Packet) (idents : List (Nat × Nat)) (s : State) : Host.Outcome State Fault Refusal :=
  let n := p.u16 24
  .next (s.runRow via p (p.base == 0x0404)
    (fun s => firstFail [(!profileOne p || n == 0 || decide (4095 < n), .param), (s.ownMod == 0xFFF, .refuse 0x0404),
      (s.fd Fld.ATY_FAB_STATUS_MASTER_MOD == 0xFFF, .refuse 0x0402)])
    (fun s =>
      match s.hostLoad (p.u64 16) (2 * n) with
      | (s, none) => (s, some (.fault (hostAddr (p.u64 16))))
      | (s, some bs) =>
        let (s, a) := bindCheck s idents ((List.range n).map (fun i => ofLE ((bs.drop (2 * i)).take 2)))
        (s, some a)))

/-- ATY_ADMIT (09 R346): the polling starts; the MCC stays busy. -/
def execAtyAdmit (via : Via) (p : Packet) (s : State) : Host.Outcome State Fault Refusal :=
  .next (s.runRow via p (p.base == 0x0405)
    (fun s => firstFail [(!profileOne p || decide (4094 < p.u16 16), .param), (s.ownMod == 0xFFF, .refuse 0x0404),
      (s.fd Fld.ATY_FAB_STATUS_ADMIT != 1, .refuse 0x0406)])
    (fun s => ({ s with fab := { s.fab with polled := false } }, none)))

/-- The ATY_ADMIT in progress. -/
def State.admitJob (s : State) : Option Job :=
  match s.mcc.cur with
  | some j => if j.begun && j.pkt.base == 0x0405 then some j else none
  | none => none

/-- ADMIT_POLL (09 R346): a read of the partner's SP_STEP, with what it returns, if it returns. -/
def execAdmitPoll (step : Option Nat) (s : State) : Host.Outcome State Fault Refusal :=
  .next (match s.admitJob with
    | none => s
    | some j =>
      let q := Req.make (j.pkt.u16 16 * 2 ^ 52 + 5 * 2 ^ 48 + 0x020) s.srcMod 0x2F 8 opLoad none []
      let first := !s.fab.polled
      if (s.issueCheck q).isSome then s
      else
        let s := s.sendFar q
        match step with
        | none => s
        | some v =>
          let s := { s with fab := { s.fab with polled := true } }
          if v = j.pkt.u64 24 then (s.fw Fld.ATY_FAB_STATUS_ADMIT 2).mccReply .done
          else if first && decide (j.pkt.u64 24 < v) then s.mccReply (.err State.stsAtyStepPassed)
          else s)

/-- ADMIT_TIMEOUT (09 R346). -/
def execAdmitTimeout (s : State) : Host.Outcome State Fault Refusal :=
  .next (if s.admitJob.isSome then s.mccReply (.err Sts.timeout) else s)

/-- ATY_EXPECT_WRITE (09 R324). -/
def execAtyExpectWrite (port value : Nat) (s : State) : Host.Outcome State Fault Refusal :=
  .next (if port < 18 then s.expectWrite port value else s)

end Sys2Proof.Machine
end

