-- ==== Sys2Proof/Machine/Rim.lean ====
section
/-! DEFINITION. The Rim lane's and the plant port's commands and events (11), PLT_MACSEC_KEY apart, which unwraps a key and
stands with Brudo's commands. -/

namespace Sys2Proof.Machine
namespace State

/-- Whether the variant has the Rim lane and the plant port. -/
def rimAbsent (s : State) : Bool := !s.fb Fld.CAP_UNITS_RIM || !s.fb Fld.CAP_UNITS_PLANT

/-- A partner's beacon or alarm (12 R439, R440): claims and roles of the pair's other module. -/
def beaconIn (s : State) (h : RimHead) (body : List Byte) : State :=
  let f := fieldOf body
  if !s.fb Fld.PAIR_STATUS_CONFIGURED || f 0 2 != s.fd Fld.PAIR_CFG_PAIR_ID || f 2 1 == s.pairPos then s
  else
    let of := fun (s : State) (out : Nat) => s.rimSvcs.find? (fun n => s.fd (Fld.PAIR_SVC_STATUS_ID n) == out)
    if h.kind = 3 then
      match of s h.stream with
      | some n => s.learn n h.claim 0
      | none => s
    else (List.range (f 3 1)).foldl (fun s i =>
      match of s (f (16 + 8 * i) 1) with
      | some n => (s.learn n (f (20 + 8 * i) 4) 0).peerRoleTo n (f (17 + 8 * i) 1)
      | none => s) s

/-- A policed frame accepted as input (11 R409) or as a partner's beacon or alarm, or counted. -/
def frameIn (s : State) (p : Nat) (plain : List Byte) : State :=
  let drop := s.bump (Reg.PLT_PORT_DROP_FRAME p) 1
  let (_, _, ty, pay) := frameParts plain
  match RimHead.ofBytes pay with
  | none => drop
  | some (h, version, good, data) =>
    if ty != s.fd Fld.PLT_CFG_ETHERTYPE || !good || version != 1 then drop
    else if h.kind = 2 || h.kind = 3 then s.beaconIn h data
    else if h.kind != 0 || !s.rim.streams.any (fun e => e.2.streamIn == h.stream && e.2.inBytes == data.length) then drop
    else
      let last := Cells.find h.stream s.rim.seqs
      if (match last with | some q => decide (h.seq ≤ q) | none => false) then s
      else
        let keep := s.rim.inputs.filter (fun e => e.1 != h.stream || decide (s.now < e.2.2.1 + 200000000))
        { s with rim := { s.rim with
            inputs := keep ++ [(h.stream, h.seq, s.now, data)]
            seqs := Cells.insert h.stream h.seq (Cells.erase h.stream s.rim.seqs) } }

/-- The next beacon instant (12 R440). -/
def nextBeacon (s : State) : Option Nat :=
  match s.rim.sched, s.beaconOf with
  | some x, some (per, off) => some (x.act + off + s.pair.beacons * per)
  | _, _ => none

/-- Whether a class-6 message of 72 bytes may start now on a port (11 R418, R419): its gate is open and its last bit leaves
t_GUARD before every scheduled release there. -/
def classSixMay (s : State) (p : Nat) : Bool :=
  let wire := 576
  let ends := 10 * s.now + wire + 500
  let clear := fun (t : Nat) => decide (t < s.now) || decide (ends ≤ 10 * t)
  gateOpen (s.pltPort p).gate 6 (10 * s.now) (10 * s.now + wire) &&
    s.rim.runs.all (fun r => r.out || (match s.rimStream r.slot with
      | some st => !bit st.ports p || clear r.tr
      | none => true)) &&
    (match s.nextBeacon with | some t => clear t | none => true)

/-- An 802.1AS message sent on a port. -/
def ptpSend (s : State) (p kind : Nat) : State :=
  if !s.pltUp p then s.bump (Reg.PLT_PORT_TX_SUPPRESSED p) 1
  else (s.bumpWrap (Reg.PLT_PORT_TX_FRAMES p) 64 1).emit (.ptp p kind)

/-- A gate list from its bytes, with its base time; none where 11 R419 rules it out. -/
def gateOf (bs : List Byte) (n cycle base : Nat) : Option GateList :=
  let es := (List.range n).map (fun i => (fieldOf bs (8 * i) 1, fieldOf bs (8 * i + 4) 4))
  if es.any (fun e => decide (e.2 < 100) || e.2 % 10 != 0) || es.foldl (fun c e => c + e.2) 0 != cycle then none
  else some ⟨base, cycle, es⟩

/-- The first cycle boundary of a list at or after a time. -/
def cycleAfter (g : Option GateList) (t : Nat) : Nat :=
  match g with
  | none => t
  | some g => if t ≤ g.base then g.base else g.base + ceilDiv (t - g.base) g.cycle * g.cycle

/-- The effect of PLT_GATE_SET once its list is read. -/
def gateSet (s : State) (p : Nat) (g : GateList) : State × Option Ans :=
  let bad := fun (o : Option RimSched) => match o with
    | some x => !s.gateFits (some g) p x.act x.frame x.entries
    | none => false
  if bad s.rim.sched || bad s.rim.commit then (s, some (.errD 0x0604 p))
  else (s.setPlt p { s.pltPort p with gateNext := some g }, some .done)

/-- A stream stored in a slot with its programs and known-answer data (11 R399, R400). -/
def streamSet (s : State) (slot : Nat) (d : List Byte) (far : List Host.Cell) (ue : Option Nat) : State × Ans :=
  if descriptorBad d then (s, .param)
  else
    let st := RimStream.ofBytes d
    let (a, b) := (s.rimTile 0, s.rimTile 1)
    let get := fun (s : State) (addr n : Nat) => s.getGlobal mccUnit addr n far ue
    match get s (ownAddr (tileKey a (fieldOf d 20 4))) (64 * fieldOf d 28 2) with
    | (s, .error e) => (s, accessAns e)
    | (s, .ok pa) =>
      match get s (ownAddr (tileKey b (fieldOf d 24 4))) (64 * fieldOf d 30 2) with
      | (s, .error e) => (s, accessAns e)
      | (s, .ok pb) =>
        match get s (fieldOf d 64 8) st.inBytes with
        | (s, .error e) => (s, accessAns e)
        | (s, .ok kin) =>
          match get s (fieldOf d 72 8) st.outBytes with
          | (s, .error e) => (s, accessAns e)
          | (s, .ok kout) =>
            let (la, lb) := (packetsOf pa, packetsOf pb)
            let bad := fun (t : Nat) (l : List Packet) => l.findIdx? (s.rimPacketBad t)
            match bad a la, bad b lb with
            | some i, _ => (s, ⟨0x0602, 0, i, 0, false⟩)
            | none, some i => (s, ⟨0x0602, 1, i, 0, false⟩)
            | none, none =>
              let st := { st with progA := la, progB := lb, katIn := kin, katExp := kout }
              let s := { s with rim := { s.rim with
                streams := Cells.insert slot st (Cells.erase slot s.rim.streams), rt := Cells.erase slot s.rim.rt } }
              ((s.regsReset (Reg.RIM_STR_STATUS slot).addr 0x20).fw (Fld.RIM_STR_STATUS_SSTATE slot) 1, .done)

/-- The entries of a schedule table. -/
def entriesOf (bs : List Byte) (n : Nat) : List RimEntry :=
  (List.range n).map (fun i =>
    let f := fun o k => fieldOf bs (16 * i + o) k
    ⟨f 0 4, f 4 2, f 6 2, f 8 1, f 9 1 % 4⟩)

/-- The checks of a table in their order (11 R401, R403, R419; 12 R440). -/
def tableBad (s : State) (act frame : Nat) (es : List RimEntry) : Option Ans :=
  let slots := slotsOfTable es
  match s.schedBad act frame es with
  | some (reason, i) => some ⟨0x0601, reason, 0, i, false⟩
  | none =>
    match s.beaconBad frame es with
    | some i => some ⟨0x0601, 9, 0, i, false⟩
    | none =>
      match s.budgetBad slots with
      | some d => let (n, k) := s.budgetSum slots; some ⟨0x0600, d, ceilDiv n k, 0, false⟩
      | none =>
        match [0, 1].find? (fun p => !s.gateFits (s.gateAt p act) p act frame es) with
        | some p => some (.errD 0x0604 p)
        | none => none

/-- The effect of RIM_SCHED_COMMIT: the table read and checked, then its activation awaited (11 R403, R404). -/
def commit (s : State) (p : Packet) (j : Job) (far : List Host.Cell) (ue : Option Nat) : State × Option Ans :=
  let n := p.u16 24
  let frame := p.u32 28
  match s.getGlobal mccUnit (p.u64 16) (16 * n) far ue with
  | (s, .error e) => (s, some (accessAns e))
  | (s, .ok bs) =>
    let es := entriesOf bs n
    let act := if j.late then ceilDiv s.now 10 * 10 else p.execTime.toNat
    match s.tableBad act frame es with
    | some a => (s, some a)
    | none =>
      if j.late && !(p.expert && p.lateOk) then (s, some (.err Sts.timePassed))
      else
        let s := if j.late then s.logLate .mcc p else s
        ({ s with rim := { s.rim with commit := some ⟨act, frame, es⟩ } }, none)

/-- The parameters of RIM_SCHED_COMMIT, EXEC_TIME among them, and the lane's state (11 R404, Table 11-9). A STOPPED lane
takes a commit as Table 11-6 says. -/
def commitCheck (s : State) (p : Packet) : Option Ans :=
  let frame := p.u32 28
  let t := p.execTime.toNat
  let off := match s.rim.sched with
    | some x => decide (t < x.act) || (t - x.act) % x.frame != 0
    | none => false
  firstFail [(s.rimAbsent, .err Sts.unitAbsent),
    (p.u16 24 == 0 || decide (4096 < p.u16 24) || decide (frame < 1000) || decide (100000000 < frame) || frame % 10 != 0 ||
      t == 0 || decide (s.now + 10 ^ 10 < t) || (s.lane == 2 && off), .param),
    (!(s.lane == 1 || s.lane == 2 || s.lane == 4), .refuse 0x0603)]

end State

open State

/-! ## Commands -/

/-- RIM_ENABLE (11 R395 to R397). -/
def execRimEnable (via : Via) (p : Packet) (s : State) : Host.Outcome State Fault Refusal :=
  let (a, b) := (p.u8 16, p.u8 17)
  .next (s.runRow via p (p.base == 0x0600)
    (fun s =>
      let range := decide (32 ≤ a) || decide (32 ≤ b)
      firstFail [(s.rimAbsent, .err Sts.unitAbsent), (range, .param), (!s.tileOn a || !s.tileOn b, .err Sts.unitAbsent),
        (!s.tenantOpen, .refuse 0x0601), (s.lane != 0, .refuse 0x0603),
        (a == b || decide (s.siteOf a < 18) || decide (s.siteOf b < 18), .param),
        (s.ringState a != closed || s.ringState b != closed, .err Sts.ringState)])
    (fun s =>
      let s := (s.fw Fld.RIM_TILES_TILE_A a).fw Fld.RIM_TILES_TILE_B b
      let s := [a, b].foldl (fun s t =>
        (s.pFix (siteIsland (s.siteOf t)) true).pwrSettle) s
      ({ s with rim := { Rim.off with holds := s.rim.holds } }.laneTo 1, some .done)))

/-- RIM_DISABLE (11 R414). -/
def execRimDisable (via : Via) (p : Packet) (s : State) : Host.Outcome State Fault Refusal :=
  .next (s.runRow via p (p.base == 0x0601) (fun s => firstFail [(s.rimAbsent, .err Sts.unitAbsent)])
    (fun s => (s.laneDisable, some .done)))

/-- RIM_STREAM_SET (11 R399, R400). -/
def execRimStreamSet (via : Via) (p : Packet) (far : List Host.Cell) (ue : Option Nat) (s : State) :
    Host.Outcome State Fault Refusal :=
  .next (s.runRow via p (p.base == 0x0602)
    (fun s => firstFail [(s.rimAbsent, .err Sts.unitAbsent), (decide (63 < p.u8 16), .param), (s.lane == 0, .refuse 0x0603),
      (s.slotUsed (p.u8 16), .refuse 0x0602)])
    (fun s => match s.getGlobal mccUnit (p.u64 24) 128 far ue with
      | (s, .error e) => (s, some (accessAns e))
      | (s, .ok d) => let (s, a) := s.streamSet (p.u8 16) d far ue; (s, some a)))

/-- RIM_STREAM_CLEAR (11 R399). -/
def execRimStreamClear (via : Via) (p : Packet) (s : State) : Host.Outcome State Fault Refusal :=
  let slot := p.u8 16
  .next (s.runRow via p (p.base == 0x0603)
    (fun s => firstFail [(s.rimAbsent, .err Sts.unitAbsent), (decide (63 < slot), .param), (s.slotUsed slot, .refuse 0x0602)])
    (fun s =>
      let s := { s with rim := { s.rim with streams := Cells.erase slot s.rim.streams, rt := Cells.erase slot s.rim.rt } }
      (s.regsReset (Reg.RIM_STR_STATUS slot).addr 0x20, some .done)))

/-- RIM_SCHED_COMMIT (11 R403, R404): the MCC stays busy until activation. -/
def execRimSchedCommit (via : Via) (p : Packet) (far : List Host.Cell) (ue : Option Nat) (s : State) :
    Host.Outcome State Fault Refusal :=
  .next (s.runRowT false via p (p.base == 0x0604) (fun s => s.commitCheck p)
    (fun s => match s.jobOf via with
      | some j => s.commit p j far ue
      | none => (s, none)))

/-- RIM_KAT (11 R412, R413): the reply waits for the test. -/
def execRimKat (via : Via) (p : Packet) (s : State) : Host.Outcome State Fault Refusal :=
  let slot := p.u8 16
  .next (s.runRow via p (p.base == 0x0605)
    (fun s => firstFail [(s.rimAbsent, .err Sts.unitAbsent), (decide (63 < slot), .param),
      ((s.rimStream slot).isNone || !(match s.rim.sched with | some x => x.entries.any (fun e => e.slot == slot) | none => false),
        .refuse 0x0603)])
    (fun s => (s.updRt slot (fun x => { x with mccKat := some (s.now + 1000) }), none)))

/-- PLT_GATE_SET (11 R419). -/
def execPltGateSet (via : Via) (p : Packet) (far : List Host.Cell) (ue : Option Nat) (s : State) :
    Host.Outcome State Fault Refusal :=
  let port := p.u8 16
  let n := p.u16 20
  let cycle := p.u32 32
  .next (s.runRow via p (p.base == 0x0611)
    (fun s => firstFail [(!s.fb Fld.CAP_UNITS_PLANT, .err Sts.unitAbsent),
      (decide (1 < port) || (if p.expert then n == 0 || decide (64 < n) || decide (cycle < 1000) || decide (10 ^ 9 < cycle)
        else p.u8 63 != 1), .param)])
    (fun s =>
      let base := if p.execTime = 0 then cycleAfter (s.pltPort port).gate s.now else p.execTime.toNat
      if !p.expert then s.gateSet port ⟨base, 1000000, [(255, 1000000)]⟩
      else match s.getGlobal mccUnit (p.u64 24) (8 * n) far ue with
        | (s, .error e) => (s, some (accessAns e))
        | (s, .ok bs) => match gateOf bs n cycle base with
          | none => (s, some .param)
          | some g => s.gateSet port g))

/-- PLT_FILTER_SET (11 R420). -/
def execPltFilterSet (via : Via) (p : Packet) (s : State) : Host.Outcome State Fault Refusal :=
  let port := p.u8 16
  .next (s.runRow via p (p.base == 0x0612)
    (fun s => firstFail [(!s.fb Fld.CAP_UNITS_PLANT, .err Sts.unitAbsent),
      (decide (1 < port) || decide (p.u16 26 < 64) || decide (1522 < p.u16 26) || decide (4095 < p.u16 24), .param)])
    (fun s =>
      let x := s.pltPort port
      let i := p.u8 17 % 64
      let cir := if p.expert then p.u32 28 else 100000
      let cbs := if p.expert then p.u32 32 else 16384
      let f : PltFilter := ⟨bit (p.u8 17) 7, p.fld 18 6, p.u16 24, p.u16 26, cir, cbs, cbs * 8 * 10 ^ 6, s.now⟩
      (s.setPlt port { x with filters := Cells.insert i f (Cells.erase i x.filters) }, some .done)))

/-! ## The lane's instants -/

/-- TIME_NS reaches ACT (11 R405): the new schedule takes over once no capture before ACT is left. -/
def execScheduleActivation (s : State) : Host.Outcome State Fault Refusal :=
  .next (match s.rim.commit with
    | none => s
    | some x =>
      let waits := s.lane == 2 && (match s.nextCapture with | some (t, _) => decide (t < x.act) | none => false)
      if decide (s.now < x.act) || waits then s
      else if s.lane = 0 || s.lane = 5 || s.lane = 6 then s.rimCommandsEnd
      else (s.activate x).mccReply .done)

/-- The next capture, once its time has come (11 R410). -/
def execRimCapture (s : State) : Host.Outcome State Fault Refusal :=
  .next (match s.nextCapture with
    | some (tc, e) =>
      let past := match s.rim.commit with | some x => decide (x.act ≤ tc) | none => false
      if s.lane = 2 && decide (tc ≤ s.now) && !past then s.capture tc e else s
    | none => s)

/-- The next program of Rim tile A (0) or B (1) starts (11 R406). -/
def execRimComputeStart (tile : Nat) (s : State) : Host.Outcome State Fault Refusal := .next (s.progStart tile)

/-- The program of Rim tile A (0) or B (1) ends (11 R406). -/
def execRimProgramEnd (tile : Nat) (s : State) : Host.Outcome State Fault Refusal := .next (s.progEnd tile)

/-- The next result staged, t_RIM_STAGE before its release (11 R411). `ue`: its read is uncorrectable. -/
def execRimStage (ue : Bool) (s : State) : Host.Outcome State Fault Refusal :=
  .next (match s.rim.runs.find? (fun r => r.staged.isNone) with
    | some r => if r.tr ≤ s.now + rimStage then s.stage_ r ue else s
    | none => s)

/-- The next release instant (11 R407). `jit` is the lateness observed in ns. -/
def execRimRelease (jit : Nat) (s : State) : Host.Outcome State Fault Refusal :=
  .next (match s.rim.runs.find? (fun r => !r.out) with
    | some r => if r.staged.isSome && decide (r.tr ≤ s.now) then s.release r jit else s
    | none => s)

/-- The lane returns to ACTIVE at a frame boundary (11 R414). -/
def execRimLaneResume (s : State) : Host.Outcome State Fault Refusal := .next s.resume

/-- RIM_STRs_JIT_MAX read: its value answers, and it clears (11 R407, 00 R13). -/
def execRimJitMaxRead (slot : Nat) (s : State) : Host.Outcome State Fault Refusal :=
  let r := Reg.RIM_STR_JIT_MAX slot
  .next (if slot < 64 then (s.emit (.barRead r.addr (BitVec.ofNat 64 (s.rd r)))).regReset r else s)

/-! ## The plant port's events -/

/-- A frame received on a plant port, from the destination address to the data (11 R409, R420, R421). -/
def execInputFrame (port : Nat) (frame : List Byte) (s : State) : Host.Outcome State Fault Refusal :=
  .next (if 1 < port then s
    else match s.pltPolice port frame with
      | (s, some plain) => s.frameIn port plain
      | (s, none) => s)

/-- A received 802.1AS message (11 R422, R423): a Pdelay_Req (kind 0) is answered; any other carries what the servo makes of
it: the offset, its rate in ppb and whether the instance is synchronised. -/
def execPtpFrame (port kind : Nat) (offset rate : Int) (locked : Bool) (s : State) : Host.Outcome State Fault Refusal :=
  .next (if 1 < port || !bit (s.fd Fld.PLT_STATUS_LINK_UP) port then s
    else match s.asMeter port with
      | (s, false) => s
      | (s, true) =>
        let s := s.bumpWrap (Reg.PLT_PORT_RX_FRAMES port) 64 1
        if kind = 0 then (s.ptpSend port 1).ptpSend port 2
        else
          let s := (s.wr Reg.PLT_PTP_OFFSET (ofInt 64 offset)).fw Fld.PLT_PTP_STATUS_RATE_PPB (ofInt 24 rate)
          let s := (s.fbw Fld.PLT_PTP_STATUS_LOCKED locked).fw Fld.PLT_PTP_STATUS_SLAVE_PORT port
          let limit := 10 * s.fd Fld.PLT_CFG_DRIFT_LIMIT
          if limit < rate.natAbs && !s.fb Fld.PLT_PTP_STATUS_DRIFT_ALARM then
            (s.fbw Fld.PLT_PTP_STATUS_DRIFT_ALARM true).troubleRule 6 423 0 87 port
          else if 2 * rate.natAbs < limit then s.fbw Fld.PLT_PTP_STATUS_DRIFT_ALARM false
          else s)

/-- A Pdelay_Req is due on a port (11 R417, R418): it starts where class 6 may. -/
def execPdelayReq (port : Nat) (s : State) : Host.Outcome State Fault Refusal :=
  .next (if decide (port ≤ 1) && s.classSixMay port then s.ptpSend port 0 else s)

/-- A cycle of a gate list starts: a new list takes over at its base time (11 R419). -/
def execGateCycleStart (port : Nat) (s : State) : Host.Outcome State Fault Refusal :=
  let x := s.pltPort port
  .next (match x.gateNext with
    | some g => if decide (port ≤ 1) && decide (g.base ≤ s.now) then
        s.setPlt port { x with gate := some g, gateNext := none } else s
    | none => s)

/-- The PLT_LISTEN_ONLY strap changes (11 R416). -/
def execPltListenOnlyChange (level : Bool) (s : State) : Host.Outcome State Fault Refusal :=
  .next (if s.pins.listenOnly = level then s
    else (({ s with pins := { s.pins with listenOnly := level } }).fbw Fld.PLT_STATUS_LISTEN_ONLY level).troubleRule 6 416 0 87 (b2n level))

/-- A plant port gains or loses link (11 R414). -/
def execPltLinkChange (port : Nat) (up : Bool) (s : State) : Host.Outcome State Fault Refusal :=
  .next (if 1 < port then s else s.fw Fld.PLT_STATUS_LINK_UP (setBits (s.fd Fld.PLT_STATUS_LINK_UP) port 1 (b2n up)))

end Sys2Proof.Machine
end

