-- ==== Sys2Proof/Machine/Pairs.lean ====
section
/-! DEFINITION. The commands, messages and timers of Pairing (12). A message row carries the 32 bytes received; bytes that
spell another message change nothing. -/

namespace Sys2Proof.Machine
namespace State

/-- Whether the variant has Pairing. -/
def pairAbsent (s : State) : Bool := !s.fb Fld.CAP_UNITS_PAIR

/-! ## Messages (12 Table 12-3) -/

/-- Whether 32 bytes are a message with a right CRC and a defined TYPE (12 R432). -/
def pairValid (m : List Byte) : Bool :=
  m.length == 32 && fieldOf m 28 4 == crc32c (m.take 28) && decide (1 ≤ fieldOf m 0 1) && decide (fieldOf m 0 1 ≤ 7)

/-- A received message: discarded and counted where it is invalid; its effect where it is of the type meant. Any valid message
confirms the Pairing link (12 R436). -/
def pairMsg (s : State) (m : List Byte) (type : Nat) (f : State → State) : State :=
  if !pairValid m then s.bump Reg.PAIR_MSG_ERR_CNT 1
  else if fieldOf m 0 1 != type then s
  else f { s with pair := { s.pair with lastLink := s.now } }

/-- HELLO sent. -/
def helloSend (s : State) : State :=
  s.pairSend 0x01 0 (s.fd Fld.PAIR_CFG_PAIR_ID + s.pairPos * 2 ^ 16 + s.fd Fld.ATY_FAB_STATUS_NUMERICS_LEVEL * 2 ^ 24 +
    s.ownMod * 2 ^ 32 + s.fuse.serial * 2 ^ 48)

/-- Equal positions: every service held in RESYNC, with the record (12 R433). -/
def posConflict (s : State) : State :=
  if s.fb Fld.PAIR_STATUS_POS_CONFLICT then s
  else
    let s := (s.fbw Fld.PAIR_STATUS_POS_CONFLICT true).troubleRule 7 433 1 89 0
    s.svcsOn.foldl (fun s n => (s.updSvc n (fun x => { x with swap := none, give := none, stop := none })).roleTo n 1) s

/-- A HELLO of the pair's other module (12 R427, R433, R434). -/
def helloIn (s : State) (m : List Byte) : State :=
  if !s.fb Fld.PAIR_STATUS_CONFIGURED || fieldOf m 2 2 != s.fd Fld.PAIR_CFG_PAIR_ID ||
      fieldOf m 6 2 != s.fd Fld.PAIR_CFG_PARTNER_MOD then s
  else
    let s := (s.wr Reg.PAIR_PARTNER_SERIAL (fieldOf m 8 8)).fbw Fld.PAIR_STATUS_PAIR_LINK_DOWN false
    let s := s.fbw Fld.PAIR_STATUS_LEVEL_DIFF (fieldOf m 5 1 != s.fd Fld.ATY_FAB_STATUS_NUMERICS_LEVEL)
    let s := if fieldOf m 4 1 = s.pairPos then s.posConflict else s.fbw Fld.PAIR_STATUS_POS_CONFLICT false
    s.cmpAll

/-- Services defined and named by a message of a configured pair. -/
def svcOn (s : State) (n : Nat) : Bool := s.fb Fld.PAIR_STATUS_CONFIGURED && decide (n < 64) && s.svcRole n != 0

/-- A CLAIM message (12 R439, R443): with SWAP the ACTIVE module hands over (R460). -/
def pairClaimIn (s : State) (n c : Nat) (swap : Bool) (eff : Nat) : State :=
  if !s.svcOn n then s
  else
    let was := s.svcRole n
    let gives := swap && was == 3 && decide (s.claim n < c) && (s.svc n).give.isNone && !s.svcStep n
    let s := s.learn n c (if swap then eff else 0)
    if gives then s.swapGive n eff false else s

/-- A HANDOVER (12 R460): the instant for a swap this module began, or the partner's own start of a swap. -/
def handoverIn (s : State) (n eff : Nat) : State :=
  if !s.svcOn n then s
  else match (s.svc n).swap with
    | some (e, none) => if e = eff then s.updSvc n (fun x => { x with swap := some (e, some s.now) }) else s
    | some _ => s
    | none => if s.svcRole n = 2 && s.swapOk n 3 && (s.failCause n).isNone then s.swapTake n eff (some s.now) else s

/-- The partner's verdict (12 R449). -/
def katIn (s : State) (n : Nat) (pass : Bool) : State :=
  if s.svcOn n && (s.svc n).waiting then (s.updSvc n (fun x => { x with peerVerdict := some pass })).judge n else s

/-- FAIL (12 R454). -/
def failIn (s : State) (mask : Nat) : State :=
  let s := s.setPartner 2
  (s.svcsOn.filter (bit mask)).foldl takeover s

/-! ## The fabric path (12 R436) -/

/-- A load of a word of the partner's status page. -/
def partnerLoad (s : State) (off : Nat) : State :=
  let q := Req.make (s.fd Fld.PAIR_CFG_PARTNER_MOD * 2 ^ 52 + 5 * 2 ^ 48 + off) s.srcMod 0x35 8 opLoad none []
  if (s.issueCheck q).isSome then s else s.sendFar q

/-- SP_PAIR_HEALTH as loaded: HEARTBEAT, HEALTHY and CLAIM_GEN. -/
def partnerHealth (s : State) (v : Nat) : State :=
  let beat := bits v 32 32
  let healthy := bit v 31
  let gen := bits v 0 16
  let old := s.pair.peerBeat
  let s := { s with pair := { s.pair with peerBeat := beat } }
  let s :=
    if healthy && decide (old < beat) then
      (({ s with pair := { s.pair with lastFab := s.now } }).fbw Fld.PAIR_STATUS_FABRIC_OK true).setPartner 1
    else if !healthy then s.svcsOn.foldl takeover (s.setPartner 2)
    else s
  if s.pair.peerGen = some gen then s
  else
    let s := { s with pair := { s.pair with peerGen := some gen } }
    (rangeFrom 0 32).foldl (fun s i => if s.svcOn (2 * i) || s.svcOn (2 * i + 1) then s.partnerLoad (0x100 + 8 * i) else s) s

/-- One SP_CLAIMn word as loaded (12 R435, R439, R454). -/
def partnerClaim (s : State) (n w : Nat) : State :=
  if !s.svcOn n then s
  else
    let role := bits w 29 3
    let s := if 1 ≤ role && role ≤ 3 then s.learn n (bits w 0 29) 0 else s
    if role = 4 then s.takeover n else s.peerRoleTo n role

/-! ## Beacons (12 R440, R441) -/

/-- The body of a CLAIM_BEACON. -/
def beaconBody (s : State) : List Byte :=
  let l := s.rimSvcs
  leBytes 2 (s.fd Fld.PAIR_CFG_PAIR_ID) ++ leBytes 1 s.pairPos ++ leBytes 1 l.length ++ leBytes 8 (s.fuse.serial) ++
    leBytes 4 0 ++ l.foldl (fun bs n => bs ++ leBytes 1 (s.fd (Fld.PAIR_SVC_STATUS_ID n)) ++ leBytes 1 (s.svcRole n) ++
      leBytes 2 0 ++ leBytes 4 (s.claim n)) []

/-- The body of an ALARM. -/
def alarmBody (s : State) (code : Nat) : List Byte :=
  leBytes 2 (s.fd Fld.PAIR_CFG_PAIR_ID) ++ leBytes 1 s.pairPos ++ leBytes 1 code ++ leBytes 12 0

/-- The result index last released of a service. -/
def svcK (s : State) (n : Nat) : Nat := match s.svcSlot n with | some k => (s.rimRt k).lastK | none => 0

/-- The alarm due at a beacon instant: a waiting code, or CODE 1 at every 16th instant of HOLD. -/
def alarmDue (s : State) (n : Nat) : Option Nat :=
  match (s.svc n).alarms with
  | c :: _ => some c
  | [] => if s.svcCmp n = 3 && s.pair.beacons % 16 == 0 then some 1 else none

/-- A beacon instant at `t`. -/
def beaconAt (s : State) (t : Nat) : State :=
  let slots := match s.rim.sched with | some x => slotsOfTable x.entries | none => []
  let ports := s.beaconPorts slots
  let time := s.plantTime t (s.rd Reg.PLT_PTP_OFFSET)
  let l := s.rimSvcs
  let s := l.foldl (fun s n => if s.svcRole n = 3 then s else s.updSvc n (fun x => { x with alarms := [] })) s
  let s := match l.find? (fun n => (s.alarmDue n).isSome && s.outputRule n t (s.svcK n)) with
    | some n =>
      let h : RimHead := ⟨3, s.fd (Fld.PAIR_SVC_STATUS_ID n), 0, s.claim n, s.svcK n, time, 0, 0⟩
      let s := s.rimSend ports s.pair.da s.pair.vlan h (s.alarmBody ((s.alarmDue n).getD 1))
      s.updSvc n (fun x => { x with alarms := x.alarms.drop 1 })
    | none => s.rimSend ports s.pair.da s.pair.vlan ⟨2, 0, 0, 0, s.pair.beacons, time, 0, 0⟩ s.beaconBody
  { s with pair := { s.pair with beacons := s.pair.beacons + 1 } }

/-! ## Swaps asked for by the host (12 R460) -/

/-- The first index of a service whose release lies at least t_SWAP_LEAD ahead; of a STEP service the next step. -/
def swapIndex (s : State) (n : Nat) : Nat :=
  if s.svcStep n then (s.svc n).step
  else match s.svcSlot n, s.rim.sched with
    | some k, some x =>
      match x.entries.find? (fun e => e.slot == k), s.rimStream k with
      | some e, some st =>
        let first := x.act + e.tcap
        let from_ := s.now + 2000 - (first + e.rel)
        first / st.cadence + ceilDiv from_ st.cadence
      | _, _ => 0
    | _, _ => 0

end State

open State

/-! ## Events of the Pairing link -/

/-- The Pairing link synchronises (12 R432). -/
def execPairLinkUp (s : State) : Host.Outcome State Fault Refusal :=
  .next (if s.pairAbsent then s else ((s.fbw Fld.PAIR_STATUS_LINK_UP true).helloSend).cmpAll)

/-- The Pairing link loses synchronisation (12 R463). -/
def execPairingLinkSyncLost (s : State) : Host.Outcome State Fault Refusal :=
  .next ((s.fbw Fld.PAIR_STATUS_LINK_UP false).cmpAll)

/-- HELLO received. -/
def execHello (m : List Byte) (s : State) : Host.Outcome State Fault Refusal := .next (s.pairMsg m 1 (·.helloIn m))

/-- HEALTH received (12 R436). -/
def execHealth (m : List Byte) (s : State) : Host.Outcome State Fault Refusal :=
  .next (s.pairMsg m 2 (fun s => s.setPartner (if bit (fieldOf m 8 1) 0 then 1 else 2)))

/-- DIGEST received (12 R446). -/
def execDigest (m : List Byte) (s : State) : Host.Outcome State Fault Refusal :=
  let n := fieldOf m 1 1
  .next (s.pairMsg m 3 (fun s =>
    if s.svcOn n then
      (s.updSvc n (fun x => { x with peer := x.peer ++ [(fieldOf m 8 8, fieldOf m 16 8, bit (fieldOf m 2 1) 0)] })).compareAll n
    else s))

/-- CLAIM received on the Pairing link (12 R439, R443, R460). -/
def execPairClaim (m : List Byte) (s : State) : Host.Outcome State Fault Refusal :=
  .next (s.pairMsg m 4 (fun s => s.pairClaimIn (fieldOf m 1 1) (fieldOf m 4 4) (bit (fieldOf m 2 1) 0) (fieldOf m 8 8)))

/-- HANDOVER received (12 R460). -/
def execHandover (m : List Byte) (s : State) : Host.Outcome State Fault Refusal :=
  .next (s.pairMsg m 5 (fun s => s.handoverIn (fieldOf m 1 1) (fieldOf m 8 8)))

/-- KAT_RESULT received (12 R449). -/
def execKatResult (m : List Byte) (s : State) : Host.Outcome State Fault Refusal :=
  .next (s.pairMsg m 6 (fun s => s.katIn (fieldOf m 1 1) (bit (fieldOf m 2 1) 0)))

/-- FAIL received (12 R454). -/
def execFail (m : List Byte) (s : State) : Host.Outcome State Fault Refusal :=
  .next (s.pairMsg m 7 (fun s => if s.fb Fld.PAIR_STATUS_CONFIGURED then s.failIn (fieldOf m 4 8) else s))

/-- A message with a wrong CRC or an undefined TYPE (12 R432). -/
def execInvalidPairingMessage (m : List Byte) (s : State) : Host.Outcome State Fault Refusal :=
  .next (if pairValid m then s else s.bump Reg.PAIR_MSG_ERR_CNT 1)

/-! ## Timers -/

/-- HELLO is due (12 R432). -/
def execHelloPeriod (s : State) : Host.Outcome State Fault Refusal := .next (if s.pairAbsent then s else s.helloSend)

/-- HEALTH is due (12 R436): HEARTBEAT counts while the module is healthy. A PAIR_SWAP whose service this module no longer
holds ACTIVE is answered. -/
def execHealthPeriod (s : State) : Host.Outcome State Fault Refusal :=
  .next (if s.pairAbsent then s
    else
      let x := s.pair
      let s := { s with pair := { x with heartbeat := if x.healthy then (x.heartbeat + 1) % 2 ^ 32 else x.heartbeat } }
      let s := s.pairSend 0x02 0 (s.pair.heartbeat * 2 ^ 16 + b2n s.pair.healthy * 2 ^ 48 + s.pair.claimGen * 2 ^ 64)
      match s.mcc.cur with
      | some j => if j.begun && j.pkt.base == 0x0703 && s.svcRole (j.pkt.u8 16) != 3 then s.mccReply (.refuse 0x0704) else s
      | none => s)

/-- CLAIM messages are repeated (12 R432). -/
def execClaimRepeat (s : State) : Host.Outcome State Fault Refusal :=
  .next (s.svcsOn.foldl (fun s n => match (s.svc n).swap with
    | some (eff, _) => s.claimSend n true eff
    | none => s.claimSend n false 0) s)

/-- No valid message for t_PL_DOWN (12 R434). -/
def execPairLinkDown (s : State) : Host.Outcome State Fault Refusal :=
  .next (if s.fb Fld.PAIR_STATUS_CONFIGURED && decide (s.pair.lastLink + 9000 ≤ s.now) then
      (s.fbw Fld.PAIR_STATUS_PAIR_LINK_DOWN true).cmpAll
    else s)

/-- The fabric poll (12 R436). -/
def execFabricPoll (s : State) : Host.Outcome State Fault Refusal :=
  .next (if s.fb Fld.PAIR_STATUS_CONFIGURED then s.partnerLoad 0x080 else s)

/-- A load of the partner's status page returns (12 R436): its status, offset and 8 bytes. One that faults or times out
confirms nothing. -/
def execFabricPollResult (status off value : Nat) (s : State) : Host.Outcome State Fault Refusal :=
  .next (if !s.fb Fld.PAIR_STATUS_CONFIGURED || status != Sts.ok then s
    else if off = 0x080 then s.partnerHealth value
    else if 0x100 ≤ off && off < 0x200 then
      let n := (off - 0x100) / 8 * 2
      (s.partnerClaim n (bits value 0 32)).partnerClaim (n + 1) (bits value 32 32)
    else s)

/-- The fabric path is silent (12 R436). -/
def execFabricPathSilent (s : State) : Host.Outcome State Fault Refusal :=
  .next (if s.pair.lastFab + 2000000 ≤ s.now then s.fbw Fld.PAIR_STATUS_FABRIC_OK false else s)

/-- Both paths silent for t_SILENT (12 R456). -/
def execSilenceExpiry (s : State) : Host.Outcome State Fault Refusal :=
  .next (if s.fb Fld.PAIR_STATUS_CONFIGURED && decide (s.pair.lastLink + 2000000 ≤ s.now) &&
      decide (s.pair.lastFab + 2000000 ≤ s.now) then
    let s := (s.fbw Fld.PAIR_STATUS_FABRIC_OK false).setPartner 3
    s.svcsOn.foldl (fun s n =>
      if s.mayTake n then s.becomeActive n (s.now + 2000 * s.fd Fld.PAIR_CFG_BEACON_US) true else s) s
    else s)

/-- A beacon instant (12 R440, R441). -/
def execClaimBeaconRelease (s : State) : Host.Outcome State Fault Refusal :=
  .next (match s.nextBeacon with
    | some t => if t ≤ s.now then s.beaconAt t else s
    | none => s)

/-- A partner's beacon or ALARM on the plant port (12 R439). -/
def execClaimBeaconReceive (port : Nat) (frame : List Byte) (s : State) : Host.Outcome State Fault Refusal :=
  .next (if 1 < port then s
    else match s.pltPolice port frame with
      | (s, some plain) => s.frameIn port plain
      | (s, none) => s)

/-- The comparison deadline of a result (12 R446): an index that lacks a digest is compared no more. -/
def execDigestDeadline (svc index : Nat) (s : State) : Host.Outcome State Fault Refusal :=
  .next (if !s.svcOn svc || s.svcStep svc then s
    else match s.svcSlot svc with
      | none => s
      | some slot =>
        match s.rim.runs.find? (fun r => r.slot == slot && r.k == index) with
        | some r =>
          if r.tr ≤ s.now + 40 then s.updSvc svc (fun x => { x with
            own := x.own.filter (fun e => e.1 != index), peer := x.peer.filter (fun e => e.1 != index) })
          else s
        | none => s)

/-- The partner's verdict is not known in time (12 R449). -/
def execKatVerdictTimeout (svc : Nat) (s : State) : Host.Outcome State Fault Refusal :=
  let x := s.svc svc
  let cadence := match s.svcSlot svc with
    | some k => (match s.rimStream k with | some st => st.cadence | none => 0)
    | none => 0
  .next (if s.svcOn svc && x.waiting && x.peerVerdict.isNone && decide (x.since + 10 * cadence ≤ s.now) then
      (s.updSvc svc (fun x => { x with waiting := false })).fw (Fld.PAIR_SVC_STATUS_CMP svc) 1
    else s)

/-- The digest of the next step of a STEP service (12 R445). -/
def State.stepDigest (s : State) (svc value : Nat) : State :=
  if 64 ≤ svc || s.svcRole svc = 0 || !s.svcStep svc then s
  else
    let k := (s.svc svc).step
    let s := s.updSvc svc (fun x => { x with step := k + 1 })
    let s := s.ownDigest svc k (value % 2 ^ 64) false []
    let s := (s.releaseRoles svc s.now k).prefRaise svc
    s.autoSwap svc (k + 1)

/-- PAIR_SVCn_DIGEST written (12 R445): the next step of a STEP service. -/
def execStepDigestWrite (svc value : Nat) (s : State) : Host.Outcome State Fault Refusal :=
  .next (s.stepDigest svc value)

/-! ## Commands (12 R461, R462) -/

/-- PAIR_CONFIG (12 R427). -/
def execPairConfig (via : Via) (p : Packet) (s : State) : Host.Outcome State Fault Refusal :=
  let us := if p.expert then p.u16 20 else 100
  let off := p.u32 24
  .next (s.runRow via p (p.base == 0x0700)
    (fun s => firstFail [(s.pairAbsent, .err Sts.unitAbsent),
      (p.u16 16 == 0 || decide (4094 < p.u16 18) || decide (us < 10) || decide (1000 < us) || off % 10 != 0 ||
        decide (2 ^ 24 ≤ off / 10), .param),
      (s.fb Fld.PAIR_STATUS_CONFIGURED, .refuse 0x0701)])
    (fun s =>
      let s := s.wr Reg.PAIR_CFG (p.u16 16 * 2 ^ 48 + p.u16 18 * 2 ^ 36 + us * 2 ^ 24 + off / 10)
      let s := s.fbw Fld.PAIR_STATUS_CONFIGURED true
      ({ s with pair := { s.pair with da := p.fld 28 6, vlan := p.u16 34, lastLink := s.now, lastFab := s.now
                                      peerBeat := 0, peerGen := none } }, some .done)))

/-- PAIR_SVC_SET (12 R428, R437, R458). -/
def execPairSvcSet (via : Via) (p : Packet) (s : State) : Host.Outcome State Fault Refusal :=
  let n := p.u8 16
  let step := p.u8 17 == 1
  .next (s.runRow via p (p.base == 0x0701)
    (fun s => firstFail [(s.pairAbsent, .err Sts.unitAbsent),
      (decide (63 < n) || decide (1 < p.u8 17), .param),
      (s.svcRole n != 0, .refuse 0x0702)])
    (fun s =>
      let pinned := if p.expert then bit (p.u8 19) 1 else !step
      let s := s.setSvc n .start
      let s := s.wr (Reg.PAIR_SVC_STATUS n) (2 ^ 27 + b2n step * 2 ^ 26 + b2n pinned * 2 ^ 25 + p.u8 19 % 2 * 2 ^ 24 + p.u8 18)
      let s := (s.wr (Reg.PAIR_SVC_CLAIM n) s.pairPos).wr (Reg.PAIR_SVC_PEER_CLAIM n) 0
      let s := (s.setRole n 1).claimSend n false 0
      let s := match s.svcSlot n with
        | some k => if step then s else s.askKat k (s.now + 1000)
        | none => s
      (s.pairCheck.cmpUpdate n, some .done)))

/-- PAIR_SVC_CLEAR (12 R462). -/
def execPairSvcClear (via : Via) (p : Packet) (s : State) : Host.Outcome State Fault Refusal :=
  let n := p.u8 16
  .next (s.runRow via p (p.base == 0x0702)
    (fun s => firstFail [(s.pairAbsent, .err Sts.unitAbsent), (decide (63 < n), .param), (s.svcRole n == 3, .refuse 0x0703)])
    (fun s =>
      let s := (s.setRole n 0).setSvc n .start
      let s := ((s.regReset (Reg.PAIR_SVC_STATUS n)).regReset (Reg.PAIR_SVC_CLAIM n)).regReset (Reg.PAIR_SVC_PEER_CLAIM n)
      (s.pairCheck, some .done)))

/-- PAIR_SWAP (12 R460): HANDOVER opens the swap; the reply waits for the EFFECTIVE release. -/
def execPairSwap (via : Via) (p : Packet) (s : State) : Host.Outcome State Fault Refusal :=
  let n := p.u8 16
  .next (s.runRow via p (p.base == 0x0703)
    (fun s => firstFail [(s.pairAbsent, .err Sts.unitAbsent), (decide (63 < n), .param),
      (s.svcRole n != 3 || (s.svc n).give.isSome || (s.svc n).swap.isSome || !s.swapOk n 2, .refuse 0x0704)])
    (fun s => (s.swapGive n (s.swapIndex n) true, none)))

/-- PAIR_HOLD_RELEASE (12 R450, R462): a test under R448, and comparison again under R449. -/
def execPairHoldRelease (via : Via) (p : Packet) (s : State) : Host.Outcome State Fault Refusal :=
  let n := p.u8 16
  .next (s.runRow via p (p.base == 0x0704)
    (fun s => firstFail [(s.pairAbsent, .err Sts.unitAbsent), (decide (63 < n), .param),
      (s.svcRole n == 0 || s.svcCmp n != 3, .refuse 0x0705)])
    (fun s =>
      let s := (s.fw (Fld.PAIR_SVC_STATUS_CMP n) 2).fw (Fld.PAIR_SVC_STATUS_MISMATCH_RUN n) 0
      let s := s.updSvc n (fun x => { x with
        waiting := true, since := s.now, test := none, verdict := none, peerVerdict := none, alarms := x.alarms ++ [2] })
      let s := match s.svcSlot n with
        | some k => s.askKat k (s.now + 1000)
        | none => s
      (s, some .done)))

end Sys2Proof.Machine
end

