-- ==== Sys2Proof/Machine/Digest.lean ====
section
/-! DEFINITION. The digest and the signature check that 14 and 18 name: SHA-384 as FIPS 180-4 defines it and ECDSA on P-384 as
FIPS 186-5 defines it (assumption 5). -/

namespace Sys2Proof.Machine

/-! ## SHA-384 -/

/-- The round constants: the first 64 bits of the fractions of the cube roots of the first eighty primes. -/
def shaK : List Nat :=
  [0x428a2f98d728ae22, 0x7137449123ef65cd, 0xb5c0fbcfec4d3b2f, 0xe9b5dba58189dbbc, 0x3956c25bf348b538, 0x59f111f1b605d019,
    0x923f82a4af194f9b, 0xab1c5ed5da6d8118, 0xd807aa98a3030242, 0x12835b0145706fbe, 0x243185be4ee4b28c, 0x550c7dc3d5ffb4e2,
    0x72be5d74f27b896f, 0x80deb1fe3b1696b1, 0x9bdc06a725c71235, 0xc19bf174cf692694, 0xe49b69c19ef14ad2, 0xefbe4786384f25e3,
    0x0fc19dc68b8cd5b5, 0x240ca1cc77ac9c65, 0x2de92c6f592b0275, 0x4a7484aa6ea6e483, 0x5cb0a9dcbd41fbd4, 0x76f988da831153b5,
    0x983e5152ee66dfab, 0xa831c66d2db43210, 0xb00327c898fb213f, 0xbf597fc7beef0ee4, 0xc6e00bf33da88fc2, 0xd5a79147930aa725,
    0x06ca6351e003826f, 0x142929670a0e6e70, 0x27b70a8546d22ffc, 0x2e1b21385c26c926, 0x4d2c6dfc5ac42aed, 0x53380d139d95b3df,
    0x650a73548baf63de, 0x766a0abb3c77b2a8, 0x81c2c92e47edaee6, 0x92722c851482353b] ++
  [0xa2bfe8a14cf10364, 0xa81a664bbc423001, 0xc24b8b70d0f89791, 0xc76c51a30654be30, 0xd192e819d6ef5218, 0xd69906245565a910,
    0xf40e35855771202a, 0x106aa07032bbd1b8, 0x19a4c116b8d2d0c8, 0x1e376c085141ab53, 0x2748774cdf8eeb99, 0x34b0bcb5e19b48a8,
    0x391c0cb3c5c95a63, 0x4ed8aa4ae3418acb, 0x5b9cca4f7763e373, 0x682e6ff3d6b2b8a3, 0x748f82ee5defb2fc, 0x78a5636f43172f60,
    0x84c87814a1f0ab72, 0x8cc702081a6439ec, 0x90befffa23631e28, 0xa4506cebde82bde9, 0xbef9a3f7b2c67915, 0xc67178f2e372532b,
    0xca273eceea26619c, 0xd186b8c721c0c207, 0xeada7dd6cde0eb1e, 0xf57d4f7fee6ed178, 0x06f067aa72176fba, 0x0a637dc5a2c898a6,
    0x113f9804bef90dae, 0x1b710b35131c471b, 0x28db77f523047d84, 0x32caab7b40c72493, 0x3c9ebe0a15c9bebc, 0x431d67c49c100d4c,
    0x4cc5d4becb3e42b6, 0x597f299cfc657e2a, 0x5fcb6fab3ad6faec, 0x6c44198c4a475817]

/-- The first state: the first 64 bits of the fractions of the square roots of the ninth to sixteenth primes. -/
def shaStart : List Nat :=
  [0xcbbb9d5dc1059ed8, 0x629a292a367cd507, 0x9159015a3070dd17, 0x152fecd8f70e5939, 0x67332667ffc00b31, 0x8eb44a8768581511,
    0xdb0c2e0d64f98fa7, 0x47b5481dbefa4fa4]

/-- A 64-bit word turned right. -/
def rotr64 (x k : Nat) : Nat := (x / 2 ^ k + x * 2 ^ (64 - k)) % 2 ^ 64

/-- The eighty words of a block of 128 bytes. -/
def shaWords (block : List Byte) : List Nat :=
  let first := ((List.range 16).map (fun i => ofBE ((block.drop (8 * i)).take 8))).reverse
  ((List.range 64).foldl (fun w _ =>
    let a := w.getD 1 0
    let b := w.getD 14 0
    let x := rotr64 a 19 ^^^ rotr64 a 61 ^^^ (a / 2 ^ 6)
    let y := rotr64 b 1 ^^^ rotr64 b 8 ^^^ (b / 2 ^ 7)
    (x + w.getD 6 0 + y + w.getD 15 0) % 2 ^ 64 :: w) first).reverse

/-- One round. -/
def shaRound (s : List Nat) (kw : Nat × Nat) : List Nat :=
  match s with
  | [a, b, c, d, e, f, g, h] =>
    let x := rotr64 e 14 ^^^ rotr64 e 18 ^^^ rotr64 e 41
    let ch := (e &&& f) ^^^ ((2 ^ 64 - 1 - e) &&& g)
    let t := h + x + ch + kw.1 + kw.2
    let y := rotr64 a 28 ^^^ rotr64 a 34 ^^^ rotr64 a 39
    let maj := (a &&& b) ^^^ (a &&& c) ^^^ (b &&& c)
    [(t + y + maj) % 2 ^ 64, a, b, c, (d + t) % 2 ^ 64, e, f, g]
  | l => l

/-- A block taken into the state. -/
def shaBlock (s : List Nat) (block : List Byte) : List Nat :=
  List.zipWith (fun a b => (a + b) % 2 ^ 64) s ((shaK.zip (shaWords block)).foldl shaRound s)

/-- The padded message in blocks. -/
def shaBlocks (bs : List Byte) : List (List Byte) :=
  let n := (bs.length + 17 + 127) / 128
  let m := bs ++ [0x80#8] ++ List.replicate (128 * n - bs.length - 17) 0 ++ (leBytes 16 (8 * bs.length)).reverse
  (List.range n).map (fun i => (m.drop (128 * i)).take 128)

/-- The 48 bytes of the digest. -/
def sha384Bytes (bs : List Byte) : List Byte :=
  (((shaBlocks bs).foldl shaBlock shaStart).take 6).flatMap (fun x => (leBytes 8 x).reverse)

/-- SHA-384, as the number that its 48 bytes spell in a field (00 R12). -/
def sha384 (bs : List Byte) : Nat := ofLE (sha384Bytes bs)

/-! ## ECDSA on P-384 -/

/-- The field, the constant of the curve `y ^ 2 = x ^ 3 - 3 x + b`, its base point and that point's order. -/
def p384 : Nat := 2 ^ 384 - 2 ^ 128 - 2 ^ 96 + 2 ^ 32 - 1
def p384B : Nat :=
  0xb3312fa7e23ee7e4988e056be3f82d19181d9c6efe8141120314088f5013875ac656398d8a2ed19d2a85c8edd3ec2aef
def p384G : Nat × Nat :=
  (0xaa87ca22be8b05378eb1c71ef320ad746e1d3b628ba79b9859f741e082542a385502f25dbf55296c3a545e3872760ab7,
    0x3617de4a96262c6f5d9e98bf9292dc29f8f41dbd289a147ce9da3113b5f0b8c00a60b1ce1d7e819d7a431d7c90ea0e5f)
def p384N : Nat :=
  0xffffffffffffffffffffffffffffffffffffffffffffffffc7634d81f4372ddf581a0db248b0a77aecec196accc52973

/-- `x ^ e` modulo `m`, for an exponent of 384 bits. -/
def powMod (m x e : Nat) : Nat :=
  (List.range 384).foldl (fun r i => if bit e (383 - i) then r * r % m * x % m else r * r % m) (1 % m)

/-- The inverse modulo a prime. -/
def invMod (m x : Nat) : Nat := powMod m x (m - 2)

/-- The line of slope `num / den` through two points gives their sum. -/
def p384Chord (num den x1 x2 y1 : Nat) : Nat × Nat :=
  let l := num * invMod p384 den % p384
  let x := (l * l + 2 * p384 - x1 - x2) % p384
  (x, (l * (x1 + p384 - x) + p384 - y1) % p384)

/-- The sum of two points; none is the point at infinity. -/
def p384Add : Option (Nat × Nat) → Option (Nat × Nat) → Option (Nat × Nat)
  | none, q => q
  | p, none => p
  | some (x1, y1), some (x2, y2) =>
    if x1 != x2 then some (p384Chord (y2 + p384 - y1) (x2 + p384 - x1) x1 x2 y1)
    else if y1 != y2 || y1 == 0 then none
    else some (p384Chord (3 * x1 * x1 + p384 - 3) (2 * y1) x1 x1 y1)

/-- A multiple of a point. -/
def p384Mul (k : Nat) (p : Option (Nat × Nat)) : Option (Nat × Nat) :=
  (List.range 384).foldl (fun r i => if bit k (383 - i) then p384Add (p384Add r r) p else p384Add r r) none

/-- Whether 97 bytes are an uncompressed point of the curve. -/
def p384Key (key : List Byte) : Option (Nat × Nat) :=
  let x := ofBE ((key.drop 1).take 48)
  let y := ofBE ((key.drop 49).take 48)
  if key.length == 97 && key.headD 0 == 4 && decide (x < p384) && decide (y < p384) &&
      y * y % p384 == (x * x * x + (p384 - 3) * x + p384B) % p384 then some (x, y) else none

/-- Whether a signature, r then s, is that of the bytes under a public key. -/
def ecdsaOk (key signed sig : List Byte) : Bool :=
  let r := ofBE (sig.take 48)
  let s := ofBE ((sig.drop 48).take 48)
  match p384Key key with
  | none => false
  | some q =>
    let w := invMod p384N s
    let u := ofBE (sha384Bytes signed) * w % p384N
    let v := r * w % p384N
    r != 0 && decide (r < p384N) && s != 0 && decide (s < p384N) &&
      (match p384Add (p384Mul u (some p384G)) (p384Mul v (some q)) with
      | some (x, _) => x % p384N == r
      | none => false)

end Sys2Proof.Machine
end

