-- ==== Sys2Proof/Machine/BootOps.lean ====
section
/-! DEFINITION. The flash (18): its sectors, manifests and their checks, the commit journal, staging records, the configuration
store, and the registers that report them. -/

namespace Sys2Proof.Machine

/-- STS_UPD_MANIFEST (18 Table 18-7). -/
def stsUpdManifest : Nat := 0x0B00
/-- STS_UPD_INCOMPLETE. -/
def stsUpdIncomplete : Nat := 0x0B01
/-- STS_UPD_HASH. -/
def stsUpdHash : Nat := 0x0B02
/-- STS_UPD_FLASH. -/
def stsUpdFlash : Nat := 0x0B03

/-! ## Manifests (18 R593, R594) -/

/-- A component of a manifest: TYPE, OFFSET, SIZE and its digest. -/
structure Comp where
  type : Nat
  off : Nat
  size : Nat
  hash : Nat
  deriving DecidableEq, Repr

/-- IMAGE_SECTORS of a manifest. -/
def manSectors (m : List Byte) : Nat := fieldOf m 20 2

/-- The components of a manifest. -/
def manComps (m : List Byte) : List Comp :=
  (List.range (min 16 (fieldOf m 22 2))).map (fun c =>
    ⟨fieldOf m (192 + 64 * c) 1, fieldOf m (196 + 64 * c) 4, fieldOf m (200 + 64 * c) 4, fieldOf m (208 + 64 * c) 48⟩)

/-- Whether bytes of a list are zero. -/
def zeroAt (m : List Byte) (off n : Nat) : Bool := fieldOf m off n == 0

/-- Whether the fields of a manifest and the placement of its components keep R593. -/
def manShape (m : List Byte) : Bool :=
  let cs := manComps m
  let n := manSectors m
  let types := cs.map (·.type)
  let apart := fun (a b : Comp) => decide (a.off + a.size ≤ b.off) || decide (b.off + b.size ≤ a.off)
  fieldOf m 0 4 == 0x4B474D31 && fieldOf m 4 2 == 1 && decide (fieldOf m 6 1 ≤ 1) && decide (fieldOf m 7 1 < 4) &&
    decide (fieldOf m 12 1 ≤ 128) && fieldOf m 13 1 != 0 && fieldOf m 14 1 != 0 && decide (1 ≤ n) && decide (n ≤ 480) &&
    decide (1 ≤ fieldOf m 22 2) && decide (fieldOf m 22 2 ≤ 16) && zeroAt m 24 40 && zeroAt m 161 31 && zeroAt m 1216 2784 &&
    (List.range (fieldOf m 22 2)).all (fun c => zeroAt m (193 + 64 * c) 3 && zeroAt m (204 + 64 * c) 4) &&
    cs.all (fun c => decide (1 ≤ c.type) && decide (c.type ≤ 8) && c.off % 4096 == 0 && decide (4096 ≤ c.off) &&
      decide (c.off + c.size ≤ n * 65536)) &&
    (List.range cs.length).all (fun i => (List.range i).all (fun j => match cs[i]?, cs[j]? with
      | some a, some b => apart a b && a.type != b.type
      | _, _ => true)) &&
    [1, 2, 3, 4, 5, 7].all types.contains && (!bit (fieldOf m 7 1) 0 || types.contains 6)

/-- RST_IMG_LEVELS of a manifest. -/
def manLevels (m : List Byte) : Nat := fieldOf m 12 1 * 2 ^ 24 + fieldOf m 13 1 * 2 ^ 16 + fieldOf m 14 1 * 2 ^ 8

/-! ## Records of the staging area (18 R603) -/

/-- The 32-bit words of a sector's bytes. -/
def wordsOf : List Byte → List Nat
  | a :: b :: c :: d :: l => ofLE [a, b, c, d] :: wordsOf l
  | _ => []

/-- How many words are used: up to the last one that is not erased. -/
def usedWords (ws : List Nat) : Nat := (ws.foldl (fun (n, i) w => (if w = 0xFFFFFFFF then n else i + 1, i + 1)) (0, 0)).1

namespace State

/-- Reset and boot state changed. -/
def updRst (s : State) (f : Rst → Rst) : State := { s with rst := f s.rst }

/-! ## Sectors (18 R592) -/

/-- The bytes of a sector that differ from its erased end. -/
def sector (s : State) (n : Nat) : List Byte :=
  match Cells.find n s.rst.flash with
  | some l => l
  | none => (List.range 65536).map (Config.flashByte n)

/-- Bytes of the flash. -/
def flashRead (s : State) (n off len : Nat) : List Byte :=
  let l := (s.sector n).drop off
  l.take len ++ List.replicate (len - l.length) 0xFF

/-- Bytes that may cross sectors, from an offset of a first sector. -/
def flashBytes (s : State) (first off len : Nat) : List Byte :=
  ((List.range (ceilDiv (off % 65536 + len) 65536)).map (fun i => s.flashRead (first + off / 65536 + i) 0 65536)).flatten.drop
    (off % 65536) |>.take len

/-- A sector replaced. -/
def setSector (s : State) (n : Nat) (l : List Byte) : State :=
  s.updRst (fun x => { x with flash := (n, l) :: x.flash.filter (fun e => e.1 != n) })

/-- Bytes programmed at an offset of a sector. -/
def flashProgram (s : State) (n off : Nat) (bs : List Byte) : State :=
  let l := s.sector n
  s.setSector n (l.take off ++ List.replicate (off - l.length) 0xFF ++ bs ++ l.drop (off + bs.length))

/-! ## The checks of a manifest (18 Table 18-3) -/

/-- The first check 0x0001 to 0x0005 that a manifest fails. -/
def manFail (s : State) (m : List Byte) : Option Nat :=
  let key := (m.drop 64).take 97
  let step := s.fuse.stepMajor * 16 + s.fuse.stepMinor
  if !manShape m then some 1
  else if sha384 key != Config.synKeyHash (fieldOf m 6 1) || bit s.sec.otp.revoke (fieldOf m 6 1) then some 2
  else if !ecdsaOk key (m.take 4000) ((m.drop 4000).take 96) then some 3
  else if !bit (fieldOf m 7 1) (if s.fuse.video then 0 else 1) || decide (step < fieldOf m 15 1) then some 4
  else if fieldOf m 12 1 < s.sec.otp.rollback then some 5
  else none

/-- The first component of a manifest whose bytes in a region, from its first sector, fail their digest. Video microcode is
read only where the variant has the engine, with `all` everywhere. -/
def compFail (s : State) (first : Nat) (m : List Byte) (all : Bool) : Option (Nat × Comp) :=
  ((manComps m).zipIdx.find? (fun (c, _) =>
    (all || c.type != 6 || s.fuse.video) && sha384 (s.flashBytes first c.off c.size) != c.hash)).map (fun (c, i) => (i, c))

/-- The manifest of the image region. -/
def imageManifest (s : State) : List Byte := s.flashRead 32 0 4096

/-! ## Staging (18 R601 to R603) -/

/-- The staging records, in program order: whether STAGED, and the piece. -/
def stageRecords (s : State) : List (Bool × Nat) :=
  (wordsOf (s.sector 4)).filterMap (fun w =>
    if bits w 16 8 != 0 then none
    else if w / 2 ^ 24 = 0x5A then some (true, w % 65536)
    else if w / 2 ^ 24 = 0xA5 then some (false, w % 65536)
    else none)

/-- The slots of the record area in use. -/
def recordsUsed (s : State) : Nat := usedWords (wordsOf (s.sector 4))

/-- The pieces that are staged. -/
def stagedPieces (s : State) : List Nat :=
  s.stageRecords.foldl (fun l r => if r.1 then (if l.contains r.2 then l else r.2 :: l) else l.filter (· != r.2)) []

/-- The staged manifest, if piece 0 is staged. -/
def stagedManifest (s : State) : Option (List Byte) :=
  if s.stagedPieces.contains 0 then some (s.flashRead 512 0 4096) else none

/-- The first piece that is not staged. -/
def missingPiece (s : State) : Option Nat :=
  let l := s.stagedPieces
  match s.stagedManifest with
  | none => some 0
  | some m => (List.range (manSectors m)).find? (fun p => !l.contains p)

/-- A record appended. -/
def appendRecord (s : State) (staged : Bool) (p : Nat) : State :=
  s.flashProgram 4 (4 * s.recordsUsed) (leBytes 4 ((if staged then 0x5A else 0xA5) * 2 ^ 24 + p))

/-! ## The journal (18 Table 18-5) -/

/-- A journal header: SECTORS and MAN_HASH with their CRC, COMPLETE erased, entries erased. -/
def journalBytes (sectors hash : Nat) : List Byte :=
  let h := leBytes 4 0x4A524E31 ++ leBytes 2 sectors ++ leBytes 2 0 ++ leBytes 48 hash
  h ++ leBytes 4 (crc32c h)

/-- Whether the journal's header is valid. -/
def journalOk (s : State) : Bool :=
  let h := s.flashRead 3 0 60
  fieldOf h 0 4 == 0x4A524E31 && fieldOf h 56 4 == crc32c (h.take 56)

/-- Whether the journal is incomplete. -/
def journalOpen (s : State) : Bool := s.journalOk && s.flashRead 3 60 1 == [0xFF]

/-- Journal SECTORS. -/
def journalSectors (s : State) : Nat := if s.journalOk then fieldOf (s.flashRead 3 0 60) 4 2 else 0

/-- Entry i of the journal. -/
def journalEntry (s : State) (i : Nat) : Nat := fieldOf (s.flashRead 3 (256 + i) 1) 0 1

/-- The first sector that is not done. -/
def journalNext (s : State) : Option Nat := (List.range s.journalSectors).find? (fun i => s.journalEntry i != 0x1F)

/-- Whether the staging region is what an incomplete journal was begun for (18 R607). -/
def stagingMatches (s : State) : Bool :=
  let m := s.flashRead 512 0 4096
  sha384 m == fieldOf (s.flashRead 3 0 60) 8 48 && (s.compFail 512 m true).isNone

/-! ## The configuration store (18 R610) -/

/-- The bytes of a slot: CFG_VERSION, SEQ and the records, with the header's CRC taken over the header without it and the
records. -/
def cfgBytes (version seq : Nat) (records : List Byte) : List Byte :=
  let a := leBytes 4 0x43464731 ++ leBytes 2 version ++ leBytes 2 (records.length / 64) ++ leBytes 4 seq
  let z := List.replicate 48 (0 : Byte)
  a ++ leBytes 4 (crc32c (a ++ z ++ records)) ++ z ++ records

/-- A slot that is valid: CFG_VERSION, SEQ, and the records' bytes. -/
def cfgSlot (s : State) (n : Nat) : Option (Nat × Nat × List Byte) :=
  let h := s.flashRead n 0 64
  let k := fieldOf h 6 2
  if fieldOf h 0 4 = 0x43464731 && decide (k ≤ 1023) then
    let rs := s.flashRead n 64 (64 * k)
    if crc32c (h.take 12 ++ h.drop 16 ++ rs) = fieldOf h 12 4 then some (fieldOf h 4 2, fieldOf h 8 4, rs) else none
  else none

/-- The current slot: its number, CFG_VERSION, SEQ and records. -/
def cfgCurrent (s : State) : Option (Nat × Nat × Nat × List Byte) :=
  match s.cfgSlot 0, s.cfgSlot 1 with
  | some a, some b => if a.2.1 < b.2.1 then some (1, b) else some (0, a)
  | some a, none => some (0, a)
  | none, some b => some (1, b)
  | none, none => none

/-- A slot written with SEQ one higher than the current one's; the other slot takes it. -/
def cfgNext (s : State) (version : Nat) (records : List Byte) : Nat × List Byte :=
  match s.cfgCurrent with
  | some (n, _, seq, _) => (1 - n, cfgBytes version (seq + 1) records)
  | none => (0, cfgBytes version 0 records)

/-- Whether an image reads and writes the current store's version (18 Table 18-3, check 0x0006). -/
def cfgFits (s : State) (m : List Byte) : Bool :=
  match s.cfgCurrent with
  | some (_, v, _) => decide (fieldOf m 18 2 ≤ v) && decide (v ≤ fieldOf m 16 2)
  | none => true

/-- The packets of records. -/
def packetsOf (bs : List Byte) : List Packet :=
  (List.range (bs.length / 64)).map (fun i => Packet.ofBits (BitVec.ofNat 512 (ofLE ((bs.drop (64 * i)).take 64))))

/-! ## Registers (18 R616) -/

/-- Whether a commit is in progress. -/
def committing (s : State) : Bool := match s.rst.job with | some j => j.kind == 1 | none => false

/-- RST_UPD_STATUS.STATE. -/
def updState (s : State) : Nat :=
  if s.committing then 3
  else if s.journalOpen then 4
  else if s.fb Fld.SEC_STATUS_UPDATE_PENDING_BOOT then 5
  else if s.stagedPieces.isEmpty then 0
  else if s.missingPiece.isNone then 2
  else 1

/-- The registers that show the flash brought up to date. -/
def updShow (s : State) : State :=
  let (v, l, n) := match s.stagedManifest with
    | some m => (fieldOf m 8 4, manLevels m, manSectors m)
    | none => (0, 0, 0)
  let s := (s.wr Reg.RST_STG_VERSION v).wr Reg.RST_STG_LEVELS l
  let k := s.stagedPieces.length
  let s := (s.fw Fld.RST_UPD_STATUS_STATE s.updState).fw Fld.RST_UPD_STATUS_STAGED k
  let s := (s.fw Fld.RST_UPD_STATUS_TOTAL n).fw Fld.RST_UPD_POS_SECTORS s.journalSectors
  let s := s.fw Fld.RST_UPD_POS_DONE ((List.range s.journalSectors).filter (fun i => s.journalEntry i == 0x1F)).length
  let (cv, cn) := match s.cfgCurrent with
    | some (_, v, _, rs) => (v, rs.length / 64)
    | none => (0, 0)
  let s := (s.fw Fld.RST_CFG_STATUS_CFG_VERSION cv).fw Fld.RST_CFG_STATUS_RECORDS cn
  (s.fbw Fld.SEC_STATUS_UPDATE_STAGED (k != 0)).fbw Fld.SEC_STATUS_COMMIT s.committing

/-! ## The loader's work -/

/-- The loader starts on the flash: its first pulse begins, unless a power-fail warning is in force (18 R609). -/
def flashStart (s : State) (j : FlashJob) : State := (s.updRst (fun x => { x with job := some { j with pulse := !s.pfw } })).updShow

/-- Whether a flash pulse is in progress (17 R579). -/
def pulsing (s : State) : Bool := match s.rst.job with | some j => j.pulse | none => false

/-- What the loader does next after a pulse. -/
inductive Next where
  | go (j : FlashJob)
  | done (written : Nat)
  | bad (sector : Nat)
  deriving DecidableEq, Repr

/-- The sectors that a job rewrites, from the first not done on. -/
def commitNext (s : State) (j : FlashJob) : Next :=
  match s.journalNext with
  | some i => .go { j with step := 1, sector := i, tries := 0 }
  | none => .go { j with step := 5 }

/-- The effect of the pulse that ends (18 R601, R606, R611): `good` is what its read-back finds. -/
def pulseEnd (s : State) (j : FlashJob) (good : Bool) : State × Next :=
  match j.kind, j.step with
  | 0, 0 => (s.setSector 4 [], .go { j with step := 1 })
  | 0, 1 => (s.setSector (512 + j.index) [], .go { j with step := 2 })
  | 0, 2 =>
    let s := s.setSector (512 + j.index) j.data
    (s, if good then .go { j with step := 3 } else .bad (512 + j.index))
  | 0, _ => (s.appendRecord true j.index, .done 0)
  | 1, 0 => let s := s.setSector 3 j.data; (s, s.commitNext j)
  | 1, 1 => (s.flashProgram 3 (256 + j.sector) [0x7F], .go { j with step := 2 })
  | 1, 2 => (s.setSector (32 + j.sector) [], .go { j with step := 3 })
  | 1, 3 =>
    let s := s.setSector (32 + j.sector) (s.sector (512 + j.sector))
    if good then (s, .go { j with step := 4 })
    else if 2 ≤ j.tries then (s, .bad j.sector)
    else (s, .go { j with step := 2, tries := j.tries + 1 })
  | 1, 4 =>
    let s := s.flashProgram 3 (256 + j.sector) [0x1F]
    (s, s.commitNext { j with index := j.index + 1 })
  | 1, 5 => (s.flashProgram 3 60 [0x00], .go { j with step := 6 })
  | 1, _ => (s.setSector 4 [], .done j.index)
  | 2, 0 => (s.setSector j.index [], .go { j with step := 1 })
  | 2, _ => (s.setSector j.index j.data, .done 0)
  | _, _ => (s.setSector 4 [], .done 0)

end State
end Sys2Proof.Machine
end

