-- ==== Sys2Proof/Machine/Video.lean ====
section
/-! DEFINITION. The video engine's commands and events (13). What a decoder or an encoder makes of a stream is the coding
standards' (assumption 60); everything after decoding is computed. -/

namespace Sys2Proof.Machine

/-! ## From picture to tensor (13 R476), exactly -/

/-- `(K_R, K_G, K_B)` of a matrix, in ten-thousandths (the standards that Table 13-3 names; assumption 61). -/
def lumaWeights (m : Nat) : Int × Int × Int :=
  if m = 1 then (2990, 5870, 1140) else if m = 3 then (2627, 6780, 593) else (2126, 7152, 722)

/-- A rational brought into [0, 255]. -/
def clamp255 (r : Rat) : Rat := if r < 0 then 0 else if 255 < r then 255 else r

/-- The nearest integer, ties to even. -/
def rneRat (r : Rat) : Int :=
  let f := r.floor
  let d := r - f
  if d < 1 / 2 then f else if 1 / 2 < d then f + 1 else if f % 2 = 0 then f else f + 1

/-- An integer brought into `lo`..`hi`, as an index. -/
def clampIdx (lo hi : Nat) (i : Int) : Nat := if i < lo then lo else if hi < i then hi else i.toNat

/-- A luma sample, in units of 8-bit code. -/
def lumaAt (p : Config.VidPic) (ten : Bool) (x y : Nat) : Rat :=
  (p.luma.getD (y * p.width + x) 0 : Rat) / (if ten then 4 else 1)

/-- A chroma plane at a luma position, by bilinear interpolation: samples sited at even columns and half-way between two rows
(type 0). -/
def chromaAt (p : Config.VidPic) (plane : List Nat) (ten : Bool) (x y : Nat) : Rat :=
  if plane.isEmpty then 128
  else
    let cw := (p.width + 1) / 2
    let ch := (p.height + 1) / 2
    let at_ := fun (i j : Int) => (plane.getD (clampIdx 0 (ch - 1) j * cw + clampIdx 0 (cw - 1) i) 0 : Rat) / (if ten then 4 else 1)
    let x0 : Int := (x / 2 : Nat)
    let fx : Rat := if x % 2 = 0 then 0 else 1 / 2
    let sy : Rat := ((y : Rat) - 1 / 2) / 2
    let y0 := sy.floor
    let fy := sy - y0
    (1 - fx) * (1 - fy) * at_ x0 y0 + fx * (1 - fy) * at_ (x0 + 1) y0 + (1 - fx) * fy * at_ x0 (y0 + 1) + fx * fy * at_ (x0 + 1) (y0 + 1)

/-- rgb at a luma position: channel 0 R, 1 G, 2 B, 3 the full-range luma. -/
def rgbAt (p : Config.VidPic) (ten full : Bool) (matrix x y ch : Nat) : Rat :=
  let l := lumaAt p ten x y
  let y' := if full then l else (l - 16) * 255 / 219
  let c := fun (plane : List Nat) => let v := chromaAt p plane ten x y; if full then v - 128 else (v - 128) * 255 / 224
  let (kr, kg, kb) := lumaWeights matrix
  let (r, g, b) : Rat × Rat × Rat := (kr / 10000, kg / 10000, kb / 10000)
  let red := y' + 2 * (1 - r) * c p.cr
  let blue := y' + 2 * (1 - b) * c p.cb
  clamp255 (match ch with
    | 0 => red
    | 2 => blue
    | 1 => (y' - r * red - b * blue) / g
    | _ => y')

/-- The fields of an output descriptor (13 Table 13-3). -/
structure VidDesc where
  dest : Nat
  pitch : Nat
  fmt : Nat
  order : Nat
  rot : Nat
  mirror : Bool
  range : Nat
  matrix : Nat
  cropX : Nat
  cropY : Nat
  cropW : Nat
  cropH : Nat
  sclW : Nat
  sclH : Nat
  scale : List Nat
  bias : List Nat
  arch : Nat
  deriving DecidableEq, Repr

/-- A descriptor read. -/
def VidDesc.ofBytes (bs : List Byte) : VidDesc :=
  let f := fieldOf bs
  ⟨f 0 8, f 8 4, f 12 1, f 13 1, f 14 1 % 4, bit (f 14 1) 2, bits (f 15 1) 4 2, f 15 1 % 16, f 16 2, f 18 2, f 20 2, f 22 2,
    f 24 2, f 26 2, [f 28 4, f 32 4, f 36 4], [f 40 4, f 44 4, f 48 4], f 52 8⟩

/-- Channels of the tensor. -/
def VidDesc.chans (d : VidDesc) : Nat := if d.order = 2 then 1 else 3

/-- Bytes of an element. -/
def VidDesc.elem (d : VidDesc) : Nat := if d.fmt = 3 then 2 else 1

/-- The pixel pitch (05 R167). -/
def VidDesc.pix (d : VidDesc) : Nat :=
  let n := d.chans * d.elem
  if n ≤ 1 then 1 else if n ≤ 2 then 2 else if n ≤ 4 then 4 else 8

/-- Whether the rotation swaps width and height. -/
def rotSwaps (rot : Nat) : Bool := rot % 2 == 1

/-- Width and height of the tensor. -/
def VidDesc.size (d : VidDesc) : Nat × Nat := if rotSwaps d.rot then (d.sclH, d.sclW) else (d.sclW, d.sclH)

/-- The row pitch in force. -/
def VidDesc.row (d : VidDesc) : Nat := if d.pitch = 0 then 64 * ceilDiv (d.size.1 * d.pix) 64 else d.pitch

/-- Whether a scaling ratio `a ÷ b` lies from 1/2 to 8. -/
def ratioOk (a b : Nat) : Bool := decide (b ≤ 2 * a) && decide (a ≤ 8 * b)

/-- Whether a descriptor breaks 13 Table 13-3 or 05 R167 whatever the picture. -/
def VidDesc.bad (d : VidDesc) : Bool :=
  ([3, 5, 6, 15].contains d.fmt == false) || decide (2 < d.order) || d.range == 3 || decide (3 < d.matrix) || d.sclW == 0 ||
    d.sclH == 0 || decide (4096 < d.sclW) || decide (4096 < d.sclH) || d.dest % 64 != 0 ||
    (d.pitch != 0 && (d.pitch % 64 != 0 || decide (d.pitch < d.size.1 * d.pix))) ||
    (d.cropW != 0 && d.cropH != 0 && !(ratioOk d.cropW d.sclW && ratioOk d.cropH d.sclH))

/-- The crop rectangle in a picture: left, top, width, height. -/
def VidDesc.crop (d : VidDesc) (p : Config.VidPic) : Nat × Nat × Nat × Nat :=
  if d.cropW = 0 || d.cropH = 0 then (0, 0, p.width, p.height) else (d.cropX, d.cropY, d.cropW, d.cropH)

/-- The position in the scaled picture that an output position shows: rotation undone, then the mirror. -/
def VidDesc.unrotate (d : VidDesc) (ox oy : Nat) : Nat × Nat :=
  let (ux, uy) := match d.rot with
    | 0 => (ox, oy)
    | 1 => (oy, d.sclH - 1 - ox)
    | 2 => (d.sclW - 1 - ox, d.sclH - 1 - oy)
    | _ => (d.sclW - 1 - oy, ox)
  (if d.mirror then d.sclW - 1 - ux else ux, uy)

/-- One axis of the scaling: the first tap, its weight's complement and the box size. -/
def axis (crop0 cropN scl u : Nat) : Int × Rat × Nat :=
  let r : Rat := (cropN : Rat) / scl
  let s : Rat := crop0 + (u + 1 / 2) * r - 1 / 2
  let x0 := s.floor
  (x0, (rneRat (256 * (s - x0)) : Rat) / 256, max 1 (cropN / scl))

/-- The value x of an output element before its scale and bias, times 65,536. -/
def VidDesc.sample (d : VidDesc) (p : Config.VidPic) (ten : Bool) (ox oy ch : Nat) : Int :=
  let (ux, uy) := d.unrotate ox oy
  let (cx, cy, cw, chh) := d.crop p
  let (x0, fx, kx) := axis cx cw d.sclW ux
  let (y0, fy, ky) := axis cy chh d.sclH uy
  let full := if d.range = 0 then p.full else d.range == 2
  let matrix := if d.matrix = 0 then p.matrix else d.matrix
  let chan := if d.order = 2 then 3 else if d.order = 1 then 2 - ch else ch
  let pos := fun (i j : Int) => rgbAt p ten full matrix (clampIdx cx (cx + cw - 1) i) (clampIdx cy (cy + chh - 1) j) chan
  let b := fun (px py : Int) =>
    ((List.range ky).foldl (fun acc (j : Nat) => (List.range kx).foldl (fun acc (i : Nat) =>
      acc + pos (px - ((kx - 1) / 2 : Nat) + i) (py - ((ky - 1) / 2 : Nat) + j)) acc) (0 : Rat)) / (kx * ky : Nat)
  rneRat (65536 * ((1 - fx) * (1 - fy) * b x0 y0 + fx * (1 - fy) * b (x0 + 1) y0 + (1 - fx) * fy * b x0 (y0 + 1) +
    fx * fy * b (x0 + 1) (y0 + 1)))

/-- One output element: scaled, biased and rounded once. -/
def VidDesc.elemAt (d : VidDesc) (p : Config.VidPic) (ten : Bool) (ox oy ch : Nat) : Nat :=
  let i := d.sample p ten ox oy ch
  let x : Val := .fin (decide (i < 0)) i.natAbs (-16)
  (convertVal .rne d.fmt ((x.mul (readElem 1 (d.scale.getD ch 0))).add (readElem 1 (d.bias.getD ch 0)))).1

/-- One row of the tensor. -/
def VidDesc.rowBytes (d : VidDesc) (p : Config.VidPic) (ten : Bool) (oy : Nat) : List Byte :=
  (List.range d.size.1).foldl (fun bs ox =>
    bs ++ (List.range d.chans).foldl (fun bs c => bs ++ leBytes d.elem (d.elemAt p ten ox oy c)) [] ++
      List.replicate (d.pix - d.chans * d.elem) 0) []

/-! ## The archive copy (13 R477) -/

/-- The pitch of the archive copy. -/
def archPitch (x : VidSess) : Nat := 64 * ceilDiv (x.maxW * (if x.depth = 10 then 2 else 1)) 64

/-- A sample as NV12 or P010 holds it: a 10-bit sample stands in the upper bits of its 16-bit word. -/
def archSample (x : VidSess) (v : Nat) : List Byte := if x.depth = 10 then leBytes 2 (v * 64) else leBytes 1 v

/-- The rows of the archive copy with their offsets. -/
def archRows (x : VidSess) (p : Config.VidPic) : List (Nat × List Byte) :=
  let pitch := archPitch x
  let mid := if x.depth = 10 then 512 else 128
  let cw := (p.width + 1) / 2
  let luma := (List.range p.height).map (fun y =>
    (y * pitch, (List.range p.width).foldl (fun bs i => bs ++ archSample x (p.luma.getD (y * p.width + i) 0)) []))
  let chroma := (List.range ((p.height + 1) / 2)).map (fun y =>
    ((x.maxH + y) * pitch, (List.range cw).foldl (fun bs i =>
      bs ++ archSample x (p.cb.getD (y * cw + i) mid) ++ archSample x (p.cr.getD (y * cw + i) mid)) []))
  luma ++ chroma

/-! ## Rate control -/

/-- The bucket and the offset after a coded picture (13 R485): whether the cap was exceeded. -/
def VidSess.rate (x : VidSess) (bits_ : Nat) : VidSess × Bool :=
  if x.cap = 0 then (x, false)
  else
    let size := x.cap * x.window * x.num
    let b := x.bucket + bits_ * x.num - x.cap * 1000 * x.den
    let d := if 3 * size < 4 * b then min (x.d + 1) (x.qMax - x.cq) else if 2 * b < size then x.d - 1 else x.d
    ({ x with bucket := b, d := d }, decide (size < b))

namespace State

/-! ## Bytes at any address -/

/-- Bytes read at an address of any alignment, through the words that hold them. -/
def getBytes (s : State) (unit addr n : Nat) (far : List Host.Cell) (ue : Option Nat) :
    State × Except (Nat × Nat) (List Byte) :=
  let a := addr / 4 * 4
  let z := 4 * ceilDiv (addr + n - a) 4
  if n = 0 then (s, .ok [])
  else match s.getGlobal unit a z far ue with
    | (s, .error e) => (s, .error e)
    | (s, .ok bs) => (s, .ok ((bs.drop (addr - a)).take n))

/-- Bytes written at an address of any alignment; the other bytes of the first and last word keep their values. -/
def putBytes (s : State) (unit addr : Nat) (bs : List Byte) (far : List Host.Cell) : State × Option (Nat × Nat) :=
  let a := addr / 4 * 4
  let z := 4 * ceilDiv (addr + bs.length - a) 4
  if bs.isEmpty then (s, none)
  else if a = addr && z = bs.length then s.putGlobal unit addr bs
  else match s.getGlobal unit a z far none with
    | (s, .error e) => (s, some e)
    | (s, .ok old) => s.putGlobal unit a (old.take (addr - a) ++ bs ++ old.drop (addr - a + bs.length))

/-- Rows written one after the other. -/
def putRows (unit base : Nat) (far : List Host.Cell) : List (Nat × List Byte) → State → State × Option (Nat × Nat)
  | [], s => (s, none)
  | (o, bs) :: l, s => match s.putBytes unit (base + o) bs far with
    | (s, none) => putRows unit base far l s
    | r => r

/-! ## Sessions -/

/-- Whether the variant has the engine with a core in service and clocked. -/
def vidPresent (s : State) : Bool :=
  s.fb Fld.CAP_UNITS_VIDEO && (List.range 5).any (fun c => bit (s.rd Reg.RAS_CORE_STATE) (8 + c) && s.islandOn (82 + c))

/-- The unit identifier of a core. -/
def coreUnit (c : Nat) : Nat := 0x28 + c

/-- PSZ of a session's pictures (13 R468). -/
def vidPsz (maxW maxH b : Nat) : Nat := ceilDiv (ceilDiv maxW 64 * ceilDiv maxH 64 * (6144 * b + 256)) 65536 * 65536

/-- Whether a pool fails a condition of 13 R468. -/
def poolBad (s : State) (x : VidSess) : Bool :=
  let k := memKey x.pool
  let slots := if x.enc then 6 else if x.codec = 2 then 10 else 17
  spaceOf x.pool != 0 || !s.isOwn (modOf x.pool) || x.pool % 65536 != 0 || !s.runAllowed (coreUnit 0) k x.poolBytes ||
    s.vid.sess.any (fun e => decide (memKey e.2.pool < k + x.poolBytes) && decide (k < memKey e.2.pool + e.2.poolBytes)) ||
    decide (x.poolBytes < slots * vidPsz x.maxW x.maxH (if x.depth = 10 then 2 else 1))

/-- The session that a packet describes; none for an undefined PROFILE or a fixed field that is not 0 (13 Table 13-5). -/
def vidSessOf (s : State) (p : Packet) : Option VidSess :=
  let mk := fun (ring live enc codec w h num den depth gir cq qMax window cap gop : Nat) =>
    (⟨ring, live == 1, enc == 1, codec, p.u64 32, p.u64 40, w, h, num, den, depth, gir, cq, qMax, window, cap, gop,
      4 * den * 10 ^ 9, s.now, 0, 0, 0, 0, false, []⟩ : VidSess)
  let ring := p.u8 28
  if p.expert then
    some (mk ring (p.u8 19) (p.u8 17) (p.u8 18) (p.u16 20) (p.u16 22) (p.u16 24) (p.u16 26) (p.u8 29) (p.u8 30) (p.u8 48)
      (p.u8 49) (p.u16 50) (p.u32 52) (p.u16 56))
  else if p.fld 17 3 != 0 || p.u64 20 != 0 || p.u8 29 != 0 || p.u8 30 != 0 || p.fld 48 10 != 0 then none
  else match p.u8 63 with
    | 1 => some (mk ring 1 0 1 1920 1080 30 1 8 0 0 0 0 0 0)
    | 2 => some (mk ring 1 0 0 1920 1080 30 1 8 0 0 0 0 0 0)
    | 3 => some (mk ring 0 1 2 1920 1080 30 1 8 0 128 200 1000 8000 300)
    | _ => none

/-- Whether a session's parameters are outside 13 Table 13-6. -/
def vidParamBad (p : Packet) (x : VidSess) : Bool :=
  decide (127 < p.u8 16) || (p.expert && (decide (1 < p.u8 17) || decide (1 < p.u8 19))) || decide (2 < x.codec) ||
    decide (x.maxW < 64) || decide (x.maxH < 64) || decide (4096 < x.maxW) || decide (2304 < x.maxH) ||
    decide (8912896 < x.maxW * x.maxH) || x.num == 0 || x.den == 0 || decide (240 * x.den < x.num) || decide (3 < x.ring) ||
    (x.depth != 8 && x.depth != 10) || x.gir == 1 || (!x.enc && x.gir != 0) ||
    (x.enc && (decide (x.qMax < x.cq) || (x.codec != 2 && decide (51 < x.qMax)) ||
      (x.cap != 0 && (decide (x.window < 100) || decide (10000 < x.window)))))

/-- The effect of VID_SESSION_OPEN (13 R468 to R470). -/
def vidOpen (s : State) (n : Nat) (x : VidSess) : State × Ans :=
  let s := s.setVidSess n x
  let v := 1 * 2 ^ 30 + b2n x.live * 2 ^ 29 + b2n x.enc * 2 ^ 28 + x.codec * 2 ^ 26 + x.ring * 2 ^ 24 + loadMega x.load
  let s := (s.wr (Reg.VID_SESS_STATUS n) v).regReset (Reg.VID_SESS_PICS n)
  ((s.regReset (Reg.VID_SESS_OVER n)).vidSync, .done)

/-! ## Starting a command (13 R471, R472, R480) -/

/-- The status line's stores (13 R478): the token on the line, or on a store of its own to TOKEN_ADDR. -/
def vidStatusReqs (s : State) (unit : Nat) (p : Packet) (line : List Byte) : List Req :=
  let tok : Option Tok := if bit (p.u16 56) 15 then some ⟨p.u16 56 % 32, p.u16 58, 0⟩ else none
  let far := p.base == 0x0810 && p.u64 48 != 0
  let status := if p.base = 0x0810 then p.u64 40 else p.u64 48
  let one := Req.make status s.srcMod unit 64 opStore (if far then none else tok) line
  if far && tok.isSome then [one, Req.make (p.u64 48) s.srcMod unit 0 opStore tok []] else [one]

/-- The status line (13 Table 13-4). -/
def vidLine (p : Packet) (status flags time pics count q : Nat) : List Byte :=
  leBytes 4 p.seq.toNat ++ leBytes 2 status ++ leBytes 2 flags ++ leBytes 8 time ++ leBytes 4 pics ++ leBytes 4 count ++
    leBytes 1 q ++ List.replicate 39 0

/-- A command ended with a status, its line and token delivered, and its reply (13 R478). -/
def vidEnd (s : State) (j : VidJob) (a : Ans) (flags count q : Nat) : State :=
  let unit := coreUnit (j.cores.headD 0)
  let flags := flags + b2n j.past * 32
  let pics := match s.vidSess j.sess with | some x => x.pics | none => 0
  let s := (s.ownOps (s.vidStatusReqs unit j.job.pkt (vidLine j.job.pkt a.status flags s.now pics count q))).1
  s.vidReply j { a with r0 := flags }

/-- The words that hold a run of bytes. -/
def wordRun (addr n : Nat) : Nat × Nat := (addr / 4 * 4, 4 * ceilDiv (addr + n - addr / 4 * 4) 4)

/-- The first extent that 08 R304 refuses: address, length, and whether it is written. -/
def vidExtents (s : State) (unit : Nat) : List (Nat × Nat × Bool) → Option (Nat × Nat)
  | [] => none
  | (a, n, w) :: l =>
    let (a, n) := wordRun a n
    (s.runCheck unit a n (if w then opStore else opLoad)).or (s.vidExtents unit l)

/-- Bytes of an input picture row by layout. -/
def inRowBytes (fmt w : Nat) : Nat := if fmt = 1 then 2 * w else if fmt = 2 then 4 * w else w

/-- Rows of the input region. -/
def inRows' (fmt h : Nat) : Nat := if fmt = 2 then h else h + (h + 1) / 2

/-- The extents of a command beside its descriptor's, in the order of 13 R480. -/
def vidRuns (x : VidSess) (p : Packet) (d : VidDesc) : List (Nat × Nat × Bool) :=
  if x.enc then
    [(p.u64 24, p.u32 32 * inRows' (p.u8 18) (p.u16 22), false), (p.u64 40, p.u32 36, true)]
  else
    [(p.u64 24, p.u32 20, false)] ++
      (if bit (p.u8 17) 0 then [(d.dest, d.size.2 * d.row, true)] else []) ++
      (if bit (p.u8 17) 1 then [(d.arch, archPitch x * (x.maxH + x.maxH / 2), true)] else [])

/-- A session's credit at the present time, and whether a LIVE command has one to spend. -/
def vidCredit (s : State) (x : VidSess) : Nat :=
  min (4 * x.den * 10 ^ 9) (x.credit + (s.now - x.creditAt) * x.num)

/-- The credit one command spends. -/
def vidUnit (x : VidSess) : Nat := x.den * 10 ^ 9

/-- Whether a session's next command would run LIVE. -/
def vidRunsLive (s : State) (x : VidSess) : Bool := x.live && decide (vidUnit x ≤ s.vidCredit x)

/-- A job replaced. -/
def setVidJob (s : State) (j k : VidJob) : State :=
  { s with vid := { s.vid with jobs := s.vid.jobs.map (fun i => if i = j then k else i) } }

/-- A command of a session started on a core: its credit, its extents, its descriptor and its input (13 R480). -/
def vidStart (s : State) (c : Nat) (j : VidJob) (far : List Host.Cell) (ue : Option Nat) : State :=
  match s.vidSess j.sess with
  | none => s
  | some x =>
    let p := j.job.pkt
    let unit := coreUnit c
    let live := s.vidRunsLive x
    let past := x.live && !live
    let cr := s.vidCredit x
    let s := if x.live then s.setVidSess j.sess { x with credit := cr - vidUnit x, creditAt := s.now } else s
    let s := if past then s.bump (Reg.VID_SESS_OVER j.sess) 1 else s
    let j' := { j with live := live, past := past, started := true, cores := [c] }
    let s := s.setVidJob j j'
    let usesDesc := !x.enc && (bit (p.u8 17) 0 || bit (p.u8 17) 1)
    let descRun := if usesDesc then [(p.u64 32, 64, false)] else []
    let fail := fun (s : State) (e : Nat × Nat) =>
      if e.1 = Sts.eccHalt then s.vidEcc j' (accessAns e) else s.vidEnd j' (accessAns e) 0 0 0
    match (s.vidExtents unit descRun).or (s.issueCheckAll ((s.vidStatusReqs unit p (List.replicate 64 0)).map (fun q => [q]))) with
    | some e => s.vidReply j' (accessAns e)
    | none =>
      match s.getBytes unit (p.u64 32) (if usesDesc then 64 else 0) far ue with
      | (s, .error e) => fail s e
      | (s, .ok db) =>
        let d := VidDesc.ofBytes (if usesDesc then db else List.replicate 64 0)
        if usesDesc && bit (p.u8 17) 0 && d.bad then s.vidEnd j' .param 0 0 0
        else match s.vidExtents unit (vidRuns x p d) with
        | some e => s.vidEnd j' (accessAns e) 0 0 0
        | none =>
          let (a, n) := if x.enc then (p.u64 24, p.u32 32 * inRows' (p.u8 18) (p.u16 22)) else (p.u64 24, p.u32 20)
          match s.getBytes unit a n far ue with
          | (s, .error e) => fail s e
          | (s, .ok bs) =>
            let u : Config.VidUnit := ⟨bs, bit (p.u8 17) 2, s.vidState j.sess == 2, 0, []⟩
            let parts := if x.enc then 4 else (Config.vidDecode x.codec x.depth x.maxW x.maxH (x.fed ++ [u])).parts
            (s.setVidJob j' { j' with desc := db, unit := bs, parts := parts }).vidSync

/-- A core's next unit of work (13 R472, R474): the oldest ready LIVE one, else the oldest ready BATCH one. The first command of a
session is ready where it has not started, or where a further core can work on it. -/
def vidDispatch (s : State) (c : Nat) (far : List Host.Cell) (ue : Option Nat) : State :=
  let s := { s with vid := { s.vid with jobs := s.vid.jobs.map (fun (j : VidJob) => { j with cores := j.cores.filter (· != c) }) } }
  let first := fun (j : VidJob) => s.vid.jobs.find? (fun i => i.sess == j.sess) == some j
  let ready := s.vid.jobs.filter (fun j => first j && (!j.started || decide (j.cores.length < min 4 (max 1 j.parts))))
  let live := fun (j : VidJob) => if j.started then j.live else
    (match s.vidSess j.sess with | some x => s.vidRunsLive x | none => false)
  match (ready.find? live).or ready.head? with
  | none => s.vidSync
  | some j => if j.started then (s.setVidJob j { j with cores := j.cores ++ [c] }).vidSync else s.vidStart c j far ue

/-! ## Completion (13 R475 to R487) -/

/-- The end of a decode. -/
def vidDecoded (s : State) (j : VidJob) (x : VidSess) (far : List Host.Cell) : State :=
  let p := j.job.pkt
  let unit := coreUnit (j.cores.headD 0)
  let u : Config.VidUnit := ⟨j.unit, bit (p.u8 17) 2, s.vidState j.sess == 2, 0, []⟩
  let r := Config.vidDecode x.codec x.depth x.maxW x.maxH (x.fed ++ [u])
  let s := s.setVidSess j.sess { x with fed := x.fed ++ [u] }
  let large := match r.pic with | some q => decide (x.maxW < q.width) || decide (x.maxH < q.height) | none => false
  let (s, c) := s.pick j.cores
  let s := s.pmuEvent (44 + c.getD 0) 0x172 r.concealed none
  if r.outcome = 1 || large then (s.vidIrap j.sess).vidEnd j (.err stsVidStream) 0 0 0
  else if r.outcome = 2 then s.vidEnd j (.err stsVidUnsupported) 0 0 0
  else
    let s := if r.key then s.fw (Fld.VID_SESS_STATUS_STATE j.sess) 1 else s
    let base := b2n r.key * 64 + b2n r.grain * 16
    match r.pic with
    | none => s.vidEnd j .done (base + 4) r.concealed 0
    | some q =>
      let d := VidDesc.ofBytes j.desc
      let (outEn, archEn) := (bit (p.u8 17) 0, bit (p.u8 17) 1)
      let (cx, cy, cw, ch) := d.crop q
      let ten := x.depth == 10
      if outEn && (decide (q.width < cx + cw) || decide (q.height < cy + ch)) then s.vidEnd j (.err stsVidStream) 0 0 0
      else if outEn && !(ratioOk cw d.sclW && ratioOk ch d.sclH) then s.vidEnd j .param 0 0 0
      else
        let rows := if outEn then (List.range d.size.2).map (fun y => (y * d.row, d.rowBytes q ten y)) else []
        match putRows unit d.dest far rows s with
        | (s, some e) => if e.1 = Sts.eccHalt then s.vidEcc j (accessAns e) else s.vidEnd j (accessAns e) 0 0 0
        | (s, none) =>
          match putRows unit d.arch far (if archEn then archRows x q else []) s with
          | (s, some e) => if e.1 = Sts.eccHalt then s.vidEcc j (accessAns e) else s.vidEnd j (accessAns e) 0 0 0
          | (s, none) =>
            let s := s.updVidSess j.sess (fun x => { x with pics := x.pics + 1 })
            let s := if outEn then s.bump (Reg.VID_SESS_PICS j.sess) 1 else s
            let s := if r.concealed = 0 then s else s.bump Reg.VID_CONCEAL_CNT 1
            s.vidEnd j .done (base + b2n (r.concealed != 0) * 8 + b2n archEn * 2 + b2n outEn) r.concealed 0

/-- The end of an encode. -/
def vidEncoded (s : State) (j : VidJob) (x : VidSess) (far : List Host.Cell) : State :=
  let p := j.job.pkt
  let unit := coreUnit (j.cores.headD 0)
  let lost := s.vidState j.sess == 2
  let key := !x.coded || lost || bit (p.u8 17) 0 || (x.gop != 0 && decide (x.gop ≤ x.since))
  let q := x.cq + x.d
  let u : Config.VidUnit := ⟨j.unit, key, lost, q, [p.u8 18, p.u16 20, p.u16 22, p.u32 32, p.u8 19 % 8]⟩
  let out := Config.vidEncode x.codec x.depth x.maxW x.maxH x.gir (x.fed ++ [u])
  let fits := decide (out.length ≤ p.u32 36)
  let written := out.take (p.u32 36)
  match s.putBytes unit (p.u64 40) written far with
  | (s, some e) => if e.1 = Sts.eccHalt then s.vidEcc j (accessAns e) else s.vidEnd j (accessAns e) 0 0 q
  | (s, none) =>
    if !fits then s.vidEnd j (.err stsVidOutbuf) 0 written.length q
    else
      let (x, past) := x.rate (8 * out.length)
      let s := s.setVidSess j.sess { x with
        coded := true, pics := x.pics + 1, since := if key then 1 else x.since + 1, fed := x.fed ++ [u] }
      let s := (s.fw (Fld.VID_SESS_STATUS_STATE j.sess) 1).bump (Reg.VID_SESS_PICS j.sess) 1
      s.vidEnd j (.ok 0 (b2n past * 256)) (b2n key * 64 + 1) written.length q

/-! ## Acceptance (13 R472, R488, R489) -/

/-- Whether DECODE's parameters are outside 13 Table 13-6. -/
def decodeBad (p : Packet) : Bool :=
  decide (127 < p.u8 16) || decide (67108864 < p.u32 20) || (p.u32 20 == 0 && !bit (p.u8 17) 2) ||
    (bit (p.u16 56) 15 && p.u16 58 == 0)

/-- Whether ENCODE's parameters are outside 13 Table 13-6, R476 or R484. -/
def encodeBad (p : Packet) (x : VidSess) : Bool :=
  let fmt := p.u8 18
  let (w, h) := if rotSwaps (p.u8 19 % 4) then (p.u16 22, p.u16 20) else (p.u16 20, p.u16 22)
  decide (2 < fmt) || (fmt == 0 && x.depth != 8) || (fmt == 1 && x.depth != 10) || p.u32 32 % 64 != 0 ||
    p.u16 20 == 0 || p.u16 22 == 0 || decide (p.u32 32 < inRowBytes fmt (p.u16 20)) ||
    !(ratioOk w x.maxW && ratioOk h x.maxH) || (bit (p.u16 56) 15 && p.u16 58 == 0)

/-- The checks of VID_DECODE and VID_ENCODE; on a ring the session must be bound to it. -/
def vidCheck (s : State) (p : Packet) (enc : Bool) (ring : Option Nat) : Option Ans :=
  let n := p.u8 16
  firstFail [(!s.vidPresent, .err Sts.unitAbsent), (decide (127 < n) || (!enc && decodeBad p), .param)] |>.or
    (match s.vidSess n with
      | none => some (.err stsVidSession)
      | some x => firstFail [(enc && encodeBad p x, .param),
          (x.enc != enc || (match ring with | some r => 40 + x.ring != r | none => false), .err stsVidSession)])

/-- VID_DECODE and VID_ENCODE: accepted in the ring's order, then queued behind the other commands of their session. -/
def vidRow (s : State) (via : Via) (p : Packet) (mine enc : Bool) : State :=
  let refused := fun (s : State) => s.runRow .mcc p mine (fun s => s.vidCheck p enc none) (fun s => (s, none))
  match s.queuedOn p with
  | none => if via = .mcc then refused s
    else s.unitRow via p mine 0 false (fun _ _ => true) (fun s r => s.vidCheck p enc (some r)) (fun s _ => (s, none))
  | some n =>
    if via = .mcc && (s.vidCheck p enc none).isSome then refused s
    else
      s.unitRow via p mine n true (fun s _ => s.vidPresent) (fun s r => s.vidCheck p enc (some r))
        (fun s r => match (s.engOf r).cur with
          | none => (s, none)
          | some j =>
            let v : VidJob := ⟨j, r, p.u8 16, false, false, false, [], 1, [], []⟩
            let s := { s with vid := { s.vid with jobs := s.vid.jobs ++ [v] } }
            (((s.setEng r { s.engOf r with cur := none }).vidSync).startNext r, none))

end State

open State

/-- VID_SESSION_OPEN (13 R468 to R470). -/
def execVidSessionOpen (via : Via) (p : Packet) (s : State) : Host.Outcome State Fault Refusal :=
  .next (s.runRow via p (p.base == 0x0800)
    (fun s => firstFail [(!s.vidPresent, .err Sts.unitAbsent)] |>.or (match s.vidSessOf p with
      | none => some .param
      | some x => firstFail [(vidParamBad p x, .param), ((s.vidSess (p.u8 16)).isSome, .err stsVidSession),
          (x.codec == 0 && x.depth == 10, .err stsVidUnsupported), (s.poolBad x, .err stsVidPool),
          (!loadFits x.load 1 || (x.live && !loadFits (loadSum (x :: s.vidLive)) (s.fd Fld.CAP_UNITS_VID_CORES)),
            .err stsVidCapacity)]))
    (fun s => match s.vidSessOf p with
      | none => (s, some .param)
      | some x => let (s, a) := s.vidOpen (p.u8 16) x; (s, some a)))

/-- VID_SESSION_CLOSE (13 R489). -/
def execVidSessionClose (via : Via) (p : Packet) (s : State) : Host.Outcome State Fault Refusal :=
  let n := p.u8 16
  let force := p.u8 17 == 1
  .next (s.runRow via p (p.base == 0x0801)
    (fun s => firstFail [(!s.vidPresent, .err Sts.unitAbsent),
      (decide (127 < n) || decide (1 < p.u8 17) || (!p.expert && p.u8 17 != 0), .param),
      ((s.vidSess n).isNone || (!force && s.vid.jobs.any (fun j => j.sess == n)), .err stsVidSession)])
    (fun s => (s.vidClose n, some .done)))

/-- VID_DECODE (13 R475). -/
def execVidDecode (via : Via) (p : Packet) (s : State) : Host.Outcome State Fault Refusal :=
  .next (s.vidRow via p (p.base == 0x0810) false)

/-- VID_ENCODE (13 R484). -/
def execVidEncode (via : Via) (p : Packet) (s : State) : Host.Outcome State Fault Refusal :=
  .next (s.vidRow via p (p.base == 0x0811) true)

/-- A core is free for its next unit of work (13 R472). -/
def execVidUnitDispatch (core : Nat) (far : List Host.Cell) (ue : Option Nat) (s : State) :
    Host.Outcome State Fault Refusal :=
  .next (if core < 5 && bit (s.rd Reg.RAS_CORE_STATE) (8 + core) && s.islandOn (82 + core) then s.vidDispatch core far ue else s)

/-- The command of a session that runs completes (13 R475 to R487). -/
def execVidCommandComplete (sess : Nat) (far : List Host.Cell) (s : State) : Host.Outcome State Fault Refusal :=
  .next (match s.vid.jobs.find? (fun j => j.sess == sess), s.vidSess sess with
    | some j, some x => if !j.started then s else if x.enc then s.vidEncoded j x far else s.vidDecoded j x far
    | _, _ => s)

/-- The command of a session that runs reaches t_VID_WDOG (13 R482). -/
def execVidWatchdog (sess : Nat) (s : State) : Host.Outcome State Fault Refusal :=
  .next (match s.vid.jobs.find? (fun j => j.sess == sess) with
    | some j =>
      if j.started then ((s.bump Reg.VID_WDOG_CNT 1).vidIrap sess).vidEnd j (.err Sts.timeout) 0 0 0 else s
    | none => s)

end Sys2Proof.Machine
end

