-- ==== Sys2Proof/Machine/Security.lean ====
section
/-! DEFINITION. Brudo (14): the DRBG and what waits on it, SPDM, tokens, tenants and their scrub, bounce windows and the MACsec
key command. -/

namespace Sys2Proof.Machine
namespace State

/-! ## The lifecycle (14 R492, R493) -/

/-- The lifecycle state that the OTP spells. -/
def otpLc (o : Otp) : Nat := if !o.field then 0 else if o.rma then 3 else if o.toggles % 2 = 0 then 1 else 2

/-- The lifecycle state in force. -/
def lc (s : State) : Nat := s.fd Fld.SEC_STATUS_LC

/-- Brudo's state changed. -/
def updSec (s : State) (f : Sec → Sec) : State := { s with sec := f s.sec }

/-- SCRUB_REQUIRED with its mirror in the retention domain (17 Table 17-6). -/
def scrubRequired (s : State) (b : Bool) : State :=
  (s.fbw Fld.SEC_STATUS_SCRUB_REQUIRED b).fbw Fld.RST_BKP0_SCRUB_REQUIRED b

/-! ## Random numbers (14 R519 to R521) -/

/-- Whether the DRBG gives output. -/
def drbgReady (s : State) : Bool := s.fb Fld.SEC_TRNG_STATUS_DRBG_READY && !s.sec.otp.entropyFail

/-- The requests that wait replaced. -/
def setWaiters (s : State) (l : List DrbgWait) : State :=
  (s.updSec (fun x => { x with waiters := l })).fw Fld.SEC_TRNG_STATUS_WAITERS l.length

/-- A request joins those that wait on the DRBG. -/
def drbgWait (s : State) (msg : Option (List Byte)) : State := s.setWaiters (s.sec.waiters ++ [⟨s.now, msg⟩])

/-! ## SPDM (14 R494, R498, R501 to R506) -/

/-- The connection of a transport. -/
def spdmConn (s : State) (i3c : Bool) : SpdmConn := if i3c then s.sec.conn.2 else s.sec.conn.1

/-- The connection of a transport replaced. -/
def setConn (s : State) (i3c : Bool) (c : SpdmConn) : State :=
  s.updSec (fun x => { x with conn := if i3c then (x.conn.1, c) else (c, x.conn.2) })

/-- The plain request that a message carries, and its session (14 Table 14-6). -/
def spdmPlain (s : State) (i3c : Bool) (m : List Byte) : Option (List Byte × Option SpdmSess) :=
  match s.sec.sessions.find? (fun x => x.i3c == i3c && x.id == fieldOf m 0 4) with
  | some x => (Config.spdmOpen x.secret m).map (fun p => (p, some x))
  | none => some (m, none)

/-- The request code of a message. -/
def spdmCode (s : State) (i3c : Bool) (m : List Byte) : Nat :=
  match s.spdmPlain i3c m with | some (p, _) => fieldOf p 1 1 | none => 0

/-- A response: its code and its values. -/
abbrev SpdmRsp := Nat × List Nat

/-- ERROR with a code and its data. -/
def spdmError (code data : Nat) : SpdmRsp := (0x7F, [code, data])

/-- The digest that block 11 holds (14 Table 14-4). -/
def tenantDigest (s : State) : Nat :=
  if s.fb Fld.SEC_STATUS_TENANT_OPEN then
    sha384 (leBytes 8 s.sec.tenant ++ leBytes 1 (s.fd Fld.SEC_STATUS_CONF)) else 0

/-- The digest in a block: that of the component of the running image that it covers (14 R501; 18 R593), which its check has
computed. What the image does not carry is open. -/
def measured (s : State) (i : Nat) : Nat :=
  match (manComps s.rst.image).find? (fun c => c.type + 1 == i) with
  | some c => c.hash
  | none => Config.measure i

/-- A measurement block: its index, value type and value (14 Table 14-4). -/
def measureBlock (s : State) (i : Nat) : List Nat :=
  match i with
  | 1 => [1, 0, Config.measure 1]
  | 9 => [9, 4, s.rd Reg.RST_IMG_VERSION, s.rd Reg.RST_IMG_LEVELS]
  | 10 => [10, 2, s.lc, s.fd Fld.SEC_STATUS_DEBUG_OPEN, s.sec.otp.revoke, s.sec.otp.owner]
  | 11 => [11, 3, s.tenantDigest]
  | _ => [i, 1, s.measured i]

/-- The blocks of the variant. -/
def measureBlocks (s : State) : List Nat := (rangeFrom 1 11).filter (fun i => i != 7 || s.fuse.video)

/-- Whether a block is UNMEASURED. -/
def unmeasured (s : State) (i : Nat) : Bool := bit (s.rd Reg.SEC_MEAS_STATE) i

/-- The 8-byte status of 14 Table 14-5. -/
def measureStatus (s : State) : Nat :=
  s.fd Fld.SEC_STATUS_TENANT_OPEN * 8 + s.fd Fld.SEC_STATUS_DEBUG_OPEN * 4 + s.fd Fld.SEC_STATUS_UPDATE_PENDING_BOOT * 2 +
    s.fd Fld.SEC_STATUS_UPDATE_STAGED + s.rd Reg.SEC_MEAS_STATE * 2 ^ 32

/-- ERROR ResponseNotReady: RDTExponent, request code, token and RDTM; the request is kept for RESPOND_IF_READY. -/
def notReady (s : State) (i3c : Bool) (m : List Byte) (code expo rdtm : Nat) : State × SpdmRsp :=
  let (token, s) := s.open_ 8
  (s.setConn i3c { s.spdmConn i3c with deferred := some (token, m) }, (0x7F, [0x42, 0, expo, code, token, rdtm]))

/-- Whether a request needs a random value (14 R506). -/
def spdmRandom (p : List Byte) : Bool :=
  match fieldOf p 1 1 with
  | 0x83 | 0xE4 => true
  | 0xE0 => bit (fieldOf p 2 1) 0
  | _ => false

/-- The answer to a request whose connection state allows it. Random values are open. -/
def spdmDo (s : State) (i3c : Bool) (m p : List Byte) (ses : Option SpdmSess) : State × SpdmRsp :=
  let c := s.spdmConn i3c
  let (p1, p2) := (fieldOf p 2 1, fieldOf p 3 1)
  let inSession := match ses with | some x => x.done | none => false
  match fieldOf p 1 1 with
  | 0x84 => (s.setConn i3c ⟨1, none⟩, (0x04, [0x12, 0x13]))
  | 0xE1 => (s.setConn i3c { c with phase := max c.phase 2 }, (0x61, []))
  | 0xE3 => (s.setConn i3c { c with phase := 3 }, (0x63, []))
  | 0x81 => (s, (0x01, [1, Config.measure 0]))
  | 0x82 => (s, if p1 % 16 = 0 then (0x02, [0, fieldOf p 4 2, fieldOf p 6 2]) else spdmError 1 0)
  | 0x83 =>
    if p1 % 16 != 0 then (s, spdmError 1 0)
    else if s.fb Fld.SEC_STATUS_COMMIT then let (t, s) := s.open_ 8; s.notReady i3c m 0x83 20 t
    else let (v, s) := s.open_ 256; (s, (0x03, [v]))
  | 0xE0 =>
    let tail := fun (s : State) (l : List Nat) =>
      if bit p1 0 then let (v, s) := s.open_ 256; (s, (0x60, l ++ [s.measureStatus, v])) else (s, (0x60, l ++ [s.measureStatus]))
    if s.fb Fld.SEC_STATUS_COMMIT then let (t, s) := s.open_ 8; s.notReady i3c m 0xE0 20 t
    else if p2 = 0 then tail s [s.measureBlocks.length]
    else if p2 = 0xFF then
      tail s (((s.measureBlocks.filter (fun i => !s.unmeasured i)).map s.measureBlock).foldl (· ++ ·) [])
    else if !s.measureBlocks.contains p2 then (s, spdmError 1 0)
    else if s.unmeasured p2 then
      let (e, s) := s.open_ 8
      let (t, s) := s.open_ 8
      s.notReady i3c m 0xE0 e t
    else tail s (s.measureBlock p2)
  | 0xE4 =>
    if 2 ≤ (s.sec.sessions.filter (fun x => x.i3c == i3c)).length then (s, spdmError 0x0A 0)
    else
      let (v, s) := s.open_ 16
      let (r, s) := s.open_ 256
      let id := fieldOf p 4 2 + v * 2 ^ 16
      let n := s.sec.secrets + 1
      (s.updSec (fun x => { x with secrets := n, sessions := x.sessions ++ [⟨id, i3c, false, n⟩] }), (0x64, [v, r]))
  | 0xE5 =>
    match ses with
    | none => (s, spdmError 4 0)
    | some x =>
      if Config.spdmFinish x.secret p then
        (s.updSec (fun y => { y with
          sessions := y.sessions.map (fun z => if z = x then { z with done := true } else z)
          lastI3c := if i3c then some x.secret else y.lastI3c }), (0x65, []))
      else (s.updSec (fun y => { y with sessions := y.sessions.erase x }), spdmError 6 0)
  | 0xE8 => (s, if inSession then (0x68, []) else spdmError 4 0)
  | 0xE9 => (s, if inSession then (0x69, [p1, p2]) else spdmError 4 0)
  | 0xEC =>
    match ses with
    | some x => (s.updSec (fun y => { y with sessions := y.sessions.erase x }), (0x6C, []))
    | none => (s, spdmError 4 0)
  | c => (s, spdmError 7 c)

/-- The least negotiation that a request needs: GET_VERSION none, GET_CAPABILITIES a version, NEGOTIATE_ALGORITHMS
capabilities, any other all three. -/
def spdmPhase (code : Nat) : Nat := if code = 0x84 then 0 else if code = 0xE1 then 1 else if code = 0xE3 then 2 else 3

/-- The answer to a plain request: lifecycle, version and order checked first. -/
def spdmPlainDo (s : State) (i3c : Bool) (m p : List Byte) (ses : Option SpdmSess) : State × SpdmRsp :=
  let code := fieldOf p 1 1
  let v := fieldOf p 0 1
  if s.lc = 3 && code != 0x84 && code != 0xE1 then (s, spdmError 7 code)
  else if p.length < 4 then (s, spdmError 1 0)
  else if (code = 0x84 && v != 0x10) || (code != 0x84 && v != 0x12 && v != 0x13) then (s, spdmError 0x41 0)
  else if (s.spdmConn i3c).phase < spdmPhase code then (s, spdmError 4 0)
  else s.spdmDo i3c m p ses

/-- The answer to a message, RESPOND_IF_READY followed to the request it asks about. Where a random value is needed and the DRBG
gives none, the answer is none, or with `fault` ERROR Unspecified. The last value is the secret of the session that carries
the answer. -/
def spdmRun (s : State) (i3c fault : Bool) (m : List Byte) : State × Option (SpdmRsp × Nat) :=
  match s.spdmPlain i3c m with
  | none => (s, some (spdmError 6 0, 0))
  | some (p, ses) =>
    let secret := match ses with | some x => x.secret | none => 0
    let (p', m') := if fieldOf p 1 1 = 0xFF then
        match (s.spdmConn i3c).deferred with
        | some (t, d) => if t = fieldOf p 3 1 && s.spdmCode i3c d = fieldOf p 2 1 then
            ((match s.spdmPlain i3c d with | some (q, _) => q | none => p), d) else (p, m)
        | none => (p, m)
      else (p, m)
    if fieldOf p' 1 1 = 0xFF then (s, some (spdmError 1 0, secret))
    else if spdmRandom p' && s.lc != 3 && !s.drbgReady then (s, if fault then some (spdmError 5 0, secret) else none)
    else let (s, r) := s.spdmPlainDo i3c m' p' ses; (s, some (r, secret))

/-- A message on the I3C transport: answered, or waiting on the DRBG. -/
def spdmI3c (s : State) (fault : Bool) (m : List Byte) : State :=
  match s.spdmRun true fault m with
  | (s, some (r, secret)) => s.emit (.spdm (Config.spdmBytes r.1 r.2 secret))
  | (s, none) => s.drbgWait (some m)

/-- An SPDM row: the message is a request of the row's code, and Brudo runs (17 Table 17-3 step 4). -/
def spdmRow (s : State) (code : Nat) (m : List Byte) : State :=
  if s.stage = 0 || s.spdmCode true m != code then s else s.spdmI3c false m

/-- SEC_SPDM's answer; none where it waits on the DRBG. -/
def spdmMcc (s : State) (p : Packet) (fault : Bool) : State × Option Ans :=
  match s.hostLoad (p.u64 16) (p.u32 24) with
  | (s, none) => (s, some (.fault (hostAddr (p.u64 16))))
  | (s, some m) =>
    match s.spdmRun false fault m with
    | (s, none) => (s, none)
    | (s, some (r, secret)) =>
      let bs := Config.spdmBytes r.1 r.2 secret
      if p.u32 36 < bs.length then (s, some .param)
      else match s.hostStore (p.u64 28) bs with
        | none => (s, some (.fault (hostAddr (p.u64 28))))
        | some s =>
          let failed := fault && r == spdmError 5 0
          (s, some (if failed then ⟨Sts.entropyFault, 0, bs.length, 0, false⟩ else .ok bs.length 0))

/-! ## Commands that draw from the DRBG -/

/-- The effect of TENANT_OPEN (14 R508, R516; 07 R238). -/
def tenantOpenDo (s : State) (p : Packet) : State × Ans :=
  let conf := p.expert && bit (p.u8 28) 0
  let ems := match s.sec.sessions.find? (fun x => !x.i3c && x.done && x.id == p.u32 24) with | some x => x.secret | none => 0
  let n := s.sec.secrets + 1
  let tms := if conf then (ems * 2 ^ 64 + p.u64 16) * 2 + 1 else n * 2
  let s := s.updSec (fun x => { x with secrets := n, session := tms, tenant := p.u64 16 })
  let s := (s.scrubRequired true).fbw Fld.SEC_STATUS_TENANT_OPEN true
  let s := (s.fbw Fld.SEC_STATUS_CONF conf).fbw Fld.HIF_CTRL_CONF conf
  let s := { s with crl := { Crl.empty with homes := (List.range 8).filter s.stackOk } }
  (s, .done)

/-- The effect of SEC_NONCE. -/
def nonceDo (s : State) : State × Ans :=
  let (v, s) := s.open_ 64
  (s.updSec (fun x => { x with nonce := some (v, s.now) }), .ok 0 v)

/-- The effect of BOUNCE_REGISTER (02 R84; 14 R517). -/
def bounceDo (s : State) (p : Packet) : State × Ans :=
  let (salt, s) := s.open_ 64
  (s.setBounce (p.u8 16) ⟨p.u64 24, p.u64 32, salt, 0, 0⟩, .ok 0 salt)

/-- The effect of a command of the MCC that draws from the DRBG; none where it waits. -/
def drbgDo (s : State) (p : Packet) (fault : Bool) : State × Option Ans :=
  if p.base = 0x0903 then s.spdmMcc p fault
  else if fault then (s, some (.err Sts.entropyFault))
  else if !s.drbgReady then (s, none)
  else
    let (s, a) := if p.base = 0x0900 then s.tenantOpenDo p else if p.base = 0x0904 then s.nonceDo else s.bounceDo p
    (s, some a)

/-- The same, the command joining those that wait where it gets no answer. -/
def drbgCmd (s : State) (p : Packet) : State × Option Ans :=
  match s.drbgDo p false with
  | (s, some a) => (s, some a)
  | (s, none) => (s.drbgWait none, none)

/-- Requests that waited served, or with `fault` ended (14 R520). -/
def drbgServe (s : State) (fault : Bool) (l : List DrbgWait) : State :=
  l.foldl (fun s w => match w.msg with
    | some m => s.spdmI3c fault m
    | none => match s.mcc.cur with
      | some j => (match s.drbgDo j.pkt fault with
        | (s, some a) => s.mccReply a
        | (s, none) => s.drbgWait none)
      | none => s) s

/-! ## Tokens (14 R496) -/

/-- Whether a signer may sign a token's TYPE (14 Table 14-1). -/
def signerOk (type signer : Nat) : Bool :=
  match type with
  | 1 => decide (signer ≤ 1)
  | 2 | 3 => signer == 1
  | 4 => signer == 0
  | _ => false

/-- Whether a token is accepted. -/
def tokenOk (s : State) (t : List Byte) : Bool :=
  let (type, signer) := (fieldOf t 0 1, fieldOf t 1 1)
  fieldOf t 8 8 == s.fuse.serial && signerOk type signer &&
    (match s.sec.nonce with
      | some (v, at_) => v == fieldOf t 16 8 && decide (s.now ≤ at_ + 60 * 10 ^ 9)
      | none => false) &&
    (signer == 0 || s.sec.otp.owner != 0) && Config.sigOk signer s.sec.otp.revoke s.sec.otp.owner t

/-- STS_SEC_TOKEN. -/
def stsSecToken : Nat := 0x0900

/-- A token command: the first failing check answers, the nonce is used up either way, and an accepted token has its
effect. -/
def tokenCmd (s : State) (types : List Nat) (refuse : State → Nat → Option Ans) (act : State → Nat → State) :
    State × Option Ans :=
  let t := s.mcc.extra
  let type := fieldOf t 0 1
  let ok := s.tokenOk t
  let s := s.updSec (fun x => { x with nonce := none })
  if t.length != 120 || !types.contains type then (s, some .param)
  else match refuse s type with
    | some a => (s, some a)
    | none => if ok then (act s type, some .done) else (s, some (.err stsSecToken))

/-! ## The tenant scrub (14 R510 to R515) -/

/-- The scrub starts, or waits for the maintenance token. -/
def scrubStart (s : State) : State :=
  let a : Activity := ⟨actTenantScrub, 0, 0⟩
  let s := (s.regReset Reg.SEC_SCRUB_POS).fbw Fld.SEC_STATUS_SCRUB_WAIT_TOKEN true
  s.maintStart a

/-- The scrub ends before it is complete (14 R513). -/
def scrubStop (s : State) : State :=
  let a : Activity := ⟨actTenantScrub, 0, 0⟩
  let s := (s.fbw Fld.SEC_STATUS_SCRUB_ACTIVE false).fbw Fld.SEC_STATUS_SCRUB_WAIT_TOKEN false
  let s := { s with ras := { s.ras with queue := s.ras.queue.erase a } }
  if s.maintHolds a then s.maintRelease a else s

/-- The scrub regions of a stack written with zero. -/
def scrubZero (s : State) (st : Nat) : State :=
  let s := s.zeroHbm (hbmKey st 0) (s.allocEnd st)
  let s := if s.scrubRegion st 0x840000000 then s.zeroHbm (hbmKey st 0x840000000) 0x40000000 else s
  if s.scrubRegion st 0x8C0000000 then s.zeroHbm (hbmKey st 0x8C0000000) 0x40000000 else s

/-- The scrub is complete (14 R510; 07 R254). -/
def scrubDone (s : State) : State :=
  let homes := (List.range 8).filter s.stackOk
  let s := homes.foldl scrubZero s
  let s := s.sec.grants.foldl (fun s k => (s.zeroHbm k 65536).giveSkein k) s
  let s := s.updSec (fun x => { x with grants := [] })
  let s := s.fw Fld.SEC_SCRUB_POS_STACKS_DONE (homes.foldl (fun m k => m + 2 ^ k) 0)
  let s := ((s.scrubRequired false).fbw Fld.SEC_STATUS_SCRUB_ACTIVE false).trouble 0x0980 1 78 0
    (s.fd Fld.SEC_SCRUB_POS_STACKS_DONE)
  s.maintRelease ⟨actTenantScrub, 0, 0⟩

/-! ## Closing a tenant (14 R509) -/

/-- Steps 1 to 3 once the serving engine has stopped: the lane disabled, video sessions closed, windows disabled, every ring
stopped; store buffers drain. -/
def closeUnits (s : State) : State :=
  let s := (s.laneDisable.vidCloseRings 15).updSec (fun x => { x with closing := 2 })
  let s := (List.range 16).foldl (fun s w => s.fw (Fld.ATY_INWIN_CTRL_PERM w) (clrBit (s.fd (Fld.ATY_INWIN_CTRL_PERM w)) 0)) s
  let open_ := (List.range 128).filter (fun n => s.ringState n != closed || (s.engOf n).cur.isSome || !(s.tile n).sb.isEmpty)
  open_.foldl (fun s n => if n < 32 then ((s.tileStop n).pump n).tileDrained n |>.abortRing n else (s.abortCur n).abortRing n) s

/-- Granted skein pages in use by Creel. -/
def crlGrants (s : State) : List Nat :=
  (s.crl.maps.filter (·.granted)).map (·.page) ++ (s.crl.free.filter (·.2)).map (·.1) ++
    (s.crl.zeroing.filter (·.granted)).map (·.page)

/-- Steps 4 to 7: Creel and SRAM cleared, the scrub started, the reply, windows and keys gone. -/
def closeFinish (s : State) : State :=
  let s := s.updSec (fun x => { x with closing := 0, grants := x.grants ++ s.crlGrants })
  let s := (s.crlClear.clearSram (2 ^ 48) (2 ^ 28)).clearSram (2 * 2 ^ 48) (2 ^ 28)
  let s := (s.fbw Fld.SEC_STATUS_TENANT_OPEN false).scrubStart
  let s := match s.mcc.cur with
    | some j => if j.begun && j.pkt.base == 0x0901 then s.mccReply .done else s
    | none => s
  let s := { s with hif := { s.hif with bounce := [], stage := [] } }
  let s := (s.fbw Fld.SEC_STATUS_CONF false).fbw Fld.HIF_CTRL_CONF false
  s.updSec (fun x => { x with session := 0, tenant := 0 })

/-- A TENANT_CLOSE in progress carried on as far as it goes. -/
def closeStep (s : State) : State :=
  let s := if s.sec.closing = 1 && !s.srvWorks then s.closeUnits else s
  if s.sec.closing = 2 && !s.resetting then s.closeFinish else s

/-- What waits for idle units carried on: aborts and a TENANT_CLOSE. -/
def settle (s : State) : State := s.abortSettle.closeStep

end State

open State

/-! ## Commands -/

/-- TENANT_OPEN (14 R507, R508). -/
def execTenantOpen (via : Via) (p : Packet) (s : State) : Host.Outcome State Fault Refusal :=
  let conf := p.expert && bit (p.u8 28) 0
  .next (s.runRow via p (p.base == 0x0900)
    (fun s => firstFail [(p.expert && !conf && p.u32 24 != 0, .param),
      (s.fb Fld.SEC_STATUS_SCRUB_REQUIRED || s.fb Fld.SEC_STATUS_SCRUB_ACTIVE, .refuse 0x0901),
      (s.tenantOpen, .refuse 0x0902), (s.lc == 0 || s.lc == 3, .refuse 0x0903),
      (s.fb Fld.SEC_STATUS_DEBUG_OPEN, .refuse 0x0904),
      (conf && !s.sec.sessions.any (fun x => !x.i3c && x.done && x.id == p.u32 24), .refuse 0x0906)])
    (fun s => s.drbgCmd p))

/-- TENANT_CLOSE (14 R509). -/
def execTenantClose (via : Via) (p : Packet) (s : State) : Host.Outcome State Fault Refusal :=
  .next (s.runRow via p (p.base == 0x0901) (fun s => firstFail [(!s.tenantOpen, .refuse 0x0906)])
    (fun s =>
      let s := s.updSec (fun x => { x with closing := 1 })
      let s := if s.srvWorks then
          (({ s with srv := { s.srv with stop := some (1, 2) } }).fw Fld.SRV_STATUS_STATE 2).serveSettle else s
      (s.closeStep, none)))

/-- TENANT_SCRUB (14 R515). -/
def execTenantScrub (via : Via) (p : Packet) (s : State) : Host.Outcome State Fault Refusal :=
  .next (s.runRow via p (p.base == 0x0902)
    (fun s => firstFail [(!s.fb Fld.SEC_STATUS_SCRUB_REQUIRED, .done), (s.tenantOpen, .refuse 0x0902),
      (s.fb Fld.SEC_STATUS_SCRUB_ACTIVE || s.fb Fld.SEC_STATUS_SCRUB_WAIT_TOKEN, .err Sts.busy)])
    (fun s => (s.scrubStart, some .done)))

/-- SEC_SPDM (14 R505). -/
def execSecSpdm (via : Via) (p : Packet) (s : State) : Host.Outcome State Fault Refusal :=
  .next (s.runRow via p (p.base == 0x0903)
    (fun _ => firstFail [(decide (p.u32 24 < 4) || decide (4096 < p.u32 24), .param)]) (fun s => s.drbgCmd p))

/-- SEC_NONCE (14 R496). -/
def execSecNonce (via : Via) (p : Packet) (s : State) : Host.Outcome State Fault Refusal :=
  .next (s.runRow via p (p.base == 0x0904) (fun _ => none) (fun s => s.drbgCmd p))

/-- SEC_DEBUG_UNLOCK (14 R495). -/
def execSecDebugUnlock (via : Via) (p : Packet) (s : State) : Host.Outcome State Fault Refusal :=
  .next (s.runRow via p (p.base == 0x0905) (fun _ => none)
    (fun s => s.tokenCmd [1]
      (fun s _ => firstFail [(s.tenantOpen || s.fb Fld.SEC_STATUS_SCRUB_REQUIRED, .refuse 0x0902), (s.lc == 2, .refuse 0x0904)])
      (fun s _ => s.fbw Fld.SEC_STATUS_DEBUG_OPEN true)))

/-- SEC_LIFECYCLE (14 R493, R523). -/
def execSecLifecycle (via : Via) (p : Packet) (s : State) : Host.Outcome State Fault Refusal :=
  .next (s.runRow via p (p.base == 0x0906) (fun _ => none)
    (fun s => s.tokenCmd [2, 3, 4]
      (fun s type => firstFail [(s.tenantOpen || s.fb Fld.SEC_STATUS_SCRUB_REQUIRED, .refuse 0x0902),
        (s.lc != (if type = 3 then 2 else 1), .refuse 0x0903),
        (type != 4 && decide (16 ≤ s.sec.otp.toggles), .refuse 0x0907)])
      (fun s type => (s.updSec (fun x => { x with otp :=
        if type = 4 then { x.otp with rma := true } else { x.otp with toggles := x.otp.toggles + 1 } })).fbw
          Fld.SEC_STATUS_LC_PENDING true)))

/-- SEC_OWNER_SET (14 R499). -/
def execSecOwnerSet (via : Via) (p : Packet) (s : State) : Host.Outcome State Fault Refusal :=
  .next (s.runRow via p (p.base == 0x0907)
    (fun s => firstFail [(s.mcc.extra.length != 97, .param), (s.sec.otp.owner != 0, .refuse 0x0905)])
    (fun s => ((s.updSec (fun x => { x with otp := { x.otp with owner := sha384 s.mcc.extra } })).fbw
      Fld.SEC_STATUS_OWNER_SET true, some .done)))

/-- BOUNCE_REGISTER (02 R84, R85; 14 R517). -/
def execBounceRegister (via : Via) (p : Packet) (s : State) : Host.Outcome State Fault Refusal :=
  let (w, base, size) := (p.u8 16, p.u64 24, p.u64 32)
  .next (s.runRow via p (p.base == 0x0120)
    (fun s => firstFail [(decide (15 < w) || base % 4096 != 0 || size % 4096 != 0 || size == 0 || decide (2 ^ 30 < size) ||
        decide (2 ^ 64 < base + size), .param), (!s.conf, .refuse 0x0101),
      ((Cells.find w s.hif.bounce).isSome ||
        s.hif.bounce.any (fun e => decide (base < e.2.base + e.2.size) && decide (e.2.base < base + size)), .err Sts.windowState)])
    (fun s => s.drbgCmd p))

/-- Whether a bounce window is idle: it is not the MCC's and no open ring's queue lies in it. -/
def windowIdle (s : State) (w : Nat) (b : Bounce) : Bool :=
  let within := fun (a : Nat) => decide (b.base ≤ a) && decide (a < b.base + b.size)
  w != 0 && (List.range 128).all (fun n => s.ringState n == closed ||
    (!within (s.rd (Reg.HIF_RING_SQ_BASE n)) && !within (s.rd (Reg.HIF_RING_CQ_BASE n))))

/-- BOUNCE_RELEASE (02 Table 2-9). -/
def execBounceRelease (via : Via) (p : Packet) (s : State) : Host.Outcome State Fault Refusal :=
  let w := p.u8 16
  .next (s.runRow via p (p.base == 0x0121)
    (fun s => firstFail [(decide (15 < w), .param),
      (match Cells.find w s.hif.bounce with | some b => !windowIdle s w b | none => true, .err Sts.windowState)])
    (fun s => ({ s with hif := { s.hif with bounce := Cells.erase w s.hif.bounce } }, some .done)))

/-- PLT_MACSEC_KEY (11 R421; 14 R518). -/
def execPltMacsecKey (via : Via) (p : Packet) (far : List Host.Cell) (ue : Option Nat) (s : State) :
    Host.Outcome State Fault Refusal :=
  let (port, sc, an, suite) := (p.u8 16, p.u8 17, p.u8 18, p.u8 19)
  .next (s.runRow via p (p.opcode.toNat == 0x06A0)
    (fun s => firstFail [(!s.fb Fld.CAP_UNITS_PLANT || !s.fb Fld.CAP_UNITS_MACSEC, .err Sts.unitAbsent),
      (decide (1 < port) || decide (4 < sc) || decide (3 < an) || decide (1 < suite), .param)])
    (fun s => match s.getBytes mccUnit (p.u64 36) 40 far ue with
      | (s, .error e) => (s, some (accessAns e))
      | (s, .ok bs) =>
        match (match s.sec.lastI3c with | some k => Config.sakUnwrap k bs | none => none) with
        | none => (s, some (.errD Sts.accessFault 1))
        | some key =>
          let x := s.pltPort port
          let same := x.sas.filter (fun a => a.sc == sc && a.an != an)
          let others := x.sas.filter (fun a => a.sc != sc)
          (s.setPlt port { x with sas := ⟨sc, an, suite, p.u64 20, p.u64 28, key, p.u32 44⟩ :: (same.take 1 ++ others) },
            some .done)))

/-! ## SPDM requests of the I3C transport -/

/-- GET_VERSION. -/
def execGetVersion (m : List Byte) (s : State) : Host.Outcome State Fault Refusal := .next (s.spdmRow 0x84 m)
/-- GET_CAPABILITIES. -/
def execGetCapabilities (m : List Byte) (s : State) : Host.Outcome State Fault Refusal := .next (s.spdmRow 0xE1 m)
/-- NEGOTIATE_ALGORITHMS. -/
def execNegotiateAlgorithms (m : List Byte) (s : State) : Host.Outcome State Fault Refusal := .next (s.spdmRow 0xE3 m)
/-- GET_DIGESTS. -/
def execGetDigests (m : List Byte) (s : State) : Host.Outcome State Fault Refusal := .next (s.spdmRow 0x81 m)
/-- GET_CERTIFICATE (14 R498). -/
def execGetCertificate (m : List Byte) (s : State) : Host.Outcome State Fault Refusal := .next (s.spdmRow 0x82 m)
/-- CHALLENGE (14 R504, R506). -/
def execChallenge (m : List Byte) (s : State) : Host.Outcome State Fault Refusal := .next (s.spdmRow 0x83 m)
/-- GET_MEASUREMENTS (14 R502 to R504). -/
def execGetMeasurements (m : List Byte) (s : State) : Host.Outcome State Fault Refusal := .next (s.spdmRow 0xE0 m)
/-- KEY_EXCHANGE (14 Table 14-6). -/
def execKeyExchange (m : List Byte) (s : State) : Host.Outcome State Fault Refusal := .next (s.spdmRow 0xE4 m)
/-- FINISH. -/
def execFinish (m : List Byte) (s : State) : Host.Outcome State Fault Refusal := .next (s.spdmRow 0xE5 m)
/-- HEARTBEAT. -/
def execHeartbeat (m : List Byte) (s : State) : Host.Outcome State Fault Refusal := .next (s.spdmRow 0xE8 m)
/-- KEY_UPDATE. -/
def execKeyUpdate (m : List Byte) (s : State) : Host.Outcome State Fault Refusal := .next (s.spdmRow 0xE9 m)
/-- END_SESSION. -/
def execEndSession (m : List Byte) (s : State) : Host.Outcome State Fault Refusal := .next (s.spdmRow 0xEC m)
/-- RESPOND_IF_READY (14 R502). -/
def execRespondIfReady (m : List Byte) (s : State) : Host.Outcome State Fault Refusal := .next (s.spdmRow 0xFF m)

/-! ## Events -/

/-- The tenant scrub has written every stack (14 R510). -/
def execTenantScrubDone (s : State) : Host.Outcome State Fault Refusal :=
  .next (if s.fb Fld.SEC_STATUS_SCRUB_ACTIVE then s.scrubDone else s)

/-- A TRNG health test fails (14 R520, R521). -/
def execTrngHealthFail (s : State) : Host.Outcome State Fault Refusal :=
  let run := min 3 (s.fd Fld.SEC_TRNG_STATUS_FAIL_RUN + 1)
  let s := (s.bump Reg.SEC_TRNG_FAIL_CNT 1).fw Fld.SEC_TRNG_STATUS_FAIL_RUN run
  let s := (s.fbw Fld.SEC_TRNG_STATUS_DRBG_READY false).fbw Fld.SEC_TRNG_STATUS_STARTUP true
  .next (if run = 3 && !s.sec.otp.entropyFail then
      (((s.updSec (fun x => { x with otp := { x.otp with entropyFail := true } })).fbw Fld.SEC_TRNG_STATUS_ENTROPY_FAIL true).urgent 6).trouble
        0x0981 3 98 0 (s.rd Reg.SEC_TRNG_FAIL_CNT) |>.healthCheck
    else s)

/-- The start-up tests pass and the DRBG has reseeded (14 R520): what waited is served. -/
def execTrngStartupPass (s : State) : Host.Outcome State Fault Refusal :=
  let s := (s.fbw Fld.SEC_TRNG_STATUS_STARTUP false).updSec (fun x => { x with passing := s.now })
  .next (if s.sec.otp.entropyFail then s
    else
      let l := s.sec.waiters
      ((s.fbw Fld.SEC_TRNG_STATUS_DRBG_READY true).setWaiters []).drbgServe false l)

/-- Requests that have waited t_ENT_WAIT end (14 R520). -/
def execEntropyWaitTimeout (s : State) : Host.Outcome State Fault Refusal :=
  let (old, rest) := s.sec.waiters.partition (fun w => decide (w.time + 10 ^ 6 ≤ s.now))
  .next ((s.setWaiters rest).drbgServe true old)

/-- Health tests have passed for t_ENT_STABLE since the start-up test (14 R521). -/
def execEntropyStableExpiry (s : State) : Host.Outcome State Fault Refusal :=
  .next (if !s.fb Fld.SEC_TRNG_STATUS_STARTUP && decide (s.sec.passing + 10 ^ 9 ≤ s.now) then
    s.fw Fld.SEC_TRNG_STATUS_FAIL_RUN 0 else s)

/-- The DRBG reseeds (14 R519). Its state stands in no register, and its output is open, so nothing else changes. -/
def execDrbgReseedPeriod (s : State) : Host.Outcome State Fault Refusal := .next s

/-! ## Serving events that a TENANT_CLOSE waits for -/

/-- A step boundary (10 R365). `far` and `ue` are what the prompt reads meet. -/
def execStepBoundary (far : List Host.Cell) (ue : Option Nat) (s : State) : Host.Outcome State Fault Refusal :=
  .next (match s.srv.plan with
    | some g => if s.srvWorks && s.srv.step.isNone then (s.stepBoundary g far ue).serveSettle.closeStep else s
    | none => s)

/-- A queued request reaches QUEUE_TIMEOUT_MS (10 R364). -/
def execQueueTimeout (ring id : Nat) (s : State) : Host.Outcome State Fault Refusal :=
  .next (match s.srvReq ring id with
    | some r =>
      let t := (s.srvRing ring).2
      if r.st = 0 && t != 0 && decide (r.fetchNs + t * 10 ^ 6 ≤ s.now) then (s.srvFinal r Sts.timeout 0 0).serveSettle.closeStep else s
    | none => s)

end Sys2Proof.Machine
end

