-- ==== Sys2Proof/Machine/Reset.lean ====
section
/-! DEFINITION. Reset (17): requests and their hold, entry to core and system reset, what each level clears, block resets, and
the events of supply and temperature that cause a reset (16 R550, R565, R567). -/

namespace Sys2Proof.Machine
namespace State

/-! ## What core and system reset keep (17 Table 17-2) -/

/-- Registers that a core reset keeps: those of the clock monitor, the power controllers, Brudo and the always-on island, the
unit maps and the log's position, the Atyja ports and the fabric apart from inbound windows, and which stacks are ready. -/
def coreKeeps (a : Nat) : Bool :=
  let within := fun lo hi => decide (lo ≤ a) && decide (a < hi)
  within 0x300000 0x500000 || within 0x600000 0x700200 || within 0x500008 0x500120 || a == 0x500000 ||
    within 0x2300000 0x2431000 || within 0x2431100 0x2438000 || (within 0x2100000 0x2200000 && a % 0x20000 == 0)

/-- Registers that a system reset keeps. -/
def systemKeeps (a : Nat) : Bool :=
  a == Reg.RST_CAUSE.addr || a == Reg.RST_COUNT.addr || a == Reg.RAS_STORE.addr || (decide (Reg.RST_BKP0.addr ≤ a) && decide (a < Reg.RST_BKP0.addr + 32))

/-- A link at a core reset: VC0 to VC2 are dropped, VC3, link control and the replay buffer stay. -/
def linkCore (x : Link) : Link :=
  { x with queue := x.queue.filter (fun m => decide (3 ≤ m.cls))
           part := x.part.filter (fun e => decide (3 ≤ e.1)) }

/-- The tenant closed by a core reset (14 R514): its keys are lost; granted skein pages go back after the scrub. -/
def tenantLost (s : State) : State :=
  let s := s.updSec (fun x => { x with session := 0, tenant := 0, closing := 0, grants := x.grants ++ s.crlGrants
                                       waiters := x.waiters.filter (fun w => w.msg.isSome) })
  let s := (s.fbw Fld.SEC_STATUS_TENANT_OPEN false).fbw Fld.SEC_STATUS_CONF false
  (s.fbw Fld.SEC_STATUS_SCRUB_ACTIVE false).fbw Fld.SEC_STATUS_SCRUB_WAIT_TOKEN false

/-- The blocks that a core reset marks UNMEASURED (14 Table 14-4). -/
def coreUnmeasured (s : State) : State := s.wr Reg.SEC_MEAS_STATE (if s.fuse.video then 0x1F0 else 0x170)

/-- The state that a core reset leaves (17 R572, Table 17-2). -/
def coreState (s : State) : State :=
  let s := s.ecc.retiring.foldl (fun s r => s.giveSkein r.skein) s
  let s := ((s.clearSram (2 ^ 48) (2 ^ 28)).clearSram (2 * 2 ^ 48) (2 ^ 28)).tenantLost.coreUnmeasured
  let s := (s.fab.bert.filter (·.own)).foldl (fun s b => s.portDown (s.portOf b.link)) s
  let z := State.reset
  { s with
    regs := s.regs.filter (fun e => coreKeeps e.1)
    mcc := z.mcc
    eng := z.eng
    hif := z.hif
    ecc := { s.ecc with words := [], pages := [], retiring := [], heldOps := [], scrub := none }
    tiles := (s.tiles.filter (·.2.halted)).map (fun e => (e.1, { Tile.idle with halted := true }))
    crl := z.crl
    fab := { s.fab with links := s.fab.links.map (fun e => (e.1, linkCore e.2)), waiting := [], lanes := []
                        bert := s.fab.bert.filter (fun b => !b.own) }
    clk := { s.clk with gating := [], target := s.clk.target.map (fun t => (t.1, t.2.1, false)) }
    pwr := { s.pwr with wakes := [], floors := s.pwr.floors.filter (fun e => e.2 != 5) }
    pair := { Pair.off with conds := 5 :: s.pair.conds.filter (· == 4), healthy := false }
    rim := z.rim
    plt := z.plt
    ras := { s.ras with holders := [], queue := [], moves := [], unsaved := [], coreTraps := [], coreDown := [] }
    srv := z.srv
    vid := z.vid
    rst := { s.rst with recFail := false, job := none }
    dbg := { Dbg.start with halted := s.dbg.halted, cells := s.dbg.cells } }

/-- The state that a system reset leaves: the always-on sticky state, the retention domain and the flash stay, and so does what
lies outside the module. -/
def systemState (s : State) : State :=
  let z := State.reset
  let pfw := s.fb Fld.PWR_STATUS_PFW_SEEN
  let trip := s.fb Fld.PWR_STATUS_THERM_TRIP_SEEN
  let s := { z with
    pending := s.pending
    regs := s.regs.filter (fun e => systemKeeps e.1)
    host := s.host
    out := s.out
    free := s.free
    fuse := s.fuse
    pins := s.pins
    sec := { z.sec with otp := s.sec.otp }
    ras := { z.ras with store := s.ras.store, tail := s.ras.tail }
    pair := { Pair.off with conds := [5], healthy := false }
    rst := { z.rst with unpowered := s.rst.unpowered, tripped := s.rst.tripped, flash := s.rst.flash } }
  ((s.fbw Fld.PWR_STATUS_PFW_SEEN pfw).fbw Fld.PWR_STATUS_THERM_TRIP_SEEN trip).fbw Fld.RAS_STORE_FULL false

/-! ## Entry (17 R579, R580) -/

/-- Step 1 of the entry: releases stop, FAIL goes out with CAUSE 5. -/
def resetFail (s : State) : State := (s.pairFail 5).laneDisable

/-- The count of resets of a level, and RST_CAUSE.LEVEL. -/
def resetCount (s : State) (level : Nat) : State :=
  let f := if level = 1 then Fld.RST_COUNT_CORE_CNT else Fld.RST_COUNT_SYS_CNT
  (s.fw f (satAdd 0xFFFF (s.fd f) 1)).fw Fld.RST_CAUSE_LEVEL level

/-- A core (1) or system (2) reset entered. It is in force until RESET_RELEASE. -/
def resetEnter (s : State) (level : Nat) : State :=
  let s := s.resetCount level
  let s := if level = 1 then s.coreState else s.systemState
  (s.updRst (fun x => { x with level := level, hold := none })).updShow

/-- A reset request of a level (17 R574, R579): absorbed under a reset of the same or a higher level, held during a flash pulse
where it may be, entered otherwise; a higher one escalates. A supply reset alone may not be held, and sends no FAIL. -/
def resetGo (s : State) (level : Nat) (mayHold : Bool) : State :=
  if level ≤ s.rst.level then s
  else
    let lower := decide (0 < s.rst.level) || (match s.rst.hold with | some h => decide (h < level) | none => false)
    let s := if lower then s.fbw Fld.RST_CAUSE_ESCALATED true else s
    if mayHold && s.pulsing then
      let h := match s.rst.hold with | some h => max h level | none => level
      ((s.updRst (fun x => { x with hold := some h })).fbw Fld.RST_STATUS_HOLD_PENDING true).fbw Fld.RST_CAUSE_HELD true
    else (if mayHold then s.resetFail else s).resetEnter level

/-- A reset request with its bit of RST_CAUSE. -/
def resetRequest (s : State) (level bit : Nat) (mayHold : Bool) : State :=
  (s.orReg Reg.RST_CAUSE (2 ^ bit)).resetGo level mayHold

/-! ## Block reset (17 R577, R578) -/

/-- Whether an island belongs to a unit that a block reset can name. -/
def blockIsland (i : Nat) : Bool :=
  isSite i || (decide (18 ≤ i) && decide (i < 22)) || (decide (55 ≤ i) && decide (i < 59)) || (decide (81 ≤ i) && decide (i < 87))

/-- The stack of an HBM controller's island. -/
def islandStack (i : Nat) : Nat := if i < 22 then i - 18 else i - 51

/-- Whether the unit of an island is there to be reset: clocked, and neither a spare nor retired. -/
def blockHere (s : State) (i : Nat) : Bool :=
  s.islandOn i && !s.islandSpare i && (hasPstate i || decide (82 ≤ i) || s.stackOk (islandStack i)) &&
    (s.fuse.video || !decide (82 ≤ i))

/-- A block reset of a unit, with what it does to its rings. -/
def blockReset (s : State) (i : Nat) : State :=
  if isSite i then
    match s.tileOf (islandSite i) with
    | some t => s.tileAbort t
    | none => s
  else if i = 81 then s.splintReset.abortRing 44
  else if 82 ≤ i then s.vidCoreReset (i - 82)
  else (s.creelReset (islandStack i)).abortRing (32 + islandStack i)

end State

/-! ## Commands -/

/-- RST_REQ (17 R578, R581, R590). The reply comes before a core or system reset. -/
def execRstReq (via : Via) (p : Packet) (s : State) : Host.Outcome State Fault Refusal :=
  let level := if p.expert then p.u8 16 else p.u8 63
  let i := p.u8 17
  let force := p.expert && bit (p.u8 18) 0
  .next (s.runRow via p (p.base == 0x0B00)
    (fun s => firstFail [(decide (2 < level) || (!p.expert && level == 0) || (level == 0 && !State.blockIsland i), .param),
      (level == 0 && !s.blockHere i, .err Sts.unitAbsent),
      (level != 0 && !force && s.pins.maintInhibit, .refuse 0x0B01),
      (level == 2 && s.fb Fld.SEC_STATUS_DEBUG_OPEN, .refuse 0x0B02)])
    (fun s =>
      if level = 0 then ((s.blockReset i).settle, none)
      else if level = 1 then ((s.mccReply .done).resetRequest 1 11 true, none)
      else ((s.mccReply .done).resetRequest 2 12 true, none)))

/-! ## Events -/

/-- The input rises (16 R550). `lost` says whether the always-on island had lost its supply. -/
def execSupplyApply (lost : Bool) (s : State) : Host.Outcome State Fault Refusal :=
  .next (if !s.rst.unpowered then s
    else
      let s := s.updRst (fun x => { x with unpowered := false })
      if lost then
        let s := (s.regReset Reg.RST_CAUSE).regReset Reg.RST_COUNT
        (s.fbw Fld.PWR_STATUS_PFW_SEEN false).fbw Fld.PWR_STATUS_THERM_TRIP_SEEN false
      else s)

/-- The input falls below 33.0 V (16 R565, Table 16-1). The reset lasts until the supply returns. -/
def execSupplyReset (s : State) : Host.Outcome State Fault Refusal :=
  .next ((s.updRst (fun x => { x with unpowered := true })).resetRequest 2 15 false)

/-- A thermal trip (16 R567): latched, vector 0, and the core and HBM rails gone, with all they held. -/
def execThermalTrip (s : State) : Host.Outcome State Fault Refusal :=
  .next (if s.rst.tripped then s
    else
      let s := ((s.urgent 3).fbw Fld.PWR_STATUS_THERM_TRIP_SEEN true).pairFail 4
      let esc := s.rst.level == 1
      let s := s.systemState.updRst (fun x => { x with level := 2, hold := none, tripped := true })
      (if esc then s.fbw Fld.RST_CAUSE_ESCALATED true else s).updShow)

/-- Every sensor reads 85 °C or less: the system reset of a trip (16 R567). -/
def execTripCooled (s : State) : Host.Outcome State Fault Refusal :=
  .next (if s.rst.tripped then
    ((s.updRst (fun x => { x with tripped := false })).orReg Reg.RST_CAUSE (2 ^ 13)).resetCount 2
  else s)

/-- PERST_N falls, for t_PERST_QUAL or longer, or for less (17 R573). -/
def execPerstFall (qualifies : Bool) (s : State) : Host.Outcome State Fault Refusal :=
  .next (if qualifies then ({ s with pins := { s.pins with perst := false } }).resetRequest 2 14 true else s)

/-- PERST_N rises (17 R573). -/
def execPerstRise (s : State) : Host.Outcome State Fault Refusal :=
  .next { s with pins := { s.pins with perst := true } }

/-- The Brudo watchdog expires (17 Table 17-1). -/
def execBrudoWatchdog (s : State) : Host.Outcome State Fault Refusal := .next (s.resetRequest 2 10 true)

/-- The management watchdog of a core expires (17 Table 17-1); that of a halted core is suspended (20 R654). -/
def execMgmtWatchdog (core : Nat) (s : State) : Host.Outcome State Fault Refusal :=
  .next (if s.dbg.halted.contains core then s else s.resetRequest 1 9 true)

/-- A PCIe Function Level Reset (17 Table 17-1). -/
def execFunctionLevelReset (s : State) : Host.Outcome State Fault Refusal := .next (s.resetRequest 1 8 true)

/-- A PCIe hot reset (17 Table 17-1). -/
def execHotReset (s : State) : Host.Outcome State Fault Refusal := .next (s.resetRequest 1 7 true)

/-- A request of the debug access port, while open, for a core or a system reset (17 Table 17-1). -/
def execDebugResetRequest (system : Bool) (s : State) : Host.Outcome State Fault Refusal :=
  .next (if s.fb Fld.SEC_STATUS_DEBUG_OPEN then s.resetRequest (if system then 2 else 1) 6 true else s)

/-- A core reset is entered (17 R580). -/
def execCoreReset (s : State) : Host.Outcome State Fault Refusal := .next (s.resetGo 1 true)

/-- A system reset is entered (17 R580). -/
def execSystemReset (s : State) : Host.Outcome State Fault Refusal := .next (s.resetGo 2 true)

/-- A block reset of a unit, as a microcode reload causes it (17 R577, Table 17-1). -/
def execBlockReset (island : Nat) (s : State) : Host.Outcome State Fault Refusal :=
  .next (if State.blockIsland island && s.blockHere island then (s.blockReset island).settle else s)

/-- t_IDLE_TO passes (17 R577): what a unit under block reset still holds is discarded. -/
def execBlockIdleTimeout (tile : Nat) (s : State) : Host.Outcome State Fault Refusal :=
  .next (if (s.tile tile).resetting then ((s.sbDiscard tile 0).tileReset tile).settle else s)

end Sys2Proof.Machine
end

