-- ==== Sys2Proof/Machine/Boot.lean ====
section
/-! DEFINITION. Release from reset (17 R582, R583), boot and recovery (18 R595 to R599), the configuration replay (R611, R612), and
the update commands (R601 to R611). -/

namespace Sys2Proof.Machine

/-! ## Straps and maps (17 R584; 01 R24, R25) -/

/-- A number put into its place of a rising list. -/
def putRising (x : Nat) : List Nat → List Nat
  | [] => [x]
  | y :: l => if x ≤ y then x :: y :: l else y :: putRising x l

/-- The median of the RSEL readings: the fourth smallest. -/
def rselMedian (l : List Nat) : Nat := ((l.foldr putRising []).getD 3 0) % 256

/-- The sites of the logical tiles, from the mask of retired sites: site t or t + 2, else a spare of the die, else one of the other
die, else none (0xFF). -/
def siteLayout (retired : Nat) : List Nat :=
  ((List.range 32).foldl (fun (l, free) t =>
    let d := if t < 16 then t else t + 2
    if !bit retired d then (l ++ [d], free)
    else
      let west := fun k => decide (k < 18)
      let own := free.filter (fun k => west k == west d)
      match own ++ free with
      | k :: _ => (l ++ [k], free.filter (· != k))
      | [] => (l ++ [0xFF], free)) ([], [16, 17, 34, 35].filter (fun k => !bit retired k))).1

/-- The mask of the numbers of a list below 64. -/
def maskOf (l : List Nat) : Nat := (List.range 64).foldl (fun m k => if l.contains k then m + 2 ^ k else m) 0

/-- The first `n` numbers below `k` whose bit is clear. -/
def firstClear (mask k n : Nat) : Nat := maskOf (((List.range k).filter (fun c => !bit mask c)).take n)

/-- The state that an outcome goes on with. -/
def nextOr (s : State) (o : Host.Outcome State Fault Refusal) : State :=
  match o with
  | .next t => t
  | _ => s

namespace State

/-! ## The RAS store (19 R628) -/

/-- Records of a kind whose CRC is right. -/
def storeRecords (s : State) (kind : Nat) : List Nat :=
  s.ras.store.filter (fun r => r / 2 ^ 60 == kind && r % 256 == crc8 ((leBytes 7 (r / 256)).reverse))

/-- The units that records of a kind name. -/
def storeUnits (s : State) (kind : Nat) : List Nat := (s.storeRecords kind).map (fun r => bits r 8 8)

/-- The line of an SRAM remap record, for the tile that its site carries (assumption 74). -/
def storeLine (s : State) (r : Nat) : Option Nat :=
  let m := bits r 40 20
  let line := bits r 24 16 * 64
  if 0x80000 ≤ m then some (sliceKey ((m - 0x80000) / 256) ((m - 0x80000) % 256 * 65536 + line))
  else (s.tileOf (m / 128)).map (fun t => tileKey t (m % 128 * 65536 + line))

/-- The memory remaps of the store applied (06 R213, R222, R223). -/
def storeRemaps (s : State) : State :=
  let maps := (s.storeRecords 5).map (fun r =>
    (hbmKey (bits r 39 3) (bits r 19 20 * 65536), hbmKey (bits r 16 3) (0x880000000 + bits r 46 14 * 65536)))
  let lost := (s.storeRecords 8).map (fun r => hbmKey (bits r 39 3) (bits r 19 20 * 65536))
  let lines := (s.storeRecords 6).filterMap s.storeLine
  { s with ecc := { s.ecc with pageMap := maps, skeinUsed := maps.map (·.2), lost := lost, remaps := lines } }

/-- The registers that count remaps and lost pages. -/
def remapCounts (s : State) : State :=
  let on := fun (st : Nat) (k : Nat) => offOf k / 2 ^ 36 == st
  let s := (List.range 8).foldl (fun s st =>
    let s := s.fw (Fld.HBM_REMAP_STATE_FREE st) (16384 - (s.ecc.skeinUsed.filter (on st)).length)
    let s := s.fw (Fld.HBM_REMAP_STATE_RETIRED st) (s.ecc.pageMap.filter (fun e => on st e.1)).length
    s.wr (Reg.HBM_PAGES_LOST st) (s.ecc.lost.filter (on st)).length) s
  (List.range 12).foldl (fun s k => s.fw (Fld.SLC_REMAP_USED_USED k)
    (s.ecc.remaps.filter (fun l => spaceOf l == 2 && offOf l / 2 ^ 24 == k)).length) s

/-! ## Release steps 2 to 6 (17 Table 17-3) -/

/-- Step 2: RSEL and SLOT_ID sampled, with what the code selects. -/
def strapSample (s : State) : State :=
  let l := s.pins.rsel
  let adc := rselMedian l
  let s := ((s.fw Fld.RST_STRAP_RSEL_ADC adc).fw Fld.RST_STRAP_CODE (adc / 16)).fw Fld.RST_STRAP_SLOT_ID (s.pins.slotId % 64)
  if l.all (fun v => v / 16 == l.headD 0 / 16) then s
  else (s.fbw Fld.RST_STATUS_RSEL_UNSTABLE true).troubleRule 0x0B 584 0 80 0

/-- Step 3: what Brudo reads of the OTP and of the retention domain. -/
def otpRead (s : State) : State :=
  let s := (s.fw Fld.SEC_STATUS_LC (otpLc s.sec.otp)).fw Fld.SEC_STATUS_ROLLBACK s.sec.otp.rollback
  let s := (s.fbw Fld.SEC_STATUS_OWNER_SET (s.sec.otp.owner != 0)).fbw Fld.SEC_TRNG_STATUS_ENTROPY_FAIL s.sec.otp.entropyFail
  s.fbw Fld.SEC_STATUS_SCRUB_REQUIRED (s.fb Fld.RST_BKP0_SCRUB_REQUIRED)

/-- Step 4: the check word of the retention domain, and BOOT_ATTEMPTS (17 R587, R589). -/
def retentionCheck (s : State) (ok : Bool) : State :=
  let s := if ok then s
    else
      let s := ({ s with ras := { s.ras with tail := [] } }).regsReset Reg.RST_BKP0.addr 32
      ((s.fbw Fld.RST_STATUS_RET_LOST true).fbw Fld.RST_CAUSE_POWER_ON true).scrubRequired true
  s.fw Fld.RST_BKP0_BOOT_ATTEMPTS (satAdd 15 (s.fd Fld.RST_BKP0_BOOT_ATTEMPTS) 1)

/-- Step 6 of a system reset: the maps as the RAS store leaves them (01 R24, R28, R50; 09 R313). -/
def mapsLoad (s : State) : State :=
  let sites := maskOf (s.storeUnits 1)
  let ports := maskOf (s.storeUnits 2)
  let mgmt := maskOf (s.storeUnits 3) % 16
  let vid := maskOf (s.storeUnits 4) % 32
  let l := siteLayout sites
  let s := (List.range 8).foldl (fun s m => s.wr (Reg.RAS_TILE_MAP m)
    (ofLE (((l.drop (4 * m)).take 4).map (BitVec.ofNat 8)))) s
  let s := (s.wr Reg.RAS_SITE_ACTIVE (maskOf l)).wr Reg.RAS_SITE_RETIRED sites
  let s := s.wr Reg.RAS_CORE_STATE (firstClear mgmt 4 3 + mgmt * 16 +
    (if s.fuse.video then firstClear vid 5 4 * 256 + vid * 65536 else 0))
  let active := fun (b : Nat) => ((List.range 9).filter (fun p => !bit ports (b + p))).take 8 |>.map (b + ·)
  let s := s.wr Reg.RAS_PORT_STATE (maskOf (active 0 ++ active 9) + ports % 2 ^ 18 * 2 ^ 32)
  [0, 1].foldl (fun s d =>
    let b := 9 * d
    let links := (List.range 8).map (fun j => if bit ports (b + j) && !bit ports (b + 8) &&
      (List.range j).all (fun i => !bit ports (b + i)) then 8 else j)
    let map := if d = 0 then Reg.ATY_LINK_MAP0 else Reg.ATY_LINK_MAP1
    let s := s.wr map ((links.zipIdx.map (fun (p, j) => p * 16 ^ j)).sum)
    let s := (List.range 9).foldl (fun s p => s.setPort (b + p) (if bit ports (b + p) then pRetired else pSpare)) s
    links.zipIdx.foldl (fun s (p, j) =>
      let s := s.fw (Fld.ATY_PORT_STATUS_LINK (b + p)) (8 * d + j)
      s.setPort (b + p) (if bit ports (b + p) then pFailed else pDown)) s) s

/-- Regulator phases that the store names are out of service (16 R552). -/
def phasesLoad (s : State) : State :=
  let l := (s.storeUnits 7).eraseDups
  let west := (l.filter (fun p => decide (p < 24))).length
  let east := l.length - west
  let s := (s.fw Fld.PWR_PHASE_W_ACTIVE (min 22 (24 - west))).fw Fld.PWR_PHASE_W_SPARE (2 - west)
  let s := (s.fw Fld.PWR_PHASE_E_ACTIVE (min 22 (24 - east))).fw Fld.PWR_PHASE_E_SPARE (2 - east)
  s.fw Fld.PWR_CFG_CAP_W (min (s.fd Fld.PWR_CFG_CAP_W) s.capRange)

/-- The clock enables (15 R537): every island but those of dark and retired sites, retired ports and cores, and what the variant
leaves out. -/
def clocksLoad (s : State) : State :=
  let v := s.rd Reg.RAS_CORE_STATE
  let on := fun (i : Nat) =>
    if isSite i then bit (s.rd Reg.RAS_SITE_ACTIVE) (islandSite i)
    else if 82 ≤ i && i < 87 then s.fuse.video && !bit v (16 + (i - 82))
    else if (22 ≤ i && i < 31) then !s.portRetired (i - 22)
    else if (59 ≤ i && i < 68) then !s.portRetired (i - 50)
    else s.fuse.video || (i != 21 && i != 58)
  let mask := fun (lo n : Nat) => (List.range n).foldl (fun m k => if on (lo + k) then m + 2 ^ k else m) 0
  (s.wr Reg.CLK_EN0 (mask 0 64)).wr Reg.CLK_EN1 (mask 64 36)

/-! ## Self-tests (19 R626) -/

/-- A site that fails before CAP_VALID: retired, its tile on a spare without a move. -/
def siteFails (s : State) (n : Nat) : State :=
  if bit (s.rd Reg.RAS_SITE_RETIRED) n || decide (36 ≤ n) then s
  else
    let t := s.tileOf n
    let s := ((s.orReg Reg.RAS_SITE_RETIRED (2 ^ n)).logRetired 1 n (siteIsland n)).wr Reg.RAS_SITE_ACTIVE
      (clrBit (s.rd Reg.RAS_SITE_ACTIVE) n)
    match t with
    | none => s
    | some t =>
      let west := fun k => decide (k < 18)
      let free := (List.range 36).filter (fun k => !bit (s.rd Reg.RAS_SITE_ACTIVE) k && !bit (s.rd Reg.RAS_SITE_RETIRED) k)
      let map := fun (s : State) (k : Nat) =>
        s.wr (Reg.RAS_TILE_MAP (t / 4)) (setBits (s.rd (Reg.RAS_TILE_MAP (t / 4))) (8 * (t % 4)) 8 k)
      match free.filter (fun k => west k == west n) ++ free with
      | k :: _ => ((map s k).orReg Reg.RAS_SITE_ACTIVE (2 ^ k)).logSpare 1 k (siteIsland k)
      | [] => (map s 0xFF).logNoSpare 1

/-- The units that fail a test before CAP_VALID: kind 1 a site, 2 a port, 3 a management core, 4 a video core. A core reset tests
sites and video cores only. -/
def bootTests (s : State) (sys : Bool) (fails : List (Nat × Nat)) : State :=
  let v := s.rd Reg.RAS_CORE_STATE
  (fails.filter (fun e => sys || e.1 == 1 || e.1 == 4)).foldl (fun s (kind, u) =>
    match kind with
    | 1 => s.siteFails u
    | 2 => if s.portRetired u || decide (18 ≤ u) then s else s.portRetireNow u
    | 3 => if bit (v / 16) u || decide (4 ≤ u) then s else s.mgmtRetireNow u
    | 4 => if bit (v / 65536) u || decide (5 ≤ u) || !s.fuse.video then s else s.vidRetireNow u
    | _ => s) s

/-- Steps 7 and 8: the stacks, whose patrol runs from then on (06 R219), the remaps, and CAP_UNITS written whole (00 R9). -/
def capLoad (s : State) (sys : Bool) (fails : List (Nat × Nat)) : State :=
  let up := fun (k : Nat) => bit s.stackMask k && (if sys then !fails.contains (5, k) else s.fd (Fld.HBM_STATUS_STATE k) == 2)
  let ready := maskOf ((List.range 8).filter up)
  let s := (List.range 8).foldl (fun s k =>
    s.wr (Reg.HBM_STATUS k) (if !bit s.stackMask k then 0 else if bit ready k then 2 ^ 31 + 2 else 3)) s
  let s := (if sys then s.storeRemaps else s).remapCounts
  let cores := (bitsOf (bits (s.rd Reg.RAS_CORE_STATE) 8 5) 5).length
  s.wr Reg.CAP_UNITS (2 ^ 31 + cores * 2 ^ 15 + b2n s.fuse.macsec * 2 ^ 14 + 0x3E00 + b2n s.fuse.video * 256 + ready)

/-! ## Levels and recovery (18 R599, R681) -/

/-- The levels that the module reports; IDENT goes out again when they change (09 R323). -/
def setLevels (s : State) (proto num : Nat) : State :=
  if s.fd Fld.ATY_FAB_STATUS_PROTO_LEVEL = proto && s.fd Fld.ATY_FAB_STATUS_NUMERICS_LEVEL = num then s
  else ((s.fw Fld.ATY_FAB_STATUS_PROTO_LEVEL proto).fw Fld.ATY_FAB_STATUS_NUMERICS_LEVEL num).identAll

/-- Recovery mode entered; after a failure it serves both entry points. -/
def recover (s : State) (failed : Bool) : State :=
  let s := (s.updRst (fun x => { x with recFail := failed, image := [] })).setLevels 1 0
  (s.fw Fld.RST_STATUS_STAGE 7).healthCheck

/-! ## Management firmware starts (18 R595, R611, R612) -/

/-- The opcodes that configuration records may have (18 R611). -/
def cfgOpcode (op : Nat) : Bool :=
  op == 0x0401 || op == 0x0611 || [0x0400, 0x0402, 0x0A00, 0x0A01, 0x0A10, 0x0A11, 0x0A12, 0x0700, 0x0612].any (isForm op)

/-- Whether a packet may be a configuration record. -/
def cfgRecordOk (p : Packet) : Bool := cfgOpcode p.opcode.toNat && p.execTime == 0 && !p.ext

/-- A record's command run on the MCC. -/
def cfgExec (s : State) (p : Packet) : State :=
  nextOr s (match p.base with
    | 0x0400 => execAtyFabricCfg .mcc p s
    | 0x0401 => execAtyRouteSet .mcc p s
    | 0x0402 => execAtyPortCtl .mcc p s
    | 0x0A00 => execClkSrcSet .mcc p s
    | 0x0A01 => execClkSscSet .mcc p s
    | 0x0A10 => execPwrPstateSet .mcc p s
    | 0x0A11 => execPwrFixedSet .mcc p s
    | 0x0A12 => execPwrCapSet .mcc p s
    | 0x0700 => execPairConfig .mcc p s
    | 0x0611 => execPltGateSet .mcc p [] none s
    | _ => execPltFilterSet .mcc p s)

/-- A packet without its IRQ flag. -/
def quiet (p : Packet) : Packet := { p with flags := p.flags &&& 0xFFFE#16 }

/-- One record replayed: the MCC's own registers stay, and a failing status is recorded. -/
def cfgReplay (s : State) (p : Packet) : State :=
  let p := quiet p
  let old := s.mcc
  let status := s.rd Reg.MCC_STATUS
  let job := { s.newJob .mcc false p with due := true }
  let s := ({ s with mcc := { s.mcc with cur := some job, reply := 0 } }).cfgExec p
  let st := bits s.mcc.reply.toNat 0 16
  let s := ({ s with mcc := old }).wr Reg.MCC_STATUS status
  if st = Sts.ok then s else s.troubleCmd st p.opcode.toNat 0xFFFF 0 77 0

/-- The configuration store applied (18 R611, R612): converted at a first start where its version is older, skipped where the
image does not read it. -/
def cfgApply (s : State) : State :=
  match s.cfgCurrent with
  | none => s
  | some (_, v, _, rs) =>
    let w := fieldOf s.rst.image 16 2
    let lo := fieldOf s.rst.image 18 2
    if v < lo || w < v then
      if s.fb Fld.RST_CFG_STATUS_SKIPPED then s
      else (s.fbw Fld.RST_CFG_STATUS_SKIPPED true).troubleRule 0x0B 612 0 77 0
    else
      let old := s.rst.first && decide (v < w)
      let rs := if old then Config.cfgConvert v w rs else rs
      let s := if old then
          let (n, bs) := s.cfgNext w rs
          (s.setSector n bs).fbw Fld.RST_CFG_STATUS_MIGRATED true
        else s
      (packetsOf rs).foldl cfgReplay s

/-- The anti-rollback count advanced at the first start after a system reset (18 R595). -/
def rollbackAdvance (s : State) : State :=
  let v := fieldOf s.rst.image 12 1
  if s.rst.first && decide (s.sec.otp.rollback < v) then
    (s.updSec (fun x => { x with otp := { x.otp with rollback := v } })).fw Fld.SEC_STATUS_ROLLBACK v
  else s

/-- Management firmware starts and reaches RUNNING (18 R597 step 5; 17 R589). -/
def firmware (s : State) : State :=
  let s := (s.fw Fld.RST_STATUS_STAGE 5).cfgApply.rollbackAdvance
  let s := (s.fw Fld.RST_BKP0_BOOT_ATTEMPTS 0).fw Fld.RST_STATUS_STAGE 6
  (s.updRst (fun x => { x with first := false })).updShow.healthCheck.pairFailEnd 5

/-- Boot from the image region, or after a core reset from the copies in the HBM reserve (18 R597, R598). -/
def bootOn (s : State) : State :=
  let flash := s.rst.image.isEmpty
  let m := if flash then s.imageManifest else s.rst.image
  if flash && ((s.manFail m).isSome || (s.compFail 32 m false).isSome) then s.recover true
  else
    let s := s.updRst (fun x => { x with image := m })
    let s := (s.wr Reg.RST_IMG_VERSION (fieldOf m 8 4)).wr Reg.RST_IMG_LEVELS (manLevels m)
    let s := if flash then s.fbw Fld.SEC_STATUS_UPDATE_PENDING_BOOT false else s
    let s := ((s.wr Reg.SEC_MEAS_STATE 0).setLevels (fieldOf m 13 1) (fieldOf m 14 1)).fw Fld.RST_STATUS_STAGE 4
    if s.boot = 2 then s.updShow.healthCheck else s.firmware

/-- A commit taken up again (18 R607). `own` says whether the ROM does it after a reset. -/
def commitResume (s : State) (own : Bool) : State :=
  let s := s.fw Fld.RST_UPD_POS_RESUMES (satAdd 255 (s.fd Fld.RST_UPD_POS_RESUMES) 1)
  match s.commitNext ⟨1, 1, 0, 0, [], 0, false, false, own, false⟩ with
  | .go j => s.flashStart j
  | _ => s

/-- What follows CAP_VALID (18 R596, R597): recovery mode, the resumption of a commit, or the boot. -/
def afterCap (s : State) (recovery : Bool) : State :=
  let cores := ((List.range 4).filter (fun c => !bit (s.rd Reg.RAS_CORE_STATE) (4 + c))).length
  if recovery || decide (cores < 2) then s.recover true
  else if s.boot < 2 then s.recover false
  else if s.journalOpen then
    if s.stagingMatches then s.commitResume true
    else ({ s with ras := { s.ras with holders := s.ras.holders.erase ⟨actResume, 0, 0⟩ } }).maintPump.recover true
  else s.bootOn

/-- Whether BOOT_ATTEMPTS calls for recovery mode (17 R589). -/
def attemptsOut (s : State) : Bool := decide (4 ≤ s.fd Fld.RST_BKP0_BOOT_ATTEMPTS)

/-- A release (17 R582, R583) from steps 1 to 9 on, with what follows. -/
def resetOut (s : State) (sys : Bool) (fails : List (Nat × Nat)) (retOk : Bool) : State :=
  let s := s.updRst (fun x => { x with level := 0 })
  let s := if sys then s.strapSample.otpRead else s
  let s := (s.retentionCheck retOk).fw Fld.RST_STATUS_STAGE 1
  let s := if s.journalOpen && decide (2 ≤ s.boot) && !s.attemptsOut then s.maintTake ⟨actResume, 0, 0⟩ else s
  let s := (if sys then s.mapsLoad.phasesLoad else s).clocksLoad
  let s := ((s.fw Fld.RST_STATUS_STAGE 2).bootTests sys fails).clocksLoad
  let s := (s.capLoad sys fails).fw Fld.RST_STATUS_STAGE 3
  let s := s.fw Fld.PAIR_STATUS_POS (s.fd Fld.RST_STRAP_CODE % 2)
  let s := s.fbw Fld.PLT_STATUS_LISTEN_ONLY s.pins.listenOnly
  let s := if sys then
      let s := s.fbw Fld.ATY_FAB_STATUS_ELIGIBLE (bit (s.fd Fld.RST_STRAP_CODE) 1)
      let ps := (List.range 18).filter (fun p => s.portState p == pDown || s.portState p == pTrain)
      let s := ps.foldl (fun s p => (s.portTrain p true).updLink (s.portLink p) (fun x => { x with spare := none })) s
      s.claimAnew
    else s
  let s := if s.fb Fld.SEC_STATUS_SCRUB_REQUIRED then s.scrubStart else s
  s.afterCap s.attemptsOut

/-! ## The end of flash work -/

/-- Whether an activity is a commit's. -/
def commitAct (j : FlashJob) : Activity := ⟨if j.resume then actResume else actCommit, 0, 0⟩

/-- The loader's work has ended: the token released, the resumption followed by the boot, the command answered. -/
def flashDone (s : State) (j : FlashJob) (written : Nat) : State :=
  let s := s.updRst (fun x => { x with job := none })
  match j.kind with
  | 0 => s.updShow.mccReply (.ok s.stagedPieces.length 0)
  | 1 =>
    let s := (s.fbw Fld.SEC_STATUS_UPDATE_PENDING_BOOT true).maintRelease (commitAct j)
    if j.resume then s.updShow.bootOn
    else
      let s := s.updShow.mccReply (.ok written (fieldOf s.imageManifest 8 4))
      if s.stage = 7 then (s.fw Fld.RST_BKP0_BOOT_ATTEMPTS 0).resetGo 2 true else s
  | _ => s.updShow.mccReply .done

/-- A sector fails its read-back for good (18 R606). -/
def flashBad (s : State) (j : FlashJob) (sector : Nat) : State :=
  let s := s.updRst (fun x => { x with job := none })
  if j.kind = 1 then
    let s := (s.maintRelease (commitAct j)).updShow
    if j.resume then s.recover true else s.mccReply (.errD stsUpdFlash sector)
  else s.updShow.mccReply (.errD stsUpdFlash sector)

/-- A pulse ends (17 R579, 18 R606). -/
def flashStep (s : State) (j : FlashJob) (good : Bool) : State :=
  let (s, n) := s.pulseEnd { j with pulse := false } good
  match s.rst.hold with
  | some level => (s.updRst (fun x => { x with job := none, hold := none })).resetGo level true
  | none =>
    if j.stop then
      let s := s.updRst (fun x => { x with job := none })
      (if j.kind = 1 then s.maintRelease (commitAct j) else s).updShow
    else match n with
      | .go j => (s.updRst (fun x => { x with job := some { j with pulse := !s.pfw } })).updShow
      | .done k => s.flashDone j k
      | .bad sector => s.flashBad j sector

/-! ## Staging and commit (18 R601 to R608) -/

/-- The manifest of piece 0 checked and the piece's write begun. -/
def stageBegin (s : State) (piece : Nat) (data : List Byte) : State × Option Ans :=
  let m := data.take 4096
  match (if piece = 0 then s.manFail m else none) with
  | some k => (s, some (.errD stsUpdManifest k))
  | none =>
    let fresh := piece == 0 && (match s.stagedManifest with | some x => x != m | none => false)
    (s.flashStart ⟨0, if fresh then 0 else 1, 0, 0, data, piece, false, false, false, fresh⟩, none)

/-- Items 8 to 11 of 18 R605, and the start of the commit. A commit from recovery mode writes a new journal (R608). -/
def commitBegin (s : State) : State × Option Ans :=
  let rec_ := decide (s.stage = 7)
  if s.journalOpen && !rec_ then
    if s.stagingMatches then ((s.maintTake ⟨actCommit, 0, 0⟩).commitResume false, none) else (s, some (.err stsUpdHash))
  else match s.missingPiece with
    | some p => (s, some ⟨stsUpdIncomplete, 0, 0, p, false⟩)
    | none =>
      let m := s.flashRead 512 0 4096
      match s.manFail m with
      | some k => (s, some (.errD stsUpdManifest k))
      | none =>
        if !rec_ && !s.cfgFits m then (s, some (.errD stsUpdManifest 6))
        else match s.compFail 512 m true with
          | some (i, c) =>
            let ps := rangeFrom (c.off / 65536) ((c.off + max 1 c.size - 1) / 65536 + 1 - c.off / 65536)
            ((ps.foldl (fun s p => s.appendRecord false p) s).updShow, some ⟨stsUpdHash, i, 0, c.off / 65536, false⟩)
          | none =>
            ((s.maintTake ⟨actCommit, 0, 0⟩).flashStart
              ⟨1, 0, 0, 0, journalBytes (manSectors m) (sha384 m), 0, false, false, false, false⟩, none)

/-- The CFG_VERSION that UPD_CFG_SET writes: the running image's, in recovery mode the store's. -/
def cfgVersion (s : State) : Nat :=
  if s.rst.image.isEmpty then (match s.cfgCurrent with | some (_, v, _) => v | none => 1) else fieldOf s.rst.image 16 2

end State

open State

/-! ## Commands -/

/-- UPD_STAGE (18 R601 to R604). Over I3C the piece follows the packet (R600). -/
def execUpdStage (via : Via) (p : Packet) (far : List Host.Cell) (ue : Option Nat) (s : State) :
    Host.Outcome State Fault Refusal :=
  let piece := p.u16 16
  let i3c := fun (s : State) => match s.mcc.cur with | some j => j.i3c | none => false
  .next (s.runRow via p (p.base == 0x0B10)
    (fun s => firstFail [(decide (479 < piece) || (i3c s && s.mcc.extra.length != 65536) ||
        (match s.stagedManifest with | none => piece != 0 | some m => piece != 0 && decide (manSectors m ≤ piece)), .param),
      (s.journalOpen, .refuse 0x0B07), (decide (16384 ≤ s.recordsUsed), .refuse 0x0B09)])
    (fun s =>
      if i3c s then s.stageBegin piece s.mcc.extra
      else match s.getGlobal mccUnit (p.u64 24) 65536 far ue with
        | (s, .error e) => (s, some (accessAns e))
        | (s, .ok bs) => s.stageBegin piece bs))

/-- UPD_COMMIT (18 R605). -/
def execUpdCommit (via : Via) (p : Packet) (s : State) : Host.Outcome State Fault Refusal :=
  .next (s.runRow via p (p.base == 0x0B11)
    (fun s => (firstFail [(s.rst.job.isSome, .err Sts.busy), (s.lc == 2, .refuse 0x0B05), (s.pins.maintInhibit, .refuse 0x0B01),
        (s.pfw, .refuse 0x0B06), (!s.fb Fld.PWR_STATUS_HOLDUP_FULL, .refuse 0x0B03),
        (s.fb Fld.PWR_STATUS_INPUT_LOW, .refuse 0x0B04)]).or
      ((s.maintRefused ⟨actCommit, 0, 0⟩).map (.errD Sts.maintConflict)))
    (fun s => s.commitBegin))

/-- UPD_ABANDON (18 R603, R604). -/
def execUpdAbandon (via : Via) (p : Packet) (s : State) : Host.Outcome State Fault Refusal :=
  .next (s.runRow via p (p.base == 0x0B12)
    (fun s => firstFail [(s.journalOpen, .refuse 0x0B07)])
    (fun s => (s.flashStart ⟨3, 0, 0, 0, [], 0, false, false, false, false⟩, none)))

/-- UPD_QUERY (18 Table 18-6). With every piece staged RESULT1 is open. -/
def execUpdQuery (via : Via) (p : Packet) (s : State) : Host.Outcome State Fault Refusal :=
  let dest := p.u64 16
  .next (s.runRow via p (p.base == 0x0B13) (fun _ => none)
    (fun s =>
      let map := leBytes 64 (s.stagedPieces.foldl (fun m k => m + 2 ^ k) 0 % 2 ^ 480)
      match (if dest = 0 then (s, none) else s.putGlobal mccUnit dest map) with
      | (s, some e) => (s, some (accessAns e))
      | (s, none) => match s.missingPiece with
        | some k => (s, some (.ok (s.rd Reg.RST_UPD_STATUS) k))
        | none => let (v, s) := s.open_ 64; (s, some (.ok (s.rd Reg.RST_UPD_STATUS) v))))

/-- UPD_CFG_SET (18 R610, R611). -/
def execUpdCfgSet (via : Via) (p : Packet) (far : List Host.Cell) (ue : Option Nat) (s : State) :
    Host.Outcome State Fault Refusal :=
  let n := p.u16 24
  .next (s.runRow via p (p.base == 0x0B14)
    (fun _ => firstFail [(decide (1023 < n), .param)])
    (fun s => match s.getGlobal mccUnit (p.u64 16) (64 * n) far ue with
      | (s, .error e) => (s, some (accessAns e))
      | (s, .ok bs) => match (packetsOf bs).findIdx? (fun q => !cfgRecordOk q) with
        | some i => (s, some ⟨Sts.badParam, 0, 0, i, false⟩)
        | none =>
          let (slot, data) := s.cfgNext s.cfgVersion bs
          (s.flashStart ⟨2, 0, 0, 0, data, slot, false, false, false, false⟩, none)))

/-! ## Events -/

/-- A flash pulse ends (17 R579; 18 R601, R606); `good` is what the read-back finds. -/
def execFlashPulseEnd (good : Bool) (s : State) : Host.Outcome State Fault Refusal :=
  .next (match s.rst.job with
    | some j => if j.pulse then s.flashStep j good else s
    | none => s)

/-- A reset is released (17 R582, R583). `fails` lists the units that fail their tests (5 a stack), `retOk` says whether the
retention domain's check word holds, and `copiesOk` whether the copies in the HBM reserve are sound (18 R598): where not, a core
reset becomes a system reset. -/
def execResetRelease (fails : List (Nat × Nat)) (retOk copiesOk : Bool) (s : State) : Host.Outcome State Fault Refusal :=
  .next (
    if s.rst.level = 0 || !s.pins.perst || s.rst.unpowered || s.rst.tripped then s
    else if s.rst.level = 2 then s.resetOut true fails retOk
    else if !copiesOk && !s.rst.image.isEmpty then s.resetGo 2 true
    else s.resetOut false fails retOk)

end Sys2Proof.Machine
end

