-- ==== Sys2Proof/Machine/Ras.lean ====
section
/-! DEFINITION. Reliability and maintenance (19): retirement on command, self-tests, tile moves, management cores, the RAS store,
the spill of the trouble log, and the messages of the tray's controller. -/

namespace Sys2Proof.Machine

/-- STS_RAS_TEST_FAIL (19 R638). -/
def stsRasTestFail : Nat := 0x0C00

namespace State

/-! ## Units of KIND 1 to 4 -/

/-- The units of a kind. -/
def unitCount (kind : Nat) : Nat := match kind with | 1 => 36 | 2 => 18 | 3 => 4 | 4 => 5 | _ => 0

/-- Whether a unit is retired, or marked for it. -/
def unitRetired (s : State) (kind u : Nat) : Bool :=
  match kind with
  | 1 => bit (s.rd Reg.RAS_SITE_RETIRED) u
  | 2 => s.portRetired u
  | 3 => bit (s.rd Reg.RAS_CORE_STATE) (4 + u)
  | _ => bit (s.rd Reg.RAS_CORE_STATE) (16 + u)

/-- Whether a unit is a spare: not in service and not retired. -/
def unitSpare (s : State) (kind u : Nat) : Bool :=
  !s.unitRetired kind u && (match kind with
    | 1 => !bit (s.rd Reg.RAS_SITE_ACTIVE) u
    | 2 => s.portState u == pSpare
    | 3 => !bit (s.rd Reg.RAS_CORE_STATE) u
    | _ => !bit (s.rd Reg.RAS_CORE_STATE) (8 + u))

/-- A spare retired without entering service (19 R621). -/
def spareRetire (s : State) (kind u : Nat) : State :=
  match kind with
  | 1 => ((s.orReg Reg.RAS_SITE_RETIRED (2 ^ u)).logRetired 1 u (siteIsland u)).healthCheck
  | 2 =>
    let s := (s.orReg Reg.RAS_PORT_STATE (2 ^ (32 + u))).setPort u pRetired
    ((s.setClk (portIsland u) false).logRetired 2 u (portIsland u)).healthCheck
  | 3 => s.mgmtRetireNow u
  | _ => (s.vidRetireNow u).healthCheck

/-- A unit that fails a test, retired. -/
def testRetire (s : State) (kind u : Nat) : State :=
  if s.unitRetired kind u then s else if s.unitSpare kind u then s.spareRetire kind u else s.retire kind u

/-- Whether a unit may be tested on command (19 R627). -/
def testable (s : State) (kind u : Nat) : Bool :=
  !s.unitRetired kind u && (match kind with
    | 1 => match s.tileOf u with
      | some t => s.ringState t == closed && !s.rimOwns t
      | none => true
    | 2 => [pDown, pFailed, pSpare].contains (s.portState u)
    | k => s.unitSpare k u)

/-! ## Tile moves (19 R622 to R624) -/

/-- A move in progress of a logical tile. -/
def moveOf (s : State) (t : Nat) : Option Move := s.ras.moves.find? (fun m => m.tile == t)

/-- Whether a tile is quiesced (01 R26, 19 R622). -/
def quiesced (s : State) (t : Nat) : Bool :=
  (s.engOf t).cur.isNone && (s.tile t).sb.isEmpty && (s.tile t).wait.isNone && (s.tile t).exc.isNone

/-- The spare site that a tile moves to (01 R25, R27). -/
def moveSpare (s : State) (t site : Nat) : Option Nat :=
  let west := fun k => decide (k < 18)
  let free := (List.range 36).filter (fun k => s.unitSpare 1 k && !s.ras.moves.any (fun m => m.spare == k))
  let own := free.filter (fun k => west k == west site)
  (if s.rimOwns t then free.filter (fun k => !west k) else own ++ free).head?

/-- A move's record replaced, or removed. -/
def setMove (s : State) (t : Nat) (m : Option Move) : State :=
  { s with ras := { s.ras with moves := s.ras.moves.filterMap (fun x => if x.tile == t then m else some x) } }

/-- RAS_TILE_MAP's entry of a tile. -/
def setSite (s : State) (t site : Nat) : State :=
  s.wr (Reg.RAS_TILE_MAP (t / 4)) (setBits (s.rd (Reg.RAS_TILE_MAP (t / 4))) (8 * (t % 4)) 8 site)

/-- The old site leaves service: its bit of RAS_SITE_ACTIVE cleared, its island gated, its record written. -/
def siteLeaves (s : State) (site : Nat) : State :=
  let s := s.wr Reg.RAS_SITE_ACTIVE (clrBit (s.rd Reg.RAS_SITE_ACTIVE) site)
  (s.setClk (siteIsland site) false).logRetired 1 site (siteIsland site)

/-- Operations held at their homes delivered; those that a home still holds wait again. -/
def heldDeliver (s : State) : State :=
  let l := s.ecc.heldOps
  l.foldl (fun s e => s.performReq e.1 e.2) { s with ecc := { s.ecc with heldOps := [] } }

/-- The end of a move: the fence gone, the token released, held operations delivered, the ring served again. -/
def moveEnd (s : State) (m : Move) : State :=
  let s := (s.setMove m.tile none).updTile m.tile (fun x => { x with fenced := false, traps := [] })
  let s := if s.rimOwns m.tile then
      let s := if s.ras.moves.any (fun x => s.rimOwns x.tile) then s else s.laneHoldEnd 1
      { s with rim := { s.rim with resumeAt := s.now + 500000 } }
    else s
  (s.heldDeliver.maintRelease ⟨actRetire, 1, m.site⟩).startNext m.tile

/-- Marked units of a tile store as a copy delivers them: corrected where they can be, poisoned where not. -/
def moveMarks (s : State) (t : Nat) : State :=
  let lo := tileKey t 0
  let ms := s.marksIn lo (2 ^ 23)
  ms.foldl (fun s m =>
    let s := if m.outcome ≤ 1 then s.memWrite m.key (s.readCorrected m.key (unitSize m.key)) else s.setPoison m.key
    { s with ecc := { s.ecc with marks := s.ecc.marks.filter (fun x => x.key != m.key) } }) s

/-- What a tile move copies beside the store's lines (19 R623 step 4). -/
def moveRegs (s : State) (a b : Nat) : State :=
  let cp := fun (s : State) (f : Nat → Reg) => s.wr (f b) (s.rd (f a))
  let s := (List.range 32).foldl (fun s c => cp s (fun n => Reg.TILE_SYNC n c)) s
  cp (cp (cp s Reg.TILE_SYNC_OVF) Reg.TILE_NUMFLAGS) Reg.TILE_RO_CFG

/-! ## Management cores (19 R625) -/

/-- The semaphores that a management core holds are released. -/
def semsOf (s : State) (core : Nat) : State :=
  (List.range 32).foldl (fun s k =>
    if s.fb (Fld.DBG_SEM_HELD k) && s.fd (Fld.DBG_SEM_OWNER k) == 0x2F + core then
      ((s.fbw (Fld.DBG_SEM_HELD k) false).fbw (Fld.DBG_SEM_OWNER_HALTED k) false).fw (Fld.DBG_SEM_OWNER k) 0
    else s) s

/-! ## The log (19 R630, R631) -/

/-- The 32 bytes of a record (19 Table 19-5). -/
def recBytes (r : LogRec) : List Byte :=
  leBytes 8 r.time ++ leBytes 4 r.seq ++ leBytes 2 r.code ++ leBytes 1 r.sev ++ leBytes 1 r.island ++ leBytes 8 r.addr ++
    leBytes 8 r.data

/-- Whether the spill ring holds record SEQ. -/
def spilled (s : State) (seq : Nat) : Bool :=
  let next := s.rd Reg.RAS_LOG_SEQ
  decide (seq + 2048 < next) && decide (next ≤ seq + 2048 + 33554432)

/-- Records from SEQ on, oldest first. -/
def recordsFrom (s : State) (seq n : Nat) : List LogRec :=
  (s.log.filter (fun r => decide (seq ≤ r.seq) && decide (r.seq < seq + n))).reverse

/-! ## The RAS store (19 R628, R629) -/

/-- The bytes of an area that records may take. -/
def areaBytes : Nat := 851904

/-- A record appended to the active area, which is compacted when less than 64 KiB is free. -/
def storeAppend (s : State) (r : Nat) : State :=
  let full := fun (s : State) => ((s.fbw Fld.RAS_STORE_FULL true).trouble 0x0C83 0 77 0 0).healthCheck
  if s.fb Fld.RAS_STORE_FULL then s
  else
    let all := s.ras.store ++ [r]
    let live := all.eraseDups
    if areaBytes < 8 * live.length then full s
    else
      let compact := decide (areaBytes < 8 * all.length + 65536)
      let l := if compact then live else all
      let s := { s with ras := { s.ras with store := l } }
      let s := if compact then s.fbw Fld.RAS_STORE_AREA (!s.fb Fld.RAS_STORE_AREA) else s
      s.fw Fld.RAS_STORE_RECORDS l.length

/-! ## Sensors (19 R636, Table 19-7) -/

/-- The worst role of a paired service: FAILED, RESYNC, STANDBY, ACTIVE, OFF. -/
def worstRole (s : State) : Nat :=
  match [4, 1, 2, 3].find? (fun r => (List.range 64).any (fun n => s.svcRole n == r)) with
  | some r => r
  | none => 0

/-- The state sensors. -/
def stateSensors (s : State) : List (Nat × Nat) :=
  [(10, s.fd Fld.RAS_HEALTH_STATE),
   (11, s.fd Fld.SEC_STATUS_LC * 8 + s.fd Fld.SEC_STATUS_TENANT_OPEN * 4 + s.fd Fld.SEC_STATUS_SCRUB_REQUIRED * 2 +
     b2n s.sec.otp.entropyFail),
   (12, s.fd Fld.PAIR_STATUS_PARTNER * 8 + s.worstRole)]

/-- The numeric sensors. -/
def numericSensors (s : State) : List (Nat × Nat) :=
  let hot := fun (l : List Nat) => l.foldl max 0
  [(1, s.fd Fld.PWR_POWER_AVG_10MS), (2, s.fd Fld.PWR_INPUT_V_10MV),
   (3, hot ((List.range 100).map (fun i => s.fd (Fld.PWR_ISL_TEMP_C i)))),
   (4, hot ((List.range 8).map (fun k => s.fd (Fld.HBM_STATUS_TEMP_C k)))), (5, s.rd Reg.PWR_E_MODULE / 10 ^ 6)] ++
    s.sparesLeft.zipIdx.map (fun (n, i) => (13 + i, n))

end State

open State

/-! ## Commands (19 R638) -/

/-- RAS_RETIRE (19 R620, Table 19-2). It answers when the unit is marked. -/
def execRasRetire (via : Via) (p : Packet) (s : State) : Host.Outcome State Fault Refusal :=
  let kind := p.u8 16
  let u := p.u8 17
  .next (s.runRow via p (p.base == 0x0C00)
    (fun s => firstFail [(kind == 4 && !s.fuse.video, .err Sts.unitAbsent), (decide (unitCount kind ≤ u), .param),
      (s.pins.maintInhibit, .refuse 0x0C03), (s.unitSpare kind u || s.unitRetired kind u, .refuse 0x0C06)])
    (fun s => (s.retire kind u, some .done)))

/-- RAS_SELFTEST (19 R627). `fails` lists the units that fail, each with its kind, its number and the test. -/
def execRasSelftest (via : Via) (p : Packet) (fails : List (Nat × Nat × Nat)) (s : State) : Host.Outcome State Fault Refusal :=
  let kind := p.u8 16
  let u := p.u8 17
  let units := fun (s : State) => if p.expert then [(kind, u)]
    else [1, 2].flatMap (fun k => ((List.range (unitCount k)).filter (s.unitSpare k)).map (fun u => (k, u)))
  .next (s.runRow via p (p.base == 0x0C01)
    (fun s => (firstFail [(p.expert && kind == 4 && !s.fuse.video, .err Sts.unitAbsent),
        (if p.expert then decide (unitCount kind ≤ u) else !profileOne p, .param), (s.pins.maintInhibit, .refuse 0x0C03),
        (p.expert && !s.testable kind u, .refuse 0x0C06)]).or
      ((s.maintRefused ⟨actSelftest, 0, 0⟩).map (.errD Sts.maintConflict)))
    (fun s =>
      let bad := (units s).filterMap (fun e => fails.find? (fun f => f.1 == e.1 && f.2.1 == e.2))
      let s := bad.foldl (fun s f => s.testRetire f.1 f.2.1) s
      (s, some (match bad with | [] => .done | f :: _ => .errD stsRasTestFail f.2.2))))

/-- RAS_LOG_FETCH (19 R631). -/
def execRasLogFetch (via : Via) (p : Packet) (s : State) : Host.Outcome State Fault Refusal :=
  let seq := p.u32 16
  let n := p.u32 20
  .next (s.runRow via p (p.base == 0x0C02)
    (fun s => firstFail [(n == 0 || decide (65536 < n) || !s.spilled seq || !s.spilled (seq + n - 1), .param)])
    (fun s => match s.putGlobal mccUnit (p.u64 24) ((s.recordsFrom seq n).map recBytes).flatten with
      | (s, some e) => (s, some (accessAns e))
      | (s, none) => (s, some .done)))

/-! ## Events -/

/-- Queued activities start in order once the token allows it (19 R618). -/
def execMaintTokenRelease (s : State) : Host.Outcome State Fault Refusal := .next s.maintPump

/-- A tile marked for retirement is quiesced (19 R623): its spare site is woken; without a spare its tile is unmapped. -/
def execTileQuiesced (tile : Nat) (s : State) : Host.Outcome State Fault Refusal :=
  .next (match s.moveOf tile with
    | none => s
    | some m =>
      if m.quiet || !s.quiesced tile then s
      else match s.moveSpare tile m.site with
        | some k => (s.setMove tile (some { m with quiet := true, spare := k })).wakeQueue (siteIsland k) true
        | none =>
          let s := (s.siteLeaves m.site).setSite tile 0xFF
          ((s.clearSram (tileKey tile 0) (2 ^ 23)).logNoSpare 1).moveEnd m)

/-- t_QUIESCE passes (19 R623 step 2): the command in progress ends, the store buffer drains, the ring halts. -/
def execQuiesceTimeout (tile : Nat) (s : State) : Host.Outcome State Fault Refusal :=
  .next (match s.moveOf tile with
    | none => s
    | some m =>
      if m.quiet then s
      else
        let a : Ans := .errD Sts.aborted 0x0C04
        let ringed := match (s.engOf tile).cur with | some j => j.via == .ring tile | none => false
        let s := s.updTile tile (fun x => { x with prog := .empty, attn := .none, wait := none, fencing := false, engine := 0
                                                   exc := none })
        let s := s.ringFail tile a
        let s := if ringed || s.ringState tile == closed then s else s.ringHalt tile a.status 0
        s.pump tile)

/-- The copy to the spare site is complete (19 R623 steps 4 to 7). -/
def execTileMoveCopyDone (tile : Nat) (s : State) : Host.Outcome State Fault Refusal :=
  .next (match s.moveOf tile with
    | none => s
    | some m =>
      if !m.copying then s
      else
        let s := (s.moveMarks tile).moveRegs m.site m.spare
        let mine := fun (k : Nat) => decide (tileKey tile 0 ≤ k) && decide (k < tileKey tile 0 + 2 ^ 23)
        let s := { s with ecc := { s.ecc with
          remaps := s.ecc.remaps.filter (fun k => !mine k), words := s.ecc.words.filter (fun e => !mine e.1) } }
        let s := ((s.setSite tile m.spare).orReg Reg.RAS_SITE_ACTIVE (2 ^ m.spare)).siteLeaves m.site
        (s.logSpare 1 m.spare (siteIsland m.spare)).moveEnd m)

/-- A management core traps on an uncorrectable or poisoned fetch (19 R625; 06 Table 6-8): `off` is the byte offset in its
instruction store, and `mcc` says whether the MCC's command runs on it. A second trap within 24 hours retires it. -/
def execMgmtCoreTrap (core off : Nat) (poison mcc : Bool) (s : State) : Host.Outcome State Fault Refusal :=
  .next (if !bit (s.rd Reg.RAS_CORE_STATE % 16) core || s.ras.coreDown.contains core then s
    else
      let s := (s.urgent 4).trouble 0x0C88 3 77 0 (off * 2 ^ 32 + b2n poison)
      let s := s.semsOf core
      let s := if mcc then s.mccReply (.errD Sts.aborted 0x0C05) else s
      let again := s.ras.coreTraps.any (fun e => e.1 == core && decide (s.now < e.2 + dayNs))
      let s := { s with ras := { s.ras with coreTraps := (core, s.now) :: s.ras.coreTraps.filter (fun e => e.1 != core) } }
      if again then s.retire 3 core else { s with ras := { s.ras with coreDown := core :: s.ras.coreDown } })

/-- A management core is tested and restarted, or retired where the test fails (19 R625). -/
def execMgmtCoreRestart (core : Nat) (testOk : Bool) (s : State) : Host.Outcome State Fault Refusal :=
  .next (if s.ras.coreDown.contains core then
    let s := { s with ras := { s.ras with coreDown := s.ras.coreDown.filter (· != core) } }
    if testOk then s else s.retire 3 core
  else s)

/-- The periodic test of the spares (19 R627), once the token allows it; `fails` lists those that fail. -/
def execSpareTestPeriod (fails : List (Nat × Nat)) (s : State) : Host.Outcome State Fault Refusal :=
  let a : Activity := ⟨actSpareTest, 0, 0⟩
  .next (if s.ras.queue.contains a then s
    else if !s.maintHolds a && s.maintMustWait a then s.maintQueue a
    else
      let s := if s.maintHolds a then s else s.maintTake a
      let s := (fails.filter (fun e => decide (1 ≤ e.1) && decide (e.2 < unitCount e.1))).foldl (fun s e =>
        if s.unitSpare e.1 e.2 && (e.1 != 4 || s.fuse.video) then s.spareRetire e.1 e.2 else s) s
      s.maintRelease a)

/-- The next record goes to the RAS store (19 R628, R629). -/
def execRasPersist (s : State) : Host.Outcome State Fault Refusal :=
  .next (match s.ras.unsaved with
    | [] => s
    | r :: l => ({ s with ras := { s.ras with unsaved := l } }).storeAppend r)

/-- Changes of state sensors are sent to the tray's controller (19 R636). -/
def execPlatformEventMessage (s : State) : Host.Outcome State Fault Refusal :=
  let now := s.stateSensors
  let changed := now.filter (fun e => !s.ras.sensors.contains e)
  .next (changed.foldl (fun s e => s.emit (.pldm (Config.pldmBytes 1 [e.1, e.2])))
    { s with ras := { s.ras with sensors := now } })

/-- A PLDM request answered (19 R636) from the sensors of Table 19-7, unless a system reset is held (21 R662). -/
def execPldmRequest (m : List Byte) (s : State) : Host.Outcome State Fault Refusal :=
  .next (if s.rst.level = 2 then s
    else s.emit (.pldm (Config.pldmBytes 0 (m.map (·.toNat) ++ (s.numericSensors ++ s.stateSensors).map (·.2)))))

end Sys2Proof.Machine
end

