-- ==== Sys2Proof/Machine/MemRows.lean ====
section
/-! DEFINITION. The rows of memory integrity (06 R206, R209, R219 to R231): patrol, page retirement, MEM_SCRUB and MEM_ECC_TEST. -/

namespace Sys2Proof.Machine
namespace State

/-! ## Patrol (06 R219) -/

/-- Whether patrol passes over a unit: it is poisoned, carries a test mark, or is an SRAM line that is not valid. -/
def patrolSkips (s : State) (key : Nat) : Bool :=
  let u := protKey key
  s.ecc.poison.contains u || !(s.marksIn u (protSize key)).isEmpty || (spaceOf key != 0 && !s.ecc.valid.contains u)

/-- Whether a key lies in a memory that is there to be patrolled. -/
def patrolled (s : State) (key : Nat) : Bool :=
  match spaceOf key with
  | 0 => decide (offOf key % 2 ^ 36 < stackEnd) && s.stackOn (offOf key / 2 ^ 36)
  | 1 => s.tileOn (offOf key / 2 ^ 23)
  | 2 => s.sliceOn (offOf key / 2 ^ 24)
  | _ => false

/-- One read of patrol or of MEM_SCRUB. -/
def patrolRead (s : State) (key : Nat) (seen : Seen) : State :=
  if !s.patrolled key || s.patrolSkips key then s
  else
    let s := if spaceOf key = 0 then s.pmuEvent (keyGroup key) 0x104 1 none else s
    match seen with
    | .clean => s
    | .ce => s.onCe (protKey key)
    | .ue => (s.onUe (protKey key)).logUe ⟨8, s.keyIsland key, 0⟩ (ownAddr (protKey key)) false

/-! ## Page retirement (06 R222) -/

/-- Marked blocks of a page as the copy delivers them. -/
def pageMarks (s : State) (page : Nat) : State :=
  (s.marksIn page 65536).foldl (fun s m =>
    let s := if m.outcome ≤ 1 then s.memWrite m.key (s.readCorrected m.key (unitSize m.key)) else s.setPoison m.key
    { s with ecc := { s.ecc with marks := s.ecc.marks.filter (fun x => x.key != m.key) } }) s

/-- The copy of a page has ended: the remap entry, its record, and the held accesses. -/
def retireDone (s : State) (r : Retire) : State :=
  let st := offOf r.page / 2 ^ 36
  let sk := offOf r.skein / 2 ^ 36
  let s := s.pageMarks r.page
  let s := { s with ecc := { s.ecc with
    retiring := s.ecc.retiring.filter (fun x => x.page != r.page), pageMap := (r.page, r.skein) :: s.ecc.pageMap } }
  let s := s.fw (Fld.HBM_REMAP_STATE_RETIRED st) (s.fd (Fld.HBM_REMAP_STATE_RETIRED st) + 1)
  let s := s.fbw (Fld.HBM_STATUS_RETIRE_ACTIVE st) (s.ecc.retiring.any (fun x => offOf x.page / 2 ^ 36 == st))
  let s := s.trouble 0x0C80 0 (stackIsland st) (ownAddr r.page) (5 * 2 ^ 60)
  let s := s.persist (5 * 2 ^ 52 + (offOf r.skein % 2 ^ 36 - 0x880000000) / 65536 * 2 ^ 38 + st * 2 ^ 31 +
    offOf r.page % 2 ^ 36 / 65536 * 2 ^ 11 + sk * 2 ^ 8)
  s.healthCheck.heldDeliver

/-! ## MEM_SCRUB (06 R228) -/

/-- Whether a scrub selects a memory; bit 8 of the selection stands for SRAM. -/
def scrubSelects (sel key : Nat) : Bool := if spaceOf key = 0 then bit sel (offOf key / 2 ^ 36) else bit sel 8

/-- What a scrub has found, each a key and whether it is uncorrectable: the counts of units newly poisoned and corrected. -/
def scrubFinds (sel : Nat) : List (Nat × Bool) → State → State × Nat × Nat
  | [], s => (s, 0, 0)
  | (k, ue) :: l, s =>
    if scrubSelects sel k && s.patrolled k && !s.patrolSkips k then
      let (s, a, b) := scrubFinds sel l (s.patrolRead k (if ue then .ue else .ce))
      (s, a + b2n ue, b + b2n !ue)
    else scrubFinds sel l s

/-- The stacks of a scrub shown as active, or no longer. -/
def scrubShow (s : State) (sel : Nat) (b : Bool) : State :=
  (List.range 8).foldl (fun s k => if bit sel k then s.fbw (Fld.HBM_STATUS_SCRUB_ACTIVE k) b else s) s

/-- A scrub ended: the token released. -/
def memScrubEnd (s : State) : State :=
  match s.ecc.scrub with
  | none => s
  | some (sel, _, _) => (({ s with ecc := { s.ecc with scrub := none } }).scrubShow sel false).maintRelease ⟨actMemScrub, 0, 0⟩

/-! ## MEM_ECC_TEST (06 R229 to R231) -/

/-- Whether a target lies in one of the memories that a test may reach. -/
def eccTarget (s : State) (a : Nat) : Bool :=
  let k := memKey a
  s.isOwn (modOf a) && (match spaceOf k with
    | 0 => decide (offOf k / 2 ^ 36 < 8) && s.stackOk (offOf k / 2 ^ 36) && s.hbmAllowed 0 (offOf k) 32
    | 1 => decide (offOf k < 2 ^ 28)
    | 2 => decide (offOf k / 2 ^ 24 < 12)
    | _ => false)

/-- The marks that a target's unit holds. -/
def unitMarks (s : State) (k : Nat) : Nat :=
  let unit := fun (x : Nat) => (spaceOf x, offOf x / (match spaceOf x with | 0 => 2 ^ 36 | 1 => 2 ^ 23 | _ => 2 ^ 24))
  (s.ecc.marks.filter (fun m => unit m.key == unit k)).length

/-- A raw write. -/
def rawWrite (s : State) (k data check : Nat) : State :=
  let z := unitSize k
  let s := s.memWrite k (leBytes z data)
  { s with ecc := { s.ecc with
    marks := ⟨k, data % 2 ^ (8 * z), check⟩ :: s.ecc.marks.filter (fun m => m.key != k)
    valid := if z = 32 then s.ecc.valid else addOnce (protKey k) s.ecc.valid
    poison := if z = 32 then s.ecc.poison.filter (· != k) else s.ecc.poison } }

/-- A raw read: the stored check bits, the outcome of a normal read, and the data. What a poisoned or cleared unit stores is
open. -/
def rawRead (s : State) (k : Nat) : State × Nat × Nat × Nat :=
  let z := unitSize k
  let hbm := spaceOf k == 0
  let unknown := fun (s : State) (outcome : Nat) =>
    let (c, s) := s.open_ (if hbm then 16 else 8)
    let (d, s) := s.open_ (8 * z)
    (s, c, outcome, d)
  if !hbm && !s.ecc.valid.contains (protKey k) then unknown s 4
  else
    let poison := s.ecc.poison.contains (protKey k)
    match s.ecc.marks.find? (fun m => m.key == k) with
    | some m => (s, m.check, if poison then 3 else if m.outcome = 3 then 3 else min 2 m.outcome, m.data)
    | none =>
      if poison then unknown s 3
      else
        let d := ofLE (s.memRead k z)
        (s, Config.eccCheck hbm d, 0, d)

end State

open State

/-! ## Commands -/

/-- MEM_SCRUB (06 R228). -/
def execMemScrub (via : Via) (p : Packet) (s : State) : Host.Outcome State Fault Refusal :=
  let mask := fun (s : State) => if p.expert then p.u8 16 else maskOf ((List.range 8).filter s.stackOk)
  let sram := !p.expert || bit (p.u8 17) 0
  .next (s.runRow via p (p.base == 0x0C10)
    (fun s => (firstFail [((List.range 8).any (fun k => bit (mask s) k && !s.stackOk k), .err Sts.unitAbsent),
        (if p.expert then p.u8 18 == 0 || decide (100 < p.u8 18) else p.u8 19 != 1, .param)]).or
      ((s.maintRefused ⟨actMemScrub, 0, 0⟩).map (.errD Sts.maintConflict)))
    (fun s =>
      let sel := mask s + b2n sram * 256
      let s := s.maintTake ⟨actMemScrub, 0, 0⟩
      (({ s with ecc := { s.ecc with scrub := some (sel, 0, 0) } }).scrubShow sel true, none)))

/-- MEM_ECC_TEST (06 R229 to R231). -/
def execMemEccTest (via : Via) (p : Packet) (s : State) : Host.Outcome State Fault Refusal :=
  let a := p.u64 16
  let k := memKey a
  let z := unitSize k
  let op := if p.expert then p.u8 24 else 1
  let data := ofLE ((List.range 32).map (fun i => BitVec.ofNat 8 (p.u8 (32 + i))))
  .next (s.runRow via p (p.base == 0x0C11)
    (fun s => (firstFail [(s.eccTarget a && !s.patrolled k, .err Sts.unitAbsent),
        (decide (1 < op) || (op == 1 && decide (3 < p.u8 25)) || a % z != 0 || (!p.expert && p.u8 31 != 1) ||
          (op == 0 && z == 8 && p.u8 27 != 0), .param),
        (!s.eccTarget a, .fault (s.shownAddr a)), (s.tenantOpen, .refuse 0x0C01), (decide (64 ≤ s.unitMarks k), .refuse 0x0C02)]).or
      ((s.maintRefused ⟨actEccTest, 0, 0⟩).map (.errD Sts.maintConflict)))
    (fun s =>
      if op = 0 then (s.rawWrite k (data % 2 ^ (8 * z)) (p.u16 26), some .done)
      else
        let (s, c, o, d) := s.rawRead k
        (s, some (.ok (c + o * 65536) (if z = 32 then bits d (64 * p.u8 25) 64 else d)))))

/-! ## Events -/

/-- HBM patrol reads the block at an offset of a stack (06 R219). -/
def execPatrolScrubRead (stack off : Nat) (seen : Seen) (s : State) : Host.Outcome State Fault Refusal :=
  let k := hbmKey stack off
  .next (if decide (8 ≤ stack) || decide (stackEnd ≤ off) || !s.stackOn stack then s
    else
      let s := (s.fbw (Fld.HBM_STATUS_PATROL_ACTIVE stack) true).fw (Fld.HBM_PATROL_POS_PAGE stack) (off / 65536)
      s.patrolRead k seen)

/-- SRAM patrol reads a line (06 R219). -/
def execSramPatrolRead (key : Nat) (seen : Seen) (s : State) : Host.Outcome State Fault Refusal :=
  .next (if spaceOf key = 0 then s else s.patrolRead key seen)

/-- A patrol pass of a stack, or of the 64 KiB SRAM macro that holds a key, is complete (06 R214, R221). -/
def execPatrolPassComplete (key : Nat) (s : State) : Host.Outcome State Fault Refusal :=
  .next (if spaceOf key = 0 then
    let st := offOf key / 2 ^ 36
    if s.stackOn st then
      let s := { s with ecc := { s.ecc with pages := s.ecc.pages.filter (fun e => offOf e.1 / 2 ^ 36 != st) } }
      (s.fw (Fld.HBM_PATROL_POS_PASSES st) ((s.fd (Fld.HBM_PATROL_POS_PASSES st) + 1) % 4096)).fw (Fld.HBM_PATROL_POS_PAGE st) 0
    else s
  else { s with ecc := { s.ecc with words := s.ecc.words.filter (fun e => e.1 / 65536 != key / 65536) } })

/-- A corrected SRAM word is written back (06 R209): a word whose stored bits a test left correctable holds the corrected data
from now on, with its own check bits. -/
def execSramWriteback (key : Nat) (s : State) : Host.Outcome State Fault Refusal :=
  .next (match s.ecc.marks.find? (fun m => m.key == key / 8 * 8 && spaceOf m.key != 0 && m.outcome == 1) with
    | some m =>
      let s := s.memWrite m.key (s.readCorrected m.key 8)
      { s with ecc := { s.ecc with marks := s.ecc.marks.filter (fun x => x.key != m.key) } }
    | none => s)

/-- A page's copy ends (06 R222). -/
def execPageRetireDone (page : Nat) (s : State) : Host.Outcome State Fault Refusal :=
  .next (match s.ecc.retiring.find? (fun r => r.page == page) with
    | some r => s.retireDone r
    | none => s)

/-- MEM_SCRUB has passed every unit it selects (06 R228); `found` lists the keys with errors, and whether each is
uncorrectable. -/
def execMemScrubDone (found : List (Nat × Bool)) (s : State) : Host.Outcome State Fault Refusal :=
  .next (match s.ecc.scrub with
    | none => s
    | some (sel, _, _) =>
      let (s, a, b) := State.scrubFinds sel found s
      s.memScrubEnd.mccReply (.ok a b))

/-- The stacks' temperatures read into HBM_STATUS (06 R206). -/
def execHbmTempReadout (temps : List Nat) (s : State) : Host.Outcome State Fault Refusal :=
  .next ((List.range 8).foldl (fun s k =>
    match temps[k]? with
    | some t => if s.stackOn k then s.fw (Fld.HBM_STATUS_TEMP_C k) (min 255 t) else s
    | none => s) s)

end Sys2Proof.Machine
end

