-- ==== Sys2Proof/Machine/Attn.lean ====
section
/-! DEFINITION. The attention stage (07 R260 to R271): ATTN, ATTN_NORM and ATTN_BWD. -/

namespace Sys2Proof.Machine

/-! ## Parameters -/

/-- The packet of ATTN and ATTN_BWD (07 Table 7-5). -/
structure AttnOp where
  desc : Nat
  batch : Nat
  out : Nat
  entries : Nat
  layer : Nat
  outOp : Nat
  causal : Bool
  absorb : Bool
  fo : Nat
  stats : Nat
  tok : Option Tok
  pitch0 : Nat
  bwd : Bool
  deriving DecidableEq, Repr

/-- The parameters of a packet; a basic ATTN fixes its mode and format, which must be 0 in the packet (04 R145,
07 R273). -/
def AttnOp.ofPacket (p : Packet) : Option AttnOp :=
  let mode := p.u8 36
  let base : AttnOp := ⟨p.u32 16, p.u32 20, p.u64 24, p.u16 32, p.u16 34, bits mode 6 2, bit mode 5, bit mode 4,
    p.u8 37, p.u64 40, State.tokOf (p.u16 48) (p.u16 50), p.u32 52, p.base == 0x0232⟩
  if p.expert then some base
  else if p.u8 63 != 1 || p.u8 36 != 0 || p.u8 37 != 0 then none
  else some { base with outOp := 0, causal := true, absorb := true, fo := 3 }

/-- The attention descriptor (07 Table 7-6, R271). -/
structure AttnDesc where
  q : Nat
  wk : Nat
  wv : Nat
  h : Nat
  rowBytes : Nat
  dc : Nat
  dr : Nat
  d : Nat
  dv : Nat
  latFmt : Nat
  ropeFmt : Nat
  expFmt : Nat
  scale2 : Nat
  gbuf : Nat
  nslot : Nat
  gctr : Nat
  xctr : Nat
  xchg : Nat
  xn : Nat
  peers : Nat
  merge : Nat
  dO : Nat
  o : Nat
  gscale : Nat
  ancDq : Int
  ancDlat : Int
  dqAddr : Nat
  gradAddr : Nat
  gradPitch : Nat
  ancDrope : Int
  deriving DecidableEq, Repr

/-- The descriptor that 128 bytes hold. -/
def AttnDesc.ofBytes (bs : List Byte) : AttnDesc :=
  let n := ofLE bs
  let f := fun off len => bits n (8 * off) (8 * len)
  { q := f 0 4, wk := f 4 4, wv := f 8 4, h := f 12 2, rowBytes := f 14 2, dc := f 16 2, dr := f 18 2, d := f 20 2
    dv := f 22 2, latFmt := f 24 1, ropeFmt := f 25 1, expFmt := f 26 1, scale2 := f 28 4, gbuf := f 32 4
    nslot := f 36 2, gctr := f 38 1 % 32, xctr := f 39 1 % 32, xchg := f 40 4, xn := f 44 2, peers := f 48 4
    merge := f 52 4, dO := f 64 4, o := f 68 4, gscale := f 72 4, ancDq := sext 16 (f 76 2)
    ancDlat := sext 16 (f 78 2), dqAddr := f 80 8, gradAddr := f 88 8, gradPitch := f 96 4
    ancDrope := sext 16 (f 100 2) }

/-- A batch entry (07 Table 7-7). -/
structure AttnEnt where
  seq : Nat
  qRows : Nat
  qpos0 : Nat
  t0 : Nat
  t1 : Nat
  ts0 : Nat
  span : Nat
  deriving DecidableEq, Repr

/-- The entry that 32 bytes hold. -/
def AttnEnt.ofBytes (bs : List Byte) : AttnEnt :=
  let n := ofLE bs
  ⟨bits n 0 16, bits n 16 16, bits n 32 32, bits n 64 32, bits n 96 32, bits n 128 32, bits n 160 32⟩

namespace AttnEnt

/-- The first token of this participant in the span (07 R263). -/
def lo (e : AttnEnt) : Nat := max e.t0 e.ts0

/-- The end of this participant's tokens in the span. -/
def hi (e : AttnEnt) : Nat := max e.lo (min e.t1 (e.ts0 + e.span))

/-- `hs` (07 R263). -/
def hs (e : AttnEnt) : Nat := clog2 e.span

end AttnEnt

/-- An attention command with its descriptor and entries. -/
structure AttnCmd where
  x : AttnOp
  d : AttnDesc
  es : List AttnEnt
  deriving DecidableEq, Repr

namespace AttnCmd

/-- Query elements per head (07 R262). -/
def dq (c : AttnCmd) : Nat := if c.x.absorb then c.d.dc else c.d.d

/-- Output elements per head. -/
def dv (c : AttnCmd) : Nat := if c.x.absorb then c.d.dc else c.d.dv

/-- Rows per page. -/
def rpp (c : AttnCmd) : Nat := 65536 / c.d.rowBytes

/-- The place of the rope elements in a row (07 R260). -/
def ropeOff (c : AttnCmd) : Nat := linePitch c.d.dc (elemBits c.d.latFmt 0)

/-- The pitch of a query row. -/
def qPitch (c : AttnCmd) : Nat := linePitch (c.d.h * (c.dq + c.d.dr)) 16

/-- Query rows of all entries. -/
def rowsQ (c : AttnCmd) : Nat := c.es.foldl (fun n e => n + e.qRows) 0

/-- The first query row of an entry. -/
def rowBase (c : AttnCmd) (i : Nat) : Nat := (c.es.take i).foldl (fun n e => n + e.qRows) 0

/-- The bytes of an output row. -/
def outBytes (c : AttnCmd) : Nat := runBytes c.x.fo 0 (c.d.h * c.dv)

/-- The stride of output rows (04 R127). -/
def pitch (c : AttnCmd) : Nat := if c.x.pitch0 = 0 then linePitch (c.d.h * c.dv) (elemBits c.x.fo 0) else c.x.pitch0

/-- Each query row of the command: its number, its entry, its row in the entry. -/
def allRows (c : AttnCmd) : List (Nat × Nat × Nat) :=
  ((List.range c.es.length).map (fun i =>
    match c.es[i]? with
    | some e => (List.range e.qRows).map (fun r => (c.rowBase i + r, i, r))
    | none => [])).flatten

/-- Columns whose maxima the exchange publishes per entry (07 R267). -/
def cbCols (c : AttnCmd) : Nat := if c.x.absorb then c.dv else c.d.h * c.dv

/-! ## Checks (07 R265, R271) -/

/-- FMT 3, 5 or 6 (07 R260). -/
def fmtOk (f : Nat) : Bool := f == 3 || f == 5 || f == 6

/-- The parameter checks. -/
def paramBad (c : AttnCmd) (s : State) (t : Nat) : Bool :=
  let own := s.ownStore t c.x.out
  let outs := c.x.outOp == 0 && !c.x.bwd
  !fmtOk c.d.latFmt || !fmtOk c.d.ropeFmt || (!c.x.absorb && !fmtOk c.d.expFmt) ||
    !(1 ≤ c.x.fo && c.x.fo ≤ 9) || c.d.h == 0 || decide (128 < c.d.h) || c.d.dc == 0 || c.d.dr == 0 || c.d.d == 0 ||
    c.d.dv == 0 || decide (4096 < c.d.dc) || decide (4096 < c.d.d) || decide (4096 < c.d.dv) || decide (512 < c.d.dr) ||
    c.d.nslot == 0 || decide (128 < c.d.nslot) || c.d.xn == 0 || decide (256 < c.d.xn) || decide (1 < c.x.outOp) ||
    (c.x.outOp == 0 && decide (1 < c.d.xn) && !c.x.bwd) || (c.x.outOp == 1 && c.d.merge == 0) ||
    (c.x.stats != 0 && c.x.outOp == 1) || c.es.any (fun e => e.span == 0 || e.qRows == 0 || decide (4096 < e.qRows)) ||
    c.d.rowBytes == 0 || decide (65536 < c.d.rowBytes) || decide (c.d.rowBytes < c.ropeOff + runBytes c.d.ropeFmt 0 c.d.dr) ||
    (c.x.bwd && !c.x.absorb) || (match c.x.tok with | some k => spaceOf c.x.out != 1 || k.inc == 0 | none => false) ||
    (outs && !own && (c.x.out % 4 != 0 || c.pitch % 4 != 0 || decide (c.pitch < ceilDiv c.outBytes 4 * 4))) ||
    (outs && c.x.pitch0 == 0 && spaceOf c.x.out != 1)

/-- The input regions. -/
def ins (c : AttnCmd) : List State.Region :=
  [(c.d.q, c.rowsQ * c.qPitch)] ++
    (if c.x.absorb then [] else
      [(c.d.wk, c.d.h * c.d.d * linePitch c.d.dc (elemBits c.d.expFmt 0)),
       (c.d.wv, c.d.h * c.d.dv * linePitch c.d.dc (elemBits c.d.expFmt 0))]) ++
    (if c.x.bwd then [(c.d.dO, c.rowsQ * c.pitch), (c.d.o, c.rowsQ * c.pitch)] else [])

/-- The other regions of the tile store. -/
def others (c : AttnCmd) : List State.Region :=
  [(c.x.desc, 128), (c.x.batch, 32 * c.x.entries), (c.d.gbuf, c.d.nslot * (64 + 65536))] ++
    (if 1 < c.d.xn && !c.x.bwd then
      [(c.d.xchg, xchgDone (c.rowsQ * c.d.h) (c.es.length * c.cbCols) + 64), (c.d.peers, 8 * c.d.xn)] else []) ++
    (if c.x.outOp = 1 then [(c.d.merge, 16 * c.d.h)] else [])

/-- The local output region. -/
def outs (c : AttnCmd) (s : State) (t : Nat) : List State.Region :=
  (if c.x.outOp = 0 && !c.x.bwd && s.ownStore t c.x.out then
    [(offOf c.x.out % 2 ^ 23, (c.rowsQ - 1) * c.pitch + c.outBytes)] else []) ++
    (if c.x.stats != 0 && !c.x.bwd && s.ownStore t c.x.stats then [(offOf c.x.stats % 2 ^ 23, 64 * c.rowsQ * c.d.h)] else [])

/-- The exchange's fields as the matrix descriptor has them (04 R148). -/
def ext (c : AttnCmd) : TileExt := ⟨0, 0, 0, 0, 0, c.d.xchg, c.d.xn, c.d.xctr, c.d.peers, 0, 0⟩

/-! ## Gathers (07 R266) -/

/-- The gathers of the command: entry, page, first row slot, rows. -/
def jobs (c : AttnCmd) : List (Nat × Nat × Nat × Nat) :=
  ((List.range c.es.length).map (fun i =>
    match c.es[i]? with
    | none => []
    | some e =>
      if e.hi ≤ e.lo then []
      else (rangeFrom (e.lo / c.rpp) ((e.hi - 1) / c.rpp + 1 - e.lo / c.rpp)).map (fun pg =>
        let a := max e.lo (pg * c.rpp)
        (i, pg, a - pg * c.rpp, min e.hi ((pg + 1) * c.rpp) - a)))).flatten

/-- The gathers of a batch that fills the slots. -/
def batchJobs (c : AttnCmd) (k : Nat) : List (Nat × Nat × Nat × Nat) := (c.jobs.drop (k * c.d.nslot)).take c.d.nslot

/-- Batches. -/
def batches (c : AttnCmd) : Nat := ceilDiv c.jobs.length c.d.nslot

/-- A slot's offset. -/
def slot (c : AttnCmd) (j : Nat) : Nat := c.d.gbuf + 64 * c.d.nslot + 65536 * j

/-- The request of one gather, to the endpoint of the page's home unit. -/
def gatherReq (c : AttnCmd) (s : State) (t tag j : Nat) (g : Nat × Nat × Nat × Nat) : Req :=
  let (i, pg, r0, n) := g
  let sq := match c.es[i]? with | some e => e.seq | none => 0
  let ppl := match s.crlSeq sq with | some q => q.ppl | none => 1
  let u := s.crlHome sq (c.x.layer * ppl + pg)
  let data := leBytes 2 sq ++ leBytes 2 c.x.layer ++ leBytes 4 pg ++ leBytes 2 r0 ++ leBytes 2 n ++ leBytes 4 tag ++
    leBytes 8 (ownAddr (tileKey t (c.slot j))) ++ leBytes 8 (ownAddr (tileKey t (c.d.gbuf + 64 * j))) ++
    leBytes 2 (0x8000 + c.d.gctr) ++ leBytes 2 1 ++ List.replicate 28 0
  Req.make (ownAddr (3 * 2 ^ 48 + 2 ^ 47 + u)) s.srcMod t 64 opStore none data

/-- The script of a batch: its gathers, the wait that leaves GCTR at its previous value, and what follows. -/
def batchScript (c : AttnCmd) (s : State) (t base k : Nat) : List Micro :=
  let js := c.batchJobs k
  (List.range js.length).map (fun j =>
    .op (c.gatherReq s t (k * c.d.nslot + j) j (js.getD j (0, 0, 0, 0))) .none) ++
    [.wait c.d.gctr (base + js.length) js.length, .compute]

/-! ## Arithmetic (07 R260 to R264) -/

/-- A value rounded to BF16. -/
def bf16 (r : Res) : Val := readElem 3 (convert .rne 3 r).1

/-- A value rounded to FP32. -/
def fp32 (r : Res) : Val := readElem 1 (convert .rne 1 r).1

/-- A long-accumulator dot product with its own pre-scan anchor over its products (03 R106). -/
def dot (xs ys : List Val) : Val :=
  let a := anchorOf (maxExpo xs) (maxExpo ys) xs.length
  (((Acc.start a).addTerms (List.zipWith Val.mul xs ys)).1.toVal).1

/-- An exact quotient. -/
def quot : Val → Val → Res
  | .nan, _ => .nan
  | _, .nan => .nan
  | .inf _, .inf _ => .nan
  | .inf a, .fin b _ _ => .inf (a != b)
  | .fin a _ _, .inf b => .fin (a != b) ⟨0, 0, false⟩
  | .fin a m e, .fin b k f =>
    if k = 0 then (if m = 0 then .nan else .inf (a != b))
    else if m = 0 then .fin (a != b) ⟨0, 0, false⟩
    else
      let z := Nat.log2 k + 256
      .fin (a != b) ⟨m * 2 ^ z / k, e - f - z, m * 2 ^ z % k != 0⟩

/-- The BF16 elements of a run of the tile store. -/
def bf16Run (s : State) (t off n : Nat) : List Val :=
  (rawElems 16 n (s.readCorrected (tileKey t off) (2 * n))).map (readElem 3)

/-- The widened latent and rope elements of a row (07 R260, R261). -/
def latent (c : AttnCmd) (row : List Byte) : List Val × List Val :=
  (valsOf c.d.latFmt 0 c.d.dc row [], valsOf c.d.ropeFmt 0 c.d.dr (row.drop c.ropeOff) [])

/-- A column of an expander matrix. -/
def column (c : AttnCmd) (s : State) (t base j : Nat) : List Val :=
  let b := elemBits c.d.expFmt 0
  valsOf c.d.expFmt 0 c.d.dc (s.readCorrected (tileKey t (base + j * linePitch c.d.dc b)) (runBytes c.d.expFmt 0 c.d.dc)) []

/-- The key and value of a row for a head (07 R262). -/
def expand (c : AttnCmd) (s : State) (t h : Nat) (lat : List Val) : List Val × List Val :=
  if c.x.absorb then (lat, lat)
  else ((List.range c.d.d).map (fun j => bf16 (dot lat (c.column s t c.d.wk (h * c.d.d + j))).toRes),
    (List.range c.d.dv).map (fun j => bf16 (dot lat (c.column s t c.d.wv (h * c.d.dv + j))).toRes))

/-- The query of a row and head: the elements of `q` and of `qr`. -/
def query (c : AttnCmd) (s : State) (t r h : Nat) : List Val × List Val :=
  let off := c.d.q + r * c.qPitch + 2 * (h * (c.dq + c.d.dr))
  (bf16Run s t off c.dq, bf16Run s t (off + 2 * c.dq) c.d.dr)

/-- The score `y` of a query and a key (07 R263). -/
def score (c : AttnCmd) (q k : List Val) : Val :=
  fp32 ((fp32 (dot q k).toRes).mul (readElem 1 c.d.scale2)).toRes

/-- `key(x)` of an FP32 value (07 R267). -/
def keyOf (v : Val) : Nat :=
  if v.isNan then max32
  else
    let b := (convertVal .rne 1 v).1
    if bit b 31 then b ^^^ max32 else b ^^^ 0x80000000

/-- The maximum that a key stands for; none for 0 (07 R267). -/
def keyVal (k : Nat) : Option Val :=
  if k = 0 then none
  else if k = max32 then some .nan
  else some (readElem 1 (if bit k 31 then k ^^^ 0x80000000 else k ^^^ max32))

/-- Whether a token is visible to a query row of an entry. -/
def visible (c : AttnCmd) (e : AttnEnt) (r tok : Nat) : Bool := !c.x.causal || decide (tok ≤ e.qpos0 + r)

/-- The gathered rows of an entry: token and bytes. -/
def rowsOf (a : Attn) (i : Nat) : List (Nat × List Byte) := (a.rows.filter (fun r => r.1 == i)).map (·.2)

/-- The score of every visible token for a row and head, with the value elements. -/
def scores (c : AttnCmd) (s : State) (t : Nat) (a : Attn) (i r h : Nat) (e : AttnEnt) : List (Nat × Val × List Val) :=
  let (q, qr) := c.query s t (c.rowBase i + r) h
  ((rowsOf a i).filter (fun x => c.visible e r x.1)).map (fun (tok, bs) =>
    let (lat, rope) := c.latent bs
    let (k, v) := c.expand s t h lat
    (tok, c.score (q ++ qr) (k ++ rope), v))

/-- The exchange words of phase 1: a key per row and head, a word per entry and value column (07 R267). -/
def words (c : AttnCmd) (s : State) (t : Nat) (a : Attn) : List Nat × List Nat :=
  let keys := c.allRows.map (fun (_, i, r) => (List.range c.d.h).map (fun h =>
    match c.es[i]? with
    | none => 0
    | some e => match (c.scores s t a i r h e).map (fun x => x.2.1) with
      | [] => 0
      | y :: ys => keyOf (ys.foldl Val.max y)))
  let cbs := (List.range c.es.length).map (fun i =>
    let lats := (rowsOf a i).map (fun x => (c.latent x.2).1)
    let heads := if c.x.absorb then [0] else List.range c.d.h
    (heads.map (fun h =>
      let vs := lats.map (fun l => (c.expand s t h l).2)
      (List.range c.dv).map (fun j => xchgWord (maxExpo (vs.map (fun v => v.getD j .zero)))))).flatten)
  (keys.flatten, cbs.flatten)

/-- The anchor of a value column (07 R263): 0 where the column holds no nonzero value. -/
def numAnchor (e : AttnEnt) (w : Nat) : Int := if w = 0 then 0 else (w : Int) - 0x8000 + 1 + e.hs

/-- What a row and head sum to: the maximum, if any token is visible anywhere, den, num for each output element, and
flags. -/
structure Sums where
  m : Option Val
  den : Acc
  nums : List Acc
  fl : Nat
  deriving DecidableEq, Repr

/-- Nothing summed. -/
def Sums.none : Sums := ⟨.none, ⟨0, 0, true, 0⟩, [], 0⟩

/-- The sums of a row and head. -/
def sums (c : AttnCmd) (s : State) (t : Nat) (a : Attn) (row i r h : Nat) (e : AttnEnt) : Sums :=
  let m := keyVal (a.keys.getD (row * c.d.h + h) 0)
  let empty : Acc := ⟨0, 0, true, 0⟩
  match m with
  | none => ⟨none, empty, List.replicate c.dv empty, 0⟩
  | some mv =>
    let xs := c.scores s t a i r h e
    if xs.isEmpty then ⟨m, empty, List.replicate c.dv empty, 0⟩
    else
      let ps := xs.map (fun x =>
        (bf16 (Unary.apply .exp2 (fp32 (x.2.1.add mv.negate).toRes)).1, x.2.2))
      let (den, f0) := (Acc.start (1 + e.hs : Nat)).addTerms (ps.map (·.1))
      let nums := (List.range c.dv).map (fun j =>
        let w := a.cbs.getD (i * c.cbCols + (if c.x.absorb then j else h * c.dv + j)) 0
        (Acc.start (numAnchor e w)).addTerms (ps.map (fun p => p.1.mul (p.2.getD j .zero))))
      ⟨m, den, nums.map (·.1), nums.foldl (fun f x => f ||| x.2) f0 ||| Flag.on mv.isNan Flag.invalid⟩

/-- A stats record (07 Table 7-9). -/
def statsRec (m : Option Val) (parked : Bool) (den : Acc) : List Byte :=
  let mb := match m with | none => 0xFF800000 | some v => (convertVal .rne 1 v).1
  leBytes 4 mb ++ leBytes 1 (b2n parked) ++ List.replicate 27 0 ++ den.toBytes

/-! ## Output (07 R268) -/

/-- A merge list entry: the record of row 0, the stride between rows, the token. Each participant adds 1 to the counter
that ATTN_NORM's wait compares with the number of participants (assumption 46). -/
def mergeOf (c : AttnCmd) (s : State) (t h : Nat) : Nat × Nat × Option Tok :=
  let n := ofLE (s.readCorrected (tileKey t (c.d.merge + 16 * h)) 16)
  (bits n 0 64, bits n 64 32, if bit n 111 then some ⟨bits n 96 5, 1, 0⟩ else none)

/-- Every query row with its entry and the sums of its heads. -/
def allSums (c : AttnCmd) (s : State) (t : Nat) (a : Attn) : List (Nat × Nat × List Sums) :=
  c.allRows.map (fun (row, i, r) => (row, i, (List.range c.d.h).map (fun h =>
    match c.es[i]? with
    | some e => c.sums s t a row i r h e
    | none => Sums.none)))

/-- The merge of one head: its operations at every row's record, then, at the last head of a home, the fence and that
home's token. -/
def mergeHead (c : AttnCmd) (s : State) (t : Nat) (all : List (Nat × Nat × List Sums)) (h : Nat) : List Micro :=
  let mod := s.srcMod
  let homes := (List.range c.d.h).map (fun h => c.mergeOf s t h)
  let (base, stride, _) := homes.getD h (0, 0, none)
  let body := all.map (fun (row, _, xs) =>
    let x := xs.getD h Sums.none
    let r := base + row * stride
    let key := match x.m with | none => 0 | some v => keyOf v
    [Micro.op (Req.make r mod t 4 opMaxU32 none (leBytes 4 key)) .none,
     .op (Req.make (r + 32) mod t 32 opLaccAdd none x.den.toBytes) .none] ++
    (List.range x.nums.length).map (fun j =>
      .op (Req.make (r + 64 + 32 * j) mod t 32 opLaccAdd none (x.nums.getD j ⟨0, 0, true, 0⟩).toBytes) .none))
  let later := (homes.drop (h + 1)).any (fun x => s.homeOf x.1 == s.homeOf base)
  let first := (homes.find? (fun x => s.homeOf x.1 == s.homeOf base)).getD (base, stride, none)
  body.flatten ++ (if later then [] else tokenOps mod t base first.2.2)

/-- The output elements of a row's heads with their flags (07 R263, R264). -/
def outRow (c : AttnCmd) (xs : List Sums) : List (Nat × Nat) :=
  (xs.map (fun (x : Sums) =>
    match x.m with
    | none => List.replicate c.dv ((convertVal .rne c.x.fo .zero).1, 0)
    | some _ => x.nums.map (fun n =>
      let (nv, f1) := n.toVal
      let (dv, f2) := x.den.toVal
      let z := n.empty && x.den.empty
      let (b, f3) := convert .rne c.x.fo (if z then Val.zero.toRes else quot nv dv)
      (b, f1 ||| f2 ||| f3)))).flatten

/-- Records written one after another, locally or as stores; the first that fails is the exception. -/
def putRecs (t : Nat) : List (Nat × List Byte) → State → State × List Micro × Option Exc
  | [], s => (s, [], none)
  | (addr, bs) :: l, s =>
    if s.ownStore t addr then
      match s.localOut t (offOf addr % 2 ^ 23) bs with
      | (s, some e) => (s, [], some e)
      | (s, none) => putRecs t l s
    else
      let (s, ms, e) := putRecs t l s
      (s, storeOps s.srcMod t addr bs ++ ms, e)

/-- The outputs of the command in its two forms, with the flags. -/
def output (c : AttnCmd) (s : State) (t : Nat) (a : Attn) : State × List Micro × Nat × Option Exc :=
  let all := c.allSums s t a
  let accFl := all.foldl (fun f x => x.2.2.foldl (fun f (y : Sums) =>
    y.nums.foldl (fun f z => f ||| z.flags) (f ||| y.den.flags ||| y.fl)) f) 0
  if c.x.outOp = 1 then
    let ops := ((List.range c.d.h).map (c.mergeHead s t all)).flatten
    (s.tileEvent t 62 (all.length * c.d.h * (2 + c.dv)), ops, accFl, none)
  else
    let rows := all.map (fun (row, _, xs) => (c.x.out + row * c.pitch, c.outRow xs))
    let fl := rows.foldl (fun f r => r.2.foldl (fun f v => f ||| v.2) f) accFl
    match s.putRuns t 0 c.x.fo (rows.map (fun r => (r.1, r.2.map (·.1)))) with
    | (s, ms, some e) => (s, ms, fl, some e)
    | (s, ms, none) =>
      let recs := if c.x.stats = 0 then [] else (all.map (fun (row, i, xs) => (List.range xs.length).map (fun h =>
        let x := xs.getD h Sums.none
        (c.x.stats + 64 * (row * c.d.h + h), statsRec x.m (a.parked.contains i) x.den)))).flatten
      let (s, ns, z) := putRecs t recs s
      (s, ms ++ ns ++ (if z.isNone then tokenOps s.srcMod t c.x.out c.x.tok else []), fl, z)

/-! ## Backward (07 R271) -/

/-- A term of ATTN_BWD: the token, its row and head, `ds`, `pn`, the latent and the rope. -/
structure Bwd where
  tok : Nat
  row : Nat
  h : Nat
  ds : Val
  pn : Val
  lat : List Val
  rope : List Val
  deriving DecidableEq, Repr

/-- The terms of a row and head at each visible token. -/
def bwdTerms (c : AttnCmd) (s : State) (t : Nat) (a : Attn) (row i r h : Nat) (e : AttnEnt) : List Bwd :=
  let st := (a.stats.drop (64 * (row * c.d.h + h))).take 64
  let m := readElem 1 (ofLE (st.take 4))
  let l := ((Acc.ofBytes (st.drop 32)).toVal).1
  let off := row * c.pitch + 2 * h * c.dv
  let dO := bf16Run s t (c.d.dO + off) c.dv
  let o := bf16Run s t (c.d.o + off) c.dv
  let dd := fp32 (dot dO o).toRes
  let (q, qr) := c.query s t row h
  ((rowsOf a i).filter (fun x => c.visible e r x.1)).map (fun (tok, bs) =>
    let (lat, rope) := c.latent bs
    let y := c.score (q ++ qr) (lat ++ rope)
    let p := bf16 (Unary.apply .exp2 (fp32 (y.add m.negate).toRes)).1
    let pn := bf16 (quot p l)
    let dp := fp32 (dot dO lat).toRes
    let ds := bf16 ((pn.mul (dp.add dd.negate)).mul (readElem 1 c.d.gscale)).toRes
    ⟨tok, row, h, ds, pn, lat, rope⟩)

/-- All terms of an entry. -/
def entTerms (c : AttnCmd) (s : State) (t : Nat) (a : Attn) (i : Nat) (e : AttnEnt) : List Bwd :=
  ((List.range e.qRows).map (fun r =>
    ((List.range c.d.h).map (fun h => c.bwdTerms s t a (c.rowBase i + r) i r h e)).flatten)).flatten

/-- The sums that land at DQ_ADDR for an entry. -/
def dqSums (c : AttnCmd) (ts : List Bwd) (row : Nat) : List (Nat × Acc × Nat) :=
  let w := c.d.dc + c.d.dr
  ((List.range c.d.h).map (fun h =>
    let mine := ts.filter (fun (x : Bwd) => x.row == row && x.h == h)
    (List.range w).map (fun j =>
      (c.d.dqAddr + 32 * ((row * c.d.h + h) * w + j),
        (Acc.start c.d.ancDq).addTerms (mine.map (fun (x : Bwd) => x.ds.mul ((x.lat ++ x.rope).getD j .zero))))))).flatten

/-- The sums that land in a token's record. -/
def gradSums (c : AttnCmd) (s : State) (t : Nat) (e : AttnEnt) (ts : List Bwd) (tok : Nat) : List (Nat × Acc × Nat) :=
  let mine := ts.filter (fun (x : Bwd) => x.tok == tok)
  let base := c.d.gradAddr + (tok - e.ts0) * c.d.gradPitch
  (List.range c.d.dc).map (fun j => (base + 32 * j,
    (Acc.start c.d.ancDlat).addTerms (mine.map (fun (x : Bwd) =>
      let (q, _) := c.query s t x.row x.h
      let dO := bf16Run s t (c.d.dO + x.row * c.pitch + 2 * x.h * c.dv) c.dv
      [x.ds.mul (q.getD j .zero), x.pn.mul (dO.getD j .zero)])).flatten)) ++
  (List.range c.d.dr).map (fun j => (base + 32 * (c.d.dc + j),
    (Acc.start c.d.ancDrope).addTerms (mine.map (fun (x : Bwd) =>
      let (_, qr) := c.query s t x.row x.h
      x.ds.mul (qr.getD j .zero)))))

/-- The LACC-adds of ATTN_BWD: `dq` per row and head, then `dlat` and `drope` per token of each entry. -/
def bwdOutput (c : AttnCmd) (s : State) (t : Nat) (a : Attn) : List Micro × Nat :=
  let per := (List.range c.es.length).map (fun i =>
    match c.es[i]? with
    | none => []
    | some e =>
      let ts := c.entTerms s t a i e
      ((List.range e.qRows).map (fun r => c.dqSums ts (c.rowBase i + r))).flatten ++
        ((rowsOf a i).map (fun x => c.gradSums s t e ts x.1)).flatten)
  let outs := per.flatten
  (outs.map (fun x => Micro.op (Req.make x.1 s.srcMod t 32 opLaccAdd none x.2.1.toBytes) .none),
    outs.foldl (fun f x => f ||| x.2.2 ||| x.2.1.flags) 0)

/-! ## The command's course -/

/-- The tile's attention record changed. -/
def setAttn (s : State) (t : Nat) (a : Attn) : State := s.updTile t (fun x => { x with attn := a })

/-- The script of the command replaced and taken up. -/
def go (s : State) (t : Nat) (ms : List Micro) : State :=
  s.beginTile t 3 { (s.tile t).prog with script := ms, done := true }

/-- The end of the command: its outputs leave, with the flags and the count of PARKED entries (07 R270). -/
def finish (c : AttnCmd) (s : State) (t : Nat) (a : Attn) : State :=
  let (s, ms, fl, z) := if c.x.bwd then let (ms, fl) := c.bwdOutput s t a; (s, ms, fl, none) else c.output s t a
  let s := (setAttn s t .none).numFlags t fl
  let s := s.tileEvent t 63 a.parked.length
  let trap := match z with | some e => [Micro.trap e] | none => []
  s.beginTile t 3 { Progress.empty with flags := fl, result0 := c.es.length, result1 := a.parked.length,
                                        script := ms ++ trap, done := true }

/-- A batch of gathers issued. -/
def issue (c : AttnCmd) (s : State) (t : Nat) (a : Attn) (phase k : Nat) : State :=
  let s := setAttn s t { a with phase := phase, batch := k }
  go (s.tileEvent t 56 (c.batchJobs k).length) t (c.batchScript s t a.base k)

/-- Phase 2 after the maxima are common: the rows of phase 1 where they fitted the slots, else gathered again. -/
def phase2 (c : AttnCmd) (s : State) (t : Nat) (a : Attn) : State :=
  if c.jobs.length ≤ c.d.nslot then c.finish s t a
  else c.issue s t { a with rows := [] } 3 0

/-- Phase 1 is complete: the exchange, where there is one, then phase 2. -/
def phase1End (c : AttnCmd) (s : State) (t : Nat) (a : Attn) : State :=
  if c.x.bwd then c.finish s t a
  else
    let (ks, cs) := c.words s t a
    let a := { a with keys := ks, cbs := cs }
    if 1 < c.d.xn then
      let s := setAttn s t { a with phase := 2 }
      go s t (s.xchgOps t c.ext ks cs)
    else c.phase2 s t a

/-- A batch's status lines read and its rows taken: the rows, or the first fault (07 R266). -/
def collect (c : AttnCmd) (s : State) (t : Nat) (a : Attn) : State × Except Exc Attn :=
  let js := c.batchJobs a.batch
  (List.range js.length).foldl (fun (acc : State × Except Exc Attn) j =>
    match acc with
    | (s, .error e) => (s, .error e)
    | (s, .ok a) =>
      let (i, pg, r0, n) := js.getD j (0, 0, 0, 0)
      match s.readRuns t none [(c.d.gbuf + 64 * j, 64), (c.slot j, n * c.d.rowBytes)] with
      | (s, .error e) => (s, .error e)
      | (s, .ok bss) =>
        let line := ofLE (bss.getD 0 [])
        let st := bits line 32 16
        let data := bss.getD 1 []
        let s := s.tileEvent t 57 1
        if st = Sts.ok || st = 0x0301 then
          (s, .ok { a with
            rows := a.rows ++ (List.range n).map (fun k =>
              (i, pg * c.rpp + r0 + k, (data.drop (k * c.d.rowBytes)).take c.d.rowBytes))
            parked := if st = 0x0301 then addOnce i a.parked else a.parked })
        else (s, .error ⟨st, 0, bits line 64 64⟩)) (s, .ok a)

/-- The command's next move after a wait has passed. -/
def resume (c : AttnCmd) (s : State) (t : Nat) : State :=
  let a := (s.tile t).attn
  if a.phase = 2 then
    let words := fun off n => (List.range n).map (fun i => ofLE (s.memRead (tileKey t (c.d.xchg + off + 4 * i)) 4))
    let nk := c.rowsQ * c.d.h
    c.phase2 s t { a with keys := words 0 nk, cbs := words (xchgCb nk) (c.es.length * c.cbCols) }
  else match c.collect s t a with
    | (s, .error e) => (setAttn s t .none).raiseExc t e.status e.detail e.result1
    | (s, .ok a) =>
      if a.batch + 1 < c.batches then c.issue s t a a.phase (a.batch + 1)
      else if a.phase = 1 then c.phase1End s t a
      else c.finish s t a

/-- The command as the tile store has it, nothing counted. -/
def read (x : AttnOp) (s : State) (t : Nat) : AttnCmd :=
  let es := (List.range x.entries).map (fun i => AttnEnt.ofBytes (s.readCorrected (tileKey t (x.batch + 32 * i)) 32))
  ⟨x, AttnDesc.ofBytes (s.readCorrected (tileKey t x.desc) 128), es⟩

/-- The remote operations of the whole extent, with no data (08 R304). -/
def extent (c : AttnCmd) (s : State) (t : Nat) : List (List Req) :=
  let mod := s.srcMod
  let lacc := fun a => Req.make a mod t 32 opLaccAdd none (List.replicate 32 0)
  let gathers := (List.range c.jobs.length).map (fun j =>
    [c.gatherReq s t j (j % c.d.nslot) (c.jobs.getD j (0, 0, 0, 0))])
  let w := c.d.dc + c.d.dr
  if c.x.bwd then
    gathers ++ [(List.range (c.rowsQ * c.d.h * w)).map (fun i => lacc (c.d.dqAddr + 32 * i)),
      (c.es.map (fun e => ((rangeFrom e.lo (e.hi - e.lo)).map (fun tok =>
        (List.range w).map (fun j => lacc (c.d.gradAddr + (tok - e.ts0) * c.d.gradPitch + 32 * j)))).flatten)).flatten]
  else
    let xch := if 1 < c.d.xn then s.xchgExtent t c.ext (c.rowsQ * c.d.h) (c.es.length * c.cbCols) else []
    let outs := if c.x.outOp = 1 then
        ((List.range c.d.h).map (fun h =>
          let (base, stride, tok) := c.mergeOf s t h
          ((List.range c.rowsQ).map (fun row =>
            let r := base + row * stride
            Req.make r mod t 4 opMaxU32 none (leBytes 4 0) ::
              (List.range (c.dv + 1)).map (fun j => lacc (r + 32 + 32 * j)))).flatten ++
            scriptReqs (tokenOps mod t base tok)))
      else
        [if s.ownStore t c.x.out then [] else
          ((List.range c.rowsQ).map (fun row =>
            scriptReqs (storeOps mod t (c.x.out + row * c.pitch) (List.replicate c.outBytes 0)))).flatten,
         if c.x.stats = 0 || s.ownStore t c.x.stats then [] else
          scriptReqs (storeOps mod t c.x.stats (List.replicate (64 * c.rowsQ * c.d.h) 0)),
         scriptReqs (tokenOps mod t c.x.out c.x.tok)]
    gathers ++ xch ++ outs

/-- The check after the opcode and the unit. -/
def check (x : AttnOp) (s : State) (t : Nat) : Option Ans :=
  if x.entries == 0 || decide (4096 < x.entries) || x.desc % 64 != 0 || x.batch % 64 != 0 || decide (2 ^ 23 ≤ x.desc) ||
      decide (2 ^ 23 ≤ x.batch) then some .param
  else
    let c := read x s t
    if c.paramBad s t then some .param
    else (State.regionCheck t c.ins c.others (c.outs s t) false).or (s.extentCheck (c.extent s t))

/-- The start: descriptor, entries and, for ATTN_BWD, the statistics are read, then the first gathers leave. The bytes
that another module answers a statistics load with are in `far`. -/
def start (x : AttnOp) (s : State) (t : Nat) (ue : Option Nat) (far : List Host.Cell) : State :=
  match s.readRuns t ue [(x.desc, 128), (x.batch, 32 * x.entries)] with
  | (s, .error z) => s.raiseExc t z.status z.detail z.result1
  | (s, .ok _) =>
    let c := read x s t
    match s.readRuns t ue c.ins with
    | (s, .error z) => s.raiseExc t z.status z.detail z.result1
    | (s, .ok _) =>
      let base := s.rd (Reg.TILE_SYNC (s.siteOf t) c.d.gctr)
      match (if x.bwd then s.getGlobal t x.stats (64 * c.rowsQ * c.d.h) far none else (s, .ok [])) with
      | (s, .error (st, a)) => s.raiseExc t st 0 a
      | (s, .ok bs) =>
        let s := s.updTile t (fun y => { y with prog := .empty })
        let a : Attn := ⟨1, 0, base, [], [], [], [], bs⟩
        if c.jobs.isEmpty then c.phase1End s t a else c.issue s t a 1 0

end AttnCmd

/-- The continuation of an attention command whose wait has passed. -/
def attnResume (s : State) (t : Nat) (p : Packet) : State :=
  match AttnOp.ofPacket p with
  | none => s
  | some x => (AttnCmd.read x s t).resume s t

/-- ATTN (07 R263 to R270). -/
def execAttn (via : Via) (p : Packet) (ue : Option Nat) (s : State) : Host.Outcome State Fault Refusal :=
  .next (s.tileRow via p (p.base == 0x0230)
    (fun s t => match AttnOp.ofPacket p with | none => some .param | some x => AttnCmd.check x s t)
    (fun s t => match AttnOp.ofPacket p with | none => s | some x => AttnCmd.start x s t ue []))

/-- ATTN_BWD (07 R271). -/
def execAttnBwd (via : Via) (p : Packet) (ue : Option Nat) (far : List Host.Cell) (s : State) :
    Host.Outcome State Fault Refusal :=
  .next (s.tileRow via p (p.base == 0x0232)
    (fun s t => match AttnOp.ofPacket p with | none => some .param | some x => AttnCmd.check x s t)
    (fun s t => match AttnOp.ofPacket p with | none => s | some x => AttnCmd.start x s t ue far))

/-! ## ATTN_NORM (07 R269) -/

/-- The parameters of ATTN_NORM. -/
structure NormOp where
  src : Nat
  count : Nat
  dv : Nat
  out : Nat
  pitch0 : Nat
  fo : Nat
  stats : Nat
  tok : Option Tok
  deriving DecidableEq, Repr

/-- The parameters of a packet (04 R145, 07 R273). -/
def NormOp.ofPacket (p : Packet) : Option NormOp :=
  let base : NormOp := ⟨p.u32 16, p.u16 20, p.u16 22, p.u64 24, p.u32 32, p.u8 36, p.u64 40,
    State.tokOf (p.u16 48) (p.u16 50)⟩
  if p.expert then some base
  else if p.u8 63 != 1 || p.u8 36 != 0 then none else some { base with fo := 3 }

namespace NormOp

/-- The bytes of a merge record (07 Table 7-8). -/
def recBytes (x : NormOp) : Nat := 64 + 32 * x.dv

/-- The stride of output rows (04 R127). -/
def pitch (x : NormOp) : Nat := if x.pitch0 = 0 then linePitch x.dv (elemBits x.fo 0) else x.pitch0

/-- The bytes of an output row. -/
def rowBytes (x : NormOp) : Nat := runBytes x.fo 0 x.dv

/-- The check after the opcode and the unit. -/
def check (x : NormOp) (s : State) (t : Nat) : Option Ans :=
  let own := s.ownStore t x.out
  let mod := s.srcMod
  if x.count == 0 || x.dv == 0 || !(1 ≤ x.fo && x.fo ≤ 9) ||
      (match x.tok with | some k => spaceOf x.out != 1 || k.inc == 0 | none => false) ||
      (!own && (x.out % 4 != 0 || x.pitch % 4 != 0 || decide (x.pitch < ceilDiv x.rowBytes 4 * 4))) ||
      (x.pitch0 == 0 && spaceOf x.out != 1) then some .param
  else
    let outs := (if own then [(offOf x.out % 2 ^ 23, (x.count - 1) * x.pitch + x.rowBytes)] else []) ++
      (if x.stats != 0 && s.ownStore t x.stats then [(offOf x.stats % 2 ^ 23, 64 * x.count)] else [])
    let reqs := [if own then [] else ((List.range x.count).map (fun i =>
        scriptReqs (storeOps mod t (x.out + i * x.pitch) (List.replicate x.rowBytes 0)))).flatten,
      if x.stats = 0 || s.ownStore t x.stats then [] else
        scriptReqs (storeOps mod t x.stats (List.replicate (64 * x.count) 0)),
      scriptReqs (tokenOps mod t x.out x.tok)]
    (State.regionCheck t [(x.src, x.count * x.recBytes)] [] outs false).or (s.extentCheck reqs)

/-- The start: every record read, divided and written. -/
def start (x : NormOp) (s : State) (t : Nat) (ue : Option Nat) : State :=
  match s.readRuns t ue [(x.src, x.count * x.recBytes)] with
  | (s, .error z) => s.raiseExc t z.status z.detail z.result1
  | (s, .ok bss) =>
    let bs := bss.flatten
    let recs := (List.range x.count).map (fun i =>
      let r := (bs.drop (i * x.recBytes)).take x.recBytes
      let m := AttnCmd.keyVal (ofLE (r.take 4))
      let den := Acc.ofBytes ((r.drop 32).take 32)
      let outs := (List.range x.dv).map (fun j =>
        match m with
        | none => ((convertVal .rne x.fo .zero).1, 0)
        | some v =>
          let n := Acc.ofBytes ((r.drop (64 + 32 * j)).take 32)
          let (nv, f1) := n.toVal
          let (dv, f2) := den.toVal
          let (b, f3) := convert .rne x.fo (AttnCmd.quot nv dv)
          (b, f1 ||| f2 ||| f3 ||| n.flags ||| den.flags ||| Flag.on v.isNan Flag.invalid))
      (m, den, outs))
    let fl := recs.foldl (fun f r => r.2.2.foldl (fun f v => f ||| v.2) f) 0
    let rows := (List.range x.count).map (fun i =>
      (x.out + i * x.pitch, ((recs.getD i (none, ⟨0, 0, true, 0⟩, [])).2.2).map (·.1)))
    let (s, ms, z) := s.putRuns t 0 x.fo rows
    let sbs := if x.stats = 0 then [] else (recs.map (fun r => AttnCmd.statsRec r.1 false r.2.1)).flatten
    let (s, ns, z) := match z with
      | some e => (s, [], some e)
      | none =>
        if sbs.isEmpty then (s, [], none)
        else if s.ownStore t x.stats then
          let (s, e) := s.localOut t (offOf x.stats % 2 ^ 23) sbs
          (s, [], e)
        else (s, storeOps s.srcMod t x.stats sbs, none)
    let tail := match z with
      | some e => [Micro.trap e]
      | none => tokenOps s.srcMod t x.out x.tok
    (s.numFlags t fl).beginTile t 3 { Progress.empty with flags := fl, script := ms ++ ns ++ tail, done := true }

end NormOp

/-- ATTN_NORM (07 R269). -/
def execAttnNorm (via : Via) (p : Packet) (ue : Option Nat) (s : State) : Host.Outcome State Fault Refusal :=
  .next (s.tileRow via p (p.base == 0x0231)
    (fun s t => match NormOp.ofPacket p with | none => some .param | some x => x.check s t)
    (fun s t => match NormOp.ofPacket p with | none => s | some x => x.start s t ue))

/-- A gather's status line has not come in time (07 R266). The sender of the event keeps the time. -/
def execAttnGatherTimeout (tile : Nat) (s : State) : Host.Outcome State Fault Refusal :=
  .next (
    let x := s.tile tile
    match x.wait with
    | some w =>
      if (x.attn.phase = 1 || x.attn.phase = 3) && decide (s.rd (Reg.TILE_SYNC (s.siteOf tile) w.ctr) < w.thr) then
        (AttnCmd.setAttn s tile .none).raiseExc tile Sts.timeout 3 0
      else s
    | none => s)

end Sys2Proof.Machine
end

