-- ==== Sys2Proof/Machine/Splint.lean ====
section
/-! DEFINITION. The Splint engine (05 R185 to R192): SPL_CONV, SPL_WAIT and SPL_SYNC_SET. A layer is computed in one step,
row by row; its reads and stores at homes on this module are made in that step. -/

namespace Sys2Proof.Machine

/-- STS_SPL_SHAPE (05 R192). -/
def stsSplShape : Nat := 0x0202

/-- The Splint engine's unit identifier (08 Table 8-4). -/
def splUnit : Nat := 0x2D

/-- The ring of the Splint engine. -/
def splRing : Nat := 44

/-- The parameters of SPL_CONV with its input and weight addresses (05 Table 5-8), the basic form's filled in (R190). -/
def splOf (p : Packet) : Option ConvOp :=
  let nib := fun off hi => if hi then p.u8 off / 16 else p.u8 off % 16
  let mode := p.u8 59
  let base : ConvOp :=
    { inA := p.u64 16, wA := p.u64 24, out := 0, inH := p.u16 40, inW := p.u16 42, cIn := p.u16 44
      cOut := p.u16 46, fh := nib 48 true, fw := nib 48 false, sh := nib 49 true, sw := nib 49 false
      dh := nib 50 true, dw := nib 50 false, padT := nib 51 true, padL := nib 51 false, outH := p.u16 52
      outW := p.u16 54, fi := p.u8 56 % 32, si := bits (p.u8 56) 5 1, fwt := p.u8 57 % 32
      swt := bits (p.u8 57) 5 1, fo := p.u8 58 % 32, outOp := 0, ext := true, sr := bit mode 4
      sparse := false, stat := false, acc := mode % 4, groups := 1, tok := none, descAddr := p.u64 32 }
  if p.expert then some base
  else if p.fld 56 3 != 0 || mode != 0 then none
  else match p.u8 63 with
    | 1 => some { base with fi := 5, fwt := 5, fo := 5 }
    | 2 => some { base with fi := 3, fwt := 3, fo := 3 }
    | _ => none

namespace ConvOp

/-- The checks that the packet alone decides (05 R173, R186, R187). -/
def splCheck (x : ConvOp) : Option Ans :=
  let okIn := fun f => [3, 4, 5, 6, 14, 15].contains f
  let okOut := (decide (1 ≤ x.fo) && decide (x.fo ≤ 9)) || [14, 15, 17].contains x.fo
  firstFail [(decide (11 < x.fh) || decide (11 < x.fw), .err Sts.filterTooLarge),
    (x.geomBad true || !okIn x.fi || !okIn x.fwt || !okOut || x.acc == 1 || x.acc == 3, .param),
    (decide (16 < x.cIn) && decide (16 < x.cOut), .err stsSplShape)]

/-- The bytes of the weights. -/
def wBytes (x : ConvOp) : Nat := x.cOut * x.pw

/-- The checks that the descriptor decides (05 R175, R187, R188, R190). -/
def splDescCheck (x : ConvOp) (d : ConvDesc) (basic : Bool) : Option Ans :=
  let g : ImgOut := ⟨0, 0, x.pixOut, x.outW, x.outH, x.cOut, x.fo, x.outBits, 0⟩
  let rows := (x.fh - 1) * x.dh + 1
  firstFail [(x.descBad d || d.regionN == 0 || regionsBad g d.regions ||
      (basic && (!d.extZero || d.declRaw != 0 || d.kTotal != 0)), .param),
    (decide (2 ^ 19 < x.wBytes + (if d.biasEn then x.biasBytes d else 0)) ||
      decide (2 ^ 20 < rows * rowPitchOf 0 x.inW x.pixIn), .err stsSplShape)]

/-- The input rows that output row `y` reads. -/
def inRows (x : ConvOp) (y : Nat) : List Nat :=
  (List.range x.fh).filterMap (fun f =>
    let r := y * x.sh + f * x.dh
    if x.padT ≤ r && decide (r - x.padT < x.inH) then some (r - x.padT) else none)

end ConvOp

namespace State

/-- The end of a Splint command that halts its ring (05 R191): the reply, SPL_EXC, the halt. -/
def splHalt (s : State) (a : Ans) : State :=
  match (s.engOf splRing).cur with
  | none => s
  | some j =>
    let s := (s.wr Reg.SPL_EXC_STATUS (a.status * 65536 + j.pkt.opcode.toNat)).wr Reg.SPL_EXC_ADDR a.r1
    let s := s.setEng splRing { s.engOf splRing with cur := none }
    let s := match j.via with
      | .mcc => s.mccReply a
      | .ring n => s.ringReply n (j.reply a s.now) j.pkt.irq
    if s.ringState splRing == closed then s.startNext splRing else s.ringHalt splRing a.status a.r1

/-- A read that fails on an error halts; one that is refused only ends the command (05 R191, 08 R304). -/
def splReadFail (s : State) (e : Nat × Nat) (rows : Nat) : State × Option Ans :=
  if e.1 = Sts.eccHalt then (s.splHalt ⟨e.1, 0, rows * 65536, e.2, false⟩, none)
  else (s, some (accessAns e))

/-- The input rows of an output row read, where they have not been. -/
def splRows (x : ConvOp) (pitch : Nat) (far : List Host.Cell) (ue : Option Nat) :
    List Nat → List (Nat × List Byte) → State → State × Except (Nat × Nat) (List (Nat × List Byte))
  | [], have_, s => (s, .ok have_)
  | r :: l, have_, s =>
    if (Cells.find r have_).isSome then splRows x pitch far ue l have_ s
    else match s.getGlobal splUnit (x.inA + r * pitch) (x.inW * x.pixIn) far ue with
      | (s, .error e) => (s, .error e)
      | (s, .ok bs) => splRows x pitch far ue l (Cells.insert r bs have_) s

/-- The region entries whose last row is `y`, served in order; the first store that faults ends them. -/
def splRegions (g : ImgOut) (px : Nat → List Nat) : List RegionEntry → State → State × Option (Nat × Nat)
  | [], s => (s, none)
  | r :: l, s =>
    let (_, ms, _) := s.putRegion splUnit g px r
    match s.ownOps (scriptReqs ms) with
    | (s, some e) => (s, some e)
    | (s, none) => splRegions g px l s

/-- Rows that a halt reports done: those before the first row of an entry not served (05 R191). -/
def rowsDone (rs : List RegionEntry) (served y : Nat) : Nat :=
  (rs.filter (fun r => decide (served ≤ r.row0 + r.rows - 1))).foldl (fun m r => min m r.row0) y

/-- Output rows from `y` on: input read, elements computed, entries served. The flags gathered, or the end. -/
def splLayer (x : ConvOp) (inA : Nat) (d : ConvDesc) (bs : List (List Val)) (far : List Host.Cell) (ue : Option Nat) (pitch : Nat) :
    Nat → Nat → List (Nat × List Byte) → List (List Nat) → Nat → State → State × Except (Option Ans) Nat
  | 0, _, _, _, fl, s => (s, .ok fl)
  | n + 1, y, rows, done, fl, s =>
    match splRows { x with inA := inA } pitch far ue (x.inRows y) rows s with
    | (s, .error e) =>
      let (s, a) := s.splReadFail e (rowsDone d.regions y y)
      (s, .error a)
    | (s, .ok rows) =>
      let rd : ByteReader := fun a k => (((Cells.find (a / pitch) rows).getD []).drop (a % pitch)).take k
      let es := (List.range x.outW).map (fun i =>
        x.pixel { d with inPitch := pitch } rd none bs (y * x.outW + i))
      let fl := es.foldl (fun f px => px.foldl (fun f v => f ||| v.2) f) fl
      let done := done ++ es.map (fun px => px.map (·.1))
      let g : ImgOut := ⟨0, 0, x.pixOut, x.outW, x.outH, x.cOut, x.fo, x.outBits, 0⟩
      let last := d.regions.filter (fun r => r.row0 + r.rows == y + 1)
      match splRegions g (fun i => done.getD i []) last s with
      | (s, some e) =>
        (s.splHalt ⟨e.1, 1, rowsDone d.regions y (y + 1) * 65536, e.2, false⟩, .error none)
      | (s, none) => splLayer x inA d bs far ue pitch n (y + 1) rows done fl s

/-- The stores and tokens of every region entry, as 08 R304 checks them. -/
def splExtent (s : State) (x : ConvOp) (d : ConvDesc) : List (List Req) :=
  let g : ImgOut := ⟨0, 0, x.pixOut, x.outW, x.outH, x.cOut, x.fo, x.outBits, 0⟩
  d.regions.map (fun r => scriptReqs (s.putRegion splUnit g (fun _ => List.replicate x.cOut 0) r).2.1)

/-- The 16-element steps of a layer (05 R185; 20 Table 20-4). -/
def splSteps (x : ConvOp) : Nat :=
  x.fh * ceilDiv (x.fw * x.cIn) 16 * ceilDiv x.cOut 16 * ceilDiv x.outW 16 * x.outH

/-- SPL_CONV (05 R186 to R191): descriptor, checks, weights and bias, then the rows. -/
def splConv (s : State) (x : ConvOp) (basic : Bool) (far : List Host.Cell) (ue : Option Nat) : State × Option Ans :=
  match s.runCheck splUnit x.descAddr 128 opLoad with
  | some e => (s, some (accessAns e))
  | none =>
    match s.getGlobal splUnit x.descAddr 128 far ue with
    | (s, .error e) => s.splReadFail e 0
    | (s, .ok head) =>
      match s.getGlobal splUnit (x.descAddr + 128) (32 * min 8 (head.getD 88 0).toNat) far ue with
      | (s, .error e) => s.splReadFail e 0
      | (s, .ok tail) =>
        let d := ConvDesc.ofBytes true x.outW (head ++ tail)
        let pitch := rowPitchOf d.inPitch x.inW x.pixIn
        match x.splDescCheck d basic with
        | some a => (s, some a)
        | none =>
          match (s.runCheck splUnit x.wA x.wBytes opLoad).or
              ((s.runCheck splUnit x.inA (x.inBytes d) opLoad).or
                ((if d.biasEn then s.runCheck splUnit d.bias (x.biasBytes d) opLoad else none).or
                  (s.issueCheckAll (s.splExtent x d)))) with
          | some e => (s, some (accessAns e))
          | none =>
            match s.getGlobal splUnit x.wA x.wBytes far ue with
            | (s, .error e) => s.splReadFail e 0
            | (s, .ok ws) =>
              match (if d.biasEn then s.getGlobal splUnit d.bias (x.biasBytes d) far ue else (s, .ok [])) with
              | (s, .error e) => s.splReadFail e 0
              | (s, .ok bias) =>
                let y := { x with wA := 0 }
                let rd : ByteReader := fun a k =>
                  if 2 ^ 40 ≤ a then (bias.drop (a - 2 ^ 40)).take k else (ws.drop a).take k
                match y.cols { d with bias := 2 ^ 40 } rd (List.range x.cOut) with
                | .error _ => (s, some .param)
                | .ok bs =>
                  match splLayer { x with inA := 0 } x.inA d bs far ue pitch x.outH 0 [] [] 0 s with
                  | (s, .error a) => (s, a)
                  | (s, .ok fl) => ((s.pmuEvent 43 0x160 (splSteps x) none).orReg Reg.SPL_NUMFLAGS (fl % 1024),
                      some ⟨Sts.ok, 0, fl % 65536 + x.outH * 65536, 0, bit fl 9⟩)

/-- A Splint command row, on ring 44 or from the MCC behind it (05 R189). -/
def splRow (s : State) (via : Via) (p : Packet) (base : Nat) (check : Option Ans) (act : State → State × Option Ans) :
    State :=
  s.unitRow via p (p.base == base && (via == .mcc || via == .ring splRing)) splRing true (fun s _ => s.splintOn)
    (fun _ _ => check) (fun s _ => act s)

/-- The counter, threshold and amount consumed of an SPL_WAIT. -/
def splWaitOf (p : Packet) : Nat × Nat × Nat :=
  (p.u8 16 % 16, p.u32 20, if bit (p.u8 17) 0 then p.u32 20 else 0)

/-- The SPL_WAIT in progress. -/
def splWaiting (s : State) : Option Packet :=
  match (s.engOf splRing).cur with
  | some j => if j.begun && j.pkt.base == 0x0241 then some j.pkt else none
  | none => none

/-- A pending SPL_WAIT passes where its counter allows it (04 R141). -/
def splWaitPass (s : State) : State :=
  match s.splWaiting with
  | none => s
  | some p =>
    let (c, thr, take) := splWaitOf p
    let v := s.rd (Reg.SPL_SYNC c)
    if thr ≤ v then (s.wr (Reg.SPL_SYNC c) (v - take)).ringFinish splRing .done else s

/-- A pending SPL_WAIT reaches its time limit (04 R141). -/
def splWaitTimeout (s : State) : State :=
  match s.splWaiting with
  | none => s
  | some p =>
    let (c, thr, _) := splWaitOf p
    let v := s.rd (Reg.SPL_SYNC c)
    if thr ≤ v || p.u16 24 = 0 then s else s.splHalt ⟨Sts.timeout, 2, 0, v, false⟩

end State

/-- SPL_CONV (05 R186). `far` holds the bytes of other modules; `ue` names a line that reads uncorrectable. -/
def execSplConv (via : Via) (p : Packet) (far : List Host.Cell) (ue : Option Nat) (s : State) :
    Host.Outcome State Fault Refusal :=
  .next (s.splRow via p 0x0240 (match splOf p with | none => some .param | some x => x.splCheck)
    (fun s => match splOf p with
      | none => (s, some .param)
      | some x => s.splConv x (!p.expert) far ue))

/-- SPL_WAIT (05 R189, 04 R141): a counter already there passes at once. -/
def execSplWait (via : Via) (p : Packet) (s : State) : Host.Outcome State Fault Refusal :=
  .next (s.splRow via p 0x0241 (if profileOne p && (p.expert || p.u16 24 == 0) then none else some .param)
    (fun s =>
      let (c, thr, take) := State.splWaitOf p
      let v := s.rd (Reg.SPL_SYNC c)
      if thr ≤ v then (s.wr (Reg.SPL_SYNC c) (v - take), some .done) else (s, none)))

/-- SPL_SYNC_SET (05 R189, 04 R140). -/
def execSplSyncSet (via : Via) (p : Packet) (s : State) : Host.Outcome State Fault Refusal :=
  .next (s.splRow via p 0x0242 (if profileOne p then none else some .param)
    (fun s => (s.wr (Reg.SPL_SYNC (p.u8 16 % 16)) (p.u32 20), some .done)))

end Sys2Proof.Machine
end

