-- ==== Sys2Proof/Machine/TileEv.lean ====
section
/-! DEFINITION. What happens to tiles while commands run (04 R136 to R160; 08 R285): waits, fences, responses and their
timeouts, completions, exceptions and traps, and what a power-fail warning leaves in store buffers. -/

namespace Sys2Proof.Machine
namespace State

/-- A tile command's computation carried on where its script waits for it (03 R107; 07 R263). -/
def tileResume (s : State) (t : Nat) : State :=
  match (s.engOf t).cur, (s.tile t).prog.script with
  | some j, .compute :: _ =>
    let p := j.pkt
    match p.base with
    | 0x0200 => match MatOp.ofPacket p with | some x => x.resume s t | none => s
    | 0x0202 => match RedOp.ofPacket p with | some x => x.resume s t | none => s
    | 0x0220 => match ConvOp.ofTile p with | some x => x.tileResume s t | none => s
    | 0x0221 => match PoolOp.ofPacket p with | some x => x.resume s t | none => s
    | 0x0230 | 0x0232 => Machine.attnResume s t p
    | _ => s
  | _, _ => s

/-- The script carried on after a fence or a wait, into the computation that follows. -/
def carryOn (s : State) (t : Nat) : State := (s.pump t).tileResume t

/-- A pending wait that finds its counter at the threshold passes (04 R141). -/
def waitPass (s : State) (t : Nat) : State :=
  match (s.tile t).wait with
  | none => s
  | some w =>
    let r := Reg.TILE_SYNC (s.siteOf t) w.ctr
    let v := s.rd r
    if v < w.thr then s
    else ((s.wr r (v - w.take)).updTile t (fun x => { x with wait := none })).carryOn t

/-- The fence of a tile complete (01 R42): every operation before it is acknowledged. TILE_FENCE reports a posted fault (04
R155, R157). -/
def fenceDone (s : State) (t : Nat) : State :=
  let x := s.tile t
  if !x.fencing || !x.sb.isEmpty then s
  else
    let s := s.setTile t { x with fencing := false }
    let isFence := match (s.engOf t).cur with | some j => j.pkt.base == 0x0206 | none => false
    if isFence && x.posted.isSome then s.takePosted t else s.carryOn t

/-- What owns a tile learns that its ring has halted: a serving plan fails (10 R385). -/
def ownerFail (s : State) (t status addr : Nat) : State :=
  if bit s.srv.tileMask t && s.srvWorks then s.srvFail status addr else s

/-! ## Responses (08 R285; 04 R136, R138) -/

/-- The fault address of a response as this module shows it. -/
def respAddr (s : State) (e : SbEntry) (r : Resp) : Nat := if r.faultAddr = 0 then s.shownAddr e.req.addr else r.faultAddr

/-- Returned bytes landed in the tile store, and in RESULT1 for a returning atomic (04 R154). -/
def landBytes (s : State) (t : Nat) (land : Land) (bs : List Byte) : State :=
  match land with
  | .none => s
  | .store off => s.homeWrite (tileKey t off) bs
  | .value off => (s.homeWrite (tileKey t off) bs).updTile t (fun x =>
      { x with prog := { x.prog with result1 := ofLE bs, done := true } })

/-- A response for an outstanding entry of a tile. -/
def respTile (s : State) (t i : Nat) (e : SbEntry) (r : Resp) : State :=
  let s := (s.updTile t (fun x => { x with sb := x.sb.eraseIdx i })).tileEvent t 29 1
  let s :=
    if r.status = Sts.ok then s.landBytes t e.land r.data
    else match e.land with
      | .value _ => if (s.tile t).exc.isSome then s.postFault t r.status (s.respAddr e r)
        else s.raiseExc t r.status 0 (s.respAddr e r)
      | _ => s.postFault t r.status (s.respAddr e r)
  ((s.pump t).tileDrained t).settle

/-- A response at a tile: its entry by RTAG, or one that timed out, counted and discarded. -/
def tileResponse (s : State) (t : Nat) (r : Resp) : State :=
  let x := s.tile t
  match x.sb.findIdx? (fun e => e.issued && e.req.rtag == r.rtag) with
  | some i => match x.sb[i]? with
    | some e => s.respTile t i e r
    | none => s
  | none =>
    if x.stale.contains r.rtag then
      (s.updTile t (fun x => { x with stale := x.stale.erase r.rtag })).bump (Reg.TILE_LATE_ACK_CNT (s.siteOf t)) 1
    else s

/-- A response at the Splint engine that reports a fault (05 R191): ring 44 halts with its status. -/
def splResponse (s : State) (r : Resp) : State :=
  if r.status = Sts.ok then s
  else match (s.engOf splRing).cur with
    | some _ => s.splHalt ⟨r.status, 1, 0, r.faultAddr, false⟩
    | none =>
      let s := (s.wr Reg.SPL_EXC_STATUS (r.status * 65536)).wr Reg.SPL_EXC_ADDR r.faultAddr
      if s.ringRuns splRing then
        (s.ringReply splRing (replyBits 0 0 s.now ⟨r.status, 1, 0, r.faultAddr, false⟩ false) false).ringHalt splRing r.status
          r.faultAddr
      else s

/-- A response delivered to its unit: it names the module by the number its requests carry. -/
def respArrive (s : State) (r : Resp) : State :=
  if r.dstMod != s.srcMod then s
  else if r.dstUnit < 32 then s.tileResponse r.dstUnit r
  else if r.dstUnit = 0x2D then s.splResponse r
  else s

/-! ## Traps (04 R160; 06 R216, Table 6-8) -/

/-- The record of a trapped microcode fetch (19 Table 19-11), ENGINE_TRAP and vector 0. -/
def trapShow (s : State) (row island off : Nat) : State :=
  (s.trouble 0x0C88 3 island 0 (off * 2 ^ 32 + Sts.seqTrap * 65536 + row * 256)).urgent 5

/-- A reply of no command: OPCODE, SEQ and RESULT0 0, and the ring halted. -/
def haltBare (s : State) (n off : Nat) : State :=
  (s.ringReply n (replyBits 0 0 s.now ⟨Sts.seqTrap, 0, 0, off, false⟩ false) false).ringHalt n Sts.seqTrap off

/-- A tile's sequencer trapped. -/
def tileTrap (s : State) (t off : Nat) (bad : Bool) : State :=
  if (s.tile t).trapped then s
  else
    let site := s.siteOf t
    let s := s.updTile t (fun x => { x with
      trapped := true, traps := List.replicate (if bad then 2 else 1) s.now ++ x.traps })
    let s := s.trapShow 1 (siteIsland site) off
    match (s.engOf t).cur with
    | some j =>
      if j.begun && (s.tile t).exc.isNone then s.raiseExc t Sts.seqTrap 0 off else s
    | none =>
      let s := (s.wr (Reg.TILE_EXC_STATUS site) (Sts.seqTrap * 65536)).wr (Reg.TILE_EXC_ADDR site) off
      if s.rimOwns t then s.laneFault off
      else (if s.ringRuns t then s.haltBare t off else s).ownerFail t Sts.seqTrap off

/-- A command in progress behind a ring ended by its unit's trap, or the ring halted with a bare reply. -/
def engTrap (s : State) (n off : Nat) : State :=
  match (s.engOf n).cur with
  | some _ =>
    let s := s.ringFail n ⟨Sts.seqTrap, 0, 0, off, false⟩
    if s.ringRuns n then s.ringHalt n Sts.seqTrap off else s
  | none => if s.ringRuns n then s.haltBare n off else s

/-- A video core trapped; its second trap within 24 h retires it (19 Table 19-2). -/
def vidCoreTrap (s : State) (core off : Nat) : State :=
  let again := s.ras.coreTraps.any (fun e => e.1 == 8 + core && decide (s.now < e.2 + dayNs))
  let s := { s with ras := { s.ras with coreTraps := (8 + core, s.now) :: s.ras.coreTraps.filter (fun e => e.1 != 8 + core) } }
  let s := if s.vid.jobs.any (fun j => j.cores.contains core) then
      (s.trouble 0x0C88 3 (82 + core) 0 (off * 2 ^ 32 + Sts.seqTrap * 65536 + 2 * 256)).vidTrap core off
    else s.trapShow 2 (82 + core) off
  if again && !bit (s.rd Reg.RAS_CORE_STATE) (16 + core) then s.retire 4 core else s

/-! ## A power-fail warning (04 R139) -/

/-- What t_SB_PFW leaves unacknowledged in a store buffer discarded, and what waited for it to empty carried on. -/
def pfwDiscard (s : State) (t : Nat) : State := ((s.sbDiscard t 1).tileDrained t)

end State

open State

/-- A pending wait passes: a tile's, or the Splint engine's for 44 (04 R141; 05 R189). -/
def execTileWaitPass (tile : Nat) (s : State) : Host.Outcome State Fault Refusal :=
  .next (if tile = splRing then s.splWaitPass else s.waitPass tile)

/-- A pending wait reaches its time limit (04 R154). -/
def execTileWaitTimeout (tile : Nat) (s : State) : Host.Outcome State Fault Refusal :=
  .next (if tile = splRing then s.splWaitTimeout
    else match (s.tile tile).wait with
    | none => s
    | some w =>
      let v := s.rd (Reg.TILE_SYNC (s.siteOf tile) w.ctr)
      if w.limit = 0 || decide (w.thr ≤ v) then s else s.raiseExc tile Sts.timeout 2 v)

/-- A tile command completes (04 R142). -/
def execTileCommandComplete (tile : Nat) (s : State) : Host.Outcome State Fault Refusal := .next (s.tileComplete tile)

/-- The drain of an exception has ended (04 R158). -/
def execExceptionDrainDone (tile : Nat) (s : State) : Host.Outcome State Fault Refusal :=
  .next (match (s.tile tile).exc with
    | some e => if (s.tile tile).sb.isEmpty then ((s.endExc tile).ownerFail tile e.status e.result1).settle else s
    | none => s)

/-- A microcode fetch is uncorrectable: of a tile, a Creel unit, a video core or the Splint engine, by unit identifier (08
Table 8-4). `remapFails` says that the line finds no spare row or the reloaded store fails its test (06 R216). -/
def execSeqTrap (unit off : Nat) (remapFails : Bool) (s : State) : Host.Outcome State Fault Refusal :=
  .next (
    if unit < 32 then (if s.tileOn unit then s.tileTrap unit off remapFails else s)
    else if unit < 0x28 then
      let u := unit - 0x20
      if s.stackOn u then (s.trapShow 2 (stackIsland u) off).engTrap (32 + u) off else s
    else if unit < 0x2D then (if s.islandOn (82 + (unit - 0x28)) then s.vidCoreTrap (unit - 0x28) off else s)
    else if unit = 0x2D then
      if s.splintOn then
        let s := s.trapShow 2 81 off
        match (s.engOf splRing).cur with
        | some _ => s.splHalt ⟨Sts.seqTrap, 0, 0, off, false⟩
        | none => s.engTrap splRing off
      else s
    else s)

/-- A store-buffer entry reaches its timeout (04 R138): its slot is free, its response would be late, and it is a posted fault. -/
def execRoResponseTimeout (tile rtag : Nat) (s : State) : Host.Outcome State Fault Refusal :=
  .next (
    let x := s.tile tile
    match x.sb.findIdx? (fun e => e.issued && e.req.rtag == rtag) with
    | none => s
    | some i => match x.sb[i]? with
      | none => s
      | some e =>
        let s := (s.setTile tile { x with sb := x.sb.eraseIdx i, stale := x.stale ++ [rtag] }).tileEvent tile 50 1
        let a := s.shownAddr e.req.addr
        let s := match e.land with
          | .value _ => if x.exc.isSome then s.postFault tile Sts.timeout a else s.raiseExc tile Sts.timeout 0 a
          | _ => s.postFault tile Sts.timeout a
        ((s.pump tile).tileDrained tile).settle)

/-- A response arrives at the unit that issued its request (08 R285). -/
def execResponseArrival (r : Resp) (s : State) : Host.Outcome State Fault Refusal := .next (s.respArrive r)

/-- The last operation before a fence has been acknowledged (01 R42). -/
def execFenceComplete (tile : Nat) (s : State) : Host.Outcome State Fault Refusal := .next (s.fenceDone tile)

/-- t_SB_PFW has passed since a power-fail warning (04 R139). -/
def execSbPfwExpiry (s : State) : Host.Outcome State Fault Refusal :=
  .next (if s.pfw then ((List.range 32).foldl pfwDiscard s).settle else s)

end Sys2Proof.Machine
end

