-- ==== Sys2Proof/Machine/Flits.lean ====
section
/-! DEFINITION. The arrival of a flit (09 R315 to R321, R326): its checks, acknowledgement and credits, the messages that its
slots complete, and where they go. -/

namespace Sys2Proof.Machine

/-! ## Messages in slots (08 R286; 09 R316, Table 9-2) -/

/-- The bytes that follow a remote operation's header on a virtual channel: a request's payload, a response's bytes. -/
def tailBytes (cls hdr : Nat) : Nat :=
  if cls = 1 then 4 * bits hdr 97 5 else if bits hdr 27 6 = opLoad then 0 else 4 * bits hdr 33 5

/-- The slots of a message that begins with these bytes: of a time message one. -/
def msgSlots (cls : Nat) (bs : List Byte) : Nat :=
  if cls = 3 then 1 else ceilDiv (16 + tailBytes cls (ofLE (bs.take 16))) 32

/-- What the slots of a flit yield: the message begun and not ended, and the complete ones in order. -/
abbrev SlotRun := Option (Nat × Nat × List Byte) × List (Nat × List Byte)

/-- One slot: its SLOTMAP nibble and its bytes. A slot that continues nothing, or starts inside a message, is passed over. -/
def slotIn (r : SlotRun) (nib : Nat) (bs : List Byte) : SlotRun :=
  if !bit nib 3 then r
  else match r.1 with
    | some (c, n, have_) =>
      if bit nib 2 then r
      else if n ≤ 1 then (none, r.2 ++ [(c, have_ ++ bs)]) else (some (c, n - 1, have_ ++ bs), r.2)
    | none =>
      if !bit nib 2 then r
      else
        let c := nib % 4
        let n := msgSlots c bs
        if n ≤ 1 then (none, r.2 ++ [(c, bs)]) else (some (c, n - 1, bs), r.2)

/-- The slots of a flit from 1, or from 2 in a CONTROL flit. -/
def Flit.run (f : Flit) (part : Option (Nat × Nat × List Byte)) : SlotRun :=
  let from_ := if f.ftype = ftControl then 2 else 1
  (rangeFrom from_ (20 - from_)).foldl (fun r i =>
    slotIn r (bits f.map (4 * i - 4) 4) ((f.slots.drop (32 * (i - 1))).take 32)) (part, [])

/-- Whether a flit carries anything but link control. -/
def Flit.traffic (f : Flit) : Bool :=
  let from_ := if f.ftype = ftControl then 2 else 1
  f.ftype != ftIdle && (rangeFrom from_ (20 - from_)).any (fun i => bit (bits f.map (4 * i - 4) 4) 3)

namespace State

/-! ## Acknowledgement -/

/-- Held flits up to ACKSEQ freed and the credits of an accepted flit taken (09 R319, R321). -/
def ackIn (s : State) (l ack : Nat) (credits : List Nat) : State :=
  s.updLink l (fun x =>
    let held := match x.held.findIdx? (fun f => f.fseq == ack) with
      | some i => x.held.drop (i + 1)
      | none => x.held
    { x with held := held, credit := (x.credit.zip credits).map (fun (a, b) => a + b) })

/-- A NAK: a replay of what is still held (09 R320). -/
def nakIn (s : State) (l : Nat) : State :=
  if (s.link l).held.isEmpty then s else s.replay l

/-! ## Delivery -/

/-- A request that arrived on a link: at its home here, on its way, or refused. Before MOD_NUM is set only status-page loads are
served, and answered on that link (09 R337). -/
def reqIn (s : State) (l : Nat) (m : LinkMsg) (q : Req) (seen : Seen) : State :=
  let g := 20 + s.portOf l
  let s := (s.pmuEvent g 0x001 1 (some (Origin.req q))).pmuEvent g 0x002 (ceilDiv q.data.length 64) (some (Origin.req q))
  if s.ownMod = 0xFFF then
    if spaceOf q.addr == 5 && q.op == opLoad then
      match s.homePerform q seen with
      | (s, some (st, bs)) =>
        let r := Resp.make q st bs
        (s.emit (.response r)).enqueue l (respMsg r)
      | (s, none) => s
    else (s.ingressRefuse q).refuse q Sts.accessFault
  else if s.isOwn (modOf q.addr) then s.performReq q seen
  else if s.routed m.dest then s.route m
  else s.refuse q Sts.accessFault

/-- A message delivered; its buffer units are owed back (08 R299). `first` says whether the environment's `seen` concerns it. -/
def msgIn (s : State) (l : Nat) (cls : Nat) (bs : List Byte) (seen : Seen) : State :=
  let m : LinkMsg := ⟨cls, cls == 1 && bit (ofLE (bs.take 16)) 96, bs⟩
  let s := s.updLink l (fun x => { x with owed := x.owed.modify cls (· + m.units) })
  let hdr := BitVec.ofNat 128 m.hdr
  let data := (bs.drop 16).take (tailBytes cls m.hdr)
  match cls with
  | 3 => s.timeIn l bs
  | 1 => if m.dest == s.srcMod then s.respArrive ⟨hdr, data⟩ else s.route m
  | _ => s.reqIn l m ⟨hdr, data⟩ seen

/-- The complete messages of a flit delivered in order; what a memory reads concerns the first request. -/
def msgsIn (l : Nat) : List (Nat × List Byte) → Seen → State → State
  | [], _, s => s
  | (c, bs) :: rest, seen, s => msgsIn l rest (if c = 0 || c = 2 then .clean else seen) (s.msgIn l c bs seen)

/-- A flit accepted: its acknowledgement, its messages, and an answer that carries ACKSEQ and credits (09 R319). -/
def flitAccept (s : State) (l : Nat) (f : Flit) (nak : Bool) (ack : Nat) (credits : List Nat) (seen : Seen) : State :=
  let s := (s.pmuEvent (20 + s.portOf l) 0x121 1 none).ackIn l ack credits
  let s := if nak then s.nakIn l else s
  if f.ftype = ftIdle then s.egress l
  else
    let (part, ms) := f.run (s.link l).part
    let s := s.updLink l (fun x => { x with rx := f.fseq, part := part })
    let s := if f.ftype = ftControl then s.ctlIn l (f.slots.take 32) else s
    let s := msgsIn l ms seen s
    (s.egress l).sendIdle l false

/-- The thresholds of the 1 ms window (09 R326). -/
def windowCheck (s : State) (p : Nat) : State :=
  let l := s.portLink p
  let x := s.link l
  if s.portState p = pUp && (decide (s.fd (Fld.ATY_PORT_ERR_CFG_CORR_THRESH p) ≤ x.corr) ||
      decide (s.fd (Fld.ATY_PORT_ERR_CFG_UNCORR_THRESH p) ≤ x.bad)) then
    (s.updLink l (fun x => { x with corr := 0, bad := 0 })).portRetrain p
  else s

/-- The states in which a port receives flits. -/
def receives (st : Nat) : Bool := carries st 4 || st == pBert

/-- A codeword arrives on a link: counted, checked, and accepted or answered with NAK (09 R320, R326). Traffic on a link that
is not UP is not accepted. -/
def flitIn (s : State) (l : Nat) (decodes : Bool) (corrected : Nat) (bs : List Byte) (seen : Seen) : State :=
  let p := s.portOf l
  if 16 ≤ l || !receives (s.portState p) then s
  else
    let s := (s.bumpWrap (Reg.ATY_FEC_CW_CNT p) 64 1).bumpWrap (Reg.ATY_FEC_CORR_CNT p) 64 corrected
    let s := (s.pmuEvent (20 + p) 0x123 corrected none).updLink l (fun x => { x with corr := x.corr + corrected })
    let bad := fun (s : State) => (s.updLink l (fun x => { x with bad := x.bad + 1 })).sendIdle l true
    let s :=
      if !decodes then bad (s.bump (Reg.ATY_FEC_UNCORR_CNT p) 1)
      else match flitOf bs with
        | none => bad (s.bump (Reg.ATY_CRC_ERR_CNT p) 1)
        | some (f, nak, ack, credits) =>
          let due := if f.ftype = ftIdle then (s.link l).rx else ((s.link l).rx + 1) % 2 ^ 12
          if f.fseq = due && (s.portState p == pUp || !f.traffic) then s.flitAccept l f nak ack credits seen
          else s.sendIdle l true
    s.windowCheck p

end State

/-- A flit arrives on a link (09 R320). `decodes` and `corrected` are what its FEC found; `seen` is what the memory that its
first request touches reads. -/
def execFlitReceive (link : Nat) (decodes : Bool) (corrected : Nat) (flit : List Byte) (seen : Seen) (s : State) :
    Host.Outcome State Fault Refusal :=
  .next (s.flitIn link decodes corrected flit seen)

end Sys2Proof.Machine
end

