-- ==== Sys2Proof/Machine/View.lean ====
section
/-! DEFINITION. BAR0 as its readers see it (00 R5, R13 to R16; 02 R54, R83): which register an offset names, whether its unit
answers, the registers that reflect a list or a mode of the state, and the values of words. -/

namespace Sys2Proof.Machine

/-! ## Offsets -/

/-- The offset inside the register that an offset inside an array names, if it names one: the array's dimensions, counts and
strides, largest stride first. -/
def dimOff : List (Nat × Nat) → Nat → Option Nat
  | [], d => some d
  | (c, st) :: l, d => if d / st < c then dimOff l (d % st) else none

/-- The register that holds a byte of BAR0, with its offset. -/
def rowAt (off : Nat) : Option (RegRow × Nat) :=
  regTable.findSome? (fun r =>
    if off < r.base then none
    else match dimOff r.dims (off - r.base) with
      | some d => if d < r.width / 8 then some (r, off - d) else none
      | none => none)

/-- The index of a register in the first dimension of its array. -/
def RegRow.ix (r : RegRow) (addr : Nat) : Nat := match r.dims with | (_, st) :: _ => (addr - r.base) / st | [] => 0

/-- The index in the second dimension. -/
def RegRow.ix2 (r : RegRow) (addr : Nat) : Nat :=
  match r.dims with | (_, st) :: (_, st2) :: _ => (addr - r.base) % st / st2 | _ => 0

/-- Whether an offset lies in a window of `n` units from `lo`, one every `st` bytes: the unit. -/
def unitAt (off lo st n : Nat) : Option Nat :=
  if lo ≤ off && decide (off < lo + st * n) then some ((off - lo) / st) else none

namespace State

/-- The island of the unit whose register window holds an offset (02 Table 2-3; 01 Table 1-5; 20 R640). -/
def windowIsland (off : Nat) : Option Nat :=
  ((unitAt off 0x1000000 0x40000 36).map siteIsland).or
  ((((unitAt off 0x2000000 0x20000 8).or (unitAt off 0x2100000 0x20000 8)).map stackIsland).or
  (((unitAt off 0x2200000 0x10000 12).map sliceIsland).or
  (((unitAt off 0x2300000 0x10000 18).map portIsland).or
  (((unitAt off 0x810000 0x100 53).map groupIsland).or
  (match off / 2 ^ 20 with
    | 0xA => some (if off < 0xA80000 then 88 else 87)
    | 0xB => some 89
    | 0xD => some 81
    | _ => none)))))

/-- Whether the unit whose register window holds an offset is absent or gated (00 R5). -/
def windowGated (s : State) (off : Nat) : Bool :=
  (match windowIsland off with
    | some i => !s.islandOn i
    | none => off / 2 ^ 20 == 0xC && !s.fuse.video) ||
  (match (unitAt off 0x2000000 0x20000 8).or (unitAt off 0x2100000 0x20000 8) with
    | some k => !bit s.stackMask k
    | none => false)

/-- The frequency of an island of 15 Table 15-4 in kHz, where it can fall below a register bus (15 Table 15-2; 16 R554, Table 16-2):
a tile or the Splint engine by its state; at a quarter of its own in the floor state, a slice, a video core or a fitch/sampler unit. -/
def islandKhz (s : State) (i : Nat) : Option Nat :=
  let plain := fun (f : Nat) => some (if s.pFloored i then f / 4 else f)
  if hasPstate i then
    some (match s.pState i with
      | 0 => 1350000
      | 1 => 1200000
      | 2 => 900000
      | 3 => 600000
      | _ => 300000)
  else if (31 ≤ i && decide (i ≤ 36)) || (68 ≤ i && decide (i ≤ 73)) || i == 91 || i == 92 then plain 1200000
  else if 82 ≤ i && decide (i ≤ 86) then plain 800000
  else if i = 87 then some 312500
  else none

/-- Whether an island breaks its ratio to its die's register bus, at the lowest frequency that its spread gives (15 R540). -/
def busBroken (s : State) (i : Nat) : Bool :=
  let spread := if !corePll i || (List.range 32).any (fun t => s.rimOwns t && siteIsland (s.siteOf t) == i) then 0
    else if onWest i then s.fd Fld.CLK_SSC_SPREAD_W else s.fd Fld.CLK_SSC_SPREAD_E
  match s.islandKhz i with
  | some f => decide (f * (1000 - spread) * s.fd Fld.CLK_REGBUS_CFG_DIV < 1000000000)
  | none => false

/-! ## Registers that reflect the state -/

/-- A count cut to a field. -/
def shown (n w : Nat) : Nat := min n (2 ^ w - 1)

/-- TILE_STATUS of a site (04 Table 4-15). -/
def tileStatus (s : State) (site : Nat) : Nat :=
  match s.tileOf site with
  | none => 0
  | some t =>
    let x := s.tile t
    b2n x.trapped * 2 ^ 31 + b2n x.posted.isSome * 2 ^ 30 + x.sb.length % 128 * 2 ^ 23 +
      (match x.wait with | some w => w.ctr % 32 * 64 + 32 | none => 0) + b2n x.fencing * 16 + x.engine % 16

/-- SPL_STATUS (05 Table 5-13). -/
def splStatus (s : State) : Nat :=
  match (s.engOf splRing).cur with
  | none => 0
  | some j => b2n j.begun + (match s.splWaiting with | some p => 32 + (splWaitOf p).1 % 16 * 2 | none => 0)

/-- CRL_STATUS of a unit (07 Table 7-14). -/
def crlStatus (s : State) (u : Nat) : Nat :=
  let st := if !bit s.stackMask u then 0 else if !s.stackOk u then 3 else if s.tenantOpen then 2 else 1
  shown (s.gatherDepth u) 8 * 2 ^ 24 + b2n (s.crl.zeroing.any (fun z => pageUnit z.page == u)) * 8 +
    b2n (s.crl.walks.any (fun w => w.1 == u)) * 4 + st

/-- CRL_PARKEDj: the sequences 64j to 64j + 63 that are PARKED. -/
def crlParkedMask (s : State) (u j : Nat) : Nat :=
  if !s.stackOk u then 0
  else (s.crl.seqs.filter (fun e => e.1 / 64 == j && e.2.state == 2)).foldl (fun m e => m + 2 ^ (e.1 % 64)) 0

/-- MCC_STATUS (02 Table 2-11). -/
def mccStatus (s : State) : Nat :=
  let v := setBits (s.rd Reg.MCC_STATUS) 0 1 (b2n (s.mcc.cur.isSome || !s.served false))
  setBits (setBits v 3 1 (match s.mcc.cur with | some j => b2n j.i3c | none => 0)) 4 1 (b2n (!s.mcc.aborts.isEmpty))

/-- RAS_MAINT (19 Table 19-10). -/
def rasMaint (s : State) : Nat :=
  (match s.ras.holders with | a :: _ => a.code % 256 * 2 ^ 24 | [] => 0) +
    shown (s.ras.holders.filter (fun a => !exclusive a)).length 8 * 2 ^ 16 + shown s.ras.queue.length 8 * 2 ^ 8 +
    b2n (s.ras.holders.any exclusive)

/-- Requests in a state, and those of an account that are active (10 Table 10-12). -/
def srvCount (s : State) (p : SrvReq → Bool) : Nat := (s.srv.reqs.filter p).length

/-- RST_SIDEBAND (21 Table 21-4). -/
def sideband (s : State) : Nat :=
  s.rd Reg.RST_SIDEBAND / 2 ^ 16 % 2 * 2 ^ 16 + s.pins.slotId % 64 * 2 ^ 8 + s.fd Fld.PLT_STATUS_LISTEN_ONLY * 2 +
    b2n s.pins.maintInhibit

/-- The value of a register as it is read. -/
def viewReg (s : State) (r : RegRow) (addr : Nat) : Nat :=
  let held := (Cells.get (BitVec.ofNat 64 r.rst) addr s.regs).toNat
  let i := r.ix addr
  let known := s.fb Fld.CAP_UNITS_CAP_VALID
  if addr = Reg.ID_PART.addr then
    (if s.fuse.video then 0x4480 else 0x4460) * 2 ^ 16 + s.fuse.stepMajor % 16 * 2 ^ 12 + s.fuse.stepMinor % 16 * 2 ^ 8 + 1
  else if addr = Reg.ID_SERIAL.addr then s.fuse.serial
  else if 0x700100 ≤ addr && decide (addr < 0x700140) then (if known then held else 0)
  else if addr = Reg.ATY_LINK_MAP0.addr || addr = Reg.ATY_LINK_MAP1.addr then (if known then held else 0)
  else if addr = Reg.MCC_STATUS.addr then s.mccStatus
  else if addr = Reg.MCC_DOORBELL.addr || addr = Reg.MCC_ABT_DOORBELL.addr then 0
  else if r.base = (Reg.TILE_ID 0).addr then i * 2 ^ 8 + (s.tileOf i).getD 0xFF
  else if r.base = (Reg.TILE_STATUS 0).addr then s.tileStatus i
  else if addr = Reg.SPL_STATUS.addr then s.splStatus
  else if r.base = (Reg.CRL_STATUS 0).addr then s.crlStatus i
  else if r.base = (Reg.CRL_POOL_FREE 0).addr then s.poolFree i
  else if r.base = (Reg.CRL_POOL_RESV 0).addr then s.poolResv i
  else if r.base = (Reg.CRL_POOL_USED 0).addr then s.poolUsed i
  else if r.base = (Reg.CRL_PARKED 0 0).addr then s.crlParkedMask i (r.ix2 addr)
  else if addr = Reg.SRV_STATUS.addr then setBits held 0 13 (shown (s.srvCount srvHolds) 13)
  else if addr = Reg.SRV_QUEUED.addr then shown (s.srvCount (fun r => r.st == 0)) 14
  else if addr = Reg.SRV_PAUSED.addr then shown (s.srvCount (fun r => r.st == 3)) 13
  else if r.base = (Reg.SRV_ACCT_STATE 0).addr then
    setBits held 16 13 (shown (s.srvCount (fun r => srvHolds r && r.account == i)) 13)
  else if addr = Reg.RAS_MAINT.addr then s.rasMaint
  else if addr = Reg.RST_SIDEBAND.addr then s.sideband
  else if r.base = (Reg.PLT_PORT_MAC 0).addr then s.pltMac i
  else if r.base = (Reg.PAIR_SVC_DIGEST 0).addr then 0
  else held

/-! ## Buffers and windows -/

/-- A trouble-log record's 4-byte words, by slot of the window (19 R630). -/
def logSlot (s : State) (slot : Nat) : List Byte :=
  let next := s.rd Reg.RAS_LOG_SEQ
  match s.log.find? (fun r => r.seq % 2048 == slot && decide (next ≤ r.seq + 2048)) with
  | some r => recBytes r
  | none => List.replicate 32 0

/-- The bytes of a part of BAR0 that is no array of registers: packet buffers, replies, the log and its retained tail. -/
def bufAt (s : State) (off : Nat) : Option (List Byte) :=
  let cut := fun (bs : List Byte) (o : Nat) => some ((bs.drop o).take 4)
  if 0x100000 ≤ off && decide (off < 0x100040) then cut (leBytes 64 s.mcc.cmd.toNat) (off - 0x100000)
  else if 0x100080 ≤ off && decide (off < 0x1000A0) then cut (leBytes 32 s.mcc.reply.toNat) (off - 0x100080)
  else if 0x100100 ≤ off && decide (off < 0x100140) then cut (leBytes 64 s.mcc.abtCmd.toNat) (off - 0x100100)
  else if 0x100180 ≤ off && decide (off < 0x1001A0) then cut (leBytes 32 s.mcc.abtReply.toNat) (off - 0x100180)
  else if 0x710000 ≤ off && decide (off < 0x720000) then cut (s.logSlot ((off - 0x710000) / 32)) (off % 32)
  else if 0x720000 ≤ off && decide (off < 0x724000) then
    match s.ras.tail[(off - 0x720000) / 32]? with
    | some r => cut (recBytes r) (off % 32)
    | none => cut (List.replicate 32 0) (off % 32)
  else none

/-! ## Reads -/

/-- Whether an offset lies in a block that confidential mode leaves open: the MCC and the HIF (02 R83). -/
def confOpen (off : Nat) : Bool := decide (0x100000 ≤ off) && decide (off < 0x300000)

/-- Whether an offset lies among the DBG registers (20 R653). -/
def dbgOff (off : Nat) : Bool := decide (0x880000 ≤ off) && decide (off < 0x900000)

/-- An access to a window that is gated, counted (00 R5). Its register names no global address, so DBG_GATED_LAST stays. -/
def gatedWindow (s : State) : State := s.bump Reg.DBG_GATED_ACCESS_CNT 1

/-- The width of a count that the model does not follow, where a register holds one: it reads as an open value
(assumption 80). -/
def unseenCount (s : State) (r : RegRow) (addr : Nat) : Option Nat :=
  let g := r.ix addr
  let c := r.ix2 addr
  if r.base = (Reg.PMU_CYCLE 0).addr then some 64
  else if r.base = (Reg.TILE_EVCNT 0 0).addr && tileUnseen c then some 48
  else if r.base = (Reg.PMU_CNT 0 0).addr && s.fb (Fld.PMU_EVSEL_EN g c) && pmuUnseen g (s.fd (Fld.PMU_EVSEL_EVENT g c)) then
    some 48
  else none

/-- A register's value drawn: held and reflected, or open. How far a tenant scrub in progress has come is open (14 R510). -/
def drawReg (s : State) (r : RegRow) (addr : Nat) : State × Nat :=
  match s.unseenCount r addr with
  | some w => let (v, s) := s.open_ w; (s, v)
  | none =>
    if addr = Reg.SEC_SCRUB_POS.addr && s.fb Fld.SEC_STATUS_SCRUB_ACTIVE then
      let (off, s) := s.open_ 36
      let (done, s) := s.open_ 8
      (s, (done &&& s.stackMask) * 2 ^ 56 + off)
    else (s, s.viewReg r addr)

/-- A read of one register or word: its value, `w` bytes; an open value where the island breaks its ratio to the register bus (15
R540). An RC field read by the host is cleared (00 R15); `side` says whether the read has its side effects. -/
def readPiece (s : State) (off w : Nat) (side : Bool) : State × Nat :=
  match s.bufAt off with
  | some bs => (s, ofLE (bs.take w))
  | none => match rowAt off with
    | none => (s, 0)
    | some (r, addr) =>
      if s.windowGated off then (s.gatedWindow, 0)
      else if (windowIsland off).any s.busBroken then let (v, s) := s.open_ (8 * w); (s, v)
      else
        let (s, v) := s.drawReg r addr
        let s := if side && r.rc != 0 then { s with regs := Cells.erase addr s.regs } else s
        (s, bits v (8 * (off - addr)) (8 * w))

/-- A read of 4 or 8 bytes at an aligned offset (00 R13): one register of 64 bits, or words in address order. -/
def readBar0 (s : State) (off w : Nat) (side : Bool) : State × Nat :=
  let whole := match rowAt off with | some (r, addr) => r.width == 64 && addr == off | none => false
  if w = 8 && !whole then
    let (s, lo) := s.readPiece off 4 side
    let (s, hi) := s.readPiece (off + 4) 4 side
    (s, lo + hi * 2 ^ 32)
  else s.readPiece off w side

/-- A read of 4 or 8 bytes of BAR2 (02 R55): the MSI-X table and its pending bits; doorbells read 0. -/
def readBar2 (s : State) (off w : Nat) : Nat :=
  let word := fun (o : Nat) =>
    if 0xF00000 ≤ o && decide (o < 0xF01000) then
      let e := s.msixOf ((o - 0xF00000) / 16)
      match o % 16 / 4 with
      | 0 => e.addr.toNat % 2 ^ 32
      | 1 => e.addr.toNat / 2 ^ 32
      | 2 => e.data.toNat
      | _ => b2n e.masked
    else if 0xF01000 ≤ o && decide (o < 0xF01020) then
      ((List.range 32).filter (fun i => (s.msixOf (8 * (o - 0xF01000) + i)).pending)).foldl (fun m i => m + 2 ^ i) 0
    else 0
  if w = 8 then word off + word (off + 4) * 2 ^ 32 else word off

end State
end Sys2Proof.Machine
end

