-- ==== Sys2Proof/Machine/Rings.lean ====
section
/-! DEFINITION. The rings as the host works them (02 R71 to R78, R676): opening, closing, resetting, doorbells, fetches, the
moment of EXEC_TIME and the coalescing timer. -/

namespace Sys2Proof.Machine
namespace State

/-! ## Ring numbers (02 Table 2-13) -/

/-- Whether RING_OPEN accepts a ring number. -/
def ringNumber (n : Nat) : Bool := decide (n ≤ 44) || (decide (64 ≤ n) && decide (n ≤ 127))

/-- FAMILY and INSTANCE of a ring. -/
def ringTarget (n : Nat) : Nat × Nat :=
  if n < 32 then (2, n) else if n < 40 then (3, n - 32) else if n < 44 then (8, n - 40) else if n = 44 then (2, 32)
  else (5, n - 64)

/-- Whether the unit behind a ring is there and clocked. The serving engine always is. -/
def ringPresent (s : State) (n : Nat) : Bool :=
  if n < 32 then s.tileOn n
  else if n < 40 then s.stackOn (n - 32)
  else if n < 44 then s.vidPresent
  else if n = 44 then s.splintOn
  else true

/-! ## Opening (02 R74) -/

/-- LOG2_SIZE and VECTOR of a RING_OPEN (02 Tables 2-17, 2-18); none for an undefined PROFILE. -/
def openShape (p : Packet) : Option (Nat × Nat) :=
  if p.expert then some (p.u8 18, p.u8 19)
  else match p.u8 20 with
    | 1 => some (10, 3 + p.u16 16 % 253)
    | 2 => some (12, 3 + p.u16 16 % 253)
    | 3 => some (14, 3 + p.u16 16 % 253)
    | _ => none

/-- Bytes of a queue of `2 ^ log` entries: packets or replies, in confidential mode records (02 R72, R87). -/
def queueBytes (s : State) (entry log : Nat) : Nat := (if s.conf then 4096 else entry) * 2 ^ log

/-- The checks of RING_OPEN, in the order of 02 R60. -/
def ringOpenCheck (s : State) (p : Packet) : Option Ans :=
  let n := p.u16 16
  let (log, v) := (openShape p).getD (0, 0)
  let (sq, cq) := (p.u64 24, p.u64 32)
  let (nsq, ncq) := (s.queueBytes 64 log, s.queueBytes 32 log)
  firstFail [(!ringNumber n, .param), (!s.ringPresent n, .err Sts.unitAbsent),
    ((openShape p).isNone || decide (log < 6) || decide (16 < log) || decide (v < 3) || sq % nsq != 0 || cq % ncq != 0,
      .param),
    (s.ringState n != closed || (decide (n < 32) && (bit s.srv.tileMask n || s.rimOwns n)), .err Sts.ringState),
    (s.conf && (s.windowOf sq nsq).isNone, .fault (hostAddr sq)), (s.conf && (s.windowOf cq ncq).isNone, .fault (hostAddr cq))]

/-- The indices of a ring cleared. -/
def ringZero (s : State) (n : Nat) : State :=
  (((s.wr (Reg.HIF_RING_HEAD n) 0).wr (Reg.HIF_RING_TAIL n) 0).wr (Reg.HIF_RING_CPL_TAIL n) 0).wr (Reg.HIF_RING_CPL_HEAD n) 0

/-- A ring opened. -/
def ringOpen (s : State) (n log v sq cq : Nat) : State :=
  let (fam, inst) := ringTarget n
  let s := (s.wr (Reg.HIF_RING_SQ_BASE n) sq).wr (Reg.HIF_RING_CQ_BASE n) cq
  let s := s.wr (Reg.HIF_RING_CFG n) (v * 2 ^ 24 + fam * 2 ^ 16 + inst * 2 ^ 8 + log)
  let s := ((s.ringZero n).wr (Reg.HIF_RING_STATE n) idle).wr (Reg.HIF_RING_FAULT_ADDR n) 0
  let s := s.setEng n { s.engOf n with fetched := [], held := [], openRec := [] }
  if 64 ≤ n then s.regReset (Reg.SRV_RING_CFG (n - 64)) else s

/-- A ring closed (02 R676): it reads 0 in FAMILY and INSTANCE (R71). -/
def ringClose (s : State) (n : Nat) : State :=
  ((s.setRingState n closed).fw (Fld.HIF_RING_CFG_FAMILY n) 0).fw (Fld.HIF_RING_CFG_INSTANCE n) 0

/-! ## RING_RESET (02 R78) -/

/-- The packets of a submission entry as its replies echo them: none where a record does not open. -/
def ringEntry (s : State) (n idx : Nat) : State × List Packet :=
  let slot := idx % s.ringSize n
  if s.conf then
    let a := s.rd (Reg.HIF_RING_SQ_BASE n) + 4096 * slot
    match s.windowOf a 4096 with
    | none => (s, [])
    | some (w, b) => match s.openRecord w ((a - b.base) / 4096) with
      | (s, none) => (s, [])
      | (s, some pl) =>
        (s, (List.range (pl.length / 64)).map (fun i => Packet.ofBits (BitVec.ofNat 512 (ofLE ((pl.drop (64 * i)).take 64)))))
  else (s, [Packet.ofBits (BitVec.ofNat 512 (ofLE (s.hostRead (s.rd (Reg.HIF_RING_SQ_BASE n) + 64 * slot) 64)))])

/-- STS_ABORTED for every command from an index on, `k` entries. -/
def ringAbortedFrom (n : Nat) : Nat → Nat → State → State
  | _, 0, s => s
  | idx, k + 1, s =>
    let (s, ps) := s.ringEntry n idx
    let s := ps.foldl (fun s p =>
      s.ringReply n (replyBits p.opcode.toNat p.seq.toNat s.now (.err Sts.aborted) false) p.irq) s
    ringAbortedFrom n ((idx + 1) % 2 ^ 32) k s

/-- A HALTED or ABORTED ring returned to IDLE. -/
def ringReset (s : State) (n : Nat) : State :=
  let s := ringAbortedFrom n (s.ringHead n) (sub32 (s.ringTail n) (s.ringHead n)) s
  let s := s.wr (Reg.HIF_RING_HEAD n) (s.ringTail n)
  (s.closeRecord n).setRingState n idle

/-- The checks of RING_RESET (02 R78, R676; 04 R160). -/
def ringResetCheck (s : State) (n : Nat) : Option Ans :=
  firstFail [(!ringNumber n, .param), (decide (n < 32) && (s.tile n).trapped, .refuse 0x0201),
    (s.ringState n != halted && s.ringState n != aborted, .err Sts.ringState)]

/-! ## Doorbells (02 R75, R77) -/

/-- DB_SQ_TAILn written. -/
def sqTail (s : State) (n tail : Nat) : State :=
  if !s.ringRuns n then s
  else
    let old := sub32 (s.ringTail n) (s.ringHead n)
    let new := sub32 tail (s.ringHead n)
    if old ≤ new && decide (new ≤ s.ringSize n) then
      let s := s.wr (Reg.HIF_RING_TAIL n) tail
      if s.ringState n = idle && 0 < new then s.setRingState n active else s
    else s.fbw (Fld.HIF_RING_STATE_TAIL_OVF n) true

/-- DB_CQ_HEADn written: a head at or ahead of CPL_HEAD and not beyond CPL_TAIL frees entries, so that held replies are
written and the target goes on. -/
def cqHead (s : State) (n head : Nat) : State :=
  if s.ringState n = closed then s
  else
    let h := s.rd (Reg.HIF_RING_CPL_HEAD n)
    if sub32 head h ≤ sub32 (s.rd (Reg.HIF_RING_CPL_TAIL n)) h then
      let s := (s.wr (Reg.HIF_RING_CPL_HEAD n) head).flushHeld n
      let s := if (s.engOf n).openRec.length = 127 || s.ringState n != active then s.closeRecord n else s
      s.startNext n
    else s.fbw (Fld.HIF_RING_STATE_CQ_HEAD_ERR n) true

/-! ## Time (02 R61, R81, R87) -/

/-- EXEC_TIME of the command that waits on a path has come: its own row runs it. -/
def execDue (s : State) (via : Via) : State :=
  match s.jobOf via with
  | some j =>
    if !j.begun && j.pkt.execTime.toNat != 0 && decide (j.pkt.execTime.toNat ≤ s.now) then s.setJob via { j with due := true }
    else s
  | none => s

/-- TIME_US of a vector has elapsed: open completion records of its rings close, and the vector fires where a reply pends. -/
def coalesceEnd (s : State) (v : Nat) : State :=
  let s := if s.conf then
      (List.range 128).foldl (fun s n => if s.ringState n != closed && s.ringVector n == v then s.closeRecord n else s) s
    else s
  if s.coalOf v = 0 then s else s.fire v

end State

open State

/-- RING_OPEN (02 R74). -/
def execRingOpen (via : Via) (p : Packet) (s : State) : Host.Outcome State Fault Refusal :=
  .next (s.runRow via p (p.base == 0x0110) (fun s => s.ringOpenCheck p)
    (fun s => match openShape p with
      | some (log, v) => (s.ringOpen (p.u16 16) log v (p.u64 24) (p.u64 32), some .done)
      | none => (s, some .param)))

/-- RING_CLOSE (02 R676). -/
def execRingClose (via : Via) (p : Packet) (s : State) : Host.Outcome State Fault Refusal :=
  let n := p.u16 16
  .next (s.runRow via p (p.base == 0x0111)
    (fun s => firstFail [(!ringNumber n, .param), (s.ringState n != idle, .errD Sts.ringState (s.ringState n))])
    (fun s => (s.ringClose n, some .done)))

/-- RING_RESET (02 R78, R676). -/
def execRingReset (via : Via) (p : Packet) (s : State) : Host.Outcome State Fault Refusal :=
  .next (s.runRow via p (p.base == 0x0112) (fun s => s.ringResetCheck (p.u16 16))
    (fun s => (s.ringReset (p.u16 16), some .done)))

/-- DB_SQ_TAIL (02 R75). -/
def execDbSqTail (ring : Nat) (tail : BitVec 32) (s : State) : Host.Outcome State Fault Refusal :=
  .next (if ring < 256 then s.sqTail ring tail.toNat else s)

/-- DB_CQ_HEAD (02 R77). -/
def execDbCqHead (ring : Nat) (head : BitVec 32) (s : State) : Host.Outcome State Fault Refusal :=
  .next (if ring < 256 then s.cqHead ring head.toNat else s)

/-- PACKET_FETCH (02 R76). `seen` is what the read of the packet meets. -/
def execPacketFetch (ring : Nat) (seen : Seen) (s : State) : Host.Outcome State Fault Refusal :=
  .next (if ring < 128 then s.ringFetch ring seen else s)

/-- EXEC_TIME_REACHED (02 R61). -/
def execExecTimeReached (via : Via) (s : State) : Host.Outcome State Fault Refusal := .next (s.execDue via)

/-- COALESCE_TIMER_EXPIRY (02 R81). -/
def execCoalesceTimerExpiry (v : Nat) (s : State) : Host.Outcome State Fault Refusal :=
  .next (if 0 < v && v < 256 then s.coalesceEnd v else s)

end Sys2Proof.Machine
end

