-- ==== Sys2Proof/Machine/Abort.lean ====
section
/-! DEFINITION. The management command channel as its entry points work it (02 R64 to R67, R85, R677), and FUNC_ABORT (02 R67
to R70). -/

namespace Sys2Proof.Machine
namespace State

/-! ## The main slot -/

/-- A packet accepted on the main slot: an undefined opcode is answered at once, a command of a unit queues behind its ring. -/
def mccAccept (s : State) (p : Packet) (i3c : Bool) (extra : List Byte) : State :=
  let s := { s with mcc := { s.mcc with cur := some (s.newJob .mcc i3c p), extra := extra } }
  if !mccOpcode p.opcode.toNat then s.mccReply (.err Sts.badOpcode)
  else match s.queuedOn p with
    | some n => s.startNext n
    | none => s

/-- Whether packets travel in records of window 0 (02 R85). -/
def mccSealed (s : State) : Bool := s.conf && !s.hif.bounce.isEmpty

/-- The packet of a record. -/
def recordPacket (pl : List Byte) : Packet := Packet.ofBits (BitVec.ofNat 512 (ofLE (pl.take 64)))

/-- The reply to a record that is not used (02 R86). -/
def badRecord (s : State) : BitVec 256 := replyBits 0 0 s.now (.errD Sts.accessFault 1) false

/-- MCC_DOORBELL written (02 R64, R65, R85). -/
def mccDoorbell (s : State) (v : Nat) : State :=
  let (idx, ans) := (v % 2 ^ 16, v / 2 ^ 16 % 2 ^ 16)
  if !s.served false || s.mcc.cur.isSome then s.mccReject
  else if s.mccSealed then
    match s.openRecord 0 idx with
    | (s, none) => (s.sealRecord 0 ans (leBytes 32 s.badRecord.toNat)).fw Fld.MCC_STATUS_REPLY_VALID 1
    | (s, some pl) => { s with mcc := { s.mcc with confCmd := some (idx, ans) } }.mccAccept (recordPacket pl) false []
  else
    let p := Packet.ofBits s.mcc.cmd
    if s.conf && !(p.base == 0x0120 && p.u8 16 == 0) then s.mccReject else s.mccAccept p false []

/-- A command over I3C (02 R66). -/
def mccI3c (s : State) (p : Packet) (extra : List Byte) : State :=
  if !s.served true || s.mcc.cur.isSome then
    s.emit (.i3c (replyBits p.opcode.toNat p.seq.toNat s.now (.err Sts.busy) false) [])
  else s.mccAccept p true extra

/-- A write into a packet buffer, of 4 to 64 bytes inside it (02 R65, R85, R677). -/
def cmdWrite (s : State) (abt : Bool) (off : Nat) (bs : List Byte) : State :=
  if s.mccSealed then s.bump Reg.HIF_BLOCKED_CNT 1
  else if !s.served false || (!abt && s.mcc.cur.isSome) then s.bump Reg.MCC_REJECT_CNT 1
  else
    let put := fun (b : BitVec 512) => BitVec.ofNat 512 (setBits b.toNat (8 * off) (8 * bs.length) (ofLE bs))
    { s with mcc := if abt then { s.mcc with abtCmd := put s.mcc.abtCmd } else { s.mcc with cmd := put s.mcc.cmd } }

/-! ## What FUNC_ABORT does to a function (02 R69, R70) -/

/-- INSTANCE_MASK (02 Table 2-12). -/
def abortInst (p : Packet) : Nat := if p.expert then p.u64 24 else 0

/-- The parameters that FUNC_ABORT refuses (02 R67). -/
def abortBad (p : Packet) : Bool :=
  let m := p.u16 16
  let i := p.u64 24
  if p.expert then
    m == 0 || bit m 0 || bit m 14 || bit m 15 ||
      (i != 0 && !((m == 4 && decide (i < 2 ^ 33)) || (m == 8 && decide (i < 2 ^ 8)) || (m == 256 && decide (i < 2 ^ 4))))
  else p.u8 16 == 0 || decide (13 < p.u8 16)

/-- Whether an INSTANCE_MASK selects an instance. -/
def selects (inst k : Nat) : Bool := inst == 0 || bit inst k

/-- Whether the MCC's command belongs to a function, and to one of its selected instances. -/
def abortsMcc (s : State) (fam inst : Nat) (p : Packet) : Bool :=
  p.family == fam && (inst == 0 || (match s.queuedOn p with
    | some n => bit inst (ringTarget n).2
    | none => false))

/-- Tiles and the Splint engine. -/
def abortTiles (s : State) (inst : Nat) : State :=
  let s := (List.range 32).foldl (fun s t =>
    if !selects inst t then s
    else if s.tileOn t then s.tileAbort t
    else if inst = 0 then (s.abortCur t).abortRing t
    else s) s
  if selects inst 32 && (inst == 0 || s.splintOn) then s.splintReset.abortRing 44 else s

/-- Creel units; a TRIM or CLOSE that the abort ends releases the accesses it held. -/
def abortCreel (s : State) (inst : Nat) : State :=
  let s := (List.range 8).foldl (fun s u =>
    if selects inst u && (inst == 0 || s.stackOn u) then (s.creelReset u).abortRing (32 + u) else s) s
  if inst = 0 && s.crl.busy.isSome then s.crlRelease else s

/-- Video sessions and rings. -/
def abortVideo (s : State) (inst : Nat) : State :=
  let s := s.vidCloseRings (if inst = 0 then 15 else inst)
  (List.range 4).foldl (fun s r => if selects inst r then (s.abortCur (40 + r)).abortRing (40 + r) else s) s

/-- The pair configuration and every service cleared, after the FAIL (12 R453, R462). -/
def abortPair (s : State) : State :=
  let had := s.pair.conds.contains 2
  let s := (List.range 64).foldl (fun s n =>
    if s.svcRole n = 0 then s
    else
      let s := (s.setRole n 0).setSvc n .start
      ((s.regReset (Reg.PAIR_SVC_STATUS n)).regReset (Reg.PAIR_SVC_CLAIM n)).regReset (Reg.PAIR_SVC_PEER_CLAIM n)) (s.pairFail 2)
  let s := ((s.regReset Reg.PAIR_CFG).fbw Fld.PAIR_STATUS_CONFIGURED false).pairCheck
  if had then s else s.pairFailEnd 2

/-- A pending security command; the tenant scrub stops and SCRUB_REQUIRED stands. -/
def abortSecurity (s : State) : State :=
  ((s.setWaiters (s.sec.waiters.filter (·.msg.isSome))).updSec (fun x => { x with closing := 0 })).scrubStop

/-- A pending clock command: the switch and the gating it asked for are not made. -/
def abortClock (s : State) : State :=
  let s := match s.clk.target with
    | some (_, _, true) => (s.updClk (fun x => { x with target := none })).fbw Fld.CLK_STATUS_SWITCHING false
    | _ => s
  s.updClk (fun x => { x with gating := [] })

/-- The loader's work: it stops after its current pulse, the journal intact. -/
def abortFlash (s : State) : State :=
  match s.rst.job with
  | none => s
  | some j =>
    if j.pulse then s.updRst (fun x => { x with job := some { j with stop := true } })
    else
      let s := s.updRst (fun x => { x with job := none })
      (if j.kind = 1 then s.maintRelease (commitAct j) else s).updShow

/-- One function aborted. -/
def abortFamily (s : State) (fam inst : Nat) : State :=
  let s := match fam with
    | 2 => s.abortTiles inst
    | 3 => s.abortCreel inst
    | 4 => (match s.ownBert with | some b => s.bertEnd b.link (.err Sts.aborted) | none => s)
    | 5 => s.srvAbort
    | 6 => (s.rimCommandsEnd.pairFail 2).laneStop
    | 7 => s.abortPair
    | 8 => s.abortVideo inst
    | 9 => s.abortSecurity
    | 10 => s.abortClock
    | 11 => s.abortFlash
    | 12 => s.memScrubEnd
    | _ => s
  s.mccAbort (s.abortsMcc fam inst)

/-- A FUNC_ABORT accepted on a slot: it joins those in progress, and its functions end. -/
def funcAbort (s : State) (p : Packet) (abt late : Bool) : State :=
  let s := { s with mcc := { s.mcc with aborts := (p, abt, late) :: s.mcc.aborts } }
  let s := (List.range 14).foldl (fun s u => if bit (abortMask p) u then s.abortFamily u (abortInst p) else s) s
  s.settle

/-! ## The abort slot (02 R67) -/

/-- A packet that the abort slot refuses: its reply and vector 1. -/
def abtRefuse (s : State) (p : Packet) (a : Ans) : State :=
  (s.abtPut (replyBits p.opcode.toNat p.seq.toNat s.now a false)).replyIrq 1

/-- A packet on the abort slot. Its extended-parameter block would be fetched before the checks (02 R63). -/
def abtTake (s : State) (p : Packet) : State :=
  if p.base ≠ 0x0101 then s.abtRefuse p (.err Sts.badOpcode)
  else
    let extra := s.mcc.extra
    match s.extBlock p with
    | (s, some a) => s.abtRefuse p a
    | (s, none) =>
      let s := { s with mcc := { s.mcc with extra := extra } }
      let late := p.execTime.toNat != 0 && decide (p.execTime.toNat < s.now + 200)
      if abortBad p then s.abtRefuse p .param
      else if late && !p.lateOk then s.abtRefuse p (.err Sts.timePassed)
      else (if late then s.logLate .mcc p else s).funcAbort p true late

/-- MCC_ABT_DOORBELL written. -/
def abtDoorbell (s : State) (v : Nat) : State :=
  let (idx, ans) := (v % 2 ^ 16, v / 2 ^ 16 % 2 ^ 16)
  if !s.served false then s.mccReject
  else if s.mccSealed then
    match s.openRecord 0 idx with
    | (s, none) =>
      let s := { s with mcc := { s.mcc with confAbt := some (idx, ans) } }
      (s.abtPut s.badRecord).replyIrq 1
    | (s, some pl) => { s with mcc := { s.mcc with confAbt := some (idx, ans) } }.abtTake (recordPacket pl)
  else s.abtTake (Packet.ofBits s.mcc.abtCmd)

end State

open State

/-- MCC_DOORBELL (02 R64). -/
def execMccDoorbell (value : BitVec 32) (s : State) : Host.Outcome State Fault Refusal := .next (s.mccDoorbell value.toNat)

/-- MCC_ABT_DOORBELL (02 R67). -/
def execMccAbtDoorbell (value : BitVec 32) (s : State) : Host.Outcome State Fault Refusal := .next (s.abtDoorbell value.toNat)

/-- I3C_MCC_COMMAND (02 R66). `extra` is what follows the packet in the message. -/
def execI3cMccCommand (p : Packet) (extra : List Byte) (s : State) : Host.Outcome State Fault Refusal :=
  .next (s.mccI3c p extra)

/-- MGMT_NOP (02 Table 2-9). -/
def execMgmtNop (via : Via) (p : Packet) (s : State) : Host.Outcome State Fault Refusal :=
  .next (s.runRow via p (p.base == 0x0100) (fun _ => none)
    (fun s => (s, some (.ok (Config.firmwareVersion s.stage (s.rd Reg.RST_IMG_VERSION) % 2 ^ 32) 0))))

/-- FUNC_ABORT on the main slot (02 R67 to R70). -/
def execFuncAbort (via : Via) (p : Packet) (s : State) : Host.Outcome State Fault Refusal :=
  .next (s.runRow via p (p.base == 0x0101) (fun _ => if abortBad p then some .param else none)
    (fun s => (s.funcAbort p false (match s.mcc.cur with | some j => j.late | none => false), none)))

end Sys2Proof.Machine
end

