-- ==== Sys2Proof/Machine/Access.lean ====
section
/-! DEFINITION. Accesses of the host to BAR0 and BAR2 (00 R5, R13 to R15; 02 R55 to R57, R80, R83, R88): writes by access type
with the registers that act, refusals, gated windows, and the MSI-X table. -/

namespace Sys2Proof.Machine

/-- A field brought into a range. -/
def clampField (v lo w mn mx : Nat) : Nat := setBits v lo w (max mn (min mx (bits v lo w)))

namespace State

/-! ## Refusals (02 R56, R88) -/

/-- A refused access captured. -/
def hifFault (s : State) (bar off : Nat) : State :=
  if s.fb Fld.HIF_FAULT_STATUS_VALID then s.fbw Fld.HIF_FAULT_STATUS_OVERRUN true
  else
    let s := (s.wr Reg.HIF_FAULT_STATUS (2 ^ 31 + Sts.accessFault)).fw Fld.HIF_FAULT_ADDR_OFFSET off
    s.fw Fld.HIF_FAULT_ADDR_BAR (if bar = 2 then 1 else 0)

/-- Whether an access is a naturally aligned one of 32 or 64 bits. -/
def accessOk (off w : Nat) : Bool := (w == 4 || w == 8) && off % w == 0

/-- The packet buffer that holds a write whole: whether the abort slot's, and the offset in it. -/
def cmdBuffer (off w : Nat) : Option (Bool × Nat) :=
  if w < 4 || 64 < w then none
  else if 0x100000 ≤ off && decide (off + w ≤ 0x100040) then some (false, off - 0x100000)
  else if 0x100100 ≤ off && decide (off + w ≤ 0x100140) then some (true, off - 0x100100)
  else none

/-! ## Writes of registers (00 Table 0-6) -/

/-- A register's value after a write of some of its bits: RW bits take the value, W1C bits are cleared by a 1. -/
def written (r : RegRow) (old v mask : Nat) : Nat :=
  let rw := r.rw &&& mask
  andNot (andNot old rw ||| (v &&& rw)) (v &&& (r.w1c &&& mask))

/-- What a register stores of a value written to it: the fields that the spec stores clamped or replaced, and those that a
state of the lane protects (11 R426). -/
def stored (s : State) (r : RegRow) (addr old v : Nat) : Nat :=
  let lane := decide (s.lane ≤ 1)
  if r.base = (Reg.TILE_RO_CFG 0).addr then clampField v 0 16 100 10000
  else if r.base = (Reg.HBM_PATROL_CFG 0).addr then clampField v 8 8 1 168
  else if r.base = (Reg.HBM_RETIRE_CFG 0).addr then clampField v 0 8 1 255
  else if r.base = (Reg.ATY_PORT_ERR_CFG 0).addr then clampField (clampField v 16 16 1 65535) 8 8 1 255
  else if addr = Reg.CLK_REGBUS_CFG.addr then clampField v 0 4 2 8
  else if addr = Reg.PWR_DROOP_CFG.addr then clampField v 0 8 20 80
  else if addr = Reg.RAS_MEM_PATROL.addr then clampField v 0 17 60 86400
  else if addr = Reg.PLT_CFG.addr then (if lane then v else setBits v 16 16 (bits old 16 16))
  else if r.base = (Reg.PLT_PORT_MAC 0).addr then
    (if lane then v else old) ^^^ (if r.ix addr = 0 then s.fuse.mac0 else s.fuse.mac1)
  else if r.base = (Reg.PMU_EVSEL 0 0).addr then (if pmuEvents.contains (bits v 0 12) then v else setBits v 0 12 0xFFF)
  else if addr = (Reg.HIF_COAL 0).addr then old
  else v

/-- What follows from a register's new value. -/
def afterWrite (s : State) (addr : Nat) : State :=
  if addr = Reg.CLK_FAIL.addr then
    if s.fb Fld.CLK_FAIL_OSC then s else s.orReg Reg.CLK_READY 1
  else
    let v := (addr - (Reg.HIF_COAL 0).addr) / 4
    if (Reg.HIF_COAL 0).addr < addr && decide (v < 256) && s.coalOf v != 0 &&
        (s.fd (Fld.HIF_COAL_COUNT v) == 0 || s.fd (Fld.HIF_COAL_TIME_US v) == 0 ||
          decide (s.fd (Fld.HIF_COAL_COUNT v) ≤ s.coalOf v)) then s.fire v
    else s

/-- VALID of HIF_FAULT_STATUS written (02 R88). -/
def faultStatusWrite (s : State) (v : Nat) : State :=
  if bit v 31 then (s.fbw Fld.HIF_FAULT_STATUS_VALID false).fbw Fld.HIF_FAULT_STATUS_OVERRUN false else s

/-- Bytes of a register written; `off` is the offset of the first, `w` their number. -/
def writeReg (s : State) (r : RegRow) (addr off w v : Nat) : State :=
  let sh := 8 * (off - addr)
  let old := if r.base = (Reg.PLT_PORT_MAC 0).addr then s.pltMac (r.ix addr)
    else (Cells.get (BitVec.ofNat 64 r.rst) addr s.regs).toNat
  let new := written r old (v * 2 ^ sh) ((2 ^ (8 * w) - 1) * 2 ^ sh)
  if addr = Reg.MCC_DOORBELL.addr then s.mccDoorbell v
  else if addr = Reg.MCC_ABT_DOORBELL.addr then s.abtDoorbell v
  else if addr = Reg.HIF_FAULT_STATUS.addr then s.faultStatusWrite v
  else if r.base = (Reg.ATY_EXPECT 0).addr then s.expectWrite (r.ix addr) new
  else if r.base = (Reg.PAIR_SVC_DIGEST 0).addr then (if w = 8 then s.stepDigest (r.ix addr) v else s)
  else if r.rw = 0 && r.w1c = 0 then s
  else
    { s with regs := Cells.set (BitVec.ofNat 64 r.rst) addr (BitVec.ofNat 64 (s.stored r addr old new)) s.regs }.afterWrite addr

/-- A write of 4 bytes, or of a register of 8, at an aligned offset of BAR0. `dbg` says whether it comes from the debug access
port, which alone reaches the DBG registers (20 R653). Whether one to an island that breaks its ratio to the register bus is
lost is open (15 R540). -/
def writePiece (s : State) (off w v : Nat) (dbg : Bool) : State :=
  if dbgOff off && !dbg then s
  else match cmdBuffer off w with
    | some (abt, o) => s.cmdWrite abt o (leBytes w v)
    | none => match rowAt off with
      | none => s
      | some (r, addr) =>
        if s.windowGated off then s.gatedWindow
        else if (windowIsland off).any s.busBroken then
          let (lost, s) := s.open_ 1
          if lost = 1 then s else s.writeReg r addr off w (v % 2 ^ (8 * w))
        else s.writeReg r addr off w (v % 2 ^ (8 * w))

/-- An aligned write of 4 or 8 bytes of BAR0 (00 R13): one register of 64 bits, or words in address order. -/
def writeBar0 (s : State) (off w v : Nat) (dbg : Bool) : State :=
  let whole := match rowAt off with | some (r, addr) => r.width == 64 && addr == off | none => false
  if w = 8 && !whole && (cmdBuffer off w).isNone then
    (s.writePiece off 4 (v % 2 ^ 32) dbg).writePiece (off + 4) 4 (v / 2 ^ 32) dbg
  else s.writePiece off w v dbg

/-! ## The MSI-X table (02 R55, R80) -/

/-- A vector unmasked: a pending message leaves. -/
def unmask (s : State) (v : Nat) : State :=
  let e := s.msixOf v
  if e.pending then (s.setMsix v { e with masked := false, pending := false }).emit (.msix v e.addr e.data)
  else s.setMsix v { e with masked := false }

/-- A word of BAR2 written: doorbells and the MSI-X table. -/
def writeWord2 (s : State) (off v : Nat) : State :=
  if off < 0x100000 then
    match off % 0x1000 with
    | 0 => s.sqTail (off / 0x1000) v
    | 4 => s.cqHead (off / 0x1000) v
    | _ => s
  else if 0xF00000 ≤ off && decide (off < 0xF01000) then
    let i := (off - 0xF00000) / 16
    let e := s.msixOf i
    match off % 16 / 4 with
    | 0 => s.setMsix i { e with addr := BitVec.ofNat 64 (setBits e.addr.toNat 0 32 v) }
    | 1 => s.setMsix i { e with addr := BitVec.ofNat 64 (setBits e.addr.toNat 32 32 v) }
    | 2 => s.setMsix i { e with data := BitVec.ofNat 32 v }
    | _ => if bit v 0 then s.setMsix i { e with masked := true } else s.unmask i
  else s

/-- An aligned write of 4 or 8 bytes of BAR2. -/
def writeBar2 (s : State) (off w v : Nat) : State :=
  if w = 8 then (s.writeWord2 off (v % 2 ^ 32)).writeWord2 (off + 4) (v / 2 ^ 32 % 2 ^ 32) else s.writeWord2 off (v % 2 ^ 32)

/-! ## The host's accesses -/

/-- A host write of `w` bytes (02 R56, R83). -/
def barWrite (s : State) (bar off w v : Nat) : State :=
  if bar = 0 && decide (off + w ≤ 2 ^ 26) then
    if !accessOk off w && (cmdBuffer off w).isNone then s.hifFault 0 off
    else if s.conf && !confOpen off then s.bump Reg.HIF_BLOCKED_CNT 1
    else match cmdBuffer off w with
      | some (abt, o) => s.cmdWrite abt o (leBytes w v)
      | none => s.writeBar0 off w v false
  else if bar = 2 && decide (off + w ≤ 2 ^ 24) then
    if accessOk off w then s.writeBar2 off w v else s.hifFault 2 off
  else s

/-- A host read of BAR0: its value leaves, or Unsupported Request. -/
def barRead (s : State) (off w : Nat) : State :=
  if 2 ^ 26 < off + w then s
  else if !accessOk off w then ((s.hifFault 0 off).pmuEvent 42 0x152 1 none).emit (.barUnsupported off)
  else if s.conf && !confOpen off then (s.bump Reg.HIF_BLOCKED_CNT 1).emit (.barRead off 0)
  else if dbgOff off then s.emit (.barRead off 0)
  else
    let (s, v) := s.readBar0 off w true
    s.emit (.barRead off (BitVec.ofNat 64 v))

end State

open State

/-- REGISTER_WRITE (00 R15): `width` bytes of a BAR. -/
def execRegisterWrite (bar off width value : Nat) (s : State) : Host.Outcome State Fault Refusal :=
  .next (s.barWrite bar off width value)

/-- GATED_ACCESS (00 R5): a read of BAR0 or a write. On an offset that is not gated a read is the host's ordinary one, and a write
carries no value and changes nothing. -/
def execGatedAccess (off width : Nat) (write : Bool) (s : State) : Host.Outcome State Fault Refusal :=
  .next (if !write then s.barRead off width
    else if 2 ^ 26 < off + width then s
    else if !accessOk off width then s.hifFault 0 off
    else if s.conf && !confOpen off then s.bump Reg.HIF_BLOCKED_CNT 1
    else if (rowAt off).isSome && s.windowGated off then s.writeBar0 off width 0 false
    else s)

/-- HIF_FAULT_STATUS_WRITE (02 R88). -/
def execHifFaultStatusWrite (value : BitVec 32) (s : State) : Host.Outcome State Fault Refusal :=
  .next (s.faultStatusWrite value.toNat)

/-- MSIX_UNMASK (02 R80). -/
def execMsixUnmask (v : Nat) (s : State) : Host.Outcome State Fault Refusal := .next (if v < 256 then s.unmask v else s)

/-- MCC_CMD_WRITE (02 R56, R65). -/
def execMccCmdWrite (abt : Bool) (off : Nat) (bytes : List Byte) (s : State) : Host.Outcome State Fault Refusal :=
  let base := if abt then 0x100100 else 0x100000
  .next (match cmdBuffer (base + off) bytes.length with
    | some (a, o) => if a = abt then s.cmdWrite a o bytes else s
    | none => if off < 64 then s.hifFault 0 (base + off) else s)

end Sys2Proof.Machine
end

