-- ==== Sys2Proof/Machine/Debug.lean ====
section
/-! DEFINITION. Counter commands, the JTAG port, the debug access port, halts and semaphores (20 R645 to R657), and the sideband
pins whose changes are recorded (21 R663, R666). -/

namespace Sys2Proof.Machine
namespace State

/-! ## Counter commands (20 R646, R648) -/

/-- Whether the unit of a counter group is there and clocked. -/
def groupOn (s : State) (g : Nat) : Bool :=
  s.islandOn (groupIsland g) && (!(decide (12 ≤ g) && decide (g < 20)) || bit s.stackMask (g - 12))

/-- The registers of a group written from the 256-byte block of PMU_PROGRAM; byte b stands for offset b of the group. -/
def pmuProgram (s : State) (g : Nat) (block : List Byte) : State :=
  let word := fun (o n : Nat) => ofLE ((block.drop o).take n)
  (List.range 8).foldl (fun s c =>
    let v := word (0x10 + 4 * c) 4 &&& 0xFFFFCFFF
    let s := s.wr (Reg.PMU_EVSEL g c) (if pmuEvents.contains (bits v 0 12) then v else setBits v 0 12 0xFFF)
    let s := s.wr (Reg.PMU_CNT g c) (word (0x40 + 8 * c) 8 % 2 ^ 48)
    (s.wr (Reg.PMU_ABASE g c) (word (0x80 + 8 * c) 8)).wr (Reg.PMU_AMASK g c) (word (0xC0 + 8 * c) 8)) s

/-- The value that a counter register holds, drawn where the model does not follow it. -/
def drawAt (s : State) (r : Reg) : State × Nat :=
  match rowAt r.addr with
  | some (row, addr) => s.drawReg row addr
  | none => (s, s.rd r)

/-- Counter registers read in order. -/
def drawAll (s : State) (rs : List Reg) : State × List Byte :=
  rs.foldl (fun (s, bs) r => let (s, v) := s.drawAt r; (s, bs ++ leBytes 8 v)) (s, [])

/-- What PMU_READ copies of a group. -/
def pmuSnapshot (s : State) (g : Nat) : State × List Byte :=
  s.drawAll (Reg.CLK_TIME_NS :: Reg.PMU_CYCLE g :: (List.range 8).map (Reg.PMU_CNT g) ++ [Reg.PMU_CYCLE g, Reg.CLK_TIME_NS])

/-- What PMU_READ copies of a tile site; its cycle counts are of no register and stand open. -/
def siteSnapshot (s : State) (n : Nat) : State × List Byte :=
  let time := leBytes 8 s.now
  let (c1, s) := s.open_ 64
  let (s, bs) := s.drawAll ((List.range 64).map (Reg.TILE_EVCNT n))
  let (c2, s) := s.open_ 64
  (s, time ++ leBytes 8 c1 ++ bs ++ leBytes 8 c2 ++ time)

/-! ## Semaphores (20 R655, R656) -/

/-- A semaphore forced free. -/
def semForce (s : State) (k : Nat) : State :=
  if s.fb (Fld.DBG_SEM_HELD k) then
    let s := (s.fbw (Fld.DBG_SEM_HELD k) false).fbw (Fld.DBG_SEM_OWNER_HALTED k) false
    (s.fw (Fld.DBG_SEM_OWNER k) 0).fbw (Fld.DBG_SEM_FORCED k) true
  else s

/-- A semaphore acquired by a unit, if it is free. -/
def semTake (s : State) (k unit : Nat) : State :=
  if s.fb (Fld.DBG_SEM_HELD k) then s
  else ((s.fbw (Fld.DBG_SEM_HELD k) true).fbw (Fld.DBG_SEM_FORCED k) false).fw (Fld.DBG_SEM_OWNER k) unit

/-- OWNER_HALTED of the semaphores of a management core. -/
def semOwner (s : State) (core : Nat) (h : Bool) : State :=
  (List.range 32).foldl (fun s k =>
    if s.fb (Fld.DBG_SEM_HELD k) && s.fd (Fld.DBG_SEM_OWNER k) == 0x2F + core then s.fbw (Fld.DBG_SEM_OWNER_HALTED k) h
    else s) s

/-! ## JTAG (20 R649) -/

/-- Whether the debug access port is open. -/
def dapOpen (s : State) : Bool := s.fb Fld.SEC_STATUS_DEBUG_OPEN

/-- The 32-bit identity. -/
def idcode (s : State) : Nat :=
  s.fuse.stepMajor % 16 * 2 ^ 28 + (if s.fuse.video then 0x4480 else 0x4460) * 2 ^ 12 + Config.jtagMaker.toNat * 2 + 1

/-- The 1-bit register. -/
def bypassed (s : State) : State := s.emit (.jtag 0xFF 0)

/-- The boundary cells captured, and new ones shifted in. -/
def sampled (s : State) (code cells : Nat) : State :=
  let (v, s) := s.open_ 64
  ({ s with dbg := { s.dbg with cells := cells } }).emit (.jtag code v)

/-! ## The debug access port (20 R650 to R652, R654) -/

/-- A DAP_ACCESS: the capture of the command before it leaves, then this one runs with its status and result. -/
def dap (s : State) (act : State → State × Nat × Nat) : State :=
  if !s.dapOpen then s.bypassed
  else
    let s := s.emit (.jtag 0x10 (b2n s.dbg.started * 2 ^ 68 + s.dbg.result % 2 ^ 64))
    let (s, st, r) := act s
    { s with dbg := { s.dbg with status := st, result := r, started := true } }

/-- The target moved on. -/
def dapAdvance (s : State) (n : Nat) : State := { s with dbg := { s.dbg with addr := s.dbg.addr + n } }

/-- A read of `n` bytes at the target: its status and value. -/
def dapGet (s : State) (n : Nat) (far : List Host.Cell) (ue : Option Nat) : State × Nat × Nat :=
  let a := s.dbg.addr
  if s.dbg.reg then
    if a % n != 0 || decide (2 ^ 26 < a + n) then (s, Sts.accessFault, 0)
    else
      let side := s.fb Fld.DBG_CTL_DBG_SIDE_EFFECT
      let (s, v) := s.readBar0 a n side
      let sem := (a - (Reg.DBG_SEM 0).addr) / 4
      let s := if side && decide ((Reg.DBG_SEM 0).addr ≤ a) && decide (sem < 32) then
          (if n = 8 then (s.semTake sem dapUnit).semTake (sem + 1) dapUnit else s.semTake sem dapUnit) else s
      (s, Sts.ok, v)
  else match s.getRuns dapUnit far ue [(a, n)] with
    | (s, .error e) => (s, e.1, 0)
    | (s, .ok bs) => (s, Sts.ok, ofLE bs)

/-- A write of `n` bytes at the target: its status. -/
def dapPut (s : State) (n v : Nat) : State × Nat :=
  let a := s.dbg.addr
  if s.dbg.reg then
    if a % n != 0 || decide (2 ^ 26 < a + n) then (s, Sts.accessFault) else (s.writeBar0 a n v true, Sts.ok)
  else match s.ownOp (Req.make a s.srcMod dapUnit n opStore none (leBytes n v)) .clean with
    | (s, none) => (s, Sts.ok)
    | (s, some e) => (s, e.1)

/-- A DAP read. -/
def dapRead (s : State) (n : Nat) (far : List Host.Cell) (ue : Option Nat) : State :=
  s.dap (fun s => let (s, st, v) := s.dapGet n far ue; (s.dapAdvance n, st, v))

/-- A DAP write. -/
def dapWrite (s : State) (n v : Nat) : State :=
  s.dap (fun s => let (s, st) := s.dapPut n (v % 2 ^ (8 * n)); (s.dapAdvance n, st, st))

/-- The target set. -/
def dapTarget (s : State) (reg : Bool) (a : Nat) : State :=
  s.dap (fun s => ({ s with dbg := { s.dbg with reg := reg, addr := a } }, Sts.ok, 0))

/-- A unit halted or resumed: a management core or a logical tile. -/
def dapHalt (s : State) (unit : Nat) (h : Bool) : State × Nat :=
  if unit < 32 then
    if s.tileOn unit then
      let s := s.updTile unit (fun x => { x with halted := h })
      (if h then s else s.startNext unit, Sts.ok)
    else (s, Sts.unitAbsent)
  else if 0x2F ≤ unit && decide (unit < 0x33) then
    let core := unit - 0x2F
    let rest := s.dbg.halted.filter (· != core)
    let s := { s with dbg := { s.dbg with halted := if h then core :: rest else rest } }
    (s.semOwner core h, Sts.ok)
  else (s, Sts.badParam)

/-! ## Sideband pins (21 R663, R666) -/

/-- MAINT_INHIBIT past its debounce. -/
def inhibitChange (s : State) (level : Bool) : State :=
  if s.pins.maintInhibit = level then s
  else
    let s := { s with pins := { s.pins with maintInhibit := level } }
    if s.rst.unpowered then s else s.trouble 0x0B90 0 80 0 (b2n level)

/-- Live SLOT_ID levels. -/
def slotChange (s : State) (live : Nat) : State :=
  if s.pins.slotId = live % 64 then s
  else
    let s := { s with pins := { s.pins with slotId := live % 64 } }
    let latched := s.fd Fld.RST_STRAP_SLOT_ID
    let s := if latched = live % 64 then s else s.fbw Fld.RST_SIDEBAND_SLOT_CHANGED true
    if s.rst.unpowered then s else s.trouble 0x0B91 0 80 0 (latched * 2 ^ 8 + live % 64)

end State

open State

/-- PMU_COUNTER_WRAP (20 R645, R647): a counter of events that the model does not follow wraps. `c` is a group's counter, or a
tile site's event. -/
def execPmuCounterWrap (tile : Bool) (g c : Nat) (s : State) : Host.Outcome State Fault Refusal :=
  .next (if tile then
      (if g < 36 && tileUnseen c && s.islandOn (siteIsland g) then s.tileWrap g c else s)
    else if g < 53 && decide (c < 8) && s.groupOn g && s.fb (Fld.PMU_EVSEL_EN g c) &&
        pmuUnseen g (s.fd (Fld.PMU_EVSEL_EVENT g c)) then s.pmuWrap g c
    else s)

/-- PMU_PROGRAM (20 R648). -/
def execPmuProgram (via : Via) (p : Packet) (far : List Host.Cell) (ue : Option Nat) (s : State) :
    Host.Outcome State Fault Refusal :=
  let g := p.u8 16
  .next (s.runRow via p (p.base == 0x0D00)
    (fun s => firstFail [(decide (52 < g), .param), (!s.groupOn g, .err Sts.unitAbsent)])
    (fun s => match s.runCheck mccUnit (p.u64 24) 256 opLoad with
      | some e => (s, some (accessAns e))
      | none => match s.getGlobal mccUnit (p.u64 24) 256 far ue with
        | (s, .error e) => (s, some (accessAns e))
        | (s, .ok bs) => (s.pmuProgram g bs, some .done)))

/-- PMU_READ (20 R646). -/
def execPmuRead (via : Via) (p : Packet) (s : State) : Host.Outcome State Fault Refusal :=
  let g := p.u8 16
  let site := bit (p.u8 17) 0
  let n := if site then 544 else 96
  .next (s.runRow via p (p.base == 0x0D01)
    (fun s => firstFail [(if site then decide (35 < g) else decide (52 < g), .param),
      (if site then !s.islandOn (siteIsland g) else !s.groupOn g, .err Sts.unitAbsent)])
    (fun s => match s.runCheck mccUnit (p.u64 24) n opStore with
      | some e => (s, some (accessAns e))
      | none =>
        let (s, bs) := if site then s.siteSnapshot g else s.pmuSnapshot g
        match s.putGlobal mccUnit (p.u64 24) bs with
        | (s, some e) => (s, some (accessAns e))
        | (s, none) => (s, some .done)))

/-- DBG_SEM_RELEASE (20 R657). -/
def execDbgSemRelease (via : Via) (p : Packet) (s : State) : Host.Outcome State Fault Refusal :=
  .next (s.runRow via p (p.base == 0x0D02)
    (fun s => firstFail [(decide (31 < p.u8 16), .param), (!s.dapOpen, .refuse 0x0D01)])
    (fun s => (s.semForce (p.u8 16), some .done)))

/-- SEM_TIMEOUT (20 R655): the MCC's command waits for a semaphore that is held, and has not begun. -/
def execSemTimeout (sem : Nat) (s : State) : Host.Outcome State Fault Refusal :=
  .next (match s.mcc.cur with
    | some j =>
      if sem < 32 && s.fb (Fld.DBG_SEM_HELD sem) && !j.begun && (s.queuedOn j.pkt).isNone then
        s.mccReply (.err (if s.fb (Fld.DBG_SEM_OWNER_HALTED sem) then Sts.semHalted else Sts.timeout))
      else s
    | none => s)

/-- IDCODE (20 R649): open or locked. -/
def execIdcode (s : State) : Host.Outcome State Fault Refusal := .next (s.emit (.jtag 0x01 s.idcode))

/-- BYPASS (20 R649). -/
def execBypass (s : State) : Host.Outcome State Fault Refusal := .next s.bypassed

/-- SAMPLE/PRELOAD (20 R649). `cells` is what is shifted in; what the cells capture is not stated and stands open. -/
def execSamplePreload (cells : Nat) (s : State) : Host.Outcome State Fault Refusal :=
  .next (if s.dapOpen then s.sampled 0x02 cells else s.bypassed)

/-- EXTEST (20 R649): the pins driven only while PERST_N is low. -/
def execExtest (cells : Nat) (s : State) : Host.Outcome State Fault Refusal :=
  .next (if !s.dapOpen then s.bypassed
    else
      let s := s.sampled 0x00 cells
      if s.pins.perst then s else s.emit (.pins cells))

/-- READ32 (20 R650, R651). `far` holds the bytes of other modules; `ue` names a line that reads uncorrectable. -/
def execRead32 (far : List Host.Cell) (ue : Option Nat) (s : State) : Host.Outcome State Fault Refusal :=
  .next (s.dapRead 4 far ue)

/-- WRITE32 (20 R650, R651). -/
def execWrite32 (data : Nat) (s : State) : Host.Outcome State Fault Refusal := .next (s.dapWrite 4 data)

/-- READ64 (20 R650, R651). -/
def execRead64 (far : List Host.Cell) (ue : Option Nat) (s : State) : Host.Outcome State Fault Refusal :=
  .next (s.dapRead 8 far ue)

/-- WRITE64 (20 R650, R651). -/
def execWrite64 (data : Nat) (s : State) : Host.Outcome State Fault Refusal := .next (s.dapWrite 8 data)

/-- SET_ADDR (20 R650). -/
def execSetAddr (addr : Nat) (s : State) : Host.Outcome State Fault Refusal := .next (s.dapTarget false (addr % 2 ^ 64))

/-- SET_REG (20 R650). -/
def execSetReg (off : Nat) (s : State) : Host.Outcome State Fault Refusal := .next (s.dapTarget true (off % 2 ^ 26))

/-- HALT (20 R654). -/
def execHalt (unit : Nat) (s : State) : Host.Outcome State Fault Refusal :=
  .next (s.dap (fun s => let (s, st) := s.dapHalt (unit % 128) true; (s, st, st)))

/-- RESUME (20 R654). -/
def execResume (unit : Nat) (s : State) : Host.Outcome State Fault Refusal :=
  .next (s.dap (fun s => let (s, st) := s.dapHalt (unit % 128) false; (s, st, st)))

/-- SEM_FORCE (20 R656). -/
def execSemForce (sem : Nat) (s : State) : Host.Outcome State Fault Refusal :=
  .next (s.dap (fun s => (s.semForce (sem % 32), Sts.ok, Sts.ok)))

/-- STATUS (20 R650): the last status and the gated-access count. -/
def execStatus (s : State) : Host.Outcome State Fault Refusal :=
  .next (s.dap (fun s => (s, s.dbg.status, s.dbg.status % 2 ^ 16 + s.rd Reg.DBG_GATED_ACCESS_CNT * 2 ^ 16)))

/-- MAINT_INHIBIT_CHANGE (21 R663). -/
def execMaintInhibitChange (level : Bool) (s : State) : Host.Outcome State Fault Refusal := .next (s.inhibitChange level)

/-- SLOT_ID_CHANGE (21 R666). -/
def execSlotIdChange (live : Nat) (s : State) : Host.Outcome State Fault Refusal := .next (s.slotChange live)

end Sys2Proof.Machine
end

