-- ==== Sys2Proof/Machine/Remote.lean ====
section
/-! DEFINITION. Remote operations arriving at their homes, one row per operation of 08 Table 8-1, and the inbound windows
(08 R305 to R307). -/

namespace Sys2Proof.Machine

/-- LOAD (08 R287). -/
def execLoad (q : Req) (seen : Seen) (s : State) : Host.Outcome State Fault Refusal :=
  .next (if q.op = opLoad then s.performReq q seen else s)

/-- STORE (08 R289). -/
def execStore (q : Req) (seen : Seen) (s : State) : Host.Outcome State Fault Refusal :=
  .next (if q.op = opStore then s.performReq q seen else s)

/-- An atomic of one code pair. -/
def State.atomicRow (s : State) (q : Req) (seen : Seen) (base : Nat) : State :=
  if opBase q.op = base && opDefined q.op then s.performReq q seen else s

/-- ADD32. -/
def execAdd32 (q : Req) (seen : Seen) (s : State) : Host.Outcome State Fault Refusal := .next (s.atomicRow q seen 0x08)

/-- ADD64. -/
def execAdd64 (q : Req) (seen : Seen) (s : State) : Host.Outcome State Fault Refusal := .next (s.atomicRow q seen 0x09)

/-- FADD32 (08 R280). -/
def execFadd32 (q : Req) (seen : Seen) (s : State) : Host.Outcome State Fault Refusal := .next (s.atomicRow q seen 0x0A)

/-- MAXU32. -/
def execMaxu32 (q : Req) (seen : Seen) (s : State) : Host.Outcome State Fault Refusal := .next (s.atomicRow q seen 0x0C)

/-- MAXU64. -/
def execMaxu64 (q : Req) (seen : Seen) (s : State) : Host.Outcome State Fault Refusal := .next (s.atomicRow q seen 0x0D)

/-- MAXS32. -/
def execMaxs32 (q : Req) (seen : Seen) (s : State) : Host.Outcome State Fault Refusal := .next (s.atomicRow q seen 0x0E)

/-- MAXS64. -/
def execMaxs64 (q : Req) (seen : Seen) (s : State) : Host.Outcome State Fault Refusal := .next (s.atomicRow q seen 0x0F)

/-- CAS32. -/
def execCas32 (q : Req) (seen : Seen) (s : State) : Host.Outcome State Fault Refusal := .next (s.atomicRow q seen 0x10)

/-- CAS64. -/
def execCas64 (q : Req) (seen : Seen) (s : State) : Host.Outcome State Fault Refusal := .next (s.atomicRow q seen 0x11)

/-- LACC_ADD (03 R112). -/
def execLaccAdd (q : Req) (seen : Seen) (s : State) : Host.Outcome State Fault Refusal := .next (s.atomicRow q seen 0x14)

/-- A request with an undefined code: a malformed header, answered STS_BAD_PARAM (08 R278, R309). -/
def execUndefinedOpRequest (q : Req) (seen : Seen) (s : State) : Host.Outcome State Fault Refusal :=
  .next (if opDefined q.op then s else s.performReq q seen)

/-! ## Inbound windows -/

/-- A window as ATY_INWIN_SET gives it: PERM, BASE without its module field, SIZE_64K; the basic form's by profile. -/
def inwinOf (p : Packet) : Option (Nat × Nat × Nat) :=
  if p.expert then some (p.u8 17 % 32, memKey (p.u64 24), p.u32 32)
  else match p.u8 63 with
    | 1 => some (0b11111, 2 ^ 48, 4096)
    | 2 => some (0b01111, 2 * 2 ^ 48, 3072)
    | _ => none

/-- Whether a window's parameters are out of range (08 R307). -/
def inwinBad (p : Packet) (w : Nat × Nat × Nat) : Bool :=
  let (perm, base, size) := w
  decide (15 < p.u8 16) || base % 65536 != 0 || (bit perm 0 && size == 0) ||
    decide (2 ^ 48 < offOf base + size * 65536) || decide (p.u16 20 % 4096 < p.u16 18 % 4096)

/-- ATY_INWIN_SET (08 R306, R307). The refusal of R348 covers it too (assumption 47). -/
def execAtyInwinSet (via : Via) (p : Packet) (s : State) : Host.Outcome State Fault Refusal :=
  .next (s.runRow via p (p.base == 0x0410)
    (fun s => match inwinOf p with
      | none => some .param
      | some w => firstFail [(inwinBad p w, .param), (s.ownMod == 0xFFF, .refuse 0x0404),
          (!s.tenantOpen, .refuse 0x0401)])
    (fun s => match inwinOf p with
      | none => (s, some .param)
      | some (perm, base, size) =>
        let n := p.u8 16
        let s := s.wr (Reg.ATY_INWIN_BASE n) base
        (s.wr (Reg.ATY_INWIN_CTRL n)
          (p.u16 20 % 4096 * 2 ^ 52 + p.u16 18 % 4096 * 2 ^ 40 + size * 2 ^ 8 + perm), some .done)))

/-- ATY_INWIN_QUERY (08 R307). -/
def execAtyInwinQuery (via : Via) (p : Packet) (s : State) : Host.Outcome State Fault Refusal :=
  let n := p.u8 16
  let dest := p.u64 24
  .next (s.runRow via p (p.base == 0x0411)
    (fun s => firstFail [(decide (15 < n), .param), (s.ownMod == 0xFFF, .refuse 0x0404)] |>.or
      (if dest = 0 then none else (s.runCheck State.mccUnit dest 16 opStore).map State.accessAns))
    (fun s =>
      let b := s.rd (Reg.ATY_INWIN_BASE n)
      let c := s.rd (Reg.ATY_INWIN_CTRL n)
      match (if dest = 0 then (s, none) else s.putGlobal State.mccUnit dest (leBytes 8 b ++ leBytes 8 c)) with
      | (s, some e) => (s, some (State.accessAns e))
      | (s, none) => (s, some (.ok (bits b 16 32) c))))

end Sys2Proof.Machine
end

