-- ==== Sys2Proof/Machine/Dispatch.lean ====
section
/-! DEFINITION. One arm per command of the table. -/

namespace Sys2Proof.Machine

def exec (i : Instr) (s : State) : Host.Outcome State Fault Refusal :=
  match i with
  | .registerWrite bar off width value => Sys2Proof.Machine.execRegisterWrite bar off width value s
  | .gatedAccess off width write => Sys2Proof.Machine.execGatedAccess off width write s
  | .hifFaultStatusWrite value => Sys2Proof.Machine.execHifFaultStatusWrite value s
  | .msixUnmask v => Sys2Proof.Machine.execMsixUnmask v s
  | .mccCmdWrite abt off bytes => Sys2Proof.Machine.execMccCmdWrite abt off bytes s
  | .mccDoorbell value => Sys2Proof.Machine.execMccDoorbell value s
  | .mccAbtDoorbell value => Sys2Proof.Machine.execMccAbtDoorbell value s
  | .i3cMccCommand p extra => Sys2Proof.Machine.execI3cMccCommand p extra s
  | .mgmtNop via p => Sys2Proof.Machine.execMgmtNop via p s
  | .funcAbort via p => Sys2Proof.Machine.execFuncAbort via p s
  | .ringOpen via p => Sys2Proof.Machine.execRingOpen via p s
  | .ringClose via p => Sys2Proof.Machine.execRingClose via p s
  | .ringReset via p => Sys2Proof.Machine.execRingReset via p s
  | .bounceRegister via p => Sys2Proof.Machine.execBounceRegister via p s
  | .bounceRelease via p => Sys2Proof.Machine.execBounceRelease via p s
  | .dbSqTail ring tail => Sys2Proof.Machine.execDbSqTail ring tail s
  | .dbCqHead ring head => Sys2Proof.Machine.execDbCqHead ring head s
  | .packetFetch ring seen => Sys2Proof.Machine.execPacketFetch ring seen s
  | .execTimeReached via => Sys2Proof.Machine.execExecTimeReached via s
  | .coalesceTimerExpiry v => Sys2Proof.Machine.execCoalesceTimerExpiry v s
  | .tileMatmul via p ue => Sys2Proof.Machine.execTileMatmul via p ue s
  | .tileVec via p ue => Sys2Proof.Machine.execTileVec via p ue s
  | .tileVred via p ue => Sys2Proof.Machine.execTileVred via p ue s
  | .tileXfer via p ue => Sys2Proof.Machine.execTileXfer via p ue s
  | .tileAtomic via p ue => Sys2Proof.Machine.execTileAtomic via p ue s
  | .tileFence via p => Sys2Proof.Machine.execTileFence via p s
  | .tileWait via p => Sys2Proof.Machine.execTileWait via p s
  | .tileSyncSet via p => Sys2Proof.Machine.execTileSyncSet via p s
  | .tileWaitPass tile => Sys2Proof.Machine.execTileWaitPass tile s
  | .tileWaitTimeout tile => Sys2Proof.Machine.execTileWaitTimeout tile s
  | .tileCommandComplete tile => Sys2Proof.Machine.execTileCommandComplete tile s
  | .exceptionDrainDone tile => Sys2Proof.Machine.execExceptionDrainDone tile s
  | .seqTrap unit off remapFails => Sys2Proof.Machine.execSeqTrap unit off remapFails s
  | .roResponseTimeout tile rtag => Sys2Proof.Machine.execRoResponseTimeout tile rtag s
  | .responseArrival r => Sys2Proof.Machine.execResponseArrival r s
  | .fenceComplete tile => Sys2Proof.Machine.execFenceComplete tile s
  | .tileConv via p ue => Sys2Proof.Machine.execTileConv via p ue s
  | .tilePool via p ue => Sys2Proof.Machine.execTilePool via p ue s
  | .splConv via p far ue => Sys2Proof.Machine.execSplConv via p far ue s
  | .splWait via p => Sys2Proof.Machine.execSplWait via p s
  | .splSyncSet via p => Sys2Proof.Machine.execSplSyncSet via p s
  | .patrolScrubRead stack off seen => Sys2Proof.Machine.execPatrolScrubRead stack off seen s
  | .sramPatrolRead key seen => Sys2Proof.Machine.execSramPatrolRead key seen s
  | .patrolPassComplete key => Sys2Proof.Machine.execPatrolPassComplete key s
  | .sramWriteback key => Sys2Proof.Machine.execSramWriteback key s
  | .pageRetireDone page => Sys2Proof.Machine.execPageRetireDone page s
  | .memScrub via p => Sys2Proof.Machine.execMemScrub via p s
  | .memScrubDone found => Sys2Proof.Machine.execMemScrubDone found s
  | .memEccTest via p => Sys2Proof.Machine.execMemEccTest via p s
  | .hbmTempReadout temps => Sys2Proof.Machine.execHbmTempReadout temps s
  | .creelSeqOpen via p => Sys2Proof.Machine.execCreelSeqOpen via p s
  | .creelSeqReserve via p => Sys2Proof.Machine.execCreelSeqReserve via p s
  | .creelSeqTrim via p => Sys2Proof.Machine.execCreelSeqTrim via p s
  | .creelSeqClose via p => Sys2Proof.Machine.execCreelSeqClose via p s
  | .trimCloseDone => Sys2Proof.Machine.execTrimCloseDone s
  | .creelSeqQuery via p => Sys2Proof.Machine.execCreelSeqQuery via p s
  | .creelUnpark via p => Sys2Proof.Machine.execCreelUnpark via p s
  | .creelPoolAdd via p => Sys2Proof.Machine.execCreelPoolAdd via p s
  | .creelPoolRemove via p => Sys2Proof.Machine.execCreelPoolRemove via p s
  | .creelSkeinGrant via p => Sys2Proof.Machine.execCreelSkeinGrant via p s
  | .creelGather via p => Sys2Proof.Machine.execCreelGather via p s
  | .creelBucket via p far ue => Sys2Proof.Machine.execCreelBucket via p far ue s
  | .gatherRequest q => Sys2Proof.Machine.execGatherRequest q s
  | .gatherServe unit walk ue far => Sys2Proof.Machine.execGatherServe unit walk ue far s
  | .pageWalkComplete unit seq page walk => Sys2Proof.Machine.execPageWalkComplete unit seq page walk s
  | .pageZeroFillDone page => Sys2Proof.Machine.execPageZeroFillDone page s
  | .attn via p ue => Sys2Proof.Machine.execAttn via p ue s
  | .attnNorm via p ue => Sys2Proof.Machine.execAttnNorm via p ue s
  | .attnBwd via p ue far => Sys2Proof.Machine.execAttnBwd via p ue far s
  | .attnGatherTimeout tile => Sys2Proof.Machine.execAttnGatherTimeout tile s
  | .load q seen => Sys2Proof.Machine.execLoad q seen s
  | .store q seen => Sys2Proof.Machine.execStore q seen s
  | .add32 q seen => Sys2Proof.Machine.execAdd32 q seen s
  | .add64 q seen => Sys2Proof.Machine.execAdd64 q seen s
  | .fadd32 q seen => Sys2Proof.Machine.execFadd32 q seen s
  | .maxu32 q seen => Sys2Proof.Machine.execMaxu32 q seen s
  | .maxu64 q seen => Sys2Proof.Machine.execMaxu64 q seen s
  | .maxs32 q seen => Sys2Proof.Machine.execMaxs32 q seen s
  | .maxs64 q seen => Sys2Proof.Machine.execMaxs64 q seen s
  | .cas32 q seen => Sys2Proof.Machine.execCas32 q seen s
  | .cas64 q seen => Sys2Proof.Machine.execCas64 q seen s
  | .laccAdd q seen => Sys2Proof.Machine.execLaccAdd q seen s
  | .undefinedOpRequest q seen => Sys2Proof.Machine.execUndefinedOpRequest q seen s
  | .atyInwinSet via p => Sys2Proof.Machine.execAtyInwinSet via p s
  | .atyInwinQuery via p => Sys2Proof.Machine.execAtyInwinQuery via p s
  | .flitReceive link decodes corrected flit seen => Sys2Proof.Machine.execFlitReceive link decodes corrected flit seen s
  | .replayTimeout link => Sys2Proof.Machine.execReplayTimeout link s
  | .ident link m => Sys2Proof.Machine.execIdent link m s
  | .claim link m => Sys2Proof.Machine.execClaim link m s
  | .presence link m => Sys2Proof.Machine.execPresence link m s
  | .duplicate link m => Sys2Proof.Machine.execDuplicate link m s
  | .bertReq link m => Sys2Proof.Machine.execBertReq link m s
  | .trainingComplete port => Sys2Proof.Machine.execTrainingComplete port s
  | .trainTimeout port => Sys2Proof.Machine.execTrainTimeout port s
  | .trainRetry port => Sys2Proof.Machine.execTrainRetry port s
  | .errorWindowEnd port => Sys2Proof.Machine.execErrorWindowEnd port s
  | .retrainComplete port => Sys2Proof.Machine.execRetrainComplete port s
  | .retrainTimeout port => Sys2Proof.Machine.execRetrainTimeout port s
  | .loopbackDone port pass => Sys2Proof.Machine.execLoopbackDone port pass s
  | .electQuietExpiry => Sys2Proof.Machine.execElectQuietExpiry s
  | .beaconPeriod => Sys2Proof.Machine.execBeaconPeriod s
  | .masterLoss => Sys2Proof.Machine.execMasterLoss s
  | .presencePeriod => Sys2Proof.Machine.execPresencePeriod s
  | .timeSyncSend => Sys2Proof.Machine.execTimeSyncSend s
  | .delayMeasurePeriod => Sys2Proof.Machine.execDelayMeasurePeriod s
  | .atyFabricCfg via p => Sys2Proof.Machine.execAtyFabricCfg via p s
  | .atyRouteSet via p => Sys2Proof.Machine.execAtyRouteSet via p s
  | .atyPortCtl via p => Sys2Proof.Machine.execAtyPortCtl via p s
  | .portQueuesDrained link => Sys2Proof.Machine.execPortQueuesDrained link s
  | .atyBert via p => Sys2Proof.Machine.execAtyBert via p s
  | .bertDurationEnd link bitsDone errs => Sys2Proof.Machine.execBertDurationEnd link bitsDone errs s
  | .atyJobBind via p idents => Sys2Proof.Machine.execAtyJobBind via p idents s
  | .atyAdmit via p => Sys2Proof.Machine.execAtyAdmit via p s
  | .admitPoll step => Sys2Proof.Machine.execAdmitPoll step s
  | .admitTimeout => Sys2Proof.Machine.execAdmitTimeout s
  | .atyExpectWrite port value => Sys2Proof.Machine.execAtyExpectWrite port value s
  | .srvSubmit via p => Sys2Proof.Machine.execSrvSubmit via p s
  | .srvCancel via p => Sys2Proof.Machine.execSrvCancel via p s
  | .srvExtend via p => Sys2Proof.Machine.execSrvExtend via p s
  | .srvQuery via p => Sys2Proof.Machine.execSrvQuery via p s
  | .srvSubmit3320 via p => Sys2Proof.Machine.execSrvSubmit3320 via p s
  | .srvEngineStart via p far ue => Sys2Proof.Machine.execSrvEngineStart via p far ue s
  | .srvEngineStop via p => Sys2Proof.Machine.execSrvEngineStop via p s
  | .srvRingCfg via p => Sys2Proof.Machine.execSrvRingCfg via p s
  | .srvAccountSet via p => Sys2Proof.Machine.execSrvAccountSet via p s
  | .srvSamplerSet via p => Sys2Proof.Machine.execSrvSamplerSet via p s
  | .srvFitchLoad via p far ue => Sys2Proof.Machine.execSrvFitchLoad via p far ue s
  | .srvFitchFree via p => Sys2Proof.Machine.execSrvFitchFree via p s
  | .servingPacketFetch ring seen => Sys2Proof.Machine.execServingPacketFetch ring seen s
  | .stepBoundary far ue => Sys2Proof.Machine.execStepBoundary far ue s
  | .stepRunComplete logits => Sys2Proof.Machine.execStepRunComplete logits s
  | .queueTimeout ring id => Sys2Proof.Machine.execQueueTimeout ring id s
  | .metricsRecordExpiry ring id => Sys2Proof.Machine.execMetricsRecordExpiry ring id s
  | .srvStepMaxNsRead => Sys2Proof.Machine.execSrvStepMaxNsRead s
  | .rimEnable via p => Sys2Proof.Machine.execRimEnable via p s
  | .rimDisable via p => Sys2Proof.Machine.execRimDisable via p s
  | .rimStreamSet via p far ue => Sys2Proof.Machine.execRimStreamSet via p far ue s
  | .rimStreamClear via p => Sys2Proof.Machine.execRimStreamClear via p s
  | .rimSchedCommit via p far ue => Sys2Proof.Machine.execRimSchedCommit via p far ue s
  | .rimKat via p => Sys2Proof.Machine.execRimKat via p s
  | .pltGateSet via p far ue => Sys2Proof.Machine.execPltGateSet via p far ue s
  | .pltFilterSet via p => Sys2Proof.Machine.execPltFilterSet via p s
  | .pltMacsecKey via p far ue => Sys2Proof.Machine.execPltMacsecKey via p far ue s
  | .scheduleActivation => Sys2Proof.Machine.execScheduleActivation s
  | .rimCapture => Sys2Proof.Machine.execRimCapture s
  | .rimComputeStart tile => Sys2Proof.Machine.execRimComputeStart tile s
  | .rimProgramEnd tile => Sys2Proof.Machine.execRimProgramEnd tile s
  | .rimStage ue => Sys2Proof.Machine.execRimStage ue s
  | .rimRelease jit => Sys2Proof.Machine.execRimRelease jit s
  | .inputFrame port frame => Sys2Proof.Machine.execInputFrame port frame s
  | .ptpFrame port kind offset rate locked => Sys2Proof.Machine.execPtpFrame port kind offset rate locked s
  | .pdelayReq port => Sys2Proof.Machine.execPdelayReq port s
  | .gateCycleStart port => Sys2Proof.Machine.execGateCycleStart port s
  | .rimLaneResume => Sys2Proof.Machine.execRimLaneResume s
  | .pltListenOnlyChange level => Sys2Proof.Machine.execPltListenOnlyChange level s
  | .pltLinkChange port up => Sys2Proof.Machine.execPltLinkChange port up s
  | .rimJitMaxRead slot => Sys2Proof.Machine.execRimJitMaxRead slot s
  | .pairLinkUp => Sys2Proof.Machine.execPairLinkUp s
  | .hello m => Sys2Proof.Machine.execHello m s
  | .health m => Sys2Proof.Machine.execHealth m s
  | .digest m => Sys2Proof.Machine.execDigest m s
  | .pairClaim m => Sys2Proof.Machine.execPairClaim m s
  | .handover m => Sys2Proof.Machine.execHandover m s
  | .katResult m => Sys2Proof.Machine.execKatResult m s
  | .fail m => Sys2Proof.Machine.execFail m s
  | .helloPeriod => Sys2Proof.Machine.execHelloPeriod s
  | .healthPeriod => Sys2Proof.Machine.execHealthPeriod s
  | .claimRepeat => Sys2Proof.Machine.execClaimRepeat s
  | .pairLinkDown => Sys2Proof.Machine.execPairLinkDown s
  | .fabricPoll => Sys2Proof.Machine.execFabricPoll s
  | .fabricPollResult status off value => Sys2Proof.Machine.execFabricPollResult status off value s
  | .silenceExpiry => Sys2Proof.Machine.execSilenceExpiry s
  | .claimBeaconRelease => Sys2Proof.Machine.execClaimBeaconRelease s
  | .claimBeaconReceive port frame => Sys2Proof.Machine.execClaimBeaconReceive port frame s
  | .digestDeadline svc index => Sys2Proof.Machine.execDigestDeadline svc index s
  | .katVerdictTimeout svc => Sys2Proof.Machine.execKatVerdictTimeout svc s
  | .pairConfig via p => Sys2Proof.Machine.execPairConfig via p s
  | .pairSvcSet via p => Sys2Proof.Machine.execPairSvcSet via p s
  | .pairSvcClear via p => Sys2Proof.Machine.execPairSvcClear via p s
  | .pairSwap via p => Sys2Proof.Machine.execPairSwap via p s
  | .pairHoldRelease via p => Sys2Proof.Machine.execPairHoldRelease via p s
  | .stepDigestWrite svc value => Sys2Proof.Machine.execStepDigestWrite svc value s
  | .vidSessionOpen via p => Sys2Proof.Machine.execVidSessionOpen via p s
  | .vidSessionClose via p => Sys2Proof.Machine.execVidSessionClose via p s
  | .vidDecode via p => Sys2Proof.Machine.execVidDecode via p s
  | .vidEncode via p => Sys2Proof.Machine.execVidEncode via p s
  | .vidUnitDispatch core far ue => Sys2Proof.Machine.execVidUnitDispatch core far ue s
  | .vidCommandComplete sess far => Sys2Proof.Machine.execVidCommandComplete sess far s
  | .vidWatchdog sess => Sys2Proof.Machine.execVidWatchdog sess s
  | .tenantOpen via p => Sys2Proof.Machine.execTenantOpen via p s
  | .tenantClose via p => Sys2Proof.Machine.execTenantClose via p s
  | .tenantScrub via p => Sys2Proof.Machine.execTenantScrub via p s
  | .tenantScrubDone => Sys2Proof.Machine.execTenantScrubDone s
  | .secSpdm via p => Sys2Proof.Machine.execSecSpdm via p s
  | .secNonce via p => Sys2Proof.Machine.execSecNonce via p s
  | .secDebugUnlock via p => Sys2Proof.Machine.execSecDebugUnlock via p s
  | .secLifecycle via p => Sys2Proof.Machine.execSecLifecycle via p s
  | .secOwnerSet via p => Sys2Proof.Machine.execSecOwnerSet via p s
  | .getVersion m => Sys2Proof.Machine.execGetVersion m s
  | .getCapabilities m => Sys2Proof.Machine.execGetCapabilities m s
  | .negotiateAlgorithms m => Sys2Proof.Machine.execNegotiateAlgorithms m s
  | .getDigests m => Sys2Proof.Machine.execGetDigests m s
  | .getCertificate m => Sys2Proof.Machine.execGetCertificate m s
  | .challenge m => Sys2Proof.Machine.execChallenge m s
  | .getMeasurements m => Sys2Proof.Machine.execGetMeasurements m s
  | .keyExchange m => Sys2Proof.Machine.execKeyExchange m s
  | .finish m => Sys2Proof.Machine.execFinish m s
  | .heartbeat m => Sys2Proof.Machine.execHeartbeat m s
  | .keyUpdate m => Sys2Proof.Machine.execKeyUpdate m s
  | .endSession m => Sys2Proof.Machine.execEndSession m s
  | .respondIfReady m => Sys2Proof.Machine.execRespondIfReady m s
  | .trngHealthFail => Sys2Proof.Machine.execTrngHealthFail s
  | .trngStartupPass => Sys2Proof.Machine.execTrngStartupPass s
  | .entropyWaitTimeout => Sys2Proof.Machine.execEntropyWaitTimeout s
  | .entropyStableExpiry => Sys2Proof.Machine.execEntropyStableExpiry s
  | .drbgReseedPeriod => Sys2Proof.Machine.execDrbgReseedPeriod s
  | .clkMonitorWindow tcxo link osc cal locked => Sys2Proof.Machine.execClkMonitorWindow tcxo link osc cal locked s
  | .missingEdge src => Sys2Proof.Machine.execMissingEdge src s
  | .osc200Ready => Sys2Proof.Machine.execOsc200Ready s
  | .linkQualExpiry => Sys2Proof.Machine.execLinkQualExpiry s
  | .clkSwitchComplete => Sys2Proof.Machine.execClkSwitchComplete s
  | .sync link m => Sys2Proof.Machine.execSync link m s
  | .delayReq link m => Sys2Proof.Machine.execDelayReq link m s
  | .delayRsp link m => Sys2Proof.Machine.execDelayRsp link m s
  | .syncLoss => Sys2Proof.Machine.execSyncLoss s
  | .clkSrcSet via p => Sys2Proof.Machine.execClkSrcSet via p s
  | .clkSscSet via p => Sys2Proof.Machine.execClkSscSet via p s
  | .clkGateSet via p => Sys2Proof.Machine.execClkGateSet via p s
  | .gateCrossingEmpty island => Sys2Proof.Machine.execGateCrossingEmpty island s
  | .supplyApply lost => Sys2Proof.Machine.execSupplyApply lost s
  | .powerFailWarning => Sys2Proof.Machine.execPowerFailWarning s
  | .pfwRelease => Sys2Proof.Machine.execPfwRelease s
  | .supplyReset => Sys2Proof.Machine.execSupplyReset s
  | .logTailCopyDone => Sys2Proof.Machine.execLogTailCopyDone s
  | .phaseFault phase => Sys2Proof.Machine.execPhaseFault phase s
  | .regulatorTelemetry volts amps bank avg100us avg10ms => Sys2Proof.Machine.execRegulatorTelemetry volts amps bank avg100us avg10ms s
  | .powerCapLoop => Sys2Proof.Machine.execPowerCapLoop s
  | .regAlert => Sys2Proof.Machine.execRegAlert s
  | .regAlertClear => Sys2Proof.Machine.execRegAlertClear s
  | .droopDetect island => Sys2Proof.Machine.execDroopDetect island s
  | .droopRecover island => Sys2Proof.Machine.execDroopRecover island s
  | .stretchLimit island cycles => Sys2Proof.Machine.execStretchLimit island cycles s
  | .wakeAdmit => Sys2Proof.Machine.execWakeAdmit s
  | .pstateStep island => Sys2Proof.Machine.execPstateStep island s
  | .islandTempReport temps => Sys2Proof.Machine.execIslandTempReport temps s
  | .thermalTrip => Sys2Proof.Machine.execThermalTrip s
  | .tripCooled => Sys2Proof.Machine.execTripCooled s
  | .energyAccounting uj parts rings served => Sys2Proof.Machine.execEnergyAccounting uj parts rings served s
  | .pwrPstateSet via p => Sys2Proof.Machine.execPwrPstateSet via p s
  | .pwrFixedSet via p => Sys2Proof.Machine.execPwrFixedSet via p s
  | .pwrCapSet via p => Sys2Proof.Machine.execPwrCapSet via p s
  | .perstFall qualifies => Sys2Proof.Machine.execPerstFall qualifies s
  | .perstRise => Sys2Proof.Machine.execPerstRise s
  | .rstReq via p => Sys2Proof.Machine.execRstReq via p s
  | .brudoWatchdog => Sys2Proof.Machine.execBrudoWatchdog s
  | .mgmtWatchdog core => Sys2Proof.Machine.execMgmtWatchdog core s
  | .functionLevelReset => Sys2Proof.Machine.execFunctionLevelReset s
  | .hotReset => Sys2Proof.Machine.execHotReset s
  | .debugResetRequest system => Sys2Proof.Machine.execDebugResetRequest system s
  | .coreReset => Sys2Proof.Machine.execCoreReset s
  | .systemReset => Sys2Proof.Machine.execSystemReset s
  | .flashPulseEnd good => Sys2Proof.Machine.execFlashPulseEnd good s
  | .resetRelease fails retOk copiesOk => Sys2Proof.Machine.execResetRelease fails retOk copiesOk s
  | .blockReset island => Sys2Proof.Machine.execBlockReset island s
  | .blockIdleTimeout tile => Sys2Proof.Machine.execBlockIdleTimeout tile s
  | .updStage via p far ue => Sys2Proof.Machine.execUpdStage via p far ue s
  | .updCommit via p => Sys2Proof.Machine.execUpdCommit via p s
  | .updAbandon via p => Sys2Proof.Machine.execUpdAbandon via p s
  | .updQuery via p => Sys2Proof.Machine.execUpdQuery via p s
  | .updCfgSet via p far ue => Sys2Proof.Machine.execUpdCfgSet via p far ue s
  | .rasRetire via p => Sys2Proof.Machine.execRasRetire via p s
  | .rasSelftest via p fails => Sys2Proof.Machine.execRasSelftest via p fails s
  | .rasLogFetch via p => Sys2Proof.Machine.execRasLogFetch via p s
  | .maintTokenRelease => Sys2Proof.Machine.execMaintTokenRelease s
  | .tileQuiesced tile => Sys2Proof.Machine.execTileQuiesced tile s
  | .quiesceTimeout tile => Sys2Proof.Machine.execQuiesceTimeout tile s
  | .tileMoveCopyDone tile => Sys2Proof.Machine.execTileMoveCopyDone tile s
  | .mgmtCoreTrap core off poison mcc => Sys2Proof.Machine.execMgmtCoreTrap core off poison mcc s
  | .mgmtCoreRestart core testOk => Sys2Proof.Machine.execMgmtCoreRestart core testOk s
  | .spareTestPeriod fails => Sys2Proof.Machine.execSpareTestPeriod fails s
  | .rasPersist => Sys2Proof.Machine.execRasPersist s
  | .platformEventMessage => Sys2Proof.Machine.execPlatformEventMessage s
  | .pldmRequest m => Sys2Proof.Machine.execPldmRequest m s
  | .pmuCounterWrap tile g c => Sys2Proof.Machine.execPmuCounterWrap tile g c s
  | .pmuProgram via p far ue => Sys2Proof.Machine.execPmuProgram via p far ue s
  | .pmuRead via p => Sys2Proof.Machine.execPmuRead via p s
  | .dbgSemRelease via p => Sys2Proof.Machine.execDbgSemRelease via p s
  | .semTimeout sem => Sys2Proof.Machine.execSemTimeout sem s
  | .idcode => Sys2Proof.Machine.execIdcode s
  | .bypass => Sys2Proof.Machine.execBypass s
  | .samplePreload cells => Sys2Proof.Machine.execSamplePreload cells s
  | .extest cells => Sys2Proof.Machine.execExtest cells s
  | .read32 far ue => Sys2Proof.Machine.execRead32 far ue s
  | .write32 data => Sys2Proof.Machine.execWrite32 data s
  | .read64 far ue => Sys2Proof.Machine.execRead64 far ue s
  | .write64 data => Sys2Proof.Machine.execWrite64 data s
  | .setAddr addr => Sys2Proof.Machine.execSetAddr addr s
  | .setReg off => Sys2Proof.Machine.execSetReg off s
  | .halt unit => Sys2Proof.Machine.execHalt unit s
  | .resume unit => Sys2Proof.Machine.execResume unit s
  | .semForce sem => Sys2Proof.Machine.execSemForce sem s
  | .status => Sys2Proof.Machine.execStatus s
  | .maintInhibitChange level => Sys2Proof.Machine.execMaintInhibitChange level s
  | .slotIdChange live => Sys2Proof.Machine.execSlotIdChange live s
  | .holdupFull => Sys2Proof.Machine.execHoldupFull s
  | .sbPfwExpiry => Sys2Proof.Machine.execSbPfwExpiry s
  | .invalidPairingMessage m => Sys2Proof.Machine.execInvalidPairingMessage m s
  | .pairingLinkSyncLost => Sys2Proof.Machine.execPairingLinkSyncLost s
  | .fabricPathSilent => Sys2Proof.Machine.execFabricPathSilent s

end Sys2Proof.Machine
end

