-- ==== Sys2Proof/Machine/Step.lean ====
section
/-! DEFINITION. One step of the block: the command at the front of the queue, or a nanosecond that passes. -/

namespace Sys2Proof.Machine

/-- A nanosecond passes on an empty queue, where the module has supply and no system reset is in force (assumption 82). -/
def State.idleStep (s : State) : State := if s.rst.unpowered || s.rst.level == 2 then s else s.tick

/-- One step: exec of the command at the front, with the queue's rest; on an empty queue the block idles. -/
def step (s : State) : Host.Outcome State Fault Refusal :=
  match s.pending with
  | [] => .next s.idleStep
  | c :: rest => exec c { s with pending := rest }

/-- The state with the command that a table word spells put at the front of the queue. -/
def State.withFetchWord (s : State) (nbits w : Nat) : State :=
  match decodeTableWord nbits w with
  | some c => { s with pending := c :: s.pending }
  | none => s

end Sys2Proof.Machine
end

