-- ==== Sys2Proof/Safety.lean ====
section
/-! DEFINITION. The words that statements about the module use: which parts of the state a command leaves alone, the canonical form of
the stores, when a command in progress may begin, and how it ends. -/

namespace Sys2Proof.Machine

/-- The canonical form of the module's memory and of host memory: addresses strictly rising, no listed byte 0. -/
def Memory.wf (s : State) : Bool := Cells.wf (0 : Byte) s.mem && Cells.wf (0 : Byte) s.host

/-- The register file is a rising list: each register is listed once at most. -/
def Registers.wf (s : State) : Bool := Cells.rises s.regs

end Sys2Proof.Machine

namespace Sys2Proof.Safety

open Sys2Proof.Machine

/-! ## Frames -/

/-- The parts of the state, one per field. -/
inductive Part where
  | pending | regs | mem | host | out | free | fuse | pins | mcc | eng | hif | ecc | tiles | log | sec | rst | crl | fab | clk | pair
  | rim | plt | ras | srv | vid | pwr | dbg
  deriving DecidableEq, Repr

/-- Two states agree in a part. -/
def Same (s t : State) : Part → Prop
  | .pending => t.pending = s.pending
  | .regs => t.regs = s.regs
  | .mem => t.mem = s.mem
  | .host => t.host = s.host
  | .out => t.out = s.out
  | .free => t.free = s.free
  | .fuse => t.fuse = s.fuse
  | .pins => t.pins = s.pins
  | .mcc => t.mcc = s.mcc
  | .eng => t.eng = s.eng
  | .hif => t.hif = s.hif
  | .ecc => t.ecc = s.ecc
  | .tiles => t.tiles = s.tiles
  | .log => t.log = s.log
  | .sec => t.sec = s.sec
  | .rst => t.rst = s.rst
  | .crl => t.crl = s.crl
  | .fab => t.fab = s.fab
  | .clk => t.clk = s.clk
  | .pair => t.pair = s.pair
  | .rim => t.rim = s.rim
  | .plt => t.plt = s.plt
  | .ras => t.ras = s.ras
  | .srv => t.srv = s.srv
  | .vid => t.vid = s.vid
  | .pwr => t.pwr = s.pwr
  | .dbg => t.dbg = s.dbg

/-- Every part of the state but those named is as before. -/
def Keeps (changed : List Part) (s t : State) : Prop := ∀ x, x ∉ changed → Same s t x

/-- Every register but those named reads as before; registers are named by their BAR0 offsets. -/
def RegsKeep (changed : List Nat) (s t : State) : Prop :=
  ∀ d a, a ∉ changed → Cells.get d a t.regs = Cells.get d a s.regs

/-- Every byte of the module's memory outside `n` bytes from key `k` reads as before. -/
def BytesKeep (k n : Nat) (s t : State) : Prop := ∀ a, a < k ∨ k + n ≤ a → t.byte a = s.byte a

/-- Every byte of host memory outside `n` bytes from address `k` reads as before. -/
def HostKeep (k n : Nat) (s t : State) : Prop := ∀ a, a < k ∨ k + n ≤ a → t.hostByte a = s.hostByte a

/-! ## Memory and numbers -/

/-- No unit of memory is poisoned or carries a test mark. -/
def CleanMemory (s : State) : Prop := s.ecc.poison = [] ∧ s.ecc.marks = []

/-- The magnitude with which a product enters a window, 0 for one that adds nothing. -/
def termSize (a : Int) : Val → Nat
  | .fin _ m e => (toWindow a m e).1
  | _ => 0

/-! ## Registers -/

/-- The registers whose writes act, or store something else than what is written; the others are plain. -/
def plainRegister (r : RegRow) (off : Nat) : Bool :=
  !([Reg.MCC_DOORBELL.addr, Reg.MCC_ABT_DOORBELL.addr, Reg.HIF_FAULT_STATUS.addr, Reg.CLK_FAIL.addr, Reg.CLK_REGBUS_CFG.addr,
      Reg.PWR_DROOP_CFG.addr, Reg.RAS_MEM_PATROL.addr, Reg.PLT_CFG.addr].contains off) &&
  !([(Reg.ATY_EXPECT 0).addr, (Reg.PAIR_SVC_DIGEST 0).addr, (Reg.TILE_RO_CFG 0).addr, (Reg.HBM_PATROL_CFG 0).addr,
      (Reg.HBM_RETIRE_CFG 0).addr, (Reg.ATY_PORT_ERR_CFG 0).addr, (Reg.PLT_PORT_MAC 0).addr, (Reg.PMU_EVSEL 0 0).addr,
      (Reg.HIF_COAL 0).addr].contains r.base) &&
  !(decide ((Reg.HIF_COAL 0).addr ≤ off) && decide (off < (Reg.HIF_COAL 0).addr + 1024))

/-! ## Commands -/

/-- A command that a path holds may begin (02 R60, R61, R63): it has not begun, the path accepts its opcode, management firmware
runs or recovery mode serves the opcode, its extended-parameter block (if it has one) has been fetched, which gives `s1`, and
where the command obeys EXEC_TIME at its start its time has come. The command's own parameters and the state of its target are not
looked at here. -/
structure Starts (s : State) (timed : Bool) (via : Via) (p : Packet) (j : Job) (s1 : State) : Prop where
  job : s.jobOf via = some j
  packet : j.pkt = p
  fresh : j.begun = false
  path : s.pathOpcode via p.opcode.toNat = true
  served : via = .mcc → s.recovery = true → recoveryOpcode p = true
  block : (if j.i3c then (s, none) else s.extBlock p) = (s1, none)
  timely : timed = true → j.tooLate = false ∧
    (p.execTime = 0 ∨ j.late = true ∨ j.due = true ∨ p.execTime.toNat ≤ s1.now)

/-- A command of the unit behind ring `n` may begin, from the ring itself or from the MCC (04 R144, 05 R189, 07 R259). -/
def UnitStarts (s : State) (via : Via) (n : Nat) (p : Packet) (j : Job) (s1 : State) : Prop :=
  Starts s true (.ring n) p j s1 ∧ (via = .ring n ∨ (via = .mcc ∧ j.via = .mcc))

/-- A tile's command may begin: on its tile, or from the MCC with the tile in byte 62 (04 R144). The tile is in service and clocked, no
exception, trap, move, halt or reset holds it, and no posted fault waits. -/
def TileStarts (s : State) (via : Via) (t : Nat) (p : Packet) (j : Job) (s1 : State) : Prop :=
  UnitStarts s via t p j s1 ∧ t < 32 ∧ s.unitHeld t = false ∧ (s.tile t).posted = none ∧ s1.tileOn t = true ∧
    (via = .mcc → p.u8 62 = t)

/-! ## Remote operations -/

/-- A request reaches its home on this module (08 R305; 09 R337): it comes from this module and names it, or it comes from another one, no
reset is in force, and the ingress passes it. -/
def Reaches (s : State) (q : Req) : Prop :=
  s.isOwn (modOf q.addr) = true ∧
    (q.srcMod = s.srcMod ∨ (q.srcMod ≠ s.srcMod ∧ s.ownMod ≠ 0xFFF ∧ s.inReset = false ∧ s.ingressOk q = true))

/-- A request that its home, a stack, a tile store or a store slice, serves at once: it passes the home's checks, the home is there and
clocked, nothing holds it, and no unit of memory is poisoned or marked. -/
def Serves (s : State) (q : Req) : Prop :=
  Reaches s q ∧ spaceOf (memKey q.addr) ≤ 2 ∧ s.homeCheck q = none ∧ s.homeOn (memKey q.addr) = true ∧ s.heldAtHome q = false ∧
    CleanMemory s

/-! ## SPDM -/

/-- A message of the I3C transport carries a request that Brudo answers (14 R494, R501, Table 14-6): its plain bytes `p`, alone or in the
session `ses`, have the code, the length and the version that it needs, after the negotiation that it needs, and the lifecycle is not RMA. -/
structure SpdmAsks (s : State) (code : Nat) (m p : List Byte) (ses : Option SpdmSess) : Prop where
  started : s.stage ≠ 0
  plain : s.spdmPlain true m = some (p, ses)
  asked : fieldOf p 1 1 = code
  length : 4 ≤ p.length
  version : if code = 0x84 then fieldOf p 0 1 = 0x10 else (fieldOf p 0 1 = 0x12 ∨ fieldOf p 0 1 = 0x13)
  phase : State.spdmPhase code ≤ (s.spdmConn true).phase
  lc : s.lc ≠ 3

/-- The outcome is a next state in which the response has left the module, in the session that carried the request, after an effect
that satisfies `Q`. -/
def SpdmAnswers (o : Host.Outcome State Fault Refusal) (ses : Option SpdmSess) (code : Nat) (vals : List Nat) (Q : State → Prop) : Prop :=
  ∃ w, o = .next (w.emit (.spdm (Config.spdmBytes code vals (match ses with | some x => x.secret | none => 0)))) ∧ Q w

/-! ## Outcomes -/

/-- The outcome is a next state that a continuation reaches from a state that satisfies `Q`. -/
def GoesOn (o : Host.Outcome State Fault Refusal) (k : State → State) (Q : State → Prop) : Prop := ∃ w, o = .next (k w) ∧ Q w

/-- The outcome is a next state in which the command has ended with an answer, after an effect that satisfies `Q`. -/
def Ends (o : Host.Outcome State Fault Refusal) (via : Via) (a : Ans) (Q : State → Prop) : Prop :=
  ∃ u, o = .next (u.finish via a) ∧ Q u

/-- The outcome is a next state that satisfies `Q`. -/
def Goes (o : Host.Outcome State Fault Refusal) (Q : State → Prop) : Prop := ∃ u, o = .next u ∧ Q u

end Sys2Proof.Safety
end

