-- ==== Sys2Proof/Certificates/Slice0/Obligations.lean ====
section
/-! DEFINITION. The statements for the provers: the module's rules, one statement per rule or family of commands. In a statement about
a command, `s1` is the state in which its checks are made and `s1.beginJob true via j` the state in which it begins (Safety.lean). -/

open Sys2Proof Sys2Proof.Machine Sys2Proof.Safety

/-! ## The queue, reset, encodings -/

/-- A step with command `c` at the front of the queue is exec of `c` on the state with the queue's rest. -/
def Obligations.StepRunsFrontCommand : Prop :=
  ∀ (s : State) (c : Instr) (rest : List Instr), s.pending = c :: rest → step s = exec c { s with pending := rest }

/-- No command stops the module: exec answers a next state for every command in every state. -/
def Obligations.EveryCommandAnswersNext : Prop :=
  ∀ (i : Instr) (s : State), ∃ t, exec i s = .next t

/-- The state after reset: every register reads as its field table's Reset value (where the table says fused, or
gives none, the model's value, assumption 1), no command waits, memory lists nothing and is in
canonical form, and the module is under system reset, with supply. -/
def Obligations.ResetLeavesTableValues : Prop :=
  (∀ r : Reg, r.rst < 2 ^ 64 → State.reset.rd r = r.rst) ∧
  State.reset.pending = [] ∧ (∀ k, State.reset.byte k = 0) ∧ Memory.wf State.reset = true ∧ Registers.wf State.reset = true ∧
  State.reset.rst.level = 2 ∧ State.reset.rst.unpowered = false

/-- R12 and 02 Table 2-5: the 64 bytes of a packet and the packet they spell determine each other, in both directions. -/
def Obligations.PacketBytesRoundTrip : Prop :=
  (∀ p : Packet, Packet.ofBits p.toBits = p) ∧ (∀ b : BitVec 512, (Packet.ofBits b).toBits = b)

/-- The memory and host memory keep their canonical form, addresses strictly rising and no listed byte 0, over every remote operation that
arrives, whatever it is and however its reads of memory end (the model's own form of a store). -/
def Obligations.MemoryKeepsItsForm : Prop :=
  ∀ mk ∈ [Instr.load, .store, .add32, .add64, .fadd32, .maxu32, .maxu64, .maxs32, .maxs64, .cas32, .cas64, .laccAdd, .undefinedOpRequest],
    ∀ (q : Req) (seen : Seen) (s t : State), Memory.wf s = true → exec (mk q seen) s = .next t → Memory.wf t = true

/-- R541, R545 and assumption 82, the model's choice of a nanosecond per step: on an empty queue TIME_NS counts one and nothing else changes
while no offset is left to slew; with an offset, every 10,000th step counts 0 or 2 and takes 1 ns off the offset. Without supply or in system
reset nothing changes. -/
def Obligations.IdleStepsCountTime : Prop :=
  ∀ s : State, s.pending = [] →
    let off := sext 20 (s.fd Fld.CLK_TIME_STATUS_OFFSET)
    (s.rst.unpowered = true ∨ s.rst.level = 2 → step s = .next s) ∧
    (s.rst.unpowered = false → s.rst.level ≠ 2 →
      (s.fb Fld.CLK_TIME_STATUS_SYNCED = false ∨ off = 0 → Goes (step s) (fun u => u.now = (s.now + 1) % 2 ^ 64 ∧ Keeps [.regs] s u ∧
        RegsKeep [Reg.CLK_TIME_NS.addr] s u)) ∧
      (s.fb Fld.CLK_TIME_STATUS_SYNCED = true → off ≠ 0 → s.clk.slew + 1 < 10000 → Goes (step s) (fun u => u.now = (s.now + 1) % 2 ^ 64 ∧
        u.clk = { s.clk with slew := s.clk.slew + 1 } ∧ Keeps [.regs, .clk] s u ∧ RegsKeep [Reg.CLK_TIME_NS.addr] s u)) ∧
      (s.fb Fld.CLK_TIME_STATUS_SYNCED = true → off ≠ 0 → 10000 ≤ s.clk.slew + 1 → Goes (step s) (fun u =>
        u.now = (s.now + (if 0 < off then 0 else 2)) % 2 ^ 64 ∧ u.clk = { s.clk with slew := 0 } ∧
        sext 20 (u.fd Fld.CLK_TIME_STATUS_OFFSET) = (if 0 < off then off - 1 else off + 1) ∧ Keeps [.regs, .clk] s u)))

/-! ## 02: the management channel -/

/-- R65, R56: a write into the packet buffer of the main slot, 4 to 64 bytes inside it, while the MCC is served, holds no command and is
not carried in records, puts those bytes there and changes nothing else; while it holds a command the write only counts.
R64, R65: a doorbell while the MCC is served, holds no command and takes plaintext packets accepts the packet of MCC_CMD: a
command that queues behind no ring becomes the command in progress, not begun. While a command is in progress the doorbell is dropped:
REJECT is set, MCC_REJECT_CNT rises, and the command stays.
R66: a command over I3C is accepted as one of the main slot, its parameter block in the buffer; while the MCC is not served to I3C or
holds a command it is answered STS_BUSY at once, over I3C, and nothing else changes. -/
def Obligations.HostPathsAnswerAtOnce : Prop :=
  ((∀ (s : State) (off : Nat) (bs : List Byte), 4 ≤ bs.length → off + bs.length ≤ 64 → s.mccSealed = false →
      s.served false = true → s.mcc.cur = none →
      Goes (exec (.mccCmdWrite false off bs) s) (fun u => Keeps [.mcc] s u ∧
        u.mcc = { s.mcc with cmd := BitVec.ofNat 512 (setBits s.mcc.cmd.toNat (8 * off) (8 * bs.length) (ofLE bs)) })) ∧
    (∀ (s : State) (off : Nat) (bs : List Byte), 4 ≤ bs.length → off + bs.length ≤ 64 → s.mccSealed = false →
      s.served false = true → s.mcc.cur ≠ none →
      Goes (exec (.mccCmdWrite false off bs) s) (fun u => Keeps [.regs] s u ∧ RegsKeep [Reg.MCC_REJECT_CNT.addr] s u ∧
        u.rd Reg.MCC_REJECT_CNT = satAdd (2 ^ 32 - 1) (s.rd Reg.MCC_REJECT_CNT) 1))) ∧
  ((∀ (s : State) (v : BitVec 32), s.served false = true → s.mcc.cur = none → s.conf = false →
      mccOpcode (Packet.ofBits s.mcc.cmd).opcode.toNat = true → s.queuedOn (Packet.ofBits s.mcc.cmd) = none →
      Goes (exec (.mccDoorbell v) s) (fun u => Keeps [.mcc] s u ∧
        u.mcc.cur = some ⟨Packet.ofBits s.mcc.cmd, .mcc, false, s.now, false, false, 0⟩ ∧ u.mcc.reply = s.mcc.reply ∧
        u.mcc.cmd = s.mcc.cmd)) ∧
    (∀ (s : State) (v : BitVec 32), s.mcc.cur ≠ none →
      Goes (exec (.mccDoorbell v) s) (fun u => Keeps [.regs] s u ∧
        RegsKeep [Reg.MCC_STATUS.addr, Reg.MCC_REJECT_CNT.addr] s u ∧ u.fd Fld.MCC_STATUS_REJECT = 1 ∧
        u.rd Reg.MCC_REJECT_CNT = satAdd (2 ^ 32 - 1) (s.rd Reg.MCC_REJECT_CNT) 1))) ∧
  ((∀ (s : State) (p : Packet) (extra : List Byte), s.served true = true → s.mcc.cur = none → mccOpcode p.opcode.toNat = true →
      s.queuedOn p = none →
      Goes (exec (.i3cMccCommand p extra) s) (fun u => Keeps [.mcc] s u ∧
        u.mcc.cur = some ⟨p, .mcc, true, s.now, false, false, 0⟩ ∧ u.mcc.extra = extra)) ∧
    (∀ (s : State) (p : Packet) (extra : List Byte), s.served true = false ∨ s.mcc.cur ≠ none →
      Goes (exec (.i3cMccCommand p extra) s) (fun u => Keeps [.out] s u ∧
        u.out = .i3c (replyBits p.opcode.toNat p.seq.toNat s.now (.err Sts.busy) false) [] :: s.out)))

/-- R64, Table 2-7: the MCC's command that came through BAR0, without IRQ and in no record, ends with its reply in MCC_REPLY and
REPLY_VALID set; the slot is free again, and no other register and no other part of the state changes. One that came over I3C is
answered over I3C and leaves every register alone.
R77: a reply to a ring outside confidential mode, with room in the completion queue and nothing held, is written at CPL_TAIL modulo
the queue's size with the PHASE of its pass, CPL_TAIL rises, and without IRQ no interrupt is raised; no other byte of host memory and no
other register changes. With no room it is held, behind what is held already. -/
def Obligations.RepliesAreWrittenWhereAsked : Prop :=
  ((∀ (u : State) (j : Job) (a : Ans), u.mcc.cur = some j → j.i3c = false → u.mcc.confCmd = none → j.pkt.irq = false →
      Keeps [.mcc, .regs] u (u.finish .mcc a) ∧ RegsKeep [Reg.MCC_STATUS.addr] u (u.finish .mcc a) ∧
      (u.finish .mcc a).mcc = { u.mcc with cur := none, extra := [], reply := j.reply a u.now } ∧
      (u.finish .mcc a).fd Fld.MCC_STATUS_REPLY_VALID = 1) ∧
    (∀ (u : State) (j : Job) (a : Ans), u.mcc.cur = some j → j.i3c = true →
      Keeps [.mcc, .out] u (u.finish .mcc a) ∧ (u.finish .mcc a).out = .i3c (j.reply a u.now) [] :: u.out ∧
      (u.finish .mcc a).mcc.cur = none ∧ (u.finish .mcc a).mcc.reply = u.mcc.reply)) ∧
  ((∀ (u : State) (n : Nat) (r : BitVec 256), u.rimOwns n = false → u.conf = false → (u.engOf n).held = [] → u.cqSpace n = true →
      let k := u.rd (Reg.HIF_RING_CQ_BASE n) + 32 * (u.rd (Reg.HIF_RING_CPL_TAIL n) % 2 ^ u.fd (Fld.HIF_RING_CFG_LOG2_SIZE n))
      let t := u.ringReply n r false
      Keeps [.regs, .host] u t ∧ RegsKeep [(Reg.HIF_RING_CPL_TAIL n).addr] u t ∧ HostKeep k 32 u t ∧
      t.hostRead k 32 = leBytes 32 (State.withPhase r (u.cqPhase n)).toNat ∧
      t.rd (Reg.HIF_RING_CPL_TAIL n) = (u.rd (Reg.HIF_RING_CPL_TAIL n) + 1) % 2 ^ 32) ∧
    (∀ (u : State) (n : Nat) (r : BitVec 256) (irq : Bool), u.rimOwns n = false → u.conf = false → u.cqSpace n = false →
      Keeps [.eng] u (u.ringReply n r irq) ∧
      ((u.ringReply n r irq).engOf n).held = (u.engOf n).held ++ [(r, irq)] ∧
      ∀ m, m ≠ n → (u.ringReply n r irq).engOf m = u.engOf m))

/-- R60, R61 on the commands that neither carry data from other modules nor wait for a unit: one whose time is less than 200 ns ahead
without LATE_OK ends with STS_TIME_PASSED, one for a later time changes nothing until its time has come, and one with an opcode that its
path does not accept ends with STS_BAD_OPCODE.
R61: when EXEC_TIME of the command that a path holds back has come, the command is due, and nothing else changes; from then on its own
row starts it. -/
def Obligations.CommandsObeyPathAndTime : Prop :=
  (∀ (op : Nat) (mk : Via → Packet → Instr),
      (op, mk) ∈ [(0x0100, Instr.mgmtNop), (0x0110, .ringOpen), (0x0111, .ringClose), (0x0112, .ringReset), (0x0121, .bounceRelease),
        (0x0300, .creelSeqOpen), (0x0400, .atyFabricCfg), (0x0401, .atyRouteSet), (0x0522, .srvRingCfg), (0x0700, .pairConfig),
        (0x0901, .tenantClose), (0x0A10, .pwrPstateSet), (0x0C02, .rasLogFetch), (0x0D01, .pmuRead)] →
      ∀ (s : State) (via : Via) (p : Packet) (j : Job), s.jobOf via = some j → j.pkt = p → j.begun = false → p.base = op →
        s.recovery = false → p.ext = false →
        (s.pathOpcode via p.opcode.toNat = false → exec (mk via p) s = .next (s.finish via (.err Sts.badOpcode))) ∧
        (s.pathOpcode via p.opcode.toNat = true → op = 0x0100 → p.execTime ≠ 0 → p.execTime.toNat < j.start + 200 → p.lateOk = false →
          j.due = false → exec (mk via p) s = .next (s.finish via (.err Sts.timePassed))) ∧
        (s.pathOpcode via p.opcode.toNat = true → op = 0x0100 → j.start + 200 ≤ p.execTime.toNat → s.now < p.execTime.toNat →
          j.due = false → exec (mk via p) s = .next s)) ∧
  (∀ (s : State) (via : Via) (j : Job), s.jobOf via = some j → j.begun = false → j.pkt.execTime ≠ 0 → j.pkt.execTime.toNat ≤ s.now →
      Goes (exec (.execTimeReached via) s) (fun u => Keeps [.mcc, .eng] s u ∧ u.jobOf via = some { j with due := true }))

/-! ## 00, 02: accesses of the host -/

/-- R15, Table 0-6: of the bits that a write covers, RW bits take the value written, W1C bits that are written 1 are cleared, and every
other bit of the register stays.
R13, R15: a host write of 4 bytes to a plain 32-bit register of BAR0, which its die reaches and confidential mode allows, stores what
the access types say and changes nothing else; where the register's island breaks its ratio to the register bus (15 R540), it does so or
is lost. R56, R88: a misaligned one is dropped and captured, or sets OVERRUN behind an earlier
capture. R83: one that confidential mode blocks is counted.
R5: a 4-byte access to a register window whose unit is absent or gated: a write is ignored and a read gives 0; either only raises
DBG_GATED_ACCESS_CNT. R88: a 1 written to VALID of HIF_FAULT_STATUS clears VALID and OVERRUN, a 0 changes nothing. -/
def Obligations.RegisterAccessesObeyTypes : Prop :=
  (∀ (r : RegRow) (old v mask i : Nat),
      (State.written r old v mask).testBit i =
        if v.testBit i && r.w1c.testBit i && mask.testBit i then false
        else if r.rw.testBit i && mask.testBit i then v.testBit i else old.testBit i) ∧
  ((∀ (s : State) (off v : Nat) (r : RegRow), rowAt off = some (r, off) → r.width = 32 → off % 4 = 0 → off + 4 ≤ 2 ^ 26 →
      State.cmdBuffer off 4 = none → (s.conf = true → State.confOpen off = true) → State.dbgOff off = false → s.windowGated off = false →
      plainRegister r off = true →
      let new := fun (u : State) => (Cells.get (BitVec.ofNat 64 r.rst) off u.regs).toNat =
        State.written r (Cells.get (BitVec.ofNat 64 r.rst) off s.regs).toNat (v % 2 ^ 32) (2 ^ 32 - 1) % 2 ^ 64
      ((State.windowIsland off).any s.busBroken = false →
        Goes (exec (.registerWrite 0 off 4 v) s) (fun u => Keeps [.regs] s u ∧ RegsKeep [off] s u ∧ new u)) ∧
      ((State.windowIsland off).any s.busBroken = true →
        Goes (exec (.registerWrite 0 off 4 v) s) (fun u => Keeps [.regs, .free] s u ∧ RegsKeep [off] s u ∧ (u.regs = s.regs ∨ new u)))) ∧
    (∀ (s : State) (off w v : Nat), off + w ≤ 2 ^ 26 → State.accessOk off w = false → State.cmdBuffer off w = none →
      s.fb Fld.HIF_FAULT_STATUS_VALID = false →
      Goes (exec (.registerWrite 0 off w v) s) (fun u => Keeps [.regs] s u ∧
        RegsKeep [Reg.HIF_FAULT_STATUS.addr, Reg.HIF_FAULT_ADDR.addr] s u ∧ u.fd Fld.HIF_FAULT_STATUS_VALID = 1 ∧
        u.fd Fld.HIF_FAULT_STATUS_STATUS = Sts.accessFault ∧ u.fd Fld.HIF_FAULT_ADDR_OFFSET = off ∧ u.fd Fld.HIF_FAULT_ADDR_BAR = 0)) ∧
    (∀ (s : State) (off w v : Nat), off + w ≤ 2 ^ 26 → State.accessOk off w = false → State.cmdBuffer off w = none →
      s.fb Fld.HIF_FAULT_STATUS_VALID = true →
      Goes (exec (.registerWrite 0 off w v) s) (fun u => Keeps [.regs] s u ∧ RegsKeep [Reg.HIF_FAULT_STATUS.addr] s u ∧
        u.fd Fld.HIF_FAULT_STATUS_OVERRUN = 1)) ∧
    (∀ (s : State) (off w v : Nat), off + w ≤ 2 ^ 26 → State.accessOk off w = true → s.conf = true → State.confOpen off = false →
      State.cmdBuffer off w = none →
      Goes (exec (.registerWrite 0 off w v) s) (fun u => Keeps [.regs] s u ∧ RegsKeep [Reg.HIF_BLOCKED_CNT.addr] s u ∧
        u.rd Reg.HIF_BLOCKED_CNT = satAdd (2 ^ 32 - 1) (s.rd Reg.HIF_BLOCKED_CNT) 1))) ∧
  ((∀ (s : State) (off : Nat) (r : RegRow) (addr : Nat), rowAt off = some (r, addr) → off % 4 = 0 → off + 4 ≤ 2 ^ 26 →
      State.cmdBuffer off 4 = none → s.bufAt off = none → (s.conf = true → State.confOpen off = true) → State.dbgOff off = false →
      s.windowGated off = true →
      Goes (exec (.gatedAccess off 4 true) s) (fun u => Keeps [.regs] s u ∧ RegsKeep [Reg.DBG_GATED_ACCESS_CNT.addr] s u) ∧
      Goes (exec (.gatedAccess off 4 false) s) (fun u => Keeps [.regs, .out] s u ∧ RegsKeep [Reg.DBG_GATED_ACCESS_CNT.addr] s u ∧
        u.out = .barRead off 0 :: s.out ∧
        u.rd Reg.DBG_GATED_ACCESS_CNT = satAdd (2 ^ 32 - 1) (s.rd Reg.DBG_GATED_ACCESS_CNT) 1)) ∧
    (∀ (s : State) (v : BitVec 32), v.toNat.testBit 31 = true →
      Goes (exec (.hifFaultStatusWrite v) s) (fun u => Keeps [.regs] s u ∧ RegsKeep [Reg.HIF_FAULT_STATUS.addr] s u ∧
        u.fd Fld.HIF_FAULT_STATUS_VALID = 0 ∧ u.fd Fld.HIF_FAULT_STATUS_OVERRUN = 0 ∧
        u.fd Fld.HIF_FAULT_STATUS_STATUS = s.fd Fld.HIF_FAULT_STATUS_STATUS)) ∧
    (∀ (s : State) (v : BitVec 32), v.toNat.testBit 31 = false → exec (.hifFaultStatusWrite v) s = .next s))

/-- MGMT_NOP replies the firmware version and changes nothing else (the value itself is open, assumption 81); FUNC_ABORT on the main slot
joins the aborts in progress and ends its functions (R67 to R69); a FUNC_ABORT on the abort slot that R67 refuses is answered there at
once and starts nothing. -/
def Obligations.NopAndAbortRun : Prop :=
  (∀ s via p j s1, Starts s true via p j s1 → p.base = 0x0100 →
    Ends (exec (.mgmtNop via p) s) via (.ok (Config.firmwareVersion s1.stage (s1.rd Reg.RST_IMG_VERSION) % 2 ^ 32) 0)
      (fun u => u = s1.beginJob true via j)) ∧
  (∀ s p j s1, Starts s true .mcc p j s1 → p.base = 0x0101 → State.abortBad p = false →
    exec (.funcAbort .mcc p) s = .next ((s1.beginJob true .mcc j).funcAbort p false j.late)) ∧
  (∀ (s : State) (v : BitVec 32), s.served false = true → s.conf = false → s.mcc.confAbt = none →
    (Packet.ofBits s.mcc.abtCmd).base ≠ 0x0101 →
    let p := Packet.ofBits s.mcc.abtCmd
    ∃ w, exec (.mccAbtDoorbell v) s = .next (State.replyIrq w 1) ∧ Keeps [.mcc, .regs] s w ∧
      RegsKeep [Reg.MCC_STATUS.addr] s w ∧ w.fd Fld.MCC_STATUS_ABT_REPLY_VALID = 1 ∧
      w.mcc = { s.mcc with abtReply := replyBits p.opcode.toNat p.seq.toNat s.now (.err Sts.badOpcode) false }) ∧
  (∀ (s : State) (v : BitVec 32), s.served false = true → s.conf = false →
    let p := Packet.ofBits s.mcc.abtCmd
    p.base = 0x0101 → p.ext = false → p.execTime = 0 → State.abortBad p = false →
    exec (.mccAbtDoorbell v) s = .next (s.funcAbort p true false))

/-! ## 02: rings -/

/-- R74: RING_OPEN with its parameters in range, on a CLOSED ring of a unit that is there, replies STS_OK; the ring is IDLE, its queues,
size, vector, family and instance are as given, its indices 0, and nothing is fetched or held for it.
R676: RING_CLOSE closes an IDLE ring, which then reads 0 in FAMILY and INSTANCE; in any other state of the ring it returns
STS_RING_STATE with that state in DETAIL and has no effect.
R78: RING_RESET of a HALTED or ABORTED ring outside confidential mode whose queue holds no packet leaves it IDLE with HEAD at TAIL; of a
ring in another state it returns STS_RING_STATE; of the ring of a trapped tile, STS_REFUSED_STATE with DETAIL 0x0201 (R160).
R75: a submission-tail doorbell of an open ring whose value is at or ahead of TAIL and at most the queue's size ahead of HEAD becomes
TAIL, and an IDLE ring with work becomes ACTIVE; any other value only sets TAIL_OVF. On a ring that is not open the doorbell is ignored.
R77: a completion-head doorbell that runs backwards or beyond CPL_TAIL only sets CQ_HEAD_ERR; a valid one on a ring at rest with
nothing held moves CPL_HEAD.
R76: a ring that may fetch, at rest outside confidential mode, takes the packet at HEAD of its submission queue, and one that its
target accepts becomes the command in progress with HEAD behind it; where the read meets an uncorrectable error the ring halts with
STS_ECC_HALT and the address (R78). A ring that may not fetch is left alone. -/
def Obligations.RingsOpenCloseAndFetch : Prop :=
  (∀ s via p j s1 log v, Starts s true via p j s1 → p.base = 0x0110 → State.openShape p = some (log, v) →
      s1.ringOpenCheck p = none → log < 2 ^ 8 → v < 2 ^ 8 →
      let n := p.u16 16
      Ends (exec (.ringOpen via p) s) via .done (fun u =>
        u.ringState n = State.idle ∧ u.rd (Reg.HIF_RING_SQ_BASE n) = p.u64 24 ∧ u.rd (Reg.HIF_RING_CQ_BASE n) = p.u64 32 ∧
        u.fd (Fld.HIF_RING_CFG_LOG2_SIZE n) = log ∧ u.ringVector n = v ∧
        u.fd (Fld.HIF_RING_CFG_FAMILY n) = (State.ringTarget n).1 ∧ u.fd (Fld.HIF_RING_CFG_INSTANCE n) = (State.ringTarget n).2 ∧
        u.ringHead n = 0 ∧ u.ringTail n = 0 ∧ u.rd (Reg.HIF_RING_CPL_TAIL n) = 0 ∧ u.rd (Reg.HIF_RING_CPL_HEAD n) = 0 ∧
        (u.engOf n).fetched = [] ∧ (u.engOf n).held = [] ∧ Keeps [.regs, .eng] (s1.beginJob true via j) u)) ∧
  (∀ s via p j s1, Starts s true via p j s1 → p.base = 0x0111 → State.ringNumber (p.u16 16) = true →
      let n := p.u16 16
      (s1.ringState n = State.idle →
        Ends (exec (.ringClose via p) s) via .done (fun u => u.ringState n = State.closed ∧
          u.fd (Fld.HIF_RING_CFG_FAMILY n) = 0 ∧ u.fd (Fld.HIF_RING_CFG_INSTANCE n) = 0 ∧
          Keeps [.regs] (s1.beginJob true via j) u ∧
          RegsKeep [(Reg.HIF_RING_STATE n).addr, (Reg.HIF_RING_CFG n).addr] (s1.beginJob true via j) u)) ∧
      (s1.ringState n ≠ State.idle →
        exec (.ringClose via p) s = .next (s1.finish via (.errD Sts.ringState (s1.ringState n))))) ∧
  (∀ s via p j s1, Starts s true via p j s1 → p.base = 0x0112 → State.ringNumber (p.u16 16) = true →
      let n := p.u16 16
      (s1.ringState n = State.halted ∨ s1.ringState n = State.aborted → (decide (n < 32) && (s1.tile n).trapped) = false →
        s1.ringHead n = s1.ringTail n → (s1.engOf n).openRec = [] → 
        Ends (exec (.ringReset via p) s) via .done (fun u => u.ringState n = State.idle ∧ u.ringHead n = u.ringTail n ∧
          Keeps [.regs] (s1.beginJob true via j) u ∧
          RegsKeep [(Reg.HIF_RING_STATE n).addr, (Reg.HIF_RING_HEAD n).addr] (s1.beginJob true via j) u)) ∧
      ((decide (n < 32) && (s1.tile n).trapped) = true →
        exec (.ringReset via p) s = .next (s1.finish via (.refuse 0x0201))) ∧
      ((decide (n < 32) && (s1.tile n).trapped) = false → s1.ringState n ≠ State.halted → s1.ringState n ≠ State.aborted →
        exec (.ringReset via p) s = .next (s1.finish via (.err Sts.ringState)))) ∧
  (∀ (s : State) (n : Nat) (tail : BitVec 32), n < 256 →
      let ahead := sub32 tail.toNat (s.ringHead n)
      let ok := sub32 (s.ringTail n) (s.ringHead n) ≤ ahead ∧ ahead ≤ s.ringSize n
      (s.ringRuns n = false → exec (.dbSqTail n tail) s = .next s) ∧
      (s.ringRuns n = true → ok →
        Goes (exec (.dbSqTail n tail) s) (fun u => u.ringTail n = tail.toNat ∧ Keeps [.regs] s u ∧
          RegsKeep [(Reg.HIF_RING_TAIL n).addr, (Reg.HIF_RING_STATE n).addr] s u ∧
          (0 < ahead → u.ringState n = State.active) ∧ (ahead = 0 → u.ringState n = s.ringState n))) ∧
      (s.ringRuns n = true → ¬ok →
        Goes (exec (.dbSqTail n tail) s) (fun u => u.fd (Fld.HIF_RING_STATE_TAIL_OVF n) = 1 ∧ Keeps [.regs] s u ∧
          RegsKeep [(Reg.HIF_RING_STATE n).addr] s u))) ∧
  (∀ (s : State) (n : Nat) (head : BitVec 32), n < 128 → s.ringState n ≠ State.closed →
      let h := s.rd (Reg.HIF_RING_CPL_HEAD n)
      let ok := sub32 head.toNat h ≤ sub32 (s.rd (Reg.HIF_RING_CPL_TAIL n)) h
      (¬ok → Goes (exec (.dbCqHead n head) s) (fun u => u.fd (Fld.HIF_RING_STATE_CQ_HEAD_ERR n) = 1 ∧ Keeps [.regs] s u ∧
        RegsKeep [(Reg.HIF_RING_STATE n).addr] s u)) ∧
      (ok → s.ringState n = State.idle → (s.engOf n).held = [] → (s.engOf n).openRec = [] → (s.engOf n).cur = none → s.mcc.cur = none →
        s.rimOwns n = false →
        Goes (exec (.dbCqHead n head) s) (fun u => u.rd (Reg.HIF_RING_CPL_HEAD n) = head.toNat ∧ Keeps [.regs] s u ∧
          RegsKeep [(Reg.HIF_RING_CPL_HEAD n).addr] s u))) ∧
  (∀ (s : State) (n : Nat) (seen : Seen), n < 128 →
      (s.mayFetch n = false → exec (.packetFetch n seen) s = .next s) ∧
      (s.mayFetch n = true → s.conf = false → s.engOf n = Engine.idle → seen ≠ .ue →
        exec (.packetFetch n seen) s = .next (s.fetched n (s.ringHead n)
          [Packet.ofBits (BitVec.ofNat 512 (ofLE (s.hostRead (s.rd (Reg.HIF_RING_SQ_BASE n) + 64 * (s.ringHead n % s.ringSize n)) 64)))])) ∧
      (s.mayFetch n = true → s.conf = false → s.engOf n = Engine.idle → s.cqSpace n = true → s.rimOwns n = false →
        Goes (exec (.packetFetch n .ue) s) (fun u => u.ringState n = State.halted ∧
          u.fd (Fld.HIF_RING_STATE_LAST_STATUS n) = Sts.eccHalt ∧ u.mem = s.mem)))

/-- R81: the coalescing time of a vector with pending replies, outside confidential mode, fires the vector and clears its count; with none
pending nothing happens. R80: a vector unmasked with its pending bit set sends its message and clears the bit.
R84, R85, R517: BOUNCE_REGISTER in confidential mode with a free window, where the DRBG serves it, is drawn at once; outside
confidential mode it is refused with DETAIL 0x0101. BOUNCE_RELEASE of an idle window frees it; of one in use or not registered it
returns STS_WINDOW_STATE. -/
def Obligations.VectorsFireAndWindowsRegister : Prop :=
  ((∀ (s : State) (v : Nat), 0 < v → v < 256 → s.conf = false → s.coalOf v = 0 → exec (.coalesceTimerExpiry v) s = .next s) ∧
    (∀ (s : State) (v : Nat), 0 < v → v < 256 → s.conf = false → s.coalOf v ≠ 0 → (s.msixOf v).masked = false →
      Goes (exec (.coalesceTimerExpiry v) s) (fun u => u.coalOf v = 0 ∧ Keeps [.hif, .out] s u ∧
        u.out = .msix v (s.msixOf v).addr (s.msixOf v).data :: s.out)) ∧
    (∀ (s : State) (v : Nat), 0 < v → v < 256 → s.conf = false → s.coalOf v ≠ 0 → (s.msixOf v).masked = true →
      Goes (exec (.coalesceTimerExpiry v) s) (fun u => u.coalOf v = 0 ∧ Keeps [.hif] s u ∧ (u.msixOf v).pending = true)) ∧
    (∀ (s : State) (v : Nat), v < 256 → (s.msixOf v).pending = true →
      Goes (exec (.msixUnmask v) s) (fun u => Keeps [.hif, .out] s u ∧ (u.msixOf v).pending = false ∧ (u.msixOf v).masked = false ∧
        u.out = .msix v (s.msixOf v).addr (s.msixOf v).data :: s.out)) ∧
    (∀ (s : State) (v : Nat), v < 256 → (s.msixOf v).pending = false →
      Goes (exec (.msixUnmask v) s) (fun u => Keeps [.hif] s u ∧ (u.msixOf v).masked = false))) ∧
  ((∀ s via p j s1, Starts s true via p j s1 → p.base = 0x0120 → p.u8 16 ≤ 15 → p.u64 24 % 4096 = 0 → p.u64 32 % 4096 = 0 →
      p.u64 32 ≠ 0 → p.u64 32 ≤ 2 ^ 30 → p.u64 24 + p.u64 32 ≤ 2 ^ 64 →
      (s1.conf = false → exec (.bounceRegister via p) s = .next (s1.finish via (.refuse 0x0101))) ∧
      (s1.conf = true → (Cells.find (p.u8 16) s1.hif.bounce).isSome = false →
        (∀ e ∈ s1.hif.bounce, ¬(p.u64 24 < e.2.base + e.2.size ∧ e.2.base < p.u64 24 + p.u64 32)) →
        Goes (exec (.bounceRegister via p) s) (fun u => u = (match (s1.beginJob true via j).drbgCmd p with
          | (t, some a) => t.finish via a
          | (t, none) => t)))) ∧
    (∀ s via p j s1 b, Starts s true via p j s1 → p.base = 0x0121 → p.u8 16 ≤ 15 → Cells.find (p.u8 16) s1.hif.bounce = some b →
      windowIdle s1 (p.u8 16) b = true →
      Ends (exec (.bounceRelease via p) s) via .done (fun u => Cells.find (p.u8 16) u.hif.bounce = none ∧
        Keeps [.hif] (s1.beginJob true via j) u)) ∧
    (∀ s via p j s1, Starts s true via p j s1 → p.base = 0x0121 → p.u8 16 ≤ 15 →
      (∀ b, Cells.find (p.u8 16) s1.hif.bounce = some b → windowIdle s1 (p.u8 16) b = false) →
      exec (.bounceRelease via p) s = .next (s1.finish via (.err Sts.windowState))))

/-! ## 03: numbers -/

/-- R93, R97: a number that a format holds converts into that format as itself, with no flag: FP32, BF16, FP16, the 8-, 6- and 4-bit
floats, INT8, UINT8 and INT4.
R112: LACC-add of accumulators with one anchor is commutative, and associative while no sum leaves the window; an empty accumulator
gives the other one with the flags of both.
R101 to R103: the order of the products of a sum does not matter while their magnitudes together stay inside the window. -/
def Obligations.NumbersAndSumsAreExact : Prop :=
  (∀ fmt ∈ [1, 3, 4, 5, 6, 7, 8, 9, 14, 15, 16], ∀ raw, raw < 2 ^ elemBits fmt 0 → readElem fmt raw ≠ .nan →
      convertVal .rne fmt (readElem fmt raw) = (raw, 0)) ∧
  ((∀ d s : Acc, d.empty = false → s.empty = false → d.a = s.a → laccAdd d s = laccAdd s d) ∧
    (∀ x y z : Acc, x.empty = false → y.empty = false → z.empty = false → x.a = y.a → y.a = z.a →
      x.w.natAbs + y.w.natAbs + z.w.natAbs < 2 ^ 191 → laccAdd (laccAdd x y) z = laccAdd x (laccAdd y z)) ∧
    (∀ d s : Acc, s.empty = true → laccAdd d s = { d with lf := d.lf ||| s.lf }) ∧
    (∀ d s : Acc, d.empty = true → s.empty = false → laccAdd d s = { s with lf := d.lf ||| s.lf })) ∧
  (∀ (a : Int) (ps qs : List Val), ps.Perm qs → (ps.map (termSize a)).sum < 2 ^ 191 →
      (Acc.start a).addTerms ps = (Acc.start a).addTerms qs)

/-- R102, R103: a product that is NaN sets NAN and INVALID, one that is an infinity sets its flag, and neither adds anything; infinity times
zero is NaN. A product or a sum that would leave the window's range leaves W at the nearer end with ABOVE_WINDOW and NONREPRO, in every
state of the accumulator, at an end of the range too; one that stays inside adds exactly, with neither flag. -/
def Obligations.ProductsEnterTheWindow : Prop :=
  (∀ c : Acc, c.addTerm .nan = ({ c with lf := c.lf ||| Flag.lNan }, Flag.invalid)) ∧
  (∀ (n neg : Bool) (e : Int), Val.mul (.inf n) (.fin neg 0 e) = .nan ∧ Val.mul (.fin neg 0 e) (.inf n) = .nan) ∧
  (∀ c : Acc, c.addTerm (.inf false) = ({ c with lf := c.lf ||| Flag.lPosInf }, 0) ∧
    c.addTerm (.inf true) = ({ c with lf := c.lf ||| Flag.lNegInf }, 0)) ∧
  (∀ (c : Acc) (neg : Bool) (m : Nat) (e : Int), -windowMax ≤ c.w → c.w ≤ windowMax →
    let q : Int := if neg then -((toWindow c.a m e).1 : Int) else (toWindow c.a m e).1
    let u := (c.addTerm (.fin neg m e)).1
    (windowMax < q ∨ (q ≤ windowMax ∧ -windowMax ≤ q ∧ windowMax < c.w + q) → u.w = windowMax ∧ bit u.lf 4 = true ∧ bit u.lf 6 = true) ∧
    (q < -windowMax ∨ (q ≤ windowMax ∧ -windowMax ≤ q ∧ c.w + q < -windowMax) → u.w = -windowMax ∧ bit u.lf 4 = true ∧ bit u.lf 6 = true) ∧
    (q ≤ windowMax → -windowMax ≤ q → c.w + q ≤ windowMax → -windowMax ≤ c.w + q → u.w = c.w + q ∧ bit u.lf 4 = bit c.lf 4 ∧
      bit u.lf 6 = bit c.lf 6) ∧
    u.a = c.a ∧ -windowMax ≤ u.w ∧ u.w ≤ windowMax)

/-- R153: the pieces that a row of a transfer is cut into follow one another at both ends, cover the row, and none crosses a 64-byte
line at either end.
R153, R154: TILE_XFER whose source reads clean takes up the operations of its pieces and then its token; a load needs no read. A
returning TILE_ATOMIC is complete only when its value has come back. A source that reads uncorrectable ends either command with
STS_ECC_HALT as an exception. -/
def Obligations.TileTransfersMoveLines : Prop :=
  (∀ l r n : Nat, l % 4 = 0 → r % 4 = 0 → n % 4 = 0 →
      let ps := XferOp.cutRowAux l r (n / 4 + 1) n
      (ps.map (fun q => q.2.2)).sum = n ∧
      (∀ q ∈ ps, 0 < q.2.2 ∧ q.1 % 64 + q.2.2 ≤ 64 ∧ q.2.1 % 64 + q.2.2 ≤ 64) ∧
      (∀ i, (h : i < ps.length) → ps[i].1 = l + ((ps.take i).map (fun q => q.2.2)).sum ∧
        ps[i].2.1 = r + ((ps.take i).map (fun q => q.2.2)).sum)) ∧
  ((∀ s via t p j s1 x ue w bss, TileStarts s via t p j s1 → p.base = 0x0204 → XferOp.ofPacket p = some x → x.check s1 t = none →
      (s1.beginJob true (.ring t) j).readRuns t ue
        (if x.dir = 1 then (List.range x.rows).map (fun i => (x.loc + i * x.locPitch, x.rowBytes)) else []) = (w, .ok bss) →
      exec (.tileXfer via p ue) s = .next (w.beginTile t 4
        { Progress.empty with script := x.ops w t ++ x.tokens w t, done := true })) ∧
    (∀ s via t p j s1 x ue w z, TileStarts s via t p j s1 → p.base = 0x0204 → XferOp.ofPacket p = some x → x.check s1 t = none →
      (s1.beginJob true (.ring t) j).readRuns t ue
        (if x.dir = 1 then (List.range x.rows).map (fun i => (x.loc + i * x.locPitch, x.rowBytes)) else []) = (w, .error z) →
      Goes (exec (.tileXfer via p ue) s) (fun u => (u.tile t).exc = some ⟨Sts.eccHalt, 0, z.result1⟩ ∧ z.status = Sts.eccHalt ∧
        (u.tile t).prog.script = [])) ∧
    (∀ s via t p j s1 a ue w bss, TileStarts s via t p j s1 → p.base = 0x0205 → basicAddr p (p.u64 16) = some a →
      atomicCheck s1 t p = none →
      (s1.beginJob true (.ring t) j).readRuns t ue (if opBase (p.u8 32) = opLaccAdd then [(p.u32 44, 32)] else []) = (w, .ok bss) →
      let q := atomicReq w t p a
      exec (.tileAtomic via p ue) s = .next (w.beginTile t 4 { Progress.empty with
        script := (if q.tokEn then [.fence] else []) ++ [.op q (if isReturning (p.u8 32) then .value (p.u32 44) else .none)]
        done := !isReturning (p.u8 32) })))

/-! ## 04: tile commands -/

/-- R140, R141, R155: TILE_SYNC_SET gives the named counter of the tile its value and goes on; TILE_WAIT leaves the tile waiting for its
counter and threshold, with what it consumes and its time limit; TILE_FENCE takes up a fence. Nothing else changes but what the tile's
own issue step does.
R141: a pending wait whose counter has reached its threshold passes: what it consumes is taken from the counter and the tile goes on;
one whose counter is short, and which has a time limit, ends at that limit as an exception with STS_TIMEOUT and DETAIL 2, the counter in
RESULT1. A tile that waits for nothing is left alone.
R155, R157, 01 R42: a fence ends when the store buffer is empty, and not before; a TILE_FENCE then takes a posted fault as its
exception, with DETAIL 1; any other command goes on.
R142, R158: a command that has done everything completes with STS_OK, its flags in RESULT0[15:0] with its result above them, and
RESULT1; until then nothing happens. An exception whose drain has ended ends its command with the exception's status and DETAIL, sets
TILE_EXC_STATUS and TILE_EXC_ADDR and halts the ring; here for a ring that no serving plan and no Rim lane owns, with room for
its reply, outside confidential mode. -/
def Obligations.TilesSynchroniseAndEnd : Prop :=
  ((∀ s via t p j s1, TileStarts s via t p j s1 → p.base = 0x0208 → profileOne p = true →
      GoesOn (exec (.tileSyncSet via p) s) (fun w => w.beginTile t 0 { Progress.empty with done := true })
        (fun w => w.rd (Reg.TILE_SYNC (s1.siteOf t) (p.u8 16 % 32)) = p.u32 20 ∧
          Keeps [.regs] (s1.beginJob true (.ring t) j) w ∧
          RegsKeep [(Reg.TILE_SYNC (s1.siteOf t) (p.u8 16 % 32)).addr] (s1.beginJob true (.ring t) j) w)) ∧
    (∀ s via t p j s1, TileStarts s via t p j s1 → p.base = 0x0207 → profileOne p = true → (p.expert = true ∨ p.u16 24 = 0) →
      Goes (exec (.tileWait via p) s) (fun u =>
        (u.tile t).wait = some ⟨p.u8 16 % 32, p.u32 20, if bit (p.u8 17) 0 then p.u32 20 else 0, p.u16 24⟩ ∧
        (u.tile t).prog = { Progress.empty with done := true } ∧ (∀ x, x ≠ t → u.tile x = s1.tile x) ∧
        Keeps [.tiles] (s1.beginJob true (.ring t) j) u)) ∧
    (∀ s via t p j s1, TileStarts s via t p j s1 → p.base = 0x0206 → profileOne p = true →
      exec (.tileFence via p) s = .next ((s1.beginJob true (.ring t) j).beginTile t 4
        { Progress.empty with script := [.fence], done := true }))) ∧
  ((∀ (s : State) (t : Nat) (w : TileWait), t < 32 → (s.tile t).wait = some w → w.thr ≤ s.rd (Reg.TILE_SYNC (s.siteOf t) w.ctr) →
      GoesOn (exec (.tileWaitPass t) s) (·.carryOn t) (fun u => (u.tile t).wait = none ∧
        u.rd (Reg.TILE_SYNC (s.siteOf t) w.ctr) = (s.rd (Reg.TILE_SYNC (s.siteOf t) w.ctr) - w.take) % 2 ^ 32 ∧
        Keeps [.regs, .tiles] s u ∧ RegsKeep [(Reg.TILE_SYNC (s.siteOf t) w.ctr).addr] s u ∧ (∀ x, x ≠ t → u.tile x = s.tile x))) ∧
    (∀ (s : State) (t : Nat) (w : TileWait), t < 32 → (s.tile t).wait = some w → s.rd (Reg.TILE_SYNC (s.siteOf t) w.ctr) < w.thr →
      exec (.tileWaitPass t) s = .next s) ∧
    (∀ (s : State) (t : Nat) (w : TileWait), t < 32 → (s.tile t).wait = some w → w.limit ≠ 0 →
      s.rd (Reg.TILE_SYNC (s.siteOf t) w.ctr) < w.thr →
      Goes (exec (.tileWaitTimeout t) s) (fun u =>
        (u.tile t).exc = some ⟨Sts.timeout, 2, s.rd (Reg.TILE_SYNC (s.siteOf t) w.ctr)⟩ ∧ (u.tile t).wait = none ∧
        (u.tile t).prog.script = [] ∧ u.mem = s.mem ∧ (∀ x, x ≠ t → u.tile x = s.tile x))) ∧
    (∀ (s : State) (t : Nat), t < 32 → (s.tile t).wait = none → exec (.tileWaitPass t) s = .next s ∧ exec (.tileWaitTimeout t) s = .next s)) ∧
  ((∀ (s : State) (t : Nat), (s.tile t).sb ≠ [] → exec (.fenceComplete t) s = .next s) ∧
    (∀ (s : State) (t : Nat), (s.tile t).sb = [] → (s.tile t).fencing = true → (s.tile t).posted = none →
      GoesOn (exec (.fenceComplete t) s) (·.carryOn t) (fun u => Keeps [.tiles] s u ∧ u.tile t = { s.tile t with fencing := false } ∧
        (∀ x, x ≠ t → u.tile x = s.tile x))) ∧
    (∀ (s : State) (t : Nat) (j : Job) (st a : Nat), (s.tile t).sb = [] → (s.tile t).fencing = true → (s.tile t).posted = some (st, a) →
      (s.engOf t).cur = some j → j.pkt.base = 0x0206 →
      Goes (exec (.fenceComplete t) s) (fun u => (u.tile t).exc = some ⟨st, 1, a⟩ ∧ (u.tile t).posted = none ∧ u.mem = s.mem))) ∧
  ((∀ (s : State) (t : Nat), s.tileDone t = false → exec (.tileCommandComplete t) s = .next s) ∧
    (∀ (s : State) (t : Nat), s.tileDone t = true →
      let g := (s.tile t).prog
      GoesOn (exec (.tileCommandComplete t) s)
        (fun w => w.ringFinish t ⟨Sts.ok, 0, g.flags % 65536 + g.result0 * 65536, g.result1, bit g.flags 9⟩)
        (fun w => (w.tile t).prog = Progress.empty ∧ w.engOf t = s.engOf t ∧ w.mem = s.mem ∧ (∀ x, x ≠ t → w.tile x = s.tile x))) ∧
    (∀ (s : State) (t : Nat) (e : Exc) (j : Job), t < 32 → (s.tile t).exc = some e → (s.tile t).sb = [] → (s.engOf t).cur = some j →
      j.via = .ring t → s.rimOwns t = false → bit s.srv.tileMask t = false → s.conf = false → (s.engOf t).held = [] →
      (s.engOf t).openRec = [] → s.cqSpace t = true → s.ringState t ≠ State.closed → e.status < 2 ^ 16 → e.result1 < 2 ^ 64 →
      s.tiles.all (fun x => !x.2.resetting) = true → s.mcc.aborts = [] → s.mcc.cur = none → s.sec.closing ≠ 2 →
      Goes (exec (.exceptionDrainDone t) s) (fun u => (u.tile t).exc = none ∧ (u.engOf t).cur = none ∧
        u.ringState t = State.halted ∧ u.fd (Fld.HIF_RING_STATE_LAST_STATUS t) = e.status ∧
        u.rd (Reg.TILE_EXC_ADDR (s.siteOf t)) = e.result1 ∧ u.mem = s.mem)))

/-- R146 to R152, 05 R174 to R183: a compute command that starts on clean memory (no poisoned unit, no test mark, no uncorrectable read)
computes. Without an exchange of maxima its results are put out and its flags are kept for the reply: TILE_MATMUL, which reports the
number of its blocks, TILE_VEC, TILE_VRED, TILE_CONV with dense weights and TILE_POOL. Under an exchange TILE_VRED sends its words and
waits before it goes on.
R156, 06 R209: where the descriptor of TILE_MATMUL, or SRC0 of TILE_VRED without a descriptor, meets an uncorrectable line, the
command ends as an exception with STS_ECC_HALT. -/
def Obligations.TilesComputeOrReportErrors : Prop :=
  ((∀ s via t p j s1 x, TileStarts s via t p j s1 → p.base = 0x0200 → MatOp.ofPacket p = some x → x.check s1 t = none →
      CleanMemory s1 → x.exchange = false →
      ∃ v fl script, exec (.tileMatmul via p none) s = .next (State.beginTile v t 1
        { Progress.empty with flags := fl, result0 := x.blocks.length, script := script, done := true })) ∧
    (∀ s via t p j s1 x, TileStarts s via t p j s1 → p.base = 0x0201 → VecOp.ofPacket p = some x → x.check s1 t = none →
      CleanMemory s1 →
      ∃ v fl, exec (.tileVec via p none) s = .next (State.beginTile v t 2 { Progress.empty with flags := fl, done := true })) ∧
    (∀ s via t p j s1 x, TileStarts s via t p j s1 → p.base = 0x0202 → RedOp.ofPacket p = some x → x.check s1 t = none →
      CleanMemory s1 → x.exchange = false →
      ∃ v fl script, exec (.tileVred via p none) s = .next (State.beginTile v t 2
        { Progress.empty with flags := fl, script := script, done := true })) ∧
    (∀ s via t p j s1 x, TileStarts s via t p j s1 → p.base = 0x0202 → RedOp.ofPacket p = some x → x.check s1 t = none →
      CleanMemory s1 → x.exchange = true →
      ∃ v e ra cb, exec (.tileVred via p none) s = .next (State.beginTile v t 2
        { Progress.empty with script := State.xchgOps v t e ra cb, done := true })) ∧
    (∀ s via t p j s1 x, TileStarts s via t p j s1 → p.base = 0x0220 → ConvOp.ofTile p = some x → x.tileCheck s1 t = none →
      CleanMemory s1 → x.exchange = false → x.sparse = false →
      ∃ v fl n script, exec (.tileConv via p none) s = .next (State.beginTile v t (if x.onVector then 2 else 1)
        { Progress.empty with flags := fl, result0 := n, script := script, done := true })) ∧
    (∀ s via t p j s1 x, TileStarts s via t p j s1 → p.base = 0x0221 → PoolOp.ofPacket p = some x → x.check s1 t = none →
      CleanMemory s1 → x.exchange = false →
      ∃ v fl script, exec (.tilePool via p none) s = .next (State.beginTile v t 2
        { Progress.empty with flags := fl, result0 := ceilDiv (x.outH * x.outW) 128, script := script, done := true }))) ∧
  ((∀ s via t p j s1 x u, TileStarts s via t p j s1 → p.base = 0x0200 → MatOp.ofPacket p = some x → x.check s1 t = none →
      CleanMemory s1 → x.ext = true → x.extAddr / 64 * 64 ≤ u → u < x.extAddr + 64 →
      Goes (exec (.tileMatmul via p (some u)) s) (fun w => ∃ a, (w.tile t).exc = some ⟨Sts.eccHalt, 0, a⟩ ∧
        (w.tile t).prog.script = [])) ∧
    (∀ s via t p j s1 x u, TileStarts s via t p j s1 → p.base = 0x0202 → RedOp.ofPacket p = some x → x.check s1 t = none →
      CleanMemory s1 → x.ext = false → x.src0 / 64 * 64 ≤ u → u < x.src0 + x.rows * x.pitch →
      Goes (exec (.tileVred via p (some u)) s) (fun w => ∃ a, (w.tile t).exc = some ⟨Sts.eccHalt, 0, a⟩ ∧
        (w.tile t).prog.script = [])))

/-! ## 04: what happens to tiles -/

/-- R136, R138, R157, R158, 08 R285: the response to an outstanding operation takes its entry out of the store buffer; a failing one that
was posted is kept as the tile's posted fault, where none is kept already. An entry that reaches its timeout is taken out as a posted
STS_TIMEOUT, its tag owed a late response; that response is counted and discarded. A response for no entry changes nothing.
R160: an uncorrectable microcode fetch of a tile in service traps it; a command in progress ends as an exception with STS_SEQ_TRAP and
the store's offset in RESULT1. A tile that is not there, or trapped already, is left alone. -/
def Obligations.ResponsesTimeoutsAndTraps : Prop :=
  ((∀ (s : State) (r : Resp) (t i : Nat) (e : SbEntry), r.dstMod = s.srcMod → r.dstUnit = t → t < 32 →
      (s.tile t).sb.findIdx? (fun e => e.issued && e.req.rtag == r.rtag) = some i → (s.tile t).sb[i]? = some e →
      r.status ≠ Sts.ok → (∀ off, e.land ≠ .value off) → (s.tile t).exc = none → (s.tile t).posted = none →
      GoesOn (exec (.responseArrival r) s) (fun w => ((w.pump t).tileDrained t).settle) (fun w =>
        (w.tile t).sb = (s.tile t).sb.eraseIdx i ∧ (w.tile t).posted = some (r.status, s.respAddr e r) ∧ w.mem = s.mem)) ∧
    (∀ (s : State) (r : Resp) (t i : Nat) (e : SbEntry), r.dstMod = s.srcMod → r.dstUnit = t → t < 32 →
      (s.tile t).sb.findIdx? (fun e => e.issued && e.req.rtag == r.rtag) = some i → (s.tile t).sb[i]? = some e →
      r.status = Sts.ok → e.land = .none →
      GoesOn (exec (.responseArrival r) s) (fun w => ((w.pump t).tileDrained t).settle) (fun w =>
        (w.tile t).sb = (s.tile t).sb.eraseIdx i ∧ (w.tile t).posted = (s.tile t).posted ∧ w.mem = s.mem)) ∧
    (∀ (s : State) (r : Resp) (t : Nat), r.dstMod = s.srcMod → r.dstUnit = t → t < 32 →
      (s.tile t).sb.findIdx? (fun e => e.issued && e.req.rtag == r.rtag) = none → (s.tile t).stale.contains r.rtag = true →
      Goes (exec (.responseArrival r) s) (fun u => (u.tile t).stale = (s.tile t).stale.erase r.rtag ∧
        Keeps [.regs, .tiles] s u ∧ RegsKeep [(Reg.TILE_LATE_ACK_CNT (s.siteOf t)).addr] s u)) ∧
    (∀ (s : State) (r : Resp), r.dstMod ≠ s.srcMod → exec (.responseArrival r) s = .next s) ∧
    (∀ (s : State) (t tag i : Nat) (e : SbEntry), (s.tile t).sb.findIdx? (fun e => e.issued && e.req.rtag == tag) = some i →
      (s.tile t).sb[i]? = some e → (∀ off, e.land ≠ .value off) → (s.tile t).exc = none → (s.tile t).posted = none →
      GoesOn (exec (.roResponseTimeout t tag) s) (fun w => ((w.pump t).tileDrained t).settle) (fun w =>
        (w.tile t).sb = (s.tile t).sb.eraseIdx i ∧ (w.tile t).stale = (s.tile t).stale ++ [tag] ∧
        (w.tile t).posted = some (Sts.timeout, s.shownAddr e.req.addr) ∧ w.mem = s.mem))) ∧
  ((∀ (s : State) (t off : Nat) (bad : Bool) (j : Job), t < 32 → s.tileOn t = true → (s.tile t).trapped = false →
      (s.engOf t).cur = some j → j.begun = true → (s.tile t).exc = none →
      Goes (exec (.seqTrap t off bad) s) (fun u => (u.tile t).trapped = true ∧ (u.tile t).exc = some ⟨Sts.seqTrap, 0, off⟩ ∧
        (u.tile t).prog.script = [] ∧ u.fd Fld.HIF_URGENT_CAUSE_ENGINE_TRAP = 1 ∧ u.mem = s.mem)) ∧
    (∀ (s : State) (t off : Nat) (bad : Bool), t < 32 → s.tileOn t = false ∨ (s.tile t).trapped = true →
      exec (.seqTrap t off bad) s = .next s))

/-! ## 05: the Splint engine -/

/-- R189: SPL_SYNC_SET gives a counter of the engine its value and replies; SPL_WAIT with its counter at the threshold replies at once and
takes what it consumes; short of it, it stays in progress until the counter allows it, or ends at its time limit with STS_TIMEOUT and
halts ring 44.
R186 to R191: SPL_CONV whose parameters are in range runs its layer on the engine's state and ends with what
the layer answers, unless the layer has ended it in a halt; a filter above 11 × 11 is refused with STS_FILTER_TOO_LARGE. -/
def Obligations.SplintCommandsRun : Prop :=
  ((∀ s via p j s1, UnitStarts s via 44 p j s1 → p.base = 0x0242 → s1.splintOn = true → profileOne p = true →
      Ends (exec (.splSyncSet via p) s) (.ring 44) .done (fun u => u.rd (Reg.SPL_SYNC (p.u8 16 % 16)) = p.u32 20 ∧
        Keeps [.regs] (s1.beginJob true (.ring 44) j) u ∧
        RegsKeep [(Reg.SPL_SYNC (p.u8 16 % 16)).addr] (s1.beginJob true (.ring 44) j) u)) ∧
    (∀ s via p j s1, UnitStarts s via 44 p j s1 → p.base = 0x0241 → s1.splintOn = true → profileOne p = true →
      (p.expert = true ∨ p.u16 24 = 0) →
      let v := s1.rd (Reg.SPL_SYNC (p.u8 16 % 16))
      (p.u32 20 ≤ v → Ends (exec (.splWait via p) s) (.ring 44) .done (fun u =>
        u.rd (Reg.SPL_SYNC (p.u8 16 % 16)) = (v - (if bit (p.u8 17) 0 then p.u32 20 else 0)) % 2 ^ 32 ∧
        Keeps [.regs] (s1.beginJob true (.ring 44) j) u ∧
        RegsKeep [(Reg.SPL_SYNC (p.u8 16 % 16)).addr] (s1.beginJob true (.ring 44) j) u)) ∧
      (v < p.u32 20 → exec (.splWait via p) s = .next (s1.beginJob true (.ring 44) j))) ∧
    (∀ (s : State) (p : Packet), s.splWaiting = some p → (State.splWaitOf p).2.1 ≤ s.rd (Reg.SPL_SYNC (State.splWaitOf p).1) →
      Ends (exec (.tileWaitPass 44) s) (.ring 44) .done (fun u => Keeps [.regs] s u ∧
        RegsKeep [(Reg.SPL_SYNC (State.splWaitOf p).1).addr] s u)) ∧
    (∀ (s : State) (p : Packet), s.splWaiting = some p → s.rd (Reg.SPL_SYNC (State.splWaitOf p).1) < (State.splWaitOf p).2.1 →
      p.u16 24 ≠ 0 →
      exec (.tileWaitTimeout 44) s = .next (s.splHalt ⟨Sts.timeout, 2, 0, s.rd (Reg.SPL_SYNC (State.splWaitOf p).1), false⟩))) ∧
  ((∀ s via p j s1 x far ue, UnitStarts s via 44 p j s1 → p.base = 0x0240 → s1.splintOn = true → splOf p = some x → x.splCheck = none →
      Goes (exec (.splConv via p far ue) s) (fun u =>
        let r := (s1.beginJob true (.ring 44) j).splConv x (!p.expert) far ue
        (∀ a, r.2 = some a → u = r.1.finish (.ring 44) a) ∧ (r.2 = none → u = r.1))) ∧
    (∀ s via p j s1 x far ue, UnitStarts s via 44 p j s1 → p.base = 0x0240 → s1.splintOn = true → splOf p = some x →
      11 < x.fh ∨ 11 < x.fw →
      exec (.splConv via p far ue) s = .next (s1.finish (.ring 44) (.err Sts.filterTooLarge))))

/-! ## 06: memory integrity -/

/-- R219, R214, R221: a clean read of HBM patrol moves the stack's position, raises PATROL_ACTIVE and leaves memory and its marks alone; a
clean read of SRAM patrol changes nothing; a corrected one at a valid, unpoisoned and unmarked line adds one to the count of its word,
below the fourth. A completed pass forgets the tracked pages of its stack and counts, or the counts of its SRAM macro.
R209, R222: the write-back of a corrected SRAM word that a test left correctable stores the corrected data and ends the mark; no other
byte changes. A page whose copy ends is remapped to its skein page, is no longer retiring, and is counted; then the held accesses go on.
Rows for a word or page that has nothing pending change nothing.
R206: a temperature readout puts each clocked stack's temperature, 255 at most, into its HBM_STATUS, and changes nothing else. -/
def Obligations.MemoryIsPatrolledAndRetired : Prop :=
  ((∀ (s : State) (k off : Nat), k < 8 → off < stackEnd → s.stackOn k = true →
      Goes (exec (.patrolScrubRead k off .clean) s) (fun u => u.mem = s.mem ∧ u.ecc = s.ecc ∧
        u.fd (Fld.HBM_PATROL_POS_PAGE k) = off / 65536 ∧ u.fd (Fld.HBM_STATUS_PATROL_ACTIVE k) = 1)) ∧
    (∀ (s : State) (key : Nat), spaceOf key ≠ 0 → exec (.sramPatrolRead key .clean) s = .next s) ∧
    (∀ (s : State) (key : Nat), spaceOf key ≠ 0 → s.patrolled key = true → s.patrolSkips key = false →
      Cells.get 0 (protKey key) s.ecc.words < 3 →
      Goes (exec (.sramPatrolRead key .ce) s) (fun u => u.mem = s.mem ∧
        u.ecc = { s.ecc with words := Cells.set 0 (protKey key) (Cells.get 0 (protKey key) s.ecc.words + 1) s.ecc.words })) ∧
    (∀ (s : State) (key : Nat), spaceOf key = 0 → s.stackOn (offOf key / 2 ^ 36) = true →
      let st := offOf key / 2 ^ 36
      Goes (exec (.patrolPassComplete key) s) (fun u => (∀ e ∈ u.ecc.pages, offOf e.1 / 2 ^ 36 ≠ st) ∧
        (∀ e ∈ s.ecc.pages, offOf e.1 / 2 ^ 36 ≠ st → e ∈ u.ecc.pages) ∧
        u.fd (Fld.HBM_PATROL_POS_PASSES st) = (s.fd (Fld.HBM_PATROL_POS_PASSES st) + 1) % 4096 ∧
        u.fd (Fld.HBM_PATROL_POS_PAGE st) = 0 ∧ Keeps [.regs, .ecc] s u ∧ RegsKeep [(Reg.HBM_PATROL_POS st).addr] s u)) ∧
    (∀ (s : State) (key : Nat), spaceOf key ≠ 0 →
      Goes (exec (.patrolPassComplete key) s) (fun u => Keeps [.ecc] s u ∧
        u.ecc = { s.ecc with words := s.ecc.words.filter (fun e => e.1 / 65536 != key / 65536) }))) ∧
  ((∀ (s : State) (key : Nat) (m : Mark),
      s.ecc.marks.find? (fun m => m.key == key / 8 * 8 && spaceOf m.key != 0 && m.outcome == 1) = some m →
      Goes (exec (.sramWriteback key) s) (fun u => u.memRead m.key 8 = s.readCorrected m.key 8 ∧ BytesKeep m.key 8 s u ∧
        (∀ x ∈ u.ecc.marks, x.key ≠ m.key) ∧ Keeps [.mem, .ecc] s u)) ∧
    (∀ (s : State) (key : Nat),
      s.ecc.marks.find? (fun m => m.key == key / 8 * 8 && spaceOf m.key != 0 && m.outcome == 1) = none →
      exec (.sramWriteback key) s = .next s) ∧
    (∀ (s : State) (page : Nat) (r : Retire), s.ecc.retiring.find? (fun r => r.page == page) = some r → s.ecc.marks = [] →
      let st := offOf page / 2 ^ 36
      GoesOn (exec (.pageRetireDone page) s) (fun w => w.healthCheck.heldDeliver) (fun w =>
        w.ecc = { s.ecc with retiring := s.ecc.retiring.filter (fun x => x.page != page)
                             pageMap := (page, r.skein) :: s.ecc.pageMap } ∧
        w.fd (Fld.HBM_REMAP_STATE_RETIRED st) = (s.fd (Fld.HBM_REMAP_STATE_RETIRED st) + 1) % 2 ^ (Fld.HBM_REMAP_STATE_RETIRED st).w ∧
        w.mem = s.mem)) ∧
    (∀ (s : State) (page : Nat), s.ecc.retiring.find? (fun r => r.page == page) = none → exec (.pageRetireDone page) s = .next s)) ∧
  (∀ (s : State) (temps : List Nat),
      Goes (exec (.hbmTempReadout temps) s) (fun u => Keeps [.regs] s u ∧ RegsKeep ((List.range 8).map (fun k => (Reg.HBM_STATUS k).addr)) s u ∧
        (∀ k, k < 8 → s.stackOn k = true → ∀ t, temps[k]? = some t → u.fd (Fld.HBM_STATUS_TEMP_C k) = min 255 t) ∧
        (∀ k, k < 8 → s.stackOn k = false ∨ temps[k]? = none → u.rd (Reg.HBM_STATUS k) = s.rd (Reg.HBM_STATUS k))))

/-- R228: a MEM_SCRUB in range, with the token free for it, takes the token and starts over the memories it selects; it stays in
progress. When it has passed them it replies the units found, poisoned in RESULT0 and corrected in RESULT1; here when it finds
none.
R229 to R231: a raw write of MEM_ECC_TEST stores its data in the target's unit, keeps the data and check bits as a mark, and changes
no other byte; a raw read of a clean SRAM word replies its check bits, outcome 0 and its data, and changes nothing. While a tenant is open
the command is refused with DETAIL 0x0C01. -/
def Obligations.MemoryIsScrubbedAndTested : Prop :=
  ((∀ s via p j s1, Starts s true via p j s1 → p.base = 0x0C10 → p.expert = true → (∀ k, k < 8 → bit (p.u8 16) k → s1.stackOk k = true) →
      1 ≤ p.u8 18 → p.u8 18 ≤ 100 → s1.maintRefused ⟨State.actMemScrub, 0, 0⟩ = none →
      Goes (exec (.memScrub via p) s) (fun u => u.ecc = { s1.ecc with scrub := some (p.u8 16 + b2n (bit (p.u8 17) 0) * 256, 0, 0) } ∧
        u.ras = { s1.ras with holders := s1.ras.holders ++ [⟨State.actMemScrub, 0, 0⟩] } ∧
        (∀ k, k < 8 → bit (p.u8 16) k = true → u.fd (Fld.HBM_STATUS_SCRUB_ACTIVE k) = 1) ∧ u.mem = s1.mem)) ∧
    (∀ (s : State) (x : Nat × Nat × Nat), s.ecc.scrub = some x →
      Ends (exec (.memScrubDone []) s) .mcc (.ok 0 0) (fun u => u = s.memScrubEnd)) ∧
    (∀ (s : State) (found : List (Nat × Bool)), s.ecc.scrub = none → exec (.memScrubDone found) s = .next s)) ∧
  ((∀ s via p j s1, Starts s true via p j s1 → p.base = 0x0C11 → p.expert = true → p.u8 24 = 0 →
      let k := memKey (p.u64 16)
      let z := unitSize k
      let data := ofLE ((List.range 32).map (fun i => BitVec.ofNat 8 (p.u8 (32 + i)))) % 2 ^ (8 * z)
      p.u64 16 % z = 0 → (z = 8 → p.u8 27 = 0) → s1.eccTarget (p.u64 16) = true → s1.patrolled k = true → s1.tenantOpen = false →
      s1.unitMarks k < 64 → s1.maintRefused ⟨State.actEccTest, 0, 0⟩ = none →
      Ends (exec (.memEccTest via p) s) via .done (fun u => u.memRead k z = leBytes z data ∧ BytesKeep k z s1 u ∧
        u.ecc.marks.find? (fun m => m.key == k) = some ⟨k, data, p.u16 26⟩ ∧ Keeps [.mem, .ecc] (s1.beginJob true via j) u)) ∧
    (∀ s via p j s1, Starts s true via p j s1 → p.base = 0x0C11 → p.expert = true → p.u8 24 = 1 → p.u8 25 ≤ 3 →
      let k := memKey (p.u64 16)
      unitSize k = 8 → p.u64 16 % 8 = 0 → s1.eccTarget (p.u64 16) = true → s1.patrolled k = true → s1.tenantOpen = false →
      s1.unitMarks k < 64 → s1.maintRefused ⟨State.actEccTest, 0, 0⟩ = none → s1.ecc.valid.contains (protKey k) = true → CleanMemory s1 →
      Ends (exec (.memEccTest via p) s) via (.ok (Config.eccCheck false (ofLE (s1.memRead k 8))) (ofLE (s1.memRead k 8)))
        (fun u => u = s1.beginJob true via j)) ∧
    (∀ s via p j s1, Starts s true via p j s1 → p.base = 0x0C11 → p.expert = true → p.u8 24 = 0 →
      let k := memKey (p.u64 16)
      p.u64 16 % unitSize k = 0 → (unitSize k = 8 → p.u8 27 = 0) → s1.eccTarget (p.u64 16) = true → s1.patrolled k = true →
      s1.tenantOpen = true → exec (.memEccTest via p) s = .next (s1.finish via (.refuse 0x0C01))))

/-! ## 07: Creel -/

/-- R246, R248, R252: CREEL_SEQ_OPEN with a geometry in range, of a CLOSED sequence that fits the pools, opens it with that geometry;
CREEL_SEQ_RESERVE of an OPEN one and CREEL_UNPARK of a PARKED one that fits set its reserved length and leave it OPEN with no cause. Other
sequences, and every part of the state but Creel's, stay. A sequence in another state is refused with STS_CRL_SEQ_STATE.
R248, R249, R257: CREEL_SEQ_TRIM and CREEL_SEQ_CLOSE of a sequence for which no access waits change the tables at once and stay in
progress, Creel busy with them: after a TRIM no page whose first token is at or above the new length is mapped, after a CLOSE the
sequence is CLOSED and has no page. Their end, with no access held, replies and ends the busy time; without one there is nothing to
end. -/
def Obligations.CreelSequencesLiveAndEnd : Prop :=
  ((∀ s via p j s1 w, Starts s true via p j s1 → p.base = 0x0300 → profileOne p = true → State.pSeq p ≤ 4095 →
      State.geomBad (State.openGeom p) = false → (p.expert = true ∨ p.u32 28 = p.u32 24) → s1.tenantOpen = true →
      s1.srvOwnsSeq (State.pSeq p) = false → s1.crlSeq (State.pSeq p) = none → s1.crlOpen (State.pSeq p) (State.openGeom p) = .ok w →
      Ends (exec (.creelSeqOpen via p) s) via .done (fun u => u.crlSeq (State.pSeq p) = some (State.openGeom p) ∧
        (∀ m, m ≠ State.pSeq p → u.crlSeq m = s1.crlSeq m) ∧ Keeps [.crl] (s1.beginJob true via j) u)) ∧
    (∀ s via p j s1 q w, Starts s true via p j s1 → p.base = 0x0301 → profileOne p = true → State.pSeq p ≤ 4095 → s1.tenantOpen = true →
      s1.srvOwnsSeq (State.pSeq p) = false → s1.crlSeq (State.pSeq p) = some q → q.state = 1 → p.u32 28 ≤ q.maxTok →
      s1.crlSetResv (State.pSeq p) q (p.u32 28) = .ok w →
      Ends (exec (.creelSeqReserve via p) s) via .done (fun u =>
        u.crlSeq (State.pSeq p) = some { q with resvTok := p.u32 28, state := 1, cause := 0 } ∧
        (∀ m, m ≠ State.pSeq p → u.crlSeq m = s1.crlSeq m) ∧ Keeps [.crl] (s1.beginJob true via j) u)) ∧
    (∀ s via p j s1 q w, Starts s true via p j s1 → p.base = 0x0305 → profileOne p = true → State.pSeq p ≤ 4095 → s1.tenantOpen = true →
      s1.srvOwnsSeq (State.pSeq p) = false → s1.crlSeq (State.pSeq p) = some q → q.state = 2 → p.u32 28 ≤ q.maxTok →
      (p.expert = true ∨ p.u32 28 = q.maxTok) → s1.crlSetResv (State.pSeq p) q (p.u32 28) = .ok w →
      Ends (exec (.creelUnpark via p) s) via .done (fun u =>
        u.crlSeq (State.pSeq p) = some { q with resvTok := p.u32 28, state := 1, cause := 0 } ∧
        (∀ m, m ≠ State.pSeq p → u.crlSeq m = s1.crlSeq m) ∧ Keeps [.crl] (s1.beginJob true via j) u)) ∧
    (∀ s via p j s1 q, Starts s true via p j s1 → p.base = 0x0300 → profileOne p = true → State.pSeq p ≤ 4095 →
      State.geomBad (State.openGeom p) = false → (p.expert = true ∨ p.u32 28 = p.u32 24) → s1.tenantOpen = true →
      s1.srvOwnsSeq (State.pSeq p) = false → s1.crlSeq (State.pSeq p) = some q → q.state ≠ 0 →
      exec (.creelSeqOpen via p) s = .next (s1.finish via (.err State.stsCrlSeqState)))) ∧
  ((∀ s via p j s1 q, Starts s true via p j s1 → p.base = 0x0302 → profileOne p = true → State.pSeq p ≤ 4095 → s1.tenantOpen = true →
      s1.srvOwnsSeq (State.pSeq p) = false → s1.crlSeq (State.pSeq p) = some q → q.state = 1 ∨ q.state = 2 →
      (∀ w ∈ s1.crl.waiting, crlSeqOf w.1.addr ≠ State.pSeq p) →
      Goes (exec (.creelSeqTrim via p) s) (fun u => u.crl.busy = some (State.pSeq p, false) ∧
        (∀ m ∈ u.crl.maps, m.seq = State.pSeq p → m.v % q.ppl * q.rpp < p.u32 24) ∧
        (∀ m ∈ s1.crl.maps, m.seq ≠ State.pSeq p → m ∈ u.crl.maps) ∧ u.host = s1.host)) ∧
    (∀ s via p j s1 q, Starts s true via p j s1 → p.base = 0x0303 → profileOne p = true → State.pSeq p ≤ 4095 → s1.tenantOpen = true →
      s1.srvOwnsSeq (State.pSeq p) = false → s1.crlSeq (State.pSeq p) = some q → q.state = 1 ∨ q.state = 2 →
      (∀ w ∈ s1.crl.waiting, crlSeqOf w.1.addr ≠ State.pSeq p) →
      Goes (exec (.creelSeqClose via p) s) (fun u => u.crl.busy = some (State.pSeq p, true) ∧ u.crlSeq (State.pSeq p) = none ∧
        (∀ m ∈ u.crl.maps, m.seq ≠ State.pSeq p) ∧ (∀ m ∈ s1.crl.maps, m.seq ≠ State.pSeq p → m ∈ u.crl.maps) ∧
        u.mem = s1.mem ∧ u.host = s1.host)) ∧
    (∀ (s : State), s.crl.busy = none → exec .trimCloseDone s = .next s) ∧
    (∀ (s : State) (b : Nat × Bool), s.crl.busy = some b → s.crl.held = [] →
      Ends (exec .trimCloseDone s) .mcc .done (fun u => u.crl = { s.crl with busy := none } ∧ Keeps [.crl] s u)))

/-- R245, R253, R273: CREEL_SEQ_QUERY of a sequence with a discarded write replies its cause and state, its mapped pages and FIRST_LOST,
and changes nothing; of a CLOSED one state 0. CREEL_POOL_ADD of whole own pages that no pool holds puts them into the unit's pool, to be
zero-filled. CREEL_POOL_REMOVE beyond the unreserved free pages is refused with STS_CRL_POOL; otherwise its pages leave the pool and their
addresses are written. CREEL_SKEIN_GRANT within what R253 allows counts its pages as granted.
R242, R245, R241: a walk that completes well puts its page into the unit's TLB and tries again what waits there. A page of a pool whose
zero-fill ends reads 0 throughout and is free; no byte outside it changes before what waits is tried again. Rows for a walk or page that is
not in progress change nothing. -/
def Obligations.CreelPoolsAndWalks : Prop :=
  ((∀ s via p j s1 q t, Starts s true via p j s1 → p.base = 0x0304 → profileOne p = true → State.pSeq p ≤ 4095 →
      s1.crlSeq (State.pSeq p) = some q → q.firstLost = some t →
      Ends (exec (.creelSeqQuery via p) s) via
        (.ok (q.cause * 4 + q.state) ((s1.crl.maps.filter (fun m => m.seq == State.pSeq p)).length * 2 ^ 32 + t))
        (fun u => u = s1.beginJob true via j)) ∧
    (∀ s via p j s1, Starts s true via p j s1 → p.base = 0x0304 → profileOne p = true → State.pSeq p ≤ 4095 →
      s1.crlSeq (State.pSeq p) = none →
      ∃ x, Ends (exec (.creelSeqQuery via p) s) via (.ok 0 x) (fun u => Keeps [.free] (s1.beginJob true via j) u)) ∧
    (∀ s via p j s1, Starts s true via p j s1 → p.base = 0x0310 → profileOne p = true → p.u8 16 < 8 → s1.stackOn (p.u8 16) = true →
      s1.tenantOpen = true → s1.isOwn (modOf (p.u64 24)) = true → spaceOf (p.u64 24) = 0 → offOf (p.u64 24) / 2 ^ 36 = p.u8 16 →
      p.u64 24 % 65536 = 0 → offOf (p.u64 24) % 2 ^ 36 + p.u32 20 * 65536 ≤ s1.allocEnd (p.u8 16) →
      s1.poolTouches (memKey (p.u64 24)) (p.u32 20) = false →
      Ends (exec (.creelPoolAdd via p) s) via .done (fun u =>
        u.crl = { s1.crl with zeroing := s1.crl.zeroing ++
          (List.range (p.u32 20)).map (fun i => ⟨memKey (p.u64 24) + i * 65536, false, false⟩) } ∧
        Keeps [.crl] (s1.beginJob true via j) u)) ∧
    (∀ s via p j s1, Starts s true via p j s1 → p.base = 0x0311 → profileOne p = true → p.u8 16 < 8 → s1.stackOn (p.u8 16) = true →
      s1.tenantOpen = true →
      (s1.poolFree (p.u8 16) < s1.poolResv (p.u8 16) + p.u32 20 →
        exec (.creelPoolRemove via p) s = .next (s1.finish via (.err State.stsCrlPool))) ∧
      (s1.poolResv (p.u8 16) + p.u32 20 ≤ s1.poolFree (p.u8 16) → s1.runCheck State.mccUnit (p.u64 24) (8 * p.u32 20) opStore = none →
        ∀ w ks x, State.poolTake (p.u8 16) (p.u32 20) (s1.beginJob true via j) = (w, ks) →
          w.putGlobal State.mccUnit (p.u64 24) ((ks.map (fun k => leBytes 8 (ownAddr k))).flatten) = (x, none) →
          exec (.creelPoolRemove via p) s = .next (x.finish via .done))) ∧
    (∀ s via p j s1, Starts s true via p j s1 → p.base = 0x0340 → profileOne p = true → p.u8 16 < 8 → s1.stackOn (p.u8 16) = true →
      s1.tenantOpen = true →
      16384 + p.u32 20 ≤ ((List.range 8).filter s1.stackOk).foldl (fun c k => c + s1.fd (Fld.HBM_REMAP_STATE_FREE k)) 0 →
      p.u32 20 ≤ s1.fd (Fld.HBM_REMAP_STATE_FREE (p.u8 16)) →
      Ends (exec (.creelSkeinGrant via p) s) via .done (fun u =>
        u.rd (Reg.CRL_POOL_GRANTED (p.u8 16)) =
          satAdd (2 ^ (Reg.CRL_POOL_GRANTED (p.u8 16)).width - 1) (s1.rd (Reg.CRL_POOL_GRANTED (p.u8 16))) (p.u32 20) ∧
        u.mem = s1.mem ∧ u.crl.maps = s1.crl.maps ∧ u.crl.seqs = s1.crl.seqs))) ∧
  ((∀ (s : State) (u n v : Nat), s.crl.walks.contains (u, n, v) = true → (s.crl.tlb.filter (fun e => e.1 == u)).length < 512 →
      GoesOn (exec (.pageWalkComplete u n v .good) s) (·.crlRetry u) (fun w => (u, n, v) ∈ w.crl.tlb ∧
        w.crl.walks = s.crl.walks.filter (· != (u, n, v)) ∧ Keeps [.crl] s w)) ∧
    (∀ (s : State) (u n v : Nat) (w : Walk), s.crl.walks.contains (u, n, v) = false → exec (.pageWalkComplete u n v w) s = .next s) ∧
    (∀ (s : State) (page : Nat) (z : CrlZero), s.crl.zeroing.find? (fun z => z.page == page) = some z →
      GoesOn (exec (.pageZeroFillDone page) s)
        (fun w => if z.freed then (w.crlRetry (State.pageUnit page)).returnGranted (State.pageUnit page)
          else w.crlRetry (State.pageUnit page))
        (fun w => (∀ i, i < 65536 → w.byte (page + i) = 0) ∧ BytesKeep page 65536 s w ∧
          w.crl = { s.crl with zeroing := s.crl.zeroing.filter (fun y => y.page != page)
                               free := s.crl.free ++ [(page, z.granted)] })) ∧
    (∀ (s : State) (page : Nat), s.crl.zeroing.find? (fun z => z.page == page) = none → exec (.pageZeroFillDone page) s = .next s))

/-- R255, R256, R259: CREEL_GATHER queues its request at the unit and stays in progress; a gather request at an endpoint whose queue has
room is queued and answered, one that finds it full waits, and without a tenant it is answered STS_ACCESS_FAULT. A unit with nothing
queued serves nothing; a request for a CLOSED sequence leaves the queue and ends with STS_ACCESS_FAULT.
R272: CREEL_BUCKET orders its entries by bucket, within a bucket longer first, among equals lower SEQ first, and loses none; with its
parameters in range, bounds that rise, and every access allowed, it reads the list and the bounds, writes the result at its destination
and replies STS_OK. -/
def Obligations.CreelGathersAndBuckets : Prop :=
  ((∀ s via k p j s1, UnitStarts s via (32 + k) p j s1 → k < 8 → (via = .mcc → p.u8 62 = k) → p.base = 0x0320 → profileOne p = true →
      s1.stackOn k = true → s1.tenantOpen = true →
      let g := State.gatherOf k (p.bytes 16 36) none
      g.rows ≠ 0 → (g.tokEn = true → g.inc ≠ 0) → s1.srvOwnsSeq g.seq = false → s1.gatherExtent g = none →
      Goes (exec (.creelGather via p) s) (fun u =>
        u.crl = { s1.crl with queue := s1.crl.queue ++ [State.gatherOf k (p.bytes 16 36) (some (.ring (32 + k)))] } ∧
        Keeps [.crl] (s1.beginJob true (.ring (32 + k)) j) u)) ∧
    (∀ (s : State) (q : Req), isEndpoint q.addr = true → Reaches s q → s.homeCheck q = none → s.stackOn (q.addr % 8) = true →
      s.heldAtHome q = false → s.tenantOpen = true → s.gatherDepth (q.addr % 8) < 64 → s.crl.vc0 = [] →
      GoesOn (exec (.gatherRequest q) s) (·.launchResp (Resp.make q Sts.ok [])) (fun w =>
        w.crl = { s.crl with queue := s.crl.queue ++ [State.gatherOf (q.addr % 8) q.data none] } ∧ w.mem = s.mem)) ∧
    (∀ (s : State) (q : Req), isEndpoint q.addr = true → Reaches s q → s.homeCheck q = none → s.stackOn (q.addr % 8) = true →
      s.heldAtHome q = false → s.tenantOpen = true → 64 ≤ s.gatherDepth (q.addr % 8) →
      Goes (exec (.gatherRequest q) s) (fun u => u.crl = { s.crl with vc0 := s.crl.vc0 ++ [q] } ∧ u.mem = s.mem)) ∧
    (∀ (s : State) (q : Req), isEndpoint q.addr = true → Reaches s q → s.homeCheck q = none → s.stackOn (q.addr % 8) = true →
      s.heldAtHome q = false → s.tenantOpen = false →
      GoesOn (exec (.gatherRequest q) s) (·.launchResp (Resp.make q Sts.accessFault [])) (fun w => w.crl = s.crl ∧ w.mem = s.mem)) ∧
    (∀ (s : State) (u : Nat) (w : Walk) (ue : Option Nat) (far : Option (Nat × Nat)),
      s.crl.queue.find? (fun g => g.unit == u) = none → exec (.gatherServe u w ue far) s = .next s) ∧
    (∀ (s : State) (u : Nat) (w : Walk) (ue : Option Nat) (far : Option (Nat × Nat)) (g : Gather),
      s.crl.queue.find? (fun g => g.unit == u) = some g → s.crlSeq g.seq = none → s.crl.vc0 = [] →
      GoesOn (exec (.gatherServe u w ue far) s)
        (fun x => x.gatherEnd g Sts.accessFault 0 (ownAddr (3 * 2 ^ 48 + g.seq * 2 ^ 35)))
        (fun x => x.crl = { s.crl with queue := s.crl.queue.eraseIdx (s.crl.queue.findIdx (fun g => g.unit == u)) } ∧ Keeps [.crl] s x))) ∧
  ((∀ (bounds : List Nat) (es : List (Nat × Nat)),
      let r := es.foldl (fun l e => State.bucketInsert bounds e l) []
      r.Perm es ∧ r.Pairwise (fun a b => State.bucketOf bounds a.2 < State.bucketOf bounds b.2 ∨
        (State.bucketOf bounds a.2 = State.bucketOf bounds b.2 ∧ (b.2 < a.2 ∨ (b.2 = a.2 ∧ a.1 ≤ b.1))))) ∧
    (∀ s via p j s1 far ue, Starts s true via p j s1 → p.base = 0x0321 → profileOne p = true → (∀ m, via = .ring m → s1.stackOn (m - 32) = true) →
      1 ≤ p.u16 40 → p.u16 40 ≤ 4096 → 1 ≤ p.u8 42 → p.u8 42 ≤ 15 → s1.tenantOpen = true →
      let unit := match via with | .ring m => m - 12 | .mcc => State.mccUnit
      let words := fun (b : List Byte) => (List.range (p.u8 42)).map (fun i => ofLE ((b.drop (4 * i)).take 4))
      s1.runCheck unit (p.u64 16) (8 * p.u16 40) opLoad = none → s1.runCheck unit (p.u64 32) (4 * p.u8 42) opLoad = none →
      s1.runCheck unit (p.u64 24) (8 * p.u16 40 + 68) opStore = none →
      (∀ x y l b, s1.getGlobal unit (p.u64 16) (8 * p.u16 40) far ue = (x, .ok l) →
        x.getGlobal unit (p.u64 32) (4 * p.u8 42) far ue = (y, .ok b) → State.rising (words b) = true) →
      ∀ x y z l b, (s1.beginJob true via j).getGlobal unit (p.u64 16) (8 * p.u16 40) far ue = (x, .ok l) →
        x.getGlobal unit (p.u64 32) (4 * p.u8 42) far ue = (y, .ok b) →
        y.putGlobal unit (p.u64 24) (State.bucketOut (words b) ((List.range (p.u16 40)).map (fun i =>
          (ofLE ((l.drop (8 * i)).take 2), ofLE ((l.drop (8 * i + 4)).take 4))))) = (z, none) →
        exec (.creelBucket via p far ue) s = .next (z.finish via .done)))

/-! ## 07: attention -/

/-- R263 to R271: on clean memory ATTN begins its first phase: its gathers are issued, or, with nothing to gather, the phase ends at
once; ATTN_NORM divides and puts its rows out; ATTN_BWD begins as its descriptor says. R266: a gather whose status line has not come in time
ends the command as an exception with STS_TIMEOUT and DETAIL 3. -/
def Obligations.AttentionCommands : Prop :=
  (∀ s via t p j s1 x, TileStarts s via t p j s1 → p.base = 0x0230 → AttnOp.ofPacket p = some x → AttnCmd.check x s1 t = none →
    CleanMemory s1 → x.bwd = false →
    ∃ w a, exec (.attn via p none) s = .next (
      if (AttnCmd.read x w t).jobs.isEmpty then (AttnCmd.read x w t).phase1End w t a else (AttnCmd.read x w t).issue w t a 1 0) ∧
      a.phase = 1 ∧ a.rows = [] ∧ (w.tile t).prog = Progress.empty ∧ w.mem = s1.mem) ∧
  (∀ s via t p j s1 x far ue, TileStarts s via t p j s1 → p.base = 0x0232 → AttnOp.ofPacket p = some x → AttnCmd.check x s1 t = none →
    exec (.attnBwd via p ue far) s = .next (AttnCmd.start x (s1.beginJob true (.ring t) j) t ue far)) ∧
  (∀ s via t p j s1 x, TileStarts s via t p j s1 → p.base = 0x0231 → NormOp.ofPacket p = some x → x.check s1 t = none →
    CleanMemory s1 →
    ∃ v fl script, exec (.attnNorm via p none) s = .next (State.beginTile v t 3
      { Progress.empty with flags := fl, script := script, done := true })) ∧
  (∀ (s : State) (t : Nat) (w : TileWait), (s.tile t).wait = some w → (s.tile t).attn.phase = 1 ∨ (s.tile t).attn.phase = 3 →
    s.rd (Reg.TILE_SYNC (s.siteOf t) w.ctr) < w.thr →
    Goes (exec (.attnGatherTimeout t) s) (fun u => (u.tile t).exc = some ⟨Sts.timeout, 3, 0⟩ ∧ (u.tile t).attn = Attn.none ∧
      (u.tile t).wait = none ∧ u.mem = s.mem)) ∧
  (∀ (s : State) (t : Nat), (s.tile t).wait = none → exec (.attnGatherTimeout t) s = .next s)

/-! ## 08: remote operations -/

/-- R287, R289: a LOAD that its home serves on clean memory answers the bytes stored there and changes no byte; a STORE leaves its bytes
there and no other byte changed.
R280, R287: an atomic that its home serves on clean memory leaves its target as the operation makes it, changes no other byte, and
answers the old bytes where it returns them.
R280, Table 8-1: what each atomic makes of its target's old bytes and its operand: sums modulo the width, the larger of two unsigned or
signed numbers, the swap where the comparand matches, the sum of FP32 numbers rounded to nearest, and LACC-add. -/
def Obligations.RemoteOperationsActAtHome : Prop :=
  ((∀ (s : State) (q : Req), Serves s q → q.op = opLoad →
      GoesOn (exec (.load q .clean) s) (·.launchResp (Resp.make q Sts.ok (s.memRead (memKey q.addr) q.size)))
        (fun w => w.mem = s.mem ∧ Keeps [.regs, .log, .out, .hif, .dbg] s w)) ∧
    (∀ (s : State) (q : Req), Serves s q → q.op = opStore →
      GoesOn (exec (.store q .clean) s) (·.launchResp (Resp.make q Sts.ok []))
        (fun w => w.memRead (memKey q.addr) q.size = q.data ∧ BytesKeep (memKey q.addr) q.size s w ∧
          Keeps [.regs, .log, .out, .hif, .dbg, .mem, .ecc] s w))) ∧
  (∀ (base : Nat) (mk : Req → Seen → Instr),
      (base, mk) ∈ [(0x08, Instr.add32), (0x09, .add64), (0x0A, .fadd32), (0x0C, .maxu32), (0x0D, .maxu64), (0x0E, .maxs32),
        (0x0F, .maxs64), (0x10, .cas32), (0x11, .cas64), (0x14, .laccAdd)] →
      ∀ (s : State) (q : Req), Serves s q → isAtomic q.op = true → opBase q.op = base →
        let k := memKey q.addr
        let old := s.memRead k (atomWidth q.op)
        GoesOn (exec (mk q .clean) s) (·.launchResp (Resp.make q Sts.ok (if isReturning q.op then old else [])))
          (fun w => w.memRead k (atomWidth q.op) = atomNew q.op old q.data ∧ BytesKeep k (atomWidth q.op) s w ∧
            Keeps [.regs, .log, .out, .hif, .dbg, .mem, .ecc] s w)) ∧
  ((∀ old d : List Byte, ofLE (atomNew 0x08 old d) = (ofLE old + ofLE d) % 2 ^ 32) ∧
    (∀ old d : List Byte, ofLE (atomNew 0x09 old d) = (ofLE old + ofLE d) % 2 ^ 64) ∧
    (∀ old d : List Byte, ofLE (atomNew 0x0A old d) = (convertVal .rne 1 ((readElem 1 (ofLE old)).add (readElem 1 (ofLE d)))).1 % 2 ^ 32) ∧
    (∀ old d : List Byte, old.length = 4 → d.length = 4 → ofLE (atomNew 0x0C old d) = max (ofLE old) (ofLE d)) ∧
    (∀ old d : List Byte, old.length = 8 → d.length = 8 → ofLE (atomNew 0x0D old d) = max (ofLE old) (ofLE d)) ∧
    (∀ old d : List Byte, old.length = 4 → d.length = 4 →
      sext 32 (ofLE (atomNew 0x0E old d)) = max (sext 32 (ofLE old)) (sext 32 (ofLE d))) ∧
    (∀ old d : List Byte, old.length = 8 → d.length = 8 →
      sext 64 (ofLE (atomNew 0x0F old d)) = max (sext 64 (ofLE old)) (sext 64 (ofLE d))) ∧
    (∀ old d : List Byte, old.length = 4 → d.length = 8 →
      atomNew 0x30 old d = if old = d.take 4 then d.drop 4 else old) ∧
    (∀ old d : List Byte, old.length = 8 → d.length = 16 →
      atomNew 0x31 old d = if old = d.take 8 then d.drop 8 else old) ∧
    (∀ old d : List Byte, atomNew 0x14 old d = (laccAdd (Acc.ofBytes old) (Acc.ofBytes d)).toBytes))

/-- R278, R305, R309: a request with an undefined code that reaches its home is answered STS_BAD_PARAM and changes no memory; a LOAD from
another module that no inbound window grants is answered STS_ACCESS_FAULT, counted with its address, and changes no memory.
R306, R307: ATY_INWIN_SET in range, with MOD_NUM configured and a tenant open, sets the window's two registers and replies STS_OK; a
later ATY_INWIN_QUERY without destination replies them. Before MOD_NUM is set it is refused with DETAIL 0x0404, without a tenant with
0x0401. -/
def Obligations.RefusalsAndInboundWindows : Prop :=
  ((∀ (s : State) (q : Req) (seen : Seen), Reaches s q → opDefined q.op = false → s.heldAtHome q = false →
      GoesOn (exec (.undefinedOpRequest q seen) s) (·.launchResp (Resp.make q Sts.badParam []))
        (fun w => w.mem = s.mem ∧ Keeps [.regs, .log, .out, .hif, .dbg] s w)) ∧
    (∀ (s : State) (q : Req) (seen : Seen), opDefined q.op = true → exec (.undefinedOpRequest q seen) s = .next s) ∧
    (∀ (s : State) (q : Req) (seen : Seen), q.op = opLoad → q.srcMod ≠ s.srcMod → s.ownMod ≠ 0xFFF → s.isOwn (modOf q.addr) = true →
      s.inReset = false → s.ingressOk q = false →
      GoesOn (exec (.load q seen) s) (·.launchResp (Resp.make q Sts.accessFault []))
        (fun w => Keeps [.regs] s w ∧ w.rd Reg.ATY_IN_REFUSED_ADDR = q.addr ∧
          w.rd Reg.ATY_IN_REFUSED_CNT = satAdd (2 ^ 32 - 1) (s.rd Reg.ATY_IN_REFUSED_CNT) 1 ∧
          RegsKeep [Reg.ATY_IN_REFUSED_CNT.addr, Reg.ATY_IN_REFUSED_ADDR.addr, Reg.ATY_IN_REFUSED_SRC.addr] s w))) ∧
  ((∀ s via p j s1 perm base size, Starts s true via p j s1 → p.base = 0x0410 → inwinOf p = some (perm, base, size) →
      inwinBad p (perm, base, size) = false →
      (s1.ownMod = 0xFFF → exec (.atyInwinSet via p) s = .next (s1.finish via (.refuse 0x0404))) ∧
      (s1.ownMod ≠ 0xFFF → s1.tenantOpen = false → exec (.atyInwinSet via p) s = .next (s1.finish via (.refuse 0x0401))) ∧
      (s1.ownMod ≠ 0xFFF → s1.tenantOpen = true →
        Ends (exec (.atyInwinSet via p) s) via .done (fun u => Keeps [.regs] (s1.beginJob true via j) u ∧
          RegsKeep [(Reg.ATY_INWIN_BASE (p.u8 16)).addr, (Reg.ATY_INWIN_CTRL (p.u8 16)).addr] (s1.beginJob true via j) u ∧
          u.rd (Reg.ATY_INWIN_BASE (p.u8 16)) = base ∧
          u.fd (Fld.ATY_INWIN_CTRL_MOD_LO (p.u8 16)) = p.u16 18 % 4096 ∧ u.fd (Fld.ATY_INWIN_CTRL_MOD_HI (p.u8 16)) = p.u16 20 % 4096 ∧
          u.fd (Fld.ATY_INWIN_CTRL_SIZE_64K (p.u8 16)) = size ∧ u.fd (Fld.ATY_INWIN_CTRL_PERM (p.u8 16)) = perm))) ∧
    (∀ s via p j s1, Starts s true via p j s1 → p.base = 0x0411 → p.u8 16 ≤ 15 → s1.ownMod ≠ 0xFFF → p.u64 24 = 0 →
      Ends (exec (.atyInwinQuery via p) s) via
        (.ok (bits (s1.rd (Reg.ATY_INWIN_BASE (p.u8 16))) 16 32) (s1.rd (Reg.ATY_INWIN_CTRL (p.u8 16))))
        (fun u => u = s1.beginJob true via j)))

/-! ## 09: Atyja links -/

/-- R315, R316, R319, Table 9-2, Table 9-3: a flit of a defined FTYPE with 19 slots is read back from its 640 bytes as it was sent,
with its NAK, ACKSEQ and credits; a codeword of another length, or one whose CRC does not hold, is no flit; CLAIM and PRESENCE read back
from the bytes that carry them. -/
def Obligations.FlitsReadBack : Prop :=
  (∀ (f : Flit) (nak : Bool) (ack : Nat) (credits : List Nat), f.ftype ≤ 2 → f.fseq < 2 ^ 12 → f.map < 2 ^ 80 → f.slots.length = 608 →
    ack < 2 ^ 12 → credits.length = 4 → (∀ c ∈ credits, c < 2 ^ 16) →
    flitOf (f.bytes nak ack credits) = some (f, nak, ack, credits)) ∧
  (∀ bs : List Byte, bs.length ≠ 640 → flitOf bs = none) ∧
  (∀ bs : List Byte, ofLE ((bs.drop 28).take 4) ≠ crc32 (bs.take 28 ++ (bs.drop 32).take 608) → flitOf bs = none) ∧
  (∀ c : ClaimMsg, c.priority < 16 → c.modNum < 4096 → c.floor < 256 → c.serial < 2 ^ 64 → c.seq < 2 ^ 32 → claimOf c.bytes = c) ∧
  (∀ p : PresMsg, p.serial < 2 ^ 64 → p.modNum < 4096 → p.proto < 256 → p.num < 256 → p.pseq < 2 ^ 32 → presOf p.bytes p.time = p)

/-- R319, R320, R321, R326: on an UP link below its error thresholds, a codeword that FEC cannot correct, or a flit with another FSEQ than
the one due, is answered by an IDLE flit with NAK and leaves the last accepted FSEQ alone; an accepted IDLE flit frees the held flits up to
its ACKSEQ and adds its credits; an accepted DATA flit with nothing in its slots is acknowledged; one that completes a request for this
module has it performed there.
R320: a replay timeout of a link that carries traffic resends every held flit, holds them still, and counts one replay; with nothing
held nothing happens. -/
def Obligations.FlitsArriveAndReplay : Prop :=
  ((∀ (s : State) (l p c : Nat) (bs : List Byte) (seen : Seen), l < 16 → s.portOf l = p → p < 18 → s.portState p = State.pUp →
      s.portLink p = l → (s.link l).corr + c < s.fd (Fld.ATY_PORT_ERR_CFG_CORR_THRESH p) →
      (s.link l).bad + 1 < s.fd (Fld.ATY_PORT_ERR_CFG_UNCORR_THRESH p) →
      let x := s.link l
      Goes (exec (.flitReceive l false c bs seen) s) (fun u =>
        u.out.head? = some (.flit l (Flit.bytes ⟨ftIdle, x.tx, 0, []⟩ true x.rx x.owed)) ∧
        u.link l = { x with corr := x.corr + c, bad := x.bad + 1, owed := [0, 0, 0, 0] } ∧ (∀ m, m ≠ l → u.link m = s.link m) ∧
        u.rd (Reg.ATY_FEC_UNCORR_CNT p) = satAdd (2 ^ (Reg.ATY_FEC_UNCORR_CNT p).width - 1) (s.rd (Reg.ATY_FEC_UNCORR_CNT p)) 1 ∧
        u.mem = s.mem ∧ u.host = s.host)) ∧
    (∀ (s : State) (l p c : Nat) (bs : List Byte) (seen : Seen) (f : Flit) (nak : Bool) (ack : Nat) (cr : List Nat), l < 16 →
      s.portOf l = p → p < 18 → s.portState p = State.pUp → s.portLink p = l →
      (s.link l).corr + c < s.fd (Fld.ATY_PORT_ERR_CFG_CORR_THRESH p) → (s.link l).bad < s.fd (Fld.ATY_PORT_ERR_CFG_UNCORR_THRESH p) →
      flitOf bs = some (f, nak, ack, cr) →
      let x := s.link l
      (f.fseq ≠ (if f.ftype = ftIdle then x.rx else (x.rx + 1) % 2 ^ 12) →
        Goes (exec (.flitReceive l true c bs seen) s) (fun u =>
          u.out.head? = some (.flit l (Flit.bytes ⟨ftIdle, x.tx, 0, []⟩ true x.rx x.owed)) ∧
          u.link l = { x with corr := x.corr + c, owed := [0, 0, 0, 0] } ∧ u.mem = s.mem ∧ u.host = s.host)) ∧
      (f.ftype = ftIdle → f.fseq = x.rx → nak = false → x.queue = [] →
        Goes (exec (.flitReceive l true c bs seen) s) (fun u =>
          u.link l = { x with corr := x.corr + c
                              held := match x.held.findIdx? (fun g => g.fseq == ack) with
                                | some i => x.held.drop (i + 1)
                                | none => x.held
                              credit := (x.credit.zip cr).map (fun (a, b) => a + b) } ∧ u.mem = s.mem ∧ u.host = s.host)) ∧
      (f.ftype = ftData → f.fseq = (x.rx + 1) % 2 ^ 12 → f.map = 0 → nak = false → x.queue = [] →
        Goes (exec (.flitReceive l true c bs seen) s) (fun u =>
          u.out.head? = some (.flit l (Flit.bytes ⟨ftIdle, x.tx, 0, []⟩ false f.fseq x.owed)) ∧ (u.link l).rx = f.fseq ∧
          (u.link l).part = x.part ∧ u.mem = s.mem ∧ u.host = s.host)) ∧
      (f.ftype = ftData → f.fseq = (x.rx + 1) % 2 ^ 12 → nak = false → s.ownMod ≠ 0xFFF →
        ∀ m : List Byte, f.run x.part = (none, [(0, m)]) →
        let q : Req := ⟨BitVec.ofNat 128 (ofLE (m.take 16)), (m.drop 16).take (tailBytes 0 (ofLE (m.take 16)))⟩
        s.isOwn (modOf q.addr) = true →
        GoesOn (exec (.flitReceive l true c bs seen) s)
          (fun w => (((w.performReq q seen).egress l).sendIdle l false).windowCheck p)
          (fun w => w.mem = s.mem ∧ w.host = s.host ∧ (w.link l).rx = f.fseq ∧ (w.link l).part = none)))) ∧
  ((∀ (s : State) (l : Nat), l < 16 → s.portOf l < 18 → (s.link l).held ≠ [] → State.carries (s.linkState l) 4 = true →
      Goes (exec (.replayTimeout l) s) (fun u => (u.link l).held = (s.link l).held ∧ (u.link l).queue = (s.link l).queue ∧
        (∀ f ∈ (s.link l).held, ∃ o, Out.flit l (f.bytes false (s.link l).rx o) ∈ u.out) ∧
        u.rd (Reg.ATY_REPLAY_CNT (s.portOf l)) =
          satAdd (2 ^ 32 - 1) (s.rd (Reg.ATY_REPLAY_CNT (s.portOf l))) 1 ∧ u.mem = s.mem ∧ u.host = s.host)) ∧
    (∀ (s : State) (l : Nat), (s.link l).held = [] → exec (.replayTimeout l) s = .next s))

/-- R323, R324: IDENT records what the far end said and its checks are made: a port whose expectation the far end breaks becomes MISWIRED, one whose far end has
this module's number becomes ISOLATED, any other in IDENT comes UP. R336: BERT_REQ puts the port into BERT, with the stop bit out of it
into DOWN.
R337, R338, R339, R340: a better claim over an UP link becomes the best known, an incumbent's makes its module the master
and this one a follower, and it is passed on; a claim no better and no newer changes nothing. A newer PRESENCE is kept and passed on, an old
one changes nothing. A DUPLICATE that names this module isolates it and its ports; one already passed on changes nothing.
R338, R339, R340, R337, R346, R324: a claiming module whose quiet time ends becomes master and sends a beacon, as does a master at each
beacon period; one that has lost its master forgets it; PRESENCE goes out with the next number; a poll that finds the partner's
step ends ATY_ADMIT, and its time limit ends it with STS_TIMEOUT; ATY_EXPECT written on an UP port that breaks it makes it MISWIRED. -/
def Obligations.NeighboursAreCheckedAndCounted : Prop :=
  ((∀ (s : State) (l p : Nat) (m : List Byte), l < 16 → (m.headD 0).toNat = 1 → s.portOf l = p → p < 18 →
      s.portState p = State.pIdent ∨ s.portState p = State.pUp → s.ownBert = none →
      GoesOn (exec (.ident l m) s) (·.identCheck p) (fun w => w.rd (Reg.ATY_FAR_SERIAL p) = bits (ofLE m) 64 64 ∧
        w.fd (Fld.ATY_FAR_IDENT_MOD p) = bits (ofLE m) 16 16 % 4096 ∧ w.fd (Fld.ATY_FAR_IDENT_LINK p) = bits (ofLE m) 32 4 ∧
        w.fd (Fld.ATY_PORT_STATUS_FAR_SPINE p) = b2n (bit (ofLE m) 56) ∧ (w.link l).ident = true ∧ w.portState p = s.portState p ∧
        Keeps [.regs, .fab] s w ∧ RegsKeep [(Reg.ATY_FAR_SERIAL p).addr, (Reg.ATY_FAR_IDENT p).addr, (Reg.ATY_PORT_STATUS p).addr] s w)) ∧
    (∀ (s : State) (p : Nat), p < 18 → s.portState p = State.pIdent → (s.link (s.portLink p)).ident = true →
      (s.link (s.portLink p)).spare = none → s.fb Fld.ATY_FAB_STATUS_ISOLATED = false →
      (s.expectBroken p = true → (s.identCheck p).portState p = State.pMiswired) ∧
      (s.expectBroken p = false → s.ownMod ≠ 0xFFF → s.fd (Fld.ATY_FAR_IDENT_MOD p) = s.ownMod →
        (s.identCheck p).portState p = State.pIsolated) ∧
      (s.expectBroken p = false → s.ownMod = 0xFFF ∨ s.fd (Fld.ATY_FAR_IDENT_MOD p) ≠ s.ownMod →
        (s.identCheck p).portState p = State.pUp)) ∧
    (∀ (s : State) (l p : Nat) (m : List Byte), l < 16 → (m.headD 0).toNat = 5 → s.portOf l = p → p < 18 →
      (bit (ofLE m) 64 = true → s.portState p = State.pBert →
        Goes (exec (.bertReq l m) s) (fun u => u.portState p = State.pDown ∧ u.fab.bert = s.fab.bert.filter (fun b => b.link != l) ∧
          u.mem = s.mem)) ∧
      (bit (ofLE m) 64 = false → s.portState p ∈ [State.pIdent, State.pUp, State.pMiswired, State.pIsolated] →
        Goes (exec (.bertReq l m) s) (fun u => u.portState p = State.pBert ∧
          u.fab.bert = s.fab.bert.filter (fun b => b.link != l) ++ [⟨l, false, bits (ofLE m) 8 8, true⟩] ∧ u.mem = s.mem)))) ∧
  ((∀ (s : State) (l : Nat) (m : List Byte), l < 16 → (m.headD 0).toNat = 2 → s.linkState l = State.pUp →
      let c := claimOf m
      let newer : Bool := match s.fab.best with
        | none => true
        | some b => c.better b || (!b.better c && decide (b.seq < c.seq))
      c.serial ≠ s.ownSerial →
      (newer = true → c.incumbent = true → s.fab.waiting = [] →
        GoesOn (exec (.claim l m) s) (·.flood (some l) c.bytes) (fun w => w.fab = { s.fab with best := some c } ∧
          w.fd Fld.ATY_FAB_STATUS_MASTER_MOD = c.modNum ∧ w.fd Fld.ATY_FAB_STATUS_FLOOR = c.floor ∧
          w.rd Reg.ATY_MASTER_SERIAL = c.serial ∧ w.elect = State.eFollower ∧ Keeps [.regs, .fab] s w ∧
          RegsKeep [Reg.ATY_FAB_STATUS.addr, Reg.ATY_MASTER_SERIAL.addr] s w)) ∧
      (newer = true → c.incumbent = false →
        GoesOn (exec (.claim l m) s) (·.flood (some l) c.bytes) (fun w => w.fab = { s.fab with best := some c } ∧
          w.elect = (if s.elect = State.eClaiming then State.eNone else s.elect) ∧ Keeps [.regs, .fab] s w ∧
          RegsKeep [Reg.ATY_FAB_STATUS.addr] s w)) ∧
      (newer = false → exec (.claim l m) s = .next s)) ∧
    (∀ (s : State) (l : Nat) (m : List Byte), l < 16 → (m.headD 0).toNat = 3 → s.linkState l = State.pUp →
      let p := presOf m s.now
      let newer : Bool := match s.fab.pres.find? (fun q => q.serial == p.serial) with
        | some q => decide (q.pseq < p.pseq)
        | none => p.serial != s.ownSerial
      (newer = true → s.elect ≠ State.eMaster →
        GoesOn (exec (.presence l m) s) (·.flood (some l) p.bytes) (fun w =>
          w.fab = { s.fab with pres := p :: s.fab.pres.filter (fun q => q.serial != p.serial) } ∧ Keeps [.fab] s w)) ∧
      (newer = false → exec (.presence l m) s = .next s)) ∧
    (∀ (s : State) (l : Nat) (m : List Byte), l < 16 → (m.headD 0).toNat = 4 → s.linkState l = State.pUp →
      let modNum := bits (ofLE m) 16 16 % 4096
      let ser := bits (ofLE m) 64 64
      (modNum = s.ownMod → ser = s.ownSerial →
        Goes (exec (.duplicate l m) s) (fun u => u.fb Fld.ATY_FAB_STATUS_ISOLATED = true ∧ u.mem = s.mem ∧
          (∀ p, p < 18 → u.portState p =
            if s.portState p ∈ [State.pIdent, State.pUp, State.pMiswired] then State.pIsolated else s.portState p))) ∧
      (modNum ≠ s.ownMod → s.fab.dups.contains (modNum, ser) = true → exec (.duplicate l m) s = .next s) ∧
      (modNum ≠ s.ownMod → s.fab.dups.contains (modNum, ser) = false →
        GoesOn (exec (.duplicate l m) s) (·.flood (some l) (dupBytes modNum ser))
          (fun w => w.fab = { s.fab with dups := (modNum, ser) :: s.fab.dups } ∧ Keeps [.fab] s w)))) ∧
  ((∀ (mk : Instr) (st : Nat), (mk, st) ∈ [(Instr.electQuietExpiry, State.eClaiming), (.beaconPeriod, State.eMaster)] →
      ∀ (s : State), s.elect = st → s.fab.waiting = [] →
        let b := (s.fab.beacon + 1) % 2 ^ 32
        let c : ClaimMsg := { s.ownClaim true with seq := b }
        GoesOn (exec mk s) (·.flood none c.bytes) (fun w => w.fab = { s.fab with best := some c, beacon := b } ∧
          w.elect = State.eMaster ∧ w.fd Fld.ATY_FAB_STATUS_MASTER_MOD = s.ownMod ∧
          w.fd Fld.ATY_FAB_STATUS_FLOOR = s.masterFloor % 256 ∧ w.rd Reg.ATY_MASTER_SERIAL = s.ownSerial % 2 ^ 64 ∧
          Keeps [.regs, .fab] s w ∧ RegsKeep [Reg.ATY_FAB_STATUS.addr, Reg.ATY_MASTER_SERIAL.addr] s w)) ∧
    (∀ (mk : Instr) (st : Nat), (mk, st) ∈ [(Instr.electQuietExpiry, State.eClaiming), (.beaconPeriod, State.eMaster)] →
      ∀ (s : State), s.elect ≠ st → exec mk s = .next s) ∧
    (∀ (s : State), s.elect ≠ State.eMaster →
      GoesOn (exec .masterLoss s) State.claimAnew (fun w => w.fd Fld.ATY_FAB_STATUS_MASTER_MOD = 0xFFF ∧
        w.fd Fld.ATY_FAB_STATUS_FLOOR = 0 ∧ w.rd Reg.ATY_MASTER_SERIAL = 0 ∧ w.elect = State.eNone ∧
        w.fab = { s.fab with best := none } ∧ Keeps [.regs, .fab] s w)) ∧
    (∀ (s : State), s.ownMod ≠ 0xFFF →
      let n := (s.fab.pseq + 1) % 2 ^ 32
      GoesOn (exec .presencePeriod s) (·.flood none (PresMsg.bytes ⟨s.ownSerial, s.ownMod, s.fd Fld.ATY_FAB_STATUS_PROTO_LEVEL,
        s.fd Fld.ATY_FAB_STATUS_NUMERICS_LEVEL, n, s.now⟩)) (fun w => w.fab = { s.fab with pseq := n } ∧ Keeps [.fab] s w)) ∧
    (∀ (s : State) (j : Job), s.admitJob = some j →
      (s.issueCheck (Req.make (j.pkt.u16 16 * 2 ^ 52 + 5 * 2 ^ 48 + 0x020) s.srcMod 0x2F 8 opLoad none [])).isSome = false →
      Ends (exec (.admitPoll (some (j.pkt.u64 24))) s) .mcc .done (fun u => u.fd Fld.ATY_FAB_STATUS_ADMIT = 2 ∧ u.mem = s.mem)) ∧
    (∀ (s : State) (j : Job), s.admitJob = some j → Ends (exec .admitTimeout s) .mcc (.err Sts.timeout) (· = s)) ∧
    (∀ (s : State) (p v : Nat), p < 18 → s.portState p = State.pUp →
      let t := s.wr (Reg.ATY_EXPECT p) (v &&& 0x800FFF0F)
      Goes (exec (.atyExpectWrite p v) s) (fun u => u.rd (Reg.ATY_EXPECT p) = v &&& 0x800FFF0F ∧ u.mem = s.mem ∧
        (t.expectBroken p = true → u.portState p = State.pMiswired ∧ u.fb (Fld.ATY_PORT_STATUS_EXPECT_MISMATCH p) = true) ∧
        (t.expectBroken p = false → u = t))))

/-- R323, R326, R327, R328, R336, R348: what a port's state becomes when its training ends, times out or is tried again, when a
retraining ends or times out (the third failure leads to the loopback test), when that test ends, when the error window ends, when a
disabled port's queues have drained, and when a bit-error test that this module started ends. -/
def Obligations.PortsChangeState : Prop :=
  (∀ (s : State) (p : Nat), p < 18 → s.portState p = State.pTrain → (s.link (s.portLink p)).loop = false →
    GoesOn (exec (.trainingComplete p) s) (·.sendCtl (s.portLink p) (s.identBytes (s.portLink p)))
      (fun w => w.portState p = State.pIdent ∧ Keeps [.regs] s w ∧ RegsKeep [(Reg.ATY_PORT_STATUS p).addr] s w)) ∧
  (∀ (s : State) (p : Nat), p < 18 → s.portState p = State.pTrain ∨ s.portState p = State.pIdent →
    (s.link (s.portLink p)).loop = false → s.ownBert = none → (s.link (s.portLink p)).spare = none →
    Goes (exec (.trainTimeout p) s) (fun u => u.mem = s.mem ∧
      ((s.link (s.portLink p)).full = false → u.portState p = State.pDown) ∧
      ((s.link (s.portLink p)).full = true → u.portState p = State.pTrain ∧ (u.link (s.portLink p)).loop = true))) ∧
  (∀ (s : State) (p : Nat), p < 18 → s.portLink p < 16 → s.portState p = State.pDown → (s.link (s.portLink p)).off = false →
    s.inReset = false →
    Goes (exec (.trainRetry p) s) (fun u => u.portState p = State.pTrain ∧ (u.link (s.portLink p)).ident = false ∧
      Keeps [.regs, .fab] s u ∧ RegsKeep [(Reg.ATY_PORT_STATUS p).addr] s u)) ∧
  (∀ (s : State) (p : Nat), p < 18 → s.portLink p < 16 →
    Goes (exec (.errorWindowEnd p) s) (fun u => u.link (s.portLink p) = { s.link (s.portLink p) with corr := 0, bad := 0 } ∧
      (∀ m, m ≠ s.portLink p → u.link m = s.link m) ∧ Keeps [.fab] s u)) ∧
  (∀ (s : State) (p : Nat), p < 18 → s.portState p = State.pRetrain →
    Goes (exec (.retrainComplete p) s) (fun u => u.portState p = State.pUp ∧ u.mem = s.mem ∧ u.host = s.host)) ∧
  (∀ (s : State) (p : Nat), p < 18 → s.portState p = State.pRetrain →
    let fails := s.now :: (s.link (s.portLink p)).fails.filter (fun t => decide (s.now ≤ t + 10000000000))
    Goes (exec (.retrainTimeout p) s) (fun u => u.portState p = State.pTrain ∧
      u.fd (Fld.ATY_PORT_STATUS_RETRAIN_FAILS p) = min 15 fails.length ∧ (u.link (s.portLink p)).fails = fails ∧
      (fails.length < 3 → (u.link (s.portLink p)).full = true) ∧ (3 ≤ fails.length → (u.link (s.portLink p)).loop = true) ∧
      Keeps [.regs, .fab] s u ∧ RegsKeep [(Reg.ATY_PORT_STATUS p).addr] s u)) ∧
  (∀ (s : State) (p : Nat), p < 18 → s.portState p = State.pTrain → (s.link (s.portLink p)).loop = true →
    Goes (exec (.loopbackDone p true) s) (fun u => u.portState p = State.pFailed ∧ u.mem = s.mem) ∧
    GoesOn (exec (.loopbackDone p false) s) (·.retire 2 p)
      (fun w => (w.link (s.portLink p)).loop = false ∧ Keeps [.fab] s w)) ∧
  (∀ (s : State) (l : Nat), (s.link l).draining = true → (s.link l).queue = [] →
    Ends (exec (.portQueuesDrained l) s) .mcc .done (fun u => Keeps [.fab] s u ∧ (u.link l).draining = false ∧
      (∀ m, m ≠ l → u.link m = s.link m))) ∧
  (∀ (s : State) (l p n : Nat) (errs : List Nat) (b : BertRun), l < 16 → s.portOf l = p → p < 18 → s.portState p = State.pBert →
    s.ownBert = some b → b.link = l → b.going = true → s.ras.queue = [] → n < 2 ^ 64 →
    Ends (exec (.bertDurationEnd l n errs) s) .mcc
      (.ok (min (2 ^ 32 - 1) ((List.range 4).map (fun i => errs.getD i 0 % 2 ^ 64)).sum) n)
      (fun u => u.portState p = State.pDown ∧ u.rd (Reg.ATY_BERT_BITS p) = n ∧ u.mem = s.mem ∧ u.host = s.host))

/-! ## 09: the cascade -/

/-- R330, R334, R335, R336, R337, R342, R345, R346: the fabric commands that start with their parameters in range. ATY_FABRIC_CFG on a module
without a number, here with no link in service and no election, sets ATY_FAB_CFG and ADMIT; ATY_ROUTE_SET fills the routes, from host
memory or by its rule; ATY_PORT_CTL retrains, disables (and waits for the queues to drain) or enables a port whose state permits it;
ATY_BERT takes the token and trains; ATY_JOB_BIND answers what its checks find; ATY_ADMIT waits. Before MOD_NUM is set the others are
refused with DETAIL 0x0404. -/
def Obligations.FabricCommandsRun : Prop :=
  (∀ s via p j s1, Starts s true via p j s1 → p.base = 0x0400 → profileOne p = true → (fabCfgOf p).1 ≤ 4094 →
    (fabCfgOf p).2.2.1 < 16 ∨ (fabCfgOf p).2.2.1 = 0x1F → s1.ownMod = 0xFFF → (∀ l, l < 16 → s1.portOf l < 18) →
    (∀ k, k < 18 → s1.portState k ∉ [State.pUp, State.pMiswired, State.pIsolated]) → s1.elect = State.eNone →
    s1.fb Fld.ATY_FAB_STATUS_ELIGIBLE = false →
    let c := fabCfgOf p
    Ends (exec (.atyFabricCfg via p) s) via .done (fun u =>
      u.rd Reg.ATY_FAB_CFG = b2n c.2.2.2.2 * 2 ^ 48 + c.2.2.2.1 * 2 ^ 32 + c.2.2.1 * 2 ^ 16 + c.2.1 * 2 ^ 12 + c.1 ∧
      u.fd Fld.ATY_FAB_STATUS_ADMIT = (if c.2.2.2.2 then 1 else 2) ∧ u.mem = s1.mem ∧ u.fab = s1.fab)) ∧
  (∀ s via p j s1, Starts s true via p j s1 → p.base = 0x0401 → p.expert = true → p.u16 18 ≠ 0 → p.u16 16 + p.u16 18 ≤ 4095 →
    s1.ownMod ≠ 0xFFF →
    ∀ w bs, (s1.beginJob true via j).hostLoad (p.u64 24) (4 * p.u16 18) = (w, some bs) → w.fab.waiting = [] →
    Ends (exec (.atyRouteSet via p) s) via .done (fun u => Keeps [.regs] w u ∧
      RegsKeep ((List.range (p.u16 18)).map (fun i => (Reg.ATY_ROUTE (p.u16 16 + i)).addr)) w u ∧
      ∀ i, i < p.u16 18 → u.rd (Reg.ATY_ROUTE (p.u16 16 + i)) = ofLE ((bs.drop (4 * i)).take 4))) ∧
  (∀ s via p j s1, Starts s true via p j s1 → p.base = 0x0401 → p.expert = false → p.u16 18 ≠ 0 → p.u16 16 + p.u16 18 ≤ 4095 →
    s1.ownMod ≠ 0xFFF → p.u8 63 = 1 ∨ (p.u8 63 = 2 ∧ p.u8 20 ≠ 0 ∧ p.u8 20 ≤ 64) → p.u16 16 ≤ s1.ownMod →
    s1.ownMod < p.u16 16 + p.u16 18 → s1.fab.waiting = [] →
    Ends (exec (.atyRouteSet via p) s) via .done (fun u => Keeps [.regs] (s1.beginJob true via j) u ∧
      ∀ m, m < 4095 → u.rd (Reg.ATY_ROUTE m) = routeEntry (p.u8 63) (p.u16 16) (p.u16 18) (p.u8 20) s1.ownMod m)) ∧
  (∀ s via p j s1, Starts s true via p j s1 → p.base = 0x0402 → profileOne p = true → p.u8 16 < 16 → s1.ownMod ≠ 0xFFF →
    s1.portOf (p.u8 16) < 18 → p.expert = false ∨ bit (p.u8 18) 0 = false →
    let l := p.u8 16
    let k := s1.portOf l
    (p.u8 17 = 0 → s1.portState k = State.pUp →
      Ends (exec (.atyPortCtl via p) s) via .done (fun u => u.portState k = State.pRetrain ∧ u.mem = s1.mem)) ∧
    (p.u8 17 = 1 → p.expert = true → s1.portState k ∉ [State.pRetired, State.pSpare, State.pBert] →
      Goes (exec (.atyPortCtl via p) s) (fun u => u.portState k = State.pDown ∧ (u.link l).off = true ∧ (u.link l).draining = true ∧
        u.mem = s1.mem)) ∧
    (p.u8 17 = 2 → s1.portState k = State.pDown ∨ s1.portState k = State.pFailed → s1.portRetired k = false →
      Ends (exec (.atyPortCtl via p) s) via .done (fun u => u.portState k = State.pTrain ∧ (u.link l).off = false ∧ u.mem = s1.mem)) ∧
    (p.u8 17 = 0 → s1.portState k ≠ State.pUp →
      exec (.atyPortCtl via p) s = .next (s1.finish via (.err State.stsAtyLinkState)))) ∧
  (∀ s via p j s1, Starts s true via p j s1 → p.base = 0x0403 → p.expert = true → p.u8 16 < 16 → p.u8 17 ≤ 2 → 1 ≤ p.u32 20 →
    p.u32 20 ≤ 600000 → s1.ownMod ≠ 0xFFF → s1.linkState (p.u8 16) = State.pDown ∨ s1.linkState (p.u8 16) = State.pMiswired →
    s1.portOf (p.u8 16) < 18 → s1.portRetired (s1.portOf (p.u8 16)) = false → s1.maintRefused State.bertAct = none →
    Goes (exec (.atyBert via p) s) (fun u => u.ras = { s1.ras with holders := s1.ras.holders ++ [State.bertAct] } ∧
      u.fab.bert = s1.fab.bert ++ [⟨p.u8 16, true, p.u8 17, false⟩] ∧ u.linkState (p.u8 16) = State.pTrain ∧ u.mem = s1.mem)) ∧
  (∀ s via p j s1 idents, Starts s true via p j s1 → p.base = 0x0404 → profileOne p = true → p.u16 24 ≠ 0 → p.u16 24 ≤ 4095 →
    s1.ownMod ≠ 0xFFF → s1.fd Fld.ATY_FAB_STATUS_MASTER_MOD ≠ 0xFFF →
    ∀ w bs, (s1.beginJob true via j).hostLoad (p.u64 16) (2 * p.u16 24) = (w, some bs) →
    let r := bindCheck w idents ((List.range (p.u16 24)).map (fun i => ofLE ((bs.drop (2 * i)).take 2)))
    Ends (exec (.atyJobBind via p idents) s) via r.2 (· = r.1)) ∧
  (∀ (s : State) (idents : List (Nat × Nat)),
    (bit (s.statusWord 8) 31 = false → bindCheck s idents [s.ownMod] = (s, ⟨Sts.refusedState, 0x0405, 0, s.ownMod, false⟩)) ∧
    (bit (s.statusWord 8) 31 = true → bits (s.statusWord 8) 20 8 = s.fd Fld.ATY_FAB_STATUS_NUMERICS_LEVEL →
      bindCheck s idents [s.ownMod] = (s, .done))) ∧
  (∀ s via p j s1, Starts s true via p j s1 → p.base = 0x0405 → profileOne p = true → p.u16 16 ≤ 4094 → s1.ownMod ≠ 0xFFF →
    s1.fd Fld.ATY_FAB_STATUS_ADMIT = 1 →
    Goes (exec (.atyAdmit via p) s) (fun u => Keeps [.fab] (s1.beginJob true via j) u ∧ u.fab = { s1.fab with polled := false })) ∧
  (∀ s via p j s1, Starts s true via p j s1 → p.base = 0x0405 → profileOne p = true → p.u16 16 ≤ 4094 → s1.ownMod = 0xFFF →
    exec (.atyAdmit via p) s = .next (s1.finish via (.refuse 0x0404))) ∧
  (∀ s via p j s1, Starts s true via p j s1 → p.base = 0x0401 → p.expert = true → p.u16 18 ≠ 0 → p.u16 16 + p.u16 18 ≤ 4095 →
    s1.ownMod = 0xFFF → exec (.atyRouteSet via p) s = .next (s1.finish via (.refuse 0x0404)))

/-! ## 10: serving -/

/-- R358, R359, R388: a submission on its serving ring that passes its checks becomes a queued request with its parameters and leaves the ring's unit free; one that
fails them is answered with the failing check and changes nothing. R379: a cancel of a live request waits for the next boundary; from the
MCC it is answered at once. R380: an extension of a request that holds no sequence raises its MAX_NEW, beyond the plan's length it fails
with 0x0501. R386: a query stores the request's 64 bytes of metrics. -/
def Obligations.ServingRequestsRun : Prop :=
  (∀ (base : Nat) (mk : Via → Packet → Instr), (base, mk) ∈ [(0x0500, Instr.srvSubmit), (0x0510, .srvSubmit3320)] →
    ∀ s n p j s1, Starts s true (.ring n) p j s1 → p.base = base → State.isServing n = true →
      (s1.submitCheck n p = none →
        GoesOn (exec (mk (.ring n) p) s) (·.startNext n) (fun w =>
          w.srv = { s1.srv with reqs := s1.srv.reqs ++ [s1.submitReq n { j with begun := true }] } ∧ (w.engOf n).cur = none ∧
          Keeps [.srv, .eng] (s1.beginJob true (.ring n) j) w)) ∧
      (∀ a, s1.submitCheck n p = some a → exec (mk (.ring n) p) s = .next (s1.finish (.ring n) a))) ∧
  (∀ s p j s1, Starts s true .mcc p j s1 → p.base = 0x0501 → State.isServing (p.u16 20) = true →
    ((s1.srvReq (p.u16 20) (p.u32 16)).isSome = true →
      Ends (exec (.srvCancel .mcc p) s) .mcc .done (fun u => Keeps [.srv] (s1.beginJob true .mcc j) u ∧
        u.srv = { s1.srv with cancels := s1.srv.cancels ++ [(p.u16 20, p.u32 16, { j with begun := true })] })) ∧
    (s1.srvReq (p.u16 20) (p.u32 16) = none → exec (.srvCancel .mcc p) s = .next (s1.finish .mcc (.err 0x0506)))) ∧
  (∀ s n p j s1, Starts s true (.ring n) p j s1 → p.base = 0x0501 → State.isServing n = true →
    (s1.srvReq n (p.u32 16)).isSome = true →
    GoesOn (exec (.srvCancel (.ring n) p) s) (·.startNext n) (fun w =>
      w.srv = { s1.srv with cancels := s1.srv.cancels ++ [(n, p.u32 16, { j with begun := true })] } ∧ (w.engOf n).cur = none ∧
      Keeps [.srv, .eng] (s1.beginJob true (.ring n) j) w)) ∧
  (∀ s via p j s1 r g, Starts s true via p j s1 → p.base = 0x0502 → p.expert = true → State.isServing (p.u16 20) = true →
    s1.srvReq (p.u16 20) (p.u32 16) = some r → s1.srv.plan = some g → r.seq = none →
    (r.len + p.u32 24 ≤ g.maxTok →
      Ends (exec (.srvExtend via p) s) via .done (fun u => Keeps [.srv] (s1.beginJob true via j) u ∧
        u.srvReq (p.u16 20) (p.u32 16) = some { r with maxNew := r.maxNew + p.u32 24 })) ∧
    (g.maxTok < r.len + p.u32 24 → exec (.srvExtend via p) s = .next (s1.finish via (.err 0x0501)))) ∧
  (∀ s via p j s1 r, Starts s true via p j s1 → p.base = 0x0503 → State.isServing (p.u16 20) = true →
    s1.srvMetricsOf (p.u16 20) (p.u32 16) = some r → s1.runCheck State.mccUnit (p.u64 24) 64 opStore = none →
    ∀ w, (s1.beginJob true via j).putGlobal State.mccUnit (p.u64 24) (s1.metrics r) = (w, none) →
    exec (.srvQuery via p) s = .next (w.finish via .done)) ∧
  (∀ (s : State) (r : SrvReq), (s.metrics r).length = 64 ∧ ((s.metrics r)[50]?).map BitVec.toNat = some (r.st % 256)) ∧
  (∀ (s : State) (n : Nat) (seen : Seen), State.isServing n = true → s.mayFetch n = true → s.conf = false → s.engOf n = Engine.idle →
    seen ≠ .ue →
    exec (.servingPacketFetch n seen) s = .next (s.fetched n (s.ringHead n)
      [Packet.ofBits (BitVec.ofNat 512 (ofLE (s.hostRead (s.rd (Reg.HIF_RING_SQ_BASE n) + 64 * (s.ringHead n % s.ringSize n)) 64)))]))

/-- R350, R351, R384, R353, R369, R370, R374, R387, R394: the engine's commands. A start whose plan passes puts the engine into RUNNING with
that plan and no request; a stop with no live request stops it at once, with one it is STOPPING; SRV_RING_CFG sets an IDLE ring without
a live request; an account's settings wait for the next boundary; a sampler profile and a fitch image are kept, and a freed handle is
empty. Reading SRV_STEP_MAX_NS answers and clears it. -/
def Obligations.ServingEngineRuns : Prop :=
  (∀ s via p j s1 far ue, Starts s true via p j s1 → p.base = 0x0520 →
    (∀ w g, (s1.beginJob true via j).startCheck p far ue = (w, .ok g) →
      Ends (exec (.srvEngineStart via p far ue) s) via .done (fun u => u.srvState = 1 ∧ u.srv.plan = some g ∧ u.srv.reqs = [] ∧
        u.srv.tileMask = g.tileMask ∧ u.srv.seqBase = g.seqBase ∧ u.srv.seqCount = g.seqCount ∧ u.srv.fitches = w.srv.fitches ∧
        u.rd Reg.SRV_STEP_CNT = 0 ∧ Keeps [.regs, .srv] w u)) ∧
    (∀ w a, (s1.beginJob true via j).startCheck p far ue = (w, .error a) →
      exec (.srvEngineStart via p far ue) s = .next (w.finish via a))) ∧
  (∀ s via p j s1, Starts s true via p j s1 → p.base = 0x0521 → p.expert = true → p.u8 16 ≤ 1 →
    (s1.srvState = 1 → (∀ r ∈ s1.srv.reqs, r.st = 4) → (∀ e ∈ s1.crl.seqs, s1.srvOwnsSeq e.1 = false) →
      Ends (exec (.srvEngineStop via p) s) via .done (fun u => u.srvState = 0 ∧ u.srv.plan = none ∧ u.srv.tileMask = 0 ∧
        u.srv.reqs = s1.srv.reqs)) ∧
    (s1.srvState = 1 → (∃ r ∈ s1.srv.reqs, r.st ≠ 4) →
      Goes (exec (.srvEngineStop via p) s) (fun u => u.srvState = 2 ∧ u.srv = { s1.srv with stop := some (p.u8 16, 1) } ∧
        Keeps [.regs, .srv] (s1.beginJob true via j) u)) ∧
    (s1.srvState ≠ 1 → exec (.srvEngineStop via p) s = .next (s1.finish via (.refuse 0x0501)))) ∧
  (∀ s via p j s1, Starts s true via p j s1 → p.base = 0x0522 → p.expert = true → State.isServing (p.u16 16) = true → p.u8 18 = 0 →
    128 ≤ p.u32 24 → p.u32 24 ≤ 65536 → s1.srvLive (p.u16 16) = false →
    (s1.ringState (p.u16 16) = State.idle →
      Ends (exec (.srvRingCfg via p) s) via .done (fun u => u.rd (Reg.SRV_RING_CFG (p.u16 16 - 64)) = 0 ∧
        u.srvRing (p.u16 16) = (p.u32 24, p.u32 28) ∧ Keeps [.regs, .srv] (s1.beginJob true via j) u ∧
        RegsKeep [(Reg.SRV_RING_CFG (p.u16 16 - 64)).addr] (s1.beginJob true via j) u)) ∧
    (s1.ringState (p.u16 16) ≠ State.idle →
      exec (.srvRingCfg via p) s = .next (s1.finish via (.errD Sts.ringState (s1.ringState (p.u16 16)))))) ∧
  (∀ s via p j s1, Starts s true via p j s1 → p.base = 0x0523 → p.expert = true → p.u8 17 ≤ 7 → p.u16 28 ≠ 0 → p.u16 28 ≤ 4096 →
    p.u8 18 ≤ 16 →
    Ends (exec (.srvAccountSet via p) s) via .done (fun u => Keeps [.srv] (s1.beginJob true via j) u ∧ u.srv.accts = s1.srv.accts ∧
      ∃ x, Cells.find (p.u8 16) u.srv.acctNext = some x ∧ x.priority = p.u8 17 ∧ x.pfWeight = p.u8 18 ∧ x.rate = p.u32 20 ∧
        x.burst = p.u32 24 ∧ x.maxSeq = p.u16 28 ∧ x.maxPages = p.u64 32)) ∧
  (∀ s via p j s1, Starts s true via p j s1 → p.base = 0x0524 → p.expert = true → 4 ≤ p.u8 16 → p.u8 16 ≤ 15 →
    (readElem 1 (p.u32 20)).isNan = false → (readElem 1 (p.u32 20)).lt .zero = false → readElem 1 (p.u32 20) ≠ .inf false →
    p.u32 24 ≤ 262144 →
    Ends (exec (.srvSamplerSet via p) s) via .done (fun u => Keeps [.srv] (s1.beginJob true via j) u ∧
      u.srv.samplers.find? (fun e => e.1 == p.u8 16) = some (p.u8 16, p.u32 20, p.u32 24, p.u32 28))) ∧
  (∀ s via p j s1 far ue, Starts s true via p j s1 → p.base = 0x0525 → s1.fb Fld.CAP_UNITS_FITCH = true → p.u8 16 ≤ 63 →
    (Cells.find (p.u8 16) s1.srv.fitches = none → ∀ w img, (s1.beginJob true via j).fitchLoad p far ue = (w, .ok img) →
      Ends (exec (.srvFitchLoad via p far ue) s) via .done (fun u => Keeps [.srv] w u ∧
        u.srv = { w.srv with fitches := Cells.insert (p.u8 16) img w.srv.fitches })) ∧
    ((Cells.find (p.u8 16) s1.srv.fitches).isSome = true →
      exec (.srvFitchLoad via p far ue) s = .next (s1.finish via (.refuse 0x0504)))) ∧
  (∀ s via p j s1, Starts s true via p j s1 → p.base = 0x0526 → p.u8 16 ≤ 63 →
    (∀ r ∈ s1.srv.reqs, r.st = 4 ∨ r.fitch ≠ some (p.u8 16)) →
    Ends (exec (.srvFitchFree via p) s) via .done (fun u => Keeps [.srv] (s1.beginJob true via j) u ∧
      Cells.find (p.u8 16) u.srv.fitches = none)) ∧
  (∀ (s : State), Goes (exec .srvStepMaxNsRead s) (fun u => Keeps [.regs, .out] s u ∧ RegsKeep [Reg.SRV_STEP_MAX_NS.addr] s u ∧
    u.rd Reg.SRV_STEP_MAX_NS = 0 ∧ u.out = .barRead Reg.SRV_STEP_MAX_NS.addr (BitVec.ofNat 64 (s.rd Reg.SRV_STEP_MAX_NS)) :: s.out))

/-- R365, R366, R352: a step is never planned beyond the plan's budget and tokens; a boundary with nothing to do only takes the time; a
step that has run is over and counted, with its time. R364, R386: a queued request that reaches its timeout ends with a FINAL reply
and is live no longer; a metrics record is dropped 1,024 steps after its request ended, not before. -/
def Obligations.ServingStepsStayInBudget : Prop :=
  (∀ (s : State) (g : SrvPlan), g.t0 ≤ g.budget → State.StepSum.fits g (s.planStep g).2 = true) ∧
  (∀ (s : State) (g : SrvPlan) (far : List Host.Cell) (ue : Option Nat), s.srv.plan = some g → s.srvWorks = true → s.srv.step = none →
    s.srv.reqs = [] → s.srv.cancels = [] → s.srv.stop = none → s.srv.paused = [] → s.srv.acctNext = [] →
    GoesOn (exec (.stepBoundary far ue) s) State.closeStep (fun w => w.srv.boundary = s.now ∧ w.srv.step = none ∧ w.srv.acctNext = [] ∧
      w.srv.reqs = [] ∧ Keeps [.regs, .srv] s w)) ∧
  (∀ (s : State) (g : SrvPlan) (st : SrvStep) (logits : List (Nat × List (BitVec 32))), s.srv.plan = some g → s.srv.step = some st →
    (∀ r ∈ s.srv.reqs, r.account < 256 ∧ 64 ≤ r.ring ∧ r.ring < 128) →
    Goes (exec (.stepRunComplete logits) s) (fun u => u.srv.step = none ∧
      u.rd Reg.SRV_STEP_LAST_NS = min (2 ^ 32 - 1) (s.now - st.start) ∧
      u.rd Reg.SRV_STEP_CNT = (s.rd Reg.SRV_STEP_CNT + 1) % 2 ^ 64)) ∧
  (∀ (s : State) (logits : List (Nat × List (BitVec 32))), s.srv.step = none → exec (.stepRunComplete logits) s = .next s) ∧
  (∀ (s : State) (n id : Nat) (r : SrvReq), s.srvReq n id = some r → r.st = 0 → (s.srvRing n).2 ≠ 0 → r.seq = none →
    (r.fetchNs + (s.srvRing n).2 * 10 ^ 6 ≤ s.now →
      GoesOn (exec (.queueTimeout n id) s) (·.serveSettle.closeStep) (fun w => w.srvReq n id = none ∧ w.mem = s.mem)) ∧
    (s.now < r.fetchNs + (s.srvRing n).2 * 10 ^ 6 → exec (.queueTimeout n id) s = .next s)) ∧
  (∀ (s : State) (n id : Nat), Goes (exec (.metricsRecordExpiry n id) s) (fun u => Keeps [.srv] s u ∧
    ∀ r, r ∈ u.srv.reqs ↔ r ∈ s.srv.reqs ∧ ¬(r.ring = n ∧ r.id = id ∧ r.st = 4 ∧ r.endStep + 1024 ≤ s.rd Reg.SRV_STEP_CNT)))

/-! ## 11: the Rim lane and the plant port -/

/-- R395 to R397, R399, R403, R404, R412, R414: RIM_ENABLE with two clocked East tiles whose rings are CLOSED, a tenant open and the lane
DISABLED, enables the lane on them; RIM_DISABLE disables it and clears it. RIM_STREAM_SET stores a descriptor in range with programs that
pass, RIM_STREAM_CLEAR empties the slot, RIM_SCHED_COMMIT with a table that passes waits for its activation, RIM_KAT asks for a test.
A lane that is not DISABLED is not enabled again. -/
def Obligations.RimCommandsRun : Prop :=
  (∀ s via p j s1, Starts s true via p j s1 → p.base = 0x0600 → s1.rimAbsent = false → p.u8 16 < 32 → p.u8 17 < 32 →
    s1.tileOn (p.u8 16) = true → s1.tileOn (p.u8 17) = true → s1.tenantOpen = true →
    (s1.lane = 0 → p.u8 16 ≠ p.u8 17 → 18 ≤ s1.siteOf (p.u8 16) → 18 ≤ s1.siteOf (p.u8 17) → s1.ringState (p.u8 16) = State.closed →
      s1.ringState (p.u8 17) = State.closed →
      Ends (exec (.rimEnable via p) s) via .done (fun u => u.lane = 1 ∧ u.fd Fld.RIM_TILES_TILE_A = p.u8 16 ∧
        u.fd Fld.RIM_TILES_TILE_B = p.u8 17 ∧ u.rim = { Rim.off with holds := s1.rim.holds } ∧ u.mem = s1.mem ∧ u.host = s1.host)) ∧
    (s1.lane ≠ 0 → exec (.rimEnable via p) s = .next (s1.finish via (.refuse 0x0603)))) ∧
  (∀ s via p j s1, Starts s true via p j s1 → p.base = 0x0601 → s1.rimAbsent = false → s1.lane ≠ 0 →
    Ends (exec (.rimDisable via p) s) via .done (fun u => u.lane = 0 ∧ u.rim = Rim.off ∧ u.rd Reg.RIM_TILES = 0xFFFF ∧
      u.mem = s1.mem ∧ u.host = s1.host)) ∧
  (∀ s via p j s1 far ue, Starts s true via p j s1 → p.base = 0x0602 → s1.rimAbsent = false → p.u8 16 ≤ 63 → s1.lane ≠ 0 →
    s1.slotUsed (p.u8 16) = false →
    ∀ w w1 w2 w3 w4 d pa pb kin kout, (s1.beginJob true via j).getGlobal State.mccUnit (p.u64 24) 128 far ue = (w, .ok d) →
      descriptorBad d = false →
      w.getGlobal State.mccUnit (ownAddr (tileKey (w.rimTile 0) (fieldOf d 20 4))) (64 * fieldOf d 28 2) far ue = (w1, .ok pa) →
      w1.getGlobal State.mccUnit (ownAddr (tileKey (w.rimTile 1) (fieldOf d 24 4))) (64 * fieldOf d 30 2) far ue = (w2, .ok pb) →
      w2.getGlobal State.mccUnit (fieldOf d 64 8) (RimStream.ofBytes d).inBytes far ue = (w3, .ok kin) →
      w3.getGlobal State.mccUnit (fieldOf d 72 8) (RimStream.ofBytes d).outBytes far ue = (w4, .ok kout) →
      (packetsOf pa).findIdx? (w4.rimPacketBad (w.rimTile 0)) = none → (packetsOf pb).findIdx? (w4.rimPacketBad (w.rimTile 1)) = none →
      Ends (exec (.rimStreamSet via p far ue) s) via .done (fun u => Keeps [.regs, .rim] w4 u ∧ u.strState (p.u8 16) = 1 ∧
        u.rimStream (p.u8 16) = some { RimStream.ofBytes d with progA := packetsOf pa, progB := packetsOf pb, katIn := kin, katExp := kout })) ∧
  (∀ s via p j s1, Starts s true via p j s1 → p.base = 0x0603 → s1.rimAbsent = false → p.u8 16 ≤ 63 → s1.slotUsed (p.u8 16) = false →
    Ends (exec (.rimStreamClear via p) s) via .done (fun u => Keeps [.regs, .rim] (s1.beginJob true via j) u ∧
      u.rimStream (p.u8 16) = none ∧ u.strState (p.u8 16) = 0 ∧ (∀ k, k ≠ p.u8 16 → u.rimStream k = s1.rimStream k))) ∧
  (∀ s via p j s1 far ue, Starts s false via p j s1 → p.base = 0x0604 → s1.commitCheck p = none → j.late = false →
    ∀ w bs, (s1.beginJob false via j).getGlobal State.mccUnit (p.u64 16) (16 * p.u16 24) far ue = (w, .ok bs) →
      (w.tableBad p.execTime.toNat (p.u32 28) (State.entriesOf bs (p.u16 24)) = none →
        Goes (exec (.rimSchedCommit via p far ue) s) (fun u => Keeps [.rim] w u ∧
          u.rim = { w.rim with commit := some ⟨p.execTime.toNat, p.u32 28, State.entriesOf bs (p.u16 24)⟩ })) ∧
      (∀ a, w.tableBad p.execTime.toNat (p.u32 28) (State.entriesOf bs (p.u16 24)) = some a →
        exec (.rimSchedCommit via p far ue) s = .next (w.finish via a))) ∧
  (∀ s via p j s1 x, Starts s true via p j s1 → p.base = 0x0605 → s1.rimAbsent = false → p.u8 16 ≤ 63 →
    (s1.rimStream (p.u8 16)).isSome = true → s1.rim.sched = some x → x.entries.any (fun e => e.slot == p.u8 16) = true →
    Goes (exec (.rimKat via p) s) (fun u => Keeps [.rim] (s1.beginJob true via j) u ∧ u.rim.runs = s1.rim.runs ∧
      u.rimRt (p.u8 16) = { s1.rimRt (p.u8 16) with mccKat := some (s1.now + 1000) }))

/-- R405, R406, R407, R410, R411, R414: what happens at the lane's instants. A committed schedule whose ACT has come takes over and the commit is
answered; a capture whose time has come puts its result in flight with the times of its entry; a program starts on its free tile at its
compute start and ends when the tile has run it; a result whose program has not ended when it is staged is missed; one that was staged in time is released, here
for a stream that is not paired, and its data is kept; a PAUSED lane returns to ACTIVE at a frame boundary. None of them happens
early. -/
def Obligations.RimInstantsHappenInTime : Prop :=
  (∀ (s : State) (x : RimSched), s.rim.commit = some x →
    (x.act ≤ s.now → s.lane = 1 ∨ s.lane = 4 → x.act < 2 ^ 64 → x.frame < 2 ^ 32 →
      Ends (exec .scheduleActivation s) .mcc .done (fun u => u.rim.sched = some x ∧ u.rim.commit = none ∧ u.rd Reg.RIM_ACT_TIME = x.act ∧
        u.rd Reg.RIM_FRAME_NS = x.frame ∧ u.lane = (if s.rim.holds = [] then 2 else 3) ∧ u.mem = s.mem ∧ u.host = s.host)) ∧
    (s.now < x.act → exec .scheduleActivation s = .next s)) ∧
  (∀ (s : State), s.rim.commit = none → exec .scheduleActivation s = .next s) ∧
  (∀ (s : State) (tc : Nat) (e : RimEntry) (st : RimStream), s.nextCapture = some (tc, e) → s.lane = 2 → s.rim.commit = none →
    s.rimStream e.slot = some st →
    (tc ≤ s.now → Goes (exec .rimCapture s) (fun u => ∃ r, u.rim.runs = s.rim.runs ++ [r] ∧ r.slot = e.slot ∧ r.tc = tc ∧
      r.cmp = tc + e.cmp ∧ r.tr = tc + e.rel ∧ r.k = tc / st.cadence ∧ r.tiles = e.tiles ∧ r.staged = none ∧ r.out = false)) ∧
    (s.now < tc → exec .rimCapture s = .next s)) ∧
  (∀ (s : State) (b : Nat) (r : RimRun) (st : RimStream), s.rim.runs.find? (fun r => State.progOf r b == 0) = some r → s.lane = 2 →
    s.rim.runs.any (fun r => State.progOf r b == 1) = false → s.seqFree (s.rimTile b) = true → s.rimStream r.slot = some st →
    (r.cmp ≤ s.now → GoesOn (exec (.rimComputeStart b) s) (·.startNext (s.rimTile b)) (fun w =>
      (w.engOf (s.rimTile b)).fetched.map (·.pkt) = (if b = 0 then st.progA else st.progB) ∧ Keeps [.rim, .eng] s w)) ∧
    (s.now < r.cmp → exec (.rimComputeStart b) s = .next s)) ∧
  (∀ (s : State) (b : Nat), s.rim.runs.any (fun r => State.progOf r b == 1) = true → s.seqFree (s.rimTile b) = true →
    Goes (exec (.rimProgramEnd b) s) (fun u => Keeps [.rim] s u ∧
      u = s.updRun (fun r => State.progOf r b == 1) (State.setProg · b 2))) ∧
  (∀ (s : State) (b : Nat), s.rim.runs.any (fun r => State.progOf r b == 1) = false → exec (.rimProgramEnd b) s = .next s) ∧
  (∀ (s : State) (ue : Bool) (r : RimRun) (st : RimStream), s.rim.runs.find? (fun r => r.staged.isNone) = some r → r.slot < 64 →
    s.rimStream r.slot = some st → s.svcsOn = [] → r.kat = false →
    (r.tr ≤ s.now + rimStage → State.progOf r (if bit r.tiles 0 then 0 else 1) ≠ 2 →
      s.fd (Fld.RIM_STR_STATUS_CONSEC_MISS r.slot) + 1 < st.missLimit → s.fd (Fld.RIM_STR_STATUS_CONSEC_MISS r.slot) < 255 →
      Goes (exec (.rimStage ue) s) (fun u => Keeps [.regs, .rim] s u ∧
        u.rim = (s.updRun (fun x => x.staged.isNone) (fun x => { x with staged := some (true, []) })).rim ∧
        u.fd (Fld.RIM_STR_STATUS_CONSEC_MISS r.slot) = s.fd (Fld.RIM_STR_STATUS_CONSEC_MISS r.slot) + 1 ∧
        u.rd (Reg.RIM_STR_MISSED r.slot) = satAdd (2 ^ 32 - 1) (s.rd (Reg.RIM_STR_MISSED r.slot)) 1)) ∧
    (s.now + rimStage < r.tr → exec (.rimStage ue) s = .next s)) ∧
  (∀ (s : State) (jit : Nat) (r : RimRun) (st : RimStream) (d : List Byte), s.rim.runs.find? (fun r => !r.out) = some r → r.slot < 64 →
    s.rimStream r.slot = some st → s.svcsOn = [] → r.kat = false → r.staged = some (false, d) →
    (r.tr ≤ s.now → s.lane = 2 → s.strState r.slot ≠ 3 → (s.rimRt r.slot).tested = true →
      Goes (exec (.rimRelease jit) s) (fun u => (u.rimRt r.slot).last = some d ∧ (u.rimRt r.slot).lastK = r.k ∧
        u.rd (Reg.RIM_STR_RESULTS r.slot) = (s.rd (Reg.RIM_STR_RESULTS r.slot) + 1) % 2 ^ 64 ∧
        u.rd (Reg.RIM_STR_JIT_MAX r.slot) = max jit (s.rd (Reg.RIM_STR_JIT_MAX r.slot)) % 2 ^ 32 ∧ u.mem = s.mem ∧ u.host = s.host)) ∧
    (s.now < r.tr → exec (.rimRelease jit) s = .next s)) ∧
  (∀ (s : State) (x : RimSched), s.rim.sched = some x → s.lane = 3 → s.rim.holds = [] →
    [s.fd Fld.RIM_TILES_TILE_A, s.fd Fld.RIM_TILES_TILE_B].all (fun t => s.pState (State.siteIsland (s.siteOf t)) == 1) = true →
    s.rim.resumeAt ≤ s.now → x.act ≤ s.now →
    ((s.now - x.act) % x.frame = 0 → Goes (exec .rimLaneResume s) (fun u => u.lane = 2 ∧ u.rim.next = ((s.now - x.act) / x.frame, 0) ∧
      u.mem = s.mem ∧ u.host = s.host)) ∧
    ((s.now - x.act) % x.frame ≠ 0 → exec .rimLaneResume s = .next s)) ∧
  (∀ (s : State) (k : Nat), k < 64 → Goes (exec (.rimJitMaxRead k) s) (fun u => Keeps [.regs, .out] s u ∧
    RegsKeep [(Reg.RIM_STR_JIT_MAX k).addr] s u ∧ u.rd (Reg.RIM_STR_JIT_MAX k) = 0 ∧
    u.out = .barRead (Reg.RIM_STR_JIT_MAX k).addr (BitVec.ofNat 64 (s.rd (Reg.RIM_STR_JIT_MAX k))) :: s.out))

/-- R408, R409, R414, R416 to R423: Rim headers read back from the frame that carries them. PLT_GATE_SET keeps its list until its base time,
when the cycle takes it; PLT_FILTER_SET sets a filter; PLT_MACSEC_KEY installs an association whose key unwraps and refuses one whose key does
not. A policed frame of a defined stream, newer than the last, becomes its input; one turned away does not. Time messages are answered and
set the offset; a Pdelay_Req leaves where class 6 may send; the strap and the link are shown. -/
def Obligations.PlantPortWorks : Prop :=
  (∀ (h : RimHead) (data : List Byte), h.kind < 16 → h.stream < 256 → h.flags < 2 ^ 16 → h.claim < 2 ^ 32 → h.seq < 2 ^ 64 →
    h.time < 2 ^ 64 → h.ref < 2 ^ 64 → h.fmt < 256 → data.length < 2 ^ 16 →
    RimHead.ofBytes (rimPayload h data) = some (h, 1, true, data)) ∧
  (∀ s via p j s1 far ue, Starts s true via p j s1 → p.base = 0x0611 → s1.fb Fld.CAP_UNITS_PLANT = true → p.u8 16 ≤ 1 →
    p.expert = false → p.u8 63 = 1 → s1.rim.sched = none → s1.rim.commit = none → p.execTime = 0 →
    Ends (exec (.pltGateSet via p far ue) s) via .done (fun u => Keeps [.plt] (s1.beginJob true via j) u ∧
      u.pltPort (p.u8 16) = { s1.pltPort (p.u8 16) with
        gateNext := some ⟨State.cycleAfter (s1.pltPort (p.u8 16)).gate s1.now, 1000000, [(255, 1000000)]⟩ } ∧
      u.pltPort (1 - p.u8 16) = s1.pltPort (1 - p.u8 16))) ∧
  (∀ (s : State) (port : Nat) (g : GateList), port ≤ 1 → (s.pltPort port).gateNext = some g →
    (g.base ≤ s.now → Goes (exec (.gateCycleStart port) s) (fun u => Keeps [.plt] s u ∧
      u.pltPort port = { s.pltPort port with gate := some g, gateNext := none } ∧ u.pltPort (1 - port) = s.pltPort (1 - port))) ∧
    (s.now < g.base → exec (.gateCycleStart port) s = .next s)) ∧
  (∀ s via p j s1, Starts s true via p j s1 → p.base = 0x0612 → s1.fb Fld.CAP_UNITS_PLANT = true → p.u8 16 ≤ 1 → 64 ≤ p.u16 26 →
    p.u16 26 ≤ 1522 → p.u16 24 ≤ 4095 → p.expert = true →
    Ends (exec (.pltFilterSet via p) s) via .done (fun u => Keeps [.plt] (s1.beginJob true via j) u ∧
      Cells.find (p.u8 17 % 64) (u.pltPort (p.u8 16)).filters = some ⟨bit (p.u8 17) 7, p.fld 18 6, p.u16 24, p.u16 26, p.u32 28, p.u32 32,
        p.u32 32 * 8 * 10 ^ 6, s1.now⟩)) ∧
  (∀ s via p j s1 far ue w bs, Starts s true via p j s1 → p.opcode.toNat = 0x06A0 → s1.fb Fld.CAP_UNITS_PLANT = true →
    s1.fb Fld.CAP_UNITS_MACSEC = true → p.u8 16 ≤ 1 → p.u8 17 ≤ 4 → p.u8 18 ≤ 3 → p.u8 19 ≤ 1 →
    (s1.beginJob true via j).getBytes State.mccUnit (p.u64 36) 40 far ue = (w, .ok bs) →
    (∀ k key, w.sec.lastI3c = some k → Config.sakUnwrap k bs = some key →
      Ends (exec (.pltMacsecKey via p far ue) s) via .done (fun u => Keeps [.plt] w u ∧
        (u.pltPort (p.u8 16)).sas.head? = some ⟨p.u8 17, p.u8 18, p.u8 19, p.u64 20, p.u64 28, key, p.u32 44⟩)) ∧
    (w.sec.lastI3c = none → exec (.pltMacsecKey via p far ue) s = .next (w.finish via (.errD Sts.accessFault 1)))) ∧
  (∀ (s w : State) (port : Nat) (frame plain : List Byte), port ≤ 1 → s.pltPolice port frame = (w, some plain) →
    Goes (exec (.inputFrame port frame) s) (fun u => u = w.frameIn port plain)) ∧
  (∀ (s w : State) (port : Nat) (frame : List Byte), port ≤ 1 → s.pltPolice port frame = (w, none) →
    exec (.inputFrame port frame) s = .next w ∧ Keeps [.regs, .plt] s w) ∧
  (∀ (s : State) (port da vid : Nat) (plain : List Byte) (h : RimHead) (data : List Byte),
    frameParts plain = (da, vid, s.fd Fld.PLT_CFG_ETHERTYPE, rimPayload h data) → RimHead.ofBytes (rimPayload h data) = some (h, 1, true, data) →
    h.kind = 0 → s.rim.streams.any (fun e => e.2.streamIn == h.stream && e.2.inBytes == data.length) = true →
    (∀ q, Cells.find h.stream s.rim.seqs = some q → q < h.seq) →
    Keeps [.rim] s (s.frameIn port plain) ∧ (h.stream, h.seq, s.now, data) ∈ (s.frameIn port plain).rim.inputs ∧
      Cells.find h.stream (s.frameIn port plain).rim.seqs = some h.seq) ∧
  (∀ (s w : State) (port : Nat) (offset rate : Int) (locked : Bool), port ≤ 1 → bit (s.fd Fld.PLT_STATUS_LINK_UP) port = true →
    s.asMeter port = (w, true) →
    (s.pltUp port = true → Goes (exec (.ptpFrame port 0 offset rate locked) s) (fun u => u.out = .ptp port 2 :: .ptp port 1 :: s.out ∧
      Keeps [.regs, .out, .plt] s u)) ∧
    (∀ kind, kind ≠ 0 → Goes (exec (.ptpFrame port kind offset rate locked) s) (fun u => u.rd Reg.PLT_PTP_OFFSET = ofInt 64 offset ∧
      u.fb Fld.PLT_PTP_STATUS_LOCKED = locked ∧ u.fd Fld.PLT_PTP_STATUS_SLAVE_PORT = port ∧
      u.fd Fld.PLT_PTP_STATUS_RATE_PPB = ofInt 24 rate ∧ u.mem = s.mem))) ∧
  (∀ (s : State) (port : Nat), port ≤ 1 →
    (s.classSixMay port = true → s.pltUp port = true → Goes (exec (.pdelayReq port) s) (fun u => u.out = .ptp port 0 :: s.out ∧
      Keeps [.regs, .out] s u ∧ RegsKeep [(Reg.PLT_PORT_TX_FRAMES port).addr] s u)) ∧
    (s.classSixMay port = false → exec (.pdelayReq port) s = .next s)) ∧
  (∀ (s : State) (level : Bool), (s.pins.listenOnly = level → exec (.pltListenOnlyChange level) s = .next s) ∧
    (s.pins.listenOnly ≠ level → Goes (exec (.pltListenOnlyChange level) s) (fun u => u.pins = { s.pins with listenOnly := level } ∧
      u.fb Fld.PLT_STATUS_LISTEN_ONLY = level ∧ u.mem = s.mem ∧ u.log.length = s.log.length + 1))) ∧
  (∀ (s : State) (port : Nat) (up : Bool), port ≤ 1 → Goes (exec (.pltLinkChange port up) s) (fun u => Keeps [.regs] s u ∧
    RegsKeep [Reg.PLT_STATUS.addr] s u ∧ bit (u.fd Fld.PLT_STATUS_LINK_UP) port = up ∧
    bit (u.fd Fld.PLT_STATUS_LINK_UP) (1 - port) = bit (s.fd Fld.PLT_STATUS_LINK_UP) (1 - port)))

/-! ## 12: Pairing -/

/-- R432, Table 12-3: bytes that are no valid message only count, whatever type they were meant to be, and a valid message of another type
changes nothing in the row of this one.
R427, R433, R434, R436, R439, R443, R446, R448, R449, R454, R460: what valid messages do to a configured pair. HELLO of the partner
shows its serial and its numerics level; at the own position it puts every service into RESYNC. HEALTH shows the partner. Equal digests of a COMPARED service count a match, different ones enter
MISMATCH. A higher claim makes the ACTIVE module stop 200 ns later. HANDOVER gives a swap its instant. A partner's passed test ends a
wait whose own test passed. FAIL has the services it names taken over by a module that may. -/
def Obligations.PairingMessagesActOrCount : Prop :=
  ((∀ (mk : List Byte → Instr), mk ∈ [Instr.hello, .health, .digest, .pairClaim, .handover, .katResult, .fail, .invalidPairingMessage] →
      ∀ (s : State) (m : List Byte), State.pairValid m = false →
        Goes (exec (mk m) s) (fun u => Keeps [.regs] s u ∧ RegsKeep [Reg.PAIR_MSG_ERR_CNT.addr] s u ∧
          u.rd Reg.PAIR_MSG_ERR_CNT = satAdd (2 ^ 32 - 1) (s.rd Reg.PAIR_MSG_ERR_CNT) 1)) ∧
    (∀ (ty : Nat) (mk : List Byte → Instr), (ty, mk) ∈ [(1, Instr.hello), (2, .health), (3, .digest), (4, .pairClaim), (5, .handover),
        (6, .katResult), (7, .fail)] →
      ∀ (s : State) (m : List Byte), State.pairValid m = true → fieldOf m 0 1 ≠ ty → exec (mk m) s = .next s)) ∧
  ((∀ (s : State) (m : List Byte), State.pairValid m = true → fieldOf m 0 1 = 1 → s.fb Fld.PAIR_STATUS_CONFIGURED = true →
      fieldOf m 2 2 = s.fd Fld.PAIR_CFG_PAIR_ID → fieldOf m 6 2 = s.fd Fld.PAIR_CFG_PARTNER_MOD →
      (fieldOf m 4 1 ≠ s.pairPos → GoesOn (exec (.hello m) s) State.cmpAll (fun w => w.rd Reg.PAIR_PARTNER_SERIAL = fieldOf m 8 8 ∧
        w.fb Fld.PAIR_STATUS_PAIR_LINK_DOWN = false ∧ w.fb Fld.PAIR_STATUS_POS_CONFLICT = false ∧
        w.fb Fld.PAIR_STATUS_LEVEL_DIFF = (fieldOf m 5 1 != s.fd Fld.ATY_FAB_STATUS_NUMERICS_LEVEL) ∧
        w.pair = { s.pair with lastLink := s.now } ∧ Keeps [.regs, .pair] s w)) ∧
      (fieldOf m 4 1 = s.pairPos → s.fb Fld.PAIR_STATUS_POS_CONFLICT = false → Goes (exec (.hello m) s) (fun u =>
        u.fb Fld.PAIR_STATUS_POS_CONFLICT = true ∧ (∀ n, n < 64 → s.svcRole n ≠ 0 → u.svcRole n = 1) ∧ u.mem = s.mem))) ∧
    (∀ (s : State) (m : List Byte), State.pairValid m = true → fieldOf m 0 1 = 2 →
      Goes (exec (.health m) s) (fun u => u.fd Fld.PAIR_STATUS_PARTNER = (if bit (fieldOf m 8 1) 0 then 1 else 2) ∧
        u.pair = { s.pair with lastLink := s.now } ∧ u.mem = s.mem)) ∧
    (∀ (s : State) (m : List Byte) (n k d : Nat), State.pairValid m = true → fieldOf m 0 1 = 3 → fieldOf m 1 1 = n → s.svcOn n = true →
      s.svcStep n = false → s.svcRole n = 3 → (s.svc n).peerRole = 2 → s.svcCmp n = 0 → (s.svc n).own = [(k, d, false)] → (s.svc n).peer = [] →
      fieldOf m 8 8 = k → bit (fieldOf m 2 1) 0 = false →
      (fieldOf m 16 8 = d → Goes (exec (.digest m) s) (fun u => u.svcCmp n = 0 ∧
        u.fd (Fld.PAIR_SVC_STATUS_MATCH_RUN n) = min 16 (s.fd (Fld.PAIR_SVC_STATUS_MATCH_RUN n) + 1) ∧ (u.svc n).compared = (s.svc n).compared ++ [k] ∧
        (u.svc n).own = [] ∧ (u.svc n).peer = [] ∧ u.mem = s.mem)) ∧
      (fieldOf m 16 8 ≠ d → Goes (exec (.digest m) s) (fun u => u.svcCmp n = 2 ∧ u.fd (Fld.PAIR_SVC_STATUS_MATCH_RUN n) = 0 ∧
        u.rd (Reg.PAIR_SVC_MISMATCH n) = satAdd (2 ^ 32 - 1) (s.rd (Reg.PAIR_SVC_MISMATCH n)) 1 ∧ (u.svc n).waiting = true ∧
        (u.svc n).own = [] ∧ (u.svc n).peer = [] ∧ u.mem = s.mem))) ∧
    (∀ (s : State) (m : List Byte) (n : Nat), State.pairValid m = true → fieldOf m 0 1 = 4 → fieldOf m 1 1 = n → s.svcOn n = true →
      s.svcStep n = false → s.svcRole n = 3 → bit (fieldOf m 2 1) 0 = false →
      let c := fieldOf m 4 4
      (s.peerClaim n < c → s.claim n < c → Goes (exec (.pairClaim m) s) (fun u => u.peerClaim n = c ∧ u.svcRole n = 3 ∧
        (u.svc n).stop = some (s.now + 200, 0) ∧ (u.svc n).peerRole = 3 ∧ Keeps [.regs, .pair] s u)) ∧
      (s.peerClaim n < c → c ≤ s.claim n → Goes (exec (.pairClaim m) s) (fun u => u.peerClaim n = c ∧
        u.pair = { s.pair with lastLink := s.now } ∧ Keeps [.regs, .pair] s u ∧ RegsKeep [(Reg.PAIR_SVC_PEER_CLAIM n).addr] s u)) ∧
      (c ≤ s.peerClaim n → Goes (exec (.pairClaim m) s) (fun u => Keeps [.pair] s u ∧ u.pair = { s.pair with lastLink := s.now }))) ∧
    (∀ (s : State) (m : List Byte) (n : Nat), State.pairValid m = true → fieldOf m 0 1 = 5 → fieldOf m 1 1 = n → s.svcOn n = true →
      (s.svc n).swap = some (fieldOf m 8 8, none) →
      Goes (exec (.handover m) s) (fun u => u.svc n = { s.svc n with swap := some (fieldOf m 8 8, some s.now) } ∧ Keeps [.pair] s u)) ∧
    (∀ (s : State) (m : List Byte) (n : Nat), State.pairValid m = true → fieldOf m 0 1 = 6 → fieldOf m 1 1 = n → s.svcOn n = true →
      (s.svc n).waiting = true → (s.svc n).verdict = some true → bit (fieldOf m 2 1) 0 = true →
      Goes (exec (.katResult m) s) (fun u => (u.svc n).waiting = false ∧ (u.svc n).resume = (s.svc n).test.getD 0 + 1 ∧
        u.fd (Fld.PAIR_SVC_STATUS_MISMATCH_RUN n) = 0 ∧ Keeps [.regs, .pair] s u)) ∧
    (∀ (s : State) (m : List Byte), State.pairValid m = true → fieldOf m 0 1 = 7 → s.fb Fld.PAIR_STATUS_CONFIGURED = true →
      Goes (exec (.fail m) s) (fun u => u.fd Fld.PAIR_STATUS_PARTNER = 2 ∧ u.mem = s.mem ∧
        (∀ n, n < 64 → bit (fieldOf m 4 8) n = true → s.mayTake n = true → max (s.claim n / 2) (s.peerClaim n / 2) < 0x7FFFFFFF →
          u.svcRole n = 3 ∧ u.claim n = (max (s.claim n / 2) (s.peerClaim n / 2) + 1) * 2 + s.pairPos))))

/-- R432, R434, R436, R440, R446, R449, R456, R463: Pairing's timers and the events of its paths. HELLO goes out when the link
synchronises and at each period, HEALTH with its heartbeat, each claim again; a silent link is down, a silent fabric path is not OK, and when
both are silent a module that may takes its services; a poll loads the partner's health, whose answer confirms the path; beacons count; a
deadline forgets its index; a verdict that does not come ends the wait UNVERIFIED. -/
def Obligations.PairingTimersAct : Prop :=
  (∀ (s : State), s.pairAbsent = false → GoesOn (exec .pairLinkUp s) State.cmpAll (fun w => w.fb Fld.PAIR_STATUS_LINK_UP = true ∧
    Keeps [.regs, .out] s w ∧ ∃ bs, w.out = .pair bs :: s.out ∧ State.pairValid bs = true ∧ fieldOf bs 0 1 = 1 ∧
      fieldOf bs 2 2 = s.fd Fld.PAIR_CFG_PAIR_ID)) ∧
  (∀ (s : State), GoesOn (exec .pairingLinkSyncLost s) State.cmpAll (fun w => w.fb Fld.PAIR_STATUS_LINK_UP = false ∧ Keeps [.regs] s w ∧
    RegsKeep [Reg.PAIR_STATUS.addr] s w)) ∧
  (∀ (s : State), s.pairAbsent = false →
    (s.fb Fld.PAIR_STATUS_LINK_UP = true → Goes (exec .helloPeriod s) (fun u => Keeps [.out] s u ∧
      ∃ bs, u.out = .pair bs :: s.out ∧ State.pairValid bs = true ∧ fieldOf bs 0 1 = 1)) ∧
    (s.fb Fld.PAIR_STATUS_LINK_UP = false → exec .helloPeriod s = .next s)) ∧
  (∀ (s : State), s.pairAbsent = false → s.mcc.cur = none →
    Goes (exec .healthPeriod s) (fun u => Keeps [.pair, .out] s u ∧
      u.pair = { s.pair with heartbeat := if s.pair.healthy then (s.pair.heartbeat + 1) % 2 ^ 32 else s.pair.heartbeat } ∧
      (s.fb Fld.PAIR_STATUS_LINK_UP = true → ∃ bs, u.out = .pair bs :: s.out ∧ State.pairValid bs = true ∧ fieldOf bs 0 1 = 2))) ∧
  (∀ (s : State), Goes (exec .claimRepeat s) (fun u => Keeps [.out] s u ∧
    (s.fb Fld.PAIR_STATUS_LINK_UP = true → ∀ n ∈ s.svcsOn, ∃ bs, Out.pair bs ∈ u.out ∧ State.pairValid bs = true ∧ fieldOf bs 0 1 = 4 ∧
      fieldOf bs 1 1 = n ∧ fieldOf bs 4 4 = s.claim n % 2 ^ 32))) ∧
  (∀ (s : State), s.fb Fld.PAIR_STATUS_CONFIGURED = true →
    (s.pair.lastLink + 9000 ≤ s.now → GoesOn (exec .pairLinkDown s) State.cmpAll (fun w =>
      w.fb Fld.PAIR_STATUS_PAIR_LINK_DOWN = true ∧ Keeps [.regs] s w ∧ RegsKeep [Reg.PAIR_STATUS.addr] s w)) ∧
    (s.now < s.pair.lastLink + 9000 → exec .pairLinkDown s = .next s)) ∧
  (∀ (s : State), s.fb Fld.PAIR_STATUS_CONFIGURED = true →
    let q := Req.make (s.fd Fld.PAIR_CFG_PARTNER_MOD * 2 ^ 52 + 5 * 2 ^ 48 + 0x080) s.srcMod 0x35 8 opLoad none []
    (s.issueCheck q).isSome = false → Goes (exec .fabricPoll s) (fun u => Out.request q ∈ u.out ∧ u.mem = s.mem ∧ u.pair = s.pair)) ∧
  (∀ (s : State) (v : Nat), s.fb Fld.PAIR_STATUS_CONFIGURED = true → bit v 31 = true → s.pair.peerBeat < bits v 32 32 →
    s.pair.peerGen = some (bits v 0 16) →
    Goes (exec (.fabricPollResult Sts.ok 0x080 v) s) (fun u => u.fb Fld.PAIR_STATUS_FABRIC_OK = true ∧ u.fd Fld.PAIR_STATUS_PARTNER = 1 ∧
      u.pair = { s.pair with lastFab := s.now, peerBeat := bits v 32 32 } ∧ u.mem = s.mem)) ∧
  (∀ (s : State) (st off v : Nat), st ≠ Sts.ok → exec (.fabricPollResult st off v) s = .next s) ∧
  (∀ (s : State), (s.pair.lastFab + 2000000 ≤ s.now → Goes (exec .fabricPathSilent s) (fun u => u.fb Fld.PAIR_STATUS_FABRIC_OK = false ∧
      Keeps [.regs] s u ∧ RegsKeep [Reg.PAIR_STATUS.addr] s u)) ∧
    (s.now < s.pair.lastFab + 2000000 → exec .fabricPathSilent s = .next s)) ∧
  (∀ (s : State), s.fb Fld.PAIR_STATUS_CONFIGURED = true →
    (s.pair.lastLink + 2000000 ≤ s.now → s.pair.lastFab + 2000000 ≤ s.now → Goes (exec .silenceExpiry s) (fun u =>
      u.fd Fld.PAIR_STATUS_PARTNER = 3 ∧ u.fb Fld.PAIR_STATUS_FABRIC_OK = false ∧ u.mem = s.mem ∧
      ∀ n, n < 64 → s.mayTake n = true → max (s.claim n / 2) (s.peerClaim n / 2) < 0x7FFFFFFF → u.svcRole n = 3)) ∧
    (s.now < s.pair.lastLink + 2000000 → exec .silenceExpiry s = .next s)) ∧
  (∀ (s : State) (t : Nat), s.nextBeacon = some t →
    (t ≤ s.now → Goes (exec .claimBeaconRelease s) (fun u => u.pair.beacons = s.pair.beacons + 1 ∧ u.mem = s.mem ∧ u.rim = s.rim)) ∧
    (s.now < t → exec .claimBeaconRelease s = .next s)) ∧
  (∀ (s w : State) (port : Nat) (frame plain : List Byte), port ≤ 1 → s.pltPolice port frame = (w, some plain) →
    exec (.claimBeaconReceive port frame) s = .next (w.frameIn port plain)) ∧
  (∀ (s : State) (n k slot : Nat) (r : RimRun), s.svcOn n = true → s.svcStep n = false → s.svcSlot n = some slot →
    s.rim.runs.find? (fun r => r.slot == slot && r.k == k) = some r →
    (r.tr ≤ s.now + 40 → Goes (exec (.digestDeadline n k) s) (fun u => Keeps [.pair] s u ∧ (∀ e ∈ (u.svc n).own, e.1 ≠ k) ∧
      (∀ e ∈ (u.svc n).peer, e.1 ≠ k) ∧ (u.svc n).compared = (s.svc n).compared)) ∧
    (s.now + 40 < r.tr → exec (.digestDeadline n k) s = .next s)) ∧
  (∀ (s : State) (n : Nat), s.svcOn n = true → (s.svc n).waiting = true → (s.svc n).peerVerdict = none → s.svcSlot n = none →
    (s.svc n).since ≤ s.now →
    Goes (exec (.katVerdictTimeout n) s) (fun u => u.svcCmp n = 1 ∧ (u.svc n).waiting = false ∧ Keeps [.regs, .pair] s u)) ∧
  (∀ (s : State) (n : Nat), (s.svc n).waiting = false → exec (.katVerdictTimeout n) s = .next s) ∧
  (∀ (s : State) (n v : Nat), n < 64 → s.svcRole n ≠ 0 → s.svcStep n = true →
    Goes (exec (.stepDigestWrite n v) s) (fun u => (u.svc n).step = (s.svc n).step + 1 ∧ u.mem = s.mem)) ∧
  (∀ (s : State) (n v : Nat), s.svcStep n = false → exec (.stepDigestWrite n v) s = .next s)

/-- R427, R428, R437, R450, R460, R462: PAIR_CONFIG configures a pair once; PAIR_SVC_SET of a service that is OFF defines it, in RESYNC where no
FAIL condition holds it, a RIM service FAILED while the lane is not ACTIVE; PAIR_SVC_CLEAR of one that is not ACTIVE ends it; PAIR_SWAP of an
ACTIVE service that may swap hands over and waits; PAIR_HOLD_RELEASE of a held one asks for a test. -/
def Obligations.PairingCommandsRun : Prop :=
  (∀ s via p j s1, Starts s true via p j s1 → p.base = 0x0700 → s1.pairAbsent = false → p.expert = true → p.u16 16 ≠ 0 → p.u16 18 ≤ 4094 →
    10 ≤ p.u16 20 → p.u16 20 ≤ 1000 → p.u32 24 % 10 = 0 → p.u32 24 / 10 < 2 ^ 24 →
    (s1.fb Fld.PAIR_STATUS_CONFIGURED = false → Ends (exec (.pairConfig via p) s) via .done (fun u =>
      Keeps [.regs, .pair] (s1.beginJob true via j) u ∧ RegsKeep [Reg.PAIR_CFG.addr, Reg.PAIR_STATUS.addr] (s1.beginJob true via j) u ∧
      u.fb Fld.PAIR_STATUS_CONFIGURED = true ∧ u.fd Fld.PAIR_CFG_PAIR_ID = p.u16 16 ∧ u.fd Fld.PAIR_CFG_PARTNER_MOD = p.u16 18 ∧
      u.fd Fld.PAIR_CFG_BEACON_US = p.u16 20 ∧ u.fd Fld.PAIR_CFG_BEACON_OFF10 = p.u32 24 / 10 ∧ u.pair.da = p.fld 28 6 ∧
      u.pair.vlan = p.u16 34)) ∧
    (s1.fb Fld.PAIR_STATUS_CONFIGURED = true → exec (.pairConfig via p) s = .next (s1.finish via (.refuse 0x0701)))) ∧
  (∀ s via p j s1, Starts s true via p j s1 → p.base = 0x0701 → s1.pairAbsent = false → p.u8 16 ≤ 63 → p.u8 17 ≤ 1 →
    (s1.svcRole (p.u8 16) = 0 → s1.pair.conds = [] → p.u8 17 = 1 ∨ s1.lane ≠ 2 → Ends (exec (.pairSvcSet via p) s) via .done (fun u =>
      u.svcRole (p.u8 16) = (if p.u8 17 = 1 then 1 else 4) ∧ u.svcStep (p.u8 16) = (p.u8 17 == 1) ∧ u.claim (p.u8 16) = s1.pairPos ∧
      u.peerClaim (p.u8 16) = 0 ∧ u.fd (Fld.PAIR_SVC_STATUS_ID (p.u8 16)) = p.u8 18 ∧ u.mem = s1.mem)) ∧
    (s1.svcRole (p.u8 16) ≠ 0 → exec (.pairSvcSet via p) s = .next (s1.finish via (.refuse 0x0702)))) ∧
  (∀ s via p j s1, Starts s true via p j s1 → p.base = 0x0702 → s1.pairAbsent = false → p.u8 16 ≤ 63 →
    (s1.svcRole (p.u8 16) ≠ 3 → Ends (exec (.pairSvcClear via p) s) via .done (fun u => u.svcRole (p.u8 16) = 0 ∧
      u.claim (p.u8 16) = 0 ∧ u.svc (p.u8 16) = PairSvc.start ∧ u.mem = s1.mem)) ∧
    (s1.svcRole (p.u8 16) = 3 → exec (.pairSvcClear via p) s = .next (s1.finish via (.refuse 0x0703)))) ∧
  (∀ s via p j s1, Starts s true via p j s1 → p.base = 0x0703 → s1.pairAbsent = false → p.u8 16 ≤ 63 →
    let n := p.u8 16
    (s1.svcRole n = 3 → (s1.svc n).give = none → (s1.svc n).swap = none → s1.swapOk n 2 = true →
      Goes (exec (.pairSwap via p) s) (fun u => (u.svc n).give = some (s1.swapIndex n, true) ∧ Keeps [.pair, .out] (s1.beginJob true via j) u ∧
        ∃ bs o, u.out = .pair bs :: o ∧ State.pairValid bs = true ∧ fieldOf bs 0 1 = 5 ∧ fieldOf bs 1 1 = n)) ∧
    (s1.svcRole n ≠ 3 → exec (.pairSwap via p) s = .next (s1.finish via (.refuse 0x0704)))) ∧
  (∀ s via p j s1, Starts s true via p j s1 → p.base = 0x0704 → s1.pairAbsent = false → p.u8 16 ≤ 63 →
    let n := p.u8 16
    (s1.svcRole n ≠ 0 → s1.svcCmp n = 3 → Ends (exec (.pairHoldRelease via p) s) via .done (fun u => u.svcCmp n = 2 ∧
      u.fd (Fld.PAIR_SVC_STATUS_MISMATCH_RUN n) = 0 ∧ (u.svc n).waiting = true ∧ (u.svc n).alarms = (s1.svc n).alarms ++ [2] ∧
      Keeps [.regs, .pair, .rim] (s1.beginJob true via j) u)) ∧
    (s1.svcCmp n ≠ 3 → exec (.pairHoldRelease via p) s = .next (s1.finish via (.refuse 0x0705))))

/-! ## 13: The video engine -/

/-- R468, R469, R470, R489: VID_SESSION_OPEN with permitted parameters, a free number, a pool that fits and load to spare opens its session,
whose STATUS shows it; VID_SESSION_CLOSE of a session without pending commands removes it.
R471, R472, R475, R478, R480, R482: VID_DECODE and VID_ENCODE that pass their checks join the commands of their session, in order, and the
ring goes on; a core that is free joins a command that runs and may use it; a decode without outputs ends as the decoder says; a
command that reaches the watchdog ends with STS_TIMEOUT, and its session needs an IRAP picture. -/
def Obligations.VideoSessionsRun : Prop :=
  ((∀ s via p j s1 x, Starts s true via p j s1 → p.base = 0x0800 → s1.vidPresent = true → s1.vidSessOf p = some x → State.vidParamBad p x = false →
      (∀ e ∈ s1.vid.sess, e.1 ≤ 127) →
      (s1.vidSess (p.u8 16) = none → (x.codec == 0 && x.depth == 10) = false → s1.poolBad x = false → loadFits x.load 1 = true →
        (x.live = true → loadFits (loadSum (x :: s1.vidLive)) (s1.fd Fld.CAP_UNITS_VID_CORES) = true) →
        Ends (exec (.vidSessionOpen via p) s) via .done (fun u => u.vidSess (p.u8 16) = some x ∧ u.vidState (p.u8 16) = 1 ∧
          u.rd (Reg.VID_SESS_STATUS (p.u8 16)) = 2 ^ 30 + b2n x.live * 2 ^ 29 + b2n x.enc * 2 ^ 28 + x.codec * 2 ^ 26 + x.ring * 2 ^ 24 +
            loadMega x.load ∧
          u.rd (Reg.VID_SESS_PICS (p.u8 16)) = 0 ∧ u.rd (Reg.VID_SESS_OVER (p.u8 16)) = 0 ∧
          (∀ m, m ≠ p.u8 16 → u.vidSess m = s1.vidSess m) ∧ Keeps [.regs, .vid] (s1.beginJob true via j) u)) ∧
      ((s1.vidSess (p.u8 16)).isSome = true →
        exec (.vidSessionOpen via p) s = .next (s1.finish via (.err stsVidSession)))) ∧
    (∀ s via p j s1, Starts s true via p j s1 → p.base = 0x0801 → s1.vidPresent = true → p.u8 16 ≤ 127 → p.u8 17 ≤ 1 →
      (p.expert = true ∨ p.u8 17 = 0) → (∀ e ∈ s1.vid.sess, e.1 ≤ 127) →
      ((s1.vidSess (p.u8 16)).isSome = true → (∀ v ∈ s1.vid.jobs, v.sess ≠ p.u8 16) →
        Ends (exec (.vidSessionClose via p) s) via .done (fun u => u.vidSess (p.u8 16) = none ∧ u.vidState (p.u8 16) = 0 ∧
          (∀ m, m ≠ p.u8 16 → u.vidSess m = s1.vidSess m) ∧ u.vid.jobs = s1.vid.jobs ∧ Keeps [.regs, .vid] (s1.beginJob true via j) u)) ∧
      (s1.vidSess (p.u8 16) = none → exec (.vidSessionClose via p) s = .next (s1.finish via (.err stsVidSession))))) ∧
  ((∀ (enc : Bool) (mk : Via → Packet → Instr), (enc, mk) ∈ [(false, Instr.vidDecode), (true, .vidEncode)] → ∀ s via p j s1 x,
      UnitStarts s via (40 + x.ring) p j s1 → p.base = 0x0810 + b2n enc → s.vidSess (p.u8 16) = some x →
      s.vidCheck p enc (some (40 + x.ring)) = none → s1.vidCheck p enc (some (40 + x.ring)) = none → (∀ e ∈ s1.vid.sess, e.1 ≤ 127) →
      GoesOn (exec (mk via p) s) (fun w => w.startNext (40 + x.ring)) (fun w =>
        w.vid.jobs = s1.vid.jobs ++ [⟨{ j with begun := true }, 40 + x.ring, p.u8 16, false, false, false, [], 1, [], []⟩] ∧
        w.vid.sess = s1.vid.sess ∧ (w.engOf (40 + x.ring)).cur = none ∧ w.mem = s1.mem)) ∧
    (∀ (s : State) (core : Nat) (j : VidJob) (far : List Host.Cell) (ue : Option Nat), core < 5 → bit (s.rd Reg.RAS_CORE_STATE) (8 + core) = true →
      s.islandOn (82 + core) = true → s.vid.jobs = [j] → j.started = true → j.cores = [] →
      (∀ e ∈ s.vid.sess, e.1 ≤ 127) →
      Goes (exec (.vidUnitDispatch core far ue) s) (fun u => u.vid.jobs = [{ j with cores := [core] }] ∧ u.vid.sess = s.vid.sess ∧
        u.fd Fld.VID_STATUS_CORE_BUSY = 2 ^ core ∧ Keeps [.regs, .vid] s u)) ∧
    (∀ (s : State) (core : Nat) (far : List Host.Cell) (ue : Option Nat), 5 ≤ core ∨ bit (s.rd Reg.RAS_CORE_STATE) (8 + core) = false →
      exec (.vidUnitDispatch core far ue) s = .next s) ∧
    (∀ (s : State) (sess : Nat) (far : List Host.Cell) (j : VidJob) (x : VidSess), sess ≤ 127 → s.vid.jobs.find? (fun j => j.sess == sess) = some j →
      s.vidSess sess = some x → x.enc = false → j.started = true → bit (j.job.pkt.u8 17) 0 = false → bit (j.job.pkt.u8 17) 1 = false →
      let unit : Config.VidUnit := ⟨j.unit, bit (j.job.pkt.u8 17) 2, s.vidState sess == 2, 0, []⟩
      let r := Config.vidDecode x.codec x.depth x.maxW x.maxH (x.fed ++ [unit])
      let large := match r.pic with | some q => decide (x.maxW < q.width) || decide (x.maxH < q.height) | none => false
      ∃ (w : State) (a : Ans) (flags count : Nat), exec (.vidCommandComplete sess far) s = .next (w.vidEnd j a flags count 0) ∧ w.mem = s.mem ∧ w.vid.jobs = s.vid.jobs ∧
        (w.vidSess sess).map (·.fed) = some (x.fed ++ [unit]) ∧
        ((r.outcome = 1 ∨ large = true) → a = .err stsVidStream ∧ (s.vidState sess ≠ 0 → w.vidState sess = 2)) ∧
        (r.outcome = 2 → large = false → a = .err stsVidUnsupported) ∧
        (r.outcome ≠ 1 → r.outcome ≠ 2 → large = false → a = .done ∧ count = r.concealed ∧
          (w.vidSess sess).map (·.pics) = some (x.pics + b2n r.pic.isSome) ∧ (r.key = true → w.vidState sess = 1))) ∧
    (∀ (s : State) (sess : Nat) (far : List Host.Cell), s.vid.jobs.find? (fun j => j.sess == sess) = none →
      exec (.vidCommandComplete sess far) s = .next s) ∧
    (∀ (s : State) (sess : Nat) (j : VidJob), sess ≤ 127 → s.vid.jobs.find? (fun j => j.sess == sess) = some j →
      (j.started = true → GoesOn (exec (.vidWatchdog sess) s) (fun w => w.vidEnd j (.err Sts.timeout) 0 0 0) (fun w =>
        w.rd Reg.VID_WDOG_CNT = satAdd (2 ^ 32 - 1) (s.rd Reg.VID_WDOG_CNT) 1 ∧ (s.vidState sess ≠ 0 → w.vidState sess = 2) ∧
        Keeps [.regs] s w ∧ RegsKeep [Reg.VID_WDOG_CNT.addr, (Reg.VID_SESS_STATUS sess).addr] s w)) ∧
      (j.started = false → exec (.vidWatchdog sess) s = .next s)))

/-! ## 14: Security -/

/-- R507, R508, R509, R510, R515: TENANT_OPEN on a scrubbed module opens the tenant, and Creel with the stacks in service; it waits while the DRBG
gives no output. TENANT_CLOSE of a module whose units are idle closes it, starts the scrub and drops windows and keys. TENANT_SCRUB
starts one, or waits for the token; while one waits it is answered STS_BUSY (the model's reading of R515, assumption
98). When the scrub is complete every byte that tenants may allocate reads 0. -/
def Obligations.TenantsOpenCloseAndScrub : Prop :=
  (∀ s via p j s1, Starts s true via p j s1 → p.base = 0x0900 →
    let conf := p.expert && bit (p.u8 28) 0
    (p.expert = true → conf = false → p.u32 24 = 0) →
    (s1.fb Fld.SEC_STATUS_SCRUB_REQUIRED = false → s1.fb Fld.SEC_STATUS_SCRUB_ACTIVE = false → s1.tenantOpen = false → s1.lc ≠ 0 → s1.lc ≠ 3 →
      s1.fb Fld.SEC_STATUS_DEBUG_OPEN = false →
      (conf = true → s1.sec.sessions.any (fun x => !x.i3c && x.done && x.id == p.u32 24) = true) →
      (s1.drbgReady = true → Ends (exec (.tenantOpen via p) s) via .done (fun u => u.tenantOpen = true ∧
        u.fb Fld.SEC_STATUS_SCRUB_REQUIRED = true ∧ u.fb Fld.RST_BKP0_SCRUB_REQUIRED = true ∧ u.fb Fld.SEC_STATUS_CONF = conf ∧
        u.fb Fld.HIF_CTRL_CONF = conf ∧ u.sec.tenant = p.u64 16 ∧ u.crl = { Crl.empty with homes := (List.range 8).filter s1.stackOk } ∧
        Keeps [.regs, .sec, .crl] (s1.beginJob true via j) u ∧
        RegsKeep [Reg.SEC_STATUS.addr, Reg.RST_BKP0.addr, Reg.HIF_CTRL.addr] (s1.beginJob true via j) u)) ∧
      (s1.drbgReady = false → Goes (exec (.tenantOpen via p) s) (fun u => u.sec = { s1.sec with waiters := s1.sec.waiters ++ [⟨s1.now, none⟩] } ∧
        Keeps [.regs, .sec] (s1.beginJob true via j) u ∧ RegsKeep [Reg.SEC_TRNG_STATUS.addr] (s1.beginJob true via j) u))) ∧
    (s1.fb Fld.SEC_STATUS_SCRUB_REQUIRED = true ∨ s1.fb Fld.SEC_STATUS_SCRUB_ACTIVE = true →
      exec (.tenantOpen via p) s = .next (s1.finish via (.refuse 0x0901))) ∧
    (s1.fb Fld.SEC_STATUS_SCRUB_REQUIRED = false → s1.fb Fld.SEC_STATUS_SCRUB_ACTIVE = false → s1.tenantOpen = true →
      exec (.tenantOpen via p) s = .next (s1.finish via (.refuse 0x0902))) ∧
    (s1.fb Fld.SEC_STATUS_SCRUB_REQUIRED = false → s1.fb Fld.SEC_STATUS_SCRUB_ACTIVE = false → s1.tenantOpen = false → s1.lc = 0 ∨ s1.lc = 3 →
      exec (.tenantOpen via p) s = .next (s1.finish via (.refuse 0x0903)))) ∧
  (∀ s via p j s1, Starts s true via p j s1 → p.base = 0x0901 →
    (s1.tenantOpen = true → s1.srvWorks = false → s1.resetting = false → s1.lane = 0 → s1.vid.sess = [] → s1.ras.queue = [] →
      (∀ n, n < 128 → s1.ringState n = State.closed ∧ (s1.engOf n).cur = none ∧ (s1.tile n).sb = []) → via = .mcc →
      Goes (exec (.tenantClose via p) s) (fun u => u.tenantOpen = false ∧ u.fb Fld.SEC_STATUS_CONF = false ∧ u.fb Fld.HIF_CTRL_CONF = false ∧
        u.hif.bounce = [] ∧ u.sec.session = 0 ∧ u.sec.tenant = 0 ∧ u.sec.closing = 0 ∧ u.crl = { Crl.empty with homes := s1.crl.homes } ∧
        u.mcc.cur = none ∧ (∀ w, w < 16 → bit (u.fd (Fld.ATY_INWIN_CTRL_PERM w)) 0 = false) ∧
        (s1.ras.holders = [] → u.fb Fld.SEC_STATUS_SCRUB_ACTIVE = true) ∧
        (s1.ras.holders ≠ [] → u.fb Fld.SEC_STATUS_SCRUB_WAIT_TOKEN = true))) ∧
    (s1.tenantOpen = false → exec (.tenantClose via p) s = .next (s1.finish via (.refuse 0x0906)))) ∧
  (∀ s via p j s1, Starts s true via p j s1 → p.base = 0x0902 →
    let a : Activity := ⟨State.actTenantScrub, 0, 0⟩
    (s1.fb Fld.SEC_STATUS_SCRUB_REQUIRED = false → exec (.tenantScrub via p) s = .next (s1.finish via .done)) ∧
    (s1.fb Fld.SEC_STATUS_SCRUB_REQUIRED = true → s1.tenantOpen = true →
      exec (.tenantScrub via p) s = .next (s1.finish via (.refuse 0x0902))) ∧
    (s1.fb Fld.SEC_STATUS_SCRUB_REQUIRED = true → s1.tenantOpen = false → s1.fb Fld.SEC_STATUS_SCRUB_WAIT_TOKEN = true →
      exec (.tenantScrub via p) s = .next (s1.finish via (.err Sts.busy))) ∧
    (s1.fb Fld.SEC_STATUS_SCRUB_REQUIRED = true → s1.tenantOpen = false → s1.fb Fld.SEC_STATUS_SCRUB_ACTIVE = false →
      s1.fb Fld.SEC_STATUS_SCRUB_WAIT_TOKEN = false → s1.ras.queue = [] →
      Ends (exec (.tenantScrub via p) s) via .done (fun u => u.rd Reg.SEC_SCRUB_POS = 0 ∧ Keeps [.regs, .ras] (s1.beginJob true via j) u ∧
        RegsKeep [Reg.SEC_STATUS.addr, Reg.SEC_SCRUB_POS.addr] (s1.beginJob true via j) u ∧
        (s1.ras.holders = [] → u.fb Fld.SEC_STATUS_SCRUB_ACTIVE = true ∧ u.ras.holders = [a] ∧ u.ras.queue = []) ∧
        (s1.ras.holders ≠ [] → u.fb Fld.SEC_STATUS_SCRUB_WAIT_TOKEN = true ∧ u.ras.holders = s1.ras.holders ∧ u.ras.queue = [a])))) ∧
  (∀ (s : State),
    (s.fb Fld.SEC_STATUS_SCRUB_ACTIVE = true → s.ras.queue = [] → (∀ k ∈ s.sec.grants, offOf k / 2 ^ 36 < 8) →
      Goes (exec .tenantScrubDone s) (fun u => u.fb Fld.SEC_STATUS_SCRUB_REQUIRED = false ∧ u.fb Fld.RST_BKP0_SCRUB_REQUIRED = false ∧
        u.fb Fld.SEC_STATUS_SCRUB_ACTIVE = false ∧ u.sec.grants = [] ∧ u.host = s.host ∧
        u.ras.holders = s.ras.holders.erase ⟨State.actTenantScrub, 0, 0⟩ ∧
        (∀ st, st < 8 → s.stackOk st = true → ∀ a, hbmKey st 0 ≤ a → a < hbmKey st 0 + s.allocEnd st → u.byte a = 0) ∧
        (∀ a, s.byte a = 0 → u.byte a = 0))) ∧
    (s.fb Fld.SEC_STATUS_SCRUB_ACTIVE = false → exec .tenantScrubDone s = .next s))

/-- R515: TENANT_SCRUB returns STS_OK at once, with no scrub started, when SCRUB_REQUIRED is clear; it is refused with DETAIL 0x0902 while a
tenant is open (SCRUB_REQUIRED is set then, R508) and STS_BUSY while the scrub runs; else it starts the scrub from the beginning and replies
STS_OK in the same step, before the scrub ends. -/
def Obligations.TenantScrubReplies : Prop :=
  ∀ s via p j s1, Starts s true via p j s1 → p.base = 0x0902 →
    (s1.fb Fld.SEC_STATUS_SCRUB_REQUIRED = false → s1.tenantOpen = false → exec (.tenantScrub via p) s = .next (s1.finish via .done)) ∧
    (s1.fb Fld.SEC_STATUS_SCRUB_REQUIRED = true → s1.tenantOpen = true →
      exec (.tenantScrub via p) s = .next (s1.finish via (.refuse 0x0902))) ∧
    (s1.fb Fld.SEC_STATUS_SCRUB_REQUIRED = true → s1.tenantOpen = false →
      s1.fb Fld.SEC_STATUS_SCRUB_ACTIVE = true → exec (.tenantScrub via p) s = .next (s1.finish via (.err Sts.busy))) ∧
    (s1.fb Fld.SEC_STATUS_SCRUB_REQUIRED = true → s1.tenantOpen = false → s1.fb Fld.SEC_STATUS_SCRUB_ACTIVE = false →
      s1.fb Fld.SEC_STATUS_SCRUB_WAIT_TOKEN = false →
      Ends (exec (.tenantScrub via p) s) via .done (fun u => s1.ras.queue = [] → u.rd Reg.SEC_SCRUB_POS = 0 ∧
        (s1.ras.holders = [] → u.fb Fld.SEC_STATUS_SCRUB_ACTIVE = true) ∧
        (s1.ras.holders ≠ [] → u.fb Fld.SEC_STATUS_SCRUB_WAIT_TOKEN = true)))

/-- R492, R493, R495, R496, R499, R505, R519, R520: SEC_NONCE draws a value and keeps it; a token uses it up, accepted or not, and an accepted one
opens debug or has the lifecycle change at the next reset; SEC_OWNER_SET sets the owner once; SEC_SPDM answers into host memory. -/
def Obligations.SecurityCommandsRun : Prop :=
  (∀ s via p j s1, Starts s true via p j s1 → p.base = 0x0904 →
    (s1.drbgReady = true → ∃ v, v < 2 ^ 64 ∧ Ends (exec (.secNonce via p) s) via (.ok 0 v) (fun u => u.sec = { s1.sec with nonce := some (v, s1.now) } ∧
      Keeps [.sec, .free] (s1.beginJob true via j) u)) ∧
    (s1.drbgReady = false → Goes (exec (.secNonce via p) s) (fun u =>
      u.sec = { s1.sec with waiters := s1.sec.waiters ++ [⟨s1.now, none⟩] } ∧ Keeps [.regs, .sec] (s1.beginJob true via j) u))) ∧
  (∀ s via p j s1, Starts s true via p j s1 → p.base = 0x0905 → s1.mcc.extra.length = 120 → fieldOf s1.mcc.extra 0 1 = 1 →
    (s1.tenantOpen = true ∨ s1.fb Fld.SEC_STATUS_SCRUB_REQUIRED = true → Ends (exec (.secDebugUnlock via p) s) via (.refuse 0x0902) (fun u =>
      u.sec = { s1.sec with nonce := none } ∧ Keeps [.sec] (s1.beginJob true via j) u)) ∧
    (s1.tenantOpen = false → s1.fb Fld.SEC_STATUS_SCRUB_REQUIRED = false → s1.lc = 2 →
      Ends (exec (.secDebugUnlock via p) s) via (.refuse 0x0904) (fun u =>
        u.sec = { s1.sec with nonce := none } ∧ Keeps [.sec] (s1.beginJob true via j) u)) ∧
    (s1.tenantOpen = false → s1.fb Fld.SEC_STATUS_SCRUB_REQUIRED = false → s1.lc ≠ 2 →
      if s1.tokenOk s1.mcc.extra then Ends (exec (.secDebugUnlock via p) s) via .done (fun u => u.fb Fld.SEC_STATUS_DEBUG_OPEN = true ∧
        u.sec = { s1.sec with nonce := none } ∧ Keeps [.regs, .sec] (s1.beginJob true via j) u ∧
        RegsKeep [Reg.SEC_STATUS.addr] (s1.beginJob true via j) u)
      else Ends (exec (.secDebugUnlock via p) s) via (.err State.stsSecToken) (fun u => u.sec = { s1.sec with nonce := none } ∧
        Keeps [.sec] (s1.beginJob true via j) u))) ∧
  (∀ s via p j s1, Starts s true via p j s1 → p.base = 0x0906 → s1.mcc.extra.length = 120 →
    ∀ ty, ty ∈ [2, 3, 4] → fieldOf s1.mcc.extra 0 1 = ty → s1.tenantOpen = false → s1.fb Fld.SEC_STATUS_SCRUB_REQUIRED = false →
    (s1.lc = (if ty = 3 then 2 else 1) → ty = 4 ∨ s1.sec.otp.toggles < 16 →
      if s1.tokenOk s1.mcc.extra then Ends (exec (.secLifecycle via p) s) via .done (fun u => u.fb Fld.SEC_STATUS_LC_PENDING = true ∧
        u.lc = s1.lc ∧ u.sec.nonce = none ∧ Keeps [.regs, .sec] (s1.beginJob true via j) u ∧
        u.sec.otp = (if ty = 4 then { s1.sec.otp with rma := true } else { s1.sec.otp with toggles := s1.sec.otp.toggles + 1 }))
      else Ends (exec (.secLifecycle via p) s) via (.err State.stsSecToken) (fun u => u.sec = { s1.sec with nonce := none } ∧
        Keeps [.sec] (s1.beginJob true via j) u)) ∧
    (s1.lc ≠ (if ty = 3 then 2 else 1) → Ends (exec (.secLifecycle via p) s) via (.refuse 0x0903) (fun u =>
      u.sec = { s1.sec with nonce := none } ∧ Keeps [.sec] (s1.beginJob true via j) u))) ∧
  (∀ s via p j s1, Starts s true via p j s1 → p.base = 0x0907 → s1.mcc.extra.length = 97 →
    (s1.sec.otp.owner = 0 → Ends (exec (.secOwnerSet via p) s) via .done (fun u => u.fb Fld.SEC_STATUS_OWNER_SET = true ∧
      u.sec = { s1.sec with otp := { s1.sec.otp with owner := sha384 s1.mcc.extra } } ∧ Keeps [.regs, .sec] (s1.beginJob true via j) u ∧
      RegsKeep [Reg.SEC_STATUS.addr] (s1.beginJob true via j) u)) ∧
    (s1.sec.otp.owner ≠ 0 → exec (.secOwnerSet via p) s = .next (s1.finish via (.refuse 0x0905)))) ∧
  (∀ s via p j s1, Starts s true via p j s1 → p.base = 0x0903 →
    (4 ≤ p.u32 24 → p.u32 24 ≤ 4096 → ∀ u m w r k, (s1.beginJob true via j).hostLoad (p.u64 16) (p.u32 24) = (u, some m) →
      u.spdmRun false false m = (w, some (r, k)) →
      let bs := Config.spdmBytes r.1 r.2 k
      (p.u32 36 < bs.length → exec (.secSpdm via p) s = .next (w.finish via .param)) ∧
      (bs.length ≤ p.u32 36 → ∀ z, w.hostStore (p.u64 28) bs = some z → exec (.secSpdm via p) s = .next (z.finish via (.ok bs.length 0)))) ∧
    (p.u32 24 < 4 ∨ 4096 < p.u32 24 → exec (.secSpdm via p) s = .next (s1.finish via .param)))

/-- R498, R501 to R506, Tables 14-4 to 14-6: what Brudo answers to SPDM requests of the I3C transport, alone or in a session: the version,
capabilities and algorithms in order, digests, certificates of slot 0, challenges, measurements, key exchanges for at most two
sessions, and the requests that only a session carries. A message with another code changes nothing in a row. -/
def Obligations.SpdmRequestsAreAnswered : Prop :=
  (∀ (code : Nat) (mk : List Byte → Instr), (code, mk) ∈ [(0x84, Instr.getVersion), (0xE1, .getCapabilities), (0xE3, .negotiateAlgorithms),
      (0x81, .getDigests), (0x82, .getCertificate), (0x83, .challenge), (0xE0, .getMeasurements), (0xE4, .keyExchange), (0xE5, .finish),
      (0xE8, .heartbeat), (0xE9, .keyUpdate), (0xEC, .endSession), (0xFF, .respondIfReady)] →
    ∀ (s : State) (m : List Byte), s.stage = 0 ∨ s.spdmCode true m ≠ code → exec (mk m) s = .next s) ∧
  (∀ (s : State) (m p : List Byte) (ses : Option SpdmSess),
    (SpdmAsks s 0x84 m p ses → SpdmAnswers (exec (.getVersion m) s) ses 0x04 [0x12, 0x13] (fun w => w.sec = { s.sec with conn := (s.sec.conn.1, ⟨1, none⟩) } ∧
      Keeps [.sec] s w)) ∧
    (SpdmAsks s 0xE1 m p ses → SpdmAnswers (exec (.getCapabilities m) s) ses 0x61 [] (fun w => Keeps [.sec] s w ∧
      w.sec = { s.sec with conn := (s.sec.conn.1, { s.sec.conn.2 with phase := max s.sec.conn.2.phase 2 }) })) ∧
    (SpdmAsks s 0xE3 m p ses → SpdmAnswers (exec (.negotiateAlgorithms m) s) ses 0x63 [] (fun w => Keeps [.sec] s w ∧
      w.sec = { s.sec with conn := (s.sec.conn.1, { s.sec.conn.2 with phase := 3 }) })) ∧
    (SpdmAsks s 0x81 m p ses → SpdmAnswers (exec (.getDigests m) s) ses 0x01 [1, Config.measure 0] (fun w => w = s)) ∧
    (SpdmAsks s 0x82 m p ses →
      (fieldOf p 2 1 % 16 = 0 → SpdmAnswers (exec (.getCertificate m) s) ses 0x02 [0, fieldOf p 4 2, fieldOf p 6 2] (fun w => w = s)) ∧
      (fieldOf p 2 1 % 16 ≠ 0 → SpdmAnswers (exec (.getCertificate m) s) ses 0x7F [1, 0] (fun w => w = s))) ∧
    (SpdmAsks s 0x83 m p ses → s.drbgReady = true → fieldOf p 2 1 % 16 = 0 → s.fb Fld.SEC_STATUS_COMMIT = false →
      ∃ v, v < 2 ^ 256 ∧ SpdmAnswers (exec (.challenge m) s) ses 0x03 [v] (fun w => Keeps [.free] s w)) ∧
    (SpdmAsks s 0x83 m p ses → s.drbgReady = false → Goes (exec (.challenge m) s) (fun u => Keeps [.regs, .sec] s u ∧
      u.sec = { s.sec with waiters := s.sec.waiters ++ [⟨s.now, some m⟩] })) ∧
    (SpdmAsks s 0xE0 m p ses → bit (fieldOf p 2 1) 0 = false → s.fb Fld.SEC_STATUS_COMMIT = false →
      (fieldOf p 3 1 = 0 → SpdmAnswers (exec (.getMeasurements m) s) ses 0x60 [s.measureBlocks.length, s.measureStatus] (fun w => w = s)) ∧
      (fieldOf p 3 1 ∈ s.measureBlocks → s.unmeasured (fieldOf p 3 1) = false →
        SpdmAnswers (exec (.getMeasurements m) s) ses 0x60 (s.measureBlock (fieldOf p 3 1) ++ [s.measureStatus]) (fun w => w = s)) ∧
      (fieldOf p 3 1 ∈ s.measureBlocks → s.unmeasured (fieldOf p 3 1) = true → ∃ e t r,
        SpdmAnswers (exec (.getMeasurements m) s) ses 0x7F [0x42, 0, e, 0xE0, t, r] (fun w => Keeps [.sec, .free] s w ∧
          (w.spdmConn true).deferred = some (t, m)))) ∧
    (SpdmAsks s 0xE4 m p ses → s.drbgReady = true →
      ((s.sec.sessions.filter (fun x => x.i3c)).length < 2 → ∃ v r, v < 2 ^ 16 ∧ SpdmAnswers (exec (.keyExchange m) s) ses 0x64 [v, r] (fun w =>
        Keeps [.sec, .free] s w ∧ w.sec = { s.sec with
          secrets := s.sec.secrets + 1
          sessions := s.sec.sessions ++ [⟨fieldOf p 4 2 + v * 2 ^ 16, true, false, s.sec.secrets + 1⟩] })) ∧
      (2 ≤ (s.sec.sessions.filter (fun x => x.i3c)).length → SpdmAnswers (exec (.keyExchange m) s) ses 0x7F [0x0A, 0] (fun w => w = s))) ∧
    (SpdmAsks s 0xE5 m p ses → match ses with
      | none => SpdmAnswers (exec (.finish m) s) ses 0x7F [4, 0] (fun w => w = s)
      | some x => if Config.spdmFinish x.secret p then
          SpdmAnswers (exec (.finish m) s) ses 0x65 [] (fun w => Keeps [.sec] s w ∧ w.sec.lastI3c = some x.secret ∧
            w.sec.sessions = s.sec.sessions.map (fun z => if z = x then { z with done := true } else z))
        else SpdmAnswers (exec (.finish m) s) ses 0x7F [6, 0] (fun w => Keeps [.sec] s w ∧ w.sec.sessions = s.sec.sessions.erase x)) ∧
    (SpdmAsks s 0xE8 m p ses → let inside := match ses with | some x => x.done | none => false
      (inside = true → SpdmAnswers (exec (.heartbeat m) s) ses 0x68 [] (fun w => w = s)) ∧
      (inside = false → SpdmAnswers (exec (.heartbeat m) s) ses 0x7F [4, 0] (fun w => w = s))) ∧
    (SpdmAsks s 0xE9 m p ses → let inside := match ses with | some x => x.done | none => false
      (inside = true → SpdmAnswers (exec (.keyUpdate m) s) ses 0x69 [fieldOf p 2 1, fieldOf p 3 1] (fun w => w = s)) ∧
      (inside = false → SpdmAnswers (exec (.keyUpdate m) s) ses 0x7F [4, 0] (fun w => w = s))) ∧
    (SpdmAsks s 0xEC m p ses → match ses with
      | none => SpdmAnswers (exec (.endSession m) s) ses 0x7F [4, 0] (fun w => w = s)
      | some x => SpdmAnswers (exec (.endSession m) s) ses 0x6C [] (fun w => Keeps [.sec] s w ∧ w.sec.sessions = s.sec.sessions.erase x)) ∧
    (∀ t d q sq, SpdmAsks s 0xFF m p ses → (s.spdmConn true).deferred = some (t, d) → t = fieldOf p 3 1 → fieldOf p 2 1 = 0xE0 →
      SpdmAsks s 0xE0 d q sq → fieldOf q 3 1 = 0 → bit (fieldOf q 2 1) 0 = false → s.fb Fld.SEC_STATUS_COMMIT = false →
      SpdmAnswers (exec (.respondIfReady m) s) ses 0x60 [s.measureBlocks.length, s.measureStatus] (fun w => w = s)) ∧
    (SpdmAsks s 0xFF m p ses → (s.spdmConn true).deferred = none → SpdmAnswers (exec (.respondIfReady m) s) ses 0x7F [1, 0] (fun w => w = s)))

/-- R519, R520, R521: a failing health test stops the DRBG and counts, the third in a row for good; the start-up tests start it, and a request
that waited is served; one that has waited a millisecond ends; passing for a second forgets the failures; a reseed shows nowhere. -/
def Obligations.EntropyEventsHappen : Prop :=
  (∀ (s : State), let run := min 3 (s.fd Fld.SEC_TRNG_STATUS_FAIL_RUN + 1)
    Goes (exec .trngHealthFail s) (fun u => u.rd Reg.SEC_TRNG_FAIL_CNT = satAdd (2 ^ 32 - 1) (s.rd Reg.SEC_TRNG_FAIL_CNT) 1 ∧
      u.fd Fld.SEC_TRNG_STATUS_FAIL_RUN = run ∧ u.fb Fld.SEC_TRNG_STATUS_DRBG_READY = false ∧ u.fb Fld.SEC_TRNG_STATUS_STARTUP = true ∧
      u.mem = s.mem ∧ (run < 3 → Keeps [.regs] s u) ∧
      (run = 3 → s.sec.otp.entropyFail = false → u.sec.otp = { s.sec.otp with entropyFail := true } ∧
        u.fb Fld.SEC_TRNG_STATUS_ENTROPY_FAIL = true ∧ bit (u.rd Reg.HIF_URGENT_CAUSE) 6 = true ∧ u.fd Fld.RAS_HEALTH_STATE = 3))) ∧
  (∀ (s : State), s.sec.otp.entropyFail = false → s.sec.waiters = [] → Goes (exec .trngStartupPass s) (fun u =>
    u.fb Fld.SEC_TRNG_STATUS_STARTUP = false ∧ u.drbgReady = true ∧ u.sec = { s.sec with passing := s.now } ∧ Keeps [.regs, .sec] s u ∧
    RegsKeep [Reg.SEC_TRNG_STATUS.addr] s u)) ∧
  (∀ (s : State) (t : Nat) (j : Job), s.sec.otp.entropyFail = false → s.sec.waiters = [⟨t, none⟩] → s.mcc.cur = some j → j.pkt.base = 0x0904 →
    ∃ v, v < 2 ^ 64 ∧ GoesOn (exec .trngStartupPass s) (fun w => w.mccReply (.ok 0 v)) (fun w => w.sec.waiters = [] ∧
      w.sec.nonce = some (v, s.now) ∧ Keeps [.regs, .sec, .free] s w)) ∧
  (∀ (s : State), s.sec.otp.entropyFail = true → Goes (exec .trngStartupPass s) (fun u => u.fb Fld.SEC_TRNG_STATUS_STARTUP = false ∧
    u.fb Fld.SEC_TRNG_STATUS_DRBG_READY = s.fb Fld.SEC_TRNG_STATUS_DRBG_READY ∧ Keeps [.regs, .sec] s u)) ∧
  (∀ (s : State) (t : Nat) (j : Job), s.sec.waiters = [⟨t, none⟩] → s.mcc.cur = some j → j.pkt.base ∈ [0x0900, 0x0904, 0x0120] →
    (t + 10 ^ 6 ≤ s.now → GoesOn (exec .entropyWaitTimeout s) (fun w => w.mccReply (.err Sts.entropyFault)) (fun w => w.sec.waiters = [] ∧
      Keeps [.regs, .sec] s w)) ∧
    (s.now < t + 10 ^ 6 → Goes (exec .entropyWaitTimeout s) (fun u => Keeps [.regs] s u ∧ RegsKeep [Reg.SEC_TRNG_STATUS.addr] s u))) ∧
  (∀ (s : State),
    (s.fb Fld.SEC_TRNG_STATUS_STARTUP = false → s.sec.passing + 10 ^ 9 ≤ s.now → Goes (exec .entropyStableExpiry s) (fun u =>
      u.fd Fld.SEC_TRNG_STATUS_FAIL_RUN = 0 ∧ Keeps [.regs] s u ∧ RegsKeep [Reg.SEC_TRNG_STATUS.addr] s u)) ∧
    (s.fb Fld.SEC_TRNG_STATUS_STARTUP = true ∨ s.now < s.sec.passing + 10 ^ 9 → exec .entropyStableExpiry s = .next s)) ∧
  (∀ (s : State), exec .drbgReseedPeriod s = .next s)

/-! ## 15: Clocks and time -/

/-- R526 to R533, R535, R537 to R539, R548: a source that misses edges or deviates by more than 1% fails and is no longer READY; OSC200 takes over
at once where it was selected; a source becomes READY after 100 good windows; AUTO prefers a qualified LINK, and a manual choice must be
READY; a switch ends with its reply. Spread is set per die. An island is gated when its crossings are empty and ungated with its reply. -/
def Obligations.ClocksChange : Prop :=
  (∀ (s : State) (tcxo link osc : Nat) (cal : Int) (locked : Bool),
    (s.clkSrc = 0 → s.clk.target = none → s.clkReady 1 = true → s.clkReady 2 = false →
      State.offBy 100 tcxo 1000 (10 ^ 8) (10 ^ 8 + s.oscCal) = true →
      Goes (exec (.clkMonitorWindow tcxo link osc cal locked) s) (fun u => u.clkReady 1 = false ∧ bit (u.rd Reg.CLK_FAIL) 1 = true ∧
        bit (u.rd Reg.HIF_URGENT_CAUSE) 7 = true ∧ u.mem = s.mem ∧ u.clk.goodTcxo = 1)) ∧
    (s.fb Fld.CLK_STATUS_MODE = false → s.rd Reg.CLK_READY = 0 → 99 ≤ s.clk.goodTcxo → s.clkSrc = 0 →
      State.offBy 200 ((((tcxo, link) :: s.clk.counts.take 99).map (·.1)).sum) 100000 (10 ^ 8) (10 ^ 8 + s.oscCal) = false →
      Goes (exec (.clkMonitorWindow tcxo link osc cal locked) s) (fun u => u.clkReady 1 = true ∧
        u.clk.counts = (tcxo, link) :: s.clk.counts.take 99 ∧ Keeps [.regs, .clk] s u ∧ RegsKeep [Reg.CLK_READY.addr] s u))) ∧
  (∀ (s : State) (c : Nat), c < 3 → s.clkReady c = true → s.clk.target = none →
    (c ≠ s.clkSrc ∨ c = 0 → Goes (exec (.missingEdge c) s) (fun u => u.clkReady c = false ∧ bit (u.rd Reg.CLK_FAIL) c = true ∧
      bit (u.rd Reg.HIF_URGENT_CAUSE) 7 = true ∧ u.clkSrc = s.clkSrc ∧ u.mem = s.mem)) ∧
    (c = s.clkSrc → c ≠ 0 → s.clkReady 0 = true → Goes (exec (.missingEdge c) s) (fun u => u.clkReady c = false ∧ bit (u.rd Reg.CLK_FAIL) c = true ∧
      bit (u.rd Reg.HIF_URGENT_CAUSE) 0 = true ∧ u.clkSrc = 0 ∧ u.fb Fld.CLK_STATUS_MODE = false ∧ u.mem = s.mem))) ∧
  (∀ (s : State) (c : Nat), 3 ≤ c ∨ s.clkReady c = false → exec (.missingEdge c) s = .next s) ∧
  (∀ (s : State),
    (s.fb Fld.CLK_FAIL_OSC = false → s.fb Fld.CLK_STATUS_MODE = false → Goes (exec .osc200Ready s) (fun u => u.clkReady 0 = true ∧
      Keeps [.regs] s u ∧ RegsKeep [Reg.CLK_READY.addr] s u)) ∧
    (s.fb Fld.CLK_FAIL_OSC = true → exec .osc200Ready s = .next s)) ∧
  (∀ (s : State),
    (s.clkReady 2 = true → s.fb Fld.CLK_STATUS_MODE = true → s.clkSrc ≠ 2 → s.clk.target = none → Goes (exec .linkQualExpiry s) (fun u =>
      u.clk = { s.clk with qualified := true, target := some (2, s.clkSrc, false) } ∧ u.fb Fld.CLK_STATUS_SWITCHING = true ∧
      Keeps [.regs, .clk] s u ∧ RegsKeep [Reg.CLK_STATUS.addr] s u)) ∧
    (s.clkReady 2 = false → exec .linkQualExpiry s = .next s)) ∧
  (∀ (s : State),
    (∀ c f, c < 3 → s.clk.target = some (c, f, false) → Goes (exec .clkSwitchComplete s) (fun u => u.clkSrc = c ∧
      u.fb Fld.CLK_STATUS_SWITCHING = false ∧ u.clk = { s.clk with target := none } ∧ Keeps [.regs, .clk] s u)) ∧
    (∀ c f, c < 3 → s.clk.target = some (c, f, true) → GoesOn (exec .clkSwitchComplete s) (fun w => w.mccReply .done) (fun w => w.clkSrc = c ∧
      w.fb Fld.CLK_STATUS_SWITCHING = false ∧ w.clk = { s.clk with target := none } ∧ Keeps [.regs, .clk] s w)) ∧
    (s.clk.target = none → exec .clkSwitchComplete s = .next s)) ∧
  (∀ s via p j s1, Starts s true via p j s1 → p.base = 0x0A00 → p.expert = true → p.u8 16 = 0 → p.u8 17 ≤ 2 →
    (s1.clkReady (p.u8 17) = false → exec (.clkSrcSet via p) s = .next (s1.finish via (.refuse 0x0A01))) ∧
    (s1.clkReady (p.u8 17) = true → p.u8 17 = s1.clkSrc → s1.clk.target = none → Ends (exec (.clkSrcSet via p) s) via .done (fun u =>
      u.fb Fld.CLK_STATUS_MODE = false ∧ u.clkSrc = s1.clkSrc ∧ Keeps [.regs] (s1.beginJob true via j) u)) ∧
    (s1.clkReady (p.u8 17) = true → p.u8 17 ≠ s1.clkSrc → s1.clk.target = none → Goes (exec (.clkSrcSet via p) s) (fun u =>
      u.fb Fld.CLK_STATUS_MODE = false ∧ u.clk = { s1.clk with target := some (p.u8 17, s1.clkSrc, true) } ∧
      u.fb Fld.CLK_STATUS_SWITCHING = true ∧ Keeps [.regs, .clk] (s1.beginJob true via j) u))) ∧
  (∀ s via p j s1, Starts s true via p j s1 → p.base = 0x0A01 → p.expert = true →
    (p.u8 16 ≤ 1 → p.u8 17 ≤ 20 → 30 ≤ p.u8 18 → p.u8 18 ≤ 63 → Ends (exec (.clkSscSet via p) s) via .done (fun u =>
      Keeps [.regs] (s1.beginJob true via j) u ∧ RegsKeep [Reg.CLK_SSC.addr] (s1.beginJob true via j) u ∧
      (p.u8 16 = 0 → u.fd Fld.CLK_SSC_SPREAD_W = p.u8 17 ∧ u.fd Fld.CLK_SSC_RATE_W = p.u8 18 ∧
        u.fd Fld.CLK_SSC_SPREAD_E = s1.fd Fld.CLK_SSC_SPREAD_E ∧ u.fd Fld.CLK_SSC_RATE_E = s1.fd Fld.CLK_SSC_RATE_E) ∧
      (p.u8 16 = 1 → u.fd Fld.CLK_SSC_SPREAD_E = p.u8 17 ∧ u.fd Fld.CLK_SSC_RATE_E = p.u8 18 ∧
        u.fd Fld.CLK_SSC_SPREAD_W = s1.fd Fld.CLK_SSC_SPREAD_W ∧ u.fd Fld.CLK_SSC_RATE_W = s1.fd Fld.CLK_SSC_RATE_W))) ∧
    (1 < p.u8 16 ∨ 20 < p.u8 17 ∨ p.u8 18 < 30 ∨ 63 < p.u8 18 → exec (.clkSscSet via p) s = .next (s1.finish via .param))) ∧
  (∀ s via p j s1, Starts s true via p j s1 → p.base = 0x0A02 → p.u8 17 ≤ 1 → State.gateable (p.u8 16) = true →
    (s1.fuse.video = true ∨ p.u8 16 < 82 ∨ 87 ≤ p.u8 16) →
    (s1.islandSpare (p.u8 16) = true → exec (.clkGateSet via p) s = .next (s1.finish via (.refuse 0x0A04))) ∧
    (s1.islandSpare (p.u8 16) = false → p.u8 17 = 0 → s1.islandOn (p.u8 16) = true → s1.mayGate (p.u8 16) = false →
      exec (.clkGateSet via p) s = .next (s1.finish via (.refuse 0x0A02))) ∧
    (s1.islandSpare (p.u8 16) = false → s1.islandOn (p.u8 16) = (p.u8 17 == 1) → (p.u8 17 = 0 ∨ s1.islandOn (p.u8 16) = true) →
      Ends (exec (.clkGateSet via p) s) via .done (fun u => u = s1.beginJob true via j)) ∧
    (s1.islandSpare (p.u8 16) = false → p.u8 17 = 0 → s1.islandOn (p.u8 16) = true → s1.mayGate (p.u8 16) = true →
      Goes (exec (.clkGateSet via p) s) (fun u => u.clk = { s1.clk with gating := s1.clk.gating.filter (· != p.u8 16) ++ [p.u8 16] } ∧
        Keeps [.clk] (s1.beginJob true via j) u)) ∧
    (s1.islandSpare (p.u8 16) = false → p.u8 17 = 1 → s1.islandOn (p.u8 16) = false → hasPstate (p.u8 16) = true →
      s1.pwr.wakes.contains (p.u8 16, true) = false →
      Goes (exec (.clkGateSet via p) s) (fun u => u.pwr = { s1.pwr with wakes := s1.pwr.wakes ++ [(p.u8 16, true)] } ∧
        Keeps [.regs, .pwr] (s1.beginJob true via j) u)) ∧
    (s1.islandSpare (p.u8 16) = false → p.u8 17 = 1 → s1.islandOn (p.u8 16) = false → hasPstate (p.u8 16) = false → via = .mcc →
      GoesOn (exec (.clkGateSet via p) s) (fun w => w.mccReply .done) (fun w => w.islandOn (p.u8 16) = true ∧ w.mem = s1.mem))) ∧
  (∀ (s : State) (i : Nat), i < 100 →
    (i ∈ s.clk.gating → s.gateCmd i = false → Goes (exec (.gateCrossingEmpty i) s) (fun u => u.islandOn i = false ∧
      (∀ k, k < 100 → k ≠ i → u.islandOn k = s.islandOn k) ∧ u.clk = { s.clk with gating := s.clk.gating.filter (· != i) } ∧
      Keeps [.regs, .clk] s u)) ∧
    (i ∈ s.clk.gating → s.gateCmd i = true → GoesOn (exec (.gateCrossingEmpty i) s) (fun w => w.mccReply .done) (fun w => w.islandOn i = false ∧
      (∀ k, k < 100 → k ≠ i → w.islandOn k = s.islandOn k) ∧ w.clk = { s.clk with gating := s.clk.gating.filter (· != i) } ∧
      Keeps [.regs, .clk] s w)) ∧
    (i ∉ s.clk.gating → exec (.gateCrossingEmpty i) s = .next s))

/-- R541 to R546: TIME_NS is set once to the time that SYNC carries and the link's delay; later SYNCs only show the offset, and a large one is
TIME_FAULT. DELAY_REQ is answered with its arrival time, DELAY_RSP measures a link, and SYNC and DELAY_REQ go out at their periods. -/
def Obligations.TimeIsKept : Prop :=
  (∀ (s : State) (l : Nat) (m : List Byte), fieldOf m 0 1 = 0x10 → l = s.fd Fld.ATY_FAB_CFG_UPSTREAM_LINK → l < 16 → s.linkState l = State.pUp →
    s.downLinks = [] →
    let t : Nat := (fieldOf m 8 8 + (s.link l).delay) % 2 ^ 64
    let d : Int := (s.now : Int) - t
    (s.fb Fld.CLK_TIME_STATUS_SYNCED = false → s.clk.measured = true → s.rim.sched = none → s.rim.commit = none → s.plt.1.gate = none →
      s.plt.1.gateNext = none → s.plt.2.gate = none → s.plt.2.gateNext = none →
      Goes (exec (.sync l m) s) (fun u => u.now = t ∧ u.rd Reg.CLK_TIME_STEP = ofInt 64 ((t : Int) - s.now) ∧
        u.fb Fld.CLK_TIME_STATUS_SYNCED = true ∧ u.fd Fld.CLK_TIME_STATUS_OFFSET = 0 ∧ u.fd Fld.CLK_TIME_STATUS_HOPS = fieldOf m 1 1 % 16 ∧
        u.clk = { s.clk with heard := true } ∧ u.mem = s.mem ∧
        (∀ j, s.mcc.cur = some j → u.mcc.cur = some (State.stepJob t j)))) ∧
    (s.fb Fld.CLK_TIME_STATUS_SYNCED = false → s.clk.measured = false → Goes (exec (.sync l m) s) (fun u => u.now = s.now ∧
      u.fd Fld.CLK_TIME_STATUS_HOPS = fieldOf m 1 1 % 16 ∧ Keeps [.regs, .clk] s u ∧ RegsKeep [Reg.CLK_TIME_STATUS.addr] s u)) ∧
    (s.fb Fld.CLK_TIME_STATUS_SYNCED = true → Goes (exec (.sync l m) s) (fun u => u.now = s.now ∧
      u.fd Fld.CLK_TIME_STATUS_OFFSET = ofInt 20 (max (-524288) (min 524287 d)) ∧
      (10000 < d.natAbs → u.fb Fld.CLK_TIME_STATUS_TIME_FAULT = true) ∧ (d.natAbs < 1000 → u.fb Fld.CLK_TIME_STATUS_TIME_FAULT = false) ∧
      u.fb Fld.CLK_TIME_STATUS_HOLDOVER = bit (fieldOf m 2 1) 0 ∧ u.mem = s.mem))) ∧
  (∀ (s : State) (l : Nat) (m : List Byte), fieldOf m 0 1 ≠ 0x10 ∨ l ≠ s.fd Fld.ATY_FAB_CFG_UPSTREAM_LINK →
    exec (.sync l m) s = .next s) ∧
  (∀ (s : State) (l : Nat) (m : List Byte), l < 16 → s.linkState l = State.pUp → fieldOf m 0 1 = 0x11 →
    GoesOn (exec (.delayReq l m) s) (fun w => w.enqueue l ⟨3, false, State.timeBytes 0x12 0 0 s.clk.seq s.now s.now⟩) (fun w =>
      w.clk = { s.clk with seq := (s.clk.seq + 1) % 2 ^ 32 } ∧ Keeps [.clk] s w)) ∧
  (∀ (s : State) (l : Nat) (m : List Byte), s.linkState l ≠ State.pUp → exec (.delayReq l m) s = .next s) ∧
  (∀ (s : State) (l : Nat) (m : List Byte), l < 16 → s.linkState l = State.pUp → fieldOf m 0 1 = 0x12 →
    (∀ t1, (s.link l).asked = some t1 →
      let d : Int := (((s.now : Int) - t1) - ((fieldOf m 8 8 : Int) - fieldOf m 16 8)) / 2
      Goes (exec (.delayRsp l m) s) (fun u => u.link l = { s.link l with asked := none, delay := min (2 ^ 32 - 1) d.toNat } ∧
        (∀ k, k ≠ l → u.link k = s.link k) ∧ Keeps [.regs, .fab, .clk] s u ∧
        (l = s.fd Fld.ATY_FAB_CFG_UPSTREAM_LINK → u.rd Reg.CLK_TIME_DELAY = min (2 ^ 32 - 1) d.toNat ∧ u.clk = { s.clk with measured := true }) ∧
        (l ≠ s.fd Fld.ATY_FAB_CFG_UPSTREAM_LINK → u.clk = s.clk ∧ u.regs = s.regs))) ∧
    ((s.link l).asked = none → exec (.delayRsp l m) s = .next s)) ∧
  (∀ (s : State),
    (s.fb Fld.CLK_TIME_STATUS_SYNCED = true → Goes (exec .syncLoss s) (fun u => u.fb Fld.CLK_TIME_STATUS_HOLDOVER = true ∧ Keeps [.regs] s u ∧
      RegsKeep [Reg.CLK_TIME_STATUS.addr] s u)) ∧
    (s.fb Fld.CLK_TIME_STATUS_SYNCED = false → exec .syncLoss s = .next s)) ∧
  (∀ (s : State) (l : Nat), s.downLinks = [l] → l < 16 → s.linkState l = State.pUp →
    let hops := s.fd Fld.CLK_TIME_STATUS_HOPS + 1
    (s.fb Fld.CLK_TIME_STATUS_SYNCED = true → hops ≤ 15 → GoesOn (exec .timeSyncSend s) (fun w => w.enqueue l ⟨3, false,
        State.timeBytes 0x10 hops (s.fd Fld.CLK_TIME_STATUS_HOLDOVER) s.clk.seq s.now 0⟩) (fun w =>
      w.clk = { s.clk with seq := (s.clk.seq + 1) % 2 ^ 32 } ∧ Keeps [.clk] s w)) ∧
    (s.fb Fld.CLK_TIME_STATUS_SYNCED = false → exec .timeSyncSend s = .next s)) ∧
  (∀ (s : State) (l : Nat), s.fd Fld.ATY_FAB_CFG_UPSTREAM_LINK = l → l < 16 → s.linkState l = State.pUp → s.downLinks = [] →
    GoesOn (exec .delayMeasurePeriod s) (fun w => w.enqueue l ⟨3, false, State.timeBytes 0x11 0 0 s.clk.seq s.now 0⟩) (fun w =>
      w.link l = { s.link l with asked := some s.now } ∧ w.clk = { s.clk with seq := (s.clk.seq + 1) % 2 ^ 32 } ∧ Keeps [.fab, .clk] s w))

/-! ## 16: Power -/

/-- R552, R553, R556 to R559, R564, R565, R568, R570: power commands set ceilings, FIXED and the cap; a warning or an alert puts every core-PLL
island into the floor state and stops wakes until it ends; a faulting phase spends a spare or costs a phase and cap; telemetry and energy
are shown. -/
def Obligations.PowerCommandsAndWarnings : Prop :=
  (∀ s via p j s1, Starts s true via p j s1 → p.base = 0x0A10 → p.expert = true → p.u8 21 ≤ 4 → s1.pwrAbsent p = false →
    (s1.pwrRim p = false → (s1.pwrNamed p).any s1.pFixed = false → Ends (exec (.pwrPstateSet via p) s) via .done (fun u =>
      Keeps [.regs, .pwr] (s1.beginJob true via j) u ∧
      (∀ i ∈ s1.pwrNamed p, u.pCeil i = p.u8 21 ∧ u.pWant i = (if s1.pWant i = s1.pCeil i then p.u8 21 else max (s1.pWant i) (p.u8 21))) ∧
      (∀ i, i ∉ s1.pwrNamed p → u.pCeil i = s1.pCeil i ∧ u.pWant i = s1.pWant i))) ∧
    (s1.pwrRim p = true → exec (.pwrPstateSet via p) s = .next (s1.finish via (.refuse 0x0A05))) ∧
    (s1.pwrRim p = false → (s1.pwrNamed p).any s1.pFixed = true → exec (.pwrPstateSet via p) s = .next (s1.finish via (.refuse 0x0A06)))) ∧
  (∀ s via p j s1, Starts s true via p j s1 → p.base = 0x0A11 → s1.pwrAbsent p = false →
    (p.u8 21 = 1 → Ends (exec (.pwrFixedSet via p) s) via .done (fun u => Keeps [.regs, .pwr] (s1.beginJob true via j) u ∧
      ∀ i ∈ s1.pwrNamed p, u.pFixed i = true ∧ u.pCeil i = 1 ∧ u.pWant i = 1)) ∧
    (p.u8 21 = 0 → s1.pwrRim p = false → Ends (exec (.pwrFixedSet via p) s) via .done (fun u => Keeps [.regs] (s1.beginJob true via j) u ∧
      ∀ i ∈ s1.pwrNamed p, u.pFixed i = false)) ∧
    (p.u8 21 = 0 → s1.pwrRim p = true → exec (.pwrFixedSet via p) s = .next (s1.finish via (.refuse 0x0A05)))) ∧
  (∀ s via p j s1, Starts s true via p j s1 → p.base = 0x0A12 → p.expert = true →
    (400 ≤ p.u16 16 → p.u16 16 ≤ s1.capRange → Ends (exec (.pwrCapSet via p) s) via .done (fun u => u.fd Fld.PWR_CFG_CAP_W = p.u16 16 ∧
      Keeps [.regs] (s1.beginJob true via j) u ∧ RegsKeep [Reg.PWR_CFG.addr] (s1.beginJob true via j) u)) ∧
    (p.u16 16 < 400 ∨ s1.capRange < p.u16 16 → exec (.pwrCapSet via p) s = .next (s1.finish via .param))) ∧
  (∀ (s : State),
    (s.pfw = false → Goes (exec .powerFailWarning s) (fun u => u.pfw = true ∧ u.fb Fld.PWR_STATUS_PFW_SEEN = true ∧
      u.fb Fld.PWR_STATUS_ADMIT_STOPPED = true ∧ bit (u.rd Reg.HIF_URGENT_CAUSE) 1 = true ∧ (∃ r ∈ u.log, r.code = 0x0C84) ∧
      (∀ i ∈ s.corePlls, u.pState i = pFloor ∧ u.fb (Fld.PWR_ISL_FORCED_FLOOR i) = true ∧ u.pFloored i = true) ∧ u.mem = s.mem)) ∧
    (s.pfw = true → exec .powerFailWarning s = .next s)) ∧
  (∀ (s : State),
    (s.pfw = true → GoesOn (exec .pfwRelease s) (fun w => ((List.range 32).foldl (fun s t => s.pump t) w).flashKick.pwrSettle) (fun w =>
      w.pfw = false ∧ (∀ e ∈ w.pwr.floors, e.2 = 1 → 100 ≤ e.1) ∧ 2 ∉ w.rim.holds ∧ w.mem = s.mem)) ∧
    (s.pfw = false → exec .pfwRelease s = .next s)) ∧
  (∀ (s : State),
    (s.fb Fld.PWR_STATUS_REG_ALERT = false → Goes (exec .regAlert s) (fun u => u.fb Fld.PWR_STATUS_REG_ALERT = true ∧
      u.fb Fld.PWR_STATUS_REG_ALERT_SEEN = true ∧ u.fb Fld.PWR_STATUS_ADMIT_STOPPED = true ∧ bit (u.rd Reg.HIF_URGENT_CAUSE) 2 = true ∧
      (∀ i ∈ s.corePlls, u.pState i = pFloor ∧ u.fb (Fld.PWR_ISL_FORCED_FLOOR i) = true ∧ u.pFloored i = true) ∧ u.mem = s.mem)) ∧
    (s.fb Fld.PWR_STATUS_REG_ALERT = true → exec .regAlert s = .next s)) ∧
  (∀ (s : State),
    (s.fb Fld.PWR_STATUS_REG_ALERT = true → Goes (exec .regAlertClear s) (fun u => u.fb Fld.PWR_STATUS_REG_ALERT = false ∧
      u.fb Fld.PWR_STATUS_ADMIT_STOPPED = s.pfw ∧ (∀ e ∈ u.pwr.floors, e.2 = 2 → 100 ≤ e.1) ∧ 3 ∉ u.rim.holds ∧ u.mem = s.mem)) ∧
    (s.fb Fld.PWR_STATUS_REG_ALERT = false → exec .regAlertClear s = .next s)) ∧
  (∀ (s : State), let l := (s.log.dropWhile (fun r => r.code != 0x0C84)).take 512
    (l ≠ [] → Goes (exec .logTailCopyDone s) (fun u => u.ras = { s.ras with tail := l.reverse } ∧ u.fb Fld.RST_BKP0_LOG_TAIL_VALID = true ∧
      Keeps [.regs, .ras] s u ∧ RegsKeep [Reg.RST_BKP0.addr] s u)) ∧
    (l = [] → exec .logTailCopyDone s = .next s)) ∧
  (∀ (s : State) (n : Nat), n < 48 →
    let spare := if 24 ≤ n then Fld.PWR_PHASE_E_SPARE else Fld.PWR_PHASE_W_SPARE
    let active := if 24 ≤ n then Fld.PWR_PHASE_E_ACTIVE else Fld.PWR_PHASE_W_ACTIVE
    Goes (exec (.phaseFault n) s) (fun u => u.ras.unsaved.length = s.ras.unsaved.length + 1 ∧ (∃ r ∈ u.log, r.code = 0x0C80) ∧ u.mem = s.mem ∧
      (s.fd spare ≠ 0 → u.fd spare = s.fd spare - 1 ∧ u.fd active = s.fd active ∧ u.fd Fld.PWR_CFG_CAP_W = s.fd Fld.PWR_CFG_CAP_W) ∧
      (s.fd spare = 0 → u.fd spare = 0 ∧ u.fd active = s.fd active - 1 ∧
        u.fd Fld.PWR_CFG_CAP_W = min (s.fd Fld.PWR_CFG_CAP_W) u.capRange))) ∧
  (∀ (s : State) (v i b a1 a2 : Nat), Goes (exec (.regulatorTelemetry v i b a1 a2) s) (fun u => u.fd Fld.PWR_INPUT_V_10MV = min v 65535 ∧
    u.fd Fld.PWR_INPUT_I_10MA = min i 65535 ∧ u.fd Fld.PWR_HOLDUP_V_10MV = min b 65535 ∧ u.fd Fld.PWR_POWER_AVG_100US = min a1 65535 ∧
    u.fd Fld.PWR_POWER_AVG_10MS = min a2 65535 ∧ u.fb Fld.PWR_STATUS_INPUT_LOW = decide (v < 4400) ∧
    u.fb Fld.PWR_STATUS_HOLDUP_FULL = decide (5600 ≤ b) ∧ Keeps [.regs] s u ∧
    RegsKeep [Reg.PWR_INPUT.addr, Reg.PWR_HOLDUP.addr, Reg.PWR_POWER.addr, Reg.PWR_STATUS.addr] s u)) ∧
  (∀ (s : State), Goes (exec .holdupFull s) (fun u => u.fb Fld.PWR_STATUS_HOLDUP_FULL = true ∧ Keeps [.regs] s u ∧
    RegsKeep [Reg.PWR_STATUS.addr] s u)) ∧
  (∀ (s : State) (uj : Nat) (parts : List Nat) (n e served : Nat), n < 128 → s.srv.step = none →
    ((List.range 7).map (fun k => parts.getD k 0)).sum ≤ uj →
    Goes (exec (.energyAccounting uj parts [(n, e)] served) s) (fun u => u.rd Reg.PWR_E_MODULE = (s.rd Reg.PWR_E_MODULE + uj) % 2 ^ 64 ∧
      (∀ k, k < 7 → u.rd (Reg.PWR_E_PART k) = (s.rd (Reg.PWR_E_PART k) + parts.getD k 0) % 2 ^ 64) ∧
      u.rd (Reg.PWR_E_PART 7) = (s.rd (Reg.PWR_E_PART 7) + (uj - ((List.range 7).map (fun k => parts.getD k 0)).sum)) % 2 ^ 64 ∧
      u.rd (Reg.PWR_E_RING n) = (s.rd (Reg.PWR_E_RING n) + e) % 2 ^ 64 ∧ Keeps [.regs] s u))

/-- R36, R554, R555, R558, R560, R562, R563, R566: the power-cap loop lowers the island in the highest state while the average is above the cap;
droop stretches cycles, and an island that stretches too long is lowered; a change of state moves the voltage by 10 mV a step, up before the
frequency and down after it; the next wake clocks its island or ends its floor state; 95 degrees throttle an island, 92 release it. -/
def Obligations.PowerIsManaged : Prop :=
  (∀ (s : State), (∀ i ∈ s.capIslands, s.fb (Fld.PWR_ISL_THROTTLED i) = false) → s.fd Fld.PWR_POWER_AVG_100US ≤ 1900 →
    (∀ k, s.fd Fld.PWR_CFG_CAP_W < s.fd Fld.PWR_POWER_AVG_10MS →
      State.leastOf s.pTarget (((s.capIslands.filter (fun i => s.pTarget i != pFloor)).filter isSite).reverse ++
        (s.capIslands.filter (fun i => s.pTarget i != pFloor)).filter (fun i => !isSite i)) = some k →
      Goes (exec .powerCapLoop s) (fun u => u.pWant k = min pFloor (s.pWant k + 1) ∧ (∀ i, i ≠ k → u.pWant i = s.pWant i) ∧ u.mem = s.mem ∧
        Keeps [.regs, .pwr, .log, .out, .hif] s u)) ∧
    (s.fd Fld.PWR_POWER_AVG_10MS ≤ s.fd Fld.PWR_CFG_CAP_W → 97 * s.fd Fld.PWR_CFG_CAP_W ≤ s.fd Fld.PWR_POWER_AVG_10MS * 100 →
      Goes (exec .powerCapLoop s) (fun u => (∀ i, u.pWant i = s.pWant i) ∧ Keeps [.regs, .pwr, .log, .out, .hif] s u))) ∧
  (∀ (s : State) (i : Nat),
    (corePll i = true → s.islandOn i = true → i ∉ s.pwr.stretching → Goes (exec (.droopDetect i) s) (fun u =>
      u.pwr = { s.pwr with stretching := s.pwr.stretching ++ [i] } ∧ Keeps [.pwr] s u)) ∧
    (corePll i = false ∨ s.islandOn i = false → exec (.droopDetect i) s = .next s) ∧
    Goes (exec (.droopRecover i) s) (fun u => u.pwr = { s.pwr with stretching := s.pwr.stretching.filter (· != i) } ∧ Keeps [.pwr] s u)) ∧
  (∀ (s : State) (i cycles : Nat), corePll i = true → s.islandOn i = true →
    (cycles < 240 → Goes (exec (.stretchLimit i cycles) s) (fun u => Keeps [.regs] s u ∧ RegsKeep [(Reg.PWR_ISL i).addr] s u ∧
      u.fd (Fld.PWR_ISL_STRETCH_MAX i) = min 511 (max (s.fd (Fld.PWR_ISL_STRETCH_MAX i)) cycles))) ∧
    (240 ≤ cycles → hasPstate i = true → s.pFixed i = false → Goes (exec (.stretchLimit i cycles) s) (fun u =>
      u.pWant i = min pFloor (s.pWant i + 1) ∧ (∀ k, k ≠ i → u.pWant k = s.pWant k) ∧
      u.fd (Fld.PWR_ISL_STRETCH_MAX i) = min 511 (max (s.fd (Fld.PWR_ISL_STRETCH_MAX i)) cycles) ∧ Keeps [.regs, .pwr] s u)) ∧
    (240 ≤ cycles → hasPstate i = true → s.pFixed i = true → Goes (exec (.stretchLimit i cycles) s) (fun u =>
      u.rd Reg.PWR_DROOP_EXCESS_CNT = satAdd (2 ^ 32 - 1) (s.rd Reg.PWR_DROOP_EXCESS_CNT) 1 ∧ u.pWant i = s.pWant i ∧
      Keeps [.regs, .pwr] s u))) ∧
  (∀ (s : State) (i : Nat), i < 100 → s.pTarget i ≤ pFloor →
    let t := s.pTarget i
    let c := s.pState i
    let v := s.pVolt i
    (t < c → hasPstate i = true → v < milliVolts t → Goes (exec (.pstateStep i) s) (fun u => u.pVolt i = min (milliVolts t) (v + 10) ∧
      u.pState i = c ∧ Keeps [.pwr] s u)) ∧
    (t < c → hasPstate i = false ∨ milliVolts t ≤ v → Goes (exec (.pstateStep i) s) (fun u => u.pState i = t ∧ u.pVolt i = v ∧
      Keeps [.regs] s u ∧ RegsKeep [(Reg.PWR_ISL i).addr] s u)) ∧
    (c < t → Goes (exec (.pstateStep i) s) (fun u => u.pState i = t ∧ u.pVolt i = v ∧ Keeps [.regs] s u ∧
      RegsKeep [(Reg.PWR_ISL i).addr] s u)) ∧
    (c = t → hasPstate i = true → milliVolts t < v → Goes (exec (.pstateStep i) s) (fun u => u.pVolt i = max (milliVolts t) (v - 10) ∧
      u.pState i = c ∧ Keeps [.pwr] s u)) ∧
    (c = t → hasPstate i = false ∨ v ≤ milliVolts t → exec (.pstateStep i) s = .next s)) ∧
  (∀ (s : State) (i : Nat) (l : List (Nat × Bool)), i < 100 → s.wakeMay = true →
    (s.pwr.wakes = (i, false) :: l → Goes (exec .wakeAdmit s) (fun u => u.pwr.wakes = l ∧ (i, 5) ∉ u.pwr.floors ∧
      u.fb (Fld.PWR_ISL_FORCED_FLOOR i) = false ∧ s.now ∈ u.pwr.started ∧ Keeps [.regs, .pwr] s u)) ∧
    (s.pwr.wakes = (i, true) :: l → s.gateCmd i = false → Goes (exec .wakeAdmit s) (fun u => u.pwr.wakes = l ∧ u.islandOn i = true ∧
      s.now ∈ u.pwr.started ∧ u.mem = s.mem))) ∧
  (∀ (s : State), s.pwr.wakes = [] ∨ s.wakeMay = false → exec .wakeAdmit s = .next s) ∧
  (∀ (s : State) (temps : List Nat), Goes (exec (.islandTempReport temps) s) (fun u =>
    (∀ i, i < 100 → u.fd (Fld.PWR_ISL_TEMP_C i) = min 255 (temps.getD i 0)) ∧
    (∀ i ∈ s.pIslands, (95 ≤ temps.getD i 0 → u.fb (Fld.PWR_ISL_THROTTLED i) = true) ∧
      (temps.getD i 0 ≤ 92 → u.fb (Fld.PWR_ISL_THROTTLED i) = false)) ∧
    (∀ i ∈ s.pIslands, 92 < temps.getD i 0 → temps.getD i 0 < 95 →
      u.fb (Fld.PWR_ISL_THROTTLED i) = s.fb (Fld.PWR_ISL_THROTTLED i)) ∧ u.mem = s.mem))

/-! ## 17: Reset -/

/-- R572 to R583, R550, R565, R567: a reset request sets its cause bit; under a reset of the same or a higher level it does nothing else, during a
flash pulse it is held, and otherwise the reset is entered. A core reset keeps HBM, the flash, fuses and the host's memory, clears SRAM and
closes the tenant; a system reset keeps the flash, fuses and the RAS store only. Loss of supply and a thermal trip enter a system reset
at once. RST_REQ resets a unit, or the module where nothing forbids it. -/
def Obligations.ResetsAreEntered : Prop :=
  (∀ (i : Instr) (level b : Nat), (i, level, b) ∈ [(Instr.brudoWatchdog, 2, 10), (.functionLevelReset, 1, 8), (.hotReset, 1, 7)] → ∀ (s : State),
    (level ≤ s.rst.level → Goes (exec i s) (fun u => bit (u.rd Reg.RST_CAUSE) b = true ∧ Keeps [.regs] s u ∧ RegsKeep [Reg.RST_CAUSE.addr] s u)) ∧
    (s.rst.level = 0 → s.rst.hold = none → s.pulsing = true → Goes (exec i s) (fun u => bit (u.rd Reg.RST_CAUSE) b = true ∧
      u.fb Fld.RST_CAUSE_HELD = true ∧ u.fb Fld.RST_STATUS_HOLD_PENDING = true ∧ u.rst = { s.rst with hold := some level } ∧
      Keeps [.regs, .rst] s u ∧ RegsKeep [Reg.RST_CAUSE.addr, Reg.RST_STATUS.addr] s u)) ∧
    (s.rst.level = 0 → s.rst.hold = none → s.pulsing = false → s.lane = 0 → s.ecc.retiring = [] → (∀ e ∈ s.fab.bert, e.own = false) →
      Goes (exec i s) (fun u => bit (u.rd Reg.RST_CAUSE) b = true ∧ u.fd Fld.RST_CAUSE_LEVEL = level ∧ u.rst.level = level ∧
        u.stage = 0 ∧ u.host = s.host))) ∧
  (∀ (s : State) (c : Nat) (i : Instr), i ∈ [Instr.functionLevelReset, .hotReset, .mgmtWatchdog c, .debugResetRequest false, .coreReset] →
    (i = .mgmtWatchdog c → c ∉ s.dbg.halted) → (i = .debugResetRequest false → s.fb Fld.SEC_STATUS_DEBUG_OPEN = true) →
    s.rst.level = 0 → s.pulsing = false → Goes (exec i s) (fun u => u.rst.level = 1 ∧ u.rst.hold = none ∧ u.rst.job = none ∧
      u.rst.flash = s.rst.flash ∧ u.mcc = State.reset.mcc ∧ u.eng = [] ∧ u.hif = State.reset.hif ∧ u.rim = State.reset.rim ∧ u.srv = State.reset.srv ∧
      u.vid = State.reset.vid ∧ u.crl = State.reset.crl ∧ u.ras.holders = [] ∧ u.ras.queue = [] ∧ u.sec.tenant = 0 ∧ u.sec.session = 0 ∧
      u.sec.otp = s.sec.otp ∧ u.fuse = s.fuse ∧ u.pins = s.pins ∧ u.pending = s.pending ∧
      (∀ a, 2 ^ 48 ≤ a → a < 2 ^ 48 + 2 ^ 28 → u.byte a = 0) ∧ (∀ a, a < 2 ^ 48 → u.byte a = s.byte a))) ∧
  (∀ (s : State) (i : Instr), i ∈ [Instr.brudoWatchdog, .perstFall true, .debugResetRequest true, .systemReset] →
    (i = .debugResetRequest true → s.fb Fld.SEC_STATUS_DEBUG_OPEN = true) → s.rst.level ≤ 1 → s.pulsing = false →
    Goes (exec i s) (fun u => u.rst = { State.reset.rst with unpowered := s.rst.unpowered, tripped := s.rst.tripped, flash := s.rst.flash } ∧
      u.mem = [] ∧ u.host = s.host ∧ u.fuse = s.fuse ∧ u.sec = { State.reset.sec with otp := s.sec.otp } ∧
      u.ras = { State.reset.ras with store := s.ras.store, tail := s.ras.tail } ∧ u.mcc = State.reset.mcc ∧ u.eng = State.reset.eng ∧
      u.tiles = State.reset.tiles ∧ u.log = State.reset.log ∧ u.pending = s.pending ∧
      u.pins = (if i = .perstFall true then { s.pins with perst := false } else s.pins))) ∧
  (∀ (s : State), exec (.perstFall false) s = .next s ∧
    Goes (exec .perstRise s) (fun u => u.pins = { s.pins with perst := true } ∧ Keeps [.pins] s u)) ∧
  (∀ (s : State) (c : Nat), c ∈ s.dbg.halted → exec (.mgmtWatchdog c) s = .next s) ∧
  (∀ (s : State) (sys : Bool), s.fb Fld.SEC_STATUS_DEBUG_OPEN = false → exec (.debugResetRequest sys) s = .next s) ∧
  (∀ (s : State),
    (s.rst.level ≤ 1 → Goes (exec .supplyReset s) (fun u => u.rst.unpowered = true ∧ u.rst.level = 2 ∧ u.mem = [] ∧ u.rst.flash = s.rst.flash)) ∧
    (2 ≤ s.rst.level → Goes (exec .supplyReset s) (fun u => u.rst = { s.rst with unpowered := true } ∧ u.fb Fld.RST_CAUSE_SUPPLY = true ∧
      Keeps [.regs, .rst] s u))) ∧
  (∀ (s : State) (lost : Bool),
    (s.rst.unpowered = true → Goes (exec (.supplyApply lost) s) (fun u => u.rst = { s.rst with unpowered := false } ∧ Keeps [.regs, .rst] s u ∧
      (lost = true → u.rd Reg.RST_CAUSE = 0 ∧ u.rd Reg.RST_COUNT = 0) ∧ (lost = false → u.regs = s.regs))) ∧
    (s.rst.unpowered = false → exec (.supplyApply lost) s = .next s)) ∧
  (∀ (s : State),
    (s.rst.tripped = false → Goes (exec .thermalTrip s) (fun u => u.rst.tripped = true ∧ u.rst.level = 2 ∧ u.mem = [] ∧
      u.fb Fld.PWR_STATUS_THERM_TRIP_SEEN = true ∧ u.rst.flash = s.rst.flash ∧ u.host = s.host)) ∧
    (s.rst.tripped = true → exec .thermalTrip s = .next s)) ∧
  (∀ (s : State),
    (s.rst.tripped = true → Goes (exec .tripCooled s) (fun u => u.rst = { s.rst with tripped := false } ∧ u.fb Fld.RST_CAUSE_THERM = true ∧
      u.fd Fld.RST_CAUSE_LEVEL = 2 ∧ u.fd Fld.RST_COUNT_SYS_CNT = satAdd 0xFFFF (s.fd Fld.RST_COUNT_SYS_CNT) 1 ∧ Keeps [.regs, .rst] s u)) ∧
    (s.rst.tripped = false → exec .tripCooled s = .next s)) ∧
  (∀ s via p j s1, Starts s true via p j s1 → p.base = 0x0B00 → p.expert = true → via = .mcc →
    (p.u8 16 = 1 → s1.pins.maintInhibit = false ∨ bit (p.u8 18) 0 = true → s1.rst.level = 0 → s1.pulsing = false →
      Goes (exec (.rstReq via p) s) (fun u => u.rst.level = 1 ∧ u.eng = [] ∧ u.mcc = State.reset.mcc ∧ u.fuse = s1.fuse ∧
        (∀ a, a < 2 ^ 48 → u.byte a = s1.byte a))) ∧
    (p.u8 16 = 2 → s1.pins.maintInhibit = false ∨ bit (p.u8 18) 0 = true → s1.fb Fld.SEC_STATUS_DEBUG_OPEN = false → s1.rst.level ≤ 1 →
      s1.pulsing = false → Goes (exec (.rstReq via p) s) (fun u => u.rst.level = 2 ∧ u.mem = [] ∧ u.rst.flash = s1.rst.flash)) ∧
    (p.u8 16 = 0 → State.blockIsland (p.u8 17) = true → s1.blockHere (p.u8 17) = true →
      exec (.rstReq via p) s = .next (((s1.beginJob true via j).blockReset (p.u8 17)).settle)) ∧
    (p.u8 16 ∈ [1, 2] → s1.pins.maintInhibit = true → bit (p.u8 18) 0 = false →
      exec (.rstReq via p) s = .next (s1.finish via (.refuse 0x0B01))) ∧
    (p.u8 16 = 2 → s1.pins.maintInhibit = false → s1.fb Fld.SEC_STATUS_DEBUG_OPEN = true →
      exec (.rstReq via p) s = .next (s1.finish via (.refuse 0x0B02))))

/-- R577, R582, R583, R589, R597, R598: a block reset ends what runs on its unit and clears it; a tile that does not become idle loses what it
still holds. A release does nothing while a reset cannot end; after a core reset whose copies are sound it boots to RUNNING, and where
they are not it becomes a system reset. -/
def Obligations.BlockResetsAndReleases : Prop :=
  (∀ (s : State) (i : Nat), State.blockIsland i = true → s.blockHere i = true →
    (∀ k, k < 8 → i = State.stackIsland k → GoesOn (exec (.blockReset i) s) (fun w => (w.abortRing (32 + k)).settle) (fun w =>
      (∀ e ∈ w.crl.tlb, e.1 ≠ k) ∧ (∀ g ∈ w.crl.queue, g.unit ≠ k) ∧ (w.engOf (32 + k)).cur = none ∧ (w.engOf (32 + k)).fetched = [] ∧
      w.crl.maps = s.crl.maps ∧ w.mem = s.mem)) ∧
    (i = 81 → GoesOn (exec (.blockReset i) s) (fun w => (w.abortRing 44).settle) (fun w => (w.engOf 44).cur = none ∧ (w.engOf 44).fetched = [] ∧
      (∀ d a, Reg.SPL_STATUS.addr ≤ a → a < Reg.SPL_STATUS.addr + 0x200 → Cells.get d a w.regs = d) ∧ w.mem = s.mem)) ∧
    (∀ v, 82 ≤ i → s.vid.jobs.find? (fun v => v.cores.contains (i - 82)) = some v → v.sess ≤ 127 →
      GoesOn (exec (.blockReset i) s) (fun w => (w.vidReply v (.err Sts.aborted)).settle) (fun w =>
        (s.vidState v.sess ≠ 0 → w.vidState v.sess = 2) ∧ Keeps [.regs] s w)) ∧
    (∀ t, isSite i = true → s.tileOf (islandSite i) = some t → exec (.blockReset i) s = .next (s.tileAbort t).settle)) ∧
  (∀ (s : State) (i : Nat), State.blockIsland i = false ∨ s.blockHere i = false → exec (.blockReset i) s = .next s) ∧
  (∀ (s : State) (t : Nat), t < 32 → s.siteOf t < 36 →
    ((s.tile t).resetting = true → (s.tile t).sb = [] → s.sec.closing ≠ 2 → (s.tile t).trapped = false →
      GoesOn (exec (.blockIdleTimeout t) s) State.settle (fun w =>
      w.tile t = { Tile.idle with
        traps := (s.tile t).traps.filter (fun n => decide (s.now < n + State.dayNs)), stale := (s.tile t).stale, fenced := (s.tile t).fenced,
        halted := (s.tile t).halted } ∧ Keeps [.regs, .tiles] s w)) ∧
    (∀ e l, (s.tile t).resetting = true → (s.tile t).sb = e :: l → GoesOn (exec (.blockIdleTimeout t) s) State.settle (fun w =>
      (w.tile t).sb = [] ∧ (∃ r ∈ w.log, r.code = 0x0280 ∧ r.addr = e.req.addr) ∧ w.mem = s.mem)) ∧
    ((s.tile t).resetting = false → exec (.blockIdleTimeout t) s = .next s)) ∧
  (∀ (s : State) (fails : List (Nat × Nat)) (retOk copiesOk : Bool), s.rst.level = 0 ∨ s.pins.perst = false ∨ s.rst.unpowered = true ∨
    s.rst.tripped = true → exec (.resetRelease fails retOk copiesOk) s = .next s) ∧
  (∀ (s : State) (fails : List (Nat × Nat)) (retOk : Bool), s.rst.level = 1 → s.pins.perst = true → s.rst.unpowered = false →
    s.rst.tripped = false → s.rst.image ≠ [] → s.pulsing = false →
    Goes (exec (.resetRelease fails retOk false) s) (fun u => u.rst.level = 2 ∧ u.mem = [] ∧ u.rst.flash = s.rst.flash)) ∧
  (∀ (s : State), s.rst.level = 1 → s.pins.perst = true → s.rst.unpowered = false → s.rst.tripped = false → s.rst.image ≠ [] →
    s.boot = 3 → s.journalOpen = false → s.cfgCurrent = none → s.fb Fld.SEC_STATUS_SCRUB_REQUIRED = false →
    s.fd Fld.RST_BKP0_BOOT_ATTEMPTS ≤ 2 → 2 ≤ ((List.range 4).filter (fun c => !bit (s.rd Reg.RAS_CORE_STATE) (4 + c))).length →
    Goes (exec (.resetRelease [] true true) s) (fun u => u.rst.level = 0 ∧ u.stage = 6 ∧ u.fd Fld.RST_BKP0_BOOT_ATTEMPTS = 0 ∧
      u.fb Fld.CAP_UNITS_CAP_VALID = true ∧ u.rd Reg.SEC_MEAS_STATE = 0 ∧ u.rst.image = s.rst.image ∧ u.mem = s.mem))

/-! ## 18: Images and updates -/

/-- R592, R600 to R609, R610, R611, Tables 18-5 to 18-7: UPD_STAGE of a piece, read from memory or received with the
packet over I3C, starts its write, piece 0 only with a manifest that passes; UPD_COMMIT
is refused for the first reason that applies, names the first piece that is missing, or draws the token and starts with a new journal;
UPD_ABANDON erases the staging records; UPD_QUERY reports; UPD_CFG_SET writes the other slot. -/
def Obligations.UpdateCommandsRun : Prop :=
  (∀ s via p far ue j s1, Starts s true via p j s1 → p.base = 0x0B10 → via = .mcc →
    (j.i3c = true → s1.mcc.extra.length = 65536) → p.u16 16 ≤ 479 →
    (p.u16 16 ≠ 0 → ∃ m, s1.stagedManifest = some m ∧ p.u16 16 < manSectors m) →
    (s1.journalOpen = true → exec (.updStage via p far ue) s = .next (s1.finish via (.refuse 0x0B07))) ∧
    (s1.journalOpen = false → 16384 ≤ s1.recordsUsed → exec (.updStage via p far ue) s = .next (s1.finish via (.refuse 0x0B09))) ∧
    (∀ w bs, s1.journalOpen = false → s1.recordsUsed < 16384 →
      (if j.i3c then w = s1.beginJob true via j ∧ bs = s1.mcc.extra else
        (s1.beginJob true via j).getGlobal State.mccUnit (p.u64 24) 65536 far ue = (w, .ok bs)) →
      (p.u16 16 ≠ 0 → Goes (exec (.updStage via p far ue) s) (fun u => Keeps [.regs, .rst] w u ∧
        u.rst = { w.rst with job := some ⟨0, 1, 0, 0, bs, p.u16 16, !w.pfw, false, false, false⟩ })) ∧
      (p.u16 16 = 0 → match w.manFail (bs.take 4096) with
        | some k => exec (.updStage via p far ue) s = .next (w.finish via (.errD stsUpdManifest k))
        | none => Goes (exec (.updStage via p far ue) s) (fun u => Keeps [.regs, .rst] w u ∧ ∃ n fresh,
            u.rst = { w.rst with job := some ⟨0, n, 0, 0, bs, 0, !w.pfw, false, false, fresh⟩ })))) ∧
  (∀ s via p j s1, Starts s true via p j s1 → p.base = 0x0B11 → via = .mcc →
    (s1.rst.job.isSome = true → exec (.updCommit via p) s = .next (s1.finish via (.err Sts.busy))) ∧
    (s1.rst.job = none → s1.lc = 2 → exec (.updCommit via p) s = .next (s1.finish via (.refuse 0x0B05))) ∧
    (s1.rst.job = none → s1.lc ≠ 2 → s1.pins.maintInhibit = true → exec (.updCommit via p) s = .next (s1.finish via (.refuse 0x0B01))) ∧
    (s1.rst.job = none → s1.lc ≠ 2 → s1.pins.maintInhibit = false → s1.pfw = true →
      exec (.updCommit via p) s = .next (s1.finish via (.refuse 0x0B06))) ∧
    (s1.rst.job = none → s1.lc ≠ 2 → s1.pins.maintInhibit = false → s1.pfw = false → s1.fb Fld.PWR_STATUS_HOLDUP_FULL = false →
      exec (.updCommit via p) s = .next (s1.finish via (.refuse 0x0B03))) ∧
    (s1.rst.job = none → s1.lc ≠ 2 → s1.pins.maintInhibit = false → s1.pfw = false → s1.fb Fld.PWR_STATUS_HOLDUP_FULL = true →
      s1.fb Fld.PWR_STATUS_INPUT_LOW = false → s1.stage ≠ 7 →
      (∀ k, s1.maintRefused ⟨State.actCommit, 0, 0⟩ = some k →
        exec (.updCommit via p) s = .next (s1.finish via (.errD Sts.maintConflict k))) ∧
      (∀ k, s1.maintRefused ⟨State.actCommit, 0, 0⟩ = none → s1.journalOpen = false → s1.missingPiece = some k →
        Ends (exec (.updCommit via p) s) via ⟨stsUpdIncomplete, 0, 0, k, false⟩ (fun u => u = s1.beginJob true via j)) ∧
      (s1.maintRefused ⟨State.actCommit, 0, 0⟩ = none → s1.journalOpen = false → s1.missingPiece = none →
        let m := s1.flashRead 512 0 4096
        match s1.manFail m with
        | some k => Ends (exec (.updCommit via p) s) via (.errD stsUpdManifest k) (fun u => u = s1.beginJob true via j)
        | none => if s1.cfgFits m then
            (match s1.compFail 512 m true with
            | some (i, c) => Ends (exec (.updCommit via p) s) via ⟨stsUpdHash, i, 0, c.off / 65536, false⟩ (fun u => u.ras = s1.ras ∧
                u.rst.job = none)
            | none => Goes (exec (.updCommit via p) s) (fun u => u.ras = { s1.ras with holders := s1.ras.holders ++ [⟨State.actCommit, 0, 0⟩] } ∧
                u.rst = { s1.rst with job := some ⟨1, 0, 0, 0, State.journalBytes (manSectors m) (sha384 m), 0, true, false, false, false⟩ } ∧
                u.fb Fld.SEC_STATUS_COMMIT = true ∧ Keeps [.regs, .rst, .ras] (s1.beginJob true via j) u))
          else Ends (exec (.updCommit via p) s) via (.errD stsUpdManifest 6) (fun u => u = s1.beginJob true via j)))) ∧
  (∀ s via p j s1, Starts s true via p j s1 → p.base = 0x0B12 → via = .mcc →
    (s1.journalOpen = true → exec (.updAbandon via p) s = .next (s1.finish via (.refuse 0x0B07))) ∧
    (s1.journalOpen = false → Goes (exec (.updAbandon via p) s) (fun u => Keeps [.regs, .rst] (s1.beginJob true via j) u ∧
      u.rst = { s1.rst with job := some ⟨3, 0, 0, 0, [], 0, !s1.pfw, false, false, false⟩ }))) ∧
  (∀ s via p j s1, Starts s true via p j s1 → p.base = 0x0B13 → p.u64 16 = 0 →
    (∀ k, s1.missingPiece = some k → Ends (exec (.updQuery via p) s) via (.ok (s1.rd Reg.RST_UPD_STATUS) k) (fun u => u = s1.beginJob true via j)) ∧
    (s1.missingPiece = none → ∃ v, v < 2 ^ 64 ∧ Ends (exec (.updQuery via p) s) via (.ok (s1.rd Reg.RST_UPD_STATUS) v) (fun u =>
      Keeps [.free] (s1.beginJob true via j) u))) ∧
  (∀ s via p far ue j s1, Starts s true via p j s1 → p.base = 0x0B14 →
    (1023 < p.u16 24 → exec (.updCfgSet via p far ue) s = .next (s1.finish via .param)) ∧
    (∀ w bs, p.u16 24 ≤ 1023 → (s1.beginJob true via j).getGlobal State.mccUnit (p.u64 16) (64 * p.u16 24) far ue = (w, .ok bs) →
      (∀ i, (State.packetsOf bs).findIdx? (fun q => !State.cfgRecordOk q) = some i →
        exec (.updCfgSet via p far ue) s = .next (w.finish via ⟨Sts.badParam, 0, 0, i, false⟩)) ∧
      ((State.packetsOf bs).findIdx? (fun q => !State.cfgRecordOk q) = none → Goes (exec (.updCfgSet via p far ue) s) (fun u =>
        Keeps [.regs, .rst] w u ∧ u.rst = { w.rst with job := some ⟨2, 0, 0, 0, (w.cfgNext w.cfgVersion bs).2,
          (w.cfgNext w.cfgVersion bs).1, !w.pfw, false, false, false⟩ }))))

/-- R579, R601, R603, R606, R609, R611: what the end of a flash pulse does, with no reset held: a staged piece is erased, written, read back and
recorded; a commit marks a sector, erases it, copies it from the staging region and marks it done, and gives up where the third copy reads
back wrong; the configuration slot and the staging records are written. A pulse during a power-fail warning waits. A held reset is entered. -/
def Obligations.FlashPulsesProgram : Prop :=
  (∀ (s : State) (good : Bool), (∀ j, s.rst.job = some j → j.pulse = false) → exec (.flashPulseEnd good) s = .next s) ∧
  (∀ (s : State) (good : Bool) (j : FlashJob), s.rst.job = some j → j.pulse = true → s.rst.hold = none → j.stop = false → j.kind = 0 →
    let go := fun (u : State) (n : Nat) => u.rst.job = some { j with step := n, pulse := !s.pfw } ∧ Keeps [.regs, .rst] s u
    (j.step = 0 → Goes (exec (.flashPulseEnd good) s) (fun u => go u 1 ∧ u.sector 4 = [])) ∧
    (j.step = 1 → Goes (exec (.flashPulseEnd good) s) (fun u => go u 2 ∧ u.sector (512 + j.index) = [])) ∧
    (j.step = 2 → good = true → Goes (exec (.flashPulseEnd good) s) (fun u => go u 3 ∧ u.sector (512 + j.index) = j.data)) ∧
    (j.step = 2 → good = false → GoesOn (exec (.flashPulseEnd good) s) (fun w => w.mccReply (.errD stsUpdFlash (512 + j.index))) (fun w =>
      w.rst.job = none ∧ Keeps [.regs, .rst] s w)) ∧
    (j.step = 3 → GoesOn (exec (.flashPulseEnd good) s) (fun w => w.mccReply (.ok w.stagedPieces.length 0)) (fun w => w.rst.job = none ∧
      w.rst.flash = (s.appendRecord true j.index).rst.flash ∧ Keeps [.regs, .rst] s w))) ∧
  (∀ (s : State) (good : Bool) (j : FlashJob), s.rst.job = some j → j.pulse = true → s.rst.hold = none → j.stop = false → j.kind = 1 →
    let go := fun (u : State) (n k : Nat) => u.rst.job = some { j with step := n, tries := k, pulse := !s.pfw } ∧ Keeps [.regs, .rst] s u
    (j.step = 1 → Goes (exec (.flashPulseEnd good) s) (fun u => go u 2 j.tries ∧
      u.rst.flash = (s.flashProgram 3 (256 + j.sector) [0x7F]).rst.flash)) ∧
    (j.step = 2 → Goes (exec (.flashPulseEnd good) s) (fun u => go u 3 j.tries ∧ u.sector (32 + j.sector) = [])) ∧
    (j.step = 3 → good = true → Goes (exec (.flashPulseEnd good) s) (fun u => go u 4 j.tries ∧
      u.sector (32 + j.sector) = s.sector (512 + j.sector))) ∧
    (j.step = 3 → good = false → j.tries < 2 → Goes (exec (.flashPulseEnd good) s) (fun u => go u 2 (j.tries + 1))) ∧
    (j.step = 3 → good = false → 2 ≤ j.tries → j.resume = false → s.ras.queue = [] →
      GoesOn (exec (.flashPulseEnd good) s) (fun w => w.mccReply (.errD stsUpdFlash j.sector)) (fun w => w.rst.job = none ∧
        w.ras.holders = s.ras.holders.erase ⟨State.actCommit, 0, 0⟩))) ∧
  (∀ (s : State) (good : Bool) (j : FlashJob), s.rst.job = some j → j.pulse = true → s.rst.hold = none → j.stop = false → 2 ≤ j.kind →
    (j.kind = 2 → j.step = 0 → Goes (exec (.flashPulseEnd good) s) (fun u => u.sector j.index = [] ∧ Keeps [.regs, .rst] s u ∧
      u.rst.job = some { j with step := 1, pulse := !s.pfw })) ∧
    (j.kind = 2 → j.step ≠ 0 → GoesOn (exec (.flashPulseEnd good) s) (fun w => w.mccReply .done) (fun w => w.sector j.index = j.data ∧
      w.rst.job = none ∧ Keeps [.regs, .rst] s w)) ∧
    (j.kind = 3 → GoesOn (exec (.flashPulseEnd good) s) (fun w => w.mccReply .done) (fun w => w.sector 4 = [] ∧ w.rst.job = none ∧
      Keeps [.regs, .rst] s w))) ∧
  (∀ (s : State) (good : Bool) (j : FlashJob), s.rst.job = some j → j.pulse = true → s.rst.hold = some 2 → s.rst.level ≤ 1 →
    Goes (exec (.flashPulseEnd good) s) (fun u => u.rst.level = 2 ∧ u.rst.hold = none ∧ u.rst.job = none ∧ u.mem = []))

/-! ## 19: Reliability -/

/-- R617 to R631, R636 to R638: RAS_RETIRE marks a unit; RAS_SELFTEST reports the first failure and retires what fails; RAS_LOG_FETCH copies
records that the spill ring holds; queued activities start once the token allows them; spares are tested in turn; records go to the RAS
store until it is full; the tray's controller gets changes of state sensors, and an answer. -/
def Obligations.MaintenanceRuns : Prop :=
  (∀ s via p j s1, Starts s true via p j s1 → p.base = 0x0C00 → (s1.fuse.video = true ∨ p.u8 16 ≠ 4) → p.u8 17 < State.unitCount (p.u8 16) →
    (s1.pins.maintInhibit = true → exec (.rasRetire via p) s = .next (s1.finish via (.refuse 0x0C03))) ∧
    (s1.pins.maintInhibit = false → s1.unitSpare (p.u8 16) (p.u8 17) = true ∨ s1.unitRetired (p.u8 16) (p.u8 17) = true →
      exec (.rasRetire via p) s = .next (s1.finish via (.refuse 0x0C06))) ∧
    (s1.pins.maintInhibit = false → s1.unitSpare (p.u8 16) (p.u8 17) = false → s1.unitRetired (p.u8 16) (p.u8 17) = false →
      (p.u8 16 = 1 → ∀ t, s1.tileOf (p.u8 17) = some t → s1.rimOwns t = false →
        Ends (exec (.rasRetire via p) s) via .done (fun u => bit (u.rd Reg.RAS_SITE_RETIRED) (p.u8 17) = true ∧ (u.tile t).fenced = true ∧
          (u.engOf t).fetched = [] ∧ u.mem = s1.mem ∧ ((⟨State.actRetire, 1, p.u8 17⟩ : Activity) ∈ u.ras.holders ∨
            (⟨State.actRetire, 1, p.u8 17⟩ : Activity) ∈ u.ras.queue))) ∧
      (p.u8 16 = 3 → s1.ras.queue = [] → s1.maintFits ⟨State.actRetire, 3, p.u8 17⟩ = true → s1.maintHolds ⟨State.actRetire, 3, p.u8 17⟩ = false →
        Ends (exec (.rasRetire via p) s) via .done (fun u => bit (u.rd Reg.RAS_CORE_STATE) (4 + p.u8 17) = true ∧
          bit (u.rd Reg.RAS_CORE_STATE) (p.u8 17) = false ∧ u.ras.holders = s1.ras.holders ∧ (∃ r ∈ u.log, r.code = 0x0C80) ∧
          u.mem = s1.mem)))) ∧
  (∀ s via p fails j s1, Starts s true via p j s1 → p.base = 0x0C01 → p.expert = true → (s1.fuse.video = true ∨ p.u8 16 ≠ 4) →
    p.u8 17 < State.unitCount (p.u8 16) → s1.pins.maintInhibit = false → s1.testable (p.u8 16) (p.u8 17) = true →
    (∀ k, s1.maintRefused ⟨State.actSelftest, 0, 0⟩ = some k →
      exec (.rasSelftest via p fails) s = .next (s1.finish via (.errD Sts.maintConflict k))) ∧
    (s1.maintRefused ⟨State.actSelftest, 0, 0⟩ = none → fails.find? (fun f => f.1 == p.u8 16 && f.2.1 == p.u8 17) = none →
      Ends (exec (.rasSelftest via p fails) s) via .done (fun u => u = s1.beginJob true via j)) ∧
    (∀ f, s1.maintRefused ⟨State.actSelftest, 0, 0⟩ = none → fails.find? (fun f => f.1 == p.u8 16 && f.2.1 == p.u8 17) = some f →
      Ends (exec (.rasSelftest via p fails) s) via (.errD stsRasTestFail f.2.2) (fun u => u.mem = s1.mem ∧
        (p.u8 16 = 1 → s1.unitSpare 1 (p.u8 17) = true → bit (u.rd Reg.RAS_SITE_RETIRED) (p.u8 17) = true)))) ∧
  (∀ s via p j s1, Starts s true via p j s1 → p.base = 0x0C02 →
    (∀ w, p.u32 20 ≠ 0 → p.u32 20 ≤ 65536 → s1.spilled (p.u32 16) = true → s1.spilled (p.u32 16 + p.u32 20 - 1) = true →
      (s1.beginJob true via j).putGlobal State.mccUnit (p.u64 24) (((s1.beginJob true via j).recordsFrom (p.u32 16) (p.u32 20)).map State.recBytes).flatten =
        (w, none) →
      exec (.rasLogFetch via p) s = .next (w.finish via .done)) ∧
    (p.u32 20 = 0 ∨ 65536 < p.u32 20 ∨ s1.spilled (p.u32 16) = false → exec (.rasLogFetch via p) s = .next (s1.finish via .param))) ∧
  (∀ (s : State),
    (s.ras.queue = [] → exec .maintTokenRelease s = .next s) ∧
    (∀ l, s.ras.queue = ⟨State.actTenantScrub, 0, 0⟩ :: l → s.ras.holders ≠ [] → exec .maintTokenRelease s = .next s) ∧
    (s.ras.queue = [⟨State.actTenantScrub, 0, 0⟩] → s.ras.holders = [] → Goes (exec .maintTokenRelease s) (fun u =>
      u.ras = { s.ras with queue := [], holders := [⟨State.actTenantScrub, 0, 0⟩] } ∧ u.fb Fld.SEC_STATUS_SCRUB_ACTIVE = true ∧
      u.fb Fld.SEC_STATUS_SCRUB_WAIT_TOKEN = false ∧ Keeps [.regs, .ras] s u))) ∧
  (∀ (s : State), let a : Activity := ⟨State.actSpareTest, 0, 0⟩
    s.ras.queue = [] → a ∉ s.ras.holders →
    (s.maintFits a = true → Goes (exec (.spareTestPeriod []) s) (fun u => u = s)) ∧
    (s.maintFits a = false → Goes (exec (.spareTestPeriod []) s) (fun u => u.ras = { s.ras with queue := [a] } ∧ Keeps [.ras] s u)) ∧
    (∀ n, s.maintFits a = true → n < 36 → s.unitSpare 1 n = true → Goes (exec (.spareTestPeriod [(1, n)]) s) (fun u =>
      bit (u.rd Reg.RAS_SITE_RETIRED) n = true ∧ u.ras.holders = s.ras.holders ∧ u.ras.unsaved.length = s.ras.unsaved.length + 1 ∧
      (∃ r ∈ u.log, r.code = 0x0C80) ∧ u.mem = s.mem))) ∧
  (∀ (s : State),
    (s.ras.unsaved = [] → exec .rasPersist s = .next s) ∧
    (∀ r l, s.ras.unsaved = r :: l → s.fb Fld.RAS_STORE_FULL = false → 8 * (s.ras.store.length + 1) + 65536 ≤ State.areaBytes →
      Goes (exec .rasPersist s) (fun u => u.ras = { s.ras with unsaved := l, store := s.ras.store ++ [r] } ∧
        u.fd Fld.RAS_STORE_RECORDS = s.ras.store.length + 1 ∧ Keeps [.regs, .ras] s u ∧ RegsKeep [Reg.RAS_STORE.addr] s u)) ∧
    (∀ r l, s.ras.unsaved = r :: l → s.fb Fld.RAS_STORE_FULL = true →
      Goes (exec .rasPersist s) (fun u => u.ras = { s.ras with unsaved := l } ∧ Keeps [.ras] s u))) ∧
  (∀ (s : State), Goes (exec .platformEventMessage s) (fun u => u.ras = { s.ras with sensors := s.stateSensors } ∧ Keeps [.ras, .out] s u ∧
    ∀ e ∈ s.stateSensors, e ∉ s.ras.sensors → Out.pldm (Config.pldmBytes 1 [e.1, e.2]) ∈ u.out)) ∧
  (∀ (s : State) (m : List Byte),
    (s.rst.level ≠ 2 → Goes (exec (.pldmRequest m) s) (fun u => Keeps [.out] s u ∧
      u.out = .pldm (Config.pldmBytes 0 (m.map (·.toNat) ++ (s.numericSensors ++ s.stateSensors).map (·.2))) :: s.out)) ∧
    (s.rst.level = 2 → exec (.pldmRequest m) s = .next s))

/-- R622 to R625: a marked tile that is quiesced has its spare woken; one that is not by t_QUIESCE is stopped; after the copy the tile stands on
its spare site and the old site leaves service. A management core that traps releases its semaphores and is tested; a second trap or a
failing test retires it. -/
def Obligations.UnitsMoveAndRetire : Prop :=
  (∀ (s : State) (t : Nat),
    (s.moveOf t = none → exec (.tileQuiesced t) s = .next s ∧ exec (.quiesceTimeout t) s = .next s ∧ exec (.tileMoveCopyDone t) s = .next s) ∧
    (∀ m k, s.moveOf t = some m → m.quiet = false → s.quiesced t = true → s.moveSpare t m.site = some k →
      s.pwr.wakes.contains (State.siteIsland k, true) = false →
      Goes (exec (.tileQuiesced t) s) (fun u => u.moveOf t = some { m with quiet := true, spare := k } ∧
        u.pwr.wakes = s.pwr.wakes ++ [(State.siteIsland k, true)] ∧ Keeps [.regs, .ras, .pwr] s u)) ∧
    (∀ m, s.moveOf t = some m → m.quiet = true ∨ s.quiesced t = false → exec (.tileQuiesced t) s = .next s) ∧
    (∀ m j, s.moveOf t = some m → m.quiet = false → (s.engOf t).cur = some j → j.via = .ring t →
      GoesOn (exec (.quiesceTimeout t) s) (fun w => (w.ringFail t (.errD Sts.aborted 0x0C04)).pump t) (fun w => Keeps [.tiles] s w ∧
        w.tile t = { s.tile t with prog := .empty, attn := .none, wait := none, fencing := false, engine := 0, exc := none })) ∧
    (∀ m, s.moveOf t = some m → m.quiet = false → (s.engOf t).cur = none → s.ringState t = State.closed →
      GoesOn (exec (.quiesceTimeout t) s) (fun w => w.pump t) (fun w => Keeps [.tiles] s w ∧
        w.tile t = { s.tile t with prog := .empty, attn := .none, wait := none, fencing := false, engine := 0, exc := none })) ∧
    (∀ m, t < 32 → s.moveOf t = some m → m.copying = true → m.site < 36 → m.spare < 36 → m.site ≠ m.spare →
      GoesOn (exec (.tileMoveCopyDone t) s) (fun w => w.moveEnd m) (fun w => w.siteOf t = m.spare ∧
        bit (w.rd Reg.RAS_SITE_ACTIVE) m.spare = true ∧ bit (w.rd Reg.RAS_SITE_ACTIVE) m.site = false ∧
        w.islandOn (State.siteIsland m.site) = false ∧ (∀ c, c < 32 → w.rd (Reg.TILE_SYNC m.spare c) = s.rd (Reg.TILE_SYNC m.site c)) ∧
        w.ras.unsaved.length = s.ras.unsaved.length + 1)) ∧
    (∀ m, s.moveOf t = some m → m.copying = false → exec (.tileMoveCopyDone t) s = .next s)) ∧
  (∀ (s : State) (c off : Nat) (poison : Bool), bit (s.rd Reg.RAS_CORE_STATE % 16) c = true → c ∉ s.ras.coreDown →
    s.ras.coreTraps.any (fun e => e.1 == c && decide (s.now < e.2 + State.dayNs)) = false →
    Goes (exec (.mgmtCoreTrap c off poison false) s) (fun u => c ∈ u.ras.coreDown ∧ (c, s.now) ∈ u.ras.coreTraps ∧
      bit (u.rd Reg.HIF_URGENT_CAUSE) 4 = true ∧ (∃ r ∈ u.log, r.code = 0x0C88) ∧ u.mem = s.mem ∧
      (∀ k, k < 32 → s.fb (Fld.DBG_SEM_HELD k) = true → s.fd (Fld.DBG_SEM_OWNER k) = 0x2F + c → u.fb (Fld.DBG_SEM_HELD k) = false))) ∧
  (∀ (s : State) (c off : Nat) (poison mcc : Bool), bit (s.rd Reg.RAS_CORE_STATE % 16) c = false ∨ c ∈ s.ras.coreDown →
    exec (.mgmtCoreTrap c off poison mcc) s = .next s) ∧
  (∀ (s : State) (c : Nat),
    (c ∈ s.ras.coreDown → Goes (exec (.mgmtCoreRestart c true) s) (fun u => Keeps [.ras] s u ∧
      u.ras = { s.ras with coreDown := s.ras.coreDown.filter (· != c) })) ∧
    (c ∈ s.ras.coreDown → c < 4 → s.ras.queue = [] → s.maintFits ⟨State.actRetire, 3, c⟩ = true → s.maintHolds ⟨State.actRetire, 3, c⟩ = false →
      Goes (exec (.mgmtCoreRestart c false) s) (fun u => bit (u.rd Reg.RAS_CORE_STATE) (4 + c) = true ∧
        bit (u.rd Reg.RAS_CORE_STATE) c = false ∧ c ∉ u.ras.coreDown ∧ u.mem = s.mem)) ∧
    (∀ ok, c ∉ s.ras.coreDown → exec (.mgmtCoreRestart c ok) s = .next s))

/-! ## 20 and 21: Counters, debug and pins -/

/-- R640 to R648, R655 to R657: a counter that wraps sets its bit; PMU_PROGRAM writes a group from a block; PMU_READ stores a snapshot;
DBG_SEM_RELEASE frees a semaphore where debug is open; a command that waits too long for one ends. -/
def Obligations.CountersAndSemaphores : Prop :=
  (∀ (s : State) (g c : Nat), g < 53 → c < 8 → s.groupOn g = true → s.fb (Fld.PMU_EVSEL_EN g c) = true →
    pmuUnseen g (s.fd (Fld.PMU_EVSEL_EVENT g c)) = true → s.fb (Fld.PMU_EVSEL_IRQ g c) = false →
    Goes (exec (.pmuCounterWrap false g c) s) (fun u => bit (u.rd (Reg.PMU_OVF g)) c = true ∧ Keeps [.regs] s u ∧
      RegsKeep [(Reg.PMU_OVF g).addr] s u)) ∧
  (∀ (s : State) (n e : Nat), n < 36 → tileUnseen e = true → s.islandOn (State.siteIsland n) = true → bit (s.rd (Reg.PMU_TIRQ n)) e = false →
    Goes (exec (.pmuCounterWrap true n e) s) (fun u => bit (u.rd (Reg.PMU_TOVF n)) e = true ∧ Keeps [.regs] s u ∧
      RegsKeep [(Reg.PMU_TOVF n).addr] s u)) ∧
  (∀ (s : State) (g c : Nat), 8 ≤ c ∨ s.groupOn g = false → exec (.pmuCounterWrap false g c) s = .next s) ∧
  (∀ s via p far ue j s1, Starts s true via p j s1 → p.base = 0x0D00 →
    (p.u8 16 ≤ 52 → s1.groupOn (p.u8 16) = false → exec (.pmuProgram via p far ue) s = .next (s1.finish via (.err Sts.unitAbsent))) ∧
    (∀ w bs, p.u8 16 ≤ 52 → s1.groupOn (p.u8 16) = true → (s1.beginJob true via j).runCheck State.mccUnit (p.u64 24) 256 opLoad = none →
      (s1.beginJob true via j).getGlobal State.mccUnit (p.u64 24) 256 far ue = (w, .ok bs) →
      Ends (exec (.pmuProgram via p far ue) s) via .done (fun u => Keeps [.regs] w u ∧ ∀ c, c < 8 →
        u.rd (Reg.PMU_CNT (p.u8 16) c) = ofLE ((bs.drop (0x40 + 8 * c)).take 8) % 2 ^ 48 ∧
        u.rd (Reg.PMU_ABASE (p.u8 16) c) = ofLE ((bs.drop (0x80 + 8 * c)).take 8) ∧
        u.rd (Reg.PMU_AMASK (p.u8 16) c) = ofLE ((bs.drop (0xC0 + 8 * c)).take 8) ∧
        (pmuEvents.contains (bits (ofLE ((bs.drop (0x10 + 4 * c)).take 4)) 0 12) = true →
          u.rd (Reg.PMU_EVSEL (p.u8 16) c) = ofLE ((bs.drop (0x10 + 4 * c)).take 4) &&& 0xFFFFCFFF)))) ∧
  (∀ s via p j s1, Starts s true via p j s1 → p.base = 0x0D01 → bit (p.u8 17) 0 = false → p.u8 16 ≤ 52 →
    (s1.groupOn (p.u8 16) = false → exec (.pmuRead via p) s = .next (s1.finish via (.err Sts.unitAbsent))) ∧
    (∀ w bs z, s1.groupOn (p.u8 16) = true → (s1.beginJob true via j).runCheck State.mccUnit (p.u64 24) 96 opStore = none →
      (s1.beginJob true via j).pmuSnapshot (p.u8 16) = (w, bs) → w.putGlobal State.mccUnit (p.u64 24) bs = (z, none) →
      exec (.pmuRead via p) s = .next (z.finish via .done))) ∧
  (∀ s via p j s1, Starts s true via p j s1 → p.base = 0x0D01 → bit (p.u8 17) 0 = true → p.u8 16 ≤ 35 →
    (s1.islandOn (State.siteIsland (p.u8 16)) = false → exec (.pmuRead via p) s = .next (s1.finish via (.err Sts.unitAbsent))) ∧
    (∀ w bs z, s1.islandOn (State.siteIsland (p.u8 16)) = true → (s1.beginJob true via j).runCheck State.mccUnit (p.u64 24) 544 opStore = none →
      (s1.beginJob true via j).siteSnapshot (p.u8 16) = (w, bs) → w.putGlobal State.mccUnit (p.u64 24) bs = (z, none) →
      exec (.pmuRead via p) s = .next (z.finish via .done))) ∧
  (∀ s via p j s1, Starts s true via p j s1 → p.base = 0x0D02 → p.u8 16 ≤ 31 →
    (s1.dapOpen = false → exec (.dbgSemRelease via p) s = .next (s1.finish via (.refuse 0x0D01))) ∧
    (s1.dapOpen = true → s1.fb (Fld.DBG_SEM_HELD (p.u8 16)) = true → Ends (exec (.dbgSemRelease via p) s) via .done (fun u =>
      u.fb (Fld.DBG_SEM_HELD (p.u8 16)) = false ∧ u.fb (Fld.DBG_SEM_FORCED (p.u8 16)) = true ∧ u.fd (Fld.DBG_SEM_OWNER (p.u8 16)) = 0 ∧
      Keeps [.regs] (s1.beginJob true via j) u ∧ RegsKeep [(Reg.DBG_SEM (p.u8 16)).addr] (s1.beginJob true via j) u)) ∧
    (s1.dapOpen = true → s1.fb (Fld.DBG_SEM_HELD (p.u8 16)) = false → Ends (exec (.dbgSemRelease via p) s) via .done (fun u =>
      u = s1.beginJob true via j))) ∧
  (∀ (s : State) (k : Nat) (j : Job), s.mcc.cur = some j → k < 32 → s.fb (Fld.DBG_SEM_HELD k) = true → j.begun = false →
    s.queuedOn j.pkt = none →
    exec (.semTimeout k) s = .next (s.mccReply (.err (if s.fb (Fld.DBG_SEM_OWNER_HALTED k) then Sts.semHalted else Sts.timeout)))) ∧
  (∀ (s : State) (k : Nat), s.mcc.cur = none ∨ s.fb (Fld.DBG_SEM_HELD k) = false → exec (.semTimeout k) s = .next s)

/-- R649 to R656, R663, R666, R139: JTAG answers IDCODE and BYPASS always, and everything else as BYPASS while the access port is locked; open, it
samples pins, drives them while PERST_N is low, reads and writes registers and memory at a target that moves on, halts and resumes management cores and
frees semaphores. Changes of pins are recorded, and a power-fail warning that lasts discards what store buffers hold. -/
def Obligations.DebugPortAndPins : Prop :=
  (∀ (s : State), Goes (exec .idcode s) (fun u => u.out = .jtag 0x01 s.idcode :: s.out ∧ Keeps [.out] s u) ∧
    Goes (exec .bypass s) (fun u => u.out = .jtag 0xFF 0 :: s.out ∧ Keeps [.out] s u)) ∧
  (∀ (s : State) (i : Instr) (n : Nat) (far : List Host.Cell) (ue : Option Nat), s.dapOpen = false →
    i ∈ [Instr.samplePreload n, .extest n, .read32 far ue, .write32 n, .read64 far ue, .write64 n, .setAddr n, .setReg n, .halt n, .resume n, .semForce n,
      .status] →
    Goes (exec i s) (fun u => u.out = .jtag 0xFF 0 :: s.out ∧ Keeps [.out] s u)) ∧
  (∀ (s : State), s.dapOpen = true →
    (∀ n, Goes (exec (.samplePreload n) s) (fun u => u.dbg = { s.dbg with cells := n } ∧ (∃ v, v < 2 ^ 64 ∧ u.out = .jtag 0x02 v :: s.out) ∧
      Keeps [.out, .dbg, .free] s u)) ∧
    (∀ n, Goes (exec (.extest n) s) (fun u => u.dbg = { s.dbg with cells := n } ∧ Keeps [.out, .dbg, .free] s u ∧ ∃ v, v < 2 ^ 64 ∧
      u.out = (if s.pins.perst then [] else [.pins n]) ++ .jtag 0x00 v :: s.out)) ∧
    (∀ n, Goes (exec (.setAddr n) s) (fun u => u.dbg = { s.dbg with reg := false, addr := n % 2 ^ 64, status := Sts.ok, result := 0, started := true } ∧
      Keeps [.out, .dbg] s u)) ∧
    (∀ n, Goes (exec (.setReg n) s) (fun u => u.dbg = { s.dbg with reg := true, addr := n % 2 ^ 26, status := Sts.ok, result := 0, started := true } ∧
      Keeps [.out, .dbg] s u)) ∧
    (∀ c, c < 4 → Goes (exec (.halt (0x2F + c)) s) (fun u => c ∈ u.dbg.halted ∧ u.dbg.status = Sts.ok ∧ Keeps [.out, .dbg, .regs] s u ∧
      (∀ k, k < 32 → s.fb (Fld.DBG_SEM_HELD k) = true → s.fd (Fld.DBG_SEM_OWNER k) = 0x2F + c → u.fb (Fld.DBG_SEM_OWNER_HALTED k) = true))) ∧
    (∀ c, c < 4 → Goes (exec (.resume (0x2F + c)) s) (fun u => c ∉ u.dbg.halted ∧ u.dbg.status = Sts.ok ∧ Keeps [.out, .dbg, .regs] s u ∧
      (∀ k, k < 32 → s.fb (Fld.DBG_SEM_HELD k) = true → s.fd (Fld.DBG_SEM_OWNER k) = 0x2F + c → u.fb (Fld.DBG_SEM_OWNER_HALTED k) = false))) ∧
    (∀ t, t < 32 → s.tileOn t = true → Goes (exec (.halt t) s) (fun u => u.tile t = { s.tile t with halted := true } ∧ u.dbg.status = Sts.ok ∧
      Keeps [.out, .dbg, .tiles] s u)) ∧
    (∀ k, k < 32 → s.fb (Fld.DBG_SEM_HELD k) = true → Goes (exec (.semForce k) s) (fun u => u.fb (Fld.DBG_SEM_HELD k) = false ∧
      u.fb (Fld.DBG_SEM_FORCED k) = true ∧ u.dbg.status = Sts.ok ∧ Keeps [.out, .dbg, .regs] s u ∧ RegsKeep [(Reg.DBG_SEM k).addr] s u)) ∧
    Goes (exec .status s) (fun u => u.dbg = { s.dbg with result := s.dbg.status % 2 ^ 16 + s.rd Reg.DBG_GATED_ACCESS_CNT * 2 ^ 16, started := true } ∧
      Keeps [.out, .dbg] s u)) ∧
  (∀ (s : State) (n : Nat) (rd : Instr) (far : List Host.Cell) (ue : Option Nat), (n, rd) ∈ [(4, Instr.read32 far ue), (8, .read64 far ue)] →
    s.dapOpen = true → s.dbg.reg = true →
    (s.dbg.addr % n ≠ 0 ∨ 2 ^ 26 < s.dbg.addr + n → Goes (exec rd s) (fun u => u.dbg.status = Sts.accessFault ∧ u.dbg.addr = s.dbg.addr + n ∧
      Keeps [.out, .dbg] s u)) ∧
    (s.dbg.addr % n = 0 → s.dbg.addr + n ≤ 2 ^ 26 → s.fb Fld.DBG_CTL_DBG_SIDE_EFFECT = false →
      ∀ w v, (s.emit (.jtag 0x10 (b2n s.dbg.started * 2 ^ 68 + s.dbg.result % 2 ^ 64))).readBar0 s.dbg.addr n false = (w, v) →
      Goes (exec rd s) (fun u => u.dbg = { w.dbg with addr := w.dbg.addr + n, status := Sts.ok, result := v, started := true } ∧ Keeps [.dbg] w u))) ∧
  (∀ (s : State) (n v : Nat) (wr : Instr), (n, wr) ∈ [(4, Instr.write32 v), (8, .write64 v)] → s.dapOpen = true → s.dbg.reg = true →
    (s.dbg.addr % n ≠ 0 ∨ 2 ^ 26 < s.dbg.addr + n → Goes (exec wr s) (fun u => u.dbg.status = Sts.accessFault ∧ u.dbg.addr = s.dbg.addr + n ∧
      Keeps [.out, .dbg] s u)) ∧
    (s.dbg.addr % n = 0 → s.dbg.addr + n ≤ 2 ^ 26 → ∀ w,
      (s.emit (.jtag 0x10 (b2n s.dbg.started * 2 ^ 68 + s.dbg.result % 2 ^ 64))).writeBar0 s.dbg.addr n (v % 2 ^ (8 * n)) true = w →
      Goes (exec wr s) (fun u => u.dbg = { w.dbg with addr := w.dbg.addr + n, status := Sts.ok, result := Sts.ok, started := true } ∧
        Keeps [.dbg] w u))) ∧
  (∀ (s : State) (b : Bool),
    (s.pins.maintInhibit ≠ b → s.rst.unpowered = false → Goes (exec (.maintInhibitChange b) s) (fun u => u.pins = { s.pins with maintInhibit := b } ∧
      (∃ r, u.log = r :: s.log ∧ r.code = 0x0B90) ∧ Keeps [.pins, .log, .regs] s u)) ∧
    (s.pins.maintInhibit = b → exec (.maintInhibitChange b) s = .next s)) ∧
  (∀ (s : State) (n : Nat), n < 64 →
    (s.pins.slotId ≠ n → s.rst.unpowered = false → Goes (exec (.slotIdChange n) s) (fun u => u.pins = { s.pins with slotId := n } ∧
      (∃ r, u.log = r :: s.log ∧ r.code = 0x0B91) ∧ Keeps [.pins, .log, .regs] s u ∧
      (s.fd Fld.RST_STRAP_SLOT_ID ≠ n → u.fb Fld.RST_SIDEBAND_SLOT_CHANGED = true))) ∧
    (s.pins.slotId = n → exec (.slotIdChange n) s = .next s)) ∧
  (∀ (s : State),
    (s.pfw = true → GoesOn (exec .sbPfwExpiry s) State.settle (fun w => ∀ t, t < 32 → (w.tile t).sb = [])) ∧
    (s.pfw = false → exec .sbPfwExpiry s = .next s))
end

