-- ==== Sys2Proof/Laws/Cells.lean ====
section
/-! SUPPORT. The laws of sparse stores: a read after a write, writes that leave other keys alone, and the canonical form. -/

namespace Sys2Proof.Machine.Cells

variable {α : Type}

@[simp] theorem get_nil (d : α) (k : Nat) : get d k [] = d := rfl

theorem get_cons (d : α) (k k' : Nat) (v : α) (l : List (Nat × α)) :
    get d k ((k', v) :: l) = if k' = k then v else get d k l := rfl

theorem get_erase_self (d : α) (k : Nat) (l : List (Nat × α)) : get d k (erase k l) = d := by
  induction l with
  | nil => rfl
  | cons e l ih =>
    obtain ⟨k', v'⟩ := e
    simp only [erase, List.filter_cons] at ih ⊢
    split
    · rename_i h
      simp only [get_cons, ih]
      simp at h
      simp [h]
    · exact ih

theorem get_erase_ne (d : α) {k a : Nat} (h : a ≠ k) (l : List (Nat × α)) : get d a (erase k l) = get d a l := by
  induction l with
  | nil => rfl
  | cons e l ih =>
    obtain ⟨k', v'⟩ := e
    simp only [erase, List.filter_cons] at ih ⊢
    split
    · simp only [get_cons, ih]
    · rename_i hk
      simp at hk
      simp only [ih, get_cons, hk, if_neg (Ne.symm h)]

theorem get_insert_ne (d : α) {k a : Nat} (h : a ≠ k) (v : α) (l : List (Nat × α)) :
    get d a (insert k v l) = get d a l := by
  induction l with
  | nil => simp [insert, get_cons, Ne.symm h]
  | cons e l ih =>
    obtain ⟨k', v'⟩ := e
    simp only [insert]
    split
    · simp [get_cons, Ne.symm h]
    · simp [get_cons, ih]

theorem get_insert_erase (d : α) (k : Nat) (v : α) (l : List (Nat × α)) :
    get d k (insert k v (erase k l)) = v := by
  induction l with
  | nil => simp [erase, insert, get_cons]
  | cons e l ih =>
    obtain ⟨k', v'⟩ := e
    simp only [erase, List.filter_cons] at ih ⊢
    split
    · rename_i h
      simp at h
      simp only [insert]
      split
      · simp [get_cons]
      · simp [get_cons, h, ih]
    · exact ih

/-- A key set reads as the value it was set to. -/
@[simp] theorem get_set_self [DecidableEq α] (d : α) (k : Nat) (v : α) (l : List (Nat × α)) :
    get d k (set d k v l) = v := by
  simp only [set]
  split
  · rename_i h
    rw [get_erase_self, h]
  · exact get_insert_erase d k v l

/-- A key set leaves every other key as it was, whatever it reads as when unlisted. -/
theorem get_set_ne [DecidableEq α] (d d' : α) {k a : Nat} (h : a ≠ k) (v : α) (l : List (Nat × α)) :
    get d' a (set d k v l) = get d' a l := by
  simp only [set]
  split
  · exact get_erase_ne d' h l
  · rw [get_insert_ne d' h, get_erase_ne d' h]

theorem get_clearRange (d : α) (lo n a : Nat) (h : ¬(lo ≤ a ∧ a < lo + n)) (l : List (Nat × α)) :
    get d a (clearRange lo n l) = get d a l := by
  induction l with
  | nil => rfl
  | cons e l ih =>
    obtain ⟨k', v'⟩ := e
    simp only [clearRange, List.filter_cons] at ih ⊢
    split
    · simp only [get_cons, ih]
    · rename_i hk
      simp at hk
      have : k' ≠ a := by omega
      rw [ih, get_cons, if_neg this]

/-! ## The canonical form -/

theorem risesFrom_mono {j k : Nat} (h : j ≤ k) {l : List (Nat × α)} (hl : risesFrom k l = true) : risesFrom j l = true := by
  cases l with
  | nil => rfl
  | cons e l =>
    simp only [risesFrom, Bool.and_eq_true, decide_eq_true_eq] at hl ⊢
    exact ⟨by omega, hl.2⟩

theorem risesFrom_filter (p : Nat × α → Bool) {k : Nat} {l : List (Nat × α)} (hl : risesFrom k l = true) :
    risesFrom k (l.filter p) = true := by
  induction l generalizing k with
  | nil => rfl
  | cons e l ih =>
    simp only [risesFrom, Bool.and_eq_true, decide_eq_true_eq] at hl
    simp only [List.filter_cons]
    split
    · simp [risesFrom, hl.1, ih hl.2]
    · exact risesFrom_mono (Nat.le_of_lt hl.1) (ih hl.2)

theorem risesFrom_insert {j k : Nat} (v : α) {l : List (Nat × α)} (hj : j < k) (hl : risesFrom j l = true)
    (hk : ∀ e ∈ l, e.1 ≠ k) : risesFrom j (insert k v l) = true := by
  induction l generalizing j with
  | nil => simp [insert, risesFrom, hj]
  | cons e l ih =>
    obtain ⟨k', v'⟩ := e
    simp only [risesFrom, Bool.and_eq_true, decide_eq_true_eq] at hl
    have hne : k' ≠ k := hk (k', v') (by simp)
    simp only [insert]
    split
    · rename_i h
      simp [risesFrom, hj, h, hl.2]
    · rename_i h
      simp only [risesFrom, Bool.and_eq_true, decide_eq_true_eq]
      exact ⟨hl.1, ih (by omega) hl.2 (fun e he => hk e (by simp [he]))⟩

theorem rises_iff (l : List (Nat × α)) : rises l = true ↔ ∀ e r, l = e :: r → risesFrom e.1 r = true := by
  cases l with
  | nil => simp [rises]
  | cons e l => obtain ⟨k, v⟩ := e; simp [rises]

theorem rises_of_risesFrom {k : Nat} {l : List (Nat × α)} (h : risesFrom k l = true) : rises l = true := by
  cases l with
  | nil => rfl
  | cons e l =>
    simp only [risesFrom, Bool.and_eq_true] at h
    exact h.2

theorem rises_filter (p : Nat × α → Bool) {l : List (Nat × α)} (hl : rises l = true) : rises (l.filter p) = true := by
  induction l with
  | nil => rfl
  | cons e l ih =>
    simp only [rises] at hl
    simp only [List.filter_cons]
    split
    · exact risesFrom_filter p hl
    · exact ih (rises_of_risesFrom hl)

theorem rises_insert {k : Nat} (v : α) {l : List (Nat × α)} (hl : rises l = true) (hk : ∀ e ∈ l, e.1 ≠ k) :
    rises (insert k v l) = true := by
  cases l with
  | nil => rfl
  | cons e l =>
    obtain ⟨k', v'⟩ := e
    have hne : k' ≠ k := hk (k', v') (by simp)
    simp only [rises] at hl
    simp only [insert]
    split
    · rename_i h
      simp [rises, risesFrom, h, hl]
    · rename_i h
      exact risesFrom_insert v (by omega) hl (fun e he => hk e (by simp [he]))

theorem mem_insert {k : Nat} {v : α} {l : List (Nat × α)} {e : Nat × α} (h : e ∈ insert k v l) : e = (k, v) ∨ e ∈ l := by
  induction l with
  | nil => simpa [insert] using h
  | cons e' l ih =>
    simp only [insert] at h
    split at h
    · simpa using h
    · simp only [List.mem_cons] at h ⊢
      rcases h with h | h
      · exact .inr (.inl h)
      · rcases ih h with h | h
        · exact .inl h
        · exact .inr (.inr h)

theorem wf_nil [DecidableEq α] (d : α) : wf d [] = true := rfl

theorem wf_filter [DecidableEq α] (d : α) (p : Nat × α → Bool) {l : List (Nat × α)} (h : wf d l = true) :
    wf d (l.filter p) = true := by
  simp only [wf, Bool.and_eq_true, List.all_eq_true] at h ⊢
  exact ⟨rises_filter p h.1, fun e he => h.2 e (List.mem_filter.mp he).1⟩

/-- Erasing a key keeps the canonical form. -/
theorem wf_erase [DecidableEq α] (d : α) (k : Nat) {l : List (Nat × α)} (h : wf d l = true) : wf d (erase k l) = true :=
  wf_filter d _ h

/-- Clearing a range keeps the canonical form. -/
theorem wf_clearRange [DecidableEq α] (d : α) (lo n : Nat) {l : List (Nat × α)} (h : wf d l = true) :
    wf d (clearRange lo n l) = true := wf_filter d _ h

/-- Setting a key keeps the canonical form. -/
theorem wf_set [DecidableEq α] (d : α) (k : Nat) (v : α) {l : List (Nat × α)} (h : wf d l = true) :
    wf d (set d k v l) = true := by
  simp only [set]
  split
  · exact wf_erase d k h
  · rename_i hv
    have he := wf_erase d k h
    simp only [wf, Bool.and_eq_true, List.all_eq_true] at he ⊢
    refine ⟨rises_insert v he.1 (fun e hm => by
      have := (List.mem_filter.mp hm).2
      simpa using this), fun e hm => ?_⟩
    rcases mem_insert hm with rfl | hm
    · simpa using hv
    · exact he.2 e hm

end Sys2Proof.Machine.Cells
end

