-- ==== Sys2Proof/Laws/State.lean ====
section
/-! SUPPORT. Beside State: what each update of one part leaves as it was. One lemma per part and update, true by definition, so that
no proof unfolds a record update. -/

namespace Sys2Proof.Machine.State

@[simp] theorem wr_pending (s : State) (r : Reg) (v : Nat) : (s.wr r v).pending = s.pending := rfl
@[simp] theorem wr_mem (s : State) (r : Reg) (v : Nat) : (s.wr r v).mem = s.mem := rfl
@[simp] theorem wr_host (s : State) (r : Reg) (v : Nat) : (s.wr r v).host = s.host := rfl
@[simp] theorem wr_out (s : State) (r : Reg) (v : Nat) : (s.wr r v).out = s.out := rfl
@[simp] theorem wr_free (s : State) (r : Reg) (v : Nat) : (s.wr r v).free = s.free := rfl
@[simp] theorem wr_fuse (s : State) (r : Reg) (v : Nat) : (s.wr r v).fuse = s.fuse := rfl
@[simp] theorem wr_pins (s : State) (r : Reg) (v : Nat) : (s.wr r v).pins = s.pins := rfl
@[simp] theorem wr_mcc (s : State) (r : Reg) (v : Nat) : (s.wr r v).mcc = s.mcc := rfl
@[simp] theorem wr_eng (s : State) (r : Reg) (v : Nat) : (s.wr r v).eng = s.eng := rfl
@[simp] theorem wr_hif (s : State) (r : Reg) (v : Nat) : (s.wr r v).hif = s.hif := rfl
@[simp] theorem wr_ecc (s : State) (r : Reg) (v : Nat) : (s.wr r v).ecc = s.ecc := rfl
@[simp] theorem wr_tiles (s : State) (r : Reg) (v : Nat) : (s.wr r v).tiles = s.tiles := rfl
@[simp] theorem wr_log (s : State) (r : Reg) (v : Nat) : (s.wr r v).log = s.log := rfl
@[simp] theorem wr_sec (s : State) (r : Reg) (v : Nat) : (s.wr r v).sec = s.sec := rfl
@[simp] theorem wr_rst (s : State) (r : Reg) (v : Nat) : (s.wr r v).rst = s.rst := rfl
@[simp] theorem wr_crl (s : State) (r : Reg) (v : Nat) : (s.wr r v).crl = s.crl := rfl
@[simp] theorem wr_fab (s : State) (r : Reg) (v : Nat) : (s.wr r v).fab = s.fab := rfl
@[simp] theorem wr_clk (s : State) (r : Reg) (v : Nat) : (s.wr r v).clk = s.clk := rfl
@[simp] theorem wr_pair (s : State) (r : Reg) (v : Nat) : (s.wr r v).pair = s.pair := rfl
@[simp] theorem wr_rim (s : State) (r : Reg) (v : Nat) : (s.wr r v).rim = s.rim := rfl
@[simp] theorem wr_plt (s : State) (r : Reg) (v : Nat) : (s.wr r v).plt = s.plt := rfl
@[simp] theorem wr_ras (s : State) (r : Reg) (v : Nat) : (s.wr r v).ras = s.ras := rfl
@[simp] theorem wr_srv (s : State) (r : Reg) (v : Nat) : (s.wr r v).srv = s.srv := rfl
@[simp] theorem wr_vid (s : State) (r : Reg) (v : Nat) : (s.wr r v).vid = s.vid := rfl
@[simp] theorem wr_pwr (s : State) (r : Reg) (v : Nat) : (s.wr r v).pwr = s.pwr := rfl
@[simp] theorem wr_dbg (s : State) (r : Reg) (v : Nat) : (s.wr r v).dbg = s.dbg := rfl

@[simp] theorem fw_pending (s : State) (f : Fld) (v : Nat) : (s.fw f v).pending = s.pending := rfl
@[simp] theorem fw_mem (s : State) (f : Fld) (v : Nat) : (s.fw f v).mem = s.mem := rfl
@[simp] theorem fw_host (s : State) (f : Fld) (v : Nat) : (s.fw f v).host = s.host := rfl
@[simp] theorem fw_out (s : State) (f : Fld) (v : Nat) : (s.fw f v).out = s.out := rfl
@[simp] theorem fw_free (s : State) (f : Fld) (v : Nat) : (s.fw f v).free = s.free := rfl
@[simp] theorem fw_fuse (s : State) (f : Fld) (v : Nat) : (s.fw f v).fuse = s.fuse := rfl
@[simp] theorem fw_pins (s : State) (f : Fld) (v : Nat) : (s.fw f v).pins = s.pins := rfl
@[simp] theorem fw_mcc (s : State) (f : Fld) (v : Nat) : (s.fw f v).mcc = s.mcc := rfl
@[simp] theorem fw_eng (s : State) (f : Fld) (v : Nat) : (s.fw f v).eng = s.eng := rfl
@[simp] theorem fw_hif (s : State) (f : Fld) (v : Nat) : (s.fw f v).hif = s.hif := rfl
@[simp] theorem fw_ecc (s : State) (f : Fld) (v : Nat) : (s.fw f v).ecc = s.ecc := rfl
@[simp] theorem fw_tiles (s : State) (f : Fld) (v : Nat) : (s.fw f v).tiles = s.tiles := rfl
@[simp] theorem fw_log (s : State) (f : Fld) (v : Nat) : (s.fw f v).log = s.log := rfl
@[simp] theorem fw_sec (s : State) (f : Fld) (v : Nat) : (s.fw f v).sec = s.sec := rfl
@[simp] theorem fw_rst (s : State) (f : Fld) (v : Nat) : (s.fw f v).rst = s.rst := rfl
@[simp] theorem fw_crl (s : State) (f : Fld) (v : Nat) : (s.fw f v).crl = s.crl := rfl
@[simp] theorem fw_fab (s : State) (f : Fld) (v : Nat) : (s.fw f v).fab = s.fab := rfl
@[simp] theorem fw_clk (s : State) (f : Fld) (v : Nat) : (s.fw f v).clk = s.clk := rfl
@[simp] theorem fw_pair (s : State) (f : Fld) (v : Nat) : (s.fw f v).pair = s.pair := rfl
@[simp] theorem fw_rim (s : State) (f : Fld) (v : Nat) : (s.fw f v).rim = s.rim := rfl
@[simp] theorem fw_plt (s : State) (f : Fld) (v : Nat) : (s.fw f v).plt = s.plt := rfl
@[simp] theorem fw_ras (s : State) (f : Fld) (v : Nat) : (s.fw f v).ras = s.ras := rfl
@[simp] theorem fw_srv (s : State) (f : Fld) (v : Nat) : (s.fw f v).srv = s.srv := rfl
@[simp] theorem fw_vid (s : State) (f : Fld) (v : Nat) : (s.fw f v).vid = s.vid := rfl
@[simp] theorem fw_pwr (s : State) (f : Fld) (v : Nat) : (s.fw f v).pwr = s.pwr := rfl
@[simp] theorem fw_dbg (s : State) (f : Fld) (v : Nat) : (s.fw f v).dbg = s.dbg := rfl

@[simp] theorem fbw_pending (s : State) (f : Fld) (b : Bool) : (s.fbw f b).pending = s.pending := rfl
@[simp] theorem fbw_mem (s : State) (f : Fld) (b : Bool) : (s.fbw f b).mem = s.mem := rfl
@[simp] theorem fbw_host (s : State) (f : Fld) (b : Bool) : (s.fbw f b).host = s.host := rfl
@[simp] theorem fbw_out (s : State) (f : Fld) (b : Bool) : (s.fbw f b).out = s.out := rfl
@[simp] theorem fbw_free (s : State) (f : Fld) (b : Bool) : (s.fbw f b).free = s.free := rfl
@[simp] theorem fbw_fuse (s : State) (f : Fld) (b : Bool) : (s.fbw f b).fuse = s.fuse := rfl
@[simp] theorem fbw_pins (s : State) (f : Fld) (b : Bool) : (s.fbw f b).pins = s.pins := rfl
@[simp] theorem fbw_mcc (s : State) (f : Fld) (b : Bool) : (s.fbw f b).mcc = s.mcc := rfl
@[simp] theorem fbw_eng (s : State) (f : Fld) (b : Bool) : (s.fbw f b).eng = s.eng := rfl
@[simp] theorem fbw_hif (s : State) (f : Fld) (b : Bool) : (s.fbw f b).hif = s.hif := rfl
@[simp] theorem fbw_ecc (s : State) (f : Fld) (b : Bool) : (s.fbw f b).ecc = s.ecc := rfl
@[simp] theorem fbw_tiles (s : State) (f : Fld) (b : Bool) : (s.fbw f b).tiles = s.tiles := rfl
@[simp] theorem fbw_log (s : State) (f : Fld) (b : Bool) : (s.fbw f b).log = s.log := rfl
@[simp] theorem fbw_sec (s : State) (f : Fld) (b : Bool) : (s.fbw f b).sec = s.sec := rfl
@[simp] theorem fbw_rst (s : State) (f : Fld) (b : Bool) : (s.fbw f b).rst = s.rst := rfl
@[simp] theorem fbw_crl (s : State) (f : Fld) (b : Bool) : (s.fbw f b).crl = s.crl := rfl
@[simp] theorem fbw_fab (s : State) (f : Fld) (b : Bool) : (s.fbw f b).fab = s.fab := rfl
@[simp] theorem fbw_clk (s : State) (f : Fld) (b : Bool) : (s.fbw f b).clk = s.clk := rfl
@[simp] theorem fbw_pair (s : State) (f : Fld) (b : Bool) : (s.fbw f b).pair = s.pair := rfl
@[simp] theorem fbw_rim (s : State) (f : Fld) (b : Bool) : (s.fbw f b).rim = s.rim := rfl
@[simp] theorem fbw_plt (s : State) (f : Fld) (b : Bool) : (s.fbw f b).plt = s.plt := rfl
@[simp] theorem fbw_ras (s : State) (f : Fld) (b : Bool) : (s.fbw f b).ras = s.ras := rfl
@[simp] theorem fbw_srv (s : State) (f : Fld) (b : Bool) : (s.fbw f b).srv = s.srv := rfl
@[simp] theorem fbw_vid (s : State) (f : Fld) (b : Bool) : (s.fbw f b).vid = s.vid := rfl
@[simp] theorem fbw_pwr (s : State) (f : Fld) (b : Bool) : (s.fbw f b).pwr = s.pwr := rfl
@[simp] theorem fbw_dbg (s : State) (f : Fld) (b : Bool) : (s.fbw f b).dbg = s.dbg := rfl

@[simp] theorem orReg_pending (s : State) (r : Reg) (m : Nat) : (s.orReg r m).pending = s.pending := rfl
@[simp] theorem orReg_mem (s : State) (r : Reg) (m : Nat) : (s.orReg r m).mem = s.mem := rfl
@[simp] theorem orReg_host (s : State) (r : Reg) (m : Nat) : (s.orReg r m).host = s.host := rfl
@[simp] theorem orReg_out (s : State) (r : Reg) (m : Nat) : (s.orReg r m).out = s.out := rfl
@[simp] theorem orReg_free (s : State) (r : Reg) (m : Nat) : (s.orReg r m).free = s.free := rfl
@[simp] theorem orReg_fuse (s : State) (r : Reg) (m : Nat) : (s.orReg r m).fuse = s.fuse := rfl
@[simp] theorem orReg_pins (s : State) (r : Reg) (m : Nat) : (s.orReg r m).pins = s.pins := rfl
@[simp] theorem orReg_mcc (s : State) (r : Reg) (m : Nat) : (s.orReg r m).mcc = s.mcc := rfl
@[simp] theorem orReg_eng (s : State) (r : Reg) (m : Nat) : (s.orReg r m).eng = s.eng := rfl
@[simp] theorem orReg_hif (s : State) (r : Reg) (m : Nat) : (s.orReg r m).hif = s.hif := rfl
@[simp] theorem orReg_ecc (s : State) (r : Reg) (m : Nat) : (s.orReg r m).ecc = s.ecc := rfl
@[simp] theorem orReg_tiles (s : State) (r : Reg) (m : Nat) : (s.orReg r m).tiles = s.tiles := rfl
@[simp] theorem orReg_log (s : State) (r : Reg) (m : Nat) : (s.orReg r m).log = s.log := rfl
@[simp] theorem orReg_sec (s : State) (r : Reg) (m : Nat) : (s.orReg r m).sec = s.sec := rfl
@[simp] theorem orReg_rst (s : State) (r : Reg) (m : Nat) : (s.orReg r m).rst = s.rst := rfl
@[simp] theorem orReg_crl (s : State) (r : Reg) (m : Nat) : (s.orReg r m).crl = s.crl := rfl
@[simp] theorem orReg_fab (s : State) (r : Reg) (m : Nat) : (s.orReg r m).fab = s.fab := rfl
@[simp] theorem orReg_clk (s : State) (r : Reg) (m : Nat) : (s.orReg r m).clk = s.clk := rfl
@[simp] theorem orReg_pair (s : State) (r : Reg) (m : Nat) : (s.orReg r m).pair = s.pair := rfl
@[simp] theorem orReg_rim (s : State) (r : Reg) (m : Nat) : (s.orReg r m).rim = s.rim := rfl
@[simp] theorem orReg_plt (s : State) (r : Reg) (m : Nat) : (s.orReg r m).plt = s.plt := rfl
@[simp] theorem orReg_ras (s : State) (r : Reg) (m : Nat) : (s.orReg r m).ras = s.ras := rfl
@[simp] theorem orReg_srv (s : State) (r : Reg) (m : Nat) : (s.orReg r m).srv = s.srv := rfl
@[simp] theorem orReg_vid (s : State) (r : Reg) (m : Nat) : (s.orReg r m).vid = s.vid := rfl
@[simp] theorem orReg_pwr (s : State) (r : Reg) (m : Nat) : (s.orReg r m).pwr = s.pwr := rfl
@[simp] theorem orReg_dbg (s : State) (r : Reg) (m : Nat) : (s.orReg r m).dbg = s.dbg := rfl

@[simp] theorem bump_pending (s : State) (r : Reg) (n : Nat) : (s.bump r n).pending = s.pending := rfl
@[simp] theorem bump_mem (s : State) (r : Reg) (n : Nat) : (s.bump r n).mem = s.mem := rfl
@[simp] theorem bump_host (s : State) (r : Reg) (n : Nat) : (s.bump r n).host = s.host := rfl
@[simp] theorem bump_out (s : State) (r : Reg) (n : Nat) : (s.bump r n).out = s.out := rfl
@[simp] theorem bump_free (s : State) (r : Reg) (n : Nat) : (s.bump r n).free = s.free := rfl
@[simp] theorem bump_fuse (s : State) (r : Reg) (n : Nat) : (s.bump r n).fuse = s.fuse := rfl
@[simp] theorem bump_pins (s : State) (r : Reg) (n : Nat) : (s.bump r n).pins = s.pins := rfl
@[simp] theorem bump_mcc (s : State) (r : Reg) (n : Nat) : (s.bump r n).mcc = s.mcc := rfl
@[simp] theorem bump_eng (s : State) (r : Reg) (n : Nat) : (s.bump r n).eng = s.eng := rfl
@[simp] theorem bump_hif (s : State) (r : Reg) (n : Nat) : (s.bump r n).hif = s.hif := rfl
@[simp] theorem bump_ecc (s : State) (r : Reg) (n : Nat) : (s.bump r n).ecc = s.ecc := rfl
@[simp] theorem bump_tiles (s : State) (r : Reg) (n : Nat) : (s.bump r n).tiles = s.tiles := rfl
@[simp] theorem bump_log (s : State) (r : Reg) (n : Nat) : (s.bump r n).log = s.log := rfl
@[simp] theorem bump_sec (s : State) (r : Reg) (n : Nat) : (s.bump r n).sec = s.sec := rfl
@[simp] theorem bump_rst (s : State) (r : Reg) (n : Nat) : (s.bump r n).rst = s.rst := rfl
@[simp] theorem bump_crl (s : State) (r : Reg) (n : Nat) : (s.bump r n).crl = s.crl := rfl
@[simp] theorem bump_fab (s : State) (r : Reg) (n : Nat) : (s.bump r n).fab = s.fab := rfl
@[simp] theorem bump_clk (s : State) (r : Reg) (n : Nat) : (s.bump r n).clk = s.clk := rfl
@[simp] theorem bump_pair (s : State) (r : Reg) (n : Nat) : (s.bump r n).pair = s.pair := rfl
@[simp] theorem bump_rim (s : State) (r : Reg) (n : Nat) : (s.bump r n).rim = s.rim := rfl
@[simp] theorem bump_plt (s : State) (r : Reg) (n : Nat) : (s.bump r n).plt = s.plt := rfl
@[simp] theorem bump_ras (s : State) (r : Reg) (n : Nat) : (s.bump r n).ras = s.ras := rfl
@[simp] theorem bump_srv (s : State) (r : Reg) (n : Nat) : (s.bump r n).srv = s.srv := rfl
@[simp] theorem bump_vid (s : State) (r : Reg) (n : Nat) : (s.bump r n).vid = s.vid := rfl
@[simp] theorem bump_pwr (s : State) (r : Reg) (n : Nat) : (s.bump r n).pwr = s.pwr := rfl
@[simp] theorem bump_dbg (s : State) (r : Reg) (n : Nat) : (s.bump r n).dbg = s.dbg := rfl

@[simp] theorem bumpWrap_pending (s : State) (r : Reg) (w n : Nat) : (s.bumpWrap r w n).pending = s.pending := rfl
@[simp] theorem bumpWrap_mem (s : State) (r : Reg) (w n : Nat) : (s.bumpWrap r w n).mem = s.mem := rfl
@[simp] theorem bumpWrap_host (s : State) (r : Reg) (w n : Nat) : (s.bumpWrap r w n).host = s.host := rfl
@[simp] theorem bumpWrap_out (s : State) (r : Reg) (w n : Nat) : (s.bumpWrap r w n).out = s.out := rfl
@[simp] theorem bumpWrap_free (s : State) (r : Reg) (w n : Nat) : (s.bumpWrap r w n).free = s.free := rfl
@[simp] theorem bumpWrap_fuse (s : State) (r : Reg) (w n : Nat) : (s.bumpWrap r w n).fuse = s.fuse := rfl
@[simp] theorem bumpWrap_pins (s : State) (r : Reg) (w n : Nat) : (s.bumpWrap r w n).pins = s.pins := rfl
@[simp] theorem bumpWrap_mcc (s : State) (r : Reg) (w n : Nat) : (s.bumpWrap r w n).mcc = s.mcc := rfl
@[simp] theorem bumpWrap_eng (s : State) (r : Reg) (w n : Nat) : (s.bumpWrap r w n).eng = s.eng := rfl
@[simp] theorem bumpWrap_hif (s : State) (r : Reg) (w n : Nat) : (s.bumpWrap r w n).hif = s.hif := rfl
@[simp] theorem bumpWrap_ecc (s : State) (r : Reg) (w n : Nat) : (s.bumpWrap r w n).ecc = s.ecc := rfl
@[simp] theorem bumpWrap_tiles (s : State) (r : Reg) (w n : Nat) : (s.bumpWrap r w n).tiles = s.tiles := rfl
@[simp] theorem bumpWrap_log (s : State) (r : Reg) (w n : Nat) : (s.bumpWrap r w n).log = s.log := rfl
@[simp] theorem bumpWrap_sec (s : State) (r : Reg) (w n : Nat) : (s.bumpWrap r w n).sec = s.sec := rfl
@[simp] theorem bumpWrap_rst (s : State) (r : Reg) (w n : Nat) : (s.bumpWrap r w n).rst = s.rst := rfl
@[simp] theorem bumpWrap_crl (s : State) (r : Reg) (w n : Nat) : (s.bumpWrap r w n).crl = s.crl := rfl
@[simp] theorem bumpWrap_fab (s : State) (r : Reg) (w n : Nat) : (s.bumpWrap r w n).fab = s.fab := rfl
@[simp] theorem bumpWrap_clk (s : State) (r : Reg) (w n : Nat) : (s.bumpWrap r w n).clk = s.clk := rfl
@[simp] theorem bumpWrap_pair (s : State) (r : Reg) (w n : Nat) : (s.bumpWrap r w n).pair = s.pair := rfl
@[simp] theorem bumpWrap_rim (s : State) (r : Reg) (w n : Nat) : (s.bumpWrap r w n).rim = s.rim := rfl
@[simp] theorem bumpWrap_plt (s : State) (r : Reg) (w n : Nat) : (s.bumpWrap r w n).plt = s.plt := rfl
@[simp] theorem bumpWrap_ras (s : State) (r : Reg) (w n : Nat) : (s.bumpWrap r w n).ras = s.ras := rfl
@[simp] theorem bumpWrap_srv (s : State) (r : Reg) (w n : Nat) : (s.bumpWrap r w n).srv = s.srv := rfl
@[simp] theorem bumpWrap_vid (s : State) (r : Reg) (w n : Nat) : (s.bumpWrap r w n).vid = s.vid := rfl
@[simp] theorem bumpWrap_pwr (s : State) (r : Reg) (w n : Nat) : (s.bumpWrap r w n).pwr = s.pwr := rfl
@[simp] theorem bumpWrap_dbg (s : State) (r : Reg) (w n : Nat) : (s.bumpWrap r w n).dbg = s.dbg := rfl

@[simp] theorem regReset_pending (s : State) (r : Reg) : (s.regReset r).pending = s.pending := rfl
@[simp] theorem regReset_mem (s : State) (r : Reg) : (s.regReset r).mem = s.mem := rfl
@[simp] theorem regReset_host (s : State) (r : Reg) : (s.regReset r).host = s.host := rfl
@[simp] theorem regReset_out (s : State) (r : Reg) : (s.regReset r).out = s.out := rfl
@[simp] theorem regReset_free (s : State) (r : Reg) : (s.regReset r).free = s.free := rfl
@[simp] theorem regReset_fuse (s : State) (r : Reg) : (s.regReset r).fuse = s.fuse := rfl
@[simp] theorem regReset_pins (s : State) (r : Reg) : (s.regReset r).pins = s.pins := rfl
@[simp] theorem regReset_mcc (s : State) (r : Reg) : (s.regReset r).mcc = s.mcc := rfl
@[simp] theorem regReset_eng (s : State) (r : Reg) : (s.regReset r).eng = s.eng := rfl
@[simp] theorem regReset_hif (s : State) (r : Reg) : (s.regReset r).hif = s.hif := rfl
@[simp] theorem regReset_ecc (s : State) (r : Reg) : (s.regReset r).ecc = s.ecc := rfl
@[simp] theorem regReset_tiles (s : State) (r : Reg) : (s.regReset r).tiles = s.tiles := rfl
@[simp] theorem regReset_log (s : State) (r : Reg) : (s.regReset r).log = s.log := rfl
@[simp] theorem regReset_sec (s : State) (r : Reg) : (s.regReset r).sec = s.sec := rfl
@[simp] theorem regReset_rst (s : State) (r : Reg) : (s.regReset r).rst = s.rst := rfl
@[simp] theorem regReset_crl (s : State) (r : Reg) : (s.regReset r).crl = s.crl := rfl
@[simp] theorem regReset_fab (s : State) (r : Reg) : (s.regReset r).fab = s.fab := rfl
@[simp] theorem regReset_clk (s : State) (r : Reg) : (s.regReset r).clk = s.clk := rfl
@[simp] theorem regReset_pair (s : State) (r : Reg) : (s.regReset r).pair = s.pair := rfl
@[simp] theorem regReset_rim (s : State) (r : Reg) : (s.regReset r).rim = s.rim := rfl
@[simp] theorem regReset_plt (s : State) (r : Reg) : (s.regReset r).plt = s.plt := rfl
@[simp] theorem regReset_ras (s : State) (r : Reg) : (s.regReset r).ras = s.ras := rfl
@[simp] theorem regReset_srv (s : State) (r : Reg) : (s.regReset r).srv = s.srv := rfl
@[simp] theorem regReset_vid (s : State) (r : Reg) : (s.regReset r).vid = s.vid := rfl
@[simp] theorem regReset_pwr (s : State) (r : Reg) : (s.regReset r).pwr = s.pwr := rfl
@[simp] theorem regReset_dbg (s : State) (r : Reg) : (s.regReset r).dbg = s.dbg := rfl

@[simp] theorem regsReset_pending (s : State) (lo n : Nat) : (s.regsReset lo n).pending = s.pending := rfl
@[simp] theorem regsReset_mem (s : State) (lo n : Nat) : (s.regsReset lo n).mem = s.mem := rfl
@[simp] theorem regsReset_host (s : State) (lo n : Nat) : (s.regsReset lo n).host = s.host := rfl
@[simp] theorem regsReset_out (s : State) (lo n : Nat) : (s.regsReset lo n).out = s.out := rfl
@[simp] theorem regsReset_free (s : State) (lo n : Nat) : (s.regsReset lo n).free = s.free := rfl
@[simp] theorem regsReset_fuse (s : State) (lo n : Nat) : (s.regsReset lo n).fuse = s.fuse := rfl
@[simp] theorem regsReset_pins (s : State) (lo n : Nat) : (s.regsReset lo n).pins = s.pins := rfl
@[simp] theorem regsReset_mcc (s : State) (lo n : Nat) : (s.regsReset lo n).mcc = s.mcc := rfl
@[simp] theorem regsReset_eng (s : State) (lo n : Nat) : (s.regsReset lo n).eng = s.eng := rfl
@[simp] theorem regsReset_hif (s : State) (lo n : Nat) : (s.regsReset lo n).hif = s.hif := rfl
@[simp] theorem regsReset_ecc (s : State) (lo n : Nat) : (s.regsReset lo n).ecc = s.ecc := rfl
@[simp] theorem regsReset_tiles (s : State) (lo n : Nat) : (s.regsReset lo n).tiles = s.tiles := rfl
@[simp] theorem regsReset_log (s : State) (lo n : Nat) : (s.regsReset lo n).log = s.log := rfl
@[simp] theorem regsReset_sec (s : State) (lo n : Nat) : (s.regsReset lo n).sec = s.sec := rfl
@[simp] theorem regsReset_rst (s : State) (lo n : Nat) : (s.regsReset lo n).rst = s.rst := rfl
@[simp] theorem regsReset_crl (s : State) (lo n : Nat) : (s.regsReset lo n).crl = s.crl := rfl
@[simp] theorem regsReset_fab (s : State) (lo n : Nat) : (s.regsReset lo n).fab = s.fab := rfl
@[simp] theorem regsReset_clk (s : State) (lo n : Nat) : (s.regsReset lo n).clk = s.clk := rfl
@[simp] theorem regsReset_pair (s : State) (lo n : Nat) : (s.regsReset lo n).pair = s.pair := rfl
@[simp] theorem regsReset_rim (s : State) (lo n : Nat) : (s.regsReset lo n).rim = s.rim := rfl
@[simp] theorem regsReset_plt (s : State) (lo n : Nat) : (s.regsReset lo n).plt = s.plt := rfl
@[simp] theorem regsReset_ras (s : State) (lo n : Nat) : (s.regsReset lo n).ras = s.ras := rfl
@[simp] theorem regsReset_srv (s : State) (lo n : Nat) : (s.regsReset lo n).srv = s.srv := rfl
@[simp] theorem regsReset_vid (s : State) (lo n : Nat) : (s.regsReset lo n).vid = s.vid := rfl
@[simp] theorem regsReset_pwr (s : State) (lo n : Nat) : (s.regsReset lo n).pwr = s.pwr := rfl
@[simp] theorem regsReset_dbg (s : State) (lo n : Nat) : (s.regsReset lo n).dbg = s.dbg := rfl

@[simp] theorem setRingState_pending (s : State) (n st : Nat) : (s.setRingState n st).pending = s.pending := rfl
@[simp] theorem setRingState_mem (s : State) (n st : Nat) : (s.setRingState n st).mem = s.mem := rfl
@[simp] theorem setRingState_host (s : State) (n st : Nat) : (s.setRingState n st).host = s.host := rfl
@[simp] theorem setRingState_out (s : State) (n st : Nat) : (s.setRingState n st).out = s.out := rfl
@[simp] theorem setRingState_free (s : State) (n st : Nat) : (s.setRingState n st).free = s.free := rfl
@[simp] theorem setRingState_fuse (s : State) (n st : Nat) : (s.setRingState n st).fuse = s.fuse := rfl
@[simp] theorem setRingState_pins (s : State) (n st : Nat) : (s.setRingState n st).pins = s.pins := rfl
@[simp] theorem setRingState_mcc (s : State) (n st : Nat) : (s.setRingState n st).mcc = s.mcc := rfl
@[simp] theorem setRingState_eng (s : State) (n st : Nat) : (s.setRingState n st).eng = s.eng := rfl
@[simp] theorem setRingState_hif (s : State) (n st : Nat) : (s.setRingState n st).hif = s.hif := rfl
@[simp] theorem setRingState_ecc (s : State) (n st : Nat) : (s.setRingState n st).ecc = s.ecc := rfl
@[simp] theorem setRingState_tiles (s : State) (n st : Nat) : (s.setRingState n st).tiles = s.tiles := rfl
@[simp] theorem setRingState_log (s : State) (n st : Nat) : (s.setRingState n st).log = s.log := rfl
@[simp] theorem setRingState_sec (s : State) (n st : Nat) : (s.setRingState n st).sec = s.sec := rfl
@[simp] theorem setRingState_rst (s : State) (n st : Nat) : (s.setRingState n st).rst = s.rst := rfl
@[simp] theorem setRingState_crl (s : State) (n st : Nat) : (s.setRingState n st).crl = s.crl := rfl
@[simp] theorem setRingState_fab (s : State) (n st : Nat) : (s.setRingState n st).fab = s.fab := rfl
@[simp] theorem setRingState_clk (s : State) (n st : Nat) : (s.setRingState n st).clk = s.clk := rfl
@[simp] theorem setRingState_pair (s : State) (n st : Nat) : (s.setRingState n st).pair = s.pair := rfl
@[simp] theorem setRingState_rim (s : State) (n st : Nat) : (s.setRingState n st).rim = s.rim := rfl
@[simp] theorem setRingState_plt (s : State) (n st : Nat) : (s.setRingState n st).plt = s.plt := rfl
@[simp] theorem setRingState_ras (s : State) (n st : Nat) : (s.setRingState n st).ras = s.ras := rfl
@[simp] theorem setRingState_srv (s : State) (n st : Nat) : (s.setRingState n st).srv = s.srv := rfl
@[simp] theorem setRingState_vid (s : State) (n st : Nat) : (s.setRingState n st).vid = s.vid := rfl
@[simp] theorem setRingState_pwr (s : State) (n st : Nat) : (s.setRingState n st).pwr = s.pwr := rfl
@[simp] theorem setRingState_dbg (s : State) (n st : Nat) : (s.setRingState n st).dbg = s.dbg := rfl

@[simp] theorem memWrite_pending (s : State) (k : Nat) (bs : List Byte) : (s.memWrite k bs).pending = s.pending := rfl
@[simp] theorem memWrite_regs (s : State) (k : Nat) (bs : List Byte) : (s.memWrite k bs).regs = s.regs := rfl
@[simp] theorem memWrite_host (s : State) (k : Nat) (bs : List Byte) : (s.memWrite k bs).host = s.host := rfl
@[simp] theorem memWrite_out (s : State) (k : Nat) (bs : List Byte) : (s.memWrite k bs).out = s.out := rfl
@[simp] theorem memWrite_free (s : State) (k : Nat) (bs : List Byte) : (s.memWrite k bs).free = s.free := rfl
@[simp] theorem memWrite_fuse (s : State) (k : Nat) (bs : List Byte) : (s.memWrite k bs).fuse = s.fuse := rfl
@[simp] theorem memWrite_pins (s : State) (k : Nat) (bs : List Byte) : (s.memWrite k bs).pins = s.pins := rfl
@[simp] theorem memWrite_mcc (s : State) (k : Nat) (bs : List Byte) : (s.memWrite k bs).mcc = s.mcc := rfl
@[simp] theorem memWrite_eng (s : State) (k : Nat) (bs : List Byte) : (s.memWrite k bs).eng = s.eng := rfl
@[simp] theorem memWrite_hif (s : State) (k : Nat) (bs : List Byte) : (s.memWrite k bs).hif = s.hif := rfl
@[simp] theorem memWrite_ecc (s : State) (k : Nat) (bs : List Byte) : (s.memWrite k bs).ecc = s.ecc := rfl
@[simp] theorem memWrite_tiles (s : State) (k : Nat) (bs : List Byte) : (s.memWrite k bs).tiles = s.tiles := rfl
@[simp] theorem memWrite_log (s : State) (k : Nat) (bs : List Byte) : (s.memWrite k bs).log = s.log := rfl
@[simp] theorem memWrite_sec (s : State) (k : Nat) (bs : List Byte) : (s.memWrite k bs).sec = s.sec := rfl
@[simp] theorem memWrite_rst (s : State) (k : Nat) (bs : List Byte) : (s.memWrite k bs).rst = s.rst := rfl
@[simp] theorem memWrite_crl (s : State) (k : Nat) (bs : List Byte) : (s.memWrite k bs).crl = s.crl := rfl
@[simp] theorem memWrite_fab (s : State) (k : Nat) (bs : List Byte) : (s.memWrite k bs).fab = s.fab := rfl
@[simp] theorem memWrite_clk (s : State) (k : Nat) (bs : List Byte) : (s.memWrite k bs).clk = s.clk := rfl
@[simp] theorem memWrite_pair (s : State) (k : Nat) (bs : List Byte) : (s.memWrite k bs).pair = s.pair := rfl
@[simp] theorem memWrite_rim (s : State) (k : Nat) (bs : List Byte) : (s.memWrite k bs).rim = s.rim := rfl
@[simp] theorem memWrite_plt (s : State) (k : Nat) (bs : List Byte) : (s.memWrite k bs).plt = s.plt := rfl
@[simp] theorem memWrite_ras (s : State) (k : Nat) (bs : List Byte) : (s.memWrite k bs).ras = s.ras := rfl
@[simp] theorem memWrite_srv (s : State) (k : Nat) (bs : List Byte) : (s.memWrite k bs).srv = s.srv := rfl
@[simp] theorem memWrite_vid (s : State) (k : Nat) (bs : List Byte) : (s.memWrite k bs).vid = s.vid := rfl
@[simp] theorem memWrite_pwr (s : State) (k : Nat) (bs : List Byte) : (s.memWrite k bs).pwr = s.pwr := rfl
@[simp] theorem memWrite_dbg (s : State) (k : Nat) (bs : List Byte) : (s.memWrite k bs).dbg = s.dbg := rfl

@[simp] theorem hostWrite_pending (s : State) (k : Nat) (bs : List Byte) : (s.hostWrite k bs).pending = s.pending := rfl
@[simp] theorem hostWrite_regs (s : State) (k : Nat) (bs : List Byte) : (s.hostWrite k bs).regs = s.regs := rfl
@[simp] theorem hostWrite_mem (s : State) (k : Nat) (bs : List Byte) : (s.hostWrite k bs).mem = s.mem := rfl
@[simp] theorem hostWrite_out (s : State) (k : Nat) (bs : List Byte) : (s.hostWrite k bs).out = s.out := rfl
@[simp] theorem hostWrite_free (s : State) (k : Nat) (bs : List Byte) : (s.hostWrite k bs).free = s.free := rfl
@[simp] theorem hostWrite_fuse (s : State) (k : Nat) (bs : List Byte) : (s.hostWrite k bs).fuse = s.fuse := rfl
@[simp] theorem hostWrite_pins (s : State) (k : Nat) (bs : List Byte) : (s.hostWrite k bs).pins = s.pins := rfl
@[simp] theorem hostWrite_mcc (s : State) (k : Nat) (bs : List Byte) : (s.hostWrite k bs).mcc = s.mcc := rfl
@[simp] theorem hostWrite_eng (s : State) (k : Nat) (bs : List Byte) : (s.hostWrite k bs).eng = s.eng := rfl
@[simp] theorem hostWrite_hif (s : State) (k : Nat) (bs : List Byte) : (s.hostWrite k bs).hif = s.hif := rfl
@[simp] theorem hostWrite_ecc (s : State) (k : Nat) (bs : List Byte) : (s.hostWrite k bs).ecc = s.ecc := rfl
@[simp] theorem hostWrite_tiles (s : State) (k : Nat) (bs : List Byte) : (s.hostWrite k bs).tiles = s.tiles := rfl
@[simp] theorem hostWrite_log (s : State) (k : Nat) (bs : List Byte) : (s.hostWrite k bs).log = s.log := rfl
@[simp] theorem hostWrite_sec (s : State) (k : Nat) (bs : List Byte) : (s.hostWrite k bs).sec = s.sec := rfl
@[simp] theorem hostWrite_rst (s : State) (k : Nat) (bs : List Byte) : (s.hostWrite k bs).rst = s.rst := rfl
@[simp] theorem hostWrite_crl (s : State) (k : Nat) (bs : List Byte) : (s.hostWrite k bs).crl = s.crl := rfl
@[simp] theorem hostWrite_fab (s : State) (k : Nat) (bs : List Byte) : (s.hostWrite k bs).fab = s.fab := rfl
@[simp] theorem hostWrite_clk (s : State) (k : Nat) (bs : List Byte) : (s.hostWrite k bs).clk = s.clk := rfl
@[simp] theorem hostWrite_pair (s : State) (k : Nat) (bs : List Byte) : (s.hostWrite k bs).pair = s.pair := rfl
@[simp] theorem hostWrite_rim (s : State) (k : Nat) (bs : List Byte) : (s.hostWrite k bs).rim = s.rim := rfl
@[simp] theorem hostWrite_plt (s : State) (k : Nat) (bs : List Byte) : (s.hostWrite k bs).plt = s.plt := rfl
@[simp] theorem hostWrite_ras (s : State) (k : Nat) (bs : List Byte) : (s.hostWrite k bs).ras = s.ras := rfl
@[simp] theorem hostWrite_srv (s : State) (k : Nat) (bs : List Byte) : (s.hostWrite k bs).srv = s.srv := rfl
@[simp] theorem hostWrite_vid (s : State) (k : Nat) (bs : List Byte) : (s.hostWrite k bs).vid = s.vid := rfl
@[simp] theorem hostWrite_pwr (s : State) (k : Nat) (bs : List Byte) : (s.hostWrite k bs).pwr = s.pwr := rfl
@[simp] theorem hostWrite_dbg (s : State) (k : Nat) (bs : List Byte) : (s.hostWrite k bs).dbg = s.dbg := rfl

@[simp] theorem emit_pending (s : State) (o : Out) : (s.emit o).pending = s.pending := rfl
@[simp] theorem emit_regs (s : State) (o : Out) : (s.emit o).regs = s.regs := rfl
@[simp] theorem emit_mem (s : State) (o : Out) : (s.emit o).mem = s.mem := rfl
@[simp] theorem emit_host (s : State) (o : Out) : (s.emit o).host = s.host := rfl
@[simp] theorem emit_free (s : State) (o : Out) : (s.emit o).free = s.free := rfl
@[simp] theorem emit_fuse (s : State) (o : Out) : (s.emit o).fuse = s.fuse := rfl
@[simp] theorem emit_pins (s : State) (o : Out) : (s.emit o).pins = s.pins := rfl
@[simp] theorem emit_mcc (s : State) (o : Out) : (s.emit o).mcc = s.mcc := rfl
@[simp] theorem emit_eng (s : State) (o : Out) : (s.emit o).eng = s.eng := rfl
@[simp] theorem emit_hif (s : State) (o : Out) : (s.emit o).hif = s.hif := rfl
@[simp] theorem emit_ecc (s : State) (o : Out) : (s.emit o).ecc = s.ecc := rfl
@[simp] theorem emit_tiles (s : State) (o : Out) : (s.emit o).tiles = s.tiles := rfl
@[simp] theorem emit_log (s : State) (o : Out) : (s.emit o).log = s.log := rfl
@[simp] theorem emit_sec (s : State) (o : Out) : (s.emit o).sec = s.sec := rfl
@[simp] theorem emit_rst (s : State) (o : Out) : (s.emit o).rst = s.rst := rfl
@[simp] theorem emit_crl (s : State) (o : Out) : (s.emit o).crl = s.crl := rfl
@[simp] theorem emit_fab (s : State) (o : Out) : (s.emit o).fab = s.fab := rfl
@[simp] theorem emit_clk (s : State) (o : Out) : (s.emit o).clk = s.clk := rfl
@[simp] theorem emit_pair (s : State) (o : Out) : (s.emit o).pair = s.pair := rfl
@[simp] theorem emit_rim (s : State) (o : Out) : (s.emit o).rim = s.rim := rfl
@[simp] theorem emit_plt (s : State) (o : Out) : (s.emit o).plt = s.plt := rfl
@[simp] theorem emit_ras (s : State) (o : Out) : (s.emit o).ras = s.ras := rfl
@[simp] theorem emit_srv (s : State) (o : Out) : (s.emit o).srv = s.srv := rfl
@[simp] theorem emit_vid (s : State) (o : Out) : (s.emit o).vid = s.vid := rfl
@[simp] theorem emit_pwr (s : State) (o : Out) : (s.emit o).pwr = s.pwr := rfl
@[simp] theorem emit_dbg (s : State) (o : Out) : (s.emit o).dbg = s.dbg := rfl

@[simp] theorem setMsix_pending (s : State) (v : Nat) (e : Msix) : (s.setMsix v e).pending = s.pending := rfl
@[simp] theorem setMsix_regs (s : State) (v : Nat) (e : Msix) : (s.setMsix v e).regs = s.regs := rfl
@[simp] theorem setMsix_mem (s : State) (v : Nat) (e : Msix) : (s.setMsix v e).mem = s.mem := rfl
@[simp] theorem setMsix_host (s : State) (v : Nat) (e : Msix) : (s.setMsix v e).host = s.host := rfl
@[simp] theorem setMsix_out (s : State) (v : Nat) (e : Msix) : (s.setMsix v e).out = s.out := rfl
@[simp] theorem setMsix_free (s : State) (v : Nat) (e : Msix) : (s.setMsix v e).free = s.free := rfl
@[simp] theorem setMsix_fuse (s : State) (v : Nat) (e : Msix) : (s.setMsix v e).fuse = s.fuse := rfl
@[simp] theorem setMsix_pins (s : State) (v : Nat) (e : Msix) : (s.setMsix v e).pins = s.pins := rfl
@[simp] theorem setMsix_mcc (s : State) (v : Nat) (e : Msix) : (s.setMsix v e).mcc = s.mcc := rfl
@[simp] theorem setMsix_eng (s : State) (v : Nat) (e : Msix) : (s.setMsix v e).eng = s.eng := rfl
@[simp] theorem setMsix_ecc (s : State) (v : Nat) (e : Msix) : (s.setMsix v e).ecc = s.ecc := rfl
@[simp] theorem setMsix_tiles (s : State) (v : Nat) (e : Msix) : (s.setMsix v e).tiles = s.tiles := rfl
@[simp] theorem setMsix_log (s : State) (v : Nat) (e : Msix) : (s.setMsix v e).log = s.log := rfl
@[simp] theorem setMsix_sec (s : State) (v : Nat) (e : Msix) : (s.setMsix v e).sec = s.sec := rfl
@[simp] theorem setMsix_rst (s : State) (v : Nat) (e : Msix) : (s.setMsix v e).rst = s.rst := rfl
@[simp] theorem setMsix_crl (s : State) (v : Nat) (e : Msix) : (s.setMsix v e).crl = s.crl := rfl
@[simp] theorem setMsix_fab (s : State) (v : Nat) (e : Msix) : (s.setMsix v e).fab = s.fab := rfl
@[simp] theorem setMsix_clk (s : State) (v : Nat) (e : Msix) : (s.setMsix v e).clk = s.clk := rfl
@[simp] theorem setMsix_pair (s : State) (v : Nat) (e : Msix) : (s.setMsix v e).pair = s.pair := rfl
@[simp] theorem setMsix_rim (s : State) (v : Nat) (e : Msix) : (s.setMsix v e).rim = s.rim := rfl
@[simp] theorem setMsix_plt (s : State) (v : Nat) (e : Msix) : (s.setMsix v e).plt = s.plt := rfl
@[simp] theorem setMsix_ras (s : State) (v : Nat) (e : Msix) : (s.setMsix v e).ras = s.ras := rfl
@[simp] theorem setMsix_srv (s : State) (v : Nat) (e : Msix) : (s.setMsix v e).srv = s.srv := rfl
@[simp] theorem setMsix_vid (s : State) (v : Nat) (e : Msix) : (s.setMsix v e).vid = s.vid := rfl
@[simp] theorem setMsix_pwr (s : State) (v : Nat) (e : Msix) : (s.setMsix v e).pwr = s.pwr := rfl
@[simp] theorem setMsix_dbg (s : State) (v : Nat) (e : Msix) : (s.setMsix v e).dbg = s.dbg := rfl

@[simp] theorem setCoal_pending (s : State) (v n : Nat) : (s.setCoal v n).pending = s.pending := rfl
@[simp] theorem setCoal_regs (s : State) (v n : Nat) : (s.setCoal v n).regs = s.regs := rfl
@[simp] theorem setCoal_mem (s : State) (v n : Nat) : (s.setCoal v n).mem = s.mem := rfl
@[simp] theorem setCoal_host (s : State) (v n : Nat) : (s.setCoal v n).host = s.host := rfl
@[simp] theorem setCoal_out (s : State) (v n : Nat) : (s.setCoal v n).out = s.out := rfl
@[simp] theorem setCoal_free (s : State) (v n : Nat) : (s.setCoal v n).free = s.free := rfl
@[simp] theorem setCoal_fuse (s : State) (v n : Nat) : (s.setCoal v n).fuse = s.fuse := rfl
@[simp] theorem setCoal_pins (s : State) (v n : Nat) : (s.setCoal v n).pins = s.pins := rfl
@[simp] theorem setCoal_mcc (s : State) (v n : Nat) : (s.setCoal v n).mcc = s.mcc := rfl
@[simp] theorem setCoal_eng (s : State) (v n : Nat) : (s.setCoal v n).eng = s.eng := rfl
@[simp] theorem setCoal_ecc (s : State) (v n : Nat) : (s.setCoal v n).ecc = s.ecc := rfl
@[simp] theorem setCoal_tiles (s : State) (v n : Nat) : (s.setCoal v n).tiles = s.tiles := rfl
@[simp] theorem setCoal_log (s : State) (v n : Nat) : (s.setCoal v n).log = s.log := rfl
@[simp] theorem setCoal_sec (s : State) (v n : Nat) : (s.setCoal v n).sec = s.sec := rfl
@[simp] theorem setCoal_rst (s : State) (v n : Nat) : (s.setCoal v n).rst = s.rst := rfl
@[simp] theorem setCoal_crl (s : State) (v n : Nat) : (s.setCoal v n).crl = s.crl := rfl
@[simp] theorem setCoal_fab (s : State) (v n : Nat) : (s.setCoal v n).fab = s.fab := rfl
@[simp] theorem setCoal_clk (s : State) (v n : Nat) : (s.setCoal v n).clk = s.clk := rfl
@[simp] theorem setCoal_pair (s : State) (v n : Nat) : (s.setCoal v n).pair = s.pair := rfl
@[simp] theorem setCoal_rim (s : State) (v n : Nat) : (s.setCoal v n).rim = s.rim := rfl
@[simp] theorem setCoal_plt (s : State) (v n : Nat) : (s.setCoal v n).plt = s.plt := rfl
@[simp] theorem setCoal_ras (s : State) (v n : Nat) : (s.setCoal v n).ras = s.ras := rfl
@[simp] theorem setCoal_srv (s : State) (v n : Nat) : (s.setCoal v n).srv = s.srv := rfl
@[simp] theorem setCoal_vid (s : State) (v n : Nat) : (s.setCoal v n).vid = s.vid := rfl
@[simp] theorem setCoal_pwr (s : State) (v n : Nat) : (s.setCoal v n).pwr = s.pwr := rfl
@[simp] theorem setCoal_dbg (s : State) (v n : Nat) : (s.setCoal v n).dbg = s.dbg := rfl

@[simp] theorem setEng_pending (s : State) (n : Nat) (e : Engine) : (s.setEng n e).pending = s.pending := rfl
@[simp] theorem setEng_regs (s : State) (n : Nat) (e : Engine) : (s.setEng n e).regs = s.regs := rfl
@[simp] theorem setEng_mem (s : State) (n : Nat) (e : Engine) : (s.setEng n e).mem = s.mem := rfl
@[simp] theorem setEng_host (s : State) (n : Nat) (e : Engine) : (s.setEng n e).host = s.host := rfl
@[simp] theorem setEng_out (s : State) (n : Nat) (e : Engine) : (s.setEng n e).out = s.out := rfl
@[simp] theorem setEng_free (s : State) (n : Nat) (e : Engine) : (s.setEng n e).free = s.free := rfl
@[simp] theorem setEng_fuse (s : State) (n : Nat) (e : Engine) : (s.setEng n e).fuse = s.fuse := rfl
@[simp] theorem setEng_pins (s : State) (n : Nat) (e : Engine) : (s.setEng n e).pins = s.pins := rfl
@[simp] theorem setEng_mcc (s : State) (n : Nat) (e : Engine) : (s.setEng n e).mcc = s.mcc := rfl
@[simp] theorem setEng_hif (s : State) (n : Nat) (e : Engine) : (s.setEng n e).hif = s.hif := rfl
@[simp] theorem setEng_ecc (s : State) (n : Nat) (e : Engine) : (s.setEng n e).ecc = s.ecc := rfl
@[simp] theorem setEng_tiles (s : State) (n : Nat) (e : Engine) : (s.setEng n e).tiles = s.tiles := rfl
@[simp] theorem setEng_log (s : State) (n : Nat) (e : Engine) : (s.setEng n e).log = s.log := rfl
@[simp] theorem setEng_sec (s : State) (n : Nat) (e : Engine) : (s.setEng n e).sec = s.sec := rfl
@[simp] theorem setEng_rst (s : State) (n : Nat) (e : Engine) : (s.setEng n e).rst = s.rst := rfl
@[simp] theorem setEng_crl (s : State) (n : Nat) (e : Engine) : (s.setEng n e).crl = s.crl := rfl
@[simp] theorem setEng_fab (s : State) (n : Nat) (e : Engine) : (s.setEng n e).fab = s.fab := rfl
@[simp] theorem setEng_clk (s : State) (n : Nat) (e : Engine) : (s.setEng n e).clk = s.clk := rfl
@[simp] theorem setEng_pair (s : State) (n : Nat) (e : Engine) : (s.setEng n e).pair = s.pair := rfl
@[simp] theorem setEng_rim (s : State) (n : Nat) (e : Engine) : (s.setEng n e).rim = s.rim := rfl
@[simp] theorem setEng_plt (s : State) (n : Nat) (e : Engine) : (s.setEng n e).plt = s.plt := rfl
@[simp] theorem setEng_ras (s : State) (n : Nat) (e : Engine) : (s.setEng n e).ras = s.ras := rfl
@[simp] theorem setEng_srv (s : State) (n : Nat) (e : Engine) : (s.setEng n e).srv = s.srv := rfl
@[simp] theorem setEng_vid (s : State) (n : Nat) (e : Engine) : (s.setEng n e).vid = s.vid := rfl
@[simp] theorem setEng_pwr (s : State) (n : Nat) (e : Engine) : (s.setEng n e).pwr = s.pwr := rfl
@[simp] theorem setEng_dbg (s : State) (n : Nat) (e : Engine) : (s.setEng n e).dbg = s.dbg := rfl

@[simp] theorem setTile_pending (s : State) (t : Nat) (x : Tile) : (s.setTile t x).pending = s.pending := rfl
@[simp] theorem setTile_regs (s : State) (t : Nat) (x : Tile) : (s.setTile t x).regs = s.regs := rfl
@[simp] theorem setTile_mem (s : State) (t : Nat) (x : Tile) : (s.setTile t x).mem = s.mem := rfl
@[simp] theorem setTile_host (s : State) (t : Nat) (x : Tile) : (s.setTile t x).host = s.host := rfl
@[simp] theorem setTile_out (s : State) (t : Nat) (x : Tile) : (s.setTile t x).out = s.out := rfl
@[simp] theorem setTile_free (s : State) (t : Nat) (x : Tile) : (s.setTile t x).free = s.free := rfl
@[simp] theorem setTile_fuse (s : State) (t : Nat) (x : Tile) : (s.setTile t x).fuse = s.fuse := rfl
@[simp] theorem setTile_pins (s : State) (t : Nat) (x : Tile) : (s.setTile t x).pins = s.pins := rfl
@[simp] theorem setTile_mcc (s : State) (t : Nat) (x : Tile) : (s.setTile t x).mcc = s.mcc := rfl
@[simp] theorem setTile_eng (s : State) (t : Nat) (x : Tile) : (s.setTile t x).eng = s.eng := rfl
@[simp] theorem setTile_hif (s : State) (t : Nat) (x : Tile) : (s.setTile t x).hif = s.hif := rfl
@[simp] theorem setTile_ecc (s : State) (t : Nat) (x : Tile) : (s.setTile t x).ecc = s.ecc := rfl
@[simp] theorem setTile_log (s : State) (t : Nat) (x : Tile) : (s.setTile t x).log = s.log := rfl
@[simp] theorem setTile_sec (s : State) (t : Nat) (x : Tile) : (s.setTile t x).sec = s.sec := rfl
@[simp] theorem setTile_rst (s : State) (t : Nat) (x : Tile) : (s.setTile t x).rst = s.rst := rfl
@[simp] theorem setTile_crl (s : State) (t : Nat) (x : Tile) : (s.setTile t x).crl = s.crl := rfl
@[simp] theorem setTile_fab (s : State) (t : Nat) (x : Tile) : (s.setTile t x).fab = s.fab := rfl
@[simp] theorem setTile_clk (s : State) (t : Nat) (x : Tile) : (s.setTile t x).clk = s.clk := rfl
@[simp] theorem setTile_pair (s : State) (t : Nat) (x : Tile) : (s.setTile t x).pair = s.pair := rfl
@[simp] theorem setTile_rim (s : State) (t : Nat) (x : Tile) : (s.setTile t x).rim = s.rim := rfl
@[simp] theorem setTile_plt (s : State) (t : Nat) (x : Tile) : (s.setTile t x).plt = s.plt := rfl
@[simp] theorem setTile_ras (s : State) (t : Nat) (x : Tile) : (s.setTile t x).ras = s.ras := rfl
@[simp] theorem setTile_srv (s : State) (t : Nat) (x : Tile) : (s.setTile t x).srv = s.srv := rfl
@[simp] theorem setTile_vid (s : State) (t : Nat) (x : Tile) : (s.setTile t x).vid = s.vid := rfl
@[simp] theorem setTile_pwr (s : State) (t : Nat) (x : Tile) : (s.setTile t x).pwr = s.pwr := rfl
@[simp] theorem setTile_dbg (s : State) (t : Nat) (x : Tile) : (s.setTile t x).dbg = s.dbg := rfl

end Sys2Proof.Machine.State
end

