-- ==== Sys2Proof/Laws/Ops.lean ====
section
/-! SUPPORT. What the shared operations do, each said once: registers and fields, memory, what leaves the module, units. -/

namespace Sys2Proof.Machine

/-! ## Bit fields -/

theorem bits_lt (x lo w : Nat) : bits x lo w < 2 ^ w := Nat.mod_lt _ (Nat.two_pow_pos w)

/-- The field of a number in which it has just been replaced. -/
theorem bits_setBits_self (x lo w v : Nat) : bits (setBits x lo w v) lo w = v % 2 ^ w := by
  have h1 : x % 2 ^ lo < 2 ^ lo := Nat.mod_lt _ (Nat.two_pow_pos lo)
  have h2 : v % 2 ^ w < 2 ^ w := Nat.mod_lt _ (Nat.two_pow_pos w)
  have e : setBits x lo w v = (x / 2 ^ (lo + w) * 2 ^ w + v % 2 ^ w) * 2 ^ lo + x % 2 ^ lo := by
    simp only [setBits, pow_add]; ring
  rw [bits, e, Nat.add_comm, Nat.add_mul_div_right _ _ (Nat.two_pow_pos lo), Nat.div_eq_of_lt h1, Nat.zero_add,
    Nat.add_comm, Nat.add_mul_mod_self_right, Nat.mod_eq_of_lt h2]

/-- A field that lies below the one replaced. -/
theorem bits_setBits_below (x lo w v lo' w' : Nat) (h : lo' + w' ≤ lo) : bits (setBits x lo w v) lo' w' = bits x lo' w' := by
  obtain ⟨d, rfl⟩ := Nat.exists_eq_add_of_le h
  have e : setBits x (lo' + w' + d) w v = (x / 2 ^ (lo' + w' + d + w) * 2 ^ (d + w) + v % 2 ^ w * 2 ^ d) * 2 ^ (lo' + w')
      + x % 2 ^ (lo' + w' + d) := by
    simp only [setBits, pow_add]; ring
  have key : ∀ y z : Nat, y % 2 ^ (lo' + w') = z % 2 ^ (lo' + w') → bits y lo' w' = bits z lo' w' := by
    intro y z hyz
    have hb : ∀ t : Nat, bits t lo' w' = t % 2 ^ (lo' + w') / 2 ^ lo' := by
      intro t
      rw [bits, pow_add, Nat.mod_mul_right_div_self]
    rw [hb, hb, hyz]
  apply key
  rw [e, Nat.add_comm, Nat.add_mul_mod_self_right]
  rw [pow_add (2 : Nat) (lo' + w') d, Nat.mod_mul_right_mod]

/-- A field that lies above the one replaced. -/
theorem bits_setBits_above (x lo w v lo' w' : Nat) (h : lo + w ≤ lo') : bits (setBits x lo w v) lo' w' = bits x lo' w' := by
  obtain ⟨d, rfl⟩ := Nat.exists_eq_add_of_le h
  have h1 : x % 2 ^ lo < 2 ^ lo := Nat.mod_lt _ (Nat.two_pow_pos lo)
  have h2 : v % 2 ^ w < 2 ^ w := Nat.mod_lt _ (Nat.two_pow_pos w)
  have h3 : v % 2 ^ w * 2 ^ lo + x % 2 ^ lo < 2 ^ (lo + w) := by
    rw [pow_add]
    have : (v % 2 ^ w + 1) * 2 ^ lo ≤ 2 ^ w * 2 ^ lo := Nat.mul_le_mul_right _ h2
    nlinarith
  have hd : setBits x lo w v / 2 ^ (lo + w) = x / 2 ^ (lo + w) := by
    rw [setBits, Nat.add_assoc, Nat.add_comm, Nat.add_mul_div_right _ _ (Nat.two_pow_pos _), Nat.div_eq_of_lt h3, Nat.zero_add]
  simp only [bits]
  rw [pow_add (2 : Nat) (lo + w) d, ← Nat.div_div_eq_div_mul, ← Nat.div_div_eq_div_mul, hd]

theorem setBits_lt {x lo w v n : Nat} (hx : x < 2 ^ n) (h : lo + w ≤ n) : setBits x lo w v < 2 ^ n := by
  obtain ⟨d, rfl⟩ := Nat.exists_eq_add_of_le h
  have h1 : x % 2 ^ lo < 2 ^ lo := Nat.mod_lt _ (Nat.two_pow_pos lo)
  have h2 : v % 2 ^ w < 2 ^ w := Nat.mod_lt _ (Nat.two_pow_pos w)
  have h3 : v % 2 ^ w * 2 ^ lo + x % 2 ^ lo < 2 ^ (lo + w) := by
    rw [pow_add]
    have : (v % 2 ^ w + 1) * 2 ^ lo ≤ 2 ^ w * 2 ^ lo := Nat.mul_le_mul_right _ h2
    nlinarith
  have h4 : x / 2 ^ (lo + w) < 2 ^ d := by
    rw [Nat.div_lt_iff_lt_mul (Nat.two_pow_pos _), ← pow_add, Nat.add_comm d]; exact hx
  have h5 : (x / 2 ^ (lo + w) + 1) * 2 ^ (lo + w) ≤ 2 ^ d * 2 ^ (lo + w) := Nat.mul_le_mul_right _ h4
  rw [pow_add (2 : Nat) (lo + w) d]
  simp only [setBits]
  nlinarith

namespace State

/-! ## Registers -/

theorem rd_lt (s : State) (r : Reg) : s.rd r < 2 ^ 64 := BitVec.isLt _

/-- A register written reads as the value, cut to its width. -/
theorem rd_wr_self (s : State) (r : Reg) (v : Nat) (h : r.width ≤ 64) : (s.wr r v).rd r = v % 2 ^ r.width := by
  simp only [rd, wr, Cells.get_set_self, BitVec.toNat_ofNat]
  exact Nat.mod_eq_of_lt (lt_of_lt_of_le (Nat.mod_lt _ (Nat.two_pow_pos _)) (Nat.pow_le_pow_right (by omega) h))

/-- Every register but the one written reads as before. -/
theorem get_wr_ne (s : State) (r : Reg) (v : Nat) (d : BitVec 64) {a : Nat} (h : a ≠ r.addr) :
    Cells.get d a (s.wr r v).regs = Cells.get d a s.regs := Cells.get_set_ne _ d h _ _

theorem rd_wr_ne (s : State) (r q : Reg) (v : Nat) (h : q.addr ≠ r.addr) : (s.wr r v).rd q = s.rd q := by
  simp only [rd, get_wr_ne s r v _ h]

/-- A field written reads as the value, cut to its width. -/
theorem fd_fw_self (s : State) (f : Fld) (v : Nat) (h : f.lo + f.w ≤ f.reg.width) (h' : f.reg.width ≤ 64) :
    (s.fw f v).fd f = v % 2 ^ f.w := by
  simp only [fd, fw, rd_wr_self _ _ _ h']
  have key : ∀ x : Nat, bits (x % 2 ^ f.reg.width) f.lo f.w = bits x f.lo f.w := by
    intro x
    obtain ⟨d, hd⟩ := Nat.exists_eq_add_of_le h
    have hb : ∀ t : Nat, bits t f.lo f.w = t % 2 ^ (f.lo + f.w) / 2 ^ f.lo := by
      intro t; rw [bits, pow_add, Nat.mod_mul_right_div_self]
    rw [hb, hb, hd, pow_add (2 : Nat) (f.lo + f.w) d, Nat.mod_mul_right_mod]
  rw [key, bits_setBits_self]

/-- A field of another register stays. -/
theorem fd_fw_ne (s : State) (f g : Fld) (v : Nat) (h : g.reg.addr ≠ f.reg.addr) : (s.fw f v).fd g = s.fd g := by
  simp only [fd, fw, rd_wr_ne _ _ _ _ h]

theorem rd_fw_ne (s : State) (f : Fld) (r : Reg) (v : Nat) (h : r.addr ≠ f.reg.addr) : (s.fw f v).rd r = s.rd r := by
  simp only [fw, rd_wr_ne _ _ _ _ h]

theorem fd_wr_ne (s : State) (r : Reg) (g : Fld) (v : Nat) (h : g.reg.addr ≠ r.addr) : (s.wr r v).fd g = s.fd g := by
  simp only [fd, rd_wr_ne _ _ _ _ h]

/-- Reading depends on the register file alone. -/
theorem rd_congr {s t : State} (h : s.regs = t.regs) (r : Reg) : s.rd r = t.rd r := by simp only [rd, h]

theorem fd_congr {s t : State} (h : s.regs = t.regs) (f : Fld) : s.fd f = t.fd f := by simp only [fd, rd_congr h]

/-! ## Memory -/

theorem putCells_nil (k : Nat) (l : List Host.Cell) : putCells k [] l = l := rfl

theorem putCells_cons (k : Nat) (b : Byte) (bs : List Byte) (l : List Host.Cell) :
    putCells k (b :: bs) l = putCells (k + 1) bs (Cells.set 0 k b l) := rfl

/-- Bytes put into a store leave every byte outside them as it was. -/
theorem get_putCells_outside (bs : List Byte) (k a : Nat) (l : List Host.Cell) (h : a < k ∨ k + bs.length ≤ a) :
    Cells.get (0 : Byte) a (putCells k bs l) = Cells.get (0 : Byte) a l := by
  induction bs generalizing k l with
  | nil => rfl
  | cons b bs ih =>
    simp only [List.length_cons] at h
    rw [putCells_cons, ih (k + 1) _ (by omega), Cells.get_set_ne _ _ (by omega)]

/-- Bytes put into a store read back. -/
theorem get_putCells_inside (bs : List Byte) (k i : Nat) (l : List Host.Cell) (h : i < bs.length) :
    Cells.get (0 : Byte) (k + i) (putCells k bs l) = bs[i] := by
  induction bs generalizing k l i with
  | nil => simp at h
  | cons b bs ih =>
    rw [putCells_cons]
    cases i with
    | zero => rw [get_putCells_outside _ _ _ _ (by omega)]; simp
    | succ i =>
      have := ih (k + 1) i (Cells.set 0 k b l) (by simpa using h)
      rw [show k + (i + 1) = k + 1 + i by omega, this]
      simp

/-- Bytes put into a store keep its canonical form. -/
theorem wf_putCells (bs : List Byte) (k : Nat) {l : List Host.Cell} (h : Cells.wf (0 : Byte) l = true) :
    Cells.wf (0 : Byte) (putCells k bs l) = true := by
  induction bs generalizing k l with
  | nil => exact h
  | cons b bs ih => rw [putCells_cons]; exact ih (k + 1) (Cells.wf_set 0 k b h)

theorem byte_memWrite_outside (s : State) (k a : Nat) (bs : List Byte) (h : a < k ∨ k + bs.length ≤ a) :
    (s.memWrite k bs).byte a = s.byte a := get_putCells_outside bs k a s.mem h

theorem byte_memWrite_inside (s : State) (k i : Nat) (bs : List Byte) (h : i < bs.length) :
    (s.memWrite k bs).byte (k + i) = bs[i] := get_putCells_inside bs k i s.mem h

theorem hostByte_hostWrite_outside (s : State) (k a : Nat) (bs : List Byte) (h : a < k ∨ k + bs.length ≤ a) :
    (s.hostWrite k bs).hostByte a = s.hostByte a := get_putCells_outside bs k a s.host h

theorem hostByte_hostWrite_inside (s : State) (k i : Nat) (bs : List Byte) (h : i < bs.length) :
    (s.hostWrite k bs).hostByte (k + i) = bs[i] := get_putCells_inside bs k i s.host h

theorem memRead_eq_of_bytes (s t : State) (k n : Nat) (h : ∀ i, i < n → s.byte (k + i) = t.byte (k + i)) :
    s.memRead k n = t.memRead k n := List.map_congr_left (fun i hi => h i (List.mem_range.mp hi))

/-- What has been written reads back whole. -/
theorem memRead_memWrite (s : State) (k : Nat) (bs : List Byte) : (s.memWrite k bs).memRead k bs.length = bs := by
  apply List.ext_getElem
  · simp [memRead]
  · intro i h1 h2
    simp only [memRead, List.getElem_map, List.getElem_range]
    exact byte_memWrite_inside s k i bs h2

/-! ## Units -/

@[simp] theorem engOf_setEng_self (s : State) (n : Nat) (e : Engine) : (s.setEng n e).engOf n = e :=
  Cells.get_set_self _ _ _ _

theorem engOf_setEng_ne (s : State) (n m : Nat) (e : Engine) (h : m ≠ n) : (s.setEng n e).engOf m = s.engOf m :=
  Cells.get_set_ne _ _ h _ _

@[simp] theorem tile_setTile_self (s : State) (t : Nat) (x : Tile) : (s.setTile t x).tile t = x :=
  Cells.get_set_self _ _ _ _

theorem tile_setTile_ne (s : State) (t u : Nat) (x : Tile) (h : u ≠ t) : (s.setTile t x).tile u = s.tile u :=
  Cells.get_set_ne _ _ h _ _

@[simp] theorem msixOf_setMsix_self (s : State) (v : Nat) (e : Msix) : (s.setMsix v e).msixOf v = e :=
  Cells.get_set_self _ _ _ _

@[simp] theorem coalOf_setCoal_self (s : State) (v n : Nat) : (s.setCoal v n).coalOf v = n := Cells.get_set_self _ _ _ _

/-! ## What leaves the module -/

/-- A vector raised: masked, its pending bit is set; unmasked, its message leaves. Nothing else changes. -/
theorem raise_cases (s : State) (v : Nat) :
    ((s.msixOf v).masked = true ∧ s.raise v = s.setMsix v { s.msixOf v with pending := true }) ∨
    ((s.msixOf v).masked = false ∧ s.raise v = s.emit (.msix v (s.msixOf v).addr (s.msixOf v).data)) := by
  cases h : (s.msixOf v).masked
  · exact .inr ⟨rfl, by simp [raise, h]⟩
  · exact .inl ⟨rfl, by simp [raise, h]⟩

end State
end Sys2Proof.Machine
end

