-- ==== Sys2Proof/Laws/Flow.lean ====
section
/-! SUPPORT. What a command row does, said once: begun commands, failed checks, the MCC's reply. -/

namespace Sys2Proof.Machine.State

open Sys2Proof.Safety

/-- The path's job, where it may begin, is what its row takes. -/
theorem takeRow_starts {s s1 : State} {timed : Bool} {via : Via} {p : Packet} {j : Job} (h : Starts s timed via p j s1) :
    s.takeRow via p = (s, some j) := by
  simp [takeRow, h.job, h.packet, h.fresh]

/-- A command that may begin and passes its check begins, and its action says how it goes on. -/
theorem runRowT_starts {s s1 : State} {timed : Bool} {via : Via} {p : Packet} {j : Job} {check : State → Option Ans}
    {act : State → State × Option Ans} (h : Starts s timed via p j s1) (hc : check s1 = none) :
    s.runRowT timed via p true check act =
      match act (s1.beginJob timed via j) with
      | (u, some a) => u.finish via a
      | (u, none) => u := by
  have hrec : (s.recovery && decide (via = .mcc) && !recoveryOpcode p) = false := by
    by_cases hv : via = .mcc
    · by_cases hr : s.recovery = true
      · simp [h.served hv hr]
      · simp [hr]
    · simp [hv]
  have ht : (timed && j.tooLate) = false ∧ (timed && p.execTime.toNat != 0 && !j.late && !j.due &&
      decide (s1.now < p.execTime.toNat)) = false := by
    cases timed with
    | false => simp
    | true =>
      obtain ⟨h1, h2⟩ := h.timely rfl
      refine ⟨by simp [h1], ?_⟩
      rcases h2 with h2 | h2 | h2 | h2
      · simp [h2]
      · simp [h2]
      · simp [h2]
      · simp [h2]
  simp only [runRowT, takeRow_starts h, h.path, hrec, h.block, hc, ht.1, ht.2, Bool.not_true, Bool.false_eq_true, if_false] <;> rfl

/-- A command that may begin but fails its check ends with that answer and has no effect (02 R60). -/
theorem runRowT_fails {s s1 : State} {timed : Bool} {via : Via} {p : Packet} {j : Job} {check : State → Option Ans}
    {act : State → State × Option Ans} {a : Ans} (h : Starts s timed via p j s1) (hc : check s1 = some a) :
    s.runRowT timed via p true check act = s1.finish via a := by
  have hrec : (s.recovery && decide (via = .mcc) && !recoveryOpcode p) = false := by
    by_cases hv : via = .mcc
    · by_cases hr : s.recovery = true
      · simp [h.served hv hr]
      · simp [hr]
    · simp [hv]
  simp only [runRowT, takeRow_starts h, h.path, hrec, h.block, hc]
  simp

/-- A row that obeys EXEC_TIME is one of `runRowT`. -/
theorem runRow_starts {s s1 : State} {via : Via} {p : Packet} {j : Job} {check : State → Option Ans}
    {act : State → State × Option Ans} (h : Starts s true via p j s1) (hc : check s1 = none) :
    s.runRow via p true check act =
      match act (s1.beginJob true via j) with
      | (u, some a) => u.finish via a
      | (u, none) => u := runRowT_starts h hc

/-- A failed check of a row that obeys EXEC_TIME. -/
theorem runRow_fails {s s1 : State} {via : Via} {p : Packet} {j : Job} {check : State → Option Ans}
    {act : State → State × Option Ans} {a : Ans} (h : Starts s true via p j s1) (hc : check s1 = some a) :
    s.runRow via p true check act = s1.finish via a := runRowT_fails h hc

/-- A unit's command that may begin, on a unit that is present, begins on its ring, whichever path brought it. -/
theorem unitRow_starts {s s1 : State} {via : Via} {n k : Nat} {p : Packet} {j : Job} {inRange : Bool}
    {present : State → Nat → Bool} {check : State → Nat → Option Ans} {act : State → Nat → State × Option Ans}
    (h : UnitStarts s via n p j s1) (hk : via = .mcc → k = n ∧ inRange = true) (hp : present s1 n = true)
    (hc : check s1 n = none) :
    s.unitRow via p true k inRange present check act =
      match act (s1.beginJob true (.ring n) j) n with
      | (u, some a) => u.finish (.ring n) a
      | (u, none) => u := by
  have hrun : s.runRow (.ring n) p true (fun s => if present s n then check s n else some (.err Sts.unitAbsent)) (act · n) =
      match act (s1.beginJob true (.ring n) j) n with
      | (u, some a) => u.finish (.ring n) a
      | (u, none) => u := runRow_starts h.1 (by simp [hp, hc])
  rcases h.2 with hv | ⟨hv, hj⟩
  · subst hv
    simpa only [unitRow, Bool.not_true, Bool.false_eq_true, if_false] using hrun
  · subst hv
    obtain ⟨rfl, hr⟩ := hk rfl
    have hcur : (s.engOf k).cur = some j := h.1.job
    simp only [unitRow, Bool.not_true, Bool.false_eq_true, if_false, hr, if_true, hcur, hj, h.1.packet, h.1.fresh, and_self]
    exact hrun

/-- A tile's command that may begin and passes its check begins. -/
theorem tileRow_starts {s s1 : State} {via : Via} {t : Nat} {p : Packet} {j : Job} {check : State → Nat → Option Ans}
    {act : State → Nat → State} (h : TileStarts s via t p j s1) (hc : check s1 t = none) :
    s.tileRow via p true check act = act (s1.beginJob true (.ring t) j) t := by
  obtain ⟨⟨hs, hv⟩, ht, hh, hp, ho, hm⟩ := h
  have hrun : s.tileRun t p true (check · t) (act · t) = act (s1.beginJob true (.ring t) j) t := by
    simp only [tileRun, hh, takeRow_starts hs, hp, Bool.not_true, Bool.or_false, Bool.false_eq_true, if_false,
      Option.isSome_none]
    rw [runRow_starts hs (by simp [ho, hc])]
  rcases hv with hv | ⟨hv, hj⟩
  · subst hv
    simp only [tileRow, ht, if_true]
    exact hrun
  · subst hv
    have hcur : (s.engOf t).cur = some j := hs.job
    simp only [tileRow, hm rfl, Bool.not_true, Bool.false_eq_true, if_false, ht, if_true, hcur, hj, hs.packet, hs.fresh, and_self,
      decide_true]
    exact hrun

end Sys2Proof.Machine.State
end

