-- ==== Sys2Proof/Laws/Memory.lean ====
section
/-! SUPPORT. The canonical form of the stores: reset has it, and every operation that writes the module's memory or host memory keeps
it. -/

namespace Sys2Proof.Machine

theorem Memory.wf_reset : Memory.wf State.reset = true := rfl

theorem Memory.wf_of {s t : State} (hm : t.mem = s.mem) (hh : t.host = s.host) : Memory.wf t = Memory.wf s := by
  simp only [Memory.wf, hm, hh]

theorem Memory.wf_memWrite {s : State} (k : Nat) (bs : List Byte) (h : Memory.wf s = true) : Memory.wf (s.memWrite k bs) = true := by
  simp only [Memory.wf, Bool.and_eq_true] at h ⊢
  exact ⟨State.wf_putCells bs k h.1, h.2⟩

theorem Memory.wf_hostWrite {s : State} (a : Nat) (bs : List Byte) (h : Memory.wf s = true) :
    Memory.wf (s.hostWrite a bs) = true := by
  simp only [Memory.wf, Bool.and_eq_true] at h ⊢
  exact ⟨h.1, State.wf_putCells bs a h.2⟩

theorem Memory.wf_clearSram {s : State} (key n : Nat) (h : Memory.wf s = true) : Memory.wf (s.clearSram key n) = true := by
  simp only [Memory.wf, Bool.and_eq_true] at h ⊢
  exact ⟨Cells.wf_clearRange 0 key n h.1, h.2⟩

theorem Memory.wf_wr {s : State} (r : Reg) (v : Nat) : Memory.wf (s.wr r v) = Memory.wf s := rfl

end Sys2Proof.Machine
end

