-- ==== Sys2Proof/WellFormed.lean ====
section
/-! DEFINITION. Which commands are well formed: every number names a unit, a line or a slot that the spec numbers (00, 01, 02
Table 2-13, 08 Table 8-4, 15). The machine itself needs no such check: what names nothing changes nothing. -/

namespace Sys2Proof

/-- A path is the MCC or a ring that has a target (02 Table 2-13). -/
def Via.wf : Via → Bool
  | .mcc => true
  | .ring n => decide (n ≤ 44) || (decide (64 ≤ n) && decide (n ≤ 127))

/-- A command is well formed. -/
def Instr.wf : Instr → Bool
  | .registerWrite bar _ width _ => (bar == 0 || bar == 2) && decide (width ≤ 64)
  | .gatedAccess _ width _ => decide (width ≤ 64)
  | .hifFaultStatusWrite _ => true
  | .msixUnmask v => decide (v < 256)
  | .mccCmdWrite _ off bytes => decide (off < 64) && decide (off + bytes.length ≤ 64)
  | .mccDoorbell _ => true
  | .mccAbtDoorbell _ => true
  | .i3cMccCommand _ _ => true
  | .mgmtNop via _ => via.wf
  | .funcAbort via _ => via.wf
  | .ringOpen via _ => via.wf
  | .ringClose via _ => via.wf
  | .ringReset via _ => via.wf
  | .bounceRegister via _ => via.wf
  | .bounceRelease via _ => via.wf
  | .dbSqTail ring _ => decide (ring < 256)
  | .dbCqHead ring _ => decide (ring < 256)
  | .packetFetch ring _ => decide (ring < 128)
  | .execTimeReached via => via.wf
  | .coalesceTimerExpiry v => decide (v < 256)
  | .tileMatmul via _ _ => via.wf
  | .tileVec via _ _ => via.wf
  | .tileVred via _ _ => via.wf
  | .tileXfer via _ _ => via.wf
  | .tileAtomic via _ _ => via.wf
  | .tileFence via _ => via.wf
  | .tileWait via _ => via.wf
  | .tileSyncSet via _ => via.wf
  | .tileWaitPass tile => (decide (tile < 32) || tile == 44)
  | .tileWaitTimeout tile => (decide (tile < 32) || tile == 44)
  | .tileCommandComplete tile => decide (tile < 32)
  | .exceptionDrainDone tile => decide (tile < 32)
  | .seqTrap unit _ _ => decide (unit < 46)
  | .roResponseTimeout tile rtag => decide (tile < 32) && decide (rtag < 128)
  | .responseArrival _ => true
  | .fenceComplete tile => decide (tile < 32)
  | .tileConv via _ _ => via.wf
  | .tilePool via _ _ => via.wf
  | .splConv via _ _ _ => via.wf
  | .splWait via _ => via.wf
  | .splSyncSet via _ => via.wf
  | .patrolScrubRead stack _ _ => decide (stack < 8)
  | .sramPatrolRead _ _ => true
  | .patrolPassComplete _ => true
  | .sramWriteback _ => true
  | .pageRetireDone _ => true
  | .memScrub via _ => via.wf
  | .memScrubDone _ => true
  | .memEccTest via _ => via.wf
  | .hbmTempReadout _ => true
  | .creelSeqOpen via _ => via.wf
  | .creelSeqReserve via _ => via.wf
  | .creelSeqTrim via _ => via.wf
  | .creelSeqClose via _ => via.wf
  | .trimCloseDone => true
  | .creelSeqQuery via _ => via.wf
  | .creelUnpark via _ => via.wf
  | .creelPoolAdd via _ => via.wf
  | .creelPoolRemove via _ => via.wf
  | .creelSkeinGrant via _ => via.wf
  | .creelGather via _ => via.wf
  | .creelBucket via _ _ _ => via.wf
  | .gatherRequest _ => true
  | .gatherServe unit _ _ _ => decide (unit < 8)
  | .pageWalkComplete unit seq page _ => decide (unit < 8) && decide (seq < 4096) && decide (page < 2 ^ 19)
  | .pageZeroFillDone _ => true
  | .attn via _ _ => via.wf
  | .attnNorm via _ _ => via.wf
  | .attnBwd via _ _ _ => via.wf
  | .attnGatherTimeout tile => decide (tile < 32)
  | .load _ _ => true
  | .store _ _ => true
  | .add32 _ _ => true
  | .add64 _ _ => true
  | .fadd32 _ _ => true
  | .maxu32 _ _ => true
  | .maxu64 _ _ => true
  | .maxs32 _ _ => true
  | .maxs64 _ _ => true
  | .cas32 _ _ => true
  | .cas64 _ _ => true
  | .laccAdd _ _ => true
  | .undefinedOpRequest _ _ => true
  | .atyInwinSet via _ => via.wf
  | .atyInwinQuery via _ => via.wf
  | .flitReceive link _ _ flit _ => decide (link < 16) && (flit.length == 640)
  | .replayTimeout link => decide (link < 16)
  | .ident link _ => decide (link < 16)
  | .claim link _ => decide (link < 16)
  | .presence link _ => decide (link < 16)
  | .duplicate link _ => decide (link < 16)
  | .bertReq link _ => decide (link < 16)
  | .trainingComplete port => decide (port < 18)
  | .trainTimeout port => decide (port < 18)
  | .trainRetry port => decide (port < 18)
  | .errorWindowEnd port => decide (port < 18)
  | .retrainComplete port => decide (port < 18)
  | .retrainTimeout port => decide (port < 18)
  | .loopbackDone port _ => decide (port < 18)
  | .electQuietExpiry => true
  | .beaconPeriod => true
  | .masterLoss => true
  | .presencePeriod => true
  | .timeSyncSend => true
  | .delayMeasurePeriod => true
  | .atyFabricCfg via _ => via.wf
  | .atyRouteSet via _ => via.wf
  | .atyPortCtl via _ => via.wf
  | .portQueuesDrained link => decide (link < 16)
  | .atyBert via _ => via.wf
  | .bertDurationEnd link _ _ => decide (link < 16)
  | .atyJobBind via _ _ => via.wf
  | .atyAdmit via _ => via.wf
  | .admitPoll _ => true
  | .admitTimeout => true
  | .atyExpectWrite port value => decide (port < 18) && decide (value < 2 ^ 32)
  | .srvSubmit via _ => via.wf
  | .srvCancel via _ => via.wf
  | .srvExtend via _ => via.wf
  | .srvQuery via _ => via.wf
  | .srvSubmit3320 via _ => via.wf
  | .srvEngineStart via _ _ _ => via.wf
  | .srvEngineStop via _ => via.wf
  | .srvRingCfg via _ => via.wf
  | .srvAccountSet via _ => via.wf
  | .srvSamplerSet via _ => via.wf
  | .srvFitchLoad via _ _ _ => via.wf
  | .srvFitchFree via _ => via.wf
  | .servingPacketFetch ring _ => decide (ring < 128)
  | .stepBoundary _ _ => true
  | .stepRunComplete _ => true
  | .queueTimeout ring _ => decide (ring < 128)
  | .metricsRecordExpiry ring _ => decide (ring < 128)
  | .srvStepMaxNsRead => true
  | .rimEnable via _ => via.wf
  | .rimDisable via _ => via.wf
  | .rimStreamSet via _ _ _ => via.wf
  | .rimStreamClear via _ => via.wf
  | .rimSchedCommit via _ _ _ => via.wf
  | .rimKat via _ => via.wf
  | .pltGateSet via _ _ _ => via.wf
  | .pltFilterSet via _ => via.wf
  | .pltMacsecKey via _ _ _ => via.wf
  | .scheduleActivation => true
  | .rimCapture => true
  | .rimComputeStart tile => decide (tile < 32)
  | .rimProgramEnd tile => decide (tile < 32)
  | .rimStage _ => true
  | .rimRelease _ => true
  | .inputFrame port _ => decide (port < 2)
  | .ptpFrame port _ _ _ _ => decide (port < 2)
  | .pdelayReq port => decide (port < 2)
  | .gateCycleStart port => decide (port < 2)
  | .rimLaneResume => true
  | .pltListenOnlyChange _ => true
  | .pltLinkChange port _ => decide (port < 2)
  | .rimJitMaxRead slot => decide (slot < 64)
  | .pairLinkUp => true
  | .hello _ => true
  | .health _ => true
  | .digest _ => true
  | .pairClaim _ => true
  | .handover _ => true
  | .katResult _ => true
  | .fail _ => true
  | .helloPeriod => true
  | .healthPeriod => true
  | .claimRepeat => true
  | .pairLinkDown => true
  | .fabricPoll => true
  | .fabricPollResult _ _ _ => true
  | .silenceExpiry => true
  | .claimBeaconRelease => true
  | .claimBeaconReceive port _ => decide (port < 2)
  | .digestDeadline svc _ => decide (svc < 64)
  | .katVerdictTimeout svc => decide (svc < 64)
  | .pairConfig via _ => via.wf
  | .pairSvcSet via _ => via.wf
  | .pairSvcClear via _ => via.wf
  | .pairSwap via _ => via.wf
  | .pairHoldRelease via _ => via.wf
  | .stepDigestWrite svc value => decide (svc < 64) && decide (value < 2 ^ 64)
  | .vidSessionOpen via _ => via.wf
  | .vidSessionClose via _ => via.wf
  | .vidDecode via _ => via.wf
  | .vidEncode via _ => via.wf
  | .vidUnitDispatch core _ _ => decide (core < 5)
  | .vidCommandComplete sess _ => decide (sess < 128)
  | .vidWatchdog sess => decide (sess < 128)
  | .tenantOpen via _ => via.wf
  | .tenantClose via _ => via.wf
  | .tenantScrub via _ => via.wf
  | .tenantScrubDone => true
  | .secSpdm via _ => via.wf
  | .secNonce via _ => via.wf
  | .secDebugUnlock via _ => via.wf
  | .secLifecycle via _ => via.wf
  | .secOwnerSet via _ => via.wf
  | .getVersion _ => true
  | .getCapabilities _ => true
  | .negotiateAlgorithms _ => true
  | .getDigests _ => true
  | .getCertificate _ => true
  | .challenge _ => true
  | .getMeasurements _ => true
  | .keyExchange _ => true
  | .finish _ => true
  | .heartbeat _ => true
  | .keyUpdate _ => true
  | .endSession _ => true
  | .respondIfReady _ => true
  | .trngHealthFail => true
  | .trngStartupPass => true
  | .entropyWaitTimeout => true
  | .entropyStableExpiry => true
  | .drbgReseedPeriod => true
  | .clkMonitorWindow _ _ _ _ _ => true
  | .missingEdge src => decide (src < 3)
  | .osc200Ready => true
  | .linkQualExpiry => true
  | .clkSwitchComplete => true
  | .sync link _ => decide (link < 16)
  | .delayReq link _ => decide (link < 16)
  | .delayRsp link _ => decide (link < 16)
  | .syncLoss => true
  | .clkSrcSet via _ => via.wf
  | .clkSscSet via _ => via.wf
  | .clkGateSet via _ => via.wf
  | .gateCrossingEmpty island => decide (island < 99)
  | .supplyApply _ => true
  | .powerFailWarning => true
  | .pfwRelease => true
  | .supplyReset => true
  | .logTailCopyDone => true
  | .phaseFault phase => decide (phase < 48)
  | .regulatorTelemetry _ _ _ _ _ => true
  | .powerCapLoop => true
  | .regAlert => true
  | .regAlertClear => true
  | .droopDetect island => decide (island < 99)
  | .droopRecover island => decide (island < 99)
  | .stretchLimit island _ => decide (island < 99)
  | .wakeAdmit => true
  | .pstateStep island => decide (island < 99)
  | .islandTempReport _ => true
  | .thermalTrip => true
  | .tripCooled => true
  | .energyAccounting _ _ _ _ => true
  | .pwrPstateSet via _ => via.wf
  | .pwrFixedSet via _ => via.wf
  | .pwrCapSet via _ => via.wf
  | .perstFall _ => true
  | .perstRise => true
  | .rstReq via _ => via.wf
  | .brudoWatchdog => true
  | .mgmtWatchdog core => decide (core < 4)
  | .functionLevelReset => true
  | .hotReset => true
  | .debugResetRequest _ => true
  | .coreReset => true
  | .systemReset => true
  | .flashPulseEnd _ => true
  | .resetRelease _ _ _ => true
  | .blockReset island => decide (island < 99)
  | .blockIdleTimeout tile => decide (tile < 32)
  | .updStage via _ _ _ => via.wf
  | .updCommit via _ => via.wf
  | .updAbandon via _ => via.wf
  | .updQuery via _ => via.wf
  | .updCfgSet via _ _ _ => via.wf
  | .rasRetire via _ => via.wf
  | .rasSelftest via _ _ => via.wf
  | .rasLogFetch via _ => via.wf
  | .maintTokenRelease => true
  | .tileQuiesced tile => decide (tile < 32)
  | .quiesceTimeout tile => decide (tile < 32)
  | .tileMoveCopyDone tile => decide (tile < 32)
  | .mgmtCoreTrap core _ _ _ => decide (core < 4)
  | .mgmtCoreRestart core _ => decide (core < 4)
  | .spareTestPeriod _ => true
  | .rasPersist => true
  | .platformEventMessage => true
  | .pldmRequest _ => true
  | .pmuCounterWrap _ g c => decide (g < 53) && decide (c < 64)
  | .pmuProgram via _ _ _ => via.wf
  | .pmuRead via _ => via.wf
  | .dbgSemRelease via _ => via.wf
  | .semTimeout sem => decide (sem < 32)
  | .idcode => true
  | .bypass => true
  | .samplePreload _ => true
  | .extest _ => true
  | .read32 _ _ => true
  | .write32 data => decide (data < 2 ^ 32)
  | .read64 _ _ => true
  | .write64 data => decide (data < 2 ^ 64)
  | .setAddr addr => decide (addr < 2 ^ 64)
  | .setReg off => decide (off < 2 ^ 26)
  | .halt unit => decide (unit < 128)
  | .resume unit => decide (unit < 128)
  | .semForce sem => decide (sem < 32)
  | .status => true
  | .maintInhibitChange _ => true
  | .slotIdChange live => decide (live < 64)
  | .holdupFull => true
  | .sbPfwExpiry => true
  | .invalidPairingMessage _ => true
  | .pairingLinkSyncLost => true
  | .fabricPathSilent => true

end Sys2Proof
end

