-- ==== Sys2Proof/Tests/Slice0.lean ====
section
/-! SUPPORT. The model's own tests: each check of WellFormed refuses an ill-formed command, rules of the spec on small states, and for
every statement with hypotheses a concrete state and operands that meet them. -/

open Sys2Proof Sys2Proof.Machine Sys2Proof.Safety

set_option exponentiation.threshold 1024
set_option maxRecDepth 4000

namespace Sys2Proof.Tests

/-! ## Small states -/

/-- A job of a packet that a path has accepted and that has not begun. -/
def jobOn (via : Via) (p : Packet) : Job := ⟨p, via, false, 0, false, false, 0⟩

/-- A module out of reset, with management firmware running, every island clocked and tiles 0 to 3 on sites 0 to 3. -/
def running : State :=
  [(Reg.CLK_EN0, 2 ^ 64 - 1), (Reg.CLK_EN1, 2 ^ 35 - 1), (Reg.RAS_TILE_MAP 0, 0x03020100), (Reg.RAS_SITE_ACTIVE, 0xF)].foldl
    (fun s e => s.wr e.1 e.2) (({ State.reset with rst := { State.reset.rst with level := 0 } }).fw Fld.RST_STATUS_STAGE 6)

/-- A packet of an opcode, with PROFILE 1 and values at byte offsets. -/
def cmd (op : Nat) (l : List (Nat × Nat) := []) : Packet :=
  ⟨BitVec.ofNat 16 op, 0, 1, 0, BitVec.ofNat 384 (l.foldl (fun n e => n + e.2 * 2 ^ (8 * (e.1 - 16))) 0x10000000000000000000000000000000000000000000000000000000000000000000000000000000000000000000000)⟩

/-- A packet in expert form. -/
def xcmd (op : Nat) (l : List (Nat × Nat) := []) : Packet :=
  ⟨BitVec.ofNat 16 (0x80 + op), 0, 1, 0, BitVec.ofNat 384 (l.foldl (fun n e => n + e.2 * 2 ^ (8 * (e.1 - 16))) 0)⟩

/-- A state with a packet on the MCC. -/
def onMcc (s : State) (p : Packet) : State := { s with mcc := { s.mcc with cur := some (jobOn .mcc p) } }

/-- A state with a packet at a ring. -/
def onRing (s : State) (n : Nat) (p : Packet) : State := s.setEng n { s.engOf n with cur := some (jobOn (.ring n) p) }

theorem starts_mcc {s : State} {p : Packet} (h : (mccOpcode p.opcode.toNat && (!s.recovery || recoveryOpcode p) && !p.ext &&
    p.execTime == 0) = true) (t : Bool) : Starts (onMcc s p) t .mcc p (jobOn .mcc p) (onMcc s p) := by
  simp only [Bool.and_eq_true, Bool.or_eq_true, Bool.not_eq_true', beq_iff_eq] at h
  obtain ⟨⟨⟨h1, h2⟩, h3⟩, h4⟩ := h
  refine ⟨rfl, rfl, rfl, h1, fun _ hr => ?_, ?_, fun _ => ⟨?_, Or.inl h4⟩⟩
  · rcases h2 with h2 | h2
    · exact absurd (show s.recovery = true from hr) (by simp [h2])
    · exact h2
  · simp [jobOn, State.extBlock, h3]
  · simp [Job.tooLate, Job.late, jobOn, h4]

theorem starts_ring {s : State} {n : Nat} {p : Packet} (h : (s.pathOpcode (.ring n) p.opcode.toNat && !p.ext && p.execTime == 0) = true)
    (hn : (onRing s n p).jobOf (.ring n) = some (jobOn (.ring n) p)) (t : Bool) :
    Starts (onRing s n p) t (.ring n) p (jobOn (.ring n) p) (onRing s n p) := by
  simp only [Bool.and_eq_true, Bool.not_eq_true', beq_iff_eq] at h
  obtain ⟨⟨h1, h3⟩, h4⟩ := h
  refine ⟨hn, rfl, rfl, h1, nofun, ?_, fun _ => ⟨?_, Or.inl h4⟩⟩
  · simp [jobOn, State.extBlock, h3]
  · simp [Job.tooLate, Job.late, jobOn, h4]

/-! ## WellFormed -/

theorem test_ill_formed_paths_refused :
    ([.mgmtNop (.ring 45) (cmd 0x0100), .funcAbort (.ring 63) (cmd 0x0101), .ringOpen (.ring 128) (cmd 0x0110), .tileMatmul (.ring 50) (cmd 0x0200) none] : List Instr).all
      (fun i => !i.wf) = true := by decide

theorem test_ill_formed_accesses_refused :
    ([.registerWrite 1 0 4 0, .registerWrite 0 0 65 0, .gatedAccess 0 65 false, .msixUnmask 256, .mccCmdWrite false 64 [], .mccCmdWrite false 63 [0, 0],
      .dbSqTail 256 0, .dbCqHead 256 0, .packetFetch 128 .clean, .coalesceTimerExpiry 256, .atyExpectWrite 18 0,
      .atyExpectWrite 0 (2 ^ 32), .stepDigestWrite 64 0, .stepDigestWrite 0 (2 ^ 64)] : List Instr).all (fun i => !i.wf) = true := by decide

theorem test_ill_formed_units_refused :
    ([.tileWaitPass 32, .tileWaitTimeout 45, .tileCommandComplete 32, .exceptionDrainDone 32, .seqTrap 46 0 false, .roResponseTimeout 32 0,
      .roResponseTimeout 0 128, .fenceComplete 32, .patrolScrubRead 8 0 .clean, .gatherServe 8 .good none none,
      .pageWalkComplete 8 0 0 .good, .pageWalkComplete 0 4096 0 .good, .pageWalkComplete 0 0 (2 ^ 19) .good, .attnGatherTimeout 32,
      .rimComputeStart 32, .rimProgramEnd 32, .vidUnitDispatch 5 [] none, .vidCommandComplete 128 [], .vidWatchdog 128, .blockIdleTimeout 32,
      .tileQuiesced 32, .quiesceTimeout 32, .tileMoveCopyDone 32, .mgmtWatchdog 4, .mgmtCoreRestart 4 true] : List Instr).all
      (fun i => !i.wf) = true := by decide

theorem test_ill_formed_lines_refused :
    ([.flitReceive 16 true 0 (List.replicate 640 0) .clean, .flitReceive 0 true 0 [0] .clean, .replayTimeout 16, .ident 16 [], .claim 16 [], .presence 16 [], .duplicate 16 [],
      .bertReq 16 [], .trainingComplete 18, .trainTimeout 18, .trainRetry 18, .errorWindowEnd 18, .retrainComplete 18, .retrainTimeout 18,
      .loopbackDone 18 true, .portQueuesDrained 16, .bertDurationEnd 16 0 [], .sync 16 [], .delayReq 16 [], .delayRsp 16 []] : List Instr).all
      (fun i => !i.wf) = true := by decide

theorem test_ill_formed_slots_refused :
    ([.servingPacketFetch 128 .clean, .queueTimeout 128 0, .metricsRecordExpiry 128 0, .inputFrame 2 [], .pdelayReq 2, .gateCycleStart 2,
      .pltLinkChange 2 true, .rimJitMaxRead 64, .claimBeaconReceive 2 [], .digestDeadline 64 0, .katVerdictTimeout 64, .missingEdge 3,
      .gateCrossingEmpty 99, .phaseFault 48, .droopDetect 99, .droopRecover 99, .stretchLimit 99 0, .pstateStep 99, .blockReset 99,
      .pmuCounterWrap 0 53 0, .pmuCounterWrap 0 0 64, .semTimeout 32, .write32 (2 ^ 32), .write64 (2 ^ 64), .setAddr (2 ^ 64),
      .setReg (2 ^ 26), .halt 128, .resume 128, .semForce 32, .slotIdChange 64] : List Instr).all (fun i => !i.wf) = true := by decide

/-! ## Witnesses: the management channel and the rings -/

theorem witness_HostPathsAnswerAtOnce_free :
    running.mccSealed = false ∧ running.served false = true ∧ running.served true = true ∧ running.mcc.cur = none ∧ running.conf = false ∧
      mccOpcode (cmd 0x0100).opcode.toNat = true ∧ running.queuedOn (cmd 0x0100) = none ∧
      (60 + [1, 2, 3, 4].length ≤ 64 ∧ 4 ≤ [(1 : Byte), 2, 3, 4].length) ∧
      mccOpcode (Packet.ofBits 0x0100).opcode.toNat = true ∧ running.queuedOn (Packet.ofBits 0x0100) = none := by decide

theorem witness_HostPathsAnswerAtOnce_busy :
    let s := onMcc running (cmd 0x0100)
    s.mcc.cur ≠ none ∧ s.mccSealed = false ∧ s.served false = true := by decide

theorem witness_RepliesAreWrittenWhereAsked :
    let s := onMcc running (cmd 0x0100)
    (s.mcc.cur = some (jobOn .mcc (cmd 0x0100)) ∧ (jobOn .mcc (cmd 0x0100)).i3c = false ∧ s.mcc.confCmd = none ∧ (cmd 0x0100).irq = false) ∧
    (running.rimOwns 3 = false ∧ running.conf = false ∧ (running.engOf 3).held = [] ∧ running.cqSpace 3 = true) ∧
    (running.wr (Reg.HIF_RING_CPL_TAIL 3) 1).cqSpace 3 = false := by decide

theorem witness_CommandsObeyPathAndTime :
    let p : Packet := { cmd 0x0100 with execTime := 500 }
    let j : Job := ⟨p, .mcc, false, 400, false, false, 0⟩
    let s := { running.wr Reg.CLK_TIME_NS 400 with mcc := { running.mcc with cur := some j } }
    let q : Packet := { p with execTime := 600 }
    let k : Job := { j with pkt := q }
    (s.jobOf .mcc = some j ∧ j.begun = false ∧ p.base = 0x0100 ∧ s.recovery = false ∧ p.ext = false ∧
      s.pathOpcode .mcc p.opcode.toNat = true ∧ p.execTime ≠ 0 ∧ p.execTime.toNat < j.start + 200 ∧ p.lateOk = false ∧ j.due = false) ∧
    (k.start + 200 ≤ q.execTime.toNat ∧ s.now < q.execTime.toNat) ∧
    (s.pathOpcode (.ring 3) (cmd 0x0110).opcode.toNat = false ∧ (cmd 0x0110).base = 0x0110) ∧
    (let u := s.wr Reg.CLK_TIME_NS 500
     u.jobOf .mcc = some j ∧ j.pkt.execTime ≠ 0 ∧ j.pkt.execTime.toNat ≤ u.now) := by decide

theorem witness_RegisterAccessesObeyTypes :
    (∃ r, rowAt (Reg.HIF_CTRL).addr = some (r, Reg.HIF_CTRL.addr) ∧ r.width = 32 ∧ State.cmdBuffer Reg.HIF_CTRL.addr 4 = none ∧
      State.dbgOff Reg.HIF_CTRL.addr = false ∧ running.windowGated Reg.HIF_CTRL.addr = false ∧ plainRegister r Reg.HIF_CTRL.addr = true ∧
      (State.windowIsland Reg.HIF_CTRL.addr).any running.busBroken = false) ∧
    (let a := (Reg.TILE_NUMFLAGS 0).addr
     let s := (running.fw (Fld.PWR_ISL_PSTATE (State.siteIsland 0)) 4).fw Fld.CLK_REGBUS_CFG_DIV 2
     (∃ r, rowAt a = some (r, a) ∧ r.width = 32 ∧ plainRegister r a = true) ∧ State.cmdBuffer a 4 = none ∧ State.dbgOff a = false ∧
      s.windowGated a = false ∧ (State.windowIsland a).any s.busBroken = true) ∧
    (State.accessOk 2 4 = false ∧ State.cmdBuffer 2 4 = none ∧ running.fb Fld.HIF_FAULT_STATUS_VALID = false) ∧
    (running.fw Fld.HIF_FAULT_STATUS_VALID 1).fb Fld.HIF_FAULT_STATUS_VALID = true := by
  refine ⟨⟨_, rfl, by decide⟩, ⟨⟨_, rfl, by decide⟩, by decide⟩, by decide⟩

theorem witness_NopAndAbortRun :
    Starts (onMcc running (cmd 0x0100)) true .mcc (cmd 0x0100) (jobOn .mcc (cmd 0x0100)) (onMcc running (cmd 0x0100)) ∧
    Starts (onMcc running (cmd 0x0101 [(16, 4)])) true .mcc (cmd 0x0101 [(16, 4)]) (jobOn .mcc (cmd 0x0101 [(16, 4)]))
      (onMcc running (cmd 0x0101 [(16, 4)])) ∧
    State.abortBad (cmd 0x0101 [(16, 4)]) = false ∧ (Packet.ofBits running.mcc.abtCmd).base ≠ 0x0101 :=
  ⟨starts_mcc (by decide) _, starts_mcc (by decide) _, by decide, by decide⟩

/-- A ring of tile 3, open with 16 slots. -/
def opened : State := (((running.fw (Fld.HIF_RING_STATE_STATE 3) State.idle).fw (Fld.HIF_RING_CFG_LOG2_SIZE 3) 4).wr
  (Reg.HIF_RING_SQ_BASE 3) 0x10000).wr (Reg.HIF_RING_CQ_BASE 3) 0x20000

theorem witness_RingsOpenCloseAndFetch :
    let p := xcmd 0x0110 [(16, 3), (18, 6), (19, 3), (24, 0x10000), (32, 0x20000)]
    (Starts (onMcc running p) true .mcc p (jobOn .mcc p) (onMcc running p) ∧ (∃ log v, State.openShape p = some (log, v) ∧ (log < 2 ^ 8 ∧ v < 2 ^ 8)) ∧
      (onMcc running p).ringOpenCheck p = none) ∧
    (let q := cmd 0x0111 [(16, 3)]
     Starts (onMcc opened q) true .mcc q (jobOn .mcc q) (onMcc opened q) ∧ State.ringNumber (q.u16 16) = true ∧
      (onMcc opened q).ringState 3 = State.idle) ∧
    (let q := cmd 0x0112 [(16, 3)]
     let s := opened.fw (Fld.HIF_RING_STATE_STATE 3) State.halted
     Starts (onMcc s q) true .mcc q (jobOn .mcc q) (onMcc s q) ∧ s.ringState 3 = State.halted ∧ (s.tile 3).trapped = false ∧
      s.ringHead 3 = s.ringTail 3 ∧ (s.engOf 3).openRec = []) :=
  ⟨⟨starts_mcc (by decide) _, ⟨6, 3, by decide, by decide⟩, by decide⟩, ⟨starts_mcc (by decide) _, by decide⟩, ⟨starts_mcc (by decide) _, by decide⟩⟩

theorem witness_RingsOpenCloseAndFetch_doorbells :
    let a := (opened.wr (Reg.HIF_RING_TAIL 3) 1).fw (Fld.HIF_RING_STATE_STATE 3) State.active
    opened.ringRuns 3 = true ∧ running.ringRuns 3 = false ∧ opened.ringSize 3 = 16 ∧
      (sub32 (opened.ringTail 3) (opened.ringHead 3) ≤ sub32 16 (opened.ringHead 3) ∧ sub32 16 (opened.ringHead 3) ≤ opened.ringSize 3) ∧
      ¬(sub32 17 (opened.ringHead 3) ≤ opened.ringSize 3) ∧ opened.ringState 3 ≠ State.closed ∧
      ¬(sub32 1 (opened.rd (Reg.HIF_RING_CPL_HEAD 3)) ≤ sub32 (opened.rd (Reg.HIF_RING_CPL_TAIL 3)) (opened.rd (Reg.HIF_RING_CPL_HEAD 3))) ∧
      a.mayFetch 3 = true ∧ opened.mayFetch 3 = false ∧ a.conf = false ∧ a.engOf 3 = Engine.idle ∧ a.cqSpace 3 = true ∧ a.rimOwns 3 = false := by
  decide

theorem witness_VectorsFireAndWindowsRegister :
    let s := { running with hif := { running.hif with coal := [(5, 1)], msix := [(5, ⟨0x1000, 5, false, false⟩), (6, ⟨0x1000, 6, true, true⟩)] } }
    let p := cmd 0x0120 [(16, 15), (24, 0x10000), (32, 0x1000)]
    let q := cmd 0x0121 [(16, 15)]
    (s.coalOf 5 ≠ 0 ∧ (s.msixOf 5).masked = false ∧ s.coalOf 6 = 0 ∧ (s.msixOf 6).pending = true ∧ (s.msixOf 5).pending = false) ∧
    (Starts (onMcc running p) true .mcc p (jobOn .mcc p) (onMcc running p) ∧ p.u8 16 ≤ 15 ∧ p.u64 24 % 4096 = 0 ∧ p.u64 32 % 4096 = 0 ∧ p.u64 32 ≠ 0 ∧
      (running.fbw Fld.HIF_CTRL_CONF true).conf = true) ∧
    Starts (onMcc running q) true .mcc q (jobOn .mcc q) (onMcc running q) ∧ Cells.find (q.u8 16) running.hif.bounce = none :=
  ⟨by decide, ⟨starts_mcc (by decide) _, by decide⟩, starts_mcc (by decide) _, by decide⟩

/-! ## Witnesses: numbers and tiles -/

theorem witness_NumbersAndSumsAreExact :
    (readElem 3 0x3F80 ≠ .nan ∧ 0x3F80 < 2 ^ elemBits 3 0 ∧ readElem 5 0x80 ≠ .nan) ∧
    (let x : Acc := ⟨3, 0, false, 0⟩
     x.empty = false ∧ x.w.natAbs + x.w.natAbs + x.w.natAbs < 2 ^ 191) ∧
    ([Val.ofInt 1, Val.ofInt 2].Perm [Val.ofInt 2, Val.ofInt 1] ∧ (([Val.ofInt 1, Val.ofInt 2]).map (termSize 63)).sum < 2 ^ 191) :=
  ⟨by decide, by decide, List.Perm.swap _ _ _, by decide⟩

theorem witness_ProductsEnterTheWindow :
    let c : Acc := ⟨windowMax, 190, false, 0⟩
    (-windowMax ≤ c.w ∧ c.w ≤ windowMax) ∧ (windowMax < c.w + (toWindow c.a 1 0).1) ∧ (windowMax < (toWindow c.a 1 191).1) ∧
      (c.w - (toWindow c.a 1 0).1 ≤ windowMax) := by decide

/-- The address of byte 0x1000 of tile 3's store, and of byte 0 of tile 2's. -/
def atTile3 : Nat := ownAddr (tileKey 3 0x1000)
def atTile2 : Nat := ownAddr (tileKey 2 0)

/-- Tile commands with every parameter in range. -/
def matmulP : Packet :=
  xcmd 0x0200 [(16, 0), (20, 0x400), (24, atTile3), (32, 1), (34, 1), (36, 4), (38, 5), (39, 5), (40, 5), (44, 4)]
def matmulExtP : Packet :=
  xcmd 0x0200 [(16, 0), (20, 0x400), (24, atTile3), (32, 1), (34, 1), (36, 4), (38, 5), (39, 5), (40, 5), (41, 0x20), (44, 4), (48, 0x2000)]
def vecP : Packet := xcmd 0x0201 [(16, 0), (20, 0x400), (28, 0x1000), (32, 4), (36, 4), (38, 3), (39, 3), (40, 1)]
def vredP : Packet := xcmd 0x0202 [(16, 0), (24, atTile3), (32, 1), (36, 4), (40, 3), (41, 1), (42, 0x20), (44, 4)]
def vredXchgP : Packet :=
  xcmd 0x0202 [(16, 0), (24, atTile3), (32, 1), (36, 4), (40, 3), (41, 1), (42, 0x20), (43, 9), (44, 4), (48, 0x2000)]
def convP : Packet :=
  xcmd 0x0220 [(16, 0), (20, 0x400), (24, atTile3), (32, 1), (34, 1), (36, 4), (38, 1), (40, 0x11), (41, 0x11), (42, 0x11), (44, 1), (46, 1),
    (48, 5), (49, 5), (50, 5), (60, 1)]
def poolP : Packet :=
  xcmd 0x0221 [(16, 0), (20, 1), (24, atTile3), (32, 1), (34, 1), (36, 4), (38, 1), (39, 1), (40, 1), (41, 1), (43, 0x30), (44, 1), (46, 1),
    (48, 5), (49, 5)]
def xferP : Packet := xcmd 0x0204 [(16, 0), (24, atTile2), (32, 64), (36, 1), (38, 0), (40, 64), (44, 64)]
def atomicP : Packet := xcmd 0x0205 [(16, atTile2), (32, 0x08)]

/-- A tile store with a descriptor of an exchange with tile 2. -/
def exchanging : State :=
  (running.memWrite (tileKey 3 0x2020) (leBytes 4 0x3000 ++ leBytes 2 1 ++ leBytes 2 0 ++ leBytes 4 0x4000)).memWrite (tileKey 3 0x4000)
    (leBytes 8 (ownAddr (tileKey 2 0x3000)))

theorem tileStarts_on {s : State} {p : Packet} (h : (s.pathOpcode (.ring 3) p.opcode.toNat && !p.ext && p.execTime == 0) = true)
    (hn : (onRing s 3 p).jobOf (.ring 3) = some (jobOn (.ring 3) p)) (hh : (onRing s 3 p).unitHeld 3 = false)
    (hp : ((onRing s 3 p).tile 3).posted = none) (ho : (onRing s 3 p).tileOn 3 = true) :
    TileStarts (onRing s 3 p) (.ring 3) 3 p (jobOn (.ring 3) p) (onRing s 3 p) :=
  ⟨⟨starts_ring h hn true, Or.inl rfl⟩, by decide, hh, hp, ho, nofun⟩

theorem witness_TileTransfersMoveLines :
    (let s := onRing running 3 xferP
     TileStarts s (.ring 3) 3 xferP (jobOn (.ring 3) xferP) s ∧ xferP.base = 0x0204 ∧ (XferOp.ofPacket xferP).isSome = true ∧
      ∀ x, XferOp.ofPacket xferP = some x → x.check s 3 = none ∧ x.dir ≠ 1) ∧
    (let s := onRing running 3 atomicP
     TileStarts s (.ring 3) 3 atomicP (jobOn (.ring 3) atomicP) s ∧ atomicP.base = 0x0205 ∧ basicAddr atomicP (atomicP.u64 16) = some atTile2 ∧
      atomicCheck s 3 atomicP = none) ∧
    (64 % 4 = 0 ∧ 60 % 4 = 0 ∧ 128 % 4 = 0) :=
  ⟨⟨tileStarts_on (by decide) (by decide) (by decide) (by decide) (by decide), by decide, by decide, by
      intro x h; have := Option.some.inj (show _ = some x from h); subst this; decide⟩,
    ⟨tileStarts_on (by decide) (by decide) (by decide) (by decide) (by decide), by decide, by decide, by decide⟩, by decide⟩

/-- What a compute command of tile 3 needs to start, its own checks passed. -/
def computes {α : Type} (s : State) (p : Packet) (base : Nat) (x : Option α) (ok : α → Bool) : Prop :=
  TileStarts (onRing s 3 p) (.ring 3) 3 p (jobOn (.ring 3) p) (onRing s 3 p) ∧ p.base = base ∧ CleanMemory (onRing s 3 p) ∧ ∃ y, x = some y ∧ ok y = true

theorem computes_of {α : Type} {s : State} {p : Packet} {base : Nat} {x : Option α} {ok : α → Bool}
    (h : TileStarts (onRing s 3 p) (.ring 3) 3 p (jobOn (.ring 3) p) (onRing s 3 p)) (hb : p.base = base) (hc : CleanMemory (onRing s 3 p))
    (hx : (match x with | some y => ok y | none => false) = true) : computes s p base x ok := by
  cases x with
  | none => exact absurd hx (by simp)
  | some y => exact ⟨h, hb, hc, y, rfl, hx⟩

theorem witness_TilesComputeOrReportErrors :
    computes running matmulP 0x0200 (MatOp.ofPacket matmulP) (fun x => x.check (onRing running 3 matmulP) 3 == none && !x.exchange) ∧
    computes running matmulExtP 0x0200 (MatOp.ofPacket matmulExtP) (fun x => x.check (onRing running 3 matmulExtP) 3 == none && x.ext &&
      decide (x.extAddr / 64 * 64 ≤ 0x2000) && decide (0x2000 < x.extAddr + 64)) ∧
    computes running vecP 0x0201 (VecOp.ofPacket vecP) (fun x => x.check (onRing running 3 vecP) 3 == none) ∧
    computes running vredP 0x0202 (RedOp.ofPacket vredP) (fun x => x.check (onRing running 3 vredP) 3 == none && !x.exchange && !x.ext &&
      decide (0 < x.src0 + x.rows * x.pitch)) ∧
    computes exchanging vredXchgP 0x0202 (RedOp.ofPacket vredXchgP) (fun x => x.check (onRing exchanging 3 vredXchgP) 3 == none && x.exchange) ∧
    computes running convP 0x0220 (ConvOp.ofTile convP) (fun x => x.tileCheck (onRing running 3 convP) 3 == none && !x.exchange && !x.sparse) ∧
    computes running poolP 0x0221 (PoolOp.ofPacket poolP) (fun x => x.check (onRing running 3 poolP) 3 == none && !x.exchange) := by
  refine ⟨?_, ?_, ?_, ?_, ?_, ?_, ?_⟩ <;>
    exact computes_of (tileStarts_on (by decide) (by decide) (by decide) (by decide) (by decide)) (by decide) ⟨rfl, rfl⟩ (by decide)

/-- Tile 3 waiting for counter 2 to reach 5. -/
def waiting : State := running.setTile 3 { running.tile 3 with wait := some ⟨2, 5, 5, 1⟩ }

theorem witness_TilesSynchroniseAndEnd :
    (∀ p ∈ [xcmd 0x0206, xcmd 0x0207 [(16, 31), (20, 5)], xcmd 0x0208 [(16, 31), (20, 5)]],
      TileStarts (onRing running 3 p) (.ring 3) 3 p (jobOn (.ring 3) p) (onRing running 3 p) ∧ profileOne p = true) ∧
    ((waiting.tile 3).wait = some ⟨2, 5, 5, 1⟩ ∧ waiting.rd (Reg.TILE_SYNC (waiting.siteOf 3) 2) < 5 ∧
      5 ≤ (waiting.wr (Reg.TILE_SYNC 3 2) 5).rd (Reg.TILE_SYNC 3 2) ∧ (running.tile 3).wait = none) ∧
    (let s := (onRing running 3 (xcmd 0x0206)).setTile 3 { running.tile 3 with fencing := true, posted := some (5, 0x40) }
     (s.tile 3).sb = [] ∧ (s.tile 3).fencing = true ∧ (s.tile 3).posted = some (5, 0x40) ∧ (s.engOf 3).cur = some (jobOn (.ring 3) (xcmd 0x0206))) ∧
    (running.setTile 3 { running.tile 3 with prog := { Progress.empty with done := true } }).tileDone 3 = false ∧
    (let s := (onRing opened 3 (xcmd 0x0206)).setTile 3 { running.tile 3 with exc := some ⟨5, 1, 0x40⟩ }
     (s.tile 3).exc = some ⟨5, 1, 0x40⟩ ∧ (s.tile 3).sb = [] ∧ s.rimOwns 3 = false ∧ bit s.srv.tileMask 3 = false ∧ (s.engOf 3).held = [] ∧
      (s.engOf 3).openRec = [] ∧ s.cqSpace 3 = true ∧ s.ringState 3 ≠ State.closed ∧ s.tiles.all (fun x => !x.2.resetting) = true ∧
      s.mcc.aborts = [] ∧ s.mcc.cur = none ∧ s.sec.closing ≠ 2) := by
  refine ⟨fun p hp => ?_, by decide, by decide, by decide, by decide⟩
  simp only [List.mem_cons, List.mem_nil_iff, or_false] at hp
  rcases hp with rfl | rfl | rfl <;>
    exact ⟨tileStarts_on (by decide) (by decide) (by decide) (by decide) (by decide), by decide⟩

theorem test_tile_command_completes :
    let s := (onRing opened 3 (xcmd 0x0206)).setEng 3 { Engine.idle with cur := some { jobOn (.ring 3) (xcmd 0x0206) with begun := true } }
    (s.setTile 3 { running.tile 3 with prog := { Progress.empty with done := true } }).tileDone 3 = true := by decide

/-- A posted store of tile 3 in flight. -/
def inFlight : State :=
  running.setTile 3 { running.tile 3 with sb := [⟨Req.make atTile2 running.srcMod 3 4 opStore none [0, 0, 0, 0], .none, true, 0⟩] }

theorem witness_ResponsesTimeoutsAndTraps :
    (let s := (onRing running 3 (xcmd 0x0206)).setEng 3 { Engine.idle with cur := some { jobOn (.ring 3) (xcmd 0x0206) with begun := true } }
     s.tileOn 3 = true ∧ (s.tile 3).trapped = false ∧ (s.tile 3).exc = none ∧ (∃ j, (s.engOf 3).cur = some j ∧ j.begun = true)) ∧
    (let r := Resp.make (Req.make atTile2 running.srcMod 3 4 opStore none [0, 0, 0, 0]) Sts.accessFault []
     r.dstMod = inFlight.srcMod ∧ r.dstUnit = 3 ∧ (inFlight.tile 3).sb.findIdx? (fun e => e.issued && e.req.rtag == r.rtag) = some 0 ∧
      r.status ≠ Sts.ok ∧ (inFlight.tile 3).exc = none ∧ (inFlight.tile 3).posted = none ∧
      (Resp.make (Req.make atTile2 running.srcMod 3 4 opStore none [0, 0, 0, 0]) Sts.ok []).status = Sts.ok ∧
      (let s := running.setTile 3 { running.tile 3 with stale := [r.rtag] }
       (s.tile 3).sb.findIdx? (fun e => e.issued && e.req.rtag == r.rtag) = none ∧ (s.tile 3).stale.contains r.rtag = true)) ∧
    ((running.wr Reg.CLK_EN0 0).tileOn 3 = false ∧ (running.setTile 3 { running.tile 3 with trapped := true }).tileOn 3 = true) :=
  ⟨⟨by decide, by decide, by decide, ⟨_, rfl, rfl⟩⟩, by decide, by decide⟩

theorem witness_SplintCommandsRun :
    let p := xcmd 0x0240 [(16, 0), (24, 0), (40, 1), (42, 1), (44, 4), (46, 1), (48, 0x11), (49, 0x11), (50, 0x11), (52, 1), (54, 1), (56, 5),
      (57, 5), (58, 5)]
    let q := xcmd 0x0241 [(16, 15), (20, 5)]
    let r := xcmd 0x0240 [(48, 0xC1)]
    (∀ m ∈ [xcmd 0x0242 [(16, 15), (20, 5)], q, p, r], UnitStarts (onRing running 44 m) (.ring 44) 44 m (jobOn (.ring 44) m) (onRing running 44 m)) ∧
    running.splintOn = true ∧ profileOne q = true ∧ q.expert = true ∧ running.rd (Reg.SPL_SYNC 15) < q.u32 20 ∧
    (∃ x, splOf p = some x ∧ x.splCheck = none) ∧ (∃ x, splOf r = some x ∧ 11 < x.fh) ∧
    (let s := running.setEng 44 { Engine.idle with cur := some { jobOn (.ring 44) q with begun := true } }
     s.splWaiting = some q ∧ s.rd (Reg.SPL_SYNC (State.splWaitOf q).1) < (State.splWaitOf q).2.1) := by
  refine ⟨fun m hm => ?_, by decide, by decide, by decide, by decide, ⟨_, rfl, by decide⟩, ⟨_, rfl, by decide⟩, by decide⟩
  simp only [List.mem_cons, List.mem_nil_iff, or_false] at hm
  rcases hm with rfl | rfl | rfl | rfl <;> exact ⟨starts_ring (by decide) (by decide) true, Or.inl rfl⟩

/-! ## Witnesses: memory, Creel, attention, remote operations -/

/-- Commands accepted on the MCC: each of a list may begin on it. -/
def allStart (s : State) (l : List (Nat × Packet)) : Prop :=
  ∀ e ∈ l, Starts (onMcc s e.2) true .mcc e.2 (jobOn .mcc e.2) (onMcc s e.2) ∧ e.2.base = e.1

theorem allStart_of {s : State} {l : List (Nat × Packet)} (h : l.all (fun e => mccOpcode e.2.opcode.toNat &&
    (!s.recovery || recoveryOpcode e.2) && !e.2.ext && e.2.execTime == 0 && e.2.base == e.1) = true) : allStart s l := by
  intro e he
  have := List.all_eq_true.mp h e he
  simp only [Bool.and_eq_true] at this
  exact ⟨starts_mcc (by simp only [Bool.and_eq_true]; exact this.1) true, by simpa using this.2⟩

/-- The open outcome of a test mark (assumption 6) is a premise here. -/
theorem witness_MemoryIsPatrolledAndRetired :
    (running.stackOn 7 = true ∧ stackEnd - 1 < stackEnd ∧ spaceOf (tileKey 3 64) ≠ 0 ∧ spaceOf (hbmKey 7 0) = 0) ∧
    (let s := { running with ecc := { running.ecc with valid := [protKey (tileKey 3 64)] } }
     s.patrolled (tileKey 3 64) = true ∧ s.patrolSkips (tileKey 3 64) = false ∧ Cells.get 0 (protKey (tileKey 3 64)) s.ecc.words < 3) ∧
    (let s := { running with ecc := { running.ecc with marks := [⟨tileKey 3 64, 1, 1⟩] } }
     Config.eccOutcome false 1 1 = 1 →
      s.ecc.marks.find? (fun m => m.key == tileKey 3 64 / 8 * 8 && spaceOf m.key != 0 && m.outcome == 1) = some ⟨tileKey 3 64, 1, 1⟩) ∧
    (let s := { running with ecc := { running.ecc with retiring := [⟨hbmKey 0 65536, hbmKey 1 0⟩] } }
     s.ecc.retiring.find? (fun r => r.page == hbmKey 0 65536) = some ⟨hbmKey 0 65536, hbmKey 1 0⟩ ∧ s.ecc.marks = []) := by
  refine ⟨by decide, by decide, fun h => ?_, by decide⟩
  have : (⟨tileKey 3 64, 1, 1⟩ : Mark).outcome = 1 := h
  simp only [List.find?_cons, this]
  decide

/-- A module with a tenant. -/
def tenanted : State := running.fbw Fld.SEC_STATUS_TENANT_OPEN true

def eccWriteP : Packet := xcmd 0x0C11 [(16, ownAddr (tileKey 3 64)), (24, 0), (32, 5)]
def eccReadP : Packet := xcmd 0x0C11 [(16, ownAddr (tileKey 3 64)), (24, 1), (25, 3)]

theorem witness_MemoryIsScrubbedAndTested :
    allStart running [(0x0C10, xcmd 0x0C10 [(16, 0xFF), (17, 1), (18, 100)]), (0x0C11, eccWriteP), (0x0C11, eccReadP)] ∧
    (running.stackOk 7 = true ∧ running.maintRefused ⟨State.actMemScrub, 0, 0⟩ = none ∧ running.maintRefused ⟨State.actEccTest, 0, 0⟩ = none) ∧
    (∀ p ∈ [eccWriteP, eccReadP], p.expert = true ∧ p.u64 16 % unitSize (memKey (p.u64 16)) = 0 ∧ unitSize (memKey (p.u64 16)) = 8 ∧ p.u8 27 = 0 ∧
      running.eccTarget (p.u64 16) = true ∧ running.unitMarks (memKey (p.u64 16)) < 64) ∧
    (let s := { running with ecc := { running.ecc with valid := [protKey (tileKey 3 64)], scrub := some (255, 0, 0) } }
     s.patrolled (memKey (eccReadP.u64 16)) = true ∧ s.ecc.valid.contains (protKey (memKey (eccReadP.u64 16))) = true ∧ CleanMemory s ∧
      s.tenantOpen = false ∧ s.ecc.scrub = some (255, 0, 0)) ∧
    (tenanted.tenantOpen = true ∧ tenanted.eccTarget (eccWriteP.u64 16) = true) :=
  ⟨allStart_of (by decide), by decide, by decide, ⟨by decide, by decide, ⟨rfl, rfl⟩, by decide, rfl⟩, by decide⟩

/-- A tenant with sequence 4095 open: two layers of rows of 64 bytes, up to 4,096 tokens, none reserved. -/
def sequenced : State := tenanted.setCrlSeq 4095 ⟨1, 0, 2, 64, 4096, 0, none, (0, 0)⟩

def seqOpenP : Packet := xcmd 0x0300 [(16, 4095), (18, 2), (20, 64), (24, 4096), (28, 0)]

theorem witness_CreelSequencesLiveAndEnd :
    allStart tenanted [(0x0300, seqOpenP)] ∧
    allStart sequenced [(0x0300, seqOpenP), (0x0301, xcmd 0x0301 [(16, 4095)]), (0x0305, xcmd 0x0305 [(16, 4095)]), (0x0302, xcmd 0x0302 [(16, 4095)]),
      (0x0303, xcmd 0x0303 [(16, 4095)])] ∧
    (profileOne seqOpenP = true ∧ State.pSeq seqOpenP = 4095 ∧ State.geomBad (State.openGeom seqOpenP) = false ∧ seqOpenP.expert = true ∧
      (onMcc tenanted seqOpenP).tenantOpen = true ∧ tenanted.srvOwnsSeq 4095 = false ∧ tenanted.crlSeq 4095 = none ∧
      (∃ w, (onMcc tenanted seqOpenP).crlOpen 4095 (State.openGeom seqOpenP) = .ok w)) ∧
    (sequenced.crlSeq 4095 = some ⟨1, 0, 2, 64, 4096, 0, none, (0, 0)⟩ ∧ (∃ w, sequenced.crlSetResv 4095 ⟨1, 0, 2, 64, 4096, 0, none, (0, 0)⟩ 0 = .ok w) ∧
      sequenced.crl.waiting = [] ∧ running.crl.busy = none) ∧
    (let s := tenanted.setCrlSeq 4095 ⟨2, 1, 2, 64, 4096, 0, none, (0, 0)⟩
     (∃ w, s.crlSetResv 4095 ⟨2, 1, 2, 64, 4096, 0, none, (0, 0)⟩ 0 = .ok w)) ∧
    (let s := { sequenced with crl := { sequenced.crl with busy := some (4095, true) } }
     s.crl.busy = some (4095, true) ∧ s.crl.held = []) := by
  refine ⟨allStart_of (by decide), allStart_of (by decide), ⟨by decide, by decide, by decide, by decide, by decide, by decide, by decide, ?_⟩,
    ⟨by decide, ?_, rfl, rfl⟩, ?_, rfl, rfl⟩ <;>
    exact ⟨_, by simp only [State.crlOpen, State.crlSetResv, State.crlTry]; rfl⟩

theorem witness_CreelPoolsAndWalks :
    allStart tenanted [(0x0304, xcmd 0x0304 [(16, 4095)]), (0x0310, xcmd 0x0310 [(16, 1), (20, 2), (24, ownAddr (hbmKey 1 0))]),
      (0x0311, xcmd 0x0311 [(16, 1), (20, 1)]), (0x0340, xcmd 0x0340 [(16, 1), (20, 1)])] ∧
    (let s := tenanted.setCrlSeq 4095 ⟨1, 1, 2, 64, 4096, 0, some 9, (0, 0)⟩
     ∃ q, s.crlSeq 4095 = some q ∧ q.firstLost = some 9) ∧
    (let a := ownAddr (hbmKey 1 0)
     tenanted.stackOn 1 = true ∧ tenanted.isOwn (modOf a) = true ∧ spaceOf a = 0 ∧ offOf a / 2 ^ 36 = 1 ∧ a % 65536 = 0 ∧
      offOf a % 2 ^ 36 + 2 * 65536 ≤ tenanted.allocEnd 1 ∧ tenanted.poolTouches (memKey a) 2 = false) ∧
    (tenanted.poolFree 1 < tenanted.poolResv 1 + 1 ∧
      tenanted.poolResv 1 + 0 ≤ tenanted.poolFree 1 ∧ tenanted.runCheck State.mccUnit (ownAddr (tileKey 2 0)) 0 opStore = none) ∧
    (16384 + 1 ≤ ((List.range 8).filter tenanted.stackOk).foldl (fun c k => c + tenanted.fd (Fld.HBM_REMAP_STATE_FREE k)) 0 ∧
      1 ≤ tenanted.fd (Fld.HBM_REMAP_STATE_FREE 1)) ∧
    (let s := { sequenced with crl := { sequenced.crl with walks := [(1, 4095, 0)], zeroing := [⟨hbmKey 1 0, false, false⟩] } }
     s.crl.walks.contains (1, 4095, 0) = true ∧ (s.crl.tlb.filter (fun e => e.1 == 1)).length < 512 ∧
      s.crl.zeroing.find? (fun z => z.page == hbmKey 1 0) = some ⟨hbmKey 1 0, false, false⟩) :=
  ⟨allStart_of (by decide), ⟨_, rfl, rfl⟩, by decide, by decide, by decide, by decide⟩

def gatherP : Packet := xcmd 0x0320 [(16, 5), (26, 1), (32, ownAddr (tileKey 2 0)), (40, ownAddr (tileKey 2 0x10000))]

/-- A gather request at the endpoint of unit 1. -/
def gatherReq : Req := Req.make (ownAddr (3 * 2 ^ 48 + 2 ^ 47 + 1)) running.srcMod 3 64 opStore none (List.replicate 64 0)

theorem witness_CreelGathersAndBuckets :
    UnitStarts (onRing tenanted 33 gatherP) (.ring 33) 33 gatherP (jobOn (.ring 33) gatherP) (onRing tenanted 33 gatherP) ∧
    (let g := State.gatherOf 1 (gatherP.bytes 16 36) none
     gatherP.base = 0x0320 ∧ profileOne gatherP = true ∧ g.rows ≠ 0 ∧ g.tokEn = false ∧ tenanted.srvOwnsSeq g.seq = false ∧
      tenanted.gatherExtent g = none) ∧
    (∀ s ∈ [tenanted, running], isEndpoint gatherReq.addr = true ∧ Reaches s gatherReq ∧ s.homeCheck gatherReq = none ∧
      s.stackOn (gatherReq.addr % 8) = true ∧ s.heldAtHome gatherReq = false ∧ s.gatherDepth 1 < 64 ∧ s.crl.vc0 = []) ∧
    (let g : Gather := ⟨1, 5, 0, 0, 0, 1, 0, 0, 0, false, 0, 0, none⟩
     let s := { tenanted with crl := { tenanted.crl with queue := List.replicate 64 g } }
     64 ≤ s.gatherDepth 1 ∧ s.crl.queue.find? (fun g => g.unit == 1) = some g ∧ s.crlSeq 5 = none ∧ s.crl.queue.find? (fun g => g.unit == 2) = none) ∧
    (let p := xcmd 0x0321 [(16, ownAddr (tileKey 2 0)), (24, ownAddr (tileKey 2 0x1000)), (32, ownAddr (tileKey 2 0x800)), (40, 1), (42, 15)]
     allStart tenanted [(0x0321, p)] ∧ tenanted.runCheck State.mccUnit (p.u64 16) (8 * p.u16 40) opLoad = none ∧
      tenanted.runCheck State.mccUnit (p.u64 32) (4 * p.u8 42) opLoad = none ∧
      tenanted.runCheck State.mccUnit (p.u64 24) (8 * p.u16 40 + 68) opStore = none) := by
  refine ⟨⟨starts_ring (by decide) (by decide) true, Or.inl rfl⟩, by decide, ?_, by decide, allStart_of (by decide), by decide⟩
  intro s hs
  simp only [List.mem_cons, List.mem_nil_iff, or_false] at hs
  rcases hs with rfl | rfl <;> exact ⟨by decide, ⟨by decide, Or.inl (by decide)⟩, by decide⟩

/-- Tile 3's store with the descriptor and the one entry of an attention command. -/
def attending : State :=
  (running.memWrite (tileKey 3 0x100) (leBytes 12 0 ++ leBytes 2 1 ++ leBytes 2 128 ++ leBytes 2 1 ++ leBytes 2 1 ++ leBytes 2 1 ++ leBytes 2 1 ++
    [5, 5, 5, 0] ++ leBytes 4 0 ++ leBytes 4 0x20000 ++ leBytes 2 1 ++ [3, 4] ++ leBytes 4 0 ++ leBytes 2 1 ++ leBytes 34 0 ++
    leBytes 8 (ownAddr (tileKey 2 0x1000)) ++ leBytes 8 (ownAddr (tileKey 2 0x2000)) ++ leBytes 4 256)).memWrite (tileKey 3 0x200)
    (leBytes 2 7 ++ leBytes 2 1 ++ leBytes 16 0 ++ leBytes 4 1)

def attnP (op : Nat) : Packet :=
  xcmd op [(16, 0x100), (20, 0x200), (24, atTile3), (32, 1), (36, 0x10), (37, 3), (40, ownAddr (tileKey 2 0x8000))]
def normP : Packet := xcmd 0x0231 [(16, 0), (20, 1), (22, 1), (24, atTile3), (36, 3)]

theorem witness_AttentionCommands :
    computes attending (attnP 0x0230) 0x0230 (AttnOp.ofPacket (attnP 0x0230))
      (fun x => AttnCmd.check x (onRing attending 3 (attnP 0x0230)) 3 == none && !x.bwd) ∧
    computes attending (attnP 0x0232) 0x0232 (AttnOp.ofPacket (attnP 0x0232))
      (fun x => AttnCmd.check x (onRing attending 3 (attnP 0x0232)) 3 == none) ∧
    computes running normP 0x0231 (NormOp.ofPacket normP) (fun x => x.check (onRing running 3 normP) 3 == none) ∧
    (let s := waiting.updTile 3 (fun x => { x with attn := { Attn.none with phase := 1 } })
     (s.tile 3).wait = some ⟨2, 5, 5, 1⟩ ∧ (s.tile 3).attn.phase = 1 ∧ s.rd (Reg.TILE_SYNC (s.siteOf 3) 2) < 5) := by
  refine ⟨?_, ?_, ?_, by decide⟩ <;>
    exact computes_of (tileStarts_on (by decide) (by decide) (by decide) (by decide) (by decide)) (by decide) ⟨rfl, rfl⟩ (by decide)

/-- A request of tile 3 to byte 0 of tile 2's store. -/
def reqAt (op size : Nat) (data : List Byte) : Req := Req.make atTile2 running.srcMod 3 size op none data

theorem serves_of {s : State} {q : Req} (h : (s.isOwn (modOf q.addr) && q.srcMod == s.srcMod && decide (spaceOf (memKey q.addr) ≤ 2) &&
    (s.homeCheck q).isNone && s.homeOn (memKey q.addr) && !s.heldAtHome q) = true) (hc : CleanMemory s) : Serves s q := by
  simp only [Bool.and_eq_true, beq_iff_eq, decide_eq_true_eq, Option.isNone_iff_eq_none, Bool.not_eq_true'] at h
  exact ⟨⟨h.1.1.1.1.1, Or.inl h.1.1.1.1.2⟩, h.1.1.1.2, h.1.1.2, h.1.2, h.2, hc⟩

theorem witness_RemoteOperationsActAtHome :
    (Serves running (reqAt opLoad 64 []) ∧ (reqAt opLoad 64 []).op = opLoad) ∧
    (Serves running (reqAt opStore 4 [1, 2, 3, 4]) ∧ (reqAt opStore 4 [1, 2, 3, 4]).op = opStore) ∧
    (∀ e ∈ [(0x28, 0x08, 4), (0x09, 0x09, 8), (0x0A, 0x0A, 4), (0x2C, 0x0C, 4), (0x0D, 0x0D, 8), (0x0E, 0x0E, 4), (0x0F, 0x0F, 8), (0x30, 0x10, 8),
        (0x31, 0x11, 16), (0x34, 0x14, 32)],
      Serves running (reqAt e.1 e.2.2 (List.replicate e.2.2 1)) ∧ (reqAt e.1 e.2.2 (List.replicate e.2.2 1)).op = e.1 ∧ isAtomic e.1 = true ∧
        opBase e.1 = e.2.1) := by
  refine ⟨⟨serves_of (by decide) ⟨rfl, rfl⟩, by decide⟩, ⟨serves_of (by decide) ⟨rfl, rfl⟩, by decide⟩, fun e he => ?_⟩
  simp only [List.mem_cons, List.mem_nil_iff, or_false] at he
  rcases he with rfl | rfl | rfl | rfl | rfl | rfl | rfl | rfl | rfl | rfl <;> exact ⟨serves_of (by decide) ⟨rfl, rfl⟩, by decide⟩

/-- Module 5 of a cascade, with a tenant. -/
def cascaded : State := tenanted.fw Fld.ATY_FAB_CFG_MOD_NUM 5

theorem witness_RefusalsAndInboundWindows :
    (let q := reqAt 0x3F 0 []
     Reaches running q ∧ opDefined q.op = false ∧ running.heldAtHome q = false) ∧
    (let q : Req := Req.make atTile2 6 3 64 opLoad none []
     q.op = opLoad ∧ q.srcMod ≠ cascaded.srcMod ∧ cascaded.ownMod ≠ 0xFFF ∧ cascaded.isOwn (modOf q.addr) = true ∧ cascaded.inReset = false ∧
      cascaded.ingressOk q = false) ∧
    (let p := xcmd 0x0410 [(16, 15), (18, 1), (20, 2), (24, ownAddr (tileKey 2 0)), (32, 65536)]
     allStart cascaded [(0x0410, p), (0x0411, xcmd 0x0411 [(16, 15)])] ∧ allStart tenanted [(0x0410, p)] ∧ cascaded.tenantOpen = true ∧
      cascaded.ownMod ≠ 0xFFF ∧ tenanted.ownMod = 0xFFF) :=
  ⟨⟨⟨by decide, Or.inl (by decide)⟩, by decide⟩, by decide, allStart_of (by decide), allStart_of (by decide), by decide⟩

theorem witness_MemoryKeepsItsForm : Memory.wf exchanging = true ∧ ∃ t, exec (.load (reqAt opLoad 64 []) .clean) exchanging = .next t :=
  ⟨by decide, _, rfl⟩

/-! ## Witnesses: links and the cascade -/

/-- Module 5 with link 3 on port 3, whose port is in a state. -/
def linked (st : Nat) : State :=
  ((((cascaded.wr Reg.ATY_LINK_MAP0 0x76543210).fw (Fld.ATY_PORT_STATUS_LINK 3) 3).fw Fld.ATY_FAB_STATUS_MASTER_MOD 0).setPort 3 st)

/-- An IDLE and a DATA flit with 19 slots. -/
def idleFlit : Flit := ⟨ftIdle, 0xFFF, 0, List.replicate 608 0⟩
def dataFlit : Flit := ⟨ftData, 0, 0, List.replicate 608 0⟩

theorem witness_FlitsReadBack :
    (idleFlit.ftype ≤ 2 ∧ idleFlit.fseq < 2 ^ 12 ∧ dataFlit.ftype ≤ 2 ∧ dataFlit.map < 2 ^ 80 ∧ (4095 < 2 ^ 12) ∧ [(65535 : Nat), 0, 0, 0].length = 4) ∧
    idleFlit.slots.length = 608 ∧ dataFlit.slots.length = 608 := by
  refine ⟨by decide, List.length_replicate, List.length_replicate⟩

theorem witness_FlitsArriveAndReplay :
    (let s := linked State.pUp
     s.portOf 3 = 3 ∧ s.portState 3 = State.pUp ∧ s.portLink 3 = 3 ∧ (s.link 3).corr + 1 < s.fd (Fld.ATY_PORT_ERR_CFG_CORR_THRESH 3) ∧
      (s.link 3).bad + 1 < s.fd (Fld.ATY_PORT_ERR_CFG_UNCORR_THRESH 3) ∧ idleFlit.fseq = (s.link 3).rx ∧
      dataFlit.fseq = ((s.link 3).rx + 1) % 2 ^ 12 ∧ dataFlit.map = 0 ∧ (s.link 3).queue = [] ∧ s.ownMod ≠ 0xFFF) ∧
    (let s := (linked State.pUp).updLink 3 (fun x => { x with held := [dataFlit] })
     (s.link 3).held ≠ [] ∧ State.carries (s.linkState 3) 4 = true ∧ (running.link 3).held = []) := by
  decide

theorem witness_NeighboursAreCheckedAndCounted :
    (let s := linked State.pIdent
     s.portState 3 = State.pIdent ∧ s.ownBert = none ∧ (leBytes 16 1).headD 0 = 1 ∧ s.expectBroken 3 = false ∧
      ((s.updLink 3 (fun x => { x with ident := true })).link (s.portLink 3)).ident = true ∧ (s.link 3).spare = none ∧
      s.fb Fld.ATY_FAB_STATUS_ISOLATED = false ∧ s.fd (Fld.ATY_FAR_IDENT_MOD 3) ≠ s.ownMod ∧
      ((s.fw (Fld.ATY_FAR_IDENT_MOD 3) 5).fd (Fld.ATY_FAR_IDENT_MOD 3)) = s.ownMod) ∧
    (let s := linked State.pBert
     s.portState 3 = State.pBert ∧ bit (ofLE (leBytes 16 (2 ^ 64 + 5))) 64 = true ∧ bit (ofLE (leBytes 16 5)) 64 = false) ∧
    (let s := linked State.pUp
     let m := (⟨true, 3, 9, 2, 77, 1⟩ : ClaimMsg).bytes
     s.linkState 3 = State.pUp ∧ (m.headD 0).toNat = 2 ∧ (claimOf m).serial ≠ s.ownSerial ∧ s.fab.best = none ∧ (claimOf m).incumbent = true ∧
      s.fab.waiting = [] ∧ ((⟨77, 9, 1, 1, 1, 0⟩ : PresMsg).bytes.headD 0).toNat = 3 ∧ s.elect ≠ State.eMaster ∧
      ((dupBytes 5 s.ownSerial).headD 0).toNat = 4 ∧ bits (ofLE (dupBytes 5 s.ownSerial)) 16 16 % 4096 = s.ownMod ∧
      bits (ofLE (dupBytes 5 s.ownSerial)) 64 64 = s.ownSerial ∧ bits (ofLE (dupBytes 6 1)) 16 16 % 4096 ≠ s.ownMod) ∧
    ((cascaded.fw Fld.ATY_FAB_STATUS_ELECT State.eClaiming).elect = State.eClaiming ∧
      (cascaded.fw Fld.ATY_FAB_STATUS_ELECT State.eMaster).elect = State.eMaster ∧ cascaded.elect ≠ State.eMaster ∧ cascaded.ownMod ≠ 0xFFF) := by
  decide

theorem witness_PortsChangeState :
    (∀ st ∈ [State.pTrain, State.pIdent, State.pDown, State.pRetrain, State.pBert], (linked st).portState 3 = st ∧ (linked st).portLink 3 = 3) ∧
    ((linked State.pTrain).link 3 = Link.start ∧ Link.start.loop = false ∧ Link.start.off = false ∧ Link.start.spare = none ∧
      (linked State.pTrain).ownBert = none ∧ (linked State.pDown).inReset = false) ∧
    (((linked State.pTrain).updLink 3 (fun x => { x with loop := true, draining := true })).link 3).loop = true ∧
    (let s := { linked State.pBert with fab := { (linked State.pBert).fab with bert := [⟨3, true, 0, true⟩] } }
     ∃ b, s.ownBert = some b ∧ b.link = 3 ∧ b.going = true ∧ s.ras.queue = []) :=
  ⟨by decide, by decide, by decide, ⟨_, rfl, by decide⟩⟩

theorem witness_FabricCommandsRun :
    (let p := xcmd 0x0400 [(16, 4094), (20, 0x1F)]
     allStart running [(0x0400, p)] ∧ (fabCfgOf p).1 ≤ 4094 ∧ running.ownMod = 0xFFF ∧ (∀ l, l < 16 → running.portOf l < 18) ∧
      (∀ k, k < 18 → running.portState k ∉ [State.pUp, State.pMiswired, State.pIsolated]) ∧ running.elect = State.eNone ∧
      running.fb Fld.ATY_FAB_STATUS_ELIGIBLE = false) ∧
    (let p := xcmd 0x0401 [(16, 0), (18, 4095), (24, 0)]
     let q : Packet := cmd 0x0401 [(16, 0), (18, 6)]
     allStart cascaded [(0x0401, p), (0x0401, q)] ∧ p.u16 16 + p.u16 18 ≤ 4095 ∧ q.expert = false ∧ q.u8 63 = 1 ∧ q.u16 16 ≤ cascaded.ownMod ∧
      cascaded.ownMod < q.u16 16 + q.u16 18 ∧ cascaded.fab.waiting = []) ∧
    (allStart (linked State.pUp) [(0x0402, xcmd 0x0402 [(16, 3), (17, 0)]), (0x0402, xcmd 0x0402 [(16, 3), (17, 1)])] ∧
      allStart (linked State.pDown) [(0x0402, xcmd 0x0402 [(16, 3), (17, 2)]), (0x0403, xcmd 0x0403 [(16, 3), (17, 2), (20, 600000)])] ∧
      (linked State.pDown).portRetired 3 = false ∧ (linked State.pDown).maintRefused State.bertAct = none ∧
      (linked State.pDown).linkState 3 = State.pDown) ∧
    (let p := xcmd 0x0404 [(16, 0x1000), (24, 4095)]
     let s := linked State.pUp
     allStart s [(0x0404, p)] ∧ p.u16 24 ≤ 4095 ∧ s.fd Fld.ATY_FAB_STATUS_MASTER_MOD ≠ 0xFFF ∧ s.ownMod ≠ 0xFFF) ∧
    (let p := xcmd 0x0405 [(16, 4094)]
     allStart cascaded [(0x0405, p)] ∧ allStart running [(0x0405, p)] ∧
      (cascaded.fw Fld.ATY_FAB_STATUS_ADMIT 1).fd Fld.ATY_FAB_STATUS_ADMIT = 1) :=
  ⟨⟨allStart_of (by decide), by decide⟩, ⟨allStart_of (by decide), by decide⟩, ⟨allStart_of (by decide), allStart_of (by decide), by decide⟩,
    ⟨allStart_of (by decide), by decide⟩, ⟨allStart_of (by decide), allStart_of (by decide), by decide⟩⟩

/-! ## Witnesses: serving, the Rim lane and the plant port -/

/-- The units that CAP_UNITS names as present. -/
def capable : State :=
  [Fld.CAP_UNITS_RIM, Fld.CAP_UNITS_PLANT, Fld.CAP_UNITS_MACSEC, Fld.CAP_UNITS_FITCH].foldl (fun s f => s.fw f 1) tenanted

/-- A plan of two layers, and a request of ring 64 with one prompt token that waits for admission. -/
def planS : SrvPlan := ⟨0, false, 1000, 2, 2, 64, 4096, 0, 8, 0, 128, 16, 128, 1000000, 1000, 0, 0, 0, 0⟩
def submitP : Packet := cmd 0x0500 [(16, 0x1000), (24, 1), (28, 1), (34, 0xFFFF)]
def oldSubmitP : Packet := ⟨0x0510, 0, 1, 0, BitVec.ofNat 384 (0x1000 + 2 ^ 64 + 2 ^ 96 + 0x3F800000 * 2 ^ 160)⟩

/-- The serving engine RUNNING with pages for one sequence. -/
def serving : State :=
  let s := tenanted.fw Fld.SRV_STATUS_STATE 1
  let c : Crl := { s.crl with homes := [0], free := [(hbmKey 0 0, false), (hbmKey 0 65536, false)] }
  { s with srv := { Srv.stopped with plan := some planS, seqCount := 8 }, crl := c }

/-- The same with a queued request, seven of ring 64. -/
def queued : State := { serving with srv := { serving.srv with reqs := [serving.submitReq 64 (jobOn (.ring 64) { submitP with seq := 7 })] } }

theorem witness_ServingRequestsRun :
    (Starts (onRing serving 64 submitP) true (.ring 64) submitP (jobOn (.ring 64) submitP) (onRing serving 64 submitP) ∧ submitP.base = 0x0500 ∧
      State.isServing 64 = true ∧ (onRing serving 64 submitP).submitCheck 64 submitP = none ∧
      ((onRing tenanted 64 submitP).submitCheck 64 submitP).isSome = true) ∧
    (let s := serving.fw (Fld.SRV_RING_CFG_COMPAT 0) 1
     Starts (onRing s 64 oldSubmitP) true (.ring 64) oldSubmitP (jobOn (.ring 64) oldSubmitP) (onRing s 64 oldSubmitP) ∧ oldSubmitP.base = 0x0510 ∧
      (onRing s 64 oldSubmitP).submitCheck 64 oldSubmitP = none) ∧
    (let c := xcmd 0x0501 [(16, 7), (20, 64)]
     let e := xcmd 0x0502 [(16, 7), (20, 64), (24, 1)]
     let q := xcmd 0x0503 [(16, 7), (20, 64), (24, ownAddr (tileKey 2 0))]
     allStart queued [(0x0501, c), (0x0502, e), (0x0503, q)] ∧ allStart serving [(0x0501, c)] ∧ (queued.srvReq 64 7).isSome = true ∧
      serving.srvReq 64 7 = none ∧ queued.srv.plan = some planS ∧ (∃ r, queued.srvReq 64 7 = some r ∧ r.seq = none ∧ r.len + 1 ≤ planS.maxTok) ∧
      (∃ r, queued.srvMetricsOf 64 7 = some r) ∧ queued.runCheck State.mccUnit (ownAddr (tileKey 2 0)) 64 opStore = none) :=
  ⟨⟨starts_ring (by decide) (by decide) true, by decide⟩, ⟨starts_ring (by decide) (by decide) true, by decide⟩,
    ⟨allStart_of (by decide), allStart_of (by decide), by decide, by decide, rfl, ⟨_, rfl, by decide⟩, ⟨_, rfl⟩, by decide⟩⟩

theorem witness_ServingEngineRuns :
    (allStart serving [(0x0520, xcmd 0x0520), (0x0521, xcmd 0x0521 [(16, 1)])] ∧ serving.srvState = 1 ∧ serving.srv.reqs = [] ∧ serving.crl.seqs = [] ∧
      (∃ r ∈ queued.srv.reqs, r.st ≠ 4) ∧ tenanted.srvState ≠ 1) ∧
    (let p := xcmd 0x0522 [(16, 127), (24, 65536)]
     let s := tenanted.fw (Fld.HIF_RING_STATE_STATE 127) State.idle
     allStart s [(0x0522, p)] ∧ State.isServing 127 = true ∧ s.srvLive 127 = false ∧ s.ringState 127 = State.idle ∧ tenanted.ringState 127 ≠ State.idle) ∧
    (allStart tenanted [(0x0523, xcmd 0x0523 [(17, 7), (18, 16), (28, 4096)]), (0x0524, xcmd 0x0524 [(16, 15), (20, 0x3F800000), (24, 262144)])] ∧
      (readElem 1 0x3F800000).isNan = false ∧ (readElem 1 0x3F800000).lt .zero = false ∧ readElem 1 0x3F800000 ≠ .inf false) ∧
    (allStart capable [(0x0525, xcmd 0x0525 [(16, 63)]), (0x0526, xcmd 0x0526 [(16, 63)])] ∧ capable.fb Fld.CAP_UNITS_FITCH = true ∧
      Cells.find 63 capable.srv.fitches = none) :=
  ⟨⟨allStart_of (by decide), by decide, rfl, rfl, ⟨_, List.mem_cons_self, by decide⟩, by decide⟩, ⟨allStart_of (by decide), by decide⟩,
    ⟨allStart_of (by decide), by decide⟩, ⟨allStart_of (by decide), by decide⟩⟩

theorem witness_ServingStepsStayInBudget :
    planS.t0 ≤ planS.budget ∧ serving.srv.plan = some planS ∧ serving.srvWorks = true ∧ serving.srv.step = none ∧ serving.srv.reqs = [] ∧
      serving.srv.cancels = [] ∧ serving.srv.stop = none ∧ serving.srv.paused = [] ∧ serving.srv.acctNext = [] ∧
      (let s := { queued with srv := { queued.srv with step := some ⟨0, []⟩ } }
       s.srv.step = some ⟨0, []⟩ ∧ (∀ r ∈ s.srv.reqs, r.account < 256 ∧ 64 ≤ r.ring ∧ r.ring < 128)) ∧
      (let s := { queued with srv := { queued.srv with rings := [(64, 128, 1)] } }
       (∃ r, s.srvReq 64 7 = some r ∧ r.st = 0 ∧ r.seq = none ∧ s.now < r.fetchNs + (s.srvRing 64).2 * 10 ^ 6) ∧ (s.srvRing 64).2 ≠ 0) := by
  refine ⟨by decide, rfl, by decide, rfl, rfl, rfl, rfl, rfl, rfl, ⟨rfl, by decide⟩, ⟨_, rfl, by decide⟩, by decide⟩

/-- Tiles 18 and 19 on East sites, for the lane. -/
def east : State := (capable.wr (Reg.RAS_TILE_MAP 0) 0x13120100).wr Reg.RAS_SITE_ACTIVE 0xC0003
/-- The lane ACTIVE with a schedule of one entry. -/
def streamS : RimStream := ⟨1, 2, 3, 1, 1000, 0, 0, 0, [], [], 0, 4, 4, 0, 0, 0, 1, [], []⟩
def scheduleS : RimSched := ⟨1000, 100000, [⟨0, 10, 20000, 63, 1⟩]⟩
def laned (st : Nat) : State :=
  let s := (east.fw Fld.RIM_STATUS_STATE st).wr Reg.CLK_TIME_NS 1000
  { s with rim := { Rim.off with streams := [(63, streamS)], sched := some scheduleS } }

theorem witness_RimCommandsRun :
    (let p := xcmd 0x0600 [(16, 2), (17, 3)]
     allStart east [(0x0600, p)] ∧ east.rimAbsent = false ∧ east.tileOn 2 = true ∧ east.tileOn 3 = true ∧ east.tenantOpen = true ∧ east.lane = 0 ∧
      18 ≤ east.siteOf 2 ∧ 18 ≤ east.siteOf 3 ∧ east.ringState 2 = State.closed ∧ east.ringState 3 = State.closed) ∧
    (allStart (laned 2) [(0x0601, xcmd 0x0601), (0x0602, xcmd 0x0602 [(16, 62)]), (0x0603, xcmd 0x0603 [(16, 62)]), (0x0605, xcmd 0x0605 [(16, 63)])] ∧
      (laned 2).lane ≠ 0 ∧ (laned 2).slotUsed 62 = false ∧ ((laned 2).rimStream 63).isSome = true ∧ (laned 2).rim.sched = some scheduleS ∧
      scheduleS.entries.any (fun e => e.slot == 63) = true) ∧
    (let p : Packet := { xcmd 0x0604 [(16, ownAddr (tileKey 2 0)), (24, 1), (28, 100000)] with execTime := 5000 }
     let s := onMcc ({ laned 1 with rim := Rim.off }) p
     Starts s false .mcc p (jobOn .mcc p) s ∧ s.commitCheck p = none) :=
  ⟨⟨allStart_of (by decide), by decide⟩, ⟨allStart_of (by decide), by decide⟩,
    ⟨⟨rfl, rfl, rfl, by decide, by decide, by decide, nofun⟩, by decide⟩⟩

/-- A result of slot 63 that is due at 5,000 ns, in flight. -/
def runS (staged : Option (Bool × List Byte)) : RimRun := ⟨63, 1000, 1010, 5000, 1, 1, 0, false, false, 0, 0, 0, staged, false⟩
def flying (now : Nat) (staged : Option (Bool × List Byte)) : State :=
  let s := (laned 2).wr Reg.CLK_TIME_NS now
  { s with rim := { s.rim with runs := [runS staged] } }

theorem witness_RimInstantsHappenInTime :
    (let s := { laned 1 with rim := { Rim.off with commit := some scheduleS } }
     s.rim.commit = some scheduleS ∧ scheduleS.act ≤ s.now ∧ s.lane = 1 ∧ scheduleS.frame < 2 ^ 32 ∧ (s.wr Reg.CLK_TIME_NS 999).now < scheduleS.act) ∧
    ((∃ tc e, (laned 2).nextCapture = some (tc, e) ∧ tc ≤ (laned 2).now ∧ (laned 2).rimStream e.slot = some streamS) ∧ (laned 2).lane = 2 ∧
      (laned 2).rim.commit = none) ∧
    ((flying 1010 none).rim.runs.find? (fun r => State.progOf r 0 == 0) = some (runS none) ∧ (runS none).cmp ≤ (flying 1010 none).now ∧
      (flying 1009 none).now < (runS none).cmp ∧ (flying 1010 none).seqFree ((flying 1010 none).rimTile 0) = true ∧
      (flying 1010 none).rim.runs.any (fun r => State.progOf r 0 == 1) = false) ∧
    ((flying 5000 none).rim.runs.find? (fun r => r.staged.isNone) = some (runS none) ∧ (flying 5000 none).svcsOn = [] ∧
      (runS none).tr ≤ (flying 5000 none).now + rimStage ∧ State.progOf (runS none) 0 ≠ 2 ∧
      (flying 5000 none).fd (Fld.RIM_STR_STATUS_CONSEC_MISS 63) + 1 < streamS.missLimit) ∧
    (let s := (flying 5000 (some (false, [1, 2, 3, 4]))).updRt 63 (fun x => { x with tested := true })
     s.rim.runs.find? (fun r => !r.out) = some (runS (some (false, [1, 2, 3, 4]))) ∧ (runS (some (false, []))).tr ≤ s.now ∧ s.lane = 2 ∧
      s.strState 63 ≠ 3 ∧ (s.rimRt 63).tested = true) ∧
    (let s := { laned 3 with rim := { (laned 3).rim with resumeAt := 1000 } }
     s.lane = 3 ∧ s.rim.holds = [] ∧ s.rim.resumeAt ≤ s.now ∧ (s.now - scheduleS.act) % scheduleS.frame = 0) :=
  ⟨by decide, ⟨⟨_, _, rfl, by decide⟩, by decide⟩, by decide, by decide, by decide, by decide⟩

theorem witness_PlantPortWorks :
    (allStart capable [(0x0611, cmd 0x0611 [(16, 1)]), (0x0612, xcmd 0x0612 [(16, 1), (17, 0x80), (24, 4095), (26, 1522)]),
        (0x0620, xcmd 0x0620 [(16, 1), (17, 4), (18, 3), (19, 1), (36, ownAddr (tileKey 2 0))])] ∧ capable.fb Fld.CAP_UNITS_PLANT = true ∧
      capable.fb Fld.CAP_UNITS_MACSEC = true ∧ (xcmd 0x0620).opcode.toNat = 0x06A0 ∧ capable.sec.lastI3c = none ∧ capable.rim.sched = none) ∧
    (let h : RimHead := ⟨0, 255, 0, 0, 1, 0, 0, 1⟩
     RimHead.ofBytes (rimPayload h [1, 2]) = some (h, 1, true, [1, 2])) ∧
    (let s := capable.setPlt 1 { capable.pltPort 1 with gateNext := some ⟨1, 100, []⟩ }
     (s.pltPort 1).gateNext = some ⟨1, 100, []⟩ ∧ s.now < 1) ∧
    (let s := (capable.fw Fld.PLT_STATUS_LINK_UP 2).fw (Fld.PLT_PORT_CTL_EN 1) 1
     bit (s.fd Fld.PLT_STATUS_LINK_UP) 1 = true ∧ (s.asMeter 1).2 = true ∧ s.pltUp 1 = true ∧ s.classSixMay 1 = true ∧
      (running.pltPolice 0 []).2 = none ∧ running.pins.listenOnly = false) :=
  ⟨⟨allStart_of (by decide), by decide⟩, by decide, by decide, by decide⟩

/-! ## Witnesses: Pairing and the video engine -/

/-- A message of the Pairing link. -/
def pairMsgOf (v : Nat) : List Byte := leBytes 28 v ++ leBytes 4 (crc32c (leBytes 28 v))

/-- A pair with its link up; the module is 5, its partner 6, its lane ACTIVE. -/
def unpaired : State := ((laned 2).fw Fld.CAP_UNITS_PAIR 1).fw Fld.PAIR_STATUS_LINK_UP 1
def paired : State := [(Fld.PAIR_STATUS_CONFIGURED, 1), (Fld.PAIR_CFG_PAIR_ID, 7), (Fld.PAIR_CFG_PARTNER_MOD, 6), (Fld.PAIR_CFG_BEACON_US, 100)].foldl
  (fun s f => s.fw f.1 f.2) unpaired

/-- Service 63 with a role, a comparison state and hidden state; no stream has its identifier. -/
def serviced (role cmp : Nat) (x : PairSvc) : State :=
  [(Fld.PAIR_SVC_STATUS_ID 63, 200), (Fld.PAIR_SVC_STATUS_ROLE 63, role), (Fld.PAIR_SVC_STATUS_CMP 63, cmp)].foldl (fun s f => s.fw f.1 f.2) (paired.setSvc 63 x)

theorem witness_PairingMessagesActOrCount_link :
    State.pairValid (leBytes 32 1) = false ∧
    (let m := pairMsgOf (1 + 7 * 2 ^ 16 + 1 * 2 ^ 32 + 6 * 2 ^ 48 + 99 * 2 ^ 64)
     let n := pairMsgOf (1 + 7 * 2 ^ 16 + 6 * 2 ^ 48 + 99 * 2 ^ 64)
     State.pairValid m = true ∧ fieldOf m 0 1 = 1 ∧ fieldOf m 0 1 ≠ 2 ∧ fieldOf m 2 2 = paired.fd Fld.PAIR_CFG_PAIR_ID ∧
      fieldOf m 6 2 = paired.fd Fld.PAIR_CFG_PARTNER_MOD ∧ fieldOf m 4 1 ≠ paired.pairPos ∧ State.pairValid n = true ∧
      fieldOf n 2 2 = paired.fd Fld.PAIR_CFG_PAIR_ID ∧ fieldOf n 6 2 = paired.fd Fld.PAIR_CFG_PARTNER_MOD ∧
      fieldOf n 4 1 = paired.pairPos ∧ paired.fb Fld.PAIR_STATUS_CONFIGURED = true ∧ paired.fb Fld.PAIR_STATUS_POS_CONFLICT = false) ∧
    (State.pairValid (pairMsgOf (2 + 2 ^ 64)) = true ∧ fieldOf (pairMsgOf (2 + 2 ^ 64)) 0 1 = 2) ∧
    (let m := pairMsgOf (7 + 2 ^ 95)
     let s := serviced 2 0 .start
     State.pairValid m = true ∧ fieldOf m 0 1 = 7 ∧ s.fb Fld.PAIR_STATUS_CONFIGURED = true ∧ bit (fieldOf m 4 8) 63 = true ∧
      s.mayTake 63 = true ∧ max (s.claim 63 / 2) (s.peerClaim 63 / 2) < 0x7FFFFFFF) := by
  decide

theorem witness_PairingMessagesActOrCount_service :
    (let m := pairMsgOf (3 + 63 * 2 ^ 8 + 4 * 2 ^ 64 + 77 * 2 ^ 128)
     let s := serviced 3 0 { PairSvc.start with own := [(4, 77, false)], peerRole := 2 }
     State.pairValid m = true ∧ fieldOf m 0 1 = 3 ∧ fieldOf m 1 1 = 63 ∧ s.svcOn 63 = true ∧ s.svcStep 63 = false ∧ s.svcRole 63 = 3 ∧
      (s.svc 63).peerRole = 2 ∧ s.svcCmp 63 = 0 ∧ (s.svc 63).own = [(4, 77, false)] ∧ (s.svc 63).peer = [] ∧ fieldOf m 8 8 = 4 ∧
      bit (fieldOf m 2 1) 0 = false ∧ fieldOf m 16 8 = 77 ∧ fieldOf m 16 8 ≠ 78) ∧
    (let m := pairMsgOf (4 + 63 * 2 ^ 8 + 9 * 2 ^ 32)
     let s := serviced 3 0 .start
     State.pairValid m = true ∧ fieldOf m 0 1 = 4 ∧ fieldOf m 1 1 = 63 ∧ s.svcOn 63 = true ∧ s.svcRole 63 = 3 ∧
      bit (fieldOf m 2 1) 0 = false ∧ s.peerClaim 63 < fieldOf m 4 4 ∧ s.claim 63 < fieldOf m 4 4 ∧
      fieldOf m 4 4 ≤ (s.wr (Reg.PAIR_SVC_CLAIM 63) 9).claim 63 ∧ fieldOf m 4 4 ≤ (s.wr (Reg.PAIR_SVC_PEER_CLAIM 63) 9).peerClaim 63) ∧
    (let m := pairMsgOf (5 + 63 * 2 ^ 8 + 12 * 2 ^ 64)
     let s := serviced 3 0 { PairSvc.start with swap := some (12, none) }
     State.pairValid m = true ∧ fieldOf m 0 1 = 5 ∧ fieldOf m 1 1 = 63 ∧ s.svcOn 63 = true ∧ (s.svc 63).swap = some (fieldOf m 8 8, none)) ∧
    (let m := pairMsgOf (6 + 63 * 2 ^ 8 + 2 ^ 16)
     let s := serviced 2 2 { PairSvc.start with waiting := true, verdict := some true }
     State.pairValid m = true ∧ fieldOf m 0 1 = 6 ∧ fieldOf m 1 1 = 63 ∧ s.svcOn 63 = true ∧ (s.svc 63).waiting = true ∧
      (s.svc 63).verdict = some true ∧ bit (fieldOf m 2 1) 0 = true) := by
  decide

theorem witness_PairingTimersAct :
    (paired.pairAbsent = false ∧ paired.fb Fld.PAIR_STATUS_LINK_UP = true ∧ (capable.fw Fld.CAP_UNITS_PAIR 1).fb Fld.PAIR_STATUS_LINK_UP = false ∧
      paired.mcc.cur = none ∧ paired.fb Fld.PAIR_STATUS_CONFIGURED = true ∧ 63 ∈ (serviced 2 0 .start).svcsOn ∧
      paired.now < paired.pair.lastLink + 9000 ∧ (paired.wr Reg.CLK_TIME_NS 2000000).pair.lastLink + 2000000 ≤ 2000000 ∧
      (paired.wr Reg.CLK_TIME_NS 2000000).now = 2000000 ∧ paired.pair.lastFab + 2000000 ≤ (paired.wr Reg.CLK_TIME_NS 2000000).now) ∧
    (let s := (((linked State.pUp).wr (Reg.ATY_ROUTE 6) 8).fw Fld.PAIR_STATUS_CONFIGURED 1).fw Fld.PAIR_CFG_PARTNER_MOD 6
     let q := Req.make (s.fd Fld.PAIR_CFG_PARTNER_MOD * 2 ^ 52 + 5 * 2 ^ 48 + 0x080) s.srcMod 0x35 8 opLoad none []
     s.fb Fld.PAIR_STATUS_CONFIGURED = true ∧ (s.issueCheck q).isSome = false) ∧
    (let s := { paired with pair := { paired.pair with peerGen := some 3 } }
     let v := 3 + 2 ^ 31 + 8 * 2 ^ 32
     bit v 31 = true ∧ s.pair.peerBeat < bits v 32 32 ∧ s.pair.peerGen = some (bits v 0 16) ∧ Sts.timeout ≠ Sts.ok) ∧
    ((∃ t, paired.nextBeacon = some t ∧ t ≤ paired.now) ∧
      (∃ t, { paired with pair := { paired.pair with beacons := 1 } }.nextBeacon = some t ∧ paired.now < t)) ∧
    (let s := (capable.fw Fld.PLT_STATUS_LINK_UP 2).fw (Fld.PLT_PORT_CTL_EN 1) 1
     let s := s.setPlt 1 { s.pltPort 1 with filters := [(127, ⟨true, 0, 0, 1522, 0, 64, 64 * 8 * 10 ^ 6, 0⟩)] }
     ∃ w, s.pltPolice 1 (List.replicate 60 0) = (w, some (List.replicate 60 0))) ∧
    (let s := (((serviced 3 0 .start).fw (Fld.PAIR_SVC_STATUS_ID 63) 2).fw (Fld.RIM_STR_STATUS_SSTATE 63) 2)
     let s := { s with rim := { s.rim with runs := [runS none] } }
     s.svcOn 63 = true ∧ s.svcStep 63 = false ∧ s.svcSlot 63 = some 63 ∧
      s.rim.runs.find? (fun r => r.slot == 63 && r.k == (runS none).k) = some (runS none) ∧ s.now + 40 < (runS none).tr ∧
      (runS none).tr ≤ (s.wr Reg.CLK_TIME_NS 4960).now + 40) ∧
    (let s := serviced 2 2 { PairSvc.start with waiting := true }
     s.svcOn 63 = true ∧ (s.svc 63).waiting = true ∧ (s.svc 63).peerVerdict = none ∧ s.svcSlot 63 = none ∧ (s.svc 63).since ≤ s.now ∧
      ((serviced 2 2 .start).svc 63).waiting = false ∧ s.svcStep 63 = false) ∧
    (let s := (serviced 3 0 .start).fbw (Fld.PAIR_SVC_STATUS_TYPE 63) true
     s.svcRole 63 ≠ 0 ∧ s.svcStep 63 = true) := by
  refine ⟨by decide, by decide, by decide, ⟨⟨_, rfl, by decide⟩, ⟨_, rfl, by decide⟩⟩, ⟨_, rfl⟩, by decide, by decide, by decide⟩

theorem witness_PairingCommandsRun :
    (let p := xcmd 0x0700 [(16, 7), (18, 4094), (20, 1000), (24, 10)]
     allStart unpaired [(0x0700, p)] ∧ allStart paired [(0x0700, p)] ∧ unpaired.pairAbsent = false ∧ p.expert = true ∧ p.u16 16 ≠ 0 ∧
      p.u16 18 ≤ 4094 ∧ 10 ≤ p.u16 20 ∧ p.u16 20 ≤ 1000 ∧ p.u32 24 % 10 = 0 ∧ p.u32 24 / 10 < 2 ^ 24 ∧
      unpaired.fb Fld.PAIR_STATUS_CONFIGURED = false ∧ paired.fb Fld.PAIR_STATUS_CONFIGURED = true) ∧
    (let p := xcmd 0x0701 [(16, 63), (17, 1)]
     allStart paired [(0x0701, p)] ∧ p.u8 16 ≤ 63 ∧ p.u8 17 = 1 ∧ paired.svcRole 63 = 0 ∧ paired.pair.conds = [] ∧ (serviced 3 0 .start).svcRole 63 ≠ 0 ∧
      (laned 1).lane ≠ 2) ∧
    (allStart (serviced 2 0 .start) [(0x0702, xcmd 0x0702 [(16, 63)]), (0x0704, xcmd 0x0704 [(16, 63)])] ∧ (serviced 2 0 .start).svcRole 63 ≠ 3 ∧
      (serviced 2 0 .start).svcCmp 63 ≠ 3) ∧
    (let s := serviced 3 0 { PairSvc.start with peerRole := 2 }
     allStart s [(0x0702, xcmd 0x0702 [(16, 63)]), (0x0703, xcmd 0x0703 [(16, 63)])] ∧ s.svcRole 63 = 3 ∧ (s.svc 63).give = none ∧
      (s.svc 63).swap = none ∧ s.swapOk 63 2 = true) ∧
    (let s := serviced 2 3 .start
     allStart s [(0x0703, xcmd 0x0703 [(16, 63)]), (0x0704, xcmd 0x0704 [(16, 63)])] ∧ s.svcRole 63 ≠ 0 ∧ s.svcRole 63 ≠ 3 ∧ s.svcCmp 63 = 3) :=
  ⟨⟨allStart_of (by decide), allStart_of (by decide), by decide⟩, ⟨allStart_of (by decide), by decide⟩, ⟨allStart_of (by decide), by decide⟩,
    ⟨allStart_of (by decide), by decide⟩, ⟨allStart_of (by decide), by decide⟩⟩

/-- The video engine with its first core. -/
def screened : State := ((tenanted.fw Fld.CAP_UNITS_VIDEO 1).fw Fld.CAP_UNITS_VID_CORES 2).wr Reg.RAS_CORE_STATE (2 ^ 8 + 2 ^ 12)

def vidOpenP : Packet := xcmd 0x0800 [(16, 127), (17, 0), (18, 1), (19, 1), (20, 64), (22, 64), (24, 30), (26, 1), (28, 3), (29, 8), (32, ownAddr (hbmKey 0 0)), (40, 2097152)]
def vidOpened : VidSess := ⟨3, true, false, 1, ownAddr (hbmKey 0 0), 2097152, 64, 64, 30, 1, 8, 0, 0, 0, 0, 0, 0, 4000000000, 0, 0, 0, 0, 0, false, []⟩
def vidDecodeP : Packet := xcmd 0x0810 [(16, 127), (20, 4096), (24, ownAddr (hbmKey 0 0x400000))]
def vidJobS (started : Bool) : VidJob := ⟨{ jobOn (.ring 43) vidDecodeP with begun := true }, 43, 127, true, false, started, [], 1, [], []⟩

/-- The same with decoding session 127, and with its command in progress. -/
def showing : State := { screened.fw (Fld.VID_SESS_STATUS_STATE 127) 1 with vid := { screened.vid with sess := [(127, vidOpened)] } }
def decoding (started : Bool) : State := { showing with vid := { showing.vid with jobs := [vidJobS started] } }

theorem witness_VideoSessionsRun :
    (allStart screened [(0x0800, vidOpenP)] ∧ allStart showing [(0x0800, vidOpenP)] ∧ screened.vidPresent = true ∧ (∃ x, screened.vidSessOf vidOpenP = some x ∧
      State.vidParamBad vidOpenP x = false ∧ (x.codec == 0 && x.depth == 10) = false ∧ screened.poolBad x = false ∧ loadFits x.load 1 = true ∧
      loadFits (loadSum (x :: screened.vidLive)) (screened.fd Fld.CAP_UNITS_VID_CORES) = true) ∧ screened.vid.sess = [] ∧
      (showing.vidSess 127).isSome = true) ∧
    (let p := xcmd 0x0801 [(16, 127), (17, 1)]
     allStart showing [(0x0801, p)] ∧ allStart screened [(0x0801, p)] ∧ showing.vid.jobs = [] ∧ (∀ e ∈ showing.vid.sess, e.1 ≤ 127) ∧
      screened.vidSess 127 = none) ∧
    (let s := onRing showing 43 vidDecodeP
     UnitStarts s (.ring 43) (40 + vidOpened.ring) vidDecodeP (jobOn (.ring 43) vidDecodeP) s ∧ vidDecodeP.base = 0x0810 + b2n false ∧
      s.vidSess (vidDecodeP.u8 16) = some vidOpened ∧ s.vidCheck vidDecodeP false (some (40 + vidOpened.ring)) = none) ∧
    (bit ((decoding true).rd Reg.RAS_CORE_STATE) (8 + 4) = true ∧ (decoding true).islandOn (82 + 4) = true ∧
      (decoding true).vid.jobs = [vidJobS true] ∧ (vidJobS true).started = true ∧ bit ((decoding true).rd Reg.RAS_CORE_STATE) (8 + 1) = false) ∧
    ((decoding true).vid.jobs.find? (fun j => j.sess == 127) = some (vidJobS true) ∧
      (decoding false).vid.jobs.find? (fun j => j.sess == 127) = some (vidJobS false) ∧ (vidJobS false).started = false ∧
      (decoding true).vidSess 127 = some vidOpened ∧ vidOpened.enc = false ∧ bit ((vidJobS true).job.pkt.u8 17) 0 = false ∧
      bit ((vidJobS true).job.pkt.u8 17) 1 = false ∧ showing.vid.jobs.find? (fun j => j.sess == 127) = none) :=
  ⟨⟨allStart_of (by decide), allStart_of (by decide), by decide, ⟨_, rfl, by decide⟩, by decide⟩, ⟨allStart_of (by decide), allStart_of (by decide), by decide⟩,
    ⟨⟨starts_ring (by decide) (by decide) true, Or.inl rfl⟩, by decide⟩, by decide, by decide⟩

/-! ## Witnesses: security -/

/-- Brudo running on a module in FIELD, with random numbers, and in PROD. -/
def secured : State := (running.fw Fld.SEC_STATUS_LC 2).fw Fld.SEC_TRNG_STATUS_DRBG_READY 1
def inProd : State := (running.fw Fld.SEC_STATUS_LC 1).fw Fld.SEC_TRNG_STATUS_DRBG_READY 1
def confOpenP : Packet := xcmd 0x0900 [(16, 9), (24, 5), (28, 1)]
def dirty : State := running.fbw Fld.SEC_STATUS_SCRUB_REQUIRED true

theorem witness_TenantsOpenCloseAndScrub_open :
    (allStart secured [(0x0900, xcmd 0x0900 [(16, 9)]), (0x0901, cmd 0x0901), (0x0902, cmd 0x0902)] ∧ allStart dirty [(0x0900, xcmd 0x0900 [(16, 9)])] ∧
      allStart tenanted [(0x0900, xcmd 0x0900 [(16, 9)])] ∧ allStart running [(0x0900, xcmd 0x0900 [(16, 9)])]) ∧
    (let s := { secured with sec := { secured.sec with sessions := [⟨5, false, true, 1⟩] } }
     allStart s [(0x0900, confOpenP)] ∧ (confOpenP.expert && bit (confOpenP.u8 28) 0) = true ∧
      s.sec.sessions.any (fun x => !x.i3c && x.done && x.id == confOpenP.u32 24) = true) ∧
    ((xcmd 0x0900 [(16, 9)]).expert && bit ((xcmd 0x0900 [(16, 9)]).u8 28) 0) = false ∧ (xcmd 0x0900 [(16, 9)]).u32 24 = 0 ∧
    (secured.fb Fld.SEC_STATUS_SCRUB_REQUIRED = false ∧ secured.fb Fld.SEC_STATUS_SCRUB_ACTIVE = false ∧ secured.tenantOpen = false ∧ secured.lc = 2 ∧
      secured.fb Fld.SEC_STATUS_DEBUG_OPEN = false ∧ secured.drbgReady = true ∧ (secured.fw Fld.SEC_TRNG_STATUS_DRBG_READY 0).drbgReady = false ∧
      dirty.fb Fld.SEC_STATUS_SCRUB_REQUIRED = true ∧ dirty.tenantOpen = false ∧ tenanted.tenantOpen = true ∧
      tenanted.fb Fld.SEC_STATUS_SCRUB_REQUIRED = false ∧ running.lc = 0) :=
  ⟨⟨allStart_of (by decide), allStart_of (by decide), allStart_of (by decide), allStart_of (by decide)⟩, ⟨allStart_of (by decide), by decide⟩,
    by decide, by decide, by decide⟩

theorem witness_TenantsOpenCloseAndScrub_close :
    (let s := onMcc tenanted (cmd 0x0901)
     Starts s true .mcc (cmd 0x0901) (jobOn .mcc (cmd 0x0901)) s ∧ s.tenantOpen = true ∧ s.srvWorks = false ∧ s.resetting = false ∧ s.lane = 0 ∧
      s.vid.sess = [] ∧ s.ras.queue = [] ∧ (∀ n, n < 128 → s.ringState n = State.closed ∧ (s.engOf n).cur = none ∧ (s.tile n).sb = []) ∧ s.ras.holders = []) ∧
    (allStart dirty [(0x0902, cmd 0x0902)] ∧ allStart (dirty.fbw Fld.SEC_STATUS_SCRUB_WAIT_TOKEN true) [(0x0902, cmd 0x0902)] ∧
      (dirty.fbw Fld.SEC_STATUS_SCRUB_WAIT_TOKEN true).fb Fld.SEC_STATUS_SCRUB_WAIT_TOKEN = true ∧
      dirty.fb Fld.SEC_STATUS_SCRUB_WAIT_TOKEN = false ∧ dirty.ras.queue = [] ∧ dirty.ras.holders = [] ∧
      { dirty with ras := { dirty.ras with holders := [⟨State.actBert, 3, 0⟩] } }.ras.holders ≠ []) ∧
    (let s := { dirty.fbw Fld.SEC_STATUS_SCRUB_ACTIVE true with sec := { dirty.sec with grants := [hbmKey 7 0] } }
     s.fb Fld.SEC_STATUS_SCRUB_ACTIVE = true ∧ s.ras.queue = [] ∧ (∀ k ∈ s.sec.grants, offOf k / 2 ^ 36 < 8) ∧ s.stackOk 7 = true ∧ s.allocEnd 7 ≠ 0) :=
  ⟨⟨starts_mcc (by decide) true, by decide, by decide, by decide, by decide, rfl, rfl, by decide, rfl⟩, ⟨allStart_of (by decide), allStart_of (by decide), by decide⟩, by decide⟩

theorem witness_TenantScrubReplies :
    allStart running [(0x0902, cmd 0x0902)] ∧ running.fb Fld.SEC_STATUS_SCRUB_REQUIRED = false ∧ running.tenantOpen = false ∧
    (let s := tenanted.fbw Fld.SEC_STATUS_SCRUB_REQUIRED true
     allStart s [(0x0902, cmd 0x0902)] ∧ s.fb Fld.SEC_STATUS_SCRUB_REQUIRED = true ∧ s.tenantOpen = true) ∧
    (let s := dirty.fbw Fld.SEC_STATUS_SCRUB_ACTIVE true
     allStart s [(0x0902, cmd 0x0902)] ∧ s.fb Fld.SEC_STATUS_SCRUB_REQUIRED = true ∧ s.tenantOpen = false ∧ s.fb Fld.SEC_STATUS_SCRUB_ACTIVE = true) ∧
    (allStart dirty [(0x0902, cmd 0x0902)] ∧ dirty.fb Fld.SEC_STATUS_SCRUB_ACTIVE = false ∧ dirty.fb Fld.SEC_STATUS_SCRUB_WAIT_TOKEN = false) :=
  ⟨allStart_of (by decide), by decide, by decide, ⟨allStart_of (by decide), by decide⟩, ⟨allStart_of (by decide), by decide⟩, ⟨allStart_of (by decide), by decide⟩⟩

/-- Bytes that follow the MCC's packet. -/
def withExtra (s : State) (l : List Byte) : State := { s with mcc := { s.mcc with extra := l } }
/-- A token of a type, all its other bytes 0. -/
def tokenOf (ty : Nat) : List Byte := BitVec.ofNat 8 ty :: List.replicate 119 0

theorem witness_SecurityCommandsRun :
    (allStart secured [(0x0904, cmd 0x0904)] ∧ secured.drbgReady = true ∧ running.drbgReady = false) ∧
    (∀ s ∈ [withExtra secured (tokenOf 1), withExtra inProd (tokenOf 1), withExtra (tenanted.fw Fld.SEC_STATUS_LC 1) (tokenOf 1)],
      allStart s [(0x0905, cmd 0x0905)] ∧ s.mcc.extra.length = 120 ∧ fieldOf s.mcc.extra 0 1 = 1) ∧
    (secured.lc = 2 ∧ inProd.lc = 1 ∧ inProd.tenantOpen = false ∧ inProd.fb Fld.SEC_STATUS_SCRUB_REQUIRED = false ∧ tenanted.tenantOpen = true) ∧
    (∀ e ∈ [(2, inProd), (3, secured), (4, inProd), (2, secured), (3, inProd), (4, secured)],
      allStart (withExtra e.2 (tokenOf e.1)) [(0x0906, cmd 0x0906)] ∧ (withExtra e.2 (tokenOf e.1)).mcc.extra.length = 120 ∧
      fieldOf (withExtra e.2 (tokenOf e.1)).mcc.extra 0 1 = e.1 ∧ e.2.tenantOpen = false ∧ e.2.sec.otp.toggles < 16) ∧
    (let s := withExtra secured (List.replicate 97 1)
     allStart s [(0x0907, cmd 0x0907)] ∧ s.mcc.extra.length = 97 ∧ s.sec.otp.owner = 0 ∧
      ({ s.sec.otp with owner := 1 } : Otp).owner ≠ 0) ∧
    (let p := cmd 0x0903 [(16, 0x1000), (24, 4096), (28, 0x2000), (36, 4096)]
     allStart secured [(0x0903, p)] ∧ 4 ≤ p.u32 24 ∧ p.u32 24 ≤ 4096 ∧
      ((onMcc secured p).beginJob true .mcc (jobOn .mcc p)).hostLoad (p.u64 16) 4 =
        ((onMcc secured p).beginJob true .mcc (jobOn .mcc p), some [0, 0, 0, 0]) ∧
      (∃ w r, secured.spdmRun false false [0x10, 0x84, 0, 0] = (w, some r)) ∧ (cmd 0x0903).u32 24 < 4) := by
  refine ⟨⟨allStart_of (by decide), by decide⟩, ?_, by decide, ?_, ⟨allStart_of (by decide), by decide⟩,
    ⟨allStart_of (by decide), by decide, by decide, by decide, ⟨_, _, rfl⟩, by decide⟩⟩
  · intro s hs
    simp only [List.mem_cons, List.not_mem_nil, or_false] at hs
    rcases hs with rfl | rfl | rfl <;> exact ⟨allStart_of (by decide), by decide⟩
  · intro e he
    simp only [List.mem_cons, List.not_mem_nil, or_false] at he
    rcases he with rfl | rfl | rfl | rfl | rfl | rfl <;> exact ⟨allStart_of (by decide), by decide⟩

/-- The connection negotiated, with a finished session. -/
def talking (done : Bool) : State :=
  { secured with sec := { secured.sec with conn := (.start, ⟨3, none⟩), sessions := [⟨0x00050001, true, done, 3⟩] } }
def asksS (code : Nat) : List Byte := [0x13, BitVec.ofNat 8 code, 0, 0]
def inside : List Byte := [1, 0, 5, 0, 0, 0]

theorem asks_plain (code : Nat) (h : code ∈ [0xE1, 0xE3, 0x81, 0x82, 0x83, 0xE0, 0xE4, 0xE5, 0xE8, 0xE9, 0xEC, 0xFF]) :
    SpdmAsks (talking true) code (asksS code) (asksS code) none := by
  simp only [List.mem_cons, List.not_mem_nil, or_false] at h
  rcases h with rfl | rfl | rfl | rfl | rfl | rfl | rfl | rfl | rfl | rfl | rfl | rfl <;>
    exact ⟨by decide, by decide, by decide, by decide, by decide, by decide, by decide⟩

/-- What a session's secret opens is outside the model (assumption 5): its plain request is a premise here. -/
theorem asks_inside (code : Nat) (done : Bool) (h : code ∈ [0xE5, 0xE8, 0xE9, 0xEC]) (ho : Config.spdmOpen 3 inside = some (asksS code)) :
    SpdmAsks (talking done) code inside (asksS code) (some ⟨0x00050001, true, done, 3⟩) := by
  have hp : (talking done).spdmPlain true inside = some (asksS code, some ⟨0x00050001, true, done, 3⟩) := by
    have : (talking done).sec.sessions.find? (fun x => x.i3c == true && x.id == fieldOf inside 0 4) = some ⟨0x00050001, true, done, 3⟩ := by
      cases done <;> decide
    simp only [State.spdmPlain, this, ho, Option.map_some]
  simp only [List.mem_cons, List.not_mem_nil, or_false] at h
  cases done <;> rcases h with rfl | rfl | rfl | rfl <;> exact ⟨by decide, hp, by decide, by decide, by decide, by decide, by decide⟩

theorem witness_SpdmRequestsAreAnswered :
    SpdmAsks secured 0x84 [0x10, 0x84, 0, 0] [0x10, 0x84, 0, 0] none ∧ secured.spdmCode true [0x10, 0x84, 0, 0] ≠ 0xE1 ∧ State.reset.stage = 0 ∧
    (∀ code ∈ [0xE1, 0xE3, 0x81, 0x82, 0x83, 0xE0, 0xE4, 0xE5, 0xE8, 0xE9, 0xEC, 0xFF], SpdmAsks (talking true) code (asksS code) (asksS code) none) ∧
    (∀ code ∈ [0xE5, 0xE8, 0xE9, 0xEC], ∀ done, Config.spdmOpen 3 inside = some (asksS code) →
      SpdmAsks (talking done) code inside (asksS code) (some ⟨0x00050001, true, done, 3⟩)) ∧
    ((talking true).drbgReady = true ∧ fieldOf (asksS 0x82) 2 1 % 16 = 0 ∧ fieldOf [0x13, 0x82, 1, 0] 2 1 % 16 ≠ 0 ∧
      (talking true).fb Fld.SEC_STATUS_COMMIT = false ∧ bit (fieldOf (asksS 0xE0) 2 1) 0 = false ∧ fieldOf (asksS 0xE0) 3 1 = 0 ∧
      11 ∈ (talking true).measureBlocks ∧ (talking true).unmeasured 11 = false ∧ ((talking true).wr Reg.SEC_MEAS_STATE (2 ^ 11)).unmeasured 11 = true ∧
      ((talking true).sec.sessions.filter (fun x => x.i3c)).length < 2) ∧
    (let s := { talking true with sec := { (talking true).sec with conn := (.start, ⟨3, some (9, asksS 0xE0)⟩) } }
     (s.spdmConn true).deferred = some (9, asksS 0xE0) ∧ fieldOf [0x13, 0xFF, 0xE0, 9] 3 1 = 9 ∧ fieldOf [0x13, 0xFF, 0xE0, 9] 2 1 = 0xE0 ∧
      ((talking true).spdmConn true).deferred = none) :=
  ⟨⟨by decide, by decide, by decide, by decide, by decide, by decide, by decide⟩, by decide, by decide, asks_plain,
    fun code h done ho => asks_inside code done h ho, by decide, by decide⟩

theorem witness_EntropyEventsHappen :
    (let s := (secured.fw Fld.SEC_TRNG_STATUS_FAIL_RUN 2)
     min 3 (s.fd Fld.SEC_TRNG_STATUS_FAIL_RUN + 1) = 3 ∧ s.sec.otp.entropyFail = false ∧ s.sec.waiters = []) ∧
    (let s := onMcc ({ secured with sec := { secured.sec with waiters := [⟨0, none⟩] } }) (cmd 0x0904)
     s.sec.waiters = [⟨0, none⟩] ∧ s.mcc.cur = some (jobOn .mcc (cmd 0x0904)) ∧ (jobOn .mcc (cmd 0x0904)).pkt.base = 0x0904 ∧
      s.now < 0 + 10 ^ 6 ∧ (0 + 10 ^ 6 ≤ (s.wr Reg.CLK_TIME_NS (10 ^ 6)).now)) ∧
    ({ secured.sec.otp with entropyFail := true } : Otp).entropyFail = true ∧
    ((secured.fw Fld.SEC_TRNG_STATUS_STARTUP 0).fb Fld.SEC_TRNG_STATUS_STARTUP = false ∧ secured.now < secured.sec.passing + 10 ^ 9 ∧
      (secured.wr Reg.CLK_TIME_NS (10 ^ 9)).sec.passing + 10 ^ 9 ≤ (secured.wr Reg.CLK_TIME_NS (10 ^ 9)).now) := by decide

/-! ## Witnesses: clocks, time and power -/

/-- OSC200 selected, with other sources READY, and a mode (true AUTO). -/
def clocked (src ready : Nat) (auto : Bool) : State :=
  ((running.fw Fld.CLK_STATUS_SRC src).wr Reg.CLK_READY ready).fbw Fld.CLK_STATUS_MODE auto

theorem witness_ClocksChange_sources :
    ((clocked 0 3 true).clkSrc = 0 ∧ (clocked 0 3 true).clk.target = none ∧ (clocked 0 3 true).clkReady 1 = true ∧ (clocked 0 3 true).clkReady 2 = false ∧
      State.offBy 100 2000 1000 (10 ^ 8) (10 ^ 8 + (clocked 0 3 true).oscCal) = true) ∧
    (let s := { clocked 0 0 false with clk := { Clk.start with goodTcxo := 99, counts := List.replicate 99 (1000, 0) } }
     s.fb Fld.CLK_STATUS_MODE = false ∧ s.rd Reg.CLK_READY = 0 ∧ 99 ≤ s.clk.goodTcxo ∧
      State.offBy 200 ((((1000, 0) :: s.clk.counts.take 99).map (·.1)).sum) 100000 (10 ^ 8) (10 ^ 8 + s.oscCal) = false) ∧
    (2 < 3 ∧ (clocked 0 7 false).clkReady 2 = true ∧ 2 ≠ (clocked 0 7 false).clkSrc ∧ (clocked 2 7 false).clkSrc = 2 ∧ (clocked 2 7 false).clkReady 0 = true ∧
      (clocked 2 7 false).clk.target = none ∧ (clocked 0 3 true).clkReady 2 = false) ∧
    ((clocked 0 0 false).fb Fld.CLK_FAIL_OSC = false ∧ ((clocked 0 0 false).fw Fld.CLK_FAIL_OSC 1).fb Fld.CLK_FAIL_OSC = true ∧
      (clocked 0 0 false).fb Fld.CLK_STATUS_MODE = false) ∧
    ((clocked 1 7 true).clkReady 2 = true ∧ (clocked 1 7 true).fb Fld.CLK_STATUS_MODE = true ∧ (clocked 1 7 true).clkSrc ≠ 2 ∧ (clocked 1 7 true).clk.target = none) ∧
    ({ running with clk := { Clk.start with target := some (2, 0, false) } }.clk.target = some (2, 0, false)) ∧
    (let p := xcmd 0x0A00 [(16, 0), (17, 2)]
     allStart (clocked 0 7 false) [(0x0A00, p)] ∧ allStart (clocked 0 1 false) [(0x0A00, p)] ∧ p.expert = true ∧ p.u8 16 = 0 ∧ p.u8 17 ≤ 2 ∧
      (clocked 0 7 false).clkReady (p.u8 17) = true ∧ (clocked 0 1 false).clkReady (p.u8 17) = false ∧ p.u8 17 ≠ (clocked 0 7 false).clkSrc ∧
      p.u8 17 = (clocked 2 7 false).clkSrc) := by
  refine ⟨by decide, by decide, by decide, by decide, by decide, by decide, allStart_of (by decide), allStart_of (by decide), by decide⟩

def gateP (island on : Nat) : Packet := xcmd 0x0A02 [(16, island), (17, on)]

theorem witness_ClocksChange_islands :
    (∀ die ∈ [0, 1], allStart running [(0x0A01, xcmd 0x0A01 [(16, die), (17, 20), (18, 63)])] ∧ (xcmd 0x0A01 [(16, die), (17, 20), (18, 63)]).u8 16 = die) ∧
    (allStart running [(0x0A01, xcmd 0x0A01 [(16, 0), (17, 21), (18, 63)]), (0x0A02, gateP 3 0), (0x0A02, gateP 87 1)] ∧
      State.gateable 3 = true ∧ State.gateable 87 = true ∧ 3 < 82 ∧ running.islandSpare 3 = false ∧ running.islandOn 3 = true ∧ running.islandSpare 17 = true ∧
      State.gateable 17 = true) ∧
    (running.mayGate 3 = true ∧ (running.fw (Fld.HIF_RING_STATE_STATE 0) State.idle).islandOn 0 = true ∧
      ((running.fw (Fld.HIF_RING_STATE_STATE 0) State.idle).mayGate 0 = false)) ∧
    (hasPstate 3 = true ∧ (running.setClk 3 false).islandOn 3 = false ∧ running.pwr.wakes.contains (3, true) = false ∧ hasPstate 87 = false ∧
      (running.setClk 87 false).islandOn 87 = false ∧ running.islandSpare 87 = false) ∧
    (let s := { running with clk := { Clk.start with gating := [3] } }
     3 ∈ s.clk.gating ∧ s.gateCmd 3 = false ∧ 4 ∉ s.clk.gating ∧
      (let w := { s with mcc := { s.mcc with cur := some { jobOn .mcc (gateP 3 0) with begun := true } } }; w.gateCmd 3 = true)) := by
  refine ⟨fun die h => ?_, ⟨allStart_of (by decide), by decide⟩, by decide, by decide, by decide⟩
  simp only [List.mem_cons, List.not_mem_nil, or_false] at h
  rcases h with rfl | rfl <;> exact ⟨allStart_of (by decide), by decide⟩

/-- Module 5 with its upstream link 3 up. -/
def timed : State := (linked State.pUp).fw Fld.ATY_FAB_CFG_UPSTREAM_LINK 3

theorem witness_TimeIsKept :
    (let m := leBytes 24 (0x10 + 2 ^ 8 + 5000 * 2 ^ 64)
     let s := timed.updClk (fun x => { x with measured := true })
     fieldOf m 0 1 = 0x10 ∧ 3 = s.fd Fld.ATY_FAB_CFG_UPSTREAM_LINK ∧ s.linkState 3 = State.pUp ∧ s.downLinks = [] ∧
      s.fb Fld.CLK_TIME_STATUS_SYNCED = false ∧ s.clk.measured = true ∧ timed.clk.measured = false ∧ s.rim.sched = none ∧ s.rim.commit = none ∧
      s.plt.1.gate = none ∧ s.plt.1.gateNext = none ∧ s.plt.2.gate = none ∧ s.plt.2.gateNext = none ∧ 2 ≠ s.fd Fld.ATY_FAB_CFG_UPSTREAM_LINK ∧
      (s.fw Fld.CLK_TIME_STATUS_SYNCED 1).fb Fld.CLK_TIME_STATUS_SYNCED = true) ∧
    (timed.linkState 3 = State.pUp ∧ fieldOf (leBytes 24 0x11) 0 1 = 0x11 ∧ timed.linkState 2 ≠ State.pUp ∧ fieldOf (leBytes 24 0x12) 0 1 = 0x12 ∧
      ((timed.updLink 3 (fun x => { x with asked := some 0 })).link 3).asked = some 0 ∧ (timed.link 3).asked = none) ∧
    (let s := (timed.fw Fld.ATY_FAB_CFG_DOWNSTREAM_MASK 8).fw Fld.CLK_TIME_STATUS_SYNCED 1
     s.downLinks = [3] ∧ s.linkState 3 = State.pUp ∧ s.fb Fld.CLK_TIME_STATUS_SYNCED = true ∧ s.fd Fld.CLK_TIME_STATUS_HOPS + 1 ≤ 15) := by decide

/-- Sites 0 to 3 no longer FIXED, and the average power over 10 ms. -/
def loose : State := (List.range 4).foldl (fun s i => s.fw (Fld.PWR_ISL_FIXED i) 0) running
def drawing (w : Nat) : State := (loose.fw Fld.PWR_POWER_AVG_10MS w).fw Fld.PWR_CFG_CAP_W 1000

theorem witness_PowerCommandsAndWarnings :
    (let p := xcmd 0x0A10 [(16, 4), (20, 0), (21, 4)]
     let q := xcmd 0x0A10 [(16, 1), (20, 0), (21, 4)]
     allStart loose [(0x0A10, p)] ∧ allStart running [(0x0A10, p)] ∧ allStart ((laned 2).fw Fld.RIM_TILES_TILE_A 0) [(0x0A10, q)] ∧ p.expert = true ∧ p.u8 21 ≤ 4 ∧
      loose.pwrAbsent p = false ∧ loose.pwrRim p = false ∧ (loose.pwrNamed p).any loose.pFixed = false ∧ (running.pwrNamed p).any running.pFixed = true ∧
      running.pwrAbsent p = false ∧ ((laned 2).fw Fld.RIM_TILES_TILE_A 0).pwrAbsent q = false ∧ ((laned 2).fw Fld.RIM_TILES_TILE_A 0).pwrRim q = true) ∧
    (∀ on ∈ [0, 1], allStart running [(0x0A11, xcmd 0x0A11 [(16, 4), (21, on)])] ∧ (xcmd 0x0A11 [(16, 4), (21, on)]).u8 21 = on) ∧
    (∀ w ∈ [400, 399], allStart running [(0x0A12, xcmd 0x0A12 [(16, w)])] ∧ (xcmd 0x0A12 [(16, w)]).u16 16 = w) ∧ 400 ≤ running.capRange ∧
    (running.pfw = false ∧ (running.fw Fld.PWR_STATUS_PFW 1).pfw = true ∧ 2 ∈ running.corePlls ∧ running.fb Fld.PWR_STATUS_REG_ALERT = false ∧
      (running.fw Fld.PWR_STATUS_REG_ALERT 1).fb Fld.PWR_STATUS_REG_ALERT = true) ∧
    (running.log = [] ∧ (running.fd Fld.PWR_PHASE_E_SPARE = 0 ∨ running.fd Fld.PWR_PHASE_E_SPARE ≠ 0)) ∧
    (running.srv.step = none ∧ ((List.range 7).map (fun k => [1, 2, 3].getD k 0)).sum ≤ 6) := by
  refine ⟨⟨allStart_of (by decide), allStart_of (by decide), allStart_of (by decide), by decide⟩, fun on h => ?_, fun w h => ?_, by decide⟩ <;>
  · simp only [List.mem_cons, List.not_mem_nil, or_false] at h
    rcases h with rfl | rfl <;> exact ⟨allStart_of (by decide), by decide⟩

theorem witness_PowerIsManaged :
    ((∀ i ∈ (drawing 1100).capIslands, (drawing 1100).fb (Fld.PWR_ISL_THROTTLED i) = false) ∧ (drawing 1100).fd Fld.PWR_POWER_AVG_100US ≤ 1900 ∧
      (drawing 1100).fd Fld.PWR_CFG_CAP_W < (drawing 1100).fd Fld.PWR_POWER_AVG_10MS ∧ (drawing 1100).capIslands ≠ [] ∧
      (drawing 970).fd Fld.PWR_POWER_AVG_10MS ≤ (drawing 970).fd Fld.PWR_CFG_CAP_W ∧
      97 * (drawing 970).fd Fld.PWR_CFG_CAP_W ≤ (drawing 970).fd Fld.PWR_POWER_AVG_10MS * 100) ∧
    (∃ k, State.leastOf (drawing 1100).pTarget ((((drawing 1100).capIslands.filter (fun i => (drawing 1100).pTarget i != pFloor)).filter isSite).reverse ++
        ((drawing 1100).capIslands.filter (fun i => (drawing 1100).pTarget i != pFloor)).filter (fun i => !isSite i)) = some k) ∧
    (corePll 2 = true ∧ running.islandOn 2 = true ∧ 2 ∉ running.pwr.stretching ∧ corePll 99 = false ∧ hasPstate 2 = true ∧ loose.pFixed 2 = false ∧
      loose.islandOn 2 = true ∧ running.pFixed 2 = true) ∧
    (let going := fun (p t v : Nat) => (running.fw (Fld.PWR_ISL_PSTATE 2) p).updPwr (fun x => { x with want := [(2, t)], volt := [(2, v)] })
     ((going 4 0 780).pTarget 2 < (going 4 0 780).pState 2 ∧ (going 4 0 780).pVolt 2 < milliVolts 0) ∧ milliVolts 0 ≤ (going 4 0 920).pVolt 2 ∧
      (going 0 4 920).pState 2 < (going 0 4 920).pTarget 2 ∧ (going 4 4 920).pState 2 = (going 4 4 920).pTarget 2 ∧
      milliVolts 4 < (going 4 4 920).pVolt 2 ∧ (going 4 4 780).pVolt 2 ≤ milliVolts 4 ∧ (going 4 4 780).pTarget 2 ≤ pFloor) ∧
    (let s := running.updPwr (fun x => { x with wakes := [(2, false)] })
     let w := running.updPwr (fun x => { x with wakes := [(2, true)] })
     s.wakeMay = true ∧ s.pwr.wakes = [(2, false)] ∧ w.pwr.wakes = [(2, true)] ∧ w.gateCmd 2 = false ∧ running.pwr.wakes = []) ∧
    2 ∈ running.pIslands := by
  refine ⟨by decide, ⟨0, by decide⟩, by decide, by decide, by decide, by decide⟩

/-! ## Witnesses: resets, updates, reliability and debug -/

/-- The module under a reset of a level, an image known and its flash sectors erased. -/
def resetAt (n : Nat) : State :=
  { running with rst := { running.rst with level := n, image := [1], flash := [(0, []), (1, []), (3, []), (4, [])] } }
/-- The loader's work in progress. -/
def flashing (j : FlashJob) : State := { resetAt 0 with rst := { (resetAt 0).rst with job := some j } }
def jobS (kind step tries : Nat) (resume : Bool) : FlashJob := ⟨kind, step, 0, tries, [1], 2, true, false, resume, false⟩

theorem witness_ResetsAreEntered :
    ((resetAt 2).rst.level = 2 ∧ (resetAt 1).rst.level = 1 ∧ running.rst.level = 0 ∧ running.rst.hold = none ∧ (flashing (jobS 0 0 0 false)).pulsing = true ∧
      (flashing (jobS 0 0 0 false)).rst.level = 0 ∧ running.pulsing = false ∧ running.lane = 0 ∧ running.ecc.retiring = [] ∧ running.fab.bert = []) ∧
    (3 ∉ running.dbg.halted ∧ (running.fbw Fld.SEC_STATUS_DEBUG_OPEN true).fb Fld.SEC_STATUS_DEBUG_OPEN = true ∧
      running.fb Fld.SEC_STATUS_DEBUG_OPEN = false ∧ 3 ∈ ({ running with dbg := { running.dbg with halted := [3] } }).dbg.halted) ∧
    (({ running with rst := { running.rst with unpowered := true } }).rst.unpowered = true ∧ running.rst.unpowered = false ∧
      ({ running with rst := { running.rst with tripped := true } }).rst.tripped = true ∧ running.rst.tripped = false) ∧
    (∀ l ∈ [0, 1, 2], (xcmd 0x0B00 [(16, l), (17, 86)]).u8 16 = l ∧ allStart running [(0x0B00, xcmd 0x0B00 [(16, l), (17, 86)])] ∧
      allStart { running with pins := { running.pins with maintInhibit := true } } [(0x0B00, xcmd 0x0B00 [(16, l), (17, 86)])]) ∧
    (running.pins.maintInhibit = false ∧ State.blockIsland 3 = true ∧ running.blockHere 3 = true) := by
  refine ⟨by decide, by decide, by decide, fun l h => ?_, by decide⟩
  simp only [List.mem_cons, List.not_mem_nil, or_false] at h
  rcases h with rfl | rfl | rfl <;> exact ⟨by decide, allStart_of (by decide), allStart_of (by decide)⟩

theorem witness_BlockResetsAndReleases :
    (State.blockIsland 21 = true ∧ running.blockHere 21 = true ∧ 21 = State.stackIsland 3 ∧ running.blockHere 81 = true ∧
      State.blockIsland 3 = true ∧ running.tileOf (islandSite 3) = some 3 ∧ isSite 3 = true ∧ State.blockIsland 22 = false) ∧
    (let s := { decoding true with vid := { (decoding true).vid with jobs := [{ vidJobS true with cores := [4] }] } }
     State.blockIsland 86 = true ∧ s.blockHere 86 = true ∧
      s.vid.jobs.find? (fun v => v.cores.contains (86 - 82)) = some { vidJobS true with cores := [4] } ∧ (vidJobS true).sess ≤ 127) ∧
    (let s := running.updTile 3 (fun x => { x with resetting := true })
     let e : SbEntry := ⟨reqAt opStore 0 [1], .none, true, 0⟩
     (s.tile 3).resetting = true ∧ (s.tile 3).sb = [] ∧ s.siteOf 3 < 36 ∧ s.sec.closing ≠ 2 ∧ (s.tile 3).trapped = false ∧
      ((s.updTile 3 (fun x => { x with sb := [e] })).tile 3).sb = [e] ∧ (running.tile 3).resetting = false) ∧
    (let s := { (resetAt 1).fw Fld.RST_STRAP_CODE 12 with pins := { running.pins with perst := true } }
     s.rst.level = 1 ∧ s.pins.perst = true ∧ s.rst.unpowered = false ∧ s.rst.tripped = false ∧ s.rst.image ≠ [] ∧ s.pulsing = false ∧ s.boot = 3 ∧
      s.journalOpen = false ∧ s.cfgCurrent = none ∧ s.fb Fld.SEC_STATUS_SCRUB_REQUIRED = false ∧ s.fd Fld.RST_BKP0_BOOT_ATTEMPTS ≤ 2 ∧
      2 ≤ ((List.range 4).filter (fun c => !bit (s.rd Reg.RAS_CORE_STATE) (4 + c))).length) := by
  refine ⟨by decide, by decide, by decide, by decide⟩

/-- A flash with sectors of its own: the journal (3), the staging records (4), the staging region (512). -/
def flashOf (l : List (Nat × List Byte)) : State := { running with rst := { running.rst with flash := l ++ [(0, []), (1, []), (3, []), (4, []), (512, [])] } }
/-- A manifest's header with two sectors, and the record that stages piece 0. -/
def manifestS (n : Nat) : List Byte := List.replicate 20 0 ++ [BitVec.ofNat 8 n, 0]
def stagedS (n : Nat) : State := flashOf [(4, leBytes 4 0x5A000000), (512, manifestS n)]
def stageP (n : Nat) : Packet := xcmd 0x0B10 [(16, n), (24, ownAddr (hbmKey 0 0))]
def supplied (s : State) : State := s.fw Fld.PWR_STATUS_HOLDUP_FULL 1

theorem words_all (k : Nat) : wordsOf (List.replicate (4 * k) 0) = List.replicate k 0 := by
  induction k with
  | zero => rfl
  | succ k ih =>
    have : List.replicate (4 * (k + 1)) (0 : Byte) = 0 :: 0 :: 0 :: 0 :: List.replicate (4 * k) 0 := by
      rw [show 4 * (k + 1) = 4 * k + 1 + 1 + 1 + 1 from by omega]; rfl
    rw [this, List.replicate_succ, wordsOf, ih]; rfl

theorem used_all (k : Nat) : usedWords (List.replicate k 0) = k := by
  have : ∀ (k n : Nat), (List.replicate k 0).foldl (fun (x : Nat × Nat) w => (if w = 0xFFFFFFFF then x.1 else x.2 + 1, x.2 + 1)) (n, n) = (n + k, n + k) := by
    intro k
    induction k with
    | zero => intro n; rfl
    | succ k ih => intro n; rw [List.replicate_succ, List.foldl_cons]; simp only [show (0 : Nat) ≠ 0xFFFFFFFF from by decide, if_false]; rw [ih]; congr 1 <;> omega
  simpa [usedWords] using congrArg Prod.fst (this k 0)

theorem witness_UpdateCommandsRun_stage :
    (allStart (flashOf []) [(0x0B10, stageP 0)] ∧ allStart (stagedS 2) [(0x0B10, stageP 1)] ∧ (stageP 1).u16 16 = 1 ∧
      (∃ m, (stagedS 2).stagedManifest = some m ∧ (stageP 1).u16 16 < manSectors m) ∧ (stagedS 2).journalOpen = false ∧ (flashOf []).recordsUsed = 0) ∧
    (flashOf [(3, State.journalBytes 1 0)]).journalOpen = true ∧
    (16384 ≤ (flashOf [(4, List.replicate 65536 0)]).recordsUsed ∧ (flashOf [(4, List.replicate 65536 0)]).journalOpen = false) ∧
    (∀ l : List Byte, let s := { flashOf [] with mcc := { (flashOf []).mcc with extra := l, cur := some { jobOn .mcc (stageP 0) with i3c := true } } }
     Starts s true .mcc (stageP 0) { jobOn .mcc (stageP 0) with i3c := true } s ∧ s.mcc.extra = l) ∧ (List.replicate 65536 (0 : Byte)).length = 65536 := by
  refine ⟨⟨allStart_of (by decide), allStart_of (by decide), by decide, ⟨_, rfl, by decide⟩, by decide, by decide⟩, by decide +kernel, ⟨?_, ?_⟩, fun l => ⟨?_, rfl⟩,
    List.length_replicate⟩
  · show 16384 ≤ usedWords (wordsOf (List.replicate (4 * 16384) 0))
    rw [words_all, used_all]
  · exact (fun l => rfl : ∀ l, (flashOf [(4, l)]).journalOpen = false) _
  · exact ⟨rfl, rfl, rfl, rfl, fun _ hr => absurd (show (flashOf []).recovery = true from hr) (by decide), rfl, fun _ => ⟨rfl, Or.inl rfl⟩⟩

theorem witness_UpdateCommandsRun_commit :
    (∀ s ∈ [supplied (stagedS 1), supplied (stagedS 2), flashing (jobS 0 0 0 false), secured, { running with pins := { running.pins with maintInhibit := true } },
        running.fw Fld.PWR_STATUS_PFW 1, running, flashOf [(3, State.journalBytes 1 0)]], allStart s [(0x0B11, cmd 0x0B11), (0x0B12, cmd 0x0B12)]) ∧
    (secured.lc = 2 ∧ running.lc ≠ 2 ∧ running.rst.job = none ∧ running.pfw = false ∧ running.fb Fld.PWR_STATUS_HOLDUP_FULL = false ∧
      (running.fw Fld.PWR_STATUS_PFW 1).pfw = true) ∧
    (let s := supplied (stagedS 1)
     s.fb Fld.PWR_STATUS_HOLDUP_FULL = true ∧ s.fb Fld.PWR_STATUS_INPUT_LOW = false ∧ s.stage ≠ 7 ∧ s.maintRefused ⟨State.actCommit, 0, 0⟩ = none ∧
      s.journalOpen = false ∧ s.missingPiece = none ∧ (supplied (stagedS 2)).missingPiece = some 1 ∧
      ({ s with ras := { s.ras with holders := [⟨State.actBert, 3, 0⟩] } } : State).maintRefused ⟨State.actCommit, 0, 0⟩ = some State.actBert) ∧
    (allStart (stagedS 2) [(0x0B13, xcmd 0x0B13 [(16, 0)])] ∧ (stagedS 2).missingPiece = some 1 ∧ (stagedS 1).missingPiece = none) ∧
    (let p := xcmd 0x0B14 [(16, ownAddr (hbmKey 0 0)), (24, 1)]
     allStart running [(0x0B14, p), (0x0B14, xcmd 0x0B14 [(24, 1024)])] ∧ p.u16 24 ≤ 1023 ∧
      (∃ w bs, ((onMcc running p).beginJob true .mcc (jobOn .mcc p)).getGlobal State.mccUnit (p.u64 16) (64 * p.u16 24) [] none = (w, .ok bs)) ∧
      (State.packetsOf (List.replicate 64 0)).findIdx? (fun q => !State.cfgRecordOk q) = some 0 ∧
      (State.packetsOf []).findIdx? (fun q => !State.cfgRecordOk q) = none) := by
  refine ⟨fun s hs => ?_, by decide, by decide, ⟨allStart_of (by decide), by decide⟩, allStart_of (by decide), by decide, ⟨_, _, rfl⟩, by decide, by decide⟩
  simp only [List.mem_cons, List.not_mem_nil, or_false] at hs
  rcases hs with rfl | rfl | rfl | rfl | rfl | rfl | rfl | rfl <;> exact allStart_of (by decide)

theorem witness_FlashPulsesProgram :
    (∀ e ∈ [(0, 0, 0, false), (0, 1, 0, false), (0, 2, 0, false), (0, 3, 0, false), (1, 1, 0, false), (1, 2, 0, false), (1, 3, 0, false), (1, 3, 2, false), (2, 0, 0, false),
        (2, 1, 0, false), (3, 0, 0, false)], let j := jobS e.1 e.2.1 e.2.2.1 e.2.2.2
      (flashing j).rst.job = some j ∧ j.pulse = true ∧ (flashing j).rst.hold = none ∧ j.stop = false ∧ j.resume = false ∧ (flashing j).ras.queue = []) ∧
    running.rst.job = none ∧
    (let s := flashing (jobS 1 1 0 false)
     let s := { s with rst := { s.rst with hold := some 2 } }
     s.rst.hold = some 2 ∧ s.rst.level ≤ 1 ∧ s.pulsing = true) := by
  refine ⟨by decide, rfl, by decide⟩

/-- The module with changed reliability state. -/
def kept (f : Ras → Ras) (s : State := running) : State := { s with ras := f s.ras }
def inhibited : State := { running with pins := { running.pins with maintInhibit := true } }
def scrubA : Activity := ⟨State.actTenantScrub, 0, 0⟩

theorem witness_MaintenanceRuns_commands :
    (let p := xcmd 0x0C00 [(16, 1), (17, 3)]
     let q := xcmd 0x0C00 [(16, 1), (17, 35)]
     let r := xcmd 0x0C00 [(16, 3), (17, 3)]
     let s := running.wr Reg.RAS_CORE_STATE 15
     allStart inhibited [(0x0C00, p)] ∧ allStart running [(0x0C00, p), (0x0C00, q)] ∧ allStart s [(0x0C00, r)] ∧ p.u8 16 ≠ 4 ∧
      q.u8 17 < State.unitCount (q.u8 16) ∧ r.u8 17 < State.unitCount (r.u8 16) ∧ running.unitSpare 1 35 = true ∧ running.unitSpare 1 3 = false ∧
      running.unitRetired 1 3 = false ∧ running.tileOf 3 = some 3 ∧ running.rimOwns 3 = false ∧ s.unitSpare 3 3 = false ∧ s.unitRetired 3 3 = false ∧
      s.ras.queue = [] ∧ s.maintFits ⟨State.actRetire, 3, 3⟩ = true ∧ s.maintHolds ⟨State.actRetire, 3, 3⟩ = false) ∧
    (let p := xcmd 0x0C01 [(16, 1), (17, 35)]
     allStart running [(0x0C01, p)] ∧ p.expert = true ∧ p.u8 17 < State.unitCount (p.u8 16) ∧ running.testable 1 35 = true ∧
      running.maintRefused ⟨State.actSelftest, 0, 0⟩ = none ∧
      (kept (fun x => { x with holders := [scrubA] })).maintRefused ⟨State.actSelftest, 0, 0⟩ = some State.actTenantScrub ∧
      [(1, 35, 9)].find? (fun f => f.1 == p.u8 16 && f.2.1 == p.u8 17) = some (1, 35, 9) ∧ running.pins.maintInhibit = false) ∧
    (let p := xcmd 0x0C02 [(16, 10), (20, 1), (24, ownAddr (hbmKey 0 0))]
     let s := running.wr Reg.RAS_LOG_SEQ 5000
     allStart s [(0x0C02, p)] ∧ allStart running [(0x0C02, p)] ∧ p.u32 20 ≠ 0 ∧ p.u32 20 ≤ 65536 ∧ s.spilled (p.u32 16) = true ∧
      s.spilled (p.u32 16 + p.u32 20 - 1) = true ∧ running.spilled (p.u32 16) = false ∧
      (∃ w, ((onMcc s p).beginJob true .mcc (jobOn .mcc p)).putGlobal State.mccUnit (p.u64 24)
        ((((onMcc s p).beginJob true .mcc (jobOn .mcc p)).recordsFrom (p.u32 16) (p.u32 20)).map State.recBytes).flatten = (w, none))) :=
  ⟨⟨allStart_of (by decide), allStart_of (by decide), allStart_of (by decide), by decide⟩, ⟨allStart_of (by decide), by decide⟩,
    ⟨allStart_of (by decide), allStart_of (by decide), by decide, by decide, by decide, by decide, by decide, ⟨_, rfl⟩⟩⟩

theorem witness_MaintenanceRuns_events :
    ((kept (fun x => { x with queue := [scrubA] })).ras.queue = [scrubA] ∧ (kept (fun x => { x with queue := [scrubA] })).ras.holders = [] ∧
      (kept (fun x => { x with queue := [scrubA], holders := [⟨State.actBert, 3, 0⟩] })).ras.holders ≠ []) ∧
    (running.ras.queue = [] ∧ (⟨State.actSpareTest, 0, 0⟩ : Activity) ∉ running.ras.holders ∧ running.maintFits ⟨State.actSpareTest, 0, 0⟩ = true ∧
      running.unitSpare 1 35 = true ∧ (kept (fun x => { x with holders := [scrubA] })).maintFits ⟨State.actSpareTest, 0, 0⟩ = false) ∧
    ((kept (fun x => { x with unsaved := [7] })).ras.unsaved = [7] ∧ running.fb Fld.RAS_STORE_FULL = false ∧
      8 * (running.ras.store.length + 1) + 65536 ≤ State.areaBytes ∧ (running.fw Fld.RAS_STORE_FULL 1).fb Fld.RAS_STORE_FULL = true ∧
      running.ras.unsaved = []) ∧
    (running.rst.level ≠ 2 ∧ State.reset.rst.level = 2) := by decide

/-- Tile 3 on its way to site 5. -/
def moveS (quiet copying : Bool) : Move := ⟨3, 3, 35, quiet, copying⟩
def moving (quiet copying : Bool) : State := kept (fun x => { x with moves := [moveS quiet copying] })

theorem witness_UnitsMoveAndRetire :
    (running.moveOf 3 = none ∧ (moving false false).moveOf 3 = some (moveS false false) ∧ (moving false false).quiesced 3 = true ∧
      (∃ k, (moving false false).moveSpare 3 3 = some k ∧ (moving false false).pwr.wakes.contains (State.siteIsland k, true) = false) ∧
      (moving true false).moveOf 3 = some (moveS true false) ∧ (moving true true).moveOf 3 = some (moveS true true) ∧
      (moveS true true).site ≠ (moveS true true).spare ∧ (moveS true true).spare < 36 ∧ ((moving false false).engOf 3).cur = none ∧
      (moving false false).ringState 3 = State.closed ∧
      (let s := onRing (moving false false) 3 xferP; (s.engOf 3).cur = some (jobOn (.ring 3) xferP) ∧ (jobOn (.ring 3) xferP).via = .ring 3 ∧
        s.quiesced 3 = false)) ∧
    (let s := ((running.wr Reg.RAS_CORE_STATE 15).fw (Fld.DBG_SEM_HELD 31) 1).fw (Fld.DBG_SEM_OWNER 31) 0x32
     bit (s.rd Reg.RAS_CORE_STATE % 16) 3 = true ∧ 3 ∉ s.ras.coreDown ∧
      s.ras.coreTraps.any (fun e => e.1 == 3 && decide (s.now < e.2 + State.dayNs)) = false ∧ s.fb (Fld.DBG_SEM_HELD 31) = true ∧
      s.fd (Fld.DBG_SEM_OWNER 31) = 0x2F + 3 ∧ bit (running.rd Reg.RAS_CORE_STATE % 16) 3 = false) ∧
    (let s := kept (fun x => { x with coreDown := [3] })
     3 ∈ s.ras.coreDown ∧ 2 ∉ s.ras.coreDown ∧ s.ras.queue = [] ∧ s.maintFits ⟨State.actRetire, 3, 3⟩ = true ∧
      s.maintHolds ⟨State.actRetire, 3, 3⟩ = false) := by
  refine ⟨⟨by decide, by decide, by decide, ⟨4, by decide⟩, by decide⟩, by decide, by decide⟩

/-- The access port open. -/
def debugged : State := running.fbw Fld.SEC_STATUS_DEBUG_OPEN true

theorem witness_CountersAndSemaphores :
    (let s := (running.fw (Fld.PMU_EVSEL_EN 52 7) 1).fw (Fld.PMU_EVSEL_EVENT 52 7) 0
     s.groupOn 52 = true ∧ s.fb (Fld.PMU_EVSEL_EN 52 7) = true ∧ pmuUnseen 52 (s.fd (Fld.PMU_EVSEL_EVENT 52 7)) = true ∧
      s.fb (Fld.PMU_EVSEL_IRQ 52 7) = false ∧ State.reset.groupOn 0 = false) ∧
    (tileUnseen 31 = true ∧ running.islandOn (State.siteIsland 35) = true ∧ bit (running.rd (Reg.PMU_TIRQ 35)) 31 = false) ∧
    (let p := xcmd 0x0D00 [(16, 52), (24, ownAddr (hbmKey 0 0))]
     allStart running [(0x0D00, p)] ∧ p.u8 16 ≤ 52 ∧ ((onMcc running p).beginJob true .mcc (jobOn .mcc p)).runCheck State.mccUnit (p.u64 24) 256 opLoad = none ∧
      (∃ w bs, ((onMcc running p).beginJob true .mcc (jobOn .mcc p)).getGlobal State.mccUnit (p.u64 24) 256 [] none = (w, .ok bs))) ∧
    (let p := xcmd 0x0D01 [(16, 52), (24, ownAddr (hbmKey 0 0))]
     let q := xcmd 0x0D01 [(16, 35), (17, 1), (24, ownAddr (hbmKey 0 0))]
     let s := (onMcc running p).beginJob true .mcc (jobOn .mcc p)
     allStart running [(0x0D01, p), (0x0D01, q)] ∧ bit (p.u8 17) 0 = false ∧ bit (q.u8 17) 0 = true ∧ s.runCheck State.mccUnit (p.u64 24) 96 opStore = none ∧
      s.runCheck State.mccUnit (q.u64 24) 544 opStore = none ∧
      (∃ w bs, s.pmuSnapshot 52 = (w, bs)) ∧ (∃ z, s.putGlobal State.mccUnit (p.u64 24) (List.replicate 96 0) = (z, none)) ∧
      (running.setClk 54 false).islandOn (State.siteIsland 35) = false) ∧
    (let p := xcmd 0x0D02 [(16, 31)]
     allStart running [(0x0D02, p)] ∧ allStart debugged [(0x0D02, p)] ∧ running.dapOpen = false ∧ debugged.dapOpen = true ∧
      debugged.fb (Fld.DBG_SEM_HELD 31) = false ∧ (debugged.fw (Fld.DBG_SEM_HELD 31) 1).fb (Fld.DBG_SEM_HELD 31) = true) ∧
    (let s := onMcc (running.fw (Fld.DBG_SEM_HELD 31) 1) (cmd 0x0100)
     s.mcc.cur = some (jobOn .mcc (cmd 0x0100)) ∧ s.fb (Fld.DBG_SEM_HELD 31) = true ∧ (jobOn .mcc (cmd 0x0100)).begun = false ∧
      s.queuedOn (cmd 0x0100) = none ∧ running.mcc.cur = none) :=
  ⟨by decide, by decide, ⟨allStart_of (by decide), by decide, by decide, ⟨_, _, rfl⟩⟩,
    ⟨allStart_of (by decide), by decide, by decide, by decide, by decide, ⟨_, _, rfl⟩, ⟨_, rfl⟩, by decide⟩,
    ⟨allStart_of (by decide), allStart_of (by decide), by decide⟩, by decide⟩

theorem witness_DebugPortAndPins :
    (running.dapOpen = false ∧ debugged.dapOpen = true ∧ debugged.tileOn 3 = true) ∧
    (let s := ((debugged.fw (Fld.DBG_SEM_HELD 31) 1).fw (Fld.DBG_SEM_OWNER 31) 0x32)
     s.fb (Fld.DBG_SEM_HELD 31) = true ∧ s.fd (Fld.DBG_SEM_OWNER 31) = 0x2F + 3) ∧
    (let at_ := fun (n : Nat) => { debugged with dbg := { debugged.dbg with reg := true, addr := n } }
     (at_ 2).dbg.reg = true ∧ (at_ 2).dbg.addr % 4 ≠ 0 ∧ (at_ (2 ^ 26 - 8)).dbg.addr % 8 = 0 ∧ (at_ (2 ^ 26 - 8)).dbg.addr + 8 ≤ 2 ^ 26 ∧
      2 ^ 26 < (at_ (2 ^ 26)).dbg.addr + 4 ∧ debugged.fb Fld.DBG_CTL_DBG_SIDE_EFFECT = false) ∧
    (running.pins.maintInhibit ≠ true ∧ running.pins.maintInhibit = false ∧ running.rst.unpowered = false ∧ running.pins.slotId ≠ 63 ∧
      running.fd Fld.RST_STRAP_SLOT_ID ≠ 63) ∧
    ((running.fw Fld.PWR_STATUS_PFW 1).pfw = true ∧ running.pfw = false) := by decide

/-! ## Witnesses: the queue, memory and idle steps -/

theorem witness_StepRunsFrontCommand :
    { running with pending := [.idcode, .bypass] }.pending = [.idcode, .bypass] := rfl

theorem witness_ResetLeavesTableValues : (Reg.PWR_ISL 2).rst < 2 ^ 64 := by decide

theorem witness_IdleStepsCountTime :
    State.reset.pending = [] ∧ State.reset.rst.level = 2 ∧ running.pending = [] ∧ running.rst.unpowered = false ∧ running.rst.level ≠ 2 ∧
    running.fb Fld.CLK_TIME_STATUS_SYNCED = false ∧
    (let s := (running.fw Fld.CLK_TIME_STATUS_SYNCED 1).fw Fld.CLK_TIME_STATUS_OFFSET (2 ^ 20 - 1)
     s.fb Fld.CLK_TIME_STATUS_SYNCED = true ∧ sext 20 (s.fd Fld.CLK_TIME_STATUS_OFFSET) = -1 ∧ s.clk.slew + 1 < 10000 ∧
      10000 ≤ { s with clk := { s.clk with slew := 9999 } }.clk.slew + 1) := by decide

/-! ## The spec's worked examples -/

/-- 03, the example after R121: the products of the row in the window of anchor 34. -/
def dotTerms : List Val := [.fin false 1 30, .fin false 1 0, .fin false 3 0, .fin false 1 (-1), .fin true 1 30, .fin false 1 0, .fin false 1 (-10), .fin true 3 0]

theorem test_dot_product_example :
    ((Acc.start 34).addTerms dotTerms).1 = ⟨2561 * 2 ^ 146, 34, false, 0⟩ ∧ ((Acc.start 34).addTerms dotTerms).2 = 0 ∧
      ((Acc.start 34).addTerms dotTerms).1.toBytes =
        leBytes 24 0x000000002804000000000000000000000000000000000000 ++ leBytes 2 0x8022 ++ leBytes 2 0 ++ leBytes 4 0 := by decide

theorem test_dot_product_rounds :
    (((Acc.start 34).addTerms dotTerms).1.toFmt .rne 1).1 = 0x40201000 ∧ (((Acc.start 34).addTerms dotTerms).1.toFmt .rne 3).1 = 0x4020 := by decide

/-- 06, the example after R199; 05, the example after R167; 13, the example at its end; 01, the example of CAP_UNITS. -/
theorem test_address_examples :
    0x0110005123450000 = 0x011 * 2 ^ 52 + hbmKey 5 0x123450000 ∧ ownAddr (tileKey 9 0x400000) = 0xFFF1000004C00000 := by decide

theorem test_pixel_examples :
    pixOf 3 8 = 4 ∧ rowPitchOf 0 1280 4 = 5120 ∧ pixOf 32 8 = 32 ∧ rowPitchOf 0 1280 32 = 40960 := by decide

theorem test_video_example :
    let x : VidSess := { vidOpened with maxW := 1280, maxH := 720 }
    State.vidPsz 1280 720 1 = 1572864 ∧ loadMega (loadSum [x, x, x, x]) = 111 := by decide

theorem test_cap_units_example :
    let s := running.wr Reg.CAP_UNITS 0x80027FFF
    s.fb Fld.CAP_UNITS_CAP_VALID = true ∧ s.fd Fld.CAP_UNITS_VID_CORES = 4 ∧ s.fb Fld.CAP_UNITS_MACSEC = true ∧ s.fb Fld.CAP_UNITS_VIDEO = true ∧
      s.fd Fld.CAP_UNITS_HBM_STACKS = 0xFF ∧ (running.wr Reg.CAP_UNITS 0x80003E77).fd Fld.CAP_UNITS_HBM_STACKS = 0x77 := by decide

/-- SHA-384 of the three letters that FIPS 180-4 takes as its example (assumption 5). -/
theorem test_sha384_example : ofBE (sha384Bytes [97, 98, 99]) =
    0xcb00753f45a35e8bb5a03d699ac65007272c32ab0eded1631a8b605a43ff5bed8086072ba1e7cc2358baeca134c825a7 := by decide +kernel

end Sys2Proof.Tests
end

section
/-! The packet format (O4): the 64 bytes of a packet are its five fields side by side. -/

namespace Sys2Proof.Packet

/-- Table 2-5: the fields of a packet, each in its place, fill its 64 bytes without a carry. -/
theorem toNat_toBits (p : Packet) :
    p.toBits.toNat = p.opcode.toNat + 2 ^ 16 * p.flags.toNat + 2 ^ 32 * p.seq.toNat + 2 ^ 64 * p.execTime.toNat
      + 2 ^ 128 * p.param.toNat := by
  simp only [toBits, BitVec.toNat_ofNat]
  have := p.opcode.isLt
  have := p.flags.isLt
  have := p.seq.isLt
  have := p.execTime.isLt
  have := p.param.isLt
  omega

/-- A field that a packet's bytes spell is a digit of their number. -/
theorem toNat_ofBits (b : BitVec 512) :
    (ofBits b).opcode.toNat = b.toNat % 2 ^ 16 ∧ (ofBits b).flags.toNat = b.toNat / 2 ^ 16 % 2 ^ 16 ∧
      (ofBits b).seq.toNat = b.toNat / 2 ^ 32 % 2 ^ 32 ∧ (ofBits b).execTime.toNat = b.toNat / 2 ^ 64 % 2 ^ 64 ∧
      (ofBits b).param.toNat = b.toNat / 2 ^ 128 % 2 ^ 384 := by
  have digit : ∀ lo w : Nat, (b.extractLsb' lo w).toNat = b.toNat / 2 ^ lo % 2 ^ w := fun lo w => by
    rw [BitVec.extractLsb'_toNat, Nat.shiftRight_eq_div_pow]
  exact ⟨(digit 0 16).trans (by rw [Nat.pow_zero, Nat.div_one]), digit 16 16, digit 32 32, digit 64 64, digit 128 384⟩

/-- A packet is determined by the numbers in its fields. -/
theorem ext_toNat {p q : Packet} (hop : p.opcode.toNat = q.opcode.toNat) (hfl : p.flags.toNat = q.flags.toNat)
    (hsq : p.seq.toNat = q.seq.toNat) (het : p.execTime.toNat = q.execTime.toNat) (hpa : p.param.toNat = q.param.toNat) :
    p = q := by
  cases p
  cases q
  simp only [Packet.mk.injEq]
  exact ⟨BitVec.eq_of_toNat_eq hop, BitVec.eq_of_toNat_eq hfl, BitVec.eq_of_toNat_eq hsq, BitVec.eq_of_toNat_eq het,
    BitVec.eq_of_toNat_eq hpa⟩

theorem ofBits_toBits (p : Packet) : ofBits p.toBits = p := by
  obtain ⟨hop, hfl, hsq, het, hpa⟩ := toNat_ofBits p.toBits
  have hb := toNat_toBits p
  have := p.opcode.isLt
  have := p.flags.isLt
  have := p.seq.isLt
  have := p.execTime.isLt
  have := p.param.isLt
  apply ext_toNat <;> omega

theorem toBits_ofBits (b : BitVec 512) : (ofBits b).toBits = b := by
  obtain ⟨hop, hfl, hsq, het, hpa⟩ := toNat_ofBits b
  have hb := toNat_toBits (ofBits b)
  have := b.isLt
  apply BitVec.eq_of_toNat_eq
  omega

end Sys2Proof.Packet

namespace Sys2Proof

/-- Settles O4: in both directions the fields are the digits of one number. -/
theorem packetBytesRoundTrip : Obligations.PacketBytesRoundTrip :=
  ⟨Packet.ofBits_toBits, Packet.toBits_ofBits⟩

end Sys2Proof
end

section
/-! Frames of register writes, and fields of one register beside each other. -/

namespace Sys2Proof.Safety

open Sys2Proof.Machine

theorem Keeps.trans {ps : List Part} {s t u : State} (h : Keeps ps s t) (h' : Keeps ps t u) : Keeps ps s u := by
  intro x hx
  have hst := h x hx
  have htu := h' x hx
  cases x <;> exact Eq.trans htu hst

theorem Keeps.mono {ps qs : List Part} {s t : State} (h : Keeps ps s t) (hsub : ps ⊆ qs) : Keeps qs s t :=
  fun x hx => h x (fun hm => hx (hsub hm))

theorem RegsKeep.trans {as : List Nat} {s t u : State} (h : RegsKeep as s t) (h' : RegsKeep as t u) : RegsKeep as s u :=
  fun d a ha => (h' d a ha).trans (h d a ha)

theorem RegsKeep.mono {as bs : List Nat} {s t : State} (h : RegsKeep as s t) (hsub : as ⊆ bs) : RegsKeep bs s t :=
  fun d a ha => h d a (fun hm => ha (hsub hm))

theorem RegsKeep.of_regs_eq {as : List Nat} {s t : State} (h : t.regs = s.regs) : RegsKeep as s t :=
  fun d a _ => by rw [h]

theorem Keeps.refl (ps : List Part) (s : State) : Keeps ps s s := fun x _ => by cases x <;> rfl

/-- A state with another register file differs from the first in its registers alone. -/
theorem keeps_withRegs (s : State) (l : List (Nat × BitVec 64)) : Keeps [.regs] s { s with regs := l } := by
  intro x hx
  cases x
  case regs => simp at hx
  all_goals rfl

/-- An entry set in the register file leaves every other register as it was. -/
theorem regsKeep_set (s : State) (d v : BitVec 64) (a : Nat) : RegsKeep [a] s { s with regs := Cells.set d a v s.regs } :=
  fun d' _ hb => Cells.get_set_ne d d' (by simpa using hb) v s.regs

theorem keeps_wr (s : State) (r : Reg) (v : Nat) : Keeps [.regs] s (s.wr r v) := keeps_withRegs s _

theorem regsKeep_wr (s : State) (r : Reg) (v : Nat) : RegsKeep [r.addr] s (s.wr r v) := regsKeep_set s _ _ _

theorem keeps_fw (s : State) (f : Fld) (v : Nat) : Keeps [.regs] s (s.fw f v) := keeps_wr s _ _

theorem regsKeep_fw (s : State) (f : Fld) (v : Nat) : RegsKeep [f.reg.addr] s (s.fw f v) := regsKeep_wr s _ _

theorem keeps_emit (s : State) (o : Out) : Keeps [.out] s (s.emit o) := by
  intro x hx
  cases x
  case out => simp at hx
  all_goals rfl

theorem keeps_open (s : State) (w : Nat) : Keeps [.free] s (s.open_ w).2 := by
  intro x hx
  cases x
  case free => simp at hx
  all_goals rfl

end Sys2Proof.Safety

namespace Sys2Proof.Machine

/-- A field below bit `n` does not see what is cut off from there on. -/
theorem bits_mod_two_pow {lo w n : Nat} (x : Nat) (h : lo + w ≤ n) : bits (x % 2 ^ n) lo w = bits x lo w := by
  have hb : ∀ t : Nat, bits t lo w = t % 2 ^ (lo + w) / 2 ^ lo := fun t => by
    rw [bits, pow_add, Nat.mod_mul_right_div_self]
  rw [hb, hb, Nat.mod_mod_of_dvd x (Nat.pow_dvd_pow 2 h)]

namespace State

/-- A field of a register just written is that field of the value. -/
theorem fd_wr_self (s : State) (f : Fld) (v : Nat) (h : f.lo + f.w ≤ f.reg.width) (h' : f.reg.width ≤ 64) :
    (s.wr f.reg v).fd f = bits v f.lo f.w := by
  rw [fd, rd_wr_self _ _ _ h', bits_mod_two_pow _ h]

/-- A field that shares no bit with the one written stays, in the same register too. -/
theorem fd_fw_apart (s : State) (f g : Fld) (v : Nat) (hr : g.reg = f.reg) (hsep : g.lo + g.w ≤ f.lo ∨ f.lo + f.w ≤ g.lo)
    (h : g.lo + g.w ≤ g.reg.width) (h' : g.reg.width ≤ 64) : (s.fw f v).fd g = s.fd g := by
  rw [fw, ← hr, fd_wr_self _ _ _ h h', fd]
  rcases hsep with hlow | hhigh
  · exact bits_setBits_below _ _ _ _ _ _ hlow
  · exact bits_setBits_above _ _ _ _ _ _ hhigh

/-- A count that is increased reads as the saturated sum. -/
theorem rd_bump (s : State) (r : Reg) (n : Nat) (h : r.width ≤ 64) :
    (s.bump r n).rd r = satAdd (2 ^ r.width - 1) (s.rd r) n := by
  have hpos := Nat.two_pow_pos r.width
  have hlt : satAdd (2 ^ r.width - 1) (s.rd r) n < 2 ^ r.width := by
    rw [satAdd]
    split <;> omega
  rw [bump, rd_wr_self _ _ _ h, Nat.mod_eq_of_lt hlt]

end State
end Sys2Proof.Machine
end

section
/-! Accesses of the host to BAR0 (O10): where an access goes, what a plain register stores, what a refusal and a gated window leave. -/

namespace Sys2Proof.Machine

theorem testBit_andNot (x m i : Nat) : (andNot x m).testBit i = (x.testBit i && !m.testBit i) := by
  rw [andNot, Nat.testBit_xor, Nat.testBit_and]
  cases x.testBit i <;> cases m.testBit i <;> rfl

namespace State

open Sys2Proof.Safety

/-! ## Writes by access type (00 Table 0-6) -/

/-- Table 0-6, bit by bit. -/
theorem testBit_written (r : RegRow) (old v mask i : Nat) :
    (written r old v mask).testBit i =
      if v.testBit i && r.w1c.testBit i && mask.testBit i then false
      else if r.rw.testBit i && mask.testBit i then v.testBit i else old.testBit i := by
  simp only [written, testBit_andNot, Nat.testBit_or, Nat.testBit_and]
  cases mask.testBit i
  case false => simp
  case true =>
    cases v.testBit i
    case false => cases r.rw.testBit i <;> simp
    case true => cases r.w1c.testBit i <;> cases r.rw.testBit i <;> simp

/-- A register without RW and W1C bits takes nothing from a write. -/
theorem written_readOnly {r : RegRow} (hrw : r.rw = 0) (hw1c : r.w1c = 0) (old v mask : Nat) : written r old v mask = old := by
  apply Nat.eq_of_testBit_eq
  intro i
  rw [testBit_written, hrw, hw1c]
  simp

/-- What makes a register plain: it is none of those that act on a write or store something else. -/
theorem plainRegister_excludes {r : RegRow} {off : Nat} (h : plainRegister r off = true) :
    (off ≠ Reg.MCC_DOORBELL.addr ∧ off ≠ Reg.MCC_ABT_DOORBELL.addr ∧ off ≠ Reg.HIF_FAULT_STATUS.addr ∧ off ≠ Reg.CLK_FAIL.addr ∧
      off ≠ Reg.CLK_REGBUS_CFG.addr ∧ off ≠ Reg.PWR_DROOP_CFG.addr ∧ off ≠ Reg.RAS_MEM_PATROL.addr ∧ off ≠ Reg.PLT_CFG.addr) ∧
    (r.base ≠ (Reg.ATY_EXPECT 0).addr ∧ r.base ≠ (Reg.PAIR_SVC_DIGEST 0).addr ∧ r.base ≠ (Reg.TILE_RO_CFG 0).addr ∧
      r.base ≠ (Reg.HBM_PATROL_CFG 0).addr ∧ r.base ≠ (Reg.HBM_RETIRE_CFG 0).addr ∧ r.base ≠ (Reg.ATY_PORT_ERR_CFG 0).addr ∧
      r.base ≠ (Reg.PLT_PORT_MAC 0).addr ∧ r.base ≠ (Reg.PMU_EVSEL 0 0).addr ∧ r.base ≠ (Reg.HIF_COAL 0).addr) ∧
    ¬((Reg.HIF_COAL 0).addr ≤ off ∧ off < (Reg.HIF_COAL 0).addr + 1024) := by
  simpa only [plainRegister, List.contains_eq_mem, List.mem_cons, List.not_mem_nil, or_false, Bool.and_eq_true, Bool.not_eq_true',
    decide_eq_false_iff_not, not_or, ← Bool.decide_and, and_assoc] using h

/-- A plain register stores the value that the access types give. -/
theorem stored_plain {r : RegRow} {off : Nat} (h : plainRegister r off = true) (s : State) (old v : Nat) :
    s.stored r off old v = v := by
  obtain ⟨⟨-, -, -, -, hdiv, hdroop, hpatrol, hplt⟩, ⟨-, -, hro, hhbm, hretire, hport, hmac, hpmu, -⟩, hcoal⟩ :=
    plainRegister_excludes h
  have hc : off ≠ (Reg.HIF_COAL 0).addr := by omega
  simp only [stored, if_neg hdiv, if_neg hdroop, if_neg hpatrol, if_neg hplt, if_neg hro, if_neg hhbm, if_neg hretire, if_neg hport,
    if_neg hmac, if_neg hpmu, if_neg hc]

/-- Nothing follows from a plain register's new value. -/
theorem afterWrite_plain {r : RegRow} {off : Nat} (h : plainRegister r off = true) (s : State) : s.afterWrite off = s := by
  obtain ⟨⟨-, -, -, hfail, -⟩, -, hcoal⟩ := plainRegister_excludes h
  have hnot : (decide ((Reg.HIF_COAL 0).addr < off) && decide ((off - (Reg.HIF_COAL 0).addr) / 4 < 256)) = false := by
    simp only [Bool.and_eq_false_iff, decide_eq_false_iff_not]
    omega
  simp [afterWrite, if_neg hfail, hnot]

/-- A 4-byte write of a plain register stores what the access types say, and nothing else changes. -/
theorem writeReg_plain {r : RegRow} {off : Nat} (h : plainRegister r off = true) (s : State) (v : Nat) :
    Keeps [.regs] s (s.writeReg r off off 4 v) ∧ RegsKeep [off] s (s.writeReg r off off 4 v) ∧
      (Cells.get (BitVec.ofNat 64 r.rst) off (s.writeReg r off off 4 v).regs).toNat =
        written r (Cells.get (BitVec.ofNat 64 r.rst) off s.regs).toNat v (2 ^ 32 - 1) % 2 ^ 64 := by
  obtain ⟨⟨hdoor, habt, hfault, -⟩, ⟨hexpect, hdigest, -, -, -, -, hmac, -⟩, -⟩ := plainRegister_excludes h
  simp only [writeReg, if_neg hdoor, if_neg habt, if_neg hfault, if_neg hexpect, if_neg hdigest, if_neg hmac, stored_plain h,
    afterWrite_plain h, Nat.sub_self, Nat.mul_zero, Nat.pow_zero, Nat.mul_one]
  split
  case isTrue hro =>
    simp only [Bool.and_eq_true, decide_eq_true_eq] at hro
    refine ⟨Keeps.refl _ s, RegsKeep.of_regs_eq rfl, ?_⟩
    rw [written_readOnly hro.1 hro.2, Nat.mod_eq_of_lt (BitVec.isLt _)]
  case isFalse =>
    refine ⟨keeps_withRegs s _, regsKeep_set s _ _ _, ?_⟩
    rw [Cells.get_set_self, BitVec.toNat_ofNat]

/-! ## Where an access goes -/

theorem accessOk_word {off : Nat} (h : off % 4 = 0) : accessOk off 4 = true := by simp [accessOk, h]

theorem confGate_open {s : State} {off : Nat} (h : s.conf = true → confOpen off = true) : (s.conf && !confOpen off) = false := by
  cases hc : s.conf
  · rfl
  · simp [h hc]

/-- A refused write outside the packet buffers is captured. -/
theorem barWrite_refused {s : State} {off w : Nat} (v : Nat) (hin : off + w ≤ 2 ^ 26) (hok : accessOk off w = false)
    (hbuf : cmdBuffer off w = none) : s.barWrite 0 off w v = s.hifFault 0 off := by
  simp only [barWrite, hin, hok, hbuf, decide_true, Bool.and_self, Bool.not_false, Option.isNone_none, if_true]

/-- A write that confidential mode blocks is counted. -/
theorem barWrite_blocked {s : State} {off w : Nat} (v : Nat) (hin : off + w ≤ 2 ^ 26) (hok : accessOk off w = true)
    (hconf : s.conf = true) (hclosed : confOpen off = false) : s.barWrite 0 off w v = s.bump Reg.HIF_BLOCKED_CNT 1 := by
  simp only [barWrite, hin, hok, hconf, hclosed, decide_true, Bool.and_self, Bool.not_true, Bool.false_and, Bool.not_false,
    Bool.false_eq_true, if_false, if_true]

/-- A 4-byte write outside the packet buffers is one of a single piece. -/
theorem writeBar0_word (s : State) (off v : Nat) (dbg : Bool) : s.writeBar0 off 4 v dbg = s.writePiece off 4 v dbg := by
  simp [writeBar0]

theorem barWrite_word {s : State} {off : Nat} (v : Nat) (hin : off + 4 ≤ 2 ^ 26) (hal : off % 4 = 0)
    (hbuf : cmdBuffer off 4 = none) (hopen : s.conf = true → confOpen off = true) :
    s.barWrite 0 off 4 v = s.writePiece off 4 v false := by
  simp only [barWrite, hin, accessOk_word hal, confGate_open hopen, hbuf, writeBar0_word, decide_true, Bool.and_self, Bool.not_true,
    Bool.false_and, Bool.false_eq_true, if_false, if_true]

/-- 15 R540: a write to an island that keeps its ratio reaches its register; one to an island that breaks it does so or is lost. -/
theorem writePiece_register {s : State} {off : Nat} {r : RegRow} {addr : Nat} (v : Nat) (hrow : rowAt off = some (r, addr))
    (hbuf : cmdBuffer off 4 = none) (hdbg : dbgOff off = false) (hgate : s.windowGated off = false) :
    ((windowIsland off).any s.busBroken = false → s.writePiece off 4 v false = s.writeReg r addr off 4 (v % 2 ^ 32)) ∧
    ((windowIsland off).any s.busBroken = true → s.writePiece off 4 v false = (s.open_ 1).2 ∨
      s.writePiece off 4 v false = (s.open_ 1).2.writeReg r addr off 4 (v % 2 ^ 32)) := by
  simp only [writePiece, hdbg, hbuf, hrow, hgate, Bool.false_and, Bool.false_eq_true, if_false]
  constructor
  · intro hbus
    simp [hbus]
  · intro hbus
    simp only [hbus, if_true]
    split
    · exact .inl rfl
    · exact .inr rfl

theorem writePiece_gated {s : State} {off : Nat} {r : RegRow} {addr : Nat} (v : Nat) (hrow : rowAt off = some (r, addr))
    (hbuf : cmdBuffer off 4 = none) (hdbg : dbgOff off = false) (hgate : s.windowGated off = true) :
    s.writePiece off 4 v false = s.gatedWindow := by
  simp [writePiece, hdbg, hbuf, hrow, hgate]

theorem readBar0_gated {s : State} {off : Nat} {r : RegRow} {addr : Nat} (hrow : rowAt off = some (r, addr))
    (hbuf : s.bufAt off = none) (hgate : s.windowGated off = true) : s.readBar0 off 4 true = (s.gatedWindow, 0) := by
  simp [readBar0, readPiece, hbuf, hrow, hgate]

/-! ## Refusals and gated windows -/

/-- 02 R88: the first refused access is captured, its offset cut to the field's 26 bits. -/
theorem hifFault_captures {s : State} (off : Nat) (hvalid : s.fb Fld.HIF_FAULT_STATUS_VALID = false) :
    let u := s.hifFault 0 off
    Keeps [.regs] s u ∧ RegsKeep [Reg.HIF_FAULT_STATUS.addr, Reg.HIF_FAULT_ADDR.addr] s u ∧
      u.fd Fld.HIF_FAULT_STATUS_VALID = 1 ∧ u.fd Fld.HIF_FAULT_STATUS_STATUS = Sts.accessFault ∧
      u.fd Fld.HIF_FAULT_ADDR_OFFSET = off % 2 ^ 26 ∧ u.fd Fld.HIF_FAULT_ADDR_BAR = 0 := by
  have hu : s.hifFault 0 off = ((s.wr Reg.HIF_FAULT_STATUS (2 ^ 31 + Sts.accessFault)).fw Fld.HIF_FAULT_ADDR_OFFSET off).fw
      Fld.HIF_FAULT_ADDR_BAR 0 := by
    simp [hifFault, hvalid]
  have status : ∀ f : Fld, f.reg = Reg.HIF_FAULT_STATUS → f.lo + f.w ≤ 32 →
      (s.hifFault 0 off).fd f = bits (2 ^ 31 + Sts.accessFault) f.lo f.w := by
    intro f hr hf
    have hne : f.reg.addr ≠ Reg.HIF_FAULT_ADDR.addr := by rw [hr]; decide
    rw [hu, fd_fw_ne _ _ _ _ hne, fd_fw_ne _ _ _ _ hne, ← hr]
    exact fd_wr_self s f _ (by rw [hr]; exact hf) (by rw [hr]; decide)
  dsimp only
  refine ⟨?_, ?_, ?_, ?_, ?_, ?_⟩
  · rw [hu]
    exact ((keeps_wr s _ _).trans (keeps_fw _ _ _)).trans (keeps_fw _ _ _)
  · rw [hu]
    have hs : RegsKeep _ s (s.wr Reg.HIF_FAULT_STATUS (2 ^ 31 + Sts.accessFault)) := regsKeep_wr s _ _
    have ho := regsKeep_fw (s.wr Reg.HIF_FAULT_STATUS (2 ^ 31 + Sts.accessFault)) Fld.HIF_FAULT_ADDR_OFFSET off
    have hb := regsKeep_fw ((s.wr Reg.HIF_FAULT_STATUS (2 ^ 31 + Sts.accessFault)).fw Fld.HIF_FAULT_ADDR_OFFSET off)
      Fld.HIF_FAULT_ADDR_BAR 0
    exact ((hs.mono (by simp)).trans (ho.mono (List.subset_cons_self _ _))).trans (hb.mono (List.subset_cons_self _ _))
  · exact status Fld.HIF_FAULT_STATUS_VALID rfl (by decide)
  · exact status Fld.HIF_FAULT_STATUS_STATUS rfl (by decide)
  · rw [hu, fd_fw_apart _ Fld.HIF_FAULT_ADDR_BAR Fld.HIF_FAULT_ADDR_OFFSET 0 rfl (by decide) (by decide) (by decide)]
    exact fd_fw_self _ _ _ (by decide) (by decide)
  · rw [hu]
    exact fd_fw_self _ _ _ (by decide) (by decide)

/-- 02 R88: behind an earlier capture a refused access sets OVERRUN alone. -/
theorem hifFault_overruns {s : State} (bar off : Nat) (hvalid : s.fb Fld.HIF_FAULT_STATUS_VALID = true) :
    s.hifFault bar off = s.fw Fld.HIF_FAULT_STATUS_OVERRUN 1 := by
  simp only [hifFault, hvalid, if_true, fbw, b2n]

/-- 00 R5: an access to a gated window changes the count of such accesses alone. -/
theorem gatedWindow_counts (s : State) :
    Keeps [.regs] s s.gatedWindow ∧ RegsKeep [Reg.DBG_GATED_ACCESS_CNT.addr] s s.gatedWindow ∧
      s.gatedWindow.rd Reg.DBG_GATED_ACCESS_CNT = satAdd (2 ^ 32 - 1) (s.rd Reg.DBG_GATED_ACCESS_CNT) 1 :=
  ⟨keeps_wr s _ _, regsKeep_wr s _ _, rd_bump s _ 1 (by decide)⟩

/-! ## The clauses of O10 that hold

O10 as a whole fails in one corner of its clause on captured writes, below; the rules that its other clauses state hold. -/

/-- A host write of 4 bytes to a plain register that its die reaches: it obeys the access types, or an island that breaks its ratio
may lose it. -/
theorem registerWrite_plain {s : State} {off : Nat} {r : RegRow} (v : Nat) (hrow : rowAt off = some (r, off)) (hal : off % 4 = 0)
    (hin : off + 4 ≤ 2 ^ 26) (hbuf : cmdBuffer off 4 = none) (hopen : s.conf = true → confOpen off = true)
    (hdbg : dbgOff off = false) (hgate : s.windowGated off = false) (hplain : plainRegister r off = true) :
    let new := fun (u : State) => (Cells.get (BitVec.ofNat 64 r.rst) off u.regs).toNat =
      written r (Cells.get (BitVec.ofNat 64 r.rst) off s.regs).toNat (v % 2 ^ 32) (2 ^ 32 - 1) % 2 ^ 64
    ((windowIsland off).any s.busBroken = false →
      Goes (exec (.registerWrite 0 off 4 v) s) (fun u => Keeps [.regs] s u ∧ RegsKeep [off] s u ∧ new u)) ∧
    ((windowIsland off).any s.busBroken = true →
      Goes (exec (.registerWrite 0 off 4 v) s) (fun u => Keeps [.regs, .free] s u ∧ RegsKeep [off] s u ∧
        (u.regs = s.regs ∨ new u))) := by
  obtain ⟨hkept, hbroken⟩ := writePiece_register v hrow hbuf hdbg hgate
  have hgo : exec (.registerWrite 0 off 4 v) s = .next (s.writePiece off 4 v false) :=
    congrArg Host.Outcome.next (barWrite_word v hin hal hbuf hopen)
  refine ⟨fun hbus => ⟨_, hgo, ?_⟩, fun hbus => ⟨_, hgo, ?_⟩⟩
  · rw [hkept hbus]
    exact writeReg_plain hplain s _
  · have hfree : Keeps [.regs, .free] s (s.open_ 1).2 := (keeps_open s 1).mono (by simp)
    rcases hbroken hbus with hlost | hdone
    · rw [hlost]
      exact ⟨hfree, RegsKeep.of_regs_eq rfl, .inl rfl⟩
    · rw [hdone]
      obtain ⟨hk, hr, hn⟩ := writeReg_plain hplain (s.open_ 1).2 (v % 2 ^ 32)
      exact ⟨hfree.trans (hk.mono (by simp)), (RegsKeep.of_regs_eq rfl).trans hr, .inr hn⟩

/-- A refused write inside BAR0 is captured where no capture stands. The statement's clause lacks `off < 2 ^ 26`. -/
theorem registerWrite_refused_captures {s : State} {off w : Nat} (v : Nat) (hlt : off < 2 ^ 26) (hin : off + w ≤ 2 ^ 26)
    (hok : accessOk off w = false) (hbuf : cmdBuffer off w = none) (hvalid : s.fb Fld.HIF_FAULT_STATUS_VALID = false) :
    Goes (exec (.registerWrite 0 off w v) s) (fun u => Keeps [.regs] s u ∧
      RegsKeep [Reg.HIF_FAULT_STATUS.addr, Reg.HIF_FAULT_ADDR.addr] s u ∧ u.fd Fld.HIF_FAULT_STATUS_VALID = 1 ∧
      u.fd Fld.HIF_FAULT_STATUS_STATUS = Sts.accessFault ∧ u.fd Fld.HIF_FAULT_ADDR_OFFSET = off ∧
      u.fd Fld.HIF_FAULT_ADDR_BAR = 0) := by
  obtain ⟨hk, hr, hv, hst, hoff, hbar⟩ := hifFault_captures off hvalid
  exact ⟨_, congrArg Host.Outcome.next (barWrite_refused v hin hok hbuf), hk, hr, hv, hst, hoff.trans (Nat.mod_eq_of_lt hlt), hbar⟩

theorem registerWrite_refused_overruns {s : State} {off w : Nat} (v : Nat) (hin : off + w ≤ 2 ^ 26) (hok : accessOk off w = false)
    (hbuf : cmdBuffer off w = none) (hvalid : s.fb Fld.HIF_FAULT_STATUS_VALID = true) :
    Goes (exec (.registerWrite 0 off w v) s) (fun u => Keeps [.regs] s u ∧ RegsKeep [Reg.HIF_FAULT_STATUS.addr] s u ∧
      u.fd Fld.HIF_FAULT_STATUS_OVERRUN = 1) := by
  have hgo : exec (.registerWrite 0 off w v) s = .next (s.fw Fld.HIF_FAULT_STATUS_OVERRUN 1) :=
    congrArg Host.Outcome.next ((barWrite_refused v hin hok hbuf).trans (hifFault_overruns 0 off hvalid))
  exact ⟨_, hgo, keeps_fw s _ _, regsKeep_fw s Fld.HIF_FAULT_STATUS_OVERRUN 1, fd_fw_self s _ _ (by decide) (by decide)⟩

theorem registerWrite_blocked_counts {s : State} {off w : Nat} (v : Nat) (hin : off + w ≤ 2 ^ 26) (hok : accessOk off w = true)
    (hconf : s.conf = true) (hclosed : confOpen off = false) :
    Goes (exec (.registerWrite 0 off w v) s) (fun u => Keeps [.regs] s u ∧ RegsKeep [Reg.HIF_BLOCKED_CNT.addr] s u ∧
      u.rd Reg.HIF_BLOCKED_CNT = satAdd (2 ^ 32 - 1) (s.rd Reg.HIF_BLOCKED_CNT) 1) :=
  ⟨_, congrArg Host.Outcome.next (barWrite_blocked v hin hok hconf hclosed), keeps_wr s _ _, regsKeep_wr s _ _,
    rd_bump s _ 1 (by decide)⟩

/-- A gated window ignores a write, counted. -/
theorem gatedAccess_write {s : State} {off : Nat} {r : RegRow} {addr : Nat} (hrow : rowAt off = some (r, addr)) (hal : off % 4 = 0)
    (hin : off + 4 ≤ 2 ^ 26) (hbuf : cmdBuffer off 4 = none) (hopen : s.conf = true → confOpen off = true)
    (hdbg : dbgOff off = false) (hgate : s.windowGated off = true) : exec (.gatedAccess off 4 true) s = .next s.gatedWindow := by
  have hle : ¬2 ^ 26 < off + 4 := Nat.not_lt.mpr hin
  change execGatedAccess off 4 true s = _
  simp only [execGatedAccess, hle, accessOk_word hal, confGate_open hopen, hrow, hgate, writeBar0_word,
    writePiece_gated 0 hrow hbuf hdbg hgate, Bool.not_true, Bool.false_eq_true, if_false, Option.isSome_some, Bool.and_self, if_true]

/-- A gated window reads 0, counted. -/
theorem gatedAccess_read {s : State} {off : Nat} {r : RegRow} {addr : Nat} (hrow : rowAt off = some (r, addr)) (hal : off % 4 = 0)
    (hin : off + 4 ≤ 2 ^ 26) (hbuf : s.bufAt off = none) (hopen : s.conf = true → confOpen off = true)
    (hdbg : dbgOff off = false) (hgate : s.windowGated off = true) :
    exec (.gatedAccess off 4 false) s = .next (s.gatedWindow.emit (.barRead off 0)) := by
  have hle : ¬2 ^ 26 < off + 4 := Nat.not_lt.mpr hin
  change execGatedAccess off 4 false s = _
  simp only [execGatedAccess, barRead, hle, accessOk_word hal, confGate_open hopen, hdbg, readBar0_gated hrow hbuf hgate,
    Bool.not_true, Bool.not_false, Bool.false_eq_true, if_false, if_true, BitVec.ofNat_eq_ofNat]

/-- 02 R88: VALID written 1 clears VALID and OVERRUN and leaves the captured status. -/
theorem hifFaultStatusWrite_clears (s : State) {v : BitVec 32} (hv : v.toNat.testBit 31 = true) :
    Goes (exec (.hifFaultStatusWrite v) s) (fun u => Keeps [.regs] s u ∧ RegsKeep [Reg.HIF_FAULT_STATUS.addr] s u ∧
      u.fd Fld.HIF_FAULT_STATUS_VALID = 0 ∧ u.fd Fld.HIF_FAULT_STATUS_OVERRUN = 0 ∧
      u.fd Fld.HIF_FAULT_STATUS_STATUS = s.fd Fld.HIF_FAULT_STATUS_STATUS) := by
  have hgo : exec (.hifFaultStatusWrite v) s =
      .next ((s.fw Fld.HIF_FAULT_STATUS_VALID 0).fw Fld.HIF_FAULT_STATUS_OVERRUN 0) := by
    have hb : bit v.toNat 31 = true := by simpa [bit, Nat.testBit_eq_decide_div_mod_eq] using hv
    change execHifFaultStatusWrite v s = _
    simp only [execHifFaultStatusWrite, faultStatusWrite, hb, if_true, fbw, b2n, Bool.false_eq_true, if_false]
  have apart := fd_fw_apart (s.fw Fld.HIF_FAULT_STATUS_VALID 0) Fld.HIF_FAULT_STATUS_OVERRUN
  refine ⟨_, hgo, (keeps_fw s _ _).trans (keeps_fw _ _ _), (regsKeep_fw s Fld.HIF_FAULT_STATUS_VALID 0).trans
    (regsKeep_fw _ Fld.HIF_FAULT_STATUS_OVERRUN 0), ?_, ?_, ?_⟩
  · rw [apart Fld.HIF_FAULT_STATUS_VALID 0 rfl (by decide) (by decide) (by decide)]
    exact fd_fw_self s _ _ (by decide) (by decide)
  · exact fd_fw_self _ _ _ (by decide) (by decide)
  · rw [apart Fld.HIF_FAULT_STATUS_STATUS 0 rfl (by decide) (by decide) (by decide)]
    exact fd_fw_apart s Fld.HIF_FAULT_STATUS_VALID Fld.HIF_FAULT_STATUS_STATUS 0 rfl (by decide) (by decide) (by decide)

theorem hifFaultStatusWrite_zero (s : State) {v : BitVec 32} (hv : v.toNat.testBit 31 = false) :
    exec (.hifFaultStatusWrite v) s = .next s := by
  have hb : bit v.toNat 31 = false := by simpa [bit, Nat.testBit_eq_decide_div_mod_eq] using hv
  change execHifFaultStatusWrite v s = _
  simp only [execHifFaultStatusWrite, faultStatusWrite, hb, Bool.false_eq_true, if_false]

end State
end Sys2Proof.Machine

namespace Sys2Proof

open Machine Machine.State

/-- Refutes O10: its clause on misaligned writes admits one of no bytes at the end of BAR0, offset 2^26. After reset the module
captures it with the offset cut to the field's 26 bits, so HIF_FAULT_ADDR shows 0 and not 2^26. -/
theorem not_registerAccessesObeyTypes : ¬ Obligations.RegisterAccessesObeyTypes := by
  unfold Obligations.RegisterAccessesObeyTypes
  rintro ⟨-, ⟨-, hcapture, -⟩, -⟩
  have hvalid : State.reset.fb Fld.HIF_FAULT_STATUS_VALID = false := by decide
  obtain ⟨u, hgo, -, -, -, -, hoffset, -⟩ := hcapture State.reset (2 ^ 26) 0 0 (by decide) (by decide) (by decide) hvalid
  have hrun : exec (.registerWrite 0 (2 ^ 26) 0 0) State.reset = .next (State.reset.hifFault 0 (2 ^ 26)) :=
    congrArg Host.Outcome.next (barWrite_refused 0 (by decide) (by decide) (by decide))
  obtain rfl : State.reset.hifFault 0 (2 ^ 26) = u := Host.Outcome.next.inj (hrun.symm.trans hgo)
  obtain ⟨-, -, -, -, hshown, -⟩ := hifFault_captures (2 ^ 26) hvalid
  rw [hshown] at hoffset
  exact absurd hoffset (by decide)

end Sys2Proof
end

section
/-! Frames of the shared operations that tiles and power use, and runs over lists of units. -/

namespace Sys2Proof.Safety

open Sys2Proof.Machine

/-! ## What a frame says about a read -/

theorem RegsKeep.rd {as : List Nat} {s t : State} (h : RegsKeep as s t) {r : Reg} (hr : r.addr ∉ as) : t.rd r = s.rd r :=
  congrArg BitVec.toNat (h _ _ hr)

theorem RegsKeep.fd {as : List Nat} {s t : State} (h : RegsKeep as s t) {f : Fld} (hf : f.reg.addr ∉ as) : t.fd f = s.fd f :=
  congrArg (bits · f.lo f.w) (h.rd hf)

theorem RegsKeep.fb {as : List Nat} {s t : State} (h : RegsKeep as s t) {f : Fld} (hf : f.reg.addr ∉ as) : t.fb f = s.fb f :=
  congrArg (· != 0) (h.fd hf)

theorem Keeps.tile {ps : List Part} {s t : State} (h : Keeps ps s t) (hp : Part.tiles ∉ ps) (x : Nat) : t.tile x = s.tile x :=
  congrArg (Cells.get Tile.idle x) (h .tiles hp)

theorem Keeps.engOf {ps : List Part} {s t : State} (h : Keeps ps s t) (hp : Part.eng ∉ ps) (n : Nat) : t.engOf n = s.engOf n :=
  congrArg (Cells.get Engine.idle n) (h .eng hp)

/-! ## Runs over a list -/

/-- What each step of a run leaves alone, the run leaves alone. -/
theorem Keeps.foldl {α : Type} {ps : List Part} {f : State → α → State} {l : List α} (s : State)
    (h : ∀ u, ∀ a ∈ l, Keeps ps u (f u a)) : Keeps ps s (l.foldl f s) :=
  List.foldlRecOn l f (Keeps.refl ps s) (fun u hu a ha => hu.trans (h u a ha))

theorem RegsKeep.foldl {α : Type} {as : List Nat} {f : State → α → State} {l : List α} (s : State)
    (h : ∀ u, ∀ a ∈ l, RegsKeep as u (f u a)) : RegsKeep as s (l.foldl f s) :=
  List.foldlRecOn l f (RegsKeep.of_regs_eq rfl) (fun u hu a ha => hu.trans (h u a ha))

/-! ## One part replaced -/

theorem keeps_withHif (s : State) (x : Hif) : Keeps [.hif] s { s with hif := x } := by
  intro p hp
  cases p
  case hif => simp at hp
  all_goals rfl

theorem keeps_withLog (s : State) (x : List LogRec) : Keeps [.log] s { s with log := x } := by
  intro p hp
  cases p
  case log => simp at hp
  all_goals rfl

theorem keeps_updPwr (s : State) (f : Pwr → Pwr) : Keeps [.pwr] s (s.updPwr f) := by
  intro p hp
  cases p
  case pwr => simp at hp
  all_goals rfl

@[simp] theorem updPwr_pwr (s : State) (f : Pwr → Pwr) : (s.updPwr f).pwr = f s.pwr := rfl

theorem regsKeep_updPwr (as : List Nat) (s : State) (f : Pwr → Pwr) : RegsKeep as s (s.updPwr f) := RegsKeep.of_regs_eq rfl

theorem keeps_setTile (s : State) (t : Nat) (x : Tile) : Keeps [.tiles] s (s.setTile t x) := by
  intro p hp
  cases p
  case tiles => simp at hp
  all_goals rfl

theorem keeps_regsReset (s : State) (lo n : Nat) : Keeps [.regs] s (s.regsReset lo n) := keeps_withRegs s _

/-! ## Vectors and the trouble log -/

theorem keeps_raise (s : State) (v : Nat) : Keeps [.out, .hif] s (s.raise v) := by
  rcases s.raise_cases v with ⟨-, h⟩ | ⟨-, h⟩
  · rw [h]
    exact (keeps_withHif s _).mono (by simp)
  · rw [h]
    exact (keeps_emit s _).mono (by simp)

theorem keeps_trouble (s : State) (code sev island addr data : Nat) :
    Keeps [.regs, .log, .out, .hif] s (s.trouble code sev island addr data) := by
  have hlogged : Keeps [.regs, .log, .out, .hif] s
      (({ s with log := ⟨s.now, s.rd Reg.RAS_LOG_SEQ, code, sev, island, addr, data⟩ :: s.log } : State).wr Reg.RAS_LOG_SEQ
        (s.rd Reg.RAS_LOG_SEQ + 1)) :=
    ((keeps_withLog s _).mono (by simp)).trans ((keeps_wr _ _ _).mono (by simp))
  simp only [State.trouble]
  split
  · exact hlogged.trans ((keeps_raise _ 2).mono (by simp))
  · exact hlogged

@[simp] theorem trouble_pwr (s : State) (code sev island addr data : Nat) : (s.trouble code sev island addr data).pwr = s.pwr :=
  keeps_trouble s code sev island addr data .pwr (by simp)

theorem regsKeep_trouble (s : State) (code sev island addr data : Nat) :
    RegsKeep [Reg.RAS_LOG_SEQ.addr] s (s.trouble code sev island addr data) := by
  have hseq : RegsKeep [Reg.RAS_LOG_SEQ.addr] s
      (({ s with log := ⟨s.now, s.rd Reg.RAS_LOG_SEQ, code, sev, island, addr, data⟩ :: s.log } : State).wr Reg.RAS_LOG_SEQ
        (s.rd Reg.RAS_LOG_SEQ + 1)) :=
    regsKeep_set s _ _ _
  simp only [State.trouble]
  split
  · exact hseq.trans (RegsKeep.of_regs_eq (keeps_raise _ 2 .regs (by simp)))
  · exact hseq

end Sys2Proof.Safety
end

section
/-! Power management (O52): states asked for and lowered, the cap loop, droop, steps, wakes, temperatures. -/

namespace Sys2Proof.Machine.State

open Sys2Proof.Safety

/-! ## States asked for (16 R557) -/

theorem keeps_pwrSettle (s : State) : Keeps [.regs] s s.pwrSettle :=
  ((keeps_fw s _ _).trans (keeps_fw _ _ _)).trans (keeps_fw _ _ _)

theorem regsKeep_pwrSettle (s : State) : RegsKeep [Reg.PWR_STATUS.addr, Reg.PWR_WAKE_Q.addr] s s.pwrSettle :=
  (((regsKeep_fw s Fld.PWR_STATUS_CAP_LIMITING _).mono (by simp [Fld.PWR_STATUS_CAP_LIMITING])).trans
    ((regsKeep_fw _ Fld.PWR_STATUS_ADMIT_STOPPED _).mono (by simp [Fld.PWR_STATUS_ADMIT_STOPPED]))).trans
    ((regsKeep_fw _ Fld.PWR_WAKE_Q_PENDING _).mono (by simp [Fld.PWR_WAKE_Q_PENDING]))

@[simp] theorem pwrSettle_pwr (s : State) : s.pwrSettle.pwr = s.pwr := keeps_pwrSettle s .pwr (by simp)

/-- A wake that joins the queue changes the queue and what PWR_STATUS and PWR_WAKE_Q show. -/
theorem wakeQueue_frame (s : State) (i : Nat) (ungate : Bool) :
    Keeps [.regs, .pwr] s (s.wakeQueue i ungate) ∧
      RegsKeep [Reg.PWR_STATUS.addr, Reg.PWR_WAKE_Q.addr] s (s.wakeQueue i ungate) ∧
      (s.wakeQueue i ungate).pwr.want = s.pwr.want := by
  simp only [wakeQueue]
  split
  · exact ⟨Keeps.refl _ s, RegsKeep.of_regs_eq rfl, rfl⟩
  · exact ⟨((keeps_updPwr s _).mono (by simp)).trans ((keeps_pwrSettle _).mono (by simp)),
      (regsKeep_updPwr _ s _).trans (regsKeep_pwrSettle _), by rw [pwrSettle_pwr, updPwr_pwr]⟩

/-- A state asked for stands as the island's wanted state; beside it at most a wake is queued. -/
theorem pAsk_frame (s : State) (i st : Nat) :
    Keeps [.regs, .pwr] s (s.pAsk i st) ∧ RegsKeep [Reg.PWR_STATUS.addr, Reg.PWR_WAKE_Q.addr] s (s.pAsk i st) ∧
      (s.pAsk i st).pwr.want = Cells.set 1 i st s.pwr.want := by
  simp only [pAsk]
  split
  · obtain ⟨hk, hr, hw⟩ := wakeQueue_frame ((s.updPwr (fun x => { x with want := Cells.set 1 i st x.want })).updPwr
      (fun x => { x with floors := x.floors ++ [(i, 5)] })) i false
    exact ⟨(((keeps_updPwr s _).trans (keeps_updPwr _ _)).mono (by simp)).trans hk,
      ((regsKeep_updPwr _ s _).trans (regsKeep_updPwr _ _ _)).trans hr, hw⟩
  · exact ⟨(keeps_updPwr s _).mono (by simp), RegsKeep.of_regs_eq rfl, rfl⟩

theorem keeps_pLower (s : State) (i : Nat) : Keeps [.regs, .pwr] s (s.pLower i) := (pAsk_frame s i _).1

theorem regsKeep_pLower (s : State) (i : Nat) : RegsKeep [Reg.PWR_STATUS.addr, Reg.PWR_WAKE_Q.addr] s (s.pLower i) :=
  (pAsk_frame s i _).2.1

@[simp] theorem pWant_pLower_self (s : State) (i : Nat) : (s.pLower i).pWant i = min pFloor (s.pWant i + 1) := by
  rw [pWant, pLower, (pAsk_frame s i _).2.2, Cells.get_set_self]

theorem pWant_pLower_ne (s : State) {i k : Nat} (h : k ≠ i) : (s.pLower i).pWant k = s.pWant k := by
  rw [pWant, pLower, (pAsk_frame s i _).2.2, Cells.get_set_ne _ _ h, pWant]

theorem pWant_congr {s t : State} (h : t.pwr.want = s.pwr.want) (i : Nat) : t.pWant i = s.pWant i :=
  congrArg (Cells.get 1 i) h

@[simp] theorem pWant_pwrSettle (s : State) (i : Nat) : s.pwrSettle.pWant i = s.pWant i :=
  pWant_congr (congrArg Pwr.want (pwrSettle_pwr s)) i

/-- Islands lowered in turn leave every other island's wanted state. -/
theorem pWant_foldl_pLower {l : List Nat} {i : Nat} (h : i ∉ l) (s : State) : (l.foldl pLower s).pWant i = s.pWant i :=
  List.foldlRecOn (motive := fun u => u.pWant i = s.pWant i) l pLower rfl
    (fun u hu _ hk => (pWant_pLower_ne u (ne_of_mem_of_not_mem hk h).symm).trans hu)

/-! ## The power-cap loop (16 R558) -/

/-- CAP_EXCEEDED and its record leave every wanted state. -/
theorem capExceeded_frame (s : State) :
    Keeps [.regs, .pwr, .log, .out, .hif] s s.capExceeded ∧ s.capExceeded.pwr.want = s.pwr.want := by
  have hshown : Keeps [.regs, .pwr, .log, .out, .hif] s (s.fbw Fld.PWR_STATUS_CAP_EXCEEDED true) :=
    (keeps_fw s _ _).mono (by simp)
  simp only [capExceeded]
  split_ifs
  · exact ⟨(hshown.trans ((keeps_updPwr _ _).mono (by simp))).trans ((keeps_trouble _ _ _ _ _ _).mono (by simp)),
      by rw [trouble_pwr, updPwr_pwr, fbw_pwr]⟩
  · exact ⟨hshown, by rw [fbw_pwr]⟩
  · exact ⟨Keeps.refl _ s, rfl⟩

/-- Above the cap the loop lowers one island: of those in the highest state the last tile, the Splint engine before it. -/
theorem capMoves_above {s : State} {k : Nat} (hpeak : s.fd Fld.PWR_POWER_AVG_100US ≤ 1900)
    (hcap : s.fd Fld.PWR_CFG_CAP_W < s.fd Fld.PWR_POWER_AVG_10MS)
    (hk : leastOf s.pTarget (((s.capIslands.filter (fun i => s.pTarget i != pFloor)).filter isSite).reverse ++
      (s.capIslands.filter (fun i => s.pTarget i != pFloor)).filter (fun i => !isSite i)) = some k) :
    s.capMoves = ([k], none) := by
  simp only [capMoves, Nat.not_lt.mpr hpeak, hcap, hk, if_false, if_true]

/-- Between 97 percent of the cap and the cap the loop moves nothing. -/
theorem capMoves_near {s : State} (hpeak : s.fd Fld.PWR_POWER_AVG_100US ≤ 1900)
    (hcap : s.fd Fld.PWR_POWER_AVG_10MS ≤ s.fd Fld.PWR_CFG_CAP_W)
    (hlow : 97 * s.fd Fld.PWR_CFG_CAP_W ≤ s.fd Fld.PWR_POWER_AVG_10MS * 100) : s.capMoves = ([], none) := by
  simp only [capMoves, Nat.not_lt.mpr hpeak, Nat.not_lt.mpr hcap, Nat.not_lt.mpr hlow, if_false]

/-- Where no island is throttled, a period that raises none only lowers what it moves. -/
theorem capLoop_lowers {s : State} {l : List Nat} (hmoves : s.capMoves = (l, none))
    (hcool : ∀ i ∈ s.capIslands, s.fb (Fld.PWR_ISL_THROTTLED i) = false) :
    s.capLoop = (l.foldl pLower s.capExceeded).pwrSettle := by
  have hhot : s.capIslands.filter (fun i => s.fb (Fld.PWR_ISL_THROTTLED i) && !l.contains i) = [] := by
    rw [List.filter_eq_nil_iff]
    intro i hi
    simp [hcool i hi]
  simp only [capLoop, hmoves, hhot, List.append_nil]

/-- A period of the loop that only lowers islands: what it leaves alone, and the wanted states before the lowering. -/
theorem capLoop_lowers_frame (s : State) (l : List Nat) :
    Keeps [.regs, .pwr, .log, .out, .hif] s (l.foldl pLower s.capExceeded).pwrSettle :=
  ((capExceeded_frame s).1.trans ((Keeps.foldl _ (fun u i _ => keeps_pLower u i)).mono (by simp))).trans
    ((keeps_pwrSettle _).mono (by simp))

theorem pWant_capExceeded (s : State) (i : Nat) : s.capExceeded.pWant i = s.pWant i :=
  pWant_congr (capExceeded_frame s).2 i

theorem powerCapLoop_above {s : State} {k : Nat} (hcool : ∀ i ∈ s.capIslands, s.fb (Fld.PWR_ISL_THROTTLED i) = false)
    (hmoves : s.capMoves = ([k], none)) :
    Goes (exec .powerCapLoop s) (fun u => u.pWant k = min pFloor (s.pWant k + 1) ∧ (∀ i, i ≠ k → u.pWant i = s.pWant i) ∧
      u.mem = s.mem ∧ Keeps [.regs, .pwr, .log, .out, .hif] s u) := by
  have hkept := capLoop_lowers_frame s [k]
  refine ⟨_, congrArg Host.Outcome.next (capLoop_lowers hmoves hcool), ?_, fun i hi => ?_, hkept .mem (by simp), hkept⟩
  · rw [pWant_pwrSettle, List.foldl_cons, List.foldl_nil, pWant_pLower_self, pWant_capExceeded]
  · rw [pWant_pwrSettle, List.foldl_cons, List.foldl_nil, pWant_pLower_ne _ hi, pWant_capExceeded]

theorem powerCapLoop_near {s : State} (hcool : ∀ i ∈ s.capIslands, s.fb (Fld.PWR_ISL_THROTTLED i) = false)
    (hmoves : s.capMoves = ([], none)) :
    Goes (exec .powerCapLoop s) (fun u => (∀ i, u.pWant i = s.pWant i) ∧ Keeps [.regs, .pwr, .log, .out, .hif] s u) :=
  ⟨_, congrArg Host.Outcome.next (capLoop_lowers hmoves hcool),
    fun i => (pWant_pwrSettle _ i).trans (pWant_capExceeded s i), capLoop_lowers_frame s []⟩

/-! ## Droop (16 R560, R562) -/

theorem droopDetect_stretches {s : State} {i : Nat} (hcore : corePll i = true) (hon : s.islandOn i = true)
    (hnew : i ∉ s.pwr.stretching) :
    Goes (exec (.droopDetect i) s) (fun u => u.pwr = { s.pwr with stretching := s.pwr.stretching ++ [i] } ∧ Keeps [.pwr] s u) := by
  refine ⟨_, congrArg Host.Outcome.next (if_pos ?_), rfl, keeps_updPwr s _⟩
  simp [hcore, hon, hnew]

theorem droopDetect_ignored {s : State} {i : Nat} (h : corePll i = false ∨ s.islandOn i = false) :
    exec (.droopDetect i) s = .next s := by
  refine congrArg Host.Outcome.next (if_neg ?_)
  rcases h with h | h <;> simp [h]

theorem droopRecover_ends (s : State) (i : Nat) :
    Goes (exec (.droopRecover i) s) (fun u => u.pwr = { s.pwr with stretching := s.pwr.stretching.filter (· != i) } ∧
      Keeps [.pwr] s u) :=
  ⟨_, rfl, rfl, keeps_updPwr s _⟩

/-- STRETCH_MAX of an island brought up to a count of stretched cycles. -/
def stretchMax (s : State) (i cycles : Nat) : State :=
  s.fw (Fld.PWR_ISL_STRETCH_MAX i) (min 511 (max (s.fd (Fld.PWR_ISL_STRETCH_MAX i)) cycles))

theorem fd_stretchMax (s : State) (i cycles : Nat) :
    (s.stretchMax i cycles).fd (Fld.PWR_ISL_STRETCH_MAX i) = min 511 (max (s.fd (Fld.PWR_ISL_STRETCH_MAX i)) cycles) :=
  (fd_fw_self s _ _ (show 16 + 9 ≤ 32 by decide) (show 32 ≤ 64 by decide)).trans
    (Nat.mod_eq_of_lt (show _ < 512 from Nat.lt_succ_of_le (Nat.min_le_left _ _)))

theorem pWant_stretchMax (s : State) (i cycles k : Nat) : (s.stretchMax i cycles).pWant k = s.pWant k :=
  pWant_congr (congrArg Pwr.want (fw_pwr s _ _)) k

theorem pFixed_stretchMax (s : State) (i cycles : Nat) : (s.stretchMax i cycles).pFixed i = s.pFixed i :=
  congrArg (· != 0) (fd_fw_apart s (Fld.PWR_ISL_STRETCH_MAX i) (Fld.PWR_ISL_FIXED i) _ rfl (.inr (show 16 + 9 ≤ 28 by decide))
    (show 28 + 1 ≤ 32 by decide) (show 32 ≤ 64 by decide))

/-- An island's register is none of those that a change of states writes beside it. -/
theorem isl_addr_not_mem (i : Nat) : (Reg.PWR_ISL i).addr ∉ [Reg.PWR_STATUS.addr, Reg.PWR_WAKE_Q.addr] := by
  simp only [Reg.PWR_ISL, Reg.PWR_STATUS, Reg.PWR_WAKE_Q, List.mem_cons, List.not_mem_nil, or_false]
  omega

/-- What a window with stretched cycles does at a clocked island with a core PLL. -/
theorem exec_stretchLimit {s : State} {i : Nat} (cycles : Nat) (hcore : corePll i = true) (hon : s.islandOn i = true) :
    exec (.stretchLimit i cycles) s = .next (
      let w := s.stretchMax i cycles
      if cycles < 240 || !hasPstate i then w
      else if !w.pFixed i then (w.pLower i).pwrSettle
      else (((w.capIslands.filter (fun k => isSite k && onWest k == onWest i)).foldl pLower w).bump
        Reg.PWR_DROOP_EXCESS_CNT 1).pwrSettle) := by
  refine congrArg Host.Outcome.next (if_neg ?_)
  simp [hcore, hon]

theorem stretchLimit_short {s : State} {i cycles : Nat} (hcore : corePll i = true) (hon : s.islandOn i = true)
    (hshort : cycles < 240) :
    Goes (exec (.stretchLimit i cycles) s) (fun u => Keeps [.regs] s u ∧ RegsKeep [(Reg.PWR_ISL i).addr] s u ∧
      u.fd (Fld.PWR_ISL_STRETCH_MAX i) = min 511 (max (s.fd (Fld.PWR_ISL_STRETCH_MAX i)) cycles)) := by
  refine ⟨s.stretchMax i cycles, ?_, keeps_fw s _ _, regsKeep_fw s (Fld.PWR_ISL_STRETCH_MAX i) _, fd_stretchMax s i cycles⟩
  rw [exec_stretchLimit cycles hcore hon]
  simp [hshort]

theorem stretchLimit_lowers {s : State} {i cycles : Nat} (hcore : corePll i = true) (hon : s.islandOn i = true)
    (hlong : 240 ≤ cycles) (hp : hasPstate i = true) (hloose : s.pFixed i = false) :
    Goes (exec (.stretchLimit i cycles) s) (fun u => u.pWant i = min pFloor (s.pWant i + 1) ∧
      (∀ k, k ≠ i → u.pWant k = s.pWant k) ∧
      u.fd (Fld.PWR_ISL_STRETCH_MAX i) = min 511 (max (s.fd (Fld.PWR_ISL_STRETCH_MAX i)) cycles) ∧ Keeps [.regs, .pwr] s u) := by
  refine ⟨((s.stretchMax i cycles).pLower i).pwrSettle, ?_, ?_, fun k hk => ?_, ?_, ?_⟩
  · rw [exec_stretchLimit cycles hcore hon]
    simp [pFixed_stretchMax, hloose, hp, Nat.not_lt.mpr hlong]
  · rw [pWant_pwrSettle, pWant_pLower_self, pWant_stretchMax]
  · rw [pWant_pwrSettle, pWant_pLower_ne _ hk, pWant_stretchMax]
  · rw [(regsKeep_pwrSettle _).fd (isl_addr_not_mem i), (regsKeep_pLower _ i).fd (isl_addr_not_mem i), fd_stretchMax]
  · exact (((keeps_fw s _ _).mono (by simp)).trans (keeps_pLower _ i)).trans ((keeps_pwrSettle _).mono (by simp))

theorem stretchLimit_fixed {s : State} {i cycles : Nat} (hcore : corePll i = true) (hon : s.islandOn i = true)
    (hlong : 240 ≤ cycles) (hp : hasPstate i = true) (hfixed : s.pFixed i = true) :
    Goes (exec (.stretchLimit i cycles) s) (fun u =>
      u.rd Reg.PWR_DROOP_EXCESS_CNT = satAdd (2 ^ 32 - 1) (s.rd Reg.PWR_DROOP_EXCESS_CNT) 1 ∧ u.pWant i = s.pWant i ∧
      Keeps [.regs, .pwr] s u) := by
  have hw : (s.stretchMax i cycles).pFixed i = true := (pFixed_stretchMax s i cycles).trans hfixed
  have hnot : i ∉ (s.stretchMax i cycles).capIslands.filter (fun k => isSite k && onWest k == onWest i) := by
    simp [capIslands, hw]
  refine ⟨((((s.stretchMax i cycles).capIslands.filter (fun k => isSite k && onWest k == onWest i)).foldl pLower
    (s.stretchMax i cycles)).bump Reg.PWR_DROOP_EXCESS_CNT 1).pwrSettle, ?_, ?_, ?_, ?_⟩
  · rw [exec_stretchLimit cycles hcore hon]
    simp [hw, hp, Nat.not_lt.mpr hlong]
  · rw [(regsKeep_pwrSettle _).rd (by decide), rd_bump _ _ _ (by decide),
      (RegsKeep.foldl _ (fun u k _ => regsKeep_pLower u k)).rd (by decide), stretchMax, rd_fw_ne]
    · rfl
    · show 0x400028 ≠ 0x400100 + 4 * i
      omega
  · rw [pWant_pwrSettle, pWant_congr (congrArg Pwr.want (bump_pwr _ _ _)), pWant_foldl_pLower hnot, pWant_stretchMax]
  · exact ((((keeps_fw s _ _).mono (by simp)).trans (Keeps.foldl _ (fun u k _ => keeps_pLower u k))).trans
      ((keeps_wr _ _ _).mono (by simp))).trans ((keeps_pwrSettle _).mono (by simp))

/-! ## Steps (16 R555) -/

theorem exec_pstateStep {i : Nat} (hi : i < 100) (s : State) : exec (.pstateStep i) s = .next (s.pStep i) :=
  congrArg Host.Outcome.next (if_pos hi)

theorem pVolt_set (s : State) (i v : Nat) : (s.updPwr (fun x => { x with volt := Cells.set 850 i v x.volt })).pVolt i = v :=
  Cells.get_set_self _ _ _ _

/-- The voltage of an island set, its state as before. -/
theorem pVolt_set_frame (s : State) (i v : Nat) :
    let u := s.updPwr (fun x => { x with volt := Cells.set 850 i v x.volt })
    u.pVolt i = v ∧ u.pState i = s.pState i ∧ Keeps [.pwr] s u :=
  ⟨pVolt_set s i v, (regsKeep_updPwr [] s _).fd (by simp), keeps_updPwr s _⟩

/-- The state an island runs in set, its voltage as before. -/
theorem pState_set_frame (s : State) (i : Nat) {st : Nat} (h : st ≤ pFloor) :
    let u := s.fw (Fld.PWR_ISL_PSTATE i) st
    u.pState i = st ∧ u.pVolt i = s.pVolt i ∧ Keeps [.regs] s u ∧ RegsKeep [(Reg.PWR_ISL i).addr] s u := by
  refine ⟨?_, congrArg (Cells.get 850 i) (congrArg Pwr.volt (fw_pwr s _ _)), keeps_fw s _ _,
    regsKeep_fw s (Fld.PWR_ISL_PSTATE i) st⟩
  refine (fd_fw_self s (Fld.PWR_ISL_PSTATE i) st (show 29 + 3 ≤ 32 by decide) (show 32 ≤ 64 by decide)).trans ?_
  exact Nat.mod_eq_of_lt (lt_of_le_of_lt h (show 4 < 2 ^ 3 by decide))

section
variable {s : State} {i : Nat} (hi : i < 100)
include hi

/-- On the way up the voltage rises first, by 10 mV at most. -/
theorem pstateStep_volt_up (hup : s.pTarget i < s.pState i) (hp : hasPstate i = true) (hv : s.pVolt i < milliVolts (s.pTarget i)) :
    Goes (exec (.pstateStep i) s) (fun u => u.pVolt i = min (milliVolts (s.pTarget i)) (s.pVolt i + 10) ∧
      u.pState i = s.pState i ∧ Keeps [.pwr] s u) := by
  refine ⟨_, exec_pstateStep hi s, ?_⟩
  simp only [pStep, hup, hp, hv, if_true, decide_true, Bool.and_self]
  exact pVolt_set_frame s i _

/-- On the way up the frequency follows once the voltage is there. -/
theorem pstateStep_freq_up (ht : s.pTarget i ≤ pFloor) (hup : s.pTarget i < s.pState i)
    (hv : hasPstate i = false ∨ milliVolts (s.pTarget i) ≤ s.pVolt i) :
    Goes (exec (.pstateStep i) s) (fun u => u.pState i = s.pTarget i ∧ u.pVolt i = s.pVolt i ∧ Keeps [.regs] s u ∧
      RegsKeep [(Reg.PWR_ISL i).addr] s u) := by
  have hready : (hasPstate i && decide (s.pVolt i < milliVolts (s.pTarget i))) = false := by
    rcases hv with hv | hv <;> simp [hv]
  refine ⟨_, exec_pstateStep hi s, ?_⟩
  simp only [pStep, hup, hready, if_true, Bool.false_eq_true, if_false]
  exact pState_set_frame s i ht

/-- On the way down the frequency falls first. -/
theorem pstateStep_freq_down (ht : s.pTarget i ≤ pFloor) (hdown : s.pState i < s.pTarget i) :
    Goes (exec (.pstateStep i) s) (fun u => u.pState i = s.pTarget i ∧ u.pVolt i = s.pVolt i ∧ Keeps [.regs] s u ∧
      RegsKeep [(Reg.PWR_ISL i).addr] s u) := by
  refine ⟨_, exec_pstateStep hi s, ?_⟩
  simp only [pStep, hdown, Nat.not_lt.mpr hdown.le, if_true, if_false]
  exact pState_set_frame s i ht

/-- On the way down the voltage follows, by 10 mV at most. -/
theorem pstateStep_volt_down (hsame : s.pState i = s.pTarget i) (hp : hasPstate i = true)
    (hv : milliVolts (s.pTarget i) < s.pVolt i) :
    Goes (exec (.pstateStep i) s) (fun u => u.pVolt i = max (milliVolts (s.pTarget i)) (s.pVolt i - 10) ∧
      u.pState i = s.pState i ∧ Keeps [.pwr] s u) := by
  refine ⟨_, exec_pstateStep hi s, ?_⟩
  simp only [pStep, hsame, lt_irrefl, hp, hv, if_true, if_false, decide_true, Bool.and_self]
  exact (pVolt_set_frame s i _).imp_right (fun h => ⟨h.1.trans hsame, h.2⟩)

theorem pstateStep_done (hsame : s.pState i = s.pTarget i) (hv : hasPstate i = false ∨ s.pVolt i ≤ milliVolts (s.pTarget i)) :
    exec (.pstateStep i) s = .next s := by
  have hready : (hasPstate i && decide (milliVolts (s.pTarget i) < s.pVolt i)) = false := by
    rcases hv with hv | hv <;> simp [hv]
  rw [exec_pstateStep hi]
  simp only [pStep, hsame, lt_irrefl, hready, if_false, Bool.false_eq_true]

end

/-! ## Wakes (16 R563) -/

/-- The next wake taken off the queue, its time noted. -/
def wakeTaken (s : State) (l : List (Nat × Bool)) : State :=
  s.updPwr (fun x => { x with wakes := l, started := s.now :: x.started.filter (fun t => decide (s.now < t + 100000)) })

/-- An island out of the floor state in which it waited for its wake. -/
def leaveFloor (s : State) (i : Nat) : State :=
  (s.updPwr (fun x => { x with floors := x.floors.filter (fun e => e != (i, 5)) })).fbw (Fld.PWR_ISL_FORCED_FLOOR i) false

/-- The move whose spare site an ungated island is starts to copy (19 R623). -/
def moveStarts (s : State) (i : Nat) : State :=
  { s with ras := { s.ras with moves := s.ras.moves.map (fun m =>
      if m.quiet && isSite i && m.spare == islandSite i then { m with copying := true } else m) } }

theorem exec_wakeAdmit_floor {s : State} {i : Nat} {l : List (Nat × Bool)} (hmay : s.wakeMay = true)
    (hq : s.pwr.wakes = (i, false) :: l) : exec .wakeAdmit s = .next ((s.wakeTaken l).leaveFloor i).pwrSettle := by
  refine congrArg Host.Outcome.next ?_
  simp only [wakeStart, hq, hmay, Bool.not_true, Bool.false_eq_true, if_false]
  rfl

theorem exec_wakeAdmit_gated {s : State} {i : Nat} {l : List (Nat × Bool)} (hmay : s.wakeMay = true)
    (hq : s.pwr.wakes = (i, true) :: l) : exec .wakeAdmit s = .next (((s.wakeTaken l).ungate i).moveStarts i).pwrSettle := by
  refine congrArg Host.Outcome.next ?_
  simp only [wakeStart, hq, hmay, Bool.not_true, Bool.false_eq_true, if_false, if_true]
  rfl

theorem wakeAdmit_waits {s : State} (h : s.pwr.wakes = [] ∨ s.wakeMay = false) : exec .wakeAdmit s = .next s := by
  refine congrArg Host.Outcome.next ?_
  rcases h with h | h
  · simp only [wakeStart, h]
  · simp only [wakeStart, h, Bool.not_false, if_true]
    split <;> rfl

theorem wakeAdmit_leaves_floor {s : State} {i : Nat} {l : List (Nat × Bool)} (hmay : s.wakeMay = true)
    (hq : s.pwr.wakes = (i, false) :: l) :
    Goes (exec .wakeAdmit s) (fun u => u.pwr.wakes = l ∧ (i, 5) ∉ u.pwr.floors ∧
      u.fb (Fld.PWR_ISL_FORCED_FLOOR i) = false ∧ s.now ∈ u.pwr.started ∧ Keeps [.regs, .pwr] s u) := by
  have hpwr : ((s.wakeTaken l).leaveFloor i).pwrSettle.pwr = { s.pwr with
      wakes := l, started := s.now :: s.pwr.started.filter (fun t => decide (s.now < t + 100000)),
      floors := s.pwr.floors.filter (fun e => e != (i, 5)) } := by
    rw [pwrSettle_pwr]
    rfl
  refine ⟨_, exec_wakeAdmit_floor hmay hq, by rw [hpwr], ?_, ?_, ?_, ?_⟩
  · rw [hpwr]
    simp
  · rw [(regsKeep_pwrSettle _).fb (isl_addr_not_mem i)]
    exact congrArg (· != 0) (fd_fw_self _ (Fld.PWR_ISL_FORCED_FLOOR i) 0 (show 26 + 1 ≤ 32 by decide) (show 32 ≤ 64 by decide))
  · rw [hpwr]
    exact List.mem_cons_self
  · exact (((keeps_updPwr s _).mono (by simp)).trans (((keeps_updPwr _ _).mono (by simp)).trans
      ((keeps_fw _ _ _).mono (by simp)))).trans ((keeps_pwrSettle _).mono (by simp))

/-- An island whose clock is set is clocked. -/
theorem islandOn_setClk (s : State) {i : Nat} (hi : i < 100) : (s.setClk i true).islandOn i = true := by
  have hset : ∀ (r : Reg) (k : Nat), r.width = 64 → k < 64 → bit ((s.wr r (setBits (s.rd r) k 1 1)).rd r) k = true := by
    intro r k hw hk
    have hb : bits (setBits (s.rd r) k 1 1 % 2 ^ 64) k 1 = 1 := by
      rw [bits_mod_two_pow _ (by omega), bits_setBits_self]
      rfl
    rw [rd_wr_self _ _ _ (by omega), hw]
    exact beq_iff_eq.mpr hb
  simp only [setClk, islandOn, b2n, if_true]
  split
  · exact hset Reg.CLK_EN0 i rfl (by assumption)
  · exact hset Reg.CLK_EN1 (i - 64) rfl (by omega)

theorem keeps_setClk (s : State) (i : Nat) (b : Bool) : Keeps [.regs] s (s.setClk i b) := by
  simp only [setClk]
  split <;> exact keeps_wr s _ _

/-- An island clocked again loses what its unit's registers, its tile's record, the plant ports or the pair held. -/
theorem keeps_islandFresh (s : State) (i : Nat) : Keeps [.regs, .tiles, .plt, .pair] s (s.islandFresh i) := by
  unfold islandFresh
  extract_lets w
  have hcounters : Keeps [.regs, .tiles, .plt, .pair] s w := by
    simp only [w]
    split
    · exact (keeps_regsReset s _ _).mono (by simp)
    · exact Keeps.refl _ s
  refine hcounters.trans ?_
  clear_value w
  have hreset : ∀ lo n, Keeps [.regs, .tiles, .plt, .pair] w (w.regsReset lo n) := fun lo n =>
    (keeps_regsReset w lo n).mono (by simp)
  split
  · split
    · exact (hreset _ _).trans ((keeps_setTile _ _ _).mono (by simp))
    · exact hreset _ _
  · split_ifs
    · exact hreset _ _
    · refine Keeps.trans (t := { w with plt := (.start, .start) }) ?_
        (((keeps_regsReset _ _ _).trans (keeps_fw _ _ _)).mono (by simp))
      intro p hp
      cases p
      case plt => simp at hp
      all_goals rfl
    · refine Keeps.trans (t := { w with pair := { Pair.off with conds := w.pair.conds, healthy := w.pair.healthy } }) ?_
        (((keeps_regsReset _ _ _).trans (keeps_fw _ _ _)).mono (by simp))
      intro p hp
      cases p
      case pair => simp at hp
      all_goals rfl
    · exact Keeps.refl _ w

theorem gateCmd_congr {s t : State} (h : t.mcc = s.mcc) (i : Nat) : t.gateCmd i = s.gateCmd i := by rw [gateCmd, h, gateCmd]

/-- An island ungated for no command is clocked, and no command is answered. -/
theorem ungate_silent {s : State} {i : Nat} (h : s.gateCmd i = false) : s.ungate i = (s.islandFresh i).setClk i true := by
  have hm : ((s.islandFresh i).setClk i true).mcc = s.mcc :=
    ((keeps_setClk _ i true) .mcc (by simp)).trans (keeps_islandFresh s i .mcc (by simp))
  simp only [ungate, gateCmd_congr hm, h, Bool.false_eq_true, if_false]

theorem islandOn_congr {s t : State} (h0 : t.rd Reg.CLK_EN0 = s.rd Reg.CLK_EN0) (h1 : t.rd Reg.CLK_EN1 = s.rd Reg.CLK_EN1)
    (i : Nat) : t.islandOn i = s.islandOn i := by
  simp only [islandOn, h0, h1]

theorem wakeAdmit_ungates {s : State} {i : Nat} {l : List (Nat × Bool)} (hi : i < 100) (hmay : s.wakeMay = true)
    (hq : s.pwr.wakes = (i, true) :: l) (hno : s.gateCmd i = false) :
    Goes (exec .wakeAdmit s) (fun u => u.pwr.wakes = l ∧ u.islandOn i = true ∧ s.now ∈ u.pwr.started ∧ u.mem = s.mem) := by
  have hungate : (s.wakeTaken l).ungate i = ((s.wakeTaken l).islandFresh i).setClk i true := ungate_silent hno
  have hkept : Keeps [.regs, .tiles, .plt, .pair, .ras] (s.wakeTaken l) (((s.wakeTaken l).ungate i).moveStarts i).pwrSettle := by
    rw [hungate]
    refine (((keeps_islandFresh _ i).trans ((keeps_setClk _ i true).mono (by simp))).mono (by simp)).trans
      (Keeps.trans (t := moveStarts _ i) ?_ ((keeps_pwrSettle _).mono (by simp)))
    intro p hp
    cases p
    case ras => simp at hp
    all_goals rfl
  have hpwr := hkept .pwr (by simp)
  refine ⟨_, exec_wakeAdmit_gated hmay hq, congrArg Pwr.wakes hpwr, ?_, ?_, hkept .mem (by simp)⟩
  · have hclk := (regsKeep_pwrSettle (((s.wakeTaken l).ungate i).moveStarts i))
    rw [islandOn_congr (hclk.rd (by decide)) (hclk.rd (by decide)), hungate]
    exact islandOn_setClk _ hi
  · rw [show _ = _ from hpwr]
    exact List.mem_cons_self

/-! ## Temperatures (16 R566; 01 R36) -/

/-- What a report of temperatures shows of the islands, THROTTLED and TEMP_C, reads as before, and memory is as before. -/
structure HeatKeep (s t : State) : Prop where
  throttled : ∀ i, i < 100 → t.fd (Fld.PWR_ISL_THROTTLED i) = s.fd (Fld.PWR_ISL_THROTTLED i)
  temp : ∀ i, i < 100 → t.fd (Fld.PWR_ISL_TEMP_C i) = s.fd (Fld.PWR_ISL_TEMP_C i)
  mem : t.mem = s.mem

theorem HeatKeep.trans {s t u : State} (h : HeatKeep s t) (h' : HeatKeep t u) : HeatKeep s u :=
  ⟨fun i hi => (h'.throttled i hi).trans (h.throttled i hi), fun i hi => (h'.temp i hi).trans (h.temp i hi), h'.mem.trans h.mem⟩

theorem heatKeep_of_eq {s t : State} (hr : t.regs = s.regs) (hm : t.mem = s.mem) : HeatKeep s t :=
  ⟨fun _ _ => fd_congr hr _, fun _ _ => fd_congr hr _, hm⟩

theorem HeatKeep.refl (s : State) : HeatKeep s s := heatKeep_of_eq rfl rfl

theorem HeatKeep.foldl {α : Type} {f : State → α → State} {l : List α} (s : State) (h : ∀ u, ∀ a ∈ l, HeatKeep u (f u a)) :
    HeatKeep s (l.foldl f s) :=
  List.foldlRecOn l f (HeatKeep.refl s) (fun u hu a ha => hu.trans (h u a ha))

/-- A register outside the islands' own. -/
theorem heatKeep_wr (s : State) (r : Reg) (v : Nat) (h : r.addr < 0x400100 ∨ 0x400290 ≤ r.addr) : HeatKeep s (s.wr r v) := by
  have hne : ∀ i, i < 100 → (Reg.PWR_ISL i).addr ≠ r.addr := fun i hi => by
    simp only [Reg.PWR_ISL]
    omega
  exact ⟨fun i hi => fd_wr_ne s r _ v (hne i hi), fun i hi => fd_wr_ne s r _ v (hne i hi), rfl⟩

theorem heatKeep_fw (s : State) (f : Fld) (v : Nat) (h : f.reg.addr < 0x400100 ∨ 0x400290 ≤ f.reg.addr) : HeatKeep s (s.fw f v) :=
  heatKeep_wr s _ _ h

/-- A field of an island's register apart from one of the same place at every island. -/
theorem fd_fw_isl_apart (s : State) {lo w lo' w' : Nat} (i j v : Nat) (hsep : lo' + w' ≤ lo ∨ lo + w ≤ lo') (hw : lo' + w' ≤ 32) :
    (s.fw ⟨Reg.PWR_ISL i, lo, w⟩ v).fd ⟨Reg.PWR_ISL j, lo', w'⟩ = s.fd ⟨Reg.PWR_ISL j, lo', w'⟩ := by
  by_cases hij : j = i
  · subst hij
    exact fd_fw_apart s _ _ v rfl hsep hw (show 32 ≤ 64 by decide)
  · refine fd_fw_ne s _ _ v ?_
    simp only [Reg.PWR_ISL]
    omega

/-- PSTATE and FORCED_FLOOR lie above what a report shows. -/
theorem heatKeep_fw_isl (s : State) {lo w : Nat} (i v : Nat) (h : 28 ≤ lo ∨ (lo = 26 ∧ w = 1)) :
    HeatKeep s (s.fw ⟨Reg.PWR_ISL i, lo, w⟩ v) :=
  ⟨fun j _ => fd_fw_isl_apart s i j v (by omega) (by decide), fun j _ => fd_fw_isl_apart s i j v (by omega) (by decide), rfl⟩

theorem heatKeep_updPwr (s : State) (f : Pwr → Pwr) : HeatKeep s (s.updPwr f) := heatKeep_of_eq rfl rfl

theorem heatKeep_pwrSettle (s : State) : HeatKeep s s.pwrSettle :=
  ((heatKeep_fw s _ _ (.inl (by decide))).trans (heatKeep_fw _ _ _ (.inl (by decide)))).trans
    (heatKeep_fw _ _ _ (.inl (by decide)))

theorem heatKeep_wakeQueue (s : State) (i : Nat) (ungate : Bool) : HeatKeep s (s.wakeQueue i ungate) := by
  simp only [wakeQueue]
  split
  · exact HeatKeep.refl s
  · exact (heatKeep_updPwr s _).trans (heatKeep_pwrSettle _)

theorem heatKeep_floorIn (s : State) (cause i : Nat) : HeatKeep s (s.floorIn cause i) := by
  have hheld : HeatKeep s (if s.pwr.floors.contains (i, cause) then s
      else s.updPwr (fun x => { x with floors := x.floors ++ [(i, cause)] })) := by
    split <;> exact heatKeep_of_eq rfl rfl
  simp only [floorIn]
  have hstate := hheld.trans (heatKeep_fw_isl _ (lo := 29) (w := 3) i pFloor (.inl (by decide)))
  split
  · exact hstate.trans (heatKeep_fw_isl _ (lo := 26) (w := 1) i _ (.inr ⟨rfl, rfl⟩))
  · exact hstate

theorem heatKeep_floorOut (s : State) (cause : Nat) (l : List Nat) : HeatKeep s (s.floorOut cause l) := by
  simp only [floorOut]
  refine (heatKeep_updPwr s _).trans (HeatKeep.foldl _ (fun u i _ => ?_))
  split
  · exact heatKeep_fw_isl u (lo := 26) (w := 1) i _ (.inr ⟨rfl, rfl⟩)
  · exact (heatKeep_updPwr u _).trans (heatKeep_wakeQueue _ i false)

theorem heatKeep_trouble (s : State) (code sev island addr data : Nat) : HeatKeep s (s.trouble code sev island addr data) := by
  have hr := regsKeep_trouble s code sev island addr data
  have hne : ∀ i, i < 100 → (Reg.PWR_ISL i).addr ∉ [Reg.RAS_LOG_SEQ.addr] := fun i hi => by
    simp only [Reg.PWR_ISL, Reg.RAS_LOG_SEQ, List.mem_singleton]
    omega
  exact ⟨fun i hi => hr.fd (hne i hi), fun i hi => hr.fd (hne i hi), keeps_trouble s code sev island addr data .mem (by simp)⟩

/-! What the Rim lane and Pairing do when the lane pauses stays outside the islands' registers. -/

theorem heatKeep_withPair (s : State) (x : Pair) : HeatKeep s { s with pair := x } := heatKeep_of_eq rfl rfl

theorem heatKeep_withRim (s : State) (x : Rim) : HeatKeep s { s with rim := x } := heatKeep_of_eq rfl rfl

theorem heatKeep_setRole (s : State) {n : Nat} (role : Nat) : HeatKeep s (s.setRole n role) := by
  simp only [setRole]
  split
  · exact HeatKeep.refl s
  · refine (heatKeep_fw s (Fld.PAIR_SVC_STATUS_ROLE n) role (.inr ?_)).trans (heatKeep_withPair _ _)
    simp only [Fld.PAIR_SVC_STATUS_ROLE, Reg.PAIR_SVC_STATUS]
    omega

theorem heatKeep_updSvc (s : State) (n : Nat) (f : PairSvc → PairSvc) : HeatKeep s (s.updSvc n f) :=
  heatKeep_withPair s _

theorem heatKeep_pairSend (s : State) (type svc body : Nat) : HeatKeep s (s.pairSend type svc body) := by
  simp only [pairSend]
  split <;> exact heatKeep_of_eq rfl rfl

theorem heatKeep_askKat (s : State) (slot time : Nat) : HeatKeep s (s.askKat slot time) := heatKeep_withRim s _

theorem heatKeep_pairCheck (s : State) : HeatKeep s s.pairCheck := by
  unfold pairCheck
  extract_lets failing back sFailed sTold sBack healthy
  have hfailed : HeatKeep s sFailed :=
    HeatKeep.foldl _ fun u e _ => (heatKeep_setRole u 4).trans (heatKeep_updSvc _ e.1 _)
  have htold : HeatKeep sFailed sTold := HeatKeep.foldl _ fun u c _ => by
    split
    · exact HeatKeep.refl u
    · exact heatKeep_pairSend u _ _ _
  have hback : HeatKeep sTold sBack := HeatKeep.foldl _ fun u n _ => by
    have hrun : HeatKeep (u.setRole n 1) ((u.setRole n 1).fw (Fld.PAIR_SVC_STATUS_MATCH_RUN n) 0) :=
      heatKeep_fw _ (Fld.PAIR_SVC_STATUS_MATCH_RUN n) 0 (.inr (by simp only [Fld.PAIR_SVC_STATUS_MATCH_RUN, Reg.PAIR_SVC_STATUS]; omega))
    have hreset := ((heatKeep_setRole u (n := n) 1).trans hrun).trans (heatKeep_updSvc _ n (fun x => { x with passed := false }))
    dsimp only
    split
    · exact hreset.trans (heatKeep_askKat _ _ _)
    · exact hreset
  exact ((hfailed.trans htold).trans hback).trans (heatKeep_withPair sBack _)

theorem heatKeep_laneTo (s : State) (st : Nat) : HeatKeep s (s.laneTo st) := by
  simp only [laneTo]
  refine HeatKeep.trans (HeatKeep.trans ?_ (heatKeep_fw _ _ _ (.inr (by decide)))) (heatKeep_pairCheck _)
  split
  · exact HeatKeep.refl s
  · refine (heatKeep_withRim s _).trans (HeatKeep.foldl _ fun u t _ => ?_)
    split <;> exact heatKeep_of_eq rfl rfl

theorem heatKeep_lanePause (s : State) (c : Nat) : HeatKeep s (s.lanePause c) := by
  have hpause : ∀ u : State, HeatKeep u (if u.lane = 2 then u.laneTo 3 else u) := fun u => by
    split
    · exact heatKeep_laneTo u 3
    · exact HeatKeep.refl u
  unfold lanePause
  refine HeatKeep.trans ?_ (hpause _)
  split
  · exact HeatKeep.refl s
  · exact heatKeep_withRim s _

theorem heatKeep_laneHeat (s : State) : HeatKeep s s.laneHeat := by
  simp only [laneHeat]
  refine HeatKeep.foldl s fun u e _ => ?_
  split
  · exact heatKeep_lanePause u _
  · exact heatKeep_withRim u _

theorem heatKeep_neighbourFloor (s : State) (temps : List Nat) (i : Nat) : HeatKeep s (s.neighbourFloor temps i) := by
  simp only [neighbourFloor, troubleRule]
  split_ifs
  · exact HeatKeep.refl s
  · exact (heatKeep_floorOut s 3 [i]).trans (heatKeep_trouble _ _ _ _ _ _)
  · exact (heatKeep_floorIn s 3 i).trans (heatKeep_trouble _ _ _ _ _ _)
  · exact HeatKeep.refl s

/-! THROTTLED by temperature (16 R566), with its hysteresis between 92 and 95 degrees. -/

/-- THROTTLED after a report of `t` degrees. -/
def throttledAt (t : Nat) (old : Bool) : Bool := if 95 ≤ t then true else if t ≤ 92 then false else old

theorem throttledAt_idem (t : Nat) (old : Bool) : throttledAt t (throttledAt t old) = throttledAt t old := by
  unfold throttledAt
  split_ifs <;> rfl

theorem fb_fbw_isl_throttled (s : State) (i : Nat) (b : Bool) :
    (s.fbw (Fld.PWR_ISL_THROTTLED i) b).fb (Fld.PWR_ISL_THROTTLED i) = b := by
  rw [fb, fbw, fd_fw_self s (Fld.PWR_ISL_THROTTLED i) _ (show 27 + 1 ≤ 32 by decide) (show 32 ≤ 64 by decide)]
  cases b <;> rfl

/-- What one island's report does to what the module shows: its own flag, no other's, no temperature, no memory. -/
structure Throttled (s u : State) (i t : Nat) : Prop where
  own : u.fb (Fld.PWR_ISL_THROTTLED i) = throttledAt t (s.fb (Fld.PWR_ISL_THROTTLED i))
  other : ∀ j, j < 100 → j ≠ i → u.fb (Fld.PWR_ISL_THROTTLED j) = s.fb (Fld.PWR_ISL_THROTTLED j)
  temp : ∀ j, j < 100 → u.fd (Fld.PWR_ISL_TEMP_C j) = s.fd (Fld.PWR_ISL_TEMP_C j)
  mem : u.mem = s.mem

theorem HeatKeep.fb_throttled {s t : State} (h : HeatKeep s t) {i : Nat} (hi : i < 100) :
    t.fb (Fld.PWR_ISL_THROTTLED i) = s.fb (Fld.PWR_ISL_THROTTLED i) := congrArg (· != 0) (h.throttled i hi)

/-- A flag written as the temperature asks, and then nothing else that a report shows. -/
theorem throttled_of_fbw {s u : State} {i t : Nat} (b : Bool) (hi : i < 100)
    (hb : b = throttledAt t (s.fb (Fld.PWR_ISL_THROTTLED i))) (h : HeatKeep (s.fbw (Fld.PWR_ISL_THROTTLED i) b) u) :
    Throttled s u i t := by
  refine ⟨((h.fb_throttled hi).trans (fb_fbw_isl_throttled s i b)).trans hb, fun j hj hji => (h.fb_throttled hj).trans ?_,
    fun j hj => (h.temp j hj).trans (fd_fw_isl_apart s (lo := 27) (w := 1) i j _ (by decide) (by decide)),
    h.mem.trans (fbw_mem s _ b)⟩
  refine congrArg (· != 0) (fd_fw_ne s _ _ _ ?_)
  simp only [Fld.PWR_ISL_THROTTLED, Reg.PWR_ISL]
  omega

theorem throttle_throttled (s : State) {i : Nat} (t : Nat) (hi : i < 100) : Throttled s (s.throttle i t) i t := by
  simp only [throttle]
  split
  case isTrue hhot =>
    refine throttled_of_fbw true hi (if_pos hhot).symm ?_
    split
    · exact heatKeep_floorIn _ 4 i
    · exact HeatKeep.refl _
  case isFalse hhot =>
    split
    case isTrue hcool =>
      exact throttled_of_fbw false hi ((if_neg hhot).trans (if_pos hcool)).symm (heatKeep_floorOut _ 4 [i])
    case isFalse hwarm =>
      exact ⟨((if_neg hhot).trans (if_neg hwarm)).symm, fun _ _ _ => rfl, fun _ _ => rfl, rfl⟩

/-- After the reports of a list of islands each of them is throttled as its temperature asks, and no other. -/
theorem foldl_throttle (temps : Nat → Nat) (l : List Nat) (hl : ∀ i ∈ l, i < 100) (s : State) :
    let u := l.foldl (fun s i => s.throttle i (temps i)) s
    (∀ i, i < 100 → u.fb (Fld.PWR_ISL_THROTTLED i) =
      if i ∈ l then throttledAt (temps i) (s.fb (Fld.PWR_ISL_THROTTLED i)) else s.fb (Fld.PWR_ISL_THROTTLED i)) ∧
    (∀ i, i < 100 → u.fd (Fld.PWR_ISL_TEMP_C i) = s.fd (Fld.PWR_ISL_TEMP_C i)) ∧ u.mem = s.mem := by
  induction l generalizing s with
  | nil => exact ⟨fun _ _ => by simp, fun _ _ => rfl, rfl⟩
  | cons k l ih =>
    have hk := throttle_throttled s (temps k) (hl k List.mem_cons_self)
    obtain ⟨hflag, htemp, hmem⟩ := ih (fun i hi => hl i (List.mem_cons_of_mem k hi)) (s.throttle k (temps k))
    refine ⟨fun i hi => (hflag i hi).trans ?_, fun i hi => (htemp i hi).trans (hk.temp i hi), hmem.trans hk.mem⟩
    by_cases hik : i = k
    · subst hik
      simp only [hk.own, throttledAt_idem, List.mem_cons_self, if_true, ite_self]
    · simp only [hk.other i hi hik, List.mem_cons, hik, false_or]

/-- The temperatures put into the registers of a list of islands. -/
def showTemps (s : State) (temps : List Nat) (l : List Nat) : State :=
  l.foldl (fun s i => s.fw (Fld.PWR_ISL_TEMP_C i) (min 255 (temps.getD i 0))) s

theorem fd_temp_showTemps (temps : List Nat) {l : List Nat} {i : Nat} (hi : i ∈ l) (s : State) :
    (s.showTemps temps l).fd (Fld.PWR_ISL_TEMP_C i) = min 255 (temps.getD i 0) := by
  have hself : ∀ u : State, (u.fw (Fld.PWR_ISL_TEMP_C i) (min 255 (temps.getD i 0))).fd (Fld.PWR_ISL_TEMP_C i) =
      min 255 (temps.getD i 0) := fun u =>
    (fd_fw_self u (Fld.PWR_ISL_TEMP_C i) _ (show 8 + 8 ≤ 32 by decide) (show 32 ≤ 64 by decide)).trans
      (Nat.mod_eq_of_lt (show _ < 256 by omega))
  induction l using List.reverseRecOn with
  | nil => simp at hi
  | append_singleton l k ih =>
    rw [showTemps, List.foldl_concat]
    by_cases hik : i = k
    · subst hik
      exact hself _
    · have hil : i ∈ l := by simpa [hik] using hi
      refine (fd_fw_ne _ _ _ _ ?_).trans (ih hil)
      simp only [Fld.PWR_ISL_TEMP_C, Reg.PWR_ISL]
      omega

theorem fd_throttled_showTemps (s : State) (temps l : List Nat) (i : Nat) :
    (s.showTemps temps l).fd (Fld.PWR_ISL_THROTTLED i) = s.fd (Fld.PWR_ISL_THROTTLED i) :=
  List.foldlRecOn (motive := fun u => u.fd (Fld.PWR_ISL_THROTTLED i) = s.fd (Fld.PWR_ISL_THROTTLED i)) l _ rfl
    (fun u hu k _ => (fd_fw_isl_apart u (lo := 8) (w := 8) k i _ (by decide) (by decide)).trans hu)

theorem keeps_showTemps (s : State) (temps l : List Nat) : Keeps [.regs] s (s.showTemps temps l) :=
  Keeps.foldl s (fun u _ _ => keeps_fw u _ _)

theorem pIslands_showTemps (s : State) (temps l : List Nat) : (s.showTemps temps l).pIslands = s.pIslands := by
  have hrd : ∀ r : Reg, r.addr < 0x400100 → (s.showTemps temps l).rd r = s.rd r := fun r hr =>
    List.foldlRecOn (motive := fun u => u.rd r = s.rd r) l _ rfl
      (fun u hu k _ => (rd_fw_ne u (Fld.PWR_ISL_TEMP_C k) r _ (by simp only [Fld.PWR_ISL_TEMP_C, Reg.PWR_ISL]; omega)).trans hu)
  simp only [pIslands, islandOn_congr (hrd Reg.CLK_EN0 (by decide)) (hrd Reg.CLK_EN1 (by decide))]

/-- What follows a report's throttles leaves what it shows. -/
theorem heatKeep_tempReport (s : State) (temps : List Nat) :
    HeatKeep (s.pIslands.foldl (fun s i => s.throttle i (temps.getD i 0)) (s.showTemps temps (List.range 100))) (s.tempReport temps) := by
  rw [← pIslands_showTemps s temps (List.range 100)]
  exact ((HeatKeep.foldl _ (fun u i _ => heatKeep_neighbourFloor u temps i)).trans (heatKeep_laneHeat _)).trans
    (heatKeep_pwrSettle _)

theorem islandTempReport_shows (s : State) (temps : List Nat) :
    Goes (exec (.islandTempReport temps) s) (fun u =>
      (∀ i, i < 100 → u.fd (Fld.PWR_ISL_TEMP_C i) = min 255 (temps.getD i 0)) ∧
      (∀ i ∈ s.pIslands, u.fb (Fld.PWR_ISL_THROTTLED i) = throttledAt (temps.getD i 0) (s.fb (Fld.PWR_ISL_THROTTLED i))) ∧
      u.mem = s.mem) := by
  have hlt : ∀ i ∈ s.pIslands, i < 100 := fun i hi => List.mem_range.mp (List.mem_of_mem_filter hi)
  have hrest := heatKeep_tempReport s temps
  obtain ⟨hflag, htemp, hmem⟩ := foldl_throttle (fun i => temps.getD i 0) s.pIslands hlt (s.showTemps temps (List.range 100))
  refine ⟨s.tempReport temps, rfl, fun i hi => ?_, fun i hi => ?_, ?_⟩
  · exact ((hrest.temp i hi).trans (htemp i hi)).trans (fd_temp_showTemps temps (List.mem_range.mpr hi) s)
  · refine (hrest.fb_throttled (hlt i hi)).trans ((hflag i (hlt i hi)).trans ?_)
    rw [if_pos hi, fb, fd_throttled_showTemps, fb]
  · exact (hrest.mem.trans hmem).trans (keeps_showTemps s temps _ .mem (by simp))

end Sys2Proof.Machine.State

namespace Sys2Proof

open Machine Machine.State

/-- Settles O52, rule by rule. -/
theorem powerIsManaged : Obligations.PowerIsManaged := by
  unfold Obligations.PowerIsManaged
  refine ⟨fun s hcool hpeak => ⟨fun k hcap hk => ?_, fun hcap hlow => ?_⟩, fun s i => ⟨?_, ?_, ?_⟩,
    fun s i cycles hcore hon => ⟨?_, ?_, ?_⟩, fun s i hi ht => ⟨?_, ?_, ?_, ?_, ?_⟩, fun s i l hi hmay => ⟨?_, ?_⟩,
    fun s => wakeAdmit_waits, fun s temps => ?_⟩
  · exact powerCapLoop_above hcool (capMoves_above hpeak hcap hk)
  · exact powerCapLoop_near hcool (capMoves_near hpeak hcap hlow)
  · exact droopDetect_stretches
  · exact droopDetect_ignored
  · exact droopRecover_ends s i
  · exact stretchLimit_short hcore hon
  · exact stretchLimit_lowers hcore hon
  · exact stretchLimit_fixed hcore hon
  · exact pstateStep_volt_up hi
  · exact pstateStep_freq_up hi ht
  · exact pstateStep_freq_down hi ht
  · exact pstateStep_volt_down hi
  · exact pstateStep_done hi
  · exact wakeAdmit_leaves_floor hmay
  · exact wakeAdmit_ungates hi hmay
  · obtain ⟨u, hgo, htemp, hflag, hmem⟩ := islandTempReport_shows s temps
    refine ⟨u, hgo, htemp, fun i hi => ⟨fun hhot => ?_, fun hcool => ?_⟩, fun i hi hlo hup => ?_, hmem⟩
    · rw [hflag i hi, throttledAt, if_pos hhot]
    · rw [hflag i hi, throttledAt, if_neg (by omega), if_pos hcool]
    · rw [hflag i hi, throttledAt, if_neg (by omega), if_neg (by omega)]

end Sys2Proof
end

section
/-! Tiles that synchronise and end (O17): counters, waits, fences, completion, and the end of an exception's drain. -/

namespace Sys2Proof.Safety

open Sys2Proof.Machine

/-! ## Frames -/

theorem keeps_setEng (s : State) (n : Nat) (e : Engine) : Keeps [.eng] s (s.setEng n e) := by
  intro p hp
  cases p
  case eng => simp at hp
  all_goals rfl

theorem keeps_withDbg (s : State) (x : Dbg) : Keeps [.dbg] s { s with dbg := x } := by
  intro p hp
  cases p
  case dbg => simp at hp
  all_goals rfl

theorem keeps_hostWrite (s : State) (a : Nat) (bs : List Byte) : Keeps [.host] s (s.hostWrite a bs) := by
  intro p hp
  cases p
  case host => simp at hp
  all_goals rfl

/-- An event of a tile's counters, its wrap included. -/
theorem keeps_tileEvent (s : State) (t e n : Nat) : Keeps [.regs, .dbg, .log, .out, .hif] s (s.tileEvent t e n) := by
  have hrecord : ∀ (u : State) (who what : Nat), Keeps [.regs, .dbg, .log, .out, .hif] u (u.pmuRecord who what) := fun u who what => by
    have hlogged : ∀ x island data, Keeps [.regs, .dbg, .log, .out, .hif] u
        (({ u with dbg := x } : State).trouble 0x0D01 1 island 0 data) := fun x island data =>
      ((keeps_withDbg u x).mono (by simp)).trans ((keeps_trouble _ _ _ _ _ _).mono (by simp))
    simp only [State.pmuRecord]
    split_ifs
    · exact (keeps_wr u _ _).mono (by simp)
    · exact hlogged _ _ _
    · exact hlogged _ _ _
  have hwrap : ∀ (u : State) (site e : Nat), Keeps [.regs, .dbg, .log, .out, .hif] u (u.tileWrap site e) := fun u site e => by
    have hflag : Keeps [.regs, .dbg, .log, .out, .hif] u (u.orReg (Reg.PMU_TOVF site) (2 ^ e)) := (keeps_wr u _ _).mono (by simp)
    simp only [State.tileWrap]
    split
    · exact hflag.trans (hrecord _ _ _)
    · exact hflag
  have hcount : Keeps [.regs, .dbg, .log, .out, .hif] s
      (s.wr (Reg.TILE_EVCNT (s.siteOf t) e) ((s.rd (Reg.TILE_EVCNT (s.siteOf t) e) + n) % 2 ^ 48)) := (keeps_wr s _ _).mono (by simp)
  simp only [State.tileEvent]
  split
  · exact hcount.trans (hwrap _ _ _)
  · exact hcount

/-- A command that begins on a ring: its mark, and the record of a late start. -/
theorem beginJob_frame (s : State) (timed : Bool) (n : Nat) (j : Job) :
    Keeps [.eng, .regs, .log, .out, .hif] s (s.beginJob timed (.ring n) j) ∧
      RegsKeep [Reg.RAS_LOG_SEQ.addr] s (s.beginJob timed (.ring n) j) := by
  have hmark : Keeps [.eng, .regs, .log, .out, .hif] s (s.setJob (.ring n) { j with begun := true }) :=
    (keeps_setEng s _ _).mono (by simp)
  have hregs : RegsKeep [Reg.RAS_LOG_SEQ.addr] s (s.setJob (.ring n) { j with begun := true }) := RegsKeep.of_regs_eq rfl
  simp only [State.beginJob]
  split
  · exact ⟨hmark.trans ((keeps_trouble _ _ _ _ _ _).mono (by simp)), hregs.trans (regsKeep_trouble _ _ _ _ _ _)⟩
  · exact ⟨hmark, hregs⟩

end Sys2Proof.Safety

namespace Sys2Proof.Machine.State

open Sys2Proof.Safety

theorem siteOf_congr {s u : State} {t : Nat} (h : u.rd (Reg.RAS_TILE_MAP (t / 4)) = s.rd (Reg.RAS_TILE_MAP (t / 4))) :
    u.siteOf t = s.siteOf t := congrArg (bits · (8 * (t % 4)) 8) h

theorem siteOf_beginJob (s : State) (timed : Bool) (n : Nat) (j : Job) (t : Nat) :
    (s.beginJob timed (.ring n) j).siteOf t = s.siteOf t :=
  siteOf_congr ((beginJob_frame s timed n j).2.rd (by
    simp only [Reg.RAS_TILE_MAP, Reg.RAS_LOG_SEQ, List.mem_singleton]
    omega))

theorem tile_updTile_self (s : State) (t : Nat) (f : Tile → Tile) : (s.updTile t f).tile t = f (s.tile t) := tile_setTile_self _ _ _

theorem tile_updTile_ne (s : State) {t x : Nat} (f : Tile → Tile) (h : x ≠ t) : (s.updTile t f).tile x = s.tile x :=
  tile_setTile_ne _ _ _ _ h

/-! ## The clauses of O17 that hold

O17 as a whole fails in one corner of its last clause, below; the rules that its other clauses state hold. -/

section
variable {s s1 : State} {via : Via} {t : Nat} {p : Packet} {j : Job}

theorem tileSyncSet_sets (h : TileStarts s via t p j s1) (hop : p.base = 0x0208) (hone : profileOne p = true) :
    GoesOn (exec (.tileSyncSet via p) s) (fun w => w.beginTile t 0 { Progress.empty with done := true })
      (fun w => w.rd (Reg.TILE_SYNC (s1.siteOf t) (p.u8 16 % 32)) = p.u32 20 ∧
        Keeps [.regs] (s1.beginJob true (.ring t) j) w ∧
        RegsKeep [(Reg.TILE_SYNC (s1.siteOf t) (p.u8 16 % 32)).addr] (s1.beginJob true (.ring t) j) w) := by
  refine ⟨(s1.beginJob true (.ring t) j).wr (Reg.TILE_SYNC (s1.siteOf t) (p.u8 16 % 32)) (p.u32 20),
    congrArg Host.Outcome.next ?_, ?_, keeps_wr _ _ _, regsKeep_wr _ _ _⟩
  · simp only [hop, beq_self_eq_true]
    rw [tileRow_starts h (by simp [hone]), siteOf_beginJob]
  · rw [rd_wr_self _ _ _ (show 32 ≤ 64 by decide)]
    exact Nat.mod_eq_of_lt (bits_lt _ _ _)

theorem tileWait_waits (h : TileStarts s via t p j s1) (hop : p.base = 0x0207) (hone : profileOne p = true)
    (hlimit : p.expert = true ∨ p.u16 24 = 0) :
    Goes (exec (.tileWait via p) s) (fun u =>
      (u.tile t).wait = some ⟨p.u8 16 % 32, p.u32 20, if bit (p.u8 17) 0 then p.u32 20 else 0, p.u16 24⟩ ∧
      (u.tile t).prog = { Progress.empty with done := true } ∧ (∀ x, x ≠ t → u.tile x = s1.tile x) ∧
      Keeps [.tiles] (s1.beginJob true (.ring t) j) u) := by
  have hcheck : (profileOne p && (p.expert || p.u16 24 == 0)) = true := by
    rcases hlimit with hl | hl <;> simp [hone, hl]
  refine ⟨(s1.beginJob true (.ring t) j).updTile t (fun x =>
      { x with wait := some ⟨p.u8 16 % 32, p.u32 20, if bit (p.u8 17) 0 then p.u32 20 else 0, p.u16 24⟩, engine := 0
               prog := { Progress.empty with done := true } }), congrArg Host.Outcome.next ?_, ?_, ?_, fun x hx => ?_,
    keeps_setTile _ _ _⟩
  · simp only [hop, beq_self_eq_true]
    rw [tileRow_starts h (by simp only [hcheck, if_true])]
  · rw [tile_updTile_self]
  · rw [tile_updTile_self]
  · rw [tile_updTile_ne _ _ hx, (beginJob_frame s1 true t j).1.tile (by simp)]

theorem tileFence_fences (h : TileStarts s via t p j s1) (hop : p.base = 0x0206) (hone : profileOne p = true) :
    exec (.tileFence via p) s = .next ((s1.beginJob true (.ring t) j).beginTile t 4
      { Progress.empty with script := [.fence], done := true }) := by
  refine congrArg Host.Outcome.next ?_
  simp only [hop, beq_self_eq_true]
  rw [tileRow_starts h (by simp [hone])]

end

section
variable {s : State} {t : Nat}

/-- A row for a tile is none of the Splint engine's. -/
theorem exec_tileWaitPass (ht : t < 32) : exec (.tileWaitPass t) s = .next (s.waitPass t) :=
  congrArg Host.Outcome.next (if_neg (show ¬t = 44 by omega))

theorem tileWaitPass_passes {w : TileWait} (ht : t < 32) (hw : (s.tile t).wait = some w)
    (hthr : w.thr ≤ s.rd (Reg.TILE_SYNC (s.siteOf t) w.ctr)) :
    GoesOn (exec (.tileWaitPass t) s) (·.carryOn t) (fun u => (u.tile t).wait = none ∧
      u.rd (Reg.TILE_SYNC (s.siteOf t) w.ctr) = (s.rd (Reg.TILE_SYNC (s.siteOf t) w.ctr) - w.take) % 2 ^ 32 ∧
      Keeps [.regs, .tiles] s u ∧ RegsKeep [(Reg.TILE_SYNC (s.siteOf t) w.ctr).addr] s u ∧ (∀ x, x ≠ t → u.tile x = s.tile x)) := by
  let counted := s.wr (Reg.TILE_SYNC (s.siteOf t) w.ctr) (s.rd (Reg.TILE_SYNC (s.siteOf t) w.ctr) - w.take)
  have hregs : RegsKeep [] counted (counted.updTile t (fun x => { x with wait := none })) := RegsKeep.of_regs_eq rfl
  refine ⟨counted.updTile t (fun x => { x with wait := none }), (exec_tileWaitPass ht).trans (congrArg Host.Outcome.next ?_), ?_, ?_,
    ((keeps_wr s _ _).mono (by simp)).trans ((keeps_setTile _ _ _).mono (by simp)),
    (regsKeep_wr s _ _).trans (hregs.mono (by simp)), fun x hx => ?_⟩
  · simp only [waitPass, hw, Nat.not_lt.mpr hthr, if_false, counted]
  · rw [tile_updTile_self]
  · rw [hregs.rd (by simp)]
    exact rd_wr_self _ _ _ (show 32 ≤ 64 by decide)
  · rw [tile_updTile_ne _ _ hx]
    exact (keeps_wr s _ _).tile (by simp) x

theorem tileWaitPass_short {w : TileWait} (ht : t < 32) (hw : (s.tile t).wait = some w)
    (hthr : s.rd (Reg.TILE_SYNC (s.siteOf t) w.ctr) < w.thr) : exec (.tileWaitPass t) s = .next s := by
  rw [exec_tileWaitPass ht]
  simp only [waitPass, hw, hthr, if_true]

/-- An exception raised stands at its tile, whose script, wait and fence have ended. -/
theorem raiseExc_raises (s : State) (t status detail r1 : Nat) :
    let u := s.raiseExc t status detail r1
    u.tile t = { s.tile t with exc := some ⟨status, detail, r1⟩, prog := { (s.tile t).prog with script := [] }
                               wait := none, fencing := false, engine := 5 } ∧
      u.mem = s.mem ∧ ∀ x, x ≠ t → u.tile x = s.tile x := by
  have hevent := fun u : State => keeps_tileEvent u t 48 1
  refine ⟨?_, hevent _ .mem (by simp), fun x hx => ?_⟩
  · rw [raiseExc, (hevent _).tile (by simp), tile_setTile_self]
  · rw [raiseExc, (hevent _).tile (by simp), tile_setTile_ne _ _ _ _ hx]

theorem tileWaitTimeout_raises {w : TileWait} (ht : t < 32) (hw : (s.tile t).wait = some w) (hlimit : w.limit ≠ 0)
    (hthr : s.rd (Reg.TILE_SYNC (s.siteOf t) w.ctr) < w.thr) :
    Goes (exec (.tileWaitTimeout t) s) (fun u =>
      (u.tile t).exc = some ⟨Sts.timeout, 2, s.rd (Reg.TILE_SYNC (s.siteOf t) w.ctr)⟩ ∧ (u.tile t).wait = none ∧
      (u.tile t).prog.script = [] ∧ u.mem = s.mem ∧ (∀ x, x ≠ t → u.tile x = s.tile x)) := by
  obtain ⟨htile, hmem, hothers⟩ := raiseExc_raises s t Sts.timeout 2 (s.rd (Reg.TILE_SYNC (s.siteOf t) w.ctr))
  refine ⟨_, congrArg Host.Outcome.next ((if_neg (show ¬t = 44 by omega)).trans ?_), by rw [htile], by rw [htile], by rw [htile],
    hmem, hothers⟩
  simp [hw, hlimit, hthr]

theorem tileWait_none (ht : t < 32) (hw : (s.tile t).wait = none) :
    exec (.tileWaitPass t) s = .next s ∧ exec (.tileWaitTimeout t) s = .next s := by
  refine ⟨?_, congrArg Host.Outcome.next ((if_neg (show ¬t = 44 by omega)).trans ?_)⟩
  · rw [exec_tileWaitPass ht]
    simp only [waitPass, hw]
  · simp only [hw]

theorem engOf_setTile (s : State) (t : Nat) (x : Tile) (n : Nat) : (s.setTile t x).engOf n = s.engOf n := rfl

/-- A posted fault taken is the exception of the command that takes it (04 R157). -/
theorem takePosted_raises {st a : Nat} (h : (s.tile t).posted = some (st, a)) :
    s.takePosted t = (s.updTile t (fun x => { x with posted := none })).raiseExc t st 1 a := by
  simp only [takePosted, h]

theorem fenceComplete_holds (hsb : (s.tile t).sb ≠ []) : exec (.fenceComplete t) s = .next s :=
  congrArg Host.Outcome.next (if_pos (by simp [hsb]))

theorem fenceComplete_goesOn (hsb : (s.tile t).sb = []) (hfence : (s.tile t).fencing = true) (hposted : (s.tile t).posted = none) :
    GoesOn (exec (.fenceComplete t) s) (·.carryOn t) (fun u => Keeps [.tiles] s u ∧
      u.tile t = { s.tile t with fencing := false } ∧ (∀ x, x ≠ t → u.tile x = s.tile x)) := by
  refine ⟨s.setTile t { s.tile t with fencing := false }, congrArg Host.Outcome.next ?_, keeps_setTile _ _ _,
    tile_setTile_self _ _ _, fun x hx => tile_setTile_ne _ _ _ _ hx⟩
  simp [fenceDone, hsb, hfence, hposted]

theorem fenceComplete_raises {k : Job} {st a : Nat} (hsb : (s.tile t).sb = []) (hfence : (s.tile t).fencing = true)
    (hposted : (s.tile t).posted = some (st, a)) (hcur : (s.engOf t).cur = some k) (hop : k.pkt.base = 0x0206) :
    Goes (exec (.fenceComplete t) s) (fun u => (u.tile t).exc = some ⟨st, 1, a⟩ ∧ (u.tile t).posted = none ∧ u.mem = s.mem) := by
  let w := s.setTile t { s.tile t with fencing := false }
  have htaken : exec (.fenceComplete t) s = .next (w.takePosted t) := by
    refine congrArg Host.Outcome.next ((if_neg (by simp [hsb, hfence])).trans (if_pos ?_))
    rw [engOf_setTile, hcur]
    simp [hop, hposted]
  obtain ⟨htile, hmem, -⟩ := raiseExc_raises (w.updTile t (fun x => { x with posted := none })) t st 1 a
  refine ⟨_, htaken.trans (congrArg Host.Outcome.next (takePosted_raises ?_)), by rw [htile], ?_, hmem⟩
  · rw [tile_setTile_self, hposted]
  · rw [htile, tile_updTile_self]

theorem tileCommandComplete_waits (h : s.tileDone t = false) : exec (.tileCommandComplete t) s = .next s :=
  congrArg Host.Outcome.next (if_neg (by simp [h]))

theorem tileCommandComplete_replies (h : s.tileDone t = true) :
    let g := (s.tile t).prog
    GoesOn (exec (.tileCommandComplete t) s)
      (fun w => w.ringFinish t ⟨Sts.ok, 0, g.flags % 65536 + g.result0 * 65536, g.result1, bit g.flags 9⟩)
      (fun w => (w.tile t).prog = Progress.empty ∧ w.engOf t = s.engOf t ∧ w.mem = s.mem ∧
        (∀ x, x ≠ t → w.tile x = s.tile x)) := by
  obtain ⟨k, hcur⟩ : ∃ k, (s.engOf t).cur = some k := by
    cases hc : (s.engOf t).cur with
    | none => simp [tileDone, hc] at h
    | some k => exact ⟨k, rfl⟩
  have hevent := keeps_tileEvent (s.setTile t { s.tile t with prog := .empty, engine := 0 }) t (doneEvent k.pkt.opcode.toNat) 1
  refine ⟨_, congrArg Host.Outcome.next ?_, ?_, hevent.engOf (by simp) t, hevent .mem (by simp), fun x hx => ?_⟩
  · simp only [tileComplete, h, hcur, if_true]
  · rw [hevent.tile (by simp), tile_setTile_self]
  · rw [hevent.tile (by simp), tile_setTile_ne _ _ _ _ hx]

end

/-! ## The end of an exception's drain (04 R158) -/

theorem keeps_setCoal (s : State) (v n : Nat) : Keeps [.hif] s (s.setCoal v n) := keeps_withHif s _

theorem keeps_fire (s : State) (v : Nat) : Keeps [.out, .hif] s (s.fire v) :=
  ((keeps_setCoal s v 0).mono (by simp)).trans (keeps_raise _ v)

theorem keeps_replyIrq (s : State) (v : Nat) : Keeps [.out, .hif] s (s.replyIrq v) := by
  simp only [replyIrq]
  split
  · exact keeps_fire s v
  · exact (keeps_setCoal s v _).mono (by simp)

/-- A reply written to a completion queue changes host memory, CPL_TAIL, and what the interrupt changes. -/
theorem cqWrite_frame (s : State) (n : Nat) (r : BitVec 256) (irq : Bool) :
    Keeps [.host, .regs, .out, .hif] s (s.cqWrite n r irq) ∧ RegsKeep [(Reg.HIF_RING_CPL_TAIL n).addr] s (s.cqWrite n r irq) := by
  have hput : ∀ (a : Nat) (bs : List Byte), Keeps [.host, .regs, .out, .hif] s ((s.hostWrite a bs).cqAdvance n) ∧
      RegsKeep [(Reg.HIF_RING_CPL_TAIL n).addr] s ((s.hostWrite a bs).cqAdvance n) := fun a bs =>
    ⟨((keeps_hostWrite s a bs).mono (by simp)).trans ((keeps_wr _ _ _).mono (by simp)),
      (RegsKeep.of_regs_eq (hostWrite_regs s a bs)).trans (regsKeep_wr _ _ _)⟩
  simp only [cqWrite]
  split
  · exact ⟨(hput _ _).1.trans ((keeps_replyIrq _ _).mono (by simp)),
      (hput _ _).2.trans (RegsKeep.of_regs_eq (keeps_replyIrq _ _ .regs (by simp)))⟩
  · exact hput _ _

/-- Outside confidential mode a reply for which the queue has room is written at once. -/
theorem ringReply_writes {s : State} {n : Nat} (hrim : s.rimOwns n = false) (hconf : s.conf = false) (hheld : (s.engOf n).held = [])
    (hroom : s.cqSpace n = true) (r : BitVec 256) (irq : Bool) : s.ringReply n r irq = s.cqWrite n r irq := by
  simp [ringReply, hrim, hconf, hheld, hroom]

/-- A ring that holds no open record halted. -/
theorem ringHalt_halts {s : State} {n status : Nat} (addr : Nat) (hrec : (s.engOf n).openRec = []) (hst : status < 2 ^ 16) :
    let u := s.ringHalt n status addr
    u.ringState n = halted ∧ u.fd (Fld.HIF_RING_STATE_LAST_STATUS n) = status ∧ u.engOf n = { s.engOf n with fetched := [] } ∧
      Keeps [.regs, .eng, .out, .hif] s u ∧ RegsKeep [(Reg.HIF_RING_STATE n).addr, (Reg.HIF_RING_FAULT_ADDR n).addr] s u := by
  let a := s.fw (Fld.HIF_RING_STATE_STATE n) halted
  let b := (a.fw (Fld.HIF_RING_STATE_LAST_STATUS n) status).wr (Reg.HIF_RING_FAULT_ADDR n) addr
  let c := b.setEng n { b.engOf n with fetched := [] }
  have hwritten : Keeps [.regs] s b := ((keeps_fw s _ _).trans (keeps_fw a _ _)).trans (keeps_wr _ _ _)
  have heng : b.engOf n = s.engOf n := hwritten.engOf (by simp) n
  have hc : s.ringHalt n status addr = c.fire (c.ringVector n) := by
    have hclosed : c.closeRecord n = c := if_pos (by rw [engOf_setEng_self, heng, hrec]; rfl)
    exact congrArg (fun u => fire u (c.ringVector n)) hclosed
  have hfire := keeps_fire c (c.ringVector n)
  have hregs : (c.fire (c.ringVector n)).regs = b.regs := (hfire .regs (by simp)).trans (setEng_regs b n _)
  have hfault : (Reg.HIF_RING_STATE n).addr ≠ (Reg.HIF_RING_FAULT_ADDR n).addr := by
    simp only [Reg.HIF_RING_STATE, Reg.HIF_RING_FAULT_ADDR]
    omega
  have hread : ∀ f : Fld, f.reg = Reg.HIF_RING_STATE n →
      (c.fire (c.ringVector n)).fd f = (a.fw (Fld.HIF_RING_STATE_LAST_STATUS n) status).fd f := fun f hf =>
    (fd_congr hregs f).trans (fd_wr_ne _ _ f _ (hf ▸ hfault))
  simp only [hc]
  refine ⟨?_, ?_, ?_, ?_, ?_⟩
  · rw [ringState, hread _ rfl, fd_fw_apart a (Fld.HIF_RING_STATE_LAST_STATUS n) (Fld.HIF_RING_STATE_STATE n) status rfl
      (.inl (show 0 + 3 ≤ 16 by decide)) (show 0 + 3 ≤ 32 by decide) (show 32 ≤ 64 by decide)]
    exact fd_fw_self s _ _ (show 0 + 3 ≤ 32 by decide) (show 32 ≤ 64 by decide)
  · rw [hread _ rfl, fd_fw_self a _ _ (show 16 + 16 ≤ 32 by decide) (show 32 ≤ 64 by decide)]
    exact Nat.mod_eq_of_lt hst
  · rw [hfire.engOf (by simp), engOf_setEng_self, heng]
  · exact (hwritten.mono (by simp)).trans (((keeps_setEng b n _).mono (by simp)).trans (hfire.mono (by simp)))
  · exact (((regsKeep_fw s (Fld.HIF_RING_STATE_STATE n) halted).mono (by simp [Fld.HIF_RING_STATE_STATE])).trans
      (((regsKeep_fw a (Fld.HIF_RING_STATE_LAST_STATUS n) status).mono (by simp [Fld.HIF_RING_STATE_LAST_STATUS])).trans
        ((regsKeep_wr _ (Reg.HIF_RING_FAULT_ADDR n) addr).mono (by simp)))).trans (RegsKeep.of_regs_eq hregs)

/-- Where every unit is at rest, no command of the MCC is in progress and no tenant closes, nothing waits to be carried on. -/
theorem settle_rest {s : State} (hrest : s.resetting = false) (hcur : s.mcc.cur = none) (haborts : s.mcc.aborts = [])
    (hopen : s.sec.closing ≠ 1) (hdrained : s.sec.closing ≠ 2) : s.settle = s := by
  simp [settle, abortSettle, closeStep, hrest, hcur, haborts, hopen, hdrained]

/-- A tile's record replaced by one that is not under reset leaves no tile under reset where none was. -/
theorem resetting_setTile {s : State} {x : Tile} (t : Nat) (h : s.tiles.all (fun e => !e.2.resetting) = true)
    (hx : x.resetting = false) : (s.setTile t x).resetting = false := by
  simp only [List.all_eq_true, Bool.not_eq_true'] at h
  simp only [resetting, setTile, List.any_eq_false, Bool.not_eq_true, Cells.set]
  intro e he
  split at he
  · exact h e (List.mem_of_mem_filter he)
  · rcases Cells.mem_insert he with rfl | he
    · exact hx
    · exact h e (List.mem_of_mem_filter he)

/-- Where no listed tile is under reset, no tile is. -/
theorem tile_resetting_of_all {s : State} (t : Nat) (h : s.tiles.all (fun e => !e.2.resetting) = true) :
    (s.tile t).resetting = false := by
  unfold tile
  generalize s.tiles = l at h
  induction l with
  | nil => rfl
  | cons e l ih =>
    simp only [List.all_cons, Bool.and_eq_true, Bool.not_eq_true'] at h
    rw [Cells.get_cons]
    split
    · exact h.1
    · exact ih h.2

/-- The drain's end up to the reply: the exception gone from the tile, TILE_EXC_STATUS and TILE_EXC_ADDR set, the command off the ring. -/
def excShown (s : State) (t : Nat) (e : Exc) (j : Job) : State :=
  let u := s.setTile t { s.tile t with exc := none, prog := .empty, engine := 0 }
  let u := (u.wr (Reg.TILE_EXC_STATUS (s.siteOf t)) (e.status * 65536 + j.pkt.opcode.toNat)).wr (Reg.TILE_EXC_ADDR (s.siteOf t))
    e.result1
  u.setEng t { u.engOf t with cur := none }

/-- The answer of a command that an exception ends. -/
def excAnswer (s : State) (t : Nat) (e : Exc) : Ans := ⟨e.status, e.detail, (s.tile t).prog.blocks * 65536, e.result1, false⟩

theorem endExc_eq {s : State} {t : Nat} {e : Exc} {j : Job} (hexc : (s.tile t).exc = some e) (hcur : (s.engOf t).cur = some j)
    (hvia : j.via = .ring t) :
    s.endExc t =
      let w := (s.excShown t e j).ringReply t (j.reply (s.excAnswer t e) (s.excShown t e j).now) j.pkt.irq
      if w.rimOwns t then w.laneFault e.result1
      else if w.ringState t == closed then w else w.ringHalt t e.status e.result1 := by
  simp only [endExc, hexc, hcur, hvia]
  rfl

/-- What a drain's end shows: frames, the tile's own record, and the registers below the tiles' as before. -/
theorem excShown_frame (s : State) (t : Nat) (e : Exc) (j : Job) :
    let u := s.excShown t e j
    Keeps [.tiles, .regs, .eng] s u ∧ u.engOf t = { s.engOf t with cur := none } ∧
      u.tiles = (s.setTile t { s.tile t with exc := none, prog := .empty, engine := 0 }).tiles ∧
      u.rd (Reg.TILE_EXC_ADDR (s.siteOf t)) = e.result1 % 2 ^ 64 ∧ ∀ r : Reg, r.addr < 0x1000000 → u.rd r = s.rd r := by
  let a := s.setTile t { s.tile t with exc := none, prog := .empty, engine := 0 }
  let b := (a.wr (Reg.TILE_EXC_STATUS (s.siteOf t)) (e.status * 65536 + j.pkt.opcode.toNat)).wr (Reg.TILE_EXC_ADDR (s.siteOf t))
    e.result1
  have hwritten : Keeps [.regs] a b := (keeps_wr a _ _).trans (keeps_wr _ _ _)
  have hregs : RegsKeep [] b (s.excShown t e j) := RegsKeep.of_regs_eq (setEng_regs b t _)
  have hshown : Keeps [.eng] b (s.excShown t e j) := keeps_setEng b t _
  refine ⟨(((keeps_setTile s t _).mono (by simp)).trans (hwritten.mono (by simp))).trans (hshown.mono (by simp)), ?_,
    (hshown .tiles (by simp)).trans (hwritten .tiles (by simp)), ?_, fun r hr => ?_⟩
  · rw [excShown, engOf_setEng_self, hwritten.engOf (by simp), engOf_setTile]
  · rw [hregs.rd (by simp)]
    exact rd_wr_self _ _ _ (le_refl 64)
  · rw [hregs.rd (by simp), rd_wr_ne, rd_wr_ne]
    · exact rd_congr (setTile_regs s t _) r
    · simp only [Reg.TILE_EXC_STATUS]
      omega
    · simp only [Reg.TILE_EXC_ADDR]
      omega

theorem rimOwns_congr {s u : State} (hstatus : u.rd Reg.RIM_STATUS = s.rd Reg.RIM_STATUS) (htiles : u.rd Reg.RIM_TILES = s.rd Reg.RIM_TILES)
    (t : Nat) : u.rimOwns t = s.rimOwns t := by
  have hlane : u.lane = s.lane := congrArg (bits · 29 3) hstatus
  have ha : u.fd Fld.RIM_TILES_TILE_A = s.fd Fld.RIM_TILES_TILE_A := congrArg (bits · 0 8) htiles
  have hb : u.fd Fld.RIM_TILES_TILE_B = s.fd Fld.RIM_TILES_TILE_B := congrArg (bits · 8 8) htiles
  rw [rimOwns, hlane, ha, hb, rimOwns]

theorem cqSpace_congr {s u : State} {n : Nat} (htail : u.rd (Reg.HIF_RING_CPL_TAIL n) = s.rd (Reg.HIF_RING_CPL_TAIL n))
    (hhead : u.rd (Reg.HIF_RING_CPL_HEAD n) = s.rd (Reg.HIF_RING_CPL_HEAD n))
    (hcfg : u.rd (Reg.HIF_RING_CFG n) = s.rd (Reg.HIF_RING_CFG n)) : u.cqSpace n = s.cqSpace n := by
  have hsize : u.ringSize n = s.ringSize n := congrArg (2 ^ bits · 0 5) hcfg
  rw [cqSpace, htail, hhead, hsize, cqSpace]

theorem ringState_congr {s u : State} {n : Nat} (h : u.rd (Reg.HIF_RING_STATE n) = s.rd (Reg.HIF_RING_STATE n)) :
    u.ringState n = s.ringState n := congrArg (bits · 0 3) h

/-- The reply that ends a drain: where the host owns the ring and its queue has room, it is written, and the ring halts. -/
theorem endExc_halts {s : State} {t : Nat} {e : Exc} {j : Job} (ht : t < 32) (hexc : (s.tile t).exc = some e)
    (hcur : (s.engOf t).cur = some j) (hvia : j.via = .ring t) (hrim : s.rimOwns t = false) (hconf : s.conf = false)
    (hheld : (s.engOf t).held = []) (hroom : s.cqSpace t = true) (hring : s.ringState t ≠ closed) :
    ∃ b, s.endExc t = b.ringHalt t e.status e.result1 ∧ Keeps [.host, .regs, .out, .hif] (s.excShown t e j) b ∧
      RegsKeep [(Reg.HIF_RING_CPL_TAIL t).addr] (s.excShown t e j) b := by
  obtain ⟨-, heng, -, -, hlow⟩ := excShown_frame s t e j
  have hreply := endExc_eq hexc hcur hvia
  generalize s.excShown t e j = a at *
  generalize j.reply (s.excAnswer t e) a.now = r at hreply
  obtain ⟨hkept, hregs⟩ := cqWrite_frame a t r j.pkt.irq
  have hrima : a.rimOwns t = false := (rimOwns_congr (hlow _ (by decide)) (hlow _ (by decide)) t).trans hrim
  have hconfa : a.conf = false := (congrArg (bits · 0 1 != 0) (hlow Reg.HIF_CTRL (by decide))).trans hconf
  have hrooma : a.cqSpace t = true := (cqSpace_congr (hlow _ (show 0x201020 + 0x40 * t < 0x1000000 by omega))
    (hlow _ (show 0x201024 + 0x40 * t < 0x1000000 by omega)) (hlow _ (show 0x201010 + 0x40 * t < 0x1000000 by omega))).trans hroom
  rw [ringReply_writes hrima hconfa ((congrArg Engine.held heng).trans hheld) hrooma] at hreply
  generalize a.cqWrite t r j.pkt.irq = b at *
  have hrimb : b.rimOwns t = false := by
    refine (rimOwns_congr (hregs.rd ?_) (hregs.rd ?_) t).trans hrima
    all_goals
      simp only [Reg.RIM_STATUS, Reg.RIM_TILES, Reg.HIF_RING_CPL_TAIL, List.mem_singleton]
      omega
  have hringb : b.ringState t ≠ closed := by
    rw [ringState_congr (hregs.rd ?_), ringState_congr (hlow _ (show 0x201014 + 0x40 * t < 0x1000000 by omega))]
    · exact hring
    · simp only [Reg.HIF_RING_STATE, Reg.HIF_RING_CPL_TAIL, List.mem_singleton]
      omega
  refine ⟨b, ?_, hkept, hregs⟩
  rw [hreply]
  simp only [hrimb, beq_eq_false_iff_ne.mpr hringb, Bool.false_eq_true, if_false]

/-- The end of an exception's drain on a ring that the host owns; beside the premises of the statement's clause, no TENANT_CLOSE waits for
the serving engine. -/
theorem exceptionDrainDone_ends {s : State} {t : Nat} {e : Exc} {j : Job} (ht : t < 32) (hexc : (s.tile t).exc = some e)
    (hsb : (s.tile t).sb = []) (hcur : (s.engOf t).cur = some j) (hvia : j.via = .ring t) (hrim : s.rimOwns t = false)
    (hplan : bit s.srv.tileMask t = false) (hconf : s.conf = false) (hheld : (s.engOf t).held = [])
    (hrec : (s.engOf t).openRec = []) (hroom : s.cqSpace t = true) (hring : s.ringState t ≠ closed) (hst : e.status < 2 ^ 16)
    (hr1 : e.result1 < 2 ^ 64) (hrest : s.tiles.all (fun x => !x.2.resetting) = true) (haborts : s.mcc.aborts = [])
    (hmcc : s.mcc.cur = none) (hopen : s.sec.closing ≠ 1) (hdrained : s.sec.closing ≠ 2) :
    Goes (exec (.exceptionDrainDone t) s) (fun u => (u.tile t).exc = none ∧ (u.engOf t).cur = none ∧
      u.ringState t = halted ∧ u.fd (Fld.HIF_RING_STATE_LAST_STATUS t) = e.status ∧
      u.rd (Reg.TILE_EXC_ADDR (s.siteOf t)) = e.result1 ∧ u.mem = s.mem) := by
  obtain ⟨b, hend, hkb, hregsb⟩ := endExc_halts ht hexc hcur hvia hrim hconf hheld hroom hring
  obtain ⟨hka, henga, htilesa, haddr, -⟩ := excShown_frame s t e j
  generalize s.excShown t e j = a at *
  have hengb : b.engOf t = { s.engOf t with cur := none } := (hkb.engOf (by simp) t).trans henga
  obtain ⟨hhalted, hlast, hengc, hkc, hregsc⟩ := ringHalt_halts (s := b) (n := t) e.result1
    ((congrArg Engine.openRec hengb).trans hrec) hst
  generalize b.ringHalt t e.status e.result1 = c at *
  have hkept : Keeps [.tiles, .regs, .eng, .host, .out, .hif] s c :=
    ((hka.mono (by simp)).trans (hkb.mono (by simp))).trans (hkc.mono (by simp))
  have htiles : c.tiles = (s.setTile t { s.tile t with exc := none, prog := .empty, engine := 0 }).tiles :=
    ((hkc .tiles (by simp)).trans (hkb .tiles (by simp))).trans htilesa
  have hsrv : c.srv = s.srv := hkept .srv (by simp)
  have hmcckept : c.mcc = s.mcc := hkept .mcc (by simp)
  have hsec : c.sec = s.sec := hkept .sec (by simp)
  have howner : c.ownerFail t e.status e.result1 = c := if_neg (by simp [hsrv, hplan])
  have hsettle : c.settle = c := by
    refine settle_rest ?_ (by rw [hmcckept, hmcc]) (by rw [hmcckept, haborts]) (by rwa [hsec]) (by rwa [hsec])
    rw [resetting, htiles]
    exact resetting_setTile t hrest (tile_resetting_of_all t hrest)
  refine ⟨c, congrArg Host.Outcome.next ?_, ?_, ?_, hhalted, hlast, ?_, hkept .mem (by simp)⟩
  · simp only [hexc, hsb, List.isEmpty_nil, if_true, hend, howner, hsettle]
  · rw [tile, htiles]
    exact congrArg Tile.exc (tile_setTile_self s t _)
  · rw [hengc, hengb]
  · rw [hregsc.rd ?_, hregsb.rd ?_, haddr, Nat.mod_eq_of_lt hr1]
    all_goals
      simp only [Reg.TILE_EXC_ADDR, Reg.HIF_RING_CPL_TAIL, Reg.HIF_RING_STATE, Reg.HIF_RING_FAULT_ADDR, List.mem_cons, List.not_mem_nil,
        or_false]
      omega

end Sys2Proof.Machine.State

namespace Sys2Proof

open Machine Machine.State

/-- A TILE_FENCE that has begun on tile 0. -/
def fenceJob : Job := ⟨⟨0x0206, 0, 1, 0, 0⟩, .ring 0, false, 0, false, true, 0⟩

/-- The exception that ends it. -/
def fenceExc : Exc := ⟨Sts.timeout, 1, 0x40⟩

/-- After reset, tile 0 ends that fence with that exception, its store buffer drained, on an ACTIVE ring, while a TENANT_CLOSE waits for the
serving engine, which has stopped. -/
def drainedWhileClosing : State :=
  ((({ State.reset with sec := { State.reset.sec with closing := 1 } } : State).setEng 0 { Engine.idle with cur := some fenceJob }).setTile 0
    { Tile.idle with exc := some fenceExc }).setRingState 0 active

/-- The drain's end carries the TENANT_CLOSE on, which leaves the ring ABORTED (14 R509). -/
theorem drainedWhileClosing_aborts {u : State} (h : exec (.exceptionDrainDone 0) drainedWhileClosing = .next u) :
    u.ringState 0 = aborted := by
  have hstate : (match exec (.exceptionDrainDone 0) drainedWhileClosing with | .next w => w.ringState 0 | _ => closed) = aborted := by
    decide +kernel
  rwa [h] at hstate

/-- Refutes O17: its last clause asks that no TENANT_CLOSE drains the store buffers (`closing ≠ 2`), and forgets one that still waits for
the serving engine. Where that engine has stopped, the drain's end lets the close go on, and the ring ends ABORTED and not HALTED. -/
theorem not_tilesSynchroniseAndEnd : ¬ Obligations.TilesSynchroniseAndEnd := by
  unfold Obligations.TilesSynchroniseAndEnd
  rintro ⟨-, -, -, -, -, hdrain⟩
  obtain ⟨u, hgo, -, -, hhalted, -⟩ := hdrain drainedWhileClosing 0 fenceExc fenceJob (by decide) rfl rfl rfl rfl (by decide)
    (by decide) (by decide) rfl rfl (by decide) (by decide) (by decide) (by decide) (by decide) rfl rfl (by decide)
  rw [drainedWhileClosing_aborts hgo] at hhalted
  exact absurd hhalted (by decide)

end Sys2Proof
end

section
/-! Replies (O8): the MCC's reply on its two paths, and a ring's reply in its completion queue. -/

namespace Sys2Proof.Machine

theorem length_leBytes (n v : Nat) : (leBytes n v).length = n := by
  induction n generalizing v with
  | zero => rfl
  | succ n ih => rw [leBytes, List.length_cons, ih]

end Sys2Proof.Machine

namespace Sys2Proof.Safety

open Sys2Proof.Machine

theorem keeps_withMcc (s : State) (x : Mcc) : Keeps [.mcc] s { s with mcc := x } := by
  intro p hp
  cases p
  case mcc => simp at hp
  all_goals rfl

end Sys2Proof.Safety

namespace Sys2Proof.Machine.State

open Sys2Proof.Safety

/-- What has been written to host memory reads back whole. -/
theorem hostRead_hostWrite (s : State) (k : Nat) (bs : List Byte) : (s.hostWrite k bs).hostRead k bs.length = bs := by
  apply List.ext_getElem
  · simp [hostRead]
  · intro i _ hi
    simp only [hostRead, List.getElem_map, List.getElem_range]
    exact hostByte_hostWrite_inside s k i bs hi

/-! ## The MCC's reply (02 R64, R66) -/

/-- The main slot once its command has ended. -/
def mccFree (s : State) : State := { s with mcc := { s.mcc with cur := none, extra := [], confCmd := none } }

/-- The main slot with a reply in MCC_REPLY. -/
def mccReplied (s : State) (r : BitVec 256) : State := { s with mcc := { s.mcc with cur := none, extra := [], reply := r } }

/-- A reply shown in MCC_REPLY with REPLY_VALID set. -/
theorem mccReplied_valid (s : State) (r : BitVec 256) :
    let t := (s.mccReplied r).fw Fld.MCC_STATUS_REPLY_VALID 1
    Keeps [.mcc, .regs] s t ∧ RegsKeep [Reg.MCC_STATUS.addr] s t ∧
      t.mcc = { s.mcc with cur := none, extra := [], reply := r } ∧ t.fd Fld.MCC_STATUS_REPLY_VALID = 1 := by
  have hregs : RegsKeep [Reg.MCC_STATUS.addr] s (s.mccReplied r) := RegsKeep.of_regs_eq rfl
  exact ⟨((keeps_withMcc s _).mono (by simp)).trans ((keeps_fw (s.mccReplied r) _ _).mono (by simp)),
    hregs.trans (regsKeep_fw _ Fld.MCC_STATUS_REPLY_VALID 1), rfl, fd_fw_self _ _ _ (by decide) (by decide)⟩

/-- A command that came through BAR0, without IRQ and in no record, is answered in MCC_REPLY. -/
theorem finish_mcc_bar0 {s : State} {j : Job} (hcur : s.mcc.cur = some j) (hbar : j.i3c = false) (hrec : s.mcc.confCmd = none)
    (hirq : j.pkt.irq = false) (a : Ans) :
    s.finish .mcc a = (s.mccReplied (j.reply a s.now)).fw Fld.MCC_STATUS_REPLY_VALID 1 := by
  simp [finish, mccReply, mccReplied, hcur, hbar, hrec, hirq]

/-- A command that came over I3C is answered over I3C. -/
theorem finish_mcc_i3c {s : State} {j : Job} (hcur : s.mcc.cur = some j) (hi3c : j.i3c = true) (a : Ans) :
    s.finish .mcc a = s.mccFree.emit (.i3c (j.reply a s.now) []) := by
  simp [finish, mccReply, mccFree, hcur, hi3c]

/-! ## A ring's reply (02 R77) -/

/-- The place in host memory of a ring's next completion entry. -/
def cqPlace (s : State) (n : Nat) : Nat := s.rd (Reg.HIF_RING_CQ_BASE n) + 32 * s.cqIndex n

/-- A reply without IRQ written to the completion queue: its 32 bytes with PHASE, and CPL_TAIL. -/
theorem cqWrite_quiet (s : State) (n : Nat) (r : BitVec 256) :
    let t := s.cqWrite n r false
    Keeps [.regs, .host] s t ∧ RegsKeep [(Reg.HIF_RING_CPL_TAIL n).addr] s t ∧ HostKeep (s.cqPlace n) 32 s t ∧
      t.hostRead (s.cqPlace n) 32 = leBytes 32 (withPhase r (s.cqPhase n)).toNat ∧
      t.rd (Reg.HIF_RING_CPL_TAIL n) = (s.rd (Reg.HIF_RING_CPL_TAIL n) + 1) % 2 ^ 32 := by
  let bs := leBytes 32 (withPhase r (s.cqPhase n)).toNat
  let w := s.hostWrite (s.cqPlace n) bs
  have hlen : bs.length = 32 := length_leBytes 32 _
  have hregs : RegsKeep [(Reg.HIF_RING_CPL_TAIL n).addr] s w := RegsKeep.of_regs_eq rfl
  have hwritten : s.cqWrite n r false = w.cqAdvance n := rfl
  simp only [hwritten]
  refine ⟨?_, hregs.trans (regsKeep_wr _ _ _), fun a ha => ?_, ?_, ?_⟩
  · exact ((keeps_hostWrite s _ _).mono (by simp)).trans ((keeps_wr _ _ _).mono (by simp))
  · exact hostByte_hostWrite_outside s _ a bs (by rwa [hlen])
  · have hback := hostRead_hostWrite s (s.cqPlace n) bs
    rwa [hlen] at hback
  · have htail : w.rd (Reg.HIF_RING_CPL_TAIL n) = s.rd (Reg.HIF_RING_CPL_TAIL n) := rd_congr rfl _
    rw [cqAdvance, bumpWrap, rd_wr_self _ _ _ (show 32 ≤ 64 by decide), htail]
    exact Nat.mod_mod _ _

/-- Outside confidential mode a reply for which the queue has no room is held behind what is held already. -/
theorem ringReply_holds {s : State} {n : Nat} (hrim : s.rimOwns n = false) (hconf : s.conf = false) (hfull : s.cqSpace n = false)
    (r : BitVec 256) (irq : Bool) :
    s.ringReply n r irq = s.setEng n { s.engOf n with held := (s.engOf n).held ++ [(r, irq)] } := by
  simp [ringReply, hrim, hconf, hfull]

end Sys2Proof.Machine.State

namespace Sys2Proof

open Machine Machine.State Safety

/-- Settles O8: on each path the reply is one write of its slot, so its frame is that of the write. -/
theorem repliesAreWrittenWhereAsked : Obligations.RepliesAreWrittenWhereAsked := by
  unfold Obligations.RepliesAreWrittenWhereAsked
  refine ⟨⟨?_, ?_⟩, ?_, ?_⟩
  · intro u j a hcur hbar hrec hirq
    rw [finish_mcc_bar0 hcur hbar hrec hirq]
    exact mccReplied_valid u _
  · intro u j a hcur hi3c
    rw [finish_mcc_i3c hcur hi3c]
    exact ⟨((keeps_withMcc u _).mono (by simp)).trans ((keeps_emit u.mccFree _).mono (by simp)), rfl, rfl, rfl⟩
  · intro u n r hrim hconf hheld hroom
    simp only [ringReply_writes hrim hconf hheld hroom]
    exact cqWrite_quiet u n r
  · intro u n r irq hrim hconf hfull
    rw [ringReply_holds hrim hconf hfull]
    refine ⟨keeps_setEng u n _, ?_, fun m hm => engOf_setEng_ne u n m _ hm⟩
    rw [engOf_setEng_self]

end Sys2Proof
end

section
/-! Rings (O12): opening, closing, resetting, doorbells, and fetches that meet an uncorrectable error. -/

namespace Sys2Proof.Machine

@[simp] theorem sub32_self (a : Nat) : sub32 a a = 0 := by
  simp only [sub32]
  omega

/-- The ring numbers that RING_OPEN accepts. -/
theorem ringNumber_iff (n : Nat) : State.ringNumber n = true ↔ n ≤ 44 ∨ (64 ≤ n ∧ n ≤ 127) := by
  simp [State.ringNumber]

/-- FAMILY and INSTANCE of a ring each fit their byte. -/
theorem ringTarget_lt {n : Nat} (h : State.ringNumber n = true) : (State.ringTarget n).1 < 256 ∧ (State.ringTarget n).2 < 256 := by
  rw [ringNumber_iff] at h
  simp only [State.ringTarget]
  split_ifs <;> dsimp only <;> omega

end Sys2Proof.Machine

namespace Sys2Proof.Safety

open Sys2Proof.Machine

theorem keeps_regReset (s : State) (r : Reg) : Keeps [.regs] s (s.regReset r) := keeps_withRegs s _

theorem regsKeep_regReset (s : State) (r : Reg) : RegsKeep [r.addr] s (s.regReset r) :=
  fun d _ ha => Cells.get_erase_ne d (by simpa using ha) s.regs

/-- A command that begins on either path: its mark, and the record of a late start. -/
theorem beginJob_regsKeep (s : State) (timed : Bool) (via : Via) (j : Job) :
    RegsKeep [Reg.RAS_LOG_SEQ.addr] s (s.beginJob timed via j) := by
  have hmark : RegsKeep [Reg.RAS_LOG_SEQ.addr] s (s.setJob via { j with begun := true }) := by
    cases via <;> exact RegsKeep.of_regs_eq rfl
  simp only [State.beginJob]
  split
  · exact hmark.trans (regsKeep_trouble _ _ _ _ _ _)
  · exact hmark

end Sys2Proof.Safety

namespace Sys2Proof.Machine.State

open Sys2Proof.Safety

/-- A command that begins leaves every open completion record. -/
theorem openRec_beginJob (s : State) (timed : Bool) (via : Via) (j : Job) (n : Nat) :
    ((s.beginJob timed via j).engOf n).openRec = (s.engOf n).openRec := by
  have hmark : ((s.setJob via { j with begun := true }).engOf n).openRec = (s.engOf n).openRec := by
    cases via with
    | mcc => rfl
    | ring m =>
      by_cases hm : n = m
      · rw [hm, setJob, engOf_setEng_self]
      · rw [setJob, engOf_setEng_ne _ _ _ _ hm]
  simp only [beginJob]
  split
  · rw [logLate, (keeps_trouble _ _ _ _ _ _).engOf (by simp)]
    exact hmark
  · exact hmark

/-- The registers of a ring lie below the trouble log's. -/
theorem rd_beginJob_ring (s : State) (timed : Bool) (via : Via) (j : Job) {r : Reg} (hr : r.addr < 0x700000) :
    (s.beginJob timed via j).rd r = s.rd r :=
  (beginJob_regsKeep s timed via j).rd (by
    simp only [Reg.RAS_LOG_SEQ, List.mem_singleton]
    omega)

theorem closeRecord_empty {s : State} {n : Nat} (h : (s.engOf n).openRec = []) : s.closeRecord n = s := by
  simp [closeRecord, h]

/-! ## Opening (02 R74) -/

/-- What RING_OPEN's checks say of its ring and its size. -/
theorem ringOpenCheck_passed {s : State} {p : Packet} {log v : Nat} (hshape : openShape p = some (log, v))
    (h : s.ringOpenCheck p = none) : ringNumber (p.u16 16) = true ∧ log ≤ 16 := by
  simp only [ringOpenCheck, hshape, Option.getD_some, firstFail, Bool.or_eq_true, decide_eq_true_eq, Bool.not_eq_true'] at h
  split_ifs at h with hnumber _ hparam
  exact ⟨by simpa using hnumber, by omega⟩

/-- The registers of a ring that opens, with their values, in the order of the writes. -/
def ringValues (n log v sq cq : Nat) : List (Reg × Nat) :=
  [(Reg.HIF_RING_SQ_BASE n, sq), (Reg.HIF_RING_CQ_BASE n, cq),
    (Reg.HIF_RING_CFG n, v * 2 ^ 24 + (ringTarget n).1 * 2 ^ 16 + (ringTarget n).2 * 2 ^ 8 + log),
    (Reg.HIF_RING_HEAD n, 0), (Reg.HIF_RING_TAIL n, 0), (Reg.HIF_RING_CPL_TAIL n, 0), (Reg.HIF_RING_CPL_HEAD n, 0),
    (Reg.HIF_RING_STATE n, idle), (Reg.HIF_RING_FAULT_ADDR n, 0)]

/-- A ring that opens, its registers written. -/
def ringShown (s : State) (n log v sq cq : Nat) : State :=
  (ringValues n log v sq cq).foldl (fun s e => s.wr e.1 e.2) s

/-- The unit of a ring that opens. -/
def ringFresh (s : State) (n : Nat) : State := s.setEng n { s.engOf n with fetched := [], held := [], openRec := [] }

theorem ringFresh_frame (s : State) (n : Nat) :
    Keeps [.eng] s (s.ringFresh n) ∧ (s.ringFresh n).engOf n = { s.engOf n with fetched := [], held := [], openRec := [] } ∧
      (s.ringFresh n).regs = s.regs :=
  ⟨keeps_setEng s n _, engOf_setEng_self s n _, setEng_regs s n _⟩

theorem ringOpen_eq (s : State) (n log v sq cq : Nat) :
    s.ringOpen n log v sq cq =
      if 64 ≤ n then ((s.ringShown n log v sq cq).ringFresh n).regReset (Reg.SRV_RING_CFG (n - 64))
      else (s.ringShown n log v sq cq).ringFresh n := rfl

/-- Behind the ring's registers, opening changes its unit and, of a serving ring, SRV_RING_CFG. -/
theorem ringOpen_frame (s : State) (n log v sq cq : Nat) :
    let t := s.ringOpen n log v sq cq
    Keeps [.regs, .eng] s t ∧ t.engOf n = { s.engOf n with fetched := [], held := [], openRec := [] } ∧
      RegsKeep [(Reg.SRV_RING_CFG (n - 64)).addr] (s.ringShown n log v sq cq) t := by
  intro t
  have hshown : Keeps [.regs] s (s.ringShown n log v sq cq) := Keeps.foldl s (fun u e _ => keeps_wr u e.1 e.2)
  have hopen : t = _ := ringOpen_eq s n log v sq cq
  clear_value t
  generalize s.ringShown n log v sq cq = a at hshown hopen
  obtain ⟨hfresh, heng, hregs⟩ := ringFresh_frame a n
  generalize a.ringFresh n = b at hfresh heng hregs hopen
  rw [hshown.engOf (by simp) n] at heng
  have hkept : Keeps [.regs, .eng] s b := (hshown.mono (by simp)).trans (hfresh.mono (by simp))
  split at hopen <;> subst hopen
  · exact ⟨hkept.trans ((keeps_regReset b _).mono (by simp)), ((keeps_regReset b _).engOf (by simp) n).trans heng,
      (RegsKeep.of_regs_eq hregs).trans (regsKeep_regReset b _)⟩
  · exact ⟨hkept, heng, RegsKeep.of_regs_eq hregs⟩

/-- The registers of a ring opened read as given, its indices 0, its state IDLE. -/
theorem rd_ringShown (s : State) (n log v sq cq : Nat) :
    let a := s.ringShown n log v sq cq
    a.rd (Reg.HIF_RING_SQ_BASE n) = sq % 2 ^ 64 ∧ a.rd (Reg.HIF_RING_CQ_BASE n) = cq % 2 ^ 64 ∧
      a.rd (Reg.HIF_RING_CFG n) = (v * 2 ^ 24 + (ringTarget n).1 * 2 ^ 16 + (ringTarget n).2 * 2 ^ 8 + log) % 2 ^ 32 ∧
      a.rd (Reg.HIF_RING_HEAD n) = 0 ∧ a.rd (Reg.HIF_RING_TAIL n) = 0 ∧ a.rd (Reg.HIF_RING_CPL_TAIL n) = 0 ∧
      a.rd (Reg.HIF_RING_CPL_HEAD n) = 0 ∧ a.rd (Reg.HIF_RING_STATE n) = idle := by
  simp [ringShown, ringValues, rd_wr_ne, rd_wr_self, Reg.HIF_RING_SQ_BASE, Reg.HIF_RING_CQ_BASE, Reg.HIF_RING_CFG,
    Reg.HIF_RING_HEAD, Reg.HIF_RING_TAIL, Reg.HIF_RING_CPL_TAIL, Reg.HIF_RING_CPL_HEAD, Reg.HIF_RING_STATE, Reg.HIF_RING_FAULT_ADDR, idle]

/-- The parts of HIF_RINGn_CFG read back. -/
theorem ringCfg_parts {log v fam inst : Nat} (hlog : log < 2 ^ 5) (hv : v < 2 ^ 8) (hfam : fam < 256) (hinst : inst < 256) :
    let c := (v * 2 ^ 24 + fam * 2 ^ 16 + inst * 2 ^ 8 + log) % 2 ^ 32
    bits c 0 5 = log ∧ bits c 24 8 = v ∧ bits c 16 8 = fam ∧ bits c 8 8 = inst := by
  simp only [bits]
  omega

/-- What RING_OPEN of ring `n` leaves of a state (02 R74). -/
def OpenedAs (n log v sq cq : Nat) (s u : State) : Prop :=
  u.ringState n = idle ∧ u.rd (Reg.HIF_RING_SQ_BASE n) = sq ∧ u.rd (Reg.HIF_RING_CQ_BASE n) = cq ∧
    u.fd (Fld.HIF_RING_CFG_LOG2_SIZE n) = log ∧ u.ringVector n = v ∧
    u.fd (Fld.HIF_RING_CFG_FAMILY n) = (ringTarget n).1 ∧ u.fd (Fld.HIF_RING_CFG_INSTANCE n) = (ringTarget n).2 ∧
    u.ringHead n = 0 ∧ u.ringTail n = 0 ∧ u.rd (Reg.HIF_RING_CPL_TAIL n) = 0 ∧ u.rd (Reg.HIF_RING_CPL_HEAD n) = 0 ∧
    (u.engOf n).fetched = [] ∧ (u.engOf n).held = [] ∧ Keeps [.regs, .eng] s u

theorem ringOpen_opens {s : State} {n log v sq cq : Nat} (hn : ringNumber n = true) (hlog : log < 2 ^ 5) (hv : v < 2 ^ 8)
    (hsq : sq < 2 ^ 64) (hcq : cq < 2 ^ 64) : OpenedAs n log v sq cq s (s.ringOpen n log v sq cq) := by
  obtain ⟨hkept, heng, hregs⟩ := ringOpen_frame s n log v sq cq
  obtain ⟨hsqb, hcqb, hcfg, hhead, htail, hctail, hchead, hstate⟩ := rd_ringShown s n log v sq cq
  obtain ⟨hfam, hinst⟩ := ringTarget_lt hn
  obtain ⟨hclog, hcv, hcfam, hcinst⟩ := ringCfg_parts hlog hv hfam hinst
  rw [ringNumber_iff] at hn
  have hread : ∀ r : Reg, r.addr < 0x900000 → (s.ringOpen n log v sq cq).rd r = (s.ringShown n log v sq cq).rd r := fun r hr =>
    hregs.rd (by
      simp only [Reg.SRV_RING_CFG, List.mem_singleton]
      omega)
  have hfield : ∀ lo w, (s.ringOpen n log v sq cq).fd ⟨Reg.HIF_RING_CFG n, lo, w⟩ =
      bits ((v * 2 ^ 24 + (ringTarget n).1 * 2 ^ 16 + (ringTarget n).2 * 2 ^ 8 + log) % 2 ^ 32) lo w := fun lo w => by
    rw [fd, hread _ (show 0x201010 + 0x40 * n < 0x900000 by omega), hcfg]
  refine ⟨?_, ?_, ?_, (hfield 0 5).trans hclog, (hfield 24 8).trans hcv, (hfield 16 8).trans hcfam, (hfield 8 8).trans hcinst,
    ?_, ?_, ?_, ?_, by rw [heng], by rw [heng], hkept⟩
  · exact congrArg (bits · 0 3) ((hread _ (show 0x201014 + 0x40 * n < 0x900000 by omega)).trans hstate)
  · rw [hread _ (show 0x201000 + 0x40 * n < 0x900000 by omega), hsqb, Nat.mod_eq_of_lt hsq]
  · rw [hread _ (show 0x201008 + 0x40 * n < 0x900000 by omega), hcqb, Nat.mod_eq_of_lt hcq]
  · exact (hread _ (show 0x201018 + 0x40 * n < 0x900000 by omega)).trans hhead
  · exact (hread _ (show 0x20101c + 0x40 * n < 0x900000 by omega)).trans htail
  · exact (hread _ (show 0x201020 + 0x40 * n < 0x900000 by omega)).trans hctail
  · exact (hread _ (show 0x201024 + 0x40 * n < 0x900000 by omega)).trans hchead

/-! ## Closing (02 R676) -/

/-- Closing writes no register of the ring beside STATE and CFG. -/
theorem ringClose_closes (s : State) (n : Nat) :
    let u := s.ringClose n
    u.ringState n = closed ∧ u.fd (Fld.HIF_RING_CFG_FAMILY n) = 0 ∧ u.fd (Fld.HIF_RING_CFG_INSTANCE n) = 0 ∧ Keeps [.regs] s u ∧
      RegsKeep [(Reg.HIF_RING_STATE n).addr, (Reg.HIF_RING_CFG n).addr] s u := by
  let a := s.setRingState n closed
  let b := a.fw (Fld.HIF_RING_CFG_FAMILY n) 0
  have hu : s.ringClose n = b.fw (Fld.HIF_RING_CFG_INSTANCE n) 0 := rfl
  have hne : (Reg.HIF_RING_STATE n).addr ≠ (Reg.HIF_RING_CFG n).addr := by
    simp only [Reg.HIF_RING_STATE, Reg.HIF_RING_CFG]
    omega
  have hstate : RegsKeep [(Reg.HIF_RING_STATE n).addr] s a := regsKeep_fw s (Fld.HIF_RING_STATE_STATE n) closed
  have hfamily : RegsKeep [(Reg.HIF_RING_CFG n).addr] a b := regsKeep_fw a (Fld.HIF_RING_CFG_FAMILY n) 0
  have hinstance : RegsKeep [(Reg.HIF_RING_CFG n).addr] b (b.fw (Fld.HIF_RING_CFG_INSTANCE n) 0) :=
    regsKeep_fw b (Fld.HIF_RING_CFG_INSTANCE n) 0
  simp only [hu]
  refine ⟨?_, ?_, ?_, ?_, ?_⟩
  · rw [ringState_congr ((hfamily.trans hinstance).rd (by simpa using hne))]
    exact fd_fw_self s _ _ (show 0 + 3 ≤ 32 by decide) (show 32 ≤ 64 by decide)
  · rw [fd_fw_apart b (Fld.HIF_RING_CFG_INSTANCE n) (Fld.HIF_RING_CFG_FAMILY n) 0 rfl (.inr (show 8 + 8 ≤ 16 by decide))
      (show 16 + 8 ≤ 32 by decide) (show 32 ≤ 64 by decide)]
    exact fd_fw_self a _ _ (show 16 + 8 ≤ 32 by decide) (show 32 ≤ 64 by decide)
  · exact fd_fw_self b _ _ (show 8 + 8 ≤ 32 by decide) (show 32 ≤ 64 by decide)
  · exact ((keeps_fw s _ _).trans (keeps_fw a _ _)).trans (keeps_fw b _ _)
  · exact (hstate.mono (by simp)).trans ((hfamily.trans hinstance).mono (by simp))

/-! ## RING_RESET (02 R78) -/

/-- RING_RESET of a ring whose queue holds no packet, with no open completion record, writes HEAD and STATE. -/
theorem ringReset_eq {s : State} {n : Nat} (hempty : s.ringHead n = s.ringTail n) (hrec : (s.engOf n).openRec = []) :
    s.ringReset n = (s.wr (Reg.HIF_RING_HEAD n) (s.ringTail n)).setRingState n idle := by
  have hclosed : (s.wr (Reg.HIF_RING_HEAD n) (s.ringTail n)).closeRecord n = s.wr (Reg.HIF_RING_HEAD n) (s.ringTail n) :=
    closeRecord_empty hrec
  rw [ringReset, hempty, sub32_self, ringAbortedFrom, hclosed]

/-- After such a RING_RESET HEAD is the low 32 bits of TAIL. -/
theorem ringReset_rests {s : State} {n : Nat} (hempty : s.ringHead n = s.ringTail n) (hrec : (s.engOf n).openRec = []) :
    let u := s.ringReset n
    u.ringState n = idle ∧ u.ringHead n = s.ringTail n % 2 ^ 32 ∧ u.ringTail n = s.ringTail n ∧ Keeps [.regs] s u ∧
      RegsKeep [(Reg.HIF_RING_STATE n).addr, (Reg.HIF_RING_HEAD n).addr] s u := by
  let a := s.wr (Reg.HIF_RING_HEAD n) (s.ringTail n)
  have hhead : RegsKeep [(Reg.HIF_RING_HEAD n).addr] s a := regsKeep_wr s _ _
  have hstate : RegsKeep [(Reg.HIF_RING_STATE n).addr] a (a.setRingState n idle) := regsKeep_fw a (Fld.HIF_RING_STATE_STATE n) idle
  have hregs : RegsKeep [(Reg.HIF_RING_STATE n).addr, (Reg.HIF_RING_HEAD n).addr] s (a.setRingState n idle) :=
    (hhead.mono (by simp)).trans (hstate.mono (by simp))
  simp only [ringReset_eq hempty hrec]
  refine ⟨fd_fw_self a _ _ (show 0 + 3 ≤ 32 by decide) (show 32 ≤ 64 by decide), ?_, hregs.rd ?_,
    (keeps_wr s _ _).trans (keeps_fw a _ _), hregs⟩
  · rw [ringHead, hstate.rd]
    · exact rd_wr_self s _ _ (show 32 ≤ 64 by decide)
    · simp only [Reg.HIF_RING_HEAD, Reg.HIF_RING_STATE, List.mem_singleton]
      omega
  · simp only [Reg.HIF_RING_TAIL, Reg.HIF_RING_HEAD, Reg.HIF_RING_STATE, List.mem_cons, List.not_mem_nil, or_false]
    omega

/-! ## Doorbells (02 R75, R77) -/

/-- A submission-tail doorbell in order becomes TAIL, and a ring with work becomes ACTIVE. -/
theorem sqTail_moves {s : State} {n tail : Nat} (hlt : tail < 2 ^ 32) (hruns : s.ringRuns n = true)
    (hback : sub32 (s.ringTail n) (s.ringHead n) ≤ sub32 tail (s.ringHead n)) (hsize : sub32 tail (s.ringHead n) ≤ s.ringSize n) :
    let u := s.sqTail n tail
    u.ringTail n = tail ∧ Keeps [.regs] s u ∧ RegsKeep [(Reg.HIF_RING_TAIL n).addr, (Reg.HIF_RING_STATE n).addr] s u ∧
      (0 < sub32 tail (s.ringHead n) → u.ringState n = active) ∧ (sub32 tail (s.ringHead n) = 0 → u.ringState n = s.ringState n) := by
  let a := s.wr (Reg.HIF_RING_TAIL n) tail
  have hne : (Reg.HIF_RING_TAIL n).addr ≠ (Reg.HIF_RING_STATE n).addr := by
    simp only [Reg.HIF_RING_TAIL, Reg.HIF_RING_STATE]
    omega
  have hmoved : RegsKeep [(Reg.HIF_RING_TAIL n).addr] s a := regsKeep_wr s _ _
  have hstate : a.ringState n = s.ringState n := ringState_congr (hmoved.rd (by simpa using hne.symm))
  have htail : a.ringTail n = tail := (rd_wr_self s _ _ (show 32 ≤ 64 by decide)).trans (Nat.mod_eq_of_lt hlt)
  have hu : s.sqTail n tail = if a.ringState n = idle && 0 < sub32 tail (s.ringHead n) then a.setRingState n active else a := by
    simp [sqTail, hruns, hback, hsize, a]
  simp only [hu]
  split
  case isTrue h =>
    simp only [Bool.and_eq_true, decide_eq_true_eq] at h
    have hset : RegsKeep [(Reg.HIF_RING_STATE n).addr] a (a.setRingState n active) :=
      regsKeep_fw a (Fld.HIF_RING_STATE_STATE n) active
    exact ⟨(hset.rd (by simpa using hne)).trans htail, (keeps_wr s _ _).trans (keeps_fw a _ _),
      (hmoved.mono (by simp)).trans (hset.mono (by simp)),
      fun _ => fd_fw_self a _ _ (show 0 + 3 ≤ 32 by decide) (show 32 ≤ 64 by decide), fun h0 => absurd h0 (by omega)⟩
  case isFalse h =>
    simp only [Bool.and_eq_true, decide_eq_true_eq, hstate] at h
    refine ⟨htail, keeps_wr s _ _, hmoved.mono (by simp), fun h0 => ?_, fun _ => hstate⟩
    simp only [ringRuns, Bool.or_eq_true, beq_iff_eq] at hruns
    exact hstate.trans (hruns.resolve_left fun hidle => h ⟨hidle, h0⟩)

/-- A submission-tail doorbell out of order sets TAIL_OVF. -/
theorem sqTail_overflows {s : State} {n tail : Nat} (hruns : s.ringRuns n = true)
    (hbad : ¬(sub32 (s.ringTail n) (s.ringHead n) ≤ sub32 tail (s.ringHead n) ∧ sub32 tail (s.ringHead n) ≤ s.ringSize n)) :
    s.sqTail n tail = s.fw (Fld.HIF_RING_STATE_TAIL_OVF n) 1 := by
  have hcond : (decide (sub32 (s.ringTail n) (s.ringHead n) ≤ sub32 tail (s.ringHead n)) &&
      decide (sub32 tail (s.ringHead n) ≤ s.ringSize n)) = false := by
    rw [← Bool.decide_and]
    exact decide_eq_false hbad
  simp only [sqTail, hruns, hcond, Bool.not_true, Bool.false_eq_true, if_false, fbw, b2n, if_true]

/-- A ring that is IDLE, of a unit without a command, with no reply held and no command of the MCC in progress, stays as it is. -/
theorem startNext_idle {s : State} {n : Nat} (hidle : s.ringState n = idle) (hheld : (s.engOf n).held = [])
    (hcur : (s.engOf n).cur = none) (hmcc : s.mcc.cur = none) (hrim : s.rimOwns n = false) : s.startNext n = s := by
  have haux : ∀ k, startNextAux n k s = s := fun k => by
    cases k with
    | zero => rfl
    | succ k => simp [startNextAux, hcur, hheld, mccTileJob, hmcc, hidle, hrim, active, idle]
  rw [startNext, haux, ringSettle, hidle]
  rfl

/-- A completion-head doorbell in order of a ring at rest moves CPL_HEAD. -/
theorem cqHead_moves {s : State} {n head : Nat} (hn : n < 128)
    (hin : sub32 head (s.rd (Reg.HIF_RING_CPL_HEAD n)) ≤ sub32 (s.rd (Reg.HIF_RING_CPL_TAIL n)) (s.rd (Reg.HIF_RING_CPL_HEAD n)))
    (hidle : s.ringState n = idle) (hheld : (s.engOf n).held = []) (hrec : (s.engOf n).openRec = [])
    (hcur : (s.engOf n).cur = none) (hmcc : s.mcc.cur = none) (hrim : s.rimOwns n = false) :
    s.cqHead n head = s.wr (Reg.HIF_RING_CPL_HEAD n) head := by
  let a := s.wr (Reg.HIF_RING_CPL_HEAD n) head
  have hregs : RegsKeep [(Reg.HIF_RING_CPL_HEAD n).addr] s a := regsKeep_wr s _ _
  have hstate : a.ringState n = idle := (ringState_congr (hregs.rd (by
    simp only [Reg.HIF_RING_STATE, Reg.HIF_RING_CPL_HEAD, List.mem_singleton]
    omega))).trans hidle
  have hrima : a.rimOwns n = false := by
    refine (rimOwns_congr (hregs.rd ?_) (hregs.rd ?_) n).trans hrim
    all_goals
      simp only [Reg.RIM_STATUS, Reg.RIM_TILES, Reg.HIF_RING_CPL_HEAD, List.mem_singleton]
      omega
  have hnone : a.flushHeld n = a := by
    rw [flushHeld, show (a.engOf n).held = [] from hheld]
    rfl
  have hopen : s.ringState n ≠ closed := by rw [hidle]; decide
  simp only [cqHead, hopen, hin, if_false, if_true, hnone, a]
  rw [closeRecord_empty (show (a.engOf n).openRec = [] from hrec), ite_self]
  exact startNext_idle hstate hheld hcur hmcc hrima

/-- A completion-head doorbell out of order sets CQ_HEAD_ERR. -/
theorem cqHead_errs {s : State} {n head : Nat} (hopen : s.ringState n ≠ closed)
    (hbad : ¬sub32 head (s.rd (Reg.HIF_RING_CPL_HEAD n)) ≤
      sub32 (s.rd (Reg.HIF_RING_CPL_TAIL n)) (s.rd (Reg.HIF_RING_CPL_HEAD n))) :
    s.cqHead n head = s.fw (Fld.HIF_RING_STATE_CQ_HEAD_ERR n) 1 := by
  simp only [cqHead, hopen, hbad, if_false, fbw, b2n, if_true]

/-! ## Fetches (02 R76, R78) -/

theorem fetchIndex_idle {s : State} {n : Nat} (h : s.engOf n = Engine.idle) : s.fetchIndex n = s.ringHead n := by
  simp [fetchIndex, h, Engine.idle]

/-- A fetch at rest that meets an uncorrectable error halts the ring. -/
theorem fetchFail_halts {s : State} {n idx : Nat} {a : Ans} (hn : n < 128) (heng : s.engOf n = Engine.idle) (hconf : s.conf = false)
    (hroom : s.cqSpace n = true) (hrim : s.rimOwns n = false) (hue : a.status = Sts.eccHalt) :
    let u := s.fetchFail n idx a
    u.ringState n = halted ∧ u.fd (Fld.HIF_RING_STATE_LAST_STATUS n) = Sts.eccHalt ∧ u.mem = s.mem := by
  let b := s.logUe ⟨5, s.viaIsland (.ring n), a.status⟩ a.r1 false
  let c := b.wr (Reg.HIF_RING_HEAD n) ((idx + 1) % 2 ^ 32)
  have hlogged : Keeps [.regs, .log, .out, .hif] s b := keeps_trouble s _ _ _ _ _
  have hkept : Keeps [.regs, .log, .out, .hif] s c := hlogged.trans ((keeps_wr b _ _).mono (by simp))
  have hregs : RegsKeep [Reg.RAS_LOG_SEQ.addr, (Reg.HIF_RING_HEAD n).addr] s c :=
    ((regsKeep_trouble s _ _ _ _ _).mono (by simp)).trans ((regsKeep_wr b (Reg.HIF_RING_HEAD n) _).mono (by simp))
  have henga : c.engOf n = Engine.idle := (hkept.engOf (by simp) n).trans heng
  have hengc : c.engOf n = Engine.idle := (hkept.engOf (by simp) n).trans heng
  have hread : ∀ r : Reg, r.addr ≠ 0x700008 → r.addr ≠ 0x201018 + 0x40 * n → c.rd r = s.rd r := fun r hlog hhead =>
    hregs.rd (by simp [Reg.RAS_LOG_SEQ, Reg.HIF_RING_HEAD, hlog, hhead])
  have hrimc : c.rimOwns n = false :=
    (rimOwns_congr (hread _ (by decide) (show 0xa00000 ≠ _ by omega)) (hread _ (by decide) (show 0xa00004 ≠ _ by omega)) n).trans hrim
  have hconfc : c.conf = false :=
    (congrArg (bits · 0 1 != 0) (hread Reg.HIF_CTRL (by decide) (show 0x200000 ≠ _ by omega))).trans hconf
  have hroomc : c.cqSpace n = true := by
    refine (cqSpace_congr (hread _ ?_ ?_) (hread _ ?_ ?_) (hread _ ?_ ?_)).trans hroom
    all_goals
      simp only [Reg.HIF_RING_CPL_TAIL, Reg.HIF_RING_CPL_HEAD, Reg.HIF_RING_CFG]
      omega
  have hfail : s.fetchFail n idx a = (c.cqWrite n (replyBits 0 0 b.now a false) false).ringHalt n a.status a.r1 := by
    rw [← ringReply_writes hrimc hconfc (by rw [hengc]; rfl) hroomc]
    simp [fetchFail, heng, hue, Engine.idle, b, c]
  obtain ⟨hwritten, -⟩ := cqWrite_frame c n (replyBits 0 0 b.now a false) false
  obtain ⟨hhalted, hlast, -, hkeep, -⟩ := ringHalt_halts (s := c.cqWrite n (replyBits 0 0 b.now a false) false) (n := n)
    (status := a.status) a.r1 (by rw [hwritten.engOf (by simp), hengc]; rfl) (by rw [hue]; decide)
  simp only [hfail]
  exact ⟨hhalted, hlast.trans hue, ((hkeep .mem (by simp)).trans (hwritten .mem (by simp))).trans (hkept .mem (by simp))⟩

/-! ## The rows -/

section
variable {s s1 : State} {via : Via} {p : Packet} {j : Job}

theorem exec_ringOpen {log v : Nat} (h : Starts s true via p j s1) (hop : p.base = 0x0110) (hshape : openShape p = some (log, v))
    (hcheck : s1.ringOpenCheck p = none) :
    exec (.ringOpen via p) s =
      .next (((s1.beginJob true via j).ringOpen (p.u16 16) log v (p.u64 24) (p.u64 32)).finish via .done) := by
  refine congrArg Host.Outcome.next ?_
  simp only [hop, beq_self_eq_true]
  rw [runRow_starts h hcheck]
  simp only [hshape]

theorem exec_ringClose (h : Starts s true via p j s1) (hop : p.base = 0x0111) (hn : ringNumber (p.u16 16) = true)
    (hidle : s1.ringState (p.u16 16) = idle) :
    exec (.ringClose via p) s = .next (((s1.beginJob true via j).ringClose (p.u16 16)).finish via .done) := by
  refine congrArg Host.Outcome.next ?_
  simp only [hop, beq_self_eq_true]
  rw [runRow_starts h (by simp [firstFail, hn, hidle])]

theorem exec_ringClose_refused (h : Starts s true via p j s1) (hop : p.base = 0x0111) (hn : ringNumber (p.u16 16) = true)
    (hother : s1.ringState (p.u16 16) ≠ idle) :
    exec (.ringClose via p) s = .next (s1.finish via (.errD Sts.ringState (s1.ringState (p.u16 16)))) := by
  have hcheck : firstFail [(!ringNumber (p.u16 16), .param), (s1.ringState (p.u16 16) != idle, .errD Sts.ringState
      (s1.ringState (p.u16 16)))] = some (.errD Sts.ringState (s1.ringState (p.u16 16))) := by
    simp [firstFail, hn, hother]
  refine congrArg Host.Outcome.next ?_
  simp only [hop, beq_self_eq_true]
  rw [runRow_fails h hcheck]

theorem exec_ringReset (h : Starts s true via p j s1) (hop : p.base = 0x0112)
    (hcheck : s1.ringResetCheck (p.u16 16) = none) :
    exec (.ringReset via p) s = .next (((s1.beginJob true via j).ringReset (p.u16 16)).finish via .done) := by
  refine congrArg Host.Outcome.next ?_
  simp only [hop, beq_self_eq_true]
  rw [runRow_starts h hcheck]

theorem exec_ringReset_refused {a : Ans} (h : Starts s true via p j s1) (hop : p.base = 0x0112)
    (hcheck : s1.ringResetCheck (p.u16 16) = some a) : exec (.ringReset via p) s = .next (s1.finish via a) := by
  refine congrArg Host.Outcome.next ?_
  simp only [hop, beq_self_eq_true]
  rw [runRow_fails h hcheck]

end

/-! ## The clauses of O12 that hold

O12 as a whole fails in one corner of its clause on RING_RESET, below; the rules that its other clauses state hold. -/

section
variable {s s1 : State} {via : Via} {p : Packet} {j : Job}

theorem ringOpen_ends {log v : Nat} (h : Starts s true via p j s1) (hop : p.base = 0x0110) (hshape : openShape p = some (log, v))
    (hcheck : s1.ringOpenCheck p = none) (hv : v < 2 ^ 8) :
    Ends (exec (.ringOpen via p) s) via .done (OpenedAs (p.u16 16) log v (p.u64 24) (p.u64 32) (s1.beginJob true via j)) := by
  obtain ⟨hn, hlog⟩ := ringOpenCheck_passed hshape hcheck
  have hqueue : ∀ off, p.u64 off < 2 ^ 64 := fun off => Nat.mod_lt _ (by decide)
  exact ⟨_, exec_ringOpen h hop hshape hcheck, ringOpen_opens hn (by omega) hv (hqueue 24) (hqueue 32)⟩

theorem ringClose_ends (h : Starts s true via p j s1) (hop : p.base = 0x0111) (hn : ringNumber (p.u16 16) = true)
    (hidle : s1.ringState (p.u16 16) = idle) :
    let n := p.u16 16
    Ends (exec (.ringClose via p) s) via .done (fun u => u.ringState n = closed ∧ u.fd (Fld.HIF_RING_CFG_FAMILY n) = 0 ∧
      u.fd (Fld.HIF_RING_CFG_INSTANCE n) = 0 ∧ Keeps [.regs] (s1.beginJob true via j) u ∧
      RegsKeep [(Reg.HIF_RING_STATE n).addr, (Reg.HIF_RING_CFG n).addr] (s1.beginJob true via j) u) :=
  ⟨_, exec_ringClose h hop hn hidle, ringClose_closes _ _⟩

/-- RING_RESET of a HALTED or ABORTED ring whose queue holds no packet. The statement's clause lacks the premise that TAIL fits its 32
bits. -/
theorem ringReset_ends (h : Starts s true via p j s1) (hop : p.base = 0x0112) (hn : ringNumber (p.u16 16) = true)
    (hrest : s1.ringState (p.u16 16) = halted ∨ s1.ringState (p.u16 16) = aborted)
    (htrap : (decide (p.u16 16 < 32) && (s1.tile (p.u16 16)).trapped) = false) (hempty : s1.ringHead (p.u16 16) = s1.ringTail (p.u16 16))
    (hrec : (s1.engOf (p.u16 16)).openRec = []) (hfits : s1.ringTail (p.u16 16) < 2 ^ 32) :
    let n := p.u16 16
    Ends (exec (.ringReset via p) s) via .done (fun u => u.ringState n = idle ∧ u.ringHead n = u.ringTail n ∧
      Keeps [.regs] (s1.beginJob true via j) u ∧
      RegsKeep [(Reg.HIF_RING_STATE n).addr, (Reg.HIF_RING_HEAD n).addr] (s1.beginJob true via j) u) := by
  have hcheck : s1.ringResetCheck (p.u16 16) = none := by
    rcases hrest with hstate | hstate <;> simp [ringResetCheck, firstFail, hn, htrap, hstate, halted, aborted]
  rw [ringNumber_iff] at hn
  have hhead : (s1.beginJob true via j).ringHead (p.u16 16) = s1.ringHead (p.u16 16) :=
    rd_beginJob_ring s1 true via j (show 0x201018 + 0x40 * p.u16 16 < 0x700000 by omega)
  have htail : (s1.beginJob true via j).ringTail (p.u16 16) = s1.ringTail (p.u16 16) :=
    rd_beginJob_ring s1 true via j (show 0x20101c + 0x40 * p.u16 16 < 0x700000 by omega)
  obtain ⟨hidle, hnew, hold, hkept, hregs⟩ := ringReset_rests (s := s1.beginJob true via j) (n := p.u16 16)
    (by rw [hhead, htail, hempty]) ((openRec_beginJob s1 true via j _).trans hrec)
  refine ⟨_, exec_ringReset h hop hcheck, hidle, ?_, hkept, hregs⟩
  rw [hnew, hold, htail, Nat.mod_eq_of_lt hfits]

/-- 04 R160: RING_RESET of the ring of a trapped tile is refused. -/
theorem ringReset_trapped (h : Starts s true via p j s1) (hop : p.base = 0x0112) (hn : ringNumber (p.u16 16) = true)
    (htrap : (decide (p.u16 16 < 32) && (s1.tile (p.u16 16)).trapped) = true) :
    exec (.ringReset via p) s = .next (s1.finish via (.refuse 0x0201)) :=
  exec_ringReset_refused h hop (by simp [ringResetCheck, firstFail, hn, htrap])

theorem ringReset_otherState (h : Starts s true via p j s1) (hop : p.base = 0x0112) (hn : ringNumber (p.u16 16) = true)
    (htrap : (decide (p.u16 16 < 32) && (s1.tile (p.u16 16)).trapped) = false) (hhalted : s1.ringState (p.u16 16) ≠ halted)
    (haborted : s1.ringState (p.u16 16) ≠ aborted) : exec (.ringReset via p) s = .next (s1.finish via (.err Sts.ringState)) :=
  exec_ringReset_refused h hop (by simp [ringResetCheck, firstFail, hn, htrap, hhalted, haborted])

end

section
variable {s : State} {n : Nat}

theorem dbSqTail_ignored (tail : BitVec 32) (h : s.ringRuns n = false) : exec (.dbSqTail n tail) s = .next s := by
  refine congrArg Host.Outcome.next ?_
  simp [sqTail, h]

theorem exec_dbSqTail (hn : n < 256) (tail : BitVec 32) : exec (.dbSqTail n tail) s = .next (s.sqTail n tail.toNat) :=
  congrArg Host.Outcome.next (if_pos hn)

theorem dbSqTail_moves {tail : BitVec 32} (hn : n < 256) (hruns : s.ringRuns n = true)
    (hback : sub32 (s.ringTail n) (s.ringHead n) ≤ sub32 tail.toNat (s.ringHead n))
    (hsize : sub32 tail.toNat (s.ringHead n) ≤ s.ringSize n) :
    Goes (exec (.dbSqTail n tail) s) (fun u => u.ringTail n = tail.toNat ∧ Keeps [.regs] s u ∧
      RegsKeep [(Reg.HIF_RING_TAIL n).addr, (Reg.HIF_RING_STATE n).addr] s u ∧
      (0 < sub32 tail.toNat (s.ringHead n) → u.ringState n = active) ∧
      (sub32 tail.toNat (s.ringHead n) = 0 → u.ringState n = s.ringState n)) :=
  ⟨_, exec_dbSqTail hn tail, sqTail_moves tail.isLt hruns hback hsize⟩

theorem dbSqTail_overflows {tail : BitVec 32} (hn : n < 256) (hruns : s.ringRuns n = true)
    (hbad : ¬(sub32 (s.ringTail n) (s.ringHead n) ≤ sub32 tail.toNat (s.ringHead n) ∧
      sub32 tail.toNat (s.ringHead n) ≤ s.ringSize n)) :
    Goes (exec (.dbSqTail n tail) s) (fun u => u.fd (Fld.HIF_RING_STATE_TAIL_OVF n) = 1 ∧ Keeps [.regs] s u ∧
      RegsKeep [(Reg.HIF_RING_STATE n).addr] s u) :=
  ⟨_, (exec_dbSqTail hn tail).trans (congrArg Host.Outcome.next (sqTail_overflows hruns hbad)),
    fd_fw_self s _ _ (show 3 + 1 ≤ 32 by decide) (show 32 ≤ 64 by decide), keeps_fw s _ _,
    regsKeep_fw s (Fld.HIF_RING_STATE_TAIL_OVF n) 1⟩

theorem exec_dbCqHead (hn : n < 128) (head : BitVec 32) : exec (.dbCqHead n head) s = .next (s.cqHead n head.toNat) :=
  congrArg Host.Outcome.next (if_pos (by omega))

theorem dbCqHead_errs {head : BitVec 32} (hn : n < 128) (hopen : s.ringState n ≠ closed)
    (hbad : ¬sub32 head.toNat (s.rd (Reg.HIF_RING_CPL_HEAD n)) ≤
      sub32 (s.rd (Reg.HIF_RING_CPL_TAIL n)) (s.rd (Reg.HIF_RING_CPL_HEAD n))) :
    Goes (exec (.dbCqHead n head) s) (fun u => u.fd (Fld.HIF_RING_STATE_CQ_HEAD_ERR n) = 1 ∧ Keeps [.regs] s u ∧
      RegsKeep [(Reg.HIF_RING_STATE n).addr] s u) :=
  ⟨_, (exec_dbCqHead hn head).trans (congrArg Host.Outcome.next (cqHead_errs hopen hbad)),
    fd_fw_self s _ _ (show 4 + 1 ≤ 32 by decide) (show 32 ≤ 64 by decide), keeps_fw s _ _,
    regsKeep_fw s (Fld.HIF_RING_STATE_CQ_HEAD_ERR n) 1⟩

theorem dbCqHead_moves {head : BitVec 32} (hn : n < 128)
    (hin : sub32 head.toNat (s.rd (Reg.HIF_RING_CPL_HEAD n)) ≤
      sub32 (s.rd (Reg.HIF_RING_CPL_TAIL n)) (s.rd (Reg.HIF_RING_CPL_HEAD n)))
    (hidle : s.ringState n = idle) (hheld : (s.engOf n).held = []) (hrec : (s.engOf n).openRec = [])
    (hcur : (s.engOf n).cur = none) (hmcc : s.mcc.cur = none) (hrim : s.rimOwns n = false) :
    Goes (exec (.dbCqHead n head) s) (fun u => u.rd (Reg.HIF_RING_CPL_HEAD n) = head.toNat ∧ Keeps [.regs] s u ∧
      RegsKeep [(Reg.HIF_RING_CPL_HEAD n).addr] s u) :=
  ⟨_, (exec_dbCqHead hn head).trans (congrArg Host.Outcome.next (cqHead_moves hn hin hidle hheld hrec hcur hmcc hrim)),
    (rd_wr_self s _ _ (show 32 ≤ 64 by decide)).trans (Nat.mod_eq_of_lt head.isLt), keeps_wr s _ _, regsKeep_wr s _ _⟩

theorem exec_packetFetch (hn : n < 128) (seen : Seen) : exec (.packetFetch n seen) s = .next (s.ringFetch n seen) :=
  congrArg Host.Outcome.next (if_pos hn)

theorem packetFetch_leaves (hn : n < 128) (seen : Seen) (hmay : s.mayFetch n = false) : exec (.packetFetch n seen) s = .next s := by
  rw [exec_packetFetch hn, ringFetch]
  simp [hmay]

/-- The packet at HEAD of a ring's submission queue. -/
def headPacket (s : State) (n : Nat) : Packet :=
  Packet.ofBits (BitVec.ofNat 512 (ofLE (s.hostRead (s.rd (Reg.HIF_RING_SQ_BASE n) + 64 * (s.ringHead n % s.ringSize n)) 64)))

theorem packetFetch_takes {seen : Seen} (hn : n < 128) (hmay : s.mayFetch n = true) (hconf : s.conf = false)
    (heng : s.engOf n = Engine.idle) (hseen : seen ≠ .ue) :
    exec (.packetFetch n seen) s = .next (s.fetched n (s.ringHead n) [s.headPacket n]) := by
  rw [exec_packetFetch hn, ringFetch, fetchIndex_idle heng]
  simp [hmay, hconf, hseen, headPacket]

theorem packetFetch_halts (hn : n < 128) (hmay : s.mayFetch n = true) (hconf : s.conf = false) (heng : s.engOf n = Engine.idle)
    (hroom : s.cqSpace n = true) (hrim : s.rimOwns n = false) :
    Goes (exec (.packetFetch n .ue) s) (fun u => u.ringState n = halted ∧
      u.fd (Fld.HIF_RING_STATE_LAST_STATUS n) = Sts.eccHalt ∧ u.mem = s.mem) := by
  refine ⟨_, exec_packetFetch hn .ue, ?_⟩
  rw [ringFetch]
  simp only [hmay, hconf, Bool.not_true, Bool.false_eq_true, if_false, if_true]
  exact fetchFail_halts hn heng hconf hroom hrim rfl

end

/-- Beside MCC_STATUS, the MCC's reply to a command that came through BAR0 without IRQ leaves every register. -/
theorem rd_finish_mcc {s : State} {j : Job} (hcur : s.mcc.cur = some j) (hbar : j.i3c = false) (hrec : s.mcc.confCmd = none)
    (hirq : j.pkt.irq = false) (a : Ans) {r : Reg} (hr : r.addr ≠ Reg.MCC_STATUS.addr) : (s.finish .mcc a).rd r = s.rd r := by
  obtain ⟨-, hregs, -⟩ := mccReplied_valid s (j.reply a s.now)
  rw [finish_mcc_bar0 hcur hbar hrec hirq]
  exact hregs.rd (by simpa using hr)

end Sys2Proof.Machine.State

namespace Sys2Proof

open Machine Machine.State Safety

/-- A RING_RESET of ring 0 on the MCC. -/
def ringResetJob : Job := ⟨⟨0x0112, 0, 1, 0, 0⟩, .mcc, false, 0, false, false, 0⟩

theorem ringResetJob_ring : ringResetJob.pkt.u16 16 = 0 := by decide +kernel

/-- After reset, with that command on the MCC, ring 0 HALTED and 2^32 in HEAD and in TAIL: a register file that lists each register once,
with a value that no write leaves in a register of 32 bits. -/
def wideTail : State :=
  { State.reset with
    regs := [((Reg.HIF_RING_STATE 0).addr, 3), ((Reg.HIF_RING_HEAD 0).addr, 2 ^ 32), ((Reg.HIF_RING_TAIL 0).addr, 2 ^ 32)]
    mcc := { State.reset.mcc with cur := some ringResetJob } }

/-- The model's canonical form of the register file does not exclude it. -/
theorem wideTail_wf : Registers.wf wideTail = true := by decide

theorem wideTail_starts : Starts wideTail true .mcc ringResetJob.pkt ringResetJob wideTail where
  job := rfl
  packet := rfl
  fresh := rfl
  path := by decide
  served := fun _ hrec => absurd hrec (by decide)
  block := rfl
  timely := fun _ => ⟨by decide, .inl rfl⟩

theorem wideTail_runs : exec (.ringReset .mcc ringResetJob.pkt) wideTail =
    .next (((wideTail.beginJob true .mcc ringResetJob).ringReset 0).finish .mcc .done) := by
  have hrun := exec_ringReset wideTail_starts (by decide) (by rw [ringResetJob_ring]; decide)
  rwa [ringResetJob_ring] at hrun

/-- What RING_RESET leaves of ring 0 there: HEAD is cut to its 32 bits, TAIL is not. -/
theorem wideTail_reset :
    let w := wideTail.beginJob true .mcc ringResetJob
    (w.ringReset 0).ringHead 0 = 0 ∧ (w.ringReset 0).ringTail 0 = 2 ^ 32 ∧ Keeps [.regs] w (w.ringReset 0) := by
  obtain ⟨-, hhead, htail, hkept, -⟩ := ringReset_rests (s := wideTail.beginJob true .mcc ringResetJob) (n := 0) (by decide) rfl
  exact ⟨hhead.trans (by decide), htail.trans (by decide), hkept⟩

/-- The MCC's reply to the command that has begun there leaves the ring's registers. -/
theorem wideTail_finish {t : State} (h : Keeps [.regs] (wideTail.beginJob true .mcc ringResetJob) t) (a : Ans) {r : Reg}
    (hr : r.addr ≠ Reg.MCC_STATUS.addr) : (t.finish .mcc a).rd r = t.rd r := by
  have hmcc : t.mcc = { State.reset.mcc with cur := some { ringResetJob with begun := true } } := h .mcc (by simp)
  exact rd_finish_mcc (j := { ringResetJob with begun := true }) (by rw [hmcc]) rfl (by rw [hmcc]; rfl) (by decide) a hr

/-- Refutes O12: its clause on RING_RESET admits a TAIL of more than 32 bits, for it asks nothing of the values in the register file.
RING_RESET stores such a TAIL in HEAD cut to 32 bits, so the two differ. -/
theorem not_ringsOpenCloseAndFetch : ¬ Obligations.RingsOpenCloseAndFetch := by
  unfold Obligations.RingsOpenCloseAndFetch
  rintro ⟨-, -, hreset, -⟩
  have hclause := hreset wideTail .mcc ringResetJob.pkt ringResetJob wideTail wideTail_starts (by decide)
    (by rw [ringResetJob_ring]; rfl)
  simp only [ringResetJob_ring] at hclause
  obtain ⟨hrests, -⟩ := hclause
  obtain ⟨u, hgo, -, hequal, hkept, -⟩ := hrests (.inl (by decide)) (by decide) (by decide) rfl
  obtain ⟨hhead, htail, hkeptw⟩ := wideTail_reset
  have hsame : u.finish .mcc .done = ((wideTail.beginJob true .mcc ringResetJob).ringReset 0).finish .mcc .done :=
    Host.Outcome.next.inj (hgo.symm.trans wideTail_runs)
  have hread : ∀ r : Reg, r.addr ≠ Reg.MCC_STATUS.addr →
      u.rd r = ((wideTail.beginJob true .mcc ringResetJob).ringReset 0).rd r := fun r hr => by
    rw [← wideTail_finish hkept .done hr, hsame, wideTail_finish hkeptw .done hr]
  have hzero : u.ringHead 0 = 0 := (hread _ (by decide)).trans hhead
  have hwide : u.ringTail 0 = 2 ^ 32 := (hread _ (by decide)).trans htail
  exact absurd (hzero.symm.trans (hequal.trans hwide)) (by decide)

end Sys2Proof
end

section
/-! The number formats (O14): the codes of a format, and rounding a number that the format holds. -/

namespace Sys2Proof.Machine

/-! ## Integer formats (03 R89, R95) -/

/-- Two's complement gives back the bits it was read from. -/
theorem ofInt_sext {w x : Nat} (h : x < 2 ^ w) : ofInt w (sext w x) = x := by
  have hread : sext w x % ((2 ^ w : Nat) : Int) = x := by
    rw [sext, Nat.mod_eq_of_lt h]
    split
    · exact Int.emod_eq_of_lt (by omega) (by omega)
    · rw [Int.sub_emod_right]
      exact Int.emod_eq_of_lt (by omega) (by omega)
  rw [ofInt, hread, Int.toNat_natCast]

theorem ofInt_natCast {w x : Nat} (h : x < 2 ^ w) : ofInt w x = x := by
  rw [ofInt, ← Int.natCast_emod, Int.toNat_natCast, Nat.mod_eq_of_lt h]

/-- A reading of `v + 1` bits in two's complement lies in the range of that width. -/
theorem sext_range (v x : Nat) : -((2 ^ v : Nat) : Int) ≤ sext (v + 1) x ∧ sext (v + 1) x < (2 ^ v : Nat) := by
  have hlt := Nat.mod_lt x (Nat.two_pow_pos (v + 1))
  rw [sext, Nat.add_sub_cancel]
  rw [Nat.pow_succ] at hlt ⊢
  split <;> omega

/-- A number that lies on the grid is rounded to itself, exactly. -/
theorem roundAt_own_exponent (r : Rounding) (m : Nat) (e : Int) : Mag.roundAt r ⟨m, e, false⟩ e = (m, true) := by
  simp [Mag.roundAt]

theorem signed_natAbs (i : Int) : (if decide (i < 0) = true then -(i.natAbs : Int) else i.natAbs) = i := by
  by_cases h : i < 0
  · rw [if_pos (decide_eq_true h)]
    omega
  · rw [if_neg (by simpa using h)]
    omega

/-- The integer formats have at most 32 bits. -/
theorem intRange_bounds (fmt : Nat) : -2 ^ 32 ≤ (intRange fmt).1 ∧ (intRange fmt).2 ≤ 2 ^ 32 := by
  unfold intRange
  split <;> decide

/-- An integer in an integer format's range converts into its two's complement with no flag. -/
theorem convertVal_ofInt (r : Rounding) {fmt : Nat} (hfmt : ffmt fmt = none) {i : Int} (hlo : (intRange fmt).1 ≤ i)
    (hhi : i ≤ (intRange fmt).2) : convertVal r fmt (.ofInt i) = (ofInt (intBits fmt) i, 0) := by
  have hlog : ¬ (64 : Int) < (Nat.log2 i.natAbs : Int) + 0 := by
    rcases Nat.eq_zero_or_pos i.natAbs with hzero | hpos
    · rw [hzero]
      decide
    · obtain ⟨hmin, hmax⟩ := intRange_bounds fmt
      have : Nat.log2 i.natAbs < 64 := (Nat.log2_lt hpos.ne').mpr (by omega)
      omega
  have hsigned := signed_natAbs i
  simp only [convertVal, convert, hfmt, Val.ofInt, Val.toRes, roundInt, if_neg hlog, roundAt_own_exponent, hsigned]
  rw [if_neg (by omega), if_neg (by omega)]
  rfl

/-! ## Codes of floating formats (03 Tables 3-1 and 3-2) -/

/-- The code with a sign, an exponent field and a mantissa field, in a format without unused low bits. -/
def FFmt.code (f : FFmt) (neg : Bool) (e m : Nat) : Nat := f.signBit neg + (e * 2 ^ f.mb + m)

/-- A code is made of its fields. -/
theorem code_fields {f : FFmt} (hpad : f.pad = 0) {raw : Nat} (h : raw < 2 ^ (f.mb + f.eb + 1)) :
    f.code (bit raw (f.mb + f.eb)) (bits raw f.mb f.eb) (bits raw 0 f.mb) = raw := by
  have hsign : f.signBit (bit raw (f.mb + f.eb)) = 2 ^ (f.mb + f.eb) * (raw / 2 ^ (f.mb + f.eb)) := by
    have hlt : raw / 2 ^ (f.mb + f.eb) < 2 := Nat.div_lt_of_lt_mul (by rwa [← Nat.pow_succ])
    rw [FFmt.signBit, hpad, bit]
    interval_cases raw / 2 ^ (f.mb + f.eb) <;> simp
  have hfields : bits raw f.mb f.eb * 2 ^ f.mb + bits raw 0 f.mb = raw % 2 ^ (f.mb + f.eb) := by
    rw [Nat.pow_add, Nat.mod_mul, bits, bits, Nat.pow_zero, Nat.div_one, Nat.mul_comm, Nat.add_comm]
  rw [FFmt.code, hsign, hfields, Nat.div_add_mod]

/-- Whether a code's fields stand for a finite number (03 Table 3-2). -/
def FFmt.FiniteCode (f : FFmt) (e m : Nat) : Prop :=
  (f.hasInf = true → e ≠ 2 ^ f.eb - 1) ∧ (f.hasNan = true → f.hasInf = false → ¬(e = 2 ^ f.eb - 1 ∧ m = 2 ^ f.mb - 1))

/-- What makes a floating format write back what it reads: no unused low bits, and no finite code above the largest finite number. -/
structure FFmt.Regular (f : FFmt) : Prop where
  pad : f.pad = 0
  maxM : 2 ^ f.mb ≤ f.maxM
  maxE : 1 - (f.bias : Int) - f.mb ≤ f.maxE
  finite_le : ∀ e m, e < 2 ^ f.eb → m < 2 ^ f.mb → f.FiniteCode e m →
    (e : Int) - f.bias - f.mb ≤ f.maxE ∧ ((e : Int) - f.bias - f.mb = f.maxE → 2 ^ f.mb + m ≤ f.maxM)

/-- The floating formats but TF32, whose container has unused low bits, are regular (03 Table 3-2): a code that is
no infinity and no NaN stays below the top exponent field where the format has infinities, and E4M3 gives up one mantissa only. -/
theorem ffmt_regular : ∀ fmt ∈ [1, 3, 4, 5, 6, 7, 8, 9],
    ∃ f, ffmt fmt = some f ∧ f.Regular ∧ elemBits fmt 0 = f.mb + f.eb + 1 := by
  intro fmt hmem
  simp only [List.mem_cons, List.not_mem_nil, or_false] at hmem
  rcases hmem with rfl | rfl | rfl | rfl | rfl | rfl | rfl | rfl <;>
    refine ⟨_, rfl, ⟨rfl, by decide, by decide, fun e m he hm hfin => ?_⟩, rfl⟩
  all_goals
    simp [FFmt.FiniteCode] at he hm hfin ⊢
    omega

/-- A number of at most the largest exponent is not above the largest finite number, if at that exponent its magnitude is not. -/
theorem dyGt_eq_false {n M : Nat} {q E : Int} (hq : q ≤ E) (htop : q = E → n ≤ M) (hn : n ≤ 2 * M) : dyGt n q M E = false := by
  rcases eq_or_lt_of_le hq with heq | hlt
  · simpa [dyGt, heq] using htop heq
  · obtain ⟨k, hk⟩ : ∃ k : Nat, (E - q).toNat = k + 1 := ⟨(E - q).toNat - 1, by omega⟩
    have hM : 2 * M ≤ M * 2 ^ (k + 1) := by
      rw [Nat.pow_succ, Nat.mul_comm (2 ^ k), ← Nat.mul_assoc, Nat.mul_comm M 2]
      exact Nat.le_mul_of_pos_right _ (Nat.two_pow_pos k)
    simp only [dyGt, min_eq_left hq, hk, sub_self, Int.toNat_zero, Nat.pow_zero, Nat.mul_one, decide_eq_false_iff_not, Nat.not_lt]
    omega

/-- R94: a nonzero magnitude on a format's grid, not above the largest finite number, is rounded to itself with no flag. -/
theorem roundFloat_on_grid (r : Rounding) {f : FFmt} (neg : Bool) {m : Nat} {e : Int} (hm : m ≠ 0) (hlt : m < 2 ^ (f.mb + 1))
    (he : max ((Nat.log2 m : Int) + e - f.mb) (1 - (f.bias : Int) - f.mb) = e) (hle : dyGt m e f.maxM f.maxE = false) :
    roundFloat r f neg ⟨m, e, false⟩ =
      (if m < 2 ^ f.mb then f.signBit neg + m * 2 ^ f.pad
        else f.signBit neg + ((e + f.mb + f.bias).toNat * 2 ^ f.mb + (m - 2 ^ f.mb)) * 2 ^ f.pad, 0) := by
  simp only [roundFloat, he, roundAt_own_exponent, hle]
  by_cases hsub : m < 2 ^ f.mb <;> simp [hm, Flag.on, hlt.ne, hsub]

/-- A subnormal code's number is rounded to that code (03 R93, R94). -/
theorem roundFloat_subnormal (r : Rounding) {f : FFmt} (hf : f.Regular) (neg : Bool) {m : Nat} (hm : m < 2 ^ f.mb) :
    roundFloat r f neg ⟨m, 1 - (f.bias : Int) - f.mb, false⟩ = (f.code neg 0 m, 0) := by
  rcases Nat.eq_zero_or_pos m with rfl | hpos
  · simp [roundFloat, FFmt.code]
  · have hlog := (Nat.log2_lt hpos.ne').mpr hm
    have hM := hf.maxM
    rw [roundFloat_on_grid r neg hpos.ne' (by rw [Nat.pow_succ]; omega) (max_eq_right (by omega))
      (dyGt_eq_false hf.maxE (fun _ => by omega) (by omega)), if_pos hm, hf.pad, FFmt.code]
    simp

/-- A normal code's number is rounded to that code (03 R93, R94). -/
theorem roundFloat_normal (r : Rounding) {f : FFmt} (hf : f.Regular) (neg : Bool) {e m : Nat} (hpos : 0 < e) (he : e < 2 ^ f.eb)
    (hm : m < 2 ^ f.mb) (hfin : f.FiniteCode e m) :
    roundFloat r f neg ⟨2 ^ f.mb + m, (e : Int) - f.bias - f.mb, false⟩ = (f.code neg e m, 0) := by
  have hne : 2 ^ f.mb + m ≠ 0 := by omega
  have hlog : Nat.log2 (2 ^ f.mb + m) = f.mb := le_antisymm
    (Nat.le_of_lt_succ ((Nat.log2_lt hne).mpr (by rw [Nat.pow_succ]; omega))) ((Nat.le_log2 hne).mpr (by omega))
  have hM := hf.maxM
  obtain ⟨hexp, htop⟩ := hf.finite_le e m he hm hfin
  rw [roundFloat_on_grid r neg hne (by rw [Nat.pow_succ]; omega) (by rw [hlog]; omega)
    (dyGt_eq_false hexp htop (by omega)), if_neg (by omega), hf.pad, FFmt.code]
  have hfield : ((e : Int) - f.bias - f.mb + f.mb + f.bias).toNat = e := by omega
  rw [hfield, Nat.add_sub_cancel_left, Nat.pow_zero, Nat.mul_one]

/-- R93: what a code without a NaN reads as: an infinity, a subnormal number or zero, or a normal number. -/
theorem readFloat_cases {f : FFmt} (hpad : f.pad = 0) {raw : Nat} (h : raw < 2 ^ (f.mb + f.eb + 1))
    (hnan : readFloat f raw ≠ .nan) :
    ∃ neg e m, raw = f.code neg e m ∧ e < 2 ^ f.eb ∧ m < 2 ^ f.mb ∧
      ((f.hasInf = true ∧ e = 2 ^ f.eb - 1 ∧ m = 0 ∧ readFloat f raw = .inf neg) ∨
        (e = 0 ∧ readFloat f raw = .fin neg m (1 - (f.bias : Int) - f.mb)) ∨
        (0 < e ∧ f.FiniteCode e m ∧ readFloat f raw = .fin neg (2 ^ f.mb + m) ((e : Int) - f.bias - f.mb))) := by
  refine ⟨_, _, _, (code_fields hpad h).symm, bits_lt _ _ _, bits_lt _ _ _, ?_⟩
  simp only [readFloat, hpad, Nat.pow_zero, Nat.div_one] at hnan ⊢
  generalize bits raw f.mb f.eb = e at hnan ⊢
  generalize bits raw 0 f.mb = m at hnan ⊢
  split at hnan
  next hinf =>
    obtain ⟨hi, ht⟩ : f.hasInf = true ∧ e = 2 ^ f.eb - 1 := by simpa using hinf
    rw [if_pos hinf]
    by_cases hm : m = 0
    · exact .inl ⟨hi, ht, hm, if_pos hm⟩
    · exact absurd (if_neg hm) hnan
  next hinf =>
    split at hnan
    next => exact absurd rfl hnan
    next hfin =>
      rw [if_neg hinf, if_neg hfin]
      simp only [Bool.and_eq_true, Bool.not_eq_true', beq_iff_eq] at hinf hfin
      by_cases he : e = 0
      · exact .inr (.inl ⟨he, if_pos he⟩)
      · have hcode : f.FiniteCode e m := ⟨fun hi ht => hinf ⟨hi, ht⟩, fun hn hi ⟨ht, hm⟩ => hfin ⟨⟨⟨hn, hi⟩, ht⟩, hm⟩⟩
        exact .inr (.inr ⟨Nat.pos_of_ne_zero he, hcode, if_neg he⟩)

/-- R93, R97: a code of a regular floating format that is no NaN is written back as it was read, with no flag. -/
theorem convertVal_readFloat (r : Rounding) {fmt : Nat} {f : FFmt} (hfmt : ffmt fmt = some f) (hf : f.Regular) {raw : Nat}
    (h : raw < 2 ^ (f.mb + f.eb + 1)) (hnan : readFloat f raw ≠ .nan) : convertVal r fmt (readFloat f raw) = (raw, 0) := by
  obtain ⟨neg, e, m, rfl, he, hm, ⟨hinf, rfl, rfl, hread⟩ | ⟨rfl, hread⟩ | ⟨hpos, hfin, hread⟩⟩ :=
    readFloat_cases hf.pad h hnan
  · rw [hread]
    simp [convertVal, Val.toRes, convert, hfmt, hinf, FFmt.code, FFmt.infCode, hf.pad]
  · simp only [hread, convertVal, Val.toRes, convert, hfmt, roundFloat_subnormal r hf neg hm]
  · simp only [hread, convertVal, Val.toRes, convert, hfmt, roundFloat_normal r hf neg hpos he hm hfin]

/-- R93, R97: the bits of an integer format's element are written back as they were read, with no flag. -/
theorem convertVal_readElem_int (r : Rounding) {fmt raw : Nat} (hfmt : fmt ∈ [14, 15, 16]) (h : raw < 2 ^ elemBits fmt 0) :
    convertVal r fmt (readElem fmt raw) = (raw, 0) := by
  simp only [List.mem_cons, List.not_mem_nil, or_false] at hfmt
  rcases hfmt with rfl | rfl | rfl
  · obtain ⟨hlo, hhi⟩ := sext_range 7 raw
    exact (convertVal_ofInt r rfl hlo (Int.le_of_lt_add_one hhi)).trans (congrArg (·, 0) (ofInt_sext h))
  · have h8 : raw < 2 ^ 8 := h
    have hread : readElem 15 raw = .ofInt raw := congrArg (fun n : Nat => Val.ofInt n)
      (by rw [bits, Nat.pow_zero, Nat.div_one, Nat.mod_eq_of_lt h8])
    rw [hread]
    exact (convertVal_ofInt r rfl (show (0 : Int) ≤ raw by omega) (show (raw : Int) ≤ 255 by omega)).trans
      (congrArg (·, 0) (ofInt_natCast h8))
  · obtain ⟨hlo, hhi⟩ := sext_range 3 raw
    exact (convertVal_ofInt r rfl hlo (Int.le_of_lt_add_one hhi)).trans (congrArg (·, 0) (ofInt_sext h))

/-- R93, R97: the bits of a floating format's element that is no NaN are written back as they were read, with no flag. -/
theorem convertVal_readElem_float (r : Rounding) {fmt raw : Nat} (hfmt : fmt ∈ [1, 3, 4, 5, 6, 7, 8, 9])
    (h : raw < 2 ^ elemBits fmt 0) (hnan : readElem fmt raw ≠ .nan) : convertVal r fmt (readElem fmt raw) = (raw, 0) := by
  obtain ⟨f, hf, hreg, hbits⟩ := ffmt_regular fmt hfmt
  have hread : readElem fmt raw = readFloat f raw := by simp only [readElem, hf]
  rw [hread] at hnan ⊢
  exact convertVal_readFloat r hf hreg (hbits ▸ h) hnan

end Sys2Proof.Machine
end

section
/-! The long accumulator (O15, and for O14): window sums, products entering the window, LACC-add, and sums in any order. -/

namespace Sys2Proof.Machine

/-! ## Window sums (03 R102) -/

theorem bit_eq_testBit (x i : Nat) : bit x i = x.testBit i := by
  rw [Nat.testBit_eq_decide_div_mod_eq, bit, beq_eq_decide]

theorem bit_or (x y i : Nat) : bit (x ||| y) i = (bit x i || bit y i) := by
  simp only [bit_eq_testBit, Nat.testBit_or]

/-- BELOW_WINDOW is bit 3 of LFLAGS and no other. -/
theorem bit_on_lBelow (lost : Bool) {i : Nat} (hi : i ≠ 3) : bit (Flag.on lost Flag.lBelow) i = false := by
  cases lost
  · simp [Flag.on, bit]
  · rw [bit_eq_testBit, Flag.on, if_pos rfl, show Flag.lBelow = 2 ^ 3 from rfl, Nat.testBit_two_pow_of_ne hi.symm]

theorem satW_above {x : Int} (h : windowMax < x) (lf : Nat) :
    satW x lf = (windowMax, lf ||| Flag.lAbove ||| Flag.lNonrepro) := if_pos h

theorem satW_below {x : Int} (h : x < -windowMax) (lf : Nat) :
    satW x lf = (-windowMax, lf ||| Flag.lAbove ||| Flag.lNonrepro) := by
  have hmax : (0 : Int) ≤ windowMax := by decide
  rw [satW, if_neg (by omega), if_pos h]

theorem satW_inside {x : Int} (hlo : -windowMax ≤ x) (hhi : x ≤ windowMax) (lf : Nat) : satW x lf = (x, lf) := by
  rw [satW, if_neg (by omega), if_neg (by omega)]

/-- A sum of fewer than 2^191 units lies inside the window. -/
theorem satW_of_natAbs_lt {x : Int} (h : x.natAbs < 2 ^ 191) (lf : Nat) : satW x lf = (x, lf) :=
  satW_inside (by rw [windowMax]; omega) (by rw [windowMax]; omega) lf

/-- A window sum never leaves the window. -/
theorem satW_range (x : Int) (lf : Nat) : -windowMax ≤ (satW x lf).1 ∧ (satW x lf).1 ≤ windowMax := by
  have hmax : (0 : Int) ≤ windowMax := by decide
  rcases lt_or_ge windowMax x with hup | hup
  · rw [satW_above hup]
    exact ⟨by omega, le_refl _⟩
  rcases lt_or_ge x (-windowMax) with hlow | hlow
  · rw [satW_below hlow]
    exact ⟨le_refl _, by omega⟩
  · rw [satW_inside hlow hup]
    exact ⟨hlow, hup⟩

/-- At an end of the window ABOVE_WINDOW and NONREPRO are set. -/
theorem bits_of_saturated (lf : Nat) :
    bit (lf ||| Flag.lAbove ||| Flag.lNonrepro) 4 = true ∧ bit (lf ||| Flag.lAbove ||| Flag.lNonrepro) 6 = true := by
  simp only [bit_or]
  exact ⟨by simp [show bit Flag.lAbove 4 = true by decide], by simp [show bit Flag.lNonrepro 6 = true by decide]⟩

/-! ## Products (03 R101 to R103) -/

/-- The window units that a product adds: `termSize` with its sign, and 0 for a NaN or an infinity. -/
def termUnits (a : Int) : Val → Int
  | .fin neg m e => if neg then -((toWindow a m e).1 : Int) else (toWindow a m e).1
  | _ => 0

/-- The LFLAGS that a product sets wherever the sum stands. -/
def termLflags (a : Int) : Val → Nat
  | .nan => Flag.lNan
  | .inf neg => if neg then Flag.lNegInf else Flag.lPosInf
  | .fin _ m e => Flag.on (toWindow a m e).2 Flag.lBelow

/-- The flags that a product gives the command itself. -/
def termFlags : Val → Nat
  | .nan => Flag.invalid
  | _ => 0

@[simp] theorem toWindow_zero (a e : Int) : toWindow a 0 e = (0, false) := by simp [toWindow]

theorem natAbs_termUnits (a : Int) (p : Val) : (termUnits a p).natAbs = Safety.termSize a p := by
  cases p with
  | nan => rfl
  | inf neg => rfl
  | fin neg m e => cases neg <;> simp [termUnits, Safety.termSize]

/-- Where a product would take the sum: a product that alone leaves the window counts on its own (R102). -/
def Acc.sumWith (c : Acc) (p : Val) : Int :=
  if 2 ^ 191 ≤ Safety.termSize c.a p then termUnits c.a p else c.w + termUnits c.a p

/-- A product whose size is inside the window is added to the sum. -/
theorem sumWith_of_lt {c : Acc} {p : Val} (h : (termUnits c.a p).natAbs < 2 ^ 191) : c.sumWith p = c.w + termUnits c.a p :=
  if_neg (by rw [← natAbs_termUnits]; omega)

/-- A product whose size is outside the window counts on its own. -/
theorem sumWith_of_le {c : Acc} {p : Val} (h : 2 ^ 191 ≤ (termUnits c.a p).natAbs) : c.sumWith p = termUnits c.a p :=
  if_pos (by rwa [← natAbs_termUnits])

/-- R101, R102: a finite product enters by one window sum, and BELOW_WINDOW where bits of it are lost. -/
theorem addTerm_fin (c : Acc) (neg : Bool) (m : Nat) (e : Int) (hlo : -windowMax ≤ c.w) (hhi : c.w ≤ windowMax) :
    (c.addTerm (.fin neg m e)).1 =
      { c with w := (satW (c.sumWith (.fin neg m e)) (c.lf ||| termLflags c.a (.fin neg m e))).1,
               lf := (satW (c.sumWith (.fin neg m e)) (c.lf ||| termLflags c.a (.fin neg m e))).2 } := by
  by_cases hm : m = 0
  · subst hm
    simp [Acc.addTerm, Acc.sumWith, Safety.termSize, termUnits, termLflags, Flag.on, satW_inside hlo hhi]
  · by_cases hbig : 2 ^ 191 ≤ (toWindow c.a m e).1
    · cases neg
      · have hq : windowMax < termUnits c.a (.fin false m e) := by
          simp only [termUnits, windowMax, Bool.false_eq_true, if_false]
          omega
        rw [sumWith_of_le (by rwa [natAbs_termUnits]), satW_above hq]
        simp only [Acc.addTerm, if_neg hm, decide_eq_true hbig, if_true, if_false, Bool.false_eq_true,
          satW_above (show windowMax < 2 ^ 192 by decide), termLflags]
      · have hq : termUnits c.a (.fin true m e) < -windowMax := by
          simp only [termUnits, windowMax, if_true]
          omega
        rw [sumWith_of_le (by rwa [natAbs_termUnits]), satW_below hq]
        simp only [Acc.addTerm, if_neg hm, decide_eq_true hbig, if_true,
          satW_below (show -(2 ^ 192 : Int) < -windowMax by decide), termLflags]
    · rw [sumWith_of_lt (by rw [natAbs_termUnits]; exact Nat.lt_of_not_le hbig)]
      simp only [Acc.addTerm, if_neg hm, decide_eq_false hbig, Bool.false_eq_true, if_false, termUnits, termLflags]

/-- R103: a finite product sets no LFLAGS bit but BELOW_WINDOW of itself. -/
theorem bit_or_termLflags_fin (lf : Nat) (a : Int) (neg : Bool) (m : Nat) (e : Int) {i : Nat} (hi : i ≠ 3) :
    bit (lf ||| termLflags a (.fin neg m e)) i = bit lf i := by
  rw [bit_or, termLflags, bit_on_lBelow _ hi, Bool.or_false]

/-- R102, R103: what a finite product does to a sum inside the window, by where it would take the sum. -/
theorem addTerm_fin_cases (c : Acc) (neg : Bool) (m : Nat) (e : Int) (hlo : -windowMax ≤ c.w) (hhi : c.w ≤ windowMax) :
    let u := (c.addTerm (.fin neg m e)).1
    let x := c.sumWith (.fin neg m e)
    (windowMax < x → u.w = windowMax ∧ bit u.lf 4 = true ∧ bit u.lf 6 = true) ∧
    (x < -windowMax → u.w = -windowMax ∧ bit u.lf 4 = true ∧ bit u.lf 6 = true) ∧
    (x ≤ windowMax → -windowMax ≤ x → u.w = x ∧ bit u.lf 4 = bit c.lf 4 ∧ bit u.lf 6 = bit c.lf 6) ∧
    u.a = c.a ∧ -windowMax ≤ u.w ∧ u.w ≤ windowMax := by
  rw [addTerm_fin c neg m e hlo hhi]
  refine ⟨fun h => ?_, fun h => ?_, fun hup hlow => ?_, rfl, satW_range _ _⟩
  · rw [satW_above h]
    exact ⟨rfl, bits_of_saturated _⟩
  · rw [satW_below h]
    exact ⟨rfl, bits_of_saturated _⟩
  · rw [satW_inside hlow hup]
    exact ⟨rfl, bit_or_termLflags_fin _ _ _ _ _ (by decide), bit_or_termLflags_fin _ _ _ _ _ (by decide)⟩

end Sys2Proof.Machine

namespace Sys2Proof

open Machine

/-- Settles O15: a finite product's one window sum is above, below or inside the window. -/
theorem productsEnterTheWindow : Obligations.ProductsEnterTheWindow := by
  unfold Obligations.ProductsEnterTheWindow
  refine ⟨fun c => rfl, fun n neg e => ⟨rfl, rfl⟩, fun c => ⟨rfl, rfl⟩, fun c neg m e hlo hhi => ?_⟩
  obtain ⟨habove, hbelow, hinside, hkeep⟩ := addTerm_fin_cases c neg m e hlo hhi
  change let q := termUnits c.a (.fin neg m e); _
  intro q u
  have hin (hup : q ≤ windowMax) (hlow : -windowMax ≤ q) : c.sumWith (.fin neg m e) = c.w + q :=
    sumWith_of_lt (by unfold windowMax at hup hlow; omega)
  have hout (h : windowMax < q ∨ q < -windowMax) : c.sumWith (.fin neg m e) = q :=
    sumWith_of_le (by unfold windowMax at h; omega)
  refine ⟨?_, ?_, fun hup hlow hsum hsum' => ?_, hkeep⟩
  · rintro (hq | ⟨hup, hlow, hsum⟩)
    · exact habove (by rwa [hout (.inl hq)])
    · exact habove (by rwa [hin hup hlow])
  · rintro (hq | ⟨hup, hlow, hsum⟩)
    · exact hbelow (by rwa [hout (.inr hq)])
    · exact hbelow (by rwa [hin hup hlow])
  · rw [hin hup hlow] at hinside
    exact hinside hsum hsum'

end Sys2Proof
end

section
/-! LACC-add, and sums in any order (O14). -/

namespace Sys2Proof.Machine

/-! ## LACC-add (03 R112) -/

theorem laccAdd_source_empty (d : Acc) {s : Acc} (h : s.empty = true) : laccAdd d s = { d with lf := d.lf ||| s.lf } :=
  if_pos h

theorem laccAdd_dest_empty {d s : Acc} (hd : d.empty = true) (hs : s.empty = false) :
    laccAdd d s = { s with lf := d.lf ||| s.lf } := by
  rw [laccAdd, if_neg (by simp [hs]), if_pos hd]

/-- Two accumulators with one anchor are added by one window sum. -/
theorem laccAdd_same_anchor {d s : Acc} (hd : d.empty = false) (hs : s.empty = false) (ha : d.a = s.a) :
    laccAdd d s = ⟨(satW (d.w + s.w) (d.lf ||| s.lf)).1, d.a, false, (satW (d.w + s.w) (d.lf ||| s.lf)).2⟩ := by
  rw [laccAdd, if_neg (by simp [hs]), if_neg (by simp [hd]), if_pos ha]

/-- A sum that stays inside the window is exact and sets no flag of its own. -/
theorem laccAdd_inside {d s : Acc} (hd : d.empty = false) (hs : s.empty = false) (ha : d.a = s.a)
    (hw : (d.w + s.w).natAbs < 2 ^ 191) : laccAdd d s = ⟨d.w + s.w, d.a, false, d.lf ||| s.lf⟩ := by
  rw [laccAdd_same_anchor hd hs ha, satW_of_natAbs_lt hw]

theorem laccAdd_comm {d s : Acc} (hd : d.empty = false) (hs : s.empty = false) (ha : d.a = s.a) :
    laccAdd d s = laccAdd s d := by
  rw [laccAdd_same_anchor hd hs ha, laccAdd_same_anchor hs hd ha.symm, Int.add_comm, Nat.or_comm, ha]

theorem laccAdd_assoc {x y z : Acc} (hx : x.empty = false) (hy : y.empty = false) (hz : z.empty = false)
    (hxy : x.a = y.a) (hyz : y.a = z.a) (hw : x.w.natAbs + y.w.natAbs + z.w.natAbs < 2 ^ 191) :
    laccAdd (laccAdd x y) z = laccAdd x (laccAdd y z) := by
  rw [laccAdd_inside hx hy hxy (by omega), laccAdd_inside hy hz hyz (by omega),
    laccAdd_inside (d := ⟨_, _, _, _⟩) rfl hz (hxy.trans hyz) (by dsimp only; omega),
    laccAdd_inside (s := ⟨_, _, _, _⟩) hx rfl hxy (by dsimp only; omega), Int.add_assoc, Nat.or_assoc]

/-! ## Sums in any order (03 R101 to R103) -/

/-- A product entering a sum beside the flags of the products before it. -/
def addTermStep (c : Acc × Nat) (p : Val) : Acc × Nat := ((c.1.addTerm p).1, c.2 ||| (c.1.addTerm p).2)

theorem addTerms_eq_foldl (c : Acc) (ps : List Val) : c.addTerms ps = ps.foldl addTermStep (c, 0) := rfl

/-- The same step where no end of the window is near (`addTermStep_eq_exact`): each part of the result is a sum over the products. -/
def addExactStep (c : Acc × Nat) (p : Val) : Acc × Nat :=
  ({ c.1 with w := c.1.w + termUnits c.1.a p, lf := c.1.lf ||| termLflags c.1.a p }, c.2 ||| termFlags p)

/-- The order of two products does not matter to exact sums. -/
theorem addExactStep_right_comm (c : Acc × Nat) (p q : Val) :
    addExactStep (addExactStep c p) q = addExactStep (addExactStep c q) p := by
  simp only [addExactStep, Prod.mk.injEq, Acc.mk.injEq, true_and]
  exact ⟨⟨Int.add_right_comm .., Nat.or_right_comm ..⟩, Nat.or_right_comm ..⟩

/-- R103: only a NaN gives the command a flag. -/
theorem addTerm_flags (c : Acc) (p : Val) : (c.addTerm p).2 = termFlags p := by
  cases p with
  | nan => rfl
  | inf neg => rfl
  | fin neg m e => by_cases hm : m = 0 <;> simp [Acc.addTerm, hm, termFlags]

/-- R102: a product that cannot take the sum out of the window is added exactly. -/
theorem addTermStep_eq_exact {c : Acc × Nat} {p : Val} (h : c.1.w.natAbs + Safety.termSize c.1.a p < 2 ^ 191) :
    addTermStep c p = addExactStep c p := by
  cases p with
  | nan => simp [addTermStep, addExactStep, Acc.addTerm, termUnits, termLflags, termFlags]
  | inf neg => simp [addTermStep, addExactStep, Acc.addTerm, termUnits, termLflags, termFlags]
  | fin neg m e =>
    have hunits := natAbs_termUnits c.1.a (.fin neg m e)
    have hadd := addTerm_fin c.1 neg m e (by rw [windowMax]; omega) (by rw [windowMax]; omega)
    rw [sumWith_of_lt (by omega), satW_of_natAbs_lt (by omega)] at hadd
    rw [addTermStep, hadd, addTerm_flags]
    rfl

/-- While the products' sizes together stay inside the window, every product is added exactly. -/
theorem foldl_addTermStep_eq_exact (ps : List Val) (c : Acc × Nat)
    (h : c.1.w.natAbs + (ps.map (Safety.termSize c.1.a)).sum < 2 ^ 191) :
    ps.foldl addTermStep c = ps.foldl addExactStep c := by
  induction ps generalizing c with
  | nil => rfl
  | cons p ps ih =>
    rw [List.map_cons, List.sum_cons] at h
    have hunits := natAbs_termUnits c.1.a p
    rw [List.foldl_cons, List.foldl_cons, addTermStep_eq_exact (by omega)]
    refine ih _ ?_
    simp only [addExactStep]
    omega

/-- Sums whose products together stay inside the window do not depend on the products' order. -/
theorem addTerms_perm {a : Int} {ps qs : List Val} (hperm : ps.Perm qs) (h : (ps.map (Safety.termSize a)).sum < 2 ^ 191) :
    (Acc.start a).addTerms ps = (Acc.start a).addTerms qs := by
  have hzero (rs : List Val) (hr : (rs.map (Safety.termSize a)).sum < 2 ^ 191) :
      (Acc.start a).addTerms rs = rs.foldl addExactStep (Acc.start a, 0) :=
    (addTerms_eq_foldl _ rs).trans (foldl_addTermStep_eq_exact rs (Acc.start a, 0) (by simpa [Acc.start] using hr))
  rw [hzero ps h, hzero qs (by rwa [← (hperm.map _).sum_eq])]
  exact hperm.foldl_eq' (fun p _ q _ c => addExactStep_right_comm c p q) _

end Sys2Proof.Machine

namespace Sys2Proof

open Machine

/-- Settles O14: a code is made of its fields and each field is found again, and sums inside the window are exact. -/
theorem numbersAndSumsAreExact : Obligations.NumbersAndSumsAreExact := by
  unfold Obligations.NumbersAndSumsAreExact
  refine ⟨fun fmt hfmt raw hraw hnan => ?_, ⟨fun d s => laccAdd_comm, fun x y z => laccAdd_assoc,
    fun d s => laccAdd_source_empty d, fun d s => laccAdd_dest_empty⟩, fun a ps qs => addTerms_perm⟩
  rcases List.mem_append.mp (show fmt ∈ [1, 3, 4, 5, 6, 7, 8, 9] ++ [14, 15, 16] from hfmt) with hfloat | hint
  · exact convertVal_readElem_float .rne hfloat hraw hnan
  · exact convertVal_readElem_int .rne hint hraw

end Sys2Proof
end

section
/-! Tile transfers and atomics (O16): the pieces of a row, what a start takes up, and an uncorrectable source. -/

namespace Sys2Proof.Machine

/-! ## Pieces of a row (04 R153) -/

namespace XferOp

/-- The length of the next piece: what is left, up to the end of the line at either end. -/
def pieceLen (l r n : Nat) : Nat := min n (min (64 - l % 64) (64 - r % 64))

@[simp] theorem cutRowAux_done (l r fuel : Nat) : cutRowAux l r fuel 0 = [] := by
  cases fuel <;> rfl

theorem cutRowAux_cons (l r fuel : Nat) {n : Nat} (hn : n ≠ 0) :
    cutRowAux l r (fuel + 1) n =
      (l, r, pieceLen l r n) :: cutRowAux (l + pieceLen l r n) (r + pieceLen l r n) fuel (n - pieceLen l r n) :=
  if_neg hn

/-- A piece of a row of whole words is a whole number of words, at least one, inside the row and inside a line at either end. -/
theorem pieceLen_words {l r n : Nat} (hl : l % 4 = 0) (hr : r % 4 = 0) (hn : n % 4 = 0) (hpos : n ≠ 0) :
    pieceLen l r n % 4 = 0 ∧ 4 ≤ pieceLen l r n ∧ pieceLen l r n ≤ n ∧ l % 64 + pieceLen l r n ≤ 64 ∧
      r % 64 + pieceLen l r n ≤ 64 := by
  unfold pieceLen
  omega

/-- With a piece for every word at hand, the pieces cover the row. -/
theorem sum_cutRowAux {l r fuel n : Nat} (hl : l % 4 = 0) (hr : r % 4 = 0) (hn : n % 4 = 0) (hfuel : n / 4 < fuel) :
    ((cutRowAux l r fuel n).map (fun q => q.2.2)).sum = n := by
  induction fuel generalizing l r n with
  | zero => omega
  | succ fuel ih =>
    by_cases hpos : n = 0
    · simp [hpos]
    · obtain ⟨hword, hmin, hmax, -, -⟩ := pieceLen_words hl hr hn hpos
      rw [cutRowAux_cons l r fuel hpos, List.map_cons, List.sum_cons, ih (by omega) (by omega) (by omega) (by omega)]
      exact Nat.add_sub_of_le hmax

theorem cutRowAux_inside_lines {l r fuel n : Nat} (hl : l % 4 = 0) (hr : r % 4 = 0) (hn : n % 4 = 0) :
    ∀ q ∈ cutRowAux l r fuel n, 0 < q.2.2 ∧ q.1 % 64 + q.2.2 ≤ 64 ∧ q.2.1 % 64 + q.2.2 ≤ 64 := by
  induction fuel generalizing l r n with
  | zero => exact List.forall_mem_nil _
  | succ fuel ih =>
    by_cases hpos : n = 0
    · simp [hpos]
    · obtain ⟨hword, hmin, -, hlocal, hremote⟩ := pieceLen_words hl hr hn hpos
      rw [cutRowAux_cons l r fuel hpos, List.forall_mem_cons]
      exact ⟨⟨Nat.lt_of_lt_of_le (by decide) hmin, hlocal, hremote⟩, ih (by omega) (by omega) (by omega)⟩

/-- Each piece begins where those before it end, at both ends. -/
theorem cutRowAux_consecutive (l r fuel n i : Nat) (h : i < (cutRowAux l r fuel n).length) :
    (cutRowAux l r fuel n)[i].1 = l + (((cutRowAux l r fuel n).take i).map (fun q => q.2.2)).sum ∧
      (cutRowAux l r fuel n)[i].2.1 = r + (((cutRowAux l r fuel n).take i).map (fun q => q.2.2)).sum := by
  induction fuel generalizing l r n i with
  | zero => exact absurd h (Nat.not_lt_zero i)
  | succ fuel ih =>
    by_cases hpos : n = 0
    · simp [hpos] at h
    · simp only [cutRowAux_cons l r fuel hpos] at h ⊢
      cases i with
      | zero => simp
      | succ i =>
        obtain ⟨hlocal, hremote⟩ := ih _ _ _ i (by simpa using h)
        simp only [List.getElem_cons_succ, List.take_succ_cons, List.map_cons, List.sum_cons, hlocal, hremote, Nat.add_assoc,
          and_self]

end XferOp

/-! ## Operands read from the tile store -/

/-- 04 R156: operands of a command that do not read are an uncorrectable error, with the unit's address. -/
theorem State.readRuns_error {s w : State} {t : Nat} {ue : Option Nat} {runs : List Region} {z : Exc}
    (h : s.readRuns t ue runs = (w, .error z)) : z.status = Sts.eccHalt ∧ z.detail = 0 := by
  induction runs generalizing s with
  | nil => simp [State.readRuns] at h
  | cons run runs ih =>
    obtain ⟨off, n⟩ := run
    simp only [State.readRuns] at h
    split at h
    case h_1 =>
      cases h
      exact ⟨rfl, rfl⟩
    case h_2 =>
      split at h
      case h_1 v e hrest =>
        cases h
        exact ih hrest
      case h_2 => simp at h

/-! ## Starts (04 R153, R154) -/

namespace State

open Sys2Proof.Safety

section
variable {s s1 : State} {via : Via} {t : Nat} {p : Packet} {j : Job}

/-- The parts of a transfer's source in the tile store: its rows, where it stores to the remote end. -/
def xferRuns (x : XferOp) : List Region :=
  if x.dir = 1 then (List.range x.rows).map (fun i => (x.loc + i * x.locPitch, x.rowBytes)) else []

theorem exec_tileXfer {x : XferOp} (h : TileStarts s via t p j s1) (hop : p.base = 0x0204) (hx : XferOp.ofPacket p = some x)
    (hcheck : x.check s1 t = none) (ue : Option Nat) :
    exec (.tileXfer via p ue) s = .next (x.start (s1.beginJob true (.ring t) j) t ue) := by
  refine congrArg Host.Outcome.next ?_
  simp only [hop, hx, beq_self_eq_true]
  exact tileRow_starts h hcheck

theorem tileXfer_takesUp {x : XferOp} {ue : Option Nat} {w : State} {bss : List (List Byte)} (h : TileStarts s via t p j s1)
    (hop : p.base = 0x0204) (hx : XferOp.ofPacket p = some x) (hcheck : x.check s1 t = none)
    (hread : (s1.beginJob true (.ring t) j).readRuns t ue (xferRuns x) = (w, .ok bss)) :
    exec (.tileXfer via p ue) s = .next (w.beginTile t 4
      { Progress.empty with script := x.ops w t ++ x.tokens w t, done := true }) := by
  rw [exec_tileXfer h hop hx hcheck, XferOp.start, ← xferRuns, hread]

theorem tileXfer_eccHalts {x : XferOp} {ue : Option Nat} {w : State} {z : Exc} (h : TileStarts s via t p j s1)
    (hop : p.base = 0x0204) (hx : XferOp.ofPacket p = some x) (hcheck : x.check s1 t = none)
    (hread : (s1.beginJob true (.ring t) j).readRuns t ue (xferRuns x) = (w, .error z)) :
    Goes (exec (.tileXfer via p ue) s) (fun u => (u.tile t).exc = some ⟨Sts.eccHalt, 0, z.result1⟩ ∧ z.status = Sts.eccHalt ∧
      (u.tile t).prog.script = []) := by
  obtain ⟨hstatus, hdetail⟩ := readRuns_error hread
  obtain ⟨htile, -, -⟩ := raiseExc_raises w t z.status z.detail z.result1
  refine ⟨w.raiseExc t z.status z.detail z.result1, ?_, ?_, hstatus, ?_⟩
  · rw [exec_tileXfer h hop hx hcheck, XferOp.start, ← xferRuns, hread]
  · rw [htile, hstatus, hdetail]
  · rw [htile]

theorem tileAtomic_takesUp {a : Nat} {ue : Option Nat} {w : State} {bss : List (List Byte)} (h : TileStarts s via t p j s1)
    (hop : p.base = 0x0205) (ha : basicAddr p (p.u64 16) = some a) (hcheck : atomicCheck s1 t p = none)
    (hread : (s1.beginJob true (.ring t) j).readRuns t ue (if opBase (p.u8 32) = opLaccAdd then [(p.u32 44, 32)] else []) =
      (w, .ok bss)) :
    exec (.tileAtomic via p ue) s = .next (w.beginTile t 4 { Progress.empty with
      script := (if (atomicReq w t p a).tokEn then [.fence] else []) ++
        [.op (atomicReq w t p a) (if isReturning (p.u8 32) then .value (p.u32 44) else .none)]
      done := !isReturning (p.u8 32) }) := by
  have hstart : exec (.tileAtomic via p ue) s = .next (atomicStart (s1.beginJob true (.ring t) j) t p ue) := by
    refine congrArg Host.Outcome.next ?_
    simp only [hop, beq_self_eq_true]
    exact tileRow_starts h hcheck
  rw [hstart]
  simp only [atomicStart, ha, hread]

end

end State
end Sys2Proof.Machine

namespace Sys2Proof

open Machine Machine.State Machine.XferOp

/-- Settles O16: a piece ends with the first of the lines at its two ends, and a command starts with what its source reads as. -/
theorem tileTransfersMoveLines : Obligations.TileTransfersMoveLines := by
  unfold Obligations.TileTransfersMoveLines
  refine ⟨fun l r n hl hr hn => ⟨?_, cutRowAux_inside_lines hl hr hn, cutRowAux_consecutive l r (n / 4 + 1) n⟩, ?_, ?_, ?_⟩
  · exact sum_cutRowAux hl hr hn (Nat.lt_succ_self _)
  · exact fun s via t p j s1 x ue w bss h hop hx hcheck hread => tileXfer_takesUp h hop hx hcheck hread
  · exact fun s via t p j s1 x ue w z h hop hx hcheck hread => tileXfer_eccHalts h hop hx hcheck hread
  · exact fun s via t p j s1 a ue w bss h hop ha hcheck hread => tileAtomic_takesUp h hop ha hcheck hread

end Sys2Proof
end

section
/-! Responses, their timeouts, and traps (O19): what an entry's end leaves of its tile, posted faults, and trapped sequencers. -/

namespace Sys2Proof.Machine.State

open Sys2Proof.Safety

/-! ## Registers of a tile's events -/

theorem siteOf_lt (s : State) (t : Nat) : s.siteOf t < 256 := bits_lt _ _ _

theorem shownAddr_congr {s u : State} (h : u.rd Reg.ATY_FAB_CFG = s.rd Reg.ATY_FAB_CFG) (a : Nat) : u.shownAddr a = s.shownAddr a := by
  have hown : ∀ m, u.isOwn m = s.isOwn m := fun m => congrArg (fun k => m == 0xFFF || m == bits k 0 12) h
  rw [shownAddr, hown, shownAddr]

/-- An event of a tile's counters writes its count, and where that wraps what the wrap shows. -/
theorem regsKeep_tileEvent (s : State) (t e n : Nat) :
    RegsKeep [(Reg.TILE_EVCNT (s.siteOf t) e).addr, (Reg.PMU_TOVF (s.siteOf t)).addr, Reg.PMU_OVF_LOST.addr, Reg.RAS_LOG_SEQ.addr]
      s (s.tileEvent t e n) := by
  have hrecord : ∀ (u : State) (who what : Nat), RegsKeep [Reg.PMU_OVF_LOST.addr, Reg.RAS_LOG_SEQ.addr] u (u.pmuRecord who what) :=
    fun u who what => by
      have hlogged : ∀ (x : Dbg) (island data : Nat), RegsKeep [Reg.PMU_OVF_LOST.addr, Reg.RAS_LOG_SEQ.addr] u
          (({ u with dbg := x } : State).trouble 0x0D01 1 island 0 data) := fun x island data =>
        (regsKeep_trouble { u with dbg := x } 0x0D01 1 island 0 data).mono (by simp)
      simp only [pmuRecord]
      split_ifs
      · exact (regsKeep_wr u _ _).mono (by simp)
      · exact hlogged _ _ _
      · exact hlogged _ _ _
  have hwrap : ∀ (u : State) (site : Nat), RegsKeep [(Reg.PMU_TOVF site).addr, Reg.PMU_OVF_LOST.addr, Reg.RAS_LOG_SEQ.addr] u
      (u.tileWrap site e) := fun u site => by
    have hflag : RegsKeep [(Reg.PMU_TOVF site).addr, Reg.PMU_OVF_LOST.addr, Reg.RAS_LOG_SEQ.addr] u
        (u.orReg (Reg.PMU_TOVF site) (2 ^ e)) := (regsKeep_wr u _ _).mono (by simp)
    simp only [tileWrap]
    split
    · exact hflag.trans ((hrecord _ _ _).mono (by simp))
    · exact hflag
  have hcount : RegsKeep [(Reg.TILE_EVCNT (s.siteOf t) e).addr, (Reg.PMU_TOVF (s.siteOf t)).addr, Reg.PMU_OVF_LOST.addr,
      Reg.RAS_LOG_SEQ.addr] s (s.wr (Reg.TILE_EVCNT (s.siteOf t) e) ((s.rd (Reg.TILE_EVCNT (s.siteOf t) e) + n) % 2 ^ 48)) :=
    (regsKeep_wr s _ _).mono (by simp)
  simp only [tileEvent]
  split
  · exact hcount.trans ((hwrap _ _).mono (by simp))
  · exact hcount

/-- The module's own number is no register of a tile's events. -/
theorem shownAddr_tileEvent (s : State) (t n a : Nat) {e : Nat} (he : e < 64) : (s.tileEvent t e n).shownAddr a = s.shownAddr a := by
  refine shownAddr_congr ((regsKeep_tileEvent s t e n).rd ?_) a
  have := siteOf_lt s t
  simp only [Reg.ATY_FAB_CFG, Reg.TILE_EVCNT, Reg.PMU_TOVF, Reg.PMU_OVF_LOST, Reg.RAS_LOG_SEQ, List.mem_cons, List.not_mem_nil, or_false]
  omega

/-! ## Entries that end (04 R136, R138, R157) -/

/-- An event shows nothing in the tile's record or in memory. -/
theorem tileEvent_shows (s : State) (t e n : Nat) : (∀ x, (s.tileEvent t e n).tile x = s.tile x) ∧ (s.tileEvent t e n).mem = s.mem :=
  ⟨(keeps_tileEvent s t e n).tile (by simp), keeps_tileEvent s t e n .mem (by simp)⟩

/-- 04 R157: a posted fault is kept where none is kept and no exception drains. -/
theorem postFault_first {s : State} {t : Nat} (hexc : (s.tile t).exc = none) (hposted : (s.tile t).posted = none) (status addr : Nat) :
    (s.postFault t status addr).tile t = { s.tile t with posted := some (status, addr) } ∧
      (s.postFault t status addr).mem = s.mem := by
  have hkept : s.postFault t status addr = (s.tileEvent t 49 1).setTile t { s.tile t with posted := some (status, addr) } := by
    simp [postFault, hexc, hposted]
  rw [hkept]
  exact ⟨tile_setTile_self _ _ _, (tileEvent_shows s t 49 1).2⟩

/-- The tile's record with an entry's end shown, counted as an event. -/
def entryEnds (s : State) (t e : Nat) (x : Tile) : State := (s.setTile t x).tileEvent t e 1

theorem entryEnds_shows (s : State) (t : Nat) (x : Tile) {e : Nat} (he : e < 64) :
    (s.entryEnds t e x).tile t = x ∧ (s.entryEnds t e x).mem = s.mem ∧ ∀ a, (s.entryEnds t e x).shownAddr a = s.shownAddr a := by
  obtain ⟨htile, hmem⟩ := tileEvent_shows (s.setTile t x) t e 1
  exact ⟨(htile t).trans (tile_setTile_self s t x), hmem, fun a => shownAddr_tileEvent _ t 1 a he⟩

/-- An entry that ends with a fault whose value the command does not wait for is a posted fault. -/
theorem entryEnds_posts (s : State) {t e : Nat} {x : Tile} (he : e < 64) (hexc : x.exc = none) (hposted : x.posted = none)
    (status addr : Nat) :
    ((s.entryEnds t e x).postFault t status addr).tile t = { x with posted := some (status, addr) } ∧
      ((s.entryEnds t e x).postFault t status addr).mem = s.mem := by
  obtain ⟨htile, hmem, -⟩ := entryEnds_shows s t x he
  have hkept := postFault_first (s := s.entryEnds t e x) (t := t) (by rw [htile, hexc]) (by rw [htile, hposted]) status addr
  rwa [htile, hmem] at hkept

section
variable {s : State} {t i : Nat} {e : SbEntry} {r : Resp}

/-- The tile's record without an entry. -/
def withoutEntry (s : State) (t i : Nat) : Tile := { s.tile t with sb := (s.tile t).sb.eraseIdx i }

theorem exec_responseArrival (hmod : r.dstMod = s.srcMod) (hunit : r.dstUnit = t) (ht : t < 32) :
    exec (.responseArrival r) s = .next (s.tileResponse t r) := by
  subst hunit
  refine congrArg Host.Outcome.next ?_
  simp [respArrive, hmod, ht]

theorem tileResponse_entry (hfind : (s.tile t).sb.findIdx? (fun e => e.issued && e.req.rtag == r.rtag) = some i)
    (hget : (s.tile t).sb[i]? = some e) : s.tileResponse t r = s.respTile t i e r := by
  simp only [tileResponse, hfind, hget]

theorem respTile_done (hstatus : r.status = Sts.ok) (hland : e.land = .none) :
    s.respTile t i e r = (((s.entryEnds t 29 (s.withoutEntry t i)).pump t).tileDrained t).settle := by
  simp only [respTile, hstatus, if_true, hland]
  rfl

theorem respTile_posts (hstatus : r.status ≠ Sts.ok) (hland : ∀ off, e.land ≠ .value off) :
    s.respTile t i e r = ((((s.entryEnds t 29 (s.withoutEntry t i)).postFault t r.status
      ((s.entryEnds t 29 (s.withoutEntry t i)).respAddr e r)).pump t).tileDrained t).settle := by
  cases he : e.land with
  | value off => exact absurd he (hland off)
  | none | store =>
    simp only [respTile, if_neg hstatus, he]
    rfl

theorem responseArrival_posts (hmod : r.dstMod = s.srcMod) (hunit : r.dstUnit = t) (ht : t < 32)
    (hfind : (s.tile t).sb.findIdx? (fun e => e.issued && e.req.rtag == r.rtag) = some i) (hget : (s.tile t).sb[i]? = some e)
    (hstatus : r.status ≠ Sts.ok) (hland : ∀ off, e.land ≠ .value off) (hexc : (s.tile t).exc = none)
    (hposted : (s.tile t).posted = none) :
    GoesOn (exec (.responseArrival r) s) (fun w => ((w.pump t).tileDrained t).settle) (fun w =>
      (w.tile t).sb = (s.tile t).sb.eraseIdx i ∧ (w.tile t).posted = some (r.status, s.respAddr e r) ∧ w.mem = s.mem) := by
  obtain ⟨-, -, hshown⟩ := entryEnds_shows s t (s.withoutEntry t i) (show 29 < 64 by decide)
  have haddr : (s.entryEnds t 29 (s.withoutEntry t i)).respAddr e r = s.respAddr e r := by simp only [respAddr, hshown]
  obtain ⟨htile, hmem⟩ := entryEnds_posts s (t := t) (x := s.withoutEntry t i) (show 29 < 64 by decide) hexc hposted r.status
    (s.respAddr e r)
  refine ⟨_, ?_, by rw [htile]; rfl, by rw [htile], hmem⟩
  rw [exec_responseArrival hmod hunit ht, tileResponse_entry hfind hget, respTile_posts hstatus hland, haddr]

theorem responseArrival_done (hmod : r.dstMod = s.srcMod) (hunit : r.dstUnit = t) (ht : t < 32)
    (hfind : (s.tile t).sb.findIdx? (fun e => e.issued && e.req.rtag == r.rtag) = some i) (hget : (s.tile t).sb[i]? = some e)
    (hstatus : r.status = Sts.ok) (hland : e.land = .none) :
    GoesOn (exec (.responseArrival r) s) (fun w => ((w.pump t).tileDrained t).settle) (fun w =>
      (w.tile t).sb = (s.tile t).sb.eraseIdx i ∧ (w.tile t).posted = (s.tile t).posted ∧ w.mem = s.mem) := by
  obtain ⟨htile, hmem, -⟩ := entryEnds_shows s t (s.withoutEntry t i) (show 29 < 64 by decide)
  refine ⟨_, ?_, by rw [htile]; rfl, by rw [htile]; rfl, hmem⟩
  rw [exec_responseArrival hmod hunit ht, tileResponse_entry hfind hget, respTile_done hstatus hland]

/-- 08 R285: a response to an operation that timed out is counted, and its tag is free again. -/
theorem responseArrival_late (hmod : r.dstMod = s.srcMod) (hunit : r.dstUnit = t) (ht : t < 32)
    (hfind : (s.tile t).sb.findIdx? (fun e => e.issued && e.req.rtag == r.rtag) = none)
    (hstale : (s.tile t).stale.contains r.rtag = true) :
    Goes (exec (.responseArrival r) s) (fun u => (u.tile t).stale = (s.tile t).stale.erase r.rtag ∧
      Keeps [.regs, .tiles] s u ∧ RegsKeep [(Reg.TILE_LATE_ACK_CNT (s.siteOf t)).addr] s u) := by
  let w := s.updTile t (fun x => { x with stale := x.stale.erase r.rtag })
  have hregs : RegsKeep [(Reg.TILE_LATE_ACK_CNT (s.siteOf t)).addr] s w := RegsKeep.of_regs_eq rfl
  have hcounted : Keeps [.regs] w (w.bump (Reg.TILE_LATE_ACK_CNT (s.siteOf t)) 1) := keeps_wr w _ _
  refine ⟨w.bump (Reg.TILE_LATE_ACK_CNT (s.siteOf t)) 1, ?_, ?_,
    ((keeps_setTile s t _).mono (by simp)).trans (hcounted.mono (by simp)), hregs.trans (regsKeep_wr w _ _)⟩
  · rw [exec_responseArrival hmod hunit ht]
    simp only [tileResponse, hfind, hstale, if_true, w]
  · rw [hcounted.tile (by simp), tile_updTile_self]

theorem responseArrival_elsewhere (hmod : r.dstMod ≠ s.srcMod) : exec (.responseArrival r) s = .next s :=
  congrArg Host.Outcome.next (if_pos (by simpa using hmod))

/-- 04 R138: an entry that times out leaves the store buffer, owed a late response, as a posted fault. -/
theorem roResponseTimeout_posts {tag : Nat} (hfind : (s.tile t).sb.findIdx? (fun e => e.issued && e.req.rtag == tag) = some i)
    (hget : (s.tile t).sb[i]? = some e) (hland : ∀ off, e.land ≠ .value off) (hexc : (s.tile t).exc = none)
    (hposted : (s.tile t).posted = none) :
    GoesOn (exec (.roResponseTimeout t tag) s) (fun w => ((w.pump t).tileDrained t).settle) (fun w =>
      (w.tile t).sb = (s.tile t).sb.eraseIdx i ∧ (w.tile t).stale = (s.tile t).stale ++ [tag] ∧
      (w.tile t).posted = some (Sts.timeout, s.shownAddr e.req.addr) ∧ w.mem = s.mem) := by
  let x : Tile := { s.withoutEntry t i with stale := (s.tile t).stale ++ [tag] }
  obtain ⟨-, -, hshown⟩ := entryEnds_shows s t x (show 50 < 64 by decide)
  obtain ⟨htile, hmem⟩ := entryEnds_posts s (t := t) (x := x) (show 50 < 64 by decide) hexc hposted Sts.timeout
    (s.shownAddr e.req.addr)
  refine ⟨(s.entryEnds t 50 x).postFault t Sts.timeout (s.shownAddr e.req.addr), congrArg Host.Outcome.next ?_, by rw [htile]; rfl,
    by rw [htile], by rw [htile], hmem⟩
  rw [← hshown]
  cases he : e.land with
  | value off => exact absurd he (hland off)
  | none | store =>
    simp only [hfind, hget, he]
    rfl

end

/-! ## Traps (04 R160) -/

/-- The urgent cause of a bit is set, whatever becomes of vector 0. -/
theorem urgent_sets (s : State) {b : Nat} (hb : b < 32) :
    Keeps [.regs, .out, .hif] s (s.urgent b) ∧ bit ((s.urgent b).rd Reg.HIF_URGENT_CAUSE) b = true := by
  have hraise := keeps_raise (s.orReg Reg.HIF_URGENT_CAUSE (2 ^ b)) 0
  have hset : Keeps [.regs] s (s.orReg Reg.HIF_URGENT_CAUSE (2 ^ b)) := keeps_wr s _ _
  refine ⟨(hset.mono (by simp)).trans (hraise.mono (by simp)), ?_⟩
  rw [urgent, rd_congr (hraise .regs (by simp)), orReg, rd_wr_self _ _ _ (show 32 ≤ 64 by decide), bit_eq_testBit,
    show Reg.HIF_URGENT_CAUSE.width = 32 from rfl, Nat.testBit_mod_two_pow, Nat.testBit_or, Nat.testBit_two_pow_self]
  simp [hb]

/-- A trap's record and its urgent cause. -/
theorem trapShow_shows (s : State) (row island off : Nat) :
    Keeps [.regs, .log, .out, .hif] s (s.trapShow row island off) ∧
      (s.trapShow row island off).fd Fld.HIF_URGENT_CAUSE_ENGINE_TRAP = 1 := by
  let logged := s.trouble 0x0C88 3 island 0 (off * 2 ^ 32 + Sts.seqTrap * 65536 + row * 256)
  obtain ⟨hkept, hbit⟩ := urgent_sets logged (show 5 < 32 by decide)
  refine ⟨(keeps_trouble s _ _ _ _ _).trans (hkept.mono (by simp)), ?_⟩
  have hvalue : (logged.urgent 5).rd Reg.HIF_URGENT_CAUSE / 2 ^ 5 % 2 = 1 := by simpa [bit] using hbit
  exact hvalue

/-- No register of a tile's events is an urgent cause. -/
theorem fd_engineTrap_tileEvent (s : State) (t e n : Nat) :
    (s.tileEvent t e n).fd Fld.HIF_URGENT_CAUSE_ENGINE_TRAP = s.fd Fld.HIF_URGENT_CAUSE_ENGINE_TRAP := by
  refine (regsKeep_tileEvent s t e n).fd ?_
  simp only [Fld.HIF_URGENT_CAUSE_ENGINE_TRAP, Reg.HIF_URGENT_CAUSE, Reg.TILE_EVCNT, Reg.PMU_TOVF, Reg.PMU_OVF_LOST, Reg.RAS_LOG_SEQ,
    List.mem_cons, List.not_mem_nil, or_false]
  omega

/-- A tile's sequencer traps under a command in progress: the command ends as an exception, and the trap is shown. -/
theorem seqTrap_raises {s : State} {t off : Nat} {bad : Bool} {j : Job} (ht : t < 32) (hon : s.tileOn t = true)
    (hfree : (s.tile t).trapped = false) (hcur : (s.engOf t).cur = some j) (hbegun : j.begun = true) (hexc : (s.tile t).exc = none) :
    Goes (exec (.seqTrap t off bad) s) (fun u => (u.tile t).trapped = true ∧ (u.tile t).exc = some ⟨Sts.seqTrap, 0, off⟩ ∧
      (u.tile t).prog.script = [] ∧ u.fd Fld.HIF_URGENT_CAUSE_ENGINE_TRAP = 1 ∧ u.mem = s.mem) := by
  let x : Tile := { s.tile t with trapped := true, traps := List.replicate (if bad then 2 else 1) s.now ++ (s.tile t).traps }
  let w := (s.setTile t x).trapShow 1 (siteIsland (s.siteOf t)) off
  obtain ⟨hkept, hurgent⟩ := trapShow_shows (s.setTile t x) 1 (siteIsland (s.siteOf t)) off
  have hx : w.tile t = x := (hkept.tile (by simp) t).trans (tile_setTile_self s t x)
  have heng : (w.engOf t).cur = some j := by rw [hkept.engOf (by simp), engOf_setTile, hcur]
  have hraised : s.tileTrap t off bad = w.raiseExc t Sts.seqTrap 0 off := by
    have hnone : (w.tile t).exc = none := by rw [hx, ← hexc]
    rw [tileTrap, if_neg (by simp [hfree])]
    dsimp only
    split
    case h_1 k hk =>
      obtain rfl : k = j := Option.some.inj (hk.symm.trans heng)
      exact if_pos (show (k.begun && (w.tile t).exc.isNone) = true by simp [hbegun, hnone])
    case h_2 hk => exact absurd (hk.symm.trans heng) (by simp)
  obtain ⟨htile, hmem, -⟩ := raiseExc_raises w t Sts.seqTrap 0 off
  refine ⟨w.raiseExc t Sts.seqTrap 0 off, congrArg Host.Outcome.next ?_, ?_, by rw [htile], by rw [htile], ?_,
    hmem.trans (hkept .mem (by simp))⟩
  · rw [if_pos ht, if_pos hon, hraised]
  · rw [htile, hx]
  · rw [raiseExc, fd_engineTrap_tileEvent, fd_congr (setTile_regs _ _ _)]
    exact hurgent

theorem seqTrap_leaves {s : State} {t : Nat} (off : Nat) (bad : Bool) (ht : t < 32)
    (h : s.tileOn t = false ∨ (s.tile t).trapped = true) : exec (.seqTrap t off bad) s = .next s := by
  refine congrArg Host.Outcome.next ((if_pos ht).trans ?_)
  rcases h with hoff | htrapped
  · exact if_neg (by simp [hoff])
  · rw [tileTrap, if_pos htrapped, ite_self]

end Sys2Proof.Machine.State

namespace Sys2Proof

open Machine Machine.State

/-- Settles O19: an entry's end replaces its tile's record and counts an event, which shows in nothing that a posted fault reads. -/
theorem responsesTimeoutsAndTraps : Obligations.ResponsesTimeoutsAndTraps := by
  unfold Obligations.ResponsesTimeoutsAndTraps
  refine ⟨⟨?_, ?_, ?_, ?_, ?_⟩, ?_, ?_⟩
  · exact fun s r t i e => responseArrival_posts
  · exact fun s r t i e => responseArrival_done
  · exact fun s r t => responseArrival_late
  · exact fun s r => responseArrival_elsewhere
  · exact fun s t tag i e => roResponseTimeout_posts
  · exact fun s t off bad j => seqTrap_raises
  · exact fun s t off bad => seqTrap_leaves off bad

end Sys2Proof
end

section
/-! The debug access port and the sideband pins (O60): the port's lock, its accesses, halts and semaphores, pins, and store buffers under a
power-fail warning. -/

namespace Sys2Proof.Safety

open Sys2Proof.Machine

theorem keeps_withPins (s : State) (x : Pins) : Keeps [.pins] s { s with pins := x } := by
  intro p hp
  cases p
  case pins => simp at hp
  all_goals rfl

theorem keeps_withPair (s : State) (x : Pair) : Keeps [.pair] s { s with pair := x } := by
  intro p hp
  cases p
  case pair => simp at hp
  all_goals rfl

theorem keeps_withRim (s : State) (x : Rim) : Keeps [.rim] s { s with rim := x } := by
  intro p hp
  cases p
  case rim => simp at hp
  all_goals rfl

theorem keeps_withRas (s : State) (x : Ras) : Keeps [.ras] s { s with ras := x } := by
  intro p hp
  cases p
  case ras => simp at hp
  all_goals rfl

end Sys2Proof.Safety

namespace Sys2Proof.Machine.State

open Sys2Proof.Safety

/-! ## The port and its lock (20 R649, R650) -/

/-- A bit that is written reads as written. -/
theorem fb_fbw_self (s : State) (f : Fld) (b : Bool) (hw : f.w = 1) (h : f.lo + f.w ≤ f.reg.width) (h' : f.reg.width ≤ 64) :
    (s.fbw f b).fb f = b := by
  rw [fb, fbw, fd_fw_self s f _ h h', hw]
  cases b <;> rfl

theorem bypass_answers (s : State) : Goes (exec .bypass s) (fun u => u.out = .jtag 0xFF 0 :: s.out ∧ Keeps [.out] s u) :=
  ⟨_, rfl, rfl, keeps_emit s _⟩

theorem idcode_answers (s : State) : Goes (exec .idcode s) (fun u => u.out = .jtag 0x01 s.idcode :: s.out ∧ Keeps [.out] s u) :=
  ⟨_, rfl, rfl, keeps_emit s _⟩

theorem dap_locked {s : State} (h : s.dapOpen = false) (act : State → State × Nat × Nat) : s.dap act = s.bypassed :=
  if_pos (by simp [h])

/-- While the access port is locked, an instruction of the debug port answers as BYPASS. -/
theorem exec_locked {s : State} {i : Instr} {n : Nat} {far : List Host.Cell} {ue : Option Nat} (h : s.dapOpen = false)
    (hi : i ∈ [Instr.samplePreload n, .extest n, .read32 far ue, .write32 n, .read64 far ue, .write64 n, .setAddr n, .setReg n, .halt n,
      .resume n, .semForce n, .status]) : exec i s = exec .bypass s := by
  simp only [List.mem_cons, List.not_mem_nil, or_false] at hi
  rcases hi with rfl | rfl | rfl | rfl | rfl | rfl | rfl | rfl | rfl | rfl | rfl | rfl
  · exact congrArg Host.Outcome.next (if_neg (by simp [h]))
  · exact congrArg Host.Outcome.next (if_pos (by simp [h]))
  all_goals exact congrArg Host.Outcome.next (dap_locked h _)

/-- The answer of an access: what the access before it left is shifted out. -/
def dapShown (s : State) : State := s.emit (.jtag 0x10 (b2n s.dbg.started * 2 ^ 68 + s.dbg.result % 2 ^ 64))

/-- An access that ends with a status and a result. -/
def dapEnded (w : State) (st r : Nat) : State := { w with dbg := { w.dbg with status := st, result := r, started := true } }

theorem dap_open {s : State} (h : s.dapOpen = true) (act : State → State × Nat × Nat) :
    s.dap act = (act s.dapShown).1.dapEnded (act s.dapShown).2.1 (act s.dapShown).2.2 := if_neg (by simp [h])

theorem keeps_dapShown (s : State) : Keeps [.out] s s.dapShown := keeps_emit s _

theorem keeps_dapEnded (w : State) (st r : Nat) : Keeps [.dbg] w (w.dapEnded st r) := keeps_withDbg w _

theorem keeps_dapAdvance (s : State) (n : Nat) : Keeps [.dbg] s (s.dapAdvance n) := keeps_withDbg s _

/-- An access whose effect keeps some parts keeps them but for its answer and the port's own registers. -/
theorem keeps_dap {s w : State} {ps : List Part} (hw : Keeps ps s.dapShown w) (st r : Nat) :
    Keeps (.out :: .dbg :: ps) s (w.dapEnded st r) :=
  (((keeps_dapShown s).mono (by simp)).trans (hw.mono (fun x hx => List.mem_cons_of_mem _ (List.mem_cons_of_mem _ hx)))).trans
    ((keeps_dapEnded w st r).mono (by simp))

/-! ## Boundary cells (20 R649) -/

/-- New cells shifted in, the captured ones, which are open, out. -/
theorem sampled_shows (s : State) (code n : Nat) :
    (s.sampled code n).dbg = { s.dbg with cells := n } ∧ (∃ v, v < 2 ^ 64 ∧ (s.sampled code n).out = .jtag code v :: s.out) ∧
      Keeps [.out, .dbg, .free] s (s.sampled code n) :=
  ⟨rfl, ⟨_, (Config.freeBits 64 s.free).isLt, rfl⟩,
    (((keeps_open s 64).mono (by simp)).trans ((keeps_withDbg _ _).mono (by simp))).trans ((keeps_emit _ _).mono (by simp))⟩

section
variable {s : State}

theorem samplePreload_samples (h : s.dapOpen = true) (n : Nat) :
    Goes (exec (.samplePreload n) s) (fun u => u.dbg = { s.dbg with cells := n } ∧
      (∃ v, v < 2 ^ 64 ∧ u.out = .jtag 0x02 v :: s.out) ∧ Keeps [.out, .dbg, .free] s u) :=
  ⟨_, congrArg Host.Outcome.next (if_pos h), sampled_shows s 0x02 n⟩

/-- Pins are driven while PERST_N is low alone. -/
theorem extest_drives (h : s.dapOpen = true) (n : Nat) :
    Goes (exec (.extest n) s) (fun u => u.dbg = { s.dbg with cells := n } ∧ Keeps [.out, .dbg, .free] s u ∧ ∃ v, v < 2 ^ 64 ∧
      u.out = (if s.pins.perst then [] else [.pins n]) ++ .jtag 0x00 v :: s.out) := by
  obtain ⟨hdbg, ⟨v, hv, hout⟩, hkept⟩ := sampled_shows s 0x00 n
  have hgo : exec (.extest n) s = .next (if s.pins.perst then s.sampled 0x00 n else (s.sampled 0x00 n).emit (.pins n)) :=
    congrArg Host.Outcome.next (if_neg (by simp [h]))
  cases hp : s.pins.perst with
  | true => exact ⟨s.sampled 0x00 n, hgo.trans (by rw [hp]; rfl), hdbg, hkept, v, hv, hout⟩
  | false =>
    exact ⟨(s.sampled 0x00 n).emit (.pins n), hgo.trans (by rw [hp]; rfl), hdbg, hkept.trans ((keeps_emit _ _).mono (by simp)), v, hv,
      congrArg (Out.pins n :: ·) hout⟩

/-! ## Targets and their accesses (20 R650 to R652) -/

theorem dapTarget_sets (h : s.dapOpen = true) (reg : Bool) (a : Nat) :
    (s.dapTarget reg a).dbg = { s.dbg with reg := reg, addr := a, status := Sts.ok, result := 0, started := true } ∧
      Keeps [.out, .dbg] s (s.dapTarget reg a) := by
  rw [dapTarget, dap_open h]
  exact ⟨rfl, (keeps_dap (keeps_withDbg _ _) _ _).mono (by simp)⟩

theorem status_shows (h : s.dapOpen = true) :
    Goes (exec .status s) (fun u =>
      u.dbg = { s.dbg with result := s.dbg.status % 2 ^ 16 + s.rd Reg.DBG_GATED_ACCESS_CNT * 2 ^ 16, started := true } ∧
      Keeps [.out, .dbg] s u) :=
  ⟨_, congrArg Host.Outcome.next (dap_open h _), rfl, keeps_dap (Keeps.refl [] _) _ _⟩

/-- The target as a register's offset is no access of `n` bytes. -/
theorem dapTarget_refused {n : Nat} (hbad : s.dbg.addr % n ≠ 0 ∨ 2 ^ 26 < s.dbg.addr + n) :
    (s.dapShown.dbg.addr % n != 0 || decide (2 ^ 26 < s.dapShown.dbg.addr + n)) = true := by
  simp only [Bool.or_eq_true, bne_iff_ne, decide_eq_true_eq]
  exact hbad

theorem dapTarget_allowed {n : Nat} (hal : s.dbg.addr % n = 0) (hin : s.dbg.addr + n ≤ 2 ^ 26) :
    (s.dapShown.dbg.addr % n != 0 || decide (2 ^ 26 < s.dapShown.dbg.addr + n)) = false := by
  simp only [Bool.or_eq_false_iff, bne_eq_false_iff_eq, decide_eq_false_iff_not, Nat.not_lt]
  exact ⟨hal, hin⟩

section
variable {n : Nat} {rd : Instr} {far : List Host.Cell} {ue : Option Nat}

theorem exec_dapRead (h : (n, rd) ∈ [(4, Instr.read32 far ue), (8, .read64 far ue)]) (s : State) :
    exec rd s = .next (s.dapRead n far ue) := by
  simp only [List.mem_cons, Prod.mk.injEq, List.not_mem_nil, or_false] at h
  rcases h with ⟨rfl, rfl⟩ | ⟨rfl, rfl⟩
  · rfl
  · rfl

theorem dapRead_refused (h : (n, rd) ∈ [(4, Instr.read32 far ue), (8, .read64 far ue)]) (hopen : s.dapOpen = true)
    (hreg : s.dbg.reg = true) (hbad : s.dbg.addr % n ≠ 0 ∨ 2 ^ 26 < s.dbg.addr + n) :
    Goes (exec rd s) (fun u => u.dbg.status = Sts.accessFault ∧ u.dbg.addr = s.dbg.addr + n ∧ Keeps [.out, .dbg] s u) := by
  have hget : s.dapShown.dapGet n far ue = (s.dapShown, Sts.accessFault, 0) :=
    (if_pos hreg).trans (if_pos (dapTarget_refused hbad))
  refine ⟨(s.dapShown.dapAdvance n).dapEnded Sts.accessFault 0, ?_, rfl, rfl, (keeps_dap (keeps_dapAdvance _ n) _ _).mono (by simp)⟩
  rw [exec_dapRead h, dapRead, dap_open hopen, hget]

theorem dapRead_reads (h : (n, rd) ∈ [(4, Instr.read32 far ue), (8, .read64 far ue)]) (hopen : s.dapOpen = true)
    (hreg : s.dbg.reg = true) (hal : s.dbg.addr % n = 0) (hin : s.dbg.addr + n ≤ 2 ^ 26)
    (hside : s.fb Fld.DBG_CTL_DBG_SIDE_EFFECT = false) {w : State} {v : Nat}
    (hread : s.dapShown.readBar0 s.dbg.addr n false = (w, v)) :
    Goes (exec rd s) (fun u =>
      u.dbg = { w.dbg with addr := w.dbg.addr + n, status := Sts.ok, result := v, started := true } ∧ Keeps [.dbg] w u) := by
  have hnoside : s.dapShown.fb Fld.DBG_CTL_DBG_SIDE_EFFECT = false := hside
  have hget : s.dapShown.dapGet n far ue = (w, Sts.ok, v) := by
    refine ((if_pos hreg).trans (if_neg (Bool.eq_false_iff.mp (dapTarget_allowed hal hin)))).trans ?_
    simp only [hnoside, show s.dapShown.dbg.addr = s.dbg.addr from rfl, hread, Bool.false_and, Bool.false_eq_true, if_false]
  refine ⟨(w.dapAdvance n).dapEnded Sts.ok v, ?_, rfl, (keeps_dapAdvance w n).trans (keeps_dapEnded _ _ _)⟩
  rw [exec_dapRead h, dapRead, dap_open hopen, hget]

end

section
variable {n v : Nat} {wr : Instr}

theorem exec_dapWrite (h : (n, wr) ∈ [(4, Instr.write32 v), (8, .write64 v)]) (s : State) : exec wr s = .next (s.dapWrite n v) := by
  simp only [List.mem_cons, Prod.mk.injEq, List.not_mem_nil, or_false] at h
  rcases h with ⟨rfl, rfl⟩ | ⟨rfl, rfl⟩
  · rfl
  · rfl

theorem dapWrite_refused (h : (n, wr) ∈ [(4, Instr.write32 v), (8, .write64 v)]) (hopen : s.dapOpen = true)
    (hreg : s.dbg.reg = true) (hbad : s.dbg.addr % n ≠ 0 ∨ 2 ^ 26 < s.dbg.addr + n) :
    Goes (exec wr s) (fun u => u.dbg.status = Sts.accessFault ∧ u.dbg.addr = s.dbg.addr + n ∧ Keeps [.out, .dbg] s u) := by
  have hput : s.dapShown.dapPut n (v % 2 ^ (8 * n)) = (s.dapShown, Sts.accessFault) :=
    (if_pos hreg).trans (if_pos (dapTarget_refused hbad))
  refine ⟨(s.dapShown.dapAdvance n).dapEnded Sts.accessFault Sts.accessFault, ?_, rfl, rfl,
    (keeps_dap (keeps_dapAdvance _ n) _ _).mono (by simp)⟩
  rw [exec_dapWrite h, dapWrite, dap_open hopen, hput]

theorem dapWrite_writes (h : (n, wr) ∈ [(4, Instr.write32 v), (8, .write64 v)]) (hopen : s.dapOpen = true)
    (hreg : s.dbg.reg = true) (hal : s.dbg.addr % n = 0) (hin : s.dbg.addr + n ≤ 2 ^ 26) {w : State}
    (hwrite : s.dapShown.writeBar0 s.dbg.addr n (v % 2 ^ (8 * n)) true = w) :
    Goes (exec wr s) (fun u =>
      u.dbg = { w.dbg with addr := w.dbg.addr + n, status := Sts.ok, result := Sts.ok, started := true } ∧ Keeps [.dbg] w u) := by
  have hput : s.dapShown.dapPut n (v % 2 ^ (8 * n)) = (w, Sts.ok) :=
    ((if_pos hreg).trans (if_neg (Bool.eq_false_iff.mp (dapTarget_allowed hal hin)))).trans (congrArg (·, Sts.ok) hwrite)
  refine ⟨(w.dapAdvance n).dapEnded Sts.ok Sts.ok, ?_, rfl, (keeps_dapAdvance w n).trans (keeps_dapEnded _ _ _)⟩
  rw [exec_dapWrite h, dapWrite, dap_open hopen, hput]

end

end

/-! ## Semaphores (20 R655, R656) -/

theorem sem_addr_ne {k m : Nat} (h : m ≠ k) : (Reg.DBG_SEM m).addr ≠ (Reg.DBG_SEM k).addr := by
  simp only [Reg.DBG_SEM]
  omega

/-- A field of a semaphore apart from one of the same place at every semaphore. -/
theorem fd_fw_sem_apart (s : State) {lo w lo' w' : Nat} (k m v : Nat) (hsep : lo' + w' ≤ lo ∨ lo + w ≤ lo') (hw : lo' + w' ≤ 32) :
    (s.fw ⟨Reg.DBG_SEM k, lo, w⟩ v).fd ⟨Reg.DBG_SEM m, lo', w'⟩ = s.fd ⟨Reg.DBG_SEM m, lo', w'⟩ := by
  by_cases hmk : m = k
  · subst hmk
    exact fd_fw_apart s _ _ v rfl hsep hw (show 32 ≤ 64 by decide)
  · exact fd_fw_ne s _ _ v (sem_addr_ne hmk)

/-- The OWNER_HALTED of a semaphore of a core set as the core halts or resumes. -/
def semOwnerStep (core : Nat) (h : Bool) (s : State) (k : Nat) : State :=
  if s.fb (Fld.DBG_SEM_HELD k) && s.fd (Fld.DBG_SEM_OWNER k) == 0x2F + core then s.fbw (Fld.DBG_SEM_OWNER_HALTED k) h else s

theorem keeps_semOwnerStep (core : Nat) (h : Bool) (s : State) (k : Nat) : Keeps [.regs] s (semOwnerStep core h s k) := by
  unfold semOwnerStep
  split
  · exact keeps_fw s _ _
  · exact Keeps.refl _ s

theorem keeps_semOwner (s : State) (core : Nat) (h : Bool) : Keeps [.regs] s (s.semOwner core h) :=
  Keeps.foldl s fun u k _ => keeps_semOwnerStep core h u k

/-- Whether a semaphore is held, and by whom, stays as OWNER_HALTED is set. -/
theorem semOwnerStep_owner (core : Nat) (h : Bool) (s : State) (k m : Nat) :
    (semOwnerStep core h s k).fd (Fld.DBG_SEM_HELD m) = s.fd (Fld.DBG_SEM_HELD m) ∧
      (semOwnerStep core h s k).fd (Fld.DBG_SEM_OWNER m) = s.fd (Fld.DBG_SEM_OWNER m) := by
  unfold semOwnerStep
  split
  · exact ⟨fd_fw_sem_apart s k m _ (.inr (by decide)) (by decide), fd_fw_sem_apart s k m _ (.inl (by decide)) (by decide)⟩
  · exact ⟨rfl, rfl⟩

theorem semOwnerStep_self {core k : Nat} {s : State} (h : Bool) (hheld : s.fb (Fld.DBG_SEM_HELD k) = true)
    (howner : s.fd (Fld.DBG_SEM_OWNER k) = 0x2F + core) : (semOwnerStep core h s k).fb (Fld.DBG_SEM_OWNER_HALTED k) = h := by
  rw [semOwnerStep, if_pos (by simp [hheld, howner])]
  exact fb_fbw_self s _ h rfl (show 30 + 1 ≤ 32 by decide) (show 32 ≤ 64 by decide)

theorem semOwnerStep_ne {k m : Nat} (core : Nat) (h : Bool) (s : State) (hne : m ≠ k) :
    (semOwnerStep core h s k).fb (Fld.DBG_SEM_OWNER_HALTED m) = s.fb (Fld.DBG_SEM_OWNER_HALTED m) := by
  unfold semOwnerStep
  split
  · exact congrArg (· != 0) (fd_fw_ne s _ _ _ (sem_addr_ne hne))
  · rfl

/-- A run over semaphores leaves OWNER_HALTED of a core's semaphore as asked, where the run meets it or it stands so already. -/
theorem foldl_semOwnerStep (core : Nat) (h : Bool) (m : Nat) (l : List Nat) (s : State) (hheld : s.fb (Fld.DBG_SEM_HELD m) = true)
    (howner : s.fd (Fld.DBG_SEM_OWNER m) = 0x2F + core) (hm : m ∈ l ∨ s.fb (Fld.DBG_SEM_OWNER_HALTED m) = h) :
    (l.foldl (semOwnerStep core h) s).fb (Fld.DBG_SEM_OWNER_HALTED m) = h := by
  induction l generalizing s with
  | nil => exact hm.resolve_left (List.not_mem_nil)
  | cons k l ih =>
    obtain ⟨hkeptHeld, hkeptOwner⟩ := semOwnerStep_owner core h s k m
    refine ih _ ((congrArg (· != 0) hkeptHeld).trans hheld) (hkeptOwner.trans howner) ?_
    by_cases hmk : m = k
    · subst hmk
      exact .inr (semOwnerStep_self h hheld howner)
    · exact (hm.imp_left fun hin => (List.mem_cons.mp hin).resolve_left hmk).imp_right
        fun hset => (semOwnerStep_ne core h s hmk).trans hset

theorem semOwner_sets {s : State} {core m : Nat} (h : Bool) (hm : m < 32) (hheld : s.fb (Fld.DBG_SEM_HELD m) = true)
    (howner : s.fd (Fld.DBG_SEM_OWNER m) = 0x2F + core) : (s.semOwner core h).fb (Fld.DBG_SEM_OWNER_HALTED m) = h :=
  foldl_semOwnerStep core h m (List.range 32) s hheld howner (.inl (List.mem_range.mpr hm))

/-- A held semaphore forced free is free, marked forced, and the only register that changes. -/
theorem semForce_frees {s : State} {k : Nat} (hheld : s.fb (Fld.DBG_SEM_HELD k) = true) :
    (s.semForce k).fb (Fld.DBG_SEM_HELD k) = false ∧ (s.semForce k).fb (Fld.DBG_SEM_FORCED k) = true ∧
      Keeps [.regs] s (s.semForce k) ∧ RegsKeep [(Reg.DBG_SEM k).addr] s (s.semForce k) := by
  let a := s.fbw (Fld.DBG_SEM_HELD k) false
  let b := a.fbw (Fld.DBG_SEM_OWNER_HALTED k) false
  let c := b.fw (Fld.DBG_SEM_OWNER k) 0
  have hforced : s.semForce k = c.fbw (Fld.DBG_SEM_FORCED k) true := if_pos hheld
  have hfree : (c.fbw (Fld.DBG_SEM_FORCED k) true).fd (Fld.DBG_SEM_HELD k) = a.fd (Fld.DBG_SEM_HELD k) :=
    (fd_fw_sem_apart c k k _ (.inr (by decide)) (by decide)).trans ((fd_fw_sem_apart b k k _ (.inr (by decide)) (by decide)).trans
      (fd_fw_sem_apart a k k _ (.inr (by decide)) (by decide)))
  rw [hforced]
  refine ⟨(congrArg (· != 0) hfree).trans (fb_fbw_self s _ false rfl (show 31 + 1 ≤ 32 by decide) (show 32 ≤ 64 by decide)),
    fb_fbw_self c _ true rfl (show 29 + 1 ≤ 32 by decide) (show 32 ≤ 64 by decide), ?_, ?_⟩
  · exact ((keeps_fw s _ _).trans (keeps_fw a _ _)).trans ((keeps_fw b _ _).trans (keeps_fw c _ _))
  · exact ((regsKeep_fw s (Fld.DBG_SEM_HELD k) _).trans (regsKeep_fw a (Fld.DBG_SEM_OWNER_HALTED k) _)).trans
      ((regsKeep_fw b (Fld.DBG_SEM_OWNER k) _).trans (regsKeep_fw c (Fld.DBG_SEM_FORCED k) _))

section
variable {s : State}

theorem semForce_forces {k : Nat} (hopen : s.dapOpen = true) (hk : k < 32) (hheld : s.fb (Fld.DBG_SEM_HELD k) = true) :
    Goes (exec (.semForce k) s) (fun u => u.fb (Fld.DBG_SEM_HELD k) = false ∧ u.fb (Fld.DBG_SEM_FORCED k) = true ∧
      u.dbg.status = Sts.ok ∧ Keeps [.out, .dbg, .regs] s u ∧ RegsKeep [(Reg.DBG_SEM k).addr] s u) := by
  obtain ⟨hfree, hforced, hkept, hregs⟩ := semForce_frees (s := s.dapShown) (k := k) hheld
  refine ⟨(s.dapShown.semForce k).dapEnded Sts.ok Sts.ok, ?_, hfree, hforced, rfl, keeps_dap hkept _ _, hregs⟩
  have hgo : exec (.semForce k) s = .next ((s.dapShown.semForce (k % 32)).dapEnded Sts.ok Sts.ok) :=
    congrArg Host.Outcome.next (dap_open hopen _)
  rw [hgo, Nat.mod_eq_of_lt hk]

/-! ## Halts (20 R654) -/

/-- The answer to a halt or a resumption. -/
def haltAnswered (s : State) (unit : Nat) (h : Bool) : State :=
  (s.dapShown.dapHalt unit h).1.dapEnded (s.dapShown.dapHalt unit h).2 (s.dapShown.dapHalt unit h).2

theorem exec_halt (hopen : s.dapOpen = true) {unit : Nat} (hunit : unit < 128) :
    exec (.halt unit) s = .next (s.haltAnswered unit true) := by
  have hgo : exec (.halt unit) s = .next (s.haltAnswered (unit % 128) true) := congrArg Host.Outcome.next (dap_open hopen _)
  rwa [Nat.mod_eq_of_lt hunit] at hgo

theorem exec_resume (hopen : s.dapOpen = true) {unit : Nat} (hunit : unit < 128) :
    exec (.resume unit) s = .next (s.haltAnswered unit false) := by
  have hgo : exec (.resume unit) s = .next (s.haltAnswered (unit % 128) false) := congrArg Host.Outcome.next (dap_open hopen _)
  rwa [Nat.mod_eq_of_lt hunit] at hgo

/-- The list of halted cores with one of them halted or resumed. -/
def haltedCores (s : State) (c : Nat) (h : Bool) : List Nat :=
  if h then c :: s.dbg.halted.filter (· != c) else s.dbg.halted.filter (· != c)

/-- A management core is halted or resumed in the list of halted cores and in the semaphores that it owns. -/
theorem dapHalt_core {c : Nat} (hc : c < 4) (h : Bool) :
    s.dapHalt (0x2F + c) h =
      ((({ s with dbg := { s.dbg with halted := s.haltedCores c h } } : State).semOwner c h), Sts.ok) := by
  have htile : ¬ 0x2F + c < 32 := by omega
  have hcore : (0x2F ≤ 0x2F + c && decide (0x2F + c < 0x33)) = true := by
    simp only [Bool.and_eq_true, decide_eq_true_eq]
    omega
  simp only [dapHalt, htile, hcore, if_false, if_true, Nat.add_sub_cancel_left]
  rfl

theorem haltAnswered_core {c : Nat} (hc : c < 4) (h : Bool) :
    let u := s.haltAnswered (0x2F + c) h
    u.dbg.halted = s.haltedCores c h ∧ u.dbg.status = Sts.ok ∧ Keeps [.out, .dbg, .regs] s u ∧
      ∀ k, k < 32 → s.fb (Fld.DBG_SEM_HELD k) = true → s.fd (Fld.DBG_SEM_OWNER k) = 0x2F + c →
        u.fb (Fld.DBG_SEM_OWNER_HALTED k) = h := by
  let w : State := { s.dapShown with dbg := { s.dbg with halted := s.haltedCores c h } }
  have hkept : Keeps [.regs] w (w.semOwner c h) := keeps_semOwner w c h
  have hcore : Keeps [.dbg, .regs] s.dapShown (w.semOwner c h) :=
    ((keeps_withDbg _ _).mono (by simp)).trans (hkept.mono (by simp))
  rw [haltAnswered, dapHalt_core hc h]
  exact ⟨congrArg Dbg.halted (hkept .dbg (by simp)), rfl, (keeps_dap hcore _ _).mono (by simp),
    fun k hk hheld howner => semOwner_sets (s := w) h hk hheld howner⟩

theorem halt_core (hopen : s.dapOpen = true) {c : Nat} (hc : c < 4) :
    Goes (exec (.halt (0x2F + c)) s) (fun u => c ∈ u.dbg.halted ∧ u.dbg.status = Sts.ok ∧ Keeps [.out, .dbg, .regs] s u ∧
      (∀ k, k < 32 → s.fb (Fld.DBG_SEM_HELD k) = true → s.fd (Fld.DBG_SEM_OWNER k) = 0x2F + c →
        u.fb (Fld.DBG_SEM_OWNER_HALTED k) = true)) := by
  obtain ⟨hhalted, hrest⟩ := haltAnswered_core (s := s) hc true
  exact ⟨_, exec_halt hopen (by omega), hhalted ▸ List.mem_cons_self, hrest⟩

theorem resume_core (hopen : s.dapOpen = true) {c : Nat} (hc : c < 4) :
    Goes (exec (.resume (0x2F + c)) s) (fun u => c ∉ u.dbg.halted ∧ u.dbg.status = Sts.ok ∧ Keeps [.out, .dbg, .regs] s u ∧
      (∀ k, k < 32 → s.fb (Fld.DBG_SEM_HELD k) = true → s.fd (Fld.DBG_SEM_OWNER k) = 0x2F + c →
        u.fb (Fld.DBG_SEM_OWNER_HALTED k) = false)) := by
  obtain ⟨hhalted, hrest⟩ := haltAnswered_core (s := s) hc false
  refine ⟨_, exec_resume hopen (by omega), ?_, hrest⟩
  rw [hhalted]
  simp [haltedCores]

theorem halt_tile (hopen : s.dapOpen = true) {t : Nat} (ht : t < 32) (hon : s.tileOn t = true) :
    Goes (exec (.halt t) s) (fun u => u.tile t = { s.tile t with halted := true } ∧ u.dbg.status = Sts.ok ∧
      Keeps [.out, .dbg, .tiles] s u) := by
  let w := s.dapShown.setTile t { s.tile t with halted := true }
  have hhalt : s.dapShown.dapHalt t true = (w, Sts.ok) := (if_pos ht).trans (if_pos hon)
  refine ⟨w.dapEnded Sts.ok Sts.ok, ?_, tile_setTile_self _ _ _, rfl, keeps_dap (keeps_setTile _ _ _) _ _⟩
  rw [exec_halt hopen (by omega), haltAnswered, hhalt]

end

/-! ## Sideband pins (21 R663, R666) -/

/-- A record of severity 0 raises no vector. -/
theorem trouble_quiet (s : State) (code island addr data : Nat) :
    (∃ r, (s.trouble code 0 island addr data).log = r :: s.log ∧ r.code = code) ∧
      Keeps [.log, .regs] s (s.trouble code 0 island addr data) :=
  ⟨⟨_, rfl, rfl⟩, ((keeps_withLog s _).mono (by simp)).trans ((keeps_wr _ _ _).mono (by simp))⟩

section
variable {s : State}

theorem maintInhibitChange_records {b : Bool} (hb : s.pins.maintInhibit ≠ b) (hpower : s.rst.unpowered = false) :
    Goes (exec (.maintInhibitChange b) s) (fun u => u.pins = { s.pins with maintInhibit := b } ∧
      (∃ r, u.log = r :: s.log ∧ r.code = 0x0B90) ∧ Keeps [.pins, .log, .regs] s u) := by
  let w : State := { s with pins := { s.pins with maintInhibit := b } }
  obtain ⟨hlog, hkept⟩ := trouble_quiet w 0x0B90 80 0 (b2n b)
  refine ⟨w.trouble 0x0B90 0 80 0 (b2n b), congrArg Host.Outcome.next ((if_neg hb).trans (if_neg (by simp [hpower]))),
    hkept .pins (by simp), hlog, ((keeps_withPins s _).mono (by simp)).trans (hkept.mono (by simp))⟩

theorem maintInhibitChange_same {b : Bool} (hb : s.pins.maintInhibit = b) : exec (.maintInhibitChange b) s = .next s :=
  congrArg Host.Outcome.next (if_pos hb)

/-- The live SLOT_ID shown: SLOT_CHANGED where it is not the latched one. -/
def slotShown (s : State) (n : Nat) : State :=
  if s.fd Fld.RST_STRAP_SLOT_ID = n then s else s.fbw Fld.RST_SIDEBAND_SLOT_CHANGED true

theorem keeps_slotShown (s : State) (n : Nat) : Keeps [.regs] s (s.slotShown n) := by
  unfold slotShown
  split
  · exact Keeps.refl _ s
  · exact keeps_fw s _ _

theorem slotShown_changed {n : Nat} (h : s.fd Fld.RST_STRAP_SLOT_ID ≠ n) :
    (s.slotShown n).fb Fld.RST_SIDEBAND_SLOT_CHANGED = true := by
  rw [slotShown, if_neg h]
  exact fb_fbw_self s _ true rfl (by decide) (by decide)

theorem slotIdChange_records {n : Nat} (hn : n < 64) (hslot : s.pins.slotId ≠ n) (hpower : s.rst.unpowered = false) :
    Goes (exec (.slotIdChange n) s) (fun u => u.pins = { s.pins with slotId := n } ∧
      (∃ r, u.log = r :: s.log ∧ r.code = 0x0B91) ∧ Keeps [.pins, .log, .regs] s u ∧
      (s.fd Fld.RST_STRAP_SLOT_ID ≠ n → u.fb Fld.RST_SIDEBAND_SLOT_CHANGED = true)) := by
  let w : State := { s with pins := { s.pins with slotId := n } }
  have hshown := keeps_slotShown w n
  let data := s.fd Fld.RST_STRAP_SLOT_ID * 2 ^ 8 + n
  obtain ⟨⟨r, hlog, hcode⟩, hkept⟩ := trouble_quiet (w.slotShown n) 0x0B91 80 0 data
  have hgo : exec (.slotIdChange n) s = .next ((w.slotShown n).trouble 0x0B91 0 80 0 data) := by
    have hrst : (w.slotShown n).rst.unpowered = false := by rw [hshown .rst (by simp)]; exact hpower
    change Host.Outcome.next (s.slotChange n) = _
    rw [slotChange, Nat.mod_eq_of_lt hn, if_neg hslot]
    exact congrArg Host.Outcome.next (if_neg (Bool.eq_false_iff.mp hrst))
  refine ⟨_, hgo, (hkept .pins (by simp)).trans (hshown .pins (by simp)), ⟨r, ?_, hcode⟩, ?_, fun hne => ?_⟩
  · rw [hlog, hshown .log (by simp)]
  · exact ((keeps_withPins s _).mono (by simp)).trans ((hshown.mono (by simp)).trans (hkept.mono (by simp)))
  · rw [(regsKeep_trouble _ _ _ _ _ _).fb (by decide)]
    exact slotShown_changed hne

theorem slotIdChange_same {n : Nat} (hn : n < 64) (hslot : s.pins.slotId = n) : exec (.slotIdChange n) s = .next s :=
  congrArg Host.Outcome.next (if_pos (hslot.trans (Nat.mod_eq_of_lt hn).symm))

end

/-! ## A power-fail warning that lasts (04 R139)

What discarding a store buffer sets off, down to the retirement of a site that trapped, puts nothing into another one. -/

theorem keeps_setRole (s : State) (n role : Nat) : Keeps [.regs, .pair] s (s.setRole n role) := by
  unfold setRole
  split
  · exact Keeps.refl _ s
  · exact ((keeps_fw s _ _).mono (by simp)).trans ((keeps_withPair _ _).mono (by simp))

theorem keeps_updSvc (s : State) (n : Nat) (f : PairSvc → PairSvc) : Keeps [.pair] s (s.updSvc n f) := keeps_withPair s _

theorem keeps_pairSend (s : State) (type svc body : Nat) : Keeps [.out] s (s.pairSend type svc body) := by
  unfold pairSend
  split
  · exact keeps_emit s _
  · exact Keeps.refl _ s

theorem keeps_askKat (s : State) (slot time : Nat) : Keeps [.rim] s (s.askKat slot time) := keeps_withRim s _

/-- The check of FAIL conditions changes what Pairing shows, sends and asks of the lane. -/
theorem keeps_pairCheck (s : State) : Keeps [.regs, .pair, .rim, .out] s s.pairCheck := by
  unfold pairCheck
  extract_lets failing back sFailed sTold sBack healthy
  have hfailed : Keeps [.regs, .pair, .rim, .out] s sFailed := Keeps.foldl s fun u e _ =>
    ((keeps_setRole u e.1 4).mono (by simp)).trans ((keeps_updSvc _ e.1 _).mono (by simp))
  have htold : Keeps [.regs, .pair, .rim, .out] sFailed sTold := Keeps.foldl sFailed fun u c _ => by
    split
    · exact Keeps.refl _ u
    · exact (keeps_pairSend u _ _ _).mono (by simp)
  have hback : Keeps [.regs, .pair, .rim, .out] sTold sBack := Keeps.foldl sTold fun u n _ => by
    have hreset := (((keeps_setRole u n 1).mono (by simp)).trans ((keeps_fw _ (Fld.PAIR_SVC_STATUS_MATCH_RUN n) 0).mono (by simp))).trans
      ((keeps_updSvc _ n (fun x => { x with passed := false })).mono
        (show [Part.pair] ⊆ [.regs, .pair, .rim, .out] by simp))
    dsimp only
    split
    · exact hreset.trans ((keeps_askKat _ _ _).mono (by simp))
    · exact hreset
  exact ((hfailed.trans htold).trans hback).trans ((keeps_withPair sBack _).mono (by simp))

theorem keeps_laneTo (s : State) (st : Nat) : Keeps [.regs, .pair, .rim, .out, .eng] s (s.laneTo st) := by
  simp only [laneTo]
  refine Keeps.trans (Keeps.trans ?_ ((keeps_fw _ _ _).mono (by simp))) ((keeps_pairCheck _).mono (by simp))
  split
  · exact Keeps.refl _ s
  · refine ((keeps_withRim s _).mono (by simp)).trans (Keeps.foldl _ fun u t _ => ?_)
    split
    · exact (keeps_setEng u _ _).mono (by simp)
    · exact Keeps.refl _ u

theorem keeps_lanePause (s : State) (c : Nat) : Keeps [.regs, .pair, .rim, .out, .eng] s (s.lanePause c) := by
  have hpause : ∀ u : State, Keeps [.regs, .pair, .rim, .out, .eng] u (if u.lane = 2 then u.laneTo 3 else u) := fun u => by
    split
    · exact keeps_laneTo u 3
    · exact Keeps.refl _ u
  unfold lanePause
  refine Keeps.trans ?_ (hpause _)
  split
  · exact Keeps.refl _ s
  · exact (keeps_withRim s _).mono (by simp)

theorem keeps_healthCheck (s : State) : Keeps [.regs, .log, .out, .hif] s s.healthCheck := by
  simp only [healthCheck]
  split
  · exact Keeps.refl _ s
  · exact (((keeps_fw s _ _).mono (by simp)).trans ((keeps_fw _ _ _).mono (by simp))).trans (keeps_trouble _ _ _ _ _ _)

/-- A Rim tile's site retired changes nothing of the tiles. -/
theorem keeps_laneSite (s : State) (t : Nat) : Keeps [.regs, .pair, .rim, .out, .eng, .log, .hif] s (s.laneSite t) := by
  unfold laneSite laneLost
  split_ifs
  · exact (keeps_lanePause s 1).mono (by simp)
  · exact Keeps.refl _ s
  · exact (((keeps_laneTo s 6).mono (by simp)).trans ((keeps_trouble _ _ _ _ _ _).mono (by simp))).trans
      ((keeps_healthCheck _).mono (by simp))
  · exact Keeps.refl _ s

/-- No operation enters a store buffer that is empty. -/
def SbStaysEmpty (s u : State) : Prop := ∀ x, (s.tile x).sb = [] → (u.tile x).sb = []

theorem SbStaysEmpty.trans {s u v : State} (h : SbStaysEmpty s u) (h' : SbStaysEmpty u v) : SbStaysEmpty s v :=
  fun x hx => h' x (h x hx)

theorem SbStaysEmpty.refl (s : State) : SbStaysEmpty s s := fun _ hx => hx

theorem sbStaysEmpty_of_keeps {s u : State} {ps : List Part} (h : Keeps ps s u) (hp : Part.tiles ∉ ps) : SbStaysEmpty s u :=
  fun x hx => (congrArg Tile.sb (h.tile hp x)).trans hx

theorem sbStaysEmpty_setTile {s : State} {t : Nat} {x : Tile} (h : (s.tile t).sb = [] → x.sb = []) :
    SbStaysEmpty s (s.setTile t x) := fun y hy => by
  by_cases hyt : y = t
  · subst hyt
    rw [tile_setTile_self]
    exact h hy
  · rwa [tile_setTile_ne _ _ _ _ hyt]

theorem keeps_moveStart (s : State) (site : Nat) : Keeps [.ras] s (s.moveStart site) := by
  unfold moveStart
  split
  · exact Keeps.refl _ s
  · exact keeps_withRas s _

theorem sbStaysEmpty_markSite (s : State) (site : Nat) : SbStaysEmpty s (s.markSite site) := by
  have htoken : ∀ (u : State) (a : Activity), SbStaysEmpty u
      (if u.maintMustWait a then u.maintQueue a else (u.maintTake a).moveStart site) := fun u a => by
    refine sbStaysEmpty_of_keeps (ps := [.ras]) ?_ (by simp)
    split
    · exact keeps_withRas u _
    · exact (keeps_withRas u _).trans (keeps_moveStart _ site)
  have hfence : ∀ (u : State) (t : Nat), SbStaysEmpty u (u.setTile t { u.tile t with fenced := true }) := fun u t =>
    sbStaysEmpty_setTile (fun h => h)
  have hretired : SbStaysEmpty s (s.orReg Reg.RAS_SITE_RETIRED (2 ^ site)) := sbStaysEmpty_of_keeps (keeps_wr s _ _) (by simp)
  simp only [markSite]
  split
  · exact SbStaysEmpty.refl s
  · refine SbStaysEmpty.trans (hretired.trans ?_) (htoken _ _)
    split
    · exact ((sbStaysEmpty_of_keeps (keeps_laneSite _ _) (by simp)).trans (hfence _ _)).trans
        (sbStaysEmpty_of_keeps (keeps_setEng _ _ _) (by simp))
    · exact SbStaysEmpty.refl _

theorem sbStaysEmpty_tileReset (s : State) (t : Nat) : SbStaysEmpty s (s.tileReset t) := by
  have hregs : SbStaysEmpty s (s.tileRegs (s.siteOf t)) :=
    sbStaysEmpty_of_keeps ((keeps_regsReset s _ _).trans (keeps_regsReset _ _ _)) (by simp)
  have hidle : ∀ x : Tile, x.sb = [] → SbStaysEmpty s ((s.tileRegs (s.siteOf t)).setTile t x) := fun x hx =>
    hregs.trans (sbStaysEmpty_setTile (fun _ => hx))
  simp only [tileReset]
  split
  · exact sbStaysEmpty_setTile (fun _ => rfl)
  · split
    · exact (hidle _ rfl).trans (sbStaysEmpty_markSite _ _)
    · exact hidle _ rfl

theorem sbStaysEmpty_tileDrained (s : State) (t : Nat) : SbStaysEmpty s (s.tileDrained t) := by
  simp only [tileDrained]
  split
  · exact sbStaysEmpty_tileReset s t
  · exact SbStaysEmpty.refl s

/-- A store buffer discarded is empty, and an empty one stays so. -/
theorem sbDiscard_empties (s : State) (t cause : Nat) :
    ((s.sbDiscard t cause).tile t).sb = [] ∧ SbStaysEmpty s (s.sbDiscard t cause) := by
  have hset : ∀ x : Tile, x.sb = [] → ((s.setTile t x).tile t).sb = [] ∧ SbStaysEmpty s (s.setTile t x) := fun x hx =>
    ⟨by rw [tile_setTile_self, hx], sbStaysEmpty_setTile (fun _ => hx)⟩
  have hshown : ∀ (u : State) (r : Reg) (n m code sev island addr data : Nat),
      SbStaysEmpty u (((u.bump r n).tileEvent t 51 m).trouble code sev island addr data) := fun u r n m code sev island addr data =>
    ((sbStaysEmpty_of_keeps (keeps_wr u _ _) (by simp)).trans (sbStaysEmpty_of_keeps (keeps_tileEvent _ t 51 m) (by simp))).trans
      (sbStaysEmpty_of_keeps (keeps_trouble _ _ _ _ _ _) (by simp))
  simp only [sbDiscard]
  split
  case h_1 hempty => exact ⟨hempty, SbStaysEmpty.refl s⟩
  case h_2 =>
    obtain ⟨hempty, hother⟩ := hset { s.tile t with
      sb := [], stale := (s.tile t).stale ++ ((s.tile t).sb.filter (·.issued)).map (fun e => e.req.rtag) } rfl
    exact ⟨hshown _ _ _ _ _ _ _ _ _ t hempty, hother.trans (hshown _ _ _ _ _ _ _ _ _)⟩

theorem pfwDiscard_empties (s : State) (t : Nat) : ((s.pfwDiscard t).tile t).sb = [] ∧ SbStaysEmpty s (s.pfwDiscard t) := by
  obtain ⟨hempty, hother⟩ := sbDiscard_empties s t 1
  have hdrained := sbStaysEmpty_tileDrained (s.sbDiscard t 1) t
  exact ⟨hdrained t hempty, hother.trans hdrained⟩

/-- A run of discards leaves every store buffer that it meets empty. -/
theorem foldl_pfwDiscard (l : List Nat) (s : State) (t : Nat) (h : t ∈ l ∨ (s.tile t).sb = []) :
    ((l.foldl pfwDiscard s).tile t).sb = [] := by
  induction l generalizing s with
  | nil => exact h.resolve_left List.not_mem_nil
  | cons k l ih =>
    obtain ⟨hempty, hother⟩ := pfwDiscard_empties s k
    refine ih _ ?_
    rcases h with hin | hsb
    · rcases List.mem_cons.mp hin with rfl | hin
      · exact .inr hempty
      · exact .inl hin
    · exact .inr (hother t hsb)

theorem sbPfwExpiry_discards {s : State} (h : s.pfw = true) :
    GoesOn (exec .sbPfwExpiry s) State.settle (fun w => ∀ t, t < 32 → (w.tile t).sb = []) :=
  ⟨(List.range 32).foldl pfwDiscard s, congrArg Host.Outcome.next (if_pos h),
    fun t ht => foldl_pfwDiscard (List.range 32) s t (.inl (List.mem_range.mpr ht))⟩

theorem sbPfwExpiry_leaves {s : State} (h : s.pfw = false) : exec .sbPfwExpiry s = .next s :=
  congrArg Host.Outcome.next (if_neg (by simp [h]))

end Sys2Proof.Machine.State

namespace Sys2Proof

open Machine Machine.State

/-- Settles O60: an access shows the one before it, has its effect, and leaves its status; what draining tiles sets off fills no store
buffer. -/
theorem debugPortAndPins : Obligations.DebugPortAndPins := by
  unfold Obligations.DebugPortAndPins
  refine ⟨fun s => ⟨idcode_answers s, bypass_answers s⟩, fun s i n far ue hlock hi => ?_,
    fun s hopen => ⟨?_, ?_, ?_, ?_, ?_, ?_, ?_, ?_, ?_⟩, fun s n rd far ue hrd hopen hreg => ⟨?_, ?_⟩,
    fun s n v wr hwr hopen hreg => ⟨?_, ?_⟩, fun s b => ⟨?_, ?_⟩, fun s n hn => ⟨?_, ?_⟩,
    fun s => ⟨sbPfwExpiry_discards, sbPfwExpiry_leaves⟩⟩
  · rw [exec_locked hlock hi]
    exact bypass_answers s
  · exact samplePreload_samples hopen
  · exact extest_drives hopen
  · exact fun n => ⟨_, rfl, dapTarget_sets hopen false (n % 2 ^ 64)⟩
  · exact fun n => ⟨_, rfl, dapTarget_sets hopen true (n % 2 ^ 26)⟩
  · exact fun c => halt_core hopen
  · exact fun c => resume_core hopen
  · exact fun t => halt_tile hopen
  · exact fun k => semForce_forces hopen
  · exact status_shows hopen
  · exact dapRead_refused hrd hopen hreg
  · exact fun hal hin hside w v => dapRead_reads hrd hopen hreg hal hin hside
  · exact dapWrite_refused hwr hopen hreg
  · exact fun hal hin w => dapWrite_writes hwr hopen hreg hal hin
  · exact maintInhibitChange_records
  · exact maintInhibitChange_same
  · exact slotIdChange_records hn
  · exact slotIdChange_same hn

end Sys2Proof
end

section
/-! The Splint engine's commands (O20): how a row of ring 44 goes on, its counters and waits, and its convolutions. -/

namespace Sys2Proof.Machine.State

open Sys2Proof.Safety

/-! ## Rows of a unit, and of the Splint engine (05 R189) -/

/-- A unit's command that may begin, on a unit that is present, but fails its check ends on its ring with that answer, whichever path
brought it. -/
theorem unitRow_fails {s s1 : State} {via : Via} {n k : Nat} {p : Packet} {j : Job} {inRange : Bool}
    {present : State → Nat → Bool} {check : State → Nat → Option Ans} {act : State → Nat → State × Option Ans} {a : Ans}
    (h : UnitStarts s via n p j s1) (hk : via = .mcc → k = n ∧ inRange = true) (hp : present s1 n = true)
    (hc : check s1 n = some a) :
    s.unitRow via p true k inRange present check act = s1.finish (.ring n) a := by
  obtain ⟨hstarts, hvia⟩ := h
  have hrun : s.runRow (.ring n) p true (fun s => if present s n then check s n else some (.err Sts.unitAbsent)) (act · n) =
      s1.finish (.ring n) a := runRow_fails hstarts (by simp [hp, hc])
  rcases hvia with rfl | ⟨rfl, hj⟩
  · simpa only [unitRow, Bool.not_true, Bool.false_eq_true, if_false] using hrun
  · obtain ⟨rfl, hr⟩ := hk rfl
    have hcur : (s.engOf k).cur = some j := hstarts.job
    simp only [unitRow, Bool.not_true, Bool.false_eq_true, if_false, hr, if_true, hcur, hj, hstarts.packet, hstarts.fresh, and_self]
    exact hrun

section
variable {s s1 u : State} {via : Via} {p : Packet} {j : Job} {base : Nat} {check : Option Ans} {act : State → State × Option Ans}
  {a : Ans}

/-- The row of a Splint command that may begin, on ring 44 or from the MCC, is one of the unit behind ring 44. -/
theorem splRow_unit (h : UnitStarts s via 44 p j s1) (hop : p.base = base) :
    s.splRow via p base check act =
      s.unitRow via p true 44 true (fun s _ => s.splintOn) (fun _ _ => check) (fun s _ => act s) := by
  have hmine : (p.base == base && (via == .mcc || via == .ring splRing)) = true := by
    obtain ⟨-, rfl | ⟨rfl, -⟩⟩ := h <;> simp [hop, splRing]
  rw [splRow, hmine, splRing]

/-- A Splint command whose action answers ends with that answer. -/
theorem splRow_ends (h : UnitStarts s via 44 p j s1) (hop : p.base = base) (hon : s1.splintOn = true) (hcheck : check = none)
    (hact : act (s1.beginJob true (.ring 44) j) = (u, some a)) : s.splRow via p base check act = u.finish (.ring 44) a := by
  rw [splRow_unit h hop, unitRow_starts h (fun _ => ⟨rfl, rfl⟩) hon hcheck, hact]

/-- A Splint command whose action does not answer stays in progress, or has ended otherwise. -/
theorem splRow_goesOn (h : UnitStarts s via 44 p j s1) (hop : p.base = base) (hon : s1.splintOn = true) (hcheck : check = none)
    (hact : act (s1.beginJob true (.ring 44) j) = (u, none)) : s.splRow via p base check act = u := by
  rw [splRow_unit h hop, unitRow_starts h (fun _ => ⟨rfl, rfl⟩) hon hcheck, hact]

/-- A Splint command that fails its check ends without an effect. -/
theorem splRow_fails (h : UnitStarts s via 44 p j s1) (hop : p.base = base) (hon : s1.splintOn = true) (hcheck : check = some a) :
    s.splRow via p base check act = s1.finish (.ring 44) a := by
  rw [splRow_unit h hop, unitRow_fails h (fun _ => ⟨rfl, rfl⟩) hon hcheck]

/-! ## Counters and waits (05 R189; 04 R140, R141, R154) -/

/-- The counters of the Splint engine lie apart from what a late start records. -/
theorem rd_splSync_beginJob (s : State) (j : Job) (c : Nat) :
    (s.beginJob true (.ring 44) j).rd (Reg.SPL_SYNC c) = s.rd (Reg.SPL_SYNC c) :=
  (beginJob_regsKeep s true (.ring 44) j).rd (by
    simp only [Reg.SPL_SYNC, Reg.RAS_LOG_SEQ, List.mem_singleton]
    omega)

theorem rd_wr_splSync (s : State) (c v : Nat) : (s.wr (Reg.SPL_SYNC c) v).rd (Reg.SPL_SYNC c) = v % 2 ^ 32 :=
  rd_wr_self s _ v (show 32 ≤ 64 by decide)

theorem splSyncSet_sets (h : UnitStarts s via 44 p j s1) (hop : p.base = 0x0242) (hon : s1.splintOn = true)
    (hone : profileOne p = true) :
    Ends (exec (.splSyncSet via p) s) (.ring 44) .done (fun u => u.rd (Reg.SPL_SYNC (p.u8 16 % 16)) = p.u32 20 ∧
      Keeps [.regs] (s1.beginJob true (.ring 44) j) u ∧
      RegsKeep [(Reg.SPL_SYNC (p.u8 16 % 16)).addr] (s1.beginJob true (.ring 44) j) u) := by
  refine ⟨(s1.beginJob true (.ring 44) j).wr (Reg.SPL_SYNC (p.u8 16 % 16)) (p.u32 20),
    congrArg Host.Outcome.next (splRow_ends h hop hon (if_pos hone) rfl), ?_, keeps_wr _ _ _, regsKeep_wr _ _ _⟩
  rw [rd_wr_splSync]
  exact Nat.mod_eq_of_lt (bits_lt _ _ _)

/-- The check of SPL_WAIT: its profile, and no time limit in the basic form. -/
theorem splWait_inRange (hone : profileOne p = true) (hlimit : p.expert = true ∨ p.u16 24 = 0) :
    (if profileOne p && (p.expert || p.u16 24 == 0) then none else some Ans.param) = none := by
  rcases hlimit with hexpert | hzero
  · simp [hone, hexpert]
  · simp [hone, hzero]

theorem splWait_passes (h : UnitStarts s via 44 p j s1) (hop : p.base = 0x0241) (hon : s1.splintOn = true)
    (hone : profileOne p = true) (hlimit : p.expert = true ∨ p.u16 24 = 0)
    (hthr : p.u32 20 ≤ s1.rd (Reg.SPL_SYNC (p.u8 16 % 16))) :
    Ends (exec (.splWait via p) s) (.ring 44) .done (fun u =>
      u.rd (Reg.SPL_SYNC (p.u8 16 % 16)) =
        (s1.rd (Reg.SPL_SYNC (p.u8 16 % 16)) - (if bit (p.u8 17) 0 then p.u32 20 else 0)) % 2 ^ 32 ∧
      Keeps [.regs] (s1.beginJob true (.ring 44) j) u ∧
      RegsKeep [(Reg.SPL_SYNC (p.u8 16 % 16)).addr] (s1.beginJob true (.ring 44) j) u) := by
  refine ⟨(s1.beginJob true (.ring 44) j).wr (Reg.SPL_SYNC (p.u8 16 % 16))
      (s1.rd (Reg.SPL_SYNC (p.u8 16 % 16)) - (if bit (p.u8 17) 0 then p.u32 20 else 0)),
    congrArg Host.Outcome.next (splRow_ends h hop hon (splWait_inRange hone hlimit) ?_), rd_wr_splSync _ _ _, keeps_wr _ _ _,
    regsKeep_wr _ _ _⟩
  simp only [splWaitOf, rd_splSync_beginJob, hthr, if_true]

theorem splWait_waits (h : UnitStarts s via 44 p j s1) (hop : p.base = 0x0241) (hon : s1.splintOn = true)
    (hone : profileOne p = true) (hlimit : p.expert = true ∨ p.u16 24 = 0)
    (hthr : s1.rd (Reg.SPL_SYNC (p.u8 16 % 16)) < p.u32 20) :
    exec (.splWait via p) s = .next (s1.beginJob true (.ring 44) j) := by
  refine congrArg Host.Outcome.next (splRow_goesOn h hop hon (splWait_inRange hone hlimit) ?_)
  simp only [splWaitOf, rd_splSync_beginJob, Nat.not_le.mpr hthr, if_false]

theorem splWaitPass_passes (hw : s.splWaiting = some p) (hthr : (splWaitOf p).2.1 ≤ s.rd (Reg.SPL_SYNC (splWaitOf p).1)) :
    Ends (exec (.tileWaitPass 44) s) (.ring 44) .done (fun u => Keeps [.regs] s u ∧
      RegsKeep [(Reg.SPL_SYNC (splWaitOf p).1).addr] s u) := by
  refine ⟨s.wr (Reg.SPL_SYNC (splWaitOf p).1) (s.rd (Reg.SPL_SYNC (splWaitOf p).1) - (splWaitOf p).2.2),
    congrArg Host.Outcome.next ((if_pos (show 44 = splRing from rfl)).trans ?_), keeps_wr _ _ _, regsKeep_wr _ _ _⟩
  simp only [splWaitPass, hw, hthr, if_true, finish, splRing]

theorem splWaitTimeout_halts (hw : s.splWaiting = some p) (hthr : s.rd (Reg.SPL_SYNC (splWaitOf p).1) < (splWaitOf p).2.1)
    (hlimit : p.u16 24 ≠ 0) :
    exec (.tileWaitTimeout 44) s =
      .next (s.splHalt ⟨Sts.timeout, 2, 0, s.rd (Reg.SPL_SYNC (splWaitOf p).1), false⟩) := by
  refine congrArg Host.Outcome.next ((if_pos (show 44 = splRing from rfl)).trans ?_)
  simp [splWaitTimeout, hw, hthr, hlimit]

/-! ## Convolutions (05 R173, R186 to R191) -/

/-- R173: the size of the filter is the first check of SPL_CONV. -/
theorem splCheck_largeFilter {x : ConvOp} (h : 11 < x.fh ∨ 11 < x.fw) : x.splCheck = some (.err Sts.filterTooLarge) := by
  have hlarge : (decide (11 < x.fh) || decide (11 < x.fw)) = true := by simpa using h
  simp only [ConvOp.splCheck, firstFail, hlarge, if_true]

theorem splConv_runs {x : ConvOp} {far : List Host.Cell} {ue : Option Nat} (h : UnitStarts s via 44 p j s1)
    (hop : p.base = 0x0240) (hon : s1.splintOn = true) (hx : splOf p = some x) (hcheck : x.splCheck = none) :
    Goes (exec (.splConv via p far ue) s) (fun u =>
      let r := (s1.beginJob true (.ring 44) j).splConv x (!p.expert) far ue
      (∀ a, r.2 = some a → u = r.1.finish (.ring 44) a) ∧ (r.2 = none → u = r.1)) := by
  rcases hr : (s1.beginJob true (.ring 44) j).splConv x (!p.expert) far ue with ⟨u, _ | a⟩
  · refine ⟨u, congrArg Host.Outcome.next (splRow_goesOn h hop hon ?_ ?_), by simp, fun _ => rfl⟩
    · simp only [hx, hcheck]
    · simp only [hx, hr]
  · refine ⟨u.finish (.ring 44) a, congrArg Host.Outcome.next (splRow_ends h hop hon ?_ ?_), by simp, by simp⟩
    · simp only [hx, hcheck]
    · simp only [hx, hr]

theorem splConv_largeFilter {x : ConvOp} {far : List Host.Cell} {ue : Option Nat} (h : UnitStarts s via 44 p j s1)
    (hop : p.base = 0x0240) (hon : s1.splintOn = true) (hx : splOf p = some x) (hlarge : 11 < x.fh ∨ 11 < x.fw) :
    exec (.splConv via p far ue) s = .next (s1.finish (.ring 44) (.err Sts.filterTooLarge)) := by
  refine congrArg Host.Outcome.next (splRow_fails h hop hon ?_)
  simp only [hx, splCheck_largeFilter hlarge]

end

end Sys2Proof.Machine.State

namespace Sys2Proof

open Machine Machine.State

/-- Settles O20: a Splint row that may begin goes on as its action says, in whose state the engine's counters read as before. -/
theorem splintCommandsRun : Obligations.SplintCommandsRun := by
  unfold Obligations.SplintCommandsRun
  refine ⟨⟨?_, ?_, ?_, ?_⟩, ?_, ?_⟩
  · exact fun s via p j s1 h hop hon hone => splSyncSet_sets h hop hon hone
  · exact fun s via p j s1 h hop hon hone hlimit => ⟨splWait_passes h hop hon hone hlimit, splWait_waits h hop hon hone hlimit⟩
  · exact fun s p hw hthr => splWaitPass_passes hw hthr
  · exact fun s p hw hthr hlimit => splWaitTimeout_halts hw hthr hlimit
  · exact fun s via p j s1 x far ue h hop hon hx hcheck => splConv_runs h hop hon hx hcheck
  · exact fun s via p j s1 x far ue h hop hon hx hlarge => splConv_largeFilter h hop hon hx hlarge

end Sys2Proof
end

section
/-! Memory integrity, part one (O21): counters of the groups, patrol, page retirement, write-backs and temperature readouts. -/

namespace Sys2Proof.Safety

open Sys2Proof.Machine

/-! ## Memory and its integrity state replaced -/

theorem keeps_withEcc (s : State) (x : Ecc) : Keeps [.ecc] s { s with ecc := x } := by
  intro p hp
  cases p
  case ecc => simp at hp
  all_goals rfl

theorem keeps_memWrite (s : State) (k : Nat) (bs : List Byte) : Keeps [.mem] s (s.memWrite k bs) := by
  intro p hp
  cases p
  case mem => simp at hp
  all_goals rfl

/-! ## Counter groups (20 R641 to R647) -/

/-- The parts of the state that counting an event may change, the record and the message of a wrap included. -/
def countParts : List Part := [.regs, .dbg, .log, .out, .hif]

/-- The registers that counting an event of a group may change. -/
def countAddrs (g : Nat) : List Nat :=
  [(Reg.PMU_OVF g).addr, Reg.PMU_OVF_LOST.addr, Reg.RAS_LOG_SEQ.addr] ++ (List.range 8).map (fun c => (Reg.PMU_CNT g c).addr)

theorem pmuRecord_frame (s : State) (who what : Nat) :
    Keeps countParts s (s.pmuRecord who what) ∧ RegsKeep [Reg.PMU_OVF_LOST.addr, Reg.RAS_LOG_SEQ.addr] s (s.pmuRecord who what) := by
  have hlogged : ∀ (x : Dbg) (island data : Nat),
      Keeps countParts s (({ s with dbg := x } : State).trouble 0x0D01 1 island 0 data) ∧
        RegsKeep [Reg.PMU_OVF_LOST.addr, Reg.RAS_LOG_SEQ.addr] s (({ s with dbg := x } : State).trouble 0x0D01 1 island 0 data) :=
    fun x island data =>
      ⟨((keeps_withDbg s x).mono (by simp [countParts])).trans ((keeps_trouble _ _ _ _ _ _).mono (by simp [countParts])),
        (regsKeep_trouble { s with dbg := x } _ _ _ _ _).mono (by simp)⟩
  simp only [State.pmuRecord]
  split_ifs
  · exact ⟨(keeps_wr s _ _).mono (by simp [countParts]), (regsKeep_wr s _ _).mono (by simp)⟩
  · exact hlogged _ _ _
  · exact hlogged _ _ _

theorem pmuWrap_frame (s : State) (g c : Nat) :
    Keeps countParts s (s.pmuWrap g c) ∧ RegsKeep (countAddrs g) s (s.pmuWrap g c) := by
  have hflag : Keeps countParts s (s.orReg (Reg.PMU_OVF g) (2 ^ c)) ∧ RegsKeep (countAddrs g) s (s.orReg (Reg.PMU_OVF g) (2 ^ c)) :=
    ⟨(keeps_wr s _ _).mono (by simp [countParts]), (regsKeep_wr s _ _).mono (by simp [countAddrs])⟩
  simp only [State.pmuWrap]
  split
  · obtain ⟨hparts, hregs⟩ := pmuRecord_frame (s.orReg (Reg.PMU_OVF g) (2 ^ c)) g c
    exact ⟨hflag.1.trans hparts, hflag.2.trans (hregs.mono (by simp [countAddrs]))⟩
  · exact hflag

/-- An event of a counter group writes the group's counters, and what a wrap shows. -/
theorem pmuEvent_frame (s : State) (g ev n : Nat) (o : Option Origin) :
    Keeps countParts s (s.pmuEvent g ev n o) ∧ RegsKeep (countAddrs g) s (s.pmuEvent g ev n o) := by
  have hcount : ∀ (u : State) (c v : Nat), c ∈ List.range 8 →
      Keeps countParts u (u.wr (Reg.PMU_CNT g c) v) ∧ RegsKeep (countAddrs g) u (u.wr (Reg.PMU_CNT g c) v) := fun u c v hc =>
    ⟨(keeps_wr u _ _).mono (by simp [countParts]), (regsKeep_wr u _ _).mono
      (List.cons_subset.mpr ⟨List.mem_append_right _ (List.mem_map_of_mem (f := fun c => (Reg.PMU_CNT g c).addr) hc),
        List.nil_subset _⟩)⟩
  simp only [State.pmuEvent]
  split
  · exact ⟨Keeps.refl _ s, RegsKeep.of_regs_eq rfl⟩
  · constructor
    · refine Keeps.foldl s (fun u c hc => ?_)
      split_ifs
      · exact (hcount u c _ hc).1.trans (pmuWrap_frame _ g c).1
      · exact (hcount u c _ hc).1
      · exact Keeps.refl _ u
    · refine RegsKeep.foldl s (fun u c hc => ?_)
      split_ifs
      · exact (hcount u c _ hc).2.trans (pmuWrap_frame _ g c).2
      · exact (hcount u c _ hc).2
      · exact RegsKeep.of_regs_eq rfl

/-- The registers of a stack lie above every counter of a group. -/
theorem not_mem_countAddrs {g a : Nat} (hg : g < 53) (ha : 0x2100000 ≤ a) : a ∉ countAddrs g := by
  simp only [countAddrs, Reg.PMU_OVF, Reg.PMU_OVF_LOST, Reg.RAS_LOG_SEQ, Reg.PMU_CNT, List.cons_append, List.nil_append, List.mem_cons,
    List.mem_map, List.mem_range, not_or, not_exists, not_and]
  exact ⟨by omega, by omega, by omega, fun c hc => by omega⟩

/-- A corrected error that is counted changes neither memory nor its integrity state. -/
theorem keeps_countCe (s : State) (key : Nat) : Keeps countParts s (s.countCe key) := by
  have htwo : ∀ (g ev : Nat) (q r : Reg) (v w : Nat), Keeps countParts s (((s.pmuEvent g ev 1 none).wr q v).wr r w) :=
    fun g ev q r v w => (pmuEvent_frame s g ev 1 none).1.trans
      (((keeps_wr _ q v).trans (keeps_wr _ r w)).mono (by simp [countParts]))
  unfold State.countCe
  split
  · exact htwo _ _ _ _ _ _
  · exact keeps_tileEvent s _ _ _
  · exact htwo _ _ _ _ _ _

/-! ## Runs over a list -/

/-- A run establishes what one of its steps sets, from states that every step keeps, and the others leave alone. -/
theorem foldl_sets {α : Type} {f : State → α → State} {P Q : State → Prop} {a : α} (hP : ∀ u b, P u → P (f u b))
    (hset : ∀ u, P u → Q (f u a)) (hkeep : ∀ u b, b ≠ a → Q u → Q (f u b)) {l : List α} (ha : a ∈ l) {s : State} (hs : P s) :
    Q (l.foldl f s) := by
  induction l generalizing s with
  | nil => simp at ha
  | cons b l ih =>
    by_cases hal : a ∈ l
    · exact ih hal (hP s b hs)
    · obtain rfl : a = b := by simpa [hal] using ha
      exact List.foldlRecOn l f (hset s hs) (fun u hu b hb => hkeep u b (fun h => hal (h ▸ hb)) hu)

end Sys2Proof.Safety

namespace Sys2Proof.Machine.State

open Sys2Proof.Safety

/-! ## Keys and units (06 R199, R209) -/

theorem spaceOf_hbmKey {k off : Nat} (hk : k < 8) (hoff : off < 2 ^ 36) : spaceOf (hbmKey k off) = 0 := by
  simp only [spaceOf, bits, hbmKey]
  omega

theorem stack_hbmKey {k off : Nat} (hk : k < 8) (hoff : off < 2 ^ 36) : offOf (hbmKey k off) / 2 ^ 36 = k := by
  simp only [offOf, bits, hbmKey]
  omega

theorem spaceOf_protKey (key : Nat) : spaceOf (protKey key) = spaceOf key := by
  unfold protKey
  split <;> (simp only [spaceOf, bits]; omega)

/-- The first word of a line of SRAM is the line's key. -/
theorem word_protKey {key : Nat} (hsram : spaceOf key ≠ 0) : protKey key / 8 * 8 = protKey key := by
  simp only [protKey, if_neg hsram]
  omega

/-- Whether a stack is there and clocked rests on three registers and the fuses. -/
theorem stackOn_congr {s u : State} (hcap : u.rd Reg.CAP_UNITS = s.rd Reg.CAP_UNITS) (h0 : u.rd Reg.CLK_EN0 = s.rd Reg.CLK_EN0)
    (h1 : u.rd Reg.CLK_EN1 = s.rd Reg.CLK_EN1) (hfuse : u.fuse = s.fuse) (k : Nat) : u.stackOn k = s.stackOn k := by
  have hmask : u.stackMask = s.stackMask := congrArg (fun f : Fuse => if f.video then 0xFF else 0x77) hfuse
  have hfd : ∀ f : Fld, f.reg = Reg.CAP_UNITS → u.fd f = s.fd f := fun f hf => by rw [fd, fd, hf, hcap]
  have hok : u.stackOk k = s.stackOk k := by
    rw [stackOk, fb, hmask, hfd Fld.CAP_UNITS_CAP_VALID rfl, hfd Fld.CAP_UNITS_HBM_STACKS rfl]
    rfl
  simp only [stackOn, hok, islandOn_congr h0 h1]

/-! ## Patrol (06 R214, R219, R221) -/

/-- A clean read counts at most an event of the unit's group. -/
theorem patrolRead_clean_frame (s : State) (key : Nat) :
    Keeps countParts s (s.patrolRead key .clean) ∧ RegsKeep (countAddrs (keyGroup key)) s (s.patrolRead key .clean) := by
  simp only [patrolRead]
  split
  · exact ⟨Keeps.refl _ s, RegsKeep.of_regs_eq rfl⟩
  · split
    · exact pmuEvent_frame s _ _ _ _
    · exact ⟨Keeps.refl _ s, RegsKeep.of_regs_eq rfl⟩

theorem patrolRead_clean_sram (s : State) {key : Nat} (hsram : spaceOf key ≠ 0) : s.patrolRead key .clean = s := by
  simp only [patrolRead, if_neg hsram, ite_self]

/-- A corrected error of patrol below the fourth of its word is counted there. -/
theorem patrolRead_ce_sram {s : State} {key : Nat} (hsram : spaceOf key ≠ 0) (hthere : s.patrolled key = true)
    (hvisit : s.patrolSkips key = false) (hfew : Cells.get 0 (protKey key) s.ecc.words < 3) :
    s.patrolRead key .ce = { s.countCe (protKey key) with
      ecc := { s.ecc with words := Cells.set 0 (protKey key) (Cells.get 0 (protKey key) s.ecc.words + 1) s.ecc.words } } := by
  have hecc : (s.countCe (protKey key)).ecc = s.ecc := keeps_countCe s _ .ecc (by decide)
  have hfourth : ¬ 4 ≤ Cells.get 0 (protKey key) s.ecc.words + 1 := by omega
  simp [patrolRead, hthere, hvisit, hsram, onCe, spaceOf_protKey, trackWord, word_protKey hsram, hecc, hfourth]

/-- Patrol at an offset of a stack: the stack shown as patrolled, and its position there. -/
def patrolMoved (s : State) (k off : Nat) : State :=
  (s.fbw (Fld.HBM_STATUS_PATROL_ACTIVE k) true).fw (Fld.HBM_PATROL_POS_PAGE k) (off / 65536)

theorem keeps_patrolMoved (s : State) (k off : Nat) : Keeps [.regs] s (s.patrolMoved k off) :=
  (keeps_fw s (Fld.HBM_STATUS_PATROL_ACTIVE k) (b2n true)).trans (keeps_fw _ _ _)

theorem patrolMoved_shows (s : State) {k off : Nat} (hoff : off < 2 ^ 36) :
    (s.patrolMoved k off).fd (Fld.HBM_PATROL_POS_PAGE k) = off / 65536 ∧
      (s.patrolMoved k off).fd (Fld.HBM_STATUS_PATROL_ACTIVE k) = 1 := by
  constructor
  · rw [patrolMoved, fd_fw_self _ (Fld.HBM_PATROL_POS_PAGE k) _ (show 0 + 20 ≤ 32 by decide) (show 32 ≤ 64 by decide)]
    exact Nat.mod_eq_of_lt (show off / 65536 < 2 ^ 20 by omega)
  · rw [patrolMoved, fd_fw_ne _ _ _ _
      (by simp only [Fld.HBM_STATUS_PATROL_ACTIVE, Fld.HBM_PATROL_POS_PAGE, Reg.HBM_STATUS, Reg.HBM_PATROL_POS]; omega)]
    exact fd_fw_self s (Fld.HBM_STATUS_PATROL_ACTIVE k) (b2n true) (show 31 + 1 ≤ 32 by decide) (show 32 ≤ 64 by decide)

theorem exec_patrolScrubRead {s : State} {k off : Nat} (hk : k < 8) (hoff : off < stackEnd) (hon : s.stackOn k = true)
    (seen : Seen) : exec (.patrolScrubRead k off seen) s = .next ((s.patrolMoved k off).patrolRead (hbmKey k off) seen) := by
  have hrow : (decide (8 ≤ k) || decide (stackEnd ≤ off) || !s.stackOn k) = false := by simp [hk, hoff, hon]
  exact congrArg Host.Outcome.next (if_neg (Bool.eq_false_iff.mp hrow))

theorem patrolScrubRead_moves {s : State} {k off : Nat} (hk : k < 8) (hoff : off < stackEnd) (hon : s.stackOn k = true) :
    Goes (exec (.patrolScrubRead k off .clean) s) (fun u => u.mem = s.mem ∧ u.ecc = s.ecc ∧
      u.fd (Fld.HBM_PATROL_POS_PAGE k) = off / 65536 ∧ u.fd (Fld.HBM_STATUS_PATROL_ACTIVE k) = 1) := by
  have hlast : off < 2 ^ 36 := by
    simp only [stackEnd] at hoff
    omega
  obtain ⟨hpage, hactive⟩ := patrolMoved_shows s (k := k) hlast
  obtain ⟨hparts, hregs⟩ := patrolRead_clean_frame (s.patrolMoved k off) (hbmKey k off)
  rw [keyGroup, if_pos (spaceOf_hbmKey hk hlast), stack_hbmKey hk hlast] at hregs
  have hkept : Keeps countParts s ((s.patrolMoved k off).patrolRead (hbmKey k off) .clean) :=
    ((keeps_patrolMoved s k off).mono (by simp [countParts])).trans hparts
  refine ⟨_, exec_patrolScrubRead hk hoff hon .clean, hkept .mem (by decide), hkept .ecc (by decide), ?_, ?_⟩
  · refine (hregs.fd (not_mem_countAddrs (by omega) ?_)).trans hpage
    simp only [Fld.HBM_PATROL_POS_PAGE, Reg.HBM_PATROL_POS]
    omega
  · refine (hregs.fd (not_mem_countAddrs (by omega) ?_)).trans hactive
    simp only [Fld.HBM_STATUS_PATROL_ACTIVE, Reg.HBM_STATUS]
    omega

theorem sramPatrolRead_clean (s : State) {key : Nat} (hsram : spaceOf key ≠ 0) : exec (.sramPatrolRead key .clean) s = .next s :=
  congrArg Host.Outcome.next ((if_neg hsram).trans (patrolRead_clean_sram s hsram))

theorem sramPatrolRead_counts {s : State} {key : Nat} (hsram : spaceOf key ≠ 0) (hthere : s.patrolled key = true)
    (hvisit : s.patrolSkips key = false) (hfew : Cells.get 0 (protKey key) s.ecc.words < 3) :
    Goes (exec (.sramPatrolRead key .ce) s) (fun u => u.mem = s.mem ∧
      u.ecc = { s.ecc with words := Cells.set 0 (protKey key) (Cells.get 0 (protKey key) s.ecc.words + 1) s.ecc.words }) :=
  ⟨_, congrArg Host.Outcome.next ((if_neg hsram).trans (patrolRead_ce_sram hsram hthere hvisit hfew)),
    keeps_countCe s _ .mem (by decide), rfl⟩

/-- The pages of a stack tracked no more. -/
def pagesForgotten (s : State) (st : Nat) : State :=
  { s with ecc := { s.ecc with pages := s.ecc.pages.filter (fun e => offOf e.1 / 2 ^ 36 != st) } }

theorem mem_pagesForgotten {s : State} {st : Nat} {e : Nat × Nat} :
    e ∈ (s.pagesForgotten st).ecc.pages ↔ e ∈ s.ecc.pages ∧ offOf e.1 / 2 ^ 36 ≠ st := by
  rw [pagesForgotten, List.mem_filter, bne_iff_ne]

theorem fd_pagesForgotten (s : State) (st : Nat) (f : Fld) : (s.pagesForgotten st).fd f = s.fd f := rfl

theorem pagesForgotten_frame (s : State) (st : Nat) :
    Keeps [.ecc] s (s.pagesForgotten st) ∧ ∀ as, RegsKeep as s (s.pagesForgotten st) :=
  ⟨keeps_withEcc s _, fun _ => RegsKeep.of_regs_eq rfl⟩

/-- A pass of a stack counted, its position back at the first page. -/
def passCounted (s : State) (st : Nat) : State :=
  (s.fw (Fld.HBM_PATROL_POS_PASSES st) ((s.fd (Fld.HBM_PATROL_POS_PASSES st) + 1) % 4096)).fw (Fld.HBM_PATROL_POS_PAGE st) 0

theorem passCounted_shows (s : State) (st : Nat) :
    (s.passCounted st).fd (Fld.HBM_PATROL_POS_PASSES st) = (s.fd (Fld.HBM_PATROL_POS_PASSES st) + 1) % 4096 ∧
      (s.passCounted st).fd (Fld.HBM_PATROL_POS_PAGE st) = 0 := by
  constructor
  · refine (fd_fw_apart _ (Fld.HBM_PATROL_POS_PAGE st) (Fld.HBM_PATROL_POS_PASSES st) 0 rfl (.inr (show 0 + 20 ≤ 20 by decide))
      (show 20 + 12 ≤ 32 by decide) (show 32 ≤ 64 by decide)).trans ?_
    rw [fd_fw_self s (Fld.HBM_PATROL_POS_PASSES st) _ (show 20 + 12 ≤ 32 by decide) (show 32 ≤ 64 by decide)]
    exact Nat.mod_mod _ 4096
  · exact fd_fw_self _ (Fld.HBM_PATROL_POS_PAGE st) 0 (show 0 + 20 ≤ 32 by decide) (show 32 ≤ 64 by decide)

theorem passCounted_frame (s : State) (st : Nat) :
    Keeps [.regs] s (s.passCounted st) ∧ RegsKeep [(Reg.HBM_PATROL_POS st).addr] s (s.passCounted st) :=
  ⟨(keeps_fw s _ _).trans (keeps_fw _ _ _),
    (regsKeep_fw s (Fld.HBM_PATROL_POS_PASSES st) _).trans (regsKeep_fw _ (Fld.HBM_PATROL_POS_PAGE st) _)⟩

theorem exec_patrolPassComplete_stack {s : State} {key : Nat} (hhbm : spaceOf key = 0)
    (hon : s.stackOn (offOf key / 2 ^ 36) = true) :
    exec (.patrolPassComplete key) s = .next ((s.pagesForgotten (offOf key / 2 ^ 36)).passCounted (offOf key / 2 ^ 36)) := by
  change execPatrolPassComplete key s = _
  simp only [execPatrolPassComplete, if_pos hhbm, if_pos hon]
  rfl

theorem patrolPassComplete_stack {s : State} {key : Nat} (hhbm : spaceOf key = 0) (hon : s.stackOn (offOf key / 2 ^ 36) = true) :
    let st := offOf key / 2 ^ 36
    Goes (exec (.patrolPassComplete key) s) (fun u => (∀ e ∈ u.ecc.pages, offOf e.1 / 2 ^ 36 ≠ st) ∧
      (∀ e ∈ s.ecc.pages, offOf e.1 / 2 ^ 36 ≠ st → e ∈ u.ecc.pages) ∧
      u.fd (Fld.HBM_PATROL_POS_PASSES st) = (s.fd (Fld.HBM_PATROL_POS_PASSES st) + 1) % 4096 ∧
      u.fd (Fld.HBM_PATROL_POS_PAGE st) = 0 ∧ Keeps [.regs, .ecc] s u ∧ RegsKeep [(Reg.HBM_PATROL_POS st).addr] s u) := by
  intro st
  obtain ⟨hpasses, hpage⟩ := passCounted_shows (s.pagesForgotten st) st
  obtain ⟨hforget, hforgetRegs⟩ := pagesForgotten_frame s st
  obtain ⟨hcount, hcountRegs⟩ := passCounted_frame (s.pagesForgotten st) st
  rw [fd_pagesForgotten] at hpasses
  have hpages : ∀ e, e ∈ ((s.pagesForgotten st).passCounted st).ecc.pages ↔
      e ∈ s.ecc.pages ∧ offOf e.1 / 2 ^ 36 ≠ st := fun e => by
    rw [hcount .ecc (by simp), mem_pagesForgotten]
  exact ⟨(s.pagesForgotten st).passCounted st, exec_patrolPassComplete_stack hhbm hon,
    fun e he => ((hpages e).mp he).2, fun e he hne => (hpages e).mpr ⟨he, hne⟩, hpasses, hpage,
    (hforget.mono (by simp)).trans (hcount.mono (by simp)), (hforgetRegs _).trans hcountRegs⟩

theorem patrolPassComplete_macro (s : State) {key : Nat} (hsram : spaceOf key ≠ 0) :
    Goes (exec (.patrolPassComplete key) s) (fun u => Keeps [.ecc] s u ∧
      u.ecc = { s.ecc with words := s.ecc.words.filter (fun e => e.1 / 65536 != key / 65536) }) :=
  ⟨_, congrArg Host.Outcome.next (if_neg hsram), keeps_withEcc s _, rfl⟩

/-! ## Write-backs (06 R209) -/

theorem length_readCorrected (s : State) (key n : Nat) : (s.readCorrected key n).length = n := by
  rw [readCorrected, List.length_map, List.length_range]

/-- A corrected word written back: its corrected bytes stored, its mark gone. -/
def writtenBack (s : State) (m : Mark) : State :=
  { s.memWrite m.key (s.readCorrected m.key 8) with ecc := { s.ecc with marks := s.ecc.marks.filter (fun x => x.key != m.key) } }

section
variable {s : State} {key : Nat}

theorem sramWriteback_stores {m : Mark}
    (hfind : s.ecc.marks.find? (fun m => m.key == key / 8 * 8 && spaceOf m.key != 0 && m.outcome == 1) = some m) :
    Goes (exec (.sramWriteback key) s) (fun u => u.memRead m.key 8 = s.readCorrected m.key 8 ∧ BytesKeep m.key 8 s u ∧
      (∀ x ∈ u.ecc.marks, x.key ≠ m.key) ∧ Keeps [.mem, .ecc] s u) := by
  have hlen := length_readCorrected s m.key 8
  have hread := memRead_memWrite s m.key (s.readCorrected m.key 8)
  rw [hlen] at hread
  have hrow : execSramWriteback key s = .next (s.writtenBack m) := by
    rw [execSramWriteback, hfind]
    rfl
  refine ⟨s.writtenBack m, hrow, hread, fun a ha => byte_memWrite_outside s m.key a _ (by rwa [hlen]), fun x hx => ?_, ?_⟩
  · exact bne_iff_ne.mp (List.mem_filter.mp hx).2
  · exact ((keeps_memWrite s _ _).mono (by simp)).trans ((keeps_withEcc _ _).mono (by simp))

theorem sramWriteback_none
    (hfind : s.ecc.marks.find? (fun m => m.key == key / 8 * 8 && spaceOf m.key != 0 && m.outcome == 1) = none) :
    exec (.sramWriteback key) s = .next s := by
  change execSramWriteback key s = _
  rw [execSramWriteback, hfind]

end

/-! ## Page retirement (06 R222) -/

/-- Without test marks a page's copy delivers what its bytes hold. -/
theorem pageMarks_unmarked {s : State} (hmarks : s.ecc.marks = []) (page : Nat) : s.pageMarks page = s := by
  simp [pageMarks, marksIn, hmarks]

/-- A page's reads go to its skein page, and its copy is over. -/
def remapped (s : State) (r : Retire) : State :=
  { s with ecc := { s.ecc with
    retiring := s.ecc.retiring.filter (fun x => x.page != r.page), pageMap := (r.page, r.skein) :: s.ecc.pageMap } }

/-- A retired page counted and its stack shown, as copying still or no longer. -/
def remapShown (s : State) (st : Nat) : State :=
  (s.fw (Fld.HBM_REMAP_STATE_RETIRED st) (s.fd (Fld.HBM_REMAP_STATE_RETIRED st) + 1)).fbw (Fld.HBM_STATUS_RETIRE_ACTIVE st)
    (s.ecc.retiring.any (fun x => offOf x.page / 2 ^ 36 == st))

/-- The records of a retired page, in the trouble log and for the RAS store. -/
def remapRecorded (s : State) (r : Retire) : State :=
  let st := offOf r.page / 2 ^ 36
  (s.trouble 0x0C80 0 (stackIsland st) (ownAddr r.page) (5 * 2 ^ 60)).persist
    (5 * 2 ^ 52 + (offOf r.skein % 2 ^ 36 - 0x880000000) / 65536 * 2 ^ 38 + st * 2 ^ 31 +
      offOf r.page % 2 ^ 36 / 65536 * 2 ^ 11 + offOf r.skein / 2 ^ 36 * 2 ^ 8)

/-- The end of a page's copy, before the module's health is looked at and held accesses go on. -/
def pageRemapped (s : State) (r : Retire) : State := ((s.remapped r).remapShown (offOf r.page / 2 ^ 36)).remapRecorded r

theorem retireDone_unmarked {s : State} (hmarks : s.ecc.marks = []) (r : Retire) :
    s.retireDone r = (s.pageRemapped r).healthCheck.heldDeliver := by
  rw [retireDone, pageMarks_unmarked hmarks]
  rfl

theorem keeps_remapped (s : State) (r : Retire) : Keeps [.ecc] s (s.remapped r) := keeps_withEcc s _

theorem fd_remapped (s : State) (r : Retire) (f : Fld) : (s.remapped r).fd f = s.fd f := rfl

theorem keeps_remapShown (s : State) (st : Nat) : Keeps [.regs] s (s.remapShown st) :=
  (keeps_fw s _ _).trans (keeps_fw _ (Fld.HBM_STATUS_RETIRE_ACTIVE st) _)

theorem fd_retired_remapShown (s : State) (st : Nat) :
    (s.remapShown st).fd (Fld.HBM_REMAP_STATE_RETIRED st) = (s.fd (Fld.HBM_REMAP_STATE_RETIRED st) + 1) % 2 ^ 16 := by
  refine (fd_fw_ne _ _ _ _ ?_).trans
    (fd_fw_self s (Fld.HBM_REMAP_STATE_RETIRED st) _ (show 0 + 16 ≤ 32 by decide) (show 32 ≤ 64 by decide))
  simp only [Fld.HBM_REMAP_STATE_RETIRED, Fld.HBM_STATUS_RETIRE_ACTIVE, Reg.HBM_REMAP_STATE, Reg.HBM_STATUS]
  omega

theorem persist_frame (s : State) (body : Nat) : Keeps [.ras] s (s.persist body) ∧ ∀ as, RegsKeep as s (s.persist body) :=
  ⟨keeps_withRas s _, fun _ => RegsKeep.of_regs_eq rfl⟩

theorem remapRecorded_frame (s : State) (r : Retire) :
    Keeps [.regs, .log, .out, .hif, .ras] s (s.remapRecorded r) ∧ RegsKeep [Reg.RAS_LOG_SEQ.addr] s (s.remapRecorded r) :=
  ⟨((keeps_trouble s _ _ _ _ _).mono (by simp)).trans ((persist_frame _ _).1.mono (by simp)),
    (regsKeep_trouble s _ _ _ _ _).trans ((persist_frame _ _).2 _)⟩

theorem pageRemapped_shows (s : State) (r : Retire) :
    (s.pageRemapped r).ecc = (s.remapped r).ecc ∧
      (s.pageRemapped r).fd (Fld.HBM_REMAP_STATE_RETIRED (offOf r.page / 2 ^ 36)) =
        (s.fd (Fld.HBM_REMAP_STATE_RETIRED (offOf r.page / 2 ^ 36)) + 1) % 2 ^ 16 ∧
      (s.pageRemapped r).mem = s.mem := by
  obtain ⟨hrecord, hregs⟩ := remapRecorded_frame ((s.remapped r).remapShown (offOf r.page / 2 ^ 36)) r
  have hkept : Keeps [.regs, .log, .out, .hif, .ras] (s.remapped r) (s.pageRemapped r) :=
    ((keeps_remapShown _ _).mono (by simp)).trans hrecord
  have hcounted := fd_retired_remapShown (s.remapped r) (offOf r.page / 2 ^ 36)
  rw [fd_remapped] at hcounted
  refine ⟨hkept .ecc (by simp), (hregs.fd ?_).trans hcounted, (hkept .mem (by simp)).trans (keeps_remapped s r .mem (by simp))⟩
  simp only [Fld.HBM_REMAP_STATE_RETIRED, Reg.HBM_REMAP_STATE, Reg.RAS_LOG_SEQ, List.mem_singleton]
  omega

section
variable {s : State} {page : Nat}

theorem pageRetireDone_remaps {r : Retire} (hfind : s.ecc.retiring.find? (fun r => r.page == page) = some r)
    (hmarks : s.ecc.marks = []) :
    let st := offOf page / 2 ^ 36
    GoesOn (exec (.pageRetireDone page) s) (fun w => w.healthCheck.heldDeliver) (fun w =>
      w.ecc = { s.ecc with retiring := s.ecc.retiring.filter (fun x => x.page != page)
                           pageMap := (page, r.skein) :: s.ecc.pageMap } ∧
      w.fd (Fld.HBM_REMAP_STATE_RETIRED st) = (s.fd (Fld.HBM_REMAP_STATE_RETIRED st) + 1) % 2 ^ (Fld.HBM_REMAP_STATE_RETIRED st).w ∧
      w.mem = s.mem) := by
  have hpage : r.page = page := by simpa using List.find?_some hfind
  have hrow : execPageRetireDone page s = .next (s.pageRemapped r).healthCheck.heldDeliver := by
    rw [execPageRetireDone, hfind, ← retireDone_unmarked hmarks]
  subst hpage
  exact ⟨s.pageRemapped r, hrow, pageRemapped_shows s r⟩

theorem pageRetireDone_none (hfind : s.ecc.retiring.find? (fun r => r.page == page) = none) :
    exec (.pageRetireDone page) s = .next s := by
  change execPageRetireDone page s = _
  rw [execPageRetireDone, hfind]

end

/-! ## Temperatures of the stacks (06 R206) -/

/-- One stack's part of a readout. -/
def stackTemp (temps : List Nat) (s : State) (k : Nat) : State :=
  match temps[k]? with
  | some t => if s.stackOn k then s.fw (Fld.HBM_STATUS_TEMP_C k) (min 255 t) else s
  | none => s

theorem exec_hbmTempReadout (temps : List Nat) (s : State) :
    exec (.hbmTempReadout temps) s = .next ((List.range 8).foldl (stackTemp temps) s) := rfl

theorem stackTemp_frame (temps : List Nat) (s : State) (k : Nat) :
    Keeps [.regs] s (stackTemp temps s k) ∧ RegsKeep [(Reg.HBM_STATUS k).addr] s (stackTemp temps s k) := by
  have hsame : Keeps [.regs] s s ∧ RegsKeep [(Reg.HBM_STATUS k).addr] s s := ⟨Keeps.refl _ s, RegsKeep.of_regs_eq rfl⟩
  simp only [stackTemp]
  split
  · split
    · exact ⟨keeps_fw s _ _, regsKeep_fw s (Fld.HBM_STATUS_TEMP_C k) _⟩
    · exact hsame
  · exact hsame

theorem stackOn_stackTemp (temps : List Nat) (s : State) (b k : Nat) : (stackTemp temps s b).stackOn k = s.stackOn k := by
  obtain ⟨hparts, hregs⟩ := stackTemp_frame temps s b
  have hlow : ∀ a, a < 0x2100000 → a ∉ [(Reg.HBM_STATUS b).addr] := fun a ha => by
    simp only [Reg.HBM_STATUS, List.mem_singleton]
    omega
  exact stackOn_congr (hregs.rd (hlow _ (by decide))) (hregs.rd (hlow _ (by decide))) (hregs.rd (hlow _ (by decide)))
    (hparts .fuse (by simp)) k

theorem rd_stackTemp_ne (temps : List Nat) (s : State) {b k : Nat} (h : b ≠ k) :
    (stackTemp temps s b).rd (Reg.HBM_STATUS k) = s.rd (Reg.HBM_STATUS k) :=
  (stackTemp_frame temps s b).2.rd (by
    simp only [Reg.HBM_STATUS, List.mem_singleton]
    omega)

theorem fd_stackTemp_self {temps : List Nat} {k t : Nat} (ht : temps[k]? = some t) {s : State} (hon : s.stackOn k = true) :
    (stackTemp temps s k).fd (Fld.HBM_STATUS_TEMP_C k) = min 255 t := by
  simp only [stackTemp, ht, hon, if_true]
  rw [fd_fw_self s (Fld.HBM_STATUS_TEMP_C k) _ (show 8 + 8 ≤ 32 by decide) (show 32 ≤ 64 by decide)]
  exact Nat.mod_eq_of_lt (show min 255 t < 256 by omega)

theorem stackTemp_none {temps : List Nat} {s : State} {k : Nat} (h : s.stackOn k = false ∨ temps[k]? = none) :
    stackTemp temps s k = s := by
  rcases h with hoff | hnone
  · simp only [stackTemp, hoff, Bool.false_eq_true, if_false]
    split <;> rfl
  · simp only [stackTemp, hnone]

theorem hbmTempReadout_shows (s : State) (temps : List Nat) :
    Goes (exec (.hbmTempReadout temps) s) (fun u => Keeps [.regs] s u ∧
      RegsKeep ((List.range 8).map (fun k => (Reg.HBM_STATUS k).addr)) s u ∧
      (∀ k, k < 8 → s.stackOn k = true → ∀ t, temps[k]? = some t → u.fd (Fld.HBM_STATUS_TEMP_C k) = min 255 t) ∧
      (∀ k, k < 8 → s.stackOn k = false ∨ temps[k]? = none → u.rd (Reg.HBM_STATUS k) = s.rd (Reg.HBM_STATUS k))) := by
  refine ⟨_, exec_hbmTempReadout temps s, ?_, ?_, fun k hk hon t ht => ?_, fun k hk hrest => ?_⟩
  · exact Keeps.foldl s (fun u k _ => (stackTemp_frame temps u k).1)
  · exact RegsKeep.foldl s (fun u k hk => (stackTemp_frame temps u k).2.mono
      (List.cons_subset.mpr ⟨List.mem_map_of_mem (f := fun k => (Reg.HBM_STATUS k).addr) hk, List.nil_subset _⟩))
  · exact foldl_sets (P := fun u => u.stackOn k = true) (Q := fun u => u.fd (Fld.HBM_STATUS_TEMP_C k) = min 255 t)
      (fun u b hu => (stackOn_stackTemp temps u b k).trans hu) (fun u hu => fd_stackTemp_self ht hu)
      (fun u b hb hu => (congrArg (bits · 8 8) (rd_stackTemp_ne temps u hb)).trans hu) (List.mem_range.mpr hk) hon
  · refine (List.foldlRecOn (motive := fun u => u.stackOn k = s.stackOn k ∧ u.rd (Reg.HBM_STATUS k) = s.rd (Reg.HBM_STATUS k))
      _ _ ⟨rfl, rfl⟩ (fun u hu b _ => ⟨(stackOn_stackTemp temps u b k).trans hu.1, ?_⟩)).2
    by_cases hbk : b = k
    · subst hbk
      rw [stackTemp_none (hu.1 ▸ hrest)]
      exact hu.2
    · exact (rd_stackTemp_ne temps u hbk).trans hu.2

end Sys2Proof.Machine.State

namespace Sys2Proof

open Machine Machine.State

/-- Settles O21, rule by rule: counting, which every patrol read may do, changes neither memory nor its integrity state nor a register
of a stack. -/
theorem memoryIsPatrolledAndRetired : Obligations.MemoryIsPatrolledAndRetired := by
  unfold Obligations.MemoryIsPatrolledAndRetired
  refine ⟨⟨?_, ?_, ?_, ?_, ?_⟩, ⟨?_, ?_, ?_, ?_⟩, ?_⟩
  · exact fun s k off hk hoff hon => patrolScrubRead_moves hk hoff hon
  · exact fun s key hsram => sramPatrolRead_clean s hsram
  · exact fun s key hsram hthere hvisit hfew => sramPatrolRead_counts hsram hthere hvisit hfew
  · exact fun s key hhbm hon => patrolPassComplete_stack hhbm hon
  · exact fun s key hsram => patrolPassComplete_macro s hsram
  · exact fun s key m hfind => sramWriteback_stores hfind
  · exact fun s key hfind => sramWriteback_none hfind
  · exact fun s page r hfind hmarks => pageRetireDone_remaps hfind hmarks
  · exact fun s page hfind => pageRetireDone_none hfind
  · exact hbmTempReadout_shows

end Sys2Proof
end

section
/-! Memory integrity, part two (O22): MEM_SCRUB, its end, and the raw accesses of MEM_ECC_TEST. -/

namespace Sys2Proof.Machine

/-- Bit 8 of a scrub's selection hides no stack's bit. -/
theorem bit_add_sram {x k : Nat} (hx : x < 2 ^ 8) (hk : k < 8) (b : Bool) : bit (x + b2n b * 256) k = bit x k := by
  rw [bit_eq_testBit, bit_eq_testBit, Nat.add_comm, Nat.mul_comm, show 256 = 2 ^ 8 from rfl, Nat.testBit_two_pow_mul_add _ hx,
    if_pos hk]

end Sys2Proof.Machine

namespace Sys2Proof.Machine.State

open Sys2Proof.Safety

section
variable {s s1 : State} {via : Via} {p : Packet} {j : Job}

/-- A command that begins on either path: its mark, and the record of a late start. -/
theorem keeps_beginJob (s : State) (timed : Bool) (via : Via) (j : Job) :
    Keeps [.eng, .mcc, .regs, .log, .out, .hif] s (s.beginJob timed via j) := by
  have hmark : Keeps [.eng, .mcc, .regs, .log, .out, .hif] s (s.setJob via { j with begun := true }) := by
    cases via with
    | mcc => exact (keeps_withMcc s _).mono (by simp)
    | ring n => exact (keeps_setEng s n _).mono (by simp)
  simp only [beginJob]
  split
  · exact hmark.trans ((keeps_trouble _ _ _ _ _ _).mono (by simp))
  · exact hmark

/-! ## MEM_SCRUB (06 R228) -/

theorem keeps_scrubShow (s : State) (sel : Nat) (b : Bool) : Keeps [.regs] s (s.scrubShow sel b) := by
  refine Keeps.foldl s (fun u k _ => ?_)
  split
  · exact keeps_fw u _ _
  · exact Keeps.refl _ u

theorem fd_scrubShow {sel k : Nat} (hk : k < 8) (hsel : bit sel k = true) (s : State) (b : Bool) :
    (s.scrubShow sel b).fd (Fld.HBM_STATUS_SCRUB_ACTIVE k) = b2n b := by
  refine foldl_sets (P := fun _ => True) (Q := fun u => u.fd (Fld.HBM_STATUS_SCRUB_ACTIVE k) = b2n b) (fun _ _ _ => trivial)
    (fun u _ => ?_) (fun u c hc hu => ?_) (List.mem_range.mpr hk) trivial
  · rw [if_pos hsel, fbw, fd_fw_self u (Fld.HBM_STATUS_SCRUB_ACTIVE k) _ (show 30 + 1 ≤ 32 by decide) (show 32 ≤ 64 by decide)]
    cases b <;> rfl
  · split
    · refine (fd_fw_ne _ _ _ _ ?_).trans hu
      simp only [Fld.HBM_STATUS_SCRUB_ACTIVE, Reg.HBM_STATUS]
      omega
    · exact hu

/-- A scrub that starts: the token taken, its selection kept, its stacks shown as active. -/
def scrubStarted (s : State) (sel : Nat) : State :=
  let w := s.maintTake ⟨actMemScrub, 0, 0⟩
  ({ w with ecc := { w.ecc with scrub := some (sel, 0, 0) } } : State).scrubShow sel true

theorem scrubStarted_shows (s : State) (sel : Nat) :
    (s.scrubStarted sel).ecc = { s.ecc with scrub := some (sel, 0, 0) } ∧
      (s.scrubStarted sel).ras = { s.ras with holders := s.ras.holders ++ [⟨actMemScrub, 0, 0⟩] } ∧
      (s.scrubStarted sel).mem = s.mem := by
  unfold scrubStarted
  extract_lets w
  have hshown := keeps_scrubShow { w with ecc := { w.ecc with scrub := some (sel, 0, 0) } } sel true
  exact ⟨hshown .ecc (by simp), hshown .ras (by simp), hshown .mem (by simp)⟩

/-- The checks of MEM_SCRUB that look at the packet and at the stacks pass. -/
theorem memScrub_inRange (hexpert : p.expert = true) (hstacks : ∀ k, k < 8 → bit (p.u8 16) k → s1.stackOk k = true)
    (hlow : 1 ≤ p.u8 18) (hhigh : p.u8 18 ≤ 100) :
    firstFail [((List.range 8).any (fun k => bit (p.u8 16) k && !s1.stackOk k), .err Sts.unitAbsent),
      (if p.expert then p.u8 18 == 0 || decide (100 < p.u8 18) else p.u8 19 != 1, .param)] = none := by
  have habsent : (List.range 8).any (fun k => bit (p.u8 16) k && !s1.stackOk k) = false := by
    rw [List.any_eq_false]
    intro k hk
    by_cases hbit : bit (p.u8 16) k = true
    · simp [hstacks k (List.mem_range.mp hk) hbit]
    · simp [hbit]
  have hrate : (p.u8 18 == 0 || decide (100 < p.u8 18)) = false := by
    simp only [Bool.or_eq_false_iff, beq_eq_false_iff_ne, decide_eq_false_iff_not]
    omega
  simp [firstFail, habsent, hexpert, hrate]

theorem exec_memScrub (h : Starts s true via p j s1) (hop : p.base = 0x0C10) (hexpert : p.expert = true)
    (hstacks : ∀ k, k < 8 → bit (p.u8 16) k → s1.stackOk k = true) (hlow : 1 ≤ p.u8 18) (hhigh : p.u8 18 ≤ 100)
    (htoken : s1.maintRefused ⟨actMemScrub, 0, 0⟩ = none) :
    exec (.memScrub via p) s =
      .next ((s1.beginJob true via j).scrubStarted (p.u8 16 + b2n (bit (p.u8 17) 0) * 256)) := by
  have hin := memScrub_inRange hexpert hstacks hlow hhigh
  change execMemScrub via p s = _
  rw [execMemScrub, hop, beq_self_eq_true, runRow_starts h]
  · simp only [hexpert, Bool.not_true, Bool.false_or, if_true]
    rfl
  · simp only [hexpert, if_true] at hin ⊢
    rw [hin, htoken]
    rfl

theorem memScrub_starts (h : Starts s true via p j s1) (hop : p.base = 0x0C10) (hexpert : p.expert = true)
    (hstacks : ∀ k, k < 8 → bit (p.u8 16) k → s1.stackOk k = true) (hlow : 1 ≤ p.u8 18) (hhigh : p.u8 18 ≤ 100)
    (htoken : s1.maintRefused ⟨actMemScrub, 0, 0⟩ = none) :
    Goes (exec (.memScrub via p) s) (fun u => u.ecc = { s1.ecc with scrub := some (p.u8 16 + b2n (bit (p.u8 17) 0) * 256, 0, 0) } ∧
      u.ras = { s1.ras with holders := s1.ras.holders ++ [⟨actMemScrub, 0, 0⟩] } ∧
      (∀ k, k < 8 → bit (p.u8 16) k = true → u.fd (Fld.HBM_STATUS_SCRUB_ACTIVE k) = 1) ∧ u.mem = s1.mem) := by
  have hbegun := keeps_beginJob s1 true via j
  obtain ⟨hecc, hras, hmem⟩ := scrubStarted_shows (s1.beginJob true via j) (p.u8 16 + b2n (bit (p.u8 17) 0) * 256)
  rw [hbegun .ecc (by simp)] at hecc
  rw [hbegun .ras (by simp)] at hras
  rw [hbegun .mem (by simp)] at hmem
  refine ⟨_, exec_memScrub h hop hexpert hstacks hlow hhigh htoken, hecc, hras, fun k hk hbit => ?_, hmem⟩
  exact fd_scrubShow hk ((bit_add_sram (bits_lt _ _ _) hk _).trans hbit) _ true

theorem memScrubDone_replies {x : Nat × Nat × Nat} (hscrub : s.ecc.scrub = some x) :
    Ends (exec (.memScrubDone []) s) .mcc (.ok 0 0) (fun u => u = s.memScrubEnd) := by
  have hrow : execMemScrubDone [] s = .next (s.memScrubEnd.finish .mcc (.ok 0 0)) := by
    rw [execMemScrubDone, hscrub]
    rfl
  exact ⟨s.memScrubEnd, hrow, rfl⟩

theorem memScrubDone_none (found : List (Nat × Bool)) (hscrub : s.ecc.scrub = none) : exec (.memScrubDone found) s = .next s := by
  change execMemScrubDone found s = _
  rw [execMemScrubDone, hscrub]

/-! ## MEM_ECC_TEST (06 R229 to R231) -/

/-- A raw write stores its data and keeps them, with the check bits, as the unit's only mark. -/
theorem rawWrite_shows (s : State) (k check : Nat) {data : Nat} (hdata : data < 2 ^ (8 * unitSize k)) :
    (s.rawWrite k data check).memRead k (unitSize k) = leBytes (unitSize k) data ∧
      BytesKeep k (unitSize k) s (s.rawWrite k data check) ∧
      (s.rawWrite k data check).ecc.marks.find? (fun m => m.key == k) = some ⟨k, data, check⟩ ∧
      Keeps [.mem, .ecc] s (s.rawWrite k data check) := by
  have hlen := length_leBytes (unitSize k) data
  have hread := memRead_memWrite s k (leBytes (unitSize k) data)
  rw [hlen] at hread
  refine ⟨hread, fun a ha => byte_memWrite_outside s k a _ (by rwa [hlen]), ?_,
    ((keeps_memWrite s _ _).mono (by simp)).trans ((keeps_withEcc _ _).mono (by simp))⟩
  simp [rawWrite, Nat.mod_eq_of_lt hdata]

/-- A raw read of a valid SRAM word, where nothing is poisoned or marked, gives its check bits and its data. -/
theorem rawRead_clean {k : Nat} (hsram : unitSize k = 8) (hvalid : s.ecc.valid.contains (protKey k) = true) (hclean : CleanMemory s) :
    s.rawRead k = (s, Config.eccCheck false (ofLE (s.memRead k 8)), 0, ofLE (s.memRead k 8)) := by
  obtain ⟨hpoison, hmarks⟩ := hclean
  have hspace : (spaceOf k == 0) = false := by
    by_contra hhbm
    simp [unitSize, show spaceOf k = 0 by simpa using hhbm] at hsram
  simp only [rawRead, hspace, hvalid, hpoison, hmarks, hsram, Bool.not_true, Bool.and_false, Bool.false_eq_true, if_false,
    List.find?_nil, List.contains_nil]

/-- Whether the packet of MEM_ECC_TEST, in its expert form, is out of range: its operation, its word, its alignment or its check bits. -/
def eccOutOfRange (p : Packet) : Bool :=
  decide (1 < p.u8 24) || (p.u8 24 == 1 && decide (3 < p.u8 25)) || p.u64 16 % unitSize (memKey (p.u64 16)) != 0 ||
    (p.u8 24 == 0 && unitSize (memKey (p.u64 16)) == 8 && p.u8 27 != 0)

theorem eccOutOfRange_write (hwrite : p.u8 24 = 0) (halign : p.u64 16 % unitSize (memKey (p.u64 16)) = 0)
    (hcheck : unitSize (memKey (p.u64 16)) = 8 → p.u8 27 = 0) : eccOutOfRange p = false := by
  by_cases hword : unitSize (memKey (p.u64 16)) = 8
  · rw [hword] at halign
    simp [eccOutOfRange, hwrite, halign, hword, hcheck hword]
  · simp [eccOutOfRange, hwrite, halign, hword]

theorem eccOutOfRange_read (hread : p.u8 24 = 1) (hword : p.u8 25 ≤ 3) (halign : p.u64 16 % unitSize (memKey (p.u64 16)) = 0) :
    eccOutOfRange p = false := by
  simp [eccOutOfRange, hread, halign, hword]

/-- The checks of MEM_ECC_TEST in its expert form. -/
def eccTestCheck (p : Packet) (s : State) : Option Ans :=
  (firstFail [(s.eccTarget (p.u64 16) && !s.patrolled (memKey (p.u64 16)), .err Sts.unitAbsent), (eccOutOfRange p, .param),
    (!s.eccTarget (p.u64 16), .fault (s.shownAddr (p.u64 16))), (s.tenantOpen, .refuse 0x0C01),
    (decide (64 ≤ s.unitMarks (memKey (p.u64 16))), .refuse 0x0C02)]).or
    ((s.maintRefused ⟨actEccTest, 0, 0⟩).map (.errD Sts.maintConflict))

/-- The data of a raw write: the unit's bytes of the packet's payload. -/
def eccData (p : Packet) : Nat :=
  ofLE ((List.range 32).map (fun i => BitVec.ofNat 8 (p.u8 (32 + i)))) % 2 ^ (8 * unitSize (memKey (p.u64 16)))

/-- The effect of MEM_ECC_TEST in its expert form. -/
def eccTestRun (p : Packet) (s : State) : State × Option Ans :=
  if p.u8 24 = 0 then (s.rawWrite (memKey (p.u64 16)) (eccData p) (p.u16 26), some .done)
  else
    let (s, c, o, d) := s.rawRead (memKey (p.u64 16))
    (s, some (.ok (c + o * 65536) (if unitSize (memKey (p.u64 16)) = 32 then bits d (64 * p.u8 25) 64 else d)))

theorem exec_memEccTest (hop : p.base = 0x0C11) (hexpert : p.expert = true) (via : Via) (s : State) :
    exec (.memEccTest via p) s = .next (s.runRow via p true (eccTestCheck p) (eccTestRun p)) := by
  change execMemEccTest via p s = _
  simp only [execMemEccTest, hop, hexpert, beq_self_eq_true, if_true, Bool.not_true, Bool.false_and, Bool.or_false]
  rfl

theorem eccTestCheck_passes (htarget : s1.eccTarget (p.u64 16) = true) (hthere : s1.patrolled (memKey (p.u64 16)) = true)
    (hrange : eccOutOfRange p = false) (htenant : s1.tenantOpen = false) (hroom : s1.unitMarks (memKey (p.u64 16)) < 64)
    (htoken : s1.maintRefused ⟨actEccTest, 0, 0⟩ = none) : eccTestCheck p s1 = none := by
  simp [eccTestCheck, firstFail, htarget, hthere, hrange, htenant, hroom, htoken]

theorem eccTestCheck_tenant (htarget : s1.eccTarget (p.u64 16) = true) (hthere : s1.patrolled (memKey (p.u64 16)) = true)
    (hrange : eccOutOfRange p = false) (htenant : s1.tenantOpen = true) : eccTestCheck p s1 = some (.refuse 0x0C01) := by
  simp [eccTestCheck, firstFail, htarget, hthere, hrange, htenant]

theorem memEccTest_ends {w : State} {a : Ans} (h : Starts s true via p j s1) (hop : p.base = 0x0C11) (hexpert : p.expert = true)
    (hcheck : eccTestCheck p s1 = none) (hrun : eccTestRun p (s1.beginJob true via j) = (w, some a)) :
    exec (.memEccTest via p) s = .next (w.finish via a) := by
  rw [exec_memEccTest hop hexpert, runRow_starts h hcheck, hrun]

theorem memEccTest_writes (h : Starts s true via p j s1) (hop : p.base = 0x0C11) (hexpert : p.expert = true) (hwrite : p.u8 24 = 0)
    (hcheck : eccTestCheck p s1 = none) :
    Ends (exec (.memEccTest via p) s) via .done (fun u =>
      u.memRead (memKey (p.u64 16)) (unitSize (memKey (p.u64 16))) = leBytes (unitSize (memKey (p.u64 16))) (eccData p) ∧
      BytesKeep (memKey (p.u64 16)) (unitSize (memKey (p.u64 16))) s1 u ∧
      u.ecc.marks.find? (fun m => m.key == memKey (p.u64 16)) = some ⟨memKey (p.u64 16), eccData p, p.u16 26⟩ ∧
      Keeps [.mem, .ecc] (s1.beginJob true via j) u) := by
  obtain ⟨hread, hbytes, hmark, hparts⟩ := rawWrite_shows (s1.beginJob true via j) (memKey (p.u64 16)) (p.u16 26)
    (data := eccData p) (Nat.mod_lt _ (Nat.two_pow_pos _))
  have hbyte : ∀ a, (s1.beginJob true via j).byte a = s1.byte a := fun a =>
    congrArg (Cells.get 0 a) (keeps_beginJob s1 true via j .mem (by simp))
  exact ⟨_, memEccTest_ends h hop hexpert hcheck (if_pos hwrite), hread, fun a ha => (hbytes a ha).trans (hbyte a), hmark, hparts⟩

theorem memEccTest_reads (h : Starts s true via p j s1) (hop : p.base = 0x0C11) (hexpert : p.expert = true) (hread : p.u8 24 = 1)
    (hsram : unitSize (memKey (p.u64 16)) = 8) (hvalid : s1.ecc.valid.contains (protKey (memKey (p.u64 16))) = true)
    (hclean : CleanMemory s1) (hcheck : eccTestCheck p s1 = none) :
    Ends (exec (.memEccTest via p) s) via
      (.ok (Config.eccCheck false (ofLE (s1.memRead (memKey (p.u64 16)) 8))) (ofLE (s1.memRead (memKey (p.u64 16)) 8)))
      (fun u => u = s1.beginJob true via j) := by
  have hbegun := keeps_beginJob s1 true via j
  have hecc : (s1.beginJob true via j).ecc = s1.ecc := hbegun .ecc (by simp)
  have hdata : (s1.beginJob true via j).memRead (memKey (p.u64 16)) 8 = s1.memRead (memKey (p.u64 16)) 8 :=
    memRead_eq_of_bytes _ _ _ _ (fun i _ => congrArg (Cells.get 0 _) (hbegun .mem (by simp)))
  have hraw := rawRead_clean (s := s1.beginJob true via j) hsram (by rw [hecc]; exact hvalid) (by rw [CleanMemory, hecc]; exact hclean)
  rw [hdata] at hraw
  refine ⟨_, memEccTest_ends h hop hexpert hcheck ?_, rfl⟩
  simp only [eccTestRun, hread, hraw, hsram, Nat.one_ne_zero, if_false, Nat.zero_mul, Nat.add_zero, show (8 : Nat) ≠ 32 by decide]

theorem memEccTest_tenant (h : Starts s true via p j s1) (hop : p.base = 0x0C11) (hexpert : p.expert = true)
    (hcheck : eccTestCheck p s1 = some (.refuse 0x0C01)) : exec (.memEccTest via p) s = .next (s1.finish via (.refuse 0x0C01)) := by
  rw [exec_memEccTest hop hexpert, runRow_fails h hcheck]

end

end Sys2Proof.Machine.State

namespace Sys2Proof

open Machine Machine.State

/-- Settles O22: a command that passes its checks runs on the state in which it begins, whose memory, integrity state and token are those
before it. -/
theorem memoryIsScrubbedAndTested : Obligations.MemoryIsScrubbedAndTested := by
  unfold Obligations.MemoryIsScrubbedAndTested
  refine ⟨⟨?_, ?_, ?_⟩, ?_, ?_, ?_⟩
  · exact fun s via p j s1 h hop hexpert hstacks hlow hhigh htoken => memScrub_starts h hop hexpert hstacks hlow hhigh htoken
  · exact fun s x hscrub => memScrubDone_replies hscrub
  · exact fun s found hscrub => memScrubDone_none found hscrub
  · intro s via p j s1 h hop hexpert hwrite k z data halign hcheck htarget hthere htenant hroom htoken
    exact memEccTest_writes h hop hexpert hwrite
      (eccTestCheck_passes htarget hthere (eccOutOfRange_write hwrite halign hcheck) htenant hroom htoken)
  · intro s via p j s1 h hop hexpert hread hword k hsram halign htarget hthere htenant hroom htoken hvalid hclean
    have hrange : eccOutOfRange p = false := eccOutOfRange_read hread hword ((congrArg (p.u64 16 % ·) hsram).trans halign)
    exact memEccTest_reads h hop hexpert hread hsram hvalid hclean
      (eccTestCheck_passes htarget hthere hrange htenant hroom htoken)
  · intro s via p j s1 h hop hexpert hwrite k halign hcheck htarget hthere htenant
    exact memEccTest_tenant h hop hexpert (eccTestCheck_tenant htarget hthere (eccOutOfRange_write hwrite halign hcheck) htenant)

end Sys2Proof
end

section
/-! Creel's tables and rows: sequences by number, reservations against the pools, frames of what the tables' operations change, and how a
Creel row goes on. -/

namespace Sys2Proof.Machine.Cells

variable {α : Type}

/-! ## Entries listed by key -/

theorem find_erase_self (k : Nat) (l : List (Nat × α)) : find k (erase k l) = none := by
  induction l with
  | nil => rfl
  | cons e l ih =>
    simp only [erase, List.filter_cons] at ih ⊢
    split
    · rename_i hne
      simp only [find, ih, if_neg (show e.1 ≠ k by simpa using hne)]
    · exact ih

theorem find_erase_ne {k a : Nat} (h : a ≠ k) (l : List (Nat × α)) : find a (erase k l) = find a l := by
  induction l with
  | nil => rfl
  | cons e l ih =>
    simp only [erase, List.filter_cons] at ih ⊢
    split
    · simp only [find, ih]
    · rename_i heq
      have hkey : e.1 = k := by simpa using heq
      simp only [ih, find, if_neg (show e.1 ≠ a from fun he => h (he.symm.trans hkey))]

theorem find_insert_ne {k a : Nat} (h : a ≠ k) (v : α) (l : List (Nat × α)) : find a (insert k v l) = find a l := by
  induction l with
  | nil => simp [insert, find, Ne.symm h]
  | cons e l ih =>
    simp only [insert]
    split
    · simp [find, Ne.symm h]
    · simp [find, ih]

theorem find_insert_self {k : Nat} (v : α) {l : List (Nat × α)} (h : find k l = none) : find k (insert k v l) = some v := by
  induction l with
  | nil => simp [insert, find]
  | cons e l ih =>
    by_cases hk : e.1 = k
    · simp [find, hk] at h
    · simp only [find, if_neg hk] at h
      simp only [insert]
      split
      · simp [find]
      · simp only [find, if_neg hk, ih h]

/-- A key of a cleared range reads as the default. -/
theorem get_clearRange_inside (d : α) {lo n a : Nat} (hlo : lo ≤ a) (hhi : a < lo + n) (l : List (Nat × α)) :
    get d a (clearRange lo n l) = d := by
  induction l with
  | nil => rfl
  | cons e l ih =>
    simp only [clearRange, List.filter_cons] at ih ⊢
    split
    · rename_i hout
      have hkey : e.1 ≠ a := fun he => by simp [he, hlo, hhi] at hout
      simp only [get, ih, if_neg hkey]
    · exact ih

end Sys2Proof.Machine.Cells

namespace Sys2Proof.Safety

open Sys2Proof.Machine

/-! ## Frames -/

theorem keeps_withCrl (s : State) (x : Crl) : Keeps [.crl] s { s with crl := x } := by
  intro p hp
  cases p
  case crl => simp at hp
  all_goals rfl

/-- A choice among elements uses up at most an open value. -/
theorem keeps_pick {α : Type} (s : State) (l : List α) : Keeps [.free] s (s.pick l).1 := by
  unfold State.pick
  split
  · exact Keeps.refl _ s
  · exact Keeps.refl _ s
  · exact keeps_open s 32

theorem pick_singleton {α : Type} (s : State) (x : α) : s.pick [x] = (s, some x) := rfl

theorem keeps_lineTouch (s : State) (key n : Nat) (write : Bool) : Keeps countParts s (s.lineTouch key n write) := by
  have htile : ∀ (u : State) (t e k : Nat), Keeps countParts u (u.tileEvent t e k) := keeps_tileEvent
  unfold State.lineTouch
  split
  · have htwo := (htile s (offOf key / 2 ^ 23) (if write then 37 else 36) (protUnits key n).length).trans
      (htile _ (offOf key / 2 ^ 23) 42 (s.remapHits key n))
    cases write
    · exact htwo.trans (htile _ _ _ _)
    · exact htwo
  · exact (pmuEvent_frame s _ _ _ _).1
  · exact Keeps.refl _ s

/-- A write at its home changes memory, its integrity state, and what counting it changes. -/
theorem keeps_homeWrite (s : State) (key : Nat) (bs : List Byte) : Keeps (.mem :: .ecc :: countParts) s (s.homeWrite key bs) := by
  unfold State.homeWrite
  extract_lets n touched
  split
  · exact Keeps.refl _ s
  · have htouched : Keeps (.mem :: .ecc :: countParts) s touched := (keeps_lineTouch s key n true).mono (by simp)
    exact htouched.trans (((keeps_memWrite touched key bs).mono (by simp)).trans ((keeps_withEcc _ _).mono (by simp)))

/-- A skein page taken from one stack: the pages in use, the stack's count of free ones, and the choice. -/
theorem takeSkein_frame (s : State) (st : Nat) :
    Keeps [.regs, .ecc, .free] s (s.takeSkein [st]).1 ∧
      RegsKeep [(Reg.HBM_REMAP_STATE st).addr] s (s.takeSkein [st]).1 := by
  have hchosen := keeps_pick s (s.freeSkein st)
  have hregs : (s.pick (s.freeSkein st)).1.regs = s.regs := hchosen .regs (by simp)
  simp only [State.takeSkein, pick_singleton]
  split
  · rename_i u hpick
    rw [hpick] at hchosen hregs
    exact ⟨hchosen.mono (by simp), RegsKeep.of_regs_eq hregs⟩
  · rename_i u k hpick
    rw [hpick] at hchosen hregs
    exact ⟨(hchosen.mono (by simp)).trans (((keeps_withEcc u _).mono (by simp)).trans ((keeps_fw _ _ _).mono (by simp))),
      RegsKeep.trans (t := { u with ecc := { u.ecc with skeinUsed := k :: u.ecc.skeinUsed } }) (RegsKeep.of_regs_eq hregs)
        (regsKeep_fw _ (Fld.HBM_REMAP_STATE_FREE st) _)⟩

theorem keeps_giveSkein (s : State) (k : Nat) : Keeps [.regs, .ecc] s (s.giveSkein k) :=
  ((keeps_withEcc s _).mono (by simp)).trans ((keeps_fw _ _ _).mono (by simp))

end Sys2Proof.Safety

namespace Sys2Proof.Machine.State

open Sys2Proof.Safety

@[simp] theorem crl_beginJob (s : State) (timed : Bool) (via : Via) (j : Job) : (s.beginJob timed via j).crl = s.crl :=
  keeps_beginJob s timed via j .crl (by simp)

/-! ## Sequences by number (07 R246, R248) -/

theorem crlSeq_congr {s t : State} (h : t.crl = s.crl) (n : Nat) : t.crlSeq n = s.crlSeq n := by rw [crlSeq, h, crlSeq]

@[simp] theorem crlSeq_setCrlSeq_self (s : State) (n : Nat) (q : CrlSeq) : (s.setCrlSeq n q).crlSeq n = some q :=
  Cells.find_insert_self q (Cells.find_erase_self n s.crl.seqs)

theorem crlSeq_setCrlSeq_ne (s : State) {n m : Nat} (q : CrlSeq) (h : m ≠ n) : (s.setCrlSeq n q).crlSeq m = s.crlSeq m :=
  (Cells.find_insert_ne h q _).trans (Cells.find_erase_ne h _)

theorem keeps_setCrlSeq (s : State) (n : Nat) (q : CrlSeq) : Keeps [.crl] s (s.setCrlSeq n q) := keeps_withCrl s _

/-! ## Reservations against the pools (07 R246) -/

theorem poolFree_congr {s t : State} (h : t.crl = s.crl) (u : Nat) : t.poolFree u = s.poolFree u := by rw [poolFree, h, poolFree]

theorem crlResv_congr {s t : State} (h : t.crl = s.crl) (n : Nat) (q : CrlSeq) (u : Nat) : t.crlResv n q u = s.crlResv n q u := by
  simp only [crlResv, h]

theorem poolResv_congr {s t : State} (h : t.crl = s.crl) (u : Nat) : t.poolResv u = s.poolResv u := by
  simp only [poolResv, crlResv_congr h, h]

theorem poolShort_congr {s t : State} (h : t.crl = s.crl) : t.poolShort = s.poolShort := by
  simp only [poolShort, poolFree_congr h, poolResv_congr h]

theorem crlTry_eq_ok_iff {s t w : State} : s.crlTry t = .ok w ↔ t.poolShort = none ∧ t = w := by
  unfold crlTry
  cases t.poolShort <;> simp

/-- Whether a sequence can be opened rests on Creel's tables alone. -/
theorem crlOpen_congr {s t w : State} {n : Nat} {g : CrlSeq} (h : t.crl = s.crl) (hfit : s.crlOpen n g = .ok w) :
    t.crlOpen n g = .ok (t.setCrlSeq n g) := by
  obtain ⟨hshort, -⟩ := crlTry_eq_ok_iff.mp hfit
  have hset : (t.setCrlSeq n g).crl = (s.setCrlSeq n g).crl := by simp only [setCrlSeq, h]
  exact crlTry_eq_ok_iff.mpr ⟨(poolShort_congr hset).trans hshort, rfl⟩

/-- A sequence with its reserved length changed: OPEN, with no cause, its entries' RESV bits as the new length has them. -/
def seqReserved (s : State) (n : Nat) (q : CrlSeq) (tok : Nat) : State :=
  (s.setCrlSeq n { q with resvTok := tok, state := 1, cause := 0 }).crlMarkResv n { q with resvTok := tok, state := 1, cause := 0 }

/-- Whether a reserved length fits rests on Creel's tables alone. -/
theorem crlSetResv_congr {s t w : State} {n tok : Nat} {q : CrlSeq} (h : t.crl = s.crl) (hfit : s.crlSetResv n q tok = .ok w) :
    t.crlSetResv n q tok = .ok (t.seqReserved n q tok) := by
  obtain ⟨hshort, -⟩ := (crlTry_eq_ok_iff (s := s)).mp hfit
  have hset : (t.seqReserved n q tok).crl = (s.seqReserved n q tok).crl := by simp only [seqReserved, setCrlSeq, crlMarkResv, h]
  exact (crlTry_eq_ok_iff (s := t)).mpr ⟨(poolShort_congr hset).trans hshort, rfl⟩

/-! ## Rows (02 R60; 07 R254) -/

theorem seqCheck_open {s : State} {n : Nat} {sts : List Nat} {q : CrlSeq} (howner : s.srvOwnsSeq n = false)
    (hseq : s.crlSeq n = some q) (hstate : q.state ∈ sts) : s.seqCheck n sts = none := by
  simp [seqCheck, firstFail, howner, hseq, hstate]

theorem seqCheck_closed {s : State} {n : Nat} {sts : List Nat} (howner : s.srvOwnsSeq n = false)
    (hseq : s.crlSeq n = none) (hstate : 0 ∈ sts) : s.seqCheck n sts = none := by
  simp [seqCheck, firstFail, howner, hseq, hstate]

theorem seqCheck_otherState {s : State} {n : Nat} {sts : List Nat} {q : CrlSeq} (howner : s.srvOwnsSeq n = false)
    (hseq : s.crlSeq n = some q) (hstate : q.state ∉ sts) : s.seqCheck n sts = some (.err stsCrlSeqState) := by
  simp [seqCheck, firstFail, howner, hseq, hstate]

theorem unitGone_on {s : State} {u : Nat} (hon : s.stackOn u = true) : unitGone u s = false := by simp [unitGone, hon]

section
variable {s s1 u : State} {via : Via} {p : Packet} {j : Job} {base : Nat} {absent bad : State → Bool} {check : State → Option Ans}
  {act : State → State × Option Ans} {a : Ans}

/-- A Creel command whose action answers ends with that answer. -/
theorem creelRow_ends (h : Starts s true via p j s1) (hop : p.base = base) (hone : profileOne p = true) (htenant : s1.tenantOpen = true)
    (habsent : absent s1 = false) (hbad : bad s1 = false) (hcheck : check s1 = none)
    (hact : act (s1.beginJob true via j) = (u, some a)) : s.creelRow via p base absent bad check act = u.finish via a := by
  rw [creelRow, hop, beq_self_eq_true, runRow_starts h (by simp [firstFail, habsent, hone, hbad, htenant, hcheck]), hact]

/-- A Creel command whose action does not answer stays in progress. -/
theorem creelRow_goesOn (h : Starts s true via p j s1) (hop : p.base = base) (hone : profileOne p = true)
    (htenant : s1.tenantOpen = true) (habsent : absent s1 = false) (hbad : bad s1 = false) (hcheck : check s1 = none)
    (hact : act (s1.beginJob true via j) = (u, none)) : s.creelRow via p base absent bad check act = u := by
  rw [creelRow, hop, beq_self_eq_true, runRow_starts h (by simp [firstFail, habsent, hone, hbad, htenant, hcheck]), hact]

/-- A Creel command that fails its own check ends without an effect. -/
theorem creelRow_fails (h : Starts s true via p j s1) (hop : p.base = base) (hone : profileOne p = true)
    (htenant : s1.tenantOpen = true) (habsent : absent s1 = false) (hbad : bad s1 = false) (hcheck : check s1 = some a) :
    s.creelRow via p base absent bad check act = s1.finish via a := by
  rw [creelRow, hop, beq_self_eq_true, runRow_fails (a := a) h (by simp [firstFail, habsent, hone, hbad, htenant, hcheck])]

end

end Sys2Proof.Machine.State
end

section
/-! Creel sequences (O23): opening, reserved lengths, TRIM and CLOSE with the pages they free, and their end. -/

namespace Sys2Proof.Machine.State

open Sys2Proof.Safety

/-! ## Reserved lengths (07 R246, R248, R252) -/

/-- A reserved length changed, and the sequence's entries out of the TLB: the sequence has it, the others are as before. -/
theorem seqReserved_shows (s : State) (n : Nat) (q : CrlSeq) (tok : Nat) :
    ((s.seqReserved n q tok).tlbDrop n).crlSeq n = some { q with resvTok := tok, state := 1, cause := 0 } ∧
      (∀ m, m ≠ n → ((s.seqReserved n q tok).tlbDrop n).crlSeq m = s.crlSeq m) ∧
      Keeps [.crl] s ((s.seqReserved n q tok).tlbDrop n) :=
  ⟨crlSeq_setCrlSeq_self s n _, fun _ hm => crlSeq_setCrlSeq_ne s _ hm,
    (keeps_setCrlSeq s n _).trans ((keeps_withCrl _ _).trans (keeps_withCrl _ _))⟩

/-! ## Pages given back (07 R248) -/

/-- Granted free pages returned: free lists, the counts of granted and of free skein pages, the skein pages in use; no more. -/
def GivesBack (s t : State) : Prop := (∃ l, t.crl = { s.crl with free := l }) ∧ Keeps [.crl, .regs, .ecc] s t

theorem GivesBack.refl (s : State) : GivesBack s s := ⟨⟨s.crl.free, rfl⟩, Keeps.refl _ s⟩

theorem GivesBack.trans {s t u : State} (h : GivesBack s t) (h' : GivesBack t u) : GivesBack s u := by
  obtain ⟨⟨k, hk⟩, hparts⟩ := h
  obtain ⟨⟨l, hl⟩, hparts'⟩ := h'
  exact ⟨⟨l, by rw [hl, hk]⟩, hparts.trans hparts'⟩

/-- One page returned to the skein pool. -/
theorem givesBack_page (s : State) (l : List (Nat × Bool)) (r : Reg) (v k : Nat) :
    GivesBack s ((({ s with crl := { s.crl with free := l } } : State).wr r v).giveSkein k) := by
  have hgiven := keeps_giveSkein (({ s with crl := { s.crl with free := l } } : State).wr r v) k
  have hlisted : Keeps [.crl, .regs, .ecc] s (({ s with crl := { s.crl with free := l } } : State).wr r v) :=
    ((keeps_withCrl s _).mono (by simp)).trans ((keeps_wr _ r v).mono (by simp))
  exact ⟨⟨l, hgiven .crl (by simp)⟩, hlisted.trans (hgiven.mono (by simp))⟩

theorem givesBack_returnGrantedAux (u k : Nat) (s : State) : GivesBack s (returnGrantedAux u k s) := by
  induction k generalizing s with
  | zero => exact GivesBack.refl s
  | succ k ih =>
    rw [returnGrantedAux]
    split
    · split
      · exact GivesBack.refl s
      · exact (givesBack_page s _ _ _ _).trans (ih _)
    · exact GivesBack.refl s

theorem givesBack_returnGranted (s : State) (u : Nat) : GivesBack s (s.returnGranted u) := givesBack_returnGrantedAux u _ s

/-- Pages freed: the entries that satisfy the test leave the tables, every other entry and every sequence stays. -/
theorem crlFree_shows (s : State) (n : Nat) (test : CrlPage → Bool) :
    (s.crlFree n test).crl.maps = s.crl.maps.filter (fun m => !(m.seq == n && test m)) ∧
      Keeps [.crl, .regs, .ecc] s (s.crlFree n test) := by
  simp only [crlFree]
  generalize hpooled : ({ s with crl := _ } : State) = pooled
  have hback : GivesBack pooled ((List.range 8).foldl returnGranted pooled) :=
    List.foldlRecOn _ returnGranted (GivesBack.refl pooled) (fun u hu k _ => hu.trans (givesBack_returnGranted u k))
  obtain ⟨⟨l, hl⟩, hparts⟩ := hback
  subst hpooled
  exact ⟨by rw [hl], ((keeps_withCrl s _).mono (by simp)).trans hparts⟩

/-! ## TRIM and CLOSE (07 R248, R249, R257) -/

/-- The walks of a sequence ended, where no access to it waits. -/
theorem crlFlush_quiet {s : State} {n : Nat} (hquiet : ∀ w ∈ s.crl.waiting, crlSeqOf w.1.addr ≠ n) :
    s.crlFlush n = { s with crl := { s.crl with walks := s.crl.walks.filter (fun w => w.2.1 != n) } } := by
  have hnone : s.crl.waiting.filter (fun w => crlSeqOf w.1.addr == n) = [] := by simpa using hquiet
  have hall : s.crl.waiting.filter (fun w => crlSeqOf w.1.addr != n) = s.crl.waiting := by simpa using hquiet
  simp only [crlFlush, hnone, hall, List.foldl_nil]

/-- The tail of a page zeroed: memory, its integrity state, and what counting the writes changes. -/
theorem keeps_trimTail (s : State) (n : Nat) (q : CrlSeq) (t : Nat) : Keeps (.mem :: .ecc :: countParts) s (s.trimTail n q t) := by
  unfold trimTail
  split
  · exact Keeps.refl _ s
  · refine Keeps.foldl s (fun u l _ => ?_)
    split
    · exact keeps_homeWrite u _ _
    · exact Keeps.refl _ u

/-- A TRIM leaves mapped what lies below the new length, and the pages of the other sequences. -/
theorem crlTrim_shows {s : State} {n : Nat} {q : CrlSeq} (t : Nat) (hseq : s.crlSeq n = some q) :
    (s.crlTrim n t).crl.maps = s.crl.maps.filter (fun m => !(m.seq == n && decide (t ≤ m.v % q.ppl * q.rpp))) ∧
      (s.crlTrim n t).host = s.host := by
  have htail := keeps_trimTail s n q t
  obtain ⟨hmaps, hparts⟩ := crlFree_shows ((s.trimTail n q t).tlbDrop n) n (fun m => decide (t ≤ m.v % q.ppl * q.rpp))
  simp only [crlTrim, hseq]
  have hcrl : (s.trimTail n q t).crl = s.crl := htail .crl (by simp [countParts])
  have htables : ((s.trimTail n q t).tlbDrop n).crl.maps = s.crl.maps := (congrArg Crl.maps hcrl :)
  exact ⟨by rw [hmaps, htables], (hparts .host (by simp)).trans (htail .host (by simp [countParts]))⟩

/-- The records of unreadable entries change nothing of Creel's. -/
theorem keeps_closeRecords (s : State) (bad : List (Nat × Nat × Nat × Nat)) :
    Keeps [.free, .regs, .log, .out, .hif] s
      (bad.foldl (fun s e => (s.open_ 64).2.troubleRule 3 257 0 (stackIsland e.1) (s.open_ 64).1) s) :=
  Keeps.foldl s (fun u _ _ => ((keeps_open u 64).mono (by simp)).trans ((keeps_trouble _ _ _ _ _ _).mono (by simp)))

/-- A CLOSE leaves the sequence CLOSED and without a page, and the pages of the other sequences mapped. -/
theorem crlClose_shows (s : State) (n : Nat) :
    (s.crlClose n).crlSeq n = none ∧ (s.crlClose n).crl.maps = s.crl.maps.filter (fun m => !(m.seq == n && true)) ∧
      (s.crlClose n).mem = s.mem ∧ (s.crlClose n).host = s.host := by
  obtain ⟨hmaps, hparts⟩ := crlFree_shows (s.tlbDrop n) n (fun _ => true)
  simp only [crlClose]
  generalize hfreed : (s.tlbDrop n).crlFree n (fun _ => true) = freed at hmaps hparts
  generalize hclosed : ({ freed with crl := _ } : State) = closed
  have hrecords := keeps_closeRecords closed ((s.tlbDrop n).crl.bad.filter (fun e => e.2.1 == n))
  have hcrl := hrecords .crl (by simp)
  subst hclosed
  exact ⟨(crlSeq_congr hcrl n).trans (Cells.find_erase_self n _), (congrArg Crl.maps hcrl).trans hmaps,
    (hrecords .mem (by simp)).trans (hparts .mem (by simp)), (hrecords .host (by simp)).trans (hparts .host (by simp))⟩

/-! ## The clauses of O23 -/

section
variable {s s1 w : State} {via : Via} {p : Packet} {j : Job} {q : CrlSeq}

theorem openGeom_inRange (hn : pSeq p ≤ 4095) (hgeom : geomBad (openGeom p) = false) (hbasic : p.expert = true ∨ p.u32 28 = p.u32 24) :
    (decide (4095 < pSeq p) || geomBad (openGeom p) || (!p.expert && p.u32 28 != p.u32 24)) = false := by
  have hnum : ¬ 4095 < pSeq p := by omega
  rcases hbasic with hexpert | hwhole
  · simp [hnum, hgeom, hexpert]
  · simp [hnum, hgeom, hwhole]

theorem creelSeqOpen_opens (h : Starts s true via p j s1) (hop : p.base = 0x0300) (hone : profileOne p = true) (hn : pSeq p ≤ 4095)
    (hgeom : geomBad (openGeom p) = false) (hbasic : p.expert = true ∨ p.u32 28 = p.u32 24) (htenant : s1.tenantOpen = true)
    (howner : s1.srvOwnsSeq (pSeq p) = false) (hclosed : s1.crlSeq (pSeq p) = none)
    (hfit : s1.crlOpen (pSeq p) (openGeom p) = .ok w) :
    Ends (exec (.creelSeqOpen via p) s) via .done (fun u => u.crlSeq (pSeq p) = some (openGeom p) ∧
      (∀ m, m ≠ pSeq p → u.crlSeq m = s1.crlSeq m) ∧ Keeps [.crl] (s1.beginJob true via j) u) := by
  have hbegun := crl_beginJob s1 true via j
  have hrow : execCreelSeqOpen via p s =
      .next (((s1.beginJob true via j).setCrlSeq (pSeq p) (openGeom p)).finish via .done) :=
    congrArg Host.Outcome.next (creelRow_ends h hop hone htenant rfl (openGeom_inRange hn hgeom hbasic)
      (by rw [seqCheck_closed howner hclosed (by simp), hfit]; rfl) (by rw [crlOpen_congr hbegun hfit]))
  exact ⟨_, hrow, crlSeq_setCrlSeq_self _ _ _, fun m hm => (crlSeq_setCrlSeq_ne _ _ hm).trans (crlSeq_congr hbegun m),
    keeps_setCrlSeq _ _ _⟩

theorem creelSeqOpen_refused (h : Starts s true via p j s1) (hop : p.base = 0x0300) (hone : profileOne p = true) (hn : pSeq p ≤ 4095)
    (hgeom : geomBad (openGeom p) = false) (hbasic : p.expert = true ∨ p.u32 28 = p.u32 24) (htenant : s1.tenantOpen = true)
    (howner : s1.srvOwnsSeq (pSeq p) = false) (hseq : s1.crlSeq (pSeq p) = some q) (hstate : q.state ≠ 0) :
    exec (.creelSeqOpen via p) s = .next (s1.finish via (.err stsCrlSeqState)) :=
  congrArg Host.Outcome.next (creelRow_fails h hop hone htenant rfl (openGeom_inRange hn hgeom hbasic)
    (by rw [seqCheck_otherState howner hseq (by simpa using hstate)]; rfl))

/-- A reserved length set, as CREEL_SEQ_RESERVE and CREEL_UNPARK end. -/
theorem seqReserved_ends {tok : Nat} {o : Host.Outcome State Fault Refusal}
    (hrow : o = .next ((((s1.beginJob true via j).seqReserved (pSeq p) q tok).tlbDrop (pSeq p)).finish via .done)) :
    Ends o via .done (fun u => u.crlSeq (pSeq p) = some { q with resvTok := tok, state := 1, cause := 0 } ∧
      (∀ m, m ≠ pSeq p → u.crlSeq m = s1.crlSeq m) ∧ Keeps [.crl] (s1.beginJob true via j) u) := by
  obtain ⟨hself, hothers, hparts⟩ := seqReserved_shows (s1.beginJob true via j) (pSeq p) q tok
  exact ⟨_, hrow, hself, fun m hm => (hothers m hm).trans (crlSeq_congr (crl_beginJob s1 true via j) m), hparts⟩

theorem creelSeqReserve_reserves (h : Starts s true via p j s1) (hop : p.base = 0x0301) (hone : profileOne p = true)
    (hn : pSeq p ≤ 4095) (htenant : s1.tenantOpen = true) (howner : s1.srvOwnsSeq (pSeq p) = false)
    (hseq : s1.crlSeq (pSeq p) = some q) (hstate : q.state = 1) (htok : p.u32 28 ≤ q.maxTok)
    (hfit : s1.crlSetResv (pSeq p) q (p.u32 28) = .ok w) :
    Ends (exec (.creelSeqReserve via p) s) via .done (fun u =>
      u.crlSeq (pSeq p) = some { q with resvTok := p.u32 28, state := 1, cause := 0 } ∧
      (∀ m, m ≠ pSeq p → u.crlSeq m = s1.crlSeq m) ∧ Keeps [.crl] (s1.beginJob true via j) u) := by
  have hbegun := crl_beginJob s1 true via j
  have hseq' := (crlSeq_congr hbegun (pSeq p)).trans hseq
  exact seqReserved_ends (congrArg Host.Outcome.next (creelRow_ends h hop hone htenant rfl
    (by simp [hseq, htok, hn]) (by simp [seqCheck_open howner hseq, hstate, hseq, hfit])
    (by simp only [hseq', crlSetResv_congr hbegun hfit])))

theorem creelUnpark_reserves (h : Starts s true via p j s1) (hop : p.base = 0x0305) (hone : profileOne p = true)
    (hn : pSeq p ≤ 4095) (htenant : s1.tenantOpen = true) (howner : s1.srvOwnsSeq (pSeq p) = false)
    (hseq : s1.crlSeq (pSeq p) = some q) (hstate : q.state = 2) (htok : p.u32 28 ≤ q.maxTok)
    (hbasic : p.expert = true ∨ p.u32 28 = q.maxTok) (hfit : s1.crlSetResv (pSeq p) q (p.u32 28) = .ok w) :
    Ends (exec (.creelUnpark via p) s) via .done (fun u =>
      u.crlSeq (pSeq p) = some { q with resvTok := p.u32 28, state := 1, cause := 0 } ∧
      (∀ m, m ≠ pSeq p → u.crlSeq m = s1.crlSeq m) ∧ Keeps [.crl] (s1.beginJob true via j) u) := by
  have hbegun := crl_beginJob s1 true via j
  have hseq' := (crlSeq_congr hbegun (pSeq p)).trans hseq
  have hshape : (!p.expert && p.u32 28 != q.maxTok) = false := by
    rcases hbasic with hexpert | hwhole
    · simp [hexpert]
    · simp [hwhole]
  exact seqReserved_ends (congrArg Host.Outcome.next (creelRow_ends h hop hone htenant rfl
    (by simp [hseq, htok, hn, hshape]) (by simp [seqCheck_open howner hseq, hstate, hseq, hfit])
    (by simp only [hseq', crlSetResv_congr hbegun hfit])))

/-- What TRIM and CLOSE begin with: the walks of the sequence ended, nothing else of the tables changed. -/
theorem flushed_shows (via : Via) (j : Job) {n : Nat} (hquiet : ∀ w ∈ s1.crl.waiting, crlSeqOf w.1.addr ≠ n) :
    ((s1.beginJob true via j).crlFlush n).crl.maps = s1.crl.maps ∧
      (∀ m, ((s1.beginJob true via j).crlFlush n).crlSeq m = s1.crlSeq m) ∧
      Keeps [.crl, .eng, .mcc, .regs, .log, .out, .hif] s1 ((s1.beginJob true via j).crlFlush n) := by
  have hbegun := crl_beginJob s1 true via j
  rw [crlFlush_quiet (by rw [hbegun]; exact hquiet)]
  exact ⟨(congrArg Crl.maps hbegun :), fun m => (crlSeq_congr hbegun m :),
    ((keeps_beginJob s1 true via j).mono (by simp)).trans ((keeps_withCrl _ _).mono (by simp))⟩

theorem creelSeqTrim_trims (h : Starts s true via p j s1) (hop : p.base = 0x0302) (hone : profileOne p = true) (hn : pSeq p ≤ 4095)
    (htenant : s1.tenantOpen = true) (howner : s1.srvOwnsSeq (pSeq p) = false) (hseq : s1.crlSeq (pSeq p) = some q)
    (hstate : q.state = 1 ∨ q.state = 2) (hquiet : ∀ w ∈ s1.crl.waiting, crlSeqOf w.1.addr ≠ pSeq p) :
    Goes (exec (.creelSeqTrim via p) s) (fun u => u.crl.busy = some (pSeq p, false) ∧
      (∀ m ∈ u.crl.maps, m.seq = pSeq p → m.v % q.ppl * q.rpp < p.u32 24) ∧
      (∀ m ∈ s1.crl.maps, m.seq ≠ pSeq p → m ∈ u.crl.maps) ∧ u.host = s1.host) := by
  obtain ⟨hmaps, hseqs, hparts⟩ := flushed_shows via j hquiet
  obtain ⟨htrimmed, hhost⟩ := crlTrim_shows (p.u32 24) ((hseqs (pSeq p)).trans hseq)
  rw [hmaps] at htrimmed
  refine ⟨_, congrArg Host.Outcome.next (creelRow_goesOn h hop hone htenant rfl (by simpa using hn)
    (seqCheck_open howner hseq (by simpa using hstate)) rfl), rfl, fun m hm hmine => ?_, fun m hm hother => ?_,
    hhost.trans (hparts .host (by simp))⟩
  · have hkept := (List.mem_filter.mp (htrimmed ▸ hm)).2
    simpa [hmine] using hkept
  · exact htrimmed ▸ List.mem_filter.mpr ⟨hm, by simp [hother]⟩

theorem creelSeqClose_closes (h : Starts s true via p j s1) (hop : p.base = 0x0303) (hone : profileOne p = true) (hn : pSeq p ≤ 4095)
    (htenant : s1.tenantOpen = true) (howner : s1.srvOwnsSeq (pSeq p) = false) (hseq : s1.crlSeq (pSeq p) = some q)
    (hstate : q.state = 1 ∨ q.state = 2) (hquiet : ∀ w ∈ s1.crl.waiting, crlSeqOf w.1.addr ≠ pSeq p) :
    Goes (exec (.creelSeqClose via p) s) (fun u => u.crl.busy = some (pSeq p, true) ∧ u.crlSeq (pSeq p) = none ∧
      (∀ m ∈ u.crl.maps, m.seq ≠ pSeq p) ∧ (∀ m ∈ s1.crl.maps, m.seq ≠ pSeq p → m ∈ u.crl.maps) ∧
      u.mem = s1.mem ∧ u.host = s1.host) := by
  obtain ⟨hmaps, -, hparts⟩ := flushed_shows via j hquiet
  obtain ⟨hgone, hclosed, hmem, hhost⟩ := crlClose_shows ((s1.beginJob true via j).crlFlush (pSeq p)) (pSeq p)
  rw [hmaps] at hclosed
  refine ⟨_, congrArg Host.Outcome.next (creelRow_goesOn h hop hone htenant rfl (by simpa using hn)
    (seqCheck_open howner hseq (by simpa using hstate)) rfl), rfl, hgone, fun m hm => ?_, fun m hm hother => ?_,
    hmem.trans (hparts .mem (by simp)), hhost.trans (hparts .host (by simp))⟩
  · have hkept := (List.mem_filter.mp (hclosed ▸ hm)).2
    simpa using hkept
  · exact hclosed ▸ List.mem_filter.mpr ⟨hm, by simp [hother]⟩

theorem trimCloseDone_idle (hbusy : s.crl.busy = none) : exec .trimCloseDone s = .next s := by
  change execTrimCloseDone s = _
  rw [execTrimCloseDone, hbusy]

theorem trimCloseDone_ends {b : Nat × Bool} (hbusy : s.crl.busy = some b) (hheld : s.crl.held = []) :
    Ends (exec .trimCloseDone s) .mcc .done (fun u => u.crl = { s.crl with busy := none } ∧ Keeps [.crl] s u) := by
  have hreleased : s.crlRelease = { s with crl := { s.crl with busy := none } } := by
    simp only [crlRelease, hheld, List.foldl_nil]
  have hrow : execTrimCloseDone s = .next (s.crlRelease.finish .mcc .done) := by
    rw [execTrimCloseDone, hbusy]
    rfl
  rw [hreleased] at hrow
  exact ⟨_, hrow, rfl, keeps_withCrl s _⟩

end

end Sys2Proof.Machine.State

namespace Sys2Proof

open Machine Machine.State

/-- Settles O23: a row that fits in the state of its checks fits in that in which it begins, for the fit rests on Creel's tables; a TRIM
or CLOSE filters the mapped pages once, and what it gives back to the skein pool changes no entry. -/
theorem creelSequencesLiveAndEnd : Obligations.CreelSequencesLiveAndEnd := by
  unfold Obligations.CreelSequencesLiveAndEnd
  refine ⟨⟨?_, ?_, ?_, ?_⟩, ?_, ?_, ?_, ?_⟩
  · exact fun s via p j s1 w h hop hone hn hgeom hbasic htenant howner hclosed hfit =>
      creelSeqOpen_opens h hop hone hn hgeom hbasic htenant howner hclosed hfit
  · exact fun s via p j s1 q w h hop hone hn htenant howner hseq hstate htok hfit =>
      creelSeqReserve_reserves h hop hone hn htenant howner hseq hstate htok hfit
  · exact fun s via p j s1 q w h hop hone hn htenant howner hseq hstate htok hbasic hfit =>
      creelUnpark_reserves h hop hone hn htenant howner hseq hstate htok hbasic hfit
  · exact fun s via p j s1 q h hop hone hn hgeom hbasic htenant howner hseq hstate =>
      creelSeqOpen_refused h hop hone hn hgeom hbasic htenant howner hseq hstate
  · exact fun s via p j s1 q h hop hone hn htenant howner hseq hstate hquiet =>
      creelSeqTrim_trims h hop hone hn htenant howner hseq hstate hquiet
  · exact fun s via p j s1 q h hop hone hn htenant howner hseq hstate hquiet =>
      creelSeqClose_closes h hop hone hn htenant howner hseq hstate hquiet
  · exact fun s hbusy => trimCloseDone_idle hbusy
  · exact fun s b hbusy hheld => trimCloseDone_ends hbusy hheld

end Sys2Proof
end

section
/-! Creel pools and walks (O24): queries, pages put into pools and taken out, skein grants, walks, zero fills. -/

namespace Sys2Proof.Machine.State

open Sys2Proof.Safety

/-! ## Queries (07 R273) -/

section
variable {s s1 : State} {via : Via} {p : Packet} {j : Job}

/-- A query of a sequence in range passes its checks. -/
theorem creelSeqQuery_inRange (hone : profileOne p = true) (hn : pSeq p ≤ 4095) :
    (if !profileOne p || decide (4095 < pSeq p) then some Ans.param else none) = none := by
  simp [hone, hn]

theorem creelSeqQuery_lost {q : CrlSeq} {t : Nat} (h : Starts s true via p j s1) (hop : p.base = 0x0304) (hone : profileOne p = true)
    (hn : pSeq p ≤ 4095) (hseq : s1.crlSeq (pSeq p) = some q) (hlost : q.firstLost = some t) :
    Ends (exec (.creelSeqQuery via p) s) via
      (.ok (q.cause * 4 + q.state) ((s1.crl.maps.filter (fun m => m.seq == pSeq p)).length * 2 ^ 32 + t))
      (fun u => u = s1.beginJob true via j) := by
  have hbegun := crl_beginJob s1 true via j
  refine ⟨_, ?_, rfl⟩
  change execCreelSeqQuery via p s = _
  rw [execCreelSeqQuery, hop, beq_self_eq_true, runRow_starts h (creelSeqQuery_inRange hone hn)]
  simp only [crlSeq_congr hbegun, hseq, hlost, hbegun]

theorem creelSeqQuery_closed (h : Starts s true via p j s1) (hop : p.base = 0x0304) (hone : profileOne p = true) (hn : pSeq p ≤ 4095)
    (hseq : s1.crlSeq (pSeq p) = none) :
    ∃ x, Ends (exec (.creelSeqQuery via p) s) via (.ok 0 x) (fun u => Keeps [.free] (s1.beginJob true via j) u) := by
  refine ⟨((s1.beginJob true via j).open_ 32).1, ((s1.beginJob true via j).open_ 32).2, ?_, keeps_open _ 32⟩
  change execCreelSeqQuery via p s = _
  rw [execCreelSeqQuery, hop, beq_self_eq_true, runRow_starts h (creelSeqQuery_inRange hone hn)]
  simp only [crlSeq_congr (crl_beginJob s1 true via j), hseq]

/-! ## Pools (07 R245, R273) -/

theorem creelPoolAdd_adds (h : Starts s true via p j s1) (hop : p.base = 0x0310) (hone : profileOne p = true) (hu : p.u8 16 < 8)
    (hon : s1.stackOn (p.u8 16) = true) (htenant : s1.tenantOpen = true) (hown : s1.isOwn (modOf (p.u64 24)) = true)
    (hspace : spaceOf (p.u64 24) = 0) (hstack : offOf (p.u64 24) / 2 ^ 36 = p.u8 16) (halign : p.u64 24 % 65536 = 0)
    (hend : offOf (p.u64 24) % 2 ^ 36 + p.u32 20 * 65536 ≤ s1.allocEnd (p.u8 16))
    (hnew : s1.poolTouches (memKey (p.u64 24)) (p.u32 20) = false) :
    Ends (exec (.creelPoolAdd via p) s) via .done (fun u =>
      u.crl = { s1.crl with zeroing := s1.crl.zeroing ++
        (List.range (p.u32 20)).map (fun i => ⟨memKey (p.u64 24) + i * 65536, false, false⟩) } ∧
      Keeps [.crl] (s1.beginJob true via j) u) := by
  refine ⟨_, congrArg Host.Outcome.next (creelRow_ends h hop hone htenant (unitGone_on hon) (by simpa using hu) ?_ rfl), ?_,
    keeps_withCrl _ _⟩
  · simpa [hown, hspace, halign, hnew] using ⟨hstack, hend⟩
  · rw [poolPut, crl_beginJob, List.map_map]
    rfl

theorem creelPoolRemove_refused (h : Starts s true via p j s1) (hop : p.base = 0x0311) (hone : profileOne p = true) (hu : p.u8 16 < 8)
    (hon : s1.stackOn (p.u8 16) = true) (htenant : s1.tenantOpen = true)
    (hfew : s1.poolFree (p.u8 16) < s1.poolResv (p.u8 16) + p.u32 20) :
    exec (.creelPoolRemove via p) s = .next (s1.finish via (.err stsCrlPool)) :=
  congrArg Host.Outcome.next (creelRow_fails h hop hone htenant (unitGone_on hon) (by simpa using hu) (if_pos hfew))

theorem creelPoolRemove_removes {w x : State} {ks : List Nat} (h : Starts s true via p j s1) (hop : p.base = 0x0311)
    (hone : profileOne p = true) (hu : p.u8 16 < 8) (hon : s1.stackOn (p.u8 16) = true) (htenant : s1.tenantOpen = true)
    (hmany : s1.poolResv (p.u8 16) + p.u32 20 ≤ s1.poolFree (p.u8 16))
    (hdest : s1.runCheck mccUnit (p.u64 24) (8 * p.u32 20) opStore = none)
    (htaken : poolTake (p.u8 16) (p.u32 20) (s1.beginJob true via j) = (w, ks))
    (hput : w.putGlobal mccUnit (p.u64 24) ((ks.map (fun k => leBytes 8 (ownAddr k))).flatten) = (x, none)) :
    exec (.creelPoolRemove via p) s = .next (x.finish via .done) :=
  congrArg Host.Outcome.next (creelRow_ends h hop hone htenant (unitGone_on hon) (by simpa using hu)
    (by rw [if_neg (Nat.not_lt.mpr hmany), hdest]) (by simp only [htaken, hput]))

/-! ## Skein grants (07 R253) -/

/-- A further skein page of a stack taken, where it has one, and put behind those taken before. -/
def takeAnother (u : Nat) (acc : State × List Nat) : State × List Nat :=
  match acc.1.takeSkein [u] with
  | (s, some k) => (s, acc.2 ++ [k])
  | (s, none) => (s, acc.2)

theorem takeAnother_state (u : Nat) (acc : State × List Nat) : (takeAnother u acc).1 = (acc.1.takeSkein [u]).1 := by
  unfold takeAnother
  split <;> rename_i htaken <;> rw [htaken]

/-- Skein pages taken from a stack, as CREEL_SKEIN_GRANT takes them. -/
def takeSkeins (u n : Nat) (s : State) : State × List Nat := (List.range n).foldl (fun acc _ => takeAnother u acc) (s, [])

theorem takeSkeins_frame (u n : Nat) (s : State) :
    Keeps [.regs, .ecc, .free] s (takeSkeins u n s).1 ∧ RegsKeep [(Reg.HBM_REMAP_STATE u).addr] s (takeSkeins u n s).1 := by
  refine List.foldlRecOn (List.range n) (fun acc _ => takeAnother u acc) (b := (s, []))
    (motive := fun acc => Keeps [.regs, .ecc, .free] s acc.1 ∧ RegsKeep [(Reg.HBM_REMAP_STATE u).addr] s acc.1)
    ⟨Keeps.refl _ s, RegsKeep.of_regs_eq rfl⟩ (fun acc hacc _ _ => ?_)
  obtain ⟨hparts, hregs⟩ := hacc
  obtain ⟨hparts', hregs'⟩ := takeSkein_frame acc.1 u
  rw [takeAnother_state]
  exact ⟨hparts.trans hparts', hregs.trans hregs'⟩

/-- The effect of CREEL_SKEIN_GRANT: its pages taken, put into the unit's pool, and counted as granted. -/
def skeinGranted (s : State) (u n : Nat) : State :=
  ((takeSkeins u n s).1.poolPut (takeSkeins u n s).2 true).bump (Reg.CRL_POOL_GRANTED u) n

theorem skeinGranted_shows (s : State) (u n : Nat) :
    (s.skeinGranted u n).rd (Reg.CRL_POOL_GRANTED u) =
        satAdd (2 ^ (Reg.CRL_POOL_GRANTED u).width - 1) (s.rd (Reg.CRL_POOL_GRANTED u)) n ∧
      (s.skeinGranted u n).mem = s.mem ∧ (s.skeinGranted u n).crl.maps = s.crl.maps ∧ (s.skeinGranted u n).crl.seqs = s.crl.seqs := by
  obtain ⟨hparts, hregs⟩ := takeSkeins_frame u n s
  have hcrl : (takeSkeins u n s).1.crl = s.crl := hparts .crl (by simp)
  have hcount : (takeSkeins u n s).1.rd (Reg.CRL_POOL_GRANTED u) = s.rd (Reg.CRL_POOL_GRANTED u) := hregs.rd (by
    simp only [Reg.CRL_POOL_GRANTED, Reg.HBM_REMAP_STATE, List.mem_singleton]
    omega)
  refine ⟨?_, hparts .mem (by simp), (congrArg Crl.maps hcrl :), (congrArg Crl.seqs hcrl :)⟩
  rw [skeinGranted, rd_bump _ _ _ (show 32 ≤ 64 by decide), ← hcount]
  rfl

/-- The trouble log's count is not a count of granted pages. -/
theorem rd_poolGranted_beginJob (s : State) (timed : Bool) (via : Via) (j : Job) (u : Nat) :
    (s.beginJob timed via j).rd (Reg.CRL_POOL_GRANTED u) = s.rd (Reg.CRL_POOL_GRANTED u) :=
  (beginJob_regsKeep s timed via j).rd (by
    simp only [Reg.CRL_POOL_GRANTED, Reg.RAS_LOG_SEQ, List.mem_singleton]
    omega)

theorem creelSkeinGrant_grants (h : Starts s true via p j s1) (hop : p.base = 0x0340) (hone : profileOne p = true) (hu : p.u8 16 < 8)
    (hon : s1.stackOn (p.u8 16) = true) (htenant : s1.tenantOpen = true)
    (hall : 16384 + p.u32 20 ≤ ((List.range 8).filter s1.stackOk).foldl (fun c k => c + s1.fd (Fld.HBM_REMAP_STATE_FREE k)) 0)
    (hhere : p.u32 20 ≤ s1.fd (Fld.HBM_REMAP_STATE_FREE (p.u8 16))) :
    Ends (exec (.creelSkeinGrant via p) s) via .done (fun u =>
      u.rd (Reg.CRL_POOL_GRANTED (p.u8 16)) =
        satAdd (2 ^ (Reg.CRL_POOL_GRANTED (p.u8 16)).width - 1) (s1.rd (Reg.CRL_POOL_GRANTED (p.u8 16))) (p.u32 20) ∧
      u.mem = s1.mem ∧ u.crl.maps = s1.crl.maps ∧ u.crl.seqs = s1.crl.seqs) := by
  have hbegun := crl_beginJob s1 true via j
  obtain ⟨hcount, hmem, hmaps, hseqs⟩ := skeinGranted_shows (s1.beginJob true via j) (p.u8 16) (p.u32 20)
  refine ⟨(s1.beginJob true via j).skeinGranted (p.u8 16) (p.u32 20),
    congrArg Host.Outcome.next (creelRow_ends h hop hone htenant (unitGone_on hon) (by simpa using hu) ?_ ?_), ?_,
    hmem.trans (keeps_beginJob s1 true via j .mem (by simp)), hmaps.trans (congrArg Crl.maps hbegun),
    hseqs.trans (congrArg Crl.seqs hbegun)⟩
  · simp only [Bool.or_eq_true, decide_eq_true_eq]
    exact if_neg (by omega)
  · unfold skeinGranted takeSkeins takeAnother
    -- What taking a page does plays no part here: kept closed, the two runs over the pages agree step by step.
    generalize State.takeSkein = take
    rfl
  · rw [hcount, rd_poolGranted_beginJob]

end

/-! ## Walks (07 R241, R242) -/

/-- A unit's TLB with room takes a page, and nothing else of the state changes. -/
theorem tlbPut_room {s : State} {u : Nat} (n v : Nat) (hroom : (s.crl.tlb.filter (fun e => e.1 == u)).length < 512) :
    s.tlbPut u n v = { s with crl := { s.crl with tlb := (u, n, v) :: s.crl.tlb.filter (· != (u, n, v)) } } := by
  have hfewer : ((s.crl.tlb.filter (· != (u, n, v))).filter (fun e => e.1 == u)).length < 512 := by
    rw [List.filter_comm]
    exact lt_of_le_of_lt (List.length_filter_le _ _) hroom
  exact if_pos hfewer

section
variable {s : State}

theorem pageWalkComplete_translates {u n v : Nat} (hwalks : s.crl.walks.contains (u, n, v) = true)
    (hroom : (s.crl.tlb.filter (fun e => e.1 == u)).length < 512) :
    GoesOn (exec (.pageWalkComplete u n v .good) s) (·.crlRetry u) (fun w => (u, n, v) ∈ w.crl.tlb ∧
      w.crl.walks = s.crl.walks.filter (· != (u, n, v)) ∧ Keeps [.crl] s w) := by
  have hrow : execPageWalkComplete u n v .good s =
      .next ((tlbPut { s with crl := { s.crl with walks := s.crl.walks.filter (· != (u, n, v)) } } u n v).crlRetry u) := by
    simp only [execPageWalkComplete, hwalks, Bool.not_true, Bool.false_eq_true, if_false]
  rw [tlbPut_room (s := { s with crl := { s.crl with walks := s.crl.walks.filter (· != (u, n, v)) } }) n v hroom] at hrow
  exact ⟨_, hrow, List.mem_cons_self, rfl, keeps_withCrl s _⟩

theorem pageWalkComplete_none {u n v : Nat} (w : Walk) (hwalks : s.crl.walks.contains (u, n, v) = false) :
    exec (.pageWalkComplete u n v w) s = .next s := by
  change execPageWalkComplete u n v w s = _
  rw [execPageWalkComplete, hwalks]
  rfl

/-! ## Zero fills (07 R245, R248) -/

/-- A run of HBM zeroed: its bytes read 0, and no other byte changes. -/
theorem zeroHbm_zeroes (s : State) (k n : Nat) : (∀ i, i < n → (s.zeroHbm k n).byte (k + i) = 0) ∧ BytesKeep k n s (s.zeroHbm k n) :=
  ⟨fun i hi => Cells.get_clearRange_inside 0 (by omega) (by omega) s.mem,
    fun a ha => Cells.get_clearRange 0 k n a (by omega) s.mem⟩

theorem pageZeroFillDone_frees {page : Nat} {z : CrlZero} (hfind : s.crl.zeroing.find? (fun z => z.page == page) = some z) :
    GoesOn (exec (.pageZeroFillDone page) s)
      (fun w => if z.freed then (w.crlRetry (pageUnit page)).returnGranted (pageUnit page) else w.crlRetry (pageUnit page))
      (fun w => (∀ i, i < 65536 → w.byte (page + i) = 0) ∧ BytesKeep page 65536 s w ∧
        w.crl = { s.crl with zeroing := s.crl.zeroing.filter (fun y => y.page != page)
                             free := s.crl.free ++ [(page, z.granted)] }) := by
  obtain ⟨hzero, hbytes⟩ := zeroHbm_zeroes s page 65536
  refine ⟨{ s.zeroHbm page 65536 with
    crl := { s.crl with zeroing := s.crl.zeroing.filter (fun y => y.page != page)
                        free := s.crl.free ++ [(page, z.granted)] } }, ?_, hzero, hbytes, rfl⟩
  change execPageZeroFillDone page s = _
  rw [execPageZeroFillDone, hfind]
  rfl

theorem pageZeroFillDone_none {page : Nat} (hfind : s.crl.zeroing.find? (fun z => z.page == page) = none) :
    exec (.pageZeroFillDone page) s = .next s := by
  change execPageZeroFillDone page s = _
  rw [execPageZeroFillDone, hfind]

end

end Sys2Proof.Machine.State

namespace Sys2Proof

open Machine Machine.State

/-- Settles O24: each row on the tables in which its command begins, which are those of its checks; a grant's skein pages come from one
stack's counts and leave the count of granted pages alone, and a zero fill clears its own bytes only. -/
theorem creelPoolsAndWalks : Obligations.CreelPoolsAndWalks := by
  unfold Obligations.CreelPoolsAndWalks
  refine ⟨⟨?_, ?_, ?_, ?_, ?_⟩, ?_, ?_, ?_, ?_⟩
  · exact fun s via p j s1 q t h hop hone hn hseq hlost => creelSeqQuery_lost h hop hone hn hseq hlost
  · exact fun s via p j s1 h hop hone hn hseq => creelSeqQuery_closed h hop hone hn hseq
  · exact fun s via p j s1 h hop hone hu hon htenant hown hspace hstack halign hend hnew =>
      creelPoolAdd_adds h hop hone hu hon htenant hown hspace hstack halign hend hnew
  · exact fun s via p j s1 h hop hone hu hon htenant =>
      ⟨fun hfew => creelPoolRemove_refused h hop hone hu hon htenant hfew,
        fun hmany hdest w ks x htaken hput => creelPoolRemove_removes h hop hone hu hon htenant hmany hdest htaken hput⟩
  · exact fun s via p j s1 h hop hone hu hon htenant hall hhere => creelSkeinGrant_grants h hop hone hu hon htenant hall hhere
  · exact fun s u n v hwalks hroom => pageWalkComplete_translates hwalks hroom
  · exact fun s u n v w hwalks => pageWalkComplete_none w hwalks
  · exact fun s page z hfind => pageZeroFillDone_frees hfind
  · exact fun s page hfind => pageZeroFillDone_none hfind

end Sys2Proof
end

section
/-! Memory and host memory under the shared operations (for O5): what counting, faults, remaps, retirement and the links do leaves both
alone. -/

namespace Sys2Proof.Safety

open Sys2Proof.Machine

/-- Two states with the same memory and the same host memory. -/
structure SameMemory (s t : State) : Prop where
  mem : t.mem = s.mem
  host : t.host = s.host

theorem SameMemory.refl (s : State) : SameMemory s s := ⟨rfl, rfl⟩

theorem SameMemory.trans {s t u : State} (h : SameMemory s t) (h' : SameMemory t u) : SameMemory s u :=
  ⟨h'.mem.trans h.mem, h'.host.trans h.host⟩

/-- The last step first, so that the state before it is known when the steps to it are looked at. -/
theorem SameMemory.after {s t u : State} (h' : SameMemory t u) (h : SameMemory s t) : SameMemory s u := h.trans h'

theorem SameMemory.of_keeps {ps : List Part} {s t : State} (h : Keeps ps s t) (hmem : .mem ∉ ps := by decide)
    (hhost : .host ∉ ps := by decide) : SameMemory s t :=
  ⟨h .mem hmem, h .host hhost⟩

theorem SameMemory.foldl {α : Type} {f : State → α → State} {l : List α} (s : State) (h : ∀ u, ∀ a ∈ l, SameMemory u (f u a)) :
    SameMemory s (l.foldl f s) :=
  List.foldlRecOn l f (SameMemory.refl s) (fun u hu a ha => hu.trans (h u a ha))

/-- The state of an operation's outcome, named by a match on the outcome. -/
theorem SameMemory.fst {α : Type} {s u : State} {a : α} {x : State × α} (h : SameMemory s x.1) (hx : x = (u, a)) : SameMemory s u := by
  subst hx
  exact h

theorem sameMemory_wr (s : State) (r : Reg) (v : Nat) : SameMemory s (s.wr r v) := ⟨rfl, rfl⟩

theorem sameMemory_withEcc (s : State) (x : Ecc) : SameMemory s { s with ecc := x } := ⟨rfl, rfl⟩

theorem sameMemory_pmuEvent (s : State) (g ev n : Nat) (o : Option Origin) : SameMemory s (s.pmuEvent g ev n o) :=
  .of_keeps (pmuEvent_frame s g ev n o).1

theorem sameMemory_tileEvent (s : State) (t e n : Nat) : SameMemory s (s.tileEvent t e n) := .of_keeps (keeps_tileEvent s t e n)

theorem sameMemory_trouble (s : State) (code sev island addr data : Nat) : SameMemory s (s.trouble code sev island addr data) :=
  .of_keeps (keeps_trouble s code sev island addr data)

theorem sameMemory_healthCheck (s : State) : SameMemory s s.healthCheck := .of_keeps (State.keeps_healthCheck s)

theorem sameMemory_persist (s : State) (body : Nat) : SameMemory s (s.persist body) := ⟨rfl, rfl⟩

end Sys2Proof.Safety

namespace Sys2Proof.Machine.State

open Sys2Proof.Safety

/-! ## Remaps and retirement (06 R213 to R215, R221 to R223; 19 R623) -/

theorem sameMemory_laneSite (s : State) (t : Nat) : SameMemory s (s.laneSite t) := .of_keeps (keeps_laneSite s t)

theorem sameMemory_moveStart (s : State) (site : Nat) : SameMemory s (s.moveStart site) := .of_keeps (keeps_moveStart s site)

/-- A tile site marked for retirement: what the Rim lane and Pairing show of it, the tile's fence, and the token. -/
theorem sameMemory_markSite (s : State) (site : Nat) : SameMemory s (s.markSite site) := by
  unfold markSite
  extract_lets retired fenced a
  have hfenced : SameMemory s fenced := by
    refine SameMemory.trans (t := retired) ⟨rfl, rfl⟩ ?_
    cases h : retired.tileOf site with
    | none =>
      rw [show fenced = retired by simp only [fenced, h]]
      exact .refl retired
    | some t =>
      refine SameMemory.trans (sameMemory_laneSite retired t) ?_
      simp only [fenced, h]
      exact ⟨rfl, rfl⟩
  split_ifs
  · exact .refl s
  · exact hfenced.trans ⟨rfl, rfl⟩
  · exact (sameMemory_moveStart _ site).after (hfenced.trans ⟨rfl, rfl⟩)

theorem sameMemory_remapLine (s : State) (key : Nat) (ue : Bool) : SameMemory s (s.remapLine key ue) := by
  unfold remapLine
  extract_lets line used poisoned ecc forgotten ecc' remapped stored k m full spare site marked
  have hforgotten : SameMemory s forgotten := by
    refine (sameMemory_withEcc poisoned _).after ?_
    cases ue <;> exact ⟨rfl, rfl⟩
  have hstored : SameMemory s stored := (sameMemory_persist remapped _).after ((sameMemory_withEcc forgotten _).after hforgotten)
  split_ifs
  · exact (sameMemory_wr stored _ _).after hstored
  · exact hstored
  · exact (sameMemory_healthCheck _).after ((sameMemory_trouble full _ _ _ _ _).after ((sameMemory_wr forgotten _ _).after hforgotten))
  · have hmarked : SameMemory forgotten marked := by
      by_cases h : spare = true
      · rw [show marked = forgotten.markSite site from if_pos h]
        exact sameMemory_markSite _ _
      · rw [show marked = forgotten from if_neg h]
        exact .refl _
    exact (sameMemory_trouble marked _ _ _ _ _).after (hforgotten.trans hmarked)

theorem sameMemory_pick {α : Type} (s : State) (l : List α) : SameMemory s (s.pick l).1 := .of_keeps (keeps_pick s l)

theorem sameMemory_takeSkein (s : State) (sts : List Nat) : SameMemory s (s.takeSkein sts).1 := by
  unfold takeSkein
  split
  · rename_i u hst
    exact (sameMemory_pick s sts).fst hst
  · rename_i u st hst
    have hstack : SameMemory s u := (sameMemory_pick s sts).fst hst
    split
    · rename_i v hpage
      exact hstack.trans ((sameMemory_pick u (u.freeSkein st)).fst hpage)
    · rename_i v k hpage
      exact (sameMemory_wr _ _ _).after ((sameMemory_withEcc v _).after
        (hstack.trans ((sameMemory_pick u (u.freeSkein st)).fst hpage)))

theorem sameMemory_retirePage (s : State) (key : Nat) : SameMemory s (s.retirePage key) := by
  simp only [retirePage]
  split
  · exact .refl s
  · split
    · rename_i u k htaken
      have hu := ((sameMemory_takeSkein _ _).fst htaken).after (sameMemory_withEcc s _)
      exact (sameMemory_wr _ _ _).after ((sameMemory_withEcc u _).after hu)
    · rename_i u htaken
      have hu := ((sameMemory_takeSkein _ _).fst htaken).after (sameMemory_withEcc s _)
      exact (sameMemory_healthCheck _).after ((sameMemory_persist _ _).after ((sameMemory_trouble _ _ _ _ _ _).after
        ((sameMemory_wr _ _ _).after ((sameMemory_withEcc u _).after hu))))

theorem sameMemory_countUe (s : State) (key : Nat) : SameMemory s (s.countUe key) := by
  unfold countUe
  split
  · exact (sameMemory_pmuEvent s _ _ _ _).trans ⟨rfl, rfl⟩
  · exact sameMemory_tileEvent s _ _ _
  · exact (sameMemory_pmuEvent s _ _ _ _).trans ⟨rfl, rfl⟩

theorem sameMemory_countPoison (s : State) (key : Nat) : SameMemory s (s.countPoison key) := by
  unfold countPoison
  split
  · exact (sameMemory_pmuEvent s _ _ _ _).trans ⟨rfl, rfl⟩
  · exact sameMemory_tileEvent s _ _ _
  · exact (sameMemory_pmuEvent s _ _ _ _).trans ⟨rfl, rfl⟩

theorem sameMemory_trackPage (s : State) (key : Nat) : SameMemory s (s.trackPage key) := by
  unfold trackPage
  extract_lets page st mine c pages ecc tracked
  split
  · exact (sameMemory_retirePage tracked key).after (sameMemory_withEcc s _)
  · exact sameMemory_withEcc s _

theorem sameMemory_trackWord (s : State) (key : Nat) : SameMemory s (s.trackWord key) := by
  unfold trackWord
  extract_lets w c
  split
  · exact sameMemory_remapLine s key false
  · exact sameMemory_withEcc s _

theorem sameMemory_onCe (s : State) (key : Nat) : SameMemory s (s.onCe key) := by
  unfold onCe
  extract_lets counted
  have hcount : SameMemory s counted := .of_keeps (keeps_countCe s key)
  split
  · exact hcount.trans (sameMemory_trackPage counted key)
  · exact hcount.trans (sameMemory_trackWord counted key)

theorem sameMemory_onUe (s : State) (key : Nat) : SameMemory s (s.onUe key) := by
  unfold onUe
  extract_lets counted
  split
  · exact (sameMemory_retirePage _ key).after ((sameMemory_withEcc counted _).after (sameMemory_countUe s key))
  · exact (sameMemory_remapLine counted key true).after (sameMemory_countUe s key)

/-! ## Reads at a home -/

theorem sameMemory_lineTouch (s : State) (key n : Nat) (write : Bool) : SameMemory s (s.lineTouch key n write) :=
  .of_keeps (keeps_lineTouch s key n write)

theorem sameMemory_logUe (s : State) (r : Reader) (addr : Nat) (poison : Bool) : SameMemory s (s.logUe r addr poison) :=
  sameMemory_trouble s _ _ _ _ _

/-- A read at its home changes no byte, however it ends. -/
theorem sameMemory_homeRead (s : State) (r : Reader) (key n : Nat) (seen : Seen) : SameMemory s (s.homeRead r key n seen).1 := by
  unfold homeRead
  extract_lets touched ms counted bs
  have htouch : SameMemory s touched := sameMemory_lineTouch s key n false
  split
  · exact (sameMemory_logUe _ r _ _).after ((sameMemory_countPoison touched _).after htouch)
  · split
    · refine (sameMemory_logUe _ r _ _).after (htouch.trans ?_)
      split
      · exact sameMemory_countPoison touched _
      · exact sameMemory_countUe touched _
    · have hcounted : SameMemory s counted := htouch.trans (SameMemory.foldl touched fun u m _ => .of_keeps (keeps_countCe u m.key))
      split
      · exact hcounted
      · exact (sameMemory_onCe counted key).after hcounted
      · exact (sameMemory_logUe _ r _ _).after ((sameMemory_onUe counted key).after hcounted)

/-! ## Links and routes (09 R317 to R319, R331, R332) -/

theorem sameMemory_setLink (s : State) (l : Nat) (x : Link) : SameMemory s (s.setLink l x) := ⟨rfl, rfl⟩

theorem sameMemory_sendFlit (s : State) (l : Nat) (f : Flit) (nak : Bool) : SameMemory s (s.sendFlit l f nak) := ⟨rfl, rfl⟩

theorem sameMemory_countSent (s : State) (g : Nat) (m : LinkMsg) : SameMemory s (s.countSent g m) := by
  unfold countSent
  split
  · exact (sameMemory_pmuEvent _ _ _ _ _).after (sameMemory_pmuEvent s _ _ _ _)
  · exact .refl s

theorem sameMemory_egressAux (l k : Nat) (s : State) : SameMemory s (egressAux l k s) := by
  induction k generalizing s with
  | zero => exact .refl s
  | succ k ih =>
    have hopen : ∀ ctl : Bool, SameMemory s (if ctl then s.open_ 4 else (0, s)).2 := fun ctl => by cases ctl <;> exact ⟨rfl, rfl⟩
    unfold egressAux
    extract_lets x
    split
    · exact .refl s
    · split
      · exact .refl s
      · rename_i x ms _
        extract_lets ctl sorted
        have hnibble := hopen ctl
        generalize (if ctl then s.open_ 4 else (0, s)) = nibble at hnibble ⊢
        obtain ⟨nib, u⟩ := nibble
        have hcounted : SameMemory u (sorted.foldl (fun s m => s.countSent (20 + s.portOf l) m) u) :=
          SameMemory.foldl u fun v m _ => sameMemory_countSent v _ m
        have hflit : ∀ (v : State) (y : Link) (f : Flit), SameMemory v
            (((v.pmuEvent (20 + v.portOf l) 0x120 1 none).setLink l y).sendFlit l f false) := fun v y f =>
          (sameMemory_sendFlit _ l f false).after ((sameMemory_setLink _ l y).after (sameMemory_pmuEvent v _ _ _ _))
        exact (ih _).after ((hflit _ _ _).after (hnibble.trans hcounted))

theorem sameMemory_enqueue (s : State) (l : Nat) (m : LinkMsg) : SameMemory s (s.enqueue l m) :=
  (sameMemory_egressAux l _ _).after ⟨rfl, rfl⟩

theorem sameMemory_route (s : State) (m : LinkMsg) : SameMemory s (s.route m) := by
  unfold route
  extract_lets ls own unit home lane
  split
  · exact ⟨rfl, rfl⟩
  · split
    · exact sameMemory_enqueue _ _ _
    · refine (sameMemory_enqueue _ _ _).after ?_
      split <;> exact ⟨rfl, rfl⟩
    · split
      · exact ⟨rfl, rfl⟩
      · exact .refl s

theorem sameMemory_launchResp (s : State) (r : Resp) : SameMemory s (s.launchResp r) := by
  unfold launchResp
  extract_lets sent
  split
  · exact ⟨rfl, rfl⟩
  · exact (sameMemory_route sent _).after ⟨rfl, rfl⟩

end Sys2Proof.Machine.State
end

section
/-! The form of the stores under a remote operation (O5): what it writes at its home, in Creel's regions and in host memory keeps the
canonical form, and nothing else that it sets off writes a byte. -/

namespace Sys2Proof.Safety

open Sys2Proof.Machine

/-- A step that keeps the canonical form of memory and of host memory. -/
def KeepsForm (s t : State) : Prop := Memory.wf s = true → Memory.wf t = true

theorem SameMemory.keepsForm {s t : State} (h : SameMemory s t) : KeepsForm s t := fun hs => (Memory.wf_of h.mem h.host).trans hs

theorem KeepsForm.trans {s t u : State} (h : KeepsForm s t) (h' : KeepsForm t u) : KeepsForm s u := fun hs => h' (h hs)

theorem KeepsForm.after {s t u : State} (h' : KeepsForm t u) (h : KeepsForm s t) : KeepsForm s u := h.trans h'

theorem KeepsForm.fst {α : Type} {s u : State} {a : α} {x : State × α} (h : KeepsForm s x.1) (hx : x = (u, a)) : KeepsForm s u := by
  subst hx
  exact h

theorem KeepsForm.foldl {α : Type} {f : State → α → State} {l : List α} (s : State) (h : ∀ u, ∀ a ∈ l, KeepsForm u (f u a)) :
    KeepsForm s (l.foldl f s) :=
  List.foldlRecOn (motive := KeepsForm s) l f (fun hs => hs) (fun u hu a ha => hu.trans (h u a ha))

theorem sameMemory_withCrl (s : State) (x : Crl) : SameMemory s { s with crl := x } := ⟨rfl, rfl⟩

theorem sameMemory_withHif (s : State) (x : Hif) : SameMemory s { s with hif := x } := ⟨rfl, rfl⟩

theorem sameMemory_gatedAccess (s : State) (addr : Nat) : SameMemory s (s.gatedAccess addr) := ⟨rfl, rfl⟩

end Sys2Proof.Safety

namespace Sys2Proof.Machine.State

open Sys2Proof.Safety

/-! ## Stores, atomics and tokens at a home -/

theorem keepsForm_homeWrite (s : State) (key : Nat) (bs : List Byte) : KeepsForm s (s.homeWrite key bs) := by
  unfold homeWrite
  extract_lets n touched whole written
  split
  · exact fun hs => hs
  · have hwritten : KeepsForm touched written := Memory.wf_memWrite key bs
    exact (sameMemory_withEcc written _).keepsForm.after (hwritten.after (sameMemory_lineTouch s key n true).keepsForm)

theorem keepsForm_homeStore (s : State) (r : Reader) (key : Nat) (bs : List Byte) (seen : Seen) :
    KeepsForm s (s.homeStore r key bs seen).1 := by
  unfold homeStore
  split
  · split
    · rename_i u hread
      exact ((sameMemory_homeRead s r key bs.length seen).fst hread).keepsForm
    · rename_i u old hread
      have hu := (sameMemory_homeRead s r key bs.length seen).fst hread
      refine (keepsForm_homeWrite _ key bs).after (hu.trans ?_).keepsForm
      split
      · exact sameMemory_tileEvent u _ _ _
      · exact .refl u
  · exact keepsForm_homeWrite s key bs

theorem keeps_syncAdd (s : State) (t ctr inc : Nat) : Keeps countParts s (s.syncAdd t ctr inc) := by
  unfold syncAdd
  extract_lets site r v counted
  have hcounted : Keeps countParts s counted := keeps_tileEvent s t 34 1
  have hwr : ∀ (u : State) (r : Reg) (v : Nat), Keeps countParts u (u.wr r v) := fun u r v => (keeps_wr u r v).mono (by simp [countParts])
  split
  · exact hcounted.trans (hwr counted _ _)
  · exact ((hcounted.trans (hwr counted _ _)).trans (hwr _ (Reg.TILE_SYNC_OVF site) _)).trans
      ((keeps_trouble _ _ _ _ _ _).mono (by simp [countParts]))

theorem keeps_splSyncAdd (s : State) (ctr inc : Nat) : Keeps countParts s (s.splSyncAdd ctr inc) := by
  have hwr : ∀ (u : State) (r : Reg) (v : Nat), Keeps countParts u (u.wr r v) := fun u r v => (keeps_wr u r v).mono (by simp [countParts])
  unfold splSyncAdd
  extract_lets r v
  split
  · exact hwr s _ _
  · exact ((hwr s _ _).trans (hwr _ Reg.SPL_SYNC_OVF _)).trans ((keeps_trouble _ _ _ _ _ _).mono (by simp [countParts]))

/-- A token delivered counts at its tile or at the Splint engine, or at the debugger's count of gated units. -/
theorem keeps_deliver (s : State) (q : Req) : Keeps countParts s (s.deliver q) := by
  unfold deliver
  split
  · exact Keeps.refl _ s
  · split
    · exact keeps_syncAdd s _ _ _
    · split
      · exact keeps_syncAdd s _ _ _
      · exact ((keeps_wr s Reg.DBG_GATED_ACCESS_CNT _).trans (keeps_wr _ Reg.DBG_GATED_LAST _)).mono (by simp [countParts])
    · exact keeps_splSyncAdd s _ _
    · exact Keeps.refl _ s

theorem sameMemory_deliver (s : State) (q : Req) : SameMemory s (s.deliver q) := .of_keeps (keeps_deliver s q)

theorem keeps_memCount (s : State) (o : Option Origin) (key n : Nat) (read write : Bool) :
    Keeps countParts s (s.memCount o key n read write) := by
  have hevent : ∀ (u : State) (g ev n : Nat), Keeps countParts u (u.pmuEvent g ev n o) := fun u g ev n => (pmuEvent_frame u g ev n o).1
  unfold memCount
  extract_lets g
  split
  · exact ((hevent s _ _ _).trans (hevent _ _ _ _)).trans (hevent _ _ _ _)
  · exact hevent s _ _ _
  · exact Keeps.refl _ s

theorem keeps_tileCount (s : State) (q : Req) : Keeps countParts s (s.tileCount q) := by
  simp only [tileCount]
  split_ifs
  · exact keeps_tileEvent s _ _ _
  · exact keeps_tileEvent s _ _ _
  · exact keeps_tileEvent s _ _ _
  · exact Keeps.refl _ s

/-- An operation of a remote request counted at the memory it names. -/
def memCounted (s : State) (q : Req) : State :=
  (s.memCount (some (Origin.req q)) (memKey q.addr) (reqWidth q) (q.op != opStore) (q.op != opLoad)).tileCount q

theorem keeps_memCounted (s : State) (q : Req) : Keeps countParts s (s.memCounted q) :=
  (keeps_memCount s _ _ _ _ _).trans (keeps_tileCount _ q)

theorem keepsForm_memPerform (s : State) (q : Req) (seen : Seen) : KeepsForm s (s.memPerform q seen).1 := by
  unfold memPerform
  extract_lets k r counted n
  have hcounted : SameMemory s counted := .of_keeps (keeps_memCounted s q)
  have hread : ∀ {u : State} {m : Nat} {o : Option (List Byte)}, counted.homeRead r k m seen = (u, o) → SameMemory s u :=
    fun h => hcounted.trans ((sameMemory_homeRead counted r k _ seen).fst h)
  have hstore : ∀ {u : State} {b : Bool}, counted.homeStore r k q.data seen = (u, b) → KeepsForm s u :=
    fun h => hcounted.keepsForm.trans ((keepsForm_homeStore counted r k q.data seen).fst h)
  split
  · split
    · rename_i hu
      exact (hread hu).keepsForm
    · rename_i hu
      exact (hread hu).keepsForm
  · split
    · split
      · rename_i u hu
        exact (sameMemory_deliver u q).keepsForm.after (hstore hu)
      · rename_i hu
        exact hstore hu
    · split
      · rename_i hu
        exact (hread hu).keepsForm
      · rename_i u old hu
        refine (sameMemory_deliver _ q).keepsForm.after ((keepsForm_homeWrite _ k _).after ((hread hu).trans ?_).keepsForm)
        split
        · exact sameMemory_tileEvent u _ _ _
        · exact .refl u

/-! ## Creel's regions (07 R237, R242, R247 to R251) -/

theorem sameMemory_crlDiscard (s : State) (n u addr : Nat) (o : Option Origin) : SameMemory s (s.crlDiscard n u addr o) := by
  have hpark : SameMemory s (s.crlPark n 1 u (ownAddr addr) 250 Sts.noPages) := by
    unfold crlPark
    split
    · exact .refl s
    · split
      · exact .refl s
      · exact (sameMemory_trouble _ _ _ _ _ _).after (.of_keeps (keeps_setCrlSeq s _ _))
  unfold crlDiscard
  extract_lets parked marked
  refine (sameMemory_pmuEvent _ _ _ _ _).after ((sameMemory_wr marked _ _).after (hpark.trans ?_))
  unfold marked
  split
  · exact .of_keeps (keeps_setCrlSeq parked _ _)
  · exact .refl parked

theorem sameMemory_tlbPut (s : State) (u n v : Nat) : SameMemory s (s.tlbPut u n v) := by
  unfold tlbPut
  extract_lets rest mine
  split
  · exact sameMemory_withCrl s _
  · split
    · rename_i w e hpick
      exact (sameMemory_withCrl w _).after ((sameMemory_pick s mine).fst hpick)
    · rename_i w hpick
      exact (sameMemory_pick s mine).fst hpick

theorem sameMemory_crlAlloc (s : State) (q : CrlSeq) (u v : Nat) : SameMemory s (s.crlAlloc q u v).1 := by
  unfold crlAlloc
  split
  · split
    · rename_i w k g hpick
      exact (sameMemory_withCrl w _).after ((sameMemory_pick s _).fst hpick)
    · rename_i w hpick
      exact (sameMemory_pick s _).fst hpick
  · exact .refl s

/-- A translated access of a sequence's page. -/
theorem keepsForm_crlDo (s : State) (g : CrlSeq) (u : Nat) (q : Req) (seen : Seen) : KeepsForm s (s.crlDo g u q seen).1 := by
  unfold crlDo
  extract_lets n v o r write
  have hwrite : ∀ (w : State) (m : CrlPage), KeepsForm w (write w m).1 := fun w m => by
    unfold write
    extract_lets crl written counted
    have hcounted : SameMemory w counted := SameMemory.after (.of_keeps (keeps_memCount written _ _ _ _ _)) (sameMemory_withCrl w _)
    split
    · rename_i x hstore
      exact hcounted.keepsForm.trans ((keepsForm_homeStore counted r _ q.data seen).fst hstore)
    · rename_i x hstore
      exact hcounted.keepsForm.trans ((keepsForm_homeStore counted r _ q.data seen).fst hstore)
  split
  · split
    · exact fun hs => hs
    · rename_i m hmap
      extract_lets counted
      have hcounted : SameMemory s counted := .of_keeps (keeps_memCount s _ _ _ _ _)
      split
      · rename_i x bs hread
        exact (hcounted.trans ((sameMemory_homeRead counted r _ q.size seen).fst hread)).keepsForm
      · rename_i x hread
        exact (hcounted.trans ((sameMemory_homeRead counted r _ q.size seen).fst hread)).keepsForm
  · split
    · exact (sameMemory_crlDiscard s _ _ _ _).keepsForm
    · split
      · exact hwrite s _
      · split
        · rename_i w k granted halloc
          exact (hwrite _ _).after ((sameMemory_tlbPut _ u n v).after ((sameMemory_withCrl w _).after
            ((sameMemory_crlAlloc s g u v).fst halloc))).keepsForm
        · rename_i w halloc
          exact ((sameMemory_crlAlloc s g u v).fst halloc).keepsForm
        · rename_i w halloc
          exact ((sameMemory_crlDiscard w _ _ _ _).after ((sameMemory_crlAlloc s g u v).fst halloc)).keepsForm

theorem sameMemory_walkStart (s : State) (u n v : Nat) (o : Option Origin) : SameMemory s (s.walkStart u n v o) := by
  unfold walkStart
  split
  · exact .refl s
  · exact (sameMemory_pmuEvent _ _ _ _ _).after ((sameMemory_wr _ _ _).after (sameMemory_withCrl s _))

theorem sameMemory_crlWait (s : State) (q : Req) (seen : Seen) : SameMemory s (s.crlWait q seen) := ⟨rfl, rfl⟩

theorem keepsForm_crlArrive_arrive (q : Req) (seen : Seen) (s : State) (n v u : Nat) (g : CrlSeq) :
    KeepsForm s (crlArrive.arrive q seen s n v u g).1 := by
  unfold crlArrive.arrive
  have hhit : SameMemory s ((s.bumpWrap (Reg.CRL_TLB_HIT u) 48 1).pmuEvent (12 + u) 0x110 1 (some (Origin.req q))) :=
    (sameMemory_pmuEvent _ _ _ _ _).after (sameMemory_wr s _ _)
  split_ifs
  · exact (sameMemory_wr s _ _).keepsForm
  · exact (sameMemory_crlWait s q seen).keepsForm
  · split
    · rename_i w hdone
      exact (sameMemory_crlWait w q seen).keepsForm.after (hhit.keepsForm.trans ((keepsForm_crlDo _ g u q seen).fst hdone))
    · exact hhit.keepsForm.trans (keepsForm_crlDo _ g u q seen)
  · exact ((sameMemory_crlWait _ q seen).after (sameMemory_walkStart s u n v _)).keepsForm

theorem keepsForm_crlArrive (s : State) (q : Req) (seen : Seen) : KeepsForm s (s.crlArrive q seen).1 := by
  unfold crlArrive
  extract_lets n v u
  split
  · exact (sameMemory_wr s _ _).keepsForm
  · split
    · split
      · exact (sameMemory_withCrl s _).keepsForm
      · exact keepsForm_crlArrive_arrive q seen s n v u _
    · exact keepsForm_crlArrive_arrive q seen s n v u _

theorem sameMemory_gatherArrive (s : State) (q : Req) : SameMemory s (s.gatherArrive q).1 := by
  simp only [gatherArrive]
  split_ifs
  · exact .refl s
  · exact sameMemory_withCrl s _
  · exact sameMemory_withCrl s _

/-! ## Host memory (02 R84 to R86) -/

theorem sameMemory_openRecord (s : State) (w idx : Nat) : SameMemory s (s.openRecord w idx).1 := by
  unfold openRecord
  split
  · exact .refl s
  · extract_lets raw iv aad good
    split
    · exact sameMemory_wr s _ _
    · exact sameMemory_withHif s _

theorem sameMemory_openRecords (s : State) (w : Nat) (l : List Nat) : SameMemory s (s.openRecords w l).1 := by
  induction l generalizing s with
  | nil => exact .refl s
  | cons i is ih =>
    unfold openRecords
    split
    · rename_i u hopen
      exact (sameMemory_openRecord s w i).fst hopen
    · rename_i u p hopen
      have hu := (sameMemory_openRecord s w i).fst hopen
      split
      · rename_i x hrest
        exact hu.trans ((ih u).fst hrest)
      · rename_i x ps hrest
        exact hu.trans ((ih u).fst hrest)

theorem sameMemory_hostLoad (s : State) (a n : Nat) : SameMemory s (s.hostLoad a n).1 := by
  unfold hostLoad
  split
  · split
    · exact .refl s
    · rename_i w b _
      extract_lets o first cnt
      split
      · rename_i u hopen
        exact (sameMemory_openRecords s w _).fst hopen
      · rename_i u ps hopen
        exact (sameMemory_openRecords s w _).fst hopen
  · exact .refl s

theorem keepsForm_sealRecord (s : State) (w idx : Nat) (payload : List Byte) : KeepsForm s (s.sealRecord w idx payload) := by
  unfold sealRecord
  split
  · exact fun hs => hs
  · rename_i b _
    exact KeepsForm.after (Memory.wf_hostWrite _ _) (sameMemory_withHif s _).keepsForm

theorem keepsForm_hostStore {s u : State} {a : Nat} {bs : List Byte} (h : s.hostStore a bs = some u) : KeepsForm s u := by
  unfold hostStore at h
  split at h
  · split at h
    · simp at h
    · rename_i w b _
      obtain rfl := Option.some.inj h
      exact KeepsForm.after (KeepsForm.foldl _ fun v i _ => keepsForm_sealRecord v w i _) (sameMemory_withHif s _).keepsForm
  · obtain rfl := Option.some.inj h
    exact Memory.wf_hostWrite a bs

/-! ## Requests arriving -/

theorem keepsForm_homePerform (s : State) (q : Req) (seen : Seen) : KeepsForm s (s.homePerform q seen).1 := by
  unfold homePerform
  split
  · exact fun hs => hs
  · split
    · exact (sameMemory_gatedAccess s _).keepsForm
    · extract_lets host
      split
      · split
        · split
          · exact (sameMemory_gatherArrive s q).keepsForm
          · exact (sameMemory_gatedAccess s _).keepsForm
        · split
          · rename_i u st bs harrive
            have hu := (keepsForm_crlArrive s q seen).fst harrive
            refine KeepsForm.after ?_ hu
            dsimp only
            split
            · exact (sameMemory_deliver u q).keepsForm
            · exact fun hs => hs
          · exact keepsForm_crlArrive s q seen
      · split
        · split
          · exact (sameMemory_logUe s _ _ _).keepsForm
          · split
            · rename_i u bs hload
              exact ((sameMemory_hostLoad s host q.size).fst hload).keepsForm
            · rename_i u hload
              exact ((sameMemory_hostLoad s host q.size).fst hload).keepsForm
        · split
          · rename_i u hstore
            exact keepsForm_hostStore hstore
          · exact fun hs => hs
      · exact fun hs => hs
      · exact (sameMemory_deliver s q).keepsForm
      · exact keepsForm_memPerform s q seen

theorem keeps_countReq (s : State) (q : Req) : Keeps countParts s (s.countReq q) := by
  unfold countReq
  split
  · exact (pmuEvent_frame s _ _ _ _).1.trans (pmuEvent_frame _ _ _ _ _).1
  · exact Keeps.refl _ s

theorem keeps_countResp (s : State) (q : Req) (st : Nat) : Keeps countParts s (s.countResp q st) := by
  unfold countResp
  split
  · exact (pmuEvent_frame s _ _ _ _).1.trans (pmuEvent_frame _ _ _ _ _).1
  · exact Keeps.refl _ s

theorem keepsForm_serveHome (s : State) (q : Req) (seen : Seen) : KeepsForm s (s.serveHome q seen) := by
  have hperform := (keepsForm_homePerform _ q seen).after (SameMemory.of_keeps (keeps_countReq s q)).keepsForm
  unfold serveHome
  split
  · exact (sameMemory_withEcc s _).keepsForm
  · split
    · rename_i u st bs hu
      exact ((sameMemory_launchResp _ _).after (.of_keeps (keeps_countResp u q st))).keepsForm.after (hperform.fst hu)
    · rename_i u hu
      exact hperform.fst hu

/-- A request that arrives keeps the form of the stores, wherever it goes and however it ends. -/
theorem keepsForm_performReq (s : State) (q : Req) (seen : Seen) : KeepsForm s (s.performReq q seen) := by
  have hrefuse : ∀ st, SameMemory s (s.refuse q st) := fun st => sameMemory_launchResp s _
  have hcounted : SameMemory s ((s.ingressRefuse q).refuse q Sts.accessFault) := (sameMemory_launchResp _ _).after ⟨rfl, rfl⟩
  unfold performReq
  split_ifs
  · exact keepsForm_serveHome s q seen
  · exact fun hs => hs
  · exact keepsForm_serveHome s q seen
  · exact hcounted.keepsForm
  · exact (sameMemory_route s _).keepsForm
  · exact (hrefuse _).keepsForm
  · exact (hrefuse _).keepsForm
  · exact keepsForm_serveHome s q seen
  · exact hcounted.keepsForm

/-! ## The rows -/

/-- The rows of remote operations, those of 08 Table 8-1 and that of undefined codes. -/
def remoteRows : List (Req → Seen → Instr) :=
  [.load, .store, .add32, .add64, .fadd32, .maxu32, .maxu64, .maxs32, .maxs64, .cas32, .cas64, .laccAdd, .undefinedOpRequest]

theorem next_ite {c : Prop} [Decidable c] {a b : State} :
    (.next (if c then a else b) : Host.Outcome State Fault Refusal) = .next a ∨
      (.next (if c then a else b) : Host.Outcome State Fault Refusal) = .next b := by
  split
  · exact .inl rfl
  · exact .inr rfl

/-- A row of remote operations performs its request, or is another row's and changes nothing. -/
theorem exec_remoteRow {mk : Req → Seen → Instr} (hmk : mk ∈ remoteRows) (q : Req) (seen : Seen) (s : State) :
    exec (mk q seen) s = .next (s.performReq q seen) ∨ exec (mk q seen) s = .next s := by
  simp only [remoteRows, List.mem_cons, List.not_mem_nil, or_false] at hmk
  rcases hmk with rfl | rfl | rfl | rfl | rfl | rfl | rfl | rfl | rfl | rfl | rfl | rfl | rfl
  -- The row of undefined codes names the codes that are not its own.
  pick_goal 13
  · exact next_ite.symm
  all_goals exact next_ite

end Sys2Proof.Machine.State

namespace Sys2Proof

open Machine Machine.State

/-- Settles O5: whichever row it is, the request is performed or nothing happens; what a performed request writes, it writes through the
stores' own operations, which keep their form. -/
theorem memoryKeepsItsForm : Obligations.MemoryKeepsItsForm := by
  unfold Obligations.MemoryKeepsItsForm
  intro mk hmk q seen s t hwf hnext
  rcases exec_remoteRow hmk q seen s with hrow | hrow
  · obtain rfl := Host.Outcome.next.inj (hrow.symm.trans hnext)
    exact keepsForm_performReq s q seen hwf
  · obtain rfl := Host.Outcome.next.inj (hrow.symm.trans hnext)
    exact hwf

end Sys2Proof
end

section
/-! Numbers as bytes (for O27): what bytes spell, and the new bytes of an atomic's target (08 Table 8-1). -/

namespace Sys2Proof.Machine

/-! ## Numbers as bytes (00 R12) -/

theorem ofLE_leBytes (n v : Nat) : ofLE (leBytes n v) = v % 2 ^ (8 * n) := by
  induction n generalizing v with
  | zero => simp [leBytes, ofLE, Nat.mod_one]
  | succ n ih =>
    rw [leBytes, ofLE, ih, BitVec.toNat_ofNat, Nat.mul_succ, Nat.pow_add, Nat.mul_comm (2 ^ (8 * n)), Nat.mod_mul]

theorem ofLE_lt (bs : List Byte) : ofLE bs < 2 ^ (8 * bs.length) := by
  induction bs with
  | nil => simp [ofLE]
  | cons b bs ih =>
    rw [ofLE, List.length_cons, Nat.mul_succ, Nat.pow_add]
    have hb := b.isLt
    omega

/-- Bytes of one length spell different numbers where they differ. -/
theorem ofLE_inj {as bs : List Byte} (hlen : as.length = bs.length) : ofLE as = ofLE bs ↔ as = bs := by
  refine ⟨fun h => ?_, congrArg ofLE⟩
  induction as generalizing bs with
  | nil => exact (List.length_eq_zero_iff.mp hlen.symm).symm
  | cons a as ih =>
    cases bs with
    | nil => simp at hlen
    | cons b bs =>
      simp only [ofLE] at h
      have ha := a.isLt
      have hb := b.isLt
      have hhead : a = b := BitVec.eq_of_toNat_eq (by omega)
      rw [hhead, ih (by simpa using hlen) (by omega)]

/-- A number of `v + 1` bits in two's complement reads back. -/
theorem sext_ofInt {v : Nat} {i : Int} (hlo : -((2 ^ v : Nat) : Int) ≤ i) (hhi : i < (2 ^ v : Nat)) :
    sext (v + 1) (ofInt (v + 1) i) = i := by
  have hpow : ((2 ^ (v + 1) : Nat) : Int) = 2 * (2 ^ v : Nat) := by rw [Nat.pow_succ]; push_cast; ring
  have hbits : ((ofInt (v + 1) i : Nat) : Int) = i % ((2 ^ (v + 1) : Nat) : Int) :=
    Int.toNat_of_nonneg (Int.emod_nonneg _ (by omega))
  have hlt : ofInt (v + 1) i < 2 ^ (v + 1) := by
    have := Int.emod_lt_of_pos i (show (0 : Int) < ((2 ^ (v + 1) : Nat) : Int) by omega)
    omega
  rw [sext, Nat.mod_eq_of_lt hlt, Nat.add_sub_cancel]
  rcases lt_or_ge i 0 with hneg | hpos
  · have hread : ((ofInt (v + 1) i : Nat) : Int) = i + ((2 ^ (v + 1) : Nat) : Int) := by
      rw [hbits, ← Int.add_emod_right, Int.emod_eq_of_lt (by omega) (by omega)]
    rw [if_neg (by omega)]
    omega
  · have hread : ((ofInt (v + 1) i : Nat) : Int) = i := by
      rw [hbits, Int.emod_eq_of_lt hpos (by omega)]
    rw [if_pos (by omega)]
    exact hread

/-! ## The new bytes of an atomic's target (08 R280, Table 8-1) -/

theorem ofLE_max {n : Nat} {old d : List Byte} (hold : old.length = n) (hd : d.length = n) :
    ofLE (leBytes n (max (ofLE old) (ofLE d))) = max (ofLE old) (ofLE d) := by
  have h1 := ofLE_lt old
  have h2 := ofLE_lt d
  rw [hold] at h1
  rw [hd] at h2
  rw [ofLE_leBytes, Nat.mod_eq_of_lt (max_lt h1 h2)]

theorem sext_max (v a b : Nat) :
    sext (v + 1) (ofInt (v + 1) (max (sext (v + 1) a) (sext (v + 1) b)) % 2 ^ (v + 1)) = max (sext (v + 1) a) (sext (v + 1) b) := by
  obtain ⟨halo, hahi⟩ := sext_range v a
  obtain ⟨hblo, hbhi⟩ := sext_range v b
  have hcut : ∀ x, sext (v + 1) (x % 2 ^ (v + 1)) = sext (v + 1) x := fun x => by simp only [sext, Nat.mod_mod]
  rw [hcut, sext_ofInt (le_max_of_le_left halo) (max_lt hahi hbhi)]

theorem atomNew_cas {n : Nat} {old d : List Byte} (hold : old.length = n) (hd : n ≤ d.length) :
    (if ofLE old = ofLE (d.take n) then d.drop n else old) = if old = d.take n then d.drop n else old := by
  simp only [ofLE_inj (show old.length = (d.take n).length by rw [List.length_take, hold]; omega)]

theorem opBase_of_isAtomic {op : Nat} (h : isAtomic op = true) :
    opBase op ∈ [0x08, 0x09, 0x0A, 0x0C, 0x0D, 0x0E, 0x0F, 0x10, 0x11, 0x14] := by
  simp only [isAtomic, opDefined, Bool.and_eq_true, List.contains_iff_mem, decide_eq_true_eq] at h
  obtain ⟨hdefined, hatomic⟩ := h
  revert op
  decide

theorem length_atomNew {op : Nat} {old d : List Byte} (h : isAtomic op = true) (hold : old.length = atomWidth op)
    (hd : d.length = atomPayload op) : (atomNew op old d).length = atomWidth op := by
  have hbase := opBase_of_isAtomic h
  simp only [List.mem_cons, List.not_mem_nil, or_false] at hbase
  simp only [atomWidth, atomPayload] at hold hd ⊢
  rcases hbase with hb | hb | hb | hb | hb | hb | hb | hb | hb | hb <;> simp only [hb] at hold hd ⊢ <;>
    simp only [atomNew, hb, length_leBytes]
  · split
    · simp [hd]
    · exact hold
  · split
    · simp [hd]
    · exact hold
  · simp [Acc.toBytes, length_leBytes]

end Sys2Proof.Machine
end

section
/-! Loads, stores and atomics at their home (O27): what a home on clean memory reads and writes, and that a request which it serves comes
to it. -/

namespace Sys2Proof.Machine.State

open Sys2Proof.Safety

/-! ## Reads and writes on clean memory (06 R209, R211, R217) -/

theorem memRead_congr {s t : State} (h : t.mem = s.mem) (k n : Nat) : t.memRead k n = s.memRead k n := by
  simp only [memRead, byte, h]

theorem length_memRead (s : State) (k n : Nat) : (s.memRead k n).length = n := by simp [memRead]

theorem cleanMemory_congr {s t : State} (h : t.ecc = s.ecc) (hclean : CleanMemory s) : CleanMemory t := by
  rw [CleanMemory, h]
  exact hclean

theorem homeRead_clean {s : State} (hclean : CleanMemory s) (r : Reader) (key n : Nat) :
    s.homeRead r key n .clean = (s.lineTouch key n false, some (s.memRead key n)) := by
  have htouch := keeps_lineTouch s key n false
  obtain ⟨hpoison, hmarks⟩ := cleanMemory_congr (htouch .ecc (by decide)) hclean
  have hread : (s.lineTouch key n false).readCorrected key n = s.memRead key n := by
    rw [← memRead_congr (htouch .mem (by decide)) key n]
    simp [readCorrected, memRead, hmarks]
  have hfound : (s.lineTouch key n false).poisonIn key n = none := by simp [poisonIn, hpoison]
  simp [homeRead, marksIn, hfound, hmarks, hread]

/-- The bytes of a write stand where it put them, no other byte changed, and beside memory and its integrity state only what counting
changes did. -/
structure WritesAt (k : Nat) (bs : List Byte) (s t : State) : Prop where
  written : t.memRead k bs.length = bs
  others : BytesKeep k bs.length s t
  parts : Keeps (.mem :: .ecc :: countParts) s t

/-- What counting changes plays no part in a write, before it or after. -/
theorem WritesAt.counted {k : Nat} {bs : List Byte} {s s' t t' : State} (h : WritesAt k bs s' t) (hs : Keeps countParts s s')
    (ht : Keeps countParts t t') : WritesAt k bs s t' := by
  have hbefore : s'.mem = s.mem := hs .mem (by decide)
  have hafter : t'.mem = t.mem := ht .mem (by decide)
  exact ⟨(memRead_congr hafter _ _).trans h.written,
    fun a ha => by simpa only [byte, hbefore, hafter] using h.others a ha,
    ((hs.mono (by simp)).trans h.parts).trans (ht.mono (by simp))⟩

theorem homeWrite_mem (s : State) (key : Nat) (bs : List Byte) : (s.homeWrite key bs).mem = (s.memWrite key bs).mem := by
  unfold homeWrite
  extract_lets n touched whole written
  split
  · rename_i hn
    rw [List.length_eq_zero_iff.mp hn]
    rfl
  · exact congrArg (putCells key bs) (keeps_lineTouch s key n true .mem (by decide))

theorem homeWrite_writes (s : State) (key : Nat) (bs : List Byte) : WritesAt key bs s (s.homeWrite key bs) where
  written := (memRead_congr (homeWrite_mem s key bs) _ _).trans (memRead_memWrite s key bs)
  others a ha := (congrArg (Cells.get 0 a) (homeWrite_mem s key bs)).trans (byte_memWrite_outside s key a bs ha)
  parts := keeps_homeWrite s key bs

theorem homeStore_clean {s : State} (hclean : CleanMemory s) (r : Reader) (key : Nat) (bs : List Byte) :
    ∃ u, s.homeStore r key bs .clean = (u, true) ∧ WritesAt key bs s u := by
  unfold homeStore
  rw [homeRead_clean hclean]
  split
  · refine ⟨_, rfl, (homeWrite_writes _ key bs).counted ((keeps_lineTouch s key bs.length false).trans ?_) (Keeps.refl _ _)⟩
    split
    · exact keeps_tileEvent _ _ _ _
    · exact Keeps.refl _ _
  · exact ⟨_, rfl, homeWrite_writes s key bs⟩

/-! ## Operations at HBM, tile stores and slices (08 R287 to R289) -/

section
variable {s : State} {q : Req}

theorem cleanMemory_memCounted (hclean : CleanMemory s) : CleanMemory (s.memCounted q) :=
  cleanMemory_congr (keeps_memCounted s q .ecc (by decide)) hclean

theorem memPerform_load (hop : q.op = opLoad) (hclean : CleanMemory s) :
    ∃ u, s.memPerform q .clean = (u, Sts.ok, s.memRead (memKey q.addr) q.size) ∧ Keeps countParts s u := by
  have hread := homeRead_clean (cleanMemory_memCounted (q := q) hclean) (s.readerOf q) (memKey q.addr) q.size
  have hcounted := keeps_memCounted s q
  rw [memRead_congr (hcounted .mem (by decide)), memCounted] at hread
  refine ⟨_, ?_, hcounted.trans (keeps_lineTouch _ (memKey q.addr) q.size false)⟩
  simp only [memPerform, if_pos hop, hread, memCounted]

theorem memPerform_store (hop : q.op = opStore) (hclean : CleanMemory s) :
    ∃ u, s.memPerform q .clean = (u, Sts.ok, []) ∧ WritesAt (memKey q.addr) q.data s u := by
  obtain ⟨u, hstore, hwrites⟩ := homeStore_clean (cleanMemory_memCounted (q := q) hclean) (s.readerOf q) (memKey q.addr) q.data
  rw [memCounted] at hstore
  refine ⟨u.deliver q, ?_, hwrites.counted (keeps_memCounted s q) (keeps_deliver u q)⟩
  have hload : q.op ≠ opLoad := by rw [hop]; decide
  simp only [memPerform, if_neg hload, if_pos hop, hstore]

theorem memPerform_atomic (hatomic : isAtomic q.op = true) (hclean : CleanMemory s) :
    let old := s.memRead (memKey q.addr) (atomWidth q.op)
    ∃ u, s.memPerform q .clean = (u, Sts.ok, if isReturning q.op then old else []) ∧
      WritesAt (memKey q.addr) (atomNew q.op old q.data) s u := by
  intro old
  have hread := homeRead_clean (cleanMemory_memCounted (q := q) hclean) (s.readerOf q) (memKey q.addr) (atomWidth q.op)
  have hcounted := keeps_memCounted s q
  rw [memRead_congr (hcounted .mem (by decide)), memCounted] at hread
  have hbeyond : 2 ≤ q.op := by
    simp only [isAtomic, Bool.and_eq_true, decide_eq_true_eq] at hatomic
    exact hatomic.2
  have hload : q.op ≠ opLoad := by rw [opLoad]; omega
  have hstore : q.op ≠ opStore := by rw [opStore]; omega
  simp only [memPerform, if_neg hload, if_neg hstore, hread]
  refine ⟨_, rfl, (homeWrite_writes _ (memKey q.addr) _).counted
    ((hcounted.trans (keeps_lineTouch _ (memKey q.addr) (atomWidth q.op) false)).trans ?_) (keeps_deliver _ q)⟩
  split
  · exact keeps_tileEvent _ _ _ _
  · exact Keeps.refl _ _

/-! ## A home's checks (08 R279 to R283, R309) -/

theorem data_of_store (hform : malformed q = false) (hop : q.op = opStore) : q.data.length = q.size := by
  by_contra hne
  simp [malformed, hop, hne] at hform

theorem data_of_atomic (hform : malformed q = false) (hatomic : isAtomic q.op = true) : q.data.length = atomPayload q.op := by
  obtain ⟨hsize, hlen⟩ : q.size = atomPayload q.op ∧ q.data.length = q.size := by
    by_contra hne
    rcases not_and_or.mp hne with hne | hne <;> simp [malformed, hatomic, hne] at hform
  exact hlen.trans hsize

theorem spaceOf_memKey (addr : Nat) : spaceOf (memKey addr) = spaceOf addr := bits_mod_two_pow addr (show 48 + 4 ≤ 52 by decide)

/-- What a home of memory checks: the header, alignment, the operations of its space, and the region. -/
theorem homeCheck_memory (hspace : spaceOf (memKey q.addr) ≤ 2) :
    s.homeCheck q = none ↔ malformed q = false ∧ (!alignOk q || !spaceTakes q) = false ∧
      s.runAllowed q.srcUnit (memKey q.addr) (reqWidth q) = true := by
  rw [spaceOf_memKey] at hspace
  have hcases : spaceOf q.addr = 0 ∨ spaceOf q.addr = 1 ∨ spaceOf q.addr = 2 := by omega
  have hcheck : s.homeCheck q = if malformed q then some Sts.badParam
      else if !alignOk q || !spaceTakes q then some Sts.accessFault
      else if s.runAllowed q.srcUnit (memKey q.addr) (reqWidth q) then none else some Sts.accessFault := by
    rcases hcases with h | h | h <;> simp only [homeCheck, h]
  rw [hcheck]
  cases malformed q <;> cases (!alignOk q || !spaceTakes q) <;> cases s.runAllowed q.srcUnit (memKey q.addr) (reqWidth q) <;> simp

theorem stackOk_congr {u : State} (hcap : u.rd Reg.CAP_UNITS = s.rd Reg.CAP_UNITS) (hfuse : u.fuse = s.fuse) (k : Nat) :
    u.stackOk k = s.stackOk k := by
  have hfd : ∀ f : Fld, f.reg = Reg.CAP_UNITS → u.fd f = s.fd f := fun f hf => by rw [fd, fd, hf, hcap]
  have hvalid := hfd Fld.CAP_UNITS_CAP_VALID rfl
  have hstacks := hfd Fld.CAP_UNITS_HBM_STACKS rfl
  rw [stackOk, stackOk, fb, fb, stackMask, stackMask, hvalid, hstacks, hfuse]

/-- Whether memory may be touched rests on two registers and the fuses. -/
theorem runAllowed_congr {u : State} (hcap : u.rd Reg.CAP_UNITS = s.rd Reg.CAP_UNITS) (hsec : u.rd Reg.SEC_STATUS = s.rd Reg.SEC_STATUS)
    (hfuse : u.fuse = s.fuse) (unit key n : Nat) : u.runAllowed unit key n = s.runAllowed unit key n := by
  have hfb : ∀ f : Fld, f.reg = Reg.SEC_STATUS → u.fb f = s.fb f := fun f hf => by rw [fb, fb, fd, fd, hf, hsec]
  have hscrub : u.unscrubbed = s.unscrubbed := by
    rw [unscrubbed, unscrubbed, hfb Fld.SEC_STATUS_SCRUB_REQUIRED rfl, hfb Fld.SEC_STATUS_TENANT_OPEN rfl]
  have hok : u.stackOk = s.stackOk := funext (stackOk_congr hcap hfuse)
  have hend : u.allocEnd = s.allocEnd := funext fun st => by rw [allocEnd, allocEnd, hfuse]
  have hregion : u.scrubRegion = s.scrubRegion := funext fun st => funext fun o => by rw [scrubRegion, scrubRegion, hend, hfuse]
  have hhbm : u.hbmAllowed = s.hbmAllowed := by
    unfold hbmAllowed
    rw [hok, hscrub, hregion, hend]
  rw [runAllowed, runAllowed, hhbm]

/-! ## Requests that a home serves -/

/-- Every register below the trouble log's and the counters' reads as before when a request is counted. -/
theorem rd_countReq (s : State) (q : Req) {r : Reg} (hr : r.addr < 0x700000) : (s.countReq q).rd r = s.rd r := by
  have hapart : ∀ g, r.addr ∉ countAddrs g := fun g => by
    simp only [countAddrs, Reg.PMU_OVF, Reg.PMU_OVF_LOST, Reg.RAS_LOG_SEQ, Reg.PMU_CNT, List.cons_append, List.nil_append, List.mem_cons,
      List.mem_map, List.mem_range, not_or, not_exists, not_and]
    exact ⟨by omega, by omega, by omega, fun c _ => by omega⟩
  unfold countReq
  split
  · rename_i g _
    exact ((pmuEvent_frame _ g _ _ _).2.rd (hapart g)).trans ((pmuEvent_frame s g _ _ _).2.rd (hapart g))
  · rfl

/-- Counting a request takes nothing from its home: the region stays allowed, the home there and clocked. -/
theorem serves_countReq (h : Serves s q) :
    (s.countReq q).homeCheck q = none ∧ (s.countReq q).homeOn (memKey q.addr) = true ∧ CleanMemory (s.countReq q) := by
  obtain ⟨-, hspace, hcheck, hon, -, hclean⟩ := h
  have hkept := keeps_countReq s q
  have hfuse : (s.countReq q).fuse = s.fuse := hkept .fuse (by decide)
  have hcap := rd_countReq s q (r := Reg.CAP_UNITS) (by decide)
  have hen0 := rd_countReq s q (r := Reg.CLK_EN0) (by decide)
  have hen1 := rd_countReq s q (r := Reg.CLK_EN1) (by decide)
  refine ⟨?_, ?_, cleanMemory_congr (hkept .ecc (by decide)) hclean⟩
  · obtain ⟨hform, htakes, hregion⟩ := (homeCheck_memory hspace).mp hcheck
    refine (homeCheck_memory hspace).mpr ⟨hform, htakes, (runAllowed_congr hcap ?_ hfuse _ _ _).trans hregion⟩
    exact rd_countReq s q (by decide)
  · rw [← hon]
    have hcases : spaceOf (memKey q.addr) = 0 ∨ spaceOf (memKey q.addr) = 1 ∨ spaceOf (memKey q.addr) = 2 := by omega
    rcases hcases with hs | hs | hs
    · simp only [homeOn, hs]
      exact stackOn_congr hcap hen0 hen1 hfuse _
    · rw [show s.countReq q = s by simp [countReq, reqGroup, (spaceOf_memKey q.addr).symm.trans hs]]
    · simp only [homeOn, hs, sliceOn, islandOn_congr hen0 hen1]

theorem performReq_reaches (h : Reaches s q) (seen : Seen) : s.performReq q seen = s.serveHome q seen := by
  obtain ⟨hown, hfrom | ⟨hother, hmod, hreset, hpass⟩⟩ := h
  · simp [performReq, hfrom, hown]
  · simp [performReq, hother, hmod, hown, hreset, hpass]

/-- A request that its memory performs is answered with what that gives. -/
theorem performReq_serves {u : State} {st : Nat} {bs : List Byte} (h : Serves s q)
    (hperform : (s.countReq q).memPerform q .clean = (u, st, bs)) :
    s.performReq q .clean = (u.countResp q st).launchResp (Resp.make q st bs) := by
  obtain ⟨hcheck, hon, -⟩ := serves_countReq h
  obtain ⟨hreaches, hspace, -, -, hheld, -⟩ := h
  rw [spaceOf_memKey] at hspace
  have hcases : spaceOf q.addr = 0 ∨ spaceOf q.addr = 1 ∨ spaceOf q.addr = 2 := by omega
  have hhome : (s.countReq q).homePerform q .clean = (u, some (st, bs)) := by
    rcases hcases with hs | hs | hs <;> simp [homePerform, hcheck, hon, hs, hperform]
  rw [performReq_reaches hreaches]
  simp only [serveHome, hheld, hhome, Bool.false_eq_true, if_false, respond]

theorem remoteLoad_answers (h : Serves s q) (hop : q.op = opLoad) :
    GoesOn (exec (.load q .clean) s) (·.launchResp (Resp.make q Sts.ok (s.memRead (memKey q.addr) q.size)))
      (fun w => w.mem = s.mem ∧ Keeps countParts s w) := by
  obtain ⟨-, -, hclean⟩ := serves_countReq h
  obtain ⟨u, hperform, hkept⟩ := memPerform_load hop hclean
  rw [memRead_congr (keeps_countReq s q .mem (by decide))] at hperform
  have hall : Keeps countParts s (u.countResp q Sts.ok) := ((keeps_countReq s q).trans hkept).trans (keeps_countResp u q _)
  exact ⟨_, congrArg Host.Outcome.next ((if_pos hop).trans (performReq_serves h hperform)), hall .mem (by decide), hall⟩

theorem remoteStore_writes (h : Serves s q) (hop : q.op = opStore) :
    GoesOn (exec (.store q .clean) s) (·.launchResp (Resp.make q Sts.ok [])) (WritesAt (memKey q.addr) q.data s) := by
  obtain ⟨-, -, hclean⟩ := serves_countReq h
  obtain ⟨u, hperform, hwrites⟩ := memPerform_store hop hclean
  exact ⟨_, congrArg Host.Outcome.next ((if_pos hop).trans (performReq_serves h hperform)),
    hwrites.counted (keeps_countReq s q) (keeps_countResp u q _)⟩

/-- An atomic of any row whose request a home serves. -/
theorem remoteAtomic_writes {i : Instr} (h : Serves s q) (hatomic : isAtomic q.op = true)
    (hrow : exec i s = .next (s.performReq q .clean)) :
    let old := s.memRead (memKey q.addr) (atomWidth q.op)
    GoesOn (exec i s) (·.launchResp (Resp.make q Sts.ok (if isReturning q.op then old else [])))
      (WritesAt (memKey q.addr) (atomNew q.op old q.data) s) := by
  intro old
  obtain ⟨-, -, hclean⟩ := serves_countReq h
  obtain ⟨u, hperform, hwrites⟩ := memPerform_atomic hatomic hclean
  rw [memRead_congr (keeps_countReq s q .mem (by decide))] at hperform hwrites
  exact ⟨_, hrow.trans (congrArg Host.Outcome.next (performReq_serves h hperform)),
    hwrites.counted (keeps_countReq s q) (keeps_countResp u q _)⟩

theorem atomicRow_own {base : Nat} (hatomic : isAtomic q.op = true) (hbase : opBase q.op = base) (seen : Seen) :
    s.atomicRow q seen base = s.performReq q seen := by
  simp only [isAtomic, Bool.and_eq_true] at hatomic
  simp [atomicRow, hbase, hatomic.1]

end

/-! ## The clauses of O27 -/

/-- The rows of atomics, each with its code without the bit that asks for the old bytes (08 Table 8-1). -/
def atomicRows : List (Nat × (Req → Seen → Instr)) :=
  [(0x08, .add32), (0x09, .add64), (0x0A, .fadd32), (0x0C, .maxu32), (0x0D, .maxu64), (0x0E, .maxs32), (0x0F, .maxs64), (0x10, .cas32),
    (0x11, .cas64), (0x14, .laccAdd)]

theorem exec_atomicRow {e : Nat × (Req → Seen → Instr)} (he : e ∈ atomicRows) (q : Req) (seen : Seen) (s : State) :
    exec (e.2 q seen) s = .next (s.atomicRow q seen e.1) := by
  simp only [atomicRows, List.mem_cons, List.not_mem_nil, or_false] at he
  rcases he with rfl | rfl | rfl | rfl | rfl | rfl | rfl | rfl | rfl | rfl <;> rfl

theorem goesOn_mono {o : Host.Outcome State Fault Refusal} {k : State → State} {P Q : State → Prop} (h : GoesOn o k P)
    (hPQ : ∀ w, P w → Q w) : GoesOn o k Q := by
  obtain ⟨w, ho, hw⟩ := h
  exact ⟨w, ho, hPQ w hw⟩

end Sys2Proof.Machine.State

namespace Sys2Proof

open Machine Machine.State Safety

/-- Settles O27: counting a request takes nothing from its home, which then reads and writes on clean memory as its space does; what an
atomic makes of its target is arithmetic on the bytes. -/
theorem remoteOperationsActAtHome : Obligations.RemoteOperationsActAtHome := by
  unfold Obligations.RemoteOperationsActAtHome
  have hparts : (.mem :: .ecc :: countParts) ⊆ [.regs, .log, .out, .hif, .dbg, .mem, .ecc] := by decide
  have hform : ∀ {s : State} {q : Req}, Serves s q → malformed q = false := fun ⟨_, hspace, hcheck, _⟩ =>
    ((homeCheck_memory hspace).mp hcheck).1
  refine ⟨⟨fun s q h hop => ?_, fun s q h hop => ?_⟩, fun base mk hmk s q h hatomic hbase => ?_,
    fun _ _ => ofLE_leBytes 4 _, fun _ _ => ofLE_leBytes 8 _, fun _ _ => ofLE_leBytes 4 _, fun _ _ hold hd => ofLE_max hold hd,
    fun _ _ hold hd => ofLE_max hold hd, fun _ _ _ _ => (congrArg (sext 32) (ofLE_leBytes 4 _)).trans (sext_max 31 _ _),
    fun _ _ _ _ => (congrArg (sext 64) (ofLE_leBytes 8 _)).trans (sext_max 63 _ _),
    fun _ _ hold hd => atomNew_cas hold (by omega), fun _ _ hold hd => atomNew_cas hold (by omega), fun _ _ => rfl⟩
  · exact goesOn_mono (remoteLoad_answers h hop) fun w hw => ⟨hw.1, hw.2.mono (by decide)⟩
  · refine goesOn_mono (remoteStore_writes h hop) fun w hw => ?_
    rw [← data_of_store (hform h) hop]
    exact ⟨hw.written, hw.others, hw.parts.mono hparts⟩
  · have hrow := (exec_atomicRow hmk q .clean s).trans (congrArg Host.Outcome.next (atomicRow_own hatomic hbase .clean))
    refine goesOn_mono (remoteAtomic_writes h hatomic hrow) fun w hw => ?_
    have hlen := length_atomNew hatomic (length_memRead s (memKey q.addr) _) (data_of_atomic (hform h) hatomic)
    have hwritten := hw.written
    have hothers := hw.others
    rw [hlen] at hwritten hothers
    exact ⟨hwritten, hothers, hw.parts.mono hparts⟩

end Sys2Proof
end

section
/-! Refused requests and inbound windows (O28): undefined codes, the ingress's refusals, and the two rows that set and show a window. -/

namespace Sys2Proof.Machine.State

open Sys2Proof.Safety

/-! ## Refusals (08 R278, R305, R309) -/

section
variable {s : State} {q : Req}

theorem undefinedOp_refused (h : Reaches s q) (hop : opDefined q.op = false) (hheld : s.heldAtHome q = false) (seen : Seen) :
    GoesOn (exec (.undefinedOpRequest q seen) s) (·.launchResp (Resp.make q Sts.badParam [])) (Keeps countParts s) := by
  have hcheck : (s.countReq q).homeCheck q = some Sts.badParam := by simp [homeCheck, malformed, hop]
  have hserved : s.serveHome q seen = ((s.countReq q).countResp q Sts.badParam).launchResp (Resp.make q Sts.badParam []) := by
    simp [serveHome, hheld, homePerform, hcheck, respond]
  refine ⟨_, congrArg Host.Outcome.next ?_, (keeps_countReq s q).trans (keeps_countResp _ q Sts.badParam)⟩
  rw [hop, if_neg Bool.false_ne_true, performReq_reaches h, hserved]

theorem undefinedOp_defined (hop : opDefined q.op = true) (seen : Seen) : exec (.undefinedOpRequest q seen) s = .next s :=
  congrArg Host.Outcome.next (if_pos hop)

/-- A refusal at the ingress is counted, with the address and the source of the last one. -/
theorem ingressRefuse_shows (s : State) (q : Req) :
    Keeps [.regs] s (s.ingressRefuse q) ∧ (s.ingressRefuse q).rd Reg.ATY_IN_REFUSED_ADDR = q.addr ∧
      (s.ingressRefuse q).rd Reg.ATY_IN_REFUSED_CNT = satAdd (2 ^ 32 - 1) (s.rd Reg.ATY_IN_REFUSED_CNT) 1 ∧
      RegsKeep [Reg.ATY_IN_REFUSED_CNT.addr, Reg.ATY_IN_REFUSED_ADDR.addr, Reg.ATY_IN_REFUSED_SRC.addr] s (s.ingressRefuse q) := by
  unfold ingressRefuse
  refine ⟨((keeps_wr s _ _).trans (keeps_wr _ _ _)).trans (keeps_wr _ _ _), ?_, ?_, ?_⟩
  · rw [rd_wr_ne _ _ _ _ (by decide), rd_wr_self _ _ _ (by decide)]
    exact Nat.mod_eq_of_lt (bits_lt _ _ _)
  · rw [rd_wr_ne _ _ _ _ (by decide), rd_wr_ne _ _ _ _ (by decide)]
    exact rd_bump s Reg.ATY_IN_REFUSED_CNT 1 (by decide)
  · exact (((regsKeep_wr s Reg.ATY_IN_REFUSED_CNT _).mono (by simp)).trans
      ((regsKeep_wr _ Reg.ATY_IN_REFUSED_ADDR _).mono (by simp))).trans ((regsKeep_wr _ Reg.ATY_IN_REFUSED_SRC _).mono (by simp))

theorem remoteLoad_notGranted (hop : q.op = opLoad) (hother : q.srcMod ≠ s.srcMod) (hmod : s.ownMod ≠ 0xFFF)
    (hown : s.isOwn (modOf q.addr) = true) (hreset : s.inReset = false) (hpass : s.ingressOk q = false) (seen : Seen) :
    exec (.load q seen) s = .next ((s.ingressRefuse q).launchResp (Resp.make q Sts.accessFault [])) := by
  refine congrArg Host.Outcome.next ((if_pos hop).trans ?_)
  simp [performReq, refuse, hother, hmod, hown, hreset, hpass]

end

/-! ## Inbound windows (08 R306, R307) -/

section
variable {s s1 : State} {via : Via} {p : Packet} {j : Job} {perm base size : Nat}

/-- The parts of a window fit the fields that hold them. -/
theorem inwinOf_lt (hwin : inwinOf p = some (perm, base, size)) : perm < 2 ^ 5 ∧ base < 2 ^ 64 ∧ size < 2 ^ 32 := by
  have hsize : p.u32 32 < 2 ^ 32 := bits_lt _ _ _
  unfold inwinOf at hwin
  split at hwin
  · obtain ⟨rfl, rfl, rfl⟩ : p.u8 17 % 32 = perm ∧ memKey (p.u64 24) = base ∧ p.u32 32 = size := by simpa using hwin
    refine ⟨Nat.mod_lt _ (by decide), ?_, hsize⟩
    simp only [memKey]
    omega
  · split at hwin
    · obtain ⟨rfl, rfl, rfl⟩ : 0b11111 = perm ∧ 2 ^ 48 = base ∧ 4096 = size := by simpa using hwin
      decide
    · obtain ⟨rfl, rfl, rfl⟩ : 0b01111 = perm ∧ 2 * 2 ^ 48 = base ∧ 3072 = size := by simpa using hwin
      decide
    · simp at hwin

/-- What ATY_INWIN_SET writes to a window's control register. -/
def inwinCtrl (p : Packet) (perm size : Nat) : Nat := p.u16 20 % 4096 * 2 ^ 52 + p.u16 18 % 4096 * 2 ^ 40 + size * 2 ^ 8 + perm

/-- A window set. -/
def inwinSet (s : State) (p : Packet) (perm base size : Nat) : State :=
  (s.wr (Reg.ATY_INWIN_BASE (p.u8 16)) base).wr (Reg.ATY_INWIN_CTRL (p.u8 16)) (inwinCtrl p perm size)

theorem inwinSet_shows (s : State) (hwin : inwinOf p = some (perm, base, size)) :
    let n := p.u8 16
    (s.inwinSet p perm base size).rd (Reg.ATY_INWIN_BASE n) = base ∧
      (s.inwinSet p perm base size).fd (Fld.ATY_INWIN_CTRL_MOD_LO n) = p.u16 18 % 4096 ∧
      (s.inwinSet p perm base size).fd (Fld.ATY_INWIN_CTRL_MOD_HI n) = p.u16 20 % 4096 ∧
      (s.inwinSet p perm base size).fd (Fld.ATY_INWIN_CTRL_SIZE_64K n) = size ∧
      (s.inwinSet p perm base size).fd (Fld.ATY_INWIN_CTRL_PERM n) = perm := by
  intro n
  obtain ⟨hperm, hbase, hsize⟩ := inwinOf_lt hwin
  have hfield : ∀ f : Fld, f.reg = Reg.ATY_INWIN_CTRL n → f.lo + f.w ≤ 64 →
      (s.inwinSet p perm base size).fd f = bits (inwinCtrl p perm size) f.lo f.w := fun f hreg hf => by
    rw [inwinSet, ← hreg]
    refine fd_wr_self _ f _ ?_ ?_ <;> rw [hreg]
    · exact hf
    · exact le_refl 64
  refine ⟨?_, (hfield (Fld.ATY_INWIN_CTRL_MOD_LO n) rfl (show 40 + 12 ≤ 64 by decide)).trans ?_,
    (hfield (Fld.ATY_INWIN_CTRL_MOD_HI n) rfl (show 52 + 12 ≤ 64 by decide)).trans ?_,
    (hfield (Fld.ATY_INWIN_CTRL_SIZE_64K n) rfl (show 8 + 32 ≤ 64 by decide)).trans ?_,
    (hfield (Fld.ATY_INWIN_CTRL_PERM n) rfl (show 0 + 5 ≤ 64 by decide)).trans ?_⟩
  · rw [inwinSet, rd_wr_ne, rd_wr_self _ _ _ (le_refl 64)]
    · exact Nat.mod_eq_of_lt hbase
    · simp only [Reg.ATY_INWIN_BASE, Reg.ATY_INWIN_CTRL]
      omega
  all_goals
    simp only [bits, inwinCtrl, Fld.ATY_INWIN_CTRL_MOD_LO, Fld.ATY_INWIN_CTRL_MOD_HI, Fld.ATY_INWIN_CTRL_SIZE_64K, Fld.ATY_INWIN_CTRL_PERM]
    omega

theorem inwinSet_frame (s : State) (p : Packet) (perm base size : Nat) :
    Keeps [.regs] s (s.inwinSet p perm base size) ∧
      RegsKeep [(Reg.ATY_INWIN_BASE (p.u8 16)).addr, (Reg.ATY_INWIN_CTRL (p.u8 16)).addr] s (s.inwinSet p perm base size) :=
  ⟨(keeps_wr s _ _).trans (keeps_wr _ _ _),
    ((regsKeep_wr s (Reg.ATY_INWIN_BASE (p.u8 16)) _).mono (by simp)).trans
      ((regsKeep_wr _ (Reg.ATY_INWIN_CTRL (p.u8 16)) _).mono (by simp))⟩

theorem atyInwinSet_sets (h : Starts s true via p j s1) (hop : p.base = 0x0410) (hwin : inwinOf p = some (perm, base, size))
    (hrange : inwinBad p (perm, base, size) = false) (hmod : s1.ownMod ≠ 0xFFF) (htenant : s1.tenantOpen = true) :
    exec (.atyInwinSet via p) s = .next (((s1.beginJob true via j).inwinSet p perm base size).finish via .done) := by
  refine congrArg Host.Outcome.next ?_
  simp only [hop, beq_self_eq_true]
  rw [runRow_starts h (by simp [hwin, firstFail, hrange, hmod, htenant]), hwin]
  rfl

theorem atyInwinSet_fails {a : Ans} (h : Starts s true via p j s1) (hop : p.base = 0x0410) (hwin : inwinOf p = some (perm, base, size))
    (hrange : inwinBad p (perm, base, size) = false)
    (hcheck : firstFail [(s1.ownMod == 0xFFF, .refuse 0x0404), (!s1.tenantOpen, .refuse 0x0401)] = some a) :
    exec (.atyInwinSet via p) s = .next (s1.finish via a) := by
  refine congrArg Host.Outcome.next ?_
  simp only [hop, beq_self_eq_true]
  rw [runRow_fails (a := a) h]
  simpa [hwin, firstFail, hrange] using hcheck

/-- The registers of a window lie above the trouble log's. -/
theorem rd_inwin_beginJob (s : State) (timed : Bool) (via : Via) (j : Job) {r : Reg} (hr : 0x2400000 ≤ r.addr) :
    (s.beginJob timed via j).rd r = s.rd r :=
  (beginJob_regsKeep s timed via j).rd (by
    simp only [Reg.RAS_LOG_SEQ, List.mem_singleton]
    omega)

theorem atyInwinQuery_shows (h : Starts s true via p j s1) (hop : p.base = 0x0411) (hn : p.u8 16 ≤ 15) (hmod : s1.ownMod ≠ 0xFFF)
    (hdest : p.u64 24 = 0) :
    exec (.atyInwinQuery via p) s = .next ((s1.beginJob true via j).finish via
      (.ok (bits (s1.rd (Reg.ATY_INWIN_BASE (p.u8 16))) 16 32) (s1.rd (Reg.ATY_INWIN_CTRL (p.u8 16))))) := by
  have hbase := rd_inwin_beginJob s1 true via j (r := Reg.ATY_INWIN_BASE (p.u8 16)) (by simp only [Reg.ATY_INWIN_BASE]; omega)
  have hctrl := rd_inwin_beginJob s1 true via j (r := Reg.ATY_INWIN_CTRL (p.u8 16)) (by simp only [Reg.ATY_INWIN_CTRL]; omega)
  refine congrArg Host.Outcome.next ?_
  simp only [hop, beq_self_eq_true]
  rw [runRow_starts h (by simp [firstFail, hmod, hdest, hn])]
  simp only [hdest, if_true, hbase, hctrl]

end

end Sys2Proof.Machine.State

namespace Sys2Proof

open Machine Machine.State Safety

/-- Settles O28: an undefined code fails its home's first check and a load without a window the ingress's; the window rows pass their
checks, or fail the first that does not hold, and a window's fields lie beside each other in its control register. -/
theorem refusalsAndInboundWindows : Obligations.RefusalsAndInboundWindows := by
  unfold Obligations.RefusalsAndInboundWindows
  refine ⟨⟨fun s q seen h hop hheld => ?_, fun s q seen hop => undefinedOp_defined hop seen,
    fun s q seen hop hother hmod hown hreset hpass => ?_⟩, fun s via p j s1 perm base size h hop hwin hrange =>
      ⟨fun hmod => ?_, fun hmod htenant => ?_, fun hmod htenant => ?_⟩, fun s via p j s1 h hop hn hmod hdest => ?_⟩
  · exact goesOn_mono (undefinedOp_refused h hop hheld seen) fun w hw => ⟨hw .mem (by decide), hw.mono (by decide)⟩
  · exact ⟨_, remoteLoad_notGranted hop hother hmod hown hreset hpass seen, ingressRefuse_shows s q⟩
  · exact atyInwinSet_fails h hop hwin hrange (by simp [firstFail, hmod])
  · exact atyInwinSet_fails h hop hwin hrange (by simp [firstFail, hmod, htenant])
  · obtain ⟨hkeeps, hregs⟩ := inwinSet_frame (s1.beginJob true via j) p perm base size
    exact ⟨_, atyInwinSet_sets h hop hwin hrange hmod htenant, hkeeps, hregs, inwinSet_shows _ hwin⟩
  · exact ⟨_, atyInwinQuery_shows h hop hn hmod hdest, rfl⟩

end Sys2Proof
end

section
/-! Messages and flits as bytes (O29). -/

namespace Sys2Proof.Machine

/-! ## Numbers spelled by bytes that stand behind each other (00 R12) -/

theorem ofLE_append (as bs : List Byte) : ofLE (as ++ bs) = ofLE as + 2 ^ (8 * as.length) * ofLE bs := by
  induction as with
  | nil => simp [ofLE]
  | cons a as ih =>
    rw [List.cons_append, ofLE, ofLE, ih, List.length_cons, Nat.mul_succ, Nat.pow_add]
    ring

theorem ofLE_replicate_zero (n : Nat) : ofLE (List.replicate n 0) = 0 := by
  induction n with
  | zero => rfl
  | succ n ih => rw [List.replicate_succ, ofLE, ih]; rfl

/-- A number that fits its bytes reads back. -/
theorem ofLE_leBytes_of_lt {n v : Nat} (h : v < 2 ^ (8 * n)) : ofLE (leBytes n v) = v := by
  rw [ofLE_leBytes, Nat.mod_eq_of_lt h]

/-- Bytes found again between those before and those behind them. -/
theorem take_drop_between {as bs : List Byte} {i n : Nat} (cs : List Byte) (ha : as.length = i) (hb : bs.length = n) :
    ((as ++ (bs ++ cs)).drop i).take n = bs := by
  rw [List.drop_left' ha, List.take_left' hb]

theorem b2n_beq_one (b : Bool) : (b2n b == 1) = b := by cases b <;> rfl

/-! ## Messages of link control (09 Table 9-3) -/

theorem ofLE_claim_bytes (c : ClaimMsg) :
    ofLE c.bytes = 2 + 2 ^ 8 * ((b2n c.incumbent * 16 + c.priority % 16) % 2 ^ 8 + 2 ^ 8 * (c.modNum % 2 ^ 16 +
      2 ^ 16 * (c.floor % 2 ^ 8 + 2 ^ 32 * (c.serial % 2 ^ 64 + 2 ^ 64 * (c.seq % 2 ^ 32))))) := by
  simp only [ClaimMsg.bytes, ofLE_append, ofLE_leBytes, List.length_append, length_leBytes, ofLE_replicate_zero, List.length_replicate]
  ring_nf

theorem ofLE_presence_bytes (p : PresMsg) :
    ofLE p.bytes = 3 + 2 ^ 16 * (p.modNum % 2 ^ 16 + 2 ^ 24 * (p.proto % 2 ^ 8 + 2 ^ 8 * (p.num % 2 ^ 8 +
      2 ^ 16 * (p.serial % 2 ^ 64 + 2 ^ 64 * (p.pseq % 2 ^ 32))))) := by
  simp only [PresMsg.bytes, ofLE_append, ofLE_leBytes, List.length_append, length_leBytes]
  ring_nf

theorem claimOf_bytes {c : ClaimMsg} (hprio : c.priority < 16) (hmod : c.modNum < 4096) (hfloor : c.floor < 256)
    (hserial : c.serial < 2 ^ 64) (hseq : c.seq < 2 ^ 32) : claimOf c.bytes = c := by
  obtain ⟨inc, prio, modNum, floor, serial, seq⟩ := c
  simp only at hprio hmod hfloor hserial hseq
  have hinc : b2n inc ≤ 1 := by cases inc <;> decide
  simp only [claimOf, ofLE_claim_bytes, bit, bits, ClaimMsg.mk.injEq]
  refine ⟨?_, by omega, by omega, by omega, by omega, by omega⟩
  refine Eq.trans ?_ (b2n_beq_one inc)
  congr 1
  omega

theorem presOf_bytes {p : PresMsg} (hserial : p.serial < 2 ^ 64) (hmod : p.modNum < 4096) (hproto : p.proto < 256) (hnum : p.num < 256)
    (hseq : p.pseq < 2 ^ 32) : presOf p.bytes p.time = p := by
  obtain ⟨serial, modNum, proto, num, pseq, time⟩ := p
  simp only at hserial hmod hproto hnum hseq
  simp only [presOf, ofLE_presence_bytes, bits, PresMsg.mk.injEq]
  refine ⟨by omega, by omega, by omega, by omega, by omega, trivial⟩

/-! ## Flits (09 R315, R316, Table 9-2) -/

theorem crcStep_lt {poly crc : Nat} (hpoly : poly < 2 ^ 32) (hcrc : crc < 2 ^ 32) (b : Byte) : crcStep poly crc b < 2 ^ 32 := by
  refine List.foldlRecOn (motive := (· < 2 ^ 32)) _ _ (Nat.xor_lt_two_pow hcrc (b.isLt.trans (by decide))) (fun c hc _ _ => ?_)
  split
  · exact Nat.xor_lt_two_pow (by omega) hpoly
  · omega

theorem crc32_lt (bs : List Byte) : crc32 bs < 2 ^ 32 :=
  Nat.xor_lt_two_pow (List.foldlRecOn (motive := (· < 2 ^ 32)) bs _ (by decide) (fun _ hc b _ => crcStep_lt (by decide) hc b)) (by decide)

/-- The 28 header bytes of a flit, with its ACKSEQ and credits (09 Table 9-2). -/
def Flit.head (f : Flit) (nak : Bool) (ack : Nat) (credits : List Nat) : List Byte :=
  leBytes 2 (f.ftype * 2 ^ 12 + f.fseq % 2 ^ 12) ++ (leBytes 2 (b2n nak * 2 ^ 15 + ack % 2 ^ 12) ++
    ((credits.map (leBytes 2)).flatten ++ (leBytes 10 f.map ++ List.replicate 6 0)))

theorem Flit.bytes_eq {f : Flit} (hslots : f.slots.length = 608) (nak : Bool) (ack : Nat) (credits : List Nat) :
    f.bytes nak ack credits =
      f.head nak ack credits ++ (leBytes 4 (crc32 (f.head nak ack credits ++ f.slots)) ++ f.slots) := by
  have hpad : padTo 608 f.slots = f.slots := by simp [padTo, hslots, List.take_of_length_le]
  simp only [Flit.bytes, Flit.head, hpad, List.append_assoc]

section
variable {f : Flit} {nak : Bool} {ack : Nat} {credits : List Nat}

theorem length_credits (hcredits : credits.length = 4) : (credits.map (leBytes 2)).flatten.length = 8 := by
  simp [List.length_flatten, Function.comp_def, length_leBytes, hcredits]

theorem Flit.length_head (hcredits : credits.length = 4) : (f.head nak ack credits).length = 28 := by
  simp only [Flit.head, List.length_append, length_leBytes, length_credits hcredits, List.length_replicate]

/-- The words, the credits and the SLOTMAP of a header read back. -/
theorem Flit.head_reads (hcredits : credits.length = 4) :
    let h := f.head nak ack credits
    h.take 2 = leBytes 2 (f.ftype * 2 ^ 12 + f.fseq % 2 ^ 12) ∧ (h.drop 2).take 2 = leBytes 2 (b2n nak * 2 ^ 15 + ack % 2 ^ 12) ∧
      (h.drop 4).take 8 = (credits.map (leBytes 2)).flatten ∧ (h.drop 12).take 10 = leBytes 10 f.map := by
  have hlen := length_credits hcredits
  refine ⟨List.take_left' (length_leBytes 2 _), take_drop_between _ (length_leBytes 2 _) (length_leBytes 2 _), ?_, ?_⟩
  · rw [Flit.head, ← List.append_assoc]
    exact take_drop_between _ (by simp [length_leBytes]) hlen
  · rw [Flit.head, ← List.append_assoc, ← List.append_assoc]
    exact take_drop_between _ (by simp [length_leBytes, hlen]) (length_leBytes 10 _)

/-- The credits of a header, each in its two bytes. -/
theorem credits_read {h : List Byte} (hh : (h.drop 4).take 8 = (credits.map (leBytes 2)).flatten) (hcredits : credits.length = 4)
    (hlt : ∀ c ∈ credits, c < 2 ^ 16) : (List.range 4).map (fun i => ofLE ((h.drop (4 + 2 * i)).take 2)) = credits := by
  have hpart : ∀ i, i < 4 → (h.drop (4 + 2 * i)).take 2 = (((credits.map (leBytes 2)).flatten).drop (2 * i)).take 2 := fun i hi => by
    rw [← hh, List.drop_take, List.take_take, List.drop_drop, min_eq_left (by omega)]
  obtain ⟨a, b, c, d, rfl⟩ : ∃ a b c d, credits = [a, b, c, d] := by
    match credits, hcredits with
    | [a, b, c, d], _ => exact ⟨a, b, c, d, rfl⟩
  simp only [List.mem_cons, List.not_mem_nil, or_false, forall_eq_or_imp, forall_eq] at hlt
  obtain ⟨ha, hb, hc, hd⟩ := hlt
  have hread : ∀ {x : Nat}, x < 2 ^ 16 → ofLE [BitVec.ofNat 8 x, BitVec.ofNat 8 (x / 256)] = x := fun hx => ofLE_leBytes_of_lt (n := 2) hx
  rw [List.map_congr_left (fun i hi => congrArg ofLE (hpart i (List.mem_range.mp hi)))]
  simpa [List.range_succ, leBytes] using ⟨hread ha, hread hb, hread hc, hread hd⟩

theorem typeWord_reads (ftype : Nat) {fseq : Nat} (h : fseq < 2 ^ 12) :
    (ftype * 2 ^ 12 + fseq % 2 ^ 12) / 2 ^ 12 = ftype ∧ (ftype * 2 ^ 12 + fseq % 2 ^ 12) % 2 ^ 12 = fseq := by omega

theorem ackWord_reads (nak : Bool) (h : ack < 2 ^ 12) :
    bit (b2n nak * 2 ^ 15 + ack % 2 ^ 12) 15 = nak ∧ (b2n nak * 2 ^ 15 + ack % 2 ^ 12) % 2 ^ 12 = ack := by
  refine ⟨Eq.trans ?_ (b2n_beq_one nak), by omega⟩
  have hnak : b2n nak ≤ 1 := by cases nak <;> decide
  simp only [bit]
  congr 1
  omega

/-- A flit is read back from its bytes, with what went with it. -/
theorem flitOf_bytes (htype : f.ftype ≤ 2) (hseq : f.fseq < 2 ^ 12) (hmap : f.map < 2 ^ 80) (hslots : f.slots.length = 608)
    (hack : ack < 2 ^ 12) (hcredits : credits.length = 4) (hlt : ∀ c ∈ credits, c < 2 ^ 16) :
    flitOf (f.bytes nak ack credits) = some (f, nak, ack, credits) := by
  have hnak : b2n nak ≤ 1 := by cases nak <;> decide
  obtain ⟨hw0, hw1, hcr, hm⟩ := f.head_reads (nak := nak) (ack := ack) hcredits
  have hhead := f.length_head (nak := nak) (ack := ack) hcredits
  rw [f.bytes_eq hslots]
  generalize f.head nak ack credits = h at *
  set crc := leBytes 4 (crc32 (h ++ f.slots)) with hcrc
  have hlcrc : crc.length = 4 := length_leBytes 4 _
  have htotal : (h ++ (crc ++ f.slots)).length = 640 := by simp only [List.length_append, hhead, hlcrc, hslots]
  have hsum : ((h ++ (crc ++ f.slots)).drop 28).take 4 = crc := take_drop_between _ hhead hlcrc
  have hrest : ((h ++ (crc ++ f.slots)).drop 32).take 608 = f.slots := by
    rw [← List.append_assoc, List.drop_left' (by simp only [List.length_append, hhead, hlcrc])]
    exact List.take_of_length_le hslots.le
  simp only [flitOf, htotal, hsum, hrest, List.take_left' hhead, hw0, hw1, hm, credits_read hcr hcredits hlt]
  rw [ofLE_leBytes_of_lt (show f.ftype * 2 ^ 12 + f.fseq % 2 ^ 12 < 2 ^ (8 * 2) by omega),
    ofLE_leBytes_of_lt (show b2n nak * 2 ^ 15 + ack % 2 ^ 12 < 2 ^ (8 * 2) by omega), hcrc, ofLE_leBytes_of_lt (crc32_lt _),
    ofLE_leBytes_of_lt (show f.map < 2 ^ (8 * 10) from hmap)]
  obtain ⟨htypes, hseqs⟩ := typeWord_reads (f.ftype) hseq
  obtain ⟨hnaks, hacks⟩ := ackWord_reads nak hack
  simp only [htypes, hseqs, hacks, hnaks, htype, beq_self_eq_true, decide_true, Bool.and_self, if_true]

end

end Sys2Proof.Machine

namespace Sys2Proof

open Machine

/-- Settles O29: the header's fields, the CRC and the slots stand behind each other in the bytes, and each is found again where it was put. -/
theorem flitsReadBack : Obligations.FlitsReadBack := by
  unfold Obligations.FlitsReadBack
  refine ⟨fun f nak ack credits htype hseq hmap hslots hack hcredits hlt => flitOf_bytes htype hseq hmap hslots hack hcredits hlt,
    fun bs hlen => if_neg (by simp [hlen]), fun bs hcrc => if_neg (by simp [hcrc]),
    fun c hprio hmod hfloor hserial hseq => claimOf_bytes hprio hmod hfloor hserial hseq,
    fun p hserial hmod hproto hnum hseq => presOf_bytes hserial hmod hproto hnum hseq⟩

end Sys2Proof
end

section
/-! Links and ports (for O30 to O33): what a port's state shows, and what replies, handovers of the reference, sending and routing leave
alone. -/

namespace Sys2Proof.Safety

open Sys2Proof.Machine

/-! ## The cascade and the clocks replaced -/

theorem keeps_withFab (s : State) (x : Fab) : Keeps [.fab] s { s with fab := x } := by
  intro p hp
  cases p
  case fab => simp at hp
  all_goals rfl

theorem keeps_withClk (s : State) (x : Clk) : Keeps [.clk] s { s with clk := x } := by
  intro p hp
  cases p
  case clk => simp at hp
  all_goals rfl

theorem keeps_updLink (s : State) (l : Nat) (f : Link → Link) : Keeps [.fab] s (s.updLink l f) := keeps_withFab s _

theorem Keeps.link {ps : List Part} {s t : State} (h : Keeps ps s t) (hp : Part.fab ∉ ps) (l : Nat) : t.link l = s.link l :=
  congrArg (fun x : Fab => Cells.get Link.start l x.links) (h .fab hp)

theorem Ends.mono {o : Host.Outcome State Fault Refusal} {via : Via} {a : Ans} {P Q : State → Prop} (h : Ends o via a P)
    (hPQ : ∀ u, P u → Q u) : Ends o via a Q :=
  h.imp fun u hu => ⟨hu.1, hPQ u hu.2⟩

theorem Goes.mono {o : Host.Outcome State Fault Refusal} {P Q : State → Prop} (h : Goes o P) (hPQ : ∀ u, P u → Q u) : Goes o Q :=
  h.imp fun u hu => ⟨hu.1, hPQ u hu.2⟩

end Sys2Proof.Safety

namespace Sys2Proof.Machine.State

open Sys2Proof.Safety

/-! ## Links -/

@[simp] theorem link_setLink_self (s : State) (l : Nat) (x : Link) : (s.setLink l x).link l = x := Cells.get_set_self _ _ _ _

theorem link_setLink_ne (s : State) {l m : Nat} (x : Link) (h : m ≠ l) : (s.setLink l x).link m = s.link m := Cells.get_set_ne _ _ h _ _

@[simp] theorem link_updLink_self (s : State) (l : Nat) (f : Link → Link) : (s.updLink l f).link l = f (s.link l) :=
  link_setLink_self s l _

theorem link_updLink_ne (s : State) {l m : Nat} (f : Link → Link) (h : m ≠ l) : (s.updLink l f).link m = s.link m :=
  link_setLink_ne s _ h

@[simp] theorem link_wr (s : State) (r : Reg) (v l : Nat) : (s.wr r v).link l = s.link l := (keeps_wr s r v).link (by decide) l

@[simp] theorem link_fw (s : State) (f : Fld) (v l : Nat) : (s.fw f v).link l = s.link l := link_wr s _ _ l

@[simp] theorem link_bump (s : State) (r : Reg) (n l : Nat) : (s.bump r n).link l = s.link l := link_wr s _ _ l

@[simp] theorem updLink_regs (s : State) (l : Nat) (f : Link → Link) : (s.updLink l f).regs = s.regs := rfl

@[simp] theorem updLink_mem (s : State) (l : Nat) (f : Link → Link) : (s.updLink l f).mem = s.mem := rfl

@[simp] theorem updLink_bert (s : State) (l : Nat) (f : Link → Link) : (s.updLink l f).fab.bert = s.fab.bert := rfl

/-- What a change of a link leaves of it, it leaves of every link. -/
theorem link_updLink_keeps {α : Type} (get : Link → α) (s : State) (l : Nat) {f : Link → Link} (h : get (f (s.link l)) = get (s.link l))
    (m : Nat) : get ((s.updLink l f).link m) = get (s.link m) := by
  by_cases hm : m = l
  · rw [hm, link_updLink_self, h]
  · rw [link_updLink_ne s f hm]

/-! ## Ports (09 R313, Table 9-4) -/

theorem portLink_lt (s : State) (p : Nat) : s.portLink p < 32 := bits_lt _ _ _

theorem portOf_le (s : State) (l : Nat) : s.portOf l ≤ l / 8 * 9 + 15 := by
  have := bits_lt (s.rd (if l < 8 then Reg.ATY_LINK_MAP0 else Reg.ATY_LINK_MAP1)) (4 * (l % 8)) 4
  simp only [portOf]
  omega

theorem portOf_congr {s t : State} (hlow : t.rd Reg.ATY_LINK_MAP0 = s.rd Reg.ATY_LINK_MAP0)
    (hhigh : t.rd Reg.ATY_LINK_MAP1 = s.rd Reg.ATY_LINK_MAP1) (l : Nat) : t.portOf l = s.portOf l := by
  have hmap : t.rd (if l < 8 then Reg.ATY_LINK_MAP0 else Reg.ATY_LINK_MAP1) = s.rd (if l < 8 then Reg.ATY_LINK_MAP0 else Reg.ATY_LINK_MAP1) := by
    split
    · exact hlow
    · exact hhigh
  rw [portOf, hmap, portOf]

/-- The status registers of two ports lie apart. -/
theorem portStatus_addr_ne {p q : Nat} (h : q ≠ p) : (Reg.ATY_PORT_STATUS q).addr ≠ (Reg.ATY_PORT_STATUS p).addr := by
  simp only [Reg.ATY_PORT_STATUS]
  omega

theorem portState_setPort_self (s : State) (p : Nat) {st : Nat} (h : st < 16) : (s.setPort p st).portState p = st :=
  (fd_fw_self s (Fld.ATY_PORT_STATUS_STATE p) st (show 28 + 4 ≤ 32 by decide) (show 32 ≤ 64 by decide)).trans (Nat.mod_eq_of_lt h)

theorem portState_setPort_ne (s : State) {p q : Nat} (st : Nat) (h : q ≠ p) : (s.setPort p st).portState q = s.portState q :=
  fd_fw_ne s (Fld.ATY_PORT_STATUS_STATE p) (Fld.ATY_PORT_STATUS_STATE q) st (portStatus_addr_ne h)

/-- The fields of a port's status below STATE stay when the port changes its state. -/
theorem fd_setPort (s : State) (p st : Nat) {f : Fld} (hreg : f.reg = Reg.ATY_PORT_STATUS p) (hlow : f.lo + f.w ≤ 28) :
    (s.setPort p st).fd f = s.fd f :=
  fd_fw_apart s (Fld.ATY_PORT_STATUS_STATE p) f st hreg (.inl hlow) (by rw [hreg]; exact hlow.trans (show 28 ≤ 32 by decide))
    (by rw [hreg]; exact (show 32 ≤ 64 by decide))

/-- A field of a port's status below STATE that is written leaves the port's state. -/
theorem portState_fw_low (s : State) {p : Nat} {f : Fld} (v : Nat) (hreg : f.reg = Reg.ATY_PORT_STATUS p) (hlow : f.lo + f.w ≤ 28) (q : Nat) :
    (s.fw f v).portState q = s.portState q := by
  by_cases h : q = p
  · subst h
    exact fd_fw_apart s f (Fld.ATY_PORT_STATUS_STATE q) v hreg.symm (.inr hlow) (show 28 + 4 ≤ 32 by decide) (show 32 ≤ 64 by decide)
  · exact fd_fw_ne s f (Fld.ATY_PORT_STATUS_STATE q) v (by rw [hreg]; exact portStatus_addr_ne h)

theorem keeps_setPort (s : State) (p st : Nat) : Keeps [.regs] s (s.setPort p st) := keeps_fw s _ st

@[simp] theorem link_setPort (s : State) (p st l : Nat) : (s.setPort p st).link l = s.link l := link_fw s _ _ l

@[simp] theorem setPort_fab (s : State) (p st : Nat) : (s.setPort p st).fab = s.fab := fw_fab s _ st

@[simp] theorem setPort_mem (s : State) (p st : Nat) : (s.setPort p st).mem = s.mem := fw_mem s _ st

theorem regsKeep_setPort (s : State) (p st : Nat) : RegsKeep [(Reg.ATY_PORT_STATUS p).addr] s (s.setPort p st) :=
  regsKeep_fw s (Fld.ATY_PORT_STATUS_STATE p) st

/-! ## The MCC's reply and a handover of the reference (02 R64; 15 R531 to R533) -/

/-- The parts of the state that a reply of the MCC may change. -/
def replyParts : List Part := [.mcc, .regs, .hif, .host, .out]

theorem keeps_sealRecord (s : State) (w idx : Nat) (payload : List Byte) : Keeps [.hif, .host] s (s.sealRecord w idx payload) := by
  unfold sealRecord
  split
  · exact Keeps.refl _ s
  · exact ((keeps_withHif s _).mono (by simp)).trans ((keeps_hostWrite _ _ _).mono (by simp))

theorem mccReply_frame (s : State) (a : Ans) :
    Keeps replyParts s (s.mccReply a) ∧ RegsKeep [Reg.MCC_STATUS.addr] s (s.mccReply a) := by
  unfold mccReply
  split
  · exact ⟨Keeps.refl _ s, RegsKeep.of_regs_eq rfl⟩
  · rename_i j _
    extract_lets r rec? mcc free mcc' shown valid
    have hfree : Keeps replyParts s free := (keeps_withMcc s _).mono (by decide)
    have hshown : Keeps replyParts free shown ∧ shown.regs = free.regs := by
      cases h : rec? with
      | none =>
        rw [show shown = { free with mcc := { free.mcc with reply := r } } by simp only [shown, h, mcc']]
        exact ⟨(keeps_withMcc free _).mono (by decide), rfl⟩
      | some e =>
        obtain ⟨i, idx⟩ := e
        rw [show shown = free.sealRecord 0 idx (leBytes 32 r.toNat) by simp only [shown, h]]
        have hsealed := keeps_sealRecord free 0 idx (leBytes 32 r.toNat)
        exact ⟨hsealed.mono (by decide), hsealed .regs (by decide)⟩
    have hvalid : Keeps replyParts s valid ∧ RegsKeep [Reg.MCC_STATUS.addr] s valid :=
      ⟨(hfree.trans hshown.1).trans ((keeps_fw _ _ _).mono (by decide)),
        (RegsKeep.of_regs_eq hshown.2).trans (regsKeep_fw shown Fld.MCC_STATUS_REPLY_VALID 1)⟩
    split_ifs
    · exact ⟨hfree.trans ((keeps_emit _ _).mono (by decide)), RegsKeep.of_regs_eq rfl⟩
    · have hirq := keeps_replyIrq valid 1
      exact ⟨hvalid.1.trans (hirq.mono (by decide)), hvalid.2.trans (RegsKeep.of_regs_eq (hirq .regs (by decide)))⟩
    · exact hvalid

/-- The parts of the state that a handover of the reference may change, the answer of a command that waits for it included. -/
def handoverParts : List Part := [.clk, .mcc, .regs, .hif, .host, .out, .log]

/-- The registers that a handover of the reference may change. -/
def handoverAddrs : List Nat :=
  [Reg.CLK_STATUS.addr, Reg.CLK_READY.addr, Reg.CLK_TIME_STATUS.addr, Reg.MCC_STATUS.addr, Reg.RAS_LOG_SEQ.addr]

/-- What a handover of the reference may change. -/
structure HandsOver (s t : State) : Prop where
  parts : Keeps handoverParts s t
  regs : RegsKeep handoverAddrs s t

theorem HandsOver.refl (s : State) : HandsOver s s := ⟨Keeps.refl _ s, RegsKeep.of_regs_eq rfl⟩

theorem HandsOver.trans {s t u : State} (h : HandsOver s t) (h' : HandsOver t u) : HandsOver s u :=
  ⟨h.parts.trans h'.parts, h.regs.trans h'.regs⟩

theorem HandsOver.withClk (s : State) (x : Clk) : HandsOver s { s with clk := x } :=
  ⟨(keeps_withClk s x).mono (by decide), RegsKeep.of_regs_eq rfl⟩

theorem HandsOver.wr (s : State) {r : Reg} (v : Nat) (hr : r.addr ∈ handoverAddrs) : HandsOver s (s.wr r v) :=
  ⟨(keeps_wr s r v).mono (by decide), (regsKeep_wr s r v).mono (List.cons_subset.mpr ⟨hr, List.nil_subset _⟩)⟩

theorem HandsOver.mccReply (s : State) (a : Ans) : HandsOver s (s.mccReply a) :=
  ⟨(mccReply_frame s a).1.mono (by decide), (mccReply_frame s a).2.mono (by decide)⟩

theorem handsOver_clkCancel (s : State) : HandsOver s s.clkCancel := by
  unfold clkCancel
  split
  · exact .refl s
  · extract_lets clk cancelled
    have hcancelled : HandsOver s cancelled := (HandsOver.withClk s _).trans (.wr _ _ (by decide))
    split
    · exact hcancelled.trans (.mccReply _ _)
    · exact hcancelled

theorem handsOver_clkTake (s : State) (c : Nat) : HandsOver s (s.clkTake c) := (handsOver_clkCancel s).trans (.wr _ _ (by decide))

theorem handsOver_clkSwitch (s : State) (c : Nat) (cmd : Bool) : HandsOver s (s.clkSwitch c cmd) := by
  unfold clkSwitch
  split
  · exact handsOver_clkCancel s
  · exact ((handsOver_clkCancel s).trans (.withClk _ _)).trans (.wr _ _ (by decide))

theorem handsOver_linkHandover (s : State) : HandsOver s s.linkHandover := by
  unfold linkHandover
  extract_lets clk lost held moved
  have hlost : HandsOver s lost := (HandsOver.withClk s _).trans (.wr _ _ (by decide))
  have hheld : HandsOver s held := by
    by_cases h : lost.fb Fld.CLK_TIME_STATUS_SYNCED = true
    · rw [show held = lost.fbw Fld.CLK_TIME_STATUS_HOLDOVER true from if_pos h]
      exact hlost.trans (.wr _ _ (by decide))
    · rw [show held = lost from if_neg h]
      exact hlost
  have hmoved : HandsOver held moved := by
    by_cases h : held.clkReady 1 = true
    · rw [show moved = held.clkSwitch 1 false from if_pos h]
      exact handsOver_clkSwitch held 1 false
    · rw [show moved = held.clkTake 0 from if_neg h]
      exact handsOver_clkTake held 0
  split
  · exact (hheld.trans hmoved).trans ⟨(keeps_trouble moved _ _ _ _ _).mono (by decide), (regsKeep_trouble moved _ _ _ _ _).mono (by decide)⟩
  · split
    · exact hheld.trans (handsOver_clkCancel held)
    · exact hheld

theorem handsOver_portLost (s : State) (p : Nat) : HandsOver s (s.portLost p) := by
  unfold portLost
  split
  · exact handsOver_linkHandover s
  · exact .refl s

namespace HandsOver

variable {s t : State} (h : HandsOver s t)
include h

/-- The registers of ports and of the cascade lie above those that a handover changes. -/
theorem rd {r : Reg} (hr : 0x1000000 ≤ r.addr) : t.rd r = s.rd r :=
  h.regs.rd (by
    simp only [handoverAddrs, Reg.CLK_STATUS, Reg.CLK_READY, Reg.CLK_TIME_STATUS, Reg.MCC_STATUS, Reg.RAS_LOG_SEQ, List.mem_cons,
      List.not_mem_nil, or_false]
    omega)

theorem fd {f : Fld} (hf : 0x1000000 ≤ f.reg.addr) : t.fd f = s.fd f := congrArg (bits · f.lo f.w) (h.rd hf)

theorem fb {f : Fld} (hf : 0x1000000 ≤ f.reg.addr) : t.fb f = s.fb f := congrArg (· != 0) (h.fd hf)

theorem portState (p : Nat) : t.portState p = s.portState p :=
  h.fd (show 0x1000000 ≤ 0x2300000 + 0x10000 * p by omega)

theorem portLink (p : Nat) : t.portLink p = s.portLink p :=
  h.fd (show 0x1000000 ≤ 0x2300000 + 0x10000 * p by omega)

theorem portOf (l : Nat) : t.portOf l = s.portOf l := portOf_congr (h.rd (by decide)) (h.rd (by decide)) l

theorem fab : t.fab = s.fab := h.parts .fab (by decide)

theorem mem : t.mem = s.mem := h.parts .mem (by decide)

theorem link (l : Nat) : t.link l = s.link l := h.parts.link (by decide) l

end HandsOver

/-! ## Sending and routing (09 R317 to R319, R331, R332) -/

theorem sendFlit_shows (s : State) (l : Nat) (f : Flit) (nak : Bool) :
    let x := s.link l
    let u := s.sendFlit l f nak
    u.out = .flit l (f.bytes nak x.rx x.owed) :: s.out ∧ u.link l = { x with owed := [0, 0, 0, 0] } ∧ (∀ m, m ≠ l → u.link m = s.link m) ∧
      u.regs = s.regs ∧ Keeps [.fab, .out] s u :=
  ⟨rfl, link_setLink_self s l _, fun _ hm => link_setLink_ne s _ hm, rfl,
    ((keeps_withFab s _).mono (by simp)).trans ((keeps_emit _ _).mono (by simp))⟩

/-- A link with nothing queued sends nothing. -/
theorem egress_empty {s : State} {l : Nat} (h : (s.link l).queue = []) : s.egress l = s := by
  simp [egress, egressAux, packFlit, nextMsg, h]

/-- Packing a flit takes from a link's queue and credits. -/
theorem packFlit_spare (st k : Nat) (x : Link) (ctl : Bool) (n : Nat) (ms : List LinkMsg) :
    (packFlit st k x ctl n ms).1.spare = x.spare := by
  induction k generalizing x ctl n ms with
  | zero => rfl
  | succ k ih =>
    unfold packFlit
    split
    · rfl
    · split
      · rfl
      · split
        · rfl
        · exact ih _ _ _ _

/-- What sending on links may change: what is queued and held, what has left, and the counters of the groups `G`, with what a wrap
shows. -/
structure LinkFrame (G : Nat → Prop) (s t : State) : Prop where
  parts : Keeps (.fab :: .free :: countParts) s t
  regs : ∀ d a, (∀ g, G g → a ∉ countAddrs g) → Cells.get d a t.regs = Cells.get d a s.regs
  spare : ∀ m, (t.link m).spare = (s.link m).spare

/-- The groups of the ports that links below 32 may name. -/
def portGroups (g : Nat) : Prop := g < 64

/-- Every group, also one that no port has: a state may hold any number as a link. -/
def anyGroup (_ : Nat) : Prop := True

theorem portGroups_portOf {l : Nat} (hl : l < 32) (s : State) : portGroups (20 + s.portOf l) := by
  have := portOf_le s l
  simp only [portGroups]
  omega

namespace LinkFrame

variable {G : Nat → Prop}

theorem refl (s : State) : LinkFrame G s s := ⟨Keeps.refl _ s, fun _ _ _ => rfl, fun _ => rfl⟩

theorem trans {s t u : State} (h : LinkFrame G s t) (h' : LinkFrame G t u) : LinkFrame G s u :=
  ⟨h.parts.trans h'.parts, fun d a ha => (h'.regs d a ha).trans (h.regs d a ha), fun m => (h'.spare m).trans (h.spare m)⟩

theorem foldl {α : Type} {f : State → α → State} {l : List α} (s : State) (h : ∀ u, ∀ a ∈ l, LinkFrame G u (f u a)) :
    LinkFrame G s (l.foldl f s) :=
  List.foldlRecOn l f (refl s) (fun u hu a ha => hu.trans (h u a ha))

theorem any {s t : State} (h : LinkFrame G s t) : LinkFrame anyGroup s t :=
  ⟨h.parts, fun d a ha => h.regs d a (fun g _ => ha g trivial), h.spare⟩

/-- The state of an outcome, named by a match on the outcome. -/
theorem fst {α : Type} {s u : State} {a : α} {x : State × α} (h : LinkFrame G s x.1) (hx : x = (u, a)) : LinkFrame G s u := by
  subst hx
  exact h

/-- A step that changes neither links nor registers. -/
theorem of_keeps {s t : State} {ps : List Part} (h : Keeps ps s t) (hps : ps ⊆ .fab :: .free :: countParts) (hregs : t.regs = s.regs)
    (hlinks : t.fab.links = s.fab.links) : LinkFrame G s t :=
  ⟨h.mono hps, fun _ _ _ => by rw [hregs], fun m => by rw [State.link, hlinks, State.link]⟩

theorem pmuEvent (s : State) {g : Nat} (hg : G g) (ev n : Nat) (o : Option Origin) : LinkFrame G s (s.pmuEvent g ev n o) := by
  obtain ⟨hparts, hregs⟩ := pmuEvent_frame s g ev n o
  exact ⟨hparts.mono (by decide), fun d a ha => hregs d a (ha g hg), fun m => by rw [hparts.link (by decide)]⟩

theorem setLink (s : State) (l : Nat) {x : Link} (h : x.spare = (s.link l).spare) : LinkFrame G s (s.setLink l x) :=
  ⟨(keeps_withFab s _).mono (by decide), fun _ _ _ => rfl, link_updLink_keeps Link.spare s l (f := fun _ => x) h⟩

theorem updLink (s : State) (l : Nat) {f : Link → Link} (h : (f (s.link l)).spare = (s.link l).spare) : LinkFrame G s (s.updLink l f) :=
  setLink s l h

theorem emit (s : State) (o : Out) : LinkFrame G s (s.emit o) := of_keeps (keeps_emit s o) (by decide) rfl rfl

theorem sendFlit (s : State) (l : Nat) (f : Flit) (nak : Bool) : LinkFrame G s (s.sendFlit l f nak) :=
  (setLink s l (x := { s.link l with owed := [0, 0, 0, 0] }) rfl).trans (emit _ _)

section
variable {s t : State}

theorem rd (h : LinkFrame G s t) {r : Reg} (hr : ∀ g, G g → r.addr ∉ countAddrs g) : t.rd r = s.rd r :=
  congrArg BitVec.toNat (h.regs _ _ hr)

theorem fd (h : LinkFrame G s t) {f : Fld} (hf : ∀ g, G g → f.reg.addr ∉ countAddrs g) : t.fd f = s.fd f :=
  congrArg (bits · f.lo f.w) (h.rd hf)

/-- The status of a port shares its place among 256 bytes with no counter of any group. -/
theorem not_mem_countAddrs_of_place {a : Nat} (ha : 0x2000000 ≤ a) (hplace : a % 256 < 0x40) (hovf : a % 256 ≠ 8) (g : Nat) :
    a ∉ countAddrs g := by
  simp only [countAddrs, Reg.PMU_OVF, Reg.PMU_OVF_LOST, Reg.RAS_LOG_SEQ, Reg.PMU_CNT, List.cons_append, List.nil_append, List.mem_cons,
    List.mem_map, List.mem_range, not_or, not_exists, not_and]
  exact ⟨by omega, by omega, by omega, fun c hc => by omega⟩

theorem portState (h : LinkFrame G s t) (p : Nat) : t.portState p = s.portState p :=
  h.fd fun g _ => not_mem_countAddrs_of_place (show 0x2000000 ≤ 0x2300000 + 0x10000 * p by omega)
    (show (0x2300000 + 0x10000 * p) % 256 < 0x40 by omega) (show (0x2300000 + 0x10000 * p) % 256 ≠ 8 by omega) g

theorem portOf (h : LinkFrame G s t) (l : Nat) : t.portOf l = s.portOf l :=
  portOf_congr (h.rd fun g _ => not_mem_countAddrs_of_place (by decide) (by decide) (by decide) g)
    (h.rd fun g _ => not_mem_countAddrs_of_place (by decide) (by decide) (by decide) g) l

end

/-- A port's registers and the cascade's lie above the counters of the ports' groups. -/
theorem not_mem_countAddrs_of_above {a : Nat} (ha : 0x2000000 ≤ a) (g : Nat) (hg : portGroups g) : a ∉ countAddrs g := by
  simp only [portGroups] at hg
  simp only [countAddrs, Reg.PMU_OVF, Reg.PMU_OVF_LOST, Reg.RAS_LOG_SEQ, Reg.PMU_CNT, List.cons_append, List.nil_append, List.mem_cons,
    List.mem_map, List.mem_range, not_or, not_exists, not_and]
  exact ⟨by omega, by omega, by omega, fun c hc => by omega⟩

end LinkFrame

section
variable {G : Nat → Prop} {l : Nat} (hG : ∀ u : State, G (20 + u.portOf l))
include hG

omit hG in
theorem linkFrame_countSent (s : State) {g : Nat} (hg : G g) (m : LinkMsg) : LinkFrame G s (s.countSent g m) := by
  unfold countSent
  split
  · exact (LinkFrame.pmuEvent s hg _ _ _).trans (.pmuEvent _ hg _ _ _)
  · exact .refl s

theorem linkFrame_egressAux (k : Nat) (s : State) : LinkFrame G s (egressAux l k s) := by
  induction k generalizing s with
  | zero => exact .refl s
  | succ k ih =>
    unfold egressAux
    extract_lets x
    split
    · exact .refl s
    · split
      · exact .refl s
      · rename_i y ms _ hpack
        extract_lets ctl sorted
        have hspare : y.spare = (s.link l).spare := (congrArg (fun r => r.1.spare) hpack).symm.trans (packFlit_spare _ _ x _ _ _)
        have hopen : LinkFrame G s (if ctl then s.open_ 4 else (0, s)).2 := by
          split
          · exact .of_keeps (keeps_open s 4) (by decide) rfl rfl
          · exact .refl s
        generalize (if ctl then s.open_ 4 else (0, s)) = nibble at hopen ⊢
        obtain ⟨nib, u⟩ := nibble
        have hsent : LinkFrame G u (sorted.foldl (fun s m => s.countSent (20 + s.portOf l) m) u) :=
          .foldl u fun v m _ => linkFrame_countSent v (hG v) m
        refine LinkFrame.trans ?_ (ih _)
        generalize sorted.foldl (fun s m => s.countSent (20 + s.portOf l) m) u = v at hsent ⊢
        have hcounted := (hopen.trans hsent).trans (.pmuEvent v (hG v) 0x120 1 none)
        have hheld : ∀ z : Link, z.spare = y.spare → LinkFrame G s ((v.pmuEvent (20 + v.portOf l) 0x120 1 none).setLink l z) :=
          fun z hz => hcounted.trans (.setLink _ l (hz.trans (hspare.trans (hcounted.spare l).symm)))
        refine LinkFrame.trans (hheld _ ?_) (.sendFlit _ l _ _)
        rfl

theorem linkFrame_egress (s : State) : LinkFrame G s (s.egress l) := linkFrame_egressAux hG _ s

theorem linkFrame_enqueue (s : State) (m : LinkMsg) : LinkFrame G s (s.enqueue l m) :=
  (LinkFrame.updLink s l rfl).trans (linkFrame_egress hG _)

theorem linkFrame_sendCtl (s : State) (bs : List Byte) : LinkFrame G s (s.sendCtl l bs) := linkFrame_enqueue hG s _

end

/-- A message on every UP link counts on ports' groups. -/
theorem linkFrame_flood (s : State) (except : Option Nat) (bs : List Byte) : LinkFrame portGroups s (s.flood except bs) :=
  .foldl s fun u l hl => by
    have hlt : l < 16 := List.mem_range.mp (List.mem_of_mem_filter (List.mem_of_mem_filter hl))
    exact linkFrame_sendCtl (portGroups_portOf (by omega)) u bs

theorem linkFrame_route (s : State) (m : LinkMsg) : LinkFrame anyGroup s (s.route m) := by
  have hfab : ∀ x : Fab, x.links = s.fab.links → LinkFrame anyGroup s { s with fab := x } := fun x hx =>
    .of_keeps (keeps_withFab s x) (by decide) rfl hx
  unfold route
  extract_lets ls own unit home lane
  split
  · exact hfab _ rfl
  · split
    · exact linkFrame_enqueue (fun _ => trivial) s m
    · refine LinkFrame.trans ?_ (linkFrame_enqueue (fun _ => trivial) _ m)
      split
      · exact hfab _ rfl
      · exact .refl s
    · split
      · exact hfab _ rfl
      · exact .refl s

theorem linkFrame_routeWaiting (s : State) : LinkFrame anyGroup s s.routeWaiting :=
  (LinkFrame.of_keeps (keeps_withFab s { s.fab with waiting := [] }) (by decide) rfl rfl).trans
    (.foldl _ fun u m _ => linkFrame_route u m)

/-- Where no message waits there is none to try again. -/
theorem routeWaiting_empty {s : State} (h : s.fab.waiting = []) : s.routeWaiting = s := by
  have hfab : ({ s.fab with waiting := [] } : Fab) = s.fab := by rw [← h]
  simp only [routeWaiting, h, hfab, List.foldl_nil]

theorem linkFrame_launch (s : State) (q : Req) : LinkFrame anyGroup s (s.launch q) := by
  unfold launch
  extract_lets sent
  split
  · exact .emit s _
  · exact (LinkFrame.emit s _).trans (linkFrame_route sent _)

theorem linkFrame_sendFar (s : State) (q : Req) : LinkFrame anyGroup s (s.sendFar q) := linkFrame_launch s _

/-- Messages re-routed or kept in their queue. -/
theorem linkFrame_rerouteVc2 (s : State) (l : Nat) : LinkFrame anyGroup s (s.rerouteVc2 l) := by
  unfold rerouteVc2
  extract_lets q vc2 taken
  split
  rename_i u keep hmoved
  have hu : LinkFrame anyGroup taken u := by
    refine LinkFrame.fst ?_ hmoved
    refine List.foldlRecOn (motive := fun r : State × List LinkMsg => LinkFrame anyGroup taken r.1) vc2 _ (.refl taken) (fun r hr m _ => ?_)
    dsimp only
    split
    · exact hr
    · exact hr.trans (linkFrame_route _ m)
  exact ((LinkFrame.updLink s l rfl).trans hu).trans (.updLink _ l rfl)

theorem linkFrame_resend (G : Nat → Prop) (s : State) (l : Nat) : LinkFrame G s (s.resend l) :=
  .foldl s fun u f _ => .sendFlit u l f false

end Sys2Proof.Machine.State
end

section
/-! Flits that arrive and are replayed (O30): counting, NAKs, acknowledgements, requests delivered, and replays. -/

namespace Sys2Proof.Machine.State

open Sys2Proof.Safety

/-! ## A codeword counted (09 R320, R326) -/

/-- A codeword counted on the port of its link, with the symbols that FEC corrected. -/
def codewordCounted (s : State) (l c : Nat) : State :=
  let p := s.portOf l
  let u := (s.bumpWrap (Reg.ATY_FEC_CW_CNT p) 64 1).bumpWrap (Reg.ATY_FEC_CORR_CNT p) 64 c
  (u.pmuEvent (20 + p) 0x123 c none).updLink l (fun x => { x with corr := x.corr + c })

/-- The registers that a codeword on a port may change. -/
def codewordAddrs (p : Nat) : List Nat :=
  [(Reg.ATY_FEC_CW_CNT p).addr, (Reg.ATY_FEC_CORR_CNT p).addr, (Reg.ATY_FEC_UNCORR_CNT p).addr] ++ countAddrs (20 + p)

/-- What an arriving codeword may change before what it carries is performed. -/
structure Arrives (p : Nat) (s t : State) : Prop where
  parts : Keeps (.fab :: countParts) s t
  regs : RegsKeep (codewordAddrs p) s t

namespace Arrives

variable {p : Nat} {s t u : State}

theorem trans (h : Arrives p s t) (h' : Arrives p t u) : Arrives p s u := ⟨h.parts.trans h'.parts, h.regs.trans h'.regs⟩

theorem wr (s : State) {r : Reg} (v : Nat) (hr : r.addr ∈ codewordAddrs p) : Arrives p s (s.wr r v) :=
  ⟨(keeps_wr s r v).mono (by decide), (regsKeep_wr s r v).mono (List.cons_subset.mpr ⟨hr, List.nil_subset _⟩)⟩

theorem pmuEvent (s : State) (ev n : Nat) (o : Option Origin) : Arrives p s (s.pmuEvent (20 + p) ev n o) :=
  ⟨(pmuEvent_frame s _ _ _ _).1.mono (by simp), (pmuEvent_frame s _ _ _ _).2.mono (List.subset_append_right _ _)⟩

theorem updLink (s : State) (l : Nat) (f : Link → Link) : Arrives p s (s.updLink l f) :=
  ⟨(keeps_updLink s l f).mono (by simp), RegsKeep.of_regs_eq rfl⟩

theorem sendIdle (s : State) (l : Nat) (nak : Bool) : Arrives p s (s.sendIdle l nak) := by
  obtain ⟨-, -, -, hregs, hparts⟩ := sendFlit_shows s l ⟨ftIdle, (s.link l).tx, 0, []⟩ nak
  exact ⟨hparts.mono (by decide), RegsKeep.of_regs_eq hregs⟩

theorem memory (h : Arrives p s t) : t.mem = s.mem ∧ t.host = s.host := ⟨h.parts .mem (by decide), h.parts .host (by decide)⟩

/-- A port's thresholds and status, the link maps and the module's number are none of the registers of a codeword. -/
theorem rd (hp : p < 18) (h : Arrives p s t) {r : Reg} (ha : 0x2100000 ≤ r.addr)
    (hplace : r.addr % 0x10000 ∉ [0x10, 0x18, 0x20] ∨ 0x2420000 ≤ r.addr) : t.rd r = s.rd r := by
  refine h.regs.rd ?_
  simp only [List.mem_cons, List.not_mem_nil, or_false, not_or] at hplace
  simp only [codewordAddrs, List.mem_append, not_or]
  refine ⟨?_, not_mem_countAddrs (by omega) ha⟩
  simp only [Reg.ATY_FEC_CW_CNT, Reg.ATY_FEC_CORR_CNT, Reg.ATY_FEC_UNCORR_CNT, List.mem_cons, List.not_mem_nil, or_false, not_or]
  omega

end Arrives

section
variable {s : State} {l p c : Nat}

theorem arrives_codewordCounted (hp : s.portOf l = p) : Arrives p s (s.codewordCounted l c) := by
  subst hp
  have hcw := Arrives.wr s (r := Reg.ATY_FEC_CW_CNT (s.portOf l)) ((s.rd (Reg.ATY_FEC_CW_CNT (s.portOf l)) + 1) % 2 ^ 64)
    (List.mem_append_left _ (List.mem_cons_self ..))
  have hcorr := fun u v => Arrives.wr u (r := Reg.ATY_FEC_CORR_CNT (s.portOf l)) v
    (List.mem_append_left _ (List.mem_cons_of_mem _ (List.mem_cons_self ..)))
  exact ((hcw.trans (hcorr _ _)).trans (.pmuEvent _ 0x123 c none)).trans (.updLink _ l (fun x => { x with corr := x.corr + c }))

theorem link_codewordCounted (m : Nat) :
    (s.codewordCounted l c).link m = if m = l then { s.link l with corr := (s.link l).corr + c } else s.link m := by
  let u := (s.bumpWrap (Reg.ATY_FEC_CW_CNT (s.portOf l)) 64 1).bumpWrap (Reg.ATY_FEC_CORR_CNT (s.portOf l)) 64 c
  have hlink : ∀ k, (u.pmuEvent (20 + s.portOf l) 0x123 c none).link k = s.link k := fun k =>
    ((pmuEvent_frame u _ _ _ _).1.link (by decide) k).trans ((link_wr _ _ _ k).trans (link_wr s _ _ k))
  have hcounted : s.codewordCounted l c = (u.pmuEvent (20 + s.portOf l) 0x123 c none).updLink l (fun x => { x with corr := x.corr + c }) := rfl
  rw [hcounted]
  split
  · rename_i h
    rw [h, link_updLink_self, hlink]
  · rename_i h
    rw [link_updLink_ne _ _ h, hlink]

/-- Below both thresholds the window sets nothing off. -/
theorem windowCheck_below {u : State} (hcorr : (u.link (u.portLink p)).corr < u.fd (Fld.ATY_PORT_ERR_CFG_CORR_THRESH p))
    (hbad : (u.link (u.portLink p)).bad < u.fd (Fld.ATY_PORT_ERR_CFG_UNCORR_THRESH p)) : u.windowCheck p = u := by
  simp [windowCheck, Nat.not_le.mpr hcorr, Nat.not_le.mpr hbad]

/-- A link whose port is UP, in the premises that the clauses of R319 to R326 share: it is below its thresholds by `b` further errors. -/
structure UpBelow (s : State) (l p c b : Nat) : Prop where
  link : l < 16
  port : s.portOf l = p
  ports : p < 18
  up : s.portState p = pUp
  serves : s.portLink p = l
  corr : (s.link l).corr + c < s.fd (Fld.ATY_PORT_ERR_CFG_CORR_THRESH p)
  bad : (s.link l).bad + b < s.fd (Fld.ATY_PORT_ERR_CFG_UNCORR_THRESH p)

variable {b : Nat} (h : UpBelow s l p c b)
include h

/-- What an arriving codeword leaves below the thresholds sets off no retraining. -/
theorem windowCheck_arrives {u : State} (hu : Arrives p s u) (hcorr : (u.link l).corr = (s.link l).corr + c)
    (hbad : (u.link l).bad ≤ (s.link l).bad + b) : u.windowCheck p = u := by
  have hport := hu.rd h.ports (r := Reg.ATY_PORT_STATUS p) (show 0x2100000 ≤ 0x2300000 + 0x10000 * p by omega)
    (.inl (by simp only [Reg.ATY_PORT_STATUS, List.mem_cons, List.not_mem_nil, or_false]; omega))
  have hthresh := hu.rd h.ports (r := Reg.ATY_PORT_ERR_CFG p) (show 0x2100000 ≤ 0x2300008 + 0x10000 * p by omega)
    (.inl (by simp only [Reg.ATY_PORT_ERR_CFG, List.mem_cons, List.not_mem_nil, or_false]; omega))
  have hserves : u.portLink p = l := (congrArg (bits · 23 5) hport).trans h.serves
  have hcorrs : u.fd (Fld.ATY_PORT_ERR_CFG_CORR_THRESH p) = s.fd (Fld.ATY_PORT_ERR_CFG_CORR_THRESH p) := congrArg (bits · 16 16) hthresh
  have hbads : u.fd (Fld.ATY_PORT_ERR_CFG_UNCORR_THRESH p) = s.fd (Fld.ATY_PORT_ERR_CFG_UNCORR_THRESH p) := congrArg (bits · 8 8) hthresh
  refine windowCheck_below ?_ ?_
  · rw [hserves, hcorr, hcorrs]
    exact h.corr
  · rw [hserves, hbads]
    exact hbad.trans_lt h.bad

end

/-! ## Answers with NAK (09 R320) -/

/-- A codeword that FEC could not correct, counted and answered with NAK. -/
def codewordLost (s : State) (l c : Nat) : State :=
  (((s.codewordCounted l c).bump (Reg.ATY_FEC_UNCORR_CNT (s.portOf l)) 1).updLink l (fun x => { x with bad := x.bad + 1 })).sendIdle l true

section
variable {s : State} {l p c b : Nat} {bs : List Byte} {seen : Seen} {f : Flit} {nak : Bool} {ack : Nat} {cr : List Nat}

theorem link_sendIdle (u : State) (l : Nat) (nak : Bool) :
    (u.sendIdle l nak).link l = { u.link l with owed := [0, 0, 0, 0] } ∧ (∀ m, m ≠ l → (u.sendIdle l nak).link m = u.link m) ∧
      (u.sendIdle l nak).out.head? = some (.flit l (Flit.bytes ⟨ftIdle, (u.link l).tx, 0, []⟩ nak (u.link l).rx (u.link l).owed)) := by
  obtain ⟨hout, hlink, hother, -, -⟩ := sendFlit_shows u l ⟨ftIdle, (u.link l).tx, 0, []⟩ nak
  exact ⟨hlink, hother, by rw [sendIdle, hout]; rfl⟩

/-- The rest of an arrival on an UP link, once the codeword is counted. -/
theorem flitIn_up (h : UpBelow s l p c b) (decodes : Bool) :
    s.flitIn l decodes c bs seen =
      (if !decodes then s.codewordLost l c
      else match flitOf bs with
        | none => (((s.codewordCounted l c).bump (Reg.ATY_CRC_ERR_CNT p) 1).updLink l (fun x => { x with bad := x.bad + 1 })).sendIdle l true
        | some (f, nak, ack, cr) =>
          if f.fseq = (if f.ftype = ftIdle then (s.link l).rx else ((s.link l).rx + 1) % 2 ^ 12) then
            (s.codewordCounted l c).flitAccept l f nak ack cr seen
          else (s.codewordCounted l c).sendIdle l true).windowCheck p := by
  obtain ⟨hl, rfl, hports, hup, -, -, -⟩ := h
  have hrx : ((s.codewordCounted l c).link l).rx = (s.link l).rx := by rw [link_codewordCounted, if_pos rfl]
  have hstate : (s.codewordCounted l c).portState (s.portOf l) = pUp :=
    (congrArg (bits · 28 4) ((arrives_codewordCounted rfl).rd hports (r := Reg.ATY_PORT_STATUS (s.portOf l))
      (show 0x2100000 ≤ 0x2300000 + 0x10000 * s.portOf l by omega)
      (.inl (by simp only [Reg.ATY_PORT_STATUS, List.mem_cons, List.not_mem_nil, or_false]; omega)))).trans hup
  have hrecv : (decide (16 ≤ l) || !receives (s.portState (s.portOf l))) = false := by
    simp [hup, receives, carries, Nat.not_le.mpr hl]
  unfold flitIn
  simp only [hrecv, Bool.false_eq_true, if_false]
  refine congrArg (windowCheck · (s.portOf l)) ?_
  cases decodes with
  | false => rfl
  | true =>
    cases flitOf bs with
    | none => rfl
    | some e =>
      obtain ⟨f, nak, ack, cr⟩ := e
      change (if (decide (f.fseq = (if f.ftype = ftIdle then ((s.codewordCounted l c).link l).rx
          else (((s.codewordCounted l c).link l).rx + 1) % 2 ^ 12)) &&
        ((s.codewordCounted l c).portState (s.portOf l) == pUp || !f.traffic)) = true then _ else _) = _
      simp only [hrx, hstate, beq_self_eq_true, Bool.true_or, Bool.and_true, decide_eq_true_eq]
      rfl

/-- The state of a flit accepted up to its messages: the event counted, its acknowledgement and its credits taken. -/
def flitAcked (s : State) (l ack : Nat) (cr : List Nat) : State := (s.pmuEvent (20 + s.portOf l) 0x121 1 none).ackIn l ack cr

/-- A link after the acknowledgement and the credits of an accepted flit (09 R319, R321). -/
def acked (x : Link) (ack : Nat) (cr : List Nat) : Link :=
  { x with held := match x.held.findIdx? (fun g => g.fseq == ack) with
             | some i => x.held.drop (i + 1)
             | none => x.held
           credit := (x.credit.zip cr).map (fun (a, b) => a + b) }

theorem link_flitAcked (u : State) (l ack : Nat) (cr : List Nat) : (u.flitAcked l ack cr).link l = acked (u.link l) ack cr := by
  have hlink := (pmuEvent_frame u (20 + u.portOf l) 0x121 1 none).1.link (by decide) l
  simp only [flitAcked, ackIn, link_updLink_self, hlink]
  rfl

theorem portOf_of_arrives (hp : p < 18) {u : State} (hu : Arrives p s u) : u.portOf l = s.portOf l :=
  portOf_congr (hu.rd hp (by decide) (.inr (by decide))) (hu.rd hp (by decide) (.inr (by decide))) l

theorem arrives_flitAcked {u : State} (hu : u.portOf l = p) : Arrives p u (u.flitAcked l ack cr) := by
  subst hu
  exact (Arrives.pmuEvent u 0x121 1 none).trans (.updLink _ l (fun x => acked x ack cr))

/-! ## Codewords that are not accepted -/

/-- A codeword that FEC could not correct, its registers apart from the count of such codewords. -/
theorem rd_uncorr_codewordCounted (hports : s.portOf l < 18) :
    (s.codewordCounted l c).rd (Reg.ATY_FEC_UNCORR_CNT (s.portOf l)) = s.rd (Reg.ATY_FEC_UNCORR_CNT (s.portOf l)) := by
  let u := (s.bumpWrap (Reg.ATY_FEC_CW_CNT (s.portOf l)) 64 1).bumpWrap (Reg.ATY_FEC_CORR_CNT (s.portOf l)) 64 c
  have hevent : (s.codewordCounted l c).rd (Reg.ATY_FEC_UNCORR_CNT (s.portOf l)) = u.rd (Reg.ATY_FEC_UNCORR_CNT (s.portOf l)) :=
    (pmuEvent_frame u (20 + s.portOf l) 0x123 c none).2.rd
      (not_mem_countAddrs (by omega) (show 0x2100000 ≤ 0x2300020 + 0x10000 * s.portOf l by omega))
  rw [hevent]
  refine (rd_wr_ne _ _ _ _ ?_).trans (rd_wr_ne _ _ _ _ ?_)
  all_goals
    simp only [Reg.ATY_FEC_UNCORR_CNT, Reg.ATY_FEC_CORR_CNT, Reg.ATY_FEC_CW_CNT]
    omega

theorem codewordLost_shows (hp : s.portOf l = p) (hports : p < 18) :
    let x := s.link l
    let u := s.codewordLost l c
    u.out.head? = some (.flit l (Flit.bytes ⟨ftIdle, x.tx, 0, []⟩ true x.rx x.owed)) ∧
      u.link l = { x with corr := x.corr + c, bad := x.bad + 1, owed := [0, 0, 0, 0] } ∧ (∀ m, m ≠ l → u.link m = s.link m) ∧
      u.rd (Reg.ATY_FEC_UNCORR_CNT p) = satAdd (2 ^ (Reg.ATY_FEC_UNCORR_CNT p).width - 1) (s.rd (Reg.ATY_FEC_UNCORR_CNT p)) 1 ∧
      Arrives p s u := by
  subst hp
  intro x u
  let v := (s.codewordCounted l c).bump (Reg.ATY_FEC_UNCORR_CNT (s.portOf l)) 1
  let t := v.updLink l (fun x => { x with bad := x.bad + 1 })
  have htl : t.link l = { x with corr := x.corr + c, bad := x.bad + 1 } := by
    rw [link_updLink_self, link_bump, link_codewordCounted, if_pos rfl]
  obtain ⟨hlink, hother, hout⟩ := link_sendIdle t l true
  rw [htl] at hlink hout
  refine ⟨hout, hlink, fun m hm => ?_, ?_, ?_⟩
  · rw [show u.link m = t.link m from hother m hm, link_updLink_ne _ _ hm, link_bump, link_codewordCounted, if_neg hm]
  · rw [← rd_uncorr_codewordCounted hports]
    exact rd_bump (s.codewordCounted l c) (Reg.ATY_FEC_UNCORR_CNT (s.portOf l)) 1 (show 32 ≤ 64 by decide)
  · have hcount : Arrives (s.portOf l) (s.codewordCounted l c) v := Arrives.wr _ _ (List.mem_append_left _ (by simp))
    exact (((arrives_codewordCounted rfl).trans hcount).trans (.updLink v l _)).trans (.sendIdle t l true)

theorem flitReceive_undecoded (h : UpBelow s l p c 1) : exec (.flitReceive l false c bs seen) s = .next (s.codewordLost l c) := by
  obtain ⟨-, hlink, -, -, harrives⟩ := codewordLost_shows (c := c) h.port h.ports
  refine congrArg Host.Outcome.next ((flitIn_up h false).trans (windowCheck_arrives h harrives ?_ ?_))
  · exact congrArg Link.corr hlink
  · exact (congrArg Link.bad hlink).le

/-- A flit whose FSEQ is not the one due is answered with NAK. -/
theorem flitReceive_notDue (h : UpBelow s l p c 0) (hf : flitOf bs = some (f, nak, ack, cr))
    (hdue : f.fseq ≠ (if f.ftype = ftIdle then (s.link l).rx else ((s.link l).rx + 1) % 2 ^ 12)) :
    exec (.flitReceive l true c bs seen) s = .next ((s.codewordCounted l c).sendIdle l true) := by
  obtain ⟨hlink, -, -⟩ := link_sendIdle (s.codewordCounted l c) l true
  rw [link_codewordCounted, if_pos rfl] at hlink
  refine congrArg Host.Outcome.next ((flitIn_up h true).trans ?_)
  simp only [hf, if_neg hdue, Bool.not_true, Bool.false_eq_true, if_false]
  refine windowCheck_arrives h ((arrives_codewordCounted h.port).trans (.sendIdle _ l true)) ?_ ?_
  · exact congrArg Link.corr hlink
  · exact (congrArg Link.bad hlink).le

theorem sendIdle_codewordCounted_shows :
    let x := s.link l
    let u := (s.codewordCounted l c).sendIdle l true
    u.out.head? = some (.flit l (Flit.bytes ⟨ftIdle, x.tx, 0, []⟩ true x.rx x.owed)) ∧
      u.link l = { x with corr := x.corr + c, owed := [0, 0, 0, 0] } := by
  obtain ⟨hlink, -, hout⟩ := link_sendIdle (s.codewordCounted l c) l true
  rw [link_codewordCounted, if_pos rfl] at hlink hout
  exact ⟨hout, hlink⟩

/-! ## Flits that are accepted (09 R319, R321) -/

/-- A flit whose FSEQ is the one due is accepted. -/
theorem flitReceive_due (h : UpBelow s l p c 0) (hf : flitOf bs = some (f, nak, ack, cr))
    (hdue : f.fseq = (if f.ftype = ftIdle then (s.link l).rx else ((s.link l).rx + 1) % 2 ^ 12)) :
    exec (.flitReceive l true c bs seen) s = .next (((s.codewordCounted l c).flitAccept l f nak ack cr seen).windowCheck p) := by
  refine congrArg Host.Outcome.next ((flitIn_up h true).trans ?_)
  simp only [hf, if_pos hdue, Bool.not_true, Bool.false_eq_true, if_false]

/-- The state of an accepted flit up to what its slots bring. -/
def flitTaken (s : State) (l c ack : Nat) (cr : List Nat) : State := (s.codewordCounted l c).flitAcked l ack cr

theorem flitTaken_shows (hp : s.portOf l = p) (hports : p < 18) :
    (s.flitTaken l c ack cr).link l = acked { s.link l with corr := (s.link l).corr + c } ack cr ∧ Arrives p s (s.flitTaken l c ack cr) := by
  have hcounted : Arrives p s (s.codewordCounted l c) := arrives_codewordCounted hp
  refine ⟨?_, hcounted.trans (arrives_flitAcked ((portOf_of_arrives hports hcounted).trans hp))⟩
  rw [flitTaken, link_flitAcked, link_codewordCounted, if_pos rfl]

/-- An accepted flit without NAK, once its acknowledgement and credits are taken. -/
theorem flitAccept_taken (f : Flit) :
    (s.codewordCounted l c).flitAccept l f false ack cr seen =
      let u := s.flitTaken l c ack cr
      if f.ftype = ftIdle then u.egress l
      else
        let r := f.run (u.link l).part
        let v := u.updLink l (fun x => { x with rx := f.fseq, part := r.1 })
        ((msgsIn l r.2 seen (if f.ftype = ftControl then v.ctlIn l (f.slots.take 32) else v)).egress l).sendIdle l false := rfl

/-- An accepted IDLE flit on a link with nothing queued. -/
theorem flitReceive_idle (h : UpBelow s l p c 0) (hf : flitOf bs = some (f, false, ack, cr)) (htype : f.ftype = ftIdle)
    (hdue : f.fseq = (s.link l).rx) (hqueue : (s.link l).queue = []) :
    exec (.flitReceive l true c bs seen) s = .next (s.flitTaken l c ack cr) := by
  obtain ⟨hlink, harrives⟩ := flitTaken_shows (c := c) (ack := ack) (cr := cr) h.port h.ports
  rw [flitReceive_due h hf (by rw [if_pos htype, hdue]), flitAccept_taken]
  simp only [htype, if_true]
  rw [egress_empty (by rw [hlink]; exact hqueue), windowCheck_arrives h harrives]
  · rw [hlink]
    rfl
  · rw [hlink]
    exact le_refl _

theorem bits_zero (lo w : Nat) : bits 0 lo w = 0 := by simp [bits]

/-- A SLOTMAP of zeros brings nothing. -/
theorem Flit.run_empty {f : Flit} (hmap : f.map = 0) (part : Option (Nat × Nat × List Byte)) : f.run part = (part, []) := by
  have hslot : ∀ (r : SlotRun) (bs : List Byte), slotIn r 0 bs = r := fun r bs => rfl
  simp only [Flit.run, hmap, bits_zero, hslot]
  exact List.foldl_fixed' (fun _ => rfl) _

/-- An accepted DATA flit with nothing in its slots, on a link with nothing queued. -/
theorem flitReceive_empty (h : UpBelow s l p c 0) (hf : flitOf bs = some (f, false, ack, cr)) (htype : f.ftype = ftData)
    (hdue : f.fseq = ((s.link l).rx + 1) % 2 ^ 12) (hmap : f.map = 0) (hqueue : (s.link l).queue = []) :
    Goes (exec (.flitReceive l true c bs seen) s) (fun u =>
      u.out.head? = some (.flit l (Flit.bytes ⟨ftIdle, (s.link l).tx, 0, []⟩ false f.fseq (s.link l).owed)) ∧ (u.link l).rx = f.fseq ∧
        (u.link l).part = (s.link l).part ∧ Arrives p s u) := by
  have hidle : f.ftype ≠ ftIdle := by rw [htype]; decide
  have hctl : f.ftype ≠ ftControl := by rw [htype]; decide
  obtain ⟨hlink, harrives⟩ := flitTaken_shows (c := c) (ack := ack) (cr := cr) h.port h.ports
  let v := (s.flitTaken l c ack cr).updLink l (fun x => { x with rx := f.fseq, part := (s.link l).part })
  have hv : v.link l = { acked { s.link l with corr := (s.link l).corr + c } ack cr with rx := f.fseq, part := (s.link l).part } := by
    rw [link_updLink_self, hlink]
  have hpart : ((s.flitTaken l c ack cr).link l).part = (s.link l).part := (congrArg Link.part hlink :)
  have haccept : (s.codewordCounted l c).flitAccept l f false ack cr seen = v.sendIdle l false := by
    rw [flitAccept_taken]
    simp only [hidle, hctl, if_false, Flit.run_empty hmap, msgsIn, hpart]
    rw [egress_empty (by rw [hv]; exact hqueue)]
  obtain ⟨hsent, -, hout⟩ := link_sendIdle v l false
  have hall : Arrives p s (v.sendIdle l false) := (harrives.trans (.updLink _ l _)).trans (.sendIdle v l false)
  rw [hv] at hsent hout
  refine ⟨v.sendIdle l false, ?_, hout, (congrArg Link.rx hsent :), (congrArg Link.part hsent :), hall⟩
  rw [flitReceive_due h hf (by rw [if_neg hidle, hdue]), haccept, windowCheck_arrives h hall]
  · exact congrArg Link.corr hsent
  · exact (congrArg Link.bad hsent).le

/-- The request that a message carries. -/
def reqOf (m : List Byte) : Req :=
  ⟨BitVec.ofNat 128 (ofLE (m.take 16)), (m.drop 16).take (tailBytes 0 (ofLE (m.take 16)))⟩

/-- A request for this module that a flit completes, counted on its port, before it is performed. -/
def reqDelivered (s : State) (l : Nat) (m : List Byte) : State :=
  let u := s.updLink l (fun x => { x with owed := x.owed.modify 0 (· + ceilDiv m.length 32) })
  let g := 20 + u.portOf l
  (u.pmuEvent g 0x001 1 (some (Origin.req (reqOf m)))).pmuEvent g 0x002 (ceilDiv (reqOf m).data.length 64) (some (Origin.req (reqOf m)))

/-- A request for this module, with its number set, is performed here. -/
theorem msgIn_request {m : List Byte} (hown : (s.reqDelivered l m).ownMod ≠ 0xFFF)
    (hdest : (s.reqDelivered l m).isOwn (modOf (reqOf m).addr) = true) :
    s.msgIn l 0 m seen = (s.reqDelivered l m).performReq (reqOf m) seen := by
  change (if (s.reqDelivered l m).ownMod = 0xFFF then _ else if (s.reqDelivered l m).isOwn (modOf (reqOf m).addr) then _ else _) = _
  rw [if_neg hown, if_pos hdest]
  rfl

theorem reqDelivered_shows {m : List Byte} (hp : s.portOf l = p) :
    Arrives p s (s.reqDelivered l m) ∧
      (s.reqDelivered l m).link l = { s.link l with owed := (s.link l).owed.modify 0 (· + ceilDiv m.length 32) } := by
  subst hp
  let u := s.updLink l (fun x => { x with owed := x.owed.modify 0 (· + ceilDiv m.length 32) })
  let v := u.pmuEvent (20 + s.portOf l) 0x001 1 (some (Origin.req (reqOf m)))
  have hcounted : s.reqDelivered l m =
      v.pmuEvent (20 + s.portOf l) 0x002 (ceilDiv (reqOf m).data.length 64) (some (Origin.req (reqOf m))) := rfl
  rw [hcounted]
  refine ⟨((Arrives.updLink s l _).trans (.pmuEvent u _ _ _)).trans (.pmuEvent v _ _ _), ?_⟩
  rw [(pmuEvent_frame v _ _ _ _).1.link (by decide), (pmuEvent_frame u _ _ _ _).1.link (by decide), link_updLink_self]

theorem flitReceive_request (h : UpBelow s l p c 0) (hf : flitOf bs = some (f, false, ack, cr)) (htype : f.ftype = ftData)
    (hdue : f.fseq = ((s.link l).rx + 1) % 2 ^ 12) (hmod : s.ownMod ≠ 0xFFF) {m : List Byte}
    (hrun : f.run (s.link l).part = (none, [(0, m)])) (hdest : s.isOwn (modOf (reqOf m).addr) = true) :
    GoesOn (exec (.flitReceive l true c bs seen) s)
      (fun w => (((w.performReq (reqOf m) seen).egress l).sendIdle l false).windowCheck p)
      (fun w => Arrives p s w ∧ (w.link l).rx = f.fseq ∧ (w.link l).part = none) := by
  have hidle : f.ftype ≠ ftIdle := by rw [htype]; decide
  have hctl : f.ftype ≠ ftControl := by rw [htype]; decide
  obtain ⟨hlink, harrives⟩ := flitTaken_shows (c := c) (ack := ack) (cr := cr) h.port h.ports
  let v := (s.flitTaken l c ack cr).updLink l (fun x => { x with rx := f.fseq, part := none })
  have hv : Arrives p s v := harrives.trans (.updLink _ l _)
  obtain ⟨hdelivered, hw⟩ := reqDelivered_shows (m := m) ((portOf_of_arrives h.ports hv).trans h.port)
  rw [link_updLink_self] at hw
  have hall : Arrives p s (v.reqDelivered l m) := hv.trans hdelivered
  have hown : (v.reqDelivered l m).ownMod = s.ownMod :=
    congrArg (bits · 0 12) (hall.rd h.ports (r := Reg.ATY_FAB_CFG) (by decide) (.inr (by decide)))
  have hpart : ((s.flitTaken l c ack cr).link l).part = (s.link l).part := (congrArg Link.part hlink :)
  have haccept : (s.codewordCounted l c).flitAccept l f false ack cr seen =
      (((v.reqDelivered l m).performReq (reqOf m) seen).egress l).sendIdle l false := by
    rw [flitAccept_taken]
    simp only [hidle, hctl, if_false, hpart, hrun, msgsIn]
    rw [msgIn_request (by rw [hown]; exact hmod) (by rw [isOwn, hown]; exact hdest)]
  refine ⟨_, ?_, hall, (congrArg Link.rx hw :), (congrArg Link.part hw :)⟩
  rw [flitReceive_due h hf (by rw [if_neg hidle, hdue]), haccept]

end

/-! ## Replays (09 R320) -/

/-- Flits sent one after the other leave the link's queue, what it holds and the last FSEQ accepted. -/
theorem foldl_sendFlit_shows (fs : List Flit) (s : State) (l : Nat) :
    let u := fs.foldl (fun s f => s.sendFlit l f false) s
    (∃ o, u.link l = { s.link l with owed := o }) ∧ u.regs = s.regs ∧ Keeps [.fab, .out] s u ∧ (∀ o ∈ s.out, o ∈ u.out) ∧
      ∀ f ∈ fs, ∃ o, Out.flit l (f.bytes false (s.link l).rx o) ∈ u.out := by
  induction fs generalizing s with
  | nil => exact ⟨⟨_, rfl⟩, rfl, Keeps.refl _ s, fun _ ho => ho, fun _ hf => absurd hf List.not_mem_nil⟩
  | cons f fs ih =>
    obtain ⟨hout, hlink, -, hregs, hparts⟩ := sendFlit_shows s l f false
    obtain ⟨⟨o, hlast⟩, hregs', hparts', hkept, hsent⟩ := ih (s.sendFlit l f false)
    rw [hout] at hkept
    rw [hlink] at hlast hsent
    refine ⟨⟨o, hlast⟩, hregs'.trans hregs, hparts.trans hparts', fun a ha => hkept a (List.mem_cons_of_mem _ ha), fun g hg => ?_⟩
    rcases List.mem_cons.mp hg with rfl | hg
    · exact ⟨_, hkept _ (List.mem_cons_self ..)⟩
    · exact hsent g hg

section
variable {s : State} {l : Nat}

theorem replayTimeout_replays (hl : l < 16) (hports : s.portOf l < 18) (hheld : (s.link l).held ≠ [])
    (hcarries : carries (s.linkState l) 4 = true) :
    Goes (exec (.replayTimeout l) s) (fun u => (u.link l).held = (s.link l).held ∧ (u.link l).queue = (s.link l).queue ∧
      (∀ f ∈ (s.link l).held, ∃ o, Out.flit l (f.bytes false (s.link l).rx o) ∈ u.out) ∧
      u.rd (Reg.ATY_REPLAY_CNT (s.portOf l)) = satAdd (2 ^ 32 - 1) (s.rd (Reg.ATY_REPLAY_CNT (s.portOf l))) 1 ∧
      SameMemory s u) := by
  let b := s.bump (Reg.ATY_REPLAY_CNT (s.portOf l)) 1
  let t := b.pmuEvent (20 + s.portOf l) 0x122 1 none
  obtain ⟨hparts, hregs⟩ := pmuEvent_frame b (20 + s.portOf l) 0x122 1 none
  have htl : t.link l = s.link l := (hparts.link (by decide) l).trans (link_bump s _ _ l)
  obtain ⟨⟨o, hlink⟩, hregs', hparts', -, hsent⟩ := foldl_sendFlit_shows (t.link l).held t l
  have hreplay : s.replay l = (t.link l).held.foldl (fun s f => s.sendFlit l f false) t := rfl
  rw [← hreplay, htl] at hlink hsent
  rw [← hreplay] at hregs' hparts'
  refine ⟨_, congrArg Host.Outcome.next (if_pos (by simp [hl, hheld, hcarries])), (congrArg Link.held hlink :),
    (congrArg Link.queue hlink :), hsent, ?_, ?_⟩
  · refine (rd_congr hregs' _).trans ((hregs.rd (not_mem_countAddrs (by omega) ?_)).trans ?_)
    · exact (show 0x2100000 ≤ 0x2300028 + 0x10000 * s.portOf l by omega)
    · exact rd_bump s (Reg.ATY_REPLAY_CNT (s.portOf l)) 1 (show 32 ≤ 64 by decide)
  · exact SameMemory.trans (t := b) ⟨rfl, rfl⟩ ((SameMemory.of_keeps hparts).trans (.of_keeps hparts'))

theorem replayTimeout_nothing (hheld : (s.link l).held = []) : exec (.replayTimeout l) s = .next s :=
  congrArg Host.Outcome.next (if_neg (by simp [hheld]))

end

end Sys2Proof.Machine.State

namespace Sys2Proof

open Machine Machine.State Safety

/-- Settles O30: counting a codeword touches neither the link's sequence numbers nor what the window's check reads, so each answer is the
one that the flit's checks choose; a replay sends what is held, one flit after the other. -/
theorem flitsArriveAndReplay : Obligations.FlitsArriveAndReplay := by
  unfold Obligations.FlitsArriveAndReplay
  refine ⟨⟨fun s l p c bs seen hl hport hp hup hserves hcorr hbad => ?_,
    fun s l p c bs seen f nak ack cr hl hport hp hup hserves hcorr hbad hf => ⟨?_, ?_, ?_, ?_⟩⟩,
    fun s l hl hp hheld hcarries => ?_, fun s l hheld => replayTimeout_nothing hheld⟩
  · obtain ⟨hout, hlink, hother, hcount, harrives⟩ := codewordLost_shows (c := c) hport hp
    exact ⟨_, flitReceive_undecoded ⟨hl, hport, hp, hup, hserves, hcorr, hbad⟩, hout, hlink, hother, hcount, harrives.memory⟩
  · intro hdue
    obtain ⟨hout, hlink⟩ := sendIdle_codewordCounted_shows (s := s) (l := l) (c := c)
    exact ⟨_, flitReceive_notDue ⟨hl, hport, hp, hup, hserves, hcorr, hbad⟩ hf hdue, hout, hlink,
      ((arrives_codewordCounted hport).trans (.sendIdle _ l true)).memory⟩
  · rintro htype hdue rfl hqueue
    obtain ⟨hlink, harrives⟩ := flitTaken_shows (c := c) (ack := ack) (cr := cr) hport hp
    exact ⟨_, flitReceive_idle ⟨hl, hport, hp, hup, hserves, hcorr, hbad⟩ hf htype hdue hqueue, hlink, harrives.memory⟩
  · rintro htype hdue hmap rfl hqueue
    exact (flitReceive_empty ⟨hl, hport, hp, hup, hserves, hcorr, hbad⟩ hf htype hdue hmap hqueue).mono
      fun u ⟨hout, hrx, hpart, harrives⟩ => ⟨hout, hrx, hpart, harrives.memory⟩
  · rintro htype hdue rfl hmod m hrun q hdest
    refine goesOn_mono (flitReceive_request ⟨hl, hport, hp, hup, hserves, hcorr, hbad⟩ hf htype hdue hmod hrun hdest) fun w hw => ?_
    obtain ⟨harrives, hrx, hpart⟩ := hw
    exact ⟨harrives.memory.1, harrives.memory.2, hrx, hpart⟩
  · exact (replayTimeout_replays hl hp hheld hcarries).mono fun u ⟨hheld, hqueue, hsent, hcount, hmemory⟩ =>
      ⟨hheld, hqueue, hsent, hcount, hmemory.mem, hmemory.host⟩

end Sys2Proof
end

section
/-! Ports that change state (O32): training, retraining, the loopback test, drained queues and bit-error tests. -/

namespace Sys2Proof.Machine.State

open Sys2Proof.Safety

section
variable {s : State} {p l : Nat}

/-! ## Ports that go down or train (09 R322, R323) -/

theorem portDown_shows (s : State) (p : Nat) : (s.portDown p).portState p = pDown ∧ (s.portDown p).fab = s.fab ∧ (s.portDown p).mem = s.mem := by
  have hlost := handsOver_portLost (s.setPort p pDown) p
  exact ⟨(hlost.portState p).trans (portState_setPort_self s p (by decide)), hlost.fab.trans (setPort_fab s p pDown),
    hlost.mem.trans (setPort_mem s p pDown)⟩

/-- Where no spare trains on a link, no retirement waits for it. -/
theorem spareSettled_none (h : (s.link l).spare = none) : s.spareSettled l = s := by simp [spareSettled, h]

/-- A port that starts to train. -/
theorem portTrain_shows (s : State) (p : Nat) (full : Bool) :
    let u := s.portTrain p full
    u.portState p = pTrain ∧ u.link (s.portLink p) = { s.link (s.portLink p) with full := full, ident := false, part := none } ∧
      (∀ m, m ≠ s.portLink p → u.link m = s.link m) ∧ Keeps [.regs, .fab] s u ∧ RegsKeep [(Reg.ATY_PORT_STATUS p).addr] s u := by
  have htrain : s.portTrain p full =
      (s.setPort p pTrain).updLink (s.portLink p) (fun x => { x with full := full, ident := false, part := none }) := rfl
  have hregs : (s.portTrain p full).regs = (s.setPort p pTrain).regs := rfl
  refine ⟨(fd_congr hregs _).trans (portState_setPort_self s p (by decide)), ?_, fun m hm => ?_, ?_, ?_⟩
  · rw [htrain, link_updLink_self, link_setPort]
  · rw [htrain, link_updLink_ne _ _ hm, link_setPort]
  · exact ((keeps_setPort s p pTrain).mono (by simp)).trans ((keeps_updLink _ _ _).mono (by simp))
  · exact (regsKeep_setPort s p pTrain).trans (RegsKeep.of_regs_eq rfl)

theorem trainingComplete_sends (hp : p < 18) (htrain : s.portState p = pTrain) (hloop : (s.link (s.portLink p)).loop = false) :
    exec (.trainingComplete p) s = .next ((s.setPort p pIdent).sendCtl (s.portLink p) (s.identBytes (s.portLink p))) :=
  congrArg Host.Outcome.next (if_pos (by simp [hp, htrain, hloop]))

theorem trainTimeout_ends (hp : p < 18) (htrain : s.portState p = pTrain ∨ s.portState p = pIdent)
    (hloop : (s.link (s.portLink p)).loop = false) (hbert : s.ownBert = none) (hspare : (s.link (s.portLink p)).spare = none) :
    exec (.trainTimeout p) s = .next (if (s.link (s.portLink p)).full then
      (s.setPort p pTrain).updLink (s.portLink p) (fun x => { x with loop := true, full := false }) else s.portDown p) := by
  have hsettled : (s.portDown p).spareSettled (s.portLink p) = s.portDown p :=
    spareSettled_none (by rw [link, (portDown_shows s p).2.1]; exact hspare)
  refine congrArg Host.Outcome.next ((if_pos (by rcases htrain with h | h <;> simp [hp, h, hloop])).trans ?_)
  rw [hbert, hsettled]

theorem trainRetry_trains (hp : p < 18) (hl : s.portLink p < 16) (hdown : s.portState p = pDown)
    (hoff : (s.link (s.portLink p)).off = false) (hreset : s.inReset = false) :
    exec (.trainRetry p) s = .next (s.portTrain p false) :=
  congrArg Host.Outcome.next (if_pos (by simp [hp, hl, hdown, hoff, hreset]))

theorem errorWindowEnd_clears (hp : p < 18) (hl : s.portLink p < 16) :
    exec (.errorWindowEnd p) s = .next (s.updLink (s.portLink p) (fun x => { x with corr := 0, bad := 0 })) :=
  congrArg Host.Outcome.next (if_pos (by simp [hp, hl]))

/-! ## Retraining (09 R320, R327, R328) -/

/-- What a retrained port sends after its replay: held VC2 messages first, then the others, and what waited for a link. -/
def retrained (s : State) (l : Nat) (q : List LinkMsg) : State :=
  let u := (s.updLink l (fun x => { x with queue := q.filter (·.cls == 2) })).egress l
  ((u.updLink l (fun x => { x with queue := x.queue ++ q.filter (·.cls != 2) })).egress l).routeWaiting

theorem linkFrame_retrained (s : State) (l : Nat) (q : List LinkMsg) : LinkFrame anyGroup s (s.retrained l q) :=
  ((((LinkFrame.updLink s l rfl).trans (linkFrame_egress (fun _ => trivial) _)).trans (.updLink _ l rfl)).trans
    (linkFrame_egress (fun _ => trivial) _)).trans (linkFrame_routeWaiting _)

theorem retrainComplete_comesUp (hp : p < 18) (hstate : s.portState p = pRetrain) :
    Goes (exec (.retrainComplete p) s) (fun u => u.portState p = pUp ∧ SameMemory s u) := by
  let t := s.setPort p pUp
  have hsent : LinkFrame anyGroup t ((t.resend (s.portLink p)).retrained (s.portLink p) (s.link (s.portLink p)).queue) :=
    (linkFrame_resend _ t _).trans (linkFrame_retrained _ _ _)
  refine ⟨_, congrArg Host.Outcome.next (if_pos (by simp [hp, hstate])), ?_, ?_⟩
  · exact (hsent.portState p).trans (portState_setPort_self s p (by decide))
  · exact SameMemory.trans (t := t) (.of_keeps (keeps_setPort s p pUp)) (.of_keeps hsent.parts)

/-- The failures of retraining within ten seconds, this one first. -/
def retrainFails (s : State) (l : Nat) : List Nat := s.now :: (s.link l).fails.filter (fun t => decide (s.now ≤ t + 10000000000))

/-- A failure of retraining counted at the link and shown at its port. -/
def failureShown (s : State) (p : Nat) : State :=
  (s.updLink (s.portLink p) (fun x => { x with fails := s.retrainFails (s.portLink p) })).fw (Fld.ATY_PORT_STATUS_RETRAIN_FAILS p)
    (min 15 (s.retrainFails (s.portLink p)).length)

theorem failureShown_shows (s : State) (p : Nat) :
    let u := s.failureShown p
    u.portLink p = s.portLink p ∧ u.link (s.portLink p) = { s.link (s.portLink p) with fails := s.retrainFails (s.portLink p) } ∧
      u.fd (Fld.ATY_PORT_STATUS_RETRAIN_FAILS p) = min 15 (s.retrainFails (s.portLink p)).length ∧
      Keeps [.regs, .fab] s u ∧ RegsKeep [(Reg.ATY_PORT_STATUS p).addr] s u := by
  let t := s.updLink (s.portLink p) (fun x => { x with fails := s.retrainFails (s.portLink p) })
  refine ⟨?_, ?_, ?_, ?_, ?_⟩
  · exact fd_fw_apart t (Fld.ATY_PORT_STATUS_RETRAIN_FAILS p) (Fld.ATY_PORT_STATUS_LINK p) _ rfl (.inr (show 8 + 4 ≤ 23 by decide))
      (show 23 + 5 ≤ 32 by decide) (show 32 ≤ 64 by decide)
  · exact (link_fw t _ _ _).trans (link_updLink_self s _ _)
  · refine (fd_fw_self t (Fld.ATY_PORT_STATUS_RETRAIN_FAILS p) _ (show 8 + 4 ≤ 32 by decide) (show 32 ≤ 64 by decide)).trans
      (Nat.mod_eq_of_lt ?_)
    exact (min_le_left _ _).trans_lt (show 15 < 2 ^ 4 by decide)
  · exact ((keeps_updLink s _ _).mono (by simp)).trans ((keeps_fw t _ _).mono (by simp))
  · exact (RegsKeep.of_regs_eq rfl : RegsKeep _ s t).trans (regsKeep_fw t (Fld.ATY_PORT_STATUS_RETRAIN_FAILS p) _)

/-- A port in full training after a failure of retraining. -/
def trainsAgain (s : State) (p : Nat) : State := (s.failureShown p).portTrain p true

theorem trainsAgain_shows (s : State) (p : Nat) :
    let u := s.trainsAgain p
    u.portState p = pTrain ∧ u.link (s.portLink p) = { s.link (s.portLink p) with
        fails := s.retrainFails (s.portLink p), full := true, ident := false, part := none } ∧
      u.fd (Fld.ATY_PORT_STATUS_RETRAIN_FAILS p) = min 15 (s.retrainFails (s.portLink p)).length ∧
      Keeps [.regs, .fab] s u ∧ RegsKeep [(Reg.ATY_PORT_STATUS p).addr] s u := by
  obtain ⟨hlink, hfails, hshown, hkeeps, hregs⟩ := failureShown_shows s p
  obtain ⟨htrain, hfull, -, hkeeps', hregs'⟩ := portTrain_shows (s.failureShown p) p true
  rw [hlink, hfails] at hfull
  have hcount : ((s.failureShown p).setPort p pTrain).fd (Fld.ATY_PORT_STATUS_RETRAIN_FAILS p) = _ :=
    (fd_setPort (s.failureShown p) p pTrain rfl (show 8 + 4 ≤ 28 by decide)).trans hshown
  exact ⟨htrain, hfull, (fd_congr (updLink_regs _ _ _) _).trans hcount, hkeeps.trans hkeeps', hregs.trans hregs'⟩

theorem retrainTimeout_trainsAgain (hp : p < 18) (hstate : s.portState p = pRetrain) :
    exec (.retrainTimeout p) s = .next (if 3 ≤ (s.retrainFails (s.portLink p)).length then
      (s.trainsAgain p).updLink (s.portLink p) (fun x => { x with loop := true, full := false }) else s.trainsAgain p) :=
  congrArg Host.Outcome.next (if_pos (by simp [hp, hstate]))

/-- After the third failure within ten seconds a port waits for the loopback test. -/
theorem retrainTimeout_trains (hp : p < 18) (hstate : s.portState p = pRetrain) :
    Goes (exec (.retrainTimeout p) s) (fun u => u.portState p = pTrain ∧
      u.fd (Fld.ATY_PORT_STATUS_RETRAIN_FAILS p) = min 15 (s.retrainFails (s.portLink p)).length ∧
      (u.link (s.portLink p)).fails = s.retrainFails (s.portLink p) ∧
      ((s.retrainFails (s.portLink p)).length < 3 → (u.link (s.portLink p)).full = true) ∧
      (3 ≤ (s.retrainFails (s.portLink p)).length → (u.link (s.portLink p)).loop = true) ∧
      Keeps [.regs, .fab] s u ∧ RegsKeep [(Reg.ATY_PORT_STATUS p).addr] s u) := by
  obtain ⟨htrain, hlink, hcount, hkeeps, hregs⟩ := trainsAgain_shows s p
  refine ⟨_, retrainTimeout_trainsAgain hp hstate, ?_⟩
  generalize s.trainsAgain p = t at *
  generalize s.retrainFails (s.portLink p) = fails at *
  by_cases hthree : 3 ≤ fails.length
  · rw [if_pos hthree, link_updLink_self, hlink]
    exact ⟨(fd_congr (updLink_regs _ _ _) _).trans htrain, (fd_congr (updLink_regs _ _ _) _).trans hcount, rfl,
      fun h => absurd hthree (by omega), fun _ => rfl, hkeeps.trans ((keeps_updLink t _ _).mono (by simp)),
      hregs.trans (RegsKeep.of_regs_eq (updLink_regs t _ _))⟩
  · rw [if_neg hthree, hlink]
    exact ⟨htrain, hcount, rfl, fun _ => rfl, fun h => absurd h hthree, hkeeps, hregs⟩

/-! ## The loopback test and drained queues (09 R328, R329, R348) -/

theorem linkFrame_dropQueues (G : Nat → Prop) (s : State) (l : Nat) : LinkFrame G s (s.dropQueues l) := .updLink s l rfl

theorem portFail_shows (s : State) (p : Nat) : (s.portFail p).portState p = pFailed ∧ (s.portFail p).mem = s.mem := by
  let t := (s.setPort p pFailed).portLost p
  let u := (t.dropQueues (t.portLink p)).rerouteVc2 (t.portLink p)
  have hlost : HandsOver (s.setPort p pFailed) t := handsOver_portLost _ p
  have hsent : LinkFrame anyGroup t u := (linkFrame_dropQueues anyGroup t _).trans (linkFrame_rerouteVc2 _ _)
  have hseq := regsKeep_trouble u (4 * 256 + 0xFF) 1 (portIsland p) 0 329
  have hfail : s.portFail p = u.trouble (4 * 256 + 0xFF) 1 (portIsland p) 0 329 := rfl
  rw [hfail]
  constructor
  · refine (hseq.fd (f := Fld.ATY_PORT_STATUS_STATE p) ?_).trans ?_
    · simp only [Fld.ATY_PORT_STATUS_STATE, Reg.ATY_PORT_STATUS, Reg.RAS_LOG_SEQ, List.mem_singleton]
      omega
    · exact (hsent.portState p).trans ((hlost.portState p).trans (portState_setPort_self s p (by decide)))
  · exact (keeps_trouble u _ _ _ _ _ .mem (by decide)).trans
      ((hsent.parts .mem (by decide)).trans (hlost.mem.trans (setPort_mem s p pFailed)))

theorem loopbackDone_passes (hp : p < 18) (hstate : s.portState p = pTrain) (hloop : (s.link (s.portLink p)).loop = true) :
    exec (.loopbackDone p true) s = .next ((s.updLink (s.portLink p) (fun x => { x with loop := false })).portFail p) :=
  congrArg Host.Outcome.next ((if_pos (by simp [hp, hstate, hloop])).trans (if_pos rfl))

theorem loopbackDone_retires (hp : p < 18) (hstate : s.portState p = pTrain) (hloop : (s.link (s.portLink p)).loop = true) :
    exec (.loopbackDone p false) s = .next ((s.updLink (s.portLink p) (fun x => { x with loop := false })).retire 2 p) :=
  congrArg Host.Outcome.next ((if_pos (by simp [hp, hstate, hloop])).trans (if_neg Bool.false_ne_true))

theorem portQueuesDrained_ends (hdraining : (s.link l).draining = true) (hqueue : (s.link l).queue = []) :
    Ends (exec (.portQueuesDrained l) s) .mcc .done (fun u => Keeps [.fab] s u ∧ (u.link l).draining = false ∧
      ∀ m, m ≠ l → u.link m = s.link m) :=
  ⟨_, congrArg Host.Outcome.next (if_pos (by simp [hdraining, hqueue])), keeps_updLink s l (fun x => { x with draining := false }),
    by rw [link_updLink_self], fun _ hm => link_updLink_ne s _ hm⟩

/-! ## Bit-error tests (09 R336) -/

/-- The counts of a bit-error test shown at its port. -/
def bertCounted (s : State) (p n : Nat) (errs : List Nat) : State :=
  (List.range 4).foldl (fun s i => s.wr (Reg.ATY_BERT_ERR p i) (errs.getD i 0)) (s.wr (Reg.ATY_BERT_BITS p) n)

theorem bertCounted_shows (s : State) (p : Nat) {n : Nat} (hn : n < 2 ^ 64) (errs : List Nat) :
    let u := s.bertCounted p n errs
    u.rd (Reg.ATY_BERT_BITS p) = n ∧ Keeps [.regs] s u ∧ ∀ l, u.portOf l = s.portOf l := by
  let t := s.wr (Reg.ATY_BERT_BITS p) n
  let errAddrs := (List.range 4).map (fun i => (Reg.ATY_BERT_ERR p i).addr)
  have herrs : RegsKeep errAddrs t (s.bertCounted p n errs) := RegsKeep.foldl t fun u i hi =>
    (regsKeep_wr u _ _).mono (List.cons_subset.mpr ⟨List.mem_map_of_mem hi, List.nil_subset _⟩)
  have hout : ∀ r : Reg, r.addr % 0x10000 < 0x40 ∨ 0x2300060 + 0x10000 * p ≤ r.addr → r.addr ∉ errAddrs := fun r hr => by
    simp only [errAddrs, Reg.ATY_BERT_ERR, List.mem_map, List.mem_range, not_exists, not_and]
    omega
  have hkept : ∀ r : Reg, r.addr % 0x10000 < 0x40 → (s.bertCounted p n errs).rd r = s.rd r := fun r hr =>
    (herrs.rd (hout r (.inl hr))).trans (rd_wr_ne s _ _ n (by simp only [Reg.ATY_BERT_BITS]; omega))
  refine ⟨?_, ?_, fun l => ?_⟩
  · exact (herrs.rd (hout _ (.inr (le_refl (0x2300060 + 0x10000 * p))))).trans
      ((rd_wr_self s (Reg.ATY_BERT_BITS p) n (le_refl 64)).trans (Nat.mod_eq_of_lt hn))
  · exact (keeps_wr s _ _).trans (Keeps.foldl t fun u i _ => keeps_wr u _ _)
  · exact portOf_congr (hkept _ (by decide)) (hkept _ (by decide)) l

/-- A message forced out of a port leaves the registers of ports and of the cascade but the port's status. -/
theorem forceCtl_frame (s : State) (p : Nat) (bs : List Byte) :
    Keeps (.fab :: .free :: countParts) s (s.forceCtl p bs) ∧
      ∀ r : Reg, 0x2000000 ≤ r.addr → r.addr ≠ (Reg.ATY_PORT_STATUS p).addr → (s.forceCtl p bs).rd r = s.rd r := by
  let t := s.setPort p pIdent
  have hsent : LinkFrame portGroups t (t.sendCtl (s.portLink p) bs) :=
    linkFrame_sendCtl (portGroups_portOf (portLink_lt s p)) t bs
  constructor
  · exact (((keeps_setPort s p _).mono (by decide)).trans hsent.parts).trans ((keeps_setPort _ p _).mono (by decide))
  · intro r hr hne
    exact ((regsKeep_setPort _ p _).rd (by simpa using hne)).trans ((hsent.rd (LinkFrame.not_mem_countAddrs_of_above hr)).trans
      ((regsKeep_setPort s p _).rd (by simpa using hne)))

/-- A bit-error test that has ended, before the reply of its command. -/
def bertOver (s : State) (l : Nat) : State :=
  (({ s with fab := { s.fab with bert := s.fab.bert.filter (fun b => b.link != l) } }).setPort (s.portOf l) pDown).maintRelease bertAct

theorem bertEnd_eq (s : State) (l : Nat) (a : Ans) : s.bertEnd l a = (s.bertOver l).finish .mcc a := rfl

theorem bertOver_shows (hqueue : s.ras.queue = []) :
    (s.bertOver l).portState (s.portOf l) = pDown ∧ Keeps [.fab, .regs, .ras] s (s.bertOver l) ∧
      RegsKeep [(Reg.ATY_PORT_STATUS (s.portOf l)).addr] s (s.bertOver l) := by
  let t : State := { s with fab := { s.fab with bert := s.fab.bert.filter (fun b => b.link != l) } }
  let u := t.setPort (s.portOf l) pDown
  have hras : u.ras = s.ras := keeps_setPort t (s.portOf l) pDown .ras (by decide)
  have hover : s.bertOver l = { u with ras := { u.ras with holders := u.ras.holders.erase bertAct } } := by
    change maintPumpAux u.ras.queue.length _ = _
    rw [hras, hqueue]
    rfl
  rw [hover]
  refine ⟨(fd_congr rfl _).trans (portState_setPort_self t _ (by decide)), ?_, ?_⟩
  · exact (((keeps_withFab s _).mono (by decide)).trans ((keeps_setPort t _ pDown).mono (by decide))).trans
      ((keeps_withRas u _).mono (by decide))
  · exact ((RegsKeep.of_regs_eq rfl).trans (regsKeep_setPort t _ pDown)).trans (RegsKeep.of_regs_eq rfl)

/-- The bit errors of a test that this module started, summed for its reply. -/
def bertErrors (errs : List Nat) : Nat := min (2 ^ 32 - 1) ((List.range 4).map (fun i => errs.getD i 0 % 2 ^ 64)).sum

theorem bertDurationEnd_replies {b : BertRun} (hl : l < 16) (hstate : s.portState (s.portOf l) = pBert) (hown : s.ownBert = some b)
    (hlink : b.link = l) (hgoing : b.going = true) {n : Nat} (hn : n < 2 ^ 64) (errs : List Nat) :
    exec (.bertDurationEnd l n errs) s = .next ((((s.bertCounted (s.portOf l) n errs).forceCtl (s.portOf l)
      (bertBytes b.pattern 0 true)).bertOver l).finish .mcc (.ok (bertErrors errs) (n % 2 ^ 64))) := by
  have hcounted : (s.bertCounted (s.portOf l) n errs).ownBert = some b := by
    rw [ownBert, (bertCounted_shows s (s.portOf l) hn errs).2.1 .fab (by decide)]
    exact hown
  unfold bertCounted at hcounted
  refine congrArg Host.Outcome.next ((if_pos (by simp [hl, hstate])).trans ?_)
  dsimp only
  rw [hcounted]
  dsimp only
  rw [if_pos (by simp [hlink, hgoing]), bertEnd_eq]
  rfl

theorem bertDurationEnd_ends {b : BertRun} {n : Nat} (hl : l < 16) (hport : s.portOf l = p) (hstate : s.portState p = pBert)
    (hown : s.ownBert = some b) (hlink : b.link = l) (hgoing : b.going = true) (hqueue : s.ras.queue = []) (hn : n < 2 ^ 64)
    (errs : List Nat) :
    Ends (exec (.bertDurationEnd l n errs) s) .mcc (.ok (bertErrors errs) n)
      (fun u => u.portState p = pDown ∧ u.rd (Reg.ATY_BERT_BITS p) = n ∧ SameMemory s u) := by
  subst hport
  have hexec := bertDurationEnd_replies hl hstate hown hlink hgoing hn errs
  obtain ⟨hbits, hcounted, hmap⟩ := bertCounted_shows s (s.portOf l) hn errs
  obtain ⟨hsent, hkept⟩ := forceCtl_frame (s.bertCounted (s.portOf l) n errs) (s.portOf l) (bertBytes b.pattern 0 true)
  rw [Nat.mod_eq_of_lt hn] at hexec
  generalize s.bertCounted (s.portOf l) n errs = t at *
  generalize t.forceCtl (s.portOf l) (bertBytes b.pattern 0 true) = u at *
  have hout : ∀ r : Reg, r.addr % 0x10000 ≠ 0 → r.addr ≠ (Reg.ATY_PORT_STATUS (s.portOf l)).addr := fun r hr => by
    simp only [Reg.ATY_PORT_STATUS]
    omega
  have hportOf : u.portOf l = s.portOf l :=
    (portOf_congr (hkept _ (by decide) (hout _ (by decide))) (hkept _ (by decide) (hout _ (by decide))) l).trans (hmap l)
  have hempty : u.ras.queue = [] := by
    rw [hsent .ras (by decide), hcounted .ras (by decide)]
    exact hqueue
  obtain ⟨hdown, hover, hregs⟩ := bertOver_shows (l := l) hempty
  rw [hportOf] at hdown hregs
  have hbitsAddr : (Reg.ATY_BERT_BITS (s.portOf l)).addr ≠ (Reg.ATY_PORT_STATUS (s.portOf l)).addr :=
    hout _ (show (0x2300060 + 0x10000 * s.portOf l) % 0x10000 ≠ 0 by omega)
  refine ⟨_, hexec, hdown, ?_, ?_⟩
  · exact (hregs.rd (by simpa using hbitsAddr)).trans
      ((hkept _ (show 0x2000000 ≤ 0x2300060 + 0x10000 * s.portOf l by omega) hbitsAddr).trans hbits)
  · exact ((SameMemory.of_keeps hcounted).trans (.of_keeps hsent)).trans (.of_keeps hover)

end

end Sys2Proof.Machine.State

namespace Sys2Proof

open Sys2Proof.Machine Sys2Proof.Machine.State Sys2Proof.Safety

/-- Settles O32: a port's state by what ended; each clause is the lemma about its instruction, with the frame of what was sent or
handed over on the way. -/
theorem portsChangeState : Obligations.PortsChangeState := by
  unfold Obligations.PortsChangeState
  refine ⟨fun s p hp htrain hloop => ?_, fun s p hp htrain hloop hbert hspare => ?_, fun s p hp hl hdown hoff hreset => ?_,
    fun s p hp hl => ?_, fun s p hp hstate => ?_, fun s p hp hstate => retrainTimeout_trains hp hstate, fun s p hp hstate hloop => ⟨?_, ?_⟩,
    fun s l hdraining hqueue => portQueuesDrained_ends hdraining hqueue,
    fun s l p n errs b hl hport hp hstate hown hlink hgoing hqueue hn => ?_⟩
  case refine_1 =>
    exact ⟨s.setPort p pIdent, trainingComplete_sends hp htrain hloop, portState_setPort_self s p (by decide), keeps_setPort s p _,
      regsKeep_setPort s p _⟩
  case refine_2 =>
    refine ⟨_, trainTimeout_ends hp htrain hloop hbert hspare, ?_⟩
    by_cases hfull : (s.link (s.portLink p)).full = true
    · rw [if_pos hfull]
      exact ⟨(updLink_mem _ _ _).trans (setPort_mem s p pTrain), fun h => absurd (h.symm.trans hfull) (by decide), fun _ =>
        ⟨(fd_congr (updLink_regs _ _ _) _).trans (portState_setPort_self s p (by decide)), by rw [link_updLink_self]⟩⟩
    · obtain ⟨hstate, -, hmem⟩ := portDown_shows s p
      rw [if_neg hfull]
      exact ⟨hmem, fun _ => hstate, fun h => absurd h hfull⟩
  case refine_3 =>
    obtain ⟨hstate, hlink, -, hkeeps, hregs⟩ := portTrain_shows s p false
    exact ⟨_, trainRetry_trains hp hl hdown hoff hreset, hstate, by rw [hlink], hkeeps, hregs⟩
  case refine_4 =>
    exact ⟨_, errorWindowEnd_clears hp hl, link_updLink_self s _ _, fun m hm => link_updLink_ne s _ hm, keeps_updLink s _ _⟩
  case refine_5 => exact (retrainComplete_comesUp hp hstate).mono fun u ⟨hup, hmem⟩ => ⟨hup, hmem.mem, hmem.host⟩
  case refine_6 =>
    obtain ⟨hfailed, hmem⟩ := portFail_shows (s.updLink (s.portLink p) (fun x => { x with loop := false })) p
    exact ⟨_, loopbackDone_passes hp hstate hloop, hfailed, hmem.trans (updLink_mem s _ _)⟩
  case refine_7 =>
    exact ⟨_, loopbackDone_retires hp hstate hloop, by rw [link_updLink_self], keeps_updLink s _ _⟩
  case refine_8 =>
    exact (bertDurationEnd_ends hl hport hstate hown hlink hgoing hqueue hn errs).mono fun u ⟨hdown, hbits, hmem⟩ =>
      ⟨hdown, hbits, hmem.mem, hmem.host⟩

end Sys2Proof
end

section
/-! The far ends of links and the cascade (O31): IDENT and its checks, bit-error requests, claims, PRESENCE, DUPLICATE, beacons, and
ATY_ADMIT. -/

namespace Sys2Proof.Machine.State

open Sys2Proof.Safety

section
variable {s : State} {p l : Nat}

/-! ## Messages of link control (09 R318, Table 9-3) -/

/-- The port states other than BERT whose link takes link control. -/
theorem carries_ctl {st : Nat} (h : st ∈ [pIdent, pUp, pMiswired, pIsolated]) : carries st 4 = true := by
  simp only [List.mem_cons, List.not_mem_nil, or_false] at h
  rcases h with rfl | rfl | rfl | rfl <;> rfl

theorem ctlRow_eq {m : List Byte} {ty : Nat} (hl : l < 16) (hty : (m.headD 0).toNat = ty)
    (hstate : s.linkState l ∈ [pIdent, pUp, pMiswired, pIsolated] ∨ s.linkState l = pBert) : s.ctlRow l m ty = s.ctlIn l m := by
  rw [ctlRow, hty]
  refine if_pos ?_
  rcases hstate with hcarries | hbert
  · simp [hl, carries_ctl hcarries]
  · simp [hl, hbert]

/-! ## IDENT and its checks (09 R323, R324) -/

/-- The fields of ATY_FAR_IDENT in the word that IDENT records. -/
theorem farIdent_fields {a b c d : Nat} (ha : a < 4096) (hb : b < 16) (hc : c < 256) (hd : d < 256) :
    bits (a * 2 ^ 20 + b * 2 ^ 16 + c * 2 ^ 8 + d) 20 12 = a ∧ bits (a * 2 ^ 20 + b * 2 ^ 16 + c * 2 ^ 8 + d) 16 4 = b := by
  simp only [bits]
  omega

/-- The far end's serial and numbers, as an IDENT gives them, recorded at a port. -/
def farRecorded (s : State) (p n : Nat) : State :=
  (s.wr (Reg.ATY_FAR_SERIAL p) (bits n 64 64)).wr (Reg.ATY_FAR_IDENT p)
    (bits n 16 16 % 4096 * 2 ^ 20 + bits n 32 4 * 2 ^ 16 + bits n 40 8 * 2 ^ 8 + bits n 48 8)

theorem farRecorded_shows (s : State) (p n : Nat) :
    let w := s.farRecorded p n
    w.rd (Reg.ATY_FAR_SERIAL p) = bits n 64 64 ∧ w.fd (Fld.ATY_FAR_IDENT_MOD p) = bits n 16 16 % 4096 ∧
      w.fd (Fld.ATY_FAR_IDENT_LINK p) = bits n 32 4 ∧ Keeps [.regs] s w ∧
      RegsKeep [(Reg.ATY_FAR_SERIAL p).addr, (Reg.ATY_FAR_IDENT p).addr] s w := by
  obtain ⟨hmod, hlink⟩ := farIdent_fields (a := bits n 16 16 % 4096) (Nat.mod_lt _ (by decide)) (bits_lt n 32 4) (bits_lt n 40 8)
    (bits_lt n 48 8)
  refine ⟨?_, ?_, ?_, (keeps_wr s _ _).trans (keeps_wr _ _ _), ?_⟩
  · exact (rd_wr_ne _ _ _ _ (by simp [Reg.ATY_FAR_SERIAL, Reg.ATY_FAR_IDENT])).trans
      ((rd_wr_self s _ _ (le_refl 64)).trans (Nat.mod_eq_of_lt (bits_lt _ _ _)))
  · exact (fd_wr_self _ (Fld.ATY_FAR_IDENT_MOD p) _ (show 20 + 12 ≤ 32 by decide) (show 32 ≤ 64 by decide)).trans hmod
  · exact (fd_wr_self _ (Fld.ATY_FAR_IDENT_LINK p) _ (show 16 + 4 ≤ 32 by decide) (show 32 ≤ 64 by decide)).trans hlink
  · exact ((regsKeep_wr s _ _).mono (by simp)).trans ((regsKeep_wr _ _ _).mono (by simp))

/-- The far end's level and kind shown in a port's status. -/
def farShown (s : State) (p level : Nat) (spine : Bool) : State :=
  (s.fw (Fld.ATY_PORT_STATUS_LEVEL p) level).fbw (Fld.ATY_PORT_STATUS_FAR_SPINE p) spine

theorem farShown_shows (s : State) (p level : Nat) (spine : Bool) :
    let w := s.farShown p level spine
    w.fd (Fld.ATY_PORT_STATUS_FAR_SPINE p) = b2n spine ∧ w.portState p = s.portState p ∧ Keeps [.regs] s w ∧
      RegsKeep [(Reg.ATY_PORT_STATUS p).addr] s w := by
  refine ⟨?_, ?_, (keeps_fw s _ _).trans (keeps_fw _ _ _), ?_⟩
  · refine (fd_fw_self _ (Fld.ATY_PORT_STATUS_FAR_SPINE p) _ (show 14 + 1 ≤ 32 by decide) (show 32 ≤ 64 by decide)).trans ?_
    exact Nat.mod_eq_of_lt (show b2n spine < 2 ^ 1 by cases spine <;> decide)
  · exact (portState_fw_low _ _ rfl (show 14 + 1 ≤ 28 by decide) p).trans (portState_fw_low s _ rfl (show 15 + 8 ≤ 28 by decide) p)
  · exact (regsKeep_fw s (Fld.ATY_PORT_STATUS_LEVEL p) _).trans (regsKeep_fw _ (Fld.ATY_PORT_STATUS_FAR_SPINE p) _)

/-- What an IDENT says of the far end, recorded and shown at its port. -/
def heardIdent (s : State) (l p : Nat) (m : List Byte) : State :=
  let n := ofLE m
  let t := s.farRecorded p n
  (t.farShown p (min (bits n 40 8) (t.fd Fld.ATY_FAB_STATUS_PROTO_LEVEL)) (bit n 56)).updLink l (fun x => { x with ident := true })

theorem heardIdent_shows (s : State) (l p : Nat) (m : List Byte) :
    let w := s.heardIdent l p m
    w.rd (Reg.ATY_FAR_SERIAL p) = bits (ofLE m) 64 64 ∧ w.fd (Fld.ATY_FAR_IDENT_MOD p) = bits (ofLE m) 16 16 % 4096 ∧
      w.fd (Fld.ATY_FAR_IDENT_LINK p) = bits (ofLE m) 32 4 ∧ w.fd (Fld.ATY_PORT_STATUS_FAR_SPINE p) = b2n (bit (ofLE m) 56) ∧
      (w.link l).ident = true ∧ w.portState p = s.portState p ∧ w.fab.bert = s.fab.bert ∧ Keeps [.regs, .fab] s w ∧
      RegsKeep [(Reg.ATY_FAR_SERIAL p).addr, (Reg.ATY_FAR_IDENT p).addr, (Reg.ATY_PORT_STATUS p).addr] s w := by
  obtain ⟨hserial, hmod, hlink, hkeeps, hregs⟩ := farRecorded_shows s p (ofLE m)
  rw [heardIdent]
  generalize s.farRecorded p (ofLE m) = t at *
  obtain ⟨hspine, hstate, hkeeps', hregs'⟩ :=
    farShown_shows t p (min (bits (ofLE m) 40 8) (t.fd Fld.ATY_FAB_STATUS_PROTO_LEVEL)) (bit (ofLE m) 56)
  generalize t.farShown p (min (bits (ofLE m) 40 8) (t.fd Fld.ATY_FAB_STATUS_PROTO_LEVEL)) (bit (ofLE m) 56) = u at *
  have hupd : (u.updLink l (fun x => { x with ident := true })).regs = u.regs := updLink_regs u _ _
  dsimp only
  rw [rd_congr hupd, fd_congr hupd, fd_congr hupd, fd_congr hupd, portState, fd_congr hupd, link_updLink_self, updLink_bert]
  refine ⟨(hregs'.rd ?_).trans hserial, (hregs'.fd ?_).trans hmod, (hregs'.fd ?_).trans hlink, hspine, rfl, hstate.trans (hregs.fd ?_), ?_,
    ?_, ?_⟩
  · simp [Reg.ATY_FAR_SERIAL, Reg.ATY_PORT_STATUS]
  · simp [Fld.ATY_FAR_IDENT_MOD, Reg.ATY_FAR_IDENT, Reg.ATY_PORT_STATUS]
  · simp [Fld.ATY_FAR_IDENT_LINK, Reg.ATY_FAR_IDENT, Reg.ATY_PORT_STATUS]
  · simp [Fld.ATY_PORT_STATUS_STATE, Reg.ATY_PORT_STATUS, Reg.ATY_FAR_SERIAL, Reg.ATY_FAR_IDENT]
  · rw [hkeeps' .fab (by decide), hkeeps .fab (by decide)]
  · exact ((hkeeps.trans hkeeps').mono (by simp)).trans ((keeps_updLink u l _).mono (by simp))
  · exact ((hregs.mono (by simp)).trans (hregs'.mono (by simp))).trans (RegsKeep.of_regs_eq hupd)

theorem ident_checks {m : List Byte} (hl : l < 16) (hty : (m.headD 0).toNat = 1) (hport : s.portOf l = p)
    (hstate : s.portState p = pIdent ∨ s.portState p = pUp) (hbert : s.ownBert = none) :
    exec (.ident l m) s = .next ((s.heardIdent l p m).identCheck p) := by
  subst hport
  have hctl : s.linkState l ∈ [pIdent, pUp, pMiswired, pIsolated] := by
    rcases hstate with h | h <;> simp [linkState, h]
  have hnone : (s.heardIdent l (s.portOf l) m).ownBert = none := by
    obtain ⟨-, -, -, -, -, -, hkept, -, -⟩ := heardIdent_shows s l (s.portOf l) m
    rw [ownBert, hkept]
    exact hbert
  refine congrArg Host.Outcome.next ((ctlRow_eq hl hty (.inl hctl)).trans ?_)
  rw [ctlIn, hty]
  refine (if_neg (by rcases hstate with h | h <;> simp [h])).trans ?_
  unfold heardIdent farShown farRecorded at hnone ⊢
  dsimp only at hnone ⊢
  rw [hnone]
  refine if_neg ?_
  rcases hstate with h | h <;> rw [h] <;> decide

/-- A link's state in a port that leaves IDENT, where no spare trains on the link. -/
theorem portState_left (s : State) {st : Nat} (hst : st < 16) (hspare : (s.link l).spare = none) :
    (((s.setPort p st).portLost p).spareSettled l).portState p = st := by
  have hlost := handsOver_portLost (s.setPort p st) p
  rw [spareSettled_none (by rw [hlost.link, link_setPort]; exact hspare)]
  exact (hlost.portState p).trans (portState_setPort_self s p hst)

/-- The status of the module lies apart from the status of every port. -/
theorem fabStatus_addr_ne (p : Nat) : Reg.ATY_FAB_STATUS.addr ≠ (Reg.ATY_PORT_STATUS p).addr := by
  simp only [Reg.ATY_FAB_STATUS, Reg.ATY_PORT_STATUS]
  omega

/-- A module that may claim does not touch its ports, nor the spares of its links. -/
theorem claimAnew_keeps (s : State) : (∀ q, s.claimAnew.portState q = s.portState q) ∧ ∀ m, (s.claimAnew.link m).spare = (s.link m).spare := by
  let c := s.ownClaim false
  let t := (s.setBest (some c)).fw Fld.ATY_FAB_STATUS_ELECT eClaiming
  have hflood : LinkFrame portGroups t (t.flood none c.bytes) := linkFrame_flood t none c.bytes
  have hclaim : (∀ q, (t.flood none c.bytes).portState q = s.portState q) ∧ ∀ m, ((t.flood none c.bytes).link m).spare = (s.link m).spare := by
    refine ⟨fun q => (hflood.portState q).trans ?_, fun m => (hflood.spare m).trans (by rw [link_fw]; rfl)⟩
    exact (fd_fw_ne (s.setBest (some c)) Fld.ATY_FAB_STATUS_ELECT (Fld.ATY_PORT_STATUS_STATE q) _ (fabStatus_addr_ne q).symm).trans rfl
  unfold claimAnew
  split
  · dsimp only
    split
    · split
      · exact ⟨fun _ => rfl, fun _ => rfl⟩
      · exact hclaim
    · exact hclaim
  · exact ⟨fun _ => rfl, fun _ => rfl⟩

theorem linkUp_shows (s : State) (p : Nat) : (s.linkUp p).portState p = pUp ∧ ((s.linkUp p).link (s.portLink p)).spare = none := by
  let t := (s.setPort p pUp).updLink (s.portLink p) (fun x => { x with spare := none })
  let u := match t.fab.best with | some c => t.sendCtl (s.portLink p) c.bytes | none => t
  have hsent : LinkFrame portGroups t u := by
    cases h : t.fab.best with
    | none =>
      rw [show u = t by simp only [u, h]]
      exact .refl t
    | some c =>
      rw [show u = t.sendCtl (s.portLink p) c.bytes by simp only [u, h]]
      exact linkFrame_sendCtl (portGroups_portOf (portLink_lt s p)) t c.bytes
  have hlast : LinkFrame anyGroup u.claimAnew (s.linkUp p) :=
    (linkFrame_egress (fun _ => trivial) u.claimAnew).trans (linkFrame_routeWaiting _)
  obtain ⟨hstate, hspare⟩ := claimAnew_keeps u
  constructor
  · exact (hlast.portState p).trans ((hstate p).trans ((hsent.portState p).trans
      ((fd_congr (updLink_regs _ _ _) _).trans (portState_setPort_self s p (by decide)))))
  · exact (hlast.spare _).trans ((hspare _).trans ((hsent.spare _).trans (by rw [link_updLink_self])))

/-- The checks of 09 R324 at a port in IDENT, in their order. -/
theorem identCheck_of_ident (hstate : s.portState p = pIdent) (hident : (s.link (s.portLink p)).ident = true)
    (hspare : (s.link (s.portLink p)).spare = none) (hisolated : s.fb Fld.ATY_FAB_STATUS_ISOLATED = false) :
    s.identCheck p =
      if s.expectBroken p then
        (((s.fbw (Fld.ATY_PORT_STATUS_EXPECT_MISMATCH p) true).setPort p pMiswired).portLost p).spareSettled (s.portLink p)
      else if s.ownMod != 0xFFF && s.fd (Fld.ATY_FAR_IDENT_MOD p) == s.ownMod then
        ((s.setPort p pIsolated).portLost p).spareSettled (s.portLink p)
      else ((s.fbw (Fld.ATY_PORT_STATUS_EXPECT_MISMATCH p) false).linkUp p).spareSettled (s.portLink p) := by
  refine (if_neg (by simp [hstate, hident])).trans ((if_neg (by simp [hisolated])).trans ?_)
  dsimp only
  rw [hspare, hstate]
  rfl

theorem portLink_expectShown (s : State) (p : Nat) (b : Bool) :
    (s.fbw (Fld.ATY_PORT_STATUS_EXPECT_MISMATCH p) b).portLink p = s.portLink p :=
  fd_fw_apart s (Fld.ATY_PORT_STATUS_EXPECT_MISMATCH p) (Fld.ATY_PORT_STATUS_LINK p) _ rfl (.inr (show 13 + 1 ≤ 23 by decide))
    (show 23 + 5 ≤ 32 by decide) (show 32 ≤ 64 by decide)

theorem portState_identCheck (hstate : s.portState p = pIdent) (hident : (s.link (s.portLink p)).ident = true)
    (hspare : (s.link (s.portLink p)).spare = none) (hisolated : s.fb Fld.ATY_FAB_STATUS_ISOLATED = false) :
    (s.identCheck p).portState p =
      if s.expectBroken p then pMiswired
      else if s.ownMod != 0xFFF && s.fd (Fld.ATY_FAR_IDENT_MOD p) == s.ownMod then pIsolated else pUp := by
  rw [identCheck_of_ident hstate hident hspare hisolated]
  split_ifs
  · exact portState_left (s.fbw (Fld.ATY_PORT_STATUS_EXPECT_MISMATCH p) true) (by decide) (by rw [fbw, link_fw]; exact hspare)
  · exact portState_left s (by decide) hspare
  · obtain ⟨hup, hnone⟩ := linkUp_shows (s.fbw (Fld.ATY_PORT_STATUS_EXPECT_MISMATCH p) false) p
    rw [portLink_expectShown] at hnone
    rw [spareSettled_none hnone]
    exact hup

/-! ## BERT_REQ (09 R336) -/

/-- A far end's bit-error test on a link. -/
def bertHeard (s : State) (l : Nat) (m : List Byte) : State :=
  { s with fab := { s.fab with bert := s.fab.bert.filter (fun b => b.link != l) ++ [⟨l, false, bits (ofLE m) 8 8, true⟩] } }

/-- No bit-error test on a link. -/
def bertDropped (s : State) (l : Nat) : State := { s with fab := { s.fab with bert := s.fab.bert.filter (fun b => b.link != l) } }

theorem bertReq_stops {m : List Byte} (hl : l < 16) (hty : (m.headD 0).toNat = 5) (hstop : bit (ofLE m) 64 = true)
    (hstate : s.portState (s.portOf l) = pBert) : exec (.bertReq l m) s = .next ((s.bertDropped l).portDown (s.portOf l)) := by
  refine congrArg Host.Outcome.next ((ctlRow_eq hl hty (.inr hstate)).trans ?_)
  rw [ctlIn, hty]
  exact (if_pos hstop).trans (if_pos hstate)

theorem bertReq_starts {m : List Byte} (hl : l < 16) (hty : (m.headD 0).toNat = 5) (hstop : bit (ofLE m) 64 = false)
    (hstate : s.portState (s.portOf l) ∈ [pIdent, pUp, pMiswired, pIsolated]) :
    exec (.bertReq l m) s = .next (((s.bertHeard l m).setPort (s.portOf l) pBert).portLost (s.portOf l)) := by
  refine congrArg Host.Outcome.next ((ctlRow_eq hl hty (.inl hstate)).trans ?_)
  rw [ctlIn, hty]
  exact (if_neg (ne_true_of_eq_false hstop)).trans (if_pos (List.contains_iff_mem.mpr hstate))

/-! ## Masters, claims and beacons (09 R338 to R341) -/

/-- The master that a claim names. -/
def masterNamed (s : State) (c : ClaimMsg) : State :=
  ((s.fw Fld.ATY_FAB_STATUS_MASTER_MOD c.modNum).fw Fld.ATY_FAB_STATUS_FLOOR c.floor).wr Reg.ATY_MASTER_SERIAL c.serial

theorem masterNamed_shows (s : State) (c : ClaimMsg) :
    let w := s.masterNamed c
    w.fd Fld.ATY_FAB_STATUS_MASTER_MOD = c.modNum % 4096 ∧ w.fd Fld.ATY_FAB_STATUS_FLOOR = c.floor % 256 ∧
      w.rd Reg.ATY_MASTER_SERIAL = c.serial % 2 ^ 64 ∧ Keeps [.regs] s w ∧
      RegsKeep [Reg.ATY_FAB_STATUS.addr, Reg.ATY_MASTER_SERIAL.addr] s w := by
  refine ⟨?_, ?_, rd_wr_self _ Reg.ATY_MASTER_SERIAL _ (by decide), ((keeps_fw s _ _).trans (keeps_fw _ _ _)).trans (keeps_wr _ _ _), ?_⟩
  · rw [masterNamed, fd_wr_ne _ _ _ _ (by decide),
      fd_fw_apart _ Fld.ATY_FAB_STATUS_FLOOR Fld.ATY_FAB_STATUS_MASTER_MOD _ rfl (.inr (by decide)) (by decide) (by decide),
      fd_fw_self _ _ _ (by decide) (by decide)]
    rfl
  · rw [masterNamed, fd_wr_ne _ _ _ _ (by decide), fd_fw_self _ _ _ (by decide) (by decide)]
    rfl
  · exact (((regsKeep_fw s Fld.ATY_FAB_STATUS_MASTER_MOD _).trans (regsKeep_fw _ Fld.ATY_FAB_STATUS_FLOOR _)).mono (by decide)).trans
      ((regsKeep_wr _ _ _).mono (by simp))

theorem electSet_shows (s : State) {st : Nat} (hst : st < 4) :
    let w := s.fw Fld.ATY_FAB_STATUS_ELECT st
    w.elect = st ∧ w.fd Fld.ATY_FAB_STATUS_MASTER_MOD = s.fd Fld.ATY_FAB_STATUS_MASTER_MOD ∧
      w.fd Fld.ATY_FAB_STATUS_FLOOR = s.fd Fld.ATY_FAB_STATUS_FLOOR ∧ w.rd Reg.ATY_MASTER_SERIAL = s.rd Reg.ATY_MASTER_SERIAL :=
  ⟨(fd_fw_self s Fld.ATY_FAB_STATUS_ELECT st (by decide) (by decide)).trans (Nat.mod_eq_of_lt hst),
    fd_fw_apart s Fld.ATY_FAB_STATUS_ELECT Fld.ATY_FAB_STATUS_MASTER_MOD st rfl (.inr (by decide)) (by decide) (by decide),
    fd_fw_apart s Fld.ATY_FAB_STATUS_ELECT Fld.ATY_FAB_STATUS_FLOOR st rfl (.inr (by decide)) (by decide) (by decide),
    rd_fw_ne s _ _ st (by decide)⟩

/-- The master that a claim names, and an election state. -/
def masterShown (s : State) (c : ClaimMsg) (st : Nat) : State := (s.masterNamed c).fw Fld.ATY_FAB_STATUS_ELECT st

theorem masterShown_shows (s : State) (c : ClaimMsg) {st : Nat} (hst : st < 4) :
    let w := s.masterShown c st
    w.fd Fld.ATY_FAB_STATUS_MASTER_MOD = c.modNum % 4096 ∧ w.fd Fld.ATY_FAB_STATUS_FLOOR = c.floor % 256 ∧
      w.rd Reg.ATY_MASTER_SERIAL = c.serial % 2 ^ 64 ∧ w.elect = st ∧ Keeps [.regs] s w ∧
      RegsKeep [Reg.ATY_FAB_STATUS.addr, Reg.ATY_MASTER_SERIAL.addr] s w := by
  obtain ⟨hmod, hfloor, hserial, hkeeps, hregs⟩ := masterNamed_shows s c
  obtain ⟨helect, hmod', hfloor', hserial'⟩ := electSet_shows (s.masterNamed c) hst
  exact ⟨hmod'.trans hmod, hfloor'.trans hfloor, hserial'.trans hserial, helect, hkeeps.trans (keeps_fw _ _ _),
    hregs.trans ((regsKeep_fw _ Fld.ATY_FAB_STATUS_ELECT st).mono (by decide))⟩

/-- A claim taken as the best, its module as master, where no message waits for a link. -/
theorem setMaster_shown (hwaiting : s.fab.waiting = []) (c : ClaimMsg) (st : Nat) :
    ((s.setBest (some c)).setMaster (some c)).fw Fld.ATY_FAB_STATUS_ELECT st = (s.setBest (some c)).masterShown c st := by
  rw [setMaster, routeWaiting_empty, masterShown, masterNamed]
  rw [wr_fab, fw_fab, fw_fab]
  exact hwaiting

/-- Whether a claim is better than the best one known, or a later one of the same key. -/
def claimNewer (s : State) (c : ClaimMsg) : Bool :=
  match s.fab.best with
  | none => true
  | some b => c.better b || (!b.better c && decide (b.seq < c.seq))

theorem claim_arrives {m : List Byte} (hl : l < 16) (hty : (m.headD 0).toNat = 2) (hup : s.linkState l = pUp) :
    exec (.claim l m) s = .next (s.claimIn l (claimOf m)) := by
  refine congrArg Host.Outcome.next ((ctlRow_eq hl hty (.inl (by simp [hup]))).trans ?_)
  rw [ctlIn, hty]
  exact if_pos hup

theorem claimIn_older {c : ClaimMsg} (hnewer : s.claimNewer c = false) : s.claimIn l c = s := by
  have hstale : (!s.claimNewer c || decide (c.serial = s.ownSerial)) = true := by simp [hnewer]
  exact if_pos hstale

theorem claimIn_newer {c : ClaimMsg} (hnewer : s.claimNewer c = true) (hserial : c.serial ≠ s.ownSerial) :
    s.claimIn l c = (if c.incumbent then ((s.setBest (some c)).setMaster (some c)).fw Fld.ATY_FAB_STATUS_ELECT eFollower
      else if s.elect = eClaiming then (s.setBest (some c)).fw Fld.ATY_FAB_STATUS_ELECT eNone
      else s.setBest (some c)).flood (some l) c.bytes := by
  have hfresh : ¬ (!s.claimNewer c || decide (c.serial = s.ownSerial)) = true := by simp [hnewer, hserial]
  exact if_neg hfresh

theorem claimOf_lt (m : List Byte) : (claimOf m).modNum < 4096 ∧ (claimOf m).floor < 256 ∧ (claimOf m).serial < 2 ^ 64 :=
  ⟨Nat.mod_lt _ (by decide), bits_lt _ _ _, bits_lt _ _ _⟩

theorem keeps_setBest (s : State) (c : Option ClaimMsg) : Keeps [.fab] s (s.setBest c) := keeps_withFab s _

/-- A master's claim becomes the best one known and its module the master. -/
theorem incumbentTaken_shows (s : State) (c : ClaimMsg) {st : Nat} (hst : st < 4) :
    let w := (s.setBest (some c)).masterShown c st
    w.fab = { s.fab with best := some c } ∧ w.fd Fld.ATY_FAB_STATUS_MASTER_MOD = c.modNum % 4096 ∧
      w.fd Fld.ATY_FAB_STATUS_FLOOR = c.floor % 256 ∧ w.rd Reg.ATY_MASTER_SERIAL = c.serial % 2 ^ 64 ∧ w.elect = st ∧
      Keeps [.regs, .fab] s w ∧ RegsKeep [Reg.ATY_FAB_STATUS.addr, Reg.ATY_MASTER_SERIAL.addr] s w := by
  obtain ⟨hmod, hfloor, hserial, helect, hkeeps, hregs⟩ := masterShown_shows (s.setBest (some c)) c hst
  exact ⟨hkeeps .fab (by decide), hmod, hfloor, hserial, helect, ((keeps_setBest s _).mono (by decide)).trans (hkeeps.mono (by decide)),
    (RegsKeep.of_regs_eq rfl).trans hregs⟩

/-- A claim that is no beacon becomes the best one known; a module that claims gives up. -/
theorem claimTaken_shows (s : State) (c : ClaimMsg) :
    let w := if s.elect = eClaiming then (s.setBest (some c)).fw Fld.ATY_FAB_STATUS_ELECT eNone else s.setBest (some c)
    w.fab = { s.fab with best := some c } ∧ w.elect = (if s.elect = eClaiming then eNone else s.elect) ∧ Keeps [.regs, .fab] s w ∧
      RegsKeep [Reg.ATY_FAB_STATUS.addr] s w := by
  dsimp only
  split
  · refine ⟨fw_fab _ _ _, fd_fw_self _ Fld.ATY_FAB_STATUS_ELECT eNone (by decide) (by decide), ?_, ?_⟩
    · exact ((keeps_setBest s _).mono (by decide)).trans ((keeps_fw _ _ _).mono (by decide))
    · exact (RegsKeep.of_regs_eq rfl).trans (regsKeep_fw (s.setBest (some c)) Fld.ATY_FAB_STATUS_ELECT _)
  · exact ⟨rfl, rfl, (keeps_setBest s _).mono (by decide), RegsKeep.of_regs_eq rfl⟩

/-- A beacon with the number `b`. -/
def beaconWith (s : State) (b : Nat) : ClaimMsg := { s.ownClaim true with seq := b }

/-- The beacon's number kept. -/
def beaconSet (s : State) (b : Nat) : State := { s with fab := { s.fab with beacon := b } }

theorem beaconNow_floods (hwaiting : s.fab.waiting = []) :
    let b := (s.fab.beacon + 1) % 2 ^ 32
    s.beaconNow = (((s.beaconSet b).setBest (some (s.beaconWith b))).masterShown (s.beaconWith b) eMaster).flood none (s.beaconWith b).bytes :=
  congrArg (State.flood · none (s.beaconWith ((s.fab.beacon + 1) % 2 ^ 32)).bytes)
    (setMaster_shown (s := s.beaconSet ((s.fab.beacon + 1) % 2 ^ 32)) hwaiting (s.beaconWith ((s.fab.beacon + 1) % 2 ^ 32)) eMaster)

theorem beaconSet_shows (s : State) (b : Nat) :
    let w := ((s.beaconSet b).setBest (some (s.beaconWith b))).masterShown (s.beaconWith b) eMaster
    w.fab = { s.fab with best := some (s.beaconWith b), beacon := b } ∧ w.elect = eMaster ∧
      w.fd Fld.ATY_FAB_STATUS_MASTER_MOD = s.ownMod ∧ w.fd Fld.ATY_FAB_STATUS_FLOOR = s.masterFloor % 256 ∧
      w.rd Reg.ATY_MASTER_SERIAL = s.ownSerial % 2 ^ 64 ∧ Keeps [.regs, .fab] s w ∧
      RegsKeep [Reg.ATY_FAB_STATUS.addr, Reg.ATY_MASTER_SERIAL.addr] s w := by
  obtain ⟨hfab, hmod, hfloor, hserial, helect, hkeeps, hregs⟩ :=
    incumbentTaken_shows (s.beaconSet b) (s.beaconWith b) (st := eMaster) (by decide)
  exact ⟨hfab, helect, hmod.trans (Nat.mod_eq_of_lt (bits_lt _ _ _)), hfloor, hserial,
    ((keeps_withFab s _).mono (by decide)).trans hkeeps, (RegsKeep.of_regs_eq rfl).trans hregs⟩

/-- The two rows that send a beacon, with the election state of each. -/
theorem beacon_rows {mk : Instr} {st : Nat} (h : (mk, st) ∈ [(Instr.electQuietExpiry, eClaiming), (.beaconPeriod, eMaster)]) (s : State) :
    exec mk s = .next (if s.elect == st then s.beaconNow else s) := by
  simp only [List.mem_cons, List.not_mem_nil, or_false, Prod.mk.injEq] at h
  rcases h with ⟨rfl, rfl⟩ | ⟨rfl, rfl⟩ <;> rfl

/-- A module that has lost its master. -/
def masterForgotten (s : State) : State := ((s.setMaster none).setBest none).fw Fld.ATY_FAB_STATUS_ELECT eNone

theorem masterForgotten_shows (s : State) :
    let w := s.masterForgotten
    w.fd Fld.ATY_FAB_STATUS_MASTER_MOD = 0xFFF ∧ w.fd Fld.ATY_FAB_STATUS_FLOOR = 0 ∧ w.rd Reg.ATY_MASTER_SERIAL = 0 ∧ w.elect = eNone ∧
      w.fab = { s.fab with best := none } ∧ Keeps [.regs, .fab] s w := by
  obtain ⟨hmod, hfloor, hserial, hkeeps, -⟩ := masterNamed_shows s ⟨false, 0, 0xFFF, 0, 0, 0⟩
  have hforgotten : s.masterForgotten = ((s.masterNamed ⟨false, 0, 0xFFF, 0, 0, 0⟩).setBest none).fw Fld.ATY_FAB_STATUS_ELECT eNone := rfl
  rw [hforgotten]
  generalize s.masterNamed ⟨false, 0, 0xFFF, 0, 0, 0⟩ = t at *
  obtain ⟨helect, hmod', hfloor', hserial'⟩ := electSet_shows (t.setBest none) (st := eNone) (by decide)
  have hsame : (t.setBest none).regs = t.regs := rfl
  rw [fd_congr hsame] at hmod' hfloor'
  rw [rd_congr hsame] at hserial'
  refine ⟨hmod'.trans hmod, hfloor'.trans hfloor, hserial'.trans hserial, helect, ?_, ?_⟩
  · rw [fw_fab, setBest, hkeeps .fab (by decide)]
  · exact ((hkeeps.mono (by decide)).trans ((keeps_setBest t none).mono (by decide))).trans ((keeps_fw _ _ _).mono (by decide))

theorem masterLoss_claims (helect : s.elect ≠ eMaster) : exec .masterLoss s = .next s.masterForgotten.claimAnew :=
  congrArg Host.Outcome.next (if_neg (by simpa using helect))

/-! ## PRESENCE and DUPLICATE (09 R337) -/

/-- A message on every UP link leaves the election as it is. -/
theorem elect_flood (s : State) (except : Option Nat) (bs : List Byte) : (s.flood except bs).elect = s.elect :=
  (linkFrame_flood s except bs).fd (f := Fld.ATY_FAB_STATUS_ELECT) (LinkFrame.not_mem_countAddrs_of_above (by decide))

/-- Whether a PRESENCE is later than the one kept of its origin. -/
def presNewer (s : State) (p : PresMsg) : Bool :=
  match s.fab.pres.find? (fun q => q.serial == p.serial) with
  | some q => decide (q.pseq < p.pseq)
  | none => p.serial != s.ownSerial

/-- A PRESENCE kept as its origin's last. -/
def presKept (s : State) (p : PresMsg) : State :=
  { s with fab := { s.fab with pres := p :: s.fab.pres.filter (fun q => q.serial != p.serial) } }

theorem presence_arrives {m : List Byte} (hl : l < 16) (hty : (m.headD 0).toNat = 3) (hup : s.linkState l = pUp) :
    exec (.presence l m) s = .next (s.presIn l m) := by
  refine congrArg Host.Outcome.next ((ctlRow_eq hl hty (.inl (by simp [hup]))).trans ?_)
  rw [ctlIn, hty]
  exact if_pos hup

theorem presIn_older {m : List Byte} (hnewer : s.presNewer (presOf m s.now) = false) : s.presIn l m = s := by
  have hstale : (!s.presNewer (presOf m s.now)) = true := by simp [hnewer]
  exact if_pos hstale

theorem presIn_newer {m : List Byte} (hnewer : s.presNewer (presOf m s.now) = true) (helect : s.elect ≠ eMaster) :
    s.presIn l m = (s.presKept (presOf m s.now)).flood (some l) (presOf m s.now).bytes := by
  have hfresh : ¬ (!s.presNewer (presOf m s.now)) = true := by simp [hnewer]
  have hother : ¬ ((s.presKept (presOf m s.now)).flood (some l) (presOf m s.now).bytes).elect = eMaster := by
    rw [elect_flood]
    exact helect
  exact (if_neg hfresh).trans (if_neg hother)

/-- The port states from which DUPLICATE isolates. -/
def mayIsolate : List Nat := [pIdent, pUp, pMiswired]

/-- A port of a module that DUPLICATE names. -/
def isolatePort (s : State) (p : Nat) : State :=
  if mayIsolate.contains (s.portState p) then (s.setPort p pIsolated).portLost p else s

theorem isolatePort_shows (s : State) (p : Nat) :
    (∀ q, (s.isolatePort p).portState q = if q = p ∧ s.portState q ∈ mayIsolate then pIsolated else s.portState q) ∧
      (s.isolatePort p).fb Fld.ATY_FAB_STATUS_ISOLATED = s.fb Fld.ATY_FAB_STATUS_ISOLATED ∧ (s.isolatePort p).mem = s.mem := by
  have hlost := handsOver_portLost (s.setPort p pIsolated) p
  by_cases h : s.portState p ∈ mayIsolate
  · rw [isolatePort, if_pos (List.contains_iff_mem.mpr h)]
    refine ⟨fun q => (hlost.portState q).trans ?_, (hlost.fb (by decide)).trans ?_, hlost.mem.trans (setPort_mem s p _)⟩
    · by_cases hq : q = p
      · subst hq
        rw [portState_setPort_self s q (by decide), if_pos ⟨rfl, h⟩]
      · rw [portState_setPort_ne s _ hq, if_neg (fun hand => hq hand.1)]
    · exact congrArg (· != 0) (fd_fw_ne s (Fld.ATY_PORT_STATUS_STATE p) Fld.ATY_FAB_STATUS_ISOLATED _ (fabStatus_addr_ne p))
  · rw [isolatePort, if_neg (fun hc => h (List.contains_iff_mem.mp hc))]
    refine ⟨fun q => (if_neg ?_).symm, rfl, rfl⟩
    rintro ⟨rfl, hq⟩
    exact h hq

/-- The first ports of a module that DUPLICATE names. -/
theorem isolatePorts_shows (s : State) (n : Nat) :
    let u := (List.range n).foldl isolatePort s
    (∀ q, u.portState q = if q < n ∧ s.portState q ∈ mayIsolate then pIsolated else s.portState q) ∧
      u.fb Fld.ATY_FAB_STATUS_ISOLATED = s.fb Fld.ATY_FAB_STATUS_ISOLATED ∧ u.mem = s.mem := by
  induction n with
  | zero => exact ⟨fun q => (if_neg (by simp)).symm, rfl, rfl⟩
  | succ n ih =>
    obtain ⟨hstate, hisolated, hmem⟩ := ih
    rw [List.range_succ, List.foldl_append]
    generalize (List.range n).foldl isolatePort s = t at *
    obtain ⟨hstate', hisolated', hmem'⟩ := isolatePort_shows t n
    refine ⟨fun q => (hstate' q).trans ?_, hisolated'.trans hisolated, hmem'.trans hmem⟩
    rw [hstate q]
    by_cases hq : q = n
    · subst hq
      simp
    · have hlt : q < n + 1 ↔ q < n := by omega
      simp [hq, hlt]

theorem duplicate_arrives {m : List Byte} (hl : l < 16) (hty : (m.headD 0).toNat = 4) (hup : s.linkState l = pUp) :
    exec (.duplicate l m) s = .next (s.dupIn l m) := by
  refine congrArg Host.Outcome.next ((ctlRow_eq hl hty (.inl (by simp [hup]))).trans ?_)
  rw [ctlIn, hty]
  rfl

theorem dupIn_own {m : List Byte} (hmod : bits (ofLE m) 16 16 % 4096 = s.ownMod) (hserial : bits (ofLE m) 64 64 = s.ownSerial) :
    s.dupIn l m = (List.range 18).foldl isolatePort (s.fbw Fld.ATY_FAB_STATUS_ISOLATED true) :=
  if_pos (by simp [hmod, hserial])

theorem dupIn_other {m : List Byte} (hmod : bits (ofLE m) 16 16 % 4096 ≠ s.ownMod) :
    s.dupIn l m = if s.fab.dups.contains (bits (ofLE m) 16 16 % 4096, bits (ofLE m) 64 64) then s
      else ({ s with fab := { s.fab with dups := (bits (ofLE m) 16 16 % 4096, bits (ofLE m) 64 64) :: s.fab.dups } }).flood (some l)
        (dupBytes (bits (ofLE m) 16 16 % 4096) (bits (ofLE m) 64 64)) :=
  if_neg (by simp [hmod])

theorem dupIn_own_isolates {m : List Byte} (hmod : bits (ofLE m) 16 16 % 4096 = s.ownMod)
    (hserial : bits (ofLE m) 64 64 = s.ownSerial) :
    let u := s.dupIn l m
    u.fb Fld.ATY_FAB_STATUS_ISOLATED = true ∧ u.mem = s.mem ∧
      ∀ q, q < 18 → u.portState q = if s.portState q ∈ mayIsolate then pIsolated else s.portState q := by
  obtain ⟨hstate, hisolated, hmem⟩ := isolatePorts_shows (s.fbw Fld.ATY_FAB_STATUS_ISOLATED true) 18
  dsimp only
  rw [dupIn_own hmod hserial]
  refine ⟨hisolated.trans (fb_fbw_self s _ true rfl (by decide) (by decide)), hmem.trans (fbw_mem s _ _), fun q hq => ?_⟩
  rw [hstate q, show (s.fbw Fld.ATY_FAB_STATUS_ISOLATED true).portState q = s.portState q from
    fd_fw_ne s Fld.ATY_FAB_STATUS_ISOLATED (Fld.ATY_PORT_STATUS_STATE q) _ (fabStatus_addr_ne q).symm]
  simp [hq]

/-- PRESENCE goes out with the number `n`. -/
def presNumbered (s : State) (n : Nat) : State := { s with fab := { s.fab with pseq := n } }

theorem presencePeriod_sends (hown : s.ownMod ≠ 0xFFF) :
    let n := (s.fab.pseq + 1) % 2 ^ 32
    exec .presencePeriod s = .next ((s.presNumbered n).flood none (PresMsg.bytes ⟨s.ownSerial, s.ownMod,
      s.fd Fld.ATY_FAB_STATUS_PROTO_LEVEL, s.fd Fld.ATY_FAB_STATUS_NUMERICS_LEVEL, n, s.now⟩)) :=
  congrArg Host.Outcome.next (if_neg (by simpa using hown))

/-! ## ATY_ADMIT and ATY_EXPECT (09 R324, R346) -/

/-- The poll of the partner's step. -/
def admitReq (s : State) (j : Job) : Req := Req.make (j.pkt.u16 16 * 2 ^ 52 + 5 * 2 ^ 48 + 0x020) s.srcMod 0x2F 8 opLoad none []

/-- A poll of the partner's step that has been answered. -/
def pollNoted (s : State) : State := { s with fab := { s.fab with polled := true } }

theorem finish_mcc (s : State) (a : Ans) : s.finish .mcc a = s.mccReply a := rfl

theorem admitPoll_finds {j : Job} (hjob : s.admitJob = some j) (hissue : (s.issueCheck (s.admitReq j)).isSome = false) :
    exec (.admitPoll (some (j.pkt.u64 24))) s =
      .next (((s.sendFar (s.admitReq j)).pollNoted.fw Fld.ATY_FAB_STATUS_ADMIT 2).finish .mcc .done) := by
  unfold admitReq at hissue ⊢
  refine congrArg Host.Outcome.next ?_
  rw [hjob, finish_mcc]
  refine (if_neg (ne_true_of_eq_false hissue)).trans ?_
  generalize s.sendFar _ = t
  exact if_pos rfl

theorem admitPoll_ends {j : Job} (hjob : s.admitJob = some j) (hissue : (s.issueCheck (s.admitReq j)).isSome = false) :
    Ends (exec (.admitPoll (some (j.pkt.u64 24))) s) .mcc .done (fun u => u.fd Fld.ATY_FAB_STATUS_ADMIT = 2 ∧ u.mem = s.mem) := by
  have hsent : LinkFrame anyGroup s (s.sendFar (s.admitReq j)) := linkFrame_sendFar s _
  refine ⟨_, admitPoll_finds hjob hissue, ?_⟩
  generalize s.sendFar (s.admitReq j) = t at *
  exact ⟨fd_fw_self _ Fld.ATY_FAB_STATUS_ADMIT 2 (by decide) (by decide),
    (fw_mem _ _ _).trans ((keeps_withFab t _ .mem (by decide)).trans (hsent.parts .mem (by decide)))⟩

theorem admitTimeout_ends {j : Job} (hjob : s.admitJob = some j) : Ends (exec .admitTimeout s) .mcc (.err Sts.timeout) (· = s) :=
  ⟨s, congrArg Host.Outcome.next (if_pos (by simp [hjob])), rfl⟩

/-- ATY_EXPECT as it is kept. -/
def expectSet (s : State) (p v : Nat) : State := s.wr (Reg.ATY_EXPECT p) (v &&& 0x800FFF0F)

theorem expectSet_shows (s : State) (p v : Nat) :
    (s.expectSet p v).rd (Reg.ATY_EXPECT p) = v &&& 0x800FFF0F ∧ (s.expectSet p v).portState p = s.portState p := by
  refine ⟨(rd_wr_self s _ _ (show 32 ≤ 64 by decide)).trans (Nat.mod_eq_of_lt ?_), fd_wr_ne s _ (Fld.ATY_PORT_STATUS_STATE p) _ ?_⟩
  · exact (Nat.and_le_right).trans_lt (show 0x800FFF0F < 2 ^ 32 by decide)
  · simp [Fld.ATY_PORT_STATUS_STATE, Reg.ATY_EXPECT, Reg.ATY_PORT_STATUS]

theorem atyExpectWrite_checks (v : Nat) (hp : p < 18) (hup : s.portState p = pUp) :
    exec (.atyExpectWrite p v) s = .next (if (s.expectSet p v).expectBroken p then
      (((s.expectSet p v).fbw (Fld.ATY_PORT_STATUS_EXPECT_MISMATCH p) true).setPort p pMiswired).portLost p else s.expectSet p v) :=
  congrArg Host.Outcome.next ((if_pos hp).trans (if_pos ((expectSet_shows s p v).2.trans hup)))

/-- A port whose far end breaks its expectation. -/
theorem expectBroken_shows (s : State) (p : Nat) :
    let u := ((s.fbw (Fld.ATY_PORT_STATUS_EXPECT_MISMATCH p) true).setPort p pMiswired).portLost p
    u.portState p = pMiswired ∧ u.fb (Fld.ATY_PORT_STATUS_EXPECT_MISMATCH p) = true ∧
      u.rd (Reg.ATY_EXPECT p) = s.rd (Reg.ATY_EXPECT p) ∧ u.mem = s.mem := by
  let t := s.fbw (Fld.ATY_PORT_STATUS_EXPECT_MISMATCH p) true
  have hlost := handsOver_portLost (t.setPort p pMiswired) p
  have hexpect : (Reg.ATY_EXPECT p).addr ≠ (Reg.ATY_PORT_STATUS p).addr := by simp [Reg.ATY_EXPECT, Reg.ATY_PORT_STATUS]
  refine ⟨(hlost.portState p).trans (portState_setPort_self t p (by decide)), (hlost.fb ?_).trans ?_, (hlost.rd ?_).trans ?_,
    hlost.mem.trans ((setPort_mem t p _).trans (fbw_mem s _ _))⟩
  · exact (show 0x1000000 ≤ 0x2300000 + 0x10000 * p by omega)
  · exact (congrArg (· != 0) (fd_setPort t p pMiswired rfl (show 13 + 1 ≤ 28 by decide))).trans
      (fb_fbw_self s (Fld.ATY_PORT_STATUS_EXPECT_MISMATCH p) true rfl (show 13 + 1 ≤ 32 by decide) (show 32 ≤ 64 by decide))
  · exact (show 0x1000000 ≤ 0x230003c + 0x10000 * p by omega)
  · exact (rd_fw_ne t (Fld.ATY_PORT_STATUS_STATE p) (Reg.ATY_EXPECT p) _ hexpect).trans
      (rd_fw_ne s (Fld.ATY_PORT_STATUS_EXPECT_MISMATCH p) (Reg.ATY_EXPECT p) _ hexpect)

end

end Sys2Proof.Machine.State

namespace Sys2Proof

open Sys2Proof.Machine Sys2Proof.Machine.State Sys2Proof.Safety

/-- Settles O31: the far end's IDENT, claims, PRESENCE and the rest, by the lemma about each message and each event. -/
theorem neighboursAreCheckedAndCounted : Obligations.NeighboursAreCheckedAndCounted := by
  unfold Obligations.NeighboursAreCheckedAndCounted
  refine ⟨⟨?ident, ?checks, fun s l p m hl hty hport hp => ⟨?bertStop, ?bertStart⟩⟩,
    ⟨fun s l m hl hty hup => ?claim, fun s l m hl hty hup => ⟨?presNew, ?presOld⟩, fun s l m hl hty hup => ⟨?dupOwn, ?dupOld, ?dupNew⟩⟩,
    ?beacon, ?noBeacon, ?masterLoss, ?presence, fun s j hjob hissue => admitPoll_ends hjob hissue,
    fun s j hjob => admitTimeout_ends hjob, ?expect⟩
  case ident =>
    intro s l p m hl hty hport _ hstate hbert
    obtain ⟨hserial, hmod, hlink, hspine, hident, hkept, -, hkeeps, hregs⟩ := heardIdent_shows s l p m
    exact ⟨_, ident_checks hl hty hport hstate hbert, hserial, hmod, hlink, hspine, hident, hkept, hkeeps, hregs⟩
  case checks =>
    intro s p _ hstate hident hspare hisolated
    rw [portState_identCheck hstate hident hspare hisolated]
    refine ⟨fun hbroken => if_pos hbroken, fun hbroken hown hfar => ?_, fun hbroken hfar => ?_⟩
    · rw [if_neg (ne_true_of_eq_false hbroken)]
      exact if_pos (by simp [hown, hfar])
    · rw [if_neg (ne_true_of_eq_false hbroken)]
      exact if_neg (by simpa [or_iff_not_imp_left] using hfar)
  case bertStop =>
    subst hport
    intro hstop hstate
    obtain ⟨hdown, hfab, hmem⟩ := portDown_shows (s.bertDropped l) (s.portOf l)
    exact ⟨_, bertReq_stops hl hty hstop hstate, hdown, congrArg Fab.bert hfab, hmem⟩
  case bertStart =>
    subst hport
    intro hstop hstate
    have hlost := handsOver_portLost ((s.bertHeard l m).setPort (s.portOf l) pBert) (s.portOf l)
    refine ⟨_, bertReq_starts hl hty hstop hstate, (hlost.portState _).trans (portState_setPort_self _ _ (by decide)), ?_, ?_⟩
    · rw [hlost.fab, setPort_fab, bertHeard]
    · exact hlost.mem.trans (setPort_mem _ _ _)
  case claim =>
    dsimp only
    intro hserial
    obtain ⟨hmod, hfloor, hser⟩ := claimOf_lt m
    rw [claim_arrives hl hty hup]
    refine ⟨fun hnewer hinc hwaiting => ?_, fun hnewer hinc => ?_, fun hnewer => congrArg Host.Outcome.next (claimIn_older hnewer)⟩
    · obtain ⟨hfab, hmod', hfloor', hser', hrest⟩ := incumbentTaken_shows s (claimOf m) (st := eFollower) (by decide)
      rw [Nat.mod_eq_of_lt hmod] at hmod'
      rw [Nat.mod_eq_of_lt hfloor] at hfloor'
      rw [Nat.mod_eq_of_lt hser] at hser'
      rw [claimIn_newer hnewer hserial, if_pos hinc, setMaster_shown hwaiting]
      exact ⟨_, rfl, hfab, hmod', hfloor', hser', hrest⟩
    · rw [claimIn_newer hnewer hserial, if_neg (ne_true_of_eq_false hinc)]
      exact ⟨_, rfl, claimTaken_shows s (claimOf m)⟩
  case presNew =>
    intro hnewer helect
    rw [presence_arrives hl hty hup, presIn_newer hnewer helect]
    exact ⟨_, rfl, rfl, keeps_withFab s _⟩
  case presOld =>
    intro hnewer
    rw [presence_arrives hl hty hup, presIn_older hnewer]
  case dupOwn =>
    intro hmod hserial
    obtain ⟨hisolated, hmem, hports⟩ := dupIn_own_isolates (l := l) hmod hserial
    exact ⟨_, duplicate_arrives hl hty hup, hisolated, hmem, hports⟩
  case dupOld =>
    intro hmod hknown
    rw [duplicate_arrives hl hty hup, dupIn_other hmod, if_pos hknown]
  case dupNew =>
    intro hmod hknown
    rw [duplicate_arrives hl hty hup, dupIn_other hmod, if_neg (ne_true_of_eq_false hknown)]
    exact ⟨_, rfl, rfl, keeps_withFab s _⟩
  case beacon =>
    intro mk st hrow s helect hwaiting
    rw [beacon_rows hrow s, if_pos (beq_iff_eq.mpr helect), beaconNow_floods hwaiting]
    exact ⟨_, rfl, beaconSet_shows s _⟩
  case noBeacon =>
    intro mk st hrow s helect
    rw [beacon_rows hrow s, if_neg (fun heq => helect (beq_iff_eq.mp heq))]
  case masterLoss => exact fun s helect => ⟨_, masterLoss_claims helect, masterForgotten_shows s⟩
  case presence => exact fun s hown => ⟨_, presencePeriod_sends hown, rfl, keeps_withFab s _⟩
  case expect =>
    intro s p v hp hup
    obtain ⟨hset, -⟩ := expectSet_shows s p v
    obtain ⟨hmiswired, hshown, hexpect, hmem⟩ := expectBroken_shows (s.expectSet p v) p
    refine ⟨_, atyExpectWrite_checks v hp hup, ?_⟩
    by_cases hbroken : (s.expectSet p v).expectBroken p = true
    · rw [if_pos hbroken]
      exact ⟨hexpect.trans hset, hmem.trans (wr_mem s _ _), fun _ => ⟨hmiswired, hshown⟩,
        fun hkept => absurd (hbroken.symm.trans hkept) (by decide)⟩
    · rw [if_neg hbroken]
      exact ⟨hset, wr_mem s _ _, fun h => absurd h hbroken, fun _ => rfl⟩

end Sys2Proof
end

section
/-! The fabric commands (O33): ATY_FABRIC_CFG, ATY_ROUTE_SET, ATY_PORT_CTL, ATY_BERT, ATY_JOB_BIND and ATY_ADMIT. -/

namespace Sys2Proof.Machine.State

open Sys2Proof.Safety

section
variable {s s1 : State} {via : Via} {p : Packet} {j : Job}

/-- A command that begins leaves the cascade, memory, the maintenance token and the registers above the management units' alone. -/
theorem begun_shows (s : State) (via : Via) (j : Job) :
    let w := s.beginJob true via j
    w.fab = s.fab ∧ w.mem = s.mem ∧ w.ras = s.ras ∧ ∀ r : Reg, 0x1000000 ≤ r.addr → w.rd r = s.rd r := by
  have hkeeps := keeps_beginJob s true via j
  refine ⟨hkeeps .fab (by decide), hkeeps .mem (by decide), hkeeps .ras (by decide), fun r hr => (beginJob_regsKeep s true via j).rd ?_⟩
  simp only [Reg.RAS_LOG_SEQ, List.mem_singleton]
  omega

/-- States with the same registers of ports and cascade have the same ports and the same module number. -/
structure SamePorts (s t : State) : Prop where
  state : ∀ q, t.portState q = s.portState q
  link : ∀ q, t.portLink q = s.portLink q
  port : ∀ l, t.portOf l = s.portOf l
  own : t.ownMod = s.ownMod

theorem samePorts_of_rd {t : State} (h : ∀ r : Reg, 0x1000000 ≤ r.addr → t.rd r = s.rd r) : SamePorts s t where
  state q := congrArg (bits · 28 4) (h (Reg.ATY_PORT_STATUS q) (show 0x1000000 ≤ 0x2300000 + 0x10000 * q by omega))
  link q := congrArg (bits · 23 5) (h (Reg.ATY_PORT_STATUS q) (show 0x1000000 ≤ 0x2300000 + 0x10000 * q by omega))
  port := portOf_congr (h _ (by decide)) (h _ (by decide))
  own := congrArg (bits · 0 12) (h Reg.ATY_FAB_CFG (by decide))

theorem samePorts_beginJob (s : State) (via : Via) (j : Job) : SamePorts s (s.beginJob true via j) :=
  samePorts_of_rd (begun_shows s via j).2.2.2

/-- A row's effect with its answer, if it gives one. -/
def rowEnd (via : Via) : State × Option Ans → State
  | (u, some a) => u.finish via a
  | (u, none) => u

/-- A row that starts has its effect. -/
theorem runRow_runs {mine : Bool} {check : State → Option Ans} {act : State → State × Option Ans} (h : Starts s true via p j s1)
    (hmine : mine = true) (hcheck : check s1 = none) : s.runRow via p mine check act = rowEnd via (act (s1.beginJob true via j)) := by
  rw [hmine, runRow_starts h hcheck]
  rcases act (s1.beginJob true via j) with ⟨u, _ | a⟩ <;> rfl

/-- A row whose check fails. -/
theorem runRow_refused {mine : Bool} {check : State → Option Ans} {act : State → State × Option Ans} {a : Ans}
    (h : Starts s true via p j s1) (hmine : mine = true) (hcheck : check s1 = some a) :
    s.runRow via p mine check act = s1.finish via a := by
  rw [hmine, runRow_fails h hcheck]

/-! ## ATY_FABRIC_CFG (09 R337, R345) -/

/-- A fold that changes nothing. -/
theorem foldl_fixed {α : Type} {f : State → α → State} {l : List α} {s : State} (h : ∀ a ∈ l, f s a = s) : l.foldl f s = s :=
  List.foldlRecOn (motive := (· = s)) l f rfl fun u hu a ha => by rw [hu, h a ha]

/-- The word of ATY_FAB_CFG. -/
def fabCfgWord (c : Nat × Nat × Nat × Nat × Bool) : Nat :=
  b2n c.2.2.2.2 * 2 ^ 48 + c.2.2.2.1 * 2 ^ 32 + c.2.2.1 * 2 ^ 16 + c.2.1 * 2 ^ 12 + c.1

theorem clrBit_lt {up : Nat} (h : up < 16) : clrBit 0xFFFF up < 2 ^ 16 := setBits_lt (by decide) (by omega)

theorem fabCfgOf_lt (p : Packet) (hmod : (fabCfgOf p).1 ≤ 4094) (hup : (fabCfgOf p).2.2.1 < 16 ∨ (fabCfgOf p).2.2.1 = 0x1F) :
    fabCfgWord (fabCfgOf p) < 2 ^ 64 := by
  have hprio : (fabCfgOf p).2.1 < 16 := by
    unfold fabCfgOf
    split
    · exact Nat.mod_lt _ (by decide)
    · exact (by decide : 8 < 16)
  have hdown : (fabCfgOf p).2.2.2.1 < 65536 := by
    unfold fabCfgOf
    split
    · exact bits_lt _ _ _
    · dsimp only
      split
      · exact clrBit_lt ‹_›
      · decide
  have hjoin : b2n (fabCfgOf p).2.2.2.2 ≤ 1 := by cases (fabCfgOf p).2.2.2.2 <;> decide
  simp only [fabCfgWord]
  omega

/-- ATY_FAB_CFG written, the handover of another upstream link, and ADMIT. -/
def fabWritten (s : State) (c : Nat × Nat × Nat × Nat × Bool) : State :=
  let t := s.wr Reg.ATY_FAB_CFG (fabCfgWord c)
  (if s.fd Fld.ATY_FAB_CFG_UPSTREAM_LINK = c.2.2.1 then t else t.linkHandover).fw Fld.ATY_FAB_STATUS_ADMIT (if c.2.2.2.2 then 1 else 2)

/-- What ATY_FABRIC_CFG sets before it looks at links and election. -/
def fabConfigured (s : State) (c : Nat × Nat × Nat × Nat × Bool) : State :=
  (List.range 18).foldl (fun s p => s.fbw (Fld.ATY_PORT_STATUS_UPSTREAM p) (s.portLink p == c.2.2.1 && decide (c.2.2.1 < 16)))
    (s.fabWritten c)

theorem fabWritten_shows (s : State) (c : Nat × Nat × Nat × Nat × Bool) (hword : fabCfgWord c < 2 ^ 64) :
    let u := s.fabWritten c
    u.rd Reg.ATY_FAB_CFG = fabCfgWord c ∧ u.fd Fld.ATY_FAB_STATUS_ADMIT = (if c.2.2.2.2 then 1 else 2) ∧ u.mem = s.mem ∧ u.fab = s.fab ∧
      u.elect = s.elect ∧ u.fb Fld.ATY_FAB_STATUS_ELIGIBLE = s.fb Fld.ATY_FAB_STATUS_ELIGIBLE ∧
      (∀ q, q < 18 → u.portState q = s.portState q) ∧ ∀ l, u.portOf l = s.portOf l := by
  let t := s.wr Reg.ATY_FAB_CFG (fabCfgWord c)
  let v := if s.fd Fld.ATY_FAB_CFG_UPSTREAM_LINK = c.2.2.1 then t else t.linkHandover
  have hv : HandsOver t v := by
    by_cases h : s.fd Fld.ATY_FAB_CFG_UPSTREAM_LINK = c.2.2.1
    · rw [show v = t from if_pos h]
      exact .refl t
    · rw [show v = t.linkHandover from if_neg h]
      exact handsOver_linkHandover t
  have hother : ∀ r : Reg, 0x1000000 ≤ r.addr → r.addr ≠ Reg.ATY_FAB_CFG.addr → v.rd r = s.rd r := fun r hr hne =>
    (hv.rd hr).trans (rd_wr_ne s _ r _ hne)
  have hword' : v.rd Reg.ATY_FAB_CFG = fabCfgWord c :=
    (hv.rd (by decide)).trans ((rd_wr_self s Reg.ATY_FAB_CFG _ (by decide)).trans (Nat.mod_eq_of_lt hword))
  have hmem : v.mem = s.mem := hv.mem.trans (wr_mem s _ _)
  have hfab : v.fab = s.fab := hv.fab.trans (wr_fab s _ _)
  rw [show s.fabWritten c = v.fw Fld.ATY_FAB_STATUS_ADMIT (if c.2.2.2.2 then 1 else 2) from rfl]
  clear_value v
  have hfw : ∀ r : Reg, 0x1000000 ≤ r.addr → r.addr ≠ Reg.ATY_FAB_CFG.addr → r.addr ≠ Reg.ATY_FAB_STATUS.addr →
      (v.fw Fld.ATY_FAB_STATUS_ADMIT (if c.2.2.2.2 then 1 else 2)).rd r = s.rd r := fun r hr hne hne' =>
    (rd_fw_ne v _ r _ hne').trans (hother r hr hne)
  have hstatus := hother Reg.ATY_FAB_STATUS (by decide) (by decide)
  refine ⟨(rd_fw_ne v _ _ _ (by decide)).trans hword', ?_, (fw_mem v _ _).trans hmem, (fw_fab v _ _).trans hfab, ?_, ?_, fun q hq => ?_,
    portOf_congr (hfw _ (by decide) (by decide) (by decide)) (hfw _ (by decide) (by decide) (by decide))⟩
  · refine (fd_fw_self v Fld.ATY_FAB_STATUS_ADMIT _ (by decide) (by decide)).trans (Nat.mod_eq_of_lt ?_)
    split <;> decide
  · exact (fd_fw_apart v Fld.ATY_FAB_STATUS_ADMIT Fld.ATY_FAB_STATUS_ELECT _ rfl (.inr (by decide)) (by decide) (by decide)).trans
      (congrArg (bits · 26 2) hstatus)
  · exact congrArg (· != 0) ((fd_fw_apart v Fld.ATY_FAB_STATUS_ADMIT Fld.ATY_FAB_STATUS_ELIGIBLE _ rfl (.inr (by decide)) (by decide)
      (by decide)).trans (congrArg (bits · 25 1) hstatus))
  · refine congrArg (bits · 28 4) (hfw (Reg.ATY_PORT_STATUS q) (show 0x1000000 ≤ 0x2300000 + 0x10000 * q by omega) ?_
      (fabStatus_addr_ne q).symm)
    simp only [Reg.ATY_PORT_STATUS, Reg.ATY_FAB_CFG]
    omega

/-- A port's UPSTREAM flag leaves every other register and the port's state. -/
theorem upstreamShown_shows (s : State) (k : Nat) (b : Bool) :
    let u := s.fbw (Fld.ATY_PORT_STATUS_UPSTREAM k) b
    Keeps [.regs] s u ∧ (∀ q, u.portState q = s.portState q) ∧ RegsKeep [(Reg.ATY_PORT_STATUS k).addr] s u :=
  ⟨keeps_fw s _ _, portState_fw_low s _ rfl (show 12 + 1 ≤ 28 by decide), regsKeep_fw s (Fld.ATY_PORT_STATUS_UPSTREAM k) _⟩

theorem fabConfigured_shows (s : State) (c : Nat × Nat × Nat × Nat × Bool) (hword : fabCfgWord c < 2 ^ 64) :
    let u := s.fabConfigured c
    u.rd Reg.ATY_FAB_CFG = fabCfgWord c ∧ u.fd Fld.ATY_FAB_STATUS_ADMIT = (if c.2.2.2.2 then 1 else 2) ∧ u.mem = s.mem ∧ u.fab = s.fab ∧
      u.elect = s.elect ∧ u.fb Fld.ATY_FAB_STATUS_ELIGIBLE = s.fb Fld.ATY_FAB_STATUS_ELIGIBLE ∧
      (∀ q, q < 18 → u.portState q = s.portState q) ∧ ∀ l, u.portOf l = s.portOf l := by
  obtain ⟨hcfg, hadmit, hmem, hfab, helect, heligible, hstate, hport⟩ := fabWritten_shows s c hword
  rw [fabConfigured]
  generalize s.fabWritten c = t at *
  let shown := (List.range 18).foldl
    (fun s p => s.fbw (Fld.ATY_PORT_STATUS_UPSTREAM p) (s.portLink p == c.2.2.1 && decide (c.2.2.1 < 16))) t
  have hkeeps : Keeps [.regs] t shown := Keeps.foldl t fun u k _ => (upstreamShown_shows u k _).1
  have hstates : ∀ q, shown.portState q = t.portState q := fun q =>
    List.foldlRecOn (motive := fun u => u.portState q = t.portState q) _ _ rfl fun u hu k _ =>
      ((upstreamShown_shows u k _).2.1 q).trans hu
  have hregs : RegsKeep ((List.range 18).map fun k => (Reg.ATY_PORT_STATUS k).addr) t shown := RegsKeep.foldl t fun u k hk =>
    (upstreamShown_shows u k _).2.2.mono (List.cons_subset.mpr ⟨List.mem_map_of_mem hk, List.nil_subset _⟩)
  have habove : ∀ a, 0x2430000 ≤ a → a ∉ (List.range 18).map fun k => (Reg.ATY_PORT_STATUS k).addr := fun a ha => by
    simp only [Reg.ATY_PORT_STATUS, List.mem_map, List.mem_range, not_exists, not_and]
    omega
  refine ⟨(hregs.rd (habove _ (by decide))).trans hcfg, (hregs.fd (habove _ (by decide))).trans hadmit,
    (hkeeps .mem (by decide)).trans hmem, (hkeeps .fab (by decide)).trans hfab, (hregs.fd (habove _ (by decide))).trans helect,
    (hregs.fb (habove _ (by decide))).trans heligible, fun q hq => (hstates q).trans (hstate q hq), fun l => ?_⟩
  exact (portOf_congr (hregs.rd (habove _ (by decide))) (hregs.rd (habove _ (by decide))) l).trans (hport l)

/-- Where no link is UP no IDENT goes out again. -/
theorem identAll_none (h : ∀ l, l < 16 → s.linkState l ≠ pUp) : s.identAll = s := by
  have hnone : s.upLinks = [] := List.filter_eq_nil_iff.mpr fun l hl => by simpa using h l (List.mem_range.mp hl)
  rw [identAll, hnone, List.foldl_nil]

theorem identAgain_none {k : Nat} (h : s.portState k ∉ [pUp, pMiswired, pIsolated]) : s.identAgain k = s := by
  simp only [List.mem_cons, List.not_mem_nil, or_false, not_or] at h
  obtain ⟨-, hmiswired, hisolated⟩ := h
  exact if_neg (by simp [hmiswired, hisolated])

/-- A module that is not eligible does not claim. -/
theorem claimAnew_none (h : s.fb Fld.ATY_FAB_STATUS_ELIGIBLE = false) : s.claimAnew = s := if_neg (by simp [h])

/-- What ATY_FABRIC_CFG does on links in service and in the election: IDENT again, the checks of ports, the claim. -/
def fabFollowed (s : State) : State :=
  let s := s.identAll
  let s := (List.range 18).foldl (fun s p => if s.portState p = pUp then s.identCheck p else s.identAgain p) s
  if s.elect = eClaiming then
    let c := s.ownClaim false
    (s.setBest (some c)).flood none c.bytes
  else if s.elect = eMaster then s.beaconNow else s.claimAnew

/-- With no link in service and no election there is nothing to do. -/
theorem fabFollowed_none (hport : ∀ l, l < 16 → s.portOf l < 18) (hstate : ∀ k, k < 18 → s.portState k ∉ [pUp, pMiswired, pIsolated])
    (helect : s.elect = eNone) (heligible : s.fb Fld.ATY_FAB_STATUS_ELIGIBLE = false) : s.fabFollowed = s := by
  have hup : ∀ k, k < 18 → s.portState k ≠ pUp := fun k hk heq => hstate k hk (by simp [heq])
  have hchecked : (List.range 18).foldl (fun s p => if s.portState p = pUp then s.identCheck p else s.identAgain p) s = s :=
    foldl_fixed fun k hk => by
      rw [if_neg (hup k (List.mem_range.mp hk)), identAgain_none (hstate k (List.mem_range.mp hk))]
  rw [fabFollowed, identAll_none fun l hl => hup _ (hport l hl)]
  dsimp only
  rw [hchecked, helect, if_neg (by decide), if_neg (by decide), claimAnew_none heligible]

theorem atyFabricCfg_configures (h : Starts s true via p j s1) (hop : p.base = 0x0400) (hprofile : profileOne p = true)
    (hmod : (fabCfgOf p).1 ≤ 4094) (hup : (fabCfgOf p).2.2.1 < 16 ∨ (fabCfgOf p).2.2.1 = 0x1F) (hown : s1.ownMod = 0xFFF) :
    exec (.atyFabricCfg via p) s = .next ((((s1.beginJob true via j).fabConfigured (fabCfgOf p)).fabFollowed).finish via .done) := by
  refine (?_ : execAtyFabricCfg via p s = _)
  unfold execAtyFabricCfg
  generalize fabCfgOf p = c at *
  obtain ⟨m, prio, up, down, join⟩ := c
  refine congrArg Host.Outcome.next (runRow_runs h (by simp [hop]) ?_)
  have hrange : (decide (up < 16) || up == 0x1F) = true := by simpa using hup
  simp [firstFail, hprofile, hrange, hown, Nat.not_lt.mpr hmod]

theorem atyFabricCfg_ends (h : Starts s true via p j s1) (hop : p.base = 0x0400) (hprofile : profileOne p = true)
    (hmod : (fabCfgOf p).1 ≤ 4094) (hup : (fabCfgOf p).2.2.1 < 16 ∨ (fabCfgOf p).2.2.1 = 0x1F) (hown : s1.ownMod = 0xFFF)
    (hport : ∀ l, l < 16 → s1.portOf l < 18) (hstate : ∀ k, k < 18 → s1.portState k ∉ [pUp, pMiswired, pIsolated])
    (helect : s1.elect = eNone) (heligible : s1.fb Fld.ATY_FAB_STATUS_ELIGIBLE = false) :
    Ends (exec (.atyFabricCfg via p) s) via .done (fun u => u.rd Reg.ATY_FAB_CFG = fabCfgWord (fabCfgOf p) ∧
      u.fd Fld.ATY_FAB_STATUS_ADMIT = (if (fabCfgOf p).2.2.2.2 then 1 else 2) ∧ u.mem = s1.mem ∧ u.fab = s1.fab) := by
  have hexec := atyFabricCfg_configures h hop hprofile hmod hup hown
  have hports := samePorts_beginJob s1 via j
  obtain ⟨hfab, hmem, -, -⟩ := begun_shows s1 via j
  obtain ⟨hcfg, hadmit, hmem', hfab', helect', heligible', hstate', hport'⟩ :=
    fabConfigured_shows (s1.beginJob true via j) (fabCfgOf p) (fabCfgOf_lt p hmod hup)
  rw [fabFollowed_none] at hexec
  · exact ⟨_, hexec, hcfg, hadmit, hmem'.trans hmem, hfab'.trans hfab⟩
  · intro l hl
    rw [hport' l, hports.port l]
    exact hport l hl
  · intro k hk
    rw [hstate' k hk, hports.state k]
    exact hstate k hk
  · exact (helect'.trans ((beginJob_regsKeep s1 true via j).fd (f := Fld.ATY_FAB_STATUS_ELECT) (by decide))).trans helect
  · exact (heligible'.trans ((beginJob_regsKeep s1 true via j).fb (by decide))).trans heligible

/-! ## ATY_ROUTE_SET (09 R334, R335) -/

/-- Entries of the routing table written one after another. -/
def routesSet (k : Nat → Nat) (v : State → Nat → Nat) (s : State) (n : Nat) : State :=
  (List.range n).foldl (fun s i => s.wr (Reg.ATY_ROUTE (k i)) (v s i)) s

theorem routesSet_keeps (k : Nat → Nat) (v : State → Nat → Nat) (s : State) (n : Nat) :
    Keeps [.regs] s (routesSet k v s n) ∧ RegsKeep ((List.range n).map (Reg.addr ∘ Reg.ATY_ROUTE ∘ k)) s (routesSet k v s n) :=
  ⟨Keeps.foldl s fun u _ _ => keeps_wr u _ _, RegsKeep.foldl s fun u _ hi =>
    (regsKeep_wr u _ _).mono (List.cons_subset.mpr ⟨List.mem_map_of_mem (f := Reg.addr ∘ Reg.ATY_ROUTE ∘ k) hi, List.nil_subset _⟩)⟩

/-- The routing table lies apart from the module's number. -/
theorem ownMod_route (s : State) (k v : Nat) : (s.wr (Reg.ATY_ROUTE k) v).ownMod = s.ownMod :=
  fd_wr_ne s (Reg.ATY_ROUTE k) Fld.ATY_FAB_CFG_MOD_NUM v (show 0x2430000 ≠ 0x2434000 + 4 * k by omega)

theorem rd_routesSet {k : Nat → Nat} (hk : Function.Injective k) {v : State → Nat → Nat} {s : State}
    (hv : ∀ u : State, u.ownMod = s.ownMod → v u = v s) {i n : Nat} (hi : i < n) (hlt : v s i < 2 ^ 32) :
    (routesSet k v s n).rd (Reg.ATY_ROUTE (k i)) = v s i := by
  refine foldl_sets (P := fun u => u.ownMod = s.ownMod) (Q := fun u => u.rd (Reg.ATY_ROUTE (k i)) = v s i)
    (fun u b hu => (ownMod_route u _ _).trans hu) (fun u hu => ?_) (fun u b hb hu => ?_) (List.mem_range.mpr hi) rfl
  · rw [rd_wr_self _ _ _ (show 32 ≤ 64 by decide), hv u hu]
    exact Nat.mod_eq_of_lt hlt
  · refine (rd_wr_ne u _ _ _ ?_).trans hu
    have hne : k i ≠ k b := fun heq => hb (hk heq).symm
    simp only [Reg.ATY_ROUTE]
    omega

theorem routeEntry_lt (profile base count x own m : Nat) : routeEntry profile base count x own m < 2 ^ 32 := by
  have hentry : ∀ mask, mask < 2 ^ 16 → mask * 2 ^ 16 + mask < 2 ^ 32 := fun mask hmask => by omega
  unfold routeEntry
  split
  · decide
  · exact hentry _ (by dsimp only; split_ifs <;> decide)

/-- The checks that every ATY_ROUTE_SET in range passes. -/
theorem routeCheck_expert (hexpert : p.expert = true) (hcount : p.u16 18 ≠ 0) (hrange : p.u16 16 + p.u16 18 ≤ 4095) (m : Nat) :
    firstFail [
      ((p.u16 18 == 0 || decide (4095 < p.u16 16 + p.u16 18)) || (!p.expert && !(p.u8 63 == 1 || p.u8 63 == 2)) ||
        (!p.expert && p.u8 63 == 2 && (p.u8 20 == 0 || decide (64 < p.u8 20))), .param),
      (m == 0xFFF, .refuse 0x0404),
      (!p.expert && (decide (m < p.u16 16) || decide (p.u16 16 + p.u16 18 ≤ m)), .param)] =
      if m = 0xFFF then some (.refuse 0x0404) else none := by
  simp [firstFail, hexpert, hcount, hrange]

theorem atyRouteSet_loads (h : Starts s true via p j s1) (hop : p.base = 0x0401) (hexpert : p.expert = true) (hcount : p.u16 18 ≠ 0)
    (hrange : p.u16 16 + p.u16 18 ≤ 4095) (hown : s1.ownMod ≠ 0xFFF) {w : State} {bs : List Byte}
    (hload : (s1.beginJob true via j).hostLoad (p.u64 24) (4 * p.u16 18) = (w, some bs)) (hwaiting : w.fab.waiting = []) :
    exec (.atyRouteSet via p) s = .next ((routesSet (p.u16 16 + ·) (fun _ i => ofLE ((bs.drop (4 * i)).take 4)) w (p.u16 18)).finish
      via .done) := by
  refine congrArg Host.Outcome.next ((runRow_runs h (by simp [hop])
    ((routeCheck_expert hexpert hcount hrange s1.ownMod).trans (if_neg hown))).trans ?_)
  have hsame : (routesSet (p.u16 16 + ·) (fun _ i => ofLE ((bs.drop (4 * i)).take 4)) w (p.u16 18)).fab = w.fab :=
    (routesSet_keeps _ _ _ _).1 .fab (by decide)
  rw [if_pos hexpert, hload]
  exact congrArg (State.finish · via Ans.done) (routeWaiting_empty ((congrArg Fab.waiting hsame).trans hwaiting))

theorem atyRouteSet_refuses (h : Starts s true via p j s1) (hop : p.base = 0x0401) (hexpert : p.expert = true) (hcount : p.u16 18 ≠ 0)
    (hrange : p.u16 16 + p.u16 18 ≤ 4095) (hown : s1.ownMod = 0xFFF) :
    exec (.atyRouteSet via p) s = .next (s1.finish via (.refuse 0x0404)) :=
  congrArg Host.Outcome.next (runRow_refused h (by simp [hop])
    ((routeCheck_expert hexpert hcount hrange s1.ownMod).trans (if_pos hown)))

/-- The table of basic ATY_ROUTE_SET. -/
def routesOf (p : Packet) (s : State) (m : Nat) : Nat := routeEntry (p.u8 63) (p.u16 16) (p.u16 18) (p.u8 20) s.ownMod m

theorem routesSet_basic (p : Packet) (s : State) (n : Nat) :
    (List.range n).foldl (fun s m => s.wr (Reg.ATY_ROUTE m) (routeEntry (p.u8 63) (p.u16 16) (p.u16 18) (p.u8 20) s.ownMod m)) s =
      routesSet id (routesOf p) s n := rfl

theorem atyRouteSet_builds (h : Starts s true via p j s1) (hop : p.base = 0x0401) (hexpert : p.expert = false) (hcount : p.u16 18 ≠ 0)
    (hrange : p.u16 16 + p.u16 18 ≤ 4095) (hown : s1.ownMod ≠ 0xFFF)
    (hprofile : p.u8 63 = 1 ∨ (p.u8 63 = 2 ∧ p.u8 20 ≠ 0 ∧ p.u8 20 ≤ 64)) (hlow : p.u16 16 ≤ s1.ownMod)
    (hhigh : s1.ownMod < p.u16 16 + p.u16 18) (hwaiting : s1.fab.waiting = []) :
    exec (.atyRouteSet via p) s = .next ((routesSet id (routesOf p) (s1.beginJob true via j) 4095).finish via .done) := by
  refine congrArg Host.Outcome.next ((runRow_runs h (by simp [hop]) ?_).trans ?_)
  · have hbasic : ((!p.expert && !(p.u8 63 == 1 || p.u8 63 == 2)) ||
        (!p.expert && p.u8 63 == 2 && (p.u8 20 == 0 || decide (64 < p.u8 20)))) = false := by
      rcases hprofile with hone | ⟨htwo, hx, hx'⟩
      · simp [hone]
      · simp [htwo, hx, hx']
    rw [Bool.or_eq_false_iff] at hbasic
    obtain ⟨hprof, hcols⟩ := hbasic
    simp only [hprof, hcols]
    simp [firstFail, hcount, hown, Nat.not_lt.mpr hrange, Nat.not_lt.mpr hlow, Nat.not_le.mpr hhigh]
  · have hsame : (routesSet id (routesOf p) (s1.beginJob true via j) 4095).fab = s1.fab :=
      ((routesSet_keeps _ _ _ _).1 .fab (by decide)).trans (begun_shows s1 via j).1
    rw [if_neg (ne_true_of_eq_false hexpert), routesSet_basic]
    exact congrArg (State.finish · via Ans.done) (routeWaiting_empty ((congrArg Fab.waiting hsame).trans hwaiting))

/-! ## ATY_PORT_CTL (09 R330, R348) -/

theorem portRetrain_shows (s : State) (k : Nat) : (s.portRetrain k).portState k = pRetrain ∧ (s.portRetrain k).mem = s.mem := by
  let t := (s.setPort k pRetrain).bump (Reg.ATY_RETRAIN_CNT k) 1
  let u := t.portLost k
  let n := ((u.link (u.portLink k)).queue.filter (fun m => m.cls == 2 && !(u.routeLinks m.dest).isEmpty)).length
  have hlost : HandsOver t u := handsOver_portLost t k
  have hsent : LinkFrame anyGroup u (s.portRetrain k) :=
    (LinkFrame.pmuEvent u (g := 20 + k) trivial 0x124 n (some ⟨0, 2, none⟩)).trans (linkFrame_rerouteVc2 _ _)
  constructor
  · refine (hsent.portState k).trans ((hlost.portState k).trans ((fd_wr_ne _ _ (Fld.ATY_PORT_STATUS_STATE k) _ ?_).trans
      (portState_setPort_self s k (by decide))))
    simp [Fld.ATY_PORT_STATUS_STATE, Reg.ATY_PORT_STATUS, Reg.ATY_RETRAIN_CNT]
  · exact (hsent.parts .mem (by decide)).trans (hlost.mem.trans ((wr_mem _ _ _).trans (setPort_mem s k _)))

/-- A port that ATY_PORT_CTL disables. -/
def portDisabled (s : State) (k l : Nat) : State :=
  (((s.portDown k).dropQueues l).rerouteVc2 l).updLink l (fun x => { x with queue := [], off := true, draining := true, loop := false })

theorem portDisabled_shows (s : State) (k l : Nat) :
    let u := s.portDisabled k l
    u.portState k = pDown ∧ (u.link l).off = true ∧ (u.link l).draining = true ∧ u.mem = s.mem := by
  obtain ⟨hdown, -, hmem⟩ := portDown_shows s k
  rw [portDisabled]
  have hsent : LinkFrame anyGroup (s.portDown k) (((s.portDown k).dropQueues l).rerouteVc2 l) :=
    (linkFrame_dropQueues anyGroup _ l).trans (linkFrame_rerouteVc2 _ l)
  generalize ((s.portDown k).dropQueues l).rerouteVc2 l = t at *
  refine ⟨(fd_congr (updLink_regs _ _ _) _).trans ((hsent.portState k).trans hdown), ?_, ?_,
    (updLink_mem _ _ _).trans ((hsent.parts .mem (by decide)).trans hmem)⟩
  · rw [link_updLink_self]
  · rw [link_updLink_self]

/-- A port that ATY_PORT_CTL enables. -/
def portEnabled (s : State) (k l : Nat) : State := (s.updLink l (fun x => { x with off := false })).portTrain k false

theorem portEnabled_shows (s : State) (k l : Nat) :
    let u := s.portEnabled k l
    u.portState k = pTrain ∧ (u.link l).off = false ∧ u.mem = s.mem := by
  let t := s.updLink l (fun x => { x with off := false })
  have hoff : (t.link l).off = false := by rw [link_updLink_self]
  obtain ⟨htrain, hlink, hother, hkeeps, -⟩ := portTrain_shows t k false
  refine ⟨htrain, ?_, (hkeeps .mem (by decide)).trans (updLink_mem s _ _)⟩
  by_cases hl : l = t.portLink k
  · rw [← hl] at hlink
    exact (congrArg Link.off hlink).trans hoff
  · exact (congrArg Link.off (hother l hl)).trans hoff

/-- The checks of ATY_PORT_CTL on a module with a number: whether the port's state permits the action. -/
theorem portCtlCheck {permits : Bool} {m : Nat} (hprofile : profileOne p = true) (hl : p.u8 16 < 16) (hown : m ≠ 0xFFF)
    (haction : p.u8 17 = 0 ∨ p.u8 17 = 2 ∨ p.u8 17 = 1 ∧ p.expert = true) :
    firstFail [
      (!profileOne p || decide (15 < p.u8 16) || decide (3 < p.u8 17) || (!p.expert && p.u8 17 != 0 && p.u8 17 != 2), .param),
      (m == 0xFFF, .refuse 0x0404), (!permits, .err stsAtyLinkState)] = if permits then none else some (.err stsAtyLinkState) := by
  have hlink : ¬ 15 < p.u8 16 := by omega
  rcases haction with h | h | ⟨h, hexpert⟩
  · cases permits <;> simp [firstFail, hprofile, hlink, hown, h]
  · cases permits <;> simp [firstFail, hprofile, hlink, hown, h]
  · cases permits <;> simp [firstFail, hprofile, hlink, hown, h, hexpert]

/-- What ATY_PORT_CTL does, by its action. -/
def portCtl (s : State) (p : Packet) : State × Option Ans :=
  let k := s.portOf (p.u8 16)
  match p.u8 17 with
  | 0 => (s.portRetrain k, some .done)
  | 1 => (s.portDisabled k (p.u8 16), none)
  | 2 => (s.portEnabled k (p.u8 16), some .done)
  | _ => (s.retire 2 k, some .done)

theorem atyPortCtl_runs (h : Starts s true via p j s1) (hop : p.base = 0x0402) (hprofile : profileOne p = true) (hl : p.u8 16 < 16)
    (hown : s1.ownMod ≠ 0xFFF) (hexpect : p.expert = false ∨ bit (p.u8 18) 0 = false)
    (haction : p.u8 17 = 0 ∨ p.u8 17 = 2 ∨ p.u8 17 = 1 ∧ p.expert = true)
    (hpermits : s1.portPermits (s1.portOf (p.u8 16)) (p.u8 17) = true) :
    exec (.atyPortCtl via p) s = .next (rowEnd via ((s1.beginJob true via j).portCtl p)) := by
  have hkeep : (p.expert && bit (p.u8 18) 0) = false := by
    rcases hexpect with h | h <;> simp [h]
  refine congrArg Host.Outcome.next ((runRow_runs h (by simp [hop])
    ((portCtlCheck hprofile hl hown haction).trans (if_pos hpermits))).trans ?_)
  dsimp only
  rw [hkeep]
  rfl

theorem atyPortCtl_refused (h : Starts s true via p j s1) (hop : p.base = 0x0402) (hprofile : profileOne p = true) (hl : p.u8 16 < 16)
    (hown : s1.ownMod ≠ 0xFFF) (haction : p.u8 17 = 0 ∨ p.u8 17 = 2 ∨ p.u8 17 = 1 ∧ p.expert = true)
    (hpermits : s1.portPermits (s1.portOf (p.u8 16)) (p.u8 17) = false) :
    exec (.atyPortCtl via p) s = .next (s1.finish via (.err stsAtyLinkState)) :=
  congrArg Host.Outcome.next (runRow_refused h (by simp [hop])
    ((portCtlCheck hprofile hl hown haction).trans (if_neg (ne_true_of_eq_false hpermits))))

/-! ## ATY_BERT, ATY_JOB_BIND and ATY_ADMIT (09 R336, R342, R346) -/

theorem portTrain_bert (s : State) (k : Nat) (full : Bool) : (s.portTrain k full).fab.bert = s.fab.bert := by
  rw [portTrain, updLink_bert, setPort_fab]

/-- A bit-error test of this module on a link, with the maintenance token. -/
def bertTaken (s : State) (l pattern : Nat) : State :=
  let t := s.maintTake bertAct
  { t with fab := { t.fab with bert := t.fab.bert ++ [BertRun.mk l true pattern false] } }

theorem bertTrains_shows (s : State) (l pattern : Nat) :
    let u := (s.bertTaken l pattern).portTrain (s.portOf l) false
    u.ras = { s.ras with holders := s.ras.holders ++ [bertAct] } ∧ u.fab.bert = s.fab.bert ++ [⟨l, true, pattern, false⟩] ∧
      u.linkState l = pTrain ∧ u.mem = s.mem := by
  obtain ⟨htrain, -, -, hkeeps, hregs⟩ := portTrain_shows (s.bertTaken l pattern) (s.portOf l) false
  have hrd : ∀ r : Reg, r.addr % 0x10000 ≠ 0 → ((s.bertTaken l pattern).portTrain (s.portOf l) false).rd r = s.rd r := fun r hr => by
    refine (hregs.rd ?_).trans (rd_congr rfl r)
    simp only [Reg.ATY_PORT_STATUS, List.mem_singleton]
    omega
  refine ⟨hkeeps .ras (by decide), portTrain_bert _ _ _, ?_, hkeeps .mem (by decide)⟩
  rw [linkState, portOf_congr (hrd _ (by decide)) (hrd _ (by decide))]
  exact htrain

theorem atyBert_trains (h : Starts s true via p j s1) (hop : p.base = 0x0403) (hexpert : p.expert = true) (hl : p.u8 16 < 16)
    (hpattern : p.u8 17 ≤ 2) (hmin : 1 ≤ p.u32 20) (hmax : p.u32 20 ≤ 600000) (hown : s1.ownMod ≠ 0xFFF)
    (hstate : s1.linkState (p.u8 16) = pDown ∨ s1.linkState (p.u8 16) = pMiswired)
    (hretired : s1.portRetired (s1.portOf (p.u8 16)) = false) (htoken : s1.maintRefused bertAct = none) :
    exec (.atyBert via p) s = .next
      (((s1.beginJob true via j).bertTaken (p.u8 16) (p.u8 17)).portTrain ((s1.beginJob true via j).portOf (p.u8 16)) false) := by
  have hpermits : [pDown, pMiswired, pFailed].contains (s1.linkState (p.u8 16)) = true := by
    rcases hstate with hst | hst <;> rw [hst] <;> rfl
  have hlink : ¬ 15 < p.u8 16 := by omega
  have htime : p.u32 20 ≠ 0 := by omega
  have hprofile : profileOne p = true := by simp [profileOne, hexpert]
  refine congrArg Host.Outcome.next ((runRow_runs h (by simp [hop]) ?_).trans ?_)
  · rw [hpermits, hretired, htoken]
    simp [firstFail, hprofile, hlink, hpattern, htime, hmax, hown]
  · rw [if_pos hexpert]
    rfl

theorem atyJobBind_checks {idents : List (Nat × Nat)} (h : Starts s true via p j s1) (hop : p.base = 0x0404)
    (hprofile : profileOne p = true) (hcount : p.u16 24 ≠ 0) (hmax : p.u16 24 ≤ 4095) (hown : s1.ownMod ≠ 0xFFF)
    (hmaster : s1.fd Fld.ATY_FAB_STATUS_MASTER_MOD ≠ 0xFFF) {w : State} {bs : List Byte}
    (hload : (s1.beginJob true via j).hostLoad (p.u64 16) (2 * p.u16 24) = (w, some bs)) :
    let r := bindCheck w idents ((List.range (p.u16 24)).map (fun i => ofLE ((bs.drop (2 * i)).take 2)))
    exec (.atyJobBind via p idents) s = .next (r.1.finish via r.2) := by
  refine congrArg Host.Outcome.next ((runRow_runs h (by simp [hop]) ?_).trans ?_)
  · simp [firstFail, hprofile, hcount, hmax, hown, hmaster]
  · rw [hload]
    rfl

theorem bindCheck_own (s : State) (idents : List (Nat × Nat)) :
    bindCheck s idents [s.ownMod] =
      if !bit (s.statusWord 8) 31 then (s, ⟨Sts.refusedState, 0x0405, 0, s.ownMod, false⟩)
      else if bits (s.statusWord 8) 20 8 != s.fd Fld.ATY_FAB_STATUS_NUMERICS_LEVEL then
        (s, ⟨Sts.levelMismatch, s.ownMod, bits (s.statusWord 8) 20 8, 0, false⟩)
      else (s, .done) := by
  rw [bindCheck]
  dsimp only
  rw [if_pos rfl]
  rfl

theorem admitCheck {m mode : Nat} (hprofile : profileOne p = true) (hpartner : p.u16 16 ≤ 4094) :
    firstFail [(!profileOne p || decide (4094 < p.u16 16), .param), (m == 0xFFF, .refuse 0x0404), (mode != 1, .refuse 0x0406)] =
      if m = 0xFFF then some (.refuse 0x0404) else if mode = 1 then none else some (.refuse 0x0406) := by
  have hrange : ¬ 4094 < p.u16 16 := by omega
  by_cases hm : m = 0xFFF <;> by_cases ha : mode = 1 <;> simp [firstFail, hprofile, hrange, hm, ha]

/-- A partner that has not been polled yet. -/
def unpolled (s : State) : State := { s with fab := { s.fab with polled := false } }

theorem atyAdmit_waits (h : Starts s true via p j s1) (hop : p.base = 0x0405) (hprofile : profileOne p = true) (hpartner : p.u16 16 ≤ 4094)
    (hown : s1.ownMod ≠ 0xFFF) (hadmit : s1.fd Fld.ATY_FAB_STATUS_ADMIT = 1) :
    exec (.atyAdmit via p) s = .next (s1.beginJob true via j).unpolled :=
  congrArg Host.Outcome.next (runRow_runs h (by simp [hop])
    ((admitCheck hprofile hpartner).trans ((if_neg hown).trans (if_pos hadmit))))

theorem atyAdmit_refused (h : Starts s true via p j s1) (hop : p.base = 0x0405) (hprofile : profileOne p = true)
    (hpartner : p.u16 16 ≤ 4094) (hown : s1.ownMod = 0xFFF) :
    exec (.atyAdmit via p) s = .next (s1.finish via (.refuse 0x0404)) :=
  congrArg Host.Outcome.next (runRow_refused h (by simp [hop]) ((admitCheck hprofile hpartner).trans (if_pos hown)))

end

end Sys2Proof.Machine.State

namespace Sys2Proof

open Sys2Proof.Machine Sys2Proof.Machine.State Sys2Proof.Safety

/-- Settles O33: each fabric command starts, its checks pass or fail by the values given, and its effect is the one that its own lemma
states. -/
theorem fabricCommandsRun : Obligations.FabricCommandsRun := by
  unfold Obligations.FabricCommandsRun
  refine ⟨fun s via p j s1 h hop hprofile hmod hup hown hport hstate helect heligible =>
      atyFabricCfg_ends h hop hprofile hmod hup hown hport hstate helect heligible,
    ?routeLoad, ?routeBuild, ?portCtl, ?bert, ?bind, fun s idents => ⟨fun hready => ?bindNotReady, fun hready hlevel => ?bindReady⟩, ?admission,
    fun s via p j s1 h hop hprofile hpartner hown => atyAdmit_refused h hop hprofile hpartner hown,
    fun s via p j s1 h hop hexpert hcount hrange hown => atyRouteSet_refuses h hop hexpert hcount hrange hown⟩
  case routeLoad =>
    intro s via p j s1 h hop hexpert hcount hrange hown w bs hload hwaiting
    obtain ⟨hkeeps, hregs⟩ := routesSet_keeps (p.u16 16 + ·) (fun _ i => ofLE ((bs.drop (4 * i)).take 4)) w (p.u16 18)
    refine ⟨_, atyRouteSet_loads h hop hexpert hcount hrange hown hload hwaiting, hkeeps, hregs, fun i hi => ?_⟩
    refine rd_routesSet (add_right_injective _) (fun _ _ => rfl) hi ((ofLE_lt _).trans_le (Nat.pow_le_pow_right (by decide) ?_))
    have := List.length_take_le 4 (bs.drop (4 * i))
    omega
  case routeBuild =>
    intro s via p j s1 h hop hexpert hcount hrange hown hprofile hlow hhigh hwaiting
    refine ⟨_, atyRouteSet_builds h hop hexpert hcount hrange hown hprofile hlow hhigh hwaiting, (routesSet_keeps _ _ _ _).1,
      fun m hm => ?_⟩
    refine (rd_routesSet (k := id) (v := routesOf p) Function.injective_id (fun u hu => ?_) hm (routeEntry_lt _ _ _ _ _ _)).trans ?_
    · funext i
      rw [routesOf, hu, routesOf]
    · rw [routesOf, (samePorts_beginJob s1 via j).own]
  case portCtl =>
    intro s via p j s1 h hop hprofile hl hown hport hexpect
    obtain ⟨-, hmem, -, -⟩ := begun_shows s1 via j
    have hsame := (samePorts_beginJob s1 via j).port (p.u8 16)
    refine ⟨fun haction hup => ?_, fun haction hexpert hstate => ?_, fun haction hstate hretired => ?_, fun haction hup => ?_⟩
    · obtain ⟨hretrain, hmem'⟩ := portRetrain_shows (s1.beginJob true via j) (s1.portOf (p.u8 16))
      have hruns := atyPortCtl_runs h hop hprofile hl hown hexpect (.inl haction) (by simp [portPermits, haction, hup])
      rw [portCtl, haction, hsame] at hruns
      exact ⟨_, hruns, hretrain, hmem'.trans hmem⟩
    · obtain ⟨hdown, hoff, hdraining, hmem'⟩ := portDisabled_shows (s1.beginJob true via j) (s1.portOf (p.u8 16)) (p.u8 16)
      have hruns := atyPortCtl_runs h hop hprofile hl hown hexpect (.inr (.inr ⟨haction, hexpert⟩))
        (by simpa [portPermits, haction] using hstate)
      rw [portCtl, haction, hsame] at hruns
      exact ⟨_, hruns, hdown, hoff, hdraining, hmem'.trans hmem⟩
    · obtain ⟨htrain, hon, hmem'⟩ := portEnabled_shows (s1.beginJob true via j) (s1.portOf (p.u8 16)) (p.u8 16)
      have hruns := atyPortCtl_runs h hop hprofile hl hown hexpect (.inr (.inl haction))
        (by simpa [portPermits, haction, hretired] using hstate)
      rw [portCtl, haction, hsame] at hruns
      exact ⟨_, hruns, htrain, hon, hmem'.trans hmem⟩
    · exact atyPortCtl_refused h hop hprofile hl hown (.inl haction) (by simpa [portPermits, haction] using hup)
  case bert =>
    intro s via p j s1 h hop hexpert hl hpattern hmin hmax hown hstate hport hretired htoken
    obtain ⟨hfab, hmem, hras, -⟩ := begun_shows s1 via j
    obtain ⟨hras', hbert, htrain, hmem'⟩ := bertTrains_shows (s1.beginJob true via j) (p.u8 16) (p.u8 17)
    rw [hras] at hras'
    rw [hfab] at hbert
    exact ⟨_, atyBert_trains h hop hexpert hl hpattern hmin hmax hown hstate hretired htoken, hras', hbert, htrain, hmem'.trans hmem⟩
  case bind =>
    intro s via p j s1 idents h hop hprofile hcount hmax hown hmaster w bs hload
    exact ⟨_, atyJobBind_checks h hop hprofile hcount hmax hown hmaster hload, rfl⟩
  case bindNotReady => rw [bindCheck_own, hready, if_pos (by decide)]
  case bindReady => rw [bindCheck_own, hready, if_neg (by decide), hlevel, if_neg (by simp)]
  case admission =>
    intro s via p j s1 h hop hprofile hpartner hown hadmit
    obtain ⟨hfab, -, -, -⟩ := begun_shows s1 via j
    refine ⟨_, atyAdmit_waits h hop hprofile hpartner hown hadmit, keeps_withFab _ _, ?_⟩
    rw [unpolled, hfab]

end Sys2Proof
end

section
/-! The serving engine's rows and requests (for O34 to O36): how a row goes on, what a command that begins leaves, and live requests after one
of them has changed. -/

namespace Sys2Proof.Safety

open Sys2Proof.Machine

theorem keeps_withSrv (s : State) (x : Srv) : Keeps [.srv] s { s with srv := x } := by
  intro p hp
  cases p
  case srv => simp at hp
  all_goals rfl

end Sys2Proof.Safety

namespace Sys2Proof.Machine.State

open Sys2Proof.Safety

/-! ## Rows (02 R60) -/

section
variable {s s1 u : State} {via : Via} {p : Packet} {j : Job} {mine : Bool} {check : State → Option Ans} {act : State → State × Option Ans}
  {a : Ans}

/-- A row that starts and answers ends with its answer. -/
theorem runRow_ends (h : Starts s true via p j s1) (hmine : mine = true) (hcheck : check s1 = none)
    (hact : act (s1.beginJob true via j) = (u, some a)) : s.runRow via p mine check act = u.finish via a := by
  rw [runRow_runs h hmine hcheck, hact, rowEnd]

/-- A row that starts without an answer stays in progress, or has left its path. -/
theorem runRow_goesOn (h : Starts s true via p j s1) (hmine : mine = true) (hcheck : check s1 = none)
    (hact : act (s1.beginJob true via j) = (u, none)) : s.runRow via p mine check act = u := by
  rw [runRow_runs h hmine hcheck, hact, rowEnd]

end

/-! ## What a command that begins leaves -/

@[simp] theorem srv_beginJob (s : State) (timed : Bool) (via : Via) (j : Job) : (s.beginJob timed via j).srv = s.srv :=
  keeps_beginJob s timed via j .srv (by decide)

theorem jobOf_congr {s t : State} (hmcc : t.mcc = s.mcc) (heng : t.eng = s.eng) (via : Via) : t.jobOf via = s.jobOf via := by
  cases via with
  | mcc => rw [jobOf, hmcc, jobOf]
  | ring n => rw [jobOf, engOf, heng, jobOf, engOf]

/-- The path's command in progress is the one that has just begun. -/
@[simp] theorem jobOf_beginJob (s : State) (timed : Bool) (via : Via) (j : Job) :
    (s.beginJob timed via j).jobOf via = some { j with begun := true } := by
  have hmark : (s.setJob via { j with begun := true }).jobOf via = some { j with begun := true } := by
    cases via with
    | mcc => rfl
    | ring n => rw [jobOf, setJob, engOf_setEng_self]
  have hlogged := fun p => keeps_trouble (s.setJob via { j with begun := true }) 0x0180 0
    ((s.setJob via { j with begun := true }).viaIsland via) 0 p
  simp only [beginJob]
  split
  · exact (jobOf_congr (hlogged _ .mcc (by decide)) (hlogged _ .eng (by decide)) via).trans hmark
  · exact hmark

/-! ## Live requests (10 Table 10-4) -/

theorem srvReq_congr {s t : State} (h : t.srv = s.srv) (n id : Nat) : t.srvReq n id = s.srvReq n id := by rw [srvReq, h, srvReq]

/-- A live request has the ring and the REQ_ID under which it is found. -/
theorem srvReq_some {s : State} {n id : Nat} {r : SrvReq} (h : s.srvReq n id = some r) :
    r.ring = n ∧ r.id = id ∧ r.st ≠ 4 ∧ r ∈ s.srv.reqs := by
  have hfound := List.find?_some h
  simp only [Bool.and_eq_true, beq_iff_eq, bne_iff_ne, ne_eq, and_assoc] at hfound
  obtain ⟨hring, hid, hlive⟩ := hfound
  exact ⟨hring, hid, hlive, List.mem_of_find?_eq_some h⟩

/-- A live request changed, but for its ring, its REQ_ID and whether it lives, is found changed. -/
theorem srvReq_updReq {s : State} {n id : Nat} {r : SrvReq} {f : SrvReq → SrvReq} (h : s.srvReq n id = some r)
    (hf : ∀ x, (f x).ring = x.ring ∧ (f x).id = x.id ∧ (f x).st = x.st) : (s.updReq n id f).srvReq n id = some (f r) := by
  obtain ⟨hring, hid, hlive, -⟩ := srvReq_some h
  have hsame : ((fun x : SrvReq => x.ring == n && x.id == id && x.st != 4) ∘ fun x => if x.ring = n ∧ x.id = id ∧ x.st ≠ 4 then f x else x) =
      fun x => x.ring == n && x.id == id && x.st != 4 := by
    funext x
    obtain ⟨hfring, hfid, hfst⟩ := hf x
    simp only [Function.comp]
    split
    · rw [hfring, hfid, hfst]
    · rfl
  rw [srvReq] at h
  rw [srvReq, updReq, List.find?_map, hsame, h, Option.map_some, if_pos ⟨hring, hid, hlive⟩]

/-- A live request that is DONE is live no longer. -/
theorem srvReq_updReq_done (s : State) (n id : Nat) {f : SrvReq → SrvReq} (hf : ∀ x, (f x).st = 4) :
    (s.updReq n id f).srvReq n id = none := by
  simp only [srvReq, updReq, List.find?_eq_none, List.mem_map]
  rintro _ ⟨x, -, rfl⟩
  split
  · simp [hf]
  · rename_i hother
    simpa using hother

theorem keeps_updReq (s : State) (n id : Nat) (f : SrvReq → SrvReq) : Keeps [.srv] s (s.updReq n id f) := keeps_withSrv s _

end Sys2Proof.Machine.State
end

section
/-! Serving requests (O34): submissions, cancels, extensions, queries, and packets fetched from a serving ring. -/

namespace Sys2Proof.Machine.State

open Sys2Proof.Safety

/-! ## Submissions (10 R358, R359, R388) -/

theorem submitReq_congr {s t : State} (h : t.srv = s.srv) (n : Nat) (j : Job) : t.submitReq n j = s.submitReq n j := by
  simp only [submitReq, h]

/-- A submission's request queued, and the ring's unit free. -/
def submitted (s : State) (n : Nat) (j : Job) : State :=
  ({ s with srv := { s.srv with reqs := s.srv.reqs ++ [s.submitReq n j] } } : State).setEng n { s.engOf n with cur := none }

theorem submit_queues {s : State} {n : Nat} {j : Job} (hcur : s.jobOf (.ring n) = some j) : s.submit n = (s.submitted n j).startNext n := by
  have hcur : (s.engOf n).cur = some j := hcur
  rw [submit, hcur]
  rfl

theorem keeps_submitted (s : State) (n : Nat) (j : Job) : Keeps [.srv, .eng] s (s.submitted n j) :=
  ((keeps_withSrv s _).mono (by simp)).trans ((keeps_setEng _ _ _).mono (by simp))

/-- The two rows of a submission, native and compatibility. -/
def submitRows : List (Nat × (Via → Packet → Instr)) := [(0x0500, Instr.srvSubmit), (0x0510, .srvSubmit3320)]

theorem exec_submitRow {base : Nat} {mk : Via → Packet → Instr} (hmk : (base, mk) ∈ submitRows) (via : Via) (p : Packet) (s : State) :
    exec (mk via p) s = .next (s.submitRow via p base) := by
  simp only [submitRows, List.mem_cons, Prod.mk.injEq, List.not_mem_nil, or_false] at hmk
  obtain ⟨rfl, rfl⟩ | ⟨rfl, rfl⟩ := hmk <;> rfl

section
variable {s s1 : State} {via : Via} {p : Packet} {j : Job} {n : Nat} {r : SrvReq} {g : SrvPlan}

theorem submitRow_queues {base : Nat} (h : Starts s true (.ring n) p j s1) (hop : p.base = base) (hn : isServing n = true)
    (hcheck : s1.submitCheck n p = none) :
    s.submitRow (.ring n) p base = ((s1.beginJob true (.ring n) j).submitted n { j with begun := true }).startNext n :=
  runRow_goesOn h (by simp [hop, hn]) hcheck (by rw [submit_queues (jobOf_beginJob s1 true (.ring n) j)])

theorem submitRow_fails {base : Nat} {a : Ans} (h : Starts s true (.ring n) p j s1) (hop : p.base = base) (hn : isServing n = true)
    (hcheck : s1.submitCheck n p = some a) : s.submitRow (.ring n) p base = s1.finish (.ring n) a :=
  runRow_refused h (by simp [hop, hn]) hcheck

theorem submitted_shows (s1 : State) (n : Nat) (j : Job) :
    let w := (s1.beginJob true (.ring n) j).submitted n { j with begun := true }
    w.srv = { s1.srv with reqs := s1.srv.reqs ++ [s1.submitReq n { j with begun := true }] } ∧ (w.engOf n).cur = none := by
  have hsrv := srv_beginJob s1 true (.ring n) j
  refine ⟨?_, by rw [submitted, engOf_setEng_self]⟩
  rw [submitted, setEng_srv, submitReq_congr hsrv, hsrv]

/-! ## Cancels (10 R379) -/

/-- A cancel noted for the next boundary. -/
def cancelNoted (s : State) (n id : Nat) (j : Job) : State := { s with srv := { s.srv with cancels := s.srv.cancels ++ [(n, id, j)] } }

theorem cancelCheck_live (hn : isServing n = true) (hlive : (s1.srvReq n (p.u32 16)).isSome = true) :
    firstFail [(!isServing n, .param), ((s1.srvReq n (p.u32 16)).isNone, .err 0x0506)] = none := by
  simp [firstFail, hn, Option.isNone_eq_false_iff.mpr hlive]

theorem srvCancel_mcc (h : Starts s true .mcc p j s1) (hop : p.base = 0x0501) (hn : isServing (p.u16 20) = true)
    (hlive : (s1.srvReq (p.u16 20) (p.u32 16)).isSome = true) :
    exec (.srvCancel .mcc p) s =
      .next (((s1.beginJob true .mcc j).cancelNoted (p.u16 20) (p.u32 16) { j with begun := true }).finish .mcc .done) :=
  congrArg Host.Outcome.next (runRow_ends h (by simp [hop]) (cancelCheck_live hn hlive) (by rw [jobOf_beginJob]; rfl))

theorem srvCancel_mcc_none (h : Starts s true .mcc p j s1) (hop : p.base = 0x0501) (hn : isServing (p.u16 20) = true)
    (hnone : s1.srvReq (p.u16 20) (p.u32 16) = none) : exec (.srvCancel .mcc p) s = .next (s1.finish .mcc (.err 0x0506)) :=
  congrArg Host.Outcome.next (runRow_refused h (by simp [hop]) (by simp [firstFail, pRing, hn, hnone]))

/-- A cancel on a ring leaves the ring's unit, to be answered at the boundary. -/
def cancelLeft (s : State) (n id : Nat) (j : Job) : State :=
  (s.cancelNoted n id j).setEng n { (s.cancelNoted n id j).engOf n with cur := none }

theorem srvCancel_ring (h : Starts s true (.ring n) p j s1) (hop : p.base = 0x0501) (hn : isServing n = true)
    (hlive : (s1.srvReq n (p.u32 16)).isSome = true) :
    exec (.srvCancel (.ring n) p) s =
      .next (((s1.beginJob true (.ring n) j).cancelLeft n (p.u32 16) { j with begun := true }).startNext n) :=
  congrArg Host.Outcome.next (runRow_goesOn h (by simp [hop]) (cancelCheck_live hn hlive) (by rw [jobOf_beginJob]; rfl))

theorem keeps_cancelLeft (s : State) (n id : Nat) (j : Job) : Keeps [.srv, .eng] s (s.cancelLeft n id j) :=
  ((keeps_withSrv s _).mono (by simp)).trans ((keeps_setEng _ _ _).mono (by simp))

/-! ## Extensions (10 R380) -/

/-- MAX_NEW of a live request raised. -/
def maxNewRaised (s : State) (n id add : Nat) : State := s.updReq n id (fun r => { r with maxNew := r.maxNew + add })

/-- A request without a sequence is extended in its MAX_NEW alone. -/
theorem extend_unheld (hreq : s.srvReq n (p.u32 16) = some r) (hplan : s.srv.plan = some g) (hseq : r.seq = none)
    (hfit : r.len + p.u32 24 ≤ g.maxTok) : s.extend n p = .ok (s.maxNewRaised n (p.u32 16) (p.u32 24)) := by
  obtain ⟨hring, hid, -, -⟩ := srvReq_some hreq
  simp only [extend, hreq, hplan, hseq, Nat.not_lt.mpr hfit, hring, hid, maxNewRaised, Option.bind_none, if_false]

theorem extend_long (hreq : s.srvReq n (p.u32 16) = some r) (hplan : s.srv.plan = some g) (hlong : g.maxTok < r.len + p.u32 24) :
    s.extend n p = .error (.err 0x0501) := by
  simp only [extend, hreq, hplan, hlong, if_true]

theorem extendCheck (hexpert : p.expert = true) (hn : isServing n = true) :
    firstFail [(!isServing n || (!p.expert && p.u8 28 != 0), .param)] = none := by
  simp [firstFail, hn, hexpert]

theorem srvExtend_raises (h : Starts s true via p j s1) (hop : p.base = 0x0502) (hexpert : p.expert = true)
    (hn : isServing (p.u16 20) = true) (hreq : s1.srvReq (p.u16 20) (p.u32 16) = some r) (hplan : s1.srv.plan = some g)
    (hseq : r.seq = none) (hfit : r.len + p.u32 24 ≤ g.maxTok) :
    exec (.srvExtend via p) s =
      .next (((s1.beginJob true via j).maxNewRaised (p.u16 20) (p.u32 16) (p.u32 24)).finish via .done) := by
  have hsrv := srv_beginJob s1 true via j
  refine congrArg Host.Outcome.next (runRow_ends h (by simp [hop]) ?_ ?_)
  · rw [extendCheck hexpert hn, extend_unheld hreq hplan hseq hfit]
    rfl
  · rw [extend_unheld ((srvReq_congr hsrv _ _).trans hreq) (by rw [hsrv, hplan]) hseq hfit]

theorem srvExtend_long (h : Starts s true via p j s1) (hop : p.base = 0x0502) (hexpert : p.expert = true)
    (hn : isServing (p.u16 20) = true) (hreq : s1.srvReq (p.u16 20) (p.u32 16) = some r) (hplan : s1.srv.plan = some g)
    (hlong : g.maxTok < r.len + p.u32 24) : exec (.srvExtend via p) s = .next (s1.finish via (.err 0x0501)) :=
  congrArg Host.Outcome.next (runRow_refused h (by simp [hop]) (by rw [extendCheck hexpert hn, extend_long hreq hplan hlong]; rfl))

/-! ## Queries (10 R386, Table 10-6) -/

theorem metrics_congr {t : State} (h : t.srv = s.srv) (r : SrvReq) : t.metrics r = s.metrics r := by
  simp only [metrics, srvNonrepro, h]

theorem srvMetricsOf_congr {t : State} (hsrv : t.srv = s.srv) (hcount : t.rd Reg.SRV_STEP_CNT = s.rd Reg.SRV_STEP_CNT) (n id : Nat) :
    t.srvMetricsOf n id = s.srvMetricsOf n id := by
  rw [srvMetricsOf, srvReq_congr hsrv, hsrv, hcount, srvMetricsOf]

theorem srvQuery_stores {w : State} (h : Starts s true via p j s1) (hop : p.base = 0x0503) (hn : isServing (p.u16 20) = true)
    (hrec : s1.srvMetricsOf (p.u16 20) (p.u32 16) = some r) (hrun : s1.runCheck mccUnit (p.u64 24) 64 opStore = none)
    (hput : (s1.beginJob true via j).putGlobal mccUnit (p.u64 24) (s1.metrics r) = (w, none)) :
    exec (.srvQuery via p) s = .next (w.finish via .done) := by
  have hsrv := srv_beginJob s1 true via j
  refine congrArg Host.Outcome.next (runRow_ends h (by simp [hop]) ?_ ?_)
  · simp [firstFail, hn, hrec, hrun]
  · rw [srvMetricsOf_congr hsrv ((beginJob_regsKeep s1 true via j).rd (by decide)), hrec]
    simp only [metrics_congr hsrv, hput]

theorem length_metrics (s : State) (r : SrvReq) : (s.metrics r).length = 64 := by
  simp only [metrics, List.length_append, length_leBytes]

/-- The state of a request stands in byte 50 of its record. -/
theorem metrics_state (s : State) (r : SrvReq) : ((s.metrics r)[50]?).map BitVec.toNat = some (r.st % 256) := by
  simp [metrics, leBytes]

/-! ## Fetches (10 R360) -/

theorem servingPacketFetch_takes {seen : Seen} (hn : isServing n = true) (hmay : s.mayFetch n = true) (hconf : s.conf = false)
    (heng : s.engOf n = Engine.idle) (hseen : seen ≠ .ue) :
    exec (.servingPacketFetch n seen) s = .next (s.fetched n (s.ringHead n) [s.headPacket n]) := by
  have hlt : n < 128 := by
    simp only [isServing, Bool.and_eq_true, decide_eq_true_eq] at hn
    exact hn.2
  have hrow : exec (.servingPacketFetch n seen) s = .next (s.ringFetch n seen) := congrArg Host.Outcome.next (if_pos hn)
  rw [hrow, ← exec_packetFetch hlt, packetFetch_takes hlt hmay hconf heng hseen]

end

end Sys2Proof.Machine.State

namespace Sys2Proof

open Sys2Proof.Machine Sys2Proof.Machine.State Sys2Proof.Safety

/-- Settles O34: each row starts on the engine's state as its checks saw it, and changes the requests or the cancels that wait. -/
theorem servingRequestsRun : Obligations.ServingRequestsRun := by
  unfold Obligations.ServingRequestsRun
  refine ⟨?submit, ?cancelMcc, ?cancelRing, ?extend, fun s via p j s1 r h hop hn hrec hrun w hput => srvQuery_stores h hop hn hrec hrun hput,
    fun s r => ⟨length_metrics s r, metrics_state s r⟩,
    fun s n seen hn hmay hconf heng hseen => servingPacketFetch_takes hn hmay hconf heng hseen⟩
  case submit =>
    intro base mk hmk s n p j s1 h hop hn
    refine ⟨fun hcheck => ?_, fun a hcheck => ?_⟩
    · obtain ⟨hsrv, hfree⟩ := submitted_shows s1 n j
      exact ⟨_, (exec_submitRow hmk _ p s).trans (congrArg _ (submitRow_queues h hop hn hcheck)), hsrv, hfree, keeps_submitted _ n _⟩
    · exact (exec_submitRow hmk _ p s).trans (congrArg _ (submitRow_fails h hop hn hcheck))
  case cancelMcc =>
    intro s p j s1 h hop hn
    refine ⟨fun hlive => ⟨_, srvCancel_mcc h hop hn hlive, keeps_withSrv _ _, ?_⟩, srvCancel_mcc_none h hop hn⟩
    rw [cancelNoted, srv_beginJob]
  case cancelRing =>
    intro s n p j s1 h hop hn hlive
    refine ⟨_, srvCancel_ring h hop hn hlive, ?_, ?_, keeps_cancelLeft _ n _ _⟩
    · rw [cancelLeft, setEng_srv, cancelNoted, srv_beginJob]
    · rw [cancelLeft, engOf_setEng_self]
  case extend =>
    intro s via p j s1 r g h hop hexpert hn hreq hplan hseq
    refine ⟨fun hfit => ⟨_, srvExtend_raises h hop hexpert hn hreq hplan hseq hfit, keeps_updReq _ _ _ _, ?_⟩,
      srvExtend_long h hop hexpert hn hreq hplan⟩
    exact srvReq_updReq ((srvReq_congr (srv_beginJob s1 true via j) _ _).trans hreq) fun _ => ⟨rfl, rfl, rfl⟩

end Sys2Proof
end

section
/-! The engine's commands (O35): start and stop, rings, accounts, sampler profiles, fitch images, and SRV_STEP_MAX_NS read. -/

namespace Sys2Proof.Machine.State

open Sys2Proof.Safety

section
variable {s s1 w : State} {via : Via} {p : Packet} {j : Job} {far : List Host.Cell} {ue : Option Nat} {g : SrvPlan} {a : Ans}

/-! ## Start (10 R350, R351, R394) -/

/-- The engine's counts and misses at their reset values. -/
def srvRegsReset (s : State) : State :=
  (List.range 64).foldl (fun s r => ((s.regReset (Reg.SRV_RING_TTFT_MISS r)).regReset (Reg.SRV_RING_TBT_MISS r)).regReset (Reg.SRV_RING_STALL r))
    (s.regsReset 0x900000 0x2000)

theorem srvRegsReset_shows (s : State) : Keeps [.regs] s s.srvRegsReset ∧ s.srvRegsReset.rd Reg.SRV_STEP_CNT = 0 := by
  have hcleared : (s.regsReset 0x900000 0x2000).rd Reg.SRV_STEP_CNT = 0 :=
    congrArg BitVec.toNat (Cells.get_clearRange_inside _ (show 0x900000 ≤ 0x900008 by decide) (by decide) s.regs)
  have hother : ∀ (u : State) (r : Reg), 0x902000 ≤ r.addr → (u.regReset r).rd Reg.SRV_STEP_CNT = u.rd Reg.SRV_STEP_CNT := fun u r hr =>
    (regsKeep_regReset u r).rd (by
      simp only [Reg.SRV_STEP_CNT, List.mem_singleton]
      omega)
  refine ⟨(keeps_regsReset s _ _).trans (Keeps.foldl _ fun u r _ =>
    ((keeps_regReset u _).trans (keeps_regReset _ _)).trans (keeps_regReset _ _)), ?_⟩
  refine List.foldlRecOn (motive := fun u : State => u.rd Reg.SRV_STEP_CNT = 0) _ _ hcleared fun u hu r _ => ?_
  rw [hother, hother, hother, hu] <;> simp only [Reg.SRV_RING_TTFT_MISS, Reg.SRV_RING_TBT_MISS, Reg.SRV_RING_STALL] <;> omega

/-- The engine's state when it starts on a plan. -/
def srvOfPlan (s : State) (g : SrvPlan) : Srv :=
  { Srv.stopped with plan := some g, fitches := s.srv.fitches, rings := s.srv.rings, boundary := s.now,
                     tileMask := g.tileMask, seqBase := g.seqBase, seqCount := g.seqCount }

/-- The engine's registers reset and the plan in force. -/
def planLoaded (s : State) (g : SrvPlan) : State := { s.srvRegsReset with srv := s.srvRegsReset.srvOfPlan g }

theorem srvStart_eq (s : State) (g : SrvPlan) :
    s.srvStart g = ((s.planLoaded g).fw Fld.SRV_STATUS_STATE 1).fbw Fld.SRV_STATUS_REPRO g.repro := rfl

theorem planLoaded_shows (s : State) (g : SrvPlan) :
    (s.planLoaded g).srv.fitches = s.srv.fitches ∧ (s.planLoaded g).rd Reg.SRV_STEP_CNT = 0 ∧ Keeps [.regs, .srv] s (s.planLoaded g) := by
  obtain ⟨hreset, hcount⟩ := s.srvRegsReset_shows
  rw [planLoaded]
  generalize s.srvRegsReset = u at hreset hcount
  have hsrv : u.srv = s.srv := hreset .srv (by decide)
  exact ⟨(congrArg Srv.fitches hsrv :), hcount, (hreset.mono (by simp)).trans ((keeps_withSrv u _).mono (by simp))⟩

theorem srvStart_shows (s : State) (g : SrvPlan) :
    (s.srvStart g).srvState = 1 ∧ (s.srvStart g).srv = (s.planLoaded g).srv ∧ (s.srvStart g).rd Reg.SRV_STEP_CNT = 0 ∧
      Keeps [.regs, .srv] s (s.srvStart g) := by
  obtain ⟨-, hcount, hkeeps⟩ := s.planLoaded_shows g
  rw [srvStart_eq]
  generalize s.planLoaded g = u at hcount hkeeps
  refine ⟨?_, rfl, ?_, hkeeps.trans (((keeps_fw u _ _).trans (keeps_fw _ _ _)).mono (by simp))⟩
  · rw [srvState, fbw, fd_fw_apart _ Fld.SRV_STATUS_REPRO Fld.SRV_STATUS_STATE _ rfl (by decide) (by decide) (by decide)]
    exact fd_fw_self _ _ _ (by decide) (by decide)
  · rw [fbw, rd_fw_ne _ _ _ _ (by decide), rd_fw_ne _ _ _ _ (by decide), hcount]

theorem srvEngineStart_starts (h : Starts s true via p j s1) (hop : p.base = 0x0520)
    (hcheck : (s1.beginJob true via j).startCheck p far ue = (w, .ok g)) :
    exec (.srvEngineStart via p far ue) s = .next ((w.srvStart g).finish via .done) :=
  congrArg Host.Outcome.next (runRow_ends h (by simp [hop]) rfl (by rw [hcheck]))

theorem srvEngineStart_fails (h : Starts s true via p j s1) (hop : p.base = 0x0520)
    (hcheck : (s1.beginJob true via j).startCheck p far ue = (w, .error a)) :
    exec (.srvEngineStart via p far ue) s = .next (w.finish via a) :=
  congrArg Host.Outcome.next (runRow_ends h (by simp [hop]) rfl (by rw [hcheck]))

/-! ## Stop (10 R384) -/

/-- A stop asked for: STOPPING, with its mode and DETAIL. -/
def stopAsked (s : State) (mode : Nat) : State :=
  ({ s with srv := { s.srv with stop := some (mode, 1) } } : State).fw Fld.SRV_STATUS_STATE 2

theorem stopAsked_shows (s : State) (mode : Nat) :
    (s.stopAsked mode).srvState = 2 ∧ (s.stopAsked mode).srv = { s.srv with stop := some (mode, 1) } ∧
      Keeps [.regs, .srv] s (s.stopAsked mode) :=
  ⟨fd_fw_self _ _ _ (by decide) (by decide), rfl, ((keeps_withSrv s _).mono (by simp)).trans ((keeps_fw _ _ _).mono (by simp))⟩

theorem srvStopReady_stopAsked (s : State) (mode : Nat) : (s.stopAsked mode).srvStopReady = s.srv.reqs.all (fun r => r.st == 4) := rfl

/-- The engine STOPPED without an owned sequence to close. -/
theorem srvHalted_shows (s : State) (hnone : ∀ e ∈ s.crl.seqs, s.srvOwnsSeq e.1 = false) :
    s.srvHalted.srvState = 0 ∧ s.srvHalted.srv.plan = none ∧ s.srvHalted.srv.tileMask = 0 ∧ s.srvHalted.srv.reqs = s.srv.reqs := by
  have hopen : s.srvCloseSeqs = s := by
    rw [srvCloseSeqs, List.filter_eq_nil_iff.mpr fun e he => by simp [hnone e he], List.foldl_nil]
  rw [srvHalted, hopen]
  exact ⟨fd_fw_self _ _ _ (by decide) (by decide), rfl, rfl, rfl⟩

/-- The stop's mode, where it is in range. -/
theorem stopCheck_running (hmode : p.u8 16 ≤ 1) (hstate : s1.srvState = 1) :
    firstFail [(decide (1 < p.u8 16), .param), (s1.srvState != 1, .refuse 0x0501)] = none := by
  simp [firstFail, hstate, hmode]

theorem srvEngineStop_stops (h : Starts s true via p j s1) (hop : p.base = 0x0521) (hexpert : p.expert = true) (hmode : p.u8 16 ≤ 1)
    (hstate : s1.srvState = 1) (hdone : ∀ r ∈ s1.srv.reqs, r.st = 4) :
    exec (.srvEngineStop via p) s = .next (((s1.beginJob true via j).stopAsked (p.u8 16)).srvHalted.finish via .done) := by
  have hready : ((s1.beginJob true via j).stopAsked (p.u8 16)).srvStopReady = true := by
    simpa [srvStopReady_stopAsked] using hdone
  refine congrArg Host.Outcome.next (runRow_ends h (by simp [hop]) ?_ ?_)
  · simp only [hexpert, if_true]
    exact stopCheck_running hmode hstate
  · simp only [hexpert, if_true]
    exact if_pos hready

theorem srvEngineStop_waits (h : Starts s true via p j s1) (hop : p.base = 0x0521) (hexpert : p.expert = true) (hmode : p.u8 16 ≤ 1)
    (hstate : s1.srvState = 1) (hlive : ∃ r ∈ s1.srv.reqs, r.st ≠ 4) :
    exec (.srvEngineStop via p) s = .next ((s1.beginJob true via j).stopAsked (p.u8 16)) := by
  have hwaits : ((s1.beginJob true via j).stopAsked (p.u8 16)).srvStopReady = false := by
    simpa [srvStopReady_stopAsked] using hlive
  refine congrArg Host.Outcome.next (runRow_goesOn h (by simp [hop]) ?_ ?_)
  · simp only [hexpert, if_true]
    exact stopCheck_running hmode hstate
  · simp only [hexpert, if_true]
    exact if_neg (Bool.eq_false_iff.mp hwaits)

theorem srvEngineStop_refused (h : Starts s true via p j s1) (hop : p.base = 0x0521) (hexpert : p.expert = true) (hmode : p.u8 16 ≤ 1)
    (hstate : s1.srvState ≠ 1) : exec (.srvEngineStop via p) s = .next (s1.finish via (.refuse 0x0501)) :=
  congrArg Host.Outcome.next (runRow_refused h (by simp [hop]) (by simp [firstFail, hexpert, hmode, hstate]))

/-! ## Serving rings (10 R353, R387) -/

/-- HEADROOM and QUEUE_TIMEOUT_MS of a ring kept. -/
def ringKept (s : State) (n headroom timeout : Nat) : State :=
  { s with srv := { s.srv with rings := Cells.set (1024, 0) n (headroom, timeout) s.srv.rings } }

/-- A ring in native mode with its HEADROOM and QUEUE_TIMEOUT_MS. -/
def ringSet (s : State) (n headroom timeout : Nat) : State := (s.ringKept n headroom timeout).wr (Reg.SRV_RING_CFG (n - 64)) 0

theorem ringSet_shows (s : State) (n headroom timeout : Nat) :
    (s.ringSet n headroom timeout).rd (Reg.SRV_RING_CFG (n - 64)) = 0 ∧
      (s.ringSet n headroom timeout).srvRing n = (headroom, timeout) ∧
      Keeps [.regs, .srv] s (s.ringSet n headroom timeout) ∧
      RegsKeep [(Reg.SRV_RING_CFG (n - 64)).addr] s (s.ringSet n headroom timeout) := by
  have hkept : RegsKeep [(Reg.SRV_RING_CFG (n - 64)).addr] s (s.ringKept n headroom timeout) := RegsKeep.of_regs_eq rfl
  exact ⟨(rd_wr_self _ _ 0 (show 32 ≤ 64 by decide)).trans (Nat.zero_mod _), Cells.get_set_self _ _ _ _,
    ((keeps_withSrv s _).mono (by simp)).trans ((keeps_wr _ _ _).mono (by simp)), hkept.trans (regsKeep_wr _ _ _)⟩

/-- What SRV_RING_CFG checks of a packet that asks for native mode, apart from the ring's state. -/
theorem ringCfg_inRange (hexpert : p.expert = true) (hnative : p.u8 18 = 0) (hlow : 128 ≤ p.u32 24) (hhigh : p.u32 24 ≤ 65536)
    (compatBad : Bool) :
    (p.expert && (decide (1 < p.u8 18) || decide (p.u32 24 < 128) || decide (65536 < p.u32 24) ||
      ((p.expert && p.u8 18 == 1) && compatBad))) = false := by
  simp [hexpert, hnative, hlow, hhigh]

theorem srvRingCfg_sets (h : Starts s true via p j s1) (hop : p.base = 0x0522) (hexpert : p.expert = true)
    (hn : isServing (p.u16 16) = true) (hnative : p.u8 18 = 0) (hlow : 128 ≤ p.u32 24) (hhigh : p.u32 24 ≤ 65536)
    (hlive : s1.srvLive (p.u16 16) = false) (hidle : s1.ringState (p.u16 16) = idle) :
    exec (.srvRingCfg via p) s = .next (((s1.beginJob true via j).ringSet (p.u16 16) (p.u32 24) (p.u32 28)).finish via .done) := by
  refine congrArg Host.Outcome.next (runRow_ends h (by simp [hop]) ?_ ?_)
  · rw [ringCfg_inRange hexpert hnative hlow hhigh]
    simp [firstFail, hn, hlive, hidle]
  · simp only [hexpert, hnative, if_true]
    rfl

theorem srvRingCfg_fails (h : Starts s true via p j s1) (hop : p.base = 0x0522) (hexpert : p.expert = true)
    (hn : isServing (p.u16 16) = true) (hnative : p.u8 18 = 0) (hlow : 128 ≤ p.u32 24) (hhigh : p.u32 24 ≤ 65536)
    (hstate : s1.ringState (p.u16 16) ≠ idle) :
    exec (.srvRingCfg via p) s = .next (s1.finish via (.errD Sts.ringState (s1.ringState (p.u16 16)))) := by
  refine congrArg Host.Outcome.next (runRow_refused h (by simp [hop]) ?_)
  rw [ringCfg_inRange hexpert hnative hlow hhigh]
  simp [firstFail, hn, hstate]

/-! ## Accounts (10 R369) -/

/-- The settings that an expert SRV_ACCOUNT_SET gives an account, with the fraction that its bucket carries. -/
def acctOf (p : Packet) (frac : Nat) : SrvAcct := ⟨p.u8 17, p.u8 18, p.u32 20, p.u32 24, p.u16 28, p.u64 32, frac⟩

/-- An account's settings kept for the next boundary. -/
def acctWaits (s : State) (a : Nat) (x : SrvAcct) : State :=
  { s with srv := { s.srv with acctNext := Cells.insert a x (Cells.erase a s.srv.acctNext) } }

theorem find_acctWaits (s : State) (a : Nat) (x : SrvAcct) : Cells.find a (s.acctWaits a x).srv.acctNext = some x :=
  Cells.find_insert_self x (Cells.find_erase_self a _)

theorem srvAccountSet_waits (h : Starts s true via p j s1) (hop : p.base = 0x0523) (hexpert : p.expert = true) (hprio : p.u8 17 ≤ 7)
    (hpos : p.u16 28 ≠ 0) (hmax : p.u16 28 ≤ 4096) (hweight : p.u8 18 ≤ 16) :
    ∃ frac, exec (.srvAccountSet via p) s = .next (((s1.beginJob true via j).acctWaits (p.u8 16) (acctOf p frac)).finish via .done) := by
  let old := (Cells.find (p.u8 16) (s1.beginJob true via j).srv.acctNext).getD ((s1.beginJob true via j).srvAcct (p.u8 16))
  refine ⟨old.frac, congrArg Host.Outcome.next (runRow_ends h (by simp [hop]) ?_ ?_)⟩
  · simp [firstFail, hexpert, hprio, hpos, hmax, hweight]
  · simp only [hexpert, if_true]
    rfl

/-! ## Sampler profiles (10 R374) -/

/-- A sampler profile kept in place of an earlier one of its number. -/
def samplerKept (s : State) (e : Nat × Nat × Nat × Nat) : State :=
  { s with srv := { s.srv with samplers := s.srv.samplers.filter (fun x => x.1 != e.1) ++ [e] } }

theorem find_samplerKept (s : State) (e : Nat × Nat × Nat × Nat) : (s.samplerKept e).srv.samplers.find? (fun x => x.1 == e.1) = some e := by
  have hothers : (s.srv.samplers.filter (fun x => x.1 != e.1)).find? (fun x => x.1 == e.1) = none := by
    simp [List.find?_eq_none]
  rw [samplerKept, List.find?_append, hothers]
  simp

theorem srvSamplerSet_keeps (h : Starts s true via p j s1) (hop : p.base = 0x0524) (hexpert : p.expert = true) (hlow : 4 ≤ p.u8 16)
    (hhigh : p.u8 16 ≤ 15) (hnan : (readElem 1 (p.u32 20)).isNan = false) (hneg : (readElem 1 (p.u32 20)).lt .zero = false)
    (hinf : readElem 1 (p.u32 20) ≠ .inf false) (htop : p.u32 24 ≤ 262144) :
    exec (.srvSamplerSet via p) s =
      .next (((s1.beginJob true via j).samplerKept (p.u8 16, p.u32 20, p.u32 24, p.u32 28)).finish via .done) :=
  congrArg Host.Outcome.next (runRow_ends h (by simp [hop])
    (by simp [firstFail, hexpert, hlow, hhigh, hnan, hneg, hinf, htop]) rfl)

/-! ## Fitch images (10 R370) -/

/-- A fitch image under its handle. -/
def fitchKept (s : State) (k : Nat) (img : List Byte) : State :=
  { s with srv := { s.srv with fitches := Cells.insert k img s.srv.fitches } }

/-- A fitch handle freed. -/
def fitchFreed (s : State) (k : Nat) : State := { s with srv := { s.srv with fitches := Cells.erase k s.srv.fitches } }

theorem srvFitchLoad_keeps {img : List Byte} (h : Starts s true via p j s1) (hop : p.base = 0x0525)
    (hcap : s1.fb Fld.CAP_UNITS_FITCH = true) (hk : p.u8 16 ≤ 63) (hempty : Cells.find (p.u8 16) s1.srv.fitches = none)
    (hload : (s1.beginJob true via j).fitchLoad p far ue = (w, .ok img)) :
    exec (.srvFitchLoad via p far ue) s = .next ((w.fitchKept (p.u8 16) img).finish via .done) := by
  refine congrArg Host.Outcome.next (runRow_ends h (by simp [hop]) ?_ ?_)
  · simp [firstFail, hcap, hk, hempty]
  · rw [hload]
    rfl

theorem srvFitchLoad_refused (h : Starts s true via p j s1) (hop : p.base = 0x0525) (hcap : s1.fb Fld.CAP_UNITS_FITCH = true)
    (hk : p.u8 16 ≤ 63) (hused : (Cells.find (p.u8 16) s1.srv.fitches).isSome = true) :
    exec (.srvFitchLoad via p far ue) s = .next (s1.finish via (.refuse 0x0504)) :=
  congrArg Host.Outcome.next (runRow_refused h (by simp [hop]) (by simp [firstFail, hcap, hk, hused]))

theorem srvFitchFree_frees (h : Starts s true via p j s1) (hop : p.base = 0x0526) (hk : p.u8 16 ≤ 63)
    (hunused : ∀ r ∈ s1.srv.reqs, r.st = 4 ∨ r.fitch ≠ some (p.u8 16)) :
    exec (.srvFitchFree via p) s = .next (((s1.beginJob true via j).fitchFreed (p.u8 16)).finish via .done) := by
  have hnone : s1.srv.reqs.any (fun r => r.st != 4 && r.fitch == some (p.u8 16)) = false := by
    rw [List.any_eq_false]
    intro r hr
    rcases hunused r hr with hdone | hother
    · simp [hdone]
    · simp [hother]
  exact congrArg Host.Outcome.next (runRow_ends h (by simp [hop]) (by simp [firstFail, hk, hnone]) rfl)

end

/-! ## SRV_STEP_MAX_NS (10 R394, 00 R13) -/

theorem srvStepMaxNsRead_clears (s : State) :
    Goes (exec .srvStepMaxNsRead s) (fun u => Keeps [.regs, .out] s u ∧ RegsKeep [Reg.SRV_STEP_MAX_NS.addr] s u ∧
      u.rd Reg.SRV_STEP_MAX_NS = 0 ∧ u.out = .barRead Reg.SRV_STEP_MAX_NS.addr (BitVec.ofNat 64 (s.rd Reg.SRV_STEP_MAX_NS)) :: s.out) := by
  refine ⟨_, rfl, ((keeps_emit s _).mono (by simp)).trans ((keeps_regReset _ _).mono (by simp)), regsKeep_regReset _ _, ?_, rfl⟩
  exact congrArg BitVec.toNat (Cells.get_erase_self _ _ _)

end Sys2Proof.Machine.State

namespace Sys2Proof

open Sys2Proof.Machine Sys2Proof.Machine.State Sys2Proof.Safety

/-- Settles O35: each command passes its checks by the values given, and its effect is the one that its own lemma states. -/
theorem servingEngineRuns : Obligations.ServingEngineRuns := by
  unfold Obligations.ServingEngineRuns
  refine ⟨?start, ?stop, ?ringCfg, ?account, ?sampler, ?fitchLoad, ?fitchFree, srvStepMaxNsRead_clears⟩
  case start =>
    intro s via p j s1 far ue h hop
    refine ⟨fun w g hcheck => ?_, fun w a hcheck => srvEngineStart_fails h hop hcheck⟩
    obtain ⟨hstate, hsrv, hcount, hkeeps⟩ := srvStart_shows w g
    refine ⟨_, srvEngineStart_starts h hop hcheck, hstate, ?_⟩
    rw [hsrv]
    exact ⟨rfl, rfl, rfl, rfl, rfl, (w.planLoaded_shows g).1, hcount, hkeeps⟩
  case stop =>
    intro s via p j s1 h hop hexpert hmode
    have hsrv := srv_beginJob s1 true via j
    obtain ⟨hstopping, hstop, hkeeps⟩ := stopAsked_shows (s1.beginJob true via j) (p.u8 16)
    rw [hsrv] at hstop
    refine ⟨fun hstate hdone hnone => ?_, fun hstate hlive =>
      ⟨_, srvEngineStop_waits h hop hexpert hmode hstate hlive, hstopping, hstop, hkeeps⟩,
      srvEngineStop_refused h hop hexpert hmode⟩
    have howned : ∀ e ∈ ((s1.beginJob true via j).stopAsked (p.u8 16)).crl.seqs,
        ((s1.beginJob true via j).stopAsked (p.u8 16)).srvOwnsSeq e.1 = false := by
      rw [hkeeps .crl (by decide), crl_beginJob]
      intro e he
      rw [srvOwnsSeq, hstop]
      exact hnone e he
    obtain ⟨hstopped, hplan, htiles, hreqs⟩ := srvHalted_shows _ howned
    exact ⟨_, srvEngineStop_stops h hop hexpert hmode hstate hdone, hstopped, hplan, htiles, by rw [hreqs, hstop]⟩
  case ringCfg =>
    intro s via p j s1 h hop hexpert hn hnative hlow hhigh hlive
    exact ⟨fun hidle => ⟨_, srvRingCfg_sets h hop hexpert hn hnative hlow hhigh hlive hidle, ringSet_shows _ _ _ _⟩,
      srvRingCfg_fails h hop hexpert hn hnative hlow hhigh⟩
  case account =>
    intro s via p j s1 h hop hexpert hprio hpos hmax hweight
    obtain ⟨frac, hrow⟩ := srvAccountSet_waits h hop hexpert hprio hpos hmax hweight
    refine ⟨_, hrow, keeps_withSrv _ _, ?_, _, find_acctWaits _ _ _, rfl, rfl, rfl, rfl, rfl, rfl⟩
    rw [acctWaits, srv_beginJob]
  case sampler =>
    intro s via p j s1 h hop hexpert hlow hhigh hnan hneg hinf htop
    exact ⟨_, srvSamplerSet_keeps h hop hexpert hlow hhigh hnan hneg hinf htop, keeps_withSrv _ _,
      find_samplerKept _ (p.u8 16, p.u32 20, p.u32 24, p.u32 28)⟩
  case fitchLoad =>
    intro s via p j s1 far ue h hop hcap hk
    exact ⟨fun hempty w img hload => ⟨_, srvFitchLoad_keeps h hop hcap hk hempty hload, keeps_withSrv _ _, rfl⟩,
      srvFitchLoad_refused h hop hcap hk⟩
  case fitchFree =>
    intro s via p j s1 h hop hk hunused
    exact ⟨_, srvFitchFree_frees h hop hk hunused, keeps_withSrv _ _, Cells.find_erase_self _ _⟩

end Sys2Proof
end

section
/-! The plan of a step (for O36): a step being planned stays inside the plan's budget and tokens. -/

namespace Sys2Proof.Machine

theorem ceilDiv_mono {a b : Nat} (h : a ≤ b) (n : Nat) : ceilDiv a n ≤ ceilDiv b n := Nat.div_le_div_right (by omega)

/-- The step model grows with requests, positions and context (10 R352). -/
theorem SrvPlan.cost_mono (g : SrvPlan) {n n' t t' c c' : Nat} (hn : n ≤ n') (ht : t ≤ t') (hc : c ≤ c') :
    g.cost n t c ≤ g.cost n' t' c' :=
  Nat.add_le_add (Nat.add_le_add (Nat.add_le_add_left (Nat.mul_le_mul_left _ hn) _) (Nat.mul_le_mul_left _ ht))
    (ceilDiv_mono (Nat.mul_le_mul_left _ hc) _)

/-- A step without work takes T0. -/
theorem SrvPlan.cost_zero (g : SrvPlan) : g.cost 0 0 0 = g.t0 := by simp [SrvPlan.cost, ceilDiv]

namespace State

section
variable {g : SrvPlan} {x : StepSum}

theorem StepSum.fits_iff : x.fits g = true ↔ g.cost x.n x.toks x.ctx ≤ g.budget ∧ x.toks ≤ g.stepTok := by
  simp [StepSum.fits]

/-- What fits with more work fits without it. -/
theorem StepSum.fits_of_add {r : SrvReq} {c : Nat} {chunk : Bool} (h : (x.add r c chunk).fits g = true) : x.fits g = true := by
  obtain ⟨hcost, htoks⟩ := fits_iff.mp h
  have hctx : x.ctx ≤ (x.add r c chunk).ctx := by
    simp only [StepSum.add]
    omega
  have hmore : x.toks ≤ (x.add r c chunk).toks := Nat.le_add_right _ _
  exact fits_iff.mpr ⟨(g.cost_mono (Nat.le_succ _) hmore hctx).trans hcost, hmore.trans htoks⟩

/-! ## Native decodes -/

/-- A native decode that is planned where it fits. -/
def addIfFits (g : SrvPlan) (x : StepSum) (r : SrvReq) : StepSum := if (x.add r 1 false).fits g then x.add r 1 false else x

theorem addIfFits_fits (hx : x.fits g = true) (r : SrvReq) : (addIfFits g x r).fits g = true := by
  unfold addIfFits
  split
  · assumption
  · exact hx

/-! ## Prompt chunks (10 R366) -/

/-- The search ends at 0 or at a number that satisfies its test. -/
theorem largest_spec (m : Nat) (p : Nat → Bool) (k : Nat) {acc : Nat} (hacc : acc = 0 ∨ p acc = true) :
    largest m p k acc = 0 ∨ p (largest m p k acc) = true := by
  induction k generalizing acc with
  | zero => exact hacc
  | succ k ih =>
    rw [largest]
    refine ih ?_
    split
    · rename_i htaken
      exact .inr (Bool.and_eq_true_iff.mp htaken).2
    · exact hacc

theorem chunks_fits (first : Bool) (hx : x.fits g = true) (l : List SrvReq) : (chunks g first x l).1.fits g = true := by
  induction l generalizing x first with
  | nil => exact hx
  | cons r l ih =>
    have hlargest := largest_spec (min (min g.chunkMax (r.toks.length - r.pos)) (g.stepTok - x.toks)) (fun c => (x.add r c true).fits g) 32
      (.inl rfl)
    rw [chunks]
    generalize largest _ _ _ _ = c at hlargest ⊢
    split
    · exact hx
    · rename_i hchunk
      have hc : c ≠ 0 := fun h => hchunk (by simp [h])
      exact ih false (hlargest.resolve_left hc)

/-! ## Compatibility decodes (10 R390) -/

theorem keepDecodes_fits (hx : x.fits g = true) (need : Option SrvReq) (k : Nat) (l : List SrvReq) :
    ((keepDecodes g x need k l).foldl (fun x r => x.add r 1 false) x).fits g = true := by
  induction k generalizing l with
  | zero => exact hx
  | succ k ih =>
    unfold keepDecodes
    extract_lets y z fresh
    split
    · rename_i hz
      cases need with
      | none => exact hz
      | some r => exact StepSum.fits_of_add (r := r) hz
    · split
      · exact hx
      · exact ih _

end

/-- 10 R352, R366: each part of the plan keeps the step inside it. -/
theorem planStep_fits (s : State) {g : SrvPlan} (hstart : g.t0 ≤ g.budget) : (s.planStep g).2.fits g = true := by
  have hempty : StepSum.fits g ⟨0, 0, 0, []⟩ = true := StepSum.fits_iff.mpr ⟨by rwa [g.cost_zero], Nat.zero_le _⟩
  unfold planStep
  extract_lets rs native nat dec kept in? t x due com
  have hnative : native.fits g = true :=
    List.foldlRecOn (motive := fun x => x.fits g = true) _ (addIfFits g) hempty fun x hx r _ => addIfFits_fits hx r
  have hdecodes : x.fits g = true := keepDecodes_fits hnative _ _ _
  have hchunks := chunks_fits true hdecodes nat
  split
  rename_i y more hy
  rw [hy] at hchunks
  dsimp only
  split
  · exact chunks_fits _ hchunks com
  · exact hchunks

end State
end Sys2Proof.Machine
end

section
/-! The engine's boundaries (O36): a boundary with nothing to do takes the time. -/

namespace Sys2Proof.Machine.State

open Sys2Proof.Safety

/-! ## A boundary with nothing to do (10 R365) -/

/-- No request, cancel, stop, pause or change of an account waits. -/
structure NothingWaits (s : State) : Prop where
  reqs : s.srv.reqs = []
  cancels : s.srv.cancels = []
  stop : s.srv.stop = none
  paused : s.srv.paused = []
  accts : s.srv.acctNext = []

section
variable {s : State} {g : SrvPlan} {far : List Host.Cell} {ue : Option Nat}

theorem applyCancels_none (h : s.srv.cancels = []) : s.applyCancels = s := by
  have hsrv : { s.srv with cancels := [] } = s.srv := by rw [← h]
  rw [applyCancels, h, hsrv]
  rfl

theorem applyAccts_none (h : s.srv.acctNext = []) : s.applyAccts = s := by
  have hsrv : { s.srv with acctNext := [] } = s.srv := by rw [← h]
  rw [applyAccts, h, hsrv]
  rfl

theorem writeFinals_none (h : s.srv.reqs = []) : s.writeFinals = s := by simp [writeFinals, h]

theorem stepReqs_none (h : s.srv.reqs = []) : s.stepReqs = [] := by simp [stepReqs, srvReq, h]

/-- A bucket refilled changes it and its account's fraction; time and the rest of the engine stay. -/
theorem refill_frame (s : State) (elapsed a : Nat) :
    (∃ l, (s.refill elapsed a).srv = { s.srv with accts := l }) ∧ (s.refill elapsed a).now = s.now ∧
      Keeps [.regs, .srv] s (s.refill elapsed a) := by
  have hbucket : ∀ (u : State) (v : Int), (u.setBucket a v).now = u.now := fun u v => rd_fw_ne u _ _ _ (by
    simp only [Reg.CLK_TIME_NS, Fld.SRV_ACCT_BUCKET_BUCKET, Reg.SRV_ACCT_BUCKET]
    omega)
  have hparts : ∀ (u : State) (v : Int), Keeps [.regs, .srv] u (u.setBucket a v) := fun u v => (keeps_fw u _ _).mono (by simp)
  simp only [refill]
  split
  · exact ⟨⟨_, rfl⟩, hbucket _ _, hparts _ _⟩
  · exact ⟨⟨_, rfl⟩, hbucket _ _, ((keeps_withSrv s _).mono (by simp)).trans (hparts _ _)⟩

/-- The buckets refilled for a time. -/
def bucketsFilled (s : State) (elapsed : Nat) : State := (List.range 256).foldl (fun s a => s.refill elapsed a) s

theorem bucketsFilled_frame (s : State) (elapsed : Nat) :
    (∃ l, (s.bucketsFilled elapsed).srv = { s.srv with accts := l }) ∧ (s.bucketsFilled elapsed).now = s.now ∧
      Keeps [.regs, .srv] s (s.bucketsFilled elapsed) := by
  refine List.foldlRecOn (motive := fun u : State => (∃ l, u.srv = { s.srv with accts := l }) ∧ u.now = s.now ∧ Keeps [.regs, .srv] s u) _ _
    ⟨⟨s.srv.accts, rfl⟩, rfl, Keeps.refl _ s⟩ fun u hu a _ => ?_
  obtain ⟨⟨l, hl⟩, hnow, hkeeps⟩ := hu
  obtain ⟨⟨l', hl'⟩, hnow', hkeeps'⟩ := refill_frame u elapsed a
  exact ⟨⟨l', by rw [hl', hl]⟩, hnow'.trans hnow, hkeeps.trans hkeeps'⟩

/-- The time of a boundary taken: the buckets refilled for it, and the boundary at the present. -/
def boundaryTaken (s : State) (elapsed : Nat) : State :=
  { s.bucketsFilled elapsed with srv := { (s.bucketsFilled elapsed).srv with boundary := (s.bucketsFilled elapsed).now } }

theorem boundaryTaken_shows (s : State) (elapsed : Nat) :
    (∃ l, (s.boundaryTaken elapsed).srv = { s.srv with accts := l, boundary := s.now }) ∧ Keeps [.regs, .srv] s (s.boundaryTaken elapsed) := by
  obtain ⟨⟨l, hl⟩, hnow, hkeeps⟩ := bucketsFilled_frame s elapsed
  refine ⟨⟨l, ?_⟩, hkeeps.trans ((keeps_withSrv _ _).mono (by simp))⟩
  rw [boundaryTaken, hl, hnow]

theorem NothingWaits.boundaryTaken (h : NothingWaits s) (elapsed : Nat) : NothingWaits (s.boundaryTaken elapsed) := by
  obtain ⟨⟨l, hl⟩, -⟩ := boundaryTaken_shows s elapsed
  constructor <;> rw [hl]
  exacts [h.reqs, h.cancels, h.stop, h.paused, h.accts]

/-- Without a request that steps, throttling is decided for the accounts alone. -/
theorem keeps_decideHolds (h : s.srv.reqs = []) : Keeps [.regs] s s.decideHolds := by
  simp only [decideHolds]
  generalize hw : (List.range 256).foldl _ s = w
  have hkeeps : Keeps [.regs] s w := hw ▸ Keeps.foldl s fun u a _ => keeps_fw u _ _
  have hnone : w.srv.reqs = [] := by rw [hkeeps .srv (by decide), h]
  rw [stepReqs_none hnone]
  exact hkeeps

theorem planStep_none (g : SrvPlan) (h : s.srv.reqs = []) : s.planStep g = (s, ⟨0, 0, 0, []⟩) := by
  simp [planStep, stepReqs_none h, keepDecodes, chunks, sortReqs]

/-- A boundary with nothing to do takes the time, and decides throttling while the engine works. -/
theorem stepBoundary_idle (h : NothingWaits s) :
    let w := s.boundaryTaken (s.now - s.srv.boundary)
    s.stepBoundary g far ue = if w.srvWorks then w.decideHolds else w := by
  intro t
  have ht : NothingWaits t := h.boundaryTaken _
  have hactive : t.srvActive = [] := by simp [srvActive, ht.reqs]
  have hplan := planStep_none g ((congrArg Srv.reqs (keeps_decideHolds ht.reqs .srv (by decide)) :).trans ht.reqs)
  unfold stepBoundary
  extract_lets w v elapsed filled srv taken resumed raised admitted
  have hw : w = s := (congrArg writeFinals (applyCancels_none h.cancels)).trans (writeFinals_none h.reqs)
  have hv : v = s := by simp only [v, hw, h.stop]
  have hready : ¬v.srvStopReady = true := by simp [hv, srvStopReady, h.stop]
  have hfilled : filled = s.bucketsFilled (s.now - s.srv.boundary) := by
    simp only [filled, elapsed, hv, applyAccts_none h.accts, bucketsFilled]
  have htaken : taken = t := by simp only [taken, srv, hfilled, t, boundaryTaken]
  have hresumed : resumed = t := by simp only [resumed, htaken, ht.paused, List.foldl_nil]
  have hraised : raised = t := by simp only [raised, hresumed, hactive, List.foldl_nil]
  have hadmitted : admitted = t := by
    simp only [admitted, hraised, ht.reqs, List.filter_nil, sortReqs, List.foldl_nil, admitAll]
  rw [if_neg hready, hadmitted, hplan]
  cases t.srvWorks <;> rfl

theorem serveSettle_none (h : s.srv.stop = none) : s.serveSettle = s := by
  rw [serveSettle, srvStopCheck, if_pos (by simp [srvStopReady, h])]

/-- A boundary at which nothing waits leaves a state in which nothing waits, at the present. -/
theorem stepBoundary_shows (h : NothingWaits s) :
    (∃ l, (s.stepBoundary g far ue).srv = { s.srv with accts := l, boundary := s.now }) ∧
      Keeps [.regs, .srv] s (s.stepBoundary g far ue) := by
  obtain ⟨hshown, hkeeps⟩ := boundaryTaken_shows s (s.now - s.srv.boundary)
  rw [stepBoundary_idle h]
  split
  · have hheld := keeps_decideHolds (h.boundaryTaken (s.now - s.srv.boundary)).reqs
    exact ⟨by rwa [hheld .srv (by decide)], hkeeps.trans (hheld.mono (by simp))⟩
  · exact ⟨hshown, hkeeps⟩

/-- STEP_BOUNDARY where the engine works and no step runs. -/
theorem exec_stepBoundary_runs (hplan : s.srv.plan = some g) (hworks : s.srvWorks = true) (hstep : s.srv.step = none) :
    exec (.stepBoundary far ue) s = .next ((s.stepBoundary g far ue).serveSettle.closeStep) := by
  change execStepBoundary far ue s = _
  simp [execStepBoundary, hplan, hworks, hstep]

theorem exec_stepBoundary_idle (hplan : s.srv.plan = some g) (hworks : s.srvWorks = true) (hstep : s.srv.step = none) (h : NothingWaits s) :
    GoesOn (exec (.stepBoundary far ue) s) State.closeStep (fun w => w.srv.boundary = s.now ∧ w.srv.step = none ∧ w.srv.acctNext = [] ∧
      w.srv.reqs = [] ∧ Keeps [.regs, .srv] s w) := by
  obtain ⟨⟨l, hsrv⟩, hkeeps⟩ := stepBoundary_shows (g := g) (far := far) (ue := ue) h
  refine ⟨s.stepBoundary g far ue, ?_, ?_⟩
  · rw [exec_stepBoundary_runs hplan hworks hstep, serveSettle_none (by rw [hsrv]; exact h.stop)]
  · exact ⟨by rw [hsrv], by rw [hsrv, hstep], by rw [hsrv, h.accts], by rw [hsrv, h.reqs], hkeeps⟩

end

end Sys2Proof.Machine.State
end

section
/-! What a reply on a ring changes, and the ends of requests and of their records (O36): a queued request that times out, and metrics
records that are dropped. -/

namespace Sys2Proof.Machine.State

open Sys2Proof.Safety

/-! ## Replies (02 R77, R87) -/

/-- What replies on a ring may change: these parts, and of the registers the ring's CPL_TAIL alone. -/
def ReplyKeeps (n : Nat) (s t : State) : Prop :=
  Keeps [.eng, .host, .regs, .out, .hif] s t ∧ RegsKeep [(Reg.HIF_RING_CPL_TAIL n).addr] s t

theorem ReplyKeeps.trans {n : Nat} {s t u : State} (h : ReplyKeeps n s t) (h' : ReplyKeeps n t u) : ReplyKeeps n s u :=
  ⟨h.1.trans h'.1, h.2.trans h'.2⟩

theorem ReplyKeeps.of_keeps {n : Nat} {s t : State} (h : Keeps [.eng, .host, .out, .hif] s t) : ReplyKeeps n s t :=
  ⟨h.mono (by simp), RegsKeep.of_regs_eq (h .regs (by decide))⟩

theorem ReplyKeeps.refl (n : Nat) (s : State) : ReplyKeeps n s s := .of_keeps (Keeps.refl _ s)

theorem replyKeeps_setEng (s : State) (n m : Nat) (e : Engine) : ReplyKeeps n s (s.setEng m e) := .of_keeps ((keeps_setEng s m e).mono (by simp))

/-- A completion record closed is sealed into host memory, and its interrupts are raised. -/
theorem closeRecord_replyKeeps (s : State) (n : Nat) : ReplyKeeps n s (s.closeRecord n) := by
  have hseal : ∀ (w idx : Nat) (pay : List Byte), ReplyKeeps n s (s.sealRecord w idx pay) := fun w idx pay =>
    .of_keeps ((keeps_sealRecord s w idx pay).mono (by simp))
  have hrest : ∀ (u : State) (e : Engine) (l : List (BitVec 256 × Bool)) (g : State → Nat),
      ReplyKeeps n u (l.foldl (fun s _ => s.replyIrq (g s)) ((u.cqAdvance n).setEng n e)) := fun u e l g =>
    have hadvance : ReplyKeeps n u (u.cqAdvance n) := ⟨(keeps_wr u _ _).mono (by simp), regsKeep_wr u _ _⟩
    (hadvance.trans (replyKeeps_setEng _ n n e)).trans
      (.of_keeps (Keeps.foldl _ fun v _ _ => (keeps_replyIrq v _).mono (by simp)))
  simp only [closeRecord]
  split
  · exact .refl n s
  · refine ReplyKeeps.trans ?_ (hrest _ _ _ _)
    split
    · exact hseal _ _ _
    · exact .refl n s

/-- A reply is written, put into the open record, held, or goes nowhere. -/
theorem ringReply_replyKeeps (s : State) (n : Nat) (r : BitVec 256) (irq : Bool) : ReplyKeeps n s (s.ringReply n r irq) := by
  have hput : ∀ e : Engine, ReplyKeeps n s (s.setEng n e) := replyKeeps_setEng s n n
  obtain ⟨hkeeps, hregs⟩ := cqWrite_frame s n r irq
  simp only [ringReply]
  split
  · exact .refl n s
  split
  · split
    · split
      · exact (hput _).trans (closeRecord_replyKeeps _ n)
      · exact hput _
    · exact hput _
  split
  · exact ⟨hkeeps.mono (by simp), hregs⟩
  · exact hput _

/-- A ring that settles writes its open record at most, and shows IDLE. -/
theorem keeps_ringSettle (s : State) (n : Nat) : Keeps [.eng, .host, .regs, .out, .hif] s (s.ringSettle n) := by
  rw [ringSettle]
  split
  · exact (closeRecord_replyKeeps s n).1.trans ((keeps_fw _ _ _).mono (by simp))
  · exact Keeps.refl _ s

/-! ## Ends of requests and of their records (10 R364, R386) -/

section
variable {s : State} {n id : Nat} {r : SrvReq}

/-- The FINAL reply of a request that holds no sequence changes the engine's state and what a reply changes. -/
theorem keeps_srvFinal (s : State) (hseq : r.seq = none) (status detail addr : Nat) :
    Keeps [.eng, .host, .regs, .out, .hif, .srv] s (s.srvFinal r status detail addr) := by
  simp only [srvFinal, hseq]
  refine Keeps.trans ?_ ((keeps_ringSettle _ _).mono (by simp))
  refine Keeps.trans ?_ ((keeps_withSrv _ _).mono (by simp))
  exact ((ringReply_replyKeeps s _ _ _).1.mono (by simp)).trans ((keeps_updReq _ _ _ _).mono (by simp))

/-- After its FINAL reply a request is live no longer. -/
theorem srvReq_srvFinal (s : State) (r : SrvReq) (status detail addr : Nat) : (s.srvFinal r status detail addr).srvReq r.ring r.id = none := by
  simp only [srvFinal]
  rw [srvReq_congr (keeps_ringSettle _ _ .srv (by decide))]
  exact srvReq_updReq_done _ r.ring r.id fun _ => rfl

theorem exec_queueTimeout_ends (hreq : s.srvReq n id = some r) (hst : r.st = 0) (ht : (s.srvRing n).2 ≠ 0)
    (hdue : r.fetchNs + (s.srvRing n).2 * 10 ^ 6 ≤ s.now) :
    exec (.queueTimeout n id) s = .next ((s.srvFinal r Sts.timeout 0 0).serveSettle.closeStep) := by
  change execQueueTimeout n id s = _
  simp only [execQueueTimeout, hreq, hst, bne_iff_ne.mpr ht, decide_eq_true hdue, decide_true, Bool.and_self, if_true]

theorem exec_queueTimeout_early (hreq : s.srvReq n id = some r) (hearly : s.now < r.fetchNs + (s.srvRing n).2 * 10 ^ 6) :
    exec (.queueTimeout n id) s = .next s := by
  change execQueueTimeout n id s = _
  simp only [execQueueTimeout, hreq, decide_eq_false (Nat.not_le.mpr hearly), Bool.and_false, Bool.false_eq_true, if_false]

/-- METRICS_RECORD_EXPIRY drops the ended requests of that REQ_ID that are 1,024 steps old. -/
theorem exec_metricsRecordExpiry (s : State) (n id : Nat) :
    Goes (exec (.metricsRecordExpiry n id) s) (fun u => Keeps [.srv] s u ∧
      ∀ r, r ∈ u.srv.reqs ↔ r ∈ s.srv.reqs ∧ ¬(r.ring = n ∧ r.id = id ∧ r.st = 4 ∧ r.endStep + 1024 ≤ s.rd Reg.SRV_STEP_CNT)) := by
  refine ⟨_, rfl, keeps_withSrv s _, fun r => ?_⟩
  simp only [List.mem_filter, Bool.not_eq_true', ← Bool.not_eq_true, Bool.and_eq_true, beq_iff_eq, decide_eq_true_eq, and_assoc]

end

end Sys2Proof.Machine.State
end

section
/-! The end of a step (O36): its requests' parts leave the time and the count of steps, and the step is over and counted. -/

namespace Sys2Proof.Machine.State

open Sys2Proof.Safety

/-! ## The parts of a step leave the time and the count (10 R365 items 4 to 6) -/

/-- The time and the number of steps read as before. -/
def ClockKept (s t : State) : Prop := t.now = s.now ∧ t.rd Reg.SRV_STEP_CNT = s.rd Reg.SRV_STEP_CNT

namespace ClockKept

theorem refl (s : State) : ClockKept s s := ⟨rfl, rfl⟩

theorem trans {s t u : State} (h : ClockKept s t) (h' : ClockKept t u) : ClockKept s u := ⟨h'.1.trans h.1, h'.2.trans h.2⟩

theorem of_regsKeep {as : List Nat} {s t : State} (h : RegsKeep as s t) (htime : 0x300100 ∉ as) (hcount : 0x900008 ∉ as) : ClockKept s t :=
  ⟨h.rd htime, h.rd hcount⟩

theorem of_keeps {ps : List Part} {s t : State} (h : Keeps ps s t) (hregs : Part.regs ∉ ps) : ClockKept s t :=
  of_regsKeep (as := []) (RegsKeep.of_regs_eq (h .regs hregs)) (by simp) (by simp)

theorem foldl {α : Type} {f : State → α → State} {l : List α} (s : State) (h : ∀ u, ∀ a ∈ l, ClockKept u (f u a)) :
    ClockKept s (l.foldl f s) :=
  List.foldlRecOn l f (refl s) fun u hu a ha => hu.trans (h u a ha)

end ClockKept

theorem clockKept_wr (s : State) (r : Reg) (v : Nat) (htime : 0x300100 ≠ r.addr) (hcount : 0x900008 ≠ r.addr) : ClockKept s (s.wr r v) :=
  .of_regsKeep (regsKeep_wr s r v) (by simpa using htime) (by simpa using hcount)

theorem clockKept_updReq (s : State) (n id : Nat) (f : SrvReq → SrvReq) : ClockKept s (s.updReq n id f) :=
  .of_keeps (keeps_updReq s n id f) (by simp)

theorem clockKept_pend (s : State) (r : SrvReq) (status detail addr : Nat) : ClockKept s (s.pend r status detail addr) :=
  clockKept_updReq s _ _ _

theorem clockKept_charge (s : State) (a n : Nat) : ClockKept s (s.charge a n) :=
  clockKept_wr s _ _ (by simp only [Fld.SRV_ACCT_BUCKET_BUCKET, Reg.SRV_ACCT_BUCKET]; omega)
    (by simp only [Fld.SRV_ACCT_BUCKET_BUCKET, Reg.SRV_ACCT_BUCKET]; omega)

theorem clockKept_srvRecord (s : State) (r : SrvReq) (rtype status detail offset token lp : Nat) :
    ClockKept s (s.srvRecord r rtype status detail offset token lp) :=
  .of_regsKeep (ringReply_replyKeeps s _ _ _).2 (by simp only [List.mem_singleton, Reg.HIF_RING_CPL_TAIL]; omega)
    (by simp only [List.mem_singleton, Reg.HIF_RING_CPL_TAIL]; omega)

theorem clockKept_missed (s : State) (k n : Nat) :
    ClockKept s (s.bump (Reg.SRV_RING_TTFT_MISS k) n) ∧ ClockKept s (s.bump (Reg.SRV_RING_TBT_MISS k) n) := by
  constructor <;> exact clockKept_wr s _ _ (by simp only [Reg.SRV_RING_TTFT_MISS, Reg.SRV_RING_TBT_MISS]; omega)
    (by simp only [Reg.SRV_RING_TTFT_MISS, Reg.SRV_RING_TBT_MISS]; omega)

theorem clockKept_ite {s t u : State} {c : Prop} [Decidable c] (ht : ClockKept s t) (hu : ClockKept s u) : ClockKept s (if c then t else u) := by
  split
  · exact ht
  · exact hu

theorem clockKept_emitToken (s : State) (g : SrvPlan) (r : SrvReq) (t lp : Nat) : ClockKept s (s.emitToken g r t lp) := by
  unfold emitToken
  extract_lets now recorded k first gap again fst changed
  have hrecorded : ClockKept s recorded :=
    ((clockKept_srvRecord s _ _ _ _ _ _ _).trans (clockKept_wr _ _ _ (by decide) (by decide))).trans (clockKept_charge _ _ _)
  have hfirst : ClockKept recorded first := clockKept_ite (clockKept_missed recorded k 1).1 (.refl recorded)
  have hagain : ClockKept first again := clockKept_ite (clockKept_missed first k 1).2 (.refl first)
  have hchanged : ClockKept s changed := ((hrecorded.trans hfirst).trans hagain).trans (clockKept_updReq again _ _ _)
  exact hchanged.trans (clockKept_ite (clockKept_pend _ _ _ _ _) (clockKept_ite (clockKept_pend _ _ _ _ _) (.refl changed)))

theorem clockKept_sampleOne (s : State) (g : SrvPlan) (r : SrvReq) (logits : List (BitVec 32)) : ClockKept s (s.sampleOne g r logits) := by
  have hopen : ∀ (u : State) (t : Nat), ClockKept u ((u.open_ 32).2.emitToken g r t (u.open_ 32).1) := fun u t =>
    (ClockKept.of_keeps (keeps_open u 32) (by decide)).trans (clockKept_emitToken _ _ _ _ _)
  unfold sampleOne
  extract_lets all allowed
  refine clockKept_ite (clockKept_pend s _ _ _ _) ?_
  obtain ⟨inv, topK, topP⟩ := s.samplerOf r
  dsimp only
  split
  · exact clockKept_emitToken s _ _ _ _
  · exact clockKept_pend s _ _ _ _
  · exact hopen s _
  · have hpick : ClockKept s (s.pick allowed).1 := .of_keeps (keeps_pick s allowed) (by decide)
    generalize s.pick allowed = x at hpick ⊢
    obtain ⟨u, _ | t⟩ := x
    · exact hpick
    · exact hpick.trans (hopen u t)

theorem clockKept_pauseOne (s : State) (r : SrvReq) (q : CrlSeq) : ClockKept s (s.pauseOne r q) := by
  rw [pauseOne]
  split
  · exact clockKept_pend s _ _ _ _
  · exact ((clockKept_updReq s _ _ _).trans (.of_keeps (keeps_withSrv _ _) (by decide))).trans (clockKept_srvRecord _ _ _ _ _ _ _ _)

theorem clockKept_stepOne (s : State) (g : SrvPlan) (logits : List (Nat × List (BitVec 32))) (w : Nat × Nat × Nat × Bool) :
    ClockKept s (s.stepOne g logits w) := by
  obtain ⟨ring, id, c, chunk⟩ := w
  unfold stepOne
  dsimp -zeta only
  split
  · exact .refl s
  next r0 _ =>
    extract_lets charged r moved q
    have hcharged : ClockKept s charged :=
      clockKept_ite ((clockKept_wr s _ _ (by decide) (by decide)).trans (clockKept_charge _ _ _)) (.refl s)
    have hmoved : ClockKept s moved := hcharged.trans (clockKept_updReq charged _ _ _)
    refine hmoved.trans (clockKept_ite (.refl moved) ?_)
    clear_value q
    cases q with
    | none => exact .refl moved
    | some q => exact clockKept_ite (clockKept_pauseOne _ _ _) (clockKept_ite (clockKept_sampleOne _ _ _ _) (.refl moved))

/-! ## The step over -/

section
variable {s : State} {g : SrvPlan} {st : SrvStep} {logits : List (Nat × List (BitVec 32))}

/-- The times of a step shown, and the step counted. -/
def stepCounted (s : State) (budget t : Nat) : State :=
  let s := (s.wr Reg.SRV_STEP_LAST_NS t).wr Reg.SRV_STEP_MAX_NS (max t (s.rd Reg.SRV_STEP_MAX_NS))
  let s := if budget < t then s.bump Reg.SRV_OVERRUN_CNT 1 else s
  s.bumpWrap Reg.SRV_STEP_CNT 64 1

theorem stepCounted_shows (s : State) (budget t : Nat) :
    Keeps [.regs] s (s.stepCounted budget t) ∧ (s.stepCounted budget t).rd Reg.SRV_STEP_LAST_NS = t % 2 ^ 32 ∧
      (s.stepCounted budget t).rd Reg.SRV_STEP_CNT = (s.rd Reg.SRV_STEP_CNT + 1) % 2 ^ 64 := by
  let a := s.wr Reg.SRV_STEP_LAST_NS t
  let b := a.wr Reg.SRV_STEP_MAX_NS (max t (s.rd Reg.SRV_STEP_MAX_NS))
  let c := if budget < t then b.bump Reg.SRV_OVERRUN_CNT 1 else b
  have hmax : Keeps [.regs] s b := (keeps_wr s _ _).trans (keeps_wr a _ _)
  have hlast : b.rd Reg.SRV_STEP_LAST_NS = t % 2 ^ 32 := (rd_wr_ne a _ _ _ (by decide)).trans (rd_wr_self s _ _ (by decide))
  have hcount : b.rd Reg.SRV_STEP_CNT = s.rd Reg.SRV_STEP_CNT := (rd_wr_ne a _ _ _ (by decide)).trans (rd_wr_ne s _ _ _ (by decide))
  have hover : Keeps [.regs] b c ∧ RegsKeep [Reg.SRV_OVERRUN_CNT.addr] b c := by
    unfold c
    split
    · exact ⟨keeps_wr b _ _, regsKeep_wr b _ _⟩
    · exact ⟨Keeps.refl _ b, RegsKeep.of_regs_eq rfl⟩
  change Keeps [.regs] s (c.bumpWrap Reg.SRV_STEP_CNT 64 1) ∧ (c.bumpWrap Reg.SRV_STEP_CNT 64 1).rd _ = _ ∧
    (c.bumpWrap Reg.SRV_STEP_CNT 64 1).rd _ = _
  refine ⟨(hmax.trans hover.1).trans (keeps_wr c _ _), ?_, ?_⟩
  · rw [bumpWrap, rd_wr_ne c _ _ _ (by decide), hover.2.rd (by decide), hlast]
  · rw [bumpWrap, rd_wr_self c _ _ (by decide), hover.2.rd (by decide), hcount]
    exact Nat.mod_mod _ _

/-- The parts of a step's end: its requests' parts, the engine without a step, and the count. -/
theorem stepDone_eq (s : State) (g : SrvPlan) (st : SrvStep) (logits : List (Nat × List (BitVec 32))) :
    s.stepDone g st logits =
      let w := st.work.foldl (fun s w => s.stepOne g logits w) s
      stepCounted { w with srv := { w.srv with step := none } } g.budget (min max32 (w.now - st.start)) := rfl

theorem stepDone_shows (s : State) (g : SrvPlan) (st : SrvStep) (logits : List (Nat × List (BitVec 32))) :
    (s.stepDone g st logits).srv.step = none ∧
      (s.stepDone g st logits).rd Reg.SRV_STEP_LAST_NS = min (2 ^ 32 - 1) (s.now - st.start) ∧
      (s.stepDone g st logits).rd Reg.SRV_STEP_CNT = (s.rd Reg.SRV_STEP_CNT + 1) % 2 ^ 64 := by
  rw [stepDone_eq]
  have hparts : ClockKept s (st.work.foldl (fun s w => s.stepOne g logits w) s) := .foldl s fun u w _ => clockKept_stepOne u g logits w
  generalize st.work.foldl (fun s w => s.stepOne g logits w) s = w at hparts ⊢
  obtain ⟨hnow, hcount⟩ := hparts
  obtain ⟨hkeeps, hlast, hcnt⟩ := stepCounted_shows { w with srv := { w.srv with step := none } } g.budget (min max32 (w.now - st.start))
  refine ⟨congrArg Srv.step (hkeeps .srv (by decide)), hlast.trans ?_, hcnt.trans ?_⟩
  · rw [hnow, max32]
    omega
  · exact congrArg (fun c => (c + 1) % 2 ^ 64) hcount

theorem exec_stepRunComplete (hplan : s.srv.plan = some g) (hstep : s.srv.step = some st) :
    exec (.stepRunComplete logits) s = .next (s.stepDone g st logits) := by
  change execStepRunComplete logits s = _
  simp only [execStepRunComplete, hplan, hstep]

theorem exec_stepRunComplete_none (hstep : s.srv.step = none) : exec (.stepRunComplete logits) s = .next s := by
  change execStepRunComplete logits s = _
  rw [execStepRunComplete, hstep]
  cases s.srv.plan <;> rfl

end

end Sys2Proof.Machine.State

namespace Sys2Proof

open Sys2Proof.Machine Sys2Proof.Machine.State Sys2Proof.Safety

/-- Settles O36: what is planned is added only where it fits; the parts of a step write no register of the time or the count; a request is DONE
with its FINAL reply. -/
theorem servingStepsStayInBudget : Obligations.ServingStepsStayInBudget := by
  refine ⟨planStep_fits, fun s g far ue hplan hworks hstep hreqs hcancels hstop hpaused haccts => ?_, fun s g st logits hplan hstep _ => ?_,
    fun s logits => exec_stepRunComplete_none, fun s n id r hreq hst ht hseq => ⟨fun hdue => ?_, exec_queueTimeout_early hreq⟩,
    exec_metricsRecordExpiry⟩
  · exact exec_stepBoundary_idle hplan hworks hstep ⟨hreqs, hcancels, hstop, hpaused, haccts⟩
  · exact ⟨_, exec_stepRunComplete hplan hstep, stepDone_shows s g st logits⟩
  · obtain ⟨rfl, rfl, -, -⟩ := srvReq_some hreq
    exact ⟨_, exec_queueTimeout_ends hreq hst ht hdue, srvReq_srvFinal s r _ _ _, keeps_srvFinal s hseq _ _ _ .mem (by decide)⟩

end Sys2Proof
end

section
/-! The queue and the state after reset (O1, O2, O3). -/

namespace Sys2Proof.Machine

/-- Every arm of `exec` answers a next state, whatever the state. -/
theorem exec_next (i : Instr) (s : State) : ∃ t, exec i s = .next t := by
  cases i <;> exact ⟨_, rfl⟩

/-- After reset every register reads as its reset value, for none is listed. -/
theorem rd_reset {r : Reg} (h : r.rst < 2 ^ 64) : State.reset.rd r = r.rst := by
  rw [State.rd, State.reset, Cells.get_nil, BitVec.toNat_ofNat, Nat.mod_eq_of_lt h]

end Sys2Proof.Machine

namespace Sys2Proof

open Sys2Proof.Machine

/-- Settles O1: the step looks at the front of the queue alone. -/
theorem stepRunsFrontCommand : Obligations.StepRunsFrontCommand := by
  unfold Obligations.StepRunsFrontCommand
  intro s c rest hq
  rw [step, hq]

/-- Settles O2, command by command. -/
theorem everyCommandAnswersNext : Obligations.EveryCommandAnswersNext := exec_next

/-- Settles O3: the state after reset lists nothing. -/
theorem resetLeavesTableValues : Obligations.ResetLeavesTableValues := by
  unfold Obligations.ResetLeavesTableValues
  exact ⟨fun _ h => rd_reset h, rfl, fun _ => rfl, Memory.wf_reset, rfl, rfl, rfl⟩

end Sys2Proof
end

section
/-! Time that passes on an empty queue (O6): TIME_NS counts, slewed while an offset is left (15 R541, R545). -/

namespace Sys2Proof.Machine.State

open Sys2Proof.Safety

theorem step_idle {s : State} (hq : s.pending = []) : step s = .next s.idleStep := by rw [step, hq]

theorem idleStep_rests {s : State} (h : s.rst.unpowered = true ∨ s.rst.level = 2) : s.idleStep = s := by
  rw [idleStep, if_pos (by simpa using h)]

theorem idleStep_ticks {s : State} (hpower : s.rst.unpowered = false) (hlevel : s.rst.level ≠ 2) : s.idleStep = s.tick := by
  rw [idleStep, if_neg (by simp [hpower, hlevel])]

/-- A signed reading sees the bits of its width alone. -/
theorem sext_mod (w x : Nat) : sext w (x % 2 ^ w) = sext w x := by rw [sext, sext, Nat.mod_mod]

/-- TIME_NS counts on. -/
def timeCounted (s : State) (n : Nat) : State := s.bumpWrap Reg.CLK_TIME_NS 64 n

theorem timeCounted_shows (s : State) (n : Nat) : (s.timeCounted n).now = (s.now + n) % 2 ^ 64 ∧ Keeps [.regs] s (s.timeCounted n) ∧
    RegsKeep [Reg.CLK_TIME_NS.addr] s (s.timeCounted n) := by
  refine ⟨?_, keeps_wr _ _ _, regsKeep_wr _ _ _⟩
  rw [timeCounted, bumpWrap, now, rd_wr_self _ _ _ (by decide)]
  exact Nat.mod_mod _ _

theorem tick_steady {s : State} (h : s.fb Fld.CLK_TIME_STATUS_SYNCED = false ∨ sext 20 (s.fd Fld.CLK_TIME_STATUS_OFFSET) = 0) :
    s.tick = s.timeCounted 1 := by
  rw [tick, if_pos (by simpa using h)]
  rfl

section
variable {s : State} (hsynced : s.fb Fld.CLK_TIME_STATUS_SYNCED = true)
  (hoff : sext 20 (s.fd Fld.CLK_TIME_STATUS_OFFSET) ≠ 0)
include hsynced hoff

theorem tick_between (hslew : s.clk.slew + 1 < 10000) :
    s.tick = { s.timeCounted 1 with clk := { s.clk with slew := s.clk.slew + 1 } } := by
  rw [tick, if_neg (by simp [hsynced, hoff]), if_pos hslew]
  rfl

/-- What the tick that slews leaves: one nanosecond less of the offset. -/
def slewed (s : State) : State :=
  let off := sext 20 (s.fd Fld.CLK_TIME_STATUS_OFFSET)
  ({ s.timeCounted (if 0 < off then 0 else 2) with clk := { s.clk with slew := 0 } } : State).fw Fld.CLK_TIME_STATUS_OFFSET
    (ofInt 20 (if 0 < off then off - 1 else off + 1))

theorem tick_slews (hslew : 10000 ≤ s.clk.slew + 1) :
    s.tick = s.slewed ∨ s.tick = s.slewed.fbw Fld.CLK_TIME_STATUS_TIME_FAULT false := by
  rw [tick, if_neg (by simp [hsynced, hoff]), if_neg (by omega)]
  by_cases hsmall : (if 0 < sext 20 (s.fd Fld.CLK_TIME_STATUS_OFFSET) then sext 20 (s.fd Fld.CLK_TIME_STATUS_OFFSET) - 1
      else sext 20 (s.fd Fld.CLK_TIME_STATUS_OFFSET) + 1).natAbs < 1000
  · exact .inr (if_pos hsmall)
  · exact .inl (if_neg hsmall)

end

theorem slewed_shows (s : State) :
    let off := sext 20 (s.fd Fld.CLK_TIME_STATUS_OFFSET)
    s.slewed.now = (s.now + (if 0 < off then 0 else 2)) % 2 ^ 64 ∧ s.slewed.clk = { s.clk with slew := 0 } ∧
      sext 20 (s.slewed.fd Fld.CLK_TIME_STATUS_OFFSET) = (if 0 < off then off - 1 else off + 1) ∧ Keeps [.regs, .clk] s s.slewed := by
  intro off
  obtain ⟨hlow, hhigh⟩ : -((2 ^ 19 : Nat) : Int) ≤ off ∧ off < (2 ^ 19 : Nat) := sext_range 19 _
  refine ⟨?_, rfl, ?_, ?_⟩
  · rw [slewed, now, rd_fw_ne _ _ _ _ (by decide)]
    exact (rd_congr rfl _).trans (timeCounted_shows s _).1
  · have hfield : s.slewed.fd Fld.CLK_TIME_STATUS_OFFSET = ofInt 20 (if 0 < off then off - 1 else off + 1) % 2 ^ 20 :=
      fd_fw_self _ _ _ (by decide) (by decide)
    rw [hfield, sext_mod, sext_ofInt] <;> split <;> omega
  · exact (((timeCounted_shows s _).2.1.mono (by decide)).trans ((keeps_withClk _ _).mono (by decide))).trans ((keeps_fw _ _ _).mono (by decide))

end Sys2Proof.Machine.State
namespace Sys2Proof

open Sys2Proof.Machine Sys2Proof.Machine.State Sys2Proof.Safety

/-- Settles O6: on an empty queue the step is a tick, and a tick does one of three things. -/
theorem idleStepsCountTime : Obligations.IdleStepsCountTime := by
  unfold Obligations.IdleStepsCountTime
  intro s hq off
  refine ⟨fun h => by rw [step_idle hq, idleStep_rests h], fun hpower hlevel => ?_⟩
  have htick : step s = .next s.tick := by rw [step_idle hq, idleStep_ticks hpower hlevel]
  refine ⟨fun h => ?steady, fun hsynced hoff hslew => ?between, fun hsynced hoff hslew => ?slews⟩
  case steady => exact ⟨_, htick.trans (congrArg _ (tick_steady h)), timeCounted_shows s 1⟩
  case between =>
    obtain ⟨htime, hparts, hregs⟩ := timeCounted_shows s 1
    exact ⟨_, htick.trans (congrArg _ (tick_between hsynced hoff hslew)), (rd_congr rfl _).trans htime, rfl,
      (hparts.mono (by decide)).trans ((keeps_withClk _ _).mono (by decide)), hregs.trans (RegsKeep.of_regs_eq rfl)⟩
  case slews =>
    obtain ⟨htime, hclk, hshown, hparts⟩ := slewed_shows s
    rcases tick_slews hsynced hoff hslew with h | h
    · exact ⟨_, htick.trans (congrArg _ h), htime, hclk, hshown, hparts⟩
    · refine ⟨_, htick.trans (congrArg _ h), ?_, (fbw_clk _ _ _).trans hclk, ?_, hparts.trans ((keeps_fw _ _ _).mono (by decide))⟩
      · rw [fbw, now, rd_fw_ne _ _ _ _ (by decide)]
        exact htime
      · rw [fbw, fd_fw_apart _ _ _ _ (by rfl) (by decide) (by decide) (by decide)]
        exact hshown

end Sys2Proof
end

section
/-! Fields of one bit beside each other, and what a part of the state replaced leaves of the registers. -/

namespace Sys2Proof.Machine.State

theorem fb_congr {s t : State} (h : s.regs = t.regs) (f : Fld) : s.fb f = t.fb f := by rw [fb, fb, fd_congr h]

/-- A field of another register is not written. -/
theorem fb_fw_ne (s : State) (f g : Fld) (v : Nat) (h : g.reg.addr ≠ f.reg.addr) : (s.fw f v).fb g = s.fb g := by
  rw [fb, fb, fd_fw_ne _ _ _ _ h]

theorem fb_fbw_ne (s : State) (f g : Fld) (b : Bool) (h : g.reg.addr ≠ f.reg.addr) : (s.fbw f b).fb g = s.fb g := fb_fw_ne _ _ _ _ h

theorem fd_fbw_ne (s : State) (f g : Fld) (b : Bool) (h : g.reg.addr ≠ f.reg.addr) : (s.fbw f b).fd g = s.fd g := fd_fw_ne _ _ _ _ h

/-- A field of the same register that shares no bit with the one written stays. -/
theorem fb_fw_apart (s : State) (f g : Fld) (v : Nat) (hr : g.reg = f.reg) (hsep : g.lo + g.w ≤ f.lo ∨ f.lo + f.w ≤ g.lo)
    (h : g.lo + g.w ≤ g.reg.width) (h' : g.reg.width ≤ 64) : (s.fw f v).fb g = s.fb g := by
  rw [fb, fb, fd_fw_apart _ _ _ _ hr hsep h h']

theorem fb_fbw_apart (s : State) (f g : Fld) (b : Bool) (hr : g.reg = f.reg) (hsep : g.lo + g.w ≤ f.lo ∨ f.lo + f.w ≤ g.lo)
    (h : g.lo + g.w ≤ g.reg.width) (h' : g.reg.width ≤ 64) : (s.fbw f b).fb g = s.fb g := fb_fw_apart _ _ _ _ hr hsep h h'

theorem fd_fbw_apart (s : State) (f g : Fld) (b : Bool) (hr : g.reg = f.reg) (hsep : g.lo + g.w ≤ f.lo ∨ f.lo + f.w ≤ g.lo)
    (h : g.lo + g.w ≤ g.reg.width) (h' : g.reg.width ≤ 64) : (s.fbw f b).fd g = s.fd g := fd_fw_apart _ _ _ _ hr hsep h h'

theorem fb_wr_ne (s : State) (r : Reg) (g : Fld) (v : Nat) (h : g.reg.addr ≠ r.addr) : (s.wr r v).fb g = s.fb g := by
  rw [fb, fb, fd_wr_ne _ _ _ _ h]

theorem rd_regReset_ne (s : State) (r q : Reg) (h : q.addr ≠ r.addr) : (s.regReset r).rd q = s.rd q :=
  (Safety.regsKeep_regReset s r).rd (by simpa using h)

theorem fb_regReset_ne (s : State) (r : Reg) (g : Fld) (h : g.reg.addr ≠ r.addr) : (s.regReset r).fb g = s.fb g :=
  (Safety.regsKeep_regReset s r).fb (by simpa using h)

theorem rd_regReset_self (s : State) (r : Reg) (h : r.rst < 2 ^ 64) : (s.regReset r).rd r = r.rst := by
  rw [rd, regReset, Cells.get_erase_self, BitVec.toNat_ofNat, Nat.mod_eq_of_lt h]

theorem rd_updSec (s : State) (f : Sec → Sec) (r : Reg) : (s.updSec f).rd r = s.rd r := rfl
theorem fd_updSec (s : State) (f : Sec → Sec) (g : Fld) : (s.updSec f).fd g = s.fd g := rfl
theorem fb_updSec (s : State) (f : Sec → Sec) (g : Fld) : (s.updSec f).fb g = s.fb g := rfl

end Sys2Proof.Machine.State

namespace Sys2Proof.Safety

open Sys2Proof.Machine

theorem keeps_withSec (s : State) (x : Sec) : Keeps [.sec] s { s with sec := x } := by
  intro p hp
  cases p
  case sec => simp at hp
  all_goals rfl

theorem keeps_updSec (s : State) (f : Sec → Sec) : Keeps [.sec] s (s.updSec f) := keeps_withSec s _

/-- A part of the state other than the register file changed: every register reads as before. -/
theorem Keeps.rd {ps : List Part} {s t : State} (h : Keeps ps s t) (hp : Part.regs ∉ ps) (r : Reg) : t.rd r = s.rd r :=
  State.rd_congr (h .regs hp) r

theorem Keeps.fd {ps : List Part} {s t : State} (h : Keeps ps s t) (hp : Part.regs ∉ ps) (f : Fld) : t.fd f = s.fd f :=
  State.fd_congr (h .regs hp) f

theorem Keeps.fb {ps : List Part} {s t : State} (h : Keeps ps s t) (hp : Part.regs ∉ ps) (f : Fld) : t.fb f = s.fb f :=
  State.fb_congr (h .regs hp) f

theorem Keeps.regsKeep {ps : List Part} {s t : State} (h : Keeps ps s t) (hp : Part.regs ∉ ps) (as : List Nat) : RegsKeep as s t :=
  RegsKeep.of_regs_eq (h .regs hp)

theorem keeps_fbw (s : State) (f : Fld) (b : Bool) : Keeps [.regs] s (s.fbw f b) := keeps_fw s f _

theorem regsKeep_fbw (s : State) (f : Fld) (b : Bool) : RegsKeep [f.reg.addr] s (s.fbw f b) := regsKeep_fw s f _

end Sys2Proof.Safety
end

section
/-! Tenants and their scrub (O44, O45). -/

namespace Sys2Proof.Machine.State

open Sys2Proof.Safety

/-- The tenant scrub as an activity of the maintenance token. -/
abbrev tenantScrubActivity : Activity := ⟨actTenantScrub, 0, 0⟩

/-! ## The scrub starts (14 R510, R515) -/

/-- The scrub's position back at the beginning, the scrub waiting for the token. -/
def scrubAsked (s : State) : State := (s.regReset Reg.SEC_SCRUB_POS).fbw Fld.SEC_STATUS_SCRUB_WAIT_TOKEN true

theorem scrubStart_eq (s : State) : s.scrubStart = s.scrubAsked.maintStart tenantScrubActivity := rfl

/-- A tenant scrub that finds the token free and nothing queued runs. -/
theorem maintStart_scrub_runs {s : State} (hq : s.ras.queue = []) (hh : s.ras.holders = []) :
    s.maintStart tenantScrubActivity = (({ s with ras := { s.ras with queue := [], holders := [tenantScrubActivity] } } : State).fbw
      Fld.SEC_STATUS_SCRUB_WAIT_TOKEN false).fbw Fld.SEC_STATUS_SCRUB_ACTIVE true := by
  have hfits : (s.maintQueue tenantScrubActivity).maintFits tenantScrubActivity = true := by
    rw [maintFits, if_pos (by decide), maintQueue, hh]
    rfl
  simp only [maintStart, maintPump, maintPumpAux, maintQueue, hq, List.nil_append, List.length_singleton] at hfits ⊢
  rw [if_pos hfits]
  simp only [actOver, maintTake, hh, List.nil_append, actEffect, actTenantScrub, actRetire]
  rfl

/-- A tenant scrub that finds the token held waits. -/
theorem maintStart_scrub_waits {s : State} (hq : s.ras.queue = []) (hh : s.ras.holders ≠ []) :
    s.maintStart tenantScrubActivity = { s with ras := { s.ras with queue := [tenantScrubActivity] } } := by
  have hfits : ({ s with ras := { s.ras with queue := [tenantScrubActivity] } } : State).maintFits tenantScrubActivity = false := by
    rw [maintFits, if_pos (by decide)]
    simpa using hh
  simp only [maintStart, maintPump, maintPumpAux, maintQueue, hq, List.nil_append, List.length_singleton]
  rw [hfits, if_neg Bool.false_ne_true]

/-- What the start of a scrub shows, and what it leaves. -/
structure ScrubStarted (s u : State) : Prop where
  pos : u.rd Reg.SEC_SCRUB_POS = 0
  keeps : Keeps [.regs, .ras] s u
  regs : RegsKeep [Reg.SEC_STATUS.addr, Reg.SEC_SCRUB_POS.addr] s u
  runs : s.ras.holders = [] → u.fb Fld.SEC_STATUS_SCRUB_ACTIVE = true ∧ u.ras.holders = [tenantScrubActivity] ∧ u.ras.queue = []
  waits : s.ras.holders ≠ [] →
    u.fb Fld.SEC_STATUS_SCRUB_WAIT_TOKEN = true ∧ u.ras.holders = s.ras.holders ∧ u.ras.queue = [tenantScrubActivity]
  tenant : u.tenantOpen = s.tenantOpen

theorem scrubStart_shows {s : State} (hq : s.ras.queue = []) : ScrubStarted s s.scrubStart := by
  have hkeeps : Keeps [.regs] s s.scrubAsked := (keeps_regReset s _).trans (keeps_fbw _ _ _)
  have hregs : RegsKeep [Reg.SEC_STATUS.addr, Reg.SEC_SCRUB_POS.addr] s s.scrubAsked :=
    ((regsKeep_regReset s _).mono (by decide)).trans ((regsKeep_fbw _ _ _).mono (by decide))
  have hras : s.scrubAsked.ras = s.ras := hkeeps .ras (by decide)
  have hpos : s.scrubAsked.rd Reg.SEC_SCRUB_POS = 0 := by
    rw [scrubAsked, fbw, rd_fw_ne _ _ _ _ (by decide), rd_regReset_self _ _ (by decide)]
    rfl
  have hwaits : s.scrubAsked.fb Fld.SEC_STATUS_SCRUB_WAIT_TOKEN = true := fb_fbw_self _ _ _ (by rfl) (by decide) (by decide)
  have htenant : s.scrubAsked.tenantOpen = s.tenantOpen := by
    rw [tenantOpen, tenantOpen, scrubAsked, fb_fbw_apart _ _ _ _ (by rfl) (by decide) (by decide) (by decide),
      fb_regReset_ne _ _ _ (by decide)]
  rw [scrubStart_eq]
  generalize s.scrubAsked = a at hkeeps hregs hras hpos hwaits htenant ⊢
  by_cases hh : s.ras.holders = []
  · rw [maintStart_scrub_runs (hras ▸ hq) (hras ▸ hh)]
    have hwith := keeps_withRas a { a.ras with queue := [], holders := [tenantScrubActivity] }
    refine ⟨?_, (hkeeps.mono (by decide)).trans ((hwith.mono (by decide)).trans
      (((keeps_fbw _ _ _).trans (keeps_fbw _ _ _)).mono (by decide))), hregs.trans ((hwith.regsKeep (by decide) _).trans
        (((regsKeep_fbw _ _ _).mono (by decide)).trans ((regsKeep_fbw _ _ _).mono (by decide)))),
      fun _ => ⟨fb_fbw_self _ _ _ (by rfl) (by decide) (by decide), ?_, ?_⟩, fun h => absurd hh h, ?_⟩
    · rw [fbw, fbw, rd_fw_ne _ _ _ _ (by decide), rd_fw_ne _ _ _ _ (by decide)]
      exact (hwith.rd (by decide) _).trans hpos
    · rw [fbw_ras, fbw_ras]
    · rw [fbw_ras, fbw_ras]
    · rw [tenantOpen, fb_fbw_apart _ _ _ _ (by rfl) (by decide) (by decide) (by decide),
        fb_fbw_apart _ _ _ _ (by rfl) (by decide) (by decide) (by decide)]
      exact (hwith.fb (by decide) _).trans htenant
  · rw [maintStart_scrub_waits (hras ▸ hq) (hras ▸ hh)]
    have hwith := keeps_withRas a { a.ras with queue := [tenantScrubActivity] }
    exact ⟨(hwith.rd (by decide) _).trans hpos, (hkeeps.mono (by decide)).trans (hwith.mono (by decide)),
      hregs.trans (hwith.regsKeep (by decide) _), fun h => absurd h hh,
      fun _ => ⟨(hwith.fb (by decide) _).trans hwaits, (congrArg Ras.holders hras :), rfl⟩, (hwith.fb (by decide) _).trans htenant⟩

/-! ## TENANT_SCRUB (14 R515) -/

section
variable {s s1 : State} {via : Via} {p : Packet} {j : Job}

theorem ras_begun (s : State) (via : Via) (j : Job) : (s.beginJob true via j).ras = s.ras := (begun_shows s via j).2.2.1

theorem tenantScrub_refused {a : Ans} (h : Starts s true via p j s1) (hop : p.base = 0x0902)
    (hcheck : firstFail [(!s1.fb Fld.SEC_STATUS_SCRUB_REQUIRED, .done), (s1.tenantOpen, .refuse 0x0902),
      (s1.fb Fld.SEC_STATUS_SCRUB_ACTIVE || s1.fb Fld.SEC_STATUS_SCRUB_WAIT_TOKEN, .err Sts.busy)] = some a) :
    exec (.tenantScrub via p) s = .next (s1.finish via a) :=
  congrArg _ (runRow_refused h (by simp [hop]) hcheck)

theorem tenantScrub_starts (h : Starts s true via p j s1) (hop : p.base = 0x0902) (hreq : s1.fb Fld.SEC_STATUS_SCRUB_REQUIRED = true)
    (hopen : s1.tenantOpen = false) (hidle : s1.fb Fld.SEC_STATUS_SCRUB_ACTIVE = false)
    (hwait : s1.fb Fld.SEC_STATUS_SCRUB_WAIT_TOKEN = false) :
    exec (.tenantScrub via p) s = .next ((s1.beginJob true via j).scrubStart.finish via .done) :=
  congrArg _ (runRow_ends h (by simp [hop]) (by simp [firstFail, hreq, hopen, hidle, hwait]) rfl)

end

end Sys2Proof.Machine.State

namespace Sys2Proof

open Sys2Proof.Machine Sys2Proof.Machine.State Sys2Proof.Safety

/-- Settles O45: the checks in their order, and what the scrub's start shows. -/
theorem tenantScrubReplies : Obligations.TenantScrubReplies := by
  unfold Obligations.TenantScrubReplies
  intro s via p j s1 h hop
  refine ⟨fun hreq _ => ?_, fun hreq hopen => ?_, fun hreq hopen hactive => ?_, fun hreq hopen hidle hwait =>
    ⟨_, tenantScrub_starts h hop hreq hopen hidle hwait, fun hq => ?_⟩⟩
  · exact tenantScrub_refused h hop (by simp [firstFail, hreq])
  · exact tenantScrub_refused h hop (by simp [firstFail, hreq, hopen])
  · exact tenantScrub_refused h hop (by simp [firstFail, hreq, hopen, hactive])
  · have hshows := scrubStart_shows (s := s1.beginJob true via j) (by rw [ras_begun, hq])
    exact ⟨hshows.pos, fun hh => (hshows.runs (by rw [ras_begun, hh])).1, fun hh => (hshows.waits (by rwa [ras_begun])).1⟩

end Sys2Proof
end

section
/-! TENANT_OPEN, TENANT_CLOSE, TENANT_SCRUB and the end of the tenant scrub (O44). -/

namespace Sys2Proof.Safety

open Sys2Proof.Machine

/-- What every step of a run keeps and one of them establishes for good, the run establishes. -/
theorem foldl_reaches {α : Type} {f : State → α → State} {P Q : State → Prop} {a : α} (hP : ∀ u b, P u → P (f u b))
    (hset : ∀ u, P u → Q (f u a)) (hkeep : ∀ u b, Q u → Q (f u b)) {l : List α} (ha : a ∈ l) {s : State} (hs : P s) : Q (l.foldl f s) :=
  foldl_sets hP hset (fun u b _ => hkeep u b) ha hs

end Sys2Proof.Safety

namespace Sys2Proof.Machine.State

open Sys2Proof.Safety

section
variable {s s1 : State} {via : Via} {p : Packet} {j : Job}

/-! ## What a command that begins leaves -/

theorem sec_begun (s : State) (via : Via) (j : Job) : (s.beginJob true via j).sec = s.sec := keeps_beginJob s true via j .sec (by decide)

theorem fuse_begun (s : State) (via : Via) (j : Job) : (s.beginJob true via j).fuse = s.fuse := keeps_beginJob s true via j .fuse (by decide)

/-- Of the registers, only the trouble log's count. -/
theorem rd_begun (s : State) (via : Via) (j : Job) {r : Reg} (hr : r.addr ≠ Reg.RAS_LOG_SEQ.addr) :
    (s.beginJob true via j).rd r = s.rd r := (beginJob_regsKeep s true via j).rd (by simpa using hr)

theorem fd_begun (s : State) (via : Via) (j : Job) {f : Fld} (hr : f.reg.addr ≠ Reg.RAS_LOG_SEQ.addr) :
    (s.beginJob true via j).fd f = s.fd f := (beginJob_regsKeep s true via j).fd (by simpa using hr)

theorem fb_begun (s : State) (via : Via) (j : Job) {f : Fld} (hr : f.reg.addr ≠ Reg.RAS_LOG_SEQ.addr) :
    (s.beginJob true via j).fb f = s.fb f := (beginJob_regsKeep s true via j).fb (by simpa using hr)

theorem now_begun (s : State) (via : Via) (j : Job) : (s.beginJob true via j).now = s.now := rd_begun s via j (by decide)

theorem crl_begun (s : State) (via : Via) (j : Job) : (s.beginJob true via j).crl = s.crl := keeps_beginJob s true via j .crl (by decide)

theorem stackOk_begun (s : State) (via : Via) (j : Job) (k : Nat) : (s.beginJob true via j).stackOk k = s.stackOk k :=
  stackOk_congr (rd_begun s via j (by decide)) (fuse_begun s via j) k

theorem drbgReady_begun (s : State) (via : Via) (j : Job) : (s.beginJob true via j).drbgReady = s.drbgReady := by
  rw [drbgReady, drbgReady, fb_begun s via j (by decide), sec_begun]

theorem fd_begun_ring (s : State) (via : Via) (j : Job) {n : Nat} (hn : n < 128) :
    (s.beginJob true via j).ringState n = s.ringState n :=
  congrArg (bits · _ _) (rd_beginJob_ring s true via j (show 0x201014 + 0x40 * n < 0x700000 by omega))

/-- A command that begins on the MCC leaves the units behind rings alone. -/
theorem keeps_begun_mcc (s : State) (j : Job) : Keeps [.mcc, .regs, .log, .out, .hif] s (s.beginJob true .mcc j) := by
  have hmark : Keeps [.mcc, .regs, .log, .out, .hif] s (s.setJob .mcc { j with begun := true }) := (keeps_withMcc s _).mono (by simp)
  simp only [beginJob]
  split
  · exact hmark.trans ((keeps_trouble _ _ _ _ _ _).mono (by simp))
  · exact hmark

/-! ## The DRBG (14 R520) -/

/-- A request joins those that wait. -/
theorem drbgWait_shows (s : State) (m : Option (List Byte)) :
    (s.drbgWait m).sec = { s.sec with waiters := s.sec.waiters ++ [⟨s.now, m⟩] } ∧ Keeps [.regs, .sec] s (s.drbgWait m) ∧
      RegsKeep [Reg.SEC_TRNG_STATUS.addr] s (s.drbgWait m) := by
  have hwaits := keeps_updSec s (fun x => { x with waiters := s.sec.waiters ++ [⟨s.now, m⟩] })
  exact ⟨rfl, (hwaits.mono (by decide)).trans ((keeps_fw _ _ _).mono (by decide)),
    (hwaits.regsKeep (by decide) _).trans (regsKeep_fw _ Fld.SEC_TRNG_STATUS_WAITERS _)⟩

/-- A command other than SEC_SPDM that draws from a DRBG that gives no output waits. -/
theorem drbgCmd_waits (h : p.base ≠ 0x0903) (hready : s.drbgReady = false) : s.drbgCmd p = (s.drbgWait none, none) := by
  simp only [drbgCmd, drbgDo, if_neg h, hready, Bool.false_eq_true, if_false, Bool.not_false, if_true]

/-! ## TENANT_OPEN (14 R507, R508) -/

/-- The checks of TENANT_OPEN. -/
def tenantOpenCheck (p : Packet) (s : State) : Option Ans :=
  let conf := p.expert && bit (p.u8 28) 0
  firstFail [(p.expert && !conf && p.u32 24 != 0, .param),
    (s.fb Fld.SEC_STATUS_SCRUB_REQUIRED || s.fb Fld.SEC_STATUS_SCRUB_ACTIVE, .refuse 0x0901),
    (s.tenantOpen, .refuse 0x0902), (s.lc == 0 || s.lc == 3, .refuse 0x0903),
    (s.fb Fld.SEC_STATUS_DEBUG_OPEN, .refuse 0x0904),
    (conf && !s.sec.sessions.any (fun x => !x.i3c && x.done && x.id == p.u32 24), .refuse 0x0906)]

theorem tenantOpenCheck_rest (hparam : p.expert = true → (p.expert && bit (p.u8 28) 0) = false → p.u32 24 = 0) {a : Option Ans}
    (h : firstFail [(s.fb Fld.SEC_STATUS_SCRUB_REQUIRED || s.fb Fld.SEC_STATUS_SCRUB_ACTIVE, .refuse 0x0901),
      (s.tenantOpen, .refuse 0x0902), (s.lc == 0 || s.lc == 3, .refuse 0x0903),
      (s.fb Fld.SEC_STATUS_DEBUG_OPEN, .refuse 0x0904),
      ((p.expert && bit (p.u8 28) 0) && !s.sec.sessions.any (fun x => !x.i3c && x.done && x.id == p.u32 24), .refuse 0x0906)] = a) :
    tenantOpenCheck p s = a := by
  have hfine : (p.expert && !(p.expert && bit (p.u8 28) 0) && p.u32 24 != 0) = false := by
    cases hexpert : p.expert <;> cases hconf : bit (p.u8 28) 0 <;> simp_all
  rw [tenantOpenCheck]
  simp only [firstFail, hfine, Bool.false_eq_true, if_false] at h ⊢
  exact h

theorem tenantOpen_refused {a : Ans} (h : Starts s true via p j s1) (hop : p.base = 0x0900) (hcheck : tenantOpenCheck p s1 = some a) :
    exec (.tenantOpen via p) s = .next (s1.finish via a) := congrArg _ (runRow_refused h (by simp [hop]) hcheck)

theorem tenantOpen_waits (h : Starts s true via p j s1) (hop : p.base = 0x0900) (hcheck : tenantOpenCheck p s1 = none)
    (hready : s1.drbgReady = false) : exec (.tenantOpen via p) s = .next ((s1.beginJob true via j).drbgWait none) :=
  congrArg _ (runRow_goesOn h (by simp [hop]) hcheck (drbgCmd_waits (by simp [hop]) (by rw [drbgReady_begun, hready])))

theorem tenantOpen_opens (h : Starts s true via p j s1) (hop : p.base = 0x0900) (hcheck : tenantOpenCheck p s1 = none)
    (hready : s1.drbgReady = true) :
    exec (.tenantOpen via p) s = .next (((s1.beginJob true via j).tenantOpenDo p).1.finish via .done) := by
  refine congrArg _ (runRow_ends h (by simp [hop]) hcheck ?_)
  have hbegun : (s1.beginJob true via j).drbgReady = true := by rw [drbgReady_begun, hready]
  simp only [drbgCmd, drbgDo, hop, hbegun, Bool.false_eq_true, if_false, Bool.not_true, if_true, show (0x0900 : Nat) ≠ 0x0903 by decide]
  rfl

/-- The tenant's own state and keys stand, and its registers show it (14 R508, R516). -/
def tenantShown (s : State) (x : Sec) (conf : Bool) : State :=
  ((((({ s with sec := x } : State).scrubRequired true).fbw Fld.SEC_STATUS_TENANT_OPEN true).fbw Fld.SEC_STATUS_CONF conf).fbw
    Fld.HIF_CTRL_CONF conf)

theorem tenantShown_shows (s : State) (x : Sec) (conf : Bool) :
    let u := s.tenantShown x conf
    u.tenantOpen = true ∧ u.fb Fld.SEC_STATUS_SCRUB_REQUIRED = true ∧ u.fb Fld.RST_BKP0_SCRUB_REQUIRED = true ∧
      u.fb Fld.SEC_STATUS_CONF = conf ∧ u.fb Fld.HIF_CTRL_CONF = conf ∧ u.sec = x ∧ Keeps [.regs, .sec] s u ∧
      RegsKeep [Reg.SEC_STATUS.addr, Reg.RST_BKP0.addr, Reg.HIF_CTRL.addr] s u := by
  have hsec := keeps_withSec s x
  refine ⟨?_, ?_, ?_, ?_, ?_, rfl, ?_, ?_⟩
  · rw [tenantOpen, tenantShown, fb_fbw_ne _ _ _ _ (by decide), fb_fbw_apart _ _ _ _ (by rfl) (by decide) (by decide) (by decide),
      fb_fbw_self _ _ _ (by rfl) (by decide) (by decide)]
  · rw [tenantShown, fb_fbw_ne _ _ _ _ (by decide), fb_fbw_apart _ _ _ _ (by rfl) (by decide) (by decide) (by decide),
      fb_fbw_apart _ _ _ _ (by rfl) (by decide) (by decide) (by decide), scrubRequired, fb_fbw_ne _ _ _ _ (by decide),
      fb_fbw_self _ _ _ (by rfl) (by decide) (by decide)]
  · rw [tenantShown, fb_fbw_ne _ _ _ _ (by decide), fb_fbw_ne _ _ _ _ (by decide), fb_fbw_ne _ _ _ _ (by decide), scrubRequired,
      fb_fbw_self _ _ _ (by rfl) (by decide) (by decide)]
  · rw [tenantShown, fb_fbw_ne _ _ _ _ (by decide), fb_fbw_self _ _ _ (by rfl) (by decide) (by decide)]
  · rw [tenantShown, fb_fbw_self _ _ _ (by rfl) (by decide) (by decide)]
  · exact (hsec.mono (by decide)).trans ((((((keeps_fbw _ _ _).trans (keeps_fbw _ _ _)).trans (keeps_fbw _ _ _)).trans
      (keeps_fbw _ _ _)).trans (keeps_fbw _ _ _)).mono (by decide))
  · exact (hsec.regsKeep (by decide) _).trans ((((((regsKeep_fbw _ _ _).mono (by decide)).trans
      ((regsKeep_fbw _ _ _).mono (by decide))).trans ((regsKeep_fbw _ _ _).mono (by decide))).trans
      ((regsKeep_fbw _ _ _).mono (by decide))).trans ((regsKeep_fbw _ _ _).mono (by decide)))

/-- TENANT_OPEN shows the tenant and starts Creel empty, with the stacks in service. -/
theorem tenantOpenDo_eq (s : State) (p : Packet) : ∃ x : Sec, x.tenant = p.u64 16 ∧ (s.tenantOpenDo p).1 =
    { s.tenantShown x (p.expert && bit (p.u8 28) 0) with crl := { Crl.empty with homes := (List.range 8).filter s.stackOk } } := by
  unfold tenantOpenDo
  extract_lets conf ems n tms keyed required confShown opened
  obtain ⟨-, -, -, -, -, -, hkeeps, hregs⟩ := tenantShown_shows s keyed.sec conf
  have hhomes : (s.tenantShown keyed.sec conf).stackOk = s.stackOk :=
    funext (stackOk_congr (hregs.rd (by decide)) (hkeeps .fuse (by decide)))
  refine ⟨keyed.sec, rfl, ?_⟩
  rw [← hhomes]
  rfl

theorem tenantOpenDo_shows (s : State) (p : Packet) :
    let u := (s.tenantOpenDo p).1
    let conf := p.expert && bit (p.u8 28) 0
    u.tenantOpen = true ∧ u.fb Fld.SEC_STATUS_SCRUB_REQUIRED = true ∧ u.fb Fld.RST_BKP0_SCRUB_REQUIRED = true ∧
      u.fb Fld.SEC_STATUS_CONF = conf ∧ u.fb Fld.HIF_CTRL_CONF = conf ∧ u.sec.tenant = p.u64 16 ∧
      u.crl = { Crl.empty with homes := (List.range 8).filter s.stackOk } ∧ Keeps [.regs, .sec, .crl] s u ∧
      RegsKeep [Reg.SEC_STATUS.addr, Reg.RST_BKP0.addr, Reg.HIF_CTRL.addr] s u := by
  obtain ⟨x, htenant, hopened⟩ := tenantOpenDo_eq s p
  rw [hopened]
  generalize (p.expert && bit (p.u8 28) 0) = conf
  obtain ⟨hopen, hscrub, hmirror, hconf, hhif, hsec, hkeeps, hregs⟩ := tenantShown_shows s x conf
  generalize s.tenantShown x conf = w at hopen hscrub hmirror hconf hhif hsec hkeeps hregs ⊢
  have hcrl := keeps_withCrl w { Crl.empty with homes := (List.range 8).filter s.stackOk }
  exact ⟨(hcrl.fb (by decide) _).trans hopen, (hcrl.fb (by decide) _).trans hscrub, (hcrl.fb (by decide) _).trans hmirror,
    (hcrl.fb (by decide) _).trans hconf, (hcrl.fb (by decide) _).trans hhif, (congrArg Sec.tenant hsec).trans htenant, rfl,
    (hkeeps.mono (by decide)).trans (hcrl.mono (by decide)), hregs.trans (hcrl.regsKeep (by decide) _)⟩

/-! ## TENANT_CLOSE (14 R509) -/

/-- The MCC's reply ends its command. -/
theorem mcc_cur_mccReply (s : State) (a : Ans) : (s.mccReply a).mcc.cur = none := by
  rw [mccReply]
  split
  · assumption
  · simp only
    split
    · rfl
    · have hirq : ∀ u : State, (u.replyIrq 1).mcc = u.mcc := fun u => keeps_replyIrq u 1 .mcc (by decide)
      split <;> split <;> simp only [hirq, fw_mcc] <;>
        exact congrArg Mcc.cur (keeps_sealRecord _ _ _ _ .mcc (by decide))

/-- A window disabled. -/
def windowShut (s : State) (w : Nat) : State := s.fw (Fld.ATY_INWIN_CTRL_PERM w) (clrBit (s.fd (Fld.ATY_INWIN_CTRL_PERM w)) 0)

/-- The tenant's windows disabled. -/
def windowsShut (s : State) : State := (List.range 16).foldl windowShut s

/-- The registers of the windows' permissions. -/
def windowAddrs : List Nat := (List.range 16).map (fun w => (Reg.ATY_INWIN_CTRL w).addr)

theorem windowsShut_frame (s : State) : Keeps [.regs] s s.windowsShut ∧ RegsKeep windowAddrs s s.windowsShut :=
  ⟨Keeps.foldl s fun u _ _ => keeps_fw u _ _, RegsKeep.foldl s fun u _ hw => (regsKeep_fw u _ _).mono
    (List.cons_subset.mpr ⟨List.mem_map_of_mem (f := fun w => (Reg.ATY_INWIN_CTRL w).addr) hw, List.nil_subset _⟩)⟩

/-- A window whose valid bit is cleared grants nothing. -/
theorem bit_perm_windowShut (s : State) (w : Nat) : bit ((s.windowShut w).fd (Fld.ATY_INWIN_CTRL_PERM w)) 0 = false := by
  rw [windowShut, fd_fw_self _ _ _ (show 0 + 5 ≤ 64 by decide) (show 64 ≤ 64 by decide), bit, clrBit, setBits, show (Fld.ATY_INWIN_CTRL_PERM w).w = 5 from rfl]
  simp only [beq_eq_false_iff_ne]
  omega

theorem windowsShut_shut (s : State) {w : Nat} (hw : w < 16) : bit (s.windowsShut.fd (Fld.ATY_INWIN_CTRL_PERM w)) 0 = false := by
  refine foldl_sets (P := fun _ => True) (Q := fun u => bit (u.fd (Fld.ATY_INWIN_CTRL_PERM w)) 0 = false) (a := w)
    (fun _ _ _ => trivial) (fun u _ => bit_perm_windowShut u w) (fun u v hv hu => ?_) (List.mem_range.mpr hw) trivial
  rw [windowShut, fd_fw_ne _ _ _ _ (show 0x2431008 + 0x10 * w ≠ 0x2431008 + 0x10 * v by omega)]
  exact hu

/-- Every unit behind a ring is idle, its ring closed. -/
def UnitsIdle (s : State) : Prop := ∀ n, n < 128 → s.ringState n = closed ∧ (s.engOf n).cur = none ∧ (s.tile n).sb = []

/-- The units behind rings that are not idle. -/
def unitsOpen (s : State) : List Nat :=
  (List.range 128).filter (fun n => s.ringState n != closed || (s.engOf n).cur.isSome || !(s.tile n).sb.isEmpty)

/-- A unit behind a ring stopped. -/
def unitStopped (s : State) (n : Nat) : State :=
  if n < 32 then ((s.tileStop n).pump n).tileDrained n |>.abortRing n else (s.abortCur n).abortRing n

theorem closeUnits_eq (s : State) :
    s.closeUnits = let u := ((s.laneDisable.vidCloseRings 15).updSec (fun x => { x with closing := 2 })).windowsShut
      u.unitsOpen.foldl unitStopped u := rfl

theorem unitsOpen_idle (h : UnitsIdle s) : s.unitsOpen = [] :=
  List.filter_eq_nil_iff.mpr fun n hn => by
    obtain ⟨hstate, hcur, hsb⟩ := h n (List.mem_range.mp hn)
    simp [hstate, hcur, hsb]

/-- Where the lane is off, no session open and every unit idle, the first steps only disable the windows. -/
theorem closeUnits_idle (hlane : s.lane = 0) (hvid : s.vid.sess = []) (hidle : UnitsIdle s) :
    s.closeUnits = (s.updSec (fun x => { x with closing := 2 })).windowsShut := by
  have hclosed : s.laneDisable.vidCloseRings 15 = s := by
    rw [laneDisable, if_pos hlane, vidCloseRings, hvid]
    rfl
  obtain ⟨hkeeps, hregs⟩ := windowsShut_frame (s.updSec (fun x => { x with closing := 2 }))
  have hshut : UnitsIdle (s.updSec (fun x => { x with closing := 2 })).windowsShut := fun n hn => by
    obtain ⟨hstate, hcur, hsb⟩ := hidle n hn
    refine ⟨(hregs.fd ?_).trans hstate, (congrArg Engine.cur (hkeeps.engOf (by decide) n)).trans hcur,
      (congrArg Tile.sb (hkeeps.tile (by decide) n)).trans hsb⟩
    simp only [windowAddrs, List.mem_map, List.mem_range, not_exists, not_and]
    intro w _
    simp only [Fld.HIF_RING_STATE_STATE, Reg.ATY_INWIN_CTRL, Reg.HIF_RING_STATE]
    omega
  simp only [closeUnits_eq, hclosed, unitsOpen_idle hshut, List.foldl_nil]

/-- Creel and SRAM cleared, the tenant closed. -/
def tenantCleared (s : State) : State :=
  let s := s.updSec (fun x => { x with closing := 0, grants := x.grants ++ s.crlGrants })
  let s := (s.crlClear.clearSram (2 ^ 48) (2 ^ 28)).clearSram (2 * 2 ^ 48) (2 ^ 28)
  s.fbw Fld.SEC_STATUS_TENANT_OPEN false

/-- TENANT_CLOSE answered, where the MCC's command is one. -/
def closeReplied (s : State) : State :=
  match s.mcc.cur with
  | some j => if j.begun && j.pkt.base == 0x0901 then s.mccReply .done else s
  | none => s

theorem sec_updSec (s : State) (f : Sec → Sec) : (s.updSec f).sec = f s.sec := rfl

theorem hif_updSec (s : State) (f : Sec → Sec) : (s.updSec f).hif = s.hif := rfl

/-- The bounce windows of the tenant gone. -/
def bounceForgotten (s : State) : State := { s with hif := { s.hif with bounce := [], stage := [] } }

/-- Windows and keys of the tenant gone. -/
def tenantForgotten (s : State) : State :=
  ((s.bounceForgotten.fbw Fld.SEC_STATUS_CONF false).fbw Fld.HIF_CTRL_CONF false).updSec (fun x => { x with session := 0, tenant := 0 })

theorem closeFinish_eq (s : State) : s.closeFinish = s.tenantCleared.scrubStart.closeReplied.tenantForgotten := rfl

/-- The registers of the granted pages' counts. -/
def grantAddrs : List Nat := (List.range 8).map (fun u => (Reg.CRL_POOL_GRANTED u).addr)

theorem crlClear_frame (s : State) : s.crlClear.crl = { Crl.empty with homes := s.crl.homes } ∧ Keeps [.crl, .regs] s s.crlClear ∧
    RegsKeep grantAddrs s s.crlClear := by
  have hcrl := keeps_withCrl s { Crl.empty with homes := s.crl.homes }
  have hreset : Keeps [.regs] { s with crl := { Crl.empty with homes := s.crl.homes } } s.crlClear := Keeps.foldl _ fun u k _ => keeps_regReset u _
  refine ⟨hreset .crl (by decide), (hcrl.mono (by decide)).trans (hreset.mono (by decide)), (hcrl.regsKeep (by decide) _).trans ?_⟩
  exact RegsKeep.foldl _ fun u k hk => (regsKeep_regReset u _).mono
    (List.cons_subset.mpr ⟨List.mem_map_of_mem (f := fun u => (Reg.CRL_POOL_GRANTED u).addr) hk, List.nil_subset _⟩)

theorem keeps_clearSram (s : State) (k n : Nat) : Keeps [.mem, .ecc] s (s.clearSram k n) := by
  intro x hx
  cases x
  case mem => simp at hx
  case ecc => simp at hx
  all_goals rfl

theorem tenantCleared_shows (s : State) :
    let u := s.tenantCleared
    u.tenantOpen = false ∧ u.sec.closing = 0 ∧ u.crl = { Crl.empty with homes := s.crl.homes } ∧
      Keeps [.sec, .crl, .regs, .mem, .ecc] s u ∧ RegsKeep (Reg.SEC_STATUS.addr :: grantAddrs) s u := by
  intro u
  let a := s.updSec (fun x => { x with closing := 0, grants := x.grants ++ s.crlGrants })
  obtain ⟨hcrl, hclear, hregs⟩ := crlClear_frame a
  have hsec := keeps_updSec s (fun x => { x with closing := 0, grants := x.grants ++ s.crlGrants })
  have hsram : Keeps [.mem, .ecc] a.crlClear ((a.crlClear.clearSram (2 ^ 48) (2 ^ 28)).clearSram (2 * 2 ^ 48) (2 ^ 28)) :=
    (keeps_clearSram _ _ _).trans (keeps_clearSram _ _ _)
  have hshown : Keeps [.regs] _ u := keeps_fbw _ Fld.SEC_STATUS_TENANT_OPEN false
  have hafter := (hsram.mono (qs := [.mem, .ecc, .regs]) (by decide)).trans (hshown.mono (by decide))
  refine ⟨fb_fbw_self _ _ _ (by rfl) (by decide) (by decide), congrArg Sec.closing ((hafter .sec (by decide)).trans (hclear .sec (by decide))),
    (hafter .crl (by decide)).trans hcrl,
    (hsec.mono (by decide)).trans ((hclear.mono (by decide)).trans (hafter.mono (by decide))),
    (hsec.regsKeep (by decide) _).trans ((hregs.mono (by simp)).trans ((hsram.regsKeep (by decide) _).trans
      ((regsKeep_fbw _ Fld.SEC_STATUS_TENANT_OPEN false).mono (List.cons_subset_cons _ (List.nil_subset _)))))⟩

theorem closeReplied_ends (hcur : s.mcc.cur = some j) (hbegun : j.begun = true) (hop : j.pkt.base = 0x0901) :
    s.closeReplied = s.mccReply .done := by
  rw [closeReplied, hcur]
  simp [hbegun, hop]

theorem tenantForgotten_shows (s : State) :
    let u := s.tenantForgotten
    u.fb Fld.SEC_STATUS_CONF = false ∧ u.fb Fld.HIF_CTRL_CONF = false ∧ u.hif.bounce = [] ∧ u.sec.session = 0 ∧ u.sec.tenant = 0 ∧
      u.sec.closing = s.sec.closing ∧ u.tenantOpen = s.tenantOpen ∧
      u.fb Fld.SEC_STATUS_SCRUB_ACTIVE = s.fb Fld.SEC_STATUS_SCRUB_ACTIVE ∧
      u.fb Fld.SEC_STATUS_SCRUB_WAIT_TOKEN = s.fb Fld.SEC_STATUS_SCRUB_WAIT_TOKEN ∧
      Keeps [.hif, .regs, .sec] s u ∧ RegsKeep [Reg.SEC_STATUS.addr, Reg.HIF_CTRL.addr] s u := by
  intro u
  have hhif : Keeps [.hif] s s.bounceForgotten := keeps_withHif s { s.hif with bounce := [], stage := [] }
  have hgone : s.bounceForgotten.hif.bounce = [] := rfl
  have hu : u = ((s.bounceForgotten.fbw Fld.SEC_STATUS_CONF false).fbw Fld.HIF_CTRL_CONF false).updSec
    (fun x => { x with session := 0, tenant := 0 }) := rfl
  clear_value u
  subst hu
  generalize s.bounceForgotten = a at hhif hgone ⊢
  have hsec := keeps_updSec ((a.fbw Fld.SEC_STATUS_CONF false).fbw Fld.HIF_CTRL_CONF false) (fun x => { x with session := 0, tenant := 0 })
  have hshown : Keeps [.regs] a ((a.fbw Fld.SEC_STATUS_CONF false).fbw Fld.HIF_CTRL_CONF false) := (keeps_fbw _ _ _).trans (keeps_fbw _ _ _)
  have hother : ∀ f : Fld, f.reg = Reg.SEC_STATUS → f.lo + f.w ≤ 26 ∨ 27 ≤ f.lo → f.lo + f.w ≤ 32 → (((a.fbw Fld.SEC_STATUS_CONF false).fbw Fld.HIF_CTRL_CONF false).updSec
      (fun x => { x with session := 0, tenant := 0 })).fb f = s.fb f := fun f hr hsep hw => by
    refine (hsec.fb (by decide) f).trans (Eq.trans ?_ (hhif.fb (by decide) f))
    rw [fb_fbw_ne _ _ _ _ (by rw [hr]; decide), fb_fbw_apart _ _ _ _ hr hsep (by rw [hr]; exact hw) (by rw [hr]; decide)]
  have hasec : a.sec = s.sec := hhif .sec (by decide)
  refine ⟨?_, ?_, by rw [hif_updSec, fbw_hif, fbw_hif, hgone], by rw [sec_updSec], by rw [sec_updSec],
    by rw [sec_updSec, fbw_sec, fbw_sec, hasec], hother _ (by rfl) (by decide) (by decide), hother _ (by rfl) (by decide) (by decide),
    hother _ (by rfl) (by decide) (by decide), (hhif.mono (by decide)).trans ((hshown.mono (by decide)).trans (hsec.mono (by decide))),
    (hhif.regsKeep (by decide) _).trans ((((regsKeep_fbw a _ _).mono (by decide)).trans ((regsKeep_fbw _ _ _).mono (by decide))).trans
      (hsec.regsKeep (by decide) _))⟩
  · refine (hsec.fb (by decide) _).trans ?_
    rw [fb_fbw_ne _ _ _ _ (by decide), fb_fbw_self _ _ _ (by rfl) (by decide) (by decide)]
  · exact (hsec.fb (by decide) _).trans (fb_fbw_self _ _ _ (by rfl) (by decide) (by decide))

/-- No window's permissions stand in a register that the last steps of TENANT_CLOSE write. -/
theorem perm_notMem (w : Nat) (hw : w < 16) : (Fld.ATY_INWIN_CTRL_PERM w).reg.addr ∉
    Reg.HIF_CTRL.addr :: Reg.MCC_STATUS.addr :: Reg.SEC_SCRUB_POS.addr :: Reg.SEC_STATUS.addr :: grantAddrs := by
  simp only [Fld.ATY_INWIN_CTRL_PERM, Reg.ATY_INWIN_CTRL, grantAddrs, Reg.HIF_CTRL, Reg.MCC_STATUS, Reg.SEC_SCRUB_POS, Reg.SEC_STATUS,
    Reg.CRL_POOL_GRANTED, List.mem_cons, List.mem_map, List.mem_range, not_or, not_exists, not_and]
  refine ⟨by omega, by omega, by omega, by omega, fun u hu => by omega⟩

theorem cleared_addrs : Reg.SEC_STATUS.addr :: grantAddrs ⊆
    Reg.HIF_CTRL.addr :: Reg.MCC_STATUS.addr :: Reg.SEC_SCRUB_POS.addr :: Reg.SEC_STATUS.addr :: grantAddrs :=
  fun _ h => .tail _ (.tail _ (.tail _ h))

/-- The last steps of TENANT_CLOSE with its command on the MCC and no activity queued. -/
theorem closeFinish_shows (hq : s.ras.queue = []) (hcur : s.mcc.cur = some j) (hbegun : j.begun = true) (hop : j.pkt.base = 0x0901) :
    let u := s.closeFinish
    u.tenantOpen = false ∧ u.fb Fld.SEC_STATUS_CONF = false ∧ u.fb Fld.HIF_CTRL_CONF = false ∧ u.hif.bounce = [] ∧ u.sec.session = 0 ∧
      u.sec.tenant = 0 ∧ u.sec.closing = 0 ∧ u.crl = { Crl.empty with homes := s.crl.homes } ∧ u.mcc.cur = none ∧
      (s.ras.holders = [] → u.fb Fld.SEC_STATUS_SCRUB_ACTIVE = true) ∧ (s.ras.holders ≠ [] → u.fb Fld.SEC_STATUS_SCRUB_WAIT_TOKEN = true) ∧
      RegsKeep (Reg.HIF_CTRL.addr :: Reg.MCC_STATUS.addr :: Reg.SEC_SCRUB_POS.addr :: Reg.SEC_STATUS.addr :: grantAddrs) s u := by
  obtain ⟨hopen, hclosing, hcrl, hcleared, hclearedRegs⟩ := tenantCleared_shows s
  rw [closeFinish_eq]
  generalize s.tenantCleared = a at hopen hclosing hcrl hcleared hclearedRegs ⊢
  have hras : a.ras = s.ras := hcleared .ras (by decide)
  have hstart := scrubStart_shows (s := a) (by rw [hras, hq])
  generalize a.scrubStart = b at hstart ⊢
  have hbcur : b.mcc.cur = some j := by rw [hstart.keeps .mcc (by decide), hcleared .mcc (by decide), hcur]
  rw [closeReplied_ends hbcur hbegun hop]
  obtain ⟨hreplied, hrepliedRegs⟩ := mccReply_frame b .done
  have hended := mcc_cur_mccReply b .done
  generalize b.mccReply .done = c at hreplied hrepliedRegs hended ⊢
  obtain ⟨hconf, hhifConf, hbounce, hsession, htenant, hclosed, hstill, hactive, hwait, hforgot, hforgotRegs⟩ := tenantForgotten_shows c
  have hsec : c.sec = a.sec := (hreplied .sec (by decide)).trans (hstart.keeps .sec (by decide))
  refine ⟨hstill.trans ((hrepliedRegs.fb (by decide)).trans (hstart.tenant.trans hopen)), hconf, hhifConf, hbounce, hsession, htenant,
    by rw [hclosed, hsec, hclosing], ?_, (congrArg Mcc.cur (hforgot .mcc (by decide))).trans hended,
    fun hh => hactive.trans ((hrepliedRegs.fb (by decide)).trans (hstart.runs (by rw [hras, hh])).1),
    fun hh => hwait.trans ((hrepliedRegs.fb (by decide)).trans (hstart.waits (by rwa [hras])).1),
    ((hclearedRegs.mono cleared_addrs).trans (hstart.regs.mono (by simp))).trans ((hrepliedRegs.mono (by simp)).trans (hforgotRegs.mono (by simp)))⟩
  exact (hforgot .crl (by decide)).trans ((hreplied .crl (by decide)).trans ((hstart.keeps .crl (by decide)).trans hcrl))

theorem tenantClose_refused {a : Ans} (h : Starts s true via p j s1) (hop : p.base = 0x0901)
    (hcheck : firstFail [(!s1.tenantOpen, .refuse 0x0906)] = some a) : exec (.tenantClose via p) s = .next (s1.finish via a) :=
  congrArg _ (runRow_refused h (by simp [hop]) hcheck)

theorem srvWorks_begun (s : State) (via : Via) (j : Job) : (s.beginJob true via j).srvWorks = s.srvWorks := by
  have hstate : (s.beginJob true via j).srvState = s.srvState := fd_begun s via j (by decide)
  rw [srvWorks, srvWorks, hstate]

/-- A TENANT_CLOSE of a module whose serving engine and units are idle. -/
theorem tenantClose_closes (h : Starts s true via p j s1) (hop : p.base = 0x0901) (hopen : s1.tenantOpen = true)
    (hsrv : s1.srvWorks = false) (hreset : s1.resetting = false) (hlane : s1.lane = 0) (hvid : s1.vid.sess = [])
    (hidle : UnitsIdle (s1.beginJob true via j)) :
    exec (.tenantClose via p) s = .next
      (((s1.beginJob true via j).updSec (fun x => { x with closing := 1 })).updSec (fun x => { x with closing := 2 })).windowsShut.closeFinish := by
  refine congrArg _ (runRow_goesOn h (by simp [hop]) (by simp [firstFail, hopen]) ?_)
  have hkeeps := keeps_beginJob s1 true via j
  have hbsrv := srvWorks_begun s1 via j
  have hblane : (s1.beginJob true via j).lane = 0 := (fd_begun s1 via j (by decide)).trans hlane
  have hbvid : (s1.beginJob true via j).vid.sess = [] := by rw [hkeeps .vid (by decide), hvid]
  have hbreset : (s1.beginJob true via j).resetting = false := by rw [resetting, hkeeps .tiles (by decide)]; exact hreset
  generalize s1.beginJob true via j = b at hidle hbsrv hblane hbvid hbreset ⊢
  have hasked : (b.updSec (fun x => { x with closing := 1 })).srvWorks = false := hbsrv.trans hsrv
  have hunits := closeUnits_idle (s := b.updSec (fun x => { x with closing := 1 })) hblane hbvid hidle
  have hshut := (windowsShut_frame ((b.updSec (fun x => { x with closing := 1 })).updSec (fun x => { x with closing := 2 }))).1
  have hclosing : (((b.updSec (fun x => { x with closing := 1 })).updSec (fun x => { x with closing := 2 })).windowsShut).sec.closing = 2 :=
    congrArg Sec.closing (hshut .sec (by decide))
  have hstill : (((b.updSec (fun x => { x with closing := 1 })).updSec (fun x => { x with closing := 2 })).windowsShut).resetting = false :=
    (congrArg (fun l : List (Nat × Tile) => l.any (fun e => e.2.resetting)) (hshut .tiles (by decide))).trans hbreset
  have hone : (b.updSec (fun x => { x with closing := 1 })).sec.closing = 1 := rfl
  simp only [hasked, Bool.false_eq_true, if_false, closeStep, hone, Bool.not_false, decide_true, Bool.and_true, if_true, hunits, hclosing, hstill]

/-! ## The end of the scrub (14 R510) -/

/-- No byte that reads 0 is changed. -/
def OnlyZeroes (s u : State) : Prop := ∀ a, s.byte a = 0 → u.byte a = 0

theorem OnlyZeroes.trans {t u : State} (h : OnlyZeroes s t) (h' : OnlyZeroes t u) : OnlyZeroes s u := fun a ha => h' a (h a ha)

theorem OnlyZeroes.foldl {α : Type} {f : State → α → State} (h : ∀ u a, OnlyZeroes u (f u a)) (l : List α) (s : State) :
    OnlyZeroes s (l.foldl f s) := List.foldlRecOn l f (fun _ ha => ha) (fun u hu a _ => hu.trans (h u a))

theorem onlyZeroes_of_keeps {ps : List Part} {t : State} (h : Keeps ps s t) (hp : Part.mem ∉ ps) : OnlyZeroes s t :=
  fun a ha => (congrArg (Cells.get 0 a) (h .mem hp)).trans ha

theorem onlyZeroes_zeroHbm (s : State) (k n : Nat) : OnlyZeroes s (s.zeroHbm k n) := fun a ha => by
  obtain ⟨hinside, houtside⟩ := zeroHbm_zeroes s k n
  by_cases h : a < k ∨ k + n ≤ a
  · rw [houtside a h, ha]
  · obtain ⟨i, rfl⟩ := Nat.exists_eq_add_of_le (show k ≤ a by omega)
    exact hinside i (by omega)

theorem keeps_zeroHbm (s : State) (k n : Nat) : Keeps [.mem, .ecc] s (s.zeroHbm k n) := keeps_clearSram s k n

/-- A stack's scrub regions zeroed: only memory changes, and of it only to 0; the allocatable region reads 0. -/
theorem scrubZero_shows (s : State) (st : Nat) :
    let u := s.scrubZero st
    Keeps [.mem, .ecc] s u ∧ OnlyZeroes s u ∧ ∀ a, hbmKey st 0 ≤ a → a < hbmKey st 0 + s.allocEnd st → u.byte a = 0 := by
  have hreserve : ∀ (u : State) (c : Bool) (k n : Nat), Keeps [.mem, .ecc] u (if c then u.zeroHbm k n else u) ∧
      OnlyZeroes u (if c then u.zeroHbm k n else u) := fun u c k n => by
    cases c
    · exact ⟨Keeps.refl _ u, fun a ha => ha⟩
    · exact ⟨keeps_zeroHbm u k n, onlyZeroes_zeroHbm u k n⟩
  let zeroed := s.zeroHbm (hbmKey st 0) (s.allocEnd st)
  obtain ⟨hkeeps, honly⟩ := hreserve zeroed (zeroed.scrubRegion st 0x840000000) (hbmKey st 0x840000000) 0x40000000
  let upper := if zeroed.scrubRegion st 0x840000000 then zeroed.zeroHbm (hbmKey st 0x840000000) 0x40000000 else zeroed
  obtain ⟨hkeeps', honly'⟩ := hreserve upper (upper.scrubRegion st 0x8C0000000) (hbmKey st 0x8C0000000) 0x40000000
  refine ⟨(keeps_zeroHbm s _ _).trans (hkeeps.trans hkeeps'), (onlyZeroes_zeroHbm s _ _).trans (honly.trans honly'), fun a hlo hhi => ?_⟩
  obtain ⟨i, rfl⟩ := Nat.exists_eq_add_of_le hlo
  exact honly' _ (honly _ ((zeroHbm_zeroes s _ _).1 i (by omega)))

/-- Every stack in service scrubbed. -/
def stacksScrubbed (s : State) : State := ((List.range 8).filter s.stackOk).foldl scrubZero s

theorem stacksScrubbed_shows (s : State) :
    let u := s.stacksScrubbed
    Keeps [.mem, .ecc] s u ∧ OnlyZeroes s u ∧
      ∀ st, st < 8 → s.stackOk st = true → ∀ a, hbmKey st 0 ≤ a → a < hbmKey st 0 + s.allocEnd st → u.byte a = 0 := by
  refine ⟨Keeps.foldl s fun u st _ => (scrubZero_shows u st).1, OnlyZeroes.foldl (fun u st => (scrubZero_shows u st).2.1) _ s,
    fun st hst hok a hlo hhi => ?_⟩
  have hmem : st ∈ (List.range 8).filter s.stackOk := List.mem_filter.mpr ⟨List.mem_range.mpr hst, hok⟩
  refine foldl_reaches (f := scrubZero) (P := fun u => u.fuse = s.fuse) (Q := fun u => u.byte a = 0)
    (fun u st' hu => ((scrubZero_shows u st').1 .fuse (by decide)).trans hu) (fun u hu => ?_)
    (fun u st' hu => (scrubZero_shows u st').2.1 a hu) hmem rfl
  have halloc : u.allocEnd st = s.allocEnd st := by rw [allocEnd, allocEnd, hu]
  exact (scrubZero_shows u st).2.2 a hlo (by omega)

/-- A granted page zeroed and returned. -/
def grantReturned (s : State) (k : Nat) : State := (s.zeroHbm k 65536).giveSkein k

theorem grantReturned_frame (s : State) (k : Nat) : Keeps [.mem, .ecc, .regs] s (s.grantReturned k) ∧ OnlyZeroes s (s.grantReturned k) :=
  ⟨((keeps_zeroHbm s _ _).mono (by decide)).trans ((keeps_giveSkein _ k).mono (by decide)),
    (onlyZeroes_zeroHbm s k _).trans (onlyZeroes_of_keeps (keeps_giveSkein _ k) (by decide))⟩

/-- Memory scrubbed and the grants returned, before the scrub's registers show it. -/
def scrubWritten (s : State) : State :=
  (s.stacksScrubbed.sec.grants.foldl grantReturned s.stacksScrubbed).updSec (fun x => { x with grants := [] })

theorem scrubWritten_shows (s : State) :
    let u := s.scrubWritten
    u.sec.grants = [] ∧ Keeps [.mem, .ecc, .regs, .sec] s u ∧ OnlyZeroes s u ∧
      ∀ st, st < 8 → s.stackOk st = true → ∀ a, hbmKey st 0 ≤ a → a < hbmKey st 0 + s.allocEnd st → u.byte a = 0 := by
  obtain ⟨hkeeps, honly, hzero⟩ := stacksScrubbed_shows s
  have hreturned : Keeps [.mem, .ecc, .regs] s.stacksScrubbed (s.stacksScrubbed.sec.grants.foldl grantReturned s.stacksScrubbed) :=
    Keeps.foldl _ fun u k _ => (grantReturned_frame u k).1
  have hreturnedOnly : OnlyZeroes s.stacksScrubbed (s.stacksScrubbed.sec.grants.foldl grantReturned s.stacksScrubbed) :=
    OnlyZeroes.foldl (fun u k => (grantReturned_frame u k).2) _ _
  exact ⟨rfl, (hkeeps.mono (by decide)).trans ((hreturned.mono (by decide)).trans ((keeps_updSec _ _).mono (by decide))),
    honly.trans hreturnedOnly, fun st hst hok a hlo hhi => hreturnedOnly a (hzero st hst hok a hlo hhi)⟩

/-- The scrub's registers at its end. -/
def scrubCleared (s : State) (done : Nat) : State :=
  ((s.fw Fld.SEC_SCRUB_POS_STACKS_DONE done).scrubRequired false).fbw Fld.SEC_STATUS_SCRUB_ACTIVE false

/-- The scrub shown as complete. -/
def scrubShown (s : State) (done : Nat) : State :=
  (s.scrubCleared done).trouble 0x0980 1 78 0 ((s.fw Fld.SEC_SCRUB_POS_STACKS_DONE done).fd Fld.SEC_SCRUB_POS_STACKS_DONE)

theorem scrubCleared_shows (s : State) (done : Nat) :
    let u := s.scrubCleared done
    u.fb Fld.SEC_STATUS_SCRUB_REQUIRED = false ∧ u.fb Fld.RST_BKP0_SCRUB_REQUIRED = false ∧ u.fb Fld.SEC_STATUS_SCRUB_ACTIVE = false ∧
      Keeps [.regs] s u := by
  refine ⟨?_, ?_, fb_fbw_self _ _ _ (by rfl) (by decide) (by decide),
    ((keeps_fw s _ _).trans ((keeps_fbw _ _ _).trans (keeps_fbw _ _ _))).trans (keeps_fbw _ _ _)⟩
  · rw [scrubCleared, fb_fbw_apart _ _ _ _ (by rfl) (by decide) (by decide) (by decide), scrubRequired, fb_fbw_ne _ _ _ _ (by decide),
      fb_fbw_self _ _ _ (by rfl) (by decide) (by decide)]
  · rw [scrubCleared, fb_fbw_ne _ _ _ _ (by decide), scrubRequired, fb_fbw_self _ _ _ (by rfl) (by decide) (by decide)]

theorem scrubShown_shows (s : State) (done : Nat) :
    let u := s.scrubShown done
    u.fb Fld.SEC_STATUS_SCRUB_REQUIRED = false ∧ u.fb Fld.RST_BKP0_SCRUB_REQUIRED = false ∧ u.fb Fld.SEC_STATUS_SCRUB_ACTIVE = false ∧
      Keeps [.regs, .log, .out, .hif] s u := by
  obtain ⟨hreq, hbkp, hactive, hcleared⟩ := scrubCleared_shows s done
  have hlog := regsKeep_trouble (s.scrubCleared done) 0x0980 1 78 0 ((s.fw Fld.SEC_SCRUB_POS_STACKS_DONE done).fd Fld.SEC_SCRUB_POS_STACKS_DONE)
  exact ⟨(hlog.fb (by decide)).trans hreq, (hlog.fb (by decide)).trans hbkp, (hlog.fb (by decide)).trans hactive,
    (hcleared.mono (by decide)).trans (keeps_trouble _ _ _ _ _ _)⟩

theorem scrubDone_eq (s : State) : s.scrubDone =
    (s.scrubWritten.scrubShown (((List.range 8).filter s.stackOk).foldl (fun m k => m + 2 ^ k) 0)).maintRelease tenantScrubActivity := rfl

/-- An activity released with nothing queued. -/
theorem maintRelease_alone (hq : s.ras.queue = []) (a : Activity) :
    s.maintRelease a = { s with ras := { s.ras with holders := s.ras.holders.erase a } } := by
  rw [maintRelease, maintPump]
  simp only [hq, List.length_nil, maintPumpAux]

theorem exec_tenantScrubDone (s : State) :
    exec .tenantScrubDone s = .next (if s.fb Fld.SEC_STATUS_SCRUB_ACTIVE then s.scrubDone else s) := rfl

theorem exec_tenantScrubDone_idle (h : s.fb Fld.SEC_STATUS_SCRUB_ACTIVE = false) : exec .tenantScrubDone s = .next s := by
  rw [exec_tenantScrubDone, h, if_neg Bool.false_ne_true]

theorem tenantScrubDone_ends (h : s.fb Fld.SEC_STATUS_SCRUB_ACTIVE = true) (hq : s.ras.queue = []) :
    Goes (exec .tenantScrubDone s) (fun u => u.fb Fld.SEC_STATUS_SCRUB_REQUIRED = false ∧ u.fb Fld.RST_BKP0_SCRUB_REQUIRED = false ∧
      u.fb Fld.SEC_STATUS_SCRUB_ACTIVE = false ∧ u.sec.grants = [] ∧ u.host = s.host ∧
      u.ras.holders = s.ras.holders.erase tenantScrubActivity ∧
      (∀ st, st < 8 → s.stackOk st = true → ∀ a, hbmKey st 0 ≤ a → a < hbmKey st 0 + s.allocEnd st → u.byte a = 0) ∧
      (∀ a, s.byte a = 0 → u.byte a = 0)) := by
  refine ⟨_, by rw [exec_tenantScrubDone, if_pos h], ?_⟩
  rw [scrubDone_eq]
  obtain ⟨hgrants, hwritten, honly, hzero⟩ := scrubWritten_shows s
  obtain ⟨hreq, hbkp, hactive, hshown⟩ := scrubShown_shows s.scrubWritten (((List.range 8).filter s.stackOk).foldl (fun m k => m + 2 ^ k) 0)
  generalize s.scrubWritten.scrubShown (((List.range 8).filter s.stackOk).foldl (fun m k => m + 2 ^ k) 0) = v at hreq hbkp hactive hshown ⊢
  have hvras : v.ras = s.ras := (hshown .ras (by decide)).trans (hwritten .ras (by decide))
  rw [maintRelease_alone (by rw [hvras, hq])]
  have hfreed := keeps_withRas v { v.ras with holders := v.ras.holders.erase tenantScrubActivity }
  have hbytes : OnlyZeroes s.scrubWritten { v with ras := { v.ras with holders := v.ras.holders.erase tenantScrubActivity } } :=
    (onlyZeroes_of_keeps hshown (by decide)).trans (onlyZeroes_of_keeps hfreed (by decide))
  exact ⟨(hfreed.fb (by decide) _).trans hreq, (hfreed.fb (by decide) _).trans hbkp, (hfreed.fb (by decide) _).trans hactive,
    (congrArg Sec.grants (hshown .sec (by decide))).trans hgrants, (hshown .host (by decide)).trans (hwritten .host (by decide)),
    congrArg (·.holders.erase tenantScrubActivity) hvras, fun st hst hok a hlo hhi => hbytes a (hzero st hst hok a hlo hhi),
    honly.trans hbytes⟩

end

end Sys2Proof.Machine.State

namespace Sys2Proof

open Sys2Proof.Machine Sys2Proof.Machine.State Sys2Proof.Safety

/-- Settles O44: TENANT_OPEN by the checks in their order and the DRBG, TENANT_CLOSE by the steps of R509 on idle units, the scrub by its start
and its end. -/
theorem tenantsOpenCloseAndScrub : Obligations.TenantsOpenCloseAndScrub := by
  unfold Obligations.TenantsOpenCloseAndScrub
  refine ⟨?_, ?_, ?_, fun s => ⟨fun hactive hq _ => tenantScrubDone_ends hactive hq, exec_tenantScrubDone_idle⟩⟩
  · intro s via p j s1 h hop conf hparam
    have hcheck : ∀ {a : Option Ans}, firstFail [(s1.fb Fld.SEC_STATUS_SCRUB_REQUIRED || s1.fb Fld.SEC_STATUS_SCRUB_ACTIVE, .refuse 0x0901),
        (s1.tenantOpen, .refuse 0x0902), (s1.lc == 0 || s1.lc == 3, .refuse 0x0903),
        (s1.fb Fld.SEC_STATUS_DEBUG_OPEN, .refuse 0x0904),
        (conf && !s1.sec.sessions.any (fun x => !x.i3c && x.done && x.id == p.u32 24), .refuse 0x0906)] = a → tenantOpenCheck p s1 = a :=
      tenantOpenCheck_rest hparam
    refine ⟨fun hreq hactive hopen hblank hrma hdebug hsess => ?_, fun hbusy => ?_, fun hreq hactive hopen => ?_,
      fun hreq hactive hopen hlc => ?_⟩
    · have hgranted : (conf && !s1.sec.sessions.any (fun x => !x.i3c && x.done && x.id == p.u32 24)) = false := by
        cases hc : conf
        · rfl
        · rw [hsess hc]
          rfl
      have hpass : tenantOpenCheck p s1 = none := hcheck (by
        simp only [firstFail, hgranted, hreq, hactive, hopen, hdebug]
        simp [hblank, hrma])
      have hstacks : (List.range 8).filter (s1.beginJob true via j).stackOk = (List.range 8).filter s1.stackOk :=
        congrArg (List.filter · _) (funext (stackOk_begun s1 via j))
      refine ⟨fun hready => ⟨_, tenantOpen_opens h hop hpass hready, ?_⟩, fun hready => ⟨_, tenantOpen_waits h hop hpass hready, ?_⟩⟩
      · obtain ⟨hshown, hscrub, hmirror, hconf, hhif, htenant, hcrl, hkeeps, hregs⟩ := tenantOpenDo_shows (s1.beginJob true via j) p
        exact ⟨hshown, hscrub, hmirror, hconf, hhif, htenant, hstacks ▸ hcrl, hkeeps, hregs⟩
      · obtain ⟨hsec, hkeeps, hregs⟩ := drbgWait_shows (s1.beginJob true via j) none
        rw [sec_begun, now_begun] at hsec
        exact ⟨hsec, hkeeps, hregs⟩
    · exact tenantOpen_refused h hop (hcheck (by rw [firstFail, if_pos (by simpa using hbusy)]))
    · exact tenantOpen_refused h hop (hcheck (by simp [firstFail, hreq, hactive, hopen]))
    · exact tenantOpen_refused h hop (hcheck (by rcases hlc with hlc | hlc <;> simp [firstFail, hreq, hactive, hopen, hlc]))
  · intro s via p j s1 h hop
    refine ⟨?_, fun hopen => tenantClose_refused h hop (by simp [firstFail, hopen])⟩
    · rintro hopen hsrv hreset hlane hvid hq hidle rfl
      have hkeeps := keeps_beginJob s1 true .mcc j
      have hunits : UnitsIdle (s1.beginJob true .mcc j) := fun n hn => by
        obtain ⟨hstate, hcur, hsb⟩ := hidle n hn
        exact ⟨(fd_begun_ring s1 .mcc j hn).trans hstate, (congrArg Engine.cur ((keeps_begun_mcc s1 j).engOf (by decide) n)).trans hcur,
          (congrArg Tile.sb (hkeeps.tile (by decide) n)).trans hsb⟩
      refine ⟨_, tenantClose_closes h hop hopen hsrv hreset hlane hvid hunits, ?_⟩
      have hcur : (s1.beginJob true .mcc j).mcc.cur = some { j with begun := true } := jobOf_beginJob s1 true .mcc j
      have hras := ras_begun s1 .mcc j
      have hcrl := crl_begun s1 .mcc j
      generalize s1.beginJob true .mcc j = b at hcur hras hcrl ⊢
      generalize hasked : (b.updSec (fun x => { x with closing := 1 })).updSec (fun x => { x with closing := 2 }) = c
      have hc : Keeps [.sec] b c := hasked ▸ (keeps_updSec _ _).trans (keeps_updSec _ _)
      obtain ⟨hshut, -⟩ := windowsShut_frame c
      have hdisabled := fun w (hw : w < 16) => windowsShut_shut c hw
      generalize c.windowsShut = d at hshut hdisabled ⊢
      have hd := (hc.mono (qs := [.sec, .regs]) (by decide)).trans (hshut.mono (by decide))
      have hdras : d.ras = s1.ras := (hd .ras (by decide)).trans hras
      obtain ⟨htenant, hconf, hhif, hbounce, hsession, hnone, hclosing, hcleared, hended, hruns, hwaits, hregs⟩ :=
        closeFinish_shows (s := d) (j := { j with begun := true }) (by rw [hdras, hq]) (by rw [hd .mcc (by decide), hcur]) rfl
          (by rw [h.packet, hop])
      rw [hdras] at hruns hwaits
      rw [hd .crl (by decide), hcrl] at hcleared
      exact ⟨htenant, hconf, hhif, hbounce, hsession, hnone, hclosing, hcleared, hended,
        fun w hw => by rw [hregs.fd (perm_notMem w hw)]; exact hdisabled w hw, hruns, hwaits⟩
  · intro s via p j s1 h hop a
    refine ⟨fun hreq => ?_, fun hreq hopen => ?_, fun hreq hopen hwait => ?_, fun hreq hopen hidle hwait hq => ?_⟩
    · exact tenantScrub_refused h hop (by simp [firstFail, hreq])
    · exact tenantScrub_refused h hop (by simp [firstFail, hreq, hopen])
    · exact tenantScrub_refused h hop (by simp [firstFail, hreq, hopen, hwait])
    · have hshows := scrubStart_shows (s := s1.beginJob true via j) (by rw [ras_begun, hq])
      rw [← ras_begun s1 via j]
      exact ⟨_, tenantScrub_starts h hop hreq hopen hidle hwait, hshows.pos, hshows.keeps, hshows.regs, hshows.runs, hshows.waits⟩

end Sys2Proof
end

section
/-! Nonces, tokens, the owner key and SEC_SPDM (O46). -/

namespace Sys2Proof.Machine.State

open Sys2Proof.Safety

section
variable {s s1 : State} {via : Via} {p : Packet} {j : Job}

/-! ## SEC_NONCE (14 R496) -/

/-- A value drawn from the DRBG becomes the nonce. -/
theorem nonceDo_shows (s : State) : ∃ v, v < 2 ^ 64 ∧ s.nonceDo.2 = .ok 0 v ∧ s.nonceDo.1.sec = { s.sec with nonce := some (v, s.now) } ∧
    Keeps [.sec, .free] s s.nonceDo.1 :=
  ⟨_, (Config.freeBits 64 s.free).isLt, rfl, rfl, ((keeps_open s 64).mono (by decide)).trans ((keeps_updSec _ _).mono (by decide))⟩

theorem drbgDo_nonce (hop : p.base = 0x0904) (hready : s.drbgReady = true) : s.drbgDo p false = (s.nonceDo.1, some s.nonceDo.2) := by
  simp only [drbgDo, hop, hready]
  rfl

theorem secNonce_draws (h : Starts s true via p j s1) (hop : p.base = 0x0904) (hready : s1.drbgReady = true) :
    exec (.secNonce via p) s = .next ((s1.beginJob true via j).nonceDo.1.finish via (s1.beginJob true via j).nonceDo.2) := by
  refine congrArg _ (runRow_ends h (by simp [hop]) rfl ?_)
  rw [drbgCmd, drbgDo_nonce hop (by rw [drbgReady_begun, hready])]

theorem secNonce_waits (h : Starts s true via p j s1) (hop : p.base = 0x0904) (hready : s1.drbgReady = false) :
    exec (.secNonce via p) s = .next ((s1.beginJob true via j).drbgWait none) :=
  congrArg _ (runRow_goesOn h (by simp [hop]) rfl (drbgCmd_waits (by simp [hop]) (by rw [drbgReady_begun, hready])))

/-! ## Tokens (14 R496) -/

theorem extra_begun (s : State) (via : Via) (j : Job) : (s.beginJob true via j).mcc.extra = s.mcc.extra := by
  have hmark : (s.setJob via { j with begun := true }).mcc.extra = s.mcc.extra := by cases via <;> rfl
  simp only [beginJob]
  split
  · exact (congrArg Mcc.extra (keeps_trouble _ _ _ _ _ _ .mcc (by decide))).trans hmark
  · exact hmark

theorem tokenOk_begun (s : State) (via : Via) (j : Job) (t : List Byte) : (s.beginJob true via j).tokenOk t = s.tokenOk t := by
  rw [tokenOk, tokenOk, fuse_begun, sec_begun, now_begun]

/-- The state in which a token has used the nonce up. -/
def nonceUsed (s : State) : State := s.updSec (fun x => { x with nonce := none })

/-- The nonce used up as a command begins. -/
theorem nonceUsed_begun (s : State) (via : Via) (j : Job) :
    (s.beginJob true via j).nonceUsed.sec = { s.sec with nonce := none } ∧
      Keeps [.sec] (s.beginJob true via j) (s.beginJob true via j).nonceUsed :=
  ⟨by rw [nonceUsed, sec_updSec, sec_begun], keeps_updSec _ _⟩

section
variable {types : List Nat} {refuse : State → Nat → Option Ans} {act : State → Nat → State} {ty : Nat}
  (hlen : s.mcc.extra.length = 120) (hty : fieldOf s.mcc.extra 0 1 = ty) (hin : ty ∈ types)
include hlen hty hin

theorem tokenCmd_refused {a : Ans} (h : refuse s.nonceUsed ty = some a) : s.tokenCmd types refuse act = (s.nonceUsed, some a) := by
  simp only [tokenCmd, hlen, hty, List.contains_iff_mem.mpr hin, bne_self_eq_false, Bool.not_true, Bool.or_self, Bool.false_eq_true, if_false]
  change (match refuse s.nonceUsed ty with | some a => _ | none => _) = _
  rw [h]
  rfl

theorem tokenCmd_passes (h : refuse s.nonceUsed ty = none) : s.tokenCmd types refuse act =
    if s.tokenOk s.mcc.extra then (act s.nonceUsed ty, some .done) else (s.nonceUsed, some (.err stsSecToken)) := by
  simp only [tokenCmd, hlen, hty, List.contains_iff_mem.mpr hin, bne_self_eq_false, Bool.not_true, Bool.or_self, Bool.false_eq_true, if_false]
  change (match refuse s.nonceUsed ty with | some a => _ | none => _) = _
  rw [h]
  rfl

end

/-- What SEC_DEBUG_UNLOCK refuses. -/
def unlockRefuse (s : State) (_ : Nat) : Option Ans :=
  firstFail [(s.tenantOpen || s.fb Fld.SEC_STATUS_SCRUB_REQUIRED, .refuse 0x0902), (s.lc == 2, .refuse 0x0904)]

/-- What SEC_LIFECYCLE refuses. -/
def lifecycleRefuse (s : State) (type : Nat) : Option Ans :=
  firstFail [(s.tenantOpen || s.fb Fld.SEC_STATUS_SCRUB_REQUIRED, .refuse 0x0902),
    (s.lc != (if type = 3 then 2 else 1), .refuse 0x0903), (type != 4 && decide (16 ≤ s.sec.otp.toggles), .refuse 0x0907)]

/-- The fuses after an accepted token of SEC_LIFECYCLE. -/
def lifecycleOtp (o : Otp) (type : Nat) : Otp := if type = 4 then { o with rma := true } else { o with toggles := o.toggles + 1 }

/-- The effect of SEC_LIFECYCLE. -/
def lifecycleAct (s : State) (type : Nat) : State :=
  (s.updSec (fun x => { x with otp := lifecycleOtp x.otp type })).fbw Fld.SEC_STATUS_LC_PENDING true

theorem exec_secDebugUnlock (h : Starts s true via p j s1) (hop : p.base = 0x0905) :
    exec (.secDebugUnlock via p) s = .next (rowEnd via ((s1.beginJob true via j).tokenCmd [1] unlockRefuse
      (fun s _ => s.fbw Fld.SEC_STATUS_DEBUG_OPEN true))) := congrArg _ (runRow_runs h (by simp [hop]) rfl)

theorem exec_secLifecycle (h : Starts s true via p j s1) (hop : p.base = 0x0906) :
    exec (.secLifecycle via p) s = .next (rowEnd via ((s1.beginJob true via j).tokenCmd [2, 3, 4] lifecycleRefuse lifecycleAct)) :=
  congrArg _ (runRow_runs h (by simp [hop]) rfl)

/-- The conditions of the token commands as they begin, with the nonce used up. -/
theorem tokenState_begun (s : State) (via : Via) (j : Job) :
    let u := (s.beginJob true via j).nonceUsed
    u.tenantOpen = s.tenantOpen ∧ u.fb Fld.SEC_STATUS_SCRUB_REQUIRED = s.fb Fld.SEC_STATUS_SCRUB_REQUIRED ∧ u.lc = s.lc ∧
      u.sec.otp = s.sec.otp := by
  obtain ⟨hsec, hkeeps⟩ := nonceUsed_begun s via j
  exact ⟨(hkeeps.fb (by decide) _).trans (fb_begun s via j (by decide)), (hkeeps.fb (by decide) _).trans (fb_begun s via j (by decide)),
    (hkeeps.fd (by decide) _).trans (fd_begun s via j (by decide)), (congrArg Sec.otp hsec :)⟩

section
variable (h : Starts s true via p j s1) (hop : p.base = 0x0905) (hlen : s1.mcc.extra.length = 120) (hty : fieldOf s1.mcc.extra 0 1 = 1)
include h hop hlen hty

theorem secDebugUnlock_refused {a : Ans} (hrefuse : unlockRefuse (s1.beginJob true via j).nonceUsed 1 = some a) :
    exec (.secDebugUnlock via p) s = .next ((s1.beginJob true via j).nonceUsed.finish via a) := by
  rw [exec_secDebugUnlock h hop, tokenCmd_refused (by rw [extra_begun, hlen]) (by rw [extra_begun, hty]) (by decide) hrefuse, rowEnd]

theorem secDebugUnlock_passes (hrefuse : unlockRefuse (s1.beginJob true via j).nonceUsed 1 = none) :
    exec (.secDebugUnlock via p) s = .next (if s1.tokenOk s1.mcc.extra then
      ((s1.beginJob true via j).nonceUsed.fbw Fld.SEC_STATUS_DEBUG_OPEN true).finish via .done
    else (s1.beginJob true via j).nonceUsed.finish via (.err stsSecToken)) := by
  rw [exec_secDebugUnlock h hop, tokenCmd_passes (by rw [extra_begun, hlen]) (by rw [extra_begun, hty]) (by decide) hrefuse, tokenOk_begun,
    extra_begun, apply_ite (rowEnd via), rowEnd, rowEnd]

end

section
variable {ty : Nat} (h : Starts s true via p j s1) (hop : p.base = 0x0906) (hlen : s1.mcc.extra.length = 120)
  (hty : fieldOf s1.mcc.extra 0 1 = ty) (hin : ty ∈ [2, 3, 4])
include h hop hlen hty hin

theorem secLifecycle_refused {a : Ans} (hrefuse : lifecycleRefuse (s1.beginJob true via j).nonceUsed ty = some a) :
    exec (.secLifecycle via p) s = .next ((s1.beginJob true via j).nonceUsed.finish via a) := by
  rw [exec_secLifecycle h hop, tokenCmd_refused (by rw [extra_begun, hlen]) (by rw [extra_begun, hty]) hin hrefuse, rowEnd]

theorem secLifecycle_passes (hrefuse : lifecycleRefuse (s1.beginJob true via j).nonceUsed ty = none) :
    exec (.secLifecycle via p) s = .next (if s1.tokenOk s1.mcc.extra then
      (lifecycleAct (s1.beginJob true via j).nonceUsed ty).finish via .done
    else (s1.beginJob true via j).nonceUsed.finish via (.err stsSecToken)) := by
  rw [exec_secLifecycle h hop, tokenCmd_passes (by rw [extra_begun, hlen]) (by rw [extra_begun, hty]) hin hrefuse, tokenOk_begun,
    extra_begun, apply_ite (rowEnd via), rowEnd, rowEnd]

end

theorem lifecycleAct_shows (s : State) (ty : Nat) :
    let u := lifecycleAct s ty
    u.fb Fld.SEC_STATUS_LC_PENDING = true ∧ u.lc = s.lc ∧ u.sec = { s.sec with otp := lifecycleOtp s.sec.otp ty } ∧ Keeps [.regs, .sec] s u := by
  refine ⟨fb_fbw_self _ _ _ (by rfl) (by decide) (by decide), ?_, by rw [lifecycleAct, fbw_sec, sec_updSec],
    ((keeps_updSec _ _).mono (by decide)).trans ((keeps_fbw _ _ _).mono (by decide))⟩
  rw [lc, lifecycleAct, fd_fbw_apart _ _ _ _ (by rfl) (by decide) (by decide) (by decide), fd_updSec, lc]

/-! ## SEC_OWNER_SET (14 R499) -/

/-- The owner set. -/
def ownerSet (s : State) : State :=
  (s.updSec (fun x => { x with otp := { x.otp with owner := sha384 s.mcc.extra } })).fbw Fld.SEC_STATUS_OWNER_SET true

theorem secOwnerSet_sets (h : Starts s true via p j s1) (hop : p.base = 0x0907) (hlen : s1.mcc.extra.length = 97) (hnone : s1.sec.otp.owner = 0) :
    exec (.secOwnerSet via p) s = .next ((s1.beginJob true via j).ownerSet.finish via .done) :=
  congrArg _ (runRow_ends h (by simp [hop]) (by simp [firstFail, hlen, hnone]) rfl)

theorem secOwnerSet_refused (h : Starts s true via p j s1) (hop : p.base = 0x0907) (hlen : s1.mcc.extra.length = 97)
    (howner : s1.sec.otp.owner ≠ 0) : exec (.secOwnerSet via p) s = .next (s1.finish via (.refuse 0x0905)) :=
  congrArg _ (runRow_refused h (by simp [hop]) (by simp [firstFail, hlen, howner]))

/-! ## SEC_SPDM (14 R505) -/

theorem exec_secSpdm (h : Starts s true via p j s1) (hop : p.base = 0x0903) (hlow : 4 ≤ p.u32 24) (hhigh : p.u32 24 ≤ 4096) :
    exec (.secSpdm via p) s = .next (rowEnd via ((s1.beginJob true via j).drbgCmd p)) :=
  congrArg _ (runRow_runs h (by simp [hop]) (by simp [firstFail, hlow, hhigh]))

theorem secSpdm_badLength (h : Starts s true via p j s1) (hop : p.base = 0x0903) (hlen : p.u32 24 < 4 ∨ 4096 < p.u32 24) :
    exec (.secSpdm via p) s = .next (s1.finish via .param) :=
  congrArg _ (runRow_refused h (by simp [hop]) (by rw [firstFail, if_pos (by simpa using hlen)]))

section
variable {u w : State} {m : List Byte} {r : SpdmRsp} {k : Nat} (hop : p.base = 0x0903)
  (hload : s.hostLoad (p.u64 16) (p.u32 24) = (u, some m)) (hrun : u.spdmRun false false m = (w, some (r, k)))
include hop hload hrun

theorem drbgCmd_spdm_small (hsize : p.u32 36 < (Config.spdmBytes r.1 r.2 k).length) : s.drbgCmd p = (w, some .param) := by
  simp only [drbgCmd, drbgDo, hop, if_true, spdmMcc, hload, hrun, if_pos hsize]

theorem drbgCmd_spdm_answers {z : State} (hsize : (Config.spdmBytes r.1 r.2 k).length ≤ p.u32 36)
    (hstore : w.hostStore (p.u64 28) (Config.spdmBytes r.1 r.2 k) = some z) :
    s.drbgCmd p = (z, some (.ok (Config.spdmBytes r.1 r.2 k).length 0)) := by
  simp only [drbgCmd, drbgDo, hop, if_true, spdmMcc, hload, hrun, if_neg (Nat.not_lt.mpr hsize), hstore, Bool.false_and, Bool.false_eq_true,
    if_false]

end

end

end Sys2Proof.Machine.State

namespace Sys2Proof

open Sys2Proof.Machine Sys2Proof.Machine.State Sys2Proof.Safety

/-- Settles O46: each token command refuses, rejects or accepts after the nonce has been used up. -/
theorem securityCommandsRun : Obligations.SecurityCommandsRun := by
  unfold Obligations.SecurityCommandsRun
  refine ⟨?_, ?_, ?_, ?_, ?_⟩
  · intro s via p j s1 h hop
    refine ⟨fun hready => ?_, fun hready => ?_⟩
    · obtain ⟨v, hv, hans, hsec, hkeeps⟩ := nonceDo_shows (s1.beginJob true via j)
      rw [sec_begun, now_begun] at hsec
      exact ⟨v, hv, _, hans ▸ secNonce_draws h hop hready, hsec, hkeeps⟩
    · obtain ⟨hsec, hkeeps, -⟩ := drbgWait_shows (s1.beginJob true via j) none
      rw [sec_begun, now_begun] at hsec
      exact ⟨_, secNonce_waits h hop hready, hsec, hkeeps⟩
  · intro s via p j s1 h hop hlen hty
    obtain ⟨htenant, hscrub, hlc, -⟩ := tokenState_begun s1 via j
    refine ⟨fun hbusy => ⟨_, secDebugUnlock_refused h hop hlen hty ?_, nonceUsed_begun s1 via j⟩,
      fun hopen hreq htwo => ⟨_, secDebugUnlock_refused h hop hlen hty ?_, nonceUsed_begun s1 via j⟩, fun hopen hreq htwo => ?_⟩
    · rw [unlockRefuse, htenant, hscrub, firstFail, if_pos (by simpa using hbusy)]
    · simp [unlockRefuse, htenant, hscrub, hlc, firstFail, hopen, hreq, htwo]
    · have hrow := secDebugUnlock_passes h hop hlen hty (by simp [unlockRefuse, htenant, hscrub, hlc, firstFail, hopen, hreq, htwo])
      obtain ⟨hsec, hkeeps⟩ := nonceUsed_begun s1 via j
      generalize (s1.beginJob true via j).nonceUsed = u at hrow hsec hkeeps
      split_ifs at hrow ⊢
      · exact ⟨_, hrow, fb_fbw_self _ _ _ (by rfl) (by decide) (by decide), (fbw_sec _ _ _).trans hsec,
          (hkeeps.mono (by decide)).trans ((keeps_fbw _ _ _).mono (by decide)), (hkeeps.regsKeep (by decide) _).trans (regsKeep_fbw _ Fld.SEC_STATUS_DEBUG_OPEN _)⟩
      · exact ⟨_, hrow, hsec, hkeeps⟩
  · intro s via p j s1 h hop hlen ty hin hty hopen hreq
    obtain ⟨htenant, hscrub, hlc, hotp⟩ := tokenState_begun s1 via j
    refine ⟨fun hstate hroom => ?_, fun hstate => ⟨_, secLifecycle_refused h hop hlen hty hin ?_, nonceUsed_begun s1 via j⟩⟩
    · have hfew : (ty != 4 && decide (16 ≤ s1.sec.otp.toggles)) = false := by
        rcases hroom with rfl | hroom
        · rfl
        · simp [hroom]
      have hrow := secLifecycle_passes h hop hlen hty hin
        (by simp only [lifecycleRefuse, htenant, hscrub, hlc, hotp, firstFail, hopen, hreq, hstate, bne_self_eq_false, hfew]; rfl)
      obtain ⟨hsec, hkeeps⟩ := nonceUsed_begun s1 via j
      generalize (s1.beginJob true via j).nonceUsed = u at hrow hsec hkeeps htenant hscrub hlc hotp
      by_cases hok : s1.tokenOk s1.mcc.extra = true
      · rw [if_pos hok] at hrow ⊢
        obtain ⟨hpending, hstill, hafter, hacts⟩ := lifecycleAct_shows u ty
        exact ⟨_, hrow, hpending, hstill.trans hlc, (congrArg Sec.nonce hafter).trans (congrArg Sec.nonce hsec :),
          (hkeeps.mono (by decide)).trans hacts, (congrArg Sec.otp hafter).trans (congrArg (lifecycleOtp · ty) hotp :)⟩
      · rw [if_neg hok] at hrow ⊢
        exact ⟨_, hrow, hsec, hkeeps⟩
    · rw [lifecycleRefuse, htenant, hscrub, hlc, hopen, hreq, firstFail, if_neg (by decide), firstFail, if_pos (by simpa using hstate)]
  · intro s via p j s1 h hop hlen
    refine ⟨fun hnone => ⟨_, secOwnerSet_sets h hop hlen hnone, fb_fbw_self _ _ _ (by rfl) (by decide) (by decide), ?_,
      ((keeps_updSec _ _).mono (by decide)).trans ((keeps_fbw _ _ _).mono (by decide)),
      ((keeps_updSec _ _).regsKeep (by decide) _).trans (regsKeep_fbw _ Fld.SEC_STATUS_OWNER_SET _)⟩, secOwnerSet_refused h hop hlen⟩
    rw [ownerSet, fbw_sec, sec_updSec, sec_begun, extra_begun]
  · intro s via p j s1 h hop
    refine ⟨?_, secSpdm_badLength h hop⟩
    intro hlow hhigh u m w r k hload hrun bs
    refine ⟨fun hsize => ?_, fun hsize z hstore => ?_⟩
    · rw [exec_secSpdm h hop hlow hhigh, drbgCmd_spdm_small hop hload hrun hsize, rowEnd]
    · rw [exec_secSpdm h hop hlow hhigh, drbgCmd_spdm_answers hop hload hrun hsize hstore, rowEnd]

end Sys2Proof
end

section
/-! TRNG and DRBG events (O48). -/

namespace Sys2Proof.Safety

open Sys2Proof.Machine

/-- A health that is brought up to date changes RAS_HEALTH and, with the record of a change, the trouble log's count. -/
theorem regsKeep_healthCheck (s : State) : RegsKeep [Reg.RAS_HEALTH.addr, Reg.RAS_LOG_SEQ.addr] s s.healthCheck := by
  simp only [State.healthCheck]
  split
  · exact RegsKeep.of_regs_eq rfl
  · exact (((regsKeep_fw s Fld.RAS_HEALTH_STATE _).mono (by decide)).trans ((regsKeep_fbw _ Fld.RAS_HEALTH_REPLACE _).mono (by decide))).trans
      ((regsKeep_trouble _ _ _ _ _ _).mono (by decide))

theorem regsKeep_urgent (s : State) (b : Nat) : RegsKeep [Reg.HIF_URGENT_CAUSE.addr] s (s.urgent b) :=
  (regsKeep_wr s Reg.HIF_URGENT_CAUSE _).trans ((keeps_raise _ 0).regsKeep (by decide) _)

end Sys2Proof.Safety

namespace Sys2Proof.Machine.State

open Sys2Proof.Safety

/-- RAS_HEALTH shows the health. -/
theorem fd_health_healthCheck (s : State) (h : s.health < 4) : s.healthCheck.fd Fld.RAS_HEALTH_STATE = s.health := by
  simp only [healthCheck]
  split
  · assumption
  · rw [(regsKeep_trouble _ _ _ _ _ _).fd (by decide), fd_fbw_apart _ _ _ _ (by rfl) (by decide) (by decide) (by decide),
      fd_fw_self _ _ _ (by decide) (by decide)]
    exact Nat.mod_eq_of_lt h

/-- A DRBG out of service for good is a failing module. -/
theorem health_entropyFail {s : State} (h : s.sec.otp.entropyFail = true) : s.health = 3 := by
  rw [health, h, Bool.true_or, if_pos rfl]

section
variable {s : State}

/-! ## Failing health tests (14 R520, R521) -/

/-- A failing health test counted, the DRBG stopped. -/
def trngStopped (s : State) : State :=
  ((((s.bump Reg.SEC_TRNG_FAIL_CNT 1).fw Fld.SEC_TRNG_STATUS_FAIL_RUN (min 3 (s.fd Fld.SEC_TRNG_STATUS_FAIL_RUN + 1))).fbw
    Fld.SEC_TRNG_STATUS_DRBG_READY false).fbw Fld.SEC_TRNG_STATUS_STARTUP true)

theorem trngStopped_shows (s : State) :
    let u := s.trngStopped
    u.rd Reg.SEC_TRNG_FAIL_CNT = satAdd (2 ^ 32 - 1) (s.rd Reg.SEC_TRNG_FAIL_CNT) 1 ∧
      u.fd Fld.SEC_TRNG_STATUS_FAIL_RUN = min 3 (s.fd Fld.SEC_TRNG_STATUS_FAIL_RUN + 1) ∧ u.fb Fld.SEC_TRNG_STATUS_DRBG_READY = false ∧
      u.fb Fld.SEC_TRNG_STATUS_STARTUP = true ∧ Keeps [.regs] s u := by
  refine ⟨?_, ?_, ?_, fb_fbw_self _ _ _ (by rfl) (by decide) (by decide),
    (((keeps_wr s _ _).trans (keeps_fw _ _ _)).trans (keeps_fbw _ _ _)).trans (keeps_fbw _ _ _)⟩
  · rw [trngStopped, fbw, fbw, rd_fw_ne _ _ _ _ (by decide), rd_fw_ne _ _ _ _ (by decide), rd_fw_ne _ _ _ _ (by decide),
      rd_bump _ _ _ (by decide)]
    rfl
  · rw [trngStopped, fd_fbw_apart _ _ _ _ (by rfl) (by decide) (by decide) (by decide),
      fd_fbw_apart _ _ _ _ (by rfl) (by decide) (by decide) (by decide), fd_fw_self _ _ _ (by decide) (by decide)]
    exact Nat.mod_eq_of_lt (show _ < 4 by omega)
  · rw [trngStopped, fb_fbw_apart _ _ _ _ (by rfl) (by decide) (by decide) (by decide), fb_fbw_self _ _ _ (by rfl) (by decide) (by decide)]

/-- The fuse blown and shown. -/
def entropyFailed (s : State) : State :=
  (s.updSec (fun x => { x with otp := { x.otp with entropyFail := true } })).fbw Fld.SEC_TRNG_STATUS_ENTROPY_FAIL true

/-- The DRBG is out of service for good, with its alarm and its record. -/
def drbgLost (s : State) : State :=
  (((s.entropyFailed.urgent 6).trouble 0x0981 3 98 0 (s.rd Reg.SEC_TRNG_FAIL_CNT))).healthCheck

theorem exec_trngHealthFail (s : State) : exec .trngHealthFail s =
    .next (if min 3 (s.fd Fld.SEC_TRNG_STATUS_FAIL_RUN + 1) = 3 && !s.trngStopped.sec.otp.entropyFail then s.trngStopped.drbgLost
      else s.trngStopped) := rfl

theorem drbgLost_shows (s : State) :
    let u := s.drbgLost
    u.sec.otp = { s.sec.otp with entropyFail := true } ∧ u.fb Fld.SEC_TRNG_STATUS_ENTROPY_FAIL = true ∧
      bit (u.rd Reg.HIF_URGENT_CAUSE) 6 = true ∧ u.fd Fld.RAS_HEALTH_STATE = 3 ∧ u.mem = s.mem ∧
      u.rd Reg.SEC_TRNG_FAIL_CNT = s.rd Reg.SEC_TRNG_FAIL_CNT ∧ u.fd Fld.SEC_TRNG_STATUS_FAIL_RUN = s.fd Fld.SEC_TRNG_STATUS_FAIL_RUN ∧
      u.fb Fld.SEC_TRNG_STATUS_DRBG_READY = s.fb Fld.SEC_TRNG_STATUS_DRBG_READY ∧
      u.fb Fld.SEC_TRNG_STATUS_STARTUP = s.fb Fld.SEC_TRNG_STATUS_STARTUP := by
  have hfailed : Keeps [.sec, .regs] s s.entropyFailed := ((keeps_updSec _ _).mono (by decide)).trans ((keeps_fbw _ _ _).mono (by decide))
  have hsec : s.entropyFailed.sec.otp = { s.sec.otp with entropyFail := true } := by rw [entropyFailed, fbw_sec, sec_updSec]
  have hshown : s.entropyFailed.fb Fld.SEC_TRNG_STATUS_ENTROPY_FAIL = true := fb_fbw_self _ _ _ (by rfl) (by decide) (by decide)
  have hcnt : s.entropyFailed.rd Reg.SEC_TRNG_FAIL_CNT = s.rd Reg.SEC_TRNG_FAIL_CNT := by
    rw [entropyFailed, fbw, rd_fw_ne _ _ _ _ (by decide), rd_updSec]
  have hother : ∀ f : Fld, f.reg = Reg.SEC_TRNG_STATUS → f.lo + f.w ≤ 31 → s.entropyFailed.fd f = s.fd f := fun f hr hlow => by
    rw [entropyFailed, fd_fbw_apart _ _ _ _ hr (.inl hlow) (by rw [hr]; exact hlow.trans (by decide)) (by rw [hr]; decide), fd_updSec]
  obtain ⟨hurgent, hbit⟩ := urgent_sets s.entropyFailed (b := 6) (by decide)
  have hurgentRegs := regsKeep_urgent s.entropyFailed 6
  rw [drbgLost]
  generalize s.entropyFailed.urgent 6 = v at hurgent hbit hurgentRegs ⊢
  have hlog := keeps_trouble v 0x0981 3 98 0 (s.rd Reg.SEC_TRNG_FAIL_CNT)
  have hlogRegs := regsKeep_trouble v 0x0981 3 98 0 (s.rd Reg.SEC_TRNG_FAIL_CNT)
  generalize v.trouble 0x0981 3 98 0 (s.rd Reg.SEC_TRNG_FAIL_CNT) = w at hlog hlogRegs ⊢
  have hwsec : w.sec.otp = { s.sec.otp with entropyFail := true } :=
    (congrArg Sec.otp ((hlog .sec (by decide)).trans (hurgent .sec (by decide)))).trans hsec
  have hwhealth : w.health = 3 := health_entropyFail (by rw [hwsec])
  have hcheck := keeps_healthCheck w
  have hcheckRegs := regsKeep_healthCheck w
  have hregs : ∀ r : Reg, r.addr ∉ [Reg.HIF_URGENT_CAUSE.addr, Reg.RAS_HEALTH.addr, Reg.RAS_LOG_SEQ.addr] →
      w.healthCheck.rd r = s.entropyFailed.rd r := fun r hr =>
    (((hurgentRegs.mono (by decide)).trans (hlogRegs.mono (by decide))).trans (hcheckRegs.mono (by decide))).rd hr
  have hfd : ∀ f : Fld, f.reg = Reg.SEC_TRNG_STATUS → f.lo + f.w ≤ 31 → w.healthCheck.fd f = s.fd f := fun f hr hlow =>
    (congrArg (bits · f.lo f.w) (hregs f.reg (by rw [hr]; decide))).trans (hother f hr hlow)
  refine ⟨(congrArg Sec.otp (hcheck .sec (by decide))).trans hwsec, ?_, ?_, ?_, ?_, (hregs _ (by decide)).trans hcnt,
    hfd _ (by rfl) (by decide), congrArg (· != 0) (hfd _ (by rfl) (by decide)), congrArg (· != 0) (hfd _ (by rfl) (by decide))⟩
  · exact (congrArg (fun x => bits x 31 1 != 0) (hregs Reg.SEC_TRNG_STATUS (by decide))).trans hshown
  · rw [hcheckRegs.rd (by decide), hlogRegs.rd (by decide), hbit]
  · rw [fd_health_healthCheck w (by omega), hwhealth]
  · rw [hcheck .mem (by decide), hlog .mem (by decide), hurgent .mem (by decide), hfailed .mem (by decide)]

/-! ## The start-up tests (14 R520) -/

/-- The start-up tests over. -/
def startupOver (s : State) : State :=
  (s.fbw Fld.SEC_TRNG_STATUS_STARTUP false).updSec (fun x => { x with passing := s.now })

/-- The DRBG gives output, and nothing waits. -/
def drbgStarted (s : State) : State := (s.startupOver.fbw Fld.SEC_TRNG_STATUS_DRBG_READY true).setWaiters []

theorem exec_trngStartupPass (s : State) : exec .trngStartupPass s =
    .next (if s.startupOver.sec.otp.entropyFail then s.startupOver else s.drbgStarted.drbgServe false s.startupOver.sec.waiters) := rfl

theorem startupOver_shows (s : State) :
    let u := s.startupOver
    u.fb Fld.SEC_TRNG_STATUS_STARTUP = false ∧ u.fb Fld.SEC_TRNG_STATUS_DRBG_READY = s.fb Fld.SEC_TRNG_STATUS_DRBG_READY ∧
      u.sec = { s.sec with passing := s.now } ∧ Keeps [.regs, .sec] s u ∧ RegsKeep [Reg.SEC_TRNG_STATUS.addr] s u := by
  have hshown := regsKeep_fbw s Fld.SEC_TRNG_STATUS_STARTUP false
  have hsec := keeps_updSec (s.fbw Fld.SEC_TRNG_STATUS_STARTUP false)
    (fun x => { x with passing := s.now })
  refine ⟨?_, ?_, ?_, ((keeps_fbw _ _ _).mono (by decide)).trans (hsec.mono (by decide)), hshown.trans (hsec.regsKeep (by decide) _)⟩
  · rw [startupOver, fb_updSec, fb_fbw_self _ _ _ (by rfl) (by decide) (by decide)]
  · rw [startupOver, fb_updSec, fb_fbw_apart _ _ _ _ (by rfl) (by decide) (by decide) (by decide)]
  · rw [startupOver, sec_updSec, fbw_sec]

/-- The requests that wait replaced. -/
theorem setWaiters_shows (s : State) (l : List DrbgWait) :
    let u := s.setWaiters l
    u.sec = { s.sec with waiters := l } ∧ Keeps [.regs, .sec] s u ∧ RegsKeep [Reg.SEC_TRNG_STATUS.addr] s u ∧
      ∀ f : Fld, f.reg = Reg.SEC_TRNG_STATUS → 24 ≤ f.lo → f.lo + f.w ≤ 32 → u.fb f = s.fb f := by
  have hwaits := keeps_updSec s (fun x => { x with waiters := l })
  refine ⟨by rw [setWaiters, fw_sec, sec_updSec], (hwaits.mono (by decide)).trans ((keeps_fw _ _ _).mono (by decide)),
    (hwaits.regsKeep (by decide) _).trans (regsKeep_fw _ Fld.SEC_TRNG_STATUS_WAITERS _), fun f hr hlow hhigh => ?_⟩
  rw [setWaiters, fb_fw_apart _ Fld.SEC_TRNG_STATUS_WAITERS f _ hr (.inr hlow) (by rw [hr]; exact hhigh) (by rw [hr]; decide), fb_updSec]

theorem drbgStarted_shows (h : s.sec.otp.entropyFail = false) :
    let u := s.drbgStarted
    u.fb Fld.SEC_TRNG_STATUS_STARTUP = false ∧ u.drbgReady = true ∧ u.sec = { s.sec with passing := s.now, waiters := [] } ∧
      Keeps [.regs, .sec] s u ∧ RegsKeep [Reg.SEC_TRNG_STATUS.addr] s u := by
  obtain ⟨hstartup, -, hsec, hkeeps, hregs⟩ := startupOver_shows s
  rw [drbgStarted]
  generalize s.startupOver = a at hstartup hsec hkeeps hregs ⊢
  obtain ⟨hwaits, hwkeeps, hwregs, hother⟩ := setWaiters_shows (a.fbw Fld.SEC_TRNG_STATUS_DRBG_READY true) []
  rw [fbw_sec, hsec] at hwaits
  refine ⟨?_, ?_, hwaits, (hkeeps.trans ((keeps_fbw _ _ _).mono (by decide))).trans hwkeeps,
    (hregs.trans (regsKeep_fbw _ Fld.SEC_TRNG_STATUS_DRBG_READY _)).trans hwregs⟩
  · rw [hother _ (by rfl) (by decide) (by decide), fb_fbw_apart _ _ _ _ (by rfl) (by decide) (by decide) (by decide), hstartup]
  · rw [drbgReady, hother _ (by rfl) (by decide) (by decide), fb_fbw_self _ _ _ (by rfl) (by decide) (by decide), hwaits, h]
    rfl

theorem exec_trngStartupPass_failed (h : s.sec.otp.entropyFail = true) : exec .trngStartupPass s = .next s.startupOver := by
  obtain ⟨-, -, hsec, -⟩ := startupOver_shows s
  rw [exec_trngStartupPass, hsec, if_pos h]

theorem exec_trngStartupPass_starts (h : s.sec.otp.entropyFail = false) :
    exec .trngStartupPass s = .next (s.drbgStarted.drbgServe false s.sec.waiters) := by
  obtain ⟨-, -, hsec, -⟩ := startupOver_shows s
  rw [exec_trngStartupPass, hsec, if_neg (by simp [h])]

/-- A SEC_NONCE that waited is served. -/
theorem drbgServe_nonce {j : Job} {t : Nat} (hcur : s.mcc.cur = some j) (hop : j.pkt.base = 0x0904) (hready : s.drbgReady = true) :
    s.drbgServe false [⟨t, none⟩] = s.nonceDo.1.mccReply s.nonceDo.2 := by
  simp only [drbgServe, List.foldl_cons, List.foldl_nil, hcur, drbgDo_nonce hop hready]

/-! ## Requests that have waited too long (14 R520) -/

/-- A command that draws from the DRBG alone ends when it has waited. -/
theorem drbgServe_fault {j : Job} {t : Nat} (hcur : s.mcc.cur = some j) (hop : j.pkt.base ≠ 0x0903) :
    s.drbgServe true [⟨t, none⟩] = s.mccReply (.err Sts.entropyFault) := by
  simp only [drbgServe, List.foldl_cons, List.foldl_nil, hcur, drbgDo, if_neg hop, if_true]

theorem partition_singleton_true {α : Type} {q : α → Bool} {a : α} (h : q a = true) : [a].partition q = ([a], []) := by
  simp [List.partition, List.partition.loop, h]

theorem partition_singleton_false {α : Type} {q : α → Bool} {a : α} (h : q a = false) : [a].partition q = ([], [a]) := by
  simp [List.partition, List.partition.loop, h]

theorem exec_entropyWaitTimeout (s : State) : exec .entropyWaitTimeout s =
    let parts := s.sec.waiters.partition (fun w => decide (w.time + 10 ^ 6 ≤ s.now))
    .next ((s.setWaiters parts.2).drbgServe true parts.1) := rfl

theorem exec_entropyWaitTimeout_old {t : Nat} {m : Option (List Byte)} (hwait : s.sec.waiters = [⟨t, m⟩]) (hdue : t + 10 ^ 6 ≤ s.now) :
    exec .entropyWaitTimeout s = .next ((s.setWaiters []).drbgServe true [⟨t, m⟩]) := by
  have hparts : s.sec.waiters.partition (fun w => decide (w.time + 10 ^ 6 ≤ s.now)) = ([⟨t, m⟩], []) := by
    rw [hwait]
    exact partition_singleton_true (decide_eq_true hdue)
  rw [exec_entropyWaitTimeout, hparts]

theorem exec_entropyWaitTimeout_young {t : Nat} {m : Option (List Byte)} (hwait : s.sec.waiters = [⟨t, m⟩]) (hdue : s.now < t + 10 ^ 6) :
    exec .entropyWaitTimeout s = .next (s.setWaiters s.sec.waiters) := by
  have hparts : s.sec.waiters.partition (fun w => decide (w.time + 10 ^ 6 ≤ s.now)) = ([], s.sec.waiters) := by
    rw [hwait]
    exact partition_singleton_false (decide_eq_false (Nat.not_le.mpr hdue))
  rw [exec_entropyWaitTimeout, hparts]
  rfl

/-! ## Passing tests (14 R521) -/

theorem exec_entropyStableExpiry (s : State) : exec .entropyStableExpiry s =
    .next (if !s.fb Fld.SEC_TRNG_STATUS_STARTUP && decide (s.sec.passing + 10 ^ 9 ≤ s.now) then s.fw Fld.SEC_TRNG_STATUS_FAIL_RUN 0
      else s) := rfl

theorem exec_entropyStableExpiry_stable (hover : s.fb Fld.SEC_TRNG_STATUS_STARTUP = false) (hdue : s.sec.passing + 10 ^ 9 ≤ s.now) :
    exec .entropyStableExpiry s = .next (s.fw Fld.SEC_TRNG_STATUS_FAIL_RUN 0) := by
  rw [exec_entropyStableExpiry, hover, decide_eq_true hdue, Bool.not_false, Bool.and_self, if_pos rfl]

theorem exec_entropyStableExpiry_early (h : s.fb Fld.SEC_TRNG_STATUS_STARTUP = true ∨ s.now < s.sec.passing + 10 ^ 9) :
    exec .entropyStableExpiry s = .next s := by
  rw [exec_entropyStableExpiry]
  rcases h with h | h
  · rw [h, Bool.not_true, Bool.false_and, if_neg Bool.false_ne_true]
  · rw [decide_eq_false (Nat.not_le.mpr h), Bool.and_false, if_neg Bool.false_ne_true]

end

end Sys2Proof.Machine.State

namespace Sys2Proof

open Sys2Proof.Machine Sys2Proof.Machine.State Sys2Proof.Safety

/-- Settles O48, event by event. -/
theorem entropyEventsHappen : Obligations.EntropyEventsHappen := by
  unfold Obligations.EntropyEventsHappen
  refine ⟨?_, ?_, ?_, ?_, ?_, fun s => ⟨fun hover hdue => ⟨_, exec_entropyStableExpiry_stable hover hdue, ?_, keeps_fw _ _ _,
    regsKeep_fw _ Fld.SEC_TRNG_STATUS_FAIL_RUN _⟩, exec_entropyStableExpiry_early⟩, fun s => rfl⟩
  · intro s run
    obtain ⟨hcnt, hrun, hready, hstartup, hkeeps⟩ := trngStopped_shows s
    refine ⟨_, exec_trngHealthFail s, ?_⟩
    rw [hkeeps .sec (by decide)]
    split
    · rename_i hlost
      obtain ⟨hthree, hnew⟩ : run = 3 ∧ s.sec.otp.entropyFail = false := by
        simpa only [Bool.and_eq_true, decide_eq_true_eq, Bool.not_eq_true'] using hlost
      obtain ⟨hotp, hshown, hurgent, hhealth, hmem, hcnt', hrun', hready', hstartup'⟩ := drbgLost_shows s.trngStopped
      rw [hkeeps .sec (by decide)] at hotp
      exact ⟨hcnt'.trans hcnt, hrun'.trans hrun, hready'.trans hready, hstartup'.trans hstartup, hmem.trans (hkeeps .mem (by decide)),
        fun h => absurd h (by omega), fun _ _ => ⟨hotp, hshown, hurgent, hhealth⟩⟩
    · rename_i hgoes
      exact ⟨hcnt, hrun, hready, hstartup, hkeeps .mem (by decide), fun _ => hkeeps, fun h h' => absurd (by rw [h', decide_eq_true h]; rfl) hgoes⟩
  · intro s hworks hnone
    obtain ⟨hstartup, hready, hsec, hkeeps, hregs⟩ := drbgStarted_shows hworks
    refine ⟨_, exec_trngStartupPass_starts hworks, ?_⟩
    rw [hnone]
    exact ⟨hstartup, hready, by rw [← hnone] at hsec; exact hsec, hkeeps, hregs⟩
  · intro s t j hworks hwait hcur hop
    obtain ⟨hstartup, hready, hsec, hkeeps, hregs⟩ := drbgStarted_shows hworks
    have hrow := exec_trngStartupPass_starts hworks
    rw [hwait, drbgServe_nonce ((congrArg Mcc.cur (hkeeps .mcc (by decide))).trans hcur) hop hready] at hrow
    obtain ⟨v, hv, hans, hdrawn, hdkeeps⟩ := nonceDo_shows s.drbgStarted
    rw [hans] at hrow
    have hnow : s.drbgStarted.now = s.now := hregs.rd (by decide)
    exact ⟨v, hv, _, hrow, by rw [hdrawn, hsec], by rw [hdrawn, hnow], (hkeeps.mono (by decide)).trans (hdkeeps.mono (by decide))⟩
  · intro s hfail
    obtain ⟨hstartup, hready, hsec, hkeeps, -⟩ := startupOver_shows s
    exact ⟨_, exec_trngStartupPass_failed hfail, hstartup, hready, hkeeps⟩
  · intro s t j hwait hcur hop
    have hspdm : j.pkt.base ≠ 0x0903 := by
      rintro heq
      rw [heq] at hop
      exact absurd hop (by decide)
    refine ⟨fun hdue => ?_, fun hdue => ⟨_, exec_entropyWaitTimeout_young hwait hdue, ?_⟩⟩
    · obtain ⟨hsec, hkeeps, -⟩ := setWaiters_shows s []
      have hrow := exec_entropyWaitTimeout_old hwait hdue
      rw [drbgServe_fault ((congrArg Mcc.cur (hkeeps .mcc (by decide))).trans hcur) hspdm] at hrow
      exact ⟨_, hrow, by rw [hsec], hkeeps⟩
    · obtain ⟨hsec, hkeeps, hregs, -⟩ := setWaiters_shows s s.sec.waiters
      refine ⟨fun x hx => ?_, hregs⟩
      by_cases hxs : x = .sec
      · exact hxs ▸ hsec
      · exact hkeeps x (by simpa [hxs] using hx)
  · exact fd_fw_self _ _ _ (by decide) (by decide)

end Sys2Proof
end

section
/-! Clock sources, their switches, spread and gates (O49). -/

namespace Sys2Proof.Machine

/-- One bit is a field of width 1. -/
theorem bit_eq_bits (x i : Nat) : bit x i = (bits x i 1 == 1) := by rw [bit, bits, pow_one]

namespace State

open Sys2Proof.Safety

section
variable {s : State}

/-! ## Single bits of registers -/

/-- A bit set to a value reads as that value. -/
theorem bit_wr_setBits_self (s : State) (r : Reg) (k : Nat) (b : Bool) (hk : k < r.width) (hw : r.width ≤ 64) :
    bit ((s.wr r (setBits (s.rd r) k 1 (b2n b))).rd r) k = b := by
  rw [rd_wr_self _ _ _ hw, bit_eq_bits, bits_mod_two_pow _ (by omega), bits_setBits_self]
  cases b <;> rfl

/-- The other bits of the register stay. -/
theorem bit_wr_setBits_ne (s : State) (r : Reg) {k i : Nat} (v : Nat) (hne : i ≠ k) (hi : i < r.width) (hw : r.width ≤ 64) :
    bit ((s.wr r (setBits (s.rd r) k 1 v)).rd r) i = bit (s.rd r) i := by
  rw [rd_wr_self _ _ _ hw, bit_eq_bits, bit_eq_bits, bits_mod_two_pow _ (by omega)]
  rcases Nat.lt_or_gt_of_ne hne with hlow | hhigh
  · rw [bits_setBits_below _ _ _ _ _ _ (by omega)]
  · rw [bits_setBits_above _ _ _ _ _ _ (by omega)]

theorem bit_orReg (s : State) (r : Reg) (m : Nat) {i : Nat} (hi : i < r.width) (hw : r.width ≤ 64) :
    bit ((s.orReg r m).rd r) i = (bit (s.rd r) i || bit m i) := by
  rw [orReg, rd_wr_self _ _ _ hw, bit_eq_testBit, Nat.testBit_mod_two_pow, decide_eq_true hi, Bool.true_and, ← bit_eq_testBit, bit_or]

theorem bit_orReg_self (s : State) (r : Reg) {i : Nat} (hi : i < r.width) (hw : r.width ≤ 64) : bit ((s.orReg r (2 ^ i)).rd r) i = true := by
  rw [bit_orReg _ _ _ hi hw, bit_eq_testBit (2 ^ i), Nat.testBit_two_pow_self, Bool.or_true]

/-! ## READY (15 R526 to R528) -/

theorem clkReady_setReady_self (s : State) {c : Nat} (b : Bool) (hc : c < 32) : (s.setReady c b).clkReady c = b :=
  bit_wr_setBits_self s Reg.CLK_READY c b hc (by decide)

theorem clkReady_setReady_ne (s : State) {c k : Nat} (b : Bool) (hne : k ≠ c) (hk : k < 32) :
    (s.setReady c b).clkReady k = s.clkReady k := bit_wr_setBits_ne s Reg.CLK_READY _ hne hk (by decide)

theorem keeps_setReady (s : State) (c : Nat) (b : Bool) : Keeps [.regs] s (s.setReady c b) := keeps_wr s _ _

theorem regsKeep_setReady (s : State) (c : Nat) (b : Bool) : RegsKeep [Reg.CLK_READY.addr] s (s.setReady c b) := regsKeep_wr s _ _

theorem keeps_updClk (s : State) (f : Clk → Clk) : Keeps [.clk] s (s.updClk f) := keeps_withClk s _

/-- READY and the selected source rest on their registers. -/
theorem clkReady_of_regsKeep {as : List Nat} {t : State} (h : RegsKeep as s t) (hr : Reg.CLK_READY.addr ∉ as) (c : Nat) :
    t.clkReady c = s.clkReady c := congrArg (bit · c) (h.rd hr)

/-! ## A source fails (15 R528, R529) -/

/-- The counts of good windows of a source that fails. -/
def goodLost (c : Nat) (x : Clk) : Clk :=
  if c = 1 then { x with goodTcxo := 0 } else if c = 2 then { x with goodLink := 0, qualified := false } else x

/-- A source marked as failed. -/
def clkFailed (s : State) (c : Nat) : State := ((s.setReady c false).orReg Reg.CLK_FAIL (2 ^ c)).updClk (goodLost c)

/-- A failure reported. -/
def clkNoted (s : State) : State := (s.urgent 7).troubleRule 0x0A 529 3 97 0

/-- OSC200 takes over at once. -/
def clkTaken (s : State) : State := (((s.clkTake 0).fbw Fld.CLK_STATUS_MODE false).urgent 0).troubleRule 0x0A 529 3 97 0

/-- What a source that is marked as failed shows. -/
structure ClkFailed (s u : State) (c : Nat) : Prop where
  ready : u.clkReady c = false
  other : ∀ k, k < 32 → k ≠ c → u.clkReady k = s.clkReady k
  shown : bit (u.rd Reg.CLK_FAIL) c = true
  clk : u.clk = goodLost c s.clk
  keeps : Keeps [.regs, .clk] s u
  regs : RegsKeep [Reg.CLK_READY.addr, Reg.CLK_FAIL.addr] s u

theorem clkFailed_shows (s : State) {c : Nat} (hc : c < 3) : ClkFailed s (s.clkFailed c) c := by
  have hready := regsKeep_setReady s c false
  have hfail : RegsKeep [Reg.CLK_FAIL.addr] (s.setReady c false) ((s.setReady c false).orReg Reg.CLK_FAIL (2 ^ c)) := regsKeep_wr _ _ _
  have hkeeps : Keeps [.regs] s ((s.setReady c false).orReg Reg.CLK_FAIL (2 ^ c)) := (keeps_setReady s c false).trans (keeps_wr _ _ _)
  have hshown : bit (((s.setReady c false).orReg Reg.CLK_FAIL (2 ^ c)).rd Reg.CLK_FAIL) c = true :=
    bit_orReg_self _ _ (show c < 32 by omega) (by decide)
  rw [clkFailed]
  generalize (s.setReady c false).orReg Reg.CLK_FAIL (2 ^ c) = a at hfail hkeeps hshown ⊢
  have hclk := keeps_updClk a (goodLost c)
  exact {
    ready := (clkReady_of_regsKeep (hclk.regsKeep (by decide) []) (by decide) c).trans
      ((clkReady_of_regsKeep hfail (by decide) c).trans (clkReady_setReady_self s false (by omega)))
    other := fun k hk hne => (clkReady_of_regsKeep (hclk.regsKeep (by decide) []) (by decide) k).trans
      ((clkReady_of_regsKeep hfail (by decide) k).trans (clkReady_setReady_ne s false hne hk))
    shown := by rw [hclk.rd (by decide), hshown]
    clk := congrArg (goodLost c) (hkeeps .clk (by decide))
    keeps := (hkeeps.mono (by decide)).trans (hclk.mono (by decide))
    regs := ((hready.mono (by decide)).trans (hfail.mono (by decide))).trans (hclk.regsKeep (by decide) _) }

theorem goodLost_target (c : Nat) (x : Clk) : (goodLost c x).target = x.target := by
  simp only [goodLost]
  split_ifs <;> rfl

theorem clkFail_gone {c : Nat} (h : s.clkReady c = false) : s.clkFail c = s := by rw [clkFail, h, Bool.not_false, if_pos rfl]

theorem clkFail_eq {c : Nat} (h : s.clkReady c = true) : s.clkFail c =
    if c = (s.clkFailed c).clkSrc && c != 0 && (s.clkFailed c).clkReady 0 then (s.clkFailed c).clkTaken
    else match (s.clkFailed c).clk.target with
      | some (t, f, _) => if t = c then (if (s.clkFailed c).clkReady f then (s.clkFailed c).clkCancel.clkNoted
          else (s.clkFailed c).clkCancel.clkTaken) else (s.clkFailed c).clkNoted
      | none => (s.clkFailed c).clkNoted := by
  have hmarked : (let u := (s.setReady c false).orReg Reg.CLK_FAIL (2 ^ c)
      if c = 1 then u.updClk (fun x => { x with goodTcxo := 0 })
      else if c = 2 then u.updClk (fun x => { x with goodLink := 0, qualified := false }) else u) = s.clkFailed c := by
    simp only [clkFailed, updClk, goodLost]
    split_ifs <;> rfl
  rw [clkFail, h, ← hmarked]
  rfl

section
variable {c : Nat} (hc : c < 3) (hready : s.clkReady c = true)
include hc hready

/-- The failure of a source that is not in use is reported. -/
theorem clkFail_notes (htarget : s.clk.target = none) (hsrc : c ≠ s.clkSrc ∨ c = 0) : s.clkFail c = (s.clkFailed c).clkNoted := by
  have hfailed := clkFailed_shows s hc
  have hstill : (s.clkFailed c).clkSrc = s.clkSrc := hfailed.regs.fd (by decide)
  rw [clkFail_eq hready, hfailed.clk, goodLost_target, htarget, hstill, if_neg (by rcases hsrc with h | rfl <;> simp [*])]

/-- Where the selected source fails, OSC200 takes over. -/
theorem clkFail_takes (hsrc : c = s.clkSrc) (hne : c ≠ 0) (hosc : s.clkReady 0 = true) : s.clkFail c = (s.clkFailed c).clkTaken := by
  have hfailed := clkFailed_shows s hc
  have hstill : (s.clkFailed c).clkSrc = s.clkSrc := hfailed.regs.fd (by decide)
  rw [clkFail_eq hready, if_pos]
  rw [hstill, hfailed.other 0 (by decide) hne.symm, hosc, ← hsrc]
  simp [hne]

end

/-- What the report of a failure leaves. -/
theorem clkNoted_shows (s : State) :
    let u := s.clkNoted
    bit (u.rd Reg.HIF_URGENT_CAUSE) 7 = true ∧ Keeps [.regs, .log, .out, .hif] s u ∧
      RegsKeep [Reg.HIF_URGENT_CAUSE.addr, Reg.RAS_LOG_SEQ.addr] s u := by
  obtain ⟨hkeeps, hbit⟩ := urgent_sets s (b := 7) (by decide)
  have hregs := regsKeep_urgent s 7
  rw [clkNoted, troubleRule]
  generalize s.urgent 7 = a at hkeeps hbit hregs ⊢
  have hlog := regsKeep_trouble a (0x0A * 256 + 0xFF) 3 97 0 529
  exact ⟨by rw [hlog.rd (by decide), hbit], (hkeeps.mono (by decide)).trans (keeps_trouble _ _ _ _ _ _),
    (hregs.mono (by decide)).trans (hlog.mono (by decide))⟩

theorem clkCancel_free (h : s.clk.target = none) : s.clkCancel = s := by rw [clkCancel, h]

theorem clkTaken_shows (h : s.clk.target = none) :
    let u := s.clkTaken
    u.clkSrc = 0 ∧ u.fb Fld.CLK_STATUS_MODE = false ∧ bit (u.rd Reg.HIF_URGENT_CAUSE) 0 = true ∧ Keeps [.regs, .log, .out, .hif] s u ∧
      RegsKeep [Reg.CLK_STATUS.addr, Reg.HIF_URGENT_CAUSE.addr, Reg.RAS_LOG_SEQ.addr] s u := by
  have hsrc : ((s.fw Fld.CLK_STATUS_SRC 0).fbw Fld.CLK_STATUS_MODE false).clkSrc = 0 := by
    rw [clkSrc, fd_fbw_apart _ _ _ _ (by rfl) (by decide) (by decide) (by decide), fd_fw_self _ _ _ (by decide) (by decide)]
    rfl
  have hmode : ((s.fw Fld.CLK_STATUS_SRC 0).fbw Fld.CLK_STATUS_MODE false).fb Fld.CLK_STATUS_MODE = false :=
    fb_fbw_self _ _ _ (by rfl) (by decide) (by decide)
  have hset : Keeps [.regs] s ((s.fw Fld.CLK_STATUS_SRC 0).fbw Fld.CLK_STATUS_MODE false) := (keeps_fw s _ _).trans (keeps_fbw _ _ _)
  have hsetRegs : RegsKeep [Reg.CLK_STATUS.addr] s ((s.fw Fld.CLK_STATUS_SRC 0).fbw Fld.CLK_STATUS_MODE false) :=
    (regsKeep_fw s Fld.CLK_STATUS_SRC 0).trans (regsKeep_fbw _ Fld.CLK_STATUS_MODE false)
  rw [clkTaken, clkTake, clkCancel_free h, troubleRule]
  generalize (s.fw Fld.CLK_STATUS_SRC 0).fbw Fld.CLK_STATUS_MODE false = a at hsrc hmode hset hsetRegs ⊢
  obtain ⟨hkeeps, hbit⟩ := urgent_sets a (b := 0) (by decide)
  have hregs := regsKeep_urgent a 0
  generalize a.urgent 0 = b at hkeeps hbit hregs ⊢
  have hlog := regsKeep_trouble b (0x0A * 256 + 0xFF) 3 97 0 529
  have hboth := hregs.mono (bs := [Reg.HIF_URGENT_CAUSE.addr, Reg.RAS_LOG_SEQ.addr]) (by decide) |>.trans (hlog.mono (by decide))
  exact ⟨(hboth.fd (by decide)).trans hsrc, (hboth.fb (by decide)).trans hmode, by rw [hlog.rd (by decide), hbit],
    ((hset.mono (by decide)).trans (hkeeps.mono (by decide))).trans (keeps_trouble _ _ _ _ _ _),
    (hsetRegs.mono (by decide)).trans (hboth.mono (by decide))⟩

/-! ## AUTO (15 R530) -/

theorem clkAuto_manual (h : s.fb Fld.CLK_STATUS_MODE = false) : s.clkAuto = s := by rw [clkAuto, h, Bool.not_false, if_pos rfl]

/-- The start of a switch where none is under way. -/
def clkSwitching (s : State) (c : Nat) (cmd : Bool) : State :=
  (s.updClk (fun x => { x with target := some (c, s.clkSrc, cmd) })).fbw Fld.CLK_STATUS_SWITCHING true

theorem clkSwitch_free (h : s.clk.target = none) (c : Nat) (cmd : Bool) :
    s.clkSwitch c cmd = if c = s.clkSrc then s else s.clkSwitching c cmd := by
  rw [clkSwitch, clkCancel_free h]
  rfl

theorem clkSwitching_shows (s : State) (c : Nat) (cmd : Bool) :
    let u := s.clkSwitching c cmd
    u.clk = { s.clk with target := some (c, s.clkSrc, cmd) } ∧ u.fb Fld.CLK_STATUS_SWITCHING = true ∧
      u.fb Fld.CLK_STATUS_MODE = s.fb Fld.CLK_STATUS_MODE ∧ Keeps [.regs, .clk] s u ∧ RegsKeep [Reg.CLK_STATUS.addr] s u := by
  have hclk := keeps_updClk s (fun x => { x with target := some (c, s.clkSrc, cmd) })
  refine ⟨by rw [clkSwitching, fbw_clk, updClk], fb_fbw_self _ _ _ (by rfl) (by decide) (by decide), ?_,
    (hclk.mono (by decide)).trans ((keeps_fbw _ _ _).mono (by decide)),
    (hclk.regsKeep (by decide) _).trans (regsKeep_fbw _ Fld.CLK_STATUS_SWITCHING true)⟩
  rw [clkSwitching, fb_fbw_apart _ _ _ _ (by rfl) (by decide) (by decide) (by decide), hclk.fb (by decide)]

/-- The source that AUTO prefers. -/
def autoChoice (s : State) : Nat :=
  if s.clkReady 2 && (s.clk.qualified || s.clkSrc == 2) then 2 else if s.clkReady 1 then 1 else 0

theorem clkAuto_free (h : s.clk.target = none) (hmode : s.fb Fld.CLK_STATUS_MODE = true) :
    s.clkAuto = if s.autoChoice = s.clkSrc then s else s.clkSwitching s.autoChoice false := by
  rw [clkAuto, hmode, Bool.not_true, if_neg Bool.false_ne_true, h, ← clkSwitch_free h]
  rfl

/-- Where no switch is under way, AUTO at most starts one. -/
theorem clkAuto_frame (h : s.clk.target = none) : ∃ x, s.clkAuto.clk = { s.clk with target := x } ∧ Keeps [.regs, .clk] s s.clkAuto ∧
    RegsKeep [Reg.CLK_STATUS.addr] s s.clkAuto := by
  have hsame : ∃ x, s.clk = { s.clk with target := x } ∧ Keeps [.regs, .clk] s s ∧ RegsKeep [Reg.CLK_STATUS.addr] s s :=
    ⟨s.clk.target, rfl, Keeps.refl _ s, RegsKeep.of_regs_eq rfl⟩
  cases hmode : s.fb Fld.CLK_STATUS_MODE
  · rw [clkAuto_manual hmode]
    exact hsame
  · rw [clkAuto_free h hmode]
    split
    · exact hsame
    · obtain ⟨hclk, -, -, hkeeps, hregs⟩ := clkSwitching_shows s s.autoChoice false
      exact ⟨_, hclk, hkeeps, hregs⟩

end

end State
end Sys2Proof.Machine
end

section
/-! The clock monitor, the source's commands, spread and gates (O49). -/

namespace Sys2Proof.Machine.State

open Sys2Proof.Safety

section
variable {s : State}

/-! ## A monitor window (15 R528) -/

/-- The ratio of OSC200's measured frequency to its nominal one, in 0.01 ppm. -/
def oscRatio (s : State) : Int := 10 ^ 8 + s.oscCal

/-- The sources whose counts in the window deviate by more than 1% fail. -/
def windowFailed (s : State) (tcxo link osc : Nat) (k : Int) : State :=
  let s := if s.clkReady 1 && offBy 100 tcxo 1000 (10 ^ 8) k then s.clkFail 1 else s
  let s := if s.clkReady 2 && offBy 100 link 1000 (10 ^ 8) k then s.clkFail 2 else s
  if s.clkReady 0 && s.clkReady 1 && offBy 100 osc 2000 k (10 ^ 8) then s.clkFail 0 else s

/-- The window counted. -/
def windowCounted (s : State) (tcxo link : Nat) (locked : Bool) : State :=
  s.updClk (fun x => { x with
    counts := (tcxo, link) :: s.clk.counts.take 99, goodTcxo := min 100 (x.goodTcxo + 1)
    goodLink := if s.linkTimed locked then min 100 (x.goodLink + 1) else 0 })

/-- Whether TCXO has had 100 good windows. -/
def tcxoGood (s : State) (k : Int) : Bool :=
  decide (s.clk.goodTcxo = 100) && !offBy 200 ((s.clk.counts.map (·.1)).sum) 100000 (10 ^ 8) k

/-- Whether LINK has had 100 good windows. -/
def linkGood (s : State) (k : Int) : Bool :=
  decide (s.clk.goodLink = 100) && (if s.tcxoGood k then !offBy 10000 ((s.clk.counts.map (·.2)).sum) ((s.clk.counts.map (·.1)).sum) 1 1
    else !offBy 100 ((s.clk.counts.map (·.2)).sum) 100000 (10 ^ 8) k)

/-- TCXO and LINK become READY or not. -/
def windowReady (s : State) (k : Int) : State :=
  ((s.setReady 1 (s.tcxoGood k)).setReady 2 (s.linkGood k)).updClk (fun x => { x with qualified := x.qualified && s.linkGood k })

/-- OSC200's offset measured, where another source is selected. -/
def windowTrimmed (s : State) (cal : Int) : State :=
  if s.clkSrc = 0 || !s.clkReady s.clkSrc then s else s.wr Reg.CLK_OSC_CAL (ofInt 32 cal)

theorem exec_clkMonitorWindow (s : State) (tcxo link osc : Nat) (cal : Int) (locked : Bool) :
    exec (.clkMonitorWindow tcxo link osc cal locked) s = .next
      (((((s.windowFailed tcxo link osc s.oscRatio).windowCounted tcxo link locked).windowReady s.oscRatio).windowTrimmed cal).clkAuto) := rfl

theorem windowReady_shows (s : State) (k : Int) :
    let u := s.windowReady k
    u.clkReady 1 = s.tcxoGood k ∧ u.clk = { s.clk with qualified := s.clk.qualified && s.linkGood k } ∧ Keeps [.regs, .clk] s u ∧
      RegsKeep [Reg.CLK_READY.addr] s u := by
  have hset : Keeps [.regs] s ((s.setReady 1 (s.tcxoGood k)).setReady 2 (s.linkGood k)) := (keeps_setReady _ _ _).trans (keeps_setReady _ _ _)
  have hregs := (regsKeep_setReady s 1 (s.tcxoGood k)).trans (regsKeep_setReady _ 2 (s.linkGood k))
  have hready : ((s.setReady 1 (s.tcxoGood k)).setReady 2 (s.linkGood k)).clkReady 1 = s.tcxoGood k :=
    (clkReady_setReady_ne _ _ (by decide) (by decide)).trans (clkReady_setReady_self s _ (by decide))
  rw [windowReady]
  generalize (s.setReady 1 (s.tcxoGood k)).setReady 2 (s.linkGood k) = a at hset hregs hready ⊢
  have hclk := keeps_updClk a (fun x => { x with qualified := x.qualified && s.linkGood k })
  exact ⟨(clkReady_of_regsKeep (hclk.regsKeep (by decide) []) (by decide) 1).trans hready,
    congrArg (fun x : Clk => { x with qualified := x.qualified && s.linkGood k }) (hset .clk (by decide)),
    (hset.mono (by decide)).trans (hclk.mono (by decide)), hregs.trans (hclk.regsKeep (by decide) _)⟩

/-- A TCXO that deviates by more than 1% fails, with LINK out of use. -/
theorem windowFailed_tcxo {tcxo link osc : Nat} {k : Int} (htcxo : s.clkReady 1 = true) (hlink : s.clkReady 2 = false)
    (hsrc : s.clkSrc = 0) (htarget : s.clk.target = none) (hoff : offBy 100 tcxo 1000 (10 ^ 8) k = true) :
    s.windowFailed tcxo link osc k = (s.clkFailed 1).clkNoted := by
  have hfailed := clkFailed_shows s (c := 1) (by decide)
  obtain ⟨-, -, hnoted⟩ := clkNoted_shows (s.clkFailed 1)
  have hready := fun c => clkReady_of_regsKeep hnoted (by decide) c
  have hlink' : (s.clkFailed 1).clkNoted.clkReady 2 = false := by rw [hready, hfailed.other 2 (by decide) (by decide), hlink]
  have htcxo' : (s.clkFailed 1).clkNoted.clkReady 1 = false := by rw [hready, hfailed.ready]
  simp only [windowFailed, htcxo, hoff, clkFail_notes (c := 1) (by decide) htcxo htarget (.inl (by simp [hsrc])), Bool.and_self, if_true, hlink',
    htcxo', Bool.false_and, Bool.and_false, Bool.false_eq_true, if_false]

/-- Where no source is READY none fails. -/
theorem windowFailed_none {tcxo link osc : Nat} {k : Int} (h : s.rd Reg.CLK_READY = 0) : s.windowFailed tcxo link osc k = s := by
  have hready : ∀ c, s.clkReady c = false := fun c => by
    rw [clkReady, h]
    simp [bit]
  simp only [windowFailed, hready, Bool.false_and, Bool.false_eq_true, if_false]

theorem windowTrimmed_osc {cal : Int} (h : s.clkSrc = 0) : s.windowTrimmed cal = s := by
  rw [windowTrimmed, h, decide_eq_true rfl, Bool.true_or, if_pos rfl]

/-- A window in which TCXO deviates. -/
theorem clkMonitorWindow_fails {tcxo link osc : Nat} {cal : Int} {locked : Bool} (hsrc : s.clkSrc = 0) (htarget : s.clk.target = none)
    (htcxo : s.clkReady 1 = true) (hlink : s.clkReady 2 = false) (hoff : offBy 100 tcxo 1000 (10 ^ 8) s.oscRatio = true) :
    Goes (exec (.clkMonitorWindow tcxo link osc cal locked) s) (fun u => u.clkReady 1 = false ∧ bit (u.rd Reg.CLK_FAIL) 1 = true ∧
      bit (u.rd Reg.HIF_URGENT_CAUSE) 7 = true ∧ u.mem = s.mem ∧ u.clk.goodTcxo = 1) := by
  refine ⟨_, exec_clkMonitorWindow s tcxo link osc cal locked, ?_⟩
  have hfailed := clkFailed_shows s (c := 1) (by decide)
  obtain ⟨hbit, hnoted, hnotedRegs⟩ := clkNoted_shows (s.clkFailed 1)
  rw [windowFailed_tcxo htcxo hlink hsrc htarget hoff]
  have hafter : (s.clkFailed 1).clkNoted.clk = goodLost 1 s.clk := (hnoted .clk (by decide)).trans hfailed.clk
  have hasrc : (s.clkFailed 1).clkNoted.clkSrc = 0 := (hnotedRegs.fd (by decide)).trans ((hfailed.regs.fd (by decide)).trans hsrc)
  have hafail : bit ((s.clkFailed 1).clkNoted.rd Reg.CLK_FAIL) 1 = true := by rw [hnotedRegs.rd (by decide), hfailed.shown]
  have hamem : (s.clkFailed 1).clkNoted.mem = s.mem := (hnoted .mem (by decide)).trans (hfailed.keeps .mem (by decide))
  generalize (s.clkFailed 1).clkNoted = a at hbit hafter hasrc hafail hamem ⊢
  have hcounted : Keeps [.clk] a (a.windowCounted tcxo link locked) := keeps_updClk _ _
  have hgood : (a.windowCounted tcxo link locked).clk.goodTcxo = 1 := by
    change min 100 (a.clk.goodTcxo + 1) = 1
    rw [hafter]
    rfl
  have htarget' : (a.windowCounted tcxo link locked).clk.target = none := by
    change a.clk.target = none
    rw [hafter, goodLost_target, htarget]
  generalize a.windowCounted tcxo link locked = b at hcounted hgood htarget' ⊢
  obtain ⟨hready, hclk, hkeeps, hregs⟩ := windowReady_shows b s.oscRatio
  have hbad : b.tcxoGood s.oscRatio = false := by rw [tcxoGood, hgood]; rfl
  generalize b.windowReady s.oscRatio = c at hready hclk hkeeps hregs ⊢
  rw [windowTrimmed_osc ((hregs.fd (by decide)).trans ((hcounted.fd (by decide) _).trans hasrc))]
  obtain ⟨x, hxclk, hxkeeps, hxregs⟩ := clkAuto_frame (s := c) (by rw [hclk, htarget'])
  refine ⟨(clkReady_of_regsKeep hxregs (by decide) 1).trans (hready.trans hbad), ?_, ?_, ?_, by rw [hxclk, hclk, hgood]⟩
  · rw [hxregs.rd (by decide), hregs.rd (by decide), hcounted.rd (by decide), hafail]
  · rw [hxregs.rd (by decide), hregs.rd (by decide), hcounted.rd (by decide), hbit]
  · rw [hxkeeps .mem (by decide), hkeeps .mem (by decide), hcounted .mem (by decide), hamem]

/-- The hundredth good window of TCXO. -/
theorem clkMonitorWindow_ready {tcxo link osc : Nat} {cal : Int} {locked : Bool} (hmode : s.fb Fld.CLK_STATUS_MODE = false)
    (hnone : s.rd Reg.CLK_READY = 0) (hgood : 99 ≤ s.clk.goodTcxo) (hsrc : s.clkSrc = 0)
    (hon : offBy 200 ((((tcxo, link) :: s.clk.counts.take 99).map (·.1)).sum) 100000 (10 ^ 8) s.oscRatio = false) :
    Goes (exec (.clkMonitorWindow tcxo link osc cal locked) s) (fun u => u.clkReady 1 = true ∧
      u.clk.counts = (tcxo, link) :: s.clk.counts.take 99 ∧ Keeps [.regs, .clk] s u ∧ RegsKeep [Reg.CLK_READY.addr] s u) := by
  refine ⟨_, exec_clkMonitorWindow s tcxo link osc cal locked, ?_⟩
  rw [windowFailed_none hnone]
  have hcounted : Keeps [.clk] s (s.windowCounted tcxo link locked) := keeps_updClk _ _
  have hcounts : (s.windowCounted tcxo link locked).clk.counts = (tcxo, link) :: s.clk.counts.take 99 := rfl
  have hhundred : (s.windowCounted tcxo link locked).clk.goodTcxo = 100 := show min 100 (s.clk.goodTcxo + 1) = 100 by omega
  generalize s.windowCounted tcxo link locked = b at hcounted hcounts hhundred ⊢
  obtain ⟨hready, hclk, hkeeps, hregs⟩ := windowReady_shows b s.oscRatio
  have hok : b.tcxoGood s.oscRatio = true := by rw [tcxoGood, hhundred, hcounts, hon]; rfl
  generalize b.windowReady s.oscRatio = c at hready hclk hkeeps hregs ⊢
  have hall := (hcounted.mono (qs := [.regs, .clk]) (by decide)).trans hkeeps
  have hallRegs := (hcounted.regsKeep (by decide) _).trans hregs
  rw [windowTrimmed_osc ((hallRegs.fd (by decide)).trans hsrc), clkAuto_manual ((hallRegs.fb (by decide)).trans hmode)]
  exact ⟨hready.trans hok, by rw [hclk, hcounts], hall, hallRegs⟩

/-! ## Events of the sources -/

theorem exec_missingEdge (s : State) (c : Nat) : exec (.missingEdge c) s = .next (if c < 3 then s.clkFail c else s) := rfl

section
variable {c : Nat} (hc : c < 3) (hready : s.clkReady c = true) (htarget : s.clk.target = none)
include hc hready htarget

theorem missingEdge_notes (hsrc : c ≠ s.clkSrc ∨ c = 0) : Goes (exec (.missingEdge c) s) (fun u => u.clkReady c = false ∧
    bit (u.rd Reg.CLK_FAIL) c = true ∧ bit (u.rd Reg.HIF_URGENT_CAUSE) 7 = true ∧ u.clkSrc = s.clkSrc ∧ u.mem = s.mem) := by
  have hfailed := clkFailed_shows s hc
  obtain ⟨hbit, hnoted, hregs⟩ := clkNoted_shows (s.clkFailed c)
  refine ⟨(s.clkFailed c).clkNoted, by rw [exec_missingEdge, if_pos hc, clkFail_notes hc hready htarget hsrc],
    (clkReady_of_regsKeep hregs (by decide) c).trans hfailed.ready, by rw [hregs.rd (by decide), hfailed.shown], hbit,
    (hregs.fd (by decide)).trans (hfailed.regs.fd (by decide)), (hnoted .mem (by decide)).trans (hfailed.keeps .mem (by decide))⟩

theorem missingEdge_takes (hsrc : c = s.clkSrc) (hne : c ≠ 0) (hosc : s.clkReady 0 = true) : Goes (exec (.missingEdge c) s) (fun u =>
    u.clkReady c = false ∧ bit (u.rd Reg.CLK_FAIL) c = true ∧ bit (u.rd Reg.HIF_URGENT_CAUSE) 0 = true ∧ u.clkSrc = 0 ∧
      u.fb Fld.CLK_STATUS_MODE = false ∧ u.mem = s.mem) := by
  have hfailed := clkFailed_shows s hc
  obtain ⟨hzero, hmode, hbit, hkeeps, hregs⟩ := clkTaken_shows (s := s.clkFailed c) (by rw [hfailed.clk, goodLost_target, htarget])
  exact ⟨(s.clkFailed c).clkTaken, by rw [exec_missingEdge, if_pos hc, clkFail_takes hc hready hsrc hne hosc],
    (clkReady_of_regsKeep hregs (by decide) c).trans hfailed.ready, by rw [hregs.rd (by decide), hfailed.shown], hbit, hzero, hmode,
    (hkeeps .mem (by decide)).trans (hfailed.keeps .mem (by decide))⟩

end

theorem missingEdge_none {c : Nat} (h : 3 ≤ c ∨ s.clkReady c = false) : exec (.missingEdge c) s = .next s := by
  rw [exec_missingEdge]
  rcases h with h | h
  · rw [if_neg (by omega)]
  · rw [clkFail_gone h, ite_self]

theorem exec_osc200Ready (s : State) :
    exec .osc200Ready s = .next (if s.fb Fld.CLK_FAIL_OSC then s else (s.setReady 0 true).clkAuto) := rfl

theorem osc200Ready_ready (hfine : s.fb Fld.CLK_FAIL_OSC = false) (hmode : s.fb Fld.CLK_STATUS_MODE = false) :
    exec .osc200Ready s = .next (s.setReady 0 true) := by
  rw [exec_osc200Ready, hfine, if_neg Bool.false_ne_true, clkAuto_manual (((regsKeep_setReady s 0 true).fb (by decide)).trans hmode)]

theorem exec_linkQualExpiry (s : State) :
    exec .linkQualExpiry s = .next (if s.clkReady 2 then (s.updClk (fun x => { x with qualified := true })).clkAuto else s) := rfl

/-- AUTO prefers a LINK that has qualified. -/
theorem linkQualExpiry_switches (hready : s.clkReady 2 = true) (hmode : s.fb Fld.CLK_STATUS_MODE = true) (hsrc : s.clkSrc ≠ 2)
    (htarget : s.clk.target = none) :
    exec .linkQualExpiry s = .next ((s.updClk (fun x => { x with qualified := true })).clkSwitching 2 false) := by
  have hq := keeps_updClk s (fun x => { x with qualified := true })
  have hqualified : (s.updClk (fun x => { x with qualified := true })).clk.qualified = true := rfl
  have hfree : (s.updClk (fun x => { x with qualified := true })).clk.target = none := htarget
  rw [exec_linkQualExpiry, if_pos hready]
  generalize s.updClk (fun x => { x with qualified := true }) = a at hq hqualified hfree ⊢
  have hasrc : a.clkSrc = s.clkSrc := hq.fd (by decide) _
  have hchoice : a.autoChoice = 2 := by
    rw [autoChoice, clkReady_of_regsKeep (hq.regsKeep (by decide) []) (by decide), hready, hqualified, Bool.true_or, Bool.and_self, if_pos rfl]
  rw [clkAuto_free hfree (by rw [hq.fb (by decide), hmode]), hchoice, hasrc, if_neg hsrc.symm]

/-- A switch under way takes effect. -/
def clkSwitched (s : State) (c : Nat) : State :=
  ((s.updClk (fun x => { x with target := none })).fbw Fld.CLK_STATUS_SWITCHING false).fw Fld.CLK_STATUS_SRC c

theorem clkSwitched_shows (s : State) {c : Nat} (hc : c < 3) :
    let u := s.clkSwitched c
    u.clkSrc = c ∧ u.fb Fld.CLK_STATUS_SWITCHING = false ∧ u.clk = { s.clk with target := none } ∧ Keeps [.regs, .clk] s u := by
  refine ⟨?_, ?_, by rw [clkSwitched, fw_clk, fbw_clk, updClk],
    ((keeps_updClk s _).mono (by decide)).trans (((keeps_fbw _ _ _).trans (keeps_fw _ _ _)).mono (by decide))⟩
  · rw [clkSrc, clkSwitched, fd_fw_self _ _ _ (by decide) (by decide)]
    exact Nat.mod_eq_of_lt (show c < 4 by omega)
  · rw [clkSwitched, fb_fw_apart _ _ _ _ (by rfl) (by decide) (by decide) (by decide), fb_fbw_self _ _ _ (by rfl) (by decide) (by decide)]

theorem exec_clkSwitchComplete (s : State) : exec .clkSwitchComplete s = .next (match s.clk.target with
    | none => s
    | some (c, _, cmd) => if cmd then (s.clkSwitched c).mccReply .done else s.clkSwitched c) := rfl

/-! ## CLK_SRC_SET (15 R530, R531) -/

section
variable {s1 : State} {via : Via} {p : Packet} {j : Job}

theorem clk_begun (s : State) (via : Via) (j : Job) : (s.beginJob true via j).clk = s.clk := keeps_beginJob s true via j .clk (by decide)

theorem clkReady_begun (s : State) (via : Via) (j : Job) (c : Nat) : (s.beginJob true via j).clkReady c = s.clkReady c :=
  congrArg (bit · c) (rd_begun s via j (by decide))

theorem clkSrc_begun (s : State) (via : Via) (j : Job) : (s.beginJob true via j).clkSrc = s.clkSrc := fd_begun s via j (by decide)

/-- The state in which a manual choice is made. -/
theorem manualChoice (s1 : State) (via : Via) (j : Job) :
    let u := (s1.beginJob true via j).fbw Fld.CLK_STATUS_MODE false
    u.fb Fld.CLK_STATUS_MODE = false ∧ u.clkSrc = s1.clkSrc ∧ u.clk = s1.clk ∧ Keeps [.regs] (s1.beginJob true via j) u := by
  refine ⟨fb_fbw_self _ _ _ (by rfl) (by decide) (by decide), ?_, by rw [fbw_clk, clk_begun], keeps_fbw _ _ _⟩
  rw [clkSrc, fd_fbw_apart _ _ _ _ (by rfl) (by decide) (by decide) (by decide)]
  exact clkSrc_begun s1 via j

section
variable (h : Starts s true via p j s1) (hop : p.base = 0x0A00) (hexpert : p.expert = true) (hmanual : p.u8 16 = 0) (hsrc : p.u8 17 ≤ 2)
include h hop hexpert hmanual hsrc

theorem clkSrcSet_refused (hready : s1.clkReady (p.u8 17) = false) : exec (.clkSrcSet via p) s = .next (s1.finish via (.refuse 0x0A01)) := by
  refine congrArg Host.Outcome.next (runRow_refused h (by simp [hop]) ?_)
  simp [firstFail, profileOne, hexpert, hmanual, hready, Nat.not_lt.mpr hsrc]

theorem exec_clkSrcSet (hready : s1.clkReady (p.u8 17) = true) : exec (.clkSrcSet via p) s = .next (rowEnd via
    (let u := (s1.beginJob true via j).fbw Fld.CLK_STATUS_MODE false
     if p.u8 17 = u.clkSrc then (u.clkCancel, some .done) else (u.clkSwitch (p.u8 17) true, none))) := by
  refine congrArg Host.Outcome.next ((runRow_runs h (by simp [hop]) ?_).trans ?_)
  · simp [firstFail, profileOne, hexpert, hmanual, hready, Nat.not_lt.mpr hsrc]
  · simp only [hexpert, hmanual, Bool.not_true, Bool.false_or, Nat.zero_ne_one, beq_eq_false_iff_ne.mpr, ne_eq, not_false_eq_true,
      Bool.false_eq_true, if_false]

end
end
end

end Sys2Proof.Machine.State
end

section
/-! CLK_SRC_SET, CLK_SSC_SET and CLK_GATE_SET, and what O49 says of them. -/

namespace Sys2Proof.Machine.State

open Sys2Proof.Safety

section
variable {s s1 : State} {via : Via} {p : Packet} {j : Job}

/-! ## CLK_SRC_SET (15 R531) -/

section
variable (h : Starts s true via p j s1) (hop : p.base = 0x0A00) (hexpert : p.expert = true) (hmanual : p.u8 16 = 0) (hsrc : p.u8 17 ≤ 2)
  (hready : s1.clkReady (p.u8 17) = true) (htarget : s1.clk.target = none)
include h hop hexpert hmanual hsrc hready htarget

theorem clkSrcSet_keeps (hsame : p.u8 17 = s1.clkSrc) :
    exec (.clkSrcSet via p) s = .next (((s1.beginJob true via j).fbw Fld.CLK_STATUS_MODE false).finish via .done) := by
  obtain ⟨-, hstill, hclk, -⟩ := manualChoice s1 via j
  rw [exec_clkSrcSet h hop hexpert hmanual hsrc hready]
  simp only [hstill, hsame, if_true, clkCancel_free (by rw [hclk, htarget]), rowEnd]

theorem clkSrcSet_switches (hother : p.u8 17 ≠ s1.clkSrc) : exec (.clkSrcSet via p) s =
    .next (((s1.beginJob true via j).fbw Fld.CLK_STATUS_MODE false).clkSwitching (p.u8 17) true) := by
  obtain ⟨-, hstill, hclk, -⟩ := manualChoice s1 via j
  rw [exec_clkSrcSet h hop hexpert hmanual hsrc hready]
  simp only [hstill, if_neg hother, clkSwitch_free (by rw [hclk, htarget]), rowEnd]

end

/-! ## CLK_SSC_SET (15 R535) -/

/-- Spread and rate of a die. -/
def spreadSet (s : State) (die spread rate : Nat) : State :=
  (s.fw (if die = 0 then Fld.CLK_SSC_SPREAD_W else Fld.CLK_SSC_SPREAD_E) spread).fw
    (if die = 0 then Fld.CLK_SSC_RATE_W else Fld.CLK_SSC_RATE_E) rate

theorem spreadSet_west (s : State) {spread rate : Nat} (hspread : spread < 2 ^ 8) (hrate : rate < 2 ^ 6) :
    let u := s.spreadSet 0 spread rate
    u.fd Fld.CLK_SSC_SPREAD_W = spread ∧ u.fd Fld.CLK_SSC_RATE_W = rate ∧ u.fd Fld.CLK_SSC_SPREAD_E = s.fd Fld.CLK_SSC_SPREAD_E ∧
      u.fd Fld.CLK_SSC_RATE_E = s.fd Fld.CLK_SSC_RATE_E := by
  have hother : ∀ f : Fld, f.reg = Reg.CLK_SSC → 16 ≤ f.lo → f.lo + f.w ≤ 32 → (s.spreadSet 0 spread rate).fd f = s.fd f :=
    fun f hr hlow hhigh => by
      have hw : f.reg.width ≤ 64 := by rw [hr]; decide
      have hin : f.lo + f.w ≤ f.reg.width := by rw [hr]; exact hhigh
      rw [spreadSet, if_pos rfl, if_pos rfl, fd_fw_apart _ Fld.CLK_SSC_RATE_W f _ hr (.inr ((show 8 + 6 ≤ 16 by decide).trans hlow)) hin hw,
        fd_fw_apart _ Fld.CLK_SSC_SPREAD_W f _ hr (.inr ((show 0 + 8 ≤ 16 by decide).trans hlow)) hin hw]
  refine ⟨?_, ?_, hother _ (by rfl) (by decide) (by decide), hother _ (by rfl) (by decide) (by decide)⟩
  · rw [spreadSet, if_pos rfl, if_pos rfl, fd_fw_apart _ _ _ _ (by rfl) (by decide) (by decide) (by decide), fd_fw_self _ _ _ (by decide) (by decide)]
    exact Nat.mod_eq_of_lt hspread
  · rw [spreadSet, if_pos rfl, if_pos rfl, fd_fw_self _ _ _ (by decide) (by decide)]
    exact Nat.mod_eq_of_lt hrate

theorem spreadSet_east (s : State) {spread rate : Nat} (hspread : spread < 2 ^ 8) (hrate : rate < 2 ^ 6) :
    let u := s.spreadSet 1 spread rate
    u.fd Fld.CLK_SSC_SPREAD_E = spread ∧ u.fd Fld.CLK_SSC_RATE_E = rate ∧ u.fd Fld.CLK_SSC_SPREAD_W = s.fd Fld.CLK_SSC_SPREAD_W ∧
      u.fd Fld.CLK_SSC_RATE_W = s.fd Fld.CLK_SSC_RATE_W := by
  have hother : ∀ f : Fld, f.reg = Reg.CLK_SSC → f.lo + f.w ≤ 16 → (s.spreadSet 1 spread rate).fd f = s.fd f :=
    fun f hr hhigh => by
      have hw : f.reg.width ≤ 64 := by rw [hr]; decide
      have hin : f.lo + f.w ≤ f.reg.width := by rw [hr]; exact hhigh.trans (by decide)
      rw [spreadSet, if_neg (by decide), if_neg (by decide),
        fd_fw_apart _ Fld.CLK_SSC_RATE_E f _ hr (.inl (hhigh.trans (show 16 ≤ 24 by decide))) hin hw,
        fd_fw_apart _ Fld.CLK_SSC_SPREAD_E f _ hr (.inl (hhigh.trans (show 16 ≤ 16 by decide))) hin hw]
  refine ⟨?_, ?_, hother _ (by rfl) (by decide), hother _ (by rfl) (by decide)⟩
  · rw [spreadSet, if_neg (by decide), if_neg (by decide), fd_fw_apart _ _ _ _ (by rfl) (by decide) (by decide) (by decide),
      fd_fw_self _ _ _ (by decide) (by decide)]
    exact Nat.mod_eq_of_lt hspread
  · rw [spreadSet, if_neg (by decide), if_neg (by decide), fd_fw_self _ _ _ (by decide) (by decide)]
    exact Nat.mod_eq_of_lt hrate

theorem spreadSet_frame (s : State) (die spread rate : Nat) :
    Keeps [.regs] s (s.spreadSet die spread rate) ∧ RegsKeep [Reg.CLK_SSC.addr] s (s.spreadSet die spread rate) := by
  refine ⟨(keeps_fw _ _ _).trans (keeps_fw _ _ _), ?_⟩
  by_cases hd : die = 0
  · rw [spreadSet, if_pos hd, if_pos hd]
    exact (regsKeep_fw s Fld.CLK_SSC_SPREAD_W _).trans (regsKeep_fw _ Fld.CLK_SSC_RATE_W _)
  · rw [spreadSet, if_neg hd, if_neg hd]
    exact (regsKeep_fw s Fld.CLK_SSC_SPREAD_E _).trans (regsKeep_fw _ Fld.CLK_SSC_RATE_E _)

section
variable (h : Starts s true via p j s1) (hop : p.base = 0x0A01) (hexpert : p.expert = true)
include h hop hexpert

theorem clkSscSet_sets (hdie : p.u8 16 ≤ 1) (hspread : p.u8 17 ≤ 20) (hlow : 30 ≤ p.u8 18) (hhigh : p.u8 18 ≤ 63) :
    exec (.clkSscSet via p) s = .next (((s1.beginJob true via j).spreadSet (p.u8 16) (p.u8 17) (p.u8 18)).finish via .done) := by
  refine congrArg Host.Outcome.next (runRow_ends h (by simp [hop]) ?_ ?_)
  · simp [firstFail, hexpert, hdie, hspread, hlow, hhigh]
  · simp only [hexpert, if_true, Bool.not_true, Bool.false_and, Bool.false_eq_true, if_false]
    rfl

theorem clkSscSet_refused (hbad : 1 < p.u8 16 ∨ 20 < p.u8 17 ∨ p.u8 18 < 30 ∨ 63 < p.u8 18) :
    exec (.clkSscSet via p) s = .next (s1.finish via .param) := by
  refine congrArg Host.Outcome.next (runRow_refused h (by simp [hop]) ?_)
  simp only [hexpert, if_true, Bool.not_true, Bool.false_and, Bool.or_false, firstFail, Bool.or_eq_true, decide_eq_true_eq]
  rw [if_pos (by tauto)]

end

/-! ## Gates (15 R537 to R539) -/

theorem islandOn_setClk_off (s : State) {i : Nat} (hi : i < 100) : (s.setClk i false).islandOn i = false := by
  by_cases h : i < 64
  · rw [setClk, if_pos h, islandOn, if_pos h]
    exact bit_wr_setBits_self s Reg.CLK_EN0 i false h (by decide)
  · rw [setClk, if_neg h, islandOn, if_neg h]
    exact bit_wr_setBits_self s Reg.CLK_EN1 (i - 64) false (show i - 64 < 64 by omega) (by decide)

theorem islandOn_setClk_ne (s : State) {i k : Nat} (b : Bool) (hk : k < 100) (hne : k ≠ i) : (s.setClk i b).islandOn k = s.islandOn k := by
  by_cases h : i < 64
  · rw [setClk, if_pos h]
    by_cases h' : k < 64
    · rw [islandOn, if_pos h', islandOn, if_pos h']
      exact bit_wr_setBits_ne s Reg.CLK_EN0 _ hne h' (by decide)
    · rw [islandOn, if_neg h', islandOn, if_neg h', rd_wr_ne _ _ _ _ (by decide)]
  · rw [setClk, if_neg h]
    by_cases h' : k < 64
    · rw [islandOn, if_pos h', islandOn, if_pos h', rd_wr_ne _ _ _ _ (by decide)]
    · rw [islandOn, if_neg h', islandOn, if_neg h']
      exact bit_wr_setBits_ne s Reg.CLK_EN1 _ (by omega) (show k - 64 < 64 by omega) (by decide)

theorem islandOn_begun (s : State) (via : Via) (j : Job) (i : Nat) : (s.beginJob true via j).islandOn i = s.islandOn i :=
  islandOn_congr (rd_begun s via j (by decide)) (rd_begun s via j (by decide)) i

/-- An island gated once its crossings are empty. -/
def gated (s : State) (i : Nat) : State := (s.updClk (fun x => { x with gating := x.gating.filter (· != i) })).setClk i false

theorem gated_shows (s : State) {i : Nat} (hi : i < 100) :
    let u := s.gated i
    u.islandOn i = false ∧ (∀ k, k < 100 → k ≠ i → u.islandOn k = s.islandOn k) ∧
      u.clk = { s.clk with gating := s.clk.gating.filter (· != i) } ∧ Keeps [.regs, .clk] s u := by
  have hclk := keeps_updClk s (fun x => { x with gating := x.gating.filter (· != i) })
  exact ⟨islandOn_setClk_off _ hi, fun k hk hne => (islandOn_setClk_ne _ false hk hne).trans
    (islandOn_congr (hclk.rd (by decide) _) (hclk.rd (by decide) _) k), keeps_setClk _ i false .clk (by decide),
    (hclk.mono (by decide)).trans ((keeps_setClk _ i false).mono (by decide))⟩

theorem exec_gateCrossingEmpty (s : State) (i : Nat) : exec (.gateCrossingEmpty i) s = .next (if s.clk.gating.contains i then
    if (s.gated i).gateCmd i then (s.gated i).mccReply .done else s.gated i else s) := rfl

theorem gateCmd_gated (s : State) {i : Nat} (hi : i < 100) : (s.gated i).gateCmd i = s.gateCmd i := by
  obtain ⟨-, -, -, hkeeps⟩ := gated_shows s hi
  exact gateCmd_congr (hkeeps .mcc (by decide)) i

theorem gateCrossingEmpty_gates {i : Nat} (hi : i < 100) (hgating : i ∈ s.clk.gating) :
    exec (.gateCrossingEmpty i) s = .next (if s.gateCmd i then (s.gated i).mccReply .done else s.gated i) := by
  rw [exec_gateCrossingEmpty, if_pos (List.contains_iff_mem.mpr hgating), gateCmd_gated s hi]

theorem gateCrossingEmpty_none {i : Nat} (hgating : i ∉ s.clk.gating) : exec (.gateCrossingEmpty i) s = .next s := by
  rw [exec_gateCrossingEmpty, if_neg (fun hin => hgating (List.contains_iff_mem.mp hin))]

/-- The checks of CLK_GATE_SET. -/
def gateCheck (p : Packet) (s : State) : Option Ans :=
  firstFail [(!s.fuse.video && decide (82 ≤ p.u8 16) && decide (p.u8 16 < 87), .err Sts.unitAbsent),
    (!State.gateable (p.u8 16) || decide (1 < p.u8 17), .param), (s.islandSpare (p.u8 16), .refuse 0x0A04),
    (p.u8 17 == 0 && s.islandOn (p.u8 16) && !s.mayGate (p.u8 16), .refuse 0x0A02)]

/-- The effect of CLK_GATE_SET. -/
def gateAct (p : Packet) (s : State) : State × Option Ans :=
  if s.islandOn (p.u8 16) = (p.u8 17 == 1) then (s, some .done)
  else if p.u8 17 = 0 then (s.updClk (fun x => { x with gating := x.gating.filter (· != p.u8 16) ++ [p.u8 16] }), none)
  else if hasPstate (p.u8 16) then (s.wakeQueue (p.u8 16) true, none)
  else (s.ungate (p.u8 16), none)

theorem gateCheck_present (hen : p.u8 17 ≤ 1) (hgate : State.gateable (p.u8 16) = true)
    (hthere : s.fuse.video = true ∨ p.u8 16 < 82 ∨ 87 ≤ p.u8 16) : gateCheck p s =
      firstFail [(s.islandSpare (p.u8 16), .refuse 0x0A04), (p.u8 17 == 0 && s.islandOn (p.u8 16) && !s.mayGate (p.u8 16), .refuse 0x0A02)] := by
  have habsent : (!s.fuse.video && decide (82 ≤ p.u8 16) && decide (p.u8 16 < 87)) = false := by
    rcases hthere with hv | hlow | hhigh
    · rw [hv, Bool.not_true, Bool.false_and, Bool.false_and]
    · rw [decide_eq_false (Nat.not_le.mpr hlow), Bool.and_false, Bool.false_and]
    · rw [decide_eq_false (Nat.not_lt.mpr hhigh), Bool.and_false]
  rw [gateCheck, firstFail, habsent, if_neg Bool.false_ne_true, firstFail, hgate, decide_eq_false (Nat.not_lt.mpr hen), if_neg (by decide)]

theorem clkGateSet_refused {a : Ans} (h : Starts s true via p j s1) (hop : p.base = 0x0A02) (hcheck : gateCheck p s1 = some a) :
    exec (.clkGateSet via p) s = .next (s1.finish via a) := congrArg Host.Outcome.next (runRow_refused h (by simp [hop]) hcheck)

theorem clkGateSet_runs (h : Starts s true via p j s1) (hop : p.base = 0x0A02) (hcheck : gateCheck p s1 = none) :
    exec (.clkGateSet via p) s = .next (rowEnd via (gateAct p (s1.beginJob true via j))) :=
  congrArg Host.Outcome.next (runRow_runs h (by simp [hop]) hcheck)

section
variable (h : Starts s true via p j s1) (hop : p.base = 0x0A02) (hcheck : gateCheck p s1 = none)
include h hop hcheck

theorem clkGateSet_settled (hsame : s1.islandOn (p.u8 16) = (p.u8 17 == 1)) :
    exec (.clkGateSet via p) s = .next ((s1.beginJob true via j).finish via .done) := by
  rw [clkGateSet_runs h hop hcheck, gateAct, if_pos ((islandOn_begun s1 via j _).trans hsame), rowEnd]

theorem clkGateSet_gates (hoff : p.u8 17 = 0) (hclocked : s1.islandOn (p.u8 16) = true) : exec (.clkGateSet via p) s =
    .next ((s1.beginJob true via j).updClk (fun x => { x with gating := x.gating.filter (· != p.u8 16) ++ [p.u8 16] })) := by
  rw [clkGateSet_runs h hop hcheck, gateAct, if_neg (by rw [islandOn_begun, hclocked, hoff]; decide), if_pos hoff, rowEnd]

theorem clkGateSet_wakes (hset : p.u8 17 = 1) (hgated : s1.islandOn (p.u8 16) = false) (hp : hasPstate (p.u8 16) = true) :
    exec (.clkGateSet via p) s = .next ((s1.beginJob true via j).wakeQueue (p.u8 16) true) := by
  rw [clkGateSet_runs h hop hcheck, gateAct, if_neg (by rw [islandOn_begun, hgated, hset]; decide), if_neg (by omega), if_pos hp, rowEnd]

theorem clkGateSet_ungates (hset : p.u8 17 = 1) (hgated : s1.islandOn (p.u8 16) = false) (hp : hasPstate (p.u8 16) = false) :
    exec (.clkGateSet via p) s = .next ((s1.beginJob true via j).ungate (p.u8 16)) := by
  rw [clkGateSet_runs h hop hcheck, gateAct, if_neg (by rw [islandOn_begun, hgated, hset]; decide), if_neg (by omega), hp,
    if_neg Bool.false_ne_true, rowEnd]

end

/-- A wake that is not waiting yet joins those that do. -/
theorem wakeQueue_new {i : Nat} {b : Bool} (h : s.pwr.wakes.contains (i, b) = false) :
    s.wakeQueue i b = (s.updPwr (fun x => { x with wakes := x.wakes ++ [(i, b)] })).pwrSettle := by
  rw [wakeQueue, h, if_neg Bool.false_ne_true]

/-- An island without performance states is clocked at once, for the command that asks for it. -/
theorem ungate_answers {i : Nat} (h : s.gateCmd i = true) : s.ungate i = ((s.islandFresh i).setClk i true).mccReply .done := by
  have hm : ((s.islandFresh i).setClk i true).mcc = s.mcc :=
    (keeps_setClk _ i true .mcc (by decide)).trans (keeps_islandFresh s i .mcc (by decide))
  rw [ungate, gateCmd_congr hm, h, if_pos rfl]

theorem gateCmd_begun (h : Starts s true .mcc p j s1) (hop : p.base = 0x0A02) : (s1.beginJob true .mcc j).gateCmd (p.u8 16) = true := by
  have hcur : (s1.beginJob true .mcc j).mcc.cur = some { j with begun := true } := jobOf_beginJob s1 true .mcc j
  rw [gateCmd, hcur]
  simp [h.packet, hop]

theorem gateable_lt {i : Nat} (h : State.gateable i = true) : i < 100 := by
  simp only [gateable, hasPstate, isSite, Bool.or_eq_true, Bool.and_eq_true, decide_eq_true_eq, beq_iff_eq] at h
  omega

end

end Sys2Proof.Machine.State

namespace Sys2Proof

open Sys2Proof.Machine Sys2Proof.Machine.State Sys2Proof.Safety

/-- Settles O49: the monitor, the events of the sources, and each command by its checks in their order. -/
theorem clocksChange : Obligations.ClocksChange := by
  unfold Obligations.ClocksChange
  refine ⟨?_, ?_, fun s c => missingEdge_none, ?_, ?_, ?_, ?_, ?_, ?_, ?_⟩
  · exact fun s tcxo link osc cal locked => ⟨fun hsrc htarget htcxo hlink hoff => clkMonitorWindow_fails hsrc htarget htcxo hlink hoff,
      fun hmode hnone hgood hsrc hon => clkMonitorWindow_ready hmode hnone hgood hsrc hon⟩
  · exact fun s c hc hready htarget => ⟨missingEdge_notes hc hready htarget, missingEdge_takes hc hready htarget⟩
  · refine fun s => ⟨fun hfine hmode => ⟨_, osc200Ready_ready hfine hmode, clkReady_setReady_self s true (by decide), keeps_setReady _ _ _,
      regsKeep_setReady _ _ _⟩, fun hfail => by rw [exec_osc200Ready, if_pos hfail]⟩
  · refine fun s => ⟨fun hready hmode hsrc htarget => ?_, fun hready => by rw [exec_linkQualExpiry, hready, if_neg Bool.false_ne_true]⟩
    have hq := keeps_updClk s (fun x => { x with qualified := true })
    obtain ⟨hclk, hshown, -, hkeeps, hregs⟩ := clkSwitching_shows (s.updClk (fun x => { x with qualified := true })) 2 false
    rw [show (s.updClk (fun x => { x with qualified := true })).clkSrc = s.clkSrc from hq.fd (by decide) _] at hclk
    exact ⟨_, linkQualExpiry_switches hready hmode hsrc htarget, hclk, hshown, (hq.mono (by decide)).trans hkeeps,
      (hq.regsKeep (by decide) _).trans hregs⟩
  · refine fun s => ⟨fun c f hc ht => ⟨_, ?_, clkSwitched_shows s hc⟩, fun c f hc ht => ⟨_, ?_, clkSwitched_shows s hc⟩, fun ht => ?_⟩
    · rw [exec_clkSwitchComplete, ht]
      rfl
    · rw [exec_clkSwitchComplete, ht]
      rfl
    · rw [exec_clkSwitchComplete, ht]
  · intro s via p j s1 h hop hexpert hmanual hsrc
    obtain ⟨hmode, hstill, hclk, hkeeps⟩ := manualChoice s1 via j
    refine ⟨clkSrcSet_refused h hop hexpert hmanual hsrc, fun hready hsame htarget =>
      ⟨_, clkSrcSet_keeps h hop hexpert hmanual hsrc hready htarget hsame, hmode, hstill, hkeeps⟩, fun hready hother htarget => ?_⟩
    obtain ⟨hswitch, hshown, hmode', hskeeps, -⟩ := clkSwitching_shows ((s1.beginJob true via j).fbw Fld.CLK_STATUS_MODE false) (p.u8 17) true
    rw [hstill, hclk] at hswitch
    exact ⟨_, clkSrcSet_switches h hop hexpert hmanual hsrc hready htarget hother, hmode'.trans hmode, hswitch, hshown,
      (hkeeps.mono (by decide)).trans hskeeps⟩
  · intro s via p j s1 h hop hexpert
    refine ⟨fun hdie hspread hlow hhigh => ?_, clkSscSet_refused h hop hexpert⟩
    obtain ⟨hkeeps, hregs⟩ := spreadSet_frame (s1.beginJob true via j) (p.u8 16) (p.u8 17) (p.u8 18)
    have hold := fun (f : Fld) (hf : f.reg.addr ≠ Reg.RAS_LOG_SEQ.addr) => fd_begun s1 via j hf
    refine ⟨_, clkSscSet_sets h hop hexpert hdie hspread hlow hhigh, hkeeps, hregs, fun hwest => ?_, fun heast => ?_⟩
    · obtain ⟨hsw, hrw, hse, hre⟩ := spreadSet_west (s1.beginJob true via j) (spread := p.u8 17) (rate := p.u8 18) (by omega) (by omega)
      rw [hwest]
      exact ⟨hsw, hrw, hse.trans (hold _ (by decide)), hre.trans (hold _ (by decide))⟩
    · obtain ⟨hse, hre, hsw, hrw⟩ := spreadSet_east (s1.beginJob true via j) (spread := p.u8 17) (rate := p.u8 18) (by omega) (by omega)
      rw [heast]
      exact ⟨hse, hre, hsw.trans (hold _ (by decide)), hrw.trans (hold _ (by decide))⟩
  · intro s via p j s1 h hop hen hgate hthere
    have hcheck := gateCheck_present (s := s1) hen hgate hthere
    refine ⟨fun hspare => clkGateSet_refused h hop (by simp [hcheck, firstFail, hspare]),
      fun hspare hoff hclocked hmay => clkGateSet_refused h hop (by simp [hcheck, firstFail, hspare, hoff, hclocked, hmay]),
      fun hspare hsame hopen => ⟨_, clkGateSet_settled h hop ?_ hsame, rfl⟩, fun hspare hoff hclocked hmay =>
        ⟨_, clkGateSet_gates h hop (by simp [hcheck, firstFail, hspare, hmay]) hoff hclocked, ?_, keeps_updClk _ _⟩,
      fun hspare hset hgated hp hnew =>
        ⟨_, clkGateSet_wakes h hop (by simp [hcheck, firstFail, hspare, hset]) hset hgated hp, ?_⟩, fun hspare hset hgated hp hvia => ?_⟩
    · rcases hopen with hzero | hclocked
      · have hgated : s1.islandOn (p.u8 16) = false := hsame.trans (by rw [hzero]; rfl)
        simp [hcheck, firstFail, hspare, hgated]
      · have hset : (p.u8 17 == 1) = true := hsame.symm.trans hclocked
        simp [hcheck, firstFail, hspare, beq_iff_eq.mp hset]
    · exact congrArg (fun x : Clk => { x with gating := x.gating.filter (· != p.u8 16) ++ [p.u8 16] }) (clk_begun s1 via j)
    · have hpwr : (s1.beginJob true via j).pwr = s1.pwr := keeps_beginJob s1 true via j .pwr (by decide)
      rw [wakeQueue_new (by rw [hpwr, hnew])]
      refine ⟨?_, ((keeps_updPwr _ _).mono (by decide)).trans ((keeps_pwrSettle _).mono (by decide))⟩
      rw [pwrSettle_pwr]
      exact congrArg (fun x : Pwr => { x with wakes := x.wakes ++ [(p.u8 16, true)] }) hpwr
    · subst hvia
      have hfresh := keeps_islandFresh (s1.beginJob true .mcc j) (p.u8 16)
      refine ⟨((s1.beginJob true .mcc j).islandFresh (p.u8 16)).setClk (p.u8 16) true, ?_, islandOn_setClk _ (gateable_lt hgate),
        (keeps_setClk _ _ true .mem (by decide)).trans ((hfresh .mem (by decide)).trans (keeps_beginJob s1 true .mcc j .mem (by decide)))⟩
      rw [clkGateSet_ungates h hop (by simp [hcheck, firstFail, hspare, hset]) hset hgated hp, ungate_answers (gateCmd_begun h hop)]
  · intro s i hi
    refine ⟨fun hin hno => ⟨_, ?_, gated_shows s hi⟩, fun hin hyes => ⟨_, ?_, gated_shows s hi⟩, gateCrossingEmpty_none⟩
    · rw [gateCrossingEmpty_gates hi hin, hno, if_neg Bool.false_ne_true]
    · rw [gateCrossingEmpty_gates hi hin, hyes, if_pos rfl]

end Sys2Proof
end

section
/-! Time set, measured and passed on (O50). -/

namespace Sys2Proof.Machine.State

open Sys2Proof.Safety

section
variable {s : State}

/-! ## SYNC (15 R543 to R546) -/

/-- What a SYNC shows before time is compared: hops, and whether the sender is in holdover. -/
def syncHeard (s : State) (m : List Byte) : State :=
  ((s.fw Fld.CLK_TIME_STATUS_HOPS (fieldOf m 1 1)).updClk (fun x => { x with heard := true })).fbw Fld.CLK_TIME_STATUS_HOLDOVER
    (bit (fieldOf m 2 1) 0)

/-- What SYNC leaves before time is compared. -/
structure SyncHeard (s u : State) (m : List Byte) : Prop where
  hops : u.fd Fld.CLK_TIME_STATUS_HOPS = fieldOf m 1 1 % 16
  holdover : u.fb Fld.CLK_TIME_STATUS_HOLDOVER = bit (fieldOf m 2 1) 0
  synced : u.fb Fld.CLK_TIME_STATUS_SYNCED = s.fb Fld.CLK_TIME_STATUS_SYNCED
  clk : u.clk = { s.clk with heard := true }
  keeps : Keeps [.regs, .clk] s u
  regs : RegsKeep [Reg.CLK_TIME_STATUS.addr] s u

theorem syncHeard_shows (s : State) (m : List Byte) : SyncHeard s (s.syncHeard m) m where
  hops := by
    rw [syncHeard, fd_fbw_apart _ _ _ _ (by rfl) (by decide) (by decide) (by decide), (keeps_updClk _ _).fd (by decide),
      fd_fw_self _ _ _ (by decide) (by decide)]
    rfl
  holdover := fb_fbw_self _ _ _ (by rfl) (by decide) (by decide)
  synced := by
    rw [syncHeard, fb_fbw_apart _ _ _ _ (by rfl) (by decide) (by decide) (by decide), (keeps_updClk _ _).fb (by decide),
      fb_fw_apart _ _ _ _ (by rfl) (by decide) (by decide) (by decide)]
  clk := by rw [syncHeard, fbw_clk, updClk, fw_clk]
  keeps := ((keeps_fw s _ _).mono (by decide)).trans (((keeps_updClk _ _).mono (by decide)).trans ((keeps_fbw _ _ _).mono (by decide)))
  regs := ((regsKeep_fw s Fld.CLK_TIME_STATUS_HOPS _).trans ((keeps_updClk _ _).regsKeep (by decide) _)).trans
    (regsKeep_fbw _ Fld.CLK_TIME_STATUS_HOLDOVER _)

theorem exec_sync (s : State) (l : Nat) (m : List Byte) : exec (.sync l m) s = .next
    (if fieldOf m 0 1 != 0x10 || l != s.fd Fld.ATY_FAB_CFG_UPSTREAM_LINK || decide (15 < l) || s.linkState l != pUp then s
      else
        let u := s.syncHeard m
        let t : Nat := (fieldOf m 8 8 + (u.link l).delay) % 2 ^ 64
        (if u.fb Fld.CLK_TIME_STATUS_SYNCED then u.timeOffset ((u.now : Int) - t)
          else if u.clk.measured then u.timeStep t else u).syncDown) := rfl

theorem sync_elsewhere {l : Nat} {m : List Byte} (h : fieldOf m 0 1 ≠ 0x10 ∨ l ≠ s.fd Fld.ATY_FAB_CFG_UPSTREAM_LINK) :
    exec (.sync l m) s = .next s := by
  rw [exec_sync, if_pos]
  rcases h with h | h <;> simp [h]

/-- With no downstream link, nothing is passed on. -/
theorem syncDown_none (h : s.downLinks = []) : s.syncDown = s := by
  rw [syncDown, h]
  exact ite_self _

/-- The time that a SYNC names. -/
def syncTime (s : State) (l : Nat) (m : List Byte) : Nat := (fieldOf m 8 8 + (s.link l).delay) % 2 ^ 64

section
variable {l : Nat} {m : List Byte} (hty : fieldOf m 0 1 = 0x10) (hup : l = s.fd Fld.ATY_FAB_CFG_UPSTREAM_LINK) (hl : l < 16)
  (hstate : s.linkState l = pUp)
include hty hup hl hstate

theorem sync_arrives : exec (.sync l m) s = .next
    (if s.fb Fld.CLK_TIME_STATUS_SYNCED then (s.syncHeard m).timeOffset ((s.now : Int) - s.syncTime l m)
      else if s.clk.measured then (s.syncHeard m).timeStep (s.syncTime l m) else s.syncHeard m).syncDown := by
  have hheard := syncHeard_shows s m
  have hnow : (s.syncHeard m).now = s.now := hheard.regs.rd (by decide)
  have hlink : (s.syncHeard m).link l = s.link l := hheard.keeps.link (by decide) l
  have hmeasured : (s.syncHeard m).clk.measured = s.clk.measured := (congrArg Clk.measured hheard.clk :)
  rw [exec_sync, if_neg (by simp [hty, ← hup, Nat.not_lt.mpr (show l ≤ 15 by omega), hstate])]
  simp only [hheard.synced, hnow, hlink, hmeasured, syncTime]

end

/-! ## The step of TIME_NS (15 R543, R544) -/

/-- Nothing waits for an instant of TIME_NS: no Rim schedule and no gate list. -/
structure NothingTimed (s : State) : Prop where
  sched : s.rim.sched = none
  commit : s.rim.commit = none
  gateA : s.plt.1.gate = none
  nextA : s.plt.1.gateNext = none
  gateB : s.plt.2.gate = none
  nextB : s.plt.2.gateNext = none

theorem stepStops_none (h : NothingTimed s) : s.stepStops = s := by
  rw [stepStops]
  simp only [h.sched, h.commit, h.gateA, h.nextA, h.gateB, h.nextB, Option.isSome_none, Bool.or_self, Bool.false_eq_true, if_false]

/-- The registers of the step. -/
def timeSet (s : State) (t : Nat) : State :=
  (((s.wr Reg.CLK_TIME_NS t).wr Reg.CLK_TIME_STEP (ofInt 64 ((t : Int) - s.now))).fbw Fld.CLK_TIME_STATUS_SYNCED true).fw
    Fld.CLK_TIME_STATUS_OFFSET 0

/-- Commands whose EXEC_TIME the step has passed start at once. -/
def stepJobs (s : State) (t : Nat) : State :=
  { s with
    mcc := { s.mcc with cur := s.mcc.cur.map (stepJob t) }
    eng := s.eng.map (fun e => (e.1, { e.2 with cur := e.2.cur.map (stepJob t) }))
    vid := { s.vid with jobs := s.vid.jobs.map (fun j => { j with job := stepJob t j.job }) } }

/-- Delay measurements under way are given up. -/
def asksDropped (s : State) : State :=
  (List.range 16).foldl (fun s l => if (s.link l).asked.isSome then s.updLink l (fun x => { x with asked := none }) else s) s

/-- What the record of the step names. -/
def stepRecord (s : State) : Nat :=
  let gates := fun (x : PltPort) => x.gate.isSome || x.gateNext.isSome
  b2n (s.rim.sched.isSome || s.rim.commit.isSome) + 2 * b2n (gates s.plt.1) + 4 * b2n (gates s.plt.2)

theorem timeStep_eq (s : State) (t : Nat) :
    s.timeStep t = ((((s.timeSet t).stepStops.troubleRule 0x0A 543 0 80 s.stepRecord).stepJobs t).asksDropped) := rfl

theorem ofInt_lt (w : Nat) (i : Int) : ofInt w i < 2 ^ w := by
  have hpos : (0 : Int) < ((2 ^ w : Nat) : Int) := Int.natCast_pos.mpr (Nat.two_pow_pos w)
  have hlt := Int.emod_lt_of_pos i hpos
  have hge := Int.emod_nonneg i hpos.ne'
  rw [ofInt]
  omega

theorem timeSet_shows (s : State) {t : Nat} (ht : t < 2 ^ 64) :
    let u := s.timeSet t
    u.now = t ∧ u.rd Reg.CLK_TIME_STEP = ofInt 64 ((t : Int) - s.now) ∧ u.fb Fld.CLK_TIME_STATUS_SYNCED = true ∧
      u.fd Fld.CLK_TIME_STATUS_OFFSET = 0 ∧ u.fd Fld.CLK_TIME_STATUS_HOPS = s.fd Fld.CLK_TIME_STATUS_HOPS ∧ Keeps [.regs] s u ∧
      RegsKeep [Reg.CLK_TIME_NS.addr, Reg.CLK_TIME_STEP.addr, Reg.CLK_TIME_STATUS.addr] s u := by
  refine ⟨?_, ?_, ?_, fd_fw_self _ _ _ (by decide) (by decide), ?_,
    (((keeps_wr s _ _).trans (keeps_wr _ _ _)).trans (keeps_fbw _ _ _)).trans (keeps_fw _ _ _),
    ((((regsKeep_wr s Reg.CLK_TIME_NS _).mono (by decide)).trans ((regsKeep_wr _ Reg.CLK_TIME_STEP _).mono (by decide))).trans
      ((regsKeep_fbw _ Fld.CLK_TIME_STATUS_SYNCED _).mono (by decide))).trans ((regsKeep_fw _ Fld.CLK_TIME_STATUS_OFFSET _).mono (by decide))⟩
  · rw [now, timeSet, rd_fw_ne _ _ _ _ (by decide), fbw, rd_fw_ne _ _ _ _ (by decide), rd_wr_ne _ _ _ _ (by decide), rd_wr_self _ _ _ (by decide)]
    exact Nat.mod_eq_of_lt ht
  · rw [timeSet, rd_fw_ne _ _ _ _ (by decide), fbw, rd_fw_ne _ _ _ _ (by decide), rd_wr_self _ _ _ (by decide)]
    exact Nat.mod_eq_of_lt (ofInt_lt 64 _)
  · rw [timeSet, fb_fw_apart _ _ _ _ (by rfl) (by decide) (by decide) (by decide), fb_fbw_self _ _ _ (by rfl) (by decide) (by decide)]
  · rw [timeSet, fd_fw_apart _ _ _ _ (by rfl) (by decide) (by decide) (by decide),
      fd_fbw_apart _ _ _ _ (by rfl) (by decide) (by decide) (by decide), fd_wr_ne _ _ _ _ (by decide), fd_wr_ne _ _ _ _ (by decide)]

theorem keeps_stepJobs (s : State) (t : Nat) : Keeps [.mcc, .eng, .vid] s (s.stepJobs t) := by
  intro x hx
  cases x
  case mcc | eng | vid => simp at hx
  all_goals rfl

theorem keeps_asksDropped (s : State) : Keeps [.fab] s s.asksDropped :=
  Keeps.foldl s fun u l _ => by
    split
    · exact keeps_updLink u l _
    · exact Keeps.refl _ u

/-- What the step leaves where no schedule and no gate list waits. -/
theorem timeStep_shows (hnone : NothingTimed s) {t : Nat} (ht : t < 2 ^ 64) :
    let u := s.timeStep t
    u.now = t ∧ u.rd Reg.CLK_TIME_STEP = ofInt 64 ((t : Int) - s.now) ∧ u.fb Fld.CLK_TIME_STATUS_SYNCED = true ∧
      u.fd Fld.CLK_TIME_STATUS_OFFSET = 0 ∧ u.fd Fld.CLK_TIME_STATUS_HOPS = s.fd Fld.CLK_TIME_STATUS_HOPS ∧ u.clk = s.clk ∧
      u.mem = s.mem ∧ (∀ j, s.mcc.cur = some j → u.mcc.cur = some (stepJob t j)) ∧ u.downLinks = s.downLinks := by
  obtain ⟨hnow, hstep, hsynced, hoffset, hhops, hset, hsetRegs⟩ := timeSet_shows s ht
  have hstays : NothingTimed (s.timeSet t) := by
    have hrim := hset .rim (by decide)
    have hplt := hset .plt (by decide)
    exact ⟨by rw [hrim, hnone.sched], by rw [hrim, hnone.commit], by rw [hplt, hnone.gateA], by rw [hplt, hnone.nextA],
      by rw [hplt, hnone.gateB], by rw [hplt, hnone.nextB]⟩
  rw [timeStep_eq, stepStops_none hstays, troubleRule]
  generalize s.timeSet t = a at hnow hstep hsynced hoffset hhops hset hsetRegs ⊢
  have hlog := keeps_trouble a (0x0A * 256 + 0xFF) 0 80 s.stepRecord 543
  have hlogRegs := regsKeep_trouble a (0x0A * 256 + 0xFF) 0 80 s.stepRecord 543
  generalize a.trouble (0x0A * 256 + 0xFF) 0 80 s.stepRecord 543 = b at hlog hlogRegs ⊢
  have hjobs := keeps_stepJobs b t
  have hcur : ∀ j, s.mcc.cur = some j → (b.stepJobs t).mcc.cur = some (stepJob t j) := fun j hj => by
    have hb : b.mcc.cur = some j := by rw [hlog .mcc (by decide), hset .mcc (by decide), hj]
    exact congrArg (Option.map (stepJob t)) hb
  generalize b.stepJobs t = c at hjobs hcur ⊢
  have hasks := keeps_asksDropped c
  have hregs : RegsKeep [Reg.RAS_LOG_SEQ.addr] a c.asksDropped :=
    hlogRegs.trans ((hjobs.regsKeep (by decide) _).trans (hasks.regsKeep (by decide) _))
  refine ⟨(hregs.rd (by decide)).trans hnow, (hregs.rd (by decide)).trans hstep, (hregs.fb (by decide)).trans hsynced,
    (hregs.fd (by decide)).trans hoffset, (hregs.fd (by decide)).trans hhops, ?_, ?_, fun j hj => ?_,
    congrArg (bitsOf · 16) ((hregs.fd (by decide)).trans (hsetRegs.fd (by decide)))⟩
  · rw [hasks .clk (by decide), hjobs .clk (by decide), hlog .clk (by decide), hset .clk (by decide)]
  · rw [hasks .mem (by decide), hjobs .mem (by decide), hlog .mem (by decide), hset .mem (by decide)]
  · rw [hasks .mcc (by decide), hcur j hj]

/-! ## The offset (15 R545) -/

/-- The offset shown. -/
def offsetShown (s : State) (d : Int) : State := s.fw Fld.CLK_TIME_STATUS_OFFSET (ofInt 20 (max (-524288) (min 524287 d)))

theorem timeOffset_eq (s : State) (d : Int) : s.timeOffset d =
    if 10000 < d.natAbs then
      if (s.offsetShown d).fb Fld.CLK_TIME_STATUS_TIME_FAULT then s.offsetShown d
      else ((s.offsetShown d).fbw Fld.CLK_TIME_STATUS_TIME_FAULT true).troubleRule 0x0A 545 1 80 0
    else if d.natAbs < 1000 then (s.offsetShown d).fbw Fld.CLK_TIME_STATUS_TIME_FAULT false else s.offsetShown d := rfl

/-- What a compared SYNC leaves, before TIME_FAULT: fields of CLK_TIME_STATUS and the trouble log. -/
structure OffsetKept (d : Int) (s u : State) : Prop where
  offset : u.fd Fld.CLK_TIME_STATUS_OFFSET = ofInt 20 (max (-524288) (min 524287 d))
  holdover : u.fb Fld.CLK_TIME_STATUS_HOLDOVER = s.fb Fld.CLK_TIME_STATUS_HOLDOVER
  keeps : Keeps [.regs, .log, .out, .hif] s u
  regs : RegsKeep [Reg.CLK_TIME_STATUS.addr, Reg.RAS_LOG_SEQ.addr] s u

theorem offsetShown_kept (s : State) (d : Int) : OffsetKept d s (s.offsetShown d) where
  offset := (fd_fw_self _ _ _ (by decide) (by decide)).trans (Nat.mod_eq_of_lt (ofInt_lt 20 _))
  holdover := fb_fw_apart _ _ _ _ (by rfl) (by decide) (by decide) (by decide)
  keeps := (keeps_fw s _ _).mono (by decide)
  regs := (regsKeep_fw s Fld.CLK_TIME_STATUS_OFFSET _).mono (by decide)

theorem OffsetKept.fault {d : Int} {u : State} (h : OffsetKept d s u) (b : Bool) : OffsetKept d s (u.fbw Fld.CLK_TIME_STATUS_TIME_FAULT b) where
  offset := (fd_fbw_apart _ _ _ _ (by rfl) (by decide) (by decide) (by decide)).trans h.offset
  holdover := (fb_fbw_apart _ _ _ _ (by rfl) (by decide) (by decide) (by decide)).trans h.holdover
  keeps := h.keeps.trans ((keeps_fbw _ _ _).mono (by decide))
  regs := h.regs.trans ((regsKeep_fbw _ Fld.CLK_TIME_STATUS_TIME_FAULT _).mono (by decide))

theorem OffsetKept.logged {d : Int} {u : State} (h : OffsetKept d s u) (code sev island addr data : Nat) :
    OffsetKept d s (u.trouble code sev island addr data) where
  offset := ((regsKeep_trouble _ _ _ _ _ _).fd (by decide)).trans h.offset
  holdover := ((regsKeep_trouble _ _ _ _ _ _).fb (by decide)).trans h.holdover
  keeps := h.keeps.trans (keeps_trouble _ _ _ _ _ _)
  regs := h.regs.trans ((regsKeep_trouble _ _ _ _ _ _).mono (by decide))

theorem timeOffset_shows (s : State) (d : Int) : OffsetKept d s (s.timeOffset d) ∧
    (10000 < d.natAbs → (s.timeOffset d).fb Fld.CLK_TIME_STATUS_TIME_FAULT = true) ∧
    (d.natAbs < 1000 → (s.timeOffset d).fb Fld.CLK_TIME_STATUS_TIME_FAULT = false) := by
  have hshown := offsetShown_kept s d
  rw [timeOffset_eq]
  generalize s.offsetShown d = a at hshown ⊢
  split_ifs with hlarge hfault hsmall
  · exact ⟨hshown, fun _ => hfault, fun h => absurd h (by omega)⟩
  · exact ⟨(hshown.fault true).logged _ _ _ _ _,
      fun _ => ((regsKeep_trouble _ _ _ _ _ _).fb (by decide)).trans (fb_fbw_self _ _ _ (by rfl) (by decide) (by decide)),
      fun h => absurd h (by omega)⟩
  · exact ⟨hshown.fault false, fun h => absurd h (by omega), fun _ => fb_fbw_self _ _ _ (by rfl) (by decide) (by decide)⟩
  · exact ⟨hshown, fun h => absurd h hlarge, fun h => absurd h hsmall⟩

/-! ## Time messages (15 R542) -/

/-- The message counted. -/
def timeCountedOut (s : State) : State := s.updClk (fun x => { x with seq := (s.clk.seq + 1) % 2 ^ 32 })

theorem sendTime_up {l : Nat} (hl : l < 16) (hup : s.linkState l = pUp) (ty hops flags trx : Nat) :
    s.sendTime l ty hops flags trx =
      s.timeCountedOut.enqueue l ⟨3, false, timeBytes ty hops flags s.clk.seq s.now trx⟩ := by
  rw [sendTime, if_pos (by simp [hl, hup])]
  rfl

theorem exec_delayReq (s : State) (l : Nat) (m : List Byte) : exec (.delayReq l m) s =
    .next (if fieldOf m 0 1 != 0x11 || decide (15 < l) || s.linkState l != pUp then s else s.sendTime l 0x12 0 0 s.now) := rfl

theorem delayReq_answers {l : Nat} {m : List Byte} (hl : l < 16) (hup : s.linkState l = pUp) (hty : fieldOf m 0 1 = 0x11) :
    exec (.delayReq l m) s = .next (s.timeCountedOut.enqueue l ⟨3, false, timeBytes 0x12 0 0 s.clk.seq s.now s.now⟩) := by
  rw [exec_delayReq, if_neg (by simp [hty, hup, Nat.not_lt.mpr (show l ≤ 15 by omega)]), sendTime_up hl hup]

theorem delayReq_down {l : Nat} {m : List Byte} (hdown : s.linkState l ≠ pUp) : exec (.delayReq l m) s = .next s := by
  rw [exec_delayReq, if_pos (by simp [hdown])]

/-- The delay of a link. -/
def linkDelay (s : State) (m : List Byte) (t1 : Nat) : Nat :=
  min (2 ^ 32 - 1) (((((s.now : Int) - t1) - ((fieldOf m 8 8 : Int) - fieldOf m 16 8)) / 2).toNat)

/-- The delay of a link measured. -/
def delayMeasured (s : State) (l n : Nat) : State := s.updLink l (fun x => { x with asked := none, delay := n })

theorem exec_delayRsp (s : State) (l : Nat) (m : List Byte) : exec (.delayRsp l m) s = .next
    (if fieldOf m 0 1 != 0x12 || decide (15 < l) || s.linkState l != pUp then s
      else match (s.link l).asked with
        | none => s
        | some t1 =>
          let u := s.delayMeasured l (s.linkDelay m t1)
          if l = u.fd Fld.ATY_FAB_CFG_UPSTREAM_LINK then
            (u.wr Reg.CLK_TIME_DELAY (s.linkDelay m t1)).updClk (fun x => { x with measured := true })
          else u) := rfl

theorem delayMeasured_shows (s : State) (l n : Nat) :
    (s.delayMeasured l n).link l = { s.link l with asked := none, delay := n } ∧
      (∀ k, k ≠ l → (s.delayMeasured l n).link k = s.link k) ∧ Keeps [.fab] s (s.delayMeasured l n) :=
  ⟨link_updLink_self _ _ _, fun _ hk => link_updLink_ne _ _ hk, keeps_updLink _ _ _⟩

section
variable {l : Nat} {m : List Byte} (hl : l < 16) (hup : s.linkState l = pUp) (hty : fieldOf m 0 1 = 0x12)
include hl hup hty

theorem delayRsp_unasked (hasked : (s.link l).asked = none) : exec (.delayRsp l m) s = .next s := by
  rw [exec_delayRsp, if_neg (by simp [hty, hup, Nat.not_lt.mpr (show l ≤ 15 by omega)]), hasked]

theorem delayRsp_upstream {t1 : Nat} (hasked : (s.link l).asked = some t1) (hsame : l = s.fd Fld.ATY_FAB_CFG_UPSTREAM_LINK) :
    exec (.delayRsp l m) s = .next (((s.delayMeasured l (s.linkDelay m t1)).wr Reg.CLK_TIME_DELAY (s.linkDelay m t1)).updClk
      (fun x => { x with measured := true })) := by
  rw [exec_delayRsp, if_neg (by simp [hty, hup, Nat.not_lt.mpr (show l ≤ 15 by omega)]), hasked]
  simp only [(delayMeasured_shows s l (s.linkDelay m t1)).2.2.fd (by decide)]
  rw [if_pos hsame]

theorem delayRsp_elsewhere {t1 : Nat} (hasked : (s.link l).asked = some t1) (hother : l ≠ s.fd Fld.ATY_FAB_CFG_UPSTREAM_LINK) :
    exec (.delayRsp l m) s = .next (s.delayMeasured l (s.linkDelay m t1)) := by
  rw [exec_delayRsp, if_neg (by simp [hty, hup, Nat.not_lt.mpr (show l ≤ 15 by omega)]), hasked]
  simp only [(delayMeasured_shows s l (s.linkDelay m t1)).2.2.fd (by decide)]
  rw [if_neg hother]

/-- What DELAY_RSP measures. -/
theorem delayRsp_measures {t1 : Nat} (hasked : (s.link l).asked = some t1) :
    Goes (exec (.delayRsp l m) s) (fun u => u.link l = { s.link l with asked := none, delay := s.linkDelay m t1 } ∧
      (∀ k, k ≠ l → u.link k = s.link k) ∧ Keeps [.regs, .fab, .clk] s u ∧
      (l = s.fd Fld.ATY_FAB_CFG_UPSTREAM_LINK → u.rd Reg.CLK_TIME_DELAY = s.linkDelay m t1 ∧ u.clk = { s.clk with measured := true }) ∧
      (l ≠ s.fd Fld.ATY_FAB_CFG_UPSTREAM_LINK → u.clk = s.clk ∧ u.regs = s.regs)) := by
  obtain ⟨hlink, hothers, hkeeps⟩ := delayMeasured_shows s l (s.linkDelay m t1)
  by_cases hsame : l = s.fd Fld.ATY_FAB_CFG_UPSTREAM_LINK
  · refine ⟨_, delayRsp_upstream hl hup hty hasked hsame, ?_⟩
    have hn : s.linkDelay m t1 < 2 ^ 32 := by rw [linkDelay]; omega
    generalize s.delayMeasured l (s.linkDelay m t1) = a at hlink hothers hkeeps ⊢
    have hset := keeps_wr a Reg.CLK_TIME_DELAY (s.linkDelay m t1)
    have hshown : (a.wr Reg.CLK_TIME_DELAY (s.linkDelay m t1)).rd Reg.CLK_TIME_DELAY = s.linkDelay m t1 :=
      (rd_wr_self _ _ _ (by decide)).trans (Nat.mod_eq_of_lt hn)
    generalize a.wr Reg.CLK_TIME_DELAY (s.linkDelay m t1) = b at hset hshown ⊢
    have hclk := keeps_updClk b (fun x => { x with measured := true })
    exact ⟨(hclk.link (by decide) l).trans ((hset.link (by decide) l).trans hlink),
      fun k hk => (hclk.link (by decide) k).trans ((hset.link (by decide) k).trans (hothers k hk)),
      (hkeeps.mono (by decide)).trans ((hset.mono (by decide)).trans (hclk.mono (by decide))),
      fun _ => ⟨(hclk.rd (by decide) _).trans hshown,
        congrArg (fun x : Clk => { x with measured := true }) ((hset .clk (by decide)).trans (hkeeps .clk (by decide)))⟩,
      fun h => absurd hsame h⟩
  · exact ⟨_, delayRsp_elsewhere hl hup hty hasked hsame, hlink, hothers, hkeeps.mono (by decide), fun h => absurd h hsame,
      fun _ => ⟨hkeeps .clk (by decide), hkeeps .regs (by decide)⟩⟩

end

/-! ## Periods (09 R344) -/

theorem exec_syncLoss (s : State) : exec .syncLoss s =
    .next (if s.fb Fld.CLK_TIME_STATUS_SYNCED then s.fbw Fld.CLK_TIME_STATUS_HOLDOVER true else s) := rfl

theorem exec_timeSyncSend (s : State) : exec .timeSyncSend s =
    .next (if s.fb Fld.CLK_TIME_STATUS_SYNCED && decide (s.fd Fld.CLK_TIME_STATUS_HOPS + 1 ≤ 15) then
      s.downLinks.foldl (fun u l => u.sendTime l 0x10 (s.fd Fld.CLK_TIME_STATUS_HOPS + 1) (u.fd Fld.CLK_TIME_STATUS_HOLDOVER) 0) s else s) := rfl

theorem exec_delayMeasurePeriod (s : State) : exec .delayMeasurePeriod s =
    let up := s.fd Fld.ATY_FAB_CFG_UPSTREAM_LINK
    .next (((if up < 16 then [up] else []) ++ s.downLinks.filter (· != up)).foldl (fun s l =>
      if s.linkState l == pUp then (s.updLink l (fun x => { x with asked := some s.now })).sendTime l 0x11 0 0 0 else s) s) := rfl

/-- A link's measurement begun. -/
def delayAsked (s : State) (l : Nat) : State := s.updLink l (fun x => { x with asked := some s.now })

theorem delayMeasurePeriod_asks {l : Nat} (hsame : s.fd Fld.ATY_FAB_CFG_UPSTREAM_LINK = l) (hl : l < 16) (hup : s.linkState l = pUp)
    (hdown : s.downLinks = []) : exec .delayMeasurePeriod s =
      .next ((s.delayAsked l).timeCountedOut.enqueue l ⟨3, false, timeBytes 0x11 0 0 s.clk.seq s.now 0⟩) := by
  have hstill : (s.delayAsked l).linkState l = pUp := hup
  have hsent := sendTime_up hl hstill 0x11 0 0 0
  rw [exec_delayMeasurePeriod]
  simp only [hsame, if_pos hl, hdown, List.filter_nil, List.append_nil, List.foldl_cons, List.foldl_nil, hup, beq_self_eq_true, if_true]
  exact congrArg Host.Outcome.next hsent

end

end Sys2Proof.Machine.State

namespace Sys2Proof

open Sys2Proof.Machine Sys2Proof.Machine.State Sys2Proof.Safety

/-- Settles O50: SYNC steps TIME_NS once and then shows the offset; DELAY_REQ and DELAY_RSP by their link; the periods by what they send. -/
theorem timeIsKept : Obligations.TimeIsKept := by
  unfold Obligations.TimeIsKept
  refine ⟨?_, fun s l m => sync_elsewhere, fun s l m hl hup hty => ⟨_, delayReq_answers hl hup hty, rfl, keeps_updClk _ _⟩,
    fun s l m => delayReq_down, fun s l m hl hup hty => ⟨fun t1 hasked => delayRsp_measures hl hup hty hasked, delayRsp_unasked hl hup hty⟩,
    ?_, ?_, ?_⟩
  · intro s l m hty hup hl hstate hdown t d
    have hrow := sync_arrives hty hup hl hstate
    change exec (.sync l m) s = .next (if s.fb Fld.CLK_TIME_STATUS_SYNCED then (s.syncHeard m).timeOffset d
      else if s.clk.measured then (s.syncHeard m).timeStep t else s.syncHeard m).syncDown at hrow
    have hheard := syncHeard_shows s m
    have hnow : (s.syncHeard m).now = s.now := hheard.regs.rd (by decide)
    have hdown' : (s.syncHeard m).downLinks = [] := (congrArg (bitsOf · 16) (hheard.regs.fd (by decide))).trans hdown
    refine ⟨fun hsynced hmeasured hsched hcommit hgA hnA hgB hnB => ?_, fun hsynced hmeasured => ?_, fun hsynced => ?_⟩
    · have hplt : (s.syncHeard m).plt = s.plt := hheard.keeps .plt (by decide)
      have hrim : (s.syncHeard m).rim = s.rim := hheard.keeps .rim (by decide)
      obtain ⟨htime, hstep, hset, hoffset, hhops, hclk, hmem, hcur, hlinks⟩ := timeStep_shows (s := s.syncHeard m)
        ⟨by rw [hrim, hsched], by rw [hrim, hcommit], by rw [hplt, hgA], by rw [hplt, hnA], by rw [hplt, hgB], by rw [hplt, hnB]⟩
        (t := t) (Nat.mod_lt _ (by decide))
      rw [hsynced, if_neg Bool.false_ne_true, hmeasured, if_pos rfl, syncDown_none (hlinks.trans hdown')] at hrow
      exact ⟨_, hrow, htime, by rw [hstep, hnow], hset, hoffset, hhops.trans hheard.hops, hclk.trans hheard.clk,
        hmem.trans (hheard.keeps .mem (by decide)), fun j hj => hcur j (by rw [hheard.keeps .mcc (by decide), hj])⟩
    · rw [hsynced, if_neg Bool.false_ne_true, hmeasured, if_neg Bool.false_ne_true, syncDown_none hdown'] at hrow
      exact ⟨_, hrow, hnow, hheard.hops, hheard.keeps, hheard.regs⟩
    · obtain ⟨hkept, hlarge, hsmall⟩ := timeOffset_shows (s.syncHeard m) d
      rw [hsynced, if_pos rfl, syncDown_none ((congrArg (bitsOf · 16) (hkept.regs.fd (by decide))).trans hdown')] at hrow
      exact ⟨_, hrow, (hkept.regs.rd (by decide)).trans hnow, hkept.offset, hlarge, hsmall, hkept.holdover.trans hheard.holdover,
        (hkept.keeps .mem (by decide)).trans (hheard.keeps .mem (by decide))⟩
  · refine fun s => ⟨fun hsynced => ⟨s.fbw Fld.CLK_TIME_STATUS_HOLDOVER true, by rw [exec_syncLoss, if_pos hsynced],
      fb_fbw_self _ _ _ (by rfl) (by decide) (by decide), keeps_fbw _ _ _, regsKeep_fbw _ Fld.CLK_TIME_STATUS_HOLDOVER _⟩, fun hsynced => ?_⟩
    rw [exec_syncLoss, hsynced, if_neg Bool.false_ne_true]
  · intro s l hdown hl hup hops
    refine ⟨fun hsynced hfew => ⟨s.timeCountedOut, ?_, rfl, keeps_updClk _ _⟩, fun hsynced => ?_⟩
    · rw [exec_timeSyncSend, hsynced, decide_eq_true hfew, Bool.and_self, if_pos rfl, hdown, List.foldl_cons, List.foldl_nil, sendTime_up hl hup]
    · rw [exec_timeSyncSend, hsynced, Bool.false_and, if_neg Bool.false_ne_true]
  · intro s l hsame hl hup hdown
    exact ⟨_, delayMeasurePeriod_asks hsame hl hup hdown, link_updLink_self s l (fun x => { x with asked := some s.now }), rfl,
      ((keeps_updLink _ _ _).mono (by decide)).trans ((keeps_updClk _ _).mono (by decide))⟩

end Sys2Proof
end

section
/-! What stays outside a range of registers, and what Pairing's check of its FAIL conditions leaves (12 R453). -/

namespace Sys2Proof.Safety

open Sys2Proof.Machine Sys2Proof.Machine.State

/-- Every register whose offset lies below `lo` or at `hi` and above reads as before. -/
def RegsOutside (lo hi : Nat) (s t : State) : Prop := ∀ d a, a < lo ∨ hi ≤ a → Cells.get d a t.regs = Cells.get d a s.regs

namespace RegsOutside

variable {lo hi : Nat} {s t u : State}

theorem of_regs_eq (h : t.regs = s.regs) : RegsOutside lo hi s t := fun d a _ => congrArg (Cells.get d a) h

theorem refl (lo hi : Nat) (s : State) : RegsOutside lo hi s s := of_regs_eq rfl

theorem trans (h : RegsOutside lo hi s t) (h' : RegsOutside lo hi t u) : RegsOutside lo hi s u :=
  fun d a ha => (h' d a ha).trans (h d a ha)

theorem of_keeps {ps : List Part} (h : Keeps ps s t) (hp : Part.regs ∉ ps) : RegsOutside lo hi s t := of_regs_eq (h .regs hp)

theorem of_regsKeep {as : List Nat} (h : RegsKeep as s t) (ha : ∀ a ∈ as, lo ≤ a ∧ a < hi) : RegsOutside lo hi s t :=
  fun d a hout => h d a fun hmem => by
    obtain ⟨hlow, hhigh⟩ := ha a hmem
    omega

theorem mono {lo' hi' : Nat} (h : RegsOutside lo hi s t) (hlo : lo' ≤ lo) (hhi : hi ≤ hi') : RegsOutside lo' hi' s t :=
  fun d a ha => h d a (by omega)

theorem fw (s : State) (f : Fld) (v : Nat) (hlo : lo ≤ f.reg.addr) (hhi : f.reg.addr < hi) : RegsOutside lo hi s (s.fw f v) :=
  of_regsKeep (regsKeep_fw s f v) fun a ha => by
    obtain rfl := List.mem_singleton.1 ha
    exact ⟨hlo, hhi⟩

theorem wr (s : State) (r : Reg) (v : Nat) (hlo : lo ≤ r.addr) (hhi : r.addr < hi) : RegsOutside lo hi s (s.wr r v) :=
  of_regsKeep (regsKeep_wr s r v) fun a ha => by
    obtain rfl := List.mem_singleton.1 ha
    exact ⟨hlo, hhi⟩

theorem regReset (s : State) (r : Reg) (hlo : lo ≤ r.addr) (hhi : r.addr < hi) : RegsOutside lo hi s (s.regReset r) :=
  of_regsKeep (regsKeep_regReset s r) fun a ha => by
    obtain rfl := List.mem_singleton.1 ha
    exact ⟨hlo, hhi⟩

theorem regsReset (s : State) {k n : Nat} (hlo : lo ≤ k) (hhi : k + n ≤ hi) : RegsOutside lo hi s (s.regsReset k n) :=
  fun d a ha => Cells.get_clearRange d k n a (by omega) s.regs

theorem foldl {α : Type} {f : State → α → State} {l : List α} (s : State) (h : ∀ u, ∀ a ∈ l, RegsOutside lo hi u (f u a)) :
    RegsOutside lo hi s (l.foldl f s) :=
  List.foldlRecOn l f (refl lo hi s) (fun u hu a ha => hu.trans (h u a ha))

theorem rd (h : RegsOutside lo hi s t) {r : Reg} (hr : r.addr < lo ∨ hi ≤ r.addr) : t.rd r = s.rd r :=
  congrArg BitVec.toNat (h _ _ hr)

theorem fd (h : RegsOutside lo hi s t) {f : Fld} (hf : f.reg.addr < lo ∨ hi ≤ f.reg.addr) : t.fd f = s.fd f :=
  congrArg (bits · f.lo f.w) (h.rd hf)

theorem fb (h : RegsOutside lo hi s t) {f : Fld} (hf : f.reg.addr < lo ∨ hi ≤ f.reg.addr) : t.fb f = s.fb f :=
  congrArg (· != 0) (h.fd hf)

end RegsOutside

/-- The lane is as before but for what scheduled streams carry from one result to the next. -/
def RimButRt (s t : State) : Prop := ∃ rt, t.rim = { s.rim with rt := rt }

namespace RimButRt

variable {s t u : State}

theorem of_eq (h : t.rim = s.rim) : RimButRt s t := ⟨s.rim.rt, h⟩

theorem refl (s : State) : RimButRt s s := of_eq rfl

theorem trans (h : RimButRt s t) (h' : RimButRt t u) : RimButRt s u := by
  obtain ⟨a, ha⟩ := h
  obtain ⟨b, hb⟩ := h'
  exact ⟨b, by rw [hb, ha]⟩

theorem of_keeps {ps : List Part} (h : Keeps ps s t) (hp : Part.rim ∉ ps) : RimButRt s t := of_eq (h .rim hp)

theorem foldl {α : Type} {f : State → α → State} {l : List α} (s : State) (h : ∀ u, ∀ a ∈ l, RimButRt u (f u a)) :
    RimButRt s (l.foldl f s) :=
  List.foldlRecOn l f (refl s) (fun u hu a ha => hu.trans (h u a ha))

end RimButRt

end Sys2Proof.Safety

namespace Sys2Proof.Machine.State

open Sys2Proof.Safety

/-! ## Services -/

theorem mem_svcsOn_lt {s : State} {n : Nat} (h : n ∈ s.svcsOn) : n < 64 := List.mem_range.1 (List.mem_filter.1 h).1

theorem regsOutside_setRole (s : State) {n : Nat} (hn : n < 64) (role : Nat) : RegsOutside 0xb00100 0xb00900 s (s.setRole n role) := by
  unfold setRole
  split
  · exact .refl _ _ s
  · refine (RegsOutside.fw s (Fld.PAIR_SVC_STATUS_ROLE n) role ?_ ?_).trans (.of_regs_eq rfl) <;>
      simp only [Fld.PAIR_SVC_STATUS_ROLE, Reg.PAIR_SVC_STATUS] <;> omega

theorem regsOutside_updSvc (lo hi : Nat) (s : State) (n : Nat) (f : PairSvc → PairSvc) : RegsOutside lo hi s (s.updSvc n f) :=
  .of_keeps (keeps_updSvc s n f) (by decide)

/-- A service back in RESYNC (12 R458). -/
def svcBack (s : State) (n : Nat) : State :=
  ((s.setRole n 1).fw (Fld.PAIR_SVC_STATUS_MATCH_RUN n) 0).updSvc n (fun x => { x with passed := false })

theorem regsOutside_svcBack (s : State) {n : Nat} (hn : n < 64) : RegsOutside 0xb00100 0xb00900 s (s.svcBack n) := by
  refine ((regsOutside_setRole s hn 1).trans (.fw _ (Fld.PAIR_SVC_STATUS_MATCH_RUN n) 0 ?_ ?_)).trans
    (regsOutside_updSvc _ _ _ n (fun x => { x with passed := false })) <;>
    simp only [Fld.PAIR_SVC_STATUS_MATCH_RUN, Reg.PAIR_SVC_STATUS] <;> omega

theorem keeps_svcBack (s : State) (n : Nat) : Keeps [.regs, .pair] s (s.svcBack n) :=
  ((keeps_setRole s n 1).trans ((keeps_fw _ _ _).mono (by simp))).trans ((keeps_updSvc _ n _).mono (by simp))

/-- A service back in RESYNC, with the test it asks for. -/
def svcReturn (s : State) (n : Nat) : State :=
  match (s.svcBack n).svcSlot n with
  | some k => (s.svcBack n).askKat k ((s.svcBack n).now + 1000)
  | none => s.svcBack n

/-- The services that enter a FAIL condition, each with its cause. -/
def failing (s : State) : List (Nat × Nat) :=
  (s.svcsOn.filter (fun n => s.svcRole n != 4)).filterMap (fun n => (s.failCause n).map (fun c => (n, c)))

/-- The services whose FAIL conditions have ended. -/
def returning (s : State) : List Nat := s.svcsOn.filter (fun n => s.svcRole n == 4 && (s.failCause n).isNone)

/-- A service FAILED. -/
def svcFail (s : State) (e : Nat × Nat) : State :=
  (s.setRole e.1 4).updSvc e.1 (fun x => { x with waiting := false, stop := none, swap := none, passed := false })

/-- FAIL sent for the services of one cause. -/
def failTold (l : List (Nat × Nat)) (s : State) (c : Nat) : State :=
  match l.filter (fun e => e.2 == c) with
  | [] => s
  | l => s.pairSend 0x07 0 ((l.foldl (fun m e => m + 2 ^ e.1) 0) * 2 ^ 16 + c * 2 ^ 80)

/-- What the check does before HEALTHY follows. -/
def failsHandled (s : State) : State := s.returning.foldl svcReturn ([1, 2, 3, 4, 5].foldl (failTold s.failing) (s.failing.foldl svcFail s))

/-- Whether the module is healthy. -/
def healthyNow (s : State) : Bool := s.svcsOn.all (fun n => (s.failCause n).isNone) && s.pair.conds.isEmpty

theorem pairCheck_eq (s : State) : s.pairCheck =
    { s.failsHandled with pair := { s.failsHandled.pair with healthy := s.failsHandled.healthyNow } } := rfl

theorem failing_lt {s : State} {e : Nat × Nat} (h : e ∈ s.failing) : e.1 < 64 := by
  obtain ⟨n, hn, he⟩ := List.mem_filterMap.1 h
  obtain ⟨c, -, rfl⟩ := Option.map_eq_some_iff.1 he
  exact mem_svcsOn_lt (List.mem_filter.1 hn).1

theorem keeps_failTold (l : List (Nat × Nat)) (s : State) (c : Nat) : Keeps [.out] s (failTold l s c) := by
  unfold failTold
  split
  · exact Keeps.refl _ s
  · exact keeps_pairSend s _ _ _

theorem regsOutside_failsHandled (s : State) : RegsOutside 0xb00100 0xb00900 s s.failsHandled := by
  have hfailed : RegsOutside 0xb00100 0xb00900 s (s.failing.foldl svcFail s) := .foldl s fun u e he =>
    (regsOutside_setRole u (failing_lt he) 4).trans (regsOutside_updSvc _ _ _ e.1 _)
  have htold : RegsOutside 0xb00100 0xb00900 (s.failing.foldl svcFail s)
      ([1, 2, 3, 4, 5].foldl (failTold s.failing) (s.failing.foldl svcFail s)) := .foldl _ fun u c _ =>
    .of_keeps (keeps_failTold _ u c) (by decide)
  refine (hfailed.trans htold).trans (.foldl _ fun u n hn => ?_)
  have hback := regsOutside_svcBack u (mem_svcsOn_lt (List.mem_filter.1 hn).1)
  unfold svcReturn
  split
  · exact hback.trans (.of_keeps (keeps_askKat _ _ _) (by decide))
  · exact hback

/-- The check writes the services' registers only. -/
theorem regsOutside_pairCheck (s : State) : RegsOutside 0xb00100 0xb00900 s s.pairCheck := by
  rw [pairCheck_eq]
  exact (regsOutside_failsHandled s).trans (.of_regs_eq rfl)

theorem rimButRt_failsHandled (s : State) : RimButRt s s.failsHandled := by
  have hfailed : RimButRt s (s.failing.foldl svcFail s) := .foldl s fun u e _ =>
    .of_keeps ((keeps_setRole u e.1 4).trans ((keeps_updSvc _ e.1 _).mono (by simp))) (by decide)
  have htold : RimButRt (s.failing.foldl svcFail s) ([1, 2, 3, 4, 5].foldl (failTold s.failing) (s.failing.foldl svcFail s)) :=
    .foldl _ fun u c _ => .of_keeps (keeps_failTold _ u c) (by decide)
  refine (hfailed.trans htold).trans (.foldl _ fun u n _ => ?_)
  have hback : RimButRt u (u.svcBack n) := .of_keeps (keeps_svcBack u n) (by decide)
  unfold svcReturn
  split
  · exact hback.trans ⟨_, rfl⟩
  · exact hback

theorem rimButRt_pairCheck (s : State) : RimButRt s s.pairCheck := by
  rw [pairCheck_eq]
  exact (rimButRt_failsHandled s).trans (.of_eq rfl)

/-- Without a stream no service has a slot. -/
theorem svcSlot_none {s : State} (h : s.rim.streams = []) (n : Nat) : s.svcSlot n = none := by rw [svcSlot, h]; rfl

/-- Where no stream is defined, the check asks for no test. -/
theorem rim_pairCheck {s : State} (h : s.rim.streams = []) : s.pairCheck.rim = s.rim := by
  have hfailed : (s.failing.foldl svcFail s).rim = s.rim := (Keeps.foldl (ps := [.regs, .pair]) s fun u e _ =>
    (keeps_setRole u e.1 4).trans ((keeps_updSvc _ e.1 _).mono (by simp))) .rim (by decide)
  have htold : ([1, 2, 3, 4, 5].foldl (failTold s.failing) (s.failing.foldl svcFail s)).rim = s.rim :=
    ((Keeps.foldl (ps := [.out]) _ fun u c _ => keeps_failTold _ u c) .rim (by decide)).trans hfailed
  rw [pairCheck_eq]
  refine List.foldlRecOn (motive := fun u : State => u.rim = s.rim) s.returning svcReturn htold fun u hu n _ => ?_
  have hback : (u.svcBack n).rim = s.rim := (keeps_svcBack u n .rim (by decide)).trans hu
  rw [svcReturn, svcSlot_none (by rw [hback, h])]
  exact hback

/-! ## The lane's state -/

/-- The results in flight dropped, the rest of a running program not started. -/
def runsDropped (s : State) : State :=
  [s.fd Fld.RIM_TILES_TILE_A, s.fd Fld.RIM_TILES_TILE_B].foldl
    (fun s t => if s.rimOwns t then s.setEng t { s.engOf t with fetched := [] } else s) { s with rim := { s.rim with runs := [] } }

theorem keeps_runsDropped (s : State) : Keeps [.rim, .eng] s s.runsDropped :=
  ((keeps_withRim s _).mono (by simp)).trans (Keeps.foldl _ fun u t _ => by
    split
    · exact (keeps_setEng u _ _).mono (by simp)
    · exact Keeps.refl _ u)

theorem rim_runsDropped (s : State) : s.runsDropped.rim = { s.rim with runs := [] } :=
  (Keeps.foldl (ps := [.eng]) _ fun u t _ => by
    split
    · exact keeps_setEng u _ _
    · exact Keeps.refl _ u) .rim (by decide)

theorem laneTo_active (s : State) : s.laneTo 2 = (s.fw Fld.RIM_STATUS_STATE 2).pairCheck := rfl

theorem laneTo_other {st : Nat} (h : st ≠ 2) (s : State) : s.laneTo st = (s.runsDropped.fw Fld.RIM_STATUS_STATE st).pairCheck := by
  rw [laneTo, if_neg h]
  rfl

theorem lane_pairCheck (s : State) : s.pairCheck.lane = s.lane := (regsOutside_pairCheck s).fd (by decide)

theorem lane_laneTo (s : State) {st : Nat} (h : st < 8) : (s.laneTo st).lane = st := by
  have hw : ∀ u : State, (u.fw Fld.RIM_STATUS_STATE st).pairCheck.lane = st := fun u => by
    rw [lane_pairCheck, lane, fd_fw_self _ _ _ (by decide) (by decide)]
    exact Nat.mod_eq_of_lt h
  by_cases hst : st = 2
  · subst hst
    exact hw s
  · rw [laneTo_other hst]
    exact hw _

/-- Beside RIM_STATUS, a change of the lane's state writes the services' registers. -/
theorem regsOutside_laneTo (s : State) (st : Nat) {lo : Nat} (hlo : lo ≤ 0xa00000) : RegsOutside lo 0xb00900 s (s.laneTo st) := by
  have hw : ∀ u : State, RegsOutside lo 0xb00900 u (u.fw Fld.RIM_STATUS_STATE st).pairCheck := fun u =>
    (RegsOutside.fw u _ st hlo (by decide)).trans ((regsOutside_pairCheck _).mono (by omega) (by omega))
  by_cases hst : st = 2
  · subst hst
    exact hw s
  · rw [laneTo_other hst]
    exact (RegsOutside.of_keeps (keeps_runsDropped s) (by decide)).trans (hw _)

/-- A register of the lane other than RIM_STATUS stays where the lane changes its state. -/
theorem rd_laneTo (s : State) (st : Nat) {r : Reg} (h : r.addr ≠ Reg.RIM_STATUS.addr) (hp : r.addr < 0xb00100 ∨ 0xb00900 ≤ r.addr) :
    (s.laneTo st).rd r = s.rd r := by
  have hw : ∀ u : State, (u.fw Fld.RIM_STATUS_STATE st).pairCheck.rd r = u.rd r := fun u => by
    rw [(regsOutside_pairCheck _).rd hp]
    exact rd_fw_ne u _ r st h
  by_cases hst : st = 2
  · subst hst
    exact hw s
  · rw [laneTo_other hst, hw]
    exact (keeps_runsDropped s).rd (by decide) r

/-- Without a stream the lane's own state only drops its results where it changes its state. -/
theorem rim_laneTo {s : State} (h : s.rim.streams = []) {st : Nat} (hst : st ≠ 2) : (s.laneTo st).rim = { s.rim with runs := [] } := by
  have hfw : (s.runsDropped.fw Fld.RIM_STATUS_STATE st).rim = { s.rim with runs := [] } :=
    (keeps_fw _ _ _ .rim (by decide)).trans (rim_runsDropped s)
  rw [laneTo_other hst, rim_pairCheck (by rw [hfw]; exact h), hfw]

theorem rim_laneTo_active (s : State) : RimButRt s (s.laneTo 2) := (RimButRt.of_keeps (keeps_fw s _ _) (by decide)).trans (rimButRt_pairCheck _)

theorem rim_laneTo_other (s : State) {st : Nat} (hst : st ≠ 2) : ∃ rt, (s.laneTo st).rim = { s.rim with runs := [], rt := rt } := by
  have hfw : (s.runsDropped.fw Fld.RIM_STATUS_STATE st).rim = { s.rim with runs := [] } :=
    (keeps_fw _ _ _ .rim (by decide)).trans (rim_runsDropped s)
  obtain ⟨rt, hrt⟩ := rimButRt_pairCheck (s.runsDropped.fw Fld.RIM_STATUS_STATE st)
  exact ⟨rt, by rw [laneTo_other hst, hrt, hfw]⟩

end Sys2Proof.Machine.State
end

section
/-! The Rim lane's commands (O37). -/

namespace Sys2Proof.Machine.State

open Sys2Proof.Safety

/-- A field of a register that reads as before. -/
theorem fd_of_rd {s t : State} {f : Fld} (h : t.rd f.reg = s.rd f.reg) : t.fd f = s.fd f := congrArg (bits · f.lo f.w) h

/-! ## RIM_ENABLE and RIM_DISABLE (11 R395 to R397, R414) -/

/-- The tiles shown. -/
def tilesShown (s : State) (a b : Nat) : State := (s.fw Fld.RIM_TILES_TILE_A a).fw Fld.RIM_TILES_TILE_B b

/-- A Rim tile's island FIXED. -/
def tileFixed (s : State) (t : Nat) : State := (s.pFix (siteIsland (s.siteOf t)) true).pwrSettle

/-- The lane as RIM_ENABLE leaves it before it is ENABLED. -/
def rimReady (s : State) (a b : Nat) : State := ((s.tilesShown a b).tileFixed a).tileFixed b

/-- The lane with nothing but its pausing conditions. -/
def rimCleared (s : State) : State := { s with rim := { Rim.off with holds := s.rim.holds } }

theorem rim_rimCleared (s : State) : s.rimCleared.rim = { Rim.off with holds := s.rim.holds } := rfl

theorem keeps_rimCleared (s : State) : Keeps [.rim] s s.rimCleared := keeps_withRim s _

theorem siteIsland_siteOf_lt (s : State) (t : Nat) : siteIsland (s.siteOf t) < 275 := by
  have hlt : s.siteOf t < 2 ^ 8 := bits_lt _ _ 8
  unfold siteIsland
  split <;> omega

theorem pFix_frame (s : State) {i : Nat} (hi : i < 275) (b : Bool) : Keeps [.regs, .pwr] s (s.pFix i b) ∧ RegsOutside 0 0x500000 s (s.pFix i b) := by
  have hfix : RegsOutside 0 0x500000 s (s.fbw (Fld.PWR_ISL_FIXED i) b) :=
    .fw s _ _ (Nat.zero_le _) (by simp only [Fld.PWR_ISL_FIXED, Reg.PWR_ISL]; omega)
  have hkeeps : Keeps [.regs, .pwr] s (s.fbw (Fld.PWR_ISL_FIXED i) b) := (keeps_fbw s _ b).mono (by simp)
  unfold pFix
  split
  · obtain ⟨hk, hr, -⟩ := pAsk_frame ((s.fbw (Fld.PWR_ISL_FIXED i) b).updPwr (fun x => { x with ceil := Cells.set 1 i 1 x.ceil })) i 1
    exact ⟨(hkeeps.trans ((keeps_updPwr _ _).mono (by simp))).trans hk,
      (hfix.trans (.of_keeps (keeps_updPwr _ _) (by decide))).trans (.of_regsKeep hr (by decide))⟩
  · exact ⟨hkeeps, hfix⟩

theorem tileFixed_frame (s : State) (t : Nat) : Keeps [.regs, .pwr] s (s.tileFixed t) ∧ RegsOutside 0 0x500000 s (s.tileFixed t) := by
  obtain ⟨hk, hr⟩ := pFix_frame s (siteIsland_siteOf_lt s t) true
  exact ⟨hk.trans ((keeps_pwrSettle _).mono (by simp)), hr.trans (.of_regsKeep (regsKeep_pwrSettle _) (by decide))⟩

theorem fd_tilesShown (s : State) {a b : Nat} (ha : a < 2 ^ 8) (hb : b < 2 ^ 8) :
    (s.tilesShown a b).fd Fld.RIM_TILES_TILE_A = a ∧ (s.tilesShown a b).fd Fld.RIM_TILES_TILE_B = b := by
  constructor
  · rw [tilesShown, fd_fw_apart _ Fld.RIM_TILES_TILE_B Fld.RIM_TILES_TILE_A _ rfl (by decide) (by decide) (by decide), fd_fw_self _ _ _ (by decide) (by decide)]
    exact Nat.mod_eq_of_lt ha
  · rw [tilesShown, fd_fw_self _ _ _ (by decide) (by decide)]
    exact Nat.mod_eq_of_lt hb

/-- What RIM_ENABLE leaves of the lane, and what it keeps. -/
structure RimEnabled (s u : State) (a b : Nat) : Prop where
  lane : u.lane = 1
  tileA : u.fd Fld.RIM_TILES_TILE_A = a
  tileB : u.fd Fld.RIM_TILES_TILE_B = b
  rim : u.rim = { Rim.off with holds := s.rim.holds }
  keeps : Keeps [.regs, .pwr, .pair, .rim, .out, .eng] s u

theorem rimEnabled_shows (s : State) {a b : Nat} (ha : a < 2 ^ 8) (hb : b < 2 ^ 8) :
    RimEnabled s ((s.rimReady a b).rimCleared.laneTo 1) a b := by
  obtain ⟨hshownA, hshownB⟩ := fd_tilesShown s ha hb
  obtain ⟨hka, hra⟩ := tileFixed_frame (s.tilesShown a b) a
  obtain ⟨hkb, hrb⟩ := tileFixed_frame ((s.tilesShown a b).tileFixed a) b
  have hready : Keeps [.regs, .pwr] s (s.rimReady a b) :=
    (((keeps_fw s _ _).trans (keeps_fw _ _ _)).mono (by simp)).trans (hka.trans hkb)
  have hregs := hra.trans hrb
  have hrim : (s.rimReady a b).rim = s.rim := hready .rim (by decide)
  have htiles : ((s.rimReady a b).rimCleared.laneTo 1).rd Reg.RIM_TILES = (s.tilesShown a b).rd Reg.RIM_TILES := by
    rw [rd_laneTo _ _ (by decide) (by decide), (keeps_rimCleared _).rd (by decide)]
    exact hregs.rd (by decide)
  have hcleared : (s.rimReady a b).rimCleared.rim.streams = [] := congrArg Rim.streams (rim_rimCleared _)
  exact {
    lane := lane_laneTo _ (by decide)
    tileA := (fd_of_rd (f := Fld.RIM_TILES_TILE_A) htiles).trans hshownA
    tileB := (fd_of_rd (f := Fld.RIM_TILES_TILE_B) htiles).trans hshownB
    rim := (rim_laneTo hcleared (by decide)).trans (by rw [rim_rimCleared, hrim]; rfl)
    keeps := (hready.mono (by simp)).trans (((keeps_withRim _ _).mono (by simp)).trans ((keeps_laneTo _ 1).mono (by simp))) }

/-- The slots' registers reset. -/
def slotsReset (s : State) : State := (List.range 64).foldl (fun s k => s.regsReset (Reg.RIM_STR_STATUS k).addr 0x20) s

/-- The lane off once it is DISABLED. -/
def rimOff (s : State) : State := { s with rim := .off }

theorem keeps_rimOff (s : State) : Keeps [.rim] s s.rimOff := keeps_withRim s _

theorem laneDisable_eq {s : State} (h : s.lane ≠ 0) : s.laneDisable = ((s.laneUnschedule.laneTo 0).rimOff.slotsReset).regReset Reg.RIM_TILES := by
  rw [laneDisable, if_neg h]
  rfl

theorem keeps_laneUnschedule (s : State) : Keeps [.regs, .rim] s s.laneUnschedule := by
  unfold laneUnschedule
  extract_lets slots rim sDropped sDefined
  have hdropped : Keeps [.regs, .rim] s sDropped := (keeps_withRim s _).mono (by simp)
  have hdefined : Keeps [.regs, .rim] sDropped sDefined := Keeps.foldl _ fun u k _ => (keeps_fw u _ _).mono (by simp)
  exact (hdropped.trans hdefined).trans (((((keeps_fw sDefined _ _).trans (keeps_regReset _ _)).trans (keeps_regReset _ _)).trans
    (keeps_regReset _ _)).mono (by simp))

theorem slotsReset_frame (s : State) : Keeps [.regs] s s.slotsReset ∧ RegsOutside 0xa00100 0xa00900 s s.slotsReset :=
  ⟨Keeps.foldl s fun u k _ => keeps_regsReset u _ _, .foldl s fun u k hk => by
    have hlt := List.mem_range.1 hk
    refine .regsReset u ?_ ?_ <;> simp only [Reg.RIM_STR_STATUS] <;> omega⟩

theorem laneDisable_shows {s : State} (h : s.lane ≠ 0) : s.laneDisable.lane = 0 ∧ s.laneDisable.rim = Rim.off ∧
    s.laneDisable.rd Reg.RIM_TILES = 0xFFFF ∧ Keeps [.regs, .rim, .pair, .out, .eng] s s.laneDisable := by
  rw [laneDisable_eq h]
  obtain ⟨hkeeps, hregs⟩ := slotsReset_frame (s.laneUnschedule.laneTo 0).rimOff
  have hend : Keeps [.regs] (s.laneUnschedule.laneTo 0).rimOff (((s.laneUnschedule.laneTo 0).rimOff.slotsReset).regReset Reg.RIM_TILES) :=
    hkeeps.trans (keeps_regReset _ _)
  refine ⟨?_, hend .rim (by decide), rd_regReset_self _ _ (by decide), ?_⟩
  · rw [lane, (regsKeep_regReset _ Reg.RIM_TILES).fd (by decide), hregs.fd (by decide), (keeps_rimOff _).fd (by decide)]
    exact lane_laneTo _ (by decide)
  · exact (((keeps_laneUnschedule s).mono (by simp)).trans ((keeps_laneTo _ 0).mono (by simp))).trans
      (((keeps_withRim _ _).mono (by simp)).trans (hend.mono (by simp)))

section
variable {s s1 : State} {via : Via} {p : Packet} {j : Job}

theorem rim_begun (s : State) (via : Via) (j : Job) : (s.beginJob true via j).rim = s.rim := keeps_beginJob s true via j .rim (by decide)

theorem lane_begun (s : State) (via : Via) (j : Job) : (s.beginJob true via j).lane = s.lane := fd_begun s via j (by decide)

theorem rimEnable_enables (h : Starts s true via p j s1) (hop : p.base = 0x0600) (hpresent : s1.rimAbsent = false) (ha : p.u8 16 < 32)
    (hb : p.u8 17 < 32) (hona : s1.tileOn (p.u8 16) = true) (honb : s1.tileOn (p.u8 17) = true) (htenant : s1.tenantOpen = true)
    (hlane : s1.lane = 0) (hne : p.u8 16 ≠ p.u8 17) (heasta : 18 ≤ s1.siteOf (p.u8 16)) (heastb : 18 ≤ s1.siteOf (p.u8 17))
    (hca : s1.ringState (p.u8 16) = closed) (hcb : s1.ringState (p.u8 17) = closed) :
    exec (.rimEnable via p) s =
      .next ((((s1.beginJob true via j).rimReady (p.u8 16) (p.u8 17)).rimCleared.laneTo 1).finish via .done) :=
  congrArg Host.Outcome.next (runRow_ends h (by simp [hop])
    (by
      simp [firstFail, hpresent, hona, honb, htenant, hlane, hne, hca, hcb]
      rw [if_neg (by omega), if_neg (by omega)]) rfl)

theorem rimEnable_refused (h : Starts s true via p j s1) (hop : p.base = 0x0600) (hpresent : s1.rimAbsent = false) (ha : p.u8 16 < 32)
    (hb : p.u8 17 < 32) (hona : s1.tileOn (p.u8 16) = true) (honb : s1.tileOn (p.u8 17) = true) (htenant : s1.tenantOpen = true)
    (hlane : s1.lane ≠ 0) : exec (.rimEnable via p) s = .next (s1.finish via (.refuse 0x0603)) :=
  congrArg Host.Outcome.next (runRow_refused h (by simp [hop]) (by simp [firstFail, hpresent, ha, hb, hona, honb, htenant, hlane]))

theorem rimDisable_disables (h : Starts s true via p j s1) (hop : p.base = 0x0601) (hpresent : s1.rimAbsent = false) :
    exec (.rimDisable via p) s = .next ((s1.beginJob true via j).laneDisable.finish via .done) :=
  congrArg Host.Outcome.next (runRow_ends h (by simp [hop]) (by simp [firstFail, hpresent]) rfl)

/-! ## RIM_STREAM_SET and RIM_STREAM_CLEAR (11 R399, R400) -/

/-- A stream in its slot. -/
def streamStored (s : State) (slot : Nat) (st : RimStream) : State :=
  (({ s with rim := { s.rim with streams := Cells.insert slot st (Cells.erase slot s.rim.streams), rt := Cells.erase slot s.rim.rt } } :
    State).regsReset (Reg.RIM_STR_STATUS slot).addr 0x20).fw (Fld.RIM_STR_STATUS_SSTATE slot) 1

theorem streamStored_shows (s : State) (slot : Nat) (st : RimStream) : Keeps [.regs, .rim] s (s.streamStored slot st) ∧
    (s.streamStored slot st).strState slot = 1 ∧ (s.streamStored slot st).rimStream slot = some st :=
  ⟨((keeps_withRim s _).mono (by simp)).trans (((keeps_regsReset _ _ _).trans (keeps_fw _ _ _)).mono (by simp)),
    fd_fw_self _ (Fld.RIM_STR_STATUS_SSTATE slot) 1 (show 30 + 2 ≤ 32 by decide) (show 32 ≤ 64 by decide),
    Cells.find_insert_self st (Cells.find_erase_self slot s.rim.streams)⟩

/-- A slot emptied. -/
def streamCleared (s : State) (slot : Nat) : State :=
  ({ s with rim := { s.rim with streams := Cells.erase slot s.rim.streams, rt := Cells.erase slot s.rim.rt } } : State).regsReset
    (Reg.RIM_STR_STATUS slot).addr 0x20

theorem streamCleared_shows (s : State) (slot : Nat) : Keeps [.regs, .rim] s (s.streamCleared slot) ∧
    (s.streamCleared slot).rimStream slot = none ∧ (s.streamCleared slot).strState slot = 0 ∧
    ∀ k, k ≠ slot → (s.streamCleared slot).rimStream k = s.rimStream k := by
  have hstatus : (s.streamCleared slot).rd (Reg.RIM_STR_STATUS slot) = 0 :=
    congrArg BitVec.toNat (Cells.get_clearRange_inside _ (Nat.le_refl _) (Nat.lt_add_of_pos_right (by decide)) s.regs)
  exact ⟨((keeps_withRim s _).mono (by simp)).trans ((keeps_regsReset _ _ _).mono (by simp)), Cells.find_erase_self slot s.rim.streams,
    (congrArg (bits · 30 2) hstatus).trans (by decide), fun k hk => Cells.find_erase_ne hk s.rim.streams⟩

theorem rimStreamClear_clears (h : Starts s true via p j s1) (hop : p.base = 0x0603) (hpresent : s1.rimAbsent = false)
    (hslot : p.u8 16 ≤ 63) (hfree : s1.slotUsed (p.u8 16) = false) :
    exec (.rimStreamClear via p) s = .next (((s1.beginJob true via j).streamCleared (p.u8 16)).finish via .done) :=
  congrArg Host.Outcome.next (runRow_ends h (by simp [hop]) (by simp [firstFail, hpresent, hslot, hfree]) rfl)

/-- RIM_STREAM_SET whose descriptor is read stores what the descriptor says. -/
theorem rimStreamSet_reads {far : List Host.Cell} {ue : Option Nat} {w : State} {d : List Byte} (h : Starts s true via p j s1)
    (hop : p.base = 0x0602) (hpresent : s1.rimAbsent = false) (hslot : p.u8 16 ≤ 63) (hlane : s1.lane ≠ 0)
    (hfree : s1.slotUsed (p.u8 16) = false) (hread : (s1.beginJob true via j).getGlobal mccUnit (p.u64 24) 128 far ue = (w, .ok d)) :
    exec (.rimStreamSet via p far ue) s = .next ((w.streamSet (p.u8 16) d far ue).1.finish via (w.streamSet (p.u8 16) d far ue).2) :=
  congrArg Host.Outcome.next (runRow_ends h (by simp [hop]) (by simp [firstFail, hpresent, hslot, hlane, hfree]) (by rw [hread]))

/-- A descriptor in range whose programs pass is stored with them. -/
theorem streamSet_stores {slot : Nat} {far : List Host.Cell} {ue : Option Nat} {w w1 w2 w3 w4 : State} {d pa pb kin kout : List Byte}
    (hd : descriptorBad d = false)
    (ha : w.getGlobal mccUnit (ownAddr (tileKey (w.rimTile 0) (fieldOf d 20 4))) (64 * fieldOf d 28 2) far ue = (w1, .ok pa))
    (hb : w1.getGlobal mccUnit (ownAddr (tileKey (w.rimTile 1) (fieldOf d 24 4))) (64 * fieldOf d 30 2) far ue = (w2, .ok pb))
    (hin : w2.getGlobal mccUnit (fieldOf d 64 8) (RimStream.ofBytes d).inBytes far ue = (w3, .ok kin))
    (hout : w3.getGlobal mccUnit (fieldOf d 72 8) (RimStream.ofBytes d).outBytes far ue = (w4, .ok kout))
    (hpa : (Machine.packetsOf pa).findIdx? (w4.rimPacketBad (w.rimTile 0)) = none)
    (hpb : (Machine.packetsOf pb).findIdx? (w4.rimPacketBad (w.rimTile 1)) = none) :
    w.streamSet slot d far ue = (w4.streamStored slot { RimStream.ofBytes d with
      progA := Machine.packetsOf pa, progB := Machine.packetsOf pb, katIn := kin, katExp := kout }, .done) := by
  simp only [streamSet, hd, Bool.false_eq_true, if_false, ha, hb, hin, hout, hpa, hpb]
  rfl

/-! ## RIM_SCHED_COMMIT and RIM_KAT (11 R403, R404, R412) -/

/-- RIM_SCHED_COMMIT that begins does what its table says. -/
theorem rimSchedCommit_runs {far : List Host.Cell} {ue : Option Nat} (h : Starts s false via p j s1) (hop : p.base = 0x0604)
    (hcheck : s1.commitCheck p = none) : exec (.rimSchedCommit via p far ue) s =
      .next (rowEnd via ((s1.beginJob false via j).commit p { j with begun := true } far ue)) := by
  refine congrArg Host.Outcome.next ?_
  rw [hop]
  refine (runRowT_starts h hcheck).trans ?_
  simp only [jobOf_beginJob]
  rcases (s1.beginJob false via j).commit p { j with begun := true } far ue with ⟨u, _ | a⟩ <;> rfl

theorem commit_waits {w : State} {bs : List Byte} {far : List Host.Cell} {ue : Option Nat} (hlate : j.late = false)
    (hread : s.getGlobal mccUnit (p.u64 16) (16 * p.u16 24) far ue = (w, .ok bs))
    (hfits : w.tableBad p.execTime.toNat (p.u32 28) (entriesOf bs (p.u16 24)) = none) :
    s.commit p j far ue =
      ({ w with rim := { w.rim with commit := some ⟨p.execTime.toNat, p.u32 28, entriesOf bs (p.u16 24)⟩ } }, none) := by
  simp only [commit, hread, hlate, Bool.false_eq_true, if_false, hfits, Bool.false_and]

theorem commit_refused {w : State} {bs : List Byte} {far : List Host.Cell} {ue : Option Nat} {a : Ans} (hlate : j.late = false)
    (hread : s.getGlobal mccUnit (p.u64 16) (16 * p.u16 24) far ue = (w, .ok bs))
    (hbad : w.tableBad p.execTime.toNat (p.u32 28) (entriesOf bs (p.u16 24)) = some a) : s.commit p j far ue = (w, some a) := by
  simp only [commit, hread, hlate, Bool.false_eq_true, if_false, hbad]

/-- RIM_KAT's test asked for. -/
def katAsked (s : State) (slot : Nat) : State := s.updRt slot (fun x => { x with mccKat := some (s.now + 1000) })

theorem rimRt_updRt_self (s : State) (slot : Nat) (f : RimRt → RimRt) : (s.updRt slot f).rimRt slot = f (s.rimRt slot) :=
  Cells.get_set_self _ _ _ _

theorem rimKat_asks {x : RimSched} (h : Starts s true via p j s1) (hop : p.base = 0x0605) (hpresent : s1.rimAbsent = false)
    (hslot : p.u8 16 ≤ 63) (hstream : (s1.rimStream (p.u8 16)).isSome = true) (hsched : s1.rim.sched = some x)
    (hin : x.entries.any (fun e => e.slot == p.u8 16) = true) :
    exec (.rimKat via p) s = .next ((s1.beginJob true via j).katAsked (p.u8 16)) := by
  have hsome : (s1.rimStream (p.u8 16)).isNone = false := by
    rw [← Option.not_isSome, hstream]
    rfl
  exact congrArg Host.Outcome.next (runRow_goesOn h (by simp [hop]) (by simp only [firstFail, hpresent, hsome, hsched, hin]; simp [hslot]) rfl)

end

end Sys2Proof.Machine.State

namespace Sys2Proof

open Sys2Proof.Machine Sys2Proof.Machine.State Sys2Proof.Safety

/-- Settles O37. -/
theorem rimCommandsRun : Obligations.RimCommandsRun := by
  unfold Obligations.RimCommandsRun
  refine ⟨?_, ?_, ?_, ?_, ?_, ?_⟩
  · intro s via p j s1 h hop hpresent ha hb hona honb htenant
    refine ⟨fun hlane hne heasta heastb hca hcb => ?_, rimEnable_refused h hop hpresent ha hb hona honb htenant⟩
    have hshown := rimEnabled_shows (s1.beginJob true via j) (show p.u8 16 < 2 ^ 8 by omega) (show p.u8 17 < 2 ^ 8 by omega)
    refine ⟨_, rimEnable_enables h hop hpresent ha hb hona honb htenant hlane hne heasta heastb hca hcb, hshown.lane, hshown.tileA,
      hshown.tileB, ?_, ?_, ?_⟩
    · rw [hshown.rim, rim_begun]
    · rw [hshown.keeps .mem (by decide), keeps_beginJob s1 true via j .mem (by decide)]
    · rw [hshown.keeps .host (by decide), keeps_beginJob s1 true via j .host (by decide)]
  · intro s via p j s1 h hop hpresent hlane
    obtain ⟨hdisabled, hrim, htiles, hkeeps⟩ := laneDisable_shows (s := s1.beginJob true via j) (by rw [lane_begun]; exact hlane)
    refine ⟨_, rimDisable_disables h hop hpresent, hdisabled, hrim, htiles, ?_, ?_⟩
    · rw [hkeeps .mem (by decide), keeps_beginJob s1 true via j .mem (by decide)]
    · rw [hkeeps .host (by decide), keeps_beginJob s1 true via j .host (by decide)]
  · intro s via p j s1 far ue h hop hpresent hslot hlane hfree w w1 w2 w3 w4 d pa pb kin kout hread hd ha hb hin hout hpa hpb
    have hstores := streamSet_stores (slot := p.u8 16) hd ha hb hin hout hpa hpb
    refine ⟨_, (rimStreamSet_reads h hop hpresent hslot hlane hfree hread).trans (by rw [hstores]), streamStored_shows _ _ _⟩
  · intro s via p j s1 h hop hpresent hslot hfree
    obtain ⟨hkeeps, hnone, hempty, hothers⟩ := streamCleared_shows (s1.beginJob true via j) (p.u8 16)
    refine ⟨_, rimStreamClear_clears h hop hpresent hslot hfree, hkeeps, hnone, hempty, fun k hk => ?_⟩
    rw [hothers k hk, rimStream, rim_begun, rimStream]
  · intro s via p j s1 far ue h hop hcheck hlate w bs hread
    refine ⟨fun hfits => ⟨_, (rimSchedCommit_runs h hop hcheck).trans ?_, keeps_withRim w _, rfl⟩, fun a hbad => ?_⟩
    · rw [commit_waits (j := { j with begun := true }) hlate hread hfits, rowEnd]
    · rw [rimSchedCommit_runs h hop hcheck, commit_refused (j := { j with begun := true }) hlate hread hbad, rowEnd]
  · intro s via p j s1 x h hop hpresent hslot hstream hsched hin
    refine ⟨_, rimKat_asks h hop hpresent hslot hstream hsched hin, keeps_withRim _ _, (congrArg Rim.runs (rim_begun s1 via j) :), ?_⟩
    rw [katAsked, rimRt_updRt_self, now_begun, rimRt, rim_begun, rimRt]

end Sys2Proof
end

section
/-! The Rim lane's instants (O38). -/

namespace Sys2Proof.Machine.State

open Sys2Proof.Safety

/-! ## Activation (11 R405) -/

/-- A schedule in force, its captures from the first. -/
def schedTaken (s : State) (x : RimSched) : State :=
  { s with rim := { s.rim with sched := some x, commit := none, next := (0, 0) }, pair := { s.pair with beacons := 0 } }

/-- A stream that leaves the schedule. -/
def slotLeft (s : State) (k : Nat) : State := s.fw (Fld.RIM_STR_STATUS_SSTATE k) 1

/-- A stream that enters a schedule at a time. -/
def slotEntered (act : Nat) (s : State) (k : Nat) : State :=
  ((s.updRt k (fun _ => { RimRt.start with kat := [act] })).fw (Fld.RIM_STR_STATUS_SSTATE k) 2).fw (Fld.RIM_STR_STATUS_CONSEC_MISS k) 0

/-- The slots of the schedule in force. -/
def slotsInForce (s : State) : List Nat := match s.rim.sched with | some o => slotsOfTable o.entries | none => []

/-- A schedule's streams brought up to date. -/
def slotsChanged (s : State) (x : RimSched) : State :=
  ((slotsOfTable x.entries).filter (fun k => !s.slotsInForce.contains k)).foldl (slotEntered x.act)
    ((s.slotsInForce.filter (fun k => !(slotsOfTable x.entries).contains k)).foldl slotLeft (s.schedTaken x))

/-- What the lane shows of a schedule. -/
def schedShown (s : State) (x : RimSched) : State :=
  (((s.wr Reg.RIM_ACT_TIME x.act).wr Reg.RIM_FRAME_NS x.frame).wr Reg.RIM_BUDGET_USED
    (ceilDiv (s.budgetSum (slotsOfTable x.entries)).1 (s.budgetSum (slotsOfTable x.entries)).2)).fw
    Fld.RIM_STATUS_STREAMS (slotsOfTable x.entries).length

/-- The lane ACTIVE, or PAUSED where a condition holds it. -/
def laneRuns (s : State) : State := if s.rim.holds.isEmpty then s.laneTo 2 else s.laneTo 3

theorem activate_eq (s : State) (x : RimSched) : s.activate x = (((s.slotsChanged x).schedShown x).laneRuns).pairFailEnd 2 := rfl

theorem slotsChanged_frame (s : State) (x : RimSched) : Keeps [.regs, .rim] (s.schedTaken x) (s.slotsChanged x) ∧
    RimButRt (s.schedTaken x) (s.slotsChanged x) := by
  have hleft : Keeps [.regs] (s.schedTaken x)
      ((s.slotsInForce.filter (fun k => !(slotsOfTable x.entries).contains k)).foldl slotLeft (s.schedTaken x)) :=
    Keeps.foldl _ fun u k _ => keeps_fw u _ _
  have hentered : ∀ (u : State) (k : Nat), Keeps [.regs] (u.updRt k (fun _ => { RimRt.start with kat := [x.act] })) (slotEntered x.act u k) :=
    fun u k => (keeps_fw _ _ _).trans (keeps_fw _ _ _)
  exact ⟨(hleft.mono (by simp)).trans (Keeps.foldl _ fun u k _ => ((keeps_withRim u _).mono (by simp)).trans ((hentered u k).mono (by simp))),
    (RimButRt.of_keeps hleft (by decide)).trans (.foldl _ fun u k _ => RimButRt.trans (t := u.updRt k _) ⟨_, rfl⟩ (.of_keeps (hentered u k) (by decide)))⟩

theorem schedShown_shows (s : State) (x : RimSched) : Keeps [.regs] s (s.schedShown x) ∧
    (x.act < 2 ^ 64 → (s.schedShown x).rd Reg.RIM_ACT_TIME = x.act) ∧ (x.frame < 2 ^ 32 → (s.schedShown x).rd Reg.RIM_FRAME_NS = x.frame) := by
  refine ⟨(((keeps_wr s _ _).trans (keeps_wr _ _ _)).trans (keeps_wr _ _ _)).trans (keeps_fw _ _ _), fun hact => ?_, fun hframe => ?_⟩
  · rw [schedShown, rd_fw_ne _ _ _ _ (by decide), rd_wr_ne _ _ _ _ (by decide), rd_wr_ne _ _ _ _ (by decide), rd_wr_self _ _ _ (by decide)]
    exact Nat.mod_eq_of_lt hact
  · rw [schedShown, rd_fw_ne _ _ _ _ (by decide), rd_wr_ne _ _ _ _ (by decide), rd_wr_self _ _ _ (by decide)]
    exact Nat.mod_eq_of_lt hframe

/-- The schedules of the lane are as before. -/
def SchedsKept (s t : State) : Prop := t.rim.sched = s.rim.sched ∧ t.rim.commit = s.rim.commit

theorem SchedsKept.of_rimButRt {s t : State} (h : RimButRt s t) : SchedsKept s t := by
  obtain ⟨rt, hrt⟩ := h
  exact ⟨(congrArg Rim.sched hrt :), (congrArg Rim.commit hrt :)⟩

theorem SchedsKept.trans {s t u : State} (h : SchedsKept s t) (h' : SchedsKept t u) : SchedsKept s u :=
  ⟨h'.1.trans h.1, h'.2.trans h.2⟩

theorem schedsKept_laneRuns (s : State) : SchedsKept s s.laneRuns := by
  unfold laneRuns
  split
  · exact .of_rimButRt (rim_laneTo_active s)
  · obtain ⟨rt, hrt⟩ := rim_laneTo_other s (st := 3) (by decide)
    exact ⟨(congrArg Rim.sched hrt :), (congrArg Rim.commit hrt :)⟩

theorem lane_laneRuns (s : State) : s.laneRuns.lane = if s.rim.holds = [] then 2 else 3 := by
  unfold laneRuns
  rcases hholds : s.rim.holds with _ | ⟨c, l⟩
  · exact lane_laneTo s (by decide)
  · exact lane_laneTo s (by decide)

theorem keeps_laneRuns (s : State) : Keeps [.regs, .pair, .rim, .out, .eng] s s.laneRuns := by
  unfold laneRuns
  split <;> exact keeps_laneTo s _

theorem rd_laneRuns (s : State) {r : Reg} (h : r.addr ≠ Reg.RIM_STATUS.addr) (hp : r.addr < 0xb00100 ∨ 0xb00900 ≤ r.addr) :
    s.laneRuns.rd r = s.rd r := by
  unfold laneRuns
  split <;> exact rd_laneTo s _ h hp

theorem pairFailEnd_frame (s : State) (c : Nat) : Keeps [.regs, .pair, .rim, .out] s (s.pairFailEnd c) ∧
    RegsOutside 0xb00100 0xb00900 s (s.pairFailEnd c) ∧ RimButRt s (s.pairFailEnd c) :=
  ⟨((keeps_withPair s _).mono (by simp)).trans (keeps_pairCheck _), (RegsOutside.of_keeps (keeps_withPair s _) (by decide)).trans
    (regsOutside_pairCheck _), (RimButRt.of_keeps (keeps_withPair s _) (by decide)).trans (rimButRt_pairCheck _)⟩

/-- What a schedule that takes over shows. -/
structure Activated (s u : State) (x : RimSched) : Prop where
  sched : u.rim.sched = some x
  commit : u.rim.commit = none
  act : x.act < 2 ^ 64 → u.rd Reg.RIM_ACT_TIME = x.act
  frame : x.frame < 2 ^ 32 → u.rd Reg.RIM_FRAME_NS = x.frame
  lane : u.lane = if s.rim.holds = [] then 2 else 3
  keeps : Keeps [.regs, .pair, .rim, .out, .eng] s u

theorem activate_shows (s : State) (x : RimSched) : Activated s (s.activate x) x := by
  obtain ⟨hkept, hbut⟩ := slotsChanged_frame s x
  obtain ⟨hshown, hact, hframe⟩ := schedShown_shows (s.slotsChanged x) x
  obtain ⟨hend, houtside, hrt⟩ := pairFailEnd_frame (((s.slotsChanged x).schedShown x).laneRuns) 2
  have hbefore : RimButRt (s.schedTaken x) ((s.slotsChanged x).schedShown x) := hbut.trans (.of_keeps hshown (by decide))
  have hscheds : SchedsKept (s.schedTaken x) (s.activate x) :=
    ((SchedsKept.of_rimButRt hbefore).trans (schedsKept_laneRuns _)).trans (.of_rimButRt hrt)
  have hholds : ((s.slotsChanged x).schedShown x).rim.holds = s.rim.holds := by
    obtain ⟨rt, hrt⟩ := hbefore
    exact (congrArg Rim.holds hrt :)
  have htaken : Keeps [.rim, .pair] s (s.schedTaken x) := by
    intro p hp
    cases p
    case rim => simp at hp
    case pair => simp at hp
    all_goals rfl
  have hrd : ∀ {r : Reg}, r.addr ≠ Reg.RIM_STATUS.addr → (r.addr < 0xb00100 ∨ 0xb00900 ≤ r.addr) →
      (s.activate x).rd r = ((s.slotsChanged x).schedShown x).rd r := fun h hp => by
    rw [activate_eq, houtside.rd hp, rd_laneRuns _ h hp]
  exact {
    sched := hscheds.1
    commit := hscheds.2
    act := fun h => (hrd (by decide) (by decide)).trans (hact h)
    frame := fun h => (hrd (by decide) (by decide)).trans (hframe h)
    lane := by rw [activate_eq, lane, houtside.fd (by decide), ← lane, lane_laneRuns, hholds]
    keeps := ((htaken.mono (by simp)).trans (hkept.mono (by simp))).trans ((hshown.mono (by simp)).trans
      ((keeps_laneRuns _).trans (hend.mono (by simp)))) }

section
variable {s : State} {x : RimSched}

theorem scheduleActivation_acts (hcommit : s.rim.commit = some x) (hdue : x.act ≤ s.now) (hlane : s.lane = 1 ∨ s.lane = 4) :
    exec .scheduleActivation s = .next ((s.activate x).finish .mcc .done) := by
  refine congrArg Host.Outcome.next ?_
  rw [hcommit]
  have hnow : decide (s.now < x.act) = false := decide_eq_false (Nat.not_lt.2 hdue)
  rcases hlane with hl | hl <;> simp [hnow, hl, finish_mcc]

theorem scheduleActivation_early (hcommit : s.rim.commit = some x) (hearly : s.now < x.act) : exec .scheduleActivation s = .next s := by
  refine congrArg Host.Outcome.next ?_
  rw [hcommit]
  simp [hearly]

theorem scheduleActivation_none (hcommit : s.rim.commit = none) : exec .scheduleActivation s = .next s := by
  refine congrArg Host.Outcome.next ?_
  rw [hcommit]

end

/-! ## Captures (11 R410) -/

section
variable {s : State} {tc : Nat} {e : RimEntry} {st : RimStream}

theorem advanceCapture_shows (s : State) : s.advanceCapture.rim.runs = s.rim.runs ∧ s.advanceCapture.rim.streams = s.rim.streams := by
  unfold advanceCapture
  split <;> exact ⟨rfl, rfl⟩

/-- What a capture leaves behind beside its result. -/
def captured (s : State) (slot : Nat) (f : RimRt → RimRt) (stale : Bool) (tiles : List Nat) (at_ : Nat → Nat) (data : List Byte) : State :=
  tiles.foldl (fun s t => s.homeWrite (at_ t) data) (if stale then (s.updRt slot f).bump (Reg.RIM_STR_IN_STALE slot) 1 else s.updRt slot f)

theorem runs_captured (s : State) (slot : Nat) (f : RimRt → RimRt) (stale : Bool) (tiles : List Nat) (at_ : Nat → Nat) (data : List Byte) :
    (s.captured slot f stale tiles at_ data).rim.runs = s.rim.runs := by
  have hstale : (if stale then (s.updRt slot f).bump (Reg.RIM_STR_IN_STALE slot) 1 else s.updRt slot f).rim.runs = s.rim.runs := by
    split <;> rfl
  have hwritten := (Keeps.foldl (if stale then (s.updRt slot f).bump (Reg.RIM_STR_IN_STALE slot) 1 else s.updRt slot f)
    (f := fun s t => s.homeWrite (at_ t) data) (l := tiles) (fun u t _ => keeps_homeWrite u (at_ t) data)) .rim (by decide)
  exact (congrArg Rim.runs hwritten).trans hstale

/-- A capture puts its result in flight. -/
theorem capture_puts (hst : s.rimStream e.slot = some st) : ∃ r, (s.capture tc e).rim.runs = s.rim.runs ++ [r] ∧ r.slot = e.slot ∧ r.tc = tc ∧
    r.cmp = tc + e.cmp ∧ r.tr = tc + e.rel ∧ r.k = tc / st.cadence ∧ r.tiles = e.tiles ∧ r.staged = none ∧ r.out = false := by
  obtain ⟨hruns, hstreams⟩ := advanceCapture_shows s
  have hst' : s.advanceCapture.rimStream e.slot = some st := by rw [rimStream, hstreams]; exact hst
  rw [← hruns]
  unfold capture
  simp only [hst']
  exact ⟨_, congrArg (· ++ [_]) (runs_captured s.advanceCapture e.slot _ _ _ _ _), rfl, rfl, rfl, rfl, rfl, rfl, rfl, rfl⟩

theorem rimCapture_captures (hnext : s.nextCapture = some (tc, e)) (hlane : s.lane = 2) (hcommit : s.rim.commit = none) (hdue : tc ≤ s.now) :
    exec .rimCapture s = .next (s.capture tc e) := by
  refine congrArg Host.Outcome.next ?_
  simp only [hnext, hcommit]
  rw [hlane, decide_eq_true hdue]
  rfl

theorem rimCapture_early (hnext : s.nextCapture = some (tc, e)) (hearly : s.now < tc) : exec .rimCapture s = .next s := by
  refine congrArg Host.Outcome.next ?_
  simp only [hnext]
  rw [decide_eq_false (Nat.not_le.2 hearly)]
  simp

end

/-! ## Programs (11 R406) -/

section
variable {s : State} {b : Nat} {r : RimRun} {st : RimStream}

/-- A program's packets handed to its tile. -/
def progGiven (s : State) (b : Nat) (l : List Packet) : State :=
  let u := s.updRun (fun r => State.progOf r b == 0) (State.setProg · b 1)
  u.setEng (s.rimTile b) { u.engOf (s.rimTile b) with
    fetched := l.map (fun p => (⟨p, .ring (s.rimTile b), false, s.now, false, false, 0⟩ : Job)) }

theorem keeps_updRun (s : State) (p : RimRun → Bool) (f : RimRun → RimRun) : Keeps [.rim] s (s.updRun p f) := keeps_withRim s _

theorem progGiven_shows (s : State) (b : Nat) (l : List Packet) :
    ((s.progGiven b l).engOf (s.rimTile b)).fetched.map (·.pkt) = l ∧ Keeps [.rim, .eng] s (s.progGiven b l) := by
  refine ⟨?_, ((keeps_updRun s _ _).mono (by simp)).trans ((keeps_setEng _ _ _).mono (by simp))⟩
  rw [progGiven, engOf_setEng_self, List.map_map]
  exact List.map_id l

theorem progStart_starts (hwait : s.rim.runs.find? (fun r => State.progOf r b == 0) = some r) (hlane : s.lane = 2)
    (hnone : s.rim.runs.any (fun r => State.progOf r b == 1) = false) (hfree : s.seqFree (s.rimTile b) = true)
    (hst : s.rimStream r.slot = some st) (hdue : r.cmp ≤ s.now) :
    s.progStart b = (s.progGiven b (if b = 0 then st.progA else st.progB)).startNext (s.rimTile b) := by
  have hnow : decide (s.now < r.cmp) = false := decide_eq_false (Nat.not_lt.2 hdue)
  simp only [progStart, hwait, hlane, hnow, hnone, hfree, hst]
  rfl

theorem progStart_early (hwait : s.rim.runs.find? (fun r => State.progOf r b == 0) = some r) (hearly : s.now < r.cmp) : s.progStart b = s := by
  simp only [progStart, hwait, decide_eq_true hearly]
  simp

theorem progEnd_ends (hruns : s.rim.runs.any (fun r => State.progOf r b == 1) = true) (hfree : s.seqFree (s.rimTile b) = true) :
    s.progEnd b = s.updRun (fun r => State.progOf r b == 1) (State.setProg · b 2) := by
  rw [progEnd, hruns, hfree]
  rfl

theorem progEnd_none (hruns : s.rim.runs.any (fun r => State.progOf r b == 1) = false) : s.progEnd b = s := by
  rw [progEnd, hruns]
  rfl

end

/-! ## Staging (11 R411) -/

section
variable {s : State} {r : RimRun} {st : RimStream}

theorem svcsOn_of_regsOutside {s t : State} {lo hi : Nat} (h : RegsOutside lo hi s t) (hhi : hi ≤ 0xb00100) : t.svcsOn = s.svcsOn := by
  refine List.filter_congr fun n _ => ?_
  rw [svcRole, svcRole, h.fd]
  simp only [Fld.PAIR_SVC_STATUS_ROLE, Reg.PAIR_SVC_STATUS]
  omega

theorem slotSvc_none {s : State} (h : s.svcsOn = []) (k : Nat) : s.slotSvc k = none := by rw [slotSvc, h]; rfl

/-- A result that was not staged in time. -/
def runMissed (s : State) : State := s.updRun (fun x => x.staged.isNone) (fun x => { x with staged := some (true, []) })

/-- A missed result counted. -/
def missCounted (s : State) (slot : Nat) : State :=
  (s.bump (Reg.RIM_STR_MISSED slot) 1).fw (Fld.RIM_STR_STATUS_CONSEC_MISS slot) (min 255 (s.fd (Fld.RIM_STR_STATUS_CONSEC_MISS slot) + 1))

theorem keeps_runMissed (s : State) : Keeps [.rim] s s.runMissed := keeps_updRun s _ _

theorem missCounted_shows (s : State) {slot : Nat} (hless : s.fd (Fld.RIM_STR_STATUS_CONSEC_MISS slot) < 255) :
    Keeps [.regs] s (s.missCounted slot) ∧
    (s.missCounted slot).fd (Fld.RIM_STR_STATUS_CONSEC_MISS slot) = s.fd (Fld.RIM_STR_STATUS_CONSEC_MISS slot) + 1 ∧
    (s.missCounted slot).rd (Reg.RIM_STR_MISSED slot) = satAdd (2 ^ 32 - 1) (s.rd (Reg.RIM_STR_MISSED slot)) 1 := by
  have hne : (Reg.RIM_STR_MISSED slot).addr ≠ (Reg.RIM_STR_STATUS slot).addr := by simp [Reg.RIM_STR_MISSED, Reg.RIM_STR_STATUS]
  refine ⟨(keeps_wr s _ _).trans (keeps_fw _ _ _), ?_, ?_⟩
  · rw [missCounted, fd_fw_self _ _ _ (by simp [Fld.RIM_STR_STATUS_CONSEC_MISS, Reg.RIM_STR_STATUS])
      (by simp [Fld.RIM_STR_STATUS_CONSEC_MISS, Reg.RIM_STR_STATUS])]
    have hw : (Fld.RIM_STR_STATUS_CONSEC_MISS slot).w = 8 := rfl
    rw [hw]
    omega
  · exact (rd_fw_ne _ (Fld.RIM_STR_STATUS_CONSEC_MISS slot) (Reg.RIM_STR_MISSED slot) _ hne).trans (rd_bump s (Reg.RIM_STR_MISSED slot) 1 (by simp [Reg.RIM_STR_MISSED]))

theorem regsOutside_missCounted (s : State) {slot : Nat} (h : slot < 64) : RegsOutside 0xa00100 0xa00900 s (s.missCounted slot) := by
  refine (RegsOutside.wr s (Reg.RIM_STR_MISSED slot) _ ?_ ?_).trans (.fw _ (Fld.RIM_STR_STATUS_CONSEC_MISS slot) _ ?_ ?_) <;>
    simp only [Reg.RIM_STR_MISSED, Fld.RIM_STR_STATUS_CONSEC_MISS, Reg.RIM_STR_STATUS] <;> omega

/-- The result of a stream that is not paired whose program has not ended is missed. -/
theorem stage_misses {ue : Bool} (hslot : r.slot < 64) (hst : s.rimStream r.slot = some st) (hpair : s.svcsOn = []) (hkat : r.kat = false)
    (hprog : State.progOf r (if bit r.tiles 0 then 0 else 1) ≠ 2)
    (hlimit : s.fd (Fld.RIM_STR_STATUS_CONSEC_MISS r.slot) + 1 < st.missLimit) (hless : s.fd (Fld.RIM_STR_STATUS_CONSEC_MISS r.slot) < 255) :
    s.stage_ r ue = s.runMissed.missCounted r.slot := by
  have hcount : s.runMissed.fd (Fld.RIM_STR_STATUS_CONSEC_MISS r.slot) = s.fd (Fld.RIM_STR_STATUS_CONSEC_MISS r.slot) :=
    (keeps_runMissed s).fd (by decide) _
  have hfew : ¬st.missLimit ≤ min 255 (s.runMissed.fd (Fld.RIM_STR_STATUS_CONSEC_MISS r.slot) + 1) := by
    rw [hcount]
    omega
  have hnone : (s.runMissed.missCounted r.slot).slotSvc r.slot = none := slotSvc_none (by
    rw [svcsOn_of_regsOutside ((RegsOutside.of_keeps (keeps_runMissed s) (by decide)).trans (regsOutside_missCounted _ hslot)) (by decide), hpair]) _
  simp only [missCounted, runMissed] at hfew hnone ⊢
  simp only [stage_, hst, if_neg hprog, Option.isNone_none, Option.getD_none, hfew, decide_false, hkat, Bool.false_and, Bool.false_eq_true, if_false, hnone]

theorem exec_rimStage {ue : Bool} (hnext : s.rim.runs.find? (fun r => r.staged.isNone) = some r) :
    exec (.rimStage ue) s = .next (if r.tr ≤ s.now + rimStage then s.stage_ r ue else s) :=
  congrArg Host.Outcome.next (by rw [hnext])

/-! ## Releases (11 R407) -/

theorem keeps_pltProtect (s : State) (p : Nat) (frame : List Byte) : Keeps [.plt] s (s.pltProtect p frame).1 := by
  unfold pltProtect
  split
  · exact Keeps.refl _ s
  · intro q hq
    cases q
    case plt => simp at hq
    all_goals rfl

theorem pltSend_frame (s : State) {p : Nat} (hp : p < 2) (frame : List Byte) : Keeps [.regs, .plt, .out] s (s.pltSend p frame) ∧
    RegsOutside 0xa81000 0xa81200 s (s.pltSend p frame) := by
  unfold pltSend
  split
  · refine ⟨(keeps_wr s _ _).mono (by simp), .wr s (Reg.PLT_PORT_TX_SUPPRESSED p) _ ?_ ?_⟩ <;>
      simp only [Reg.PLT_PORT_TX_SUPPRESSED] <;> omega
  split
  · refine ⟨(keeps_wr s _ _).mono (by simp), .wr s (Reg.PLT_PORT_TX_GUARD_DROP p) _ ?_ ?_⟩ <;>
      simp only [Reg.PLT_PORT_TX_GUARD_DROP] <;> omega
  · have hk := keeps_pltProtect s p frame
    refine ⟨(hk.mono (by simp)).trans (((keeps_wr _ _ _).mono (by simp)).trans ((keeps_emit _ _).mono (by simp))),
      ((RegsOutside.of_keeps hk (by decide)).trans (.wr _ (Reg.PLT_PORT_TX_FRAMES p) _ ?_ ?_)).trans (.of_keeps (keeps_emit _ _) (by decide))⟩ <;>
      simp only [Reg.PLT_PORT_TX_FRAMES] <;> omega

theorem mem_bitsOf_lt {mask n i : Nat} (h : i ∈ bitsOf mask n) : i < n := List.mem_range.1 (List.mem_filter.1 h).1

theorem rimSend_frame (s : State) (ports da vlan : Nat) (h : RimHead) (data : List Byte) :
    Keeps [.regs, .plt, .out] s (s.rimSend ports da vlan h data) ∧ RegsOutside 0xa81000 0xa81200 s (s.rimSend ports da vlan h data) :=
  ⟨Keeps.foldl s fun u _ hp => (pltSend_frame u (mem_bitsOf_lt hp) _).1, .foldl s fun u _ hp => (pltSend_frame u (mem_bitsOf_lt hp) _).2⟩

/-- The frame of a result of a stream that is not paired. -/
def resultSent (s : State) (r : RimRun) (st : RimStream) (d : List Byte) : State :=
  s.rimSend st.ports st.da st.vlan
    ⟨1, st.outStream, if r.stale then 2 else 0, 0, r.k, s.plantTime r.tr r.offset, r.ref, st.outFmt⟩ d

/-- A result sent, counted. -/
def resultCounted (s : State) (slot jit : Nat) : State :=
  (s.bumpWrap (Reg.RIM_STR_RESULTS slot) 64 1).wr (Reg.RIM_STR_JIT_MAX slot) (max jit (s.rd (Reg.RIM_STR_JIT_MAX slot)))

/-- A result over: its data and its index kept, its run out. -/
def resultOver (s : State) (r : RimRun) (d : List Byte) : State :=
  ((s.updRt r.slot (fun x => { x with last := some d })).updRt r.slot (fun x => { x with lastK := r.k })).updRun (fun x => !x.out)
    (fun x => { x with out := true })

theorem resultCounted_shows (s : State) (slot jit : Nat) : Keeps [.regs] s (s.resultCounted slot jit) ∧
    (s.resultCounted slot jit).rd (Reg.RIM_STR_RESULTS slot) = (s.rd (Reg.RIM_STR_RESULTS slot) + 1) % 2 ^ 64 ∧
    (s.resultCounted slot jit).rd (Reg.RIM_STR_JIT_MAX slot) = max jit (s.rd (Reg.RIM_STR_JIT_MAX slot)) % 2 ^ 32 := by
  have hne : (Reg.RIM_STR_RESULTS slot).addr ≠ (Reg.RIM_STR_JIT_MAX slot).addr := by simp [Reg.RIM_STR_RESULTS, Reg.RIM_STR_JIT_MAX]
  refine ⟨(keeps_wr s _ _).trans (keeps_wr _ _ _), ?_, ?_⟩
  · rw [resultCounted, rd_wr_ne _ _ _ _ hne, bumpWrap, rd_wr_self _ _ _ (by simp [Reg.RIM_STR_RESULTS])]
    exact Nat.mod_mod _ _
  · exact rd_wr_self _ (Reg.RIM_STR_JIT_MAX slot) _ (show 32 ≤ 64 by decide)

theorem resultOver_shows (s : State) (r : RimRun) (d : List Byte) : Keeps [.rim] s (s.resultOver r d) ∧
    ((s.resultOver r d).rimRt r.slot).last = some d ∧ ((s.resultOver r d).rimRt r.slot).lastK = r.k := by
  have hrt : (s.resultOver r d).rimRt r.slot = { s.rimRt r.slot with last := some d, lastK := r.k } := by
    have hself : ∀ u : State, ∀ p f, (u.updRun p f).rimRt r.slot = u.rimRt r.slot := fun _ _ _ => rfl
    rw [resultOver, hself, rimRt_updRt_self, rimRt_updRt_self]
  exact ⟨((keeps_withRim s _).trans (keeps_withRim _ _)).trans (keeps_updRun _ _ _), by rw [hrt], by rw [hrt]⟩

/-- A result of a stream that is not paired, staged in time and released. -/
theorem release_sends {jit : Nat} {d : List Byte} (hst : s.rimStream r.slot = some st) (hpair : s.svcsOn = []) (hkat : r.kat = false)
    (hstaged : r.staged = some (false, d)) (hlane : s.lane = 2) (hstate : s.strState r.slot ≠ 3) (htested : (s.rimRt r.slot).tested = true) :
    s.release r jit = ((s.resultSent r st d).resultCounted r.slot jit).resultOver r d := by
  have hplain : plainRelease r (s.rimRt r.slot) = some (if r.stale then 2 else 0, d) := by simp [plainRelease, hstaged, htested, hkat]
  have hmay : (s.lane == 2 && s.strState r.slot != 3 && true) = true := by simp [hlane, hstate]
  simp only [release, hst, slotSvc_none hpair, hplain, hmay]
  rfl

theorem exec_rimRelease {jit : Nat} (hnext : s.rim.runs.find? (fun r => !r.out) = some r) :
    exec (.rimRelease jit) s = .next (if r.staged.isSome && decide (r.tr ≤ s.now) then s.release r jit else s) :=
  congrArg Host.Outcome.next (by rw [hnext])

end

/-! ## Resumption (11 R414) -/

section
variable {s : State} {x : RimSched}

/-- Captures from a frame on, each stream's test first. -/
def testsAsked (s : State) (x : RimSched) : State :=
  (slotsOfTable x.entries).foldl (fun s k => s.askKat k s.now) { s with rim := { s.rim with next := ((s.now - x.act) / x.frame, 0) } }

theorem testsAsked_shows (s : State) (x : RimSched) : Keeps [.rim] s (s.testsAsked x) ∧
    (s.testsAsked x).rim.next = ((s.now - x.act) / x.frame, 0) := by
  refine ⟨(keeps_withRim s _).trans (Keeps.foldl _ fun u k _ => keeps_askKat u _ _), ?_⟩
  obtain ⟨rt, hrt⟩ : RimButRt { s with rim := { s.rim with next := ((s.now - x.act) / x.frame, 0) } } (s.testsAsked x) :=
    .foldl _ fun u k _ => ⟨_, rfl⟩
  exact (congrArg Rim.next hrt :)

theorem exec_rimLaneResume (hsched : s.rim.sched = some x) (hlane : s.lane = 3) (hholds : s.rim.holds = [])
    (hfast : [s.fd Fld.RIM_TILES_TILE_A, s.fd Fld.RIM_TILES_TILE_B].all (fun t => s.pState (siteIsland (s.siteOf t)) == 1) = true)
    (hwait : s.rim.resumeAt ≤ s.now) (hact : x.act ≤ s.now) : exec .rimLaneResume s =
      .next (if (s.now - x.act) % x.frame = 0 then (s.testsAsked x).laneTo 2 else s) := by
  have hslow : [s.fd Fld.RIM_TILES_TILE_A, s.fd Fld.RIM_TILES_TILE_B].any (fun t => s.pState (siteIsland (s.siteOf t)) != 1) = false := by
    simpa using hfast
  have hw : decide (s.now < s.rim.resumeAt) = false := decide_eq_false (Nat.not_lt.2 hwait)
  have ha : decide (s.now < x.act) = false := decide_eq_false (Nat.not_lt.2 hact)
  refine congrArg Host.Outcome.next ?_
  simp only [resume, hsched, hlane, hholds, hslow, hw, ha]
  by_cases hframe : (s.now - x.act) % x.frame = 0
  · simp [hframe, testsAsked, hsched, hholds]
  · simp [hframe]

end

/-! ## RIM_STRs_JIT_MAX (11 R407) -/

theorem exec_rimJitMaxRead (s : State) {k : Nat} (hk : k < 64) : exec (.rimJitMaxRead k) s =
    .next ((s.emit (.barRead (Reg.RIM_STR_JIT_MAX k).addr (BitVec.ofNat 64 (s.rd (Reg.RIM_STR_JIT_MAX k))))).regReset (Reg.RIM_STR_JIT_MAX k)) :=
  congrArg Host.Outcome.next (if_pos hk)

end Sys2Proof.Machine.State

namespace Sys2Proof

open Sys2Proof.Machine Sys2Proof.Machine.State Sys2Proof.Safety

/-- Settles O38. -/
theorem rimInstantsHappenInTime : Obligations.RimInstantsHappenInTime := by
  unfold Obligations.RimInstantsHappenInTime
  refine ⟨?_, fun s hcommit => scheduleActivation_none hcommit, ?_, ?_, ?_, ?_, ?_, ?_, ?_, ?_⟩
  · intro s x hcommit
    refine ⟨fun hdue hlane hact hframe => ?_, scheduleActivation_early hcommit⟩
    have h := activate_shows s x
    exact ⟨_, scheduleActivation_acts hcommit hdue hlane, h.sched, h.commit, h.act hact, h.frame hframe, h.lane, h.keeps .mem (by decide),
      h.keeps .host (by decide)⟩
  · intro s tc e st hnext hlane hcommit hst
    exact ⟨fun hdue => ⟨_, rimCapture_captures hnext hlane hcommit hdue, capture_puts hst⟩, rimCapture_early hnext⟩
  · intro s b r st hwait hlane hnone hfree hst
    exact ⟨fun hdue => ⟨_, congrArg Host.Outcome.next (progStart_starts hwait hlane hnone hfree hst hdue), progGiven_shows s b _⟩,
      fun hearly => congrArg Host.Outcome.next (progStart_early hwait hearly)⟩
  · intro s b hruns hfree
    exact ⟨_, congrArg Host.Outcome.next (progEnd_ends hruns hfree), keeps_updRun s _ _, rfl⟩
  · intro s b hruns
    exact congrArg Host.Outcome.next (progEnd_none hruns)
  · intro s ue r st hnext hslot hst hpair hkat
    refine ⟨fun hdue hprog hlimit hless => ?_, fun hearly => by rw [exec_rimStage hnext, if_neg (by omega)]⟩
    have hmissed := keeps_runMissed s
    have hcount := hmissed.fd (by decide) (Fld.RIM_STR_STATUS_CONSEC_MISS r.slot)
    obtain ⟨hkeeps, hfd, hrd⟩ := missCounted_shows s.runMissed (slot := r.slot) (by rw [hcount]; exact hless)
    refine ⟨_, by rw [exec_rimStage hnext, if_pos hdue, stage_misses hslot hst hpair hkat hprog hlimit hless],
      (hmissed.mono (by simp)).trans (hkeeps.mono (by simp)), hkeeps .rim (by decide), by rw [hfd, hcount], by rw [hrd, hmissed.rd (by decide)]⟩
  · intro s jit r st d hnext hslot hst hpair hkat hstaged
    refine ⟨fun hdue hlane hstate htested => ?_, fun hearly => by rw [exec_rimRelease hnext, decide_eq_false (Nat.not_le.2 hearly), Bool.and_false]; rfl⟩
    obtain ⟨hsent, hregs⟩ := rimSend_frame s st.ports st.da st.vlan
      ⟨1, st.outStream, if r.stale then 2 else 0, 0, r.k, s.plantTime r.tr r.offset, r.ref, st.outFmt⟩ d
    obtain ⟨hcounted, hresults, hjit⟩ := resultCounted_shows (s.resultSent r st d) r.slot jit
    obtain ⟨hover, hlast, hlastK⟩ := resultOver_shows ((s.resultSent r st d).resultCounted r.slot jit) r d
    have hall := ((hsent.mono (by simp)).trans (hcounted.mono (by simp))).trans
      (hover.mono (show [Part.rim] ⊆ [.regs, .plt, .out, .rim] by simp))
    have hresults' : (s.resultSent r st d).rd (Reg.RIM_STR_RESULTS r.slot) = s.rd (Reg.RIM_STR_RESULTS r.slot) :=
      hregs.rd (.inl (by simp only [Reg.RIM_STR_RESULTS]; omega))
    have hjit' : (s.resultSent r st d).rd (Reg.RIM_STR_JIT_MAX r.slot) = s.rd (Reg.RIM_STR_JIT_MAX r.slot) :=
      hregs.rd (.inl (by simp only [Reg.RIM_STR_JIT_MAX]; omega))
    refine ⟨_, ?_, hlast, hlastK, ?_, ?_, hall .mem (by decide), hall .host (by decide)⟩
    · rw [exec_rimRelease hnext, hstaged, decide_eq_true hdue]
      exact congrArg Host.Outcome.next (release_sends hst hpair hkat hstaged hlane hstate htested)
    · rw [hover.rd (by decide), hresults, hresults']
    · rw [hover.rd (by decide), hjit, hjit']
  · intro s x hsched hlane hholds hfast hwait hact
    rw [exec_rimLaneResume hsched hlane hholds hfast hwait hact]
    refine ⟨fun hframe => ?_, fun hframe => by rw [if_neg hframe]⟩
    rw [if_pos hframe]
    obtain ⟨hkeeps, hnext⟩ := testsAsked_shows s x
    have hlaneTo := keeps_laneTo (s.testsAsked x) 2
    obtain ⟨rt, hrt⟩ := rim_laneTo_active (s.testsAsked x)
    exact ⟨_, rfl, lane_laneTo _ (by decide), (congrArg Rim.next hrt).trans hnext, (hlaneTo .mem (by decide)).trans (hkeeps .mem (by decide)),
      (hlaneTo .host (by decide)).trans (hkeeps .host (by decide))⟩
  · intro s k hk
    refine ⟨_, exec_rimJitMaxRead s hk, ((keeps_emit s _).mono (by simp)).trans ((keeps_regReset _ _).mono (by simp)),
      (RegsKeep.of_regs_eq rfl).trans (regsKeep_regReset _ _), rd_regReset_self _ _ (by simp [Reg.RIM_STR_JIT_MAX]), rfl⟩

end Sys2Proof
end

section
/-! The plant port (O39). -/

namespace Sys2Proof.Machine

/-! ## Rim headers (11 R408) -/

theorem crc32c_lt (bs : List Byte) : crc32c bs < 2 ^ 32 :=
  Nat.xor_lt_two_pow (List.foldlRecOn (motive := (· < 2 ^ 32)) bs _ (by decide) (fun _ hc b _ => crcStep_lt (by decide) hc b)) (by decide)

theorem drop_leBytes {n o : Nat} (v : Nat) (cs : List Byte) (h : n ≤ o) : (leBytes n v ++ cs).drop o = cs.drop (o - n) := by
  rw [List.drop_append, List.drop_eq_nil_of_le (by rw [length_leBytes]; exact h), length_leBytes, List.nil_append]

theorem take_leBytes (n v : Nat) (cs : List Byte) : (leBytes n v ++ cs).take n = leBytes n v := List.take_left' (length_leBytes n v)

/-- The 36 bytes of a Rim header before its CHK. -/
def rimHead (h : RimHead) (len : Nat) : List Byte :=
  leBytes 1 (0x10 + h.kind % 16) ++ (leBytes 1 h.stream ++ (leBytes 2 h.flags ++ (leBytes 4 h.claim ++ (leBytes 8 h.seq ++
    (leBytes 8 h.time ++ (leBytes 8 h.ref ++ (leBytes 2 len ++ (leBytes 1 h.fmt ++ leBytes 1 0))))))))

theorem length_rimHead (h : RimHead) (len : Nat) : (rimHead h len).length = 36 := by
  simp only [rimHead, List.length_append, length_leBytes]

theorem rimPayload_eq (h : RimHead) (data : List Byte) :
    rimPayload h data = rimHead h data.length ++ (leBytes 4 (crc32c (rimHead h data.length ++ data)) ++ data) := by
  simp only [rimPayload, rimHead, List.append_assoc]

/-- A field of the header stands where the header's bytes stand in the frame. -/
theorem head_field {as cs : List Byte} {o n : Nat} (h : o + n ≤ as.length) : ((as ++ cs).drop o).take n = (as.drop o).take n := by
  rw [List.drop_append_of_le_length (by omega), List.take_append_of_le_length (by rw [List.length_drop]; omega)]

/-- Each field of a header reads as it was written, cut to its bytes. -/
theorem rimHead_fields (h : RimHead) (len : Nat) :
    fieldOf (rimHead h len) 0 1 = (0x10 + h.kind % 16) % 2 ^ 8 ∧ fieldOf (rimHead h len) 1 1 = h.stream % 2 ^ 8 ∧
      fieldOf (rimHead h len) 2 2 = h.flags % 2 ^ 16 ∧ fieldOf (rimHead h len) 4 4 = h.claim % 2 ^ 32 ∧
      fieldOf (rimHead h len) 8 8 = h.seq % 2 ^ 64 ∧ fieldOf (rimHead h len) 16 8 = h.time % 2 ^ 64 ∧
      fieldOf (rimHead h len) 24 8 = h.ref % 2 ^ 64 ∧ fieldOf (rimHead h len) 32 2 = len % 2 ^ 16 ∧
      fieldOf (rimHead h len) 34 1 = h.fmt % 2 ^ 8 := by
  simp only [fieldOf, rimHead, List.drop_zero, drop_leBytes, take_leBytes, ofLE_leBytes, Nat.reduceSub, Nat.reduceLeDiff, Nat.reduceMul,
    and_self]

/-- The header of a frame read: its parts are those of the payload. -/
theorem rimHead_ofBytes_eq {bs : List Byte} (h : 40 ≤ bs.length) : RimHead.ofBytes bs =
    some (⟨fieldOf bs 0 1 % 16, fieldOf bs 1 1, fieldOf bs 2 2, fieldOf bs 4 4, fieldOf bs 8 8, fieldOf bs 16 8, fieldOf bs 24 8,
      fieldOf bs 34 1⟩, fieldOf bs 0 1 / 16,
      fieldOf bs 36 4 == crc32c (bs.take 36 ++ (bs.drop 40).take (fieldOf bs 32 2)) && decide (40 + fieldOf bs 32 2 ≤ bs.length),
      (bs.drop 40).take (fieldOf bs 32 2)) := if_neg (Nat.not_lt.2 h)

/-- A Rim header and its data read back from the frame that carries them. -/
theorem rimHead_ofBytes {h : RimHead} {data : List Byte} (hkind : h.kind < 16) (hstream : h.stream < 256) (hflags : h.flags < 2 ^ 16)
    (hclaim : h.claim < 2 ^ 32) (hseq : h.seq < 2 ^ 64) (htime : h.time < 2 ^ 64) (href : h.ref < 2 ^ 64) (hfmt : h.fmt < 256)
    (hdata : data.length < 2 ^ 16) : RimHead.ofBytes (rimPayload h data) = some (h, 1, true, data) := by
  have hhead := length_rimHead h data.length
  have hlen : (rimPayload h data).length = 40 + data.length := by
    rw [rimPayload_eq, List.length_append, List.length_append, hhead, length_leBytes]
    omega
  have hfield : ∀ o n, o + n ≤ 36 → fieldOf (rimPayload h data) o n = fieldOf (rimHead h data.length) o n := fun o n hon => by
    rw [rimPayload_eq, fieldOf, head_field (by omega), fieldOf]
  have htake : (rimPayload h data).take 36 = rimHead h data.length := by rw [rimPayload_eq, List.take_left' hhead]
  have hcrc : fieldOf (rimPayload h data) 36 4 = crc32c (rimHead h data.length ++ data) := by
    rw [fieldOf, rimPayload_eq, take_drop_between data hhead (length_leBytes 4 _), ofLE_leBytes_of_lt (crc32c_lt _)]
  have htail : (rimPayload h data).drop 40 = data := by
    rw [rimPayload_eq, ← List.append_assoc, List.drop_left' (by rw [List.length_append, hhead, length_leBytes])]
  obtain ⟨hf0, hf1, hf2, hf4, hf8, hf16, hf24, hf32, hf34⟩ := rimHead_fields h data.length
  rw [rimHead_ofBytes_eq (by omega), hfield 0 1 (by omega), hfield 1 1 (by omega), hfield 2 2 (by omega), hfield 4 4 (by omega),
    hfield 8 8 (by omega), hfield 16 8 (by omega), hfield 24 8 (by omega), hfield 34 1 (by omega), hfield 32 2 (by omega), hf0, hf1, hf2,
    hf4, hf8, hf16, hf24, hf34, hf32, htail, Nat.mod_eq_of_lt hdata, List.take_length, htake, hcrc, Nat.mod_eq_of_lt (show h.stream < 2 ^ 8 from hstream),
    Nat.mod_eq_of_lt hflags, Nat.mod_eq_of_lt hclaim, Nat.mod_eq_of_lt hseq, Nat.mod_eq_of_lt htime, Nat.mod_eq_of_lt href,
    Nat.mod_eq_of_lt (show h.fmt < 2 ^ 8 from hfmt), show (0x10 + h.kind % 16) % 2 ^ 8 / 16 = 1 by omega, show (0x10 + h.kind % 16) % 2 ^ 8 % 16 = h.kind by omega,
    beq_self_eq_true, decide_eq_true (by omega), Bool.and_self]

namespace State

open Sys2Proof.Safety

/-! ## Ports -/

theorem keeps_setPlt (s : State) (p : Nat) (x : PltPort) : Keeps [.plt] s (s.setPlt p x) := by
  intro q hq
  cases q
  case plt => simp at hq
  all_goals rfl

theorem pltPort_setPlt_self (s : State) (p : Nat) (x : PltPort) : (s.setPlt p x).pltPort p = x := by
  unfold pltPort setPlt
  split <;> rfl

theorem pltPort_setPlt_other (s : State) {p : Nat} (hp : p ≤ 1) (x : PltPort) : (s.setPlt p x).pltPort (1 - p) = s.pltPort (1 - p) := by
  obtain rfl | rfl : p = 0 ∨ p = 1 := by omega
  · rfl
  · rfl

theorem pltPort_congr {s t : State} (h : t.plt = s.plt) (p : Nat) : t.pltPort p = s.pltPort p := by rw [pltPort, h, pltPort]

section
variable {s s1 : State} {via : Via} {p : Packet} {j : Job}

theorem pltPort_begun (s : State) (via : Via) (j : Job) (n : Nat) : (s.beginJob true via j).pltPort n = s.pltPort n :=
  pltPort_congr (keeps_beginJob s true via j .plt (by decide)) n

/-! ## PLT_GATE_SET, PLT_FILTER_SET and PLT_MACSEC_KEY (11 R419 to R421) -/

/-- A gate list that waits for its base time. -/
def gateWaits (s : State) (n : Nat) (g : GateList) : State := s.setPlt n { s.pltPort n with gateNext := some g }

theorem gateSet_waits {n : Nat} {g : GateList} (hsched : s.rim.sched = none) (hcommit : s.rim.commit = none) :
    s.gateSet n g = (s.gateWaits n g, some .done) := by
  simp only [gateSet, hsched, hcommit]
  rfl

theorem pltGateSet_opens {far : List Host.Cell} {ue : Option Nat} (h : Starts s true via p j s1) (hop : p.base = 0x0611)
    (hcap : s1.fb Fld.CAP_UNITS_PLANT = true) (hport : p.u8 16 ≤ 1) (hbasic : p.expert = false) (hprofile : p.u8 63 = 1)
    (hsched : s1.rim.sched = none) (hcommit : s1.rim.commit = none) (htime : p.execTime = 0) :
    exec (.pltGateSet via p far ue) s = .next (((s1.beginJob true via j).gateWaits (p.u8 16)
      ⟨cycleAfter (s1.pltPort (p.u8 16)).gate s1.now, 1000000, [(255, 1000000)]⟩).finish via .done) := by
  refine congrArg Host.Outcome.next (runRow_ends h (by simp [hop]) (by simp [firstFail, hcap, hport, hbasic, hprofile]) ?_)
  rw [hbasic, Bool.not_false, if_pos rfl, if_pos htime, pltPort_begun, now_begun, gateSet_waits (by rw [rim_begun, hsched])
    (by rw [rim_begun, hcommit])]

/-- A gate list that takes over. -/
def gateTaken (s : State) (n : Nat) (g : GateList) : State := s.setPlt n { s.pltPort n with gate := some g, gateNext := none }

theorem gateCycleStart_takes {n : Nat} {g : GateList} (hn : n ≤ 1) (hnext : (s.pltPort n).gateNext = some g) (hdue : g.base ≤ s.now) :
    exec (.gateCycleStart n) s = .next (s.gateTaken n g) := by
  refine congrArg Host.Outcome.next ?_
  simp only [hnext, decide_eq_true hn, decide_eq_true hdue]
  rfl

theorem gateCycleStart_early {n : Nat} {g : GateList} (hnext : (s.pltPort n).gateNext = some g) (hearly : s.now < g.base) :
    exec (.gateCycleStart n) s = .next s := by
  refine congrArg Host.Outcome.next ?_
  simp only [hnext, decide_eq_false (Nat.not_le.2 hearly)]
  simp

/-- A filter in its place. -/
def filterSet (s : State) (n i : Nat) (f : PltFilter) : State :=
  s.setPlt n { s.pltPort n with filters := Cells.insert i f (Cells.erase i (s.pltPort n).filters) }

theorem find_filterSet (s : State) (n i : Nat) (f : PltFilter) : Cells.find i ((s.filterSet n i f).pltPort n).filters = some f := by
  rw [filterSet, pltPort_setPlt_self]
  exact Cells.find_insert_self f (Cells.find_erase_self i _)

theorem pltFilterSet_sets (h : Starts s true via p j s1) (hop : p.base = 0x0612) (hcap : s1.fb Fld.CAP_UNITS_PLANT = true)
    (hport : p.u8 16 ≤ 1) (hlow : 64 ≤ p.u16 26) (hhigh : p.u16 26 ≤ 1522) (hvid : p.u16 24 ≤ 4095) (hexpert : p.expert = true) :
    exec (.pltFilterSet via p) s = .next (((s1.beginJob true via j).filterSet (p.u8 16) (p.u8 17 % 64) ⟨bit (p.u8 17) 7, p.fld 18 6, p.u16 24,
      p.u16 26, p.u32 28, p.u32 32, p.u32 32 * 8 * 10 ^ 6, s1.now⟩).finish via .done) := by
  refine congrArg Host.Outcome.next (runRow_ends h (by simp [hop]) (by simp [firstFail, hcap, hport, hlow, hhigh, hvid]) ?_)
  rw [hexpert, if_pos rfl, if_pos rfl, now_begun]
  rfl

/-- A security association installed, newest first. -/
def saInstalled (s : State) (n : Nat) (a : MacSa) : State :=
  s.setPlt n { s.pltPort n with sas := a :: (((s.pltPort n).sas.filter (fun b => b.sc == a.sc && b.an != a.an)).take 1 ++
    (s.pltPort n).sas.filter (fun b => b.sc != a.sc)) }

section
variable {far : List Host.Cell} {ue : Option Nat} {w : State} {bs : List Byte} (h : Starts s true via p j s1)
  (hop : p.opcode.toNat = 0x06A0) (hplant : s1.fb Fld.CAP_UNITS_PLANT = true) (hmacsec : s1.fb Fld.CAP_UNITS_MACSEC = true)
  (hport : p.u8 16 ≤ 1) (hsc : p.u8 17 ≤ 4) (han : p.u8 18 ≤ 3) (hsuite : p.u8 19 ≤ 1)
  (hread : (s1.beginJob true via j).getBytes mccUnit (p.u64 36) 40 far ue = (w, .ok bs))
include h hop hplant hmacsec hport hsc han hsuite hread

theorem pltMacsecKey_installs {k key : Nat} (hlast : w.sec.lastI3c = some k) (hkey : Config.sakUnwrap k bs = some key) :
    exec (.pltMacsecKey via p far ue) s = .next ((w.saInstalled (p.u8 16)
      ⟨p.u8 17, p.u8 18, p.u8 19, p.u64 20, p.u64 28, key, p.u32 44⟩).finish via .done) := by
  refine congrArg Host.Outcome.next (runRow_ends h (by simp [hop]) (by simp [firstFail, hplant, hmacsec, hport, hsc, han, hsuite]) ?_)
  simp only [hread, hlast, hkey]
  rfl

theorem pltMacsecKey_refused (hlast : w.sec.lastI3c = none) :
    exec (.pltMacsecKey via p far ue) s = .next (w.finish via (.errD Sts.accessFault 1)) := by
  refine congrArg Host.Outcome.next (runRow_ends h (by simp [hop]) (by simp [firstFail, hplant, hmacsec, hport, hsc, han, hsuite]) ?_)
  simp only [hread, hlast]

end

end

/-! ## Frames received (11 R409, R420, R421) -/

theorem exec_inputFrame (s : State) {port : Nat} (hport : port ≤ 1) (frame : List Byte) : exec (.inputFrame port frame) s =
    .next (match s.pltPolice port frame with | (s, some plain) => s.frameIn port plain | (s, none) => s) :=
  congrArg Host.Outcome.next (if_neg (Nat.not_lt.2 hport))

theorem keeps_pltValidate (s : State) (p : Nat) (frame : List Byte) : Keeps [.plt] s (s.pltValidate p frame).1 := by
  unfold pltValidate
  dsimp only
  split
  · exact Keeps.refl _ s
  split
  · exact Keeps.refl _ s
  split
  · exact Keeps.refl _ s
  · exact keeps_setPlt s _ _

/-- What a filter and its meter make of a plain frame. -/
def pltFiltered (s : State) (p : Nat) (frame plain : List Byte) : State × Option (List Byte) :=
  match frameParts plain with
  | (da, vid, _, _) =>
    match (s.pltPort p).filters.find? (fun e => e.2.en && e.2.da == da && e.2.vid == vid) with
    | none => (s.bump (Reg.PLT_PORT_DROP_FILTER p) 1, none)
    | some (i, f) =>
      if f.maxSdu < frame.length + 4 then (s, none)
      else
        match meter s.now f (frame.length + 4) with
        | (f, ok) =>
          let w := s.setPlt p { s.pltPort p with filters := Cells.insert i f (Cells.erase i (s.pltPort p).filters) }
          if ok then (w, some plain) else (w.bump (Reg.PLT_PORT_DROP_METER p) 1, none)

/-- What follows the validation of a frame. -/
def pltJudged (p : Nat) (frame : List Byte) : State × Option (List Byte) → State × Option (List Byte)
  | (s, none) => (s.bump (Reg.PLT_PORT_DROP_FRAME p) 1, none)
  | (s, some plain) => s.pltFiltered p frame plain

/-- A frame counted. -/
def frameSeen (s : State) (p : Nat) : State := s.bumpWrap (Reg.PLT_PORT_RX_FRAMES p) 64 1

theorem keeps_frameSeen (s : State) (p : Nat) : Keeps [.regs] s (s.frameSeen p) := keeps_wr s _ _

theorem pltPolice_eq (s : State) (p : Nat) (frame : List Byte) : s.pltPolice p frame =
    if !s.fb (Fld.PLT_PORT_CTL_EN p) || !bit (s.fd Fld.PLT_STATUS_LINK_UP) p then (s, none)
    else pltJudged p frame ((s.frameSeen p).pltValidate p frame) := by
  unfold pltPolice
  refine if_congr Iff.rfl rfl ?_
  change (match (s.frameSeen p).pltValidate p frame with | (s, none) => _ | (s, some plain) => _) = _
  generalize (s.frameSeen p).pltValidate p frame = v
  obtain ⟨u, _ | plain⟩ := v
  · rfl
  · rfl

theorem keeps_dropped (s : State) (r : Reg) : Keeps [.regs, .plt] s (s.bump r 1) := (keeps_wr s _ _).mono (by simp)

/-- A change of the port, and a frame that its meter passes or counts. -/
theorem keeps_metered {s w : State} (h : Keeps [.plt] s w) (ok : Bool) (l : List Byte) (r : Reg) :
    Keeps [.regs, .plt] s (let w := w; if ok then (w, some l) else (w.bump r 1, none)).1 := by
  cases ok
  · exact (h.mono (by simp)).trans (keeps_dropped w r)
  · exact h.mono (by simp)

theorem keeps_pltFiltered (s : State) (p : Nat) (frame plain : List Byte) : Keeps [.regs, .plt] s (s.pltFiltered p frame plain).1 := by
  unfold pltFiltered
  split
  split
  · exact keeps_dropped s _
  split
  · exact Keeps.refl _ s
  split
  exact keeps_metered (keeps_setPlt s p _) _ plain _

theorem keeps_pltJudged (p : Nat) (frame : List Byte) (v : State × Option (List Byte)) : Keeps [.regs, .plt] v.1 (pltJudged p frame v).1 := by
  obtain ⟨u, _ | plain⟩ := v
  · exact keeps_dropped u _
  · exact keeps_pltFiltered u p frame plain

/-- Policing a frame changes the port's filters, associations and counts. -/
theorem keeps_pltPolice (s : State) (p : Nat) (frame : List Byte) : Keeps [.regs, .plt] s (s.pltPolice p frame).1 := by
  rw [pltPolice_eq]
  split
  · exact Keeps.refl _ s
  · exact (((keeps_frameSeen s p).mono (by simp)).trans ((keeps_pltValidate _ p frame).mono (by simp))).trans (keeps_pltJudged p frame _)

/-- An input of a stream accepted. -/
def inputTaken (s : State) (h : RimHead) (data : List Byte) : State :=
  { s with rim := { s.rim with
      inputs := s.rim.inputs.filter (fun e => e.1 != h.stream || decide (s.now < e.2.2.1 + 200000000)) ++ [(h.stream, h.seq, s.now, data)]
      seqs := Cells.insert h.stream h.seq (Cells.erase h.stream s.rim.seqs) } }

theorem frameIn_accepts {s : State} {port da vid : Nat} {plain : List Byte} {h : RimHead} {data : List Byte}
    (hparts : frameParts plain = (da, vid, s.fd Fld.PLT_CFG_ETHERTYPE, rimPayload h data))
    (hhead : RimHead.ofBytes (rimPayload h data) = some (h, 1, true, data)) (hkind : h.kind = 0)
    (hstream : s.rim.streams.any (fun e => e.2.streamIn == h.stream && e.2.inBytes == data.length) = true)
    (hnew : ∀ q, Cells.find h.stream s.rim.seqs = some q → q < h.seq) : s.frameIn port plain = s.inputTaken h data := by
  rcases hlast : Cells.find h.stream s.rim.seqs with _ | q
  · simp [frameIn, hparts, hhead, hkind, hstream, hlast, inputTaken]
  · have hnewer : ¬h.seq ≤ q := Nat.not_le.2 (hnew q hlast)
    simp [frameIn, hparts, hhead, hkind, hstream, hlast, hnewer, inputTaken]

theorem inputTaken_shows (s : State) (h : RimHead) (data : List Byte) : Keeps [.rim] s (s.inputTaken h data) ∧
    (h.stream, h.seq, s.now, data) ∈ (s.inputTaken h data).rim.inputs ∧ Cells.find h.stream (s.inputTaken h data).rim.seqs = some h.seq :=
  ⟨keeps_withRim s _, List.mem_append_right _ (List.mem_singleton.2 rfl), Cells.find_insert_self _ (Cells.find_erase_self _ _)⟩

/-! ## Plant time (11 R418, R422, R423) -/

theorem keeps_asMeter (s : State) (p : Nat) : Keeps [.regs, .plt] s (s.asMeter p).1 := by
  unfold asMeter
  dsimp only
  split
  · exact (keeps_setPlt s _ _).mono (by simp)
  · exact ((keeps_setPlt s _ _).mono (by simp)).trans ((keeps_wr _ _ _).mono (by simp))

/-- A message that the meter passes changes the meter alone. -/
theorem keeps_asMeter_passed {s w : State} {p : Nat} (h : s.asMeter p = (w, true)) : Keeps [.plt] s w := by
  unfold asMeter at h
  dsimp only at h
  split at h
  · obtain ⟨rfl, -⟩ := Prod.mk.inj h
    exact keeps_setPlt s _ _
  · exact absurd (Prod.mk.inj h).2 Bool.false_ne_true

/-- A time message sent where the port can send. -/
theorem ptpSend_up {s : State} {p : Nat} (hup : s.pltUp p = true) (kind : Nat) :
    s.ptpSend p kind = (s.bumpWrap (Reg.PLT_PORT_TX_FRAMES p) 64 1).emit (.ptp p kind) := by
  rw [ptpSend, hup, Bool.not_true, if_neg Bool.false_ne_true]

theorem ptpSend_shows {s : State} {p : Nat} (hup : s.pltUp p = true) (kind : Nat) : (s.ptpSend p kind).out = .ptp p kind :: s.out ∧
    Keeps [.regs, .out] s (s.ptpSend p kind) ∧ RegsKeep [(Reg.PLT_PORT_TX_FRAMES p).addr] s (s.ptpSend p kind) := by
  rw [ptpSend_up hup]
  exact ⟨rfl, ((keeps_wr s _ _).mono (by simp)).trans ((keeps_emit _ _).mono (by simp)),
    (regsKeep_wr s _ _).trans ((keeps_emit _ _).regsKeep (by decide) _)⟩

/-- Whether a port can send depends on its strap, its switch and its link. -/
theorem pltUp_of_regsKeep {s t : State} {a : Nat} (h : RegsKeep [a] s t) (hpins : t.pins = s.pins) {p : Nat}
    (hctl : (Reg.PLT_PORT_CTL p).addr ≠ a) (hlink : Reg.PLT_STATUS.addr ≠ a) : t.pltUp p = s.pltUp p := by
  rw [pltUp, pltUp, hpins, h.fb (f := Fld.PLT_PORT_CTL_EN p) (fun hm => hctl (List.mem_singleton.1 hm)),
    h.fd (f := Fld.PLT_STATUS_LINK_UP) (fun hm => hlink (List.mem_singleton.1 hm))]

theorem pltUp_ptpSend {s : State} {p : Nat} (hp : p ≤ 1) (hup : s.pltUp p = true) (kind : Nat) : (s.ptpSend p kind).pltUp p = true := by
  obtain ⟨-, hkeeps, hregs⟩ := ptpSend_shows hup kind
  rw [pltUp_of_regsKeep hregs (hkeeps .pins (by decide)) (by simp [Reg.PLT_PORT_CTL, Reg.PLT_PORT_TX_FRAMES])
    (by simp only [Reg.PLT_STATUS, Reg.PLT_PORT_TX_FRAMES]; omega), hup]

theorem pltUp_frameSeen (s : State) {p : Nat} (hp : p ≤ 1) : (s.frameSeen p).pltUp p = s.pltUp p :=
  pltUp_of_regsKeep (regsKeep_wr s _ _) rfl (by simp [Reg.PLT_PORT_CTL, Reg.PLT_PORT_RX_FRAMES])
    (by simp only [Reg.PLT_STATUS, Reg.PLT_PORT_RX_FRAMES]; omega)

/-- What the servo shows. -/
def servoShown (s : State) (port : Nat) (offset rate : Int) (locked : Bool) : State :=
  (((s.wr Reg.PLT_PTP_OFFSET (ofInt 64 offset)).fw Fld.PLT_PTP_STATUS_RATE_PPB (ofInt 24 rate)).fbw Fld.PLT_PTP_STATUS_LOCKED locked).fw
    Fld.PLT_PTP_STATUS_SLAVE_PORT port

/-- The drift alarm that follows from a rate. -/
def driftChecked (s : State) (port : Nat) (rate : Int) : State :=
  if 10 * s.fd Fld.PLT_CFG_DRIFT_LIMIT < rate.natAbs && !s.fb Fld.PLT_PTP_STATUS_DRIFT_ALARM then
    (s.fbw Fld.PLT_PTP_STATUS_DRIFT_ALARM true).troubleRule 6 423 0 87 port
  else if 2 * rate.natAbs < 10 * s.fd Fld.PLT_CFG_DRIFT_LIMIT then s.fbw Fld.PLT_PTP_STATUS_DRIFT_ALARM false
  else s

theorem exec_ptpFrame {s w : State} {port : Nat} {offset rate : Int} {locked : Bool} (kind : Nat) (hport : port ≤ 1)
    (hlink : bit (s.fd Fld.PLT_STATUS_LINK_UP) port = true) (hmeter : s.asMeter port = (w, true)) :
    exec (.ptpFrame port kind offset rate locked) s = .next (if kind = 0 then ((w.frameSeen port).ptpSend port 1).ptpSend port 2
      else ((w.frameSeen port).servoShown port offset rate locked).driftChecked port rate) := by
  refine congrArg Host.Outcome.next ?_
  rw [if_neg (by simp [hlink, hport]), hmeter]
  rfl

/-- What the servo shows after a message, whatever the drift alarm says. -/
structure ServoShows (s u : State) (port : Nat) (offset rate : Int) (locked : Bool) : Prop where
  offset : u.rd Reg.PLT_PTP_OFFSET = ofInt 64 offset
  locked : u.fb Fld.PLT_PTP_STATUS_LOCKED = locked
  slave : u.fd Fld.PLT_PTP_STATUS_SLAVE_PORT = port
  rate : u.fd Fld.PLT_PTP_STATUS_RATE_PPB = ofInt 24 rate
  mem : u.mem = s.mem

theorem servoShown_shows (s : State) {port : Nat} (hport : port ≤ 1) (offset rate : Int) (locked : Bool) :
    ServoShows s (s.servoShown port offset rate locked) port offset rate locked where
  offset := by
    rw [servoShown, rd_fw_ne _ _ _ _ (by decide), fbw, rd_fw_ne _ _ _ _ (by decide), rd_fw_ne _ _ _ _ (by decide),
      rd_wr_self _ _ _ (by decide)]
    exact Nat.mod_eq_of_lt (ofInt_lt 64 offset)
  locked := by
    rw [servoShown, fb_fw_apart _ Fld.PLT_PTP_STATUS_SLAVE_PORT Fld.PLT_PTP_STATUS_LOCKED _ rfl (by decide) (by decide) (by decide),
      fb_fbw_self _ _ _ (by decide) (by decide) (by decide)]
  slave := by
    rw [servoShown, fd_fw_self _ _ _ (by decide) (by decide)]
    exact Nat.mod_eq_of_lt (show port < 2 ^ 1 by omega)
  rate := by
    rw [servoShown, fd_fw_apart _ Fld.PLT_PTP_STATUS_SLAVE_PORT Fld.PLT_PTP_STATUS_RATE_PPB _ rfl (by decide) (by decide) (by decide),
      fd_fbw_apart _ Fld.PLT_PTP_STATUS_LOCKED Fld.PLT_PTP_STATUS_RATE_PPB _ rfl (by decide) (by decide) (by decide),
      fd_fw_self _ _ _ (by decide) (by decide)]
    exact Nat.mod_eq_of_lt (ofInt_lt 24 rate)
  mem := (((keeps_wr s _ _).trans (keeps_fw _ _ _)).trans ((keeps_fbw _ _ _).trans (keeps_fw _ _ _))) .mem (by decide)

section
variable {s u : State} {port : Nat} {offset rate : Int} {locked : Bool}

/-- The drift alarm leaves what the servo shows. -/
theorem ServoShows.alarm (h : ServoShows s u port offset rate locked) (b : Bool) :
    ServoShows s (u.fbw Fld.PLT_PTP_STATUS_DRIFT_ALARM b) port offset rate locked where
  offset := by rw [fbw, rd_fw_ne _ _ _ _ (by decide), h.offset]
  locked := by
    rw [fb_fbw_apart _ Fld.PLT_PTP_STATUS_DRIFT_ALARM Fld.PLT_PTP_STATUS_LOCKED _ rfl (by decide) (by decide) (by decide), h.locked]
  slave := by
    rw [fd_fbw_apart _ Fld.PLT_PTP_STATUS_DRIFT_ALARM Fld.PLT_PTP_STATUS_SLAVE_PORT _ rfl (by decide) (by decide) (by decide), h.slave]
  rate := by
    rw [fd_fbw_apart _ Fld.PLT_PTP_STATUS_DRIFT_ALARM Fld.PLT_PTP_STATUS_RATE_PPB _ rfl (by decide) (by decide) (by decide), h.rate]
  mem := (keeps_fbw u _ b .mem (by decide)).trans h.mem

theorem ServoShows.logged (h : ServoShows s u port offset rate locked) (code sev island addr data : Nat) :
    ServoShows s (u.trouble code sev island addr data) port offset rate locked where
  offset := ((regsKeep_trouble u code sev island addr data).rd (by decide)).trans h.offset
  locked := ((regsKeep_trouble u code sev island addr data).fb (by decide)).trans h.locked
  slave := ((regsKeep_trouble u code sev island addr data).fd (by decide)).trans h.slave
  rate := ((regsKeep_trouble u code sev island addr data).fd (by decide)).trans h.rate
  mem := (keeps_trouble u code sev island addr data .mem (by decide)).trans h.mem

theorem ServoShows.checked (h : ServoShows s u port offset rate locked) (p : Nat) (r : Int) :
    ServoShows s (u.driftChecked p r) port offset rate locked := by
  unfold driftChecked
  split
  · exact (h.alarm true).logged _ _ _ _ _
  split
  · exact h.alarm false
  · exact h

end

theorem exec_pdelayReq (s : State) {port : Nat} (hport : port ≤ 1) :
    exec (.pdelayReq port) s = .next (if s.classSixMay port then s.ptpSend port 0 else s) := by
  refine congrArg Host.Outcome.next ?_
  rw [decide_eq_true hport, Bool.true_and]

/-! ## The strap and the link (11 R414, R416) -/

/-- The strap's level. -/
def strapSet (s : State) (level : Bool) : State := { s with pins := { s.pins with listenOnly := level } }

theorem keeps_strapSet (s : State) (level : Bool) : Keeps [.pins] s (s.strapSet level) := by
  intro p hp
  cases p
  case pins => simp at hp
  all_goals rfl

/-- The strap shown. -/
def strapShown (s : State) (level : Bool) : State := (s.strapSet level).fbw Fld.PLT_STATUS_LISTEN_ONLY level

theorem keeps_strapShown (s : State) (level : Bool) : Keeps [.regs, .pins] s (s.strapShown level) :=
  ((keeps_strapSet s level).mono (by simp)).trans ((keeps_fbw _ _ _).mono (by simp))

theorem pins_strapShown (s : State) (level : Bool) : (s.strapShown level).pins = { s.pins with listenOnly := level } :=
  keeps_fbw (s.strapSet level) Fld.PLT_STATUS_LISTEN_ONLY level .pins (by decide)

theorem exec_pltListenOnlyChange (s : State) (level : Bool) : exec (.pltListenOnlyChange level) s =
    .next (if s.pins.listenOnly = level then s else (s.strapShown level).trouble (6 * 256 + 0xFF) 0 87 (b2n level) 416) := rfl

theorem length_log_trouble (s : State) (code sev island addr data : Nat) : (s.trouble code sev island addr data).log.length = s.log.length + 1 := by
  simp only [trouble]
  split
  · exact congrArg List.length (keeps_raise _ 2 .log (by decide))
  · rfl

/-- A port's link shown. -/
def linkShown (s : State) (port : Nat) (up : Bool) : State :=
  s.fw Fld.PLT_STATUS_LINK_UP (setBits (s.fd Fld.PLT_STATUS_LINK_UP) port 1 (b2n up))

theorem exec_pltLinkChange (s : State) {port : Nat} (hport : port ≤ 1) (up : Bool) : exec (.pltLinkChange port up) s = .next (s.linkShown port up) :=
  congrArg Host.Outcome.next (if_neg (Nat.not_lt.2 hport))

theorem linkShown_shows (s : State) {port : Nat} (hport : port ≤ 1) (up : Bool) :
    bit ((s.linkShown port up).fd Fld.PLT_STATUS_LINK_UP) port = up ∧
    bit ((s.linkShown port up).fd Fld.PLT_STATUS_LINK_UP) (1 - port) = bit (s.fd Fld.PLT_STATUS_LINK_UP) (1 - port) := by
  have hx : s.fd Fld.PLT_STATUS_LINK_UP < 2 ^ 2 := bits_lt _ _ _
  have hfd : (s.linkShown port up).fd Fld.PLT_STATUS_LINK_UP = setBits (s.fd Fld.PLT_STATUS_LINK_UP) port 1 (b2n up) % 2 ^ 2 :=
    fd_fw_self _ _ _ (by decide) (by decide)
  rw [hfd]
  generalize s.fd Fld.PLT_STATUS_LINK_UP = x at hx
  obtain rfl | rfl : port = 0 ∨ port = 1 := by omega
  · cases up <;> interval_cases x <;> decide
  · cases up <;> interval_cases x <;> decide

end State
end Sys2Proof.Machine

namespace Sys2Proof

open Sys2Proof.Machine Sys2Proof.Machine.State Sys2Proof.Safety

/-- Settles O39. -/
theorem plantPortWorks : Obligations.PlantPortWorks := by
  unfold Obligations.PlantPortWorks
  refine ⟨fun h data => rimHead_ofBytes, ?_, ?_, ?_, ?_, ?_, ?_, ?_, ?_, ?_, ?_, ?_⟩
  · intro s via p j s1 far ue h hop hcap hport hbasic hprofile hsched hcommit htime
    refine ⟨_, pltGateSet_opens h hop hcap hport hbasic hprofile hsched hcommit htime, keeps_setPlt _ _ _, ?_, ?_⟩
    · rw [gateWaits, pltPort_setPlt_self, pltPort_begun]
    · rw [gateWaits, pltPort_setPlt_other _ hport, pltPort_begun]
  · intro s port g hport hnext
    exact ⟨fun hdue => ⟨_, gateCycleStart_takes hport hnext hdue, keeps_setPlt s _ _, pltPort_setPlt_self s _ _, pltPort_setPlt_other s hport _⟩,
      gateCycleStart_early hnext⟩
  · intro s via p j s1 h hop hcap hport hlow hhigh hvid hexpert
    exact ⟨_, pltFilterSet_sets h hop hcap hport hlow hhigh hvid hexpert, keeps_setPlt _ _ _, find_filterSet _ _ _ _⟩
  · intro s via p j s1 far ue w bs h hop hplant hmacsec hport hsc han hsuite hread
    refine ⟨fun k key hlast hkey => ⟨_, pltMacsecKey_installs h hop hplant hmacsec hport hsc han hsuite hread hlast hkey, keeps_setPlt _ _ _, ?_⟩,
      pltMacsecKey_refused h hop hplant hmacsec hport hsc han hsuite hread⟩
    rw [saInstalled, pltPort_setPlt_self]
    rfl
  · intro s w port frame plain hport hpolice
    exact ⟨_, by rw [exec_inputFrame s hport, hpolice], rfl⟩
  · intro s w port frame hport hpolice
    refine ⟨by rw [exec_inputFrame s hport, hpolice], ?_⟩
    have hkeeps := keeps_pltPolice s port frame
    rwa [hpolice] at hkeeps
  · intro s port da vid plain h data hparts hhead hkind hstream hnew
    rw [frameIn_accepts hparts hhead hkind hstream hnew]
    exact inputTaken_shows s h data
  · intro s w port offset rate locked hport hlink hmeter
    have hpassed := keeps_asMeter_passed hmeter
    refine ⟨fun hup => ?_, fun kind hkind => ?_⟩
    · have hseen : (w.frameSeen port).pltUp port = true := by
        rw [pltUp_frameSeen w hport, pltUp_of_regsKeep (a := 0) (hpassed.regsKeep (by decide) _) (hpassed .pins (by decide))
          (by simp [Reg.PLT_PORT_CTL]) (by decide), hup]
      obtain ⟨hfirst, hfirstKeeps, -⟩ := ptpSend_shows hseen 1
      obtain ⟨hsecond, hsecondKeeps, -⟩ := ptpSend_shows (pltUp_ptpSend hport hseen 1) 2
      refine ⟨_, by rw [exec_ptpFrame 0 hport hlink hmeter, if_pos rfl], ?_, ?_⟩
      · rw [hsecond, hfirst, keeps_frameSeen w port .out (by decide), hpassed .out (by decide)]
      · exact (((hpassed.mono (by simp)).trans ((keeps_frameSeen w port).mono (by simp))).trans (hfirstKeeps.mono (by simp))).trans
          (hsecondKeeps.mono (by simp))
    · have hshown := (servoShown_shows (w.frameSeen port) hport offset rate locked).checked port rate
      refine ⟨_, by rw [exec_ptpFrame kind hport hlink hmeter, if_neg hkind], hshown.offset, hshown.locked, hshown.slave, hshown.rate, ?_⟩
      rw [hshown.mem, keeps_frameSeen w port .mem (by decide), hpassed .mem (by decide)]
  · intro s port hport
    rw [exec_pdelayReq s hport]
    exact ⟨fun hmay hup => ⟨_, by rw [hmay, if_pos rfl], ptpSend_shows hup 0⟩, fun hnot => by rw [hnot, if_neg Bool.false_ne_true]⟩
  · intro s level
    rw [exec_pltListenOnlyChange]
    refine ⟨fun hsame => by rw [if_pos hsame], fun hother => ⟨_, by rw [if_neg hother], ?_, ?_, ?_, ?_⟩⟩
    · rw [keeps_trouble _ _ _ _ _ _ .pins (by decide), pins_strapShown]
    · rw [(regsKeep_trouble _ _ _ _ _ _).fb (by decide), strapShown, fb_fbw_self _ _ _ (by decide) (by decide) (by decide)]
    · rw [keeps_trouble _ _ _ _ _ _ .mem (by decide), keeps_strapShown s level .mem (by decide)]
    · rw [length_log_trouble, keeps_strapShown s level .log (by decide)]
  · intro s port up hport
    exact ⟨_, exec_pltLinkChange s hport up, keeps_fw s _ _, regsKeep_fw s Fld.PLT_STATUS_LINK_UP _, linkShown_shows s hport up⟩

end Sys2Proof
end

section
/-! What a change of one paired service leaves of the others (12 R437 to R460). -/

namespace Sys2Proof.Safety

open Sys2Proof.Machine Sys2Proof.Machine.State

/-- What the steps of a run before the first one for `a` keep, that step turns into what every step keeps. -/
theorem foldl_once {α : Type} {f : State → α → State} {P Q : State → Prop} {a : α} (hP : ∀ u b, b ≠ a → P u → P (f u b))
    (hset : ∀ u, P u → Q (f u a)) (hkeep : ∀ u b, Q u → Q (f u b)) {l : List α} (ha : a ∈ l) {s : State} (hs : P s) : Q (l.foldl f s) := by
  obtain ⟨before, after, rfl, hnot⟩ := List.eq_append_cons_of_mem ha
  rw [List.foldl_append, List.foldl_cons]
  have hbefore : P (before.foldl f s) := List.foldlRecOn (motive := P) before f hs fun u hu b hb => hP u b (fun h => hnot (h ▸ hb)) hu
  exact List.foldlRecOn (motive := Q) after f (hset _ hbefore) fun u hu b _ => hkeep u b hu

/-- The register lies among those of service `n`. -/
def SvcReg (n : Nat) (r : Reg) : Prop := 0xb00100 + 0x20 * n ≤ r.addr ∧ r.addr < 0xb00120 + 0x20 * n

/-- No stream's SSTATE passes between what a schedule uses and what it does not. -/
def SlotsKept (s t : State) : Prop := ∀ k, (2 ≤ t.strState k ↔ 2 ≤ s.strState k) ∧ (t.strState k = 3 ↔ s.strState k = 3)

/-- A change of service `n`: beside the log it is in the service's own registers and its own record. -/
structure SvcChange (n : Nat) (s t : State) : Prop where
  svc : ∀ m, m ≠ n → t.svc m = s.svc m
  regs : ∀ r : Reg, r.addr ≠ Reg.RAS_LOG_SEQ.addr → (r.addr < 0xb00100 + 0x20 * n ∨ 0xb00120 + 0x20 * n ≤ r.addr) → t.rd r = s.rd r
  conds : t.pair.conds = s.pair.conds
  slots : SlotsKept s t
  keeps : Keeps [.regs, .pair, .out, .log, .hif] s t

namespace SvcChange

variable {n : Nat} {s t u : State}

theorem refl (n : Nat) (s : State) : SvcChange n s s := ⟨fun _ _ => rfl, fun _ _ _ => rfl, rfl, fun _ => ⟨Iff.rfl, Iff.rfl⟩, Keeps.refl _ s⟩

theorem trans (h : SvcChange n s t) (h' : SvcChange n t u) : SvcChange n s u where
  svc m hm := (h'.svc m hm).trans (h.svc m hm)
  regs r hlog hr := (h'.regs r hlog hr).trans (h.regs r hlog hr)
  conds := h'.conds.trans h.conds
  slots k := ⟨(h'.slots k).1.trans (h.slots k).1, (h'.slots k).2.trans (h.slots k).2⟩
  keeps := h.keeps.trans h'.keeps

/-- A change outside the registers and Pairing. -/
theorem of_keeps {ps : List Part} (h : Keeps ps s t) (hregs : Part.regs ∉ ps) (hpair : Part.pair ∉ ps)
    (hps : ps ⊆ [.regs, .pair, .out, .log, .hif]) : SvcChange n s t where
  svc m _ := by rw [State.svc, h .pair hpair, State.svc]
  regs r _ _ := h.rd hregs r
  conds := congrArg Pair.conds (h .pair hpair)
  slots k := by rw [strState, h.fd hregs, ← strState]; exact ⟨Iff.rfl, Iff.rfl⟩
  keeps := h.mono hps

end SvcChange

end Sys2Proof.Safety

namespace Sys2Proof.Machine.State

open Sys2Proof.Safety

theorem svc_congr {s t : State} (h : t.pair.svcs = s.pair.svcs) (n : Nat) : t.svc n = s.svc n := by rw [svc, h, svc]

theorem svc_setSvc_self (s : State) (n : Nat) (x : PairSvc) : (s.setSvc n x).svc n = x := Cells.get_set_self _ _ _ _

theorem svc_setSvc_ne (s : State) {n m : Nat} (x : PairSvc) (h : m ≠ n) : (s.setSvc n x).svc m = s.svc m :=
  Cells.get_set_ne PairSvc.start PairSvc.start h x s.pair.svcs

theorem svc_updSvc_self (s : State) (n : Nat) (f : PairSvc → PairSvc) : (s.updSvc n f).svc n = f (s.svc n) := svc_setSvc_self s n _

theorem svcChange_updSvc (s : State) (n : Nat) (f : PairSvc → PairSvc) : SvcChange n s (s.updSvc n f) where
  svc m hm := svc_setSvc_ne s _ hm
  regs r _ _ := (keeps_updSvc s n f).rd (by decide) r
  conds := rfl
  slots k := by rw [strState, (keeps_updSvc s n f).fd (by decide), ← strState]; exact ⟨Iff.rfl, Iff.rfl⟩
  keeps := (keeps_updSvc s n f).mono (by simp)

/-- A register of a service written that is not its STATUS. -/
theorem svcChange_wr (s : State) {n : Nat} (r : Reg) (v : Nat) (hr : SvcReg n r) (hoff : r.addr % 0x20 ≠ 0) :
    SvcChange n s (s.wr r v) where
  svc m _ := svc_congr rfl m
  regs q _ hq := rd_wr_ne s r q v (by
    obtain ⟨hlow, hhigh⟩ := hr
    omega)
  conds := rfl
  slots k := by
    have hk : (Reg.RIM_STR_STATUS k).addr ≠ r.addr := fun h => by
      simp only [Reg.RIM_STR_STATUS] at h
      omega
    rw [strState, fd_wr_ne s r _ v hk, ← strState]
    exact ⟨Iff.rfl, Iff.rfl⟩
  keeps := (keeps_wr s r v).mono (by simp)

theorem svcReg_status (n : Nat) : SvcReg n (Reg.PAIR_SVC_STATUS n) := by simp [SvcReg, Reg.PAIR_SVC_STATUS]

/-- A field of a service's STATUS written, a slot's SSTATE where it lay there kept as it was. -/
theorem svcChange_fw_status (s : State) (n lo w v : Nat)
    (hkept : ∀ x, x = (s.fw ⟨Reg.PAIR_SVC_STATUS n, lo, w⟩ v).fd ⟨Reg.PAIR_SVC_STATUS n, 30, 2⟩ →
      (2 ≤ x ↔ 2 ≤ s.fd ⟨Reg.PAIR_SVC_STATUS n, 30, 2⟩) ∧ (x = 3 ↔ s.fd ⟨Reg.PAIR_SVC_STATUS n, 30, 2⟩ = 3)) :
    SvcChange n s (s.fw ⟨Reg.PAIR_SVC_STATUS n, lo, w⟩ v) where
  svc m _ := svc_congr rfl m
  regs q _ hq := rd_fw_ne s _ q v (by
    obtain ⟨hlow, hhigh⟩ := svcReg_status n
    simp only
    omega)
  conds := rfl
  slots k := by
    by_cases hk : (Reg.RIM_STR_STATUS k).addr = (Reg.PAIR_SVC_STATUS n).addr
    · have hreg : Reg.RIM_STR_STATUS k = Reg.PAIR_SVC_STATUS n := by
        simp only [Reg.RIM_STR_STATUS, Reg.PAIR_SVC_STATUS] at hk ⊢
        rw [hk]
      have hfld : Fld.RIM_STR_STATUS_SSTATE k = ⟨Reg.PAIR_SVC_STATUS n, 30, 2⟩ := by rw [Fld.RIM_STR_STATUS_SSTATE, hreg]
      rw [strState, strState, hfld]
      exact hkept _ rfl
    · rw [strState, fd_fw_ne s ⟨Reg.PAIR_SVC_STATUS n, lo, w⟩ (Fld.RIM_STR_STATUS_SSTATE k) v hk, ← strState]
      exact ⟨Iff.rfl, Iff.rfl⟩
  keeps := (keeps_fw s _ v).mono (by simp)

/-- A field of a service's STATUS below its ROLE. -/
theorem svcChange_fw_low (s : State) (n : Nat) {lo w : Nat} (v : Nat) (h : lo + w ≤ 30) : SvcChange n s (s.fw ⟨Reg.PAIR_SVC_STATUS n, lo, w⟩ v) :=
  svcChange_fw_status s n lo w v fun x hx => by
    rw [fd_fw_apart s ⟨Reg.PAIR_SVC_STATUS n, lo, w⟩ ⟨Reg.PAIR_SVC_STATUS n, 30, 2⟩ v rfl (.inr h) (show 30 + 2 ≤ 32 by decide)
      (show 32 ≤ 64 by decide)] at hx
    rw [hx]
    exact ⟨Iff.rfl, Iff.rfl⟩

/-- The two upper bits of a role. -/
theorem upper_role (s : State) (n : Nat) : s.fd ⟨Reg.PAIR_SVC_STATUS n, 30, 2⟩ = s.svcRole n / 2 := by
  have hbits : ∀ x, bits x 30 2 = bits x 29 3 / 2 := fun x => by
    simp only [bits]
    omega
  exact hbits _

theorem svcRole_fw (s : State) (n : Nat) {role : Nat} (h : role < 8) : (s.fw (Fld.PAIR_SVC_STATUS_ROLE n) role).svcRole n = role := by
  rw [svcRole, fd_fw_self _ _ _ (show 29 + 3 ≤ 32 by decide) (show 32 ≤ 64 by decide)]
  exact Nat.mod_eq_of_lt h

/-- A change of a claim or a role counted. -/
def genCounted (s : State) : State := { s with pair := { s.pair with claimGen := (s.pair.claimGen + 1) % 2 ^ 16 } }

theorem keeps_genCounted (s : State) : Keeps [.pair] s s.genCounted := keeps_withPair s _

theorem svcChange_genCounted (n : Nat) (s : State) : SvcChange n s s.genCounted where
  svc m _ := svc_congr rfl m
  regs r _ _ := (keeps_genCounted s).rd (by decide) r
  conds := rfl
  slots k := by rw [strState, (keeps_genCounted s).fd (by decide), ← strState]; exact ⟨Iff.rfl, Iff.rfl⟩
  keeps := (keeps_genCounted s).mono (by simp)

theorem setRole_same {s : State} {n role : Nat} (h : s.svcRole n = role) : s.setRole n role = s := if_pos h

theorem setRole_other {s : State} {n role : Nat} (h : s.svcRole n ≠ role) :
    s.setRole n role = (s.fw (Fld.PAIR_SVC_STATUS_ROLE n) role).genCounted := if_neg h

theorem svcRole_setRole (s : State) (n : Nat) {role : Nat} (h : role < 8) : (s.setRole n role).svcRole n = role := by
  by_cases hsame : s.svcRole n = role
  · rw [setRole_same hsame, hsame]
  · rw [setRole_other hsame, svcRole, (keeps_genCounted _).fd (by decide), ← svcRole, svcRole_fw s n h]

/-- A role below FAILED that replaces another such role. -/
theorem svcChange_setRole (s : State) {n role : Nat} (hold : s.svcRole n < 4) (hnew : role < 4) : SvcChange n s (s.setRole n role) := by
  by_cases hsame : s.svcRole n = role
  · rw [setRole_same hsame]
    exact .refl n s
  · rw [setRole_other hsame]
    refine (svcChange_fw_status s n 29 3 role fun x hx => ?_).trans (svcChange_genCounted n _)
    rw [upper_role, show (s.fw ⟨Reg.PAIR_SVC_STATUS n, 29, 3⟩ role).svcRole n = role from svcRole_fw s n (by omega)] at hx
    rw [upper_role, hx]
    omega

theorem svcChange_trouble (n : Nat) (s : State) (code sev island addr data : Nat) : SvcChange n s (s.trouble code sev island addr data) where
  svc m _ := by rw [svc, keeps_trouble s code sev island addr data .pair (by decide), svc]
  regs r hlog _ := (regsKeep_trouble s code sev island addr data).rd (by simpa using hlog)
  conds := congrArg Pair.conds (keeps_trouble s code sev island addr data .pair (by decide))
  slots k := by
    rw [strState, (regsKeep_trouble s code sev island addr data).fd (by
      simp only [Fld.RIM_STR_STATUS_SSTATE, Reg.RIM_STR_STATUS, Reg.RAS_LOG_SEQ, List.mem_singleton]
      omega), ← strState]
    exact ⟨Iff.rfl, Iff.rfl⟩
  keeps := (keeps_trouble s code sev island addr data).mono (by simp)

theorem svcChange_pairSend (n : Nat) (s : State) (ty m body : Nat) : SvcChange n s (s.pairSend ty m body) :=
  .of_keeps (keeps_pairSend s ty m body) (by decide) (by decide) (by simp)

/-! ## Comparison states (12 R447) -/

/-- A change of a service's comparison state leaves its role, its claims and what its record says beside `waiting`. -/
structure CmpChange (n : Nat) (s t : State) : Prop where
  change : SvcChange n s t
  role : t.svcRole n = s.svcRole n
  step : t.svcStep n = s.svcStep n
  ident : t.fd (Fld.PAIR_SVC_STATUS_ID n) = s.fd (Fld.PAIR_SVC_STATUS_ID n)
  claim : t.claim n = s.claim n
  peerClaim : t.peerClaim n = s.peerClaim n
  svc : ∃ b, t.svc n = { s.svc n with waiting := b }

theorem CmpChange.refl (n : Nat) (s : State) : CmpChange n s s := ⟨.refl n s, rfl, rfl, rfl, rfl, rfl, (s.svc n).waiting, rfl⟩

theorem cmpChange_fw (s : State) (n v : Nat) : CmpChange n s (s.fw (Fld.PAIR_SVC_STATUS_CMP n) v) where
  change := svcChange_fw_low s n v (by decide)
  role := fd_fw_apart s (Fld.PAIR_SVC_STATUS_CMP n) (Fld.PAIR_SVC_STATUS_ROLE n) v rfl (.inr (show 27 + 2 ≤ 29 by decide)) (show 29 + 3 ≤ 32 by decide)
    (show 32 ≤ 64 by decide)
  step := fb_fw_apart s (Fld.PAIR_SVC_STATUS_CMP n) (Fld.PAIR_SVC_STATUS_TYPE n) v rfl (.inl (show 26 + 1 ≤ 27 by decide)) (show 26 + 1 ≤ 32 by decide)
    (show 32 ≤ 64 by decide)
  ident := fd_fw_apart s (Fld.PAIR_SVC_STATUS_CMP n) (Fld.PAIR_SVC_STATUS_ID n) v rfl (.inl (show 0 + 8 ≤ 27 by decide)) (show 0 + 8 ≤ 32 by decide)
    (show 32 ≤ 64 by decide)
  claim := rd_fw_ne s _ _ v (by simp [Reg.PAIR_SVC_CLAIM, Fld.PAIR_SVC_STATUS_CMP, Reg.PAIR_SVC_STATUS])
  peerClaim := rd_fw_ne s _ _ v (by simp [Reg.PAIR_SVC_PEER_CLAIM, Fld.PAIR_SVC_STATUS_CMP, Reg.PAIR_SVC_STATUS])
  svc := ⟨(s.svc n).waiting, svc_congr rfl n⟩

theorem cmpChange_cmpUpdate (s : State) (n : Nat) : CmpChange n s (s.cmpUpdate n) := by
  unfold cmpUpdate
  extract_lets c
  split
  · exact .refl n s
  split
  · have h := cmpChange_fw s n 1
    have hkeeps := keeps_updSvc (s.fw (Fld.PAIR_SVC_STATUS_CMP n) 1) n (fun x => { x with waiting := false })
    obtain ⟨b, hb⟩ := h.svc
    exact ⟨h.change.trans (svcChange_updSvc _ n _), (hkeeps.fd (by decide) _).trans h.role, (hkeeps.fb (by decide) _).trans h.step,
      (hkeeps.fd (by decide) _).trans h.ident, (hkeeps.rd (by decide) _).trans h.claim, (hkeeps.rd (by decide) _).trans h.peerClaim,
      false, by rw [svc_updSvc_self, hb]⟩
  split
  · exact cmpChange_fw s n 0
  · exact .refl n s

/-! ## Whether a module may take a service over (12 R454) -/

/-- What decides whether a service may be taken over, and its claims, are as before. -/
structure TakeSame (n : Nat) (s t : State) : Prop where
  role : t.svcRole n = s.svcRole n
  step : t.svcStep n = s.svcStep n
  ident : t.fd (Fld.PAIR_SVC_STATUS_ID n) = s.fd (Fld.PAIR_SVC_STATUS_ID n)
  failed : (t.svc n).failed = (s.svc n).failed
  claim : t.claim n = s.claim n
  peerClaim : t.peerClaim n = s.peerClaim n
  conds : t.pair.conds = s.pair.conds
  lane : t.lane = s.lane
  streams : t.rim.streams = s.rim.streams
  slots : SlotsKept s t
  conflict : t.fb Fld.PAIR_STATUS_POS_CONFLICT = s.fb Fld.PAIR_STATUS_POS_CONFLICT
  pos : t.pairPos = s.pairPos

theorem TakeSame.refl (n : Nat) (s : State) : TakeSame n s s := ⟨rfl, rfl, rfl, rfl, rfl, rfl, rfl, rfl, rfl, fun _ => ⟨Iff.rfl, Iff.rfl⟩, rfl, rfl⟩

theorem TakeSame.trans {n : Nat} {s t u : State} (h : TakeSame n s t) (h' : TakeSame n t u) : TakeSame n s u :=
  ⟨h'.role.trans h.role, h'.step.trans h.step, h'.ident.trans h.ident, h'.failed.trans h.failed, h'.claim.trans h.claim,
    h'.peerClaim.trans h.peerClaim, h'.conds.trans h.conds, h'.lane.trans h.lane, h'.streams.trans h.streams,
    fun k => ⟨(h'.slots k).1.trans (h.slots k).1, (h'.slots k).2.trans (h.slots k).2⟩, h'.conflict.trans h.conflict, h'.pos.trans h.pos⟩

/-- The parts of a change that hold of every service. -/
theorem svcChange_shared {m : Nat} {s t : State} (h : SvcChange m s t) : t.lane = s.lane ∧ t.rim.streams = s.rim.streams ∧
    t.fb Fld.PAIR_STATUS_POS_CONFLICT = s.fb Fld.PAIR_STATUS_POS_CONFLICT ∧ t.pairPos = s.pairPos := by
  have hlow : ∀ r : Reg, r.addr ≠ Reg.RAS_LOG_SEQ.addr → r.addr < 0xb00100 → t.rd r = s.rd r := fun r hlog hr => h.regs r hlog (.inl (by omega))
  exact ⟨fd_of_rd (hlow Reg.RIM_STATUS (by decide) (by decide)), congrArg Rim.streams (h.keeps .rim (by decide)),
    congrArg (· != 0) (fd_of_rd (f := Fld.PAIR_STATUS_POS_CONFLICT) (hlow Reg.PAIR_STATUS (by decide) (by decide))),
    fd_of_rd (hlow Reg.PAIR_STATUS (by decide) (by decide))⟩

theorem rd_svcChange_ne {n m : Nat} {s t : State} (h : SvcChange m s t) (hne : n ≠ m) {r : Reg} (hr : SvcReg n r) : t.rd r = s.rd r := by
  obtain ⟨hlow, hhigh⟩ := hr
  refine h.regs r ?_ (by omega)
  simp only [Reg.RAS_LOG_SEQ]
  omega

/-- A change of another service. -/
theorem svcChange_takeSame {n m : Nat} {s t : State} (h : SvcChange m s t) (hne : n ≠ m) : TakeSame n s t := by
  have hstatus : t.rd (Reg.PAIR_SVC_STATUS n) = s.rd (Reg.PAIR_SVC_STATUS n) := rd_svcChange_ne h hne (svcReg_status n)
  obtain ⟨hlane, hstreams, hconflict, hpos⟩ := svcChange_shared h
  exact {
    role := fd_of_rd hstatus
    step := congrArg (· != 0) (fd_of_rd (f := Fld.PAIR_SVC_STATUS_TYPE n) hstatus)
    ident := fd_of_rd hstatus
    failed := congrArg PairSvc.failed (h.svc n hne)
    claim := rd_svcChange_ne h hne (by simp [SvcReg, Reg.PAIR_SVC_CLAIM])
    peerClaim := rd_svcChange_ne h hne (by simp [SvcReg, Reg.PAIR_SVC_PEER_CLAIM])
    conds := h.conds
    lane := hlane
    streams := hstreams
    slots := h.slots
    conflict := hconflict
    pos := hpos }

theorem CmpChange.takeSame {n : Nat} {s t : State} (h : CmpChange n s t) : TakeSame n s t := by
  obtain ⟨hlane, hstreams, hconflict, hpos⟩ := svcChange_shared h.change
  obtain ⟨b, hb⟩ := h.svc
  exact ⟨h.role, h.step, h.ident, by rw [hb], h.claim, h.peerClaim, h.change.conds, hlane, hstreams, h.change.slots, hconflict, hpos⟩

theorem svcSlot_takeSame {n : Nat} {s t : State} (h : TakeSame n s t) : t.svcSlot n = s.svcSlot n := by
  rw [svcSlot, h.streams, h.ident, svcSlot]
  have hslots : ∀ k, decide (2 ≤ t.strState k) = decide (2 ≤ s.strState k) := fun k => decide_eq_decide.2 (h.slots k).1
  simp only [hslots]

theorem failCause_takeSame {n : Nat} {s t : State} (h : TakeSame n s t) : t.failCause n = s.failCause n := by
  have hstr : ∀ k, (t.strState k == 3) = (s.strState k == 3) := fun k => Bool.eq_iff_iff.2 (by
    rw [beq_iff_eq, beq_iff_eq]
    exact (h.slots k).2)
  simp only [failCause, h.step, h.conds, h.failed, h.lane, svcSlot_takeSame h, hstr]

theorem mayTake_takeSame {n : Nat} {s t : State} (h : TakeSame n s t) : t.mayTake n = s.mayTake n := by
  rw [mayTake, h.role, failCause_takeSame h, h.conflict, mayTake]

theorem mayTake_role {n : Nat} {s : State} (h : s.mayTake n = true) : s.svcRole n = 1 ∨ s.svcRole n = 2 := by
  simp only [mayTake, Bool.and_eq_true, Bool.or_eq_true, beq_iff_eq] at h
  exact h.1.1

/-! ## Taking the ACTIVE role (12 R437, R454, R456) -/

/-- The next EPOCH of a service. -/
def nextEpoch (s : State) (n : Nat) : Nat := max (s.claim n / 2) (s.peerClaim n / 2) + 1

/-- A claim raised. -/
def claimRaised (s : State) (n : Nat) : State := (s.wr (Reg.PAIR_SVC_CLAIM n) (s.nextEpoch n * 2 + s.pairPos)).genCounted

theorem raiseClaim_eq (s : State) (n : Nat) (swap : Bool) (eff : Nat) : s.raiseClaim n swap eff =
    if 0x7FFFFFFF < s.nextEpoch n then (s.holdEnter n 4 438, false) else ((s.claimRaised n).claimSend n swap eff, true) := rfl

theorem svcChange_claimRaised (s : State) (n : Nat) : SvcChange n s (s.claimRaised n) :=
  (svcChange_wr s (Reg.PAIR_SVC_CLAIM n) _ (by simp [SvcReg, Reg.PAIR_SVC_CLAIM])
    (by simp only [Reg.PAIR_SVC_CLAIM]; omega)).trans (svcChange_genCounted n _)

theorem pairPos_lt (s : State) : s.pairPos < 2 := bits_lt _ _ 1

theorem claim_claimRaised {s : State} {n : Nat} (h : s.nextEpoch n ≤ 0x7FFFFFFF) : (s.claimRaised n).claim n = s.nextEpoch n * 2 + s.pairPos := by
  have hpos := pairPos_lt s
  rw [claim, claimRaised, (keeps_genCounted _).rd (by decide), rd_wr_self s (Reg.PAIR_SVC_CLAIM n) _ (show 32 ≤ 64 by decide)]
  refine Nat.mod_eq_of_lt ?_
  simp only [Reg.PAIR_SVC_CLAIM]
  omega

theorem svcChange_holdEnter (s : State) (n code rule : Nat) : SvcChange n s (s.holdEnter n code rule) := by
  unfold holdEnter troubleRule
  exact ((svcChange_fw_low s n (lo := 27) (w := 2) 3 (by decide)).trans (svcChange_updSvc _ n _)).trans (svcChange_trouble n _ _ _ _ _ _)

/-- A module that takes the ACTIVE role, its claim raised: what it may release from, and an alarm where the partner is lost. -/
def activeSet (s : State) (n time : Nat) (lost : Bool) : State :=
  s.updSvc n (fun x => { x with notBefore := time, swap := none, give := none, stop := none
                                alarms := if lost then x.alarms ++ [3] else x.alarms })

/-- The switch counted where the partner is lost. -/
def switchCounted (s : State) (n : Nat) (lost : Bool) : State := if lost then s.countSwitch n else s

theorem becomeActive_eq (s : State) (n time : Nat) (lost : Bool) : s.becomeActive n time lost =
    if 0x7FFFFFFF < s.nextEpoch n then s.holdEnter n 4 438
    else ((((s.claimRaised n).claimSend n false 0).activeSet n time lost).switchCounted n lost).roleTo n 3 := by
  unfold becomeActive
  rw [raiseClaim_eq]
  by_cases h : 0x7FFFFFFF < s.nextEpoch n
  · simp only [if_pos h]
  · simp only [if_neg h]
    rfl

theorem svcChange_switchCounted (s : State) (n : Nat) (lost : Bool) : SvcChange n s (s.switchCounted n lost) := by
  unfold switchCounted
  split
  · exact svcChange_wr s (Reg.PAIR_SVC_SWITCH n) _ (by simp [SvcReg, Reg.PAIR_SVC_SWITCH])
      (by simp only [Reg.PAIR_SVC_SWITCH]; omega)
  · exact .refl n s

/-- The state in which a module takes the ACTIVE role. -/
def activeReady (s : State) (n time : Nat) (lost : Bool) : State :=
  (((s.claimRaised n).claimSend n false 0).activeSet n time lost).switchCounted n lost

theorem svcChange_activeReady (s : State) (n time : Nat) (lost : Bool) : SvcChange n s (s.activeReady n time lost) :=
  (((svcChange_claimRaised s n).trans (svcChange_pairSend n _ _ _ _)).trans (svcChange_updSvc _ n _)).trans (svcChange_switchCounted _ n lost)

/-- Registers of a service other than its claim and its count of switches stay until its role changes. -/
theorem rd_activeReady (s : State) (n time : Nat) (lost : Bool) {r : Reg} (hclaim : r.addr ≠ (Reg.PAIR_SVC_CLAIM n).addr)
    (hswitch : r.addr ≠ (Reg.PAIR_SVC_SWITCH n).addr) : (s.activeReady n time lost).rd r = s.rd r := by
  have hraised : (s.claimRaised n).rd r = s.rd r := by rw [claimRaised, (keeps_genCounted _).rd (by decide), rd_wr_ne s _ r _ hclaim]
  have hset : (((s.claimRaised n).claimSend n false 0).activeSet n time lost).rd r = s.rd r :=
    ((keeps_updSvc _ n _).rd (by decide) r).trans (((keeps_pairSend _ _ _ _).rd (by decide) r).trans hraised)
  unfold activeReady switchCounted
  split
  · exact (rd_wr_ne _ _ r _ hswitch).trans hset
  · exact hset

theorem claim_activeReady {s : State} {n : Nat} (time : Nat) (lost : Bool) (h : s.nextEpoch n ≤ 0x7FFFFFFF) :
    (s.activeReady n time lost).claim n = s.nextEpoch n * 2 + s.pairPos := by
  have hset : (((s.claimRaised n).claimSend n false 0).activeSet n time lost).claim n = s.nextEpoch n * 2 + s.pairPos :=
    ((keeps_updSvc _ n _).rd (by decide) _).trans (((keeps_pairSend _ _ _ _).rd (by decide) _).trans (claim_claimRaised h))
  unfold activeReady switchCounted
  split
  · exact (rd_wr_ne _ _ _ _ (by simp [Reg.PAIR_SVC_CLAIM, Reg.PAIR_SVC_SWITCH])).trans hset
  · exact hset

theorem role_activeReady (s : State) (n time : Nat) (lost : Bool) : (s.activeReady n time lost).svcRole n = s.svcRole n :=
  fd_of_rd (rd_activeReady s n time lost (by simp [Fld.PAIR_SVC_STATUS_ROLE, Reg.PAIR_SVC_CLAIM, Reg.PAIR_SVC_STATUS])
    (by simp [Fld.PAIR_SVC_STATUS_ROLE, Reg.PAIR_SVC_SWITCH, Reg.PAIR_SVC_STATUS]))

theorem svcChange_roleTo (s : State) {n role : Nat} (hold : s.svcRole n < 4) (hnew : role < 4) : SvcChange n s (s.roleTo n role) :=
  (svcChange_setRole s hold hnew).trans (cmpChange_cmpUpdate _ n).change

theorem svcRole_roleTo (s : State) (n : Nat) {role : Nat} (h : role < 8) : (s.roleTo n role).svcRole n = role :=
  (cmpChange_cmpUpdate _ n).role.trans (svcRole_setRole s n h)

/-- Where a role changes, the service's claims do not. -/
theorem claim_setRole (s : State) (n role : Nat) : (s.setRole n role).claim n = s.claim n := by
  by_cases hsame : s.svcRole n = role
  · rw [setRole_same hsame]
  · rw [setRole_other hsame, claim, (keeps_genCounted _).rd (by decide), claim]
    exact rd_fw_ne s (Fld.PAIR_SVC_STATUS_ROLE n) (Reg.PAIR_SVC_CLAIM n) role
      (by simp [Reg.PAIR_SVC_CLAIM, Fld.PAIR_SVC_STATUS_ROLE, Reg.PAIR_SVC_STATUS])

theorem claim_roleTo (s : State) (n role : Nat) : (s.roleTo n role).claim n = s.claim n :=
  (cmpChange_cmpUpdate _ n).claim.trans (claim_setRole s n role)

/-- Taking the ACTIVE role changes the service alone. -/
theorem svcChange_becomeActive (s : State) {n : Nat} (time : Nat) (lost : Bool) (h : s.svcRole n < 4) :
    SvcChange n s (s.becomeActive n time lost) := by
  rw [becomeActive_eq]
  split
  · exact svcChange_holdEnter s n 4 438
  · exact (svcChange_activeReady s n time lost).trans (svcChange_roleTo _ (by rw [role_activeReady]; exact h) (by decide))

/-- While the claim's numbers last, the service is ACTIVE with a claim above every one seen. -/
theorem becomeActive_takes {s : State} {n : Nat} (time : Nat) (lost : Bool) (h : s.nextEpoch n ≤ 0x7FFFFFFF) :
    (s.becomeActive n time lost).svcRole n = 3 ∧ (s.becomeActive n time lost).claim n = s.nextEpoch n * 2 + s.pairPos := by
  rw [becomeActive_eq, if_neg (Nat.not_lt.2 h)]
  exact ⟨svcRole_roleTo _ n (by decide), (claim_roleTo _ n 3).trans (claim_activeReady time lost h)⟩

/-! ## Taking over (12 R454) -/

theorem svcChange_peerRoleTo (s : State) (n role : Nat) : SvcChange n s (s.peerRoleTo n role) :=
  (svcChange_updSvc s n _).trans (cmpChange_cmpUpdate _ n).change

theorem takeSame_updSvc (s : State) (n : Nat) (f : PairSvc → PairSvc) (hf : (f (s.svc n)).failed = (s.svc n).failed) :
    TakeSame n s (s.updSvc n f) := by
  have hkeeps := keeps_updSvc s n f
  exact ⟨hkeeps.fd (by decide) _, hkeeps.fb (by decide) _, hkeeps.fd (by decide) _, by rw [svc_updSvc_self, hf], hkeeps.rd (by decide) _,
    hkeeps.rd (by decide) _, rfl, hkeeps.fd (by decide) _, rfl, (svcChange_updSvc s n f).slots, hkeeps.fb (by decide) _, hkeeps.fd (by decide) _⟩

theorem takeSame_peerRoleTo (s : State) (n role : Nat) : TakeSame n s (s.peerRoleTo n role) :=
  (takeSame_updSvc s n _ rfl).trans (cmpChange_cmpUpdate _ n).takeSame

theorem svcChange_takeover (s : State) (n : Nat) : SvcChange n s (s.takeover n) := by
  unfold takeover
  dsimp only
  split
  · next hmay =>
    exact (svcChange_peerRoleTo s n 4).trans (svcChange_becomeActive _ _ true (by have := mayTake_role hmay; omega))
  · exact svcChange_peerRoleTo s n 4

theorem takeover_takes {s : State} {n : Nat} (hmay : s.mayTake n = true) (hepoch : s.nextEpoch n ≤ 0x7FFFFFFF) :
    (s.takeover n).svcRole n = 3 ∧ (s.takeover n).claim n = s.nextEpoch n * 2 + s.pairPos := by
  have hsame := takeSame_peerRoleTo s n 4
  have hnext : (s.peerRoleTo n 4).nextEpoch n = s.nextEpoch n := by rw [nextEpoch, hsame.claim, hsame.peerClaim, nextEpoch]
  unfold takeover
  dsimp only
  rw [mayTake_takeSame hsame, hmay, if_pos rfl, ← hnext, ← hsame.pos]
  exact becomeActive_takes _ true (by rw [hnext]; exact hepoch)

/-- An ACTIVE service stays as it is where its partner fails. -/
theorem takeover_active {s : State} {n : Nat} (h : s.svcRole n = 3) : (s.takeover n).svcRole n = 3 ∧ (s.takeover n).claim n = s.claim n := by
  have hsame := takeSame_peerRoleTo s n 4
  have hnot : (s.peerRoleTo n 4).mayTake n = false := by rw [mayTake, hsame.role, h]; rfl
  unfold takeover
  dsimp only
  rw [hnot, if_neg Bool.false_ne_true]
  exact ⟨hsame.role.trans h, hsame.claim⟩

end Sys2Proof.Machine.State
end

section
/-! Pairing messages (O40). -/

namespace Sys2Proof.Machine.State

open Sys2Proof.Safety

/-! ## Fields of a message and of a service's STATUS -/

theorem fieldOf_lt (m : List Byte) (off n : Nat) : fieldOf m off n < 2 ^ (8 * n) :=
  (ofLE_lt _).trans_le (Nat.pow_le_pow_right (by decide) (Nat.mul_le_mul_left 8 (List.length_take_le n _)))

theorem fd_svc_apart (s : State) (n : Nat) {lo w lo' w' : Nat} (v : Nat) (hsep : lo' + w' ≤ lo ∨ lo + w ≤ lo') (h : lo' + w' ≤ 32) :
    (s.fw ⟨Reg.PAIR_SVC_STATUS n, lo, w⟩ v).fd ⟨Reg.PAIR_SVC_STATUS n, lo', w'⟩ = s.fd ⟨Reg.PAIR_SVC_STATUS n, lo', w'⟩ :=
  fd_fw_apart s ⟨Reg.PAIR_SVC_STATUS n, lo, w⟩ ⟨Reg.PAIR_SVC_STATUS n, lo', w'⟩ v rfl hsep h (show 32 ≤ 64 by decide)

theorem fd_svc_self (s : State) (n : Nat) {lo w v : Nat} (h : lo + w ≤ 32) (hv : v < 2 ^ w) :
    (s.fw ⟨Reg.PAIR_SVC_STATUS n, lo, w⟩ v).fd ⟨Reg.PAIR_SVC_STATUS n, lo, w⟩ = v :=
  (fd_fw_self s ⟨Reg.PAIR_SVC_STATUS n, lo, w⟩ v h (show 32 ≤ 64 by decide)).trans (Nat.mod_eq_of_lt hv)

theorem regsKeep_setRole (s : State) (n role : Nat) : RegsKeep [(Reg.PAIR_SVC_STATUS n).addr] s (s.setRole n role) := by
  by_cases hsame : s.svcRole n = role
  · rw [setRole_same hsame]
    exact RegsKeep.of_regs_eq rfl
  · rw [setRole_other hsame]
    exact (regsKeep_fw s (Fld.PAIR_SVC_STATUS_ROLE n) role).trans ((keeps_genCounted _).regsKeep (by decide) _)

theorem keeps_cmpUpdate (s : State) (n : Nat) : Keeps [.regs, .pair] s (s.cmpUpdate n) := by
  unfold cmpUpdate
  extract_lets c
  split
  · exact Keeps.refl _ s
  split
  · exact ((keeps_fw s _ _).mono (by simp)).trans ((keeps_updSvc _ n _).mono (by simp))
  split
  · exact (keeps_fw s _ _).mono (by simp)
  · exact Keeps.refl _ s

theorem regsKeep_cmpUpdate (s : State) (n : Nat) : RegsKeep [(Reg.PAIR_SVC_STATUS n).addr] s (s.cmpUpdate n) := by
  unfold cmpUpdate
  extract_lets c
  split
  · exact RegsKeep.of_regs_eq rfl
  split
  · exact (regsKeep_fw s (Fld.PAIR_SVC_STATUS_CMP n) 1).trans ((keeps_updSvc _ n _).regsKeep (by decide) _)
  split
  · exact regsKeep_fw s (Fld.PAIR_SVC_STATUS_CMP n) 0
  · exact RegsKeep.of_regs_eq rfl

theorem keeps_roleTo (s : State) (n role : Nat) : Keeps [.regs, .pair] s (s.roleTo n role) :=
  (keeps_setRole s n role).trans (keeps_cmpUpdate _ n)

theorem regsKeep_roleTo (s : State) (n role : Nat) : RegsKeep [(Reg.PAIR_SVC_STATUS n).addr] s (s.roleTo n role) :=
  (regsKeep_setRole s n role).trans (regsKeep_cmpUpdate _ n)

/-- The registers of the module's pair lie below those of its services. -/
theorem pairReg_ne_status {r : Reg} (h : r.addr < 0xb00100) (n : Nat) : r.addr ∉ [(Reg.PAIR_SVC_STATUS n).addr] := by
  simp only [Reg.PAIR_SVC_STATUS, List.mem_singleton]
  omega

theorem keeps_cmpAll (s : State) : Keeps [.regs, .pair] s s.cmpAll := Keeps.foldl s fun u n _ => keeps_cmpUpdate u n

theorem rd_cmpAll (s : State) {r : Reg} (h : r.addr < 0xb00100) : s.cmpAll.rd r = s.rd r :=
  List.foldlRecOn (motive := fun u : State => u.rd r = s.rd r) s.svcsOn cmpUpdate rfl fun u hu n _ =>
    ((regsKeep_cmpUpdate u n).rd (pairReg_ne_status h n)).trans hu

theorem svcRole_ne {s t : State} {n m : Nat} (h : RegsKeep [(Reg.PAIR_SVC_STATUS m).addr] s t) (hne : n ≠ m) : t.svcRole n = s.svcRole n :=
  h.fd (by
    simp only [Fld.PAIR_SVC_STATUS_ROLE, Reg.PAIR_SVC_STATUS, List.mem_singleton]
    omega)

theorem svcRole_cmpUpdate (s : State) (n m : Nat) : (s.cmpUpdate m).svcRole n = s.svcRole n := by
  by_cases hne : n = m
  · subst hne
    exact (cmpChange_cmpUpdate s n).role
  · exact svcRole_ne (regsKeep_cmpUpdate s m) hne

theorem svcRole_cmpAll (s : State) (n : Nat) : s.cmpAll.svcRole n = s.svcRole n :=
  List.foldlRecOn (motive := fun u : State => u.svcRole n = s.svcRole n) s.svcsOn cmpUpdate rfl fun u hu m _ => (svcRole_cmpUpdate u n m).trans hu

theorem mem_svcsOn {s : State} {n : Nat} : n ∈ s.svcsOn ↔ n < 64 ∧ s.svcRole n ≠ 0 := by
  simp [svcsOn]

/-! ## Messages (12 R432) -/

/-- A valid message confirms the link. -/
def linkHeard (s : State) : State := { s with pair := { s.pair with lastLink := s.now } }

theorem keeps_linkHeard (s : State) : Keeps [.pair] s s.linkHeard := keeps_withPair s _

theorem svc_linkHeard (s : State) (n : Nat) : s.linkHeard.svc n = s.svc n := rfl

theorem svcOn_keeps {s t : State} {ps : List Part} (h : Keeps ps s t) (hp : Part.regs ∉ ps) (n : Nat) : t.svcOn n = s.svcOn n := by
  rw [svcOn, h.fb hp, svcRole, h.fd hp, ← svcRole, svcOn]

section
variable {s : State} {m : List Byte} {ty : Nat} {f : State → State}

theorem pairMsg_counts (h : pairValid m = false) (ty : Nat) (f : State → State) : s.pairMsg m ty f = s.bump Reg.PAIR_MSG_ERR_CNT 1 := by
  rw [pairMsg, h]
  rfl

theorem pairMsg_other (h : pairValid m = true) (hty : fieldOf m 0 1 ≠ ty) (f : State → State) : s.pairMsg m ty f = s := by
  rw [pairMsg, h, Bool.not_true, if_neg Bool.false_ne_true, if_pos (bne_iff_ne.2 hty)]

theorem pairMsg_acts (h : pairValid m = true) (hty : fieldOf m 0 1 = ty) : s.pairMsg m ty f = f s.linkHeard := by
  rw [pairMsg, h, Bool.not_true, if_neg Bool.false_ne_true, if_neg (by simp [hty])]
  rfl

end

/-- Bytes that are no valid message are counted by every row. -/
theorem invalid_counts {mk : List Byte → Instr} (hmk : mk ∈ [Instr.hello, .health, .digest, .pairClaim, .handover, .katResult, .fail,
    .invalidPairingMessage]) (s : State) {m : List Byte} (h : pairValid m = false) : exec (mk m) s = .next (s.bump Reg.PAIR_MSG_ERR_CNT 1) := by
  have hrow : ∀ ty f, (Host.Outcome.next (s.pairMsg m ty f) : Host.Outcome State Fault Refusal) = .next (s.bump Reg.PAIR_MSG_ERR_CNT 1) :=
    fun ty f => by rw [pairMsg_counts h]
  simp only [List.mem_cons, List.not_mem_nil, or_false] at hmk
  rcases hmk with rfl | rfl | rfl | rfl | rfl | rfl | rfl | rfl
  · exact hrow 1 _
  · exact hrow 2 _
  · exact hrow 3 _
  · exact hrow 4 _
  · exact hrow 5 _
  · exact hrow 6 _
  · exact hrow 7 _
  · exact congrArg Host.Outcome.next (if_neg (by rw [h]; exact Bool.false_ne_true))

/-- A row leaves a valid message of another type alone. -/
theorem othersMessage {ty : Nat} {mk : List Byte → Instr} (hmk : (ty, mk) ∈ [(1, Instr.hello), (2, .health), (3, .digest), (4, .pairClaim),
    (5, .handover), (6, .katResult), (7, .fail)]) (s : State) {m : List Byte} (h : pairValid m = true) (hty : fieldOf m 0 1 ≠ ty) :
    exec (mk m) s = .next s := by
  have hrow : ∀ f, (Host.Outcome.next (s.pairMsg m ty f) : Host.Outcome State Fault Refusal) = .next s := fun f => by rw [pairMsg_other h hty]
  simp only [List.mem_cons, List.not_mem_nil, or_false, Prod.mk.injEq] at hmk
  rcases hmk with ⟨rfl, rfl⟩ | ⟨rfl, rfl⟩ | ⟨rfl, rfl⟩ | ⟨rfl, rfl⟩ | ⟨rfl, rfl⟩ | ⟨rfl, rfl⟩ | ⟨rfl, rfl⟩
  · exact hrow _
  · exact hrow _
  · exact hrow _
  · exact hrow _
  · exact hrow _
  · exact hrow _
  · exact hrow _

/-! ## HELLO (12 R427, R433, R434) -/

/-- What a HELLO of the partner shows. -/
def helloShown (s : State) (m : List Byte) : State :=
  ((s.wr Reg.PAIR_PARTNER_SERIAL (fieldOf m 8 8)).fbw Fld.PAIR_STATUS_PAIR_LINK_DOWN false).fbw Fld.PAIR_STATUS_LEVEL_DIFF
    (fieldOf m 5 1 != s.fd Fld.ATY_FAB_STATUS_NUMERICS_LEVEL)

theorem helloIn_eq {s : State} {m : List Byte} (hconf : s.fb Fld.PAIR_STATUS_CONFIGURED = true) (hid : fieldOf m 2 2 = s.fd Fld.PAIR_CFG_PAIR_ID)
    (hmod : fieldOf m 6 2 = s.fd Fld.PAIR_CFG_PARTNER_MOD) : s.helloIn m =
    (if fieldOf m 4 1 = (s.helloShown m).pairPos then (s.helloShown m).posConflict
      else (s.helloShown m).fbw Fld.PAIR_STATUS_POS_CONFLICT false).cmpAll := by
  have hlevel : ((s.wr Reg.PAIR_PARTNER_SERIAL (fieldOf m 8 8)).fbw Fld.PAIR_STATUS_PAIR_LINK_DOWN false).fd Fld.ATY_FAB_STATUS_NUMERICS_LEVEL =
      s.fd Fld.ATY_FAB_STATUS_NUMERICS_LEVEL := by
    rw [fd_fbw_ne _ _ _ _ (by decide), fd_wr_ne _ _ _ _ (by decide)]
  unfold helloIn helloShown
  rw [if_neg (by simp [hconf, hid, hmod]), ← hlevel]

/-- A HELLO changes registers of the pair. -/
theorem helloShown_frame (s : State) (m : List Byte) : Keeps [.regs] s (s.helloShown m) ∧
    (∀ r : Reg, r.addr ≠ Reg.PAIR_PARTNER_SERIAL.addr → r.addr ≠ Reg.PAIR_STATUS.addr → (s.helloShown m).rd r = s.rd r) ∧
    (s.helloShown m).pairPos = s.pairPos ∧ (s.helloShown m).fb Fld.PAIR_STATUS_POS_CONFLICT = s.fb Fld.PAIR_STATUS_POS_CONFLICT := by
  refine ⟨(keeps_wr s _ _).trans ((keeps_fbw _ _ _).trans (keeps_fbw _ _ _)), fun r hserial hstatus => ?_, ?_, ?_⟩
  · rw [helloShown, fbw, rd_fw_ne _ _ _ _ hstatus, fbw, rd_fw_ne _ _ _ _ hstatus, rd_wr_ne _ _ _ _ hserial]
  · rw [pairPos, helloShown, fd_fbw_apart _ Fld.PAIR_STATUS_LEVEL_DIFF Fld.PAIR_STATUS_POS _ rfl (by decide) (by decide) (by decide),
      fd_fbw_apart _ Fld.PAIR_STATUS_PAIR_LINK_DOWN Fld.PAIR_STATUS_POS _ rfl (by decide) (by decide) (by decide), fd_wr_ne _ _ _ _ (by decide),
      pairPos]
  · rw [helloShown, fb_fbw_apart _ Fld.PAIR_STATUS_LEVEL_DIFF Fld.PAIR_STATUS_POS_CONFLICT _ rfl (by decide) (by decide) (by decide),
      fb_fbw_apart _ Fld.PAIR_STATUS_PAIR_LINK_DOWN Fld.PAIR_STATUS_POS_CONFLICT _ rfl (by decide) (by decide) (by decide),
      fb_wr_ne _ _ _ _ (by decide)]

/-- What the module shows once the partner's HELLO has its own position apart. -/
theorem helloApart_shows (s : State) (m : List Byte) :
    let w := (s.helloShown m).fbw Fld.PAIR_STATUS_POS_CONFLICT false
    w.rd Reg.PAIR_PARTNER_SERIAL = fieldOf m 8 8 % 2 ^ 64 ∧ w.fb Fld.PAIR_STATUS_PAIR_LINK_DOWN = false ∧
      w.fb Fld.PAIR_STATUS_POS_CONFLICT = false ∧
      w.fb Fld.PAIR_STATUS_LEVEL_DIFF = (fieldOf m 5 1 != s.fd Fld.ATY_FAB_STATUS_NUMERICS_LEVEL) ∧ Keeps [.regs] s w := by
  intro w
  refine ⟨?_, ?_, fb_fbw_self _ _ _ (by decide) (by decide) (by decide), ?_, (helloShown_frame s m).1.trans (keeps_fbw _ _ _)⟩
  · rw [(regsKeep_fbw (s.helloShown m) Fld.PAIR_STATUS_POS_CONFLICT false).rd (by decide), helloShown,
      (regsKeep_fbw _ Fld.PAIR_STATUS_LEVEL_DIFF _).rd (by decide), (regsKeep_fbw _ Fld.PAIR_STATUS_PAIR_LINK_DOWN _).rd (by decide),
      rd_wr_self _ _ _ (by decide)]
    rfl
  · rw [fb_fbw_apart _ Fld.PAIR_STATUS_POS_CONFLICT Fld.PAIR_STATUS_PAIR_LINK_DOWN _ rfl (by decide) (by decide) (by decide), helloShown,
      fb_fbw_apart _ Fld.PAIR_STATUS_LEVEL_DIFF Fld.PAIR_STATUS_PAIR_LINK_DOWN _ rfl (by decide) (by decide) (by decide),
      fb_fbw_self _ _ _ (by decide) (by decide) (by decide)]
  · rw [fb_fbw_apart _ Fld.PAIR_STATUS_POS_CONFLICT Fld.PAIR_STATUS_LEVEL_DIFF _ rfl (by decide) (by decide) (by decide), helloShown,
      fb_fbw_self _ _ _ (by decide) (by decide) (by decide)]

/-- A service held in RESYNC. -/
def svcHeld (s : State) (n : Nat) : State := (s.updSvc n (fun x => { x with swap := none, give := none, stop := none })).roleTo n 1

/-- Equal positions noted. -/
def conflictNoted (s : State) : State := (s.fbw Fld.PAIR_STATUS_POS_CONFLICT true).troubleRule 7 433 1 89 0

theorem posConflict_eq {s : State} (h : s.fb Fld.PAIR_STATUS_POS_CONFLICT = false) :
    s.posConflict = s.conflictNoted.svcsOn.foldl svcHeld s.conflictNoted := by
  rw [posConflict, h, if_neg Bool.false_ne_true]
  rfl

theorem svcHeld_frame (s : State) (n : Nat) : Keeps [.regs, .pair] s (s.svcHeld n) ∧ RegsKeep [(Reg.PAIR_SVC_STATUS n).addr] s (s.svcHeld n) :=
  ⟨((keeps_updSvc s n _).mono (by simp)).trans (keeps_roleTo _ n 1),
    ((keeps_updSvc s n _).regsKeep (by decide) _).trans (regsKeep_roleTo _ n 1)⟩

theorem conflictNoted_frame (s : State) : Keeps [.regs, .log, .out, .hif] s s.conflictNoted ∧
    RegsKeep [Reg.PAIR_STATUS.addr, Reg.RAS_LOG_SEQ.addr] s s.conflictNoted ∧ s.conflictNoted.fb Fld.PAIR_STATUS_POS_CONFLICT = true := by
  unfold conflictNoted troubleRule
  refine ⟨((keeps_fbw s _ _).mono (by simp)).trans (keeps_trouble _ _ _ _ _ _), ?_, ?_⟩
  · exact ((regsKeep_fbw s Fld.PAIR_STATUS_POS_CONFLICT true).mono (by simp [Fld.PAIR_STATUS_POS_CONFLICT])).trans
      ((regsKeep_trouble _ _ _ _ _ _).mono (by simp))
  · rw [(regsKeep_trouble _ _ _ _ _ _).fb (by decide), fb_fbw_self _ _ _ (by decide) (by decide) (by decide)]

/-- Equal positions put every service into RESYNC. -/
theorem posConflict_shows {s : State} (h : s.fb Fld.PAIR_STATUS_POS_CONFLICT = false) :
    s.posConflict.fb Fld.PAIR_STATUS_POS_CONFLICT = true ∧ (∀ n, n < 64 → s.svcRole n ≠ 0 → s.posConflict.svcRole n = 1) ∧
      s.posConflict.mem = s.mem := by
  obtain ⟨hkeeps, hregs, hset⟩ := conflictNoted_frame s
  rw [posConflict_eq h]
  refine ⟨?_, fun n hn hrole => ?_, ?_⟩
  · refine List.foldlRecOn (motive := fun u : State => u.fb Fld.PAIR_STATUS_POS_CONFLICT = true) _ svcHeld hset fun u hu n _ => ?_
    rw [(svcHeld_frame u n).2.fb (pairReg_ne_status (show Reg.PAIR_STATUS.addr < 0xb00100 by decide) n), hu]
  · have hnoted : s.conflictNoted.svcRole n = s.svcRole n := hregs.fd (by
      simp only [Fld.PAIR_SVC_STATUS_ROLE, Reg.PAIR_SVC_STATUS, Reg.PAIR_STATUS, Reg.RAS_LOG_SEQ, List.mem_cons, List.not_mem_nil, or_false]
      omega)
    have hheld : ∀ u : State, (u.svcHeld n).svcRole n = 1 := fun u => svcRole_roleTo _ n (by decide)
    refine foldl_reaches (P := fun _ => True) (Q := fun u : State => u.svcRole n = 1) (fun _ _ _ => trivial) (fun u _ => hheld u)
      (fun u b hu => ?_) (mem_svcsOn.2 ⟨hn, by rw [hnoted]; exact hrole⟩) trivial
    by_cases hb : n = b
    · subst hb
      exact hheld u
    · exact (svcRole_ne (svcHeld_frame u b).2 hb).trans hu
  · exact ((Keeps.foldl (ps := [.regs, .pair]) _ fun u n _ => (svcHeld_frame u n).1) .mem (by decide)).trans (hkeeps .mem (by decide))

/-! ## HEALTH and FAIL (12 R436, R454) -/

theorem setPartner_frame (s : State) (v : Nat) : Keeps [.regs, .log, .out, .hif] s (s.setPartner v) ∧
    RegsKeep [Reg.PAIR_STATUS.addr, Reg.RAS_LOG_SEQ.addr] s (s.setPartner v) := by
  unfold setPartner troubleRule
  split
  · exact ⟨Keeps.refl _ s, RegsKeep.of_regs_eq rfl⟩
  · exact ⟨((keeps_fw s _ _).mono (by simp)).trans (keeps_trouble _ _ _ _ _ _),
      ((regsKeep_fw s Fld.PAIR_STATUS_PARTNER v).mono (by simp [Fld.PAIR_STATUS_PARTNER])).trans ((regsKeep_trouble _ _ _ _ _ _).mono (by simp))⟩

theorem partner_setPartner (s : State) {v : Nat} (h : v < 4) : (s.setPartner v).fd Fld.PAIR_STATUS_PARTNER = v := by
  unfold setPartner troubleRule
  split
  · assumption
  · rw [(regsKeep_trouble _ _ _ _ _ _).fd (by decide), fd_fw_self _ _ _ (by decide) (by decide)]
    exact Nat.mod_eq_of_lt h

/-- The other fields of PAIR_STATUS. -/
theorem fd_setPartner_apart (s : State) (v : Nat) {f : Fld} (hr : f.reg = Reg.PAIR_STATUS) (hsep : f.lo + f.w ≤ 27 ∨ 29 ≤ f.lo)
    (h : f.lo + f.w ≤ f.reg.width) : (s.setPartner v).fd f = s.fd f := by
  unfold setPartner troubleRule
  split
  · rfl
  · rw [(regsKeep_trouble _ _ _ _ _ _).fd (by rw [hr]; decide),
      fd_fw_apart s Fld.PAIR_STATUS_PARTNER f v hr hsep h (by rw [hr]; decide)]

/-- A register of a slot's form below which a field is written: SSTATE stays. -/
theorem strState_fw_low (s : State) {f : Fld} (v k : Nat) (hw : f.reg.width = 32) (hrst : f.reg.rst = 0) (h : f.lo + f.w ≤ 30) :
    (s.fw f v).strState k = s.strState k := by
  by_cases hk : (Reg.RIM_STR_STATUS k).addr = f.reg.addr
  · have hreg : Reg.RIM_STR_STATUS k = f.reg := by
      obtain ⟨⟨a, width, rst⟩, lo, w⟩ := f
      simp only [Reg.RIM_STR_STATUS] at hk hw hrst ⊢
      rw [hk, hw, hrst]
    exact fd_fw_apart s f (Fld.RIM_STR_STATUS_SSTATE k) v hreg (.inr h) (show 30 + 2 ≤ 32 by decide) (show 32 ≤ 64 by decide)
  · exact fd_fw_ne s f (Fld.RIM_STR_STATUS_SSTATE k) v hk

theorem slotsKept_of_eq {s t : State} (h : ∀ k, t.strState k = s.strState k) : SlotsKept s t := fun k => by
  rw [h k]
  exact ⟨Iff.rfl, Iff.rfl⟩

theorem strState_trouble (s : State) (code sev island addr data k : Nat) : (s.trouble code sev island addr data).strState k = s.strState k :=
  (regsKeep_trouble s code sev island addr data).fd (by
    simp only [Fld.RIM_STR_STATUS_SSTATE, Reg.RIM_STR_STATUS, Reg.RAS_LOG_SEQ, List.mem_singleton]
    omega)

/-- What a change of PAIR_STATUS and of the log leaves for a takeover. -/
theorem takeSame_pairStatus {s t : State} (n : Nat) (hpair : t.pair.conds = s.pair.conds ∧ t.pair.svcs = s.pair.svcs) (hrim : t.rim = s.rim)
    (hregs : RegsKeep [Reg.PAIR_STATUS.addr, Reg.RAS_LOG_SEQ.addr] s t) (hslots : ∀ k, t.strState k = s.strState k)
    (hconflict : t.fb Fld.PAIR_STATUS_POS_CONFLICT = s.fb Fld.PAIR_STATUS_POS_CONFLICT) (hpos : t.pairPos = s.pairPos) : TakeSame n s t := by
  have hsvc : ∀ r : Reg, 0xb00100 ≤ r.addr → t.rd r = s.rd r := fun r hr => hregs.rd (by
    simp only [Reg.PAIR_STATUS, Reg.RAS_LOG_SEQ, List.mem_cons, List.not_mem_nil, or_false]
    omega)
  have hstatus := hsvc (Reg.PAIR_SVC_STATUS n) (by simp only [Reg.PAIR_SVC_STATUS]; omega)
  exact {
    role := fd_of_rd hstatus
    step := congrArg (· != 0) (fd_of_rd (f := Fld.PAIR_SVC_STATUS_TYPE n) hstatus)
    ident := fd_of_rd hstatus
    failed := congrArg PairSvc.failed (svc_congr hpair.2 n)
    claim := hsvc _ (by simp only [Reg.PAIR_SVC_CLAIM]; omega)
    peerClaim := hsvc _ (by simp only [Reg.PAIR_SVC_PEER_CLAIM]; omega)
    conds := hpair.1
    lane := hregs.fd (by decide)
    streams := congrArg Rim.streams hrim
    slots := slotsKept_of_eq hslots
    conflict := hconflict
    pos := hpos }

theorem strState_setPartner (s : State) (v k : Nat) : (s.setPartner v).strState k = s.strState k := by
  unfold setPartner troubleRule
  split
  · rfl
  · rw [strState_trouble, strState_fw_low s v k rfl rfl (by decide)]

theorem takeSame_setPartner (n : Nat) (s : State) (v : Nat) : TakeSame n s (s.setPartner v) := by
  obtain ⟨hkeeps, hregs⟩ := setPartner_frame s v
  exact takeSame_pairStatus n ⟨congrArg Pair.conds (hkeeps .pair (by decide)), congrArg Pair.svcs (hkeeps .pair (by decide))⟩ (hkeeps .rim (by decide))
    hregs (strState_setPartner s v) (congrArg (· != 0) (fd_setPartner_apart s v (f := Fld.PAIR_STATUS_POS_CONFLICT) rfl (by decide) (by decide)))
    (fd_setPartner_apart s v (f := Fld.PAIR_STATUS_POS) rfl (by decide) (by decide))

theorem takeSame_linkHeard (n : Nat) (s : State) : TakeSame n s s.linkHeard := by
  have h := keeps_linkHeard s
  exact takeSame_pairStatus n ⟨rfl, rfl⟩ rfl (h.regsKeep (by decide) _) (fun k => h.fd (by decide) _) (h.fb (by decide) _) (h.fd (by decide) _)

/-- A run of takeovers changes the services and the log. -/
theorem takeovers_frame (s : State) (l : List Nat) : Keeps [.regs, .pair, .out, .log, .hif] s (l.foldl takeover s) ∧
    (∀ r : Reg, r.addr ≠ Reg.RAS_LOG_SEQ.addr → r.addr < 0xb00100 → (l.foldl takeover s).rd r = s.rd r) :=
  ⟨Keeps.foldl s fun u n _ => (svcChange_takeover u n).keeps, fun r hlog hr =>
    List.foldlRecOn (motive := fun u : State => u.rd r = s.rd r) l takeover rfl fun u hu n _ =>
      ((svcChange_takeover u n).regs r hlog (.inl (by omega))).trans hu⟩

/-- A service that may be taken over is taken over by a run of takeovers that names it. -/
theorem takeovers_take {s : State} {l : List Nat} {n : Nat} (hn : n ∈ l) (hmay : s.mayTake n = true) (hepoch : s.nextEpoch n ≤ 0x7FFFFFFF) :
    (l.foldl takeover s).svcRole n = 3 ∧ (l.foldl takeover s).claim n = s.nextEpoch n * 2 + s.pairPos := by
  refine foldl_once (P := fun u => TakeSame n s u) (Q := fun u : State => u.svcRole n = 3 ∧ u.claim n = s.nextEpoch n * 2 + s.pairPos)
    (fun u b hb hu => hu.trans (svcChange_takeSame (svcChange_takeover u b) hb.symm)) (fun u hu => ?_) (fun u b hu => ?_) hn (TakeSame.refl n s)
  · have hnext : u.nextEpoch n = s.nextEpoch n := by rw [nextEpoch, hu.claim, hu.peerClaim, nextEpoch]
    rw [← hnext, ← hu.pos]
    exact takeover_takes (by rw [mayTake_takeSame hu, hmay]) (by rw [hnext]; exact hepoch)
  · obtain ⟨hrole, hclaim⟩ := hu
    by_cases hb : n = b
    · subst hb
      obtain ⟨hrole', hclaim'⟩ := takeover_active hrole
      exact ⟨hrole', hclaim'.trans hclaim⟩
    · have hsame := svcChange_takeSame (svcChange_takeover u b) hb
      exact ⟨hsame.role.trans hrole, hsame.claim.trans hclaim⟩

/-! ## DIGEST (12 R446 to R448) -/

/-- The digests of an index taken off both lists. -/
def digestsTaken (s : State) (n : Nat) : State := s.updSvc n (fun x => { x with own := [], peer := [] })

theorem keeps_digestsTaken (s : State) (n : Nat) : Keeps [.pair] s (s.digestsTaken n) := keeps_updSvc s n _

/-- Two digests of one index compared. -/
theorem compareAll_pair {s : State} {n k d e : Nat} (hown : (s.svc n).own = [(k, d, false)]) (hpeer : (s.svc n).peer = [(k, e, false)])
    (hmay : (s.digestsTaken n).mayCompare n k = true) : s.compareAll n =
    if d = e then (s.digestsTaken n).digestMatch n k else (s.digestsTaken n).digestDiffer n k := by
  unfold compareAll
  extract_lets x both gone s1
  have hboth : both = [((k, d, false), (k, e, false))] := by simp [both, x, hown, hpeer]
  have hgone : s1 = s.digestsTaken n := congrArg (s.setSvc n) (by simp [gone, hboth, hown, hpeer])
  rw [hgone, hboth, List.foldl_cons, List.foldl_nil]
  exact if_neg (by simp [hmay])

/-- What a match keeps of a result. -/
def matchKept (k : Nat) (x : PairSvc) : PairSvc :=
  { x with compared := x.compared ++ [k], good := (Cells.find k x.data).or x.good, data := x.data.filter (fun e => e.1 != k) }

/-- The runs of a service at a match. -/
def runsMatched (s : State) (n : Nat) : State :=
  (s.fw (Fld.PAIR_SVC_STATUS_MATCH_RUN n) (min 16 (s.fd (Fld.PAIR_SVC_STATUS_MATCH_RUN n) + 1))).fw (Fld.PAIR_SVC_STATUS_MISMATCH_RUN n) 0

theorem runsMatched_shows (s : State) (n : Nat) : Keeps [.regs] s (s.runsMatched n) ∧ (s.runsMatched n).svcCmp n = s.svcCmp n ∧
    (s.runsMatched n).svcRole n = s.svcRole n ∧
    (s.runsMatched n).fd (Fld.PAIR_SVC_STATUS_MATCH_RUN n) = min 16 (s.fd (Fld.PAIR_SVC_STATUS_MATCH_RUN n) + 1) := by
  refine ⟨(keeps_fw s _ _).trans (keeps_fw _ _ _), ?_, ?_, ?_⟩
  · exact (fd_svc_apart _ n 0 (.inr (by decide)) (by decide)).trans (fd_svc_apart s n _ (.inr (by decide)) (by decide))
  · exact (fd_svc_apart _ n 0 (.inr (by decide)) (by decide)).trans (fd_svc_apart s n _ (.inr (by decide)) (by decide))
  · exact (fd_svc_apart _ n 0 (.inr (by decide)) (by decide)).trans (fd_svc_self s n (by decide) (Nat.lt_of_le_of_lt (min_le_left _ _) (by decide)))

/-- A match of an ACTIVE service that is not in MISMATCH. -/
theorem digestMatch_eq {s : State} {n : Nat} (hcmp : s.svcCmp n ≠ 2) (hrole : s.svcRole n ≠ 1) (k : Nat) :
    s.digestMatch n k = (s.runsMatched n).updSvc n (matchKept k) := by
  obtain ⟨-, hcmp', hrole', -⟩ := runsMatched_shows s n
  have hkept : ((s.runsMatched n).updSvc n (matchKept k)).svcRole n = s.svcRole n :=
    ((keeps_updSvc _ n _).fd (by decide) _).trans hrole'
  unfold digestMatch
  extract_lets s1 s2 s3 s4
  have h3 : s3 = s.runsMatched n := if_neg (by rw [← hcmp'] at hcmp; exact hcmp)
  have h4 : s4 = (s.runsMatched n).updSvc n (matchKept k) := congrArg (fun u : State => u.updSvc n (matchKept k)) h3
  rw [h4, if_neg]
  simp [hkept, hrole]

/-- A mismatch counted. -/
def mismatchCounted (s : State) (n : Nat) : State := (s.bump (Reg.PAIR_SVC_MISMATCH n) 1).fw (Fld.PAIR_SVC_STATUS_MATCH_RUN n) 0

theorem mismatchCounted_shows (s : State) (n : Nat) : Keeps [.regs] s (s.mismatchCounted n) ∧
    (s.mismatchCounted n).svcStep n = s.svcStep n ∧ (s.mismatchCounted n).svcCmp n = s.svcCmp n ∧
    (s.mismatchCounted n).svcRole n = s.svcRole n ∧ (s.mismatchCounted n).fd (Fld.PAIR_SVC_STATUS_MATCH_RUN n) = 0 ∧
    (s.mismatchCounted n).rd (Reg.PAIR_SVC_MISMATCH n) = satAdd (2 ^ 32 - 1) (s.rd (Reg.PAIR_SVC_MISMATCH n)) 1 := by
  have hne : (Reg.PAIR_SVC_STATUS n).addr ≠ (Reg.PAIR_SVC_MISMATCH n).addr := by simp [Reg.PAIR_SVC_STATUS, Reg.PAIR_SVC_MISMATCH]
  have hbump : ∀ lo w, (s.bump (Reg.PAIR_SVC_MISMATCH n) 1).fd ⟨Reg.PAIR_SVC_STATUS n, lo, w⟩ = s.fd ⟨Reg.PAIR_SVC_STATUS n, lo, w⟩ :=
    fun lo w => fd_wr_ne s _ _ _ hne
  refine ⟨(keeps_wr s _ _).trans (keeps_fw _ _ _), ?_, ?_, ?_, ?_, ?_⟩
  · exact congrArg (· != 0) ((fd_svc_apart (lo' := 26) (w' := 1) _ n 0 (.inr (by decide)) (by decide)).trans (hbump _ _))
  · exact (fd_svc_apart _ n 0 (.inr (by decide)) (by decide)).trans (hbump _ _)
  · exact (fd_svc_apart _ n 0 (.inr (by decide)) (by decide)).trans (hbump _ _)
  · exact fd_svc_self _ n (by decide) (by decide)
  · rw [mismatchCounted, rd_fw_ne _ _ _ _ hne.symm, rd_bump _ _ _ (show 32 ≤ 64 by decide)]
    rfl

/-- A mismatch of a compared service, its test asked for. -/
def mismatchWaits (s : State) (n : Nat) : State :=
  (s.fw (Fld.PAIR_SVC_STATUS_CMP n) 2).updSvc n
    (fun x => { x with waiting := true, since := (s.fw (Fld.PAIR_SVC_STATUS_CMP n) 2).now, test := none, verdict := none, peerVerdict := none })

theorem mismatchWaits_shows (s : State) (n : Nat) : Keeps [.regs, .pair] s (s.mismatchWaits n) ∧ (s.mismatchWaits n).svcCmp n = 2 ∧
    (s.mismatchWaits n).fd (Fld.PAIR_SVC_STATUS_MATCH_RUN n) = s.fd (Fld.PAIR_SVC_STATUS_MATCH_RUN n) ∧
    (s.mismatchWaits n).rd (Reg.PAIR_SVC_MISMATCH n) = s.rd (Reg.PAIR_SVC_MISMATCH n) ∧ ((s.mismatchWaits n).svc n).waiting = true ∧
    ((s.mismatchWaits n).svc n).own = (s.svc n).own ∧ ((s.mismatchWaits n).svc n).peer = (s.svc n).peer := by
  unfold mismatchWaits
  obtain ⟨u, hu⟩ : ∃ u, u = s.fw (Fld.PAIR_SVC_STATUS_CMP n) 2 := ⟨_, rfl⟩
  have hkeeps : Keeps [.regs] s u := hu ▸ keeps_fw s _ _
  have hcmp : u.svcCmp n = 2 := hu ▸ fd_svc_self s n (by decide) (by decide)
  have hrun : u.fd (Fld.PAIR_SVC_STATUS_MATCH_RUN n) = s.fd (Fld.PAIR_SVC_STATUS_MATCH_RUN n) :=
    hu ▸ fd_svc_apart s n 2 (.inl (by decide)) (by decide)
  have hcount : u.rd (Reg.PAIR_SVC_MISMATCH n) = s.rd (Reg.PAIR_SVC_MISMATCH n) :=
    hu ▸ rd_fw_ne s _ _ 2 (by simp [Reg.PAIR_SVC_MISMATCH, Fld.PAIR_SVC_STATUS_CMP, Reg.PAIR_SVC_STATUS])
  have hsvc : u.svc n = s.svc n := svc_congr (congrArg Pair.svcs (hkeeps .pair (by decide))) n
  rw [← hu]
  have hset := keeps_updSvc u n (fun x => { x with waiting := true, since := u.now, test := none, verdict := none, peerVerdict := none })
  exact ⟨(hkeeps.mono (by simp)).trans (hset.mono (by simp)), (hset.fd (by decide) _).trans hcmp, (hset.fd (by decide) _).trans hrun,
    (hset.rd (by decide) _).trans hcount, by rw [svc_updSvc_self], by rw [svc_updSvc_self, hsvc], by rw [svc_updSvc_self, hsvc]⟩

theorem mismatchEnter_frame (s : State) (n k : Nat) : Keeps [.rim] (s.mismatchWaits n) (s.mismatchEnter n k) := by
  unfold mismatchEnter
  extract_lets s1 s2
  have h2 : s2 = s.mismatchWaits n := rfl
  rw [h2]
  generalize s.mismatchWaits n = u
  split
  · exact Keeps.refl _ u
  · exact keeps_askKat u _ _

/-- The index of a mismatch compared. -/
def indexCompared (s : State) (n k : Nat) : State := s.updSvc n (fun x => { x with compared := x.compared ++ [k] })

theorem digestDiffer_eq {s : State} {n : Nat} (hstep : s.svcStep n = false) (hcmp : s.svcCmp n = 0) (hrole : s.svcRole n ≠ 1)
    (hpeer : (s.svc n).peerRole ≠ 1) (k : Nat) : s.digestDiffer n k = ((s.mismatchCounted n).indexCompared n k).mismatchEnter n k := by
  obtain ⟨hkeeps, hstep', hcmp', hrole', -, -⟩ := mismatchCounted_shows s n
  have hsvc : (s.mismatchCounted n).svc n = s.svc n := svc_congr (congrArg Pair.svcs (hkeeps .pair (by decide))) n
  unfold digestDiffer
  extract_lets s1
  have h1 : s1 = s.mismatchCounted n := rfl
  rw [h1, hstep', hstep, if_neg Bool.false_ne_true, hcmp', hcmp, if_neg (by decide), if_neg (by decide), hrole', hsvc,
    if_neg (by simp [hrole, hpeer])]
  rfl

section
variable {s : State} {m : List Byte} {n : Nat}

/-- A digest of an index whose own digest is present. -/
theorem exec_digest_pair (hvalid : pairValid m = true) (hty : fieldOf m 0 1 = 3) (hn : fieldOf m 1 1 = n) (hon : s.svcOn n = true)
    (hstep : s.svcStep n = false) (hcmp : s.svcCmp n = 0) {k d : Nat} (hown : (s.svc n).own = [(k, d, false)]) (hpeer : (s.svc n).peer = [])
    (hk : fieldOf m 8 8 = k) (hmiss : bit (fieldOf m 2 1) 0 = false) :
    ∃ t, Keeps [.pair] s t ∧ t.svc n = { s.svc n with own := [], peer := [] } ∧
      exec (.digest m) s = .next (if d = fieldOf m 16 8 then t.digestMatch n k else t.digestDiffer n k) := by
  obtain ⟨w, hw⟩ : ∃ w, w = s.linkHeard.updSvc n (fun x => { x with peer := x.peer ++ [(fieldOf m 8 8, fieldOf m 16 8, bit (fieldOf m 2 1) 0)] }) :=
    ⟨_, rfl⟩
  have hkeeps : Keeps [.pair] s w := hw ▸ (keeps_linkHeard s).trans (keeps_updSvc _ n _)
  have hsvc : w.svc n = { s.svc n with peer := [(k, fieldOf m 16 8, false)] } := by
    rw [hw, svc_updSvc_self, svc_linkHeard, hpeer, hk, hmiss]
    rfl
  have hkeeps' := hkeeps.trans (keeps_digestsTaken w n)
  have hmay : (w.digestsTaken n).mayCompare n k = true := by
    rw [mayCompare, svcStep, hkeeps'.fb (by decide), svcCmp, hkeeps'.fd (by decide), ← svcStep, ← svcCmp, hstep, hcmp]
    rfl
  refine ⟨w.digestsTaken n, hkeeps', ?_, ?_⟩
  · rw [digestsTaken, svc_updSvc_self, hsvc]
  · have hexec : exec (.digest m) s = .next (s.pairMsg m 3 (fun s => if s.svcOn (fieldOf m 1 1) then
        (s.updSvc (fieldOf m 1 1) (fun x => { x with peer := x.peer ++ [(fieldOf m 8 8, fieldOf m 16 8, bit (fieldOf m 2 1) 0)] })).compareAll
          (fieldOf m 1 1) else s) ) := rfl
    rw [hexec, pairMsg_acts hvalid hty, hn, svcOn_keeps (keeps_linkHeard s) (by decide), hon, if_pos rfl, ← hw,
      compareAll_pair (by rw [hsvc]; exact hown) (by rw [hsvc]) hmay]

theorem digest_matches (hvalid : pairValid m = true) (hty : fieldOf m 0 1 = 3) (hn : fieldOf m 1 1 = n) (hon : s.svcOn n = true)
    (hstep : s.svcStep n = false) (hrole : s.svcRole n = 3) (hcmp : s.svcCmp n = 0) {k d : Nat} (hown : (s.svc n).own = [(k, d, false)])
    (hpeer : (s.svc n).peer = []) (hk : fieldOf m 8 8 = k) (hmiss : bit (fieldOf m 2 1) 0 = false) (hd : fieldOf m 16 8 = d) :
    Goes (exec (.digest m) s) (fun u => u.svcCmp n = 0 ∧
      u.fd (Fld.PAIR_SVC_STATUS_MATCH_RUN n) = min 16 (s.fd (Fld.PAIR_SVC_STATUS_MATCH_RUN n) + 1) ∧ (u.svc n).compared = (s.svc n).compared ++ [k] ∧
      (u.svc n).own = [] ∧ (u.svc n).peer = [] ∧ u.mem = s.mem) := by
  obtain ⟨t, hkeeps, hsvc, hexec⟩ := exec_digest_pair hvalid hty hn hon hstep hcmp hown hpeer hk hmiss
  have htcmp : t.svcCmp n = s.svcCmp n := hkeeps.fd (by decide) _
  have htrole : t.svcRole n = s.svcRole n := hkeeps.fd (by decide) _
  obtain ⟨hregs, hcmp', -, hrun⟩ := runsMatched_shows t n
  rw [hexec, if_pos hd.symm, digestMatch_eq (by omega) (by omega)]
  have hkept := keeps_updSvc (t.runsMatched n) n (matchKept k)
  have hrec : ((t.runsMatched n).updSvc n (matchKept k)).svc n = matchKept k { s.svc n with own := [], peer := [] } := by
    rw [svc_updSvc_self, svc_congr (congrArg Pair.svcs (hregs .pair (by decide))) n, hsvc]
  refine ⟨_, rfl, ?_, ?_, by rw [hrec]; rfl, by rw [hrec]; rfl, by rw [hrec]; rfl,
    (hkept .mem (by decide)).trans ((hregs .mem (by decide)).trans (hkeeps .mem (by decide)))⟩
  · exact (hkept.fd (by decide) _).trans (hcmp'.trans (htcmp.trans hcmp))
  · rw [hkept.fd (by decide), hrun, hkeeps.fd (by decide)]

theorem digest_differs (hvalid : pairValid m = true) (hty : fieldOf m 0 1 = 3) (hn : fieldOf m 1 1 = n) (hon : s.svcOn n = true)
    (hstep : s.svcStep n = false) (hrole : s.svcRole n = 3) (hpr : (s.svc n).peerRole = 2) (hcmp : s.svcCmp n = 0) {k d : Nat}
    (hown : (s.svc n).own = [(k, d, false)]) (hpeer : (s.svc n).peer = []) (hk : fieldOf m 8 8 = k) (hmiss : bit (fieldOf m 2 1) 0 = false)
    (hd : fieldOf m 16 8 ≠ d) :
    Goes (exec (.digest m) s) (fun u => u.svcCmp n = 2 ∧ u.fd (Fld.PAIR_SVC_STATUS_MATCH_RUN n) = 0 ∧
      u.rd (Reg.PAIR_SVC_MISMATCH n) = satAdd (2 ^ 32 - 1) (s.rd (Reg.PAIR_SVC_MISMATCH n)) 1 ∧ (u.svc n).waiting = true ∧
      (u.svc n).own = [] ∧ (u.svc n).peer = [] ∧ u.mem = s.mem) := by
  obtain ⟨t, hkeeps, hsvc, hexec⟩ := exec_digest_pair hvalid hty hn hon hstep hcmp hown hpeer hk hmiss
  have htstep : t.svcStep n = false := (hkeeps.fb (by decide) _).trans hstep
  have htcmp : t.svcCmp n = 0 := (hkeeps.fd (by decide) _).trans hcmp
  have htrole : t.svcRole n = 3 := (hkeeps.fd (by decide) _).trans hrole
  obtain ⟨hregs, -, -, -, hrun, hcount⟩ := mismatchCounted_shows t n
  rw [hexec, if_neg (Ne.symm hd), digestDiffer_eq htstep htcmp (by omega) (by rw [hsvc, hpr]; decide)]
  obtain ⟨v, hv⟩ : ∃ v, v = (t.mismatchCounted n).indexCompared n k := ⟨_, rfl⟩
  have hkv : Keeps [.pair] (t.mismatchCounted n) v := hv ▸ keeps_updSvc _ n _
  have hsv : v.svc n = { s.svc n with own := [], peer := [], compared := (s.svc n).compared ++ [k] } := by
    rw [hv, indexCompared, svc_updSvc_self, svc_congr (congrArg Pair.svcs (hregs .pair (by decide))) n, hsvc]
  rw [← hv]
  obtain ⟨hkw, hwcmp, hwrun, hwcount, hwait, hwown, hwpeer⟩ := mismatchWaits_shows v n
  have hrim := mismatchEnter_frame v n k
  have hlast : (v.mismatchEnter n k).svc n = (v.mismatchWaits n).svc n := svc_congr (congrArg Pair.svcs (hrim .pair (by decide))) n
  refine ⟨_, rfl, ?_, ?_, ?_, by rw [hlast, hwait], by rw [hlast, hwown, hsv], by rw [hlast, hwpeer, hsv], ?_⟩
  · exact (hrim.fd (by decide) _).trans hwcmp
  · exact (hrim.fd (by decide) _).trans (hwrun.trans ((hkv.fd (by decide) _).trans hrun))
  · exact (hrim.rd (by decide) _).trans (hwcount.trans ((hkv.rd (by decide) _).trans (hcount.trans (by rw [hkeeps.rd (by decide)]))))
  · exact (hrim .mem (by decide)).trans ((hkw .mem (by decide)).trans
      ((hkv .mem (by decide)).trans ((hregs .mem (by decide)).trans (hkeeps .mem (by decide)))))

/-! ## CLAIM (12 R439, R443) -/

/-- The partner's claim written. -/
def peerClaimed (s : State) (n c : Nat) : State := s.wr (Reg.PAIR_SVC_PEER_CLAIM n) c

theorem fd_peerClaimed (s : State) (n c lo w : Nat) : (s.peerClaimed n c).fd ⟨Reg.PAIR_SVC_STATUS n, lo, w⟩ = s.fd ⟨Reg.PAIR_SVC_STATUS n, lo, w⟩ :=
  fd_wr_ne s _ _ _ (by simp [Reg.PAIR_SVC_STATUS, Reg.PAIR_SVC_PEER_CLAIM])

/-- The partner taken as ACTIVE. -/
def partnerActive (s : State) (n : Nat) : State := s.updSvc n (fun x => { x with peerRole := 3 })

/-- An ACTIVE service that learns of a higher claim stops. -/
def stopSet (s : State) (n eff : Nat) : State := s.updSvc n (fun x => { x with stop := some (s.now + 200, eff) })

theorem learn_eq {c : Nat} (hc : s.peerClaim n < c) (hrole : s.svcRole n = 3) (hstep : s.svcStep n = false) (eff : Nat) : s.learn n c eff =
    if c ≤ s.claim n then s.peerClaimed n c else ((s.peerClaimed n c).partnerActive n).stopSet n eff := by
  have hclaim : (s.peerClaimed n c).claim n = s.claim n := rd_wr_ne s _ _ c (by simp [Reg.PAIR_SVC_CLAIM, Reg.PAIR_SVC_PEER_CLAIM])
  have hrole' : (s.peerClaimed n c).svcRole n = 3 := (fd_peerClaimed s n c _ _).trans hrole
  have hstep' : ((s.peerClaimed n c).partnerActive n).svcStep n = false :=
    ((keeps_updSvc _ n _).fb (by decide) _).trans ((congrArg (· != 0) (fd_peerClaimed s n c 26 1)).trans hstep)
  unfold learn
  rw [if_neg (by simp [hrole]; omega)]
  extract_lets s1 was s2
  have h1 : s1 = s.peerClaimed n c := rfl
  have h2 : s2 = (s.peerClaimed n c).partnerActive n := rfl
  have hwas : was = 3 := hrole'
  rw [h1, hclaim, h2, hwas, hstep', if_neg (by decide : ¬(3 != 3) = true), if_neg Bool.false_ne_true]
  rfl

theorem peerClaim_peerClaimed (s : State) (n : Nat) {c : Nat} (h : c < 2 ^ 32) : (s.peerClaimed n c).peerClaim n = c :=
  (rd_wr_self s (Reg.PAIR_SVC_PEER_CLAIM n) c (show 32 ≤ 64 by decide)).trans (Nat.mod_eq_of_lt h)

theorem exec_pairClaim (hvalid : pairValid m = true) (hty : fieldOf m 0 1 = 4) (hn : fieldOf m 1 1 = n) (hon : s.svcOn n = true)
    (hswap : bit (fieldOf m 2 1) 0 = false) : exec (.pairClaim m) s = .next (s.linkHeard.learn n (fieldOf m 4 4) 0) := by
  have hexec : exec (.pairClaim m) s = .next (s.pairMsg m 4 (fun s => s.pairClaimIn (fieldOf m 1 1) (fieldOf m 4 4) (bit (fieldOf m 2 1) 0)
    (fieldOf m 8 8))) := rfl
  rw [hexec, pairMsg_acts hvalid hty, hn, hswap, pairClaimIn, svcOn_keeps (keeps_linkHeard s) (by decide), hon]
  rfl

/-! ## HANDOVER and KAT_RESULT (12 R449, R460) -/

theorem exec_handover (hvalid : pairValid m = true) (hty : fieldOf m 0 1 = 5) (hn : fieldOf m 1 1 = n) (hon : s.svcOn n = true)
    (hswap : (s.svc n).swap = some (fieldOf m 8 8, none)) :
    exec (.handover m) s = .next (s.linkHeard.updSvc n (fun x => { x with swap := some (fieldOf m 8 8, some s.linkHeard.now) })) := by
  have hexec : exec (.handover m) s = .next (s.pairMsg m 5 (fun s => s.handoverIn (fieldOf m 1 1) (fieldOf m 8 8))) := rfl
  rw [hexec, pairMsg_acts hvalid hty, hn, handoverIn, svcOn_keeps (keeps_linkHeard s) (by decide), hon, svc_linkHeard, hswap]
  exact congrArg Host.Outcome.next (if_pos rfl)

/-- A wait for verdicts ended by two that pass. -/
def waitPassed (s : State) (n : Nat) : State :=
  (s.updSvc n (fun x => { x with waiting := false, resume := x.test.getD 0 + 1 })).fw (Fld.PAIR_SVC_STATUS_MISMATCH_RUN n) 0

theorem judge_passed (hwait : (s.svc n).waiting = true) (hown : (s.svc n).verdict = some true) (hpeer : (s.svc n).peerVerdict = some true) :
    s.judge n = s.waitPassed n := by
  rw [judge, waitPassed, hwait, hown, hpeer]

theorem exec_katResult (hvalid : pairValid m = true) (hty : fieldOf m 0 1 = 6) (hn : fieldOf m 1 1 = n) (hon : s.svcOn n = true)
    (hwait : (s.svc n).waiting = true) (hown : (s.svc n).verdict = some true) (hpass : bit (fieldOf m 2 1) 0 = true) :
    exec (.katResult m) s = .next ((s.linkHeard.updSvc n (fun x => { x with peerVerdict := some true })).waitPassed n) := by
  have hexec : exec (.katResult m) s = .next (s.pairMsg m 6 (fun s => s.katIn (fieldOf m 1 1) (bit (fieldOf m 2 1) 0))) := rfl
  have hjudge := judge_passed (s := s.linkHeard.updSvc n (fun x => { x with peerVerdict := some true })) (n := n)
    (by rw [svc_updSvc_self]; exact hwait) (by rw [svc_updSvc_self]; exact hown) (by rw [svc_updSvc_self])
  rw [hexec, pairMsg_acts hvalid hty, hn, katIn, svcOn_keeps (keeps_linkHeard s) (by decide), hon, svc_linkHeard, hwait, hpass,
    Bool.and_self, if_pos rfl, hjudge]

end

/-! ## The messages' outcomes -/

section
variable {s : State} {m : List Byte}

theorem hello_apart (hvalid : pairValid m = true) (hty : fieldOf m 0 1 = 1) (hconf : s.fb Fld.PAIR_STATUS_CONFIGURED = true)
    (hid : fieldOf m 2 2 = s.fd Fld.PAIR_CFG_PAIR_ID) (hmod : fieldOf m 6 2 = s.fd Fld.PAIR_CFG_PARTNER_MOD) :
    exec (.hello m) s = .next (if fieldOf m 4 1 = s.pairPos then (s.linkHeard.helloShown m).posConflict
      else (s.linkHeard.helloShown m).fbw Fld.PAIR_STATUS_POS_CONFLICT false).cmpAll := by
  have hexec : exec (.hello m) s = .next (s.pairMsg m 1 (·.helloIn m)) := rfl
  have hkeeps := keeps_linkHeard s
  rw [hexec, pairMsg_acts hvalid hty, helloIn_eq ((hkeeps.fb (by decide) _).trans hconf) (hid.trans (hkeeps.fd (by decide) _).symm)
    (hmod.trans (hkeeps.fd (by decide) _).symm), (helloShown_frame s.linkHeard m).2.2.1]
  rfl

/-- A HELLO at the own position. -/
theorem hello_conflict (hpos : s.fb Fld.PAIR_STATUS_POS_CONFLICT = false) :
    (s.linkHeard.helloShown m).posConflict.cmpAll.fb Fld.PAIR_STATUS_POS_CONFLICT = true ∧
      (∀ n, n < 64 → s.svcRole n ≠ 0 → (s.linkHeard.helloShown m).posConflict.cmpAll.svcRole n = 1) ∧
      (s.linkHeard.helloShown m).posConflict.cmpAll.mem = s.mem := by
  obtain ⟨hkeeps, hregs, -, hnone⟩ := helloShown_frame s.linkHeard m
  obtain ⟨hset, hheld, hmem⟩ := posConflict_shows (s := s.linkHeard.helloShown m)
    (hnone.trans (((keeps_linkHeard s).fb (by decide) _).trans hpos))
  have hrole : ∀ n, (s.linkHeard.helloShown m).svcRole n = s.svcRole n := fun n => by
    have hstatus : (s.linkHeard.helloShown m).rd (Reg.PAIR_SVC_STATUS n) = s.linkHeard.rd (Reg.PAIR_SVC_STATUS n) := hregs _
      (by simp only [Reg.PAIR_SVC_STATUS, Reg.PAIR_PARTNER_SERIAL]; omega) (by simp only [Reg.PAIR_SVC_STATUS, Reg.PAIR_STATUS]; omega)
    exact (fd_of_rd (f := Fld.PAIR_SVC_STATUS_ROLE n) hstatus).trans ((keeps_linkHeard s).fd (by decide) _)
  refine ⟨?_, fun n hn hr => ?_, ?_⟩
  · exact (congrArg (· != 0) (fd_of_rd (f := Fld.PAIR_STATUS_POS_CONFLICT) (rd_cmpAll _ (r := Reg.PAIR_STATUS) (by decide)))).trans hset
  · exact (svcRole_cmpAll _ n).trans (hheld n hn (by rw [hrole]; exact hr))
  · exact (keeps_cmpAll _ .mem (by decide)).trans (hmem.trans (hkeeps .mem (by decide)))

theorem health_shows (hvalid : pairValid m = true) (hty : fieldOf m 0 1 = 2) : Goes (exec (.health m) s) (fun u =>
    u.fd Fld.PAIR_STATUS_PARTNER = (if bit (fieldOf m 8 1) 0 then 1 else 2) ∧ u.pair = { s.pair with lastLink := s.now } ∧ u.mem = s.mem) := by
  obtain ⟨hkeeps, -⟩ := setPartner_frame s.linkHeard (if bit (fieldOf m 8 1) 0 then 1 else 2)
  have hexec : exec (.health m) s = .next (s.pairMsg m 2 (fun s => s.setPartner (if bit (fieldOf m 8 1) 0 then 1 else 2))) := rfl
  rw [hexec, pairMsg_acts hvalid hty]
  exact ⟨_, rfl, partner_setPartner _ (by split <;> decide), hkeeps .pair (by decide), hkeeps .mem (by decide)⟩

theorem claim_stops (hvalid : pairValid m = true) (hty : fieldOf m 0 1 = 4) {n : Nat} (hn : fieldOf m 1 1 = n) (hon : s.svcOn n = true)
    (hstep : s.svcStep n = false) (hrole : s.svcRole n = 3) (hswap : bit (fieldOf m 2 1) 0 = false) (hpeer : s.peerClaim n < fieldOf m 4 4)
    (hown : s.claim n < fieldOf m 4 4) : Goes (exec (.pairClaim m) s) (fun u => u.peerClaim n = fieldOf m 4 4 ∧ u.svcRole n = 3 ∧
      (u.svc n).stop = some (s.now + 200, 0) ∧ (u.svc n).peerRole = 3 ∧ Keeps [.regs, .pair] s u) := by
  have hlink := keeps_linkHeard s
  have hlearn := learn_eq (s := s.linkHeard) (n := n) (c := fieldOf m 4 4) (by rw [peerClaim, hlink.rd (by decide)]; exact hpeer)
    ((hlink.fd (by decide) _).trans hrole) ((hlink.fb (by decide) _).trans hstep) 0
  have hclaim : s.linkHeard.claim n = s.claim n := hlink.rd (by decide) _
  rw [exec_pairClaim hvalid hty hn hon hswap, hlearn, hclaim, if_neg (Nat.not_le.2 hown)]
  obtain ⟨c, hc⟩ : ∃ c, c = fieldOf m 4 4 := ⟨_, rfl⟩
  have hlt : c < 2 ^ 32 := hc ▸ fieldOf_lt m 4 4
  rw [← hc]
  have hclaimed : Keeps [.regs] s.linkHeard (s.linkHeard.peerClaimed n c) := keeps_wr _ _ _
  have hpc := peerClaim_peerClaimed s.linkHeard n hlt
  have hrc : (s.linkHeard.peerClaimed n c).svcRole n = s.linkHeard.svcRole n := fd_peerClaimed _ n c 29 3
  have hnc : (s.linkHeard.peerClaimed n c).now = s.linkHeard.now := rd_wr_ne _ _ _ _ (by simp only [Reg.CLK_TIME_NS, Reg.PAIR_SVC_PEER_CLAIM]; omega)
  generalize s.linkHeard.peerClaimed n c = v at hclaimed hpc hrc hnc
  have hactive : Keeps [.pair] v (v.partnerActive n) := keeps_updSvc v n _
  have hstop : Keeps [.pair] (v.partnerActive n) ((v.partnerActive n).stopSet n 0) := keeps_updSvc _ n _
  have hkeeps := hactive.trans hstop
  have hnow : (v.partnerActive n).now = s.now := (hactive.rd (by decide) _).trans (hnc.trans (hlink.rd (by decide) _))
  refine ⟨_, rfl, (hkeeps.rd (by decide) _).trans hpc, ?_, ?_, ?_, ?_⟩
  · exact (hkeeps.fd (by decide) _).trans (hrc.trans ((hlink.fd (by decide) _).trans hrole))
  · rw [stopSet, svc_updSvc_self, hnow]
  · rw [stopSet, svc_updSvc_self, partnerActive, svc_updSvc_self]
  · exact (hlink.mono (by simp)).trans ((hclaimed.mono (by simp)).trans (hkeeps.mono (by simp)))

theorem claim_learned (hvalid : pairValid m = true) (hty : fieldOf m 0 1 = 4) {n : Nat} (hn : fieldOf m 1 1 = n) (hon : s.svcOn n = true)
    (hstep : s.svcStep n = false) (hrole : s.svcRole n = 3) (hswap : bit (fieldOf m 2 1) 0 = false) (hpeer : s.peerClaim n < fieldOf m 4 4)
    (hown : fieldOf m 4 4 ≤ s.claim n) : Goes (exec (.pairClaim m) s) (fun u => u.peerClaim n = fieldOf m 4 4 ∧
      u.pair = { s.pair with lastLink := s.now } ∧ Keeps [.regs, .pair] s u ∧ RegsKeep [(Reg.PAIR_SVC_PEER_CLAIM n).addr] s u) := by
  have hlink := keeps_linkHeard s
  have hlearn := learn_eq (s := s.linkHeard) (n := n) (c := fieldOf m 4 4) (by rw [peerClaim, hlink.rd (by decide)]; exact hpeer)
    ((hlink.fd (by decide) _).trans hrole) ((hlink.fb (by decide) _).trans hstep) 0
  have hclaim : s.linkHeard.claim n = s.claim n := hlink.rd (by decide) _
  have hclaimed : Keeps [.regs] s.linkHeard (s.linkHeard.peerClaimed n (fieldOf m 4 4)) := keeps_wr _ _ _
  rw [exec_pairClaim hvalid hty hn hon hswap, hlearn, hclaim, if_pos hown]
  exact ⟨_, rfl, peerClaim_peerClaimed _ n (fieldOf_lt m 4 4), hclaimed .pair (by decide), (hlink.mono (by simp)).trans (hclaimed.mono (by simp)),
    (hlink.regsKeep (by decide) _).trans (regsKeep_wr _ _ _)⟩

theorem claim_known (hvalid : pairValid m = true) (hty : fieldOf m 0 1 = 4) {n : Nat} (hn : fieldOf m 1 1 = n) (hon : s.svcOn n = true)
    (hswap : bit (fieldOf m 2 1) 0 = false) (hpeer : fieldOf m 4 4 ≤ s.peerClaim n) :
    Goes (exec (.pairClaim m) s) (fun u => Keeps [.pair] s u ∧ u.pair = { s.pair with lastLink := s.now }) := by
  have hlink := keeps_linkHeard s
  have hsame : s.linkHeard.learn n (fieldOf m 4 4) 0 = s.linkHeard := if_pos (by
    rw [peerClaim, hlink.rd (by decide), ← peerClaim, decide_eq_true hpeer, Bool.true_or])
  rw [exec_pairClaim hvalid hty hn hon hswap, hsame]
  exact ⟨_, rfl, hlink, rfl⟩

theorem handover_shows (hvalid : pairValid m = true) (hty : fieldOf m 0 1 = 5) {n : Nat} (hn : fieldOf m 1 1 = n) (hon : s.svcOn n = true)
    (hswap : (s.svc n).swap = some (fieldOf m 8 8, none)) : Goes (exec (.handover m) s) (fun u =>
      u.svc n = { s.svc n with swap := some (fieldOf m 8 8, some s.now) } ∧ Keeps [.pair] s u) := by
  rw [exec_handover hvalid hty hn hon hswap]
  exact ⟨_, rfl, svc_updSvc_self _ n _, (keeps_linkHeard s).trans (keeps_updSvc _ n _)⟩

theorem katResult_shows (hvalid : pairValid m = true) (hty : fieldOf m 0 1 = 6) {n : Nat} (hn : fieldOf m 1 1 = n) (hon : s.svcOn n = true)
    (hwait : (s.svc n).waiting = true) (hown : (s.svc n).verdict = some true) (hpass : bit (fieldOf m 2 1) 0 = true) :
    Goes (exec (.katResult m) s) (fun u => (u.svc n).waiting = false ∧ (u.svc n).resume = (s.svc n).test.getD 0 + 1 ∧
      u.fd (Fld.PAIR_SVC_STATUS_MISMATCH_RUN n) = 0 ∧ Keeps [.regs, .pair] s u) := by
  rw [exec_katResult hvalid hty hn hon hwait hown hpass]
  obtain ⟨w, hw⟩ : ∃ w, w = s.linkHeard.updSvc n (fun x => { x with peerVerdict := some true }) := ⟨_, rfl⟩
  have hkeeps : Keeps [.pair] s w := hw ▸ (keeps_linkHeard s).trans (keeps_updSvc _ n _)
  have htest : (w.svc n).test = (s.svc n).test := by rw [hw, svc_updSvc_self, svc_linkHeard]
  rw [← hw]
  obtain ⟨v, hv⟩ : ∃ v, v = w.updSvc n (fun x => { x with waiting := false, resume := x.test.getD 0 + 1 }) := ⟨_, rfl⟩
  have hkv : Keeps [.pair] w v := hv ▸ keeps_updSvc w n _
  have hsv : (v.svc n).waiting = false ∧ (v.svc n).resume = (s.svc n).test.getD 0 + 1 := by
    rw [hv, svc_updSvc_self, ← htest]
    exact ⟨rfl, rfl⟩
  have hlast : (v.fw (Fld.PAIR_SVC_STATUS_MISMATCH_RUN n) 0).svc n = v.svc n := svc_congr rfl n
  rw [waitPassed, ← hv]
  exact ⟨_, rfl, by rw [hlast, hsv.1], by rw [hlast, hsv.2], fd_svc_self v n (by decide) (by decide),
    ((hkeeps.trans hkv).mono (by simp)).trans ((keeps_fw v _ _).mono (by simp))⟩

theorem fail_takes (hvalid : pairValid m = true) (hty : fieldOf m 0 1 = 7) (hconf : s.fb Fld.PAIR_STATUS_CONFIGURED = true) :
    Goes (exec (.fail m) s) (fun u => u.fd Fld.PAIR_STATUS_PARTNER = 2 ∧ u.mem = s.mem ∧
      (∀ n, n < 64 → bit (fieldOf m 4 8) n = true → s.mayTake n = true → max (s.claim n / 2) (s.peerClaim n / 2) < 0x7FFFFFFF →
        u.svcRole n = 3 ∧ u.claim n = (max (s.claim n / 2) (s.peerClaim n / 2) + 1) * 2 + s.pairPos)) := by
  have hexec : exec (.fail m) s = .next (s.pairMsg m 7 (fun s => if s.fb Fld.PAIR_STATUS_CONFIGURED then s.failIn (fieldOf m 4 8) else s)) := rfl
  have hpartner := partner_setPartner s.linkHeard (v := 2) (by decide)
  obtain ⟨hkeeps, -⟩ := setPartner_frame s.linkHeard 2
  have hsame : ∀ n, TakeSame n s (s.linkHeard.setPartner 2) := fun n => (takeSame_linkHeard n s).trans (takeSame_setPartner n _ 2)
  rw [hexec, pairMsg_acts hvalid hty, (keeps_linkHeard s).fb (by decide), hconf, if_pos rfl, failIn]
  generalize s.linkHeard.setPartner 2 = w at hpartner hkeeps hsame
  obtain ⟨hframe, hregs⟩ := takeovers_frame w (w.svcsOn.filter (bit (fieldOf m 4 8)))
  refine ⟨_, rfl, ?_, ?_, fun n hn hbit hmay hepoch => ?_⟩
  · exact (fd_of_rd (f := Fld.PAIR_STATUS_PARTNER) (hregs Reg.PAIR_STATUS (by decide) (by decide))).trans hpartner
  · exact (hframe .mem (by decide)).trans (hkeeps .mem (by decide))
  · have hnext : w.nextEpoch n = max (s.claim n / 2) (s.peerClaim n / 2) + 1 := by rw [nextEpoch, (hsame n).claim, (hsame n).peerClaim]
    have hmem : n ∈ w.svcsOn.filter (bit (fieldOf m 4 8)) := by
      have hrole := mayTake_role hmay
      exact List.mem_filter.2 ⟨mem_svcsOn.2 ⟨hn, by rw [(hsame n).role]; omega⟩, hbit⟩
    rw [← hnext, ← (hsame n).pos]
    exact takeovers_take hmem (by rw [mayTake_takeSame (hsame n), hmay]) (by omega)

end

end Sys2Proof.Machine.State

namespace Sys2Proof

open Sys2Proof.Machine Sys2Proof.Machine.State Sys2Proof.Safety

/-- Settles O40: a message of no valid form is counted, one of another type passes by, and each type does what its rule says. -/
theorem pairingMessagesActOrCount : Obligations.PairingMessagesActOrCount := by
  refine ⟨⟨fun mk hmk s m hvalid => ?_, fun ty mk hmk s m hvalid hty => othersMessage hmk s hvalid hty⟩, ?_, ?_, ?_, ?_, ?_, ?_, ?_⟩
  · exact ⟨_, invalid_counts hmk s hvalid, keeps_wr s _ _, regsKeep_wr s _ _, rd_bump s _ _ (by decide)⟩
  · intro s m hvalid hty hconf hid hmod
    have hexec := hello_apart hvalid hty hconf hid hmod
    refine ⟨fun hpos => ?_, fun hpos hnone => ?_⟩
    · obtain ⟨hserial, hlink, hconflict, hlevel, hkeeps⟩ := helloApart_shows s.linkHeard m
      rw [if_neg hpos] at hexec
      refine ⟨_, hexec, hserial.trans (Nat.mod_eq_of_lt (fieldOf_lt m 8 8)), hlink, hconflict, ?_, hkeeps .pair (by decide),
        ((keeps_linkHeard s).mono (by simp)).trans (hkeeps.mono (by simp))⟩
      exact hlevel.trans (by rw [(keeps_linkHeard s).fd (by decide)])
    · rw [if_pos hpos] at hexec
      exact ⟨_, hexec, hello_conflict hnone⟩
  · exact fun s m hvalid hty => health_shows hvalid hty
  · exact fun s m n k d hvalid hty hn hon hstep hrole hpr hcmp hown hpeer hk hmiss =>
      ⟨digest_matches hvalid hty hn hon hstep hrole hcmp hown hpeer hk hmiss,
        digest_differs hvalid hty hn hon hstep hrole hpr hcmp hown hpeer hk hmiss⟩
  · exact fun s m n hvalid hty hn hon hstep hrole hswap => ⟨claim_stops hvalid hty hn hon hstep hrole hswap,
      claim_learned hvalid hty hn hon hstep hrole hswap, claim_known hvalid hty hn hon hswap⟩
  · exact fun s m n hvalid hty hn hon hswap => handover_shows hvalid hty hn hon hswap
  · exact fun s m n hvalid hty hn hon hwait hown hpass => katResult_shows hvalid hty hn hon hwait hown hpass
  · exact fun s m hvalid hty hconf => fail_takes hvalid hty hconf

end Sys2Proof
end

section
/-! What leaves the module stays among what has left, and what a Pairing message carries (09 R319, 12 R432). -/

namespace Sys2Proof.Safety

open Sys2Proof.Machine

/-- What has left the module stays listed. -/
structure OutGrows (s t : State) : Prop where
  sub : s.out ⊆ t.out

namespace OutGrows

variable {s t u : State}

theorem refl (s : State) : OutGrows s s := ⟨List.Subset.refl _⟩

theorem trans (h : OutGrows s t) (h' : OutGrows t u) : OutGrows s u := ⟨fun _ ho => h'.sub (h.sub ho)⟩

theorem of_keeps {ps : List Part} (h : Keeps ps s t) (hout : Part.out ∉ ps) : OutGrows s t := by
  have hsame : t.out = s.out := h .out hout
  exact ⟨hsame ▸ List.Subset.refl _⟩

theorem emit (s : State) (o : Out) : OutGrows s (s.emit o) := ⟨List.subset_cons_self _ _⟩

theorem foldl {α : Type} {f : State → α → State} {l : List α} (s : State) (h : ∀ u, ∀ a ∈ l, OutGrows u (f u a)) : OutGrows s (l.foldl f s) :=
  List.foldlRecOn l f (refl s) fun _ hu a ha => hu.trans (h _ a ha)

end OutGrows

end Sys2Proof.Safety

namespace Sys2Proof.Machine.State

open Sys2Proof.Safety

/-! ## Sending on links -/

theorem outGrows_raise (s : State) (v : Nat) : OutGrows s (s.raise v) := by
  unfold raise
  extract_lets e
  split
  · exact .of_keeps (keeps_withHif s _) (by decide)
  · exact .emit s _

theorem outGrows_trouble (s : State) (code sev island addr data : Nat) : OutGrows s (s.trouble code sev island addr data) := by
  unfold trouble
  extract_lets seq logged numbered
  have hnumbered : OutGrows s numbered := (OutGrows.of_keeps (keeps_withLog s _) (by decide)).trans (.of_keeps (keeps_wr logged _ _) (by decide))
  split
  · exact hnumbered.trans (outGrows_raise _ 2)
  · exact hnumbered

theorem outGrows_pmuRecord (s : State) (who what : Nat) : OutGrows s (s.pmuRecord who what) := by
  unfold pmuRecord
  extract_lets gap island dbg noted
  split
  · exact .of_keeps (keeps_wr s _ _) (by decide)
  · have hnoted : OutGrows s noted := .of_keeps (keeps_withDbg s _) (by decide)
    exact hnoted.trans (outGrows_trouble noted _ _ _ _ _)

theorem outGrows_pmuWrap (s : State) (g c : Nat) : OutGrows s (s.pmuWrap g c) := by
  unfold pmuWrap
  extract_lets shown
  have hshown : OutGrows s shown := .of_keeps (keeps_wr s _ _) (by decide)
  split
  · exact hshown.trans (outGrows_pmuRecord _ g c)
  · exact hshown

theorem outGrows_pmuEvent (s : State) (g ev n : Nat) (o : Option Origin) : OutGrows s (s.pmuEvent g ev n o) := by
  unfold pmuEvent
  split
  · exact .refl s
  · refine .foldl s fun u c _ => ?_
    split
    · extract_lets v counted
      have hcounted : OutGrows u counted := .of_keeps (keeps_wr u _ _) (by decide)
      split
      · exact hcounted.trans (outGrows_pmuWrap _ g c)
      · exact hcounted
    · exact .refl u

theorem outGrows_countSent (s : State) (g : Nat) (m : LinkMsg) : OutGrows s (s.countSent g m) := by
  unfold countSent
  split
  · exact (outGrows_pmuEvent s _ _ _ _).trans (outGrows_pmuEvent _ _ _ _ _)
  · exact .refl s

theorem outGrows_sendFlit (s : State) (l : Nat) (f : Flit) (nak : Bool) : OutGrows s (s.sendFlit l f nak) := ⟨List.subset_cons_self _ _⟩

theorem outGrows_egressAux (l k : Nat) (s : State) : OutGrows s (egressAux l k s) := by
  induction k generalizing s with
  | zero => exact .refl s
  | succ k ih =>
    unfold egressAux
    extract_lets x
    split
    · exact .refl s
    · split
      · exact .refl s
      · rename_i y ms _
        extract_lets ctl sorted
        have hopen : OutGrows s (if ctl then s.open_ 4 else (0, s)).2 := by
          split
          · exact .of_keeps (keeps_open s 4) (by decide)
          · exact .refl s
        generalize (if ctl then s.open_ 4 else (0, s)) = nibble at hopen ⊢
        obtain ⟨nib, u⟩ := nibble
        have hset : ∀ (w : State) (z : Link), OutGrows s w → OutGrows s ((w.pmuEvent (20 + w.portOf l) 0x120 1 none).setLink l z) :=
          fun w z hw => (hw.trans (outGrows_pmuEvent w _ _ _ _)).trans (.of_keeps (keeps_withFab _ _) (by decide))
        refine OutGrows.trans (OutGrows.trans ?_ (outGrows_sendFlit _ _ _ _)) (ih _)
        exact hset _ _ (hopen.trans (.foldl u fun v m _ => outGrows_countSent v _ m))

theorem outGrows_enqueue (s : State) (l : Nat) (m : LinkMsg) : OutGrows s (s.enqueue l m) :=
  (OutGrows.of_keeps (keeps_updLink s l _) (by decide)).trans (outGrows_egressAux l _ _)

theorem outGrows_route (s : State) (m : LinkMsg) : OutGrows s (s.route m) := by
  have hfab : ∀ x : Fab, OutGrows s { s with fab := x } := fun x => .of_keeps (keeps_withFab s x) (by decide)
  unfold route
  extract_lets ls own unit home lane
  split
  · exact hfab _
  · split
    · exact outGrows_enqueue s _ m
    · refine OutGrows.trans ?_ (outGrows_enqueue _ _ m)
      split
      · exact hfab _
      · exact .refl s
    · split
      · exact hfab _
      · exact .refl s

/-- A request launched has left. -/
theorem mem_out_launch (s : State) (q : Req) : Out.request q ∈ (s.launch q).out := by
  unfold launch
  extract_lets sent
  have hsent : Out.request q ∈ sent.out := List.mem_cons_self
  split
  · exact hsent
  · exact (outGrows_route sent _).sub hsent

/-! ## Bytes of a Pairing message -/

/-- The bytes of a message before its CRC. -/
def pairBytes (ty svc body : Nat) : List Byte := leBytes 28 (ty + svc * 2 ^ 8 + body * 2 ^ 16)

/-- A message. -/
def pairMessage (ty svc body : Nat) : List Byte := pairBytes ty svc body ++ leBytes 4 (crc32c (pairBytes ty svc body))

theorem pairSend_up {s : State} (h : s.fb Fld.PAIR_STATUS_LINK_UP = true) (ty svc body : Nat) :
    s.pairSend ty svc body = s.emit (.pair (pairMessage ty svc body)) := if_pos h

theorem pairSend_down {s : State} (h : s.fb Fld.PAIR_STATUS_LINK_UP = false) (ty svc body : Nat) : s.pairSend ty svc body = s :=
  if_neg (by rw [h]; exact Bool.false_ne_true)

theorem drop_leBytes_le (n v : Nat) {k : Nat} (h : k ≤ n) : (leBytes n v).drop k = leBytes (n - k) (v / 256 ^ k) := by
  induction k generalizing n v with
  | zero => simp
  | succ k ih =>
    obtain ⟨n, rfl⟩ : ∃ m, n = m + 1 := ⟨n - 1, by omega⟩
    rw [leBytes, List.drop_succ_cons, ih n (v / 256) (by omega), Nat.div_div_eq_div_mul, Nat.add_sub_add_right, pow_succ, Nat.mul_comm]

theorem take_leBytes_le (n v : Nat) {k : Nat} (h : k ≤ n) : (leBytes n v).take k = leBytes k v := by
  induction k generalizing n v with
  | zero => simp [leBytes]
  | succ k ih =>
    obtain ⟨n, rfl⟩ : ∃ m, n = m + 1 := ⟨n - 1, by omega⟩
    rw [leBytes, List.take_succ_cons, ih n (v / 256) (by omega), ← leBytes]

/-- A field of the bytes before the CRC. -/
theorem fieldOf_pairMessage (ty svc body : Nat) {off n : Nat} (h : off + n ≤ 28) :
    fieldOf (pairMessage ty svc body) off n = (ty + svc * 2 ^ 8 + body * 2 ^ 16) / 256 ^ off % 2 ^ (8 * n) := by
  rw [fieldOf, pairMessage, pairBytes, List.drop_append_of_le_length (by rw [length_leBytes]; omega), drop_leBytes_le _ _ (by omega),
    List.take_append_of_le_length (by rw [length_leBytes]; omega), take_leBytes_le _ _ (by omega), ofLE_leBytes]

/-- A message of a defined TYPE is valid. -/
theorem pairValid_pairMessage {ty svc : Nat} (body : Nat) (hlow : 1 ≤ ty) (hhigh : ty ≤ 7) : pairValid (pairMessage ty svc body) = true := by
  have hlen : (pairMessage ty svc body).length = 32 := by simp [pairMessage, pairBytes, length_leBytes]
  have hcrc : fieldOf (pairMessage ty svc body) 28 4 = crc32c (pairBytes ty svc body) := by
    rw [fieldOf, pairMessage, pairBytes, drop_leBytes _ _ (Nat.le_refl 28), Nat.sub_self, List.drop_zero, List.take_of_length_le (length_leBytes 4 _).le,
      ofLE_leBytes_of_lt (crc32c_lt _)]
  have htake : (pairMessage ty svc body).take 28 = pairBytes ty svc body := take_leBytes 28 _ _
  have hty : fieldOf (pairMessage ty svc body) 0 1 = ty := by
    rw [fieldOf_pairMessage ty svc body (by decide)]
    omega
  rw [pairValid, hlen, hcrc, htake, hty]
  simp [hlow, hhigh]

theorem pairSent (svc body : Nat) {ty : Nat} (hlow : 1 ≤ ty) (hhigh : ty ≤ 7) :
    pairValid (pairMessage ty svc body) = true ∧ fieldOf (pairMessage ty svc body) 0 1 = ty := by
  refine ⟨pairValid_pairMessage body hlow hhigh, ?_⟩
  rw [fieldOf_pairMessage ty svc body (by decide)]
  omega

end Sys2Proof.Machine.State
end

section
/-! Pairing's timers and the events of its paths (O41). -/

namespace Sys2Proof.Safety

open Sys2Proof.Machine Sys2Proof.Machine.State

/-- The count of a STEP service's steps and memory are as before. -/
structure StepKept (n : Nat) (s t : State) : Prop where
  step : (t.svc n).step = (s.svc n).step
  mem : t.mem = s.mem

namespace StepKept

variable {n : Nat} {s t u : State}

theorem refl (n : Nat) (s : State) : StepKept n s s := ⟨rfl, rfl⟩

theorem trans (h : StepKept n s t) (h' : StepKept n t u) : StepKept n s u := ⟨h'.step.trans h.step, h'.mem.trans h.mem⟩

theorem of_keeps {ps : List Part} (h : Keeps ps s t) (hpair : Part.pair ∉ ps) (hmem : Part.mem ∉ ps) : StepKept n s t :=
  ⟨by rw [svc_congr (congrArg Pair.svcs (h .pair hpair)) n], h .mem hmem⟩

theorem updSvc (s : State) (n : Nat) (f : PairSvc → PairSvc) (hf : (f (s.svc n)).step = (s.svc n).step) : StepKept n s (s.updSvc n f) :=
  ⟨by rw [svc_updSvc_self, hf], keeps_updSvc s n f .mem (by decide)⟩

theorem fw (s : State) (f : Fld) (v : Nat) : StepKept n s (s.fw f v) := of_keeps (keeps_fw s f v) (by decide) (by decide)

theorem wr (s : State) (r : Reg) (v : Nat) : StepKept n s (s.wr r v) := of_keeps (keeps_wr s r v) (by decide) (by decide)

theorem trouble (s : State) (fam rule sev island addr : Nat) : StepKept n s (s.troubleRule fam rule sev island addr) := by
  unfold State.troubleRule
  exact of_keeps (keeps_trouble s _ _ _ _ _) (by decide) (by decide)

end StepKept

end Sys2Proof.Safety

namespace Sys2Proof.Machine.State

open Sys2Proof.Safety

/-! ## The steps of a STEP service (12 R445) -/

theorem svc_setRole (s : State) (n role m : Nat) : (s.setRole n role).svc m = s.svc m := by
  by_cases hsame : s.svcRole n = role
  · rw [setRole_same hsame]
  · have hgen : ∀ u : State, u.genCounted.svc m = u.svc m := fun u => svc_congr rfl m
    rw [setRole_other hsame, hgen, svc_congr (congrArg Pair.svcs (keeps_fw s _ _ .pair (by decide)))]

theorem stepKept_setRole (s : State) (n role : Nat) : StepKept n s (s.setRole n role) :=
  ⟨by rw [svc_setRole], keeps_setRole s n role .mem (by decide)⟩

theorem stepKept_cmpUpdate (s : State) (n : Nat) : StepKept n s (s.cmpUpdate n) := by
  have h := cmpChange_cmpUpdate s n
  obtain ⟨b, hb⟩ := h.svc
  exact ⟨by rw [hb], h.change.keeps .mem (by decide)⟩

theorem stepKept_roleTo (s : State) (n role : Nat) : StepKept n s (s.roleTo n role) := (stepKept_setRole s n role).trans (stepKept_cmpUpdate _ n)

theorem stepKept_holdEnter (s : State) (n code rule : Nat) : StepKept n s (s.holdEnter n code rule) := by
  unfold holdEnter
  extract_lets s1
  have h1 : StepKept n s s1 := .fw s _ _
  have h2 : StepKept n s1 (s1.updSvc n (fun x => { x with alarms := x.alarms ++ [code], waiting := false })) := .updSvc s1 n _ rfl
  exact (h1.trans h2).trans (.trouble _ _ _ _ _ _)

theorem step_matchKept (k : Nat) (x : PairSvc) : (matchKept k x).step = x.step := rfl

theorem stepKept_digestMatch (s : State) (n k : Nat) : StepKept n s (s.digestMatch n k) := by
  unfold digestMatch
  extract_lets s1 s2 s3 s4
  have h1 : StepKept n s s1 := .fw s _ _
  clear_value s1
  have h2 : StepKept n s s2 := h1.trans (.fw s1 _ _)
  clear_value s2
  have h3 : StepKept n s s3 := by
    dsimp only [s3]
    split
    · exact h2.trans (.fw s2 _ _)
    · exact h2
  clear_value s3
  have h4 : StepKept n s s4 := h3.trans (.updSvc s3 n (matchKept k) (step_matchKept k _))
  split
  · exact h4.trans (stepKept_roleTo s4 n 2)
  · exact h4

theorem stepKept_mismatchEnter (s : State) (n k : Nat) : StepKept n s (s.mismatchEnter n k) :=
  ((StepKept.fw s _ _).trans (.updSvc _ n _ rfl)).trans (.of_keeps (mismatchEnter_frame s n k) (by decide) (by decide))

theorem stepKept_digestDiffer (s : State) (n k : Nat) : StepKept n s (s.digestDiffer n k) := by
  unfold digestDiffer
  extract_lets s1 run s2
  have h1 : StepKept n s s1 := (StepKept.wr s _ _).trans (.fw _ _ _)
  clear_value s1
  have hcompared : StepKept n s (s1.indexCompared n k) := h1.trans (.updSvc s1 n _ rfl)
  split
  · exact h1.trans (.trouble s1 _ _ _ _ _)
  split
  · split
    · split
      · exact h1
      · exact (h1.trans (.updSvc s1 n _ rfl)).trans (.trouble _ _ _ _ _ _)
    · exact (h1.trans (.updSvc s1 n _ rfl)).trans (.trouble _ _ _ _ _ _)
  split
  · have h2 : StepKept n s s2 := (h1.trans (.fw s1 _ _)).trans (.updSvc _ n _ rfl)
    split
    · exact h2.trans (stepKept_holdEnter s2 n 1 450)
    · exact h2
  split
  · exact hcompared
  · exact hcompared.trans (stepKept_mismatchEnter _ n k)

theorem stepKept_compareAll (s : State) (n : Nat) : StepKept n s (s.compareAll n) := by
  unfold compareAll
  extract_lets x both gone s1
  have h1 : StepKept n s s1 := .updSvc s n _ rfl
  refine List.foldlRecOn (motive := fun u : State => StepKept n s u) both _ h1 fun u hu a _ => ?_
  split
  split
  · exact hu
  split
  · exact hu.trans (stepKept_digestMatch u n _)
  · exact hu.trans (stepKept_digestDiffer u n _)

theorem stepKept_ownDigest (s : State) (n k digest : Nat) (missed : Bool) (data : List Byte) : StepKept n s (s.ownDigest n k digest missed data) :=
  ((StepKept.updSvc s n _ rfl).trans (.of_keeps (keeps_pairSend _ _ _ _) (by decide) (by decide))).trans (stepKept_compareAll _ n)

theorem stepKept_mccReply (s : State) (n : Nat) (a : Ans) : StepKept n s (s.mccReply a) :=
  .of_keeps (mccReply_frame s a).1 (by decide) (by decide)

theorem stepKept_swapGiven (s : State) (n : Nat) : StepKept n s (s.swapGiven n) := by
  unfold swapGiven
  split
  · exact .refl n s
  · next eff waits _ =>
    extract_lets s1 s2
    have h2 : StepKept n s s2 := ((StepKept.updSvc s n _ rfl).trans (.wr s1 _ _)).trans (stepKept_roleTo _ n 2)
    split
    · split
      · exact h2.trans (stepKept_mccReply s2 n _)
      · exact h2
    · exact h2

theorem stepKept_releaseRoles (s : State) (n t k : Nat) : StepKept n s (s.releaseRoles n t k) := by
  unfold releaseRoles
  extract_lets x s1 stopped s2
  have h1 : StepKept n s s1 := by
    dsimp only [s1]
    split
    · split
      · exact stepKept_swapGiven s n
      · exact .refl n s
    · exact .refl n s
  have hstopped : StepKept n s stopped := h1.trans (.updSvc s1 n _ rfl)
  have h2 : StepKept n s s2 := by
    dsimp only [s2]
    split
    · split
      · split
        · exact hstopped.trans (stepKept_roleTo stopped n 2)
        · exact hstopped
      · exact h1
    · exact h1
  clear_value s2
  have hended : StepKept n s ((s2.countSwitch n).updSvc n (fun x => { x with swap := none, peerRole := 2 })) :=
    (h2.trans (.wr s2 _ _)).trans (.updSvc (s2.countSwitch n) n _ rfl)
  split
  · exact hended.trans (stepKept_cmpUpdate _ n)
  · exact h2

theorem stepKept_claimRaised (s : State) (n : Nat) : StepKept n s (s.claimRaised n) :=
  (StepKept.wr s _ _).trans ⟨congrArg PairSvc.step (svc_congr (s := s.wr (Reg.PAIR_SVC_CLAIM n) (s.nextEpoch n * 2 + s.pairPos))
    (t := s.claimRaised n) rfl n), keeps_genCounted _ .mem (by decide)⟩

theorem stepKept_activeSet (s : State) (n time : Nat) (lost : Bool) : StepKept n s (s.activeSet n time lost) := .updSvc s n _ rfl

theorem stepKept_claimSend (s : State) (n m : Nat) (swap : Bool) (eff : Nat) : StepKept n s (s.claimSend m swap eff) :=
  .of_keeps (keeps_pairSend s _ _ _) (by decide) (by decide)

theorem stepKept_becomeActive (s : State) (n time : Nat) (lost : Bool) : StepKept n s (s.becomeActive n time lost) := by
  rw [becomeActive_eq]
  split
  · exact stepKept_holdEnter s n 4 438
  · refine ((((stepKept_claimRaised s n).trans (stepKept_claimSend _ n n false 0)).trans (stepKept_activeSet _ n time lost)).trans ?_).trans (stepKept_roleTo _ n 3)
    unfold switchCounted
    split
    · exact .wr _ _ _
    · exact .refl n _

theorem stepKept_prefRaise (s : State) (n : Nat) : StepKept n s (s.prefRaise n) := by
  unfold prefRaise
  extract_lets x
  split
  · exact stepKept_becomeActive s n _ false
  · exact .refl n s

theorem stepKept_swapTake (s : State) (n eff : Nat) (handed : Option Nat) : StepKept n s (s.swapTake n eff handed) := by
  unfold swapTake
  rw [raiseClaim_eq]
  by_cases h : 0x7FFFFFFF < s.nextEpoch n
  · simp only [if_pos h]
    exact stepKept_holdEnter s n 4 438
  · simp only [if_neg h]
    exact (((stepKept_claimRaised s n).trans (stepKept_claimSend _ n n true eff)).trans (.updSvc _ n _ rfl)).trans (stepKept_setRole _ n 3)

theorem stepKept_autoSwap (s : State) (n eff : Nat) : StepKept n s (s.autoSwap n eff) := by
  unfold autoSwap
  split
  · exact stepKept_swapTake s n eff none
  · exact .refl n s

/-- A step's digest counts the step. -/
theorem stepDigest_steps {s : State} {n : Nat} (hn : n < 64) (hrole : s.svcRole n ≠ 0) (hstep : s.svcStep n = true) (v : Nat) :
    ((s.stepDigest n v).svc n).step = (s.svc n).step + 1 ∧ (s.stepDigest n v).mem = s.mem := by
  unfold stepDigest
  rw [if_neg (by simp [hrole, hstep]; omega)]
  extract_lets k s1 s2 s3
  have hset : (s1.svc n).step = k + 1 := by rw [svc_updSvc_self]
  have hafter : StepKept n s1 (s3.autoSwap n (k + 1)) := (((stepKept_ownDigest s1 n k _ false []).trans (stepKept_releaseRoles s2 n s2.now k)).trans
    (stepKept_prefRaise _ n)).trans (stepKept_autoSwap s3 n (k + 1))
  exact ⟨hafter.step.trans hset, hafter.mem.trans (keeps_updSvc s n _ .mem (by decide))⟩

/-! ## Messages at their periods (12 R432, R436) -/

/-- The bytes of HELLO after its SVC. -/
def helloBody (s : State) : Nat :=
  s.fd Fld.PAIR_CFG_PAIR_ID + s.pairPos * 2 ^ 16 + s.fd Fld.ATY_FAB_STATUS_NUMERICS_LEVEL * 2 ^ 24 + s.ownMod * 2 ^ 32 + s.fuse.serial * 2 ^ 48

theorem helloSend_up {s : State} (h : s.fb Fld.PAIR_STATUS_LINK_UP = true) : s.helloSend = s.emit (.pair (pairMessage 1 0 s.helloBody)) :=
  pairSend_up h 1 0 _

theorem hello_pairId (s : State) : fieldOf (pairMessage 1 0 s.helloBody) 2 2 = s.fd Fld.PAIR_CFG_PAIR_ID := by
  have hid : s.fd Fld.PAIR_CFG_PAIR_ID < 2 ^ 16 := bits_lt _ _ 16
  rw [fieldOf_pairMessage 1 0 _ (by decide), helloBody]
  omega

theorem pairLinkUp_sends {s : State} (h : s.pairAbsent = false) : GoesOn (exec .pairLinkUp s) State.cmpAll (fun w =>
    w.fb Fld.PAIR_STATUS_LINK_UP = true ∧ Keeps [.regs, .out] s w ∧ ∃ bs, w.out = .pair bs :: s.out ∧ pairValid bs = true ∧
      fieldOf bs 0 1 = 1 ∧ fieldOf bs 2 2 = s.fd Fld.PAIR_CFG_PAIR_ID) := by
  have hexec : exec .pairLinkUp s = .next ((s.fbw Fld.PAIR_STATUS_LINK_UP true).helloSend).cmpAll :=
    congrArg Host.Outcome.next (if_neg (by rw [h]; exact Bool.false_ne_true))
  obtain ⟨u, hu⟩ : ∃ u, u = s.fbw Fld.PAIR_STATUS_LINK_UP true := ⟨_, rfl⟩
  have hkeeps : Keeps [.regs] s u := hu ▸ keeps_fbw s _ _
  have hup : u.fb Fld.PAIR_STATUS_LINK_UP = true := hu ▸ fb_fbw_self s _ _ (by decide) (by decide) (by decide)
  have hid : u.fd Fld.PAIR_CFG_PAIR_ID = s.fd Fld.PAIR_CFG_PAIR_ID := hu ▸ fd_fbw_ne s _ _ _ (by decide)
  obtain ⟨hvalid, hty⟩ := pairSent 0 u.helloBody (show 1 ≤ 1 by decide) (by decide)
  rw [← hu, helloSend_up hup] at hexec
  have hemit := keeps_emit u (.pair (pairMessage 1 0 u.helloBody))
  exact ⟨_, hexec, (hemit.fb (by decide) _).trans hup, (hkeeps.mono (by simp)).trans (hemit.mono (by simp)), _,
    congrArg (_ :: ·) (hkeeps .out (by decide)), hvalid, hty, (hello_pairId u).trans hid⟩

theorem helloPeriod_sends {s : State} (h : s.pairAbsent = false) (hup : s.fb Fld.PAIR_STATUS_LINK_UP = true) :
    Goes (exec .helloPeriod s) (fun u => Keeps [.out] s u ∧ ∃ bs, u.out = .pair bs :: s.out ∧ pairValid bs = true ∧ fieldOf bs 0 1 = 1) := by
  have hexec : exec .helloPeriod s = .next s.helloSend := congrArg Host.Outcome.next (if_neg (by rw [h]; exact Bool.false_ne_true))
  rw [helloSend_up hup] at hexec
  exact ⟨_, hexec, keeps_emit s _, _, rfl, pairSent 0 s.helloBody (by decide) (by decide)⟩

theorem helloPeriod_down {s : State} (h : s.pairAbsent = false) (hdown : s.fb Fld.PAIR_STATUS_LINK_UP = false) :
    exec .helloPeriod s = .next s :=
  congrArg Host.Outcome.next ((if_neg (by rw [h]; exact Bool.false_ne_true)).trans (pairSend_down hdown _ _ _))

/-- HEARTBEAT counted where the module is healthy. -/
def beatCounted (s : State) : State :=
  { s with pair := { s.pair with heartbeat := if s.pair.healthy then (s.pair.heartbeat + 1) % 2 ^ 32 else s.pair.heartbeat } }

theorem keeps_beatCounted (s : State) : Keeps [.pair] s s.beatCounted := keeps_withPair s _

/-- HEALTH sent. -/
def healthSend (s : State) : State :=
  s.pairSend 0x02 0 (s.pair.heartbeat * 2 ^ 16 + b2n s.pair.healthy * 2 ^ 48 + s.pair.claimGen * 2 ^ 64)

theorem exec_healthPeriod {s : State} (h : s.pairAbsent = false) (hidle : s.mcc.cur = none) : exec .healthPeriod s = .next s.beatCounted.healthSend := by
  have hmcc : s.beatCounted.healthSend.mcc.cur = none :=
    (congrArg Mcc.cur ((keeps_pairSend s.beatCounted _ _ _) .mcc (by decide))).trans hidle
  have hrow : exec .healthPeriod s = .next (if s.pairAbsent then s else match s.beatCounted.healthSend.mcc.cur with
    | some j => if j.begun && j.pkt.base == 0x0703 && s.beatCounted.healthSend.svcRole (j.pkt.u8 16) != 3 then
        s.beatCounted.healthSend.mccReply (.refuse 0x0704) else s.beatCounted.healthSend
    | none => s.beatCounted.healthSend) := rfl
  rw [hrow, h, hmcc]
  rfl

theorem healthPeriod_sends {s : State} (h : s.pairAbsent = false) (hidle : s.mcc.cur = none) :
    Goes (exec .healthPeriod s) (fun u => Keeps [.pair, .out] s u ∧
      u.pair = { s.pair with heartbeat := if s.pair.healthy then (s.pair.heartbeat + 1) % 2 ^ 32 else s.pair.heartbeat } ∧
      (s.fb Fld.PAIR_STATUS_LINK_UP = true → ∃ bs, u.out = .pair bs :: s.out ∧ pairValid bs = true ∧ fieldOf bs 0 1 = 2)) := by
  have hbeat := keeps_beatCounted s
  have hsend : Keeps [.out] s.beatCounted s.beatCounted.healthSend := keeps_pairSend _ _ _ _
  refine ⟨_, exec_healthPeriod h hidle, (hbeat.mono (by simp)).trans (hsend.mono (by simp)), hsend .pair (by decide), fun hup => ?_⟩
  have hup' : s.beatCounted.fb Fld.PAIR_STATUS_LINK_UP = true := (hbeat.fb (by decide) _).trans hup
  rw [healthSend, pairSend_up hup']
  exact ⟨_, rfl, pairSent 0 _ (by decide) (by decide)⟩

/-- The claim of a service sent again. -/
def claimAgain (s : State) (n : Nat) : State :=
  match (s.svc n).swap with
  | some (eff, _) => s.claimSend n true eff
  | none => s.claimSend n false 0

theorem claimAgain_eq (s : State) (n : Nat) : ∃ swap eff, s.claimAgain n = s.claimSend n swap eff := by
  unfold claimAgain
  split
  · exact ⟨_, _, rfl⟩
  · exact ⟨_, _, rfl⟩

theorem keeps_claimAgain (s : State) (n : Nat) : Keeps [.out] s (s.claimAgain n) := by
  obtain ⟨swap, eff, heq⟩ := claimAgain_eq s n
  rw [heq]
  exact keeps_pairSend s _ _ _

theorem outGrows_claimAgain (s : State) (n : Nat) : OutGrows s (s.claimAgain n) := by
  obtain ⟨swap, eff, heq⟩ := claimAgain_eq s n
  rw [heq, claimSend, pairSend]
  split
  · exact .emit s _
  · exact .refl s

/-- A CLAIM of service `n` with a claim is among what has left. -/
def ClaimSent (n c : Nat) (u : State) : Prop :=
  ∃ bs, Out.pair bs ∈ u.out ∧ pairValid bs = true ∧ fieldOf bs 0 1 = 4 ∧ fieldOf bs 1 1 = n ∧ fieldOf bs 4 4 = c % 2 ^ 32

theorem claimAgain_sends {s : State} {n : Nat} (hup : s.fb Fld.PAIR_STATUS_LINK_UP = true) (hn : n < 64) :
    ClaimSent n (s.claim n) (s.claimAgain n) := by
  obtain ⟨swap, eff, heq⟩ := claimAgain_eq s n
  have hswap : b2n swap ≤ 1 := by cases swap <;> decide
  rw [heq, claimSend, pairSend_up hup]
  generalize s.claim n = c
  obtain ⟨hvalid, hty⟩ := pairSent n (b2n swap + c * 2 ^ 16 + eff * 2 ^ 48) (show 1 ≤ 4 by decide) (by decide)
  refine ⟨_, List.mem_cons_self, hvalid, hty, ?_, ?_⟩
  · rw [fieldOf_pairMessage _ _ _ (by decide)]
    omega
  · rw [fieldOf_pairMessage _ _ _ (by decide)]
    omega

theorem claimRepeat_sends (s : State) : Goes (exec .claimRepeat s) (fun u => Keeps [.out] s u ∧
    (s.fb Fld.PAIR_STATUS_LINK_UP = true → ∀ n ∈ s.svcsOn, ∃ bs, Out.pair bs ∈ u.out ∧ pairValid bs = true ∧ fieldOf bs 0 1 = 4 ∧
      fieldOf bs 1 1 = n ∧ fieldOf bs 4 4 = s.claim n % 2 ^ 32)) := by
  have hexec : exec .claimRepeat s = .next (s.svcsOn.foldl claimAgain s) := rfl
  refine ⟨_, hexec, Keeps.foldl s fun u n _ => keeps_claimAgain u n, fun hup n hn => ?_⟩
  refine foldl_reaches (P := fun u => Keeps [.out] s u) (Q := ClaimSent n (s.claim n)) (fun u b hu => hu.trans (keeps_claimAgain u b))
    (fun u hu => ?_) (fun u b hu => ?_) hn (Keeps.refl _ s)
  · have hclaim : u.claim n = s.claim n := hu.rd (by decide) _
    rw [← hclaim]
    exact claimAgain_sends ((hu.fb (by decide) _).trans hup) (mem_svcsOn.1 hn).1
  · obtain ⟨bs, hmem, hrest⟩ := hu
    exact ⟨bs, (outGrows_claimAgain u b).sub hmem, hrest⟩

/-! ## Paths that are silent (12 R434, R436, R456) -/

theorem exec_guarded {s t : State} {c : Bool} (h : c = true) : (Host.Outcome.next (if c then t else s) : Host.Outcome State Fault Refusal) = .next t :=
  congrArg Host.Outcome.next (if_pos h)

theorem linkSyncLost_shows (s : State) : GoesOn (exec .pairingLinkSyncLost s) State.cmpAll (fun w => w.fb Fld.PAIR_STATUS_LINK_UP = false ∧
    Keeps [.regs] s w ∧ RegsKeep [Reg.PAIR_STATUS.addr] s w) :=
  ⟨_, rfl, fb_fbw_self s _ _ (by decide) (by decide) (by decide), keeps_fbw s _ _, regsKeep_fbw s Fld.PAIR_STATUS_LINK_UP false⟩

theorem pairLinkDown_shows {s : State} (hconf : s.fb Fld.PAIR_STATUS_CONFIGURED = true) (h : s.pair.lastLink + 9000 ≤ s.now) :
    GoesOn (exec .pairLinkDown s) State.cmpAll (fun w => w.fb Fld.PAIR_STATUS_PAIR_LINK_DOWN = true ∧ Keeps [.regs] s w ∧
      RegsKeep [Reg.PAIR_STATUS.addr] s w) :=
  ⟨_, exec_guarded (by simp [hconf, h]), fb_fbw_self s _ _ (by decide) (by decide) (by decide), keeps_fbw s _ _,
    regsKeep_fbw s Fld.PAIR_STATUS_PAIR_LINK_DOWN true⟩

theorem pairLinkDown_early {s : State} (h : s.now < s.pair.lastLink + 9000) : exec .pairLinkDown s = .next s :=
  congrArg Host.Outcome.next (if_neg (by simp; omega))

theorem fabricPathSilent_shows {s : State} (h : s.pair.lastFab + 2000000 ≤ s.now) : Goes (exec .fabricPathSilent s) (fun u =>
    u.fb Fld.PAIR_STATUS_FABRIC_OK = false ∧ Keeps [.regs] s u ∧ RegsKeep [Reg.PAIR_STATUS.addr] s u) :=
  ⟨_, congrArg Host.Outcome.next (if_pos h), fb_fbw_self s _ _ (by decide) (by decide) (by decide), keeps_fbw s _ _,
    regsKeep_fbw s Fld.PAIR_STATUS_FABRIC_OK false⟩

/-- The fabric path shown silent. -/
def fabSilent (s : State) : State := s.fbw Fld.PAIR_STATUS_FABRIC_OK false

theorem takeSame_fabSilent (n : Nat) (s : State) : TakeSame n s s.fabSilent := by
  have hkeeps := keeps_fbw s Fld.PAIR_STATUS_FABRIC_OK false
  exact takeSame_pairStatus n ⟨congrArg Pair.conds (hkeeps .pair (by decide)), congrArg Pair.svcs (hkeeps .pair (by decide))⟩
    (hkeeps .rim (by decide)) ((regsKeep_fbw s Fld.PAIR_STATUS_FABRIC_OK false).mono (by simp [Fld.PAIR_STATUS_FABRIC_OK]))
    (fun k => strState_fw_low s _ k rfl rfl (by decide))
    (fb_fbw_apart s Fld.PAIR_STATUS_FABRIC_OK Fld.PAIR_STATUS_POS_CONFLICT _ rfl (by decide) (by decide) (by decide))
    (fd_fbw_apart s Fld.PAIR_STATUS_FABRIC_OK Fld.PAIR_STATUS_POS _ rfl (by decide) (by decide) (by decide))

/-- A service taken where the partner is silent. -/
def silentTaken (s : State) (n : Nat) : State :=
  if s.mayTake n then s.becomeActive n (s.now + 2000 * s.fd Fld.PAIR_CFG_BEACON_US) true else s

theorem svcChange_silentTaken (s : State) (n : Nat) : SvcChange n s (s.silentTaken n) := by
  unfold silentTaken
  split
  · next hmay => exact svcChange_becomeActive s _ true (by have := mayTake_role hmay; omega)
  · exact .refl n s

theorem role_silentTaken {s : State} {n : Nat} (hmay : s.mayTake n = true) (hepoch : s.nextEpoch n ≤ 0x7FFFFFFF) :
    (s.silentTaken n).svcRole n = 3 := by
  rw [silentTaken, if_pos hmay]
  exact (becomeActive_takes _ true hepoch).1

theorem silentTaken_active {s : State} {n : Nat} (h : s.svcRole n = 3) : s.silentTaken n = s :=
  if_neg (by rw [mayTake, h]; exact Bool.false_ne_true)

theorem silenceExpiry_shows {s : State} (hconf : s.fb Fld.PAIR_STATUS_CONFIGURED = true) (hlink : s.pair.lastLink + 2000000 ≤ s.now)
    (hfab : s.pair.lastFab + 2000000 ≤ s.now) : Goes (exec .silenceExpiry s) (fun u =>
      u.fd Fld.PAIR_STATUS_PARTNER = 3 ∧ u.fb Fld.PAIR_STATUS_FABRIC_OK = false ∧ u.mem = s.mem ∧
      ∀ n, n < 64 → s.mayTake n = true → max (s.claim n / 2) (s.peerClaim n / 2) < 0x7FFFFFFF → u.svcRole n = 3) := by
  have hexec : exec .silenceExpiry s = .next ((s.fabSilent.setPartner 3).svcsOn.foldl silentTaken (s.fabSilent.setPartner 3)) :=
    congrArg Host.Outcome.next (if_pos (by simp [hconf, hlink, hfab]))
  have hpartner := partner_setPartner s.fabSilent (v := 3) (by decide)
  have hsilent : (s.fabSilent.setPartner 3).fb Fld.PAIR_STATUS_FABRIC_OK = false :=
    (congrArg (· != 0) (fd_setPartner_apart s.fabSilent 3 (f := Fld.PAIR_STATUS_FABRIC_OK) rfl (by decide) (by decide))).trans
      (fb_fbw_self s _ _ (by decide) (by decide) (by decide))
  have hmem : (s.fabSilent.setPartner 3).mem = s.mem :=
    ((setPartner_frame s.fabSilent 3).1 .mem (by decide)).trans (keeps_fbw s Fld.PAIR_STATUS_FABRIC_OK false .mem (by decide))
  have hsame : ∀ n, TakeSame n s (s.fabSilent.setPartner 3) := fun n => (takeSame_fabSilent n s).trans (takeSame_setPartner n _ 3)
  rw [hexec]
  generalize s.fabSilent.setPartner 3 = w at hpartner hsilent hmem hsame
  have hstatus : (w.svcsOn.foldl silentTaken w).rd Reg.PAIR_STATUS = w.rd Reg.PAIR_STATUS :=
    List.foldlRecOn (motive := fun u : State => u.rd Reg.PAIR_STATUS = w.rd Reg.PAIR_STATUS) w.svcsOn silentTaken rfl fun u hu n _ =>
      ((svcChange_silentTaken u n).regs Reg.PAIR_STATUS (by decide) (.inl (by simp only [Reg.PAIR_STATUS]; omega))).trans hu
  refine ⟨_, rfl, (fd_of_rd hstatus).trans hpartner, ?_, ?_, fun n hn hmay hepoch => ?_⟩
  · exact (congrArg (· != 0) (fd_of_rd (f := Fld.PAIR_STATUS_FABRIC_OK) hstatus)).trans hsilent
  · exact ((Keeps.foldl w fun u n _ => (svcChange_silentTaken u n).keeps) .mem (by decide)).trans hmem
  · have hrole := mayTake_role hmay
    have hin : n ∈ w.svcsOn := mem_svcsOn.2 ⟨hn, by rw [(hsame n).role]; omega⟩
    refine foldl_once (P := fun u => TakeSame n s u) (Q := fun u : State => u.svcRole n = 3)
      (fun u b hb hu => hu.trans (svcChange_takeSame (svcChange_silentTaken u b) hb.symm)) (fun u hu => ?_) (fun u b hu => ?_) hin (hsame n)
    · exact role_silentTaken (by rw [mayTake_takeSame hu, hmay]) (by rw [nextEpoch, hu.claim, hu.peerClaim]; omega)
    · by_cases hb : n = b
      · subst hb
        rw [silentTaken_active hu, hu]
      · exact (svcChange_takeSame (svcChange_silentTaken u b) hb).role.trans hu

theorem silenceExpiry_early {s : State} (h : s.now < s.pair.lastLink + 2000000) : exec .silenceExpiry s = .next s :=
  congrArg Host.Outcome.next (if_neg (by simp; omega))

/-! ## The fabric poll (12 R436) -/

theorem srcUnit_make (addr srcMod unit size op : Nat) (data : List Byte) :
    (Req.make addr srcMod unit size op none data).srcUnit = unit % 2 ^ 7 := by
  simp only [Req.srcUnit, Req.make, BitVec.toNat_ofNat, bits]
  omega

theorem fabricPoll_sends {s : State} (hconf : s.fb Fld.PAIR_STATUS_CONFIGURED = true) {q : Req}
    (hq : q = Req.make (s.fd Fld.PAIR_CFG_PARTNER_MOD * 2 ^ 52 + 5 * 2 ^ 48 + 0x080) s.srcMod 0x35 8 opLoad none [])
    (hissue : (s.issueCheck q).isSome = false) :
    Goes (exec .fabricPoll s) (fun u => Out.request q ∈ u.out ∧ u.mem = s.mem ∧ u.pair = s.pair) := by
  have hexec : exec .fabricPoll s = .next (if s.fb Fld.PAIR_STATUS_CONFIGURED then s.partnerLoad 0x080 else s) := rfl
  have hload : s.partnerLoad 0x080 = s.sendFar q := by
    rw [partnerLoad, ← hq, hissue]
    rfl
  have hunit : q.srcUnit ≠ mccUnit := by
    rw [hq, srcUnit_make]
    decide
  have hsend : s.sendFar q = s.launch q := congrArg s.launch (if_neg hunit)
  obtain ⟨hparts, -, -⟩ := linkFrame_launch s q
  rw [hexec, hconf, if_pos rfl, hload, hsend]
  exact ⟨_, rfl, mem_out_launch s q, hparts .mem (by decide), hparts .pair (by decide)⟩

/-- The partner's HEARTBEAT seen to advance. -/
def beatSeen (s : State) (beat : Nat) : State := { s with pair := { s.pair with lastFab := s.now, peerBeat := beat } }

theorem keeps_beatSeen (s : State) (beat : Nat) : Keeps [.pair] s (s.beatSeen beat) := keeps_withPair s _

/-- A healthy partner whose HEARTBEAT advanced and whose claims did not change. -/
theorem partnerHealth_healthy {s : State} {v : Nat} (hbit : bit v 31 = true) (hbeat : s.pair.peerBeat < bits v 32 32)
    (hgen : s.pair.peerGen = some (bits v 0 16)) :
    s.partnerHealth v = ((s.beatSeen (bits v 32 32)).fbw Fld.PAIR_STATUS_FABRIC_OK true).setPartner 1 := by
  have hpair := ((setPartner_frame ((s.beatSeen (bits v 32 32)).fbw Fld.PAIR_STATUS_FABRIC_OK true) 1).1 .pair (by decide)).trans
    (keeps_fbw (s.beatSeen (bits v 32 32)) Fld.PAIR_STATUS_FABRIC_OK true .pair (by decide))
  unfold partnerHealth
  extract_lets beat healthy gen old src s1 src1 s2
  have h2 : s2 = ((s.beatSeen (bits v 32 32)).fbw Fld.PAIR_STATUS_FABRIC_OK true).setPartner 1 := by
    dsimp only [s2]
    exact if_pos (by simp [healthy, old, beat, hbit, hbeat])
  rw [h2]
  refine if_pos ?_
  rw [hpair]
  exact hgen

theorem fabricPollResult_healthy {s : State} {v : Nat} (hconf : s.fb Fld.PAIR_STATUS_CONFIGURED = true) (hbit : bit v 31 = true)
    (hbeat : s.pair.peerBeat < bits v 32 32) (hgen : s.pair.peerGen = some (bits v 0 16)) :
    Goes (exec (.fabricPollResult Sts.ok 0x080 v) s) (fun u => u.fb Fld.PAIR_STATUS_FABRIC_OK = true ∧ u.fd Fld.PAIR_STATUS_PARTNER = 1 ∧
      u.pair = { s.pair with lastFab := s.now, peerBeat := bits v 32 32 } ∧ u.mem = s.mem) := by
  have hexec : exec (.fabricPollResult Sts.ok 0x080 v) s = .next (s.partnerHealth v) := by
    refine congrArg Host.Outcome.next ?_
    rw [hconf]
    rfl
  rw [hexec, partnerHealth_healthy hbit hbeat hgen]
  have hseen := keeps_beatSeen s (bits v 32 32)
  have hok := keeps_fbw (s.beatSeen (bits v 32 32)) Fld.PAIR_STATUS_FABRIC_OK true
  have hset := fb_fbw_self (s.beatSeen (bits v 32 32)) Fld.PAIR_STATUS_FABRIC_OK true (by decide) (by decide) (by decide)
  have hpair : (s.beatSeen (bits v 32 32)).pair = { s.pair with lastFab := s.now, peerBeat := bits v 32 32 } := rfl
  generalize s.beatSeen (bits v 32 32) = w at hseen hok hset hpair
  generalize w.fbw Fld.PAIR_STATUS_FABRIC_OK true = x at hok hset
  have hpartner := partner_setPartner x (v := 1) (by decide)
  obtain ⟨hframe, -⟩ := setPartner_frame x 1
  refine ⟨_, rfl, ?_, hpartner, (hframe .pair (by decide)).trans ((hok .pair (by decide)).trans hpair),
    (hframe .mem (by decide)).trans ((hok .mem (by decide)).trans (hseen .mem (by decide)))⟩
  exact (congrArg (· != 0) (fd_setPartner_apart x 1 (f := Fld.PAIR_STATUS_FABRIC_OK) rfl (by decide) (by decide))).trans hset

theorem fabricPollResult_fails (s : State) {st : Nat} (off v : Nat) (h : st ≠ Sts.ok) : exec (.fabricPollResult st off v) s = .next s :=
  congrArg Host.Outcome.next (if_pos (by simp [h]))

/-! ## Beacons (12 R440, R441) -/

/-- The alarms of a service that is not ACTIVE dropped. -/
def alarmsDropped (s : State) (n : Nat) : State := if s.svcRole n = 3 then s else s.updSvc n (fun x => { x with alarms := [] })

/-- A beacon or an alarm due sent. -/
def beaconSent (s : State) (l : List Nat) (t ports time : Nat) : State :=
  match l.find? (fun n => (s.alarmDue n).isSome && s.outputRule n t (s.svcK n)) with
  | some n => (s.rimSend ports s.pair.da s.pair.vlan ⟨3, s.fd (Fld.PAIR_SVC_STATUS_ID n), 0, s.claim n, s.svcK n, time, 0, 0⟩
      (s.alarmBody ((s.alarmDue n).getD 1))).updSvc n (fun x => { x with alarms := x.alarms.drop 1 })
  | none => s.rimSend ports s.pair.da s.pair.vlan ⟨2, 0, 0, 0, s.pair.beacons, time, 0, 0⟩ s.beaconBody

/-- A beacon counted. -/
def beaconCounted (s : State) : State := { s with pair := { s.pair with beacons := s.pair.beacons + 1 } }

theorem keeps_beaconCounted (s : State) : Keeps [.pair] s s.beaconCounted := keeps_withPair s _

theorem beaconAt_eq (s : State) (t : Nat) : ∃ (l : List Nat) (ports time : Nat), s.beaconAt t = ((l.foldl alarmsDropped s).beaconSent l t ports time).beaconCounted :=
  ⟨_, _, _, rfl⟩

/-- What a beacon instant keeps until the beacon is counted. -/
structure BeaconKept (s t : State) : Prop where
  beacons : t.pair.beacons = s.pair.beacons
  mem : t.mem = s.mem
  rim : t.rim = s.rim

theorem beaconKept_updSvc {s t : State} (h : BeaconKept s t) (n : Nat) (f : PairSvc → PairSvc) : BeaconKept s (t.updSvc n f) :=
  ⟨h.beacons, (keeps_updSvc t n f .mem (by decide)).trans h.mem, (keeps_updSvc t n f .rim (by decide)).trans h.rim⟩

theorem beaconKept_rimSend {s t : State} (h : BeaconKept s t) (ports da vlan : Nat) (hd : RimHead) (data : List Byte) :
    BeaconKept s (t.rimSend ports da vlan hd data) := by
  obtain ⟨hkeeps, -⟩ := rimSend_frame t ports da vlan hd data
  exact ⟨(congrArg Pair.beacons (hkeeps .pair (by decide))).trans h.beacons, (hkeeps .mem (by decide)).trans h.mem,
    (hkeeps .rim (by decide)).trans h.rim⟩

theorem beaconKept_sent (s : State) (l : List Nat) (t ports time : Nat) : BeaconKept s ((l.foldl alarmsDropped s).beaconSent l t ports time) := by
  have hdropped : BeaconKept s (l.foldl alarmsDropped s) :=
    List.foldlRecOn (motive := BeaconKept s) l alarmsDropped ⟨rfl, rfl, rfl⟩ fun u hu n _ => by
      unfold alarmsDropped
      split
      · exact hu
      · exact beaconKept_updSvc hu n _
  unfold beaconSent
  split
  · exact beaconKept_updSvc (beaconKept_rimSend hdropped _ _ _ _ _) _ _
  · exact beaconKept_rimSend hdropped _ _ _ _ _

theorem claimBeaconRelease_counts {s : State} {t : Nat} (hnext : s.nextBeacon = some t) (ht : t ≤ s.now) :
    Goes (exec .claimBeaconRelease s) (fun u => u.pair.beacons = s.pair.beacons + 1 ∧ u.mem = s.mem ∧ u.rim = s.rim) := by
  have hexec : exec .claimBeaconRelease s = .next (s.beaconAt t) := by
    refine congrArg Host.Outcome.next ?_
    rw [hnext]
    exact if_pos ht
  obtain ⟨l, ports, time, heq⟩ := beaconAt_eq s t
  obtain ⟨hbeacons, hmem, hrim⟩ := beaconKept_sent s l t ports time
  rw [hexec, heq]
  have hcount := keeps_beaconCounted ((l.foldl alarmsDropped s).beaconSent l t ports time)
  exact ⟨_, rfl, congrArg (· + 1) hbeacons, (hcount .mem (by decide)).trans hmem, (hcount .rim (by decide)).trans hrim⟩

theorem claimBeaconRelease_early {s : State} {t : Nat} (hnext : s.nextBeacon = some t) (ht : s.now < t) : exec .claimBeaconRelease s = .next s := by
  refine congrArg Host.Outcome.next ?_
  rw [hnext]
  exact if_neg (Nat.not_le.2 ht)

theorem claimBeaconReceive_input {s w : State} {port : Nat} {frame plain : List Byte} (hport : port ≤ 1)
    (h : s.pltPolice port frame = (w, some plain)) : exec (.claimBeaconReceive port frame) s = .next (w.frameIn port plain) := by
  refine congrArg Host.Outcome.next ?_
  rw [if_neg (Nat.not_lt.2 hport), h]

/-! ## Deadlines (12 R446, R449) -/

/-- An index's digests forgotten. -/
def indexForgotten (s : State) (n k : Nat) : State :=
  s.updSvc n (fun x => { x with own := x.own.filter (fun e => e.1 != k), peer := x.peer.filter (fun e => e.1 != k) })

theorem exec_digestDeadline {s : State} {n k slot : Nat} {r : RimRun} (hon : s.svcOn n = true) (hstep : s.svcStep n = false)
    (hslot : s.svcSlot n = some slot) (hrun : s.rim.runs.find? (fun r => r.slot == slot && r.k == k) = some r) :
    exec (.digestDeadline n k) s = .next (if r.tr ≤ s.now + 40 then s.indexForgotten n k else s) := by
  refine congrArg Host.Outcome.next ?_
  rw [if_neg (by simp [hon, hstep]), hslot]
  simp only [hrun]
  rfl

theorem indexForgotten_shows (s : State) (n k : Nat) : Keeps [.pair] s (s.indexForgotten n k) ∧ (∀ e ∈ ((s.indexForgotten n k).svc n).own, e.1 ≠ k) ∧
    (∀ e ∈ ((s.indexForgotten n k).svc n).peer, e.1 ≠ k) ∧ ((s.indexForgotten n k).svc n).compared = (s.svc n).compared := by
  refine ⟨keeps_updSvc s n _, ?_⟩
  rw [indexForgotten, svc_updSvc_self]
  exact ⟨fun e he => by simpa using (List.mem_filter.1 he).2, fun e he => by simpa using (List.mem_filter.1 he).2, rfl⟩

/-- A wait that ends UNVERIFIED. -/
def waitUnverified (s : State) (n : Nat) : State := (s.updSvc n (fun x => { x with waiting := false })).fw (Fld.PAIR_SVC_STATUS_CMP n) 1

theorem exec_katVerdictTimeout {s : State} {n : Nat} (hon : s.svcOn n = true) (hwait : (s.svc n).waiting = true)
    (hpeer : (s.svc n).peerVerdict = none) (hslot : s.svcSlot n = none) (hsince : (s.svc n).since ≤ s.now) :
    exec (.katVerdictTimeout n) s = .next (s.waitUnverified n) := by
  refine congrArg Host.Outcome.next (if_pos ?_)
  rw [hslot]
  simp [hon, hwait, hpeer, hsince]

theorem waitUnverified_shows (s : State) (n : Nat) : (s.waitUnverified n).svcCmp n = 1 ∧ ((s.waitUnverified n).svc n).waiting = false ∧
    Keeps [.regs, .pair] s (s.waitUnverified n) := by
  obtain ⟨u, hu⟩ : ∃ u, u = s.updSvc n (fun x => { x with waiting := false }) := ⟨_, rfl⟩
  have hkeeps : Keeps [.pair] s u := hu ▸ keeps_updSvc s n _
  have hwait : (u.svc n).waiting = false := by rw [hu, svc_updSvc_self]
  have hsvc : (u.fw (Fld.PAIR_SVC_STATUS_CMP n) 1).svc n = u.svc n := svc_congr (congrArg Pair.svcs (keeps_fw u _ _ .pair (by decide))) n
  rw [waitUnverified, ← hu, hsvc]
  exact ⟨fd_svc_self u n (by decide) (by decide), hwait, (hkeeps.mono (by simp)).trans ((keeps_fw u _ _).mono (by simp))⟩

theorem katVerdictTimeout_idle {s : State} {n : Nat} (h : (s.svc n).waiting = false) : exec (.katVerdictTimeout n) s = .next s :=
  congrArg Host.Outcome.next (if_neg (by simp [h]))

end Sys2Proof.Machine.State

namespace Sys2Proof

open Sys2Proof.Machine Sys2Proof.Machine.State Sys2Proof.Safety

/-- Settles O41: each timer acts at its time and not before, and a module that may takes the services of a silent partner. -/
theorem pairingTimersAct : Obligations.PairingTimersAct := by
  refine ⟨fun s habsent => pairLinkUp_sends habsent, fun s => linkSyncLost_shows s,
    fun s habsent => ⟨helloPeriod_sends habsent, helloPeriod_down habsent⟩, fun s habsent hidle => healthPeriod_sends habsent hidle,
    fun s => claimRepeat_sends s, fun s hconf => ⟨pairLinkDown_shows hconf, pairLinkDown_early⟩, ?_, ?_, ?_, ?_, ?_, ?_, ?_, ?_, ?_, ?_, ?_, ?_⟩
  · exact fun s hconf hissue => fabricPoll_sends hconf rfl hissue
  · exact fun s v hconf hbit hbeat hgen => fabricPollResult_healthy hconf hbit hbeat hgen
  · exact fun s st off v h => fabricPollResult_fails s off v h
  · exact fun s => ⟨fabricPathSilent_shows, fun h => congrArg Host.Outcome.next (if_neg (Nat.not_le.2 h))⟩
  · exact fun s hconf => ⟨silenceExpiry_shows hconf, silenceExpiry_early⟩
  · exact fun s t hnext => ⟨claimBeaconRelease_counts hnext, claimBeaconRelease_early hnext⟩
  · exact fun s w port frame plain hport h => claimBeaconReceive_input hport h
  · intro s n k slot r hon hstep hslot hrun
    rw [exec_digestDeadline hon hstep hslot hrun]
    refine ⟨fun h => ?_, fun h => ?_⟩
    · rw [if_pos h]
      exact ⟨_, rfl, indexForgotten_shows s n k⟩
    · rw [if_neg (Nat.not_le.2 h)]
  · exact fun s n hon hwait hpeer hslot hsince => ⟨_, exec_katVerdictTimeout hon hwait hpeer hslot hsince, waitUnverified_shows s n⟩
  · exact fun s n h => katVerdictTimeout_idle h
  · exact fun s n v hn hrole hstep => ⟨_, rfl, stepDigest_steps hn hrole hstep v⟩
  · exact fun s n v hstep => congrArg Host.Outcome.next (if_pos (by simp [hstep]))

end Sys2Proof
end

section
/-! The Pairing commands (O42). -/

namespace Sys2Proof.Safety

open Sys2Proof.Machine Sys2Proof.Machine.State

/-- Service `n` and memory are as before. -/
structure SvcSame (n : Nat) (s t : State) : Prop where
  svc : t.svc n = s.svc n
  regs : ∀ r : Reg, SvcReg n r → t.rd r = s.rd r
  mem : t.mem = s.mem

namespace SvcSame

variable {n : Nat} {s t u : State}

theorem refl (n : Nat) (s : State) : SvcSame n s s := ⟨rfl, fun _ _ => rfl, rfl⟩

theorem trans (h : SvcSame n s t) (h' : SvcSame n t u) : SvcSame n s u :=
  ⟨h'.svc.trans h.svc, fun r hr => (h'.regs r hr).trans (h.regs r hr), h'.mem.trans h.mem⟩

theorem of_keeps {ps : List Part} (h : Keeps ps s t) (hregs : Part.regs ∉ ps) (hpair : Part.pair ∉ ps) (hmem : Part.mem ∉ ps) : SvcSame n s t :=
  ⟨svc_congr (congrArg Pair.svcs (h .pair hpair)) n, fun r _ => h.rd hregs r, h .mem hmem⟩

theorem updSvc (s : State) {m : Nat} (hm : n ≠ m) (f : PairSvc → PairSvc) : SvcSame n s (s.updSvc m f) :=
  ⟨svc_setSvc_ne s _ hm, fun r _ => (keeps_updSvc s m f).rd (by decide) r, keeps_updSvc s m f .mem (by decide)⟩

/-- Another service's STATUS written. -/
theorem fw (s : State) {m : Nat} (hm : n ≠ m) (lo w v : Nat) : SvcSame n s (s.fw ⟨Reg.PAIR_SVC_STATUS m, lo, w⟩ v) :=
  ⟨svc_congr (congrArg Pair.svcs (keeps_fw s _ v .pair (by decide))) n, fun r hr => rd_fw_ne s _ r v (by
    obtain ⟨hlow, hhigh⟩ := hr
    simp only [Reg.PAIR_SVC_STATUS]
    omega), keeps_fw s _ v .mem (by decide)⟩

theorem genCounted (s : State) : SvcSame n s s.genCounted :=
  ⟨svc_congr rfl n, fun r _ => (keeps_genCounted s).rd (by decide) r, keeps_genCounted s .mem (by decide)⟩

theorem setRole (s : State) {m : Nat} (hm : n ≠ m) (role : Nat) : SvcSame n s (s.setRole m role) := by
  by_cases hsame : s.svcRole m = role
  · rw [setRole_same hsame]
    exact .refl n s
  · rw [setRole_other hsame]
    exact (fw s hm 29 3 role).trans (genCounted _)

theorem role (h : SvcSame n s t) : t.svcRole n = s.svcRole n := fd_of_rd (h.regs _ (svcReg_status n))

end SvcSame

/-- What a FAIL condition leaves of the service that enters it. -/
structure FailKept (n : Nat) (s t : State) : Prop where
  step : t.svcStep n = s.svcStep n
  ident : t.fd (Fld.PAIR_SVC_STATUS_ID n) = s.fd (Fld.PAIR_SVC_STATUS_ID n)
  claim : t.claim n = s.claim n
  peerClaim : t.peerClaim n = s.peerClaim n
  mem : t.mem = s.mem

theorem FailKept.trans {n : Nat} {s t u : State} (h : FailKept n s t) (h' : FailKept n t u) : FailKept n s u :=
  ⟨h'.step.trans h.step, h'.ident.trans h.ident, h'.claim.trans h.claim, h'.peerClaim.trans h.peerClaim, h'.mem.trans h.mem⟩

theorem SvcSame.failKept {n : Nat} {s t : State} (h : SvcSame n s t) : FailKept n s t := by
  have hstatus := h.regs _ (svcReg_status n)
  exact ⟨congrArg (· != 0) (fd_of_rd (f := Fld.PAIR_SVC_STATUS_TYPE n) hstatus), fd_of_rd hstatus, h.regs _ (by simp [SvcReg, Reg.PAIR_SVC_CLAIM]),
    h.regs _ (by simp [SvcReg, Reg.PAIR_SVC_PEER_CLAIM]), h.mem⟩

end Sys2Proof.Safety

namespace Sys2Proof.Machine.State

open Sys2Proof.Safety

/-! ## What the check of FAIL conditions does to one service (12 R453, R458) -/

section
variable {s : State} {n : Nat}

theorem svcSame_svcFail (s : State) {e : Nat × Nat} (h : n ≠ e.1) : SvcSame n s (s.svcFail e) := (SvcSame.setRole s h 4).trans (.updSvc _ h _)

theorem svcSame_svcReturn (s : State) {m : Nat} (h : n ≠ m) : SvcSame n s (s.svcReturn m) := by
  have hback : SvcSame n s (s.svcBack m) := ((SvcSame.setRole s h 1).trans (.fw _ h 16 5 0)).trans (.updSvc _ h _)
  unfold svcReturn
  split
  · exact hback.trans (.of_keeps (keeps_askKat _ _ _) (by decide) (by decide) (by decide))
  · exact hback

theorem svcSame_told (l : List (Nat × Nat)) (s : State) : SvcSame n s ([1, 2, 3, 4, 5].foldl (failTold l) s) :=
  .of_keeps (Keeps.foldl (ps := [.out]) s fun u c _ => keeps_failTold l u c) (by decide) (by decide) (by decide)

theorem svcSame_returns (s : State) {l : List Nat} (h : n ∉ l) : SvcSame n s (l.foldl svcReturn s) :=
  List.foldlRecOn (motive := SvcSame n s) l svcReturn (.refl n s) fun _ hu m hm => hu.trans (svcSame_svcReturn _ (fun heq => h (heq ▸ hm)))

theorem svcSame_health (s : State) (b : Bool) : SvcSame n s { s with pair := { s.pair with healthy := b } } :=
  ⟨svc_congr rfl n, fun r _ => (keeps_withPair s { s.pair with healthy := b }).rd (by decide) r, rfl⟩

theorem mem_failing {c : Nat} (h : (n, c) ∈ s.failing) : s.svcRole n ≠ 4 ∧ s.failCause n = some c ∧ n ∈ s.svcsOn := by
  obtain ⟨m, hm, he⟩ := List.mem_filterMap.1 h
  obtain ⟨d, hd, heq⟩ := Option.map_eq_some_iff.1 he
  obtain ⟨rfl, rfl⟩ := Prod.mk.injEq .. ▸ heq
  obtain ⟨hon, hrole⟩ := List.mem_filter.1 hm
  exact ⟨by simpa using hrole, hd, hon⟩

/-- A service that neither enters nor leaves a FAIL condition stays as it is. -/
theorem svcSame_pairCheck (hcause : s.svcRole n = 0 ∨ s.failCause n = none) (hback : s.svcRole n ≠ 4) : SvcSame n s s.pairCheck := by
  have hnot : ∀ e ∈ s.failing, n ≠ e.1 := fun e he heq => by
    obtain ⟨-, hsome, hon⟩ := mem_failing (n := n) (c := e.2) (by rw [heq]; exact he)
    rcases hcause with hoff | hnone
    · exact (mem_svcsOn.1 hon).2 hoff
    · rw [hnone] at hsome
      cases hsome
  have hfails : SvcSame n s (s.failing.foldl svcFail s) :=
    List.foldlRecOn (motive := SvcSame n s) s.failing svcFail (.refl n s) fun _ hu e he => hu.trans (svcSame_svcFail _ (hnot e he))
  have hreturn : n ∉ s.returning := fun h => by
    have hrole := (List.mem_filter.1 h).2
    simp [hback] at hrole
  rw [pairCheck_eq]
  exact ((hfails.trans (svcSame_told _ _)).trans (svcSame_returns _ hreturn)).trans (svcSame_health _ _)

theorem failKept_setRole (s : State) (n role : Nat) : FailKept n s (s.setRole n role) := by
  by_cases hsame : s.svcRole n = role
  · rw [setRole_same hsame]
    exact (SvcSame.refl n s).failKept
  · rw [setRole_other hsame]
    refine FailKept.trans (t := s.fw (Fld.PAIR_SVC_STATUS_ROLE n) role) ⟨?_, ?_, ?_, ?_, keeps_fw s _ role .mem (by decide)⟩ ?_
    · exact congrArg (· != 0) (fd_svc_apart (lo' := 26) (w' := 1) s n role (.inl (by decide)) (by decide))
    · exact fd_svc_apart s n role (.inl (by decide)) (by decide)
    · exact rd_fw_ne s _ _ role (by simp [Reg.PAIR_SVC_CLAIM, Fld.PAIR_SVC_STATUS_ROLE, Reg.PAIR_SVC_STATUS])
    · exact rd_fw_ne s _ _ role (by simp [Reg.PAIR_SVC_PEER_CLAIM, Fld.PAIR_SVC_STATUS_ROLE, Reg.PAIR_SVC_STATUS])
    · generalize s.fw (Fld.PAIR_SVC_STATUS_ROLE n) role = u
      have h := keeps_genCounted u
      exact ⟨h.fb (by decide) _, h.fd (by decide) _, h.rd (by decide) _, h.rd (by decide) _, h .mem (by decide)⟩

theorem failKept_updSvc (s : State) (n : Nat) (f : PairSvc → PairSvc) : FailKept n s (s.updSvc n f) := by
  have h := keeps_updSvc s n f
  exact ⟨h.fb (by decide) _, h.fd (by decide) _, h.rd (by decide) _, h.rd (by decide) _, h .mem (by decide)⟩

theorem svcFail_shows (s : State) (e : Nat × Nat) : FailKept e.1 s (s.svcFail e) ∧ (s.svcFail e).svcRole e.1 = 4 :=
  ⟨(failKept_setRole s e.1 4).trans (failKept_updSvc _ e.1 _), ((keeps_updSvc _ e.1 _).fd (by decide) _).trans (svcRole_setRole s e.1 (by decide))⟩

/-- A service that enters a FAIL condition is FAILED. -/
theorem pairCheck_fails (hn : n < 64) (hon : s.svcRole n ≠ 0) (hrole : s.svcRole n ≠ 4) {c : Nat} (hcause : s.failCause n = some c) :
    FailKept n s s.pairCheck ∧ s.pairCheck.svcRole n = 4 := by
  have hin : (n, c) ∈ s.failing :=
    List.mem_filterMap.2 ⟨n, List.mem_filter.2 ⟨mem_svcsOn.2 ⟨hn, hon⟩, by simpa using hrole⟩, by rw [hcause]; rfl⟩
  have hkept : ∀ u e, FailKept n u (u.svcFail e) := fun u e => by
    by_cases he : n = e.1
    · subst he
      exact (svcFail_shows u e).1
    · exact (svcSame_svcFail u he).failKept
  have hfails : FailKept n s (s.failing.foldl svcFail s) ∧ (s.failing.foldl svcFail s).svcRole n = 4 := by
    refine foldl_reaches (P := fun u => FailKept n s u) (Q := fun u => FailKept n s u ∧ u.svcRole n = 4) (fun u e hu => hu.trans (hkept u e))
      (fun u hu => ⟨hu.trans (hkept u _), (svcFail_shows u (n, c)).2⟩) (fun u e hu => ⟨hu.1.trans (hkept u e), ?_⟩) hin (SvcSame.refl n s).failKept
    by_cases he : n = e.1
    · subst he
      exact (svcFail_shows u e).2
    · exact (svcSame_svcFail u he).role.trans hu.2
  have hreturn : n ∉ s.returning := fun h => by
    have hrole' := (List.mem_filter.1 h).2
    simp [hrole] at hrole'
  have hrest : SvcSame n (s.failing.foldl svcFail s) s.pairCheck := by
    rw [pairCheck_eq]
    exact ((svcSame_told _ _).trans (svcSame_returns _ hreturn)).trans (svcSame_health _ _)
  exact ⟨hfails.1.trans hrest.failKept, hrest.role.trans hfails.2⟩

end

/-! ## PAIR_CONFIG (12 R427) -/

section
variable {s s1 : State} {via : Via} {p : Packet} {j : Job}

/-- A pair configured. -/
def pairConfigured (s : State) (v da vlan : Nat) : State :=
  let u := (s.wr Reg.PAIR_CFG v).fbw Fld.PAIR_STATUS_CONFIGURED true
  { u with pair := { u.pair with da := da, vlan := vlan, lastLink := u.now, lastFab := u.now, peerBeat := 0, peerGen := none } }

/-- PAIR_CFG as a command packs it. -/
def pairCfgWord (p : Packet) : Nat := p.u16 16 * 2 ^ 48 + p.u16 18 * 2 ^ 36 + p.u16 20 * 2 ^ 24 + p.u32 24 / 10

theorem pairConfigured_shows (s : State) (v da vlan : Nat) : Keeps [.regs, .pair] s (s.pairConfigured v da vlan) ∧
    RegsKeep [Reg.PAIR_CFG.addr, Reg.PAIR_STATUS.addr] s (s.pairConfigured v da vlan) ∧
    (s.pairConfigured v da vlan).fb Fld.PAIR_STATUS_CONFIGURED = true ∧ (s.pairConfigured v da vlan).rd Reg.PAIR_CFG = v % 2 ^ 64 ∧
    (s.pairConfigured v da vlan).pair.da = da ∧ (s.pairConfigured v da vlan).pair.vlan = vlan := by
  unfold pairConfigured
  extract_lets u
  have hkeeps : Keeps [.regs] s u := (keeps_wr s _ _).trans (keeps_fbw _ _ _)
  have hregs : RegsKeep [Reg.PAIR_CFG.addr, Reg.PAIR_STATUS.addr] s u := ((regsKeep_wr s Reg.PAIR_CFG v).mono (by simp)).trans
    ((regsKeep_fbw _ Fld.PAIR_STATUS_CONFIGURED true).mono (by simp [Fld.PAIR_STATUS_CONFIGURED]))
  have hset : u.fb Fld.PAIR_STATUS_CONFIGURED = true := fb_fbw_self _ _ _ (by decide) (by decide) (by decide)
  have hcfg : u.rd Reg.PAIR_CFG = v % 2 ^ 64 :=
    ((regsKeep_fbw _ Fld.PAIR_STATUS_CONFIGURED true).rd (by decide)).trans (rd_wr_self s Reg.PAIR_CFG v (by decide))
  clear_value u
  have hlast := keeps_withPair u { u.pair with da := da, vlan := vlan, lastLink := u.now, lastFab := u.now, peerBeat := 0, peerGen := none }
  exact ⟨(hkeeps.mono (by simp)).trans (hlast.mono (by simp)), hregs.trans (hlast.regsKeep (by decide) _), (hlast.fb (by decide) _).trans hset,
    (hlast.rd (by decide) _).trans hcfg, rfl, rfl⟩

/-- The fields of PAIR_CFG as packed. -/
theorem pairCfgWord_fields (p : Packet) (hmod : p.u16 18 ≤ 4094) (hus : p.u16 20 ≤ 1000) (hoff : p.u32 24 / 10 < 2 ^ 24) :
    bits (pairCfgWord p % 2 ^ 64) 48 16 = p.u16 16 ∧ bits (pairCfgWord p % 2 ^ 64) 36 12 = p.u16 18 ∧
      bits (pairCfgWord p % 2 ^ 64) 24 10 = p.u16 20 ∧ bits (pairCfgWord p % 2 ^ 64) 0 24 = p.u32 24 / 10 := by
  have hid : p.u16 16 < 2 ^ 16 := bits_lt _ _ 16
  simp only [bits, pairCfgWord]
  omega

theorem pairConfig_configures (h : Starts s true via p j s1) (hop : p.base = 0x0700) (hpresent : s1.pairAbsent = false) (hexpert : p.expert = true)
    (hid : p.u16 16 ≠ 0) (hmod : p.u16 18 ≤ 4094) (hlow : 10 ≤ p.u16 20) (hhigh : p.u16 20 ≤ 1000) (hten : p.u32 24 % 10 = 0)
    (hoff : p.u32 24 / 10 < 2 ^ 24) (hconf : s1.fb Fld.PAIR_STATUS_CONFIGURED = false) : exec (.pairConfig via p) s =
      .next (((s1.beginJob true via j).pairConfigured (pairCfgWord p) (p.fld 28 6) (p.u16 34)).finish via .done) :=
  congrArg Host.Outcome.next (runRow_ends h (by simp [hop])
    (by
      simp [firstFail, hpresent, hid, hten, hconf, hexpert]
      omega) (by rw [if_pos hexpert]; rfl))

theorem pairConfig_refused (h : Starts s true via p j s1) (hop : p.base = 0x0700) (hpresent : s1.pairAbsent = false) (hexpert : p.expert = true)
    (hid : p.u16 16 ≠ 0) (hmod : p.u16 18 ≤ 4094) (hlow : 10 ≤ p.u16 20) (hhigh : p.u16 20 ≤ 1000) (hten : p.u32 24 % 10 = 0)
    (hoff : p.u32 24 / 10 < 2 ^ 24) (hconf : s1.fb Fld.PAIR_STATUS_CONFIGURED = true) :
    exec (.pairConfig via p) s = .next (s1.finish via (.refuse 0x0701)) :=
  congrArg Host.Outcome.next (runRow_refused h (by simp [hop])
    (by
      simp [firstFail, hpresent, hid, hten, hconf, hexpert]
      omega))

/-! ## PAIR_SVC_SET (12 R428, R437) -/

/-- STATUS of a service as PAIR_SVC_SET packs it. -/
def svcWord (step pinned : Bool) (pref ident : Nat) : Nat := 2 ^ 27 + b2n step * 2 ^ 26 + b2n pinned * 2 ^ 25 + pref % 2 * 2 ^ 24 + ident

/-- A service's record and STATUS set. -/
def svcDefined (s : State) (n v : Nat) : State := (s.setSvc n .start).wr (Reg.PAIR_SVC_STATUS n) v

/-- A service's claims set to its own position's and none. -/
def claimsSet (s : State) (n : Nat) : State := (s.wr (Reg.PAIR_SVC_CLAIM n) s.pairPos).wr (Reg.PAIR_SVC_PEER_CLAIM n) 0

/-- The test of a RIM service asked for. -/
def testAsked (s : State) (n : Nat) (step : Bool) : State :=
  match s.svcSlot n with
  | some k => if step then s else s.askKat k (s.now + 1000)
  | none => s

/-- A service set, before its FAIL conditions are looked at. -/
def svcSet (s : State) (n v : Nat) (step : Bool) : State :=
  ((((s.svcDefined n v).claimsSet n).setRole n 1).claimSend n false 0).testAsked n step

theorem testAsked_eq (s : State) (n : Nat) (step : Bool) : (match s.svcSlot n with
    | some k => if step then s else s.askKat k (s.now + 1000)
    | none => s) = s.testAsked n step := by
  unfold testAsked
  generalize s.svcSlot n = slot
  cases slot with
  | none => rfl
  | some k => rfl

theorem keeps_testAsked (s : State) (n : Nat) (step : Bool) : Keeps [.rim] s (s.testAsked n step) := by
  unfold testAsked
  split
  · split
    · exact Keeps.refl _ s
    · exact keeps_askKat s _ _
  · exact Keeps.refl _ s

/-- What a service shows once it is set. -/
structure SvcShown (s : State) (n ident claim : Nat) (step : Bool) : Prop where
  role : s.svcRole n = 1
  step : s.svcStep n = step
  ident : s.fd (Fld.PAIR_SVC_STATUS_ID n) = ident
  claim : s.claim n = claim
  peerClaim : s.peerClaim n = 0
  svc : s.svc n = PairSvc.start

theorem SvcShown.of_keeps {s t : State} {ps : List Part} {n ident claim : Nat} {step : Bool} (h : SvcShown s n ident claim step)
    (hkeeps : Keeps ps s t) (hregs : Part.regs ∉ ps) (hpair : Part.pair ∉ ps) : SvcShown t n ident claim step :=
  ⟨(hkeeps.fd hregs _).trans h.role, (hkeeps.fb hregs _).trans h.step, (hkeeps.fd hregs _).trans h.ident, (hkeeps.rd hregs _).trans h.claim,
    (hkeeps.rd hregs _).trans h.peerClaim, (svc_congr (congrArg Pair.svcs (hkeeps .pair hpair)) n).trans h.svc⟩

/-- STATUS as packed has ROLE 0. -/
theorem svcWord_fields (step pinned : Bool) (pref : Nat) {ident : Nat} (h : ident < 2 ^ 8) : bits (svcWord step pinned pref ident % 2 ^ 32) 29 3 = 0 ∧
    (bits (svcWord step pinned pref ident % 2 ^ 32) 26 1 != 0) = step ∧ bits (svcWord step pinned pref ident % 2 ^ 32) 0 8 = ident := by
  have hp : b2n pinned ≤ 1 := by cases pinned <;> decide
  have hs : b2n step = if step then 1 else 0 := by cases step <;> rfl
  simp only [bits, svcWord]
  cases step
  · simp only [hs, Bool.false_eq_true, if_false, bne_eq_false_iff_eq]
    omega
  · simp only [hs, if_true, bne_iff_ne]
    omega

theorem svcDefined_shows (s : State) (n : Nat) (step pinned : Bool) (pref : Nat) {ident : Nat} (h : ident < 2 ^ 8) :
    (s.svcDefined n (svcWord step pinned pref ident)).svcRole n = 0 ∧ (s.svcDefined n (svcWord step pinned pref ident)).svcStep n = step ∧
      (s.svcDefined n (svcWord step pinned pref ident)).fd (Fld.PAIR_SVC_STATUS_ID n) = ident ∧
      (s.svcDefined n (svcWord step pinned pref ident)).svc n = PairSvc.start ∧
      Keeps [.regs, .pair] s (s.svcDefined n (svcWord step pinned pref ident)) ∧
      (s.svcDefined n (svcWord step pinned pref ident)).pair.conds = s.pair.conds ∧
      RegsKeep [(Reg.PAIR_SVC_STATUS n).addr] s (s.svcDefined n (svcWord step pinned pref ident)) := by
  obtain ⟨hrole, hstep, hid⟩ := svcWord_fields step pinned pref h
  generalize svcWord step pinned pref ident = v at hrole hstep hid
  have hset := keeps_withPair s { s.pair with svcs := Cells.set PairSvc.start n PairSvc.start s.pair.svcs }
  have hstart : (s.setSvc n .start).svc n = PairSvc.start := svc_setSvc_self s n _
  have hconds : (s.setSvc n .start).pair.conds = s.pair.conds := rfl
  have hsetk : Keeps [.pair] s (s.setSvc n .start) := hset
  unfold svcDefined
  generalize s.setSvc n .start = u at hstart hconds hsetk
  have hwr : (u.wr (Reg.PAIR_SVC_STATUS n) v).rd (Reg.PAIR_SVC_STATUS n) = v % 2 ^ 32 := rd_wr_self u _ v (show 32 ≤ 64 by decide)
  have hw := keeps_wr u (Reg.PAIR_SVC_STATUS n) v
  have hf : ∀ lo w, (u.wr (Reg.PAIR_SVC_STATUS n) v).fd ⟨Reg.PAIR_SVC_STATUS n, lo, w⟩ = bits (v % 2 ^ 32) lo w := fun lo w =>
    congrArg (bits · lo w) hwr
  exact ⟨(hf 29 3).trans hrole, (congrArg (· != 0) (hf 26 1)).trans hstep, (hf 0 8).trans hid,
    (svc_congr (congrArg Pair.svcs (hw .pair (by decide))) n).trans hstart, (hsetk.mono (by simp)).trans (hw.mono (by simp)),
    (congrArg Pair.conds (hw .pair (by decide))).trans hconds, (hsetk.regsKeep (by decide) _).trans (regsKeep_wr u _ v)⟩

theorem claimsSet_shows (s : State) (n : Nat) : Keeps [.regs] s (s.claimsSet n) ∧ (s.claimsSet n).claim n = s.pairPos ∧ (s.claimsSet n).peerClaim n = 0 ∧
    (∀ r : Reg, r.addr ≠ (Reg.PAIR_SVC_CLAIM n).addr → r.addr ≠ (Reg.PAIR_SVC_PEER_CLAIM n).addr → (s.claimsSet n).rd r = s.rd r) := by
  have hpos := pairPos_lt s
  refine ⟨(keeps_wr s _ _).trans (keeps_wr _ _ _), ?_, rd_wr_self _ (Reg.PAIR_SVC_PEER_CLAIM n) 0 (show 32 ≤ 64 by decide), fun r hc hp => ?_⟩
  · rw [claim, claimsSet, rd_wr_ne _ _ _ _ (by simp [Reg.PAIR_SVC_CLAIM, Reg.PAIR_SVC_PEER_CLAIM]),
      rd_wr_self s (Reg.PAIR_SVC_CLAIM n) _ (show 32 ≤ 64 by decide)]
    exact Nat.mod_eq_of_lt (by simp only [Reg.PAIR_SVC_CLAIM]; omega)
  · rw [claimsSet, rd_wr_ne _ _ _ _ hp, rd_wr_ne _ _ _ _ hc]

theorem svcSet_shows (s : State) {n : Nat} (step pinned : Bool) (pref : Nat) {ident : Nat} (h : ident < 2 ^ 8) :
    SvcShown (s.svcSet n (svcWord step pinned pref ident) step) n ident s.pairPos step ∧
      (s.svcSet n (svcWord step pinned pref ident) step).mem = s.mem ∧
      (s.svcSet n (svcWord step pinned pref ident) step).pair.conds = s.pair.conds ∧
      (s.svcSet n (svcWord step pinned pref ident) step).lane = s.lane := by
  obtain ⟨hrole, hstep, hid, hsvc, hkeeps, hconds, hregs⟩ := svcDefined_shows s n step pinned pref h
  have hpos : (s.svcDefined n (svcWord step pinned pref ident)).pairPos = s.pairPos :=
    hregs.fd (pairReg_ne_status (show Reg.PAIR_STATUS.addr < 0xb00100 by decide) n)
  have hlane : (s.svcDefined n (svcWord step pinned pref ident)).lane = s.lane :=
    hregs.fd (pairReg_ne_status (show Reg.RIM_STATUS.addr < 0xb00100 by decide) n)
  unfold svcSet
  generalize s.svcDefined n (svcWord step pinned pref ident) = u at hrole hstep hid hsvc hkeeps hconds hpos hlane
  obtain ⟨hck, hclaim, hpeer, hcr⟩ := claimsSet_shows u n
  have hstatus : (u.claimsSet n).rd (Reg.PAIR_SVC_STATUS n) = u.rd (Reg.PAIR_SVC_STATUS n) :=
    hcr _ (by simp [Reg.PAIR_SVC_STATUS, Reg.PAIR_SVC_CLAIM]) (by simp [Reg.PAIR_SVC_STATUS, Reg.PAIR_SVC_PEER_CLAIM])
  have hclane : (u.claimsSet n).lane = u.lane := fd_of_rd (hcr Reg.RIM_STATUS (by simp only [Reg.RIM_STATUS, Reg.PAIR_SVC_CLAIM]; omega)
    (by simp only [Reg.RIM_STATUS, Reg.PAIR_SVC_PEER_CLAIM]; omega))
  generalize u.claimsSet n = v at hck hclaim hpeer hstatus hclane
  have hfail := failKept_setRole v n 1
  have hset := svcRole_setRole v n (role := 1) (by decide)
  have hvs : (v.setRole n 1).svc n = PairSvc.start := by
    rw [svc_setRole, svc_congr (congrArg Pair.svcs (hck .pair (by decide))), hsvc]
  have hvc : (v.setRole n 1).pair.conds = s.pair.conds := by
    have hvconds := (congrArg Pair.conds (hck .pair (by decide))).trans hconds
    by_cases hsame : v.svcRole n = 1
    · rw [setRole_same hsame]
      exact hvconds
    · have hgen : ∀ x : State, x.genCounted.pair.conds = x.pair.conds := fun _ => rfl
      rw [setRole_other hsame, hgen, keeps_fw v _ 1 .pair (by decide)]
      exact hvconds
  have hvl : (v.setRole n 1).lane = s.lane := ((regsKeep_setRole v n 1).fd (pairReg_ne_status (show Reg.RIM_STATUS.addr < 0xb00100 by decide) n)).trans
    (hclane.trans hlane)
  have hshown : SvcShown (v.setRole n 1) n ident s.pairPos step :=
    ⟨hset, hfail.step.trans ((congrArg (· != 0) (fd_of_rd (f := Fld.PAIR_SVC_STATUS_TYPE n) hstatus)).trans hstep),
      hfail.ident.trans ((fd_of_rd hstatus).trans hid), hfail.claim.trans (hclaim.trans hpos), hfail.peerClaim.trans hpeer, hvs⟩
  have hmem : (v.setRole n 1).mem = s.mem := hfail.mem.trans ((hck .mem (by decide)).trans (hkeeps .mem (by decide)))
  generalize v.setRole n 1 = x at hshown hmem hvc hvl
  have hsend : Keeps [.out, .rim] x ((x.claimSend n false 0).testAsked n step) :=
    ((keeps_pairSend x _ _ _).mono (by simp)).trans ((keeps_testAsked _ n step).mono (by simp))
  exact ⟨hshown.of_keeps hsend (by decide) (by decide), (hsend .mem (by decide)).trans hmem,
    (congrArg Pair.conds (hsend .pair (by decide))).trans hvc, (hsend.fd (by decide) _).trans hvl⟩

/-- The FAIL condition of a service just set. -/
theorem failCause_set {n ident claim : Nat} {step : Bool} (h : SvcShown s n ident claim step) (hconds : s.pair.conds = []) :
    (step = true → s.failCause n = none) ∧ (step = false → s.lane ≠ 2 → s.failCause n = some 1) := by
  have hfailed : (s.svc n).failed = false := by rw [h.svc]; rfl
  refine ⟨fun hstep => ?_, fun hstep hlane => ?_⟩
  · simp [failCause, hconds, h.step, hstep]
  · simp [failCause, hconds, h.step, hstep, hfailed, hlane]

/-- A service set shows RESYNC, or FAILED where it is a RIM service and the lane is not ACTIVE. -/
theorem svcSet_checked {n ident claim : Nat} {step : Bool} (hn : n < 64) (h : SvcShown s n ident claim step) (hconds : s.pair.conds = [])
    (hlane : step = true ∨ s.lane ≠ 2) : (s.pairCheck.cmpUpdate n).svcRole n = (if step = true then 1 else 4) ∧
      (s.pairCheck.cmpUpdate n).svcStep n = step ∧ (s.pairCheck.cmpUpdate n).claim n = claim ∧ (s.pairCheck.cmpUpdate n).peerClaim n = 0 ∧
      (s.pairCheck.cmpUpdate n).fd (Fld.PAIR_SVC_STATUS_ID n) = ident ∧ (s.pairCheck.cmpUpdate n).mem = s.mem := by
  have hrole := h.role
  obtain ⟨hnone, hsome⟩ := failCause_set h hconds
  have hchecked : FailKept n s s.pairCheck ∧ s.pairCheck.svcRole n = (if step = true then 1 else 4) := by
    cases step
    · exact pairCheck_fails hn (by omega) (by omega) (hsome rfl (hlane.resolve_left Bool.false_ne_true))
    · have hsame := svcSame_pairCheck (.inr (hnone rfl)) (by omega)
      exact ⟨hsame.failKept, hsame.role.trans h.role⟩
  obtain ⟨hkept, hnew⟩ := hchecked
  have hcmp := cmpChange_cmpUpdate s.pairCheck n
  exact ⟨hcmp.role.trans hnew, hcmp.step.trans (hkept.step.trans h.step), hcmp.claim.trans (hkept.claim.trans h.claim),
    hcmp.peerClaim.trans (hkept.peerClaim.trans h.peerClaim), hcmp.ident.trans (hkept.ident.trans h.ident),
    (hcmp.change.keeps .mem (by decide)).trans hkept.mem⟩

theorem pairSvcSet_sets (h : Starts s true via p j s1) (hop : p.base = 0x0701) (hpresent : s1.pairAbsent = false) (hn : p.u8 16 ≤ 63)
    (htype : p.u8 17 ≤ 1) (hoff : s1.svcRole (p.u8 16) = 0) : exec (.pairSvcSet via p) s =
      .next ((((s1.beginJob true via j).svcSet (p.u8 16) (svcWord (p.u8 17 == 1) (if p.expert then bit (p.u8 19) 1 else !(p.u8 17 == 1)) (p.u8 19)
        (p.u8 18)) (p.u8 17 == 1)).pairCheck.cmpUpdate (p.u8 16)).finish via .done) := by
  refine congrArg Host.Outcome.next (runRow_ends h (by simp [hop])
    (by
      simp [firstFail, hpresent, hoff]
      omega) ?_)
  generalize s1.beginJob true via j = b
  extract_lets pinned u1 u2 u3 u4 u5
  have h4 : u4 = (((b.svcDefined (p.u8 16) (svcWord (p.u8 17 == 1) pinned (p.u8 19) (p.u8 18))).claimsSet (p.u8 16)).setRole (p.u8 16) 1).claimSend
    (p.u8 16) false 0 := rfl
  have h5 : u5 = u4.testAsked (p.u8 16) (p.u8 17 == 1) := testAsked_eq u4 _ _
  rw [h5, h4, ← svcSet]

theorem pairSvcSet_refused (h : Starts s true via p j s1) (hop : p.base = 0x0701) (hpresent : s1.pairAbsent = false) (hn : p.u8 16 ≤ 63)
    (htype : p.u8 17 ≤ 1) (hon : s1.svcRole (p.u8 16) ≠ 0) : exec (.pairSvcSet via p) s = .next (s1.finish via (.refuse 0x0702)) :=
  congrArg Host.Outcome.next (runRow_refused h (by simp [hop])
    (by
      simp [firstFail, hpresent, hon]
      omega))

/-! ## PAIR_SVC_CLEAR (12 R462) -/

/-- A service's registers at their reset values. -/
def svcRegsReset (s : State) (n : Nat) : State :=
  ((s.regReset (Reg.PAIR_SVC_STATUS n)).regReset (Reg.PAIR_SVC_CLAIM n)).regReset (Reg.PAIR_SVC_PEER_CLAIM n)

theorem svcRegsReset_shows (s : State) (n : Nat) : Keeps [.regs] s (s.svcRegsReset n) ∧ (s.svcRegsReset n).svcRole n = 0 ∧
    (s.svcRegsReset n).claim n = 0 := by
  refine ⟨((keeps_regReset s _).trans (keeps_regReset _ _)).trans (keeps_regReset _ _), ?_, ?_⟩
  · have hstatus : (s.svcRegsReset n).rd (Reg.PAIR_SVC_STATUS n) = 0 := by
      rw [svcRegsReset, rd_regReset_ne _ _ _ (by simp [Reg.PAIR_SVC_STATUS, Reg.PAIR_SVC_PEER_CLAIM]),
        rd_regReset_ne _ _ _ (by simp [Reg.PAIR_SVC_STATUS, Reg.PAIR_SVC_CLAIM]), rd_regReset_self _ _ (show 0 < 2 ^ 64 by decide)]
      rfl
    exact congrArg (bits · 29 3) hstatus
  · rw [claim, svcRegsReset, rd_regReset_ne _ _ _ (by simp [Reg.PAIR_SVC_CLAIM, Reg.PAIR_SVC_PEER_CLAIM]), rd_regReset_self _ _ (show 0 < 2 ^ 64 by decide)]
    rfl

/-- A service cleared, before FAIL conditions are looked at. -/
def svcCleared (s : State) (n : Nat) : State := ((s.setRole n 0).setSvc n .start).svcRegsReset n

theorem svcCleared_shows (s : State) (n : Nat) : (s.svcCleared n).svcRole n = 0 ∧ (s.svcCleared n).claim n = 0 ∧ (s.svcCleared n).svc n = PairSvc.start ∧
    (s.svcCleared n).mem = s.mem := by
  have hstart : ((s.setRole n 0).setSvc n .start).svc n = PairSvc.start := svc_setSvc_self _ n _
  have hmem : ((s.setRole n 0).setSvc n .start).mem = s.mem := keeps_setRole s n 0 .mem (by decide)
  unfold svcCleared
  generalize (s.setRole n 0).setSvc n .start = u at hstart hmem
  obtain ⟨hkeeps, hrole, hclaim⟩ := svcRegsReset_shows u n
  exact ⟨hrole, hclaim, (svc_congr (congrArg Pair.svcs (hkeeps .pair (by decide))) n).trans hstart, (hkeeps .mem (by decide)).trans hmem⟩

/-- A cleared service is OFF and as at the start. -/
theorem svcClear_checked (s : State) (n : Nat) : (s.svcCleared n).pairCheck.svcRole n = 0 ∧ (s.svcCleared n).pairCheck.claim n = 0 ∧
    (s.svcCleared n).pairCheck.svc n = PairSvc.start ∧ (s.svcCleared n).pairCheck.mem = s.mem := by
  obtain ⟨hrole, hclaim, hsvc, hmem⟩ := svcCleared_shows s n
  have hsame := svcSame_pairCheck (.inl hrole) (by omega)
  exact ⟨hsame.role.trans hrole, (hsame.regs _ (by simp [SvcReg, Reg.PAIR_SVC_CLAIM])).trans hclaim, hsame.svc.trans hsvc, hsame.mem.trans hmem⟩

theorem pairSvcClear_clears (h : Starts s true via p j s1) (hop : p.base = 0x0702) (hpresent : s1.pairAbsent = false) (hn : p.u8 16 ≤ 63)
    (hrole : s1.svcRole (p.u8 16) ≠ 3) :
    exec (.pairSvcClear via p) s = .next (((s1.beginJob true via j).svcCleared (p.u8 16)).pairCheck.finish via .done) :=
  congrArg Host.Outcome.next (runRow_ends h (by simp [hop]) (by simp [firstFail, hpresent, hrole]; omega) rfl)

theorem pairSvcClear_refused (h : Starts s true via p j s1) (hop : p.base = 0x0702) (hpresent : s1.pairAbsent = false) (hn : p.u8 16 ≤ 63)
    (hrole : s1.svcRole (p.u8 16) = 3) : exec (.pairSvcClear via p) s = .next (s1.finish via (.refuse 0x0703)) :=
  congrArg Host.Outcome.next (runRow_refused h (by simp [hop]) (by simp [firstFail, hpresent, hrole]; omega))

/-! ## PAIR_SWAP (12 R460) -/

theorem svc_begun (s : State) (via : Via) (j : Job) (n : Nat) : (s.beginJob true via j).svc n = s.svc n :=
  svc_congr (congrArg Pair.svcs (keeps_beginJob s true via j .pair (by decide))) n

theorem fd_begun_svc (s : State) (via : Via) (j : Job) (n lo w : Nat) :
    (s.beginJob true via j).fd ⟨Reg.PAIR_SVC_STATUS n, lo, w⟩ = s.fd ⟨Reg.PAIR_SVC_STATUS n, lo, w⟩ :=
  fd_begun s via j (by simp only [Reg.PAIR_SVC_STATUS, Reg.RAS_LOG_SEQ]; omega)

theorem strState_begun (s : State) (via : Via) (j : Job) (k : Nat) : (s.beginJob true via j).strState k = s.strState k :=
  fd_begun s via j (by simp only [Fld.RIM_STR_STATUS_SSTATE, Reg.RIM_STR_STATUS, Reg.RAS_LOG_SEQ]; omega)

theorem svcSlot_begun (s : State) (via : Via) (j : Job) (n : Nat) : (s.beginJob true via j).svcSlot n = s.svcSlot n := by
  have hident : (s.beginJob true via j).fd (Fld.PAIR_SVC_STATUS_ID n) = s.fd (Fld.PAIR_SVC_STATUS_ID n) := fd_begun_svc s via j n 0 8
  simp only [svcSlot, rim_begun, hident, strState_begun]

theorem swapIndex_begun (s : State) (via : Via) (j : Job) (n : Nat) : (s.beginJob true via j).swapIndex n = s.swapIndex n := by
  have hstep : (s.beginJob true via j).svcStep n = s.svcStep n := congrArg (· != 0) (fd_begun_svc s via j n 26 1)
  have hstream : ∀ k, (s.beginJob true via j).rimStream k = s.rimStream k := fun k => by rw [rimStream, rim_begun, rimStream]
  unfold swapIndex
  simp only [hstep, svc_begun, svcSlot_begun, rim_begun, hstream, now_begun]

theorem pairSwap_swaps (h : Starts s true via p j s1) (hop : p.base = 0x0703) (hpresent : s1.pairAbsent = false) (hn : p.u8 16 ≤ 63)
    (hrole : s1.svcRole (p.u8 16) = 3) (hgive : (s1.svc (p.u8 16)).give = none) (hswap : (s1.svc (p.u8 16)).swap = none)
    (hok : s1.swapOk (p.u8 16) 2 = true) : exec (.pairSwap via p) s =
      .next ((s1.beginJob true via j).swapGive (p.u8 16) ((s1.beginJob true via j).swapIndex (p.u8 16)) true) :=
  congrArg Host.Outcome.next (runRow_goesOn h (by simp [hop]) (by simp [firstFail, hpresent, hrole, hgive, hswap, hok]; omega) rfl)

theorem pairSwap_refused (h : Starts s true via p j s1) (hop : p.base = 0x0703) (hpresent : s1.pairAbsent = false) (hn : p.u8 16 ≤ 63)
    (hrole : s1.svcRole (p.u8 16) ≠ 3) : exec (.pairSwap via p) s = .next (s1.finish via (.refuse 0x0704)) :=
  congrArg Host.Outcome.next (runRow_refused h (by simp [hop]) (by simp [firstFail, hpresent, hrole]; omega))

/-- The old active of a swap sends HANDOVER. -/
theorem swapGive_shows (s : State) {n : Nat} (hn : n ≤ 63) (hup : s.fb Fld.PAIR_STATUS_LINK_UP = true) (eff : Nat) (waits : Bool) :
    ((s.swapGive n eff waits).svc n).give = some (eff, waits) ∧ Keeps [.pair, .out] s (s.swapGive n eff waits) ∧
      ∃ bs o, (s.swapGive n eff waits).out = .pair bs :: o ∧ pairValid bs = true ∧ fieldOf bs 0 1 = 5 ∧ fieldOf bs 1 1 = n := by
  obtain ⟨u, hu⟩ : ∃ u, u = s.updSvc n (fun x => { x with give := some (eff, waits) }) := ⟨_, rfl⟩
  have hgive : (u.svc n).give = some (eff, waits) := by rw [hu, svc_updSvc_self]
  have hkeeps : Keeps [.pair] s u := hu ▸ keeps_updSvc s n _
  have heq : s.swapGive n eff waits = u.pairSend 0x05 n (eff * 2 ^ 48) := by rw [hu]; rfl
  have hsent := keeps_pairSend u 0x05 n (eff * 2 ^ 48)
  obtain ⟨hvalid, hty⟩ := pairSent n (eff * 2 ^ 48) (show 1 ≤ 5 by decide) (by decide)
  refine ⟨?_, ?_, pairMessage 5 n (eff * 2 ^ 48), u.out, ?_, hvalid, hty, ?_⟩
  · rw [heq, svc_congr (congrArg Pair.svcs (hsent .pair (by decide))), hgive]
  · rw [heq]
    exact (hkeeps.mono (by simp)).trans (hsent.mono (by simp))
  · rw [heq, pairSend_up ((hkeeps.fb (by decide) _).trans hup)]
    rfl
  · rw [fieldOf_pairMessage _ _ _ (by decide)]
    omega

/-! ## PAIR_HOLD_RELEASE (12 R450, R462) -/

/-- A service released from HOLD into MISMATCH, its alarm given. -/
def holdLeft (s : State) (n : Nat) : State :=
  let u := (s.fw (Fld.PAIR_SVC_STATUS_CMP n) 2).fw (Fld.PAIR_SVC_STATUS_MISMATCH_RUN n) 0
  u.updSvc n (fun x => { x with waiting := true, since := u.now, test := none, verdict := none, peerVerdict := none, alarms := x.alarms ++ [2] })

theorem holdLeft_shows (s : State) (n : Nat) : (s.holdLeft n).svcCmp n = 2 ∧ (s.holdLeft n).fd (Fld.PAIR_SVC_STATUS_MISMATCH_RUN n) = 0 ∧
    ((s.holdLeft n).svc n).waiting = true ∧ ((s.holdLeft n).svc n).alarms = (s.svc n).alarms ++ [2] ∧ Keeps [.regs, .pair] s (s.holdLeft n) := by
  unfold holdLeft
  extract_lets u
  have hkeeps : Keeps [.regs] s u := (keeps_fw s _ _).trans (keeps_fw _ _ _)
  have hcmp : u.svcCmp n = 2 := (fd_svc_apart _ n 0 (.inr (by decide)) (by decide)).trans (fd_svc_self s n (by decide) (by decide))
  have hrun : u.fd (Fld.PAIR_SVC_STATUS_MISMATCH_RUN n) = 0 := fd_svc_self _ n (by decide) (by decide)
  clear_value u
  have hset := keeps_updSvc u n (fun x =>
    { x with waiting := true, since := u.now, test := none, verdict := none, peerVerdict := none, alarms := x.alarms ++ [2] })
  refine ⟨(hset.fd (by decide) _).trans hcmp, (hset.fd (by decide) _).trans hrun, ?_, ?_, (hkeeps.mono (by simp)).trans (hset.mono (by simp))⟩
  · rw [svc_updSvc_self]
  · rw [svc_updSvc_self, svc_congr (congrArg Pair.svcs (hkeeps .pair (by decide)))]

theorem pairHoldRelease_releases (h : Starts s true via p j s1) (hop : p.base = 0x0704) (hpresent : s1.pairAbsent = false) (hn : p.u8 16 ≤ 63)
    (hrole : s1.svcRole (p.u8 16) ≠ 0) (hcmp : s1.svcCmp (p.u8 16) = 3) : exec (.pairHoldRelease via p) s =
      .next ((((s1.beginJob true via j).holdLeft (p.u8 16)).testAsked (p.u8 16) false).finish via .done) := by
  refine congrArg Host.Outcome.next (runRow_ends h (by simp [hop]) (by simp [firstFail, hpresent, hrole, hcmp]; omega) ?_)
  generalize s1.beginJob true via j = b
  extract_lets u1 u2 u3
  have h2 : u2 = b.holdLeft (p.u8 16) := rfl
  have h3 : u3 = u2.testAsked (p.u8 16) false := testAsked_eq u2 _ false
  rw [h3, h2]

theorem pairHoldRelease_refused (h : Starts s true via p j s1) (hop : p.base = 0x0704) (hpresent : s1.pairAbsent = false) (hn : p.u8 16 ≤ 63)
    (hcmp : s1.svcCmp (p.u8 16) ≠ 3) : exec (.pairHoldRelease via p) s = .next (s1.finish via (.refuse 0x0705)) :=
  congrArg Host.Outcome.next (runRow_refused h (by simp [hop]) (by simp [firstFail, hpresent, hcmp]; omega))

end

end Sys2Proof.Machine.State

namespace Sys2Proof

open Sys2Proof.Machine Sys2Proof.Machine.State Sys2Proof.Safety

/-- Settles O42: each command shows what it sets, and one whose condition does not hold is refused. -/
theorem pairingCommandsRun : Obligations.PairingCommandsRun := by
  refine ⟨?_, ?_, ?_, ?_, ?_⟩
  · intro s via p j s1 h hop hpresent hexpert hid hmod hlow hhigh hten hoff
    refine ⟨fun hconf => ?_, pairConfig_refused h hop hpresent hexpert hid hmod hlow hhigh hten hoff⟩
    obtain ⟨hkeeps, hregs, hset, hcfg, hda, hvlan⟩ := pairConfigured_shows (s1.beginJob true via j) (pairCfgWord p) (p.fld 28 6) (p.u16 34)
    obtain ⟨hfid, hfmod, hfus, hfoff⟩ := pairCfgWord_fields p hmod hhigh hoff
    exact ⟨_, pairConfig_configures h hop hpresent hexpert hid hmod hlow hhigh hten hoff hconf, hkeeps, hregs, hset,
      (congrArg (bits · 48 16) hcfg).trans hfid, (congrArg (bits · 36 12) hcfg).trans hfmod, (congrArg (bits · 24 10) hcfg).trans hfus,
      (congrArg (bits · 0 24) hcfg).trans hfoff, hda, hvlan⟩
  · intro s via p j s1 h hop hpresent hn htype
    refine ⟨fun hoff hconds hlane => ?_, pairSvcSet_refused h hop hpresent hn htype⟩
    have hbegun : (s1.beginJob true via j).pair = s1.pair := keeps_beginJob s1 true via j .pair (by decide)
    obtain ⟨hshown, hmem, hconds', hlane'⟩ := svcSet_shows (s1.beginJob true via j) (n := p.u8 16) (p.u8 17 == 1)
      (if p.expert then bit (p.u8 19) 1 else !(p.u8 17 == 1)) (p.u8 19) (show p.u8 18 < 2 ^ 8 from bits_lt _ _ 8)
    obtain ⟨hrole, hstep, hclaim, hpeer, hident, hmem'⟩ := svcSet_checked (by omega) hshown (by rw [hconds', hbegun, hconds])
      (hlane.imp (fun h => by simp [h]) (fun h => by rw [hlane', lane_begun]; exact h))
    refine ⟨_, pairSvcSet_sets h hop hpresent hn htype hoff, ?_, hstep, ?_, hpeer, hident, ?_⟩
    · rw [hrole]
      simp
    · rw [hclaim, pairPos, fd_begun _ _ _ (by decide), pairPos]
    · exact hmem'.trans (hmem.trans (keeps_beginJob s1 true via j .mem (by decide)))
  · intro s via p j s1 h hop hpresent hn
    refine ⟨fun hrole => ?_, pairSvcClear_refused h hop hpresent hn⟩
    obtain ⟨hoff, hclaim, hsvc, hmem⟩ := svcClear_checked (s1.beginJob true via j) (p.u8 16)
    exact ⟨_, pairSvcClear_clears h hop hpresent hn hrole, hoff, hclaim, hsvc, hmem.trans (keeps_beginJob s1 true via j .mem (by decide))⟩
  · intro s via p j s1 h hop hpresent hn n
    refine ⟨fun hrole hgive hswap hok => ?_, pairSwap_refused h hop hpresent hn⟩
    have hup : s1.fb Fld.PAIR_STATUS_LINK_UP = true := by
      simp only [swapOk, Bool.and_eq_true] at hok
      exact hok.1.1
    have hshown := swapGive_shows (s1.beginJob true via j) hn ((fb_begun s1 via j (by decide)).trans hup) (s1.swapIndex n) true
    exact ⟨_, pairSwap_swaps h hop hpresent hn hrole hgive hswap hok, by rw [swapIndex_begun]; exact hshown⟩
  · intro s via p j s1 h hop hpresent hn n
    refine ⟨fun hrole hcmp => ?_, pairHoldRelease_refused h hop hpresent hn⟩
    obtain ⟨hset, hrun, hwait, halarms, hkeeps⟩ := holdLeft_shows (s1.beginJob true via j) n
    have hask := keeps_testAsked ((s1.beginJob true via j).holdLeft n) n false
    have hsvc := svc_congr (congrArg Pair.svcs (hask .pair (by decide))) n
    refine ⟨_, pairHoldRelease_releases h hop hpresent hn hrole hcmp, (hask.fd (by decide) _).trans hset, (hask.fd (by decide) _).trans hrun,
      (congrArg PairSvc.waiting hsvc).trans hwait, ?_, (hkeeps.mono (by simp)).trans (hask.mono (by simp))⟩
    rw [hsvc, halarms, svc_begun]

end Sys2Proof
end

section
/-! The power commands (O51): ceilings, FIXED and the cap. -/

namespace Sys2Proof.Machine.State

open Sys2Proof.Safety

/-! ## Ceilings (16 R557) -/

/-- What a ceiling makes of an island's wanted state. -/
def ceiled (v ceil want : Nat) : Nat := if want = ceil then v else max want v

/-- The same ceiling a second time changes nothing. -/
theorem ceiled_twice (v ceil want : Nat) : ceiled v v (ceiled v ceil want) = ceiled v ceil want := by
  unfold ceiled
  split_ifs <;> omega

theorem pCeil_congr {s t : State} (h : t.pwr.ceil = s.pwr.ceil) (i : Nat) : t.pCeil i = s.pCeil i := congrArg (Cells.get 1 i) h

theorem ceil_wakeQueue (s : State) (i : Nat) (ungate : Bool) : (s.wakeQueue i ungate).pwr.ceil = s.pwr.ceil := by
  simp only [wakeQueue]
  split
  · rfl
  · rw [pwrSettle_pwr, updPwr_pwr]

theorem ceil_pAsk (s : State) (i st : Nat) : (s.pAsk i st).pwr.ceil = s.pwr.ceil := by
  simp only [pAsk]
  split
  · rw [ceil_wakeQueue, updPwr_pwr, updPwr_pwr]
  · rw [updPwr_pwr]

/-- A ceiling written, before what is asked for follows it. -/
def ceilSet (s : State) (v i : Nat) : State := s.updPwr (fun x => { x with ceil := Cells.set 1 i v x.ceil })

theorem keeps_ceilSet (s : State) (v i : Nat) : Keeps [.pwr] s (s.ceilSet v i) := keeps_updPwr s _

theorem pCeil_ceilSet_self (s : State) (v i : Nat) : (s.ceilSet v i).pCeil i = v := Cells.get_set_self ..

theorem pCeil_ceilSet_ne (s : State) (v : Nat) {i k : Nat} (h : k ≠ i) : (s.ceilSet v i).pCeil k = s.pCeil k := Cells.get_set_ne _ _ h _ _

theorem want_ceilSet (s : State) (v i : Nat) : (s.ceilSet v i).pwr.want = s.pwr.want := rfl

theorem pCeiling_eq (s : State) (v i : Nat) : s.pCeiling v i = (s.ceilSet v i).pAsk i (ceiled v (s.pCeil i) (s.pWant i)) := rfl

theorem keeps_pCeiling (s : State) (v i : Nat) : Keeps [.regs, .pwr] s (s.pCeiling v i) :=
  ((keeps_ceilSet s v i).mono (by simp)).trans (pAsk_frame (s.ceilSet v i) i _).1

theorem pCeiling_self (s : State) (v i : Nat) :
    (s.pCeiling v i).pCeil i = v ∧ (s.pCeiling v i).pWant i = ceiled v (s.pCeil i) (s.pWant i) := by
  rw [pCeiling_eq, pCeil_congr (ceil_pAsk _ _ _), pCeil_ceilSet_self, pWant, (pAsk_frame _ _ _).2.2, Cells.get_set_self]
  exact ⟨rfl, rfl⟩

theorem pCeiling_ne (s : State) (v : Nat) {i k : Nat} (h : k ≠ i) :
    (s.pCeiling v i).pCeil k = s.pCeil k ∧ (s.pCeiling v i).pWant k = s.pWant k := by
  rw [pCeiling_eq, pCeil_congr (ceil_pAsk _ _ _), pCeil_ceilSet_ne s v h, pWant, (pAsk_frame _ _ _).2.2, Cells.get_set_ne _ _ h]
  exact ⟨rfl, rfl⟩

/-- Ceilings in turn, an island named twice included. -/
theorem ceilings_shown (v : Nat) (l : List Nat) (s : State) (i : Nat) :
    (i ∈ l → (l.foldl (fun s i => s.pCeiling v i) s).pCeil i = v ∧
      (l.foldl (fun s i => s.pCeiling v i) s).pWant i = ceiled v (s.pCeil i) (s.pWant i)) ∧
    (i ∉ l → (l.foldl (fun s i => s.pCeiling v i) s).pCeil i = s.pCeil i ∧ (l.foldl (fun s i => s.pCeiling v i) s).pWant i = s.pWant i) := by
  induction l generalizing s with
  | nil => simp
  | cons a l ih =>
    obtain ⟨hin, hout⟩ := ih (s.pCeiling v a)
    rw [List.foldl_cons]
    by_cases hia : i = a
    · subst hia
      obtain ⟨hceil, hwant⟩ := pCeiling_self s v i
      rw [hceil, hwant] at hin hout
      refine ⟨fun _ => ?_, fun h => absurd List.mem_cons_self h⟩
      by_cases hil : i ∈ l
      · exact ⟨(hin hil).1, (hin hil).2.trans (ceiled_twice _ _ _)⟩
      · exact hout hil
    · obtain ⟨hceil, hwant⟩ := pCeiling_ne s v hia
      rw [hceil, hwant] at hin hout
      exact ⟨fun h => hin ((List.mem_cons.1 h).resolve_left hia), fun h => hout fun hl => h (List.mem_cons_of_mem _ hl)⟩

theorem siteOf_begun (s : State) (via : Via) (j : Job) (t : Nat) : (s.beginJob true via j).siteOf t = s.siteOf t :=
  siteOf_congr (rd_begun s via j (by simp only [Reg.RAS_TILE_MAP, Reg.RAS_LOG_SEQ]; omega))

theorem pwr_begun (s : State) (via : Via) (j : Job) : (s.beginJob true via j).pwr = s.pwr := keeps_beginJob s true via j .pwr (by decide)

theorem pwrNamed_begun (s : State) (via : Via) (j : Job) (p : Packet) : (s.beginJob true via j).pwrNamed p = s.pwrNamed p := by
  simp only [pwrNamed, siteOf_begun]

variable {s s1 : State} {via : Via} {p : Packet} {j : Job}

theorem pwrPstateSet_runs (h : Starts s true via p j s1) (hop : p.base = 0x0A10) (hexpert : p.expert = true) (hv : p.u8 21 ≤ 4)
    (hthere : s1.pwrAbsent p = false) (hrim : s1.pwrRim p = false) (hloose : (s1.pwrNamed p).any s1.pFixed = false) :
    Ends (exec (.pwrPstateSet via p) s) via .done (fun u => Keeps [.regs, .pwr] (s1.beginJob true via j) u ∧
      (∀ i ∈ s1.pwrNamed p, u.pCeil i = p.u8 21 ∧ u.pWant i = (if s1.pWant i = s1.pCeil i then p.u8 21 else max (s1.pWant i) (p.u8 21))) ∧
      (∀ i, i ∉ s1.pwrNamed p → u.pCeil i = s1.pCeil i ∧ u.pWant i = s1.pWant i)) := by
  let w := (s1.pwrNamed p).foldl (fun s i => s.pCeiling (p.u8 21) i) (s1.beginJob true via j)
  have hrun : exec (.pwrPstateSet via p) s = .next (w.pwrSettle.finish via .done) := by
    refine congrArg Host.Outcome.next (runRow_ends h (by simp [hop]) (by simp [firstFail, hexpert, hthere, hrim, hloose, Nat.not_lt.2 hv]) ?_)
    rw [if_pos hexpert, pwrNamed_begun]
  have hkeeps : Keeps [.regs, .pwr] (s1.beginJob true via j) w := Keeps.foldl _ fun u i _ => keeps_pCeiling u _ i
  have hshown := fun i => ceilings_shown (p.u8 21) (s1.pwrNamed p) (s1.beginJob true via j) i
  have hceil : ∀ i, (s1.beginJob true via j).pCeil i = s1.pCeil i := pCeil_congr (congrArg Pwr.ceil (pwr_begun s1 via j))
  have hwant : ∀ i, (s1.beginJob true via j).pWant i = s1.pWant i := pWant_congr (congrArg Pwr.want (pwr_begun s1 via j))
  have hsettled : ∀ i, w.pwrSettle.pCeil i = w.pCeil i := pCeil_congr (congrArg Pwr.ceil (pwrSettle_pwr w))
  refine ⟨_, hrun, hkeeps.trans ((keeps_pwrSettle w).mono (by simp)), fun i hi => ?_, fun i hi => ?_⟩
  · rw [hsettled, pWant_pwrSettle, ((hshown i).1 hi).1, ((hshown i).1 hi).2, hceil, hwant]
    exact ⟨rfl, rfl⟩
  · rw [hsettled, pWant_pwrSettle, ((hshown i).2 hi).1, ((hshown i).2 hi).2, hceil, hwant]
    exact ⟨rfl, rfl⟩

theorem pwrPstateSet_ofRim (h : Starts s true via p j s1) (hop : p.base = 0x0A10) (hexpert : p.expert = true) (hv : p.u8 21 ≤ 4)
    (hthere : s1.pwrAbsent p = false) (hrim : s1.pwrRim p = true) :
    exec (.pwrPstateSet via p) s = .next (s1.finish via (.refuse 0x0A05)) :=
  congrArg Host.Outcome.next (runRow_refused h (by simp [hop]) (by simp [firstFail, hexpert, hthere, hrim, Nat.not_lt.2 hv]))

theorem pwrPstateSet_ofFixed (h : Starts s true via p j s1) (hop : p.base = 0x0A10) (hexpert : p.expert = true) (hv : p.u8 21 ≤ 4)
    (hthere : s1.pwrAbsent p = false) (hrim : s1.pwrRim p = false) (hfixed : (s1.pwrNamed p).any s1.pFixed = true) :
    exec (.pwrPstateSet via p) s = .next (s1.finish via (.refuse 0x0A06)) :=
  congrArg Host.Outcome.next (runRow_refused h (by simp [hop]) (by simp only [firstFail, hexpert, hthere, hrim, hfixed]; simp [hv]))

/-! ## FIXED (16 R556) -/

/-- FIXED is PWR_ISL's bit 28, whichever island was written. -/
theorem pFixed_fbw (s : State) (i k : Nat) (b : Bool) : (s.fbw (Fld.PWR_ISL_FIXED i) b).pFixed k = if k = i then b else s.pFixed k := by
  split_ifs with h
  · rw [h]
    exact fb_fbw_self s _ b rfl (show 28 + 1 ≤ 32 by decide) (show 32 ≤ 64 by decide)
  · exact fb_fbw_ne s _ _ b (by simp only [Fld.PWR_ISL_FIXED, Reg.PWR_ISL]; omega)

theorem pFixed_pwrSettle (s : State) (i : Nat) : s.pwrSettle.pFixed i = s.pFixed i := (regsKeep_pwrSettle s).fb (isl_addr_not_mem i)

theorem pFix_cleared (s : State) (i : Nat) : s.pFix i false = s.fbw (Fld.PWR_ISL_FIXED i) false := by
  simp only [pFix, Bool.false_eq_true, if_false]

theorem pFix_set (s : State) (i : Nat) : s.pFix i true = ((s.fbw (Fld.PWR_ISL_FIXED i) true).ceilSet 1 i).pAsk i 1 := by
  simp only [pFix, if_true, ceilSet]

theorem keeps_pFix (s : State) (i : Nat) : Keeps [.regs, .pwr] s (s.pFix i true) := by
  rw [pFix_set]
  exact (((keeps_fbw s _ true).mono (by simp)).trans ((keeps_ceilSet _ 1 i).mono (by simp))).trans (pAsk_frame _ i 1).1

/-- An island that is FIXED, in P1. -/
structure FixedAt (i : Nat) (s : State) : Prop where
  fixed : s.pFixed i = true
  ceil : s.pCeil i = 1
  want : s.pWant i = 1

theorem fixedAt_pFix (s : State) (i : Nat) : FixedAt i (s.pFix i true) := by
  have hregs := (pAsk_frame ((s.fbw (Fld.PWR_ISL_FIXED i) true).ceilSet 1 i) i 1).2.1
  refine ⟨?_, ?_, ?_⟩
  · rw [pFix_set, pFixed, hregs.fb (isl_addr_not_mem i), (keeps_ceilSet _ 1 i).fb (by decide)]
    exact (pFixed_fbw s i i true).trans (if_pos rfl)
  · rw [pFix_set, pCeil_congr (ceil_pAsk _ _ _), pCeil_ceilSet_self]
  · rw [pFix_set, pWant, (pAsk_frame _ _ _).2.2, Cells.get_set_self]

/-- Another island that becomes FIXED leaves one that is. -/
theorem fixedAt_keeps {i : Nat} {s : State} (h : FixedAt i s) (k : Nat) : FixedAt i (s.pFix k true) := by
  by_cases hik : i = k
  · rw [hik]
    exact fixedAt_pFix s k
  · have hregs := (pAsk_frame ((s.fbw (Fld.PWR_ISL_FIXED k) true).ceilSet 1 k) k 1).2.1
    have hpwr : (s.fbw (Fld.PWR_ISL_FIXED k) true).pwr = s.pwr := keeps_fbw s _ _ .pwr (by decide)
    refine ⟨?_, ?_, ?_⟩
    · rw [pFix_set, pFixed, hregs.fb (isl_addr_not_mem i), (keeps_ceilSet _ 1 k).fb (by decide)]
      exact ((pFixed_fbw s k i true).trans (if_neg hik)).trans h.fixed
    · rw [pFix_set, pCeil_congr (ceil_pAsk _ _ _), pCeil_ceilSet_ne _ 1 hik, pCeil_congr (congrArg Pwr.ceil hpwr), h.ceil]
    · rw [pFix_set, pWant, (pAsk_frame _ _ _).2.2, Cells.get_set_ne _ _ hik]
      exact (pWant_congr ((want_ceilSet _ 1 k).trans (congrArg Pwr.want hpwr)) i).trans h.want

/-- FIXED set or cleared at islands in turn. -/
def fixAll (s : State) (l : List Nat) (b : Bool) : State := l.foldl (fun s i => s.pFix i b) s

theorem exec_pwrFixedSet (h : Starts s true via p j s1) (hop : p.base = 0x0A11) (hthere : s1.pwrAbsent p = false)
    (hen : p.u8 21 = 1 ∨ p.u8 21 = 0 ∧ s1.pwrRim p = false) :
    exec (.pwrFixedSet via p) s = .next (((s1.beginJob true via j).fixAll (s1.pwrNamed p) (p.u8 21 == 1)).pwrSettle.finish via .done) := by
  refine congrArg Host.Outcome.next (runRow_ends h (by simp [hop]) (by rcases hen with hen | ⟨hen, hrim⟩ <;> simp [firstFail, hthere, *]) ?_)
  rw [pwrNamed_begun, fixAll]

theorem pwrFixedSet_sets (h : Starts s true via p j s1) (hop : p.base = 0x0A11) (hthere : s1.pwrAbsent p = false) (hen : p.u8 21 = 1) :
    Ends (exec (.pwrFixedSet via p) s) via .done (fun u => Keeps [.regs, .pwr] (s1.beginJob true via j) u ∧
      ∀ i ∈ s1.pwrNamed p, u.pFixed i = true ∧ u.pCeil i = 1 ∧ u.pWant i = 1) := by
  have hrun := exec_pwrFixedSet h hop hthere (.inl hen)
  rw [beq_iff_eq.2 hen] at hrun
  let w := (s1.beginJob true via j).fixAll (s1.pwrNamed p) true
  have hkeeps : Keeps [.regs, .pwr] (s1.beginJob true via j) w := Keeps.foldl _ fun u i _ => keeps_pFix u i
  refine ⟨_, hrun, hkeeps.trans ((keeps_pwrSettle w).mono (by simp)), fun i hi => ?_⟩
  have hfixed : FixedAt i w :=
    foldl_reaches (P := fun _ => True) (Q := FixedAt i) (f := fun s i => s.pFix i true) (fun _ _ _ => trivial) (fun u _ => fixedAt_pFix u i) (fun u k hu => fixedAt_keeps hu k) hi trivial
  rw [pFixed_pwrSettle, pCeil_congr (congrArg Pwr.ceil (pwrSettle_pwr w)), pWant_pwrSettle]
  exact ⟨hfixed.fixed, hfixed.ceil, hfixed.want⟩

theorem pwrFixedSet_clears (h : Starts s true via p j s1) (hop : p.base = 0x0A11) (hthere : s1.pwrAbsent p = false) (hen : p.u8 21 = 0)
    (hrim : s1.pwrRim p = false) :
    Ends (exec (.pwrFixedSet via p) s) via .done (fun u => Keeps [.regs] (s1.beginJob true via j) u ∧
      ∀ i ∈ s1.pwrNamed p, u.pFixed i = false) := by
  have hrun := exec_pwrFixedSet h hop hthere (.inr ⟨hen, hrim⟩)
  rw [beq_eq_false_iff_ne.2 (show p.u8 21 ≠ 1 by omega)] at hrun
  let w := (s1.beginJob true via j).fixAll (s1.pwrNamed p) false
  have hkeeps : Keeps [.regs] (s1.beginJob true via j) w := Keeps.foldl _ fun u i _ => by
    rw [pFix_cleared]
    exact keeps_fbw u _ _
  refine ⟨_, hrun, hkeeps.trans (keeps_pwrSettle w), fun i hi => ?_⟩
  rw [pFixed_pwrSettle]
  refine foldl_reaches (P := fun _ => True) (Q := fun u => u.pFixed i = false) (fun _ _ _ => trivial)
    (fun u _ => ?_) (fun u k hu => ?_) hi trivial
  · rw [pFix_cleared, pFixed_fbw, if_pos rfl]
  · rw [pFix_cleared, pFixed_fbw, hu, ite_self]

theorem pwrFixedSet_ofRim (h : Starts s true via p j s1) (hop : p.base = 0x0A11) (hthere : s1.pwrAbsent p = false) (hen : p.u8 21 = 0)
    (hrim : s1.pwrRim p = true) : exec (.pwrFixedSet via p) s = .next (s1.finish via (.refuse 0x0A05)) :=
  congrArg Host.Outcome.next (runRow_refused h (by simp [hop]) (by simp [firstFail, hthere, hen, hrim]))

/-! ## The cap (16 R552, R558) -/

theorem capRange_le (s : State) : s.capRange ≤ 1550 := Nat.sub_le _ _

theorem pwrCapSet_sets (h : Starts s true via p j s1) (hop : p.base = 0x0A12) (hexpert : p.expert = true) (hlow : 400 ≤ p.u16 16)
    (hhigh : p.u16 16 ≤ s1.capRange) :
    Ends (exec (.pwrCapSet via p) s) via .done (fun u => u.fd Fld.PWR_CFG_CAP_W = p.u16 16 ∧
      Keeps [.regs] (s1.beginJob true via j) u ∧ RegsKeep [Reg.PWR_CFG.addr] (s1.beginJob true via j) u) := by
  have hrun : exec (.pwrCapSet via p) s = .next (((s1.beginJob true via j).fw Fld.PWR_CFG_CAP_W (p.u16 16)).finish via .done) := by
    refine congrArg Host.Outcome.next (runRow_ends h (by simp [hop])
      (by simp [firstFail, profileOne, hexpert, Nat.not_lt.2 hlow, Nat.not_lt.2 hhigh]) ?_)
    rw [if_pos hexpert]
  have hsmall : p.u16 16 < 2 ^ 11 := lt_of_le_of_lt (hhigh.trans (capRange_le s1)) (by decide)
  exact ⟨_, hrun, (fd_fw_self _ _ _ (by decide) (by decide)).trans (Nat.mod_eq_of_lt hsmall), keeps_fw _ _ _, regsKeep_fw _ Fld.PWR_CFG_CAP_W _⟩

theorem pwrCapSet_outside (h : Starts s true via p j s1) (hop : p.base = 0x0A12) (hexpert : p.expert = true)
    (hout : p.u16 16 < 400 ∨ s1.capRange < p.u16 16) : exec (.pwrCapSet via p) s = .next (s1.finish via .param) :=
  congrArg Host.Outcome.next (runRow_refused h (by simp [hop]) (by rcases hout with hout | hout <;> simp [firstFail, hexpert, hout]))

end Sys2Proof.Machine.State
end

section
/-! Power-fail warnings and regulator alerts (O51). -/

namespace Sys2Proof.Safety

open Sys2Proof.Machine Sys2Proof.Machine.State

/-- A record joins the log at its front. -/
theorem log_trouble (s : State) (code sev island addr data : Nat) :
    ∃ r, (s.trouble code sev island addr data).log = r :: s.log ∧ r.code = code := by
  simp only [State.trouble]
  split
  · exact ⟨_, keeps_raise _ 2 .log (by decide), rfl⟩
  · exact ⟨_, rfl, rfl⟩

theorem mem_log_trouble (s : State) (code sev island addr data : Nat) : ∃ r ∈ (s.trouble code sev island addr data).log, r.code = code := by
  obtain ⟨r, hlog, hcode⟩ := log_trouble s code sev island addr data
  exact ⟨r, by rw [hlog]; exact List.mem_cons_self, hcode⟩

theorem log_subset_trouble (s : State) (code sev island addr data : Nat) : s.log ⊆ (s.trouble code sev island addr data).log := by
  obtain ⟨r, hlog, -⟩ := log_trouble s code sev island addr data
  rw [hlog]
  exact List.subset_cons_self _ _

theorem log_subset_healthCheck (s : State) : s.log ⊆ s.healthCheck.log := by
  simp only [State.healthCheck]
  split
  · exact List.Subset.refl _
  · have hlog := ((keeps_fw s Fld.RAS_HEALTH_STATE s.health).trans (keeps_fbw _ Fld.RAS_HEALTH_REPLACE (s.health != 0))) .log (by decide)
    exact fun r hr => log_subset_trouble _ _ _ _ _ _ (by rw [hlog]; exact hr)

/-- A pausing lane and a FAIL condition write RIM_STATUS and the services' registers. -/
theorem lanePause_frame (s : State) (c : Nat) :
    Keeps [.regs, .pair, .rim, .out, .eng] s (s.lanePause c) ∧ RegsOutside 0xa00000 0xb00900 s (s.lanePause c) := by
  refine ⟨keeps_lanePause s c, ?_⟩
  have hpause : ∀ u : State, RegsOutside 0xa00000 0xb00900 u (if u.lane = 2 then u.laneTo 3 else u) := fun u => by
    split
    · exact regsOutside_laneTo u 3 (le_refl _)
    · exact .refl _ _ u
  unfold lanePause
  refine RegsOutside.trans ?_ (hpause _)
  split
  · exact .refl _ _ s
  · exact .of_keeps (keeps_withRim s _) (by decide)

theorem pairFail_frame (s : State) (c : Nat) :
    Keeps [.regs, .pair, .rim, .out] s (s.pairFail c) ∧ RegsOutside 0xb00100 0xb00900 s (s.pairFail c) := by
  have hcond : Keeps [.pair] s (if s.pair.conds.contains c then s else { s with pair := { s.pair with conds := s.pair.conds ++ [c] } }) := by
    split
    · exact Keeps.refl _ s
    · exact keeps_withPair s _
  exact ⟨(hcond.mono (by simp)).trans (keeps_pairCheck _), (RegsOutside.of_keeps hcond (by decide)).trans (regsOutside_pairCheck _)⟩

end Sys2Proof.Safety

namespace Sys2Proof.Machine.State

open Sys2Proof.Safety

/-! ## What PWR_STATUS shows -/

/-- The flags of PWR_STATUS that `pwrSettle` does not bring up to date stay. -/
theorem fb_pwrSettle (s : State) {lo : Nat} (hlo : lo < 22 ∨ 22 < lo ∧ lo < 26 ∨ 26 < lo ∧ lo < 32) :
    s.pwrSettle.fb ⟨Reg.PWR_STATUS, lo, 1⟩ = s.fb ⟨Reg.PWR_STATUS, lo, 1⟩ := by
  have hin : lo + 1 ≤ 32 := by omega
  rw [pwrSettle, fb_fw_ne _ Fld.PWR_WAKE_Q_PENDING ⟨Reg.PWR_STATUS, lo, 1⟩ _ (show (0x400000 : Nat) ≠ 0x400024 by decide),
    fb_fbw_apart _ Fld.PWR_STATUS_ADMIT_STOPPED ⟨Reg.PWR_STATUS, lo, 1⟩ _ rfl (show lo + 1 ≤ 22 ∨ 22 + 1 ≤ lo by omega) hin (show 32 ≤ 64 by decide),
    fb_fbw_apart _ Fld.PWR_STATUS_CAP_LIMITING ⟨Reg.PWR_STATUS, lo, 1⟩ _ rfl (show lo + 1 ≤ 26 ∨ 26 + 1 ≤ lo by omega) hin (show 32 ≤ 64 by decide)]

theorem pfw_pwrSettle (s : State) : s.pwrSettle.pfw = s.pfw := fb_pwrSettle s (.inr (.inr (by decide)))

theorem alert_pwrSettle (s : State) : s.pwrSettle.fb Fld.PWR_STATUS_REG_ALERT = s.fb Fld.PWR_STATUS_REG_ALERT :=
  fb_pwrSettle s (.inr (.inr (by decide)))

/-- ADMIT_STOPPED follows the warning and the alert. -/
theorem admitStopped_pwrSettle (s : State) : s.pwrSettle.fb Fld.PWR_STATUS_ADMIT_STOPPED = s.wakeStopped := by
  rw [pwrSettle, fb_fw_ne _ _ _ _ (by decide), fb_fbw_self _ _ _ rfl (by decide) (by decide), wakeStopped,
    fb_fbw_apart _ _ _ _ (by rfl) (by decide) (by decide) (by decide), fb_fbw_apart _ _ _ _ (by rfl) (by decide) (by decide) (by decide), wakeStopped]

/-- The islands' registers, and the floor state's causes. -/
theorem rdIsl_pwrSettle (s : State) (i : Nat) : s.pwrSettle.rd (Reg.PWR_ISL i) = s.rd (Reg.PWR_ISL i) :=
  (regsKeep_pwrSettle s).rd (isl_addr_not_mem i)

/-! ## Islands put into the floor state (16 R554) -/

/-- An island in the floor state, shown as forced. -/
structure InFloor (i : Nat) (s : State) : Prop where
  state : s.pState i = pFloor
  forced : s.fb (Fld.PWR_ISL_FORCED_FLOOR i) = true
  floored : s.pFloored i = true

theorem InFloor.congr {i : Nat} {s t : State} (h : InFloor i s) (hregs : t.rd (Reg.PWR_ISL i) = s.rd (Reg.PWR_ISL i)) (hpwr : t.pwr = s.pwr) :
    InFloor i t :=
  ⟨(fd_of_rd hregs).trans h.state, (congrArg (· != 0) (fd_of_rd (f := Fld.PWR_ISL_FORCED_FLOOR i) hregs)).trans h.forced,
    (congrArg (fun x : Pwr => x.floors.any (fun e => e.1 == i)) hpwr).trans h.floored⟩

/-- The cause of a floor state listed, once. -/
def causeListed (s : State) (cause i : Nat) : State :=
  if s.pwr.floors.contains (i, cause) then s else s.updPwr (fun x => { x with floors := x.floors ++ [(i, cause)] })

theorem keeps_causeListed (s : State) (cause i : Nat) : Keeps [.pwr] s (s.causeListed cause i) := by
  unfold causeListed
  split
  · exact Keeps.refl _ s
  · exact keeps_updPwr s _

theorem pFloored_causeListed (s : State) (cause i k : Nat) (h : k = i ∨ s.pFloored k = true) : (s.causeListed cause i).pFloored k = true := by
  unfold causeListed
  split_ifs with hc
  · rcases h with rfl | h
    · exact List.any_eq_true.2 ⟨_, List.contains_iff_mem.1 hc, beq_self_eq_true _⟩
    · exact h
  · rw [pFloored, updPwr_pwr, List.any_append, Bool.or_eq_true]
    rcases h with rfl | h
    · exact .inr (by simp)
    · exact .inl h

theorem floorIn_eq (s : State) {cause : Nat} (h : cause ≤ 3) (i : Nat) :
    s.floorIn cause i = ((s.causeListed cause i).fw (Fld.PWR_ISL_PSTATE i) pFloor).fbw (Fld.PWR_ISL_FORCED_FLOOR i) true := if_pos h

theorem floorIn_frame (s : State) {cause : Nat} (h : cause ≤ 3) {i : Nat} (hi : i < 100) :
    Keeps [.regs, .pwr] s (s.floorIn cause i) ∧ RegsOutside 0x400100 0x400290 s (s.floorIn cause i) := by
  have haddr : 0x400100 ≤ (Reg.PWR_ISL i).addr ∧ (Reg.PWR_ISL i).addr < 0x400290 := by
    simp only [Reg.PWR_ISL]
    omega
  rw [floorIn_eq s h]
  exact ⟨(((keeps_causeListed s cause i).mono (by simp)).trans ((keeps_fw _ _ _).mono (by simp))).trans ((keeps_fbw _ _ _).mono (by simp)),
    ((RegsOutside.of_keeps (keeps_causeListed s cause i) (by decide)).trans (.fw _ _ _ haddr.1 haddr.2)).trans (.fw _ _ _ haddr.1 haddr.2)⟩

theorem inFloor_floorIn (s : State) {cause : Nat} (h : cause ≤ 3) (i : Nat) : InFloor i (s.floorIn cause i) := by
  rw [floorIn_eq s h]
  refine ⟨?_, fb_fbw_self _ _ _ rfl (show 26 + 1 ≤ 32 by decide) (show 32 ≤ 64 by decide), ?_⟩
  · rw [pState, fd_fbw_apart _ (Fld.PWR_ISL_FORCED_FLOOR i) (Fld.PWR_ISL_PSTATE i) _ rfl (.inr (show 26 + 1 ≤ 29 by decide)) (show 29 + 3 ≤ 32 by decide) (show 32 ≤ 64 by decide),
      fd_fw_self _ _ _ (show 29 + 3 ≤ 32 by decide) (show 32 ≤ 64 by decide)]
    rfl
  · rw [pFloored, keeps_fbw _ _ _ .pwr (by decide), keeps_fw _ _ _ .pwr (by decide)]
    exact pFloored_causeListed s cause i i (.inl rfl)

/-- An island in the floor state stays there when another is put into it. -/
theorem InFloor.floorIn {i : Nat} {s : State} (hs : InFloor i s) {cause : Nat} (h : cause ≤ 3) (k : Nat) : InFloor i (s.floorIn cause k) := by
  by_cases hik : i = k
  · rw [hik]
    exact inFloor_floorIn s h k
  · have haddr : (Reg.PWR_ISL i).addr ≠ (Reg.PWR_ISL k).addr := by
      simp only [Reg.PWR_ISL]
      omega
    have hlisted : InFloor i (s.causeListed cause k) :=
      ⟨((keeps_causeListed s cause k).fd (by decide) _).trans hs.state, ((keeps_causeListed s cause k).fb (by decide) _).trans hs.forced,
        pFloored_causeListed s cause k i (.inr hs.floored)⟩
    rw [floorIn_eq s h]
    refine hlisted.congr ?_ ((keeps_fbw _ _ _ .pwr (by decide)).trans (keeps_fw _ _ _ .pwr (by decide)))
    rw [fbw, rd_fw_ne _ _ _ _ haddr, rd_fw_ne _ _ _ _ haddr]

/-- Every clocked core-PLL island put into the floor state. -/
def allFloored (s : State) (cause : Nat) : State := s.corePlls.foldl (fun s i => s.floorIn cause i) s

theorem corePlls_lt {s : State} {i : Nat} (h : i ∈ s.corePlls) : i < 100 := List.mem_range.1 (List.mem_filter.1 h).1

theorem corePlls_congr {s t : State} (h0 : t.rd Reg.CLK_EN0 = s.rd Reg.CLK_EN0) (h1 : t.rd Reg.CLK_EN1 = s.rd Reg.CLK_EN1) :
    t.corePlls = s.corePlls := by
  simp only [corePlls, islandOn_congr h0 h1]

theorem allFloored_frame (s : State) {cause : Nat} (h : cause ≤ 3) :
    Keeps [.regs, .pwr] s (s.allFloored cause) ∧ RegsOutside 0x400100 0x400290 s (s.allFloored cause) ∧
      ∀ i ∈ s.corePlls, InFloor i (s.allFloored cause) :=
  ⟨Keeps.foldl s fun u _ hi => (floorIn_frame u h (corePlls_lt hi)).1, .foldl s fun u _ hi => (floorIn_frame u h (corePlls_lt hi)).2,
    fun i hi => foldl_reaches (P := fun _ => True) (Q := InFloor i) (f := fun s i => s.floorIn cause i) (fun _ _ _ => trivial)
      (fun u _ => inFloor_floorIn u h i) (fun _ k hu => hu.floorIn h k) hi trivial⟩

/-! ## The start of a warning and of an alert -/

/-- What a warning and an alert do alike: the floor state, the lane's pause, the module's FAIL condition. -/
def suppliesLow (s : State) (cause hold : Nat) : State := (((s.allFloored cause).lanePause hold).pairFail 4).pwrSettle

theorem suppliesLow_frame (s : State) {cause : Nat} (h : cause ≤ 3) (hold : Nat) :
    Keeps [.regs, .pwr, .pair, .rim, .out, .eng] s (s.suppliesLow cause hold) ∧
      (∀ i ∈ s.corePlls, InFloor i (s.suppliesLow cause hold)) ∧
      (s.suppliesLow cause hold).pfw = s.pfw ∧
      (s.suppliesLow cause hold).fb Fld.PWR_STATUS_REG_ALERT = s.fb Fld.PWR_STATUS_REG_ALERT ∧
      (s.suppliesLow cause hold).fb Fld.PWR_STATUS_PFW_SEEN = s.fb Fld.PWR_STATUS_PFW_SEEN ∧
      (s.suppliesLow cause hold).fb Fld.PWR_STATUS_REG_ALERT_SEEN = s.fb Fld.PWR_STATUS_REG_ALERT_SEEN ∧
      (s.suppliesLow cause hold).fb Fld.PWR_STATUS_ADMIT_STOPPED = s.wakeStopped ∧
      (s.suppliesLow cause hold).rd Reg.HIF_URGENT_CAUSE = s.rd Reg.HIF_URGENT_CAUSE := by
  obtain ⟨hkf, hrf, hfloor⟩ := allFloored_frame s h
  obtain ⟨hkl, hrl⟩ := lanePause_frame (s.allFloored cause) hold
  obtain ⟨hkp, hrp⟩ := pairFail_frame ((s.allFloored cause).lanePause hold) 4
  have hdone : Keeps [.regs, .pair, .rim, .out, .eng] (s.allFloored cause) (((s.allFloored cause).lanePause hold).pairFail 4) :=
    hkl.trans (hkp.mono (by simp))
  have hfar : RegsOutside 0xa00000 0xb00900 (s.allFloored cause) (((s.allFloored cause).lanePause hold).pairFail 4) :=
    hrl.trans (hrp.mono (by decide) (by decide))
  have hflag : ∀ f : Fld, f.reg = Reg.PWR_STATUS → (((s.allFloored cause).lanePause hold).pairFail 4).fb f = s.fb f := fun f hf =>
    (hfar.fb (.inl (by rw [hf]; decide))).trans (hrf.fb (.inl (by rw [hf]; decide)))
  unfold suppliesLow
  generalize ((s.allFloored cause).lanePause hold).pairFail 4 = w at hdone hfar hflag
  refine ⟨((hkf.mono (by simp)).trans (hdone.mono (by simp))).trans ((keeps_pwrSettle w).mono (by simp)), fun i hi => ?_,
    (pfw_pwrSettle w).trans (hflag _ rfl), (alert_pwrSettle w).trans (hflag _ rfl),
    (fb_pwrSettle w (.inr (.inr (by decide)))).trans (hflag _ rfl), (fb_pwrSettle w (.inr (.inr (by decide)))).trans (hflag _ rfl), ?_, ?_⟩
  · have hisl : w.rd (Reg.PWR_ISL i) = (s.allFloored cause).rd (Reg.PWR_ISL i) := hfar.rd (.inl (by
      have := corePlls_lt hi
      simp only [Reg.PWR_ISL]
      omega))
    exact ((hfloor i hi).congr hisl (hdone .pwr (by decide))).congr (rdIsl_pwrSettle w i) (pwrSettle_pwr w)
  · rw [admitStopped_pwrSettle, wakeStopped, hflag _ rfl, hflag _ rfl, wakeStopped]
  · rw [(regsKeep_pwrSettle w).rd (by decide), hfar.rd (by decide), hrf.rd (by decide)]

/-- The warning shown. -/
def pfwShown (s : State) : State :=
  ((s.trouble 0x0C84 3 80 0 (s.rd Reg.RST_COUNT * 2 ^ 32 + (s.rd Reg.RAS_LOG_SEQ + 1 - 512))).fbw Fld.PWR_STATUS_PFW true).fbw
    Fld.PWR_STATUS_PFW_SEEN true

theorem pfwBegin_eq {s : State} (h : s.pfw = false) : s.pfwBegin = (s.pfwShown.urgent 1).suppliesLow 1 2 := by
  rw [pfwBegin, if_neg (by simp [h])]
  rfl

theorem powerFailWarning_begins {s : State} (h : s.pfw = false) :
    Goes (exec .powerFailWarning s) (fun u => u.pfw = true ∧ u.fb Fld.PWR_STATUS_PFW_SEEN = true ∧
      u.fb Fld.PWR_STATUS_ADMIT_STOPPED = true ∧ bit (u.rd Reg.HIF_URGENT_CAUSE) 1 = true ∧ (∃ r ∈ u.log, r.code = 0x0C84) ∧
      (∀ i ∈ s.corePlls, u.pState i = pFloor ∧ u.fb (Fld.PWR_ISL_FORCED_FLOOR i) = true ∧ u.pFloored i = true) ∧ u.mem = s.mem) := by
  obtain ⟨hku, hbit⟩ := urgent_sets s.pfwShown (b := 1) (by decide)
  have hru := regsKeep_urgent s.pfwShown 1
  have hkt := keeps_trouble s 0x0C84 3 80 0 (s.rd Reg.RST_COUNT * 2 ^ 32 + (s.rd Reg.RAS_LOG_SEQ + 1 - 512))
  have hrt := regsKeep_trouble s 0x0C84 3 80 0 (s.rd Reg.RST_COUNT * 2 ^ 32 + (s.rd Reg.RAS_LOG_SEQ + 1 - 512))
  obtain ⟨r, hr, hcode⟩ := mem_log_trouble s 0x0C84 3 80 0 (s.rd Reg.RST_COUNT * 2 ^ 32 + (s.rd Reg.RAS_LOG_SEQ + 1 - 512))
  have hks : Keeps [.regs] (s.trouble 0x0C84 3 80 0 (s.rd Reg.RST_COUNT * 2 ^ 32 + (s.rd Reg.RAS_LOG_SEQ + 1 - 512))) s.pfwShown :=
    (keeps_fbw _ _ _).trans (keeps_fbw _ _ _)
  have hen : ∀ q : Reg, q.addr ≠ Reg.PWR_STATUS.addr → q.addr ≠ Reg.RAS_LOG_SEQ.addr → q.addr ≠ Reg.HIF_URGENT_CAUSE.addr →
      (s.pfwShown.urgent 1).rd q = s.rd q := fun q h1 h2 h3 => by
    rw [hru.rd (by simpa using h3), pfwShown, fbw, fbw, rd_fw_ne _ _ _ _ h1, rd_fw_ne _ _ _ _ h1, hrt.rd (by simpa using h2)]
  have hplls : (s.pfwShown.urgent 1).corePlls = s.corePlls :=
    corePlls_congr (hen _ (by decide) (by decide) (by decide)) (hen _ (by decide) (by decide) (by decide))
  obtain ⟨hkl, hfloor, hpfw, -, hseen, -, hadmit, hcause⟩ := suppliesLow_frame (s.pfwShown.urgent 1) (cause := 1) (by decide) 2
  have hshown : (s.pfwShown.urgent 1).pfw = true := by
    rw [pfw, hru.fb (by decide), pfwShown, fb_fbw_apart _ _ _ _ (by rfl) (by decide) (by decide) (by decide), fb_fbw_self _ _ _ rfl (by decide) (by decide)]
  refine ⟨_, congrArg Host.Outcome.next (pfwBegin_eq h), hpfw.trans hshown, ?_, ?_, ?_, ⟨r, ?_, hcode⟩, fun i hi => ?_, ?_⟩
  · rw [hseen, hru.fb (by decide), pfwShown, fb_fbw_self _ _ _ rfl (by decide) (by decide)]
  · rw [hadmit, wakeStopped, ← pfw, hshown, Bool.true_or]
  · rw [hcause, hbit]
  · rw [hkl .log (by decide), hku .log (by decide), hks .log (by decide)]
    exact hr
  · have hin := hfloor i (by rw [hplls]; exact hi)
    exact ⟨hin.state, hin.forced, hin.floored⟩
  · rw [hkl .mem (by decide), hku .mem (by decide), hks .mem (by decide), hkt .mem (by decide)]

/-- The alert shown. -/
def alertShown (s : State) : State := (s.fbw Fld.PWR_STATUS_REG_ALERT true).fbw Fld.PWR_STATUS_REG_ALERT_SEEN true

theorem alertBegin_eq {s : State} (h : s.fb Fld.PWR_STATUS_REG_ALERT = false) : s.alertBegin = (s.alertShown.urgent 2).suppliesLow 2 3 := by
  rw [alertBegin, if_neg (by simp [h])]
  rfl

theorem regAlert_begins {s : State} (h : s.fb Fld.PWR_STATUS_REG_ALERT = false) :
    Goes (exec .regAlert s) (fun u => u.fb Fld.PWR_STATUS_REG_ALERT = true ∧
      u.fb Fld.PWR_STATUS_REG_ALERT_SEEN = true ∧ u.fb Fld.PWR_STATUS_ADMIT_STOPPED = true ∧ bit (u.rd Reg.HIF_URGENT_CAUSE) 2 = true ∧
      (∀ i ∈ s.corePlls, u.pState i = pFloor ∧ u.fb (Fld.PWR_ISL_FORCED_FLOOR i) = true ∧ u.pFloored i = true) ∧ u.mem = s.mem) := by
  obtain ⟨hku, hbit⟩ := urgent_sets s.alertShown (b := 2) (by decide)
  have hru := regsKeep_urgent s.alertShown 2
  have hks : Keeps [.regs] s s.alertShown := (keeps_fbw _ _ _).trans (keeps_fbw _ _ _)
  have hen : ∀ q : Reg, q.addr ≠ Reg.PWR_STATUS.addr → q.addr ≠ Reg.HIF_URGENT_CAUSE.addr → (s.alertShown.urgent 2).rd q = s.rd q :=
    fun q h1 h2 => by
      rw [hru.rd (by simpa using h2), alertShown, fbw, fbw, rd_fw_ne _ _ _ _ h1, rd_fw_ne _ _ _ _ h1]
  have hplls : (s.alertShown.urgent 2).corePlls = s.corePlls := corePlls_congr (hen _ (by decide) (by decide)) (hen _ (by decide) (by decide))
  obtain ⟨hkl, hfloor, -, halert, -, hseen, hadmit, hcause⟩ := suppliesLow_frame (s.alertShown.urgent 2) (cause := 2) (by decide) 3
  have hshown : (s.alertShown.urgent 2).fb Fld.PWR_STATUS_REG_ALERT = true := by
    rw [hru.fb (by decide), alertShown, fb_fbw_apart _ _ _ _ (by rfl) (by decide) (by decide) (by decide), fb_fbw_self _ _ _ rfl (by decide) (by decide)]
  refine ⟨_, congrArg Host.Outcome.next (alertBegin_eq h), halert.trans hshown, ?_, ?_, ?_, fun i hi => ?_, ?_⟩
  · rw [hseen, hru.fb (by decide), alertShown, fb_fbw_self _ _ _ rfl (by decide) (by decide)]
  · rw [hadmit, wakeStopped, hshown, Bool.or_true]
  · rw [hcause, hbit]
  · have hin := hfloor i (by rw [hplls]; exact hi)
    exact ⟨hin.state, hin.forced, hin.floored⟩
  · rw [hkl .mem (by decide), hku .mem (by decide), hks .mem (by decide)]

end Sys2Proof.Machine.State
end

section
/-! The ends of warnings and alerts, faulting phases, telemetry and energy; then all of O51. -/

namespace Sys2Proof.Machine.State

open Sys2Proof.Safety

/-! ## The end of a warning and of an alert -/

/-- What a cause of the floor state that ends leaves: the warning and the alert as shown, and of the causes listed only new wakes. -/
structure CauseEnded (s t : State) : Prop where
  pfw : t.pfw = s.pfw
  alert : t.fb Fld.PWR_STATUS_REG_ALERT = s.fb Fld.PWR_STATUS_REG_ALERT
  floors : ∀ e ∈ t.pwr.floors, e ∈ s.pwr.floors ∨ e.2 = 5
  keeps : Keeps [.regs, .pwr] s t

namespace CauseEnded

variable {s t u : State}

theorem refl (s : State) : CauseEnded s s := ⟨rfl, rfl, fun _ he => .inl he, Keeps.refl _ s⟩

theorem trans (h : CauseEnded s t) (h' : CauseEnded t u) : CauseEnded s u :=
  ⟨h'.pfw.trans h.pfw, h'.alert.trans h.alert, fun e he => (h'.floors e he).elim (h.floors e) .inr, h.keeps.trans h'.keeps⟩

theorem wakeQueued (s : State) (i : Nat) (ungate : Bool) : CauseEnded s (s.wakeQueue i ungate) := by
  simp only [wakeQueue]
  split
  · exact refl s
  · have hkeeps := keeps_updPwr s (fun x => { x with wakes := x.wakes ++ [(i, ungate)] })
    refine ⟨(pfw_pwrSettle _).trans (hkeeps.fb (by decide) _), (alert_pwrSettle _).trans (hkeeps.fb (by decide) _), fun e he => ?_,
      (hkeeps.mono (by simp)).trans ((keeps_pwrSettle _).mono (by simp))⟩
    rw [pwrSettle_pwr, updPwr_pwr] at he
    exact .inl he

/-- An island that waits for its wake. -/
theorem wakeListed (s : State) (i : Nat) : CauseEnded s (s.updPwr (fun x => { x with floors := x.floors ++ [(i, 5)] })) := by
  have hkeeps := keeps_updPwr s (fun x => { x with floors := x.floors ++ [(i, 5)] })
  refine ⟨hkeeps.fb (by decide) _, hkeeps.fb (by decide) _, fun e he => ?_, hkeeps.mono (by simp)⟩
  rw [updPwr_pwr, List.mem_append] at he
  exact he.imp id fun h => by rw [List.mem_singleton.1 h]

theorem unforced (s : State) (i : Nat) : CauseEnded s (s.fbw (Fld.PWR_ISL_FORCED_FLOOR i) false) := by
  have hne : Reg.PWR_STATUS.addr ≠ (Reg.PWR_ISL i).addr := by
    simp only [Reg.PWR_STATUS, Reg.PWR_ISL]
    omega
  exact ⟨fb_fbw_ne s _ _ _ hne, fb_fbw_ne s _ _ _ hne, fun e he => .inl (by rwa [keeps_fbw s _ _ .pwr (by decide)] at he),
    (keeps_fbw s _ _).mono (by simp)⟩

end CauseEnded

theorem floorOut_frame (s : State) (cause : Nat) (hc : cause ≠ 5) :
    (s.floorOut cause (List.range 100)).pfw = s.pfw ∧
      (s.floorOut cause (List.range 100)).fb Fld.PWR_STATUS_REG_ALERT = s.fb Fld.PWR_STATUS_REG_ALERT ∧
      (∀ e ∈ (s.floorOut cause (List.range 100)).pwr.floors, e.2 = cause → 100 ≤ e.1) ∧
      Keeps [.regs, .pwr] s (s.floorOut cause (List.range 100)) := by
  unfold floorOut
  extract_lets held w freed
  have hw : Keeps [.pwr] s w := keeps_updPwr s _
  have hfloors : ∀ e ∈ w.pwr.floors, e.2 = cause → 100 ≤ e.1 := fun e he hcause => by
    obtain ⟨hin, hkept⟩ := List.mem_filter.1 he
    by_contra hsmall
    have hheld : e.1 ∈ held := List.mem_filter.2 ⟨List.mem_range.2 (by omega), List.contains_iff_mem.2 (by rw [← hcause]; exact hin)⟩
    simp [hcause, hheld] at hkept
  have hfold := List.foldlRecOn (motive := fun u => CauseEnded w u) freed (fun (s : State) i =>
    if s.pWant i = pFloor then s.fbw (Fld.PWR_ISL_FORCED_FLOOR i) false
    else (s.updPwr (fun x => { x with floors := x.floors ++ [(i, 5)] })).wakeQueue i false) (CauseEnded.refl w) (fun u hu i _ => by
      split
      · exact hu.trans (.unforced u i)
      · exact hu.trans ((CauseEnded.wakeListed u i).trans (.wakeQueued _ i false)))
  refine ⟨hfold.pfw.trans (hw.fb (by decide) _), hfold.alert.trans (hw.fb (by decide) _), fun e he hcause => ?_,
    (hw.mono (by simp)).trans hfold.keeps⟩
  rcases hfold.floors e he with hin | hwake
  · exact hfloors e hin hcause
  · exact absurd (hcause.symm.trans hwake) hc

/-- The warning taken back and its cause of the floor state ended. -/
def supplyBack (s : State) (f : Fld) (cause hold : Nat) : State := ((s.fbw f false).floorOut cause (List.range 100)).laneHoldEnd hold

theorem supplyBack_frame (s : State) (f : Fld) {cause : Nat} (hc : cause ≠ 5) (hold : Nat) :
    (s.supplyBack f cause hold).pfw = (s.fbw f false).pfw ∧
      (s.supplyBack f cause hold).fb Fld.PWR_STATUS_REG_ALERT = (s.fbw f false).fb Fld.PWR_STATUS_REG_ALERT ∧
      (∀ e ∈ (s.supplyBack f cause hold).pwr.floors, e.2 = cause → 100 ≤ e.1) ∧
      hold ∉ (s.supplyBack f cause hold).rim.holds ∧ (s.supplyBack f cause hold).mem = s.mem := by
  obtain ⟨hpfw, halert, hfloors, hkeeps⟩ := floorOut_frame (s.fbw f false) cause hc
  have hmem : ((s.fbw f false).floorOut cause (List.range 100)).mem = s.mem :=
    (hkeeps .mem (by decide)).trans (keeps_fbw s f _ .mem (by decide))
  unfold supplyBack
  generalize (s.fbw f false).floorOut cause (List.range 100) = w at hpfw halert hfloors hmem
  have hheld : Keeps [.rim] w (w.laneHoldEnd hold) := keeps_withRim w _
  refine ⟨(hheld.fb (by decide) _).trans hpfw, (hheld.fb (by decide) _).trans halert, fun e he => hfloors e ?_, fun hin => ?_,
    (hheld .mem (by decide)).trans hmem⟩
  · rwa [hheld .pwr (by decide)] at he
  · simpa using (List.mem_filter.1 hin).2

/-- The module's FAIL condition ended where nothing else holds it. -/
def failBack (s : State) (still : Bool) : State := if still then s else s.pairFailEnd 4

theorem failBack_frame (s : State) (still : Bool) : Keeps [.regs, .pair, .rim, .out] s (s.failBack still) ∧
    RegsOutside 0xb00100 0xb00900 s (s.failBack still) ∧ RimButRt s (s.failBack still) := by
  unfold failBack
  split
  · exact ⟨Keeps.refl _ s, .refl _ _ s, .refl s⟩
  · exact pairFailEnd_frame s 4

theorem holds_of_rimButRt {s t : State} (h : RimButRt s t) : t.rim.holds = s.rim.holds := by
  obtain ⟨rt, hrt⟩ := h
  rw [hrt]

theorem pfwRelease_ends {s : State} (h : s.pfw = true) :
    GoesOn (exec .pfwRelease s) (fun w => ((List.range 32).foldl (fun s t => s.pump t) w).flashKick.pwrSettle) (fun w =>
      w.pfw = false ∧ (∀ e ∈ w.pwr.floors, e.2 = 1 → 100 ≤ e.1) ∧ 2 ∉ w.rim.holds ∧ w.mem = s.mem) := by
  let w := s.supplyBack Fld.PWR_STATUS_PFW 1 2
  obtain ⟨hpfw, -, hfloors, hholds, hmem⟩ := supplyBack_frame s Fld.PWR_STATUS_PFW (cause := 1) (by decide) 2
  have hrun : s.pfwEnd = ((List.range 32).foldl (fun s t => s.pump t) (w.failBack (w.fb Fld.PWR_STATUS_REG_ALERT))).flashKick.pwrSettle := by
    rw [pfwEnd, if_neg (by simp [h])]
    rfl
  obtain ⟨hkb, hrb, hrim⟩ := failBack_frame w (w.fb Fld.PWR_STATUS_REG_ALERT)
  refine ⟨_, congrArg Host.Outcome.next hrun, (hrb.fb (.inl (by decide))).trans (hpfw.trans ?_), fun e he => hfloors e ?_, ?_,
    (hkb .mem (by decide)).trans hmem⟩
  · exact fb_fbw_self s _ _ rfl (by decide) (by decide)
  · rwa [hkb .pwr (by decide)] at he
  · rw [holds_of_rimButRt hrim]
    exact hholds

theorem regAlertClear_ends {s : State} (h : s.fb Fld.PWR_STATUS_REG_ALERT = true) :
    Goes (exec .regAlertClear s) (fun u => u.fb Fld.PWR_STATUS_REG_ALERT = false ∧
      u.fb Fld.PWR_STATUS_ADMIT_STOPPED = s.pfw ∧ (∀ e ∈ u.pwr.floors, e.2 = 2 → 100 ≤ e.1) ∧ 3 ∉ u.rim.holds ∧ u.mem = s.mem) := by
  let w := s.supplyBack Fld.PWR_STATUS_REG_ALERT 2 3
  obtain ⟨hpfw, halert, hfloors, hholds, hmem⟩ := supplyBack_frame s Fld.PWR_STATUS_REG_ALERT (cause := 2) (by decide) 3
  have hrun : s.alertEnd = (w.failBack w.pfw).pwrSettle := by
    rw [alertEnd, if_neg (by simp [h])]
    rfl
  obtain ⟨hkb, hrb, hrim⟩ := failBack_frame w w.pfw
  have hclear : (w.failBack w.pfw).fb Fld.PWR_STATUS_REG_ALERT = false :=
    ((hrb.fb (.inl (by decide))).trans halert).trans (fb_fbw_self s _ _ rfl (by decide) (by decide))
  have hsame : (w.failBack w.pfw).pfw = s.pfw :=
    ((hrb.fb (.inl (by decide))).trans hpfw).trans (fb_fbw_apart s _ _ _ (by rfl) (by decide) (by decide) (by decide))
  have hks := keeps_pwrSettle (w.failBack w.pfw)
  refine ⟨_, congrArg Host.Outcome.next hrun, (alert_pwrSettle _).trans hclear, ?_, fun e he => hfloors e ?_, ?_, ?_⟩
  · rw [admitStopped_pwrSettle, wakeStopped, hclear, Bool.or_false]
    exact hsame
  · rwa [hks .pwr (by decide), hkb .pwr (by decide)] at he
  · rw [hks .rim (by decide), holds_of_rimButRt hrim]
    exact hholds
  · rw [hks .mem (by decide), hkb .mem (by decide), hmem]

/-! ## The log's tail (19 R632) -/

/-- The tail of the log kept. -/
def tailKept (s : State) (l : List LogRec) : State := { s with ras := { s.ras with tail := l } }

theorem logTailCopyDone_copies {s : State} (h : (s.log.dropWhile (fun r => r.code != 0x0C84)).take 512 ≠ []) :
    Goes (exec .logTailCopyDone s) (fun u =>
      u.ras = { s.ras with tail := ((s.log.dropWhile (fun r => r.code != 0x0C84)).take 512).reverse } ∧ u.fb Fld.RST_BKP0_LOG_TAIL_VALID = true ∧
      Keeps [.regs, .ras] s u ∧ RegsKeep [Reg.RST_BKP0.addr] s u) := by
  have hrun : exec .logTailCopyDone s = .next ((s.tailKept ((s.log.dropWhile (fun r => r.code != 0x0C84)).take 512).reverse).fbw
      Fld.RST_BKP0_LOG_TAIL_VALID true) := congrArg Host.Outcome.next (if_neg (by rwa [List.isEmpty_iff]))
  have hkeeps : Keeps [.ras] s (s.tailKept ((s.log.dropWhile (fun r => r.code != 0x0C84)).take 512).reverse) := keeps_withRas s _
  exact ⟨_, hrun, keeps_fbw _ _ _ .ras (by decide), fb_fbw_self _ _ _ rfl (by decide) (by decide),
    (hkeeps.mono (by simp)).trans ((keeps_fbw _ _ _).mono (by simp)), (hkeeps.regsKeep (by decide) _).trans (regsKeep_fbw _ Fld.RST_BKP0_LOG_TAIL_VALID _)⟩

theorem logTailCopyDone_empty {s : State} (h : (s.log.dropWhile (fun r => r.code != 0x0C84)).take 512 = []) :
    exec .logTailCopyDone s = .next s := congrArg Host.Outcome.next (if_pos (by rw [h]; rfl))

end Sys2Proof.Machine.State
end

section
/-! Faulting phases, telemetry and energy; then all of O51. -/

namespace Sys2Proof.Machine.State

open Sys2Proof.Safety

/-! ## A faulting phase (16 R552) -/

theorem keeps_persist (s : State) (body : Nat) : Keeps [.ras] s (s.persist body) := (persist_frame s body).1

theorem length_unsaved_persist (s : State) (body : Nat) : (s.persist body).ras.unsaved.length = s.ras.unsaved.length + 1 :=
  List.length_append

/-- A unit retired, in the log and for the RAS store. -/
theorem logRetired_frame (s : State) (kind unit island : Nat) :
    Keeps [.regs, .log, .out, .hif, .ras] s (s.logRetired kind unit island) ∧
      RegsKeep [Reg.RAS_LOG_SEQ.addr] s (s.logRetired kind unit island) ∧
      (s.logRetired kind unit island).ras.unsaved.length = s.ras.unsaved.length + 1 ∧
      (∃ r ∈ (s.logRetired kind unit island).log, r.code = 0x0C80) := by
  have hkt := keeps_trouble s 0x0C80 0 island 0 (kind * 2 ^ 60 + unit)
  have hlog := mem_log_trouble s 0x0C80 0 island 0 (kind * 2 ^ 60 + unit)
  have hrt := regsKeep_trouble s 0x0C80 0 island 0 (kind * 2 ^ 60 + unit)
  unfold logRetired
  generalize s.trouble 0x0C80 0 island 0 (kind * 2 ^ 60 + unit) = w at hkt hlog hrt
  have hkp := keeps_persist w (kind * 2 ^ 52 + unit)
  refine ⟨(hkt.mono (by simp)).trans (hkp.mono (by simp)), hrt.trans (hkp.regsKeep (by decide) _), ?_, ?_⟩
  · rw [length_unsaved_persist, hkt .ras (by decide)]
  · rw [hkp .log (by decide)]
    exact hlog

/-- A record and the health that follows from it: the log only grows. -/
theorem troubleHealth_frame (s : State) (code sev island addr data : Nat) :
    Keeps [.regs, .log, .out, .hif] s (s.trouble code sev island addr data).healthCheck ∧
      RegsKeep [Reg.RAS_HEALTH.addr, Reg.RAS_LOG_SEQ.addr] s (s.trouble code sev island addr data).healthCheck ∧
      s.log ⊆ (s.trouble code sev island addr data).healthCheck.log :=
  ⟨(keeps_trouble s code sev island addr data).trans (keeps_healthCheck _),
    ((regsKeep_trouble s code sev island addr data).mono (by simp)).trans (regsKeep_healthCheck _),
    fun _ hr => log_subset_healthCheck _ (log_subset_trouble s code sev island addr data hr)⟩

/-- The phases of a die without a spare: one phase fewer. -/
def phaseLost (s : State) (active : Fld) : State := (s.logNoSpare 7).fw active (s.fd active - 1)

/-- The cap brought into the range that the phases permit. -/
def capFitted (s : State) : State := s.fw Fld.PWR_CFG_CAP_W (min (s.fd Fld.PWR_CFG_CAP_W) s.capRange)

/-- A spare phase spent. -/
def phaseSpared (s : State) (spare : Fld) (n island : Nat) : State := (s.fw spare (s.fd spare - 1)).logSpare 7 n island

/-- What a fault of phase `n` changes, by the fields of its die. -/
structure PhaseFaulted (s u : State) (spare active : Fld) : Prop where
  unsaved : u.ras.unsaved.length = s.ras.unsaved.length + 1
  logged : ∃ r ∈ u.log, r.code = 0x0C80
  mem : u.mem = s.mem
  spared : s.fd spare ≠ 0 → u.fd spare = s.fd spare - 1 ∧ u.fd active = s.fd active ∧ u.fd Fld.PWR_CFG_CAP_W = s.fd Fld.PWR_CFG_CAP_W
  lost : s.fd spare = 0 → u.fd spare = 0 ∧ u.fd active = s.fd active - 1 ∧
    u.fd Fld.PWR_CFG_CAP_W = min (s.fd Fld.PWR_CFG_CAP_W) u.capRange

/-- A die's fields of PWR_PHASE. -/
structure PhaseFields (spare active : Fld) : Prop where
  spareReg : spare.reg = Reg.PWR_PHASE
  activeReg : active.reg = Reg.PWR_PHASE
  spareIn : spare.lo + spare.w ≤ 32
  activeIn : active.lo + active.w ≤ 32
  apart : spare.lo + spare.w ≤ active.lo

variable {spare active : Fld}

theorem capRange_congr {s t : State} (h : t.rd Reg.PWR_PHASE = s.rd Reg.PWR_PHASE) : t.capRange = s.capRange := by
  rw [capRange, capRange, fd_of_rd (f := Fld.PWR_PHASE_W_ACTIVE) h, fd_of_rd (f := Fld.PWR_PHASE_E_ACTIVE) h]

theorem fd_lt (s : State) (f : Fld) : s.fd f < 2 ^ f.w := bits_lt _ _ _

theorem fd_fw_small (s : State) {f : Fld} {v : Nat} (hin : f.lo + f.w ≤ f.reg.width) (hw : f.reg.width ≤ 64) (h : v ≤ s.fd f) :
    (s.fw f v).fd f = v := (fd_fw_self s f v hin hw).trans (Nat.mod_eq_of_lt (h.trans_lt (fd_lt s f)))

theorem phaseFaulted_spared (hf : PhaseFields spare active) (s : State) (kind unit island n : Nat) (hleft : s.fd spare ≠ 0) :
    PhaseFaulted s ((s.logRetired kind unit island).phaseSpared spare n island) spare active := by
  obtain ⟨hkr, hrr, hunsaved, hlog⟩ := logRetired_frame s kind unit island
  have hphase : ∀ f : Fld, f.reg = Reg.PWR_PHASE → (s.logRetired kind unit island).fd f = s.fd f := fun f h => hrr.fd (by rw [h]; decide)
  have hcap : (s.logRetired kind unit island).fd Fld.PWR_CFG_CAP_W = s.fd Fld.PWR_CFG_CAP_W := hrr.fd (by decide)
  have hmem := hkr .mem (by decide)
  generalize s.logRetired kind unit island = w at hunsaved hlog hphase hcap hmem
  have hkw := keeps_fw w spare (w.fd spare - 1)
  have hw : spare.reg.width ≤ 64 := by rw [hf.spareReg]; decide
  have hspare : (w.fw spare (w.fd spare - 1)).fd spare = w.fd spare - 1 :=
    fd_fw_small w (by rw [hf.spareReg]; exact hf.spareIn) hw (Nat.sub_le _ _)
  have hactive : (w.fw spare (w.fd spare - 1)).fd active = w.fd active :=
    fd_fw_apart w spare active _ (hf.activeReg.trans hf.spareReg.symm) (.inr hf.apart) (by rw [hf.activeReg]; exact hf.activeIn)
      (by rw [hf.activeReg]; decide)
  have hsame : (w.fw spare (w.fd spare - 1)).fd Fld.PWR_CFG_CAP_W = w.fd Fld.PWR_CFG_CAP_W := fd_fw_ne w _ _ _ (by rw [hf.spareReg]; decide)
  unfold phaseSpared logSpare
  generalize w.fw spare (w.fd spare - 1) = v at hkw hspare hactive hsame
  obtain ⟨hkt, hrt, hgrows⟩ := troubleHealth_frame v 0x0C81 0 island 0 (7 * 2 ^ 60 + n)
  have hkept : ∀ f : Fld, f.reg.addr < 0x700000 → (v.trouble 0x0C81 0 island 0 (7 * 2 ^ 60 + n)).healthCheck.fd f = v.fd f := fun f h =>
    hrt.fd (by simp only [Reg.RAS_HEALTH, Reg.RAS_LOG_SEQ, List.mem_cons, List.not_mem_nil, or_false]; omega)
  refine ⟨?_, ?_, ?_, fun _ => ⟨?_, ?_, ?_⟩, fun h => absurd h hleft⟩
  · rw [hkt .ras (by decide), hkw .ras (by decide), hunsaved]
  · obtain ⟨r, hr, hcode⟩ := hlog
    exact ⟨r, hgrows (by rw [hkw .log (by decide)]; exact hr), hcode⟩
  · rw [hkt .mem (by decide), hkw .mem (by decide), hmem]
  · rw [hkept _ (by rw [hf.spareReg]; decide), hspare, hphase _ hf.spareReg]
  · rw [hkept _ (by rw [hf.activeReg]; decide), hactive, hphase _ hf.activeReg]
  · rw [hkept _ (by decide), hsame, hcap]

theorem phaseFaulted_lost (hf : PhaseFields spare active) (s : State) (kind unit island : Nat) (hnone : s.fd spare = 0) :
    PhaseFaulted s (((s.logRetired kind unit island).phaseLost active).capFitted) spare active := by
  obtain ⟨hkr, hrr, hunsaved, hlog⟩ := logRetired_frame s kind unit island
  obtain ⟨hkt, hrt, hgrows⟩ := troubleHealth_frame (s.logRetired kind unit island) 0x0C82 0 0xFF 0 (7 * 2 ^ 60)
  have hkept : ∀ f : Fld, f.reg.addr < 0x700000 → ((s.logRetired kind unit island).logNoSpare 7).fd f = s.fd f := fun f h =>
    (hrt.fd (by simp only [Reg.RAS_HEALTH, Reg.RAS_LOG_SEQ, List.mem_cons, List.not_mem_nil, or_false]; omega)).trans
      (hrr.fd (by simp only [Reg.RAS_LOG_SEQ, List.mem_singleton]; omega))
  have hras : ((s.logRetired kind unit island).logNoSpare 7).ras.unsaved.length = s.ras.unsaved.length + 1 := by
    rw [← hunsaved]
    exact congrArg (fun x : Ras => x.unsaved.length) (hkt .ras (by decide))
  have hmem : ((s.logRetired kind unit island).logNoSpare 7).mem = s.mem := (hkt .mem (by decide)).trans (hkr .mem (by decide))
  have hlogged : ∃ r ∈ ((s.logRetired kind unit island).logNoSpare 7).log, r.code = 0x0C80 := hlog.imp fun r hr => ⟨hgrows hr.1, hr.2⟩
  rw [phaseLost, hrr.fd (f := active) (by rw [hf.activeReg]; decide)]
  generalize (s.logRetired kind unit island).logNoSpare 7 = w at hkept hras hmem hlogged
  rw [← hkept active (by rw [hf.activeReg]; decide)]
  have hkw := keeps_fw w active (w.fd active - 1)
  have hactive : (w.fw active (w.fd active - 1)).fd active = w.fd active - 1 :=
    fd_fw_small w (by rw [hf.activeReg]; exact hf.activeIn) (by rw [hf.activeReg]; decide) (Nat.sub_le _ _)
  have hspare : (w.fw active (w.fd active - 1)).fd spare = w.fd spare :=
    fd_fw_apart w active spare _ (hf.spareReg.trans hf.activeReg.symm) (.inl hf.apart) (by rw [hf.spareReg]; exact hf.spareIn)
      (by rw [hf.spareReg]; decide)
  have hcap : (w.fw active (w.fd active - 1)).fd Fld.PWR_CFG_CAP_W = w.fd Fld.PWR_CFG_CAP_W := fd_fw_ne w _ _ _ (by rw [hf.activeReg]; decide)
  generalize w.fw active (w.fd active - 1) = v at hkw hactive hspare hcap
  have hkf : Keeps [.regs] v v.capFitted := keeps_fw v _ _
  have hphase : ∀ f : Fld, f.reg = Reg.PWR_PHASE → v.capFitted.fd f = v.fd f := fun f h => fd_fw_ne v _ _ _ (by rw [h]; decide)
  refine ⟨?_, ?_, ?_, fun h => absurd hnone h, fun _ => ⟨?_, ?_, ?_⟩⟩
  · rw [hkf .ras (by decide), hkw .ras (by decide), hras]
  · rw [hkf .log (by decide), hkw .log (by decide)]
    exact hlogged
  · rw [hkf .mem (by decide), hkw .mem (by decide), hmem]
  · rw [hphase _ hf.spareReg, hspare, hkept _ (by rw [hf.spareReg]; decide), hnone]
  · rw [hphase _ hf.activeReg, hactive, hkept _ (by rw [hf.activeReg]; decide)]
  · rw [capFitted, fd_fw_small v (by decide) (by decide) (Nat.min_le_left _ _), capRange_congr (s := v) (rd_fw_ne v _ _ _ (by decide)), hcap,
      hkept _ (by decide)]

/-- Phase `n` of a die with these fields and so many phases at an island has faulted. -/
def phaseOut (s : State) (spare active : Fld) (n island total : Nat) : State :=
  if (s.logRetired 7 n island).fd spare = 0 then ((s.logRetired 7 n island).phaseLost active).capFitted
  else (s.logRetired 7 n island).phaseSpared spare (total - (s.logRetired 7 n island).fd spare) island

theorem phaseFaulted_phaseOut (hf : PhaseFields spare active) (s : State) (n island total : Nat) :
    PhaseFaulted s (s.phaseOut spare active n island total) spare active := by
  have hsame : (s.logRetired 7 n island).fd spare = s.fd spare :=
    (logRetired_frame s 7 n island).2.1.fd (by rw [hf.spareReg]; decide)
  unfold phaseOut
  rw [hsame]
  split_ifs with h
  · exact phaseFaulted_lost hf s 7 n island h
  · exact phaseFaulted_spared hf s 7 n island _ h

theorem phaseFields_east : PhaseFields Fld.PWR_PHASE_E_SPARE Fld.PWR_PHASE_E_ACTIVE := ⟨rfl, rfl, by decide, by decide, by decide⟩

theorem phaseFields_west : PhaseFields Fld.PWR_PHASE_W_SPARE Fld.PWR_PHASE_W_ACTIVE := ⟨rfl, rfl, by decide, by decide, by decide⟩

theorem exec_phaseFault (s : State) (n : Nat) : exec (.phaseFault n) s =
    .next (if 24 ≤ n then s.phaseOut Fld.PWR_PHASE_E_SPARE Fld.PWR_PHASE_E_ACTIVE n 96 48
      else s.phaseOut Fld.PWR_PHASE_W_SPARE Fld.PWR_PHASE_W_ACTIVE n 95 24) := by
  refine congrArg Host.Outcome.next ?_
  by_cases h : 24 ≤ n
  · simp only [h, decide_true, if_true, phaseOut, phaseLost, capFitted, phaseSpared]
  · simp only [h, decide_false, Bool.false_eq_true, if_false, phaseOut, phaseLost, capFitted, phaseSpared]

theorem phaseFault_shows (s : State) (n : Nat) :
    Goes (exec (.phaseFault n) s) (fun u => PhaseFaulted s u (if 24 ≤ n then Fld.PWR_PHASE_E_SPARE else Fld.PWR_PHASE_W_SPARE)
      (if 24 ≤ n then Fld.PWR_PHASE_E_ACTIVE else Fld.PWR_PHASE_W_ACTIVE)) := by
  refine ⟨_, exec_phaseFault s n, ?_⟩
  split_ifs
  · exact phaseFaulted_phaseOut phaseFields_east s n 96 48
  · exact phaseFaulted_phaseOut phaseFields_west s n 95 24

/-! ## Telemetry and energy (16 R553, R568) -/

/-- The input, the hold-up bank and the two averages shown. -/
def inputShown (s : State) (v i b a1 a2 : Nat) : State :=
  ((((s.fw Fld.PWR_INPUT_V_10MV (min v 65535)).fw Fld.PWR_INPUT_I_10MA (min i 65535)).fw Fld.PWR_HOLDUP_V_10MV (min b 65535)).fw
    Fld.PWR_POWER_AVG_100US (min a1 65535)).fw Fld.PWR_POWER_AVG_10MS (min a2 65535)

/-- The flags that follow from the voltages. -/
def voltageFlags (s : State) (v b : Nat) : State :=
  (s.fbw Fld.PWR_STATUS_INPUT_LOW (decide (v < 4400))).fbw Fld.PWR_STATUS_HOLDUP_FULL (decide (5600 ≤ b))

theorem fd_fw_16 (s : State) {f : Fld} (v : Nat) (hin : f.lo + f.w ≤ f.reg.width) (hw : f.reg.width ≤ 64) (h16 : f.w = 16) :
    (s.fw f (min v 65535)).fd f = min v 65535 := by
  rw [fd_fw_self s f _ hin hw, h16]
  omega

theorem inputShown_shows (s : State) (v i b a1 a2 : Nat) :
    (s.inputShown v i b a1 a2).fd Fld.PWR_INPUT_V_10MV = min v 65535 ∧ (s.inputShown v i b a1 a2).fd Fld.PWR_INPUT_I_10MA = min i 65535 ∧
      (s.inputShown v i b a1 a2).fd Fld.PWR_HOLDUP_V_10MV = min b 65535 ∧ (s.inputShown v i b a1 a2).fd Fld.PWR_POWER_AVG_100US = min a1 65535 ∧
      (s.inputShown v i b a1 a2).fd Fld.PWR_POWER_AVG_10MS = min a2 65535 := by
  unfold inputShown
  refine ⟨?_, ?_, ?_, ?_, fd_fw_16 _ _ (by decide) (by decide) rfl⟩
  · rw [fd_fw_ne _ _ _ _ (by decide), fd_fw_ne _ _ _ _ (by decide), fd_fw_ne _ _ _ _ (by decide),
      fd_fw_apart _ _ _ _ (by rfl) (by decide) (by decide) (by decide), fd_fw_16 _ _ (by decide) (by decide) rfl]
  · rw [fd_fw_ne _ _ _ _ (by decide), fd_fw_ne _ _ _ _ (by decide), fd_fw_ne _ _ _ _ (by decide), fd_fw_16 _ _ (by decide) (by decide) rfl]
  · rw [fd_fw_ne _ _ _ _ (by decide), fd_fw_ne _ _ _ _ (by decide), fd_fw_16 _ _ (by decide) (by decide) rfl]
  · rw [fd_fw_apart _ _ _ _ (by rfl) (by decide) (by decide) (by decide), fd_fw_16 _ _ (by decide) (by decide) rfl]

theorem inputShown_frame (s : State) (v i b a1 a2 : Nat) : Keeps [.regs] s (s.inputShown v i b a1 a2) ∧
    RegsKeep [Reg.PWR_INPUT.addr, Reg.PWR_HOLDUP.addr, Reg.PWR_POWER.addr, Reg.PWR_STATUS.addr] s (s.inputShown v i b a1 a2) :=
  ⟨((((keeps_fw s _ _).trans (keeps_fw _ _ _)).trans (keeps_fw _ _ _)).trans (keeps_fw _ _ _)).trans (keeps_fw _ _ _),
    (((((regsKeep_fw s Fld.PWR_INPUT_V_10MV _).mono (by decide)).trans ((regsKeep_fw _ Fld.PWR_INPUT_I_10MA _).mono (by decide))).trans
      ((regsKeep_fw _ Fld.PWR_HOLDUP_V_10MV _).mono (by decide))).trans ((regsKeep_fw _ Fld.PWR_POWER_AVG_100US _).mono (by decide))).trans
      ((regsKeep_fw _ Fld.PWR_POWER_AVG_10MS _).mono (by decide))⟩

theorem voltageFlags_frame (s : State) (v b : Nat) : Keeps [.regs] s (s.voltageFlags v b) ∧ RegsKeep [Reg.PWR_STATUS.addr] s (s.voltageFlags v b) ∧
    (s.voltageFlags v b).fb Fld.PWR_STATUS_INPUT_LOW = decide (v < 4400) ∧ (s.voltageFlags v b).fb Fld.PWR_STATUS_HOLDUP_FULL = decide (5600 ≤ b) := by
  unfold voltageFlags
  refine ⟨(keeps_fbw s _ _).trans (keeps_fbw _ _ _), (regsKeep_fbw s Fld.PWR_STATUS_INPUT_LOW _).trans (regsKeep_fbw _ Fld.PWR_STATUS_HOLDUP_FULL _),
    ?_, fb_fbw_self _ _ _ rfl (by decide) (by decide)⟩
  rw [fb_fbw_apart _ _ _ _ (by rfl) (by decide) (by decide) (by decide), fb_fbw_self _ _ _ rfl (by decide) (by decide)]

theorem regulatorTelemetry_shows (s : State) (v i b a1 a2 : Nat) :
    Goes (exec (.regulatorTelemetry v i b a1 a2) s) (fun u => u.fd Fld.PWR_INPUT_V_10MV = min v 65535 ∧
      u.fd Fld.PWR_INPUT_I_10MA = min i 65535 ∧ u.fd Fld.PWR_HOLDUP_V_10MV = min b 65535 ∧ u.fd Fld.PWR_POWER_AVG_100US = min a1 65535 ∧
      u.fd Fld.PWR_POWER_AVG_10MS = min a2 65535 ∧ u.fb Fld.PWR_STATUS_INPUT_LOW = decide (v < 4400) ∧
      u.fb Fld.PWR_STATUS_HOLDUP_FULL = decide (5600 ≤ b) ∧ Keeps [.regs] s u ∧
      RegsKeep [Reg.PWR_INPUT.addr, Reg.PWR_HOLDUP.addr, Reg.PWR_POWER.addr, Reg.PWR_STATUS.addr] s u) := by
  have hrun : exec (.regulatorTelemetry v i b a1 a2) s = .next ((s.inputShown v i b a1 a2).voltageFlags v b) := rfl
  obtain ⟨hv, hi, hb, h1, h2⟩ := inputShown_shows s v i b a1 a2
  obtain ⟨hki, hri⟩ := inputShown_frame s v i b a1 a2
  obtain ⟨hkf, hrf, hlow, hfull⟩ := voltageFlags_frame (s.inputShown v i b a1 a2) v b
  exact ⟨_, hrun, (hrf.fd (by decide)).trans hv, (hrf.fd (by decide)).trans hi, (hrf.fd (by decide)).trans hb, (hrf.fd (by decide)).trans h1,
    (hrf.fd (by decide)).trans h2, hlow, hfull, hki.trans hkf, hri.trans (hrf.mono (by decide))⟩

theorem holdupFull_shows (s : State) : Goes (exec .holdupFull s) (fun u => u.fb Fld.PWR_STATUS_HOLDUP_FULL = true ∧ Keeps [.regs] s u ∧
    RegsKeep [Reg.PWR_STATUS.addr] s u) :=
  ⟨s.fbw Fld.PWR_STATUS_HOLDUP_FULL true, rfl, fb_fbw_self s _ _ rfl (by decide) (by decide), keeps_fbw s _ _,
    regsKeep_fbw s Fld.PWR_STATUS_HOLDUP_FULL _⟩

/-- Energy booked on a counter. -/
def booked (s : State) (r : Reg) (n : Nat) : State := s.bumpWrap r 64 n

theorem keeps_booked (s : State) (r : Reg) (n : Nat) : Keeps [.regs] s (s.booked r n) := keeps_wr s _ _

theorem rd_booked_self (s : State) (r : Reg) (n : Nat) (hw : r.width = 64) : (s.booked r n).rd r = (s.rd r + n) % 2 ^ 64 := by
  rw [booked, bumpWrap, rd_wr_self _ _ _ (by omega), hw, Nat.mod_mod]

theorem rd_booked_ne (s : State) (r q : Reg) (n : Nat) (h : q.addr ≠ r.addr) : (s.booked r n).rd q = s.rd q := rd_wr_ne s r q _ h

/-- The partitions' shares booked in turn. -/
def sharesBooked (s : State) (parts : List Nat) (l : List Nat) : State := l.foldl (fun s p => s.booked (Reg.PWR_E_PART p) (parts.getD p 0)) s

/-- Shares that the energy covers are booked whole, and the rest is what they leave. -/
theorem shares_covered (parts l : List Nat) (s : State) (left : Nat) (h : (l.map (fun k => parts.getD k 0)).sum ≤ left) :
    l.foldl (fun (e : State × Nat) p => (e.1.booked (Reg.PWR_E_PART p) (min e.2 (parts.getD p 0)), e.2 - min e.2 (parts.getD p 0))) (s, left) =
      (s.sharesBooked parts l, left - (l.map (fun k => parts.getD k 0)).sum) := by
  induction l generalizing s left with
  | nil => rfl
  | cons a l ih =>
    rw [List.map_cons, List.sum_cons] at h
    rw [List.foldl_cons, Nat.min_eq_right (by omega), ih _ _ (by omega), List.map_cons, List.sum_cons, Nat.sub_sub]
    rfl

theorem rd_sharesBooked (s : State) (parts l : List Nat) {q : Reg} (h : ∀ k ∈ l, q.addr ≠ (Reg.PWR_E_PART k).addr) :
    (s.sharesBooked parts l).rd q = s.rd q :=
  List.foldlRecOn (motive := fun u : State => u.rd q = s.rd q) l _ rfl fun u hu k hk => (rd_booked_ne u _ q _ (h k hk)).trans hu

theorem rd_sharesBooked_part (s : State) (parts l : List Nat) (hl : l.Nodup) {k : Nat} (hk : k ∈ l) :
    (s.sharesBooked parts l).rd (Reg.PWR_E_PART k) = (s.rd (Reg.PWR_E_PART k) + parts.getD k 0) % 2 ^ 64 := by
  induction l generalizing s with
  | nil => simp at hk
  | cons a l ih =>
    obtain ⟨hal, hl⟩ := List.nodup_cons.1 hl
    have hne : ∀ i m : Nat, i ≠ m → (Reg.PWR_E_PART i).addr ≠ (Reg.PWR_E_PART m).addr := fun i m h => by
      simp only [Reg.PWR_E_PART]
      omega
    have hcons : s.sharesBooked parts (a :: l) = (s.booked (Reg.PWR_E_PART a) (parts.getD a 0)).sharesBooked parts l := rfl
    rw [hcons]
    rcases List.mem_cons.1 hk with rfl | hk
    · rw [rd_sharesBooked _ _ _ fun m hm => hne k m (ne_of_mem_of_not_mem hm hal).symm, rd_booked_self _ _ _ rfl]
    · rw [ih _ hl hk, rd_booked_ne _ _ _ _ (hne k a (ne_of_mem_of_not_mem hk hal))]

/-- The energy of a period, of the module, of its partitions and of one ring. -/
def energyBooked (s : State) (uj : Nat) (parts : List Nat) (n e : Nat) : State :=
  (((s.booked Reg.PWR_E_MODULE uj).sharesBooked parts (List.range 7)).booked (Reg.PWR_E_PART 7)
    (uj - ((List.range 7).map (fun k => parts.getD k 0)).sum)).booked (Reg.PWR_E_RING n) e

theorem keeps_energyBooked (s : State) (uj : Nat) (parts : List Nat) (n e : Nat) : Keeps [.regs] s (s.energyBooked uj parts n e) :=
  (((keeps_booked s _ _).trans (Keeps.foldl _ fun u _ _ => keeps_booked u _ _)).trans (keeps_booked _ _ _)).trans (keeps_booked _ _ _)

/-- What the serving engine's tiles used, booked on the accounts of the step in progress. -/
def accountsBooked (s : State) (served : Nat) : State :=
  let work := match s.srv.step with | some x => x.work | none => []
  work.foldl (fun s w =>
    match s.srvReq w.1 w.2.1 with
    | some r => s.booked (Reg.PWR_E_ACCT (r.account % 256)) (served * w.2.2.1 / (work.map (fun w => w.2.2.1)).sum)
    | none => s) s

theorem accountsBooked_idle {s : State} (h : s.srv.step = none) (served : Nat) : s.accountsBooked served = s := by
  unfold accountsBooked
  rw [h]
  rfl

/-- The shares of partitions 0 to 6 with what is left of the energy. -/
def sharesOf (s : State) (uj : Nat) (parts : List Nat) : State × Nat :=
  (List.range 7).foldl (fun (e : State × Nat) p => (e.1.booked (Reg.PWR_E_PART p) (min e.2 (parts.getD p 0)), e.2 - min e.2 (parts.getD p 0))) (s, uj)

/-- The rings' energy booked. -/
def ringsBooked (s : State) (rings : List (Nat × Nat)) : State :=
  (rings.filter (fun e => decide (e.1 < 128))).foldl (fun s e => s.booked (Reg.PWR_E_RING e.1) e.2) s

theorem ringsBooked_one (s : State) {n : Nat} (hn : n < 128) (e : Nat) : s.ringsBooked [(n, e)] = s.booked (Reg.PWR_E_RING n) e := by
  rw [ringsBooked, List.filter_cons_of_pos (by simpa using hn)]
  rfl

theorem exec_energyAccounting (s : State) (uj : Nat) (parts : List Nat) (rings : List (Nat × Nat)) (served : Nat) :
    exec (.energyAccounting uj parts rings served) s =
      .next (((((s.booked Reg.PWR_E_MODULE uj).sharesOf uj parts).1.booked (Reg.PWR_E_PART 7)
        ((s.booked Reg.PWR_E_MODULE uj).sharesOf uj parts).2).ringsBooked rings).accountsBooked served) := rfl

theorem energyAccounting_books (s : State) (uj : Nat) (parts : List Nat) (n e served : Nat) (hn : n < 128) (hidle : s.srv.step = none)
    (hsum : ((List.range 7).map (fun k => parts.getD k 0)).sum ≤ uj) :
    exec (.energyAccounting uj parts [(n, e)] served) s = .next (s.energyBooked uj parts n e) := by
  have hstep : (s.energyBooked uj parts n e).srv.step = none := by rw [keeps_energyBooked s uj parts n e .srv (by decide), hidle]
  rw [exec_energyAccounting, ringsBooked_one _ hn, sharesOf, shares_covered parts (List.range 7) _ uj hsum]
  exact congrArg Host.Outcome.next (accountsBooked_idle hstep served)

theorem energyAccounting_shows (s : State) (uj : Nat) (parts : List Nat) (n e served : Nat) (hn : n < 128) (hidle : s.srv.step = none)
    (hsum : ((List.range 7).map (fun k => parts.getD k 0)).sum ≤ uj) :
    Goes (exec (.energyAccounting uj parts [(n, e)] served) s) (fun u => u.rd Reg.PWR_E_MODULE = (s.rd Reg.PWR_E_MODULE + uj) % 2 ^ 64 ∧
      (∀ k, k < 7 → u.rd (Reg.PWR_E_PART k) = (s.rd (Reg.PWR_E_PART k) + parts.getD k 0) % 2 ^ 64) ∧
      u.rd (Reg.PWR_E_PART 7) = (s.rd (Reg.PWR_E_PART 7) + (uj - ((List.range 7).map (fun k => parts.getD k 0)).sum)) % 2 ^ 64 ∧
      u.rd (Reg.PWR_E_RING n) = (s.rd (Reg.PWR_E_RING n) + e) % 2 ^ 64 ∧ Keeps [.regs] s u) := by
  have hring : ∀ q : Reg, q.addr < 0x400800 → q.addr ≠ (Reg.PWR_E_RING n).addr := fun q h => by
    simp only [Reg.PWR_E_RING]
    omega
  have hpart : ∀ k, k < 8 → (Reg.PWR_E_PART k).addr < 0x400800 ∧ (Reg.PWR_E_PART k).addr ≠ Reg.PWR_E_MODULE.addr := fun k h => by
    simp only [Reg.PWR_E_PART, Reg.PWR_E_MODULE]
    omega
  have hparts : ∀ k m : Nat, k ≠ m → (Reg.PWR_E_PART k).addr ≠ (Reg.PWR_E_PART m).addr := fun k m h => by
    simp only [Reg.PWR_E_PART]
    omega
  refine ⟨_, energyAccounting_books s uj parts n e served hn hidle hsum, ?_, fun k hk => ?_, ?_, ?_, keeps_energyBooked s uj parts n e⟩
  · rw [energyBooked, rd_booked_ne _ _ _ _ (hring _ (by decide)), rd_booked_ne _ _ _ _ (by decide),
      rd_sharesBooked _ _ _ fun k hk => (hpart k (by have := List.mem_range.1 hk; omega)).2.symm, rd_booked_self _ _ _ rfl]
  · rw [energyBooked, rd_booked_ne _ _ _ _ (hring _ (hpart k (by omega)).1), rd_booked_ne _ _ _ _ (hparts k 7 (by omega)),
      rd_sharesBooked_part _ _ _ List.nodup_range (List.mem_range.2 hk), rd_booked_ne _ _ _ _ (hpart k (by omega)).2]
  · rw [energyBooked, rd_booked_ne _ _ _ _ (hring _ (hpart 7 (by omega)).1), rd_booked_self _ _ _ rfl,
      rd_sharesBooked _ _ _ fun k hk => hparts 7 k (by have := List.mem_range.1 hk; omega), rd_booked_ne _ _ _ _ (by decide)]
  · have hout : ∀ k, k < 8 → (Reg.PWR_E_RING n).addr ≠ (Reg.PWR_E_PART k).addr := fun k hk => (hring _ (hpart k hk).1).symm
    rw [energyBooked, rd_booked_self _ _ _ rfl, rd_booked_ne _ _ _ _ (hout 7 (by omega)),
      rd_sharesBooked _ _ _ fun k hk => hout k (by have := List.mem_range.1 hk; omega), rd_booked_ne _ _ _ _ (hring _ (by decide)).symm]

end Sys2Proof.Machine.State

namespace Sys2Proof

open Sys2Proof.Machine Sys2Proof.Machine.State Sys2Proof.Safety

/-- Settles O51, a power command, event or report at a time: ceilings in turn are those of a list without repetition, a warning and an alert
share what they do, and the partitions' shares are booked whole. -/
theorem powerCommandsAndWarnings : Obligations.PowerCommandsAndWarnings := by
  unfold Obligations.PowerCommandsAndWarnings
  refine ⟨fun s via p j s1 h hop hexpert hv hthere => ⟨pwrPstateSet_runs h hop hexpert hv hthere, pwrPstateSet_ofRim h hop hexpert hv hthere,
      pwrPstateSet_ofFixed h hop hexpert hv hthere⟩,
    fun s via p j s1 h hop hthere => ⟨pwrFixedSet_sets h hop hthere, pwrFixedSet_clears h hop hthere, pwrFixedSet_ofRim h hop hthere⟩,
    fun s via p j s1 h hop hexpert => ⟨pwrCapSet_sets h hop hexpert, pwrCapSet_outside h hop hexpert⟩,
    fun s => ⟨powerFailWarning_begins, fun h => congrArg Host.Outcome.next (if_pos h)⟩,
    fun s => ⟨pfwRelease_ends, fun h => congrArg Host.Outcome.next (if_pos (by simp [h]))⟩,
    fun s => ⟨regAlert_begins, fun h => congrArg Host.Outcome.next (if_pos h)⟩,
    fun s => ⟨regAlertClear_ends, fun h => congrArg Host.Outcome.next (if_pos (by simp [h]))⟩,
    fun s => ⟨logTailCopyDone_copies, logTailCopyDone_empty⟩, fun s n _ => ?_, regulatorTelemetry_shows, holdupFull_shows,
    energyAccounting_shows⟩
  obtain ⟨u, hrun, hf⟩ := phaseFault_shows s n
  exact ⟨u, hrun, hf.unsaved, hf.logged, hf.mem, hf.spared, hf.lost⟩

end Sys2Proof
end

section
/-! Entry to core and system reset (O53): what each level leaves. -/

namespace Sys2Proof.Safety

open Sys2Proof.Machine Sys2Proof.Machine.State

/-- A store with only the keys that pass a test reads as before there, and as its default elsewhere. -/
theorem get_filter_keys {α : Type} (p : Nat → Bool) (d : α) (k : Nat) (l : List (Nat × α)) :
    Cells.get d k (l.filter (fun e => p e.1)) = if p k then Cells.get d k l else d := by
  induction l with
  | nil => simp [Cells.get]
  | cons e l ih =>
    obtain ⟨a, v⟩ := e
    by_cases hp : p a
    · rw [List.filter_cons_of_pos (by exact hp), Cells.get, Cells.get, ih]
      by_cases hak : a = k
      · rw [if_pos hak, if_pos hak, if_pos (hak ▸ hp)]
      · rw [if_neg hak, if_neg hak]
    · rw [List.filter_cons_of_neg (by exact hp), ih, Cells.get]
      by_cases hak : a = k
      · rw [if_neg (hak ▸ hp), if_neg (hak ▸ hp)]
      · rw [if_neg hak]

theorem rd_of_filter {s t : State} {p : Nat → Bool} (h : t.regs = s.regs.filter (fun e => p e.1)) (r : Reg) :
    t.rd r = if p r.addr then s.rd r else (BitVec.ofNat 64 r.rst).toNat := by
  rw [rd, h, get_filter_keys]
  split <;> rfl

theorem keeps_updRst (s : State) (f : Rst → Rst) : Keeps [.rst] s (s.updRst f) := by
  intro p hp
  cases p
  case rst => simp at hp
  all_goals rfl

theorem bit_orReg_self (s : State) (r : Reg) {b : Nat} (hb : b < r.width) (hw : r.width ≤ 64) : bit ((s.orReg r (2 ^ b)).rd r) b = true := by
  rw [orReg, rd_wr_self _ _ _ hw, bit_eq_testBit, Nat.testBit_mod_two_pow, Nat.testBit_or, Nat.testBit_two_pow_self]
  simp [hb]

theorem keeps_orReg (s : State) (r : Reg) (m : Nat) : Keeps [.regs] s (s.orReg r m) := keeps_wr s _ _

theorem regsKeep_orReg (s : State) (r : Reg) (m : Nat) : RegsKeep [r.addr] s (s.orReg r m) := regsKeep_wr s r _

/-- A flag written leaves the other bits of its register. -/
theorem bit_fw_apart (s : State) (f : Fld) {r : Reg} {b v : Nat} (hr : f.reg = r) (hb : b < r.width) (hw : r.width ≤ 64)
    (hsep : b < f.lo ∨ f.lo + f.w ≤ b) : bit ((s.fw f v).rd r) b = bit (s.rd r) b := by
  have h := fd_fw_apart s f ⟨r, b, 1⟩ v hr.symm (by dsimp only; omega) hb hw
  rw [bit_eq_bits, bit_eq_bits]
  exact congrArg (· == 1) h

end Sys2Proof.Safety

namespace Sys2Proof.Machine.State

open Sys2Proof.Safety

/-! ## What the update registers show -/

/-- The registers that show an update's state. -/
def showAddrs : List Nat :=
  [Reg.RST_STG_VERSION.addr, Reg.RST_STG_LEVELS.addr, Reg.RST_UPD_STATUS.addr, Reg.RST_UPD_POS.addr, Reg.RST_CFG_STATUS.addr, Reg.SEC_STATUS.addr]

/-- A change of registers among some addresses, and of nothing else. -/
structure OnlyRegs (as : List Nat) (s t : State) : Prop where
  keeps : Keeps [.regs] s t
  regs : RegsKeep as s t

namespace OnlyRegs

variable {as : List Nat} {s t u : State}

theorem trans (h : OnlyRegs as s t) (h' : OnlyRegs as t u) : OnlyRegs as s u := ⟨h.keeps.trans h'.keeps, h.regs.trans h'.regs⟩

theorem fw (s : State) (f : Fld) (v : Nat) (hf : f.reg.addr ∈ as) : OnlyRegs as s (s.fw f v) :=
  ⟨keeps_fw s f v, (regsKeep_fw s f v).mono (List.cons_subset.mpr ⟨hf, List.nil_subset _⟩)⟩

theorem fbw (s : State) (f : Fld) (b : Bool) (hf : f.reg.addr ∈ as) : OnlyRegs as s (s.fbw f b) := fw s f _ hf

theorem wr (s : State) (r : Reg) (v : Nat) (hr : r.addr ∈ as) : OnlyRegs as s (s.wr r v) :=
  ⟨keeps_wr s r v, (regsKeep_wr s r v).mono (List.cons_subset.mpr ⟨hr, List.nil_subset _⟩)⟩

end OnlyRegs

theorem updShow_frame (s : State) : OnlyRegs showAddrs s s.updShow := by
  unfold updShow
  split
  rename_i v l n _
  extract_lets w0 k w1 w2 w3
  split
  rename_i cv cn _
  extract_lets w4
  have h0 : OnlyRegs showAddrs s w0 := (OnlyRegs.wr s _ v (by decide)).trans (.wr _ _ l (by decide))
  have h1 : OnlyRegs showAddrs w0 w1 := (OnlyRegs.fw w0 _ _ (by decide)).trans (.fw _ _ k (by decide))
  have h2 : OnlyRegs showAddrs w1 w2 := (OnlyRegs.fw w1 _ n (by decide)).trans (.fw _ _ _ (by decide))
  have h3 : OnlyRegs showAddrs w2 w3 := .fw w2 _ _ (by decide)
  have h4 : OnlyRegs showAddrs w3 w4 := (OnlyRegs.fw w3 _ cv (by decide)).trans (.fw _ _ cn (by decide))
  exact (((h0.trans h1).trans h2).trans (h3.trans h4)).trans ((OnlyRegs.fbw w4 _ _ (by decide)).trans (.fbw _ _ _ (by decide)))

/-! ## What a core reset leaves (17 Table 17-2) -/

/-- The skein pages of retirements in progress given back. -/
def coreFreed (s : State) : State := s.ecc.retiring.foldl (fun s r => s.giveSkein r.skein) s

/-- The SRAM of tiles and slices cleared. -/
def sramCleared (s : State) : State := (s.clearSram (2 ^ 48) (2 ^ 28)).clearSram (2 * 2 ^ 48) (2 ^ 28)

/-- The ports whose error tests the module runs go down. -/
def testsEnded (s : State) : State := (s.fab.bert.filter (·.own)).foldl (fun s b => s.portDown (s.portOf b.link)) s

/-- The module once the tenant, SRAM and tests are gone, before its units are. -/
def coreBefore (s : State) : State := s.coreFreed.sramCleared.tenantLost.coreUnmeasured.testsEnded

theorem keeps_coreFreed (s : State) : Keeps [.regs, .ecc] s s.coreFreed := Keeps.foldl s fun u _ _ => keeps_giveSkein u _

theorem keeps_sramCleared (s : State) : Keeps [.mem, .ecc] s s.sramCleared := (keeps_clearSram s _ _).trans (keeps_clearSram _ _ _)

theorem byte_clearSram_inside (s : State) {lo n a : Nat} (hlo : lo ≤ a) (hhi : a < lo + n) : (s.clearSram lo n).byte a = 0 :=
  Cells.get_clearRange_inside 0 hlo hhi s.mem

theorem byte_clearSram_outside (s : State) {lo n a : Nat} (h : a < lo ∨ lo + n ≤ a) : (s.clearSram lo n).byte a = s.byte a :=
  Cells.get_clearRange 0 lo n a (by omega) s.mem

theorem byte_congr {s t : State} (h : t.mem = s.mem) (a : Nat) : t.byte a = s.byte a := congrArg (Cells.get 0 a) h

/-- The tenant's session and its confidential state gone. -/
def sessionLost (s : State) : State := s.updSec (fun x => { x with session := 0, tenant := 0, closing := 0, grants := x.grants ++ s.crlGrants
                                                                   waiters := x.waiters.filter (fun w => w.msg.isSome) })

theorem otp_sessionLost (s : State) : s.sessionLost.sec.otp = s.sec.otp := rfl

theorem tenantLost_frame (s : State) : Keeps [.sec, .regs] s s.tenantLost ∧ s.tenantLost.sec = s.sessionLost.sec ∧
    RegsKeep [Reg.SEC_STATUS.addr] s s.tenantLost := by
  have hsec : Keeps [.sec] s s.sessionLost := keeps_updSec s _
  have hshown : OnlyRegs [Reg.SEC_STATUS.addr] s.sessionLost s.tenantLost :=
    ((OnlyRegs.fbw s.sessionLost Fld.SEC_STATUS_TENANT_OPEN false (by decide)).trans (.fbw _ Fld.SEC_STATUS_CONF false (by decide))).trans
      ((OnlyRegs.fbw _ Fld.SEC_STATUS_SCRUB_ACTIVE false (by decide)).trans (.fbw _ Fld.SEC_STATUS_SCRUB_WAIT_TOKEN false (by decide)))
  exact ⟨(hsec.mono (by simp)).trans (hshown.keeps.mono (by simp)), hshown.keeps .sec (by decide), (hsec.regsKeep (by decide) _).trans hshown.regs⟩

/-- The parts that the loss of a port may change. -/
theorem keeps_testsEnded (s : State) : Keeps handoverParts s s.testsEnded :=
  Keeps.foldl s fun u b _ => ((keeps_fw u _ _).mono (by decide)).trans (handsOver_portLost (u.setPort (u.portOf b.link) pDown) _).parts

/-- What a core reset leaves of a state. -/
structure CoreLeft (s u : State) : Prop where
  rst : u.rst = { s.rst with recFail := false, job := none }
  mcc : u.mcc = State.reset.mcc
  eng : u.eng = []
  hif : u.hif = State.reset.hif
  rim : u.rim = State.reset.rim
  srv : u.srv = State.reset.srv
  vid : u.vid = State.reset.vid
  crl : u.crl = State.reset.crl
  holders : u.ras.holders = []
  queue : u.ras.queue = []
  tenant : u.sec.tenant = 0
  session : u.sec.session = 0
  otp : u.sec.otp = s.sec.otp
  fuse : u.fuse = s.fuse
  pins : u.pins = s.pins
  pending : u.pending = s.pending
  sram : ∀ a, 2 ^ 48 ≤ a → a < 2 ^ 48 + 2 ^ 28 → u.byte a = 0
  hbm : ∀ a, a < 2 ^ 48 → u.byte a = s.byte a

theorem coreBefore_frame (s : State) : Keeps [.regs, .ecc, .mem, .sec, .clk, .mcc, .hif, .host, .out, .log] s s.coreBefore ∧
    s.coreBefore.sec = s.coreFreed.sramCleared.sessionLost.sec ∧ s.coreBefore.mem = s.sramCleared.mem := by
  have hfreed := keeps_coreFreed s
  have hcleared := keeps_sramCleared s.coreFreed
  obtain ⟨hlost, hsec, -⟩ := tenantLost_frame s.coreFreed.sramCleared
  have hmeas : Keeps [.regs] s.coreFreed.sramCleared.tenantLost s.coreFreed.sramCleared.tenantLost.coreUnmeasured := keeps_wr _ _ _
  have hended := keeps_testsEnded s.coreFreed.sramCleared.tenantLost.coreUnmeasured
  have hmem : s.coreFreed.sramCleared.mem = s.sramCleared.mem :=
    congrArg (fun m => Cells.clearRange (2 * 2 ^ 48) (2 ^ 28) (Cells.clearRange (2 ^ 48) (2 ^ 28) m)) (hfreed .mem (by decide))
  refine ⟨(((hfreed.mono (by decide)).trans (hcleared.mono (by decide))).trans ((hlost.mono (by decide)).trans (hmeas.mono (by decide)))).trans
    (hended.mono (by decide)), ?_, ?_⟩
  · exact ((hended .sec (by decide)).trans (hmeas .sec (by decide))).trans hsec
  · exact (((hended .mem (by decide)).trans (hmeas .mem (by decide))).trans (hlost .mem (by decide))).trans hmem

theorem coreLeft_coreState (s : State) : CoreLeft s s.coreState := by
  obtain ⟨hkeeps, hsec, hmem⟩ := coreBefore_frame s
  have hfreed : (s.coreFreed.sramCleared).sec = s.sec := ((keeps_sramCleared _) .sec (by decide)).trans (keeps_coreFreed s .sec (by decide))
  have hsecs : s.coreState.sec = s.coreFreed.sramCleared.sessionLost.sec := hsec
  have hmems : s.coreState.mem = s.sramCleared.mem := hmem
  have hrst : s.coreState.rst = { s.coreBefore.rst with recFail := false, job := none } := rfl
  refine ⟨by rw [hrst, hkeeps .rst (by decide)], rfl, rfl, rfl, rfl, rfl, rfl, rfl, rfl, rfl, by rw [hsecs]; rfl, by rw [hsecs]; rfl, ?_, ?_, ?_, ?_,
    fun a hlo hhi => ?_, fun a ha => ?_⟩
  · rw [hsecs, otp_sessionLost, hfreed]
  · exact hkeeps .fuse (by decide)
  · exact hkeeps .pins (by decide)
  · exact hkeeps .pending (by decide)
  · rw [byte_congr hmems, sramCleared, byte_clearSram_outside _ (.inl (by omega)), byte_clearSram_inside _ hlo hhi]
  · rw [byte_congr hmems, sramCleared, byte_clearSram_outside _ (.inl (by omega)), byte_clearSram_outside _ (.inl ha)]

/-! ## What a system reset leaves -/

/-- What a system reset leaves of a state, its level aside. -/
structure SystemLeft (s u : State) : Prop where
  rst : u.rst = { State.reset.rst with unpowered := s.rst.unpowered, tripped := s.rst.tripped, flash := s.rst.flash }
  mem : u.mem = []
  host : u.host = s.host
  fuse : u.fuse = s.fuse
  sec : u.sec = { State.reset.sec with otp := s.sec.otp }
  ras : u.ras = { State.reset.ras with store := s.ras.store, tail := s.ras.tail }
  mcc : u.mcc = State.reset.mcc
  eng : u.eng = State.reset.eng
  tiles : u.tiles = State.reset.tiles
  log : u.log = State.reset.log
  pending : u.pending = s.pending
  pins : u.pins = s.pins

namespace SystemLeft

variable {s t u : State}

/-- Registers written afterwards change nothing of this. -/
theorem of_keeps (h : SystemLeft s t) (hk : Keeps [.regs] t u) : SystemLeft s u :=
  ⟨(hk .rst (by decide)).trans h.rst, (hk .mem (by decide)).trans h.mem, (hk .host (by decide)).trans h.host, (hk .fuse (by decide)).trans h.fuse,
    (hk .sec (by decide)).trans h.sec, (hk .ras (by decide)).trans h.ras, (hk .mcc (by decide)).trans h.mcc, (hk .eng (by decide)).trans h.eng,
    (hk .tiles (by decide)).trans h.tiles, (hk .log (by decide)).trans h.log, (hk .pending (by decide)).trans h.pending,
    (hk .pins (by decide)).trans h.pins⟩

end SystemLeft

/-- Everything at its reset value but what a system reset keeps. -/
def systemBare (s : State) : State :=
  { State.reset with
    pending := s.pending, regs := s.regs.filter (fun e => systemKeeps e.1), host := s.host, out := s.out, free := s.free, fuse := s.fuse
    pins := s.pins, sec := { State.reset.sec with otp := s.sec.otp }
    ras := { State.reset.ras with store := s.ras.store, tail := s.ras.tail }
    pair := { Pair.off with conds := [5], healthy := false }
    rst := { State.reset.rst with unpowered := s.rst.unpowered, tripped := s.rst.tripped, flash := s.rst.flash } }

theorem systemLeft_systemBare (s : State) : SystemLeft s s.systemBare :=
  ⟨rfl, rfl, rfl, rfl, rfl, rfl, rfl, rfl, rfl, rfl, rfl, rfl⟩

/-- Three flags are written once everything else is at its reset value. -/
theorem systemState_flags (s : State) : s.systemState = ((s.systemBare.fbw Fld.PWR_STATUS_PFW_SEEN (s.fb Fld.PWR_STATUS_PFW_SEEN)).fbw
    Fld.PWR_STATUS_THERM_TRIP_SEEN (s.fb Fld.PWR_STATUS_THERM_TRIP_SEEN)).fbw Fld.RAS_STORE_FULL false := rfl

theorem systemLeft_systemState (s : State) : SystemLeft s s.systemState := by
  rw [systemState_flags]
  exact (systemLeft_systemBare s).of_keeps (((keeps_fbw _ _ _).trans (keeps_fbw _ _ _)).trans (keeps_fbw _ _ _))

end Sys2Proof.Machine.State
end

section
/-! Reset requests (O53): absorbed, held, escalated and entered. -/

namespace Sys2Proof.Machine.State

open Sys2Proof.Safety

/-! ## Entry (17 R580) -/

namespace CoreLeft

variable {s t u : State} {ps : List Part}

/-- What went before the reset, apart from what the reset keeps. -/
theorem of_before (hk : Keeps ps s t) (h : CoreLeft t u) (hrst : Part.rst ∉ ps) (hsec : Part.sec ∉ ps) (hfuse : Part.fuse ∉ ps)
    (hpins : Part.pins ∉ ps) (hpending : Part.pending ∉ ps) (hmem : Part.mem ∉ ps) : CoreLeft s u :=
  { h with
    rst := by rw [h.rst, hk .rst hrst]
    otp := by rw [h.otp, hk .sec hsec]
    fuse := h.fuse.trans (hk .fuse hfuse)
    pins := h.pins.trans (hk .pins hpins)
    pending := h.pending.trans (hk .pending hpending)
    hbm := fun a ha => (h.hbm a ha).trans (byte_congr (hk .mem hmem) a) }

/-- Registers written afterwards change nothing of this. -/
theorem of_keeps (h : CoreLeft s t) (hk : Keeps [.regs] t u) : CoreLeft s u where
  rst := (hk .rst (by decide)).trans h.rst
  mcc := (hk .mcc (by decide)).trans h.mcc
  eng := (hk .eng (by decide)).trans h.eng
  hif := (hk .hif (by decide)).trans h.hif
  rim := (hk .rim (by decide)).trans h.rim
  srv := (hk .srv (by decide)).trans h.srv
  vid := (hk .vid (by decide)).trans h.vid
  crl := (hk .crl (by decide)).trans h.crl
  holders := by rw [hk .ras (by decide), h.holders]
  queue := by rw [hk .ras (by decide), h.queue]
  tenant := by rw [hk .sec (by decide), h.tenant]
  session := by rw [hk .sec (by decide), h.session]
  otp := by rw [hk .sec (by decide), h.otp]
  fuse := (hk .fuse (by decide)).trans h.fuse
  pins := (hk .pins (by decide)).trans h.pins
  pending := (hk .pending (by decide)).trans h.pending
  sram := fun a hlo hhi => (byte_congr (hk .mem (by decide)) a).trans (h.sram a hlo hhi)
  hbm := fun a ha => (byte_congr (hk .mem (by decide)) a).trans (h.hbm a ha)

end CoreLeft

theorem SystemLeft.of_before {s t u : State} {ps : List Part} (hk : Keeps ps s t) (h : SystemLeft t u) (hrst : Part.rst ∉ ps) (hsec : Part.sec ∉ ps)
    (hfuse : Part.fuse ∉ ps) (hpins : Part.pins ∉ ps) (hpending : Part.pending ∉ ps) (hhost : Part.host ∉ ps) (hras : Part.ras ∉ ps) :
    SystemLeft s u :=
  { h with
    rst := by rw [h.rst, hk .rst hrst]
    host := h.host.trans (hk .host hhost)
    fuse := h.fuse.trans (hk .fuse hfuse)
    sec := by rw [h.sec, hk .sec hsec]
    ras := by rw [h.ras, hk .ras hras]
    pending := h.pending.trans (hk .pending hpending)
    pins := h.pins.trans (hk .pins hpins) }

/-- The count of a level's resets. -/
def countFld (level : Nat) : Fld := if level = 1 then Fld.RST_COUNT_CORE_CNT else Fld.RST_COUNT_SYS_CNT

theorem resetCount_eq (s : State) (level : Nat) :
    s.resetCount level = (s.fw (countFld level) (satAdd 0xFFFF (s.fd (countFld level)) 1)).fw Fld.RST_CAUSE_LEVEL level := rfl

theorem reg_countFld (level : Nat) : (countFld level).reg = Reg.RST_COUNT := by
  unfold countFld
  split <;> rfl

theorem keeps_resetCount (s : State) (level : Nat) : Keeps [.regs] s (s.resetCount level) := (keeps_fw s _ _).trans (keeps_fw _ _ _)

theorem regsKeep_resetCount (s : State) (level : Nat) : RegsKeep [Reg.RST_COUNT.addr, Reg.RST_CAUSE.addr] s (s.resetCount level) :=
  ((regsKeep_fw s (countFld level) _).mono (by rw [reg_countFld]; decide)).trans ((regsKeep_fw _ Fld.RST_CAUSE_LEVEL level).mono (by decide))

theorem level_resetCount (s : State) {level : Nat} (h : level ≤ 2) : (s.resetCount level).fd Fld.RST_CAUSE_LEVEL = level := by
  rw [resetCount_eq, fd_fw_self _ _ _ (by decide) (by decide)]
  exact Nat.mod_eq_of_lt (lt_of_le_of_lt h (by decide))

theorem cause_resetCount (s : State) (level : Nat) {b : Nat} (hb : b < 30) :
    bit ((s.resetCount level).rd Reg.RST_CAUSE) b = bit (s.rd Reg.RST_CAUSE) b := by
  have hcause : (s.fw (countFld level) (satAdd 0xFFFF (s.fd (countFld level)) 1)).rd Reg.RST_CAUSE = s.rd Reg.RST_CAUSE :=
    rd_fw_ne s _ _ _ (by rw [reg_countFld]; decide)
  rw [resetCount_eq, bit_fw_apart _ Fld.RST_CAUSE_LEVEL (r := Reg.RST_CAUSE) rfl (lt_trans hb (by decide)) (by decide) (.inl hb), hcause]

/-- The reset in force, nothing held, and the update registers shown. -/
def inForce (s : State) (level : Nat) : State := (s.updRst (fun x => { x with level := level, hold := none })).updShow

theorem rst_inForce (s : State) (level : Nat) : (s.inForce level).rst = { s.rst with level := level, hold := none } :=
  (updShow_frame _).keeps .rst (by decide)

theorem keeps_inForce (s : State) (level : Nat) : Keeps [.rst, .regs] s (s.inForce level) :=
  ((keeps_updRst s _).mono (by simp)).trans ((updShow_frame _).keeps.mono (by simp))

theorem regsKeep_inForce (s : State) (level : Nat) : RegsKeep showAddrs s (s.inForce level) :=
  ((keeps_updRst s _).regsKeep (by decide) _).trans (updShow_frame _).regs

theorem resetEnter_core (s : State) : s.resetEnter 1 = (s.resetCount 1).coreState.inForce 1 := rfl

theorem resetEnter_system (s : State) : s.resetEnter 2 = (s.resetCount 2).systemState.inForce 2 := rfl

/-- A core reset in force. -/
structure CoreEntered (s u : State) : Prop where
  level : u.rst.level = 1
  hold : u.rst.hold = none
  job : u.rst.job = none
  flash : u.rst.flash = s.rst.flash
  left : ∃ v, CoreLeft s v ∧ Keeps [.rst, .regs] v u

theorem coreEntered_resetEnter {s t : State} {ps : List Part} (hk : Keeps ps s t) (hrst : Part.rst ∉ ps) (hsec : Part.sec ∉ ps)
    (hfuse : Part.fuse ∉ ps) (hpins : Part.pins ∉ ps) (hpending : Part.pending ∉ ps) (hmem : Part.mem ∉ ps) : CoreEntered s (t.resetEnter 1) := by
  have hleft : CoreLeft s (t.resetCount 1).coreState :=
    .of_before hk (.of_before (keeps_resetCount t 1) (coreLeft_coreState _) (by decide) (by decide) (by decide) (by decide) (by decide) (by decide))
      hrst hsec hfuse hpins hpending hmem
  rw [resetEnter_core]
  refine ⟨?_, ?_, ?_, ?_, _, hleft, keeps_inForce _ 1⟩
  · rw [rst_inForce]
  · rw [rst_inForce]
  · rw [rst_inForce, hleft.rst]
  · rw [rst_inForce, hleft.rst]

/-- The level that a system reset leaves is its own. -/
theorem SystemLeft.leveled {s t : State} (h : SystemLeft s t) : SystemLeft s (t.updRst (fun x => { x with level := 2, hold := none })) :=
  { h with rst := congrArg (fun x : Rst => { x with level := 2, hold := none }) h.rst }

/-- A system reset in force: its level is that of the state that the reset leaves. -/
theorem systemLeft_resetEnter {s t : State} {ps : List Part} (hk : Keeps ps s t) (hrst : Part.rst ∉ ps) (hsec : Part.sec ∉ ps)
    (hfuse : Part.fuse ∉ ps) (hpins : Part.pins ∉ ps) (hpending : Part.pending ∉ ps) (hhost : Part.host ∉ ps) (hras : Part.ras ∉ ps) :
    SystemLeft s (t.resetEnter 2) := by
  have hleft : SystemLeft s (t.resetCount 2).systemState :=
    .of_before hk (.of_before (keeps_resetCount t 2) (systemLeft_systemState _) (by decide) (by decide) (by decide) (by decide) (by decide)
      (by decide) (by decide)) hrst hsec hfuse hpins hpending hhost hras
  rw [resetEnter_system]
  exact hleft.leveled.of_keeps (updShow_frame _).keeps

/-! ## Requests (17 R574, R579) -/

/-- Whether a request is for more than what is in force or held. -/
def escalates (s : State) (level : Nat) : Bool :=
  decide (0 < s.rst.level) || (match s.rst.hold with | some h => decide (h < level) | none => false)

/-- An escalation shown. -/
def escalated (s : State) (level : Nat) : State := if s.escalates level then s.fbw Fld.RST_CAUSE_ESCALATED true else s

/-- The state in which a reset is entered. -/
def entering (s : State) (level : Nat) (mayHold : Bool) : State := if mayHold then (s.escalated level).resetFail else s.escalated level

theorem onlyRegs_refl (as : List Nat) (s : State) : OnlyRegs as s s := ⟨Keeps.refl _ s, RegsKeep.of_regs_eq rfl⟩

theorem escalated_frame (s : State) (level : Nat) : OnlyRegs [Reg.RST_CAUSE.addr] s (s.escalated level) := by
  unfold escalated
  split
  · exact .fbw s _ true (by decide)
  · exact onlyRegs_refl _ s

theorem keeps_laneDisable (s : State) : Keeps [.regs, .rim, .pair, .out, .eng] s s.laneDisable := by
  by_cases h : s.lane = 0
  · rw [laneDisable, if_pos h]
    exact Keeps.refl _ s
  · exact (laneDisable_shows h).2.2.2

theorem keeps_resetFail (s : State) : Keeps [.regs, .pair, .rim, .out, .eng] s s.resetFail :=
  ((pairFail_frame s 5).1.mono (by simp)).trans ((keeps_laneDisable _).mono (by simp))

theorem keeps_entering (s : State) (level : Nat) (mayHold : Bool) : Keeps [.regs, .pair, .rim, .out, .eng] s (s.entering level mayHold) := by
  have hesc := (escalated_frame s level).keeps.mono (qs := [.regs, .pair, .rim, .out, .eng]) (by simp)
  unfold entering
  split
  · exact hesc.trans (keeps_resetFail _)
  · exact hesc

theorem pulsing_congr {s t : State} (h : t.rst = s.rst) : t.pulsing = s.pulsing := by rw [pulsing, pulsing, h]

theorem resetGo_absorbed {s : State} {level : Nat} (h : level ≤ s.rst.level) (mayHold : Bool) : s.resetGo level mayHold = s := if_pos h

theorem resetGo_enters {s : State} {level : Nat} (h : s.rst.level < level) {mayHold : Bool} (hfree : mayHold = true → s.pulsing = false) :
    s.resetGo level mayHold = (s.entering level mayHold).resetEnter level := by
  have hpulse : (mayHold && (s.escalated level).pulsing) = false := by
    cases mayHold with
    | false => rfl
    | true => rw [pulsing_congr ((escalated_frame s level).keeps .rst (by decide)), hfree rfl]; rfl
  have hgo : s.resetGo level mayHold = if mayHold && (s.escalated level).pulsing then
      (((s.escalated level).updRst (fun x => { x with hold := some (match (s.escalated level).rst.hold with | some h => max h level | none => level) })).fbw
        Fld.RST_STATUS_HOLD_PENDING true).fbw Fld.RST_CAUSE_HELD true
    else (s.entering level mayHold).resetEnter level := if_neg (Nat.not_le.2 h)
  rw [hgo, hpulse]
  rfl

/-- A request held for the end of a flash pulse. -/
def heldBack (s : State) (level : Nat) : State :=
  ((s.updRst (fun x => { x with hold := some level })).fbw Fld.RST_STATUS_HOLD_PENDING true).fbw Fld.RST_CAUSE_HELD true

theorem resetGo_holds {s : State} {level : Nat} (hpos : 0 < level) (hlevel : s.rst.level = 0) (hhold : s.rst.hold = none) (hpulse : s.pulsing = true) :
    s.resetGo level true = s.heldBack level := by
  rw [resetGo, if_neg (by omega)]
  simp only [hlevel, hhold, Nat.lt_irrefl, decide_false, Bool.or_self, Bool.false_eq_true, if_false, Bool.true_and, hpulse, if_true]
  rfl

theorem heldBack_shows (s : State) (level : Nat) : (s.heldBack level).fb Fld.RST_CAUSE_HELD = true ∧
    (s.heldBack level).fb Fld.RST_STATUS_HOLD_PENDING = true ∧ (s.heldBack level).rst = { s.rst with hold := some level } ∧
    Keeps [.regs, .rst] s (s.heldBack level) ∧ RegsKeep [Reg.RST_CAUSE.addr, Reg.RST_STATUS.addr] s (s.heldBack level) ∧
    ∀ b, 3 < b → b < 32 → bit ((s.heldBack level).rd Reg.RST_CAUSE) b = bit (s.rd Reg.RST_CAUSE) b := by
  have hset := keeps_updRst s (fun x => { x with hold := some level })
  have hrst : (s.updRst (fun x => { x with hold := some level })).rst = { s.rst with hold := some level } := rfl
  unfold heldBack
  generalize s.updRst (fun x => { x with hold := some level }) = w at hset hrst
  refine ⟨fb_fbw_self _ _ _ rfl (by decide) (by decide), ?_, ?_, (hset.mono (by simp)).trans (((keeps_fbw w _ _).trans (keeps_fbw _ _ _)).mono (by simp)),
    (hset.regsKeep (by decide) _).trans (((regsKeep_fbw w Fld.RST_STATUS_HOLD_PENDING _).mono (by decide)).trans
      ((regsKeep_fbw _ Fld.RST_CAUSE_HELD _).mono (by decide))), fun b hlow hhigh => ?_⟩
  · rw [fb_fbw_ne _ _ _ _ (by decide), fb_fbw_self _ _ _ rfl (by decide) (by decide)]
  · rw [keeps_fbw _ _ _ .rst (by decide), keeps_fbw _ _ _ .rst (by decide), hrst]
  · rw [fbw, fbw, bit_fw_apart _ Fld.RST_CAUSE_HELD (r := Reg.RST_CAUSE) rfl hhigh (by decide) (.inr hlow), rd_fw_ne _ _ _ _ (by decide),
      hset.rd (by decide)]

end Sys2Proof.Machine.State
end

section
/-! The events and commands that cause a reset, all of O53. -/

namespace Sys2Proof.Machine.State

open Sys2Proof.Safety

theorem fb_of_bit (s : State) (r : Reg) (b : Nat) : s.fb ⟨r, b, 1⟩ = bit (s.rd r) b := by
  have hlt := bits_lt (s.rd r) b 1
  rw [bit_eq_bits, fb, fd]
  rcases (show bits (s.rd r) b 1 = 0 ∨ bits (s.rd r) b 1 = 1 by omega) with h | h <;> rw [h] <;> rfl

/-! ## What a reset from a quiet state shows -/

/-- Nothing that a core reset has to end beside the units: no retirement, no error test of the module's own. -/
structure Quiet (s : State) : Prop where
  lane : s.lane = 0
  retiring : s.ecc.retiring = []
  bert : ∀ e ∈ s.fab.bert, e.own = false

theorem coreFreed_quiet {s : State} (h : s.ecc.retiring = []) : s.coreFreed = s := by rw [coreFreed, h]; rfl

theorem testsEnded_quiet {s : State} (h : ∀ e ∈ s.fab.bert, e.own = false) : s.testsEnded = s := by
  rw [testsEnded, List.filter_eq_nil_iff.2 fun e he => by simp [h e he]]
  rfl

theorem coreBefore_quiet {s : State} (hret : s.ecc.retiring = []) (hbert : ∀ e ∈ s.fab.bert, e.own = false) :
    Keeps [.mem, .ecc, .sec, .regs] s s.coreBefore ∧ RegsKeep [Reg.SEC_STATUS.addr, Reg.SEC_MEAS_STATE.addr] s s.coreBefore := by
  have hcleared := keeps_sramCleared s
  obtain ⟨hlost, -, hregs⟩ := tenantLost_frame s.sramCleared
  have hmeas : Keeps [.regs] s.sramCleared.tenantLost s.sramCleared.tenantLost.coreUnmeasured := keeps_wr _ _ _
  have hmregs : RegsKeep [Reg.SEC_MEAS_STATE.addr] s.sramCleared.tenantLost s.sramCleared.tenantLost.coreUnmeasured := regsKeep_wr _ _ _
  have hfab : s.sramCleared.tenantLost.coreUnmeasured.fab = s.fab :=
    ((hmeas .fab (by decide)).trans (hlost .fab (by decide))).trans (hcleared .fab (by decide))
  rw [coreBefore, coreFreed_quiet hret, testsEnded_quiet (by rw [hfab]; exact hbert)]
  exact ⟨((hcleared.mono (by decide)).trans (hlost.mono (by decide))).trans (hmeas.mono (by decide)),
    ((hcleared.regsKeep (by decide) _).trans (hregs.mono (by decide))).trans (hmregs.mono (by decide))⟩

theorem regs_coreState (s : State) : s.coreState.regs = s.coreBefore.regs.filter (fun e => coreKeeps e.1) := rfl

theorem regs_systemBare (s : State) : s.systemBare.regs = s.regs.filter (fun e => systemKeeps e.1) := rfl

theorem host_coreState (s : State) : s.coreState.host = s.coreBefore.host := rfl

theorem systemState_frame (s : State) : OnlyRegs [Reg.PWR_STATUS.addr, Reg.RAS_STORE.addr] s.systemBare s.systemState := by
  rw [systemState_flags]
  exact ((OnlyRegs.fbw _ Fld.PWR_STATUS_PFW_SEEN _ (by decide)).trans (.fbw _ Fld.PWR_STATUS_THERM_TRIP_SEEN _ (by decide))).trans
    (.fbw _ Fld.RAS_STORE_FULL _ (by decide))

/-- The cause register outlives a reset, STAGE does not, and the host's memory is not the module's. -/
structure ResetShown (s u : State) (level : Nat) : Prop where
  cause : ∀ b, b < 30 → bit (u.rd Reg.RST_CAUSE) b = bit (s.rd Reg.RST_CAUSE) b
  levelFld : u.fd Fld.RST_CAUSE_LEVEL = level
  level : u.rst.level = level
  stage : u.stage = 0
  host : u.host = s.host

theorem resetShown_inForce {s v : State} {level : Nat} (hlevel : level ≤ 2) (hcause : v.rd Reg.RST_CAUSE = (s.resetCount level).rd Reg.RST_CAUSE)
    (hstatus : v.rd Reg.RST_STATUS = 0) (hhost : v.host = s.host) : ResetShown s (v.inForce level) level := by
  have hregs := regsKeep_inForce v level
  have hkept : (v.inForce level).rd Reg.RST_CAUSE = (s.resetCount level).rd Reg.RST_CAUSE := (hregs.rd (by decide)).trans hcause
  refine ⟨fun b hb => by rw [hkept, cause_resetCount s level hb], (fd_of_rd (f := Fld.RST_CAUSE_LEVEL) hkept).trans (level_resetCount s hlevel), ?_, ?_, ?_⟩
  · rw [rst_inForce]
  · have hzero : (v.inForce level).rd Reg.RST_STATUS = 0 := (hregs.rd (by decide)).trans hstatus
    exact (congrArg (bits · 28 4) hzero).trans rfl
  · exact (keeps_inForce v level .host (by decide)).trans hhost

theorem resetShown_core {s : State} (hret : s.ecc.retiring = []) (hbert : ∀ e ∈ s.fab.bert, e.own = false) : ResetShown s (s.resetEnter 1) 1 := by
  have hcount := keeps_resetCount s 1
  obtain ⟨hkeeps, hregs⟩ := coreBefore_quiet (s := s.resetCount 1) (by rw [hcount .ecc (by decide)]; exact hret)
    (by rw [hcount .fab (by decide)]; exact hbert)
  have hrd := rd_of_filter (regs_coreState (s.resetCount 1))
  rw [resetEnter_core]
  refine resetShown_inForce (by decide) ?_ ?_ ?_
  · rw [hrd, if_pos (by decide), hregs.rd (by decide)]
  · rw [hrd, if_neg (by decide)]
    rfl
  · rw [host_coreState, hkeeps .host (by decide), hcount .host (by decide)]

theorem resetShown_system (s : State) : ResetShown s (s.resetEnter 2) 2 := by
  have hframe := systemState_frame (s.resetCount 2)
  have hrd := rd_of_filter (regs_systemBare (s.resetCount 2))
  rw [resetEnter_system]
  refine resetShown_inForce (by decide) ?_ ?_ ?_
  · rw [hframe.regs.rd (by decide), hrd, if_pos (by decide)]
  · rw [hframe.regs.rd (by decide), hrd, if_neg (by decide)]
    rfl
  · exact (systemLeft_systemState _).host.trans (keeps_resetCount s 2 .host (by decide))

/-- A request with its cause shown. -/
def caused (s : State) (b : Nat) : State := s.orReg Reg.RST_CAUSE (2 ^ b)

theorem caused_frame (s : State) (b : Nat) : OnlyRegs [Reg.RST_CAUSE.addr] s (s.caused b) := .wr s _ _ (by decide)

theorem rst_caused (s : State) (b : Nat) : (s.caused b).rst = s.rst := (caused_frame s b).keeps .rst (by decide)

theorem bit_caused (s : State) {b : Nat} (hb : b < 32) : bit ((s.caused b).rd Reg.RST_CAUSE) b = true := bit_orReg_self s Reg.RST_CAUSE hb (by decide)

theorem resetRequest_eq (s : State) (level b : Nat) (mayHold : Bool) : s.resetRequest level b mayHold = (s.caused b).resetGo level mayHold := rfl

theorem laneDisable_off {s : State} (h : s.lane = 0) : s.laneDisable = s := if_pos h

/-- From a quiet state nothing but the FAIL message goes before the reset. -/
theorem entering_quiet {s : State} {level : Nat} (hlevel : s.rst.level = 0) (hhold : s.rst.hold = none) (hlane : s.lane = 0) :
    s.entering level true = s.pairFail 5 := by
  have hesc : s.escalates level = false := by simp [escalates, hlevel, hhold]
  have hkept : (s.pairFail 5).lane = 0 := ((pairFail_frame s 5).2.fd (.inl (by decide))).trans hlane
  rw [entering, if_pos rfl, escalated, hesc, resetFail]
  exact laneDisable_off hkept

theorem resetShown_request {s : State} {level b : Nat} (hlevels : level = 1 ∨ level = 2) (hb : b < 30) (hlevel : s.rst.level = 0)
    (hhold : s.rst.hold = none) (hpulse : s.pulsing = false) (hq : Quiet s) :
    ∃ w, bit (w.rd Reg.RST_CAUSE) b = true ∧ w.host = s.host ∧ ResetShown w (s.resetRequest level b true) level := by
  have hc := caused_frame s b
  obtain ⟨hkp, hrp⟩ := pairFail_frame (s.caused b) 5
  have hgo : s.resetRequest level b true = ((s.caused b).pairFail 5).resetEnter level := by
    rw [resetRequest_eq, resetGo_enters (by rw [rst_caused, hlevel]; omega) (fun _ => (pulsing_congr (rst_caused s b)).trans hpulse),
      entering_quiet (by rw [rst_caused, hlevel]) (by rw [rst_caused, hhold]) ((hc.regs.fd (by decide)).trans hq.lane)]
  refine ⟨(s.caused b).pairFail 5, ?_, ?_, ?_⟩
  · rw [hrp.rd (.inl (by decide)), bit_caused s (by omega)]
  · rw [hkp .host (by decide), hc.keeps .host (by decide)]
  · rw [hgo]
    rcases hlevels with rfl | rfl
    · refine resetShown_core ?_ ?_
      · rw [hkp .ecc (by decide), hc.keeps .ecc (by decide)]
        exact hq.retiring
      · rw [hkp .fab (by decide), hc.keeps .fab (by decide)]
        exact hq.bert
    · exact resetShown_system _

/-- What a request does, with its cause: absorbed, held or entered. -/
theorem request_shows (s : State) {level b : Nat} (hlevels : level = 1 ∨ level = 2) (hlow : 3 < b) (hb : b < 30) :
    (level ≤ s.rst.level → bit ((s.resetRequest level b true).rd Reg.RST_CAUSE) b = true ∧ Keeps [.regs] s (s.resetRequest level b true) ∧
      RegsKeep [Reg.RST_CAUSE.addr] s (s.resetRequest level b true)) ∧
    (s.rst.level = 0 → s.rst.hold = none → s.pulsing = true → bit ((s.resetRequest level b true).rd Reg.RST_CAUSE) b = true ∧
      (s.resetRequest level b true).fb Fld.RST_CAUSE_HELD = true ∧ (s.resetRequest level b true).fb Fld.RST_STATUS_HOLD_PENDING = true ∧
      (s.resetRequest level b true).rst = { s.rst with hold := some level } ∧ Keeps [.regs, .rst] s (s.resetRequest level b true) ∧
      RegsKeep [Reg.RST_CAUSE.addr, Reg.RST_STATUS.addr] s (s.resetRequest level b true)) ∧
    (s.rst.level = 0 → s.rst.hold = none → s.pulsing = false → s.lane = 0 → s.ecc.retiring = [] → (∀ e ∈ s.fab.bert, e.own = false) →
      bit ((s.resetRequest level b true).rd Reg.RST_CAUSE) b = true ∧ (s.resetRequest level b true).fd Fld.RST_CAUSE_LEVEL = level ∧
      (s.resetRequest level b true).rst.level = level ∧ (s.resetRequest level b true).stage = 0 ∧ (s.resetRequest level b true).host = s.host) := by
  have hc := caused_frame s b
  have hbit := bit_caused s (show b < 32 by omega)
  refine ⟨fun h => ?_, fun hlevel hhold hpulse => ?_, fun hlevel hhold hpulse hlane hret hbert => ?_⟩
  · rw [resetRequest_eq, resetGo_absorbed (by rw [rst_caused]; exact h)]
    exact ⟨hbit, hc.keeps, hc.regs⟩
  · rw [resetRequest_eq, resetGo_holds (by omega) (by rw [rst_caused, hlevel]) (by rw [rst_caused, hhold])
      ((pulsing_congr (rst_caused s b)).trans hpulse)]
    obtain ⟨hheld, hpending, hrst, hk, hr, hbits⟩ := heldBack_shows (s.caused b) level
    exact ⟨(hbits b hlow (by omega)).trans hbit, hheld, hpending, by rw [hrst, rst_caused], (hc.keeps.mono (by simp)).trans hk,
      (hc.regs.mono (by simp)).trans hr⟩
  · obtain ⟨w, hw, hhost, hshown⟩ := resetShown_request hlevels hb hlevel hhold hpulse ⟨hlane, hret, hbert⟩
    exact ⟨(hshown.cause b hb).trans hw, hshown.levelFld, hshown.level, hshown.stage, hshown.host.trans hhost⟩

/-! ## Requests entered -/

/-- A core reset entered from a state that differs in nothing a reset keeps. -/
theorem coreEntered_go {s t : State} {ps : List Part} (hk : Keeps ps s t) (hrst : Part.rst ∉ ps) (hsec : Part.sec ∉ ps) (hfuse : Part.fuse ∉ ps)
    (hpins : Part.pins ∉ ps) (hpending : Part.pending ∉ ps) (hmem : Part.mem ∉ ps) (hlevel : s.rst.level = 0) (hpulse : s.pulsing = false) :
    CoreEntered s (t.resetGo 1 true) := by
  have hsame := hk .rst hrst
  rw [resetGo_enters (by rw [hsame, hlevel]; decide) (fun _ => (pulsing_congr hsame).trans hpulse)]
  exact coreEntered_resetEnter ((hk.mono (List.subset_append_left ps [.regs, .pair, .rim, .out, .eng])).trans
    ((keeps_entering t 1 true).mono (List.subset_append_right _ _))) (by simp [hrst]) (by simp [hsec]) (by simp [hfuse]) (by simp [hpins])
    (by simp [hpending]) (by simp [hmem])

theorem systemLeft_go {s t : State} {ps : List Part} (hk : Keeps ps s t) (hrst : Part.rst ∉ ps) (hsec : Part.sec ∉ ps) (hfuse : Part.fuse ∉ ps)
    (hpins : Part.pins ∉ ps) (hpending : Part.pending ∉ ps) (hhost : Part.host ∉ ps) (hras : Part.ras ∉ ps) (hlevel : s.rst.level ≤ 1)
    {mayHold : Bool} (hfree : mayHold = true → s.pulsing = false) : SystemLeft s (t.resetGo 2 mayHold) := by
  have hsame := hk .rst hrst
  rw [resetGo_enters (by rw [hsame]; omega) (fun h => (pulsing_congr hsame).trans (hfree h))]
  exact systemLeft_resetEnter ((hk.mono (List.subset_append_left ps [.regs, .pair, .rim, .out, .eng])).trans
    ((keeps_entering t 2 mayHold).mono (List.subset_append_right _ _))) (by simp [hrst]) (by simp [hsec]) (by simp [hfuse]) (by simp [hpins])
    (by simp [hpending]) (by simp [hhost]) (by simp [hras])

theorem coreEntered_request {s : State} (b : Nat) (hlevel : s.rst.level = 0) (hpulse : s.pulsing = false) :
    CoreEntered s (s.resetRequest 1 b true) :=
  coreEntered_go (caused_frame s b).keeps (by decide) (by decide) (by decide) (by decide) (by decide) (by decide) hlevel hpulse

theorem systemLeft_request {s : State} (b : Nat) (hlevel : s.rst.level ≤ 1) (hpulse : s.pulsing = false) :
    SystemLeft s (s.resetRequest 2 b true) :=
  systemLeft_go (caused_frame s b).keeps (by decide) (by decide) (by decide) (by decide) (by decide) (by decide) (by decide) hlevel fun _ => hpulse

end Sys2Proof.Machine.State
end

section
/-! Supply, temperature and RST_REQ, then all of O53. -/

namespace Sys2Proof.Machine.State

open Sys2Proof.Safety

/-! ## Supply (16 R550, R565) -/

/-- The input gone or back. -/
def powered (s : State) (off : Bool) : State := s.updRst (fun x => { x with unpowered := off })

theorem keeps_powered (s : State) (off : Bool) : Keeps [.rst] s (s.powered off) := keeps_updRst s _

theorem rst_powered (s : State) (off : Bool) : (s.powered off).rst = { s.rst with unpowered := off } := rfl

theorem exec_supplyReset (s : State) : exec .supplyReset s = .next ((s.powered true).resetRequest 2 15 false) := rfl

theorem supplyReset_enters {s : State} (h : s.rst.level ≤ 1) :
    Goes (exec .supplyReset s) (fun u => u.rst.unpowered = true ∧ u.rst.level = 2 ∧ u.mem = [] ∧ u.rst.flash = s.rst.flash) := by
  have hleft : SystemLeft (s.powered true) ((s.powered true).resetRequest 2 15 false) :=
    systemLeft_go (caused_frame _ 15).keeps (by decide) (by decide) (by decide) (by decide) (by decide) (by decide) (by decide)
      (by rw [rst_powered]; exact h) (fun h => nomatch h)
  refine ⟨_, exec_supplyReset s, ?_, ?_, hleft.mem, ?_⟩ <;> rw [hleft.rst, rst_powered]
  rfl

theorem supplyReset_absorbed {s : State} (h : 2 ≤ s.rst.level) :
    Goes (exec .supplyReset s) (fun u => u.rst = { s.rst with unpowered := true } ∧ u.fb Fld.RST_CAUSE_SUPPLY = true ∧ Keeps [.regs, .rst] s u) := by
  have hk := keeps_powered s true
  have hc := (caused_frame (s.powered true) 15).keeps
  have hgo : (s.powered true).resetRequest 2 15 false = (s.powered true).caused 15 := by
    rw [resetRequest_eq, resetGo_absorbed (by rw [rst_caused, rst_powered]; exact h)]
  refine ⟨_, (exec_supplyReset s).trans (congrArg _ hgo), ?_, ?_, (hk.mono (by simp)).trans (hc.mono (by simp))⟩
  · rw [rst_caused, rst_powered]
  · exact (fb_of_bit _ Reg.RST_CAUSE 15).trans (bit_caused _ (by decide))

/-- The always-on island has lost its supply. -/
def islandCold (s : State) : State :=
  (((s.regReset Reg.RST_CAUSE).regReset Reg.RST_COUNT).fbw Fld.PWR_STATUS_PFW_SEEN false).fbw Fld.PWR_STATUS_THERM_TRIP_SEEN false

theorem islandCold_shows (s : State) : Keeps [.regs] s s.islandCold ∧ s.islandCold.rd Reg.RST_CAUSE = 0 ∧ s.islandCold.rd Reg.RST_COUNT = 0 := by
  unfold islandCold
  refine ⟨((keeps_regReset s _).trans (keeps_regReset _ _)).trans ((keeps_fbw _ _ _).trans (keeps_fbw _ _ _)), ?_, ?_⟩
  · rw [fbw, fbw, rd_fw_ne _ _ _ _ (by decide), rd_fw_ne _ _ _ _ (by decide), rd_regReset_ne _ _ _ (by decide), rd_regReset_self _ _ (by decide)]
    rfl
  · rw [fbw, fbw, rd_fw_ne _ _ _ _ (by decide), rd_fw_ne _ _ _ _ (by decide), rd_regReset_self _ _ (by decide)]
    rfl

theorem supplyApply_powers {s : State} (lost : Bool) (h : s.rst.unpowered = true) :
    Goes (exec (.supplyApply lost) s) (fun u => u.rst = { s.rst with unpowered := false } ∧ Keeps [.regs, .rst] s u ∧
      (lost = true → u.rd Reg.RST_CAUSE = 0 ∧ u.rd Reg.RST_COUNT = 0) ∧ (lost = false → u.regs = s.regs)) := by
  have hrun : exec (.supplyApply lost) s = .next (if lost then (s.powered false).islandCold else s.powered false) :=
    congrArg Host.Outcome.next (if_neg (by simp [h]))
  have hk := keeps_powered s false
  obtain ⟨hc, hcause, hcount⟩ := islandCold_shows (s.powered false)
  refine ⟨_, hrun, ?_⟩
  cases lost with
  | true => exact ⟨(hc .rst (by decide)).trans (rst_powered s false), (hk.mono (by simp)).trans (hc.mono (by simp)), fun _ => ⟨hcause, hcount⟩,
      fun h => nomatch h⟩
  | false => exact ⟨rst_powered s false, hk.mono (by simp), fun h => (nomatch h), fun _ => hk .regs (by decide)⟩

/-! ## Temperature (16 R567) -/

/-- The trip latched, and the FAIL condition of the module. -/
def tripShown (s : State) : State := ((s.urgent 3).fbw Fld.PWR_STATUS_THERM_TRIP_SEEN true).pairFail 4

theorem tripShown_frame (s : State) : Keeps [.regs, .out, .hif, .pair, .rim] s s.tripShown ∧ s.tripShown.fb Fld.PWR_STATUS_THERM_TRIP_SEEN = true := by
  obtain ⟨hkp, hrp⟩ := pairFail_frame ((s.urgent 3).fbw Fld.PWR_STATUS_THERM_TRIP_SEEN true) 4
  refine ⟨(((urgent_sets s (b := 3) (by decide)).1.mono (by simp)).trans ((keeps_fbw _ _ _).mono (by simp))).trans (hkp.mono (by simp)), ?_⟩
  exact (hrp.fb (.inl (by decide))).trans (fb_fbw_self _ _ _ rfl (by decide) (by decide))

/-- A tripped module under system reset. -/
def tripHeld (s : State) : State := s.updRst (fun x => { x with level := 2, hold := none, tripped := true })

theorem rst_tripHeld (s : State) : s.tripHeld.rst = { s.rst with level := 2, hold := none, tripped := true } := rfl

/-- The escalation of a core reset by a trip. -/
def tripEscalated (s : State) (esc : Bool) : State := if esc then s.fbw Fld.RST_CAUSE_ESCALATED true else s

theorem tripEscalated_frame (s : State) (esc : Bool) : OnlyRegs [Reg.RST_CAUSE.addr] s (s.tripEscalated esc) := by
  unfold tripEscalated
  split
  · exact .fbw s _ true (by decide)
  · exact onlyRegs_refl _ s

theorem exec_thermalTrip {s : State} (h : s.rst.tripped = false) :
    exec .thermalTrip s = .next ((s.tripShown.systemState.tripHeld.tripEscalated (s.tripShown.rst.level == 1)).updShow) :=
  congrArg Host.Outcome.next (if_neg (by simp [h]))

theorem trip_systemState (s : State) : s.systemState.fb Fld.PWR_STATUS_THERM_TRIP_SEEN = s.fb Fld.PWR_STATUS_THERM_TRIP_SEEN := by
  rw [systemState_flags, fb_fbw_ne _ _ _ _ (by decide), fb_fbw_self _ _ _ rfl (by decide) (by decide)]

theorem thermalTrip_trips {s : State} (h : s.rst.tripped = false) :
    Goes (exec .thermalTrip s) (fun u => u.rst.tripped = true ∧ u.rst.level = 2 ∧ u.mem = [] ∧
      u.fb Fld.PWR_STATUS_THERM_TRIP_SEEN = true ∧ u.rst.flash = s.rst.flash ∧ u.host = s.host) := by
  obtain ⟨hks, hshown⟩ := tripShown_frame s
  have hleft := systemLeft_systemState s.tripShown
  have htrip := (trip_systemState s.tripShown).trans hshown
  refine ⟨_, exec_thermalTrip h, ?_⟩
  generalize s.tripShown.systemState = w at hleft htrip
  have hkh : Keeps [.rst] w w.tripHeld := keeps_updRst w _
  have hesc := tripEscalated_frame w.tripHeld (s.tripShown.rst.level == 1)
  have hshow := updShow_frame (w.tripHeld.tripEscalated (s.tripShown.rst.level == 1))
  have hrst : ((w.tripHeld.tripEscalated (s.tripShown.rst.level == 1)).updShow).rst = w.tripHeld.rst :=
    (hshow.keeps .rst (by decide)).trans (hesc.keeps .rst (by decide))
  refine ⟨?_, ?_, ?_, ?_, ?_, ?_⟩
  · rw [hrst, rst_tripHeld]
  · rw [hrst, rst_tripHeld]
  · rw [hshow.keeps .mem (by decide), hesc.keeps .mem (by decide), hkh .mem (by decide), hleft.mem]
  · rw [hshow.regs.fb (by decide), hesc.regs.fb (by decide), hkh.fb (by decide), htrip]
  · rw [hrst, rst_tripHeld, hleft.rst, hks .rst (by decide)]
  · rw [hshow.keeps .host (by decide), hesc.keeps .host (by decide), hkh .host (by decide), hleft.host, hks .host (by decide)]

theorem satAdd_le (m x y : Nat) : satAdd m x y ≤ m := by
  unfold satAdd
  split
  · assumption
  · exact le_refl m

/-- The trip over. -/
def tripOver (s : State) : State := s.updRst (fun x => { x with tripped := false })

theorem rst_tripOver (s : State) : s.tripOver.rst = { s.rst with tripped := false } := rfl

theorem tripCooled_resets {s : State} (h : s.rst.tripped = true) :
    Goes (exec .tripCooled s) (fun u => u.rst = { s.rst with tripped := false } ∧ u.fb Fld.RST_CAUSE_THERM = true ∧
      u.fd Fld.RST_CAUSE_LEVEL = 2 ∧ u.fd Fld.RST_COUNT_SYS_CNT = satAdd 0xFFFF (s.fd Fld.RST_COUNT_SYS_CNT) 1 ∧ Keeps [.regs, .rst] s u) := by
  have hrun : exec .tripCooled s = .next ((s.tripOver.caused 13).resetCount 2) := congrArg Host.Outcome.next (if_pos h)
  have hko : Keeps [.rst] s s.tripOver := keeps_updRst s _
  have hrst := rst_tripOver s
  generalize s.tripOver = w at hrun hko hrst
  have hc := caused_frame w 13
  have hcount := keeps_resetCount (w.caused 13) 2
  refine ⟨_, hrun, ?_, ?_, level_resetCount _ (by decide), ?_, (hko.mono (by simp)).trans ((hc.keeps.trans hcount).mono (by simp))⟩
  · rw [hcount .rst (by decide), rst_caused, hrst]
  · exact (fb_of_bit _ Reg.RST_CAUSE 13).trans ((cause_resetCount _ 2 (by decide)).trans (bit_caused w (by decide)))
  · have hsame : (w.caused 13).fd Fld.RST_COUNT_SYS_CNT = s.fd Fld.RST_COUNT_SYS_CNT := (hc.regs.fd (by decide)).trans (hko.fd (by decide) _)
    rw [resetCount_eq, fd_fw_ne _ _ _ _ (by decide), show countFld 2 = Fld.RST_COUNT_SYS_CNT from rfl, fd_fw_self _ _ _ (by decide) (by decide), hsame]
    exact Nat.mod_eq_of_lt (lt_of_le_of_lt (satAdd_le _ _ _) (by decide))

/-! ## RST_REQ (17 R578, R581) -/

section
variable {s s1 : State} {p : Packet} {j : Job} {via : Via}

/-- The command's reply, before its reset. -/
def replied (s : State) (via : Via) (j : Job) : State := (s.beginJob true via j).mccReply .done

theorem keeps_replied (s : State) (via : Via) (j : Job) : Keeps [.eng, .mcc, .regs, .log, .out, .hif, .host] s (s.replied via j) :=
  ((keeps_beginJob s true via j).mono (by simp)).trans ((mccReply_frame _ .done).1.mono (by decide))

theorem rstReq_checked (hexpert : p.expert = true) (hlevel : p.u8 16 = 1 ∨ p.u8 16 = 2)
    (hfree : s1.pins.maintInhibit = false ∨ bit (p.u8 18) 0 = true) (hdebug : p.u8 16 = 2 → s1.fb Fld.SEC_STATUS_DEBUG_OPEN = false) :
    firstFail [(decide (2 < p.u8 16) || (!p.expert && p.u8 16 == 0) || (p.u8 16 == 0 && !blockIsland (p.u8 17)), Ans.param),
      (p.u8 16 == 0 && !s1.blockHere (p.u8 17), .err Sts.unitAbsent),
      (p.u8 16 != 0 && !(p.expert && bit (p.u8 18) 0) && s1.pins.maintInhibit, .refuse 0x0B01),
      (p.u8 16 == 2 && s1.fb Fld.SEC_STATUS_DEBUG_OPEN, .refuse 0x0B02)] = none := by
  rcases hlevel with h | h <;> rcases hfree with hf | hf <;> simp [firstFail, h, hf, hexpert] <;> exact hdebug h

theorem exec_rstReq (hexpert : p.expert = true) : exec (.rstReq via p) s = .next (s.runRow via p (p.base == 0x0B00)
    (fun s => firstFail [(decide (2 < p.u8 16) || (!p.expert && p.u8 16 == 0) || (p.u8 16 == 0 && !blockIsland (p.u8 17)), .param),
      (p.u8 16 == 0 && !s.blockHere (p.u8 17), .err Sts.unitAbsent),
      (p.u8 16 != 0 && !(p.expert && bit (p.u8 18) 0) && s.pins.maintInhibit, .refuse 0x0B01),
      (p.u8 16 == 2 && s.fb Fld.SEC_STATUS_DEBUG_OPEN, .refuse 0x0B02)])
    (fun s => if p.u8 16 = 0 then ((s.blockReset (p.u8 17)).settle, none)
      else if p.u8 16 = 1 then ((s.mccReply .done).resetRequest 1 11 true, none)
      else ((s.mccReply .done).resetRequest 2 12 true, none))) := by
  have hlevel : (if p.expert then p.u8 16 else p.u8 63) = p.u8 16 := if_pos hexpert
  rw [show exec (.rstReq via p) s = execRstReq via p s from rfl, execRstReq]
  simp only [hlevel]

theorem rstReq_core (h : Starts s true via p j s1) (hop : p.base = 0x0B00) (hexpert : p.expert = true) (hone : p.u8 16 = 1)
    (hfree : s1.pins.maintInhibit = false ∨ bit (p.u8 18) 0 = true) :
    exec (.rstReq via p) s = .next ((s1.replied via j).resetRequest 1 11 true) := by
  rw [exec_rstReq hexpert]
  refine congrArg Host.Outcome.next (runRow_goesOn h (by simp [hop]) (rstReq_checked hexpert (.inl hone) hfree (fun h => by omega)) ?_)
  rw [if_neg (by omega), if_pos hone]
  rfl

theorem rstReq_system (h : Starts s true via p j s1) (hop : p.base = 0x0B00) (hexpert : p.expert = true) (htwo : p.u8 16 = 2)
    (hfree : s1.pins.maintInhibit = false ∨ bit (p.u8 18) 0 = true) (hdebug : s1.fb Fld.SEC_STATUS_DEBUG_OPEN = false) :
    exec (.rstReq via p) s = .next ((s1.replied via j).resetRequest 2 12 true) := by
  rw [exec_rstReq hexpert]
  refine congrArg Host.Outcome.next (runRow_goesOn h (by simp [hop]) (rstReq_checked hexpert (.inr htwo) hfree (fun _ => hdebug)) ?_)
  rw [if_neg (by omega), if_neg (by omega)]
  rfl

theorem rstReq_block (h : Starts s true via p j s1) (hop : p.base = 0x0B00) (hexpert : p.expert = true) (hzero : p.u8 16 = 0)
    (hisland : blockIsland (p.u8 17) = true) (hhere : s1.blockHere (p.u8 17) = true) :
    exec (.rstReq via p) s = .next (((s1.beginJob true via j).blockReset (p.u8 17)).settle) := by
  rw [exec_rstReq hexpert]
  refine congrArg Host.Outcome.next (runRow_goesOn h (by simp [hop]) (by simp [firstFail, hzero, hexpert, hisland, hhere]) ?_)
  rw [if_pos hzero]

theorem rstReq_inhibited (h : Starts s true via p j s1) (hop : p.base = 0x0B00) (hexpert : p.expert = true) (hlevel : p.u8 16 ∈ [1, 2])
    (hinhibit : s1.pins.maintInhibit = true) (hforce : bit (p.u8 18) 0 = false) :
    exec (.rstReq via p) s = .next (s1.finish via (.refuse 0x0B01)) := by
  rw [exec_rstReq hexpert]
  simp only [List.mem_cons, List.not_mem_nil, or_false] at hlevel
  exact congrArg Host.Outcome.next (runRow_refused h (by simp [hop]) (by rcases hlevel with hl | hl <;> simp [firstFail, hl, hexpert, hinhibit, hforce]))

theorem rstReq_debugged (h : Starts s true via p j s1) (hop : p.base = 0x0B00) (hexpert : p.expert = true) (htwo : p.u8 16 = 2)
    (hfree : s1.pins.maintInhibit = false) (hdebug : s1.fb Fld.SEC_STATUS_DEBUG_OPEN = true) :
    exec (.rstReq via p) s = .next (s1.finish via (.refuse 0x0B02)) := by
  rw [exec_rstReq hexpert]
  exact congrArg Host.Outcome.next (runRow_refused h (by simp [hop]) (by simp [firstFail, htwo, hexpert, hfree, hdebug]))

theorem rstReq_enters_core (h : Starts s true via p j s1) (hop : p.base = 0x0B00) (hexpert : p.expert = true) (hone : p.u8 16 = 1)
    (hfree : s1.pins.maintInhibit = false ∨ bit (p.u8 18) 0 = true) (hlevel : s1.rst.level = 0) (hpulse : s1.pulsing = false) :
    Goes (exec (.rstReq via p) s) (fun u => u.rst.level = 1 ∧ u.eng = [] ∧ u.mcc = State.reset.mcc ∧ u.fuse = s1.fuse ∧
      (∀ a, a < 2 ^ 48 → u.byte a = s1.byte a)) := by
  have hk := (keeps_replied s1 via j).mono (qs := [.eng, .mcc, .regs, .log, .out, .hif, .host]) (by simp)
  have hentered : CoreEntered s1 ((s1.replied via j).resetRequest 1 11 true) :=
    coreEntered_go (hk.trans ((caused_frame _ 11).keeps.mono (by simp))) (by decide) (by decide) (by decide) (by decide) (by decide) (by decide)
      hlevel hpulse
  obtain ⟨v, hleft, hkv⟩ := hentered.left
  exact ⟨_, rstReq_core h hop hexpert hone hfree, hentered.level, (hkv .eng (by decide)).trans hleft.eng, (hkv .mcc (by decide)).trans hleft.mcc,
    (hkv .fuse (by decide)).trans hleft.fuse, fun a ha => (byte_congr (hkv .mem (by decide)) a).trans (hleft.hbm a ha)⟩

theorem rstReq_enters_system (h : Starts s true via p j s1) (hop : p.base = 0x0B00) (hexpert : p.expert = true) (htwo : p.u8 16 = 2)
    (hfree : s1.pins.maintInhibit = false ∨ bit (p.u8 18) 0 = true) (hdebug : s1.fb Fld.SEC_STATUS_DEBUG_OPEN = false) (hlevel : s1.rst.level ≤ 1)
    (hpulse : s1.pulsing = false) :
    Goes (exec (.rstReq via p) s) (fun u => u.rst.level = 2 ∧ u.mem = [] ∧ u.rst.flash = s1.rst.flash) := by
  have hk := keeps_replied s1 via j
  have hleft : SystemLeft (s1.replied via j) ((s1.replied via j).resetRequest 2 12 true) :=
    systemLeft_go (caused_frame _ 12).keeps (by decide) (by decide) (by decide) (by decide) (by decide) (by decide) (by decide)
      (by rw [hk .rst (by decide)]; exact hlevel) (fun _ => (pulsing_congr (hk .rst (by decide))).trans hpulse)
  refine ⟨_, rstReq_system h hop hexpert htwo hfree hdebug, ?_, hleft.mem, ?_⟩
  · rw [hleft.rst]
    rfl
  · rw [hleft.rst, hk .rst (by decide)]

end

/-! ## Events that request a reset (17 Table 17-1) -/

theorem exec_perstFall (s : State) : exec (.perstFall true) s = .next (({ s with pins := { s.pins with perst := false } }).resetRequest 2 14 true) := rfl

theorem exec_mgmtWatchdog {s : State} {c : Nat} (h : c ∉ s.dbg.halted) : exec (.mgmtWatchdog c) s = .next (s.resetRequest 1 9 true) :=
  congrArg Host.Outcome.next (if_neg (by simpa using h))

theorem exec_debugResetRequest {s : State} (h : s.fb Fld.SEC_STATUS_DEBUG_OPEN = true) (sys : Bool) :
    exec (.debugResetRequest sys) s = .next (s.resetRequest (if sys then 2 else 1) 6 true) := congrArg Host.Outcome.next (if_pos h)

/-- Each event of a core reset enters one. -/
theorem coreEvent_enters {s : State} {c : Nat} {i : Instr}
    (hi : i ∈ [Instr.functionLevelReset, .hotReset, .mgmtWatchdog c, .debugResetRequest false, .coreReset])
    (hwatched : i = .mgmtWatchdog c → c ∉ s.dbg.halted) (hdebug : i = .debugResetRequest false → s.fb Fld.SEC_STATUS_DEBUG_OPEN = true)
    (hlevel : s.rst.level = 0) (hpulse : s.pulsing = false) : Goes (exec i s) (CoreEntered s) := by
  simp only [List.mem_cons, List.not_mem_nil, or_false] at hi
  rcases hi with rfl | rfl | rfl | rfl | rfl
  · exact ⟨_, rfl, coreEntered_request 8 hlevel hpulse⟩
  · exact ⟨_, rfl, coreEntered_request 7 hlevel hpulse⟩
  · exact ⟨_, exec_mgmtWatchdog (hwatched rfl), coreEntered_request 9 hlevel hpulse⟩
  · exact ⟨_, exec_debugResetRequest (hdebug rfl) false, coreEntered_request 6 hlevel hpulse⟩
  · exact ⟨_, rfl, coreEntered_go (Keeps.refl [] s) (by decide) (by decide) (by decide) (by decide) (by decide) (by decide) hlevel hpulse⟩

/-- PERST_N low. -/
def perstLow (s : State) : State := { s with pins := { s.pins with perst := false } }

/-- Each event of a system reset enters one; a falling PERST_N is shown among the pins. -/
theorem systemEvent_enters {s : State} {i : Instr} (hi : i ∈ [Instr.brudoWatchdog, .perstFall true, .debugResetRequest true, .systemReset])
    (hdebug : i = .debugResetRequest true → s.fb Fld.SEC_STATUS_DEBUG_OPEN = true) (hlevel : s.rst.level ≤ 1) (hpulse : s.pulsing = false) :
    Goes (exec i s) (SystemLeft (if i = .perstFall true then s.perstLow else s)) := by
  simp only [List.mem_cons, List.not_mem_nil, or_false] at hi
  rcases hi with rfl | rfl | rfl | rfl
  · exact ⟨_, rfl, by rw [if_neg (by decide)]; exact systemLeft_request 10 hlevel hpulse⟩
  · exact ⟨_, exec_perstFall s, by rw [if_pos rfl]; exact systemLeft_request (s := s.perstLow) 14 hlevel hpulse⟩
  · exact ⟨_, exec_debugResetRequest (hdebug rfl) true, by rw [if_neg (by decide)]; exact systemLeft_request 6 hlevel hpulse⟩
  · exact ⟨_, rfl, by
      rw [if_neg (by decide)]
      exact systemLeft_go (Keeps.refl [] s) (by decide) (by decide) (by decide) (by decide) (by decide) (by decide) (by decide) hlevel
        fun _ => hpulse⟩

end Sys2Proof.Machine.State

namespace Sys2Proof

open Sys2Proof.Machine Sys2Proof.Machine.State Sys2Proof.Safety

/-- Settles O53, from what a core and a system reset leave of a state and what a request does before. -/
theorem resetsAreEntered : Obligations.ResetsAreEntered := by
  unfold Obligations.ResetsAreEntered
  refine ⟨fun i level b hi s => ?_, fun s c i hi hwatched hdebug hlevel hpulse => ?_, fun s i hi hdebug hlevel hpulse => ?_,
    fun s => ⟨rfl, _, rfl, rfl, ?_⟩, fun s c h => congrArg Host.Outcome.next (if_pos (by simpa using h)),
    fun s sys h => congrArg Host.Outcome.next (if_neg (by simp [h])), fun s => ⟨supplyReset_enters, supplyReset_absorbed⟩,
    fun s lost => ⟨supplyApply_powers lost, fun h => congrArg Host.Outcome.next (if_pos (by simp [h]))⟩,
    fun s => ⟨thermalTrip_trips, fun h => congrArg Host.Outcome.next (if_pos h)⟩,
    fun s => ⟨tripCooled_resets, fun h => congrArg Host.Outcome.next (if_neg (by simp [h]))⟩,
    fun s via p j s1 h hop hexpert _ => ⟨rstReq_enters_core h hop hexpert, rstReq_enters_system h hop hexpert, rstReq_block h hop hexpert,
      rstReq_inhibited h hop hexpert, rstReq_debugged h hop hexpert⟩⟩
  · have hgoes : 3 < b ∧ b < 30 ∧ (level = 1 ∨ level = 2) ∧ exec i s = .next (s.resetRequest level b true) := by
      simp only [List.mem_cons, List.not_mem_nil, or_false, Prod.mk.injEq] at hi
      rcases hi with ⟨rfl, rfl, rfl⟩ | ⟨rfl, rfl, rfl⟩ | ⟨rfl, rfl, rfl⟩
      · exact ⟨by decide, by decide, .inr rfl, rfl⟩
      · exact ⟨by decide, by decide, .inl rfl, rfl⟩
      · exact ⟨by decide, by decide, .inl rfl, rfl⟩
    obtain ⟨hlow, hb, hlevels, hrun⟩ := hgoes
    obtain ⟨habsorbed, hheld, hentered⟩ := request_shows s hlevels hlow hb
    exact ⟨fun h => ⟨_, hrun, habsorbed h⟩, fun h h' h'' => ⟨_, hrun, hheld h h' h''⟩,
      fun h1 h2 h3 h4 h5 h6 => ⟨_, hrun, hentered h1 h2 h3 h4 h5 h6⟩⟩
  · obtain ⟨u, hrun, he⟩ := coreEvent_enters hi hwatched hdebug hlevel hpulse
    obtain ⟨v, hleft, hkv⟩ := he.left
    have hsec : u.sec = v.sec := hkv .sec (by decide)
    have hras : u.ras = v.ras := hkv .ras (by decide)
    exact ⟨u, hrun, he.level, he.hold, he.job, he.flash, (hkv .mcc (by decide)).trans hleft.mcc, (hkv .eng (by decide)).trans hleft.eng,
      (hkv .hif (by decide)).trans hleft.hif, (hkv .rim (by decide)).trans hleft.rim, (hkv .srv (by decide)).trans hleft.srv,
      (hkv .vid (by decide)).trans hleft.vid, (hkv .crl (by decide)).trans hleft.crl, by rw [hras, hleft.holders], by rw [hras, hleft.queue],
      by rw [hsec, hleft.tenant], by rw [hsec, hleft.session], by rw [hsec, hleft.otp], (hkv .fuse (by decide)).trans hleft.fuse,
      (hkv .pins (by decide)).trans hleft.pins, (hkv .pending (by decide)).trans hleft.pending,
      fun a hlo hhi => (byte_congr (hkv .mem (by decide)) a).trans (hleft.sram a hlo hhi),
      fun a ha => (byte_congr (hkv .mem (by decide)) a).trans (hleft.hbm a ha)⟩
  · obtain ⟨u, hrun, hleft⟩ := systemEvent_enters hi hdebug hlevel hpulse
    refine ⟨u, hrun, ?_⟩
    obtain ⟨hrst, hmem, hhost, hfuse, hsec, hras, hmcc, heng, htiles, hlog, hpending, hpins⟩ := hleft
    split at hpins
    · next hperst =>
      rw [if_pos hperst] at *
      exact ⟨hrst, hmem, hhost, hfuse, hsec, hras, hmcc, heng, htiles, hlog, hpending, hpins⟩
    · next hperst =>
      rw [if_neg hperst] at *
      exact ⟨hrst, hmem, hhost, hfuse, hsec, hras, hmcc, heng, htiles, hlog, hpending, hpins⟩
  · intro x hx
    cases x
    case pins => simp at hx
    all_goals rfl

end Sys2Proof
end

section
/-! Block resets (O54). -/

namespace Sys2Proof.Safety

open Sys2Proof.Machine Sys2Proof.Machine.State

/-- Interrupts raised for the replies of a list. -/
theorem keeps_interrupts {α : Type} (s : State) (l : List α) (g : State → Nat) : Keeps [.out, .hif] s (l.foldl (fun s _ => s.replyIrq (g s)) s) :=
  Keeps.foldl s fun u _ _ => keeps_replyIrq u (g u)

/-- Every unit keeps its command and the packets fetched for it. -/
structure WorkKept (s t : State) : Prop where
  cur : ∀ n, (t.engOf n).cur = (s.engOf n).cur
  fetched : ∀ n, (t.engOf n).fetched = (s.engOf n).fetched

namespace WorkKept

variable {s t u : State}

theorem refl (s : State) : WorkKept s s := ⟨fun _ => rfl, fun _ => rfl⟩

theorem trans (h : WorkKept s t) (h' : WorkKept t u) : WorkKept s u :=
  ⟨fun n => (h'.cur n).trans (h.cur n), fun n => (h'.fetched n).trans (h.fetched n)⟩

theorem of_keeps {ps : List Part} (h : Keeps ps s t) (hp : Part.eng ∉ ps) : WorkKept s t :=
  ⟨fun n => congrArg Engine.cur (h.engOf hp n), fun n => congrArg Engine.fetched (h.engOf hp n)⟩

theorem setEng (s : State) (n : Nat) {e : Engine} (hcur : e.cur = (s.engOf n).cur) (hfetched : e.fetched = (s.engOf n).fetched) :
    WorkKept s (s.setEng n e) := by
  refine ⟨fun m => ?_, fun m => ?_⟩ <;> by_cases h : m = n
  · rw [h, engOf_setEng_self, hcur]
  · rw [engOf_setEng_ne _ _ _ _ h]
  · rw [h, engOf_setEng_self, hfetched]
  · rw [engOf_setEng_ne _ _ _ _ h]

theorem closeRecord (s : State) (n : Nat) : WorkKept s (s.closeRecord n) := by
  have hrest : ∀ (u : State) (e : Engine) (l : List (BitVec 256 × Bool)) (g : State → Nat), WorkKept s u → e.cur = (s.engOf n).cur →
      e.fetched = (s.engOf n).fetched → WorkKept s (l.foldl (fun s _ => s.replyIrq (g s)) ((u.cqAdvance n).setEng n e)) :=
    fun u e l g hu hcur hfetched => by
      have hadvance : WorkKept s (u.cqAdvance n) := hu.trans (of_keeps (keeps_wr u _ _) (by decide))
      have hset := setEng (u.cqAdvance n) n (hcur.trans (hadvance.cur n).symm) (hfetched.trans (hadvance.fetched n).symm)
      exact (hadvance.trans hset).trans (of_keeps (keeps_interrupts _ l g) (by decide))
  simp only [State.closeRecord]
  split
  · exact refl s
  · refine hrest _ _ _ _ ?_ rfl rfl
    split
    · exact of_keeps (keeps_sealRecord s _ _ _) (by decide)
    · exact refl s

theorem ringReply (s : State) (n : Nat) (r : BitVec 256) (irq : Bool) : WorkKept s (s.ringReply n r irq) := by
  simp only [State.ringReply]
  split
  · exact refl s
  split
  · split
    · split
      · exact (setEng s n (by rfl) (by rfl)).trans (closeRecord _ n)
      · exact setEng s n (by rfl) (by rfl)
    · exact setEng s n (by rfl) (by rfl)
  split
  · exact of_keeps (cqWrite_frame s n r irq).1 (by decide)
  · exact setEng s n (by rfl) (by rfl)

end WorkKept

/-- A unit without work. -/
structure NoWork (n : Nat) (s : State) : Prop where
  cur : (s.engOf n).cur = none
  fetched : (s.engOf n).fetched = []

theorem NoWork.of_kept {n : Nat} {s t : State} (h : NoWork n s) (hk : WorkKept s t) : NoWork n t :=
  ⟨(hk.cur n).trans h.cur, (hk.fetched n).trans h.fetched⟩

theorem NoWork.unfetched {n : Nat} {s : State} (h : NoWork n s) (m : Nat) : NoWork n (s.setEng m { s.engOf m with fetched := [] }) := by
  by_cases hm : n = m
  · subst hm
    refine ⟨?_, ?_⟩ <;> rw [engOf_setEng_self]
    exact h.cur
  · refine ⟨?_, ?_⟩ <;> rw [engOf_setEng_ne _ _ _ _ hm]
    · exact h.cur
    · exact h.fetched

/-- The parts that the end of a unit's command may change. -/
def abortParts : List Part := [.eng, .mcc, .regs, .hif, .host, .out]

end Sys2Proof.Safety

namespace Sys2Proof.Machine.State

open Sys2Proof.Safety

theorem mccAbort_frame (s : State) (test : Packet → Bool) : Keeps abortParts s (s.mccAbort test) ∧ WorkKept s (s.mccAbort test) := by
  unfold mccAbort
  split
  · split
    · exact ⟨(mccReply_frame s _).1.mono (by decide), .of_keeps (mccReply_frame s _).1 (by decide)⟩
    · exact ⟨Keeps.refl _ s, .refl s⟩
  · exact ⟨Keeps.refl _ s, .refl s⟩

/-- A unit's work gone from the engine's record. -/
def workDropped (s : State) (n : Nat) : State := s.setEng n { s.engOf n with cur := none, fetched := [] }

theorem noWork_workDropped (s : State) (n : Nat) : NoWork n (s.workDropped n) := by
  refine ⟨?_, ?_⟩ <;> rw [workDropped, engOf_setEng_self]

/-- The command that a unit held answered with STS_ABORTED. -/
def curAnswered (s : State) (e : Engine) : State :=
  match e.cur with
  | none => s
  | some j => match j.via with
    | .mcc => s.mccReply (.err Sts.aborted)
    | .ring m =>
      if s.ringState m = closed then s
      else (s.setEng m { s.engOf m with fetched := [] }).ringReply m (j.reply (.err Sts.aborted) s.now) j.pkt.irq

theorem abortCur_eq (s : State) (n : Nat) : s.abortCur n =
    ((s.workDropped n).curAnswered (s.engOf n)).mccAbort (fun p => ((s.workDropped n).curAnswered (s.engOf n)).queuedOn p == some n) := rfl

theorem curAnswered_frame (s : State) (e : Engine) : Keeps abortParts s (s.curAnswered e) ∧ ∀ n, NoWork n s → NoWork n (s.curAnswered e) := by
  unfold curAnswered
  split
  · exact ⟨Keeps.refl _ s, fun _ h => h⟩
  · split
    · exact ⟨(mccReply_frame s _).1.mono (by decide), fun n h => h.of_kept (.of_keeps (mccReply_frame s _).1 (by decide))⟩
    · split
      · exact ⟨Keeps.refl _ s, fun _ h => h⟩
      · exact ⟨((keeps_setEng s _ _).mono (by decide)).trans ((ringReply_replyKeeps _ _ _ _).1.mono (by decide)),
          fun n h => (h.unfetched _).of_kept (.ringReply _ _ _ _)⟩

/-- The command of a unit ended: the unit has no work. -/
theorem abortCur_ends (s : State) (n : Nat) : Keeps abortParts s (s.abortCur n) ∧ NoWork n (s.abortCur n) := by
  obtain ⟨hka, hwork⟩ := curAnswered_frame (s.workDropped n) (s.engOf n)
  have hkd : Keeps [.eng] s (s.workDropped n) := keeps_setEng s n _
  rw [abortCur_eq]
  obtain ⟨hkm, hstill⟩ := mccAbort_frame ((s.workDropped n).curAnswered (s.engOf n))
    (fun p => ((s.workDropped n).curAnswered (s.engOf n)).queuedOn p == some n)
  exact ⟨((hkd.mono (by decide)).trans hka).trans hkm, (hwork n (noWork_workDropped s n)).of_kept hstill⟩

/-! ## A Creel unit, the Splint engine, a video core (17 R577) -/

theorem island_of_stack {k : Nat} (hk : k < 8) : isSite (stackIsland k) = false ∧ stackIsland k ≠ 81 ∧ ¬ 82 ≤ stackIsland k ∧
    islandStack (stackIsland k) = k := by
  unfold stackIsland isSite islandStack
  split
  · refine ⟨?_, by omega, by omega, by rw [if_pos (by omega)]; omega⟩
    simp only [Bool.or_eq_false_iff, decide_eq_false_iff_not, Bool.and_eq_false_iff]
    omega
  · refine ⟨?_, by omega, by omega, by rw [if_neg (by omega)]; omega⟩
    simp only [Bool.or_eq_false_iff, decide_eq_false_iff_not, Bool.and_eq_false_iff]
    omega

theorem blockReset_stack (s : State) {k : Nat} (hk : k < 8) : s.blockReset (stackIsland k) = (s.creelReset k).abortRing (32 + k) := by
  obtain ⟨hsite, hspl, hvid, hstack⟩ := island_of_stack hk
  rw [blockReset, if_neg (by rw [hsite]; decide), if_neg hspl, if_neg hvid, hstack]

variable {s : State} {i : Nat}

theorem exec_blockReset (hi : blockIsland i = true) (hhere : s.blockHere i = true) : exec (.blockReset i) s = .next (s.blockReset i).settle :=
  congrArg Host.Outcome.next (if_pos (by rw [hi, hhere]; rfl))

theorem blockReset_ignored (h : blockIsland i = false ∨ s.blockHere i = false) : exec (.blockReset i) s = .next s :=
  congrArg Host.Outcome.next (if_neg (by rcases h with h | h <;> simp [h]))

/-- Creel's translations and queued gathers of a unit dropped. -/
def creelDropped (s : State) (u : Nat) : State :=
  { s with crl := { s.crl with
    tlb := s.crl.tlb.filter (fun e => e.1 != u), queue := s.crl.queue.filter (fun g => g.unit != u)
    vc0 := s.crl.vc0.filter (fun q => q.addr % 8 != u) } }

theorem creelReset_eq (s : State) (u : Nat) : s.creelReset u = ((s.abortCur (32 + u)).creelDropped u).regReset (Reg.CRL_FAULT_ADDR u) := rfl

theorem creelDropped_shows (s : State) (u : Nat) : (∀ e ∈ (s.creelDropped u).crl.tlb, e.1 ≠ u) ∧ (∀ g ∈ (s.creelDropped u).crl.queue, g.unit ≠ u) ∧
    (s.creelDropped u).crl.maps = s.crl.maps ∧ Keeps [.crl] s (s.creelDropped u) := by
  refine ⟨fun e he => ?_, fun g hg => ?_, rfl, keeps_withCrl s _⟩
  · simpa using (List.mem_filter.1 he).2
  · simpa using (List.mem_filter.1 hg).2

theorem blockReset_creel {k : Nat} (hk : k < 8) (hi : blockIsland (stackIsland k) = true) (hhere : s.blockHere (stackIsland k) = true) :
    GoesOn (exec (.blockReset (stackIsland k)) s) (fun w => (w.abortRing (32 + k)).settle) (fun w =>
      (∀ e ∈ w.crl.tlb, e.1 ≠ k) ∧ (∀ g ∈ w.crl.queue, g.unit ≠ k) ∧ (w.engOf (32 + k)).cur = none ∧ (w.engOf (32 + k)).fetched = [] ∧
      w.crl.maps = s.crl.maps ∧ w.mem = s.mem) := by
  obtain ⟨hka, hwork⟩ := abortCur_ends s (32 + k)
  obtain ⟨htlb, hqueue, hmaps, hkd⟩ := creelDropped_shows (s.abortCur (32 + k)) k
  have hkr := keeps_regReset ((s.abortCur (32 + k)).creelDropped k) (Reg.CRL_FAULT_ADDR k)
  have hcrl := hkr .crl (by decide)
  have hnone := (hwork.of_kept (.of_keeps hkd (by decide))).of_kept (.of_keeps hkr (by decide))
  refine ⟨s.creelReset k, (exec_blockReset hi hhere).trans (by rw [blockReset_stack s hk]), ?_⟩
  rw [creelReset_eq]
  exact ⟨fun e he => htlb e (by rwa [hcrl] at he), fun g hg => hqueue g (by rwa [hcrl] at hg), hnone.cur, hnone.fetched,
    (congrArg Crl.maps hcrl).trans (hmaps.trans (congrArg Crl.maps (hka .crl (by decide)))),
    (hkr .mem (by decide)).trans ((hkd .mem (by decide)).trans (hka .mem (by decide)))⟩

theorem blockReset_splint (hi : blockIsland 81 = true) (hhere : s.blockHere 81 = true) :
    GoesOn (exec (.blockReset 81) s) (fun w => (w.abortRing 44).settle) (fun w => (w.engOf 44).cur = none ∧ (w.engOf 44).fetched = [] ∧
      (∀ d a, Reg.SPL_STATUS.addr ≤ a → a < Reg.SPL_STATUS.addr + 0x200 → Cells.get d a w.regs = d) ∧ w.mem = s.mem) := by
  obtain ⟨hka, hwork⟩ := abortCur_ends s 44
  have hkr := keeps_regsReset (s.abortCur 44) Reg.SPL_STATUS.addr 0x200
  have hnone := hwork.of_kept (.of_keeps hkr (by decide))
  exact ⟨s.splintReset, exec_blockReset hi hhere, hnone.cur, hnone.fetched, fun d a hlo hhi => Cells.get_clearRange_inside d hlo hhi _,
    (hkr .mem (by decide)).trans (hka .mem (by decide))⟩

theorem isSite_video (h : 82 ≤ i) : isSite i = false := by
  simp only [isSite, Bool.or_eq_false_iff, decide_eq_false_iff_not, Bool.and_eq_false_iff]
  omega

theorem blockReset_video (hi : blockIsland i = true) (hhere : s.blockHere i = true) (hvid : 82 ≤ i) {v : VidJob}
    (hfind : s.vid.jobs.find? (fun v => v.cores.contains (i - 82)) = some v) :
    GoesOn (exec (.blockReset i) s) (fun w => (w.vidReply v (.err Sts.aborted)).settle) (fun w =>
      (s.vidState v.sess ≠ 0 → w.vidState v.sess = 2) ∧ Keeps [.regs] s w) := by
  refine ⟨s.vidIrap v.sess, (exec_blockReset hi hhere).trans ?_, fun hstate => ?_, ?_⟩
  · rw [blockReset, if_neg (by rw [isSite_video hvid]; decide), if_neg (by omega), if_pos hvid, vidCoreReset, hfind]
  · rw [vidIrap, if_neg hstate, vidState, fd_fw_self _ _ _ (show 30 + 2 ≤ 32 by decide) (show 32 ≤ 64 by decide)]
    rfl
  · unfold vidIrap
    split
    · exact Keeps.refl _ s
    · exact keeps_fw s _ _

theorem blockReset_tile (hi : blockIsland i = true) (hhere : s.blockHere i = true) {t : Nat} (hsite : isSite i = true)
    (ht : s.tileOf (islandSite i) = some t) : exec (.blockReset i) s = .next (s.tileAbort t).settle :=
  (exec_blockReset hi hhere).trans (by rw [blockReset, if_pos hsite, ht])

/-! ## A tile that does not become idle (17 R577) -/

/-- Nothing leaves the log. -/
structure LogGrows (s t : State) : Prop where
  sub : s.log ⊆ t.log

namespace LogGrows

variable {s t u : State}

theorem refl (s : State) : LogGrows s s := ⟨List.Subset.refl _⟩

theorem trans (h : LogGrows s t) (h' : LogGrows t u) : LogGrows s u := ⟨fun _ hr => h'.sub (h.sub hr)⟩

theorem of_keeps {ps : List Part} (h : Keeps ps s t) (hp : Part.log ∉ ps) : LogGrows s t :=
  ⟨by rw [h .log hp]; exact List.Subset.refl _⟩

theorem trouble (s : State) (code sev island addr data : Nat) : LogGrows s (s.trouble code sev island addr data) :=
  ⟨log_subset_trouble s code sev island addr data⟩

theorem healthCheck (s : State) : LogGrows s s.healthCheck := ⟨log_subset_healthCheck s⟩

end LogGrows

theorem logGrows_laneSite (s : State) (t : Nat) : LogGrows s (s.laneSite t) := by
  unfold laneSite
  split
  · split
    · exact .of_keeps (keeps_lanePause s 1) (by decide)
    · unfold laneLost
      split
      · exact .refl s
      · exact ((LogGrows.of_keeps (keeps_laneTo s 6) (by decide)).trans (.trouble _ _ _ _ _ _)).trans (.healthCheck _)
  · exact .refl s

/-- The parts that marking a site may change. -/
def markParts : List Part := [.regs, .pair, .rim, .out, .eng, .log, .hif, .tiles, .ras]

theorem markSite_frame (s : State) (site : Nat) : Keeps markParts s (s.markSite site) ∧ LogGrows s (s.markSite site) := by
  have htoken : ∀ (u : State) (a : Activity), Keeps [.ras] u (if u.maintMustWait a then u.maintQueue a else (u.maintTake a).moveStart site) := fun u a => by
    split
    · exact keeps_withRas u _
    · exact (keeps_withRas u _).trans (keeps_moveStart _ site)
  have hor := keeps_orReg s Reg.RAS_SITE_RETIRED (2 ^ site)
  simp only [markSite]
  split
  · exact ⟨Keeps.refl _ s, .refl s⟩
  · split
    · next t _ =>
      have hlane := keeps_laneSite (s.orReg Reg.RAS_SITE_RETIRED (2 ^ site)) t
      have hgrows := logGrows_laneSite (s.orReg Reg.RAS_SITE_RETIRED (2 ^ site)) t
      generalize (s.orReg Reg.RAS_SITE_RETIRED (2 ^ site)).laneSite t = w at hlane hgrows
      have hfence := (keeps_setTile w t { w.tile t with fenced := true }).mono (qs := [.tiles, .eng]) (by simp)
      have hend := hfence.trans ((keeps_setEng _ t { (w.setTile t { w.tile t with fenced := true }).engOf t with fetched := [] }).mono (by simp))
      exact ⟨(((hor.mono (by decide)).trans (hlane.mono (by decide))).trans (hend.mono (by decide))).trans ((htoken _ _).mono (by decide)),
        (((LogGrows.of_keeps hor (by decide)).trans hgrows).trans (.of_keeps hend (by decide))).trans (.of_keeps (htoken _ _) (by decide))⟩
    · exact ⟨(hor.mono (by decide)).trans ((htoken _ _).mono (by decide)), (LogGrows.of_keeps hor (by decide)).trans (.of_keeps (htoken _ _) (by decide))⟩

theorem keeps_tileRegs (s : State) (site : Nat) : Keeps [.regs] s (s.tileRegs site) := (keeps_regsReset s _ _).trans (keeps_regsReset _ _ _)

theorem tileReset_frame (s : State) (t : Nat) : Keeps markParts s (s.tileReset t) ∧ LogGrows s (s.tileReset t) := by
  have hidle : ∀ x : Tile, Keeps [.regs, .tiles] s ((s.tileRegs (s.siteOf t)).setTile t x) := fun x =>
    ((keeps_tileRegs s _).mono (by simp)).trans ((keeps_setTile _ t x).mono (by simp))
  simp only [tileReset]
  split
  · exact ⟨(keeps_setTile s t _).mono (by decide), .of_keeps (keeps_setTile s t _) (by decide)⟩
  · split
    · obtain ⟨hkeeps, hgrows⟩ := markSite_frame ((s.tileRegs (s.siteOf t)).setTile t { Tile.idle with
        traps := [], stale := (s.tile t).stale, fenced := (s.tile t).fenced, halted := (s.tile t).halted }) (s.siteOf t)
      exact ⟨((hidle _).mono (by decide)).trans hkeeps, (LogGrows.of_keeps (hidle _) (by decide)).trans hgrows⟩
    · exact ⟨(hidle _).mono (by decide), .of_keeps (hidle _) (by decide)⟩

/-- A tile that has not trapped is idle after its reset. -/
theorem tile_tileReset {t : Nat} (hclosing : s.sec.closing ≠ 2) (htrap : (s.tile t).trapped = false) :
    (s.tileReset t).tile t = { Tile.idle with
      traps := (s.tile t).traps.filter (fun n => decide (s.now < n + dayNs)), stale := (s.tile t).stale, fenced := (s.tile t).fenced,
      halted := (s.tile t).halted } ∧ Keeps [.regs, .tiles] s (s.tileReset t) := by
  have hrun : s.tileReset t = (s.tileRegs (s.siteOf t)).setTile t { Tile.idle with
      traps := (s.tile t).traps.filter (fun n => decide (s.now < n + dayNs)), stale := (s.tile t).stale, fenced := (s.tile t).fenced,
      halted := (s.tile t).halted } := by
    rw [tileReset, if_neg hclosing]
    simp only [htrap, Bool.false_and, Bool.false_eq_true, if_false]
  rw [hrun]
  exact ⟨tile_setTile_self _ _ _, ((keeps_tileRegs s _).mono (by simp)).trans ((keeps_setTile _ t _).mono (by simp))⟩

theorem mem_log_trouble_addr (s : State) (code sev island addr data : Nat) :
    ∃ r ∈ (s.trouble code sev island addr data).log, r.code = code ∧ r.addr = addr := by
  simp only [trouble]
  split
  · exact ⟨_, by rw [keeps_raise _ 2 .log (by decide)]; exact List.mem_cons_self, rfl, rfl⟩
  · exact ⟨_, List.mem_cons_self, rfl, rfl⟩

theorem sbDiscard_shows {t : Nat} (cause : Nat) {e : SbEntry} {l : List SbEntry} (h : (s.tile t).sb = e :: l) :
    (∃ r ∈ (s.sbDiscard t cause).log, r.code = 0x0280 ∧ r.addr = e.req.addr) ∧ (s.sbDiscard t cause).mem = s.mem := by
  simp only [sbDiscard, h]
  refine ⟨mem_log_trouble_addr _ _ _ _ _ _, ?_⟩
  rw [keeps_trouble _ _ _ _ _ _ .mem (by decide), keeps_tileEvent _ t 51 _ .mem (by decide), bump, keeps_wr _ _ _ .mem (by decide),
    keeps_setTile _ t _ .mem (by decide)]

theorem exec_blockIdleTimeout {t : Nat} (h : (s.tile t).resetting = true) :
    exec (.blockIdleTimeout t) s = .next ((s.sbDiscard t 0).tileReset t).settle := congrArg Host.Outcome.next (if_pos h)

theorem sbDiscard_empty {t : Nat} (h : (s.tile t).sb = []) (cause : Nat) : s.sbDiscard t cause = s := by
  simp only [sbDiscard, h]

theorem blockIdleTimeout_resets {t : Nat} (h : (s.tile t).resetting = true) (hsb : (s.tile t).sb = []) (hclosing : s.sec.closing ≠ 2)
    (htrap : (s.tile t).trapped = false) : GoesOn (exec (.blockIdleTimeout t) s) State.settle (fun w =>
      w.tile t = { Tile.idle with
        traps := (s.tile t).traps.filter (fun n => decide (s.now < n + State.dayNs)), stale := (s.tile t).stale, fenced := (s.tile t).fenced,
        halted := (s.tile t).halted } ∧ Keeps [.regs, .tiles] s w) :=
  ⟨s.tileReset t, (exec_blockIdleTimeout h).trans (by rw [sbDiscard_empty hsb]), tile_tileReset hclosing htrap⟩

theorem blockIdleTimeout_discards {t : Nat} (h : (s.tile t).resetting = true) {e : SbEntry} {l : List SbEntry} (hsb : (s.tile t).sb = e :: l) :
    GoesOn (exec (.blockIdleTimeout t) s) State.settle (fun w =>
      (w.tile t).sb = [] ∧ (∃ r ∈ w.log, r.code = 0x0280 ∧ r.addr = e.req.addr) ∧ w.mem = s.mem) := by
  obtain ⟨⟨r, hr, hcode⟩, hmem⟩ := sbDiscard_shows 0 hsb
  obtain ⟨hk, hgrows⟩ := tileReset_frame (s.sbDiscard t 0) t
  exact ⟨_, exec_blockIdleTimeout h, sbStaysEmpty_tileReset _ t t (sbDiscard_empties s t 0).1, ⟨r, hgrows.sub hr, hcode⟩,
    (hk .mem (by decide)).trans hmem⟩

end Sys2Proof.Machine.State
end

section
/-! The release of a reset up to the boot (O54). -/

namespace Sys2Proof.Safety

open Sys2Proof.Machine Sys2Proof.Machine.State

/-- Registers at some addresses stay, where only registers change. -/
structure Holds (as : List Nat) (s t : State) : Prop where
  keeps : Keeps [.regs] s t
  regs : ∀ r : Reg, r.addr ∈ as → t.rd r = s.rd r

namespace Holds

variable {as : List Nat} {s t u : State}

theorem refl (as : List Nat) (s : State) : Holds as s s := ⟨Keeps.refl _ s, fun _ _ => rfl⟩

theorem trans (h : Holds as s t) (h' : Holds as t u) : Holds as s u :=
  ⟨h.keeps.trans h'.keeps, fun r hr => (h'.regs r hr).trans (h.regs r hr)⟩

theorem fw (s : State) (f : Fld) (v : Nat) (hf : f.reg.addr ∉ as) : Holds as s (s.fw f v) :=
  ⟨keeps_fw s f v, fun r hr => rd_fw_ne s f r v (ne_of_mem_of_not_mem hr hf)⟩

theorem fbw (s : State) (f : Fld) (b : Bool) (hf : f.reg.addr ∉ as) : Holds as s (s.fbw f b) := fw s f _ hf

theorem wr (s : State) (r : Reg) (v : Nat) (hr : r.addr ∉ as) : Holds as s (s.wr r v) :=
  ⟨keeps_wr s r v, fun q hq => rd_wr_ne s r q v (ne_of_mem_of_not_mem hq hr)⟩

theorem foldl {α : Type} {f : State → α → State} {l : List α} (s : State) (h : ∀ u, ∀ a ∈ l, Holds as u (f u a)) : Holds as s (l.foldl f s) :=
  List.foldlRecOn l f (refl as s) fun u hu a ha => hu.trans (h u a ha)

theorem of_only {bs : List Nat} (h : OnlyRegs bs s t) (hd : ∀ a ∈ as, a ∉ bs) : Holds as s t :=
  ⟨h.keeps, fun r hr => h.regs.rd (hd _ hr)⟩

theorem fd (h : Holds as s t) {f : Fld} (hf : f.reg.addr ∈ as) : t.fd f = s.fd f := congrArg (bits · f.lo f.w) (h.regs _ hf)

theorem fb (h : Holds as s t) {f : Fld} (hf : f.reg.addr ∈ as) : t.fb f = s.fb f := congrArg (· != 0) (h.fd hf)

end Holds

/-- A register below the counters of every group. -/
theorem not_mem_countAddrs_of_below {a : Nat} (ha : a < 0x800000) (hseq : a ≠ Reg.RAS_LOG_SEQ.addr) (g : Nat) : a ∉ countAddrs g := by
  simp only [Reg.RAS_LOG_SEQ] at hseq
  simp only [countAddrs, Reg.PMU_OVF, Reg.PMU_OVF_LOST, Reg.RAS_LOG_SEQ, Reg.PMU_CNT, List.cons_append, List.nil_append, List.mem_cons,
    List.mem_map, List.mem_range, not_or, not_exists, not_and]
  exact ⟨by omega, by omega, hseq, fun c hc => by omega⟩

theorem linkFrame_identAll (s : State) : LinkFrame portGroups s s.identAll :=
  .foldl s fun u l hl => linkFrame_sendCtl (portGroups_portOf (by have := List.mem_range.1 (List.mem_of_mem_filter hl); omega)) u _

end Sys2Proof.Safety

namespace Sys2Proof.Machine.State

open Sys2Proof.Safety

/-! ## What follows from the flash -/

variable {s t : State}

theorem sector_congr (h : t.rst.flash = s.rst.flash) (n : Nat) : t.sector n = s.sector n := by rw [sector, sector, h]

theorem flashRead_congr (h : t.rst.flash = s.rst.flash) (n off len : Nat) : t.flashRead n off len = s.flashRead n off len := by
  rw [flashRead, flashRead, sector_congr h]

theorem journalOpen_congr (h : t.rst.flash = s.rst.flash) : t.journalOpen = s.journalOpen := by
  simp only [journalOpen, journalOk, flashRead_congr h]

theorem cfgCurrent_congr (h : t.rst.flash = s.rst.flash) : t.cfgCurrent = s.cfgCurrent := by
  simp only [cfgCurrent, cfgSlot, flashRead_congr h]

/-! ## CAP_UNITS (00 R9) -/

theorem foldl_mask_lt (l : List Nat) {b : Nat} (hl : ∀ k ∈ l, k < b) (n : Nat) :
    (List.range n).foldl (fun m k => if l.contains k then m + 2 ^ k else m) 0 < 2 ^ min n b := by
  induction n with
  | zero => simp
  | succ n ih =>
    rw [List.range_succ, List.foldl_append, List.foldl_cons, List.foldl_nil]
    by_cases hn : n < b
    · rw [Nat.min_eq_left (by omega)] at ih ⊢
      have hpow : 2 ^ (n + 1) = 2 ^ n + 2 ^ n := by rw [Nat.pow_succ]; omega
      split <;> omega
    · rw [Nat.min_eq_right (by omega)] at ih ⊢
      rw [if_neg]
      · exact ih
      · exact fun hc => hn (hl n (List.contains_iff_mem.1 hc))

theorem maskOf_lt {l : List Nat} {b : Nat} (hb : b ≤ 64) (hl : ∀ k ∈ l, k < b) : maskOf l < 2 ^ b := by
  have h := foldl_mask_lt l hl 64
  rwa [Nat.min_eq_right hb] at h

theorem length_bitsOf_le (m n : Nat) : (bitsOf m n).length ≤ n := (List.length_filter_le _ _).trans (List.length_range).le

/-- The registers of the remaps shown. -/
theorem holds_remapCounts {as : List Nat} (has : ∀ a ∈ as, a < 0x2000000) (s : State) : Holds as s s.remapCounts := by
  have hfar : ∀ a : Nat, 0x2000000 ≤ a → a ∉ as := fun a ha hin => absurd (has a hin) (by omega)
  unfold remapCounts
  extract_lets on shown
  have hshown : Holds as s shown := .foldl s fun u st _ =>
    ((Holds.fw u (Fld.HBM_REMAP_STATE_FREE st) _ (hfar _ (by simp only [Fld.HBM_REMAP_STATE_FREE, Reg.HBM_REMAP_STATE]; omega))).trans
      (.fw _ (Fld.HBM_REMAP_STATE_RETIRED st) _ (hfar _ (by simp only [Fld.HBM_REMAP_STATE_RETIRED, Reg.HBM_REMAP_STATE]; omega)))).trans
      (.wr _ (Reg.HBM_PAGES_LOST st) _ (hfar _ (by simp only [Reg.HBM_PAGES_LOST]; omega)))
  exact hshown.trans (.foldl _ fun u k _ =>
    .fw u (Fld.SLC_REMAP_USED_USED k) _ (hfar _ (by simp only [Fld.SLC_REMAP_USED_USED, Reg.SLC_REMAP_USED]; omega)))

/-- The stacks in service shown, for a core reset. -/
def stacksShown (s : State) : State :=
  let up := fun (k : Nat) => bit s.stackMask k && s.fd (Fld.HBM_STATUS_STATE k) == 2
  let ready := maskOf ((List.range 8).filter up)
  (List.range 8).foldl (fun s k => s.wr (Reg.HBM_STATUS k) (if !bit s.stackMask k then 0 else if bit ready k then 2 ^ 31 + 2 else 3)) s

/-- The stacks in service. -/
def stacksReady (s : State) : Nat := maskOf ((List.range 8).filter (fun k => bit s.stackMask k && s.fd (Fld.HBM_STATUS_STATE k) == 2))

/-- What CAP_UNITS shows of the module. -/
def capValue (s : State) (ready : Nat) : Nat :=
  2 ^ 31 + (bitsOf (bits (s.rd Reg.RAS_CORE_STATE) 8 5) 5).length * 2 ^ 15 + b2n s.fuse.macsec * 2 ^ 14 + 0x3E00 + b2n s.fuse.video * 256 + ready

theorem capLoad_core (s : State) : s.capLoad false [] =
    s.stacksShown.remapCounts.wr Reg.CAP_UNITS (s.stacksShown.remapCounts.capValue s.stacksReady) := rfl

theorem capValue_range (s : State) {ready : Nat} (h : ready < 2 ^ 8) : 2 ^ 31 ≤ s.capValue ready ∧ s.capValue ready < 2 ^ 32 := by
  have hcores := length_bitsOf_le (bits (s.rd Reg.RAS_CORE_STATE) 8 5) 5
  have hmac : b2n s.fuse.macsec ≤ 1 := by cases s.fuse.macsec <;> decide
  have hvid : b2n s.fuse.video ≤ 1 := by cases s.fuse.video <;> decide
  unfold capValue
  omega

theorem capLoad_frame {as : List Nat} (has : ∀ a ∈ as, a < 0x2000000) (hcap : Reg.CAP_UNITS.addr ∉ as) (s : State) :
    Holds as s (s.capLoad false []) ∧ (s.capLoad false []).fb Fld.CAP_UNITS_CAP_VALID = true := by
  have hstacks : Holds as s s.stacksShown := .foldl s fun u k _ => .wr u (Reg.HBM_STATUS k) _ fun hin => by
    have := has _ hin
    simp only [Reg.HBM_STATUS] at this
    omega
  have hready : s.stacksReady < 2 ^ 8 := maskOf_lt (by decide) fun k hk => List.mem_range.1 (List.mem_of_mem_filter hk)
  obtain ⟨hlow, hhigh⟩ := s.stacksShown.remapCounts.capValue_range hready
  rw [capLoad_core]
  refine ⟨(hstacks.trans (holds_remapCounts has _)).trans (.wr _ _ _ hcap), ?_⟩
  rw [show Fld.CAP_UNITS_CAP_VALID = ⟨Reg.CAP_UNITS, 31, 1⟩ from rfl, fb_of_bit, rd_wr_self _ _ _ (by decide),
    show Reg.CAP_UNITS.width = 32 from rfl, Nat.mod_eq_of_lt hhigh]
  exact beq_iff_eq.2 (by omega)

/-! ## Release after a core reset (17 R583) -/

/-- The registers that decide how a boot goes on. -/
def bootAddrs : List Nat := [Reg.RST_STRAP.addr, Reg.RAS_CORE_STATE.addr, Reg.SEC_STATUS.addr, Reg.RST_BKP0.addr]

/-- The attempts counted, with the retention domain sound. -/
def attemptCounted (s : State) : State := s.fw Fld.RST_BKP0_BOOT_ATTEMPTS (satAdd 15 (s.fd Fld.RST_BKP0_BOOT_ATTEMPTS) 1)

theorem holds_clocksLoad {as : List Nat} (h0 : Reg.CLK_EN0.addr ∉ as) (h1 : Reg.CLK_EN1.addr ∉ as) (s : State) : Holds as s s.clocksLoad :=
  (Holds.wr s Reg.CLK_EN0 _ h0).trans (.wr _ Reg.CLK_EN1 _ h1)

/-- The module up to CAP_VALID after a core reset without failing units. -/
def capValid (s : State) : State := ((s.clocksLoad.fw Fld.RST_STATUS_STAGE 2).clocksLoad.capLoad false []).fw Fld.RST_STATUS_STAGE 3

/-- The strap's position shown. -/
def positionShown (s : State) : State := s.fw Fld.PAIR_STATUS_POS (s.fd Fld.RST_STRAP_CODE % 2)

/-- The strap's position and the plant port's pin shown. -/
def pinsShown (s : State) : State := s.positionShown.fbw Fld.PLT_STATUS_LISTEN_ONLY s.positionShown.pins.listenOnly

theorem capValid_frame (s : State) : Holds bootAddrs s s.capValid ∧ s.capValid.fb Fld.CAP_UNITS_CAP_VALID = true := by
  have hclocks : ∀ u : State, Holds bootAddrs u u.clocksLoad := holds_clocksLoad (by decide) (by decide)
  obtain ⟨hload, hcap⟩ := capLoad_frame (as := bootAddrs) (by decide) (by decide) (s.clocksLoad.fw Fld.RST_STATUS_STAGE 2).clocksLoad
  refine ⟨((hclocks s).trans ((Holds.fw _ Fld.RST_STATUS_STAGE 2 (by decide)).trans (hclocks _))).trans
    (hload.trans (.fw _ Fld.RST_STATUS_STAGE 3 (by decide))), ?_⟩
  exact (fb_fw_ne _ _ _ _ (by decide)).trans hcap

theorem pinsShown_frame (s : State) : Holds bootAddrs s s.pinsShown ∧ s.pinsShown.fb Fld.CAP_UNITS_CAP_VALID = s.fb Fld.CAP_UNITS_CAP_VALID := by
  refine ⟨(Holds.fw s Fld.PAIR_STATUS_POS _ (by decide)).trans (.fbw _ Fld.PLT_STATUS_LISTEN_ONLY _ (by decide)), ?_⟩
  rw [pinsShown, fb_fbw_ne _ _ _ _ (by decide), positionShown, fb_fw_ne _ _ _ _ (by decide)]

/-- The reset no longer in force. -/
def levelCleared (s : State) : State := s.updRst (fun x => { x with level := 0 })

theorem rst_levelCleared (s : State) : s.levelCleared.rst = { s.rst with level := 0 } := rfl

/-- The release begun. -/
def releaseBegun (s : State) : State := s.levelCleared.attemptCounted.fw Fld.RST_STATUS_STAGE 1

/-- An interrupted commit holds the token again. -/
def resumeTaken (s : State) : State :=
  if s.journalOpen && decide (2 ≤ s.boot) && !s.attemptsOut then s.maintTake ⟨actResume, 0, 0⟩ else s

theorem resumeTaken_closed (h : s.journalOpen = false) : s.resumeTaken = s := if_neg (by simp [h])

/-- A scrub still owed started. -/
def scrubOwed (s : State) : State := if s.fb Fld.SEC_STATUS_SCRUB_REQUIRED then s.scrubStart else s

theorem scrubOwed_none (h : s.fb Fld.SEC_STATUS_SCRUB_REQUIRED = false) : s.scrubOwed = s := if_neg (by simp [h])

/-- What follows CAP_VALID, the attempts counted. -/
def goesOn (s : State) : State := s.afterCap s.attemptsOut

theorem retentionCheck_sound (s : State) : s.retentionCheck true = s.attemptCounted := by
  simp only [retentionCheck, if_true, attemptCounted]

theorem bootTests_none (s : State) : s.bootTests false [] = s := rfl

theorem resetOut_core (s : State) : s.resetOut false [] true = s.releaseBegun.resumeTaken.capValid.pinsShown.scrubOwed.goesOn := by
  simp only [resetOut, retentionCheck_sound, bootTests_none, Bool.false_eq_true, if_false]
  rfl

end Sys2Proof.Machine.State
end

section
/-! The boot after a core reset (O54). -/

namespace Sys2Proof.Safety

open Sys2Proof.Machine Sys2Proof.Machine.State

/-- The strap and the registers that show a boot. -/
def bootShown : List Nat :=
  [Reg.RST_STRAP.addr, Reg.RST_STATUS.addr, Reg.RST_BKP0.addr, Reg.CAP_UNITS.addr, Reg.SEC_MEAS_STATE.addr]

/-- What starting the firmware leaves: memory, what the reset holds, and the registers that show the boot. -/
structure BootKept (s t : State) : Prop where
  mem : t.mem = s.mem
  rst : t.rst = s.rst
  regs : ∀ r : Reg, r.addr ∈ bootShown → t.rd r = s.rd r

namespace BootKept

variable {s t u : State}

theorem trans (h : BootKept s t) (h' : BootKept t u) : BootKept s u :=
  ⟨h'.mem.trans h.mem, h'.rst.trans h.rst, fun r hr => (h'.regs r hr).trans (h.regs r hr)⟩

theorem fd (h : BootKept s t) {f : Fld}
    (hf : f.reg.addr ∈ bootShown) : t.fd f = s.fd f :=
  congrArg (bits · f.lo f.w) (h.regs _ hf)

theorem of_holds {as : List Nat} (h : Holds as s t)
    (has : ∀ a ∈ bootShown, a ∈ as) : BootKept s t :=
  ⟨h.keeps .mem (by decide), h.keeps .rst (by decide), fun r hr => h.regs r (has _ hr)⟩

theorem fw (s : State) (f : Fld) (v : Nat)
    (hf : f.reg.addr ∉ bootShown) : BootKept s (s.fw f v) :=
  of_holds (Holds.fw s f v hf) fun _ h => h

theorem setLevels (s : State) (proto num : Nat) : BootKept s (s.setLevels proto num) := by
  unfold State.setLevels
  split
  · exact ⟨rfl, rfl, fun _ _ => rfl⟩
  · refine ((fw s Fld.ATY_FAB_STATUS_PROTO_LEVEL proto (by decide)).trans (fw _ Fld.ATY_FAB_STATUS_NUMERICS_LEVEL num (by decide))).trans ?_
    have hident := linkFrame_identAll ((s.fw Fld.ATY_FAB_STATUS_PROTO_LEVEL proto).fw Fld.ATY_FAB_STATUS_NUMERICS_LEVEL num)
    refine ⟨hident.parts .mem (by decide), hident.parts .rst (by decide), fun r hr => congrArg BitVec.toNat (hident.regs _ _ fun g _ => ?_)⟩
    have hbelow : ∀ a ∈ bootShown,
        a < 0x800000 ∧ a ≠ Reg.RAS_LOG_SEQ.addr := by decide
    exact not_mem_countAddrs_of_below (hbelow _ hr).1 (hbelow _ hr).2 g

theorem rollbackAdvance (s : State) : BootKept s s.rollbackAdvance := by
  unfold State.rollbackAdvance
  extract_lets v
  split
  · have hotp := keeps_updSec s (fun x => { x with otp := { x.otp with rollback := v } })
    exact trans ⟨hotp .mem (by decide), hotp .rst (by decide), fun r _ => hotp.rd (by decide) r⟩ (fw _ Fld.SEC_STATUS_ROLLBACK v (by decide))
  · exact ⟨rfl, rfl, fun _ _ => rfl⟩

theorem updShow (s : State) : BootKept s s.updShow :=
  of_holds (as := bootShown)
    (.of_only (updShow_frame s) (by decide)) fun _ h => h

theorem healthCheck (s : State) : BootKept s s.healthCheck :=
  have hapart : ∀ a ∈ bootShown,
    a ∉ [Reg.RAS_HEALTH.addr, Reg.RAS_LOG_SEQ.addr] := by decide
  ⟨keeps_healthCheck s .mem (by decide), keeps_healthCheck s .rst (by decide), fun r hr => (regsKeep_healthCheck s).rd (hapart _ hr)⟩

theorem pairFailEnd (s : State) (c : Nat) : BootKept s (s.pairFailEnd c) :=
  have hapart : ∀ a ∈ bootShown, a < 0xb00100 ∨ 0xb00900 ≤ a := by
    decide
  have ⟨hk, houtside, _⟩ := pairFailEnd_frame s c
  ⟨hk .mem (by decide), hk .rst (by decide), fun r hr => houtside.rd (hapart _ hr)⟩

end BootKept
end Sys2Proof.Safety

namespace Sys2Proof.Machine.State

open Sys2Proof.Safety

variable {s : State}

/-! ## The boot from copies (18 R598) -/

/-- The image's versions shown. -/
def imageShown (s : State) : State :=
  (s.wr Reg.RST_IMG_VERSION (fieldOf s.rst.image 8 4)).wr Reg.RST_IMG_LEVELS (manLevels s.rst.image)

/-- The image's levels reported, before the firmware starts. -/
def imageRuns (s : State) : State :=
  ((s.imageShown.wr Reg.SEC_MEAS_STATE 0).setLevels (fieldOf s.rst.image 13 1) (fieldOf s.rst.image 14 1)).fw Fld.RST_STATUS_STAGE 4

theorem imageShown_frame (s : State) : Holds bootShown s s.imageShown :=
  (Holds.wr s Reg.RST_IMG_VERSION _ (by decide)).trans (.wr _ Reg.RST_IMG_LEVELS _ (by decide))

/-- What the reported image leaves: no unit is unmeasured any more. -/
theorem imageRuns_frame (s : State) : s.imageRuns.mem = s.mem ∧ s.imageRuns.rst = s.rst ∧ s.imageRuns.boot = s.boot ∧
    s.imageRuns.rd Reg.SEC_MEAS_STATE = 0 ∧ s.imageRuns.fb Fld.CAP_UNITS_CAP_VALID = s.fb Fld.CAP_UNITS_CAP_VALID := by
  have hshown := s.imageShown_frame
  have hmeas : Keeps [.regs] s (s.imageShown.wr Reg.SEC_MEAS_STATE 0) := hshown.keeps.trans (keeps_wr _ _ _)
  have hlevels := BootKept.setLevels (s.imageShown.wr Reg.SEC_MEAS_STATE 0) (fieldOf s.rst.image 13 1) (fieldOf s.rst.image 14 1)
  refine ⟨(keeps_fw _ _ _ .mem (by decide)).trans (hlevels.mem.trans (hmeas .mem (by decide))),
    (keeps_fw _ _ _ .rst (by decide)).trans (hlevels.rst.trans (hmeas .rst (by decide))), ?_, ?_, ?_⟩
  · refine congrArg (· / 4) ((fd_fw_ne _ _ _ _ (by decide)).trans ((hlevels.fd (f := Fld.RST_STRAP_CODE) (by decide)).trans ?_))
    exact (fd_wr_ne _ _ _ _ (by decide)).trans (hshown.fd (f := Fld.RST_STRAP_CODE) (by decide))
  · rw [imageRuns, rd_fw_ne _ _ _ _ (by decide), hlevels.regs _ (by decide), rd_wr_self _ _ _ (by decide)]
    rfl
  · rw [imageRuns, fb_fw_ne _ _ _ _ (by decide)]
    refine congrArg (· != 0) ((hlevels.fd (f := Fld.CAP_UNITS_CAP_VALID) (by decide)).trans ?_)
    exact (fd_wr_ne _ _ _ _ (by decide)).trans (hshown.fd (f := Fld.CAP_UNITS_CAP_VALID) (by decide))

theorem bootOn_copies (himage : s.rst.image ≠ []) (hboot : s.boot = 3) : s.bootOn = s.imageRuns.firmware := by
  have hflash : s.rst.image.isEmpty = false := by simpa using himage
  have hon : s.imageRuns.boot ≠ 2 := by
    rw [(imageRuns_frame s).2.2.1, hboot]
    decide
  have hsame : s.updRst (fun x => { x with image := s.rst.image }) = s := rfl
  simp only [bootOn, hflash, Bool.false_and, Bool.false_eq_true, if_false, hsame]
  exact if_neg hon

/-- The firmware's start with nothing to replay. -/
def firmwareRuns (s : State) : State := ((s.fw Fld.RST_STATUS_STAGE 5).rollbackAdvance.fw Fld.RST_BKP0_BOOT_ATTEMPTS 0).fw Fld.RST_STATUS_STAGE 6

theorem rst_updRst (s : State) (f : Rst → Rst) : (s.updRst f).rst = f s.rst := rfl

/-- The first start over. -/
def startedOnce (s : State) : State := s.updRst (fun x => { x with first := false })

theorem cfgApply_none (h : s.cfgCurrent = none) : s.cfgApply = s := by simp only [cfgApply, h]

theorem firmware_none (h : s.cfgCurrent = none) : s.firmware = (s.firmwareRuns.startedOnce.updShow.healthCheck).pairFailEnd 5 := by
  have hcfg : (s.fw Fld.RST_STATUS_STAGE 5).cfgApply = s.fw Fld.RST_STATUS_STAGE 5 := cfgApply_none (by
    exact (cfgCurrent_congr (congrArg Rst.flash (keeps_fw s Fld.RST_STATUS_STAGE 5 .rst (by decide)))).trans h)
  simp only [firmware, hcfg]
  rfl

theorem firmwareRuns_frame (s : State) : s.firmwareRuns.mem = s.mem ∧ s.firmwareRuns.rst = s.rst ∧ s.firmwareRuns.stage = 6 ∧
    s.firmwareRuns.fd Fld.RST_BKP0_BOOT_ATTEMPTS = 0 ∧ s.firmwareRuns.rd Reg.SEC_MEAS_STATE = s.rd Reg.SEC_MEAS_STATE ∧
    s.firmwareRuns.fb Fld.CAP_UNITS_CAP_VALID = s.fb Fld.CAP_UNITS_CAP_VALID := by
  have hroll := BootKept.rollbackAdvance (s.fw Fld.RST_STATUS_STAGE 5)
  have hcleared : Holds [] (s.fw Fld.RST_STATUS_STAGE 5).rollbackAdvance s.firmwareRuns :=
    (Holds.fw _ Fld.RST_BKP0_BOOT_ATTEMPTS 0 (by decide)).trans (.fw _ Fld.RST_STATUS_STAGE 6 (by decide))
  have hbefore := keeps_fw s Fld.RST_STATUS_STAGE 5
  refine ⟨(hcleared.keeps .mem (by decide)).trans (hroll.mem.trans (hbefore .mem (by decide))),
    (hcleared.keeps .rst (by decide)).trans (hroll.rst.trans (hbefore .rst (by decide))), fd_fw_self _ _ _ (by decide) (by decide), ?_, ?_, ?_⟩
  · rw [firmwareRuns, fd_fw_ne _ _ _ _ (by decide), fd_fw_self _ _ _ (by decide) (by decide)]
    rfl
  · rw [firmwareRuns, rd_fw_ne _ _ _ _ (by decide), rd_fw_ne _ _ _ _ (by decide), hroll.regs _ (by decide), rd_fw_ne _ _ _ _ (by decide)]
  · rw [firmwareRuns, fb_fw_ne _ _ _ _ (by decide), fb_fw_ne _ _ _ _ (by decide)]
    exact congrArg (· != 0) ((hroll.fd (f := Fld.CAP_UNITS_CAP_VALID) (by decide)).trans (fd_fw_ne _ _ _ _ (by decide)))

/-- What the firmware's start shows, with nothing to replay. -/
theorem firmware_shows (h : s.cfgCurrent = none) : s.firmware.mem = s.mem ∧ s.firmware.rst = { s.rst with first := false } ∧
    s.firmware.stage = 6 ∧ s.firmware.fd Fld.RST_BKP0_BOOT_ATTEMPTS = 0 ∧ s.firmware.rd Reg.SEC_MEAS_STATE = s.rd Reg.SEC_MEAS_STATE ∧
    s.firmware.fb Fld.CAP_UNITS_CAP_VALID = s.fb Fld.CAP_UNITS_CAP_VALID := by
  obtain ⟨hmem, hrst, hstage, hattempts, hmeas, hcap⟩ := s.firmwareRuns_frame
  have hend : BootKept s.firmwareRuns.startedOnce s.firmware := by
    rw [firmware_none h]
    exact ((BootKept.updShow _).trans (.healthCheck _)).trans (.pairFailEnd _ 5)
  have hregs : ∀ r : Reg, s.firmwareRuns.startedOnce.rd r = s.firmwareRuns.rd r := (keeps_updRst _ _).rd (by decide)
  refine ⟨hend.mem.trans ((keeps_updRst _ _ .mem (by decide)).trans hmem), ?_, ?_, ?_, ?_, ?_⟩
  · rw [hend.rst, startedOnce, rst_updRst, hrst]
  · exact (hend.fd (f := Fld.RST_STATUS_STAGE) (by decide)).trans ((fd_of_rd (f := Fld.RST_STATUS_STAGE) (hregs _)).trans hstage)
  · exact (hend.fd (f := Fld.RST_BKP0_BOOT_ATTEMPTS) (by decide)).trans ((fd_of_rd (f := Fld.RST_BKP0_BOOT_ATTEMPTS) (hregs _)).trans hattempts)
  · exact (hend.regs _ (by decide)).trans ((hregs _).trans hmeas)
  · exact (congrArg (· != 0) ((hend.fd (f := Fld.CAP_UNITS_CAP_VALID) (by decide)).trans
      (fd_of_rd (f := Fld.CAP_UNITS_CAP_VALID) (hregs _)))).trans hcap

end Sys2Proof.Machine.State
end

section
/-! Block resets and releases settled (O54). -/

namespace Sys2Proof.Machine.State

open Sys2Proof.Safety

variable {s : State}

theorem satAdd_one_le {m x n : Nat} (h : x ≤ n) : satAdd m x 1 ≤ n + 1 := by
  unfold satAdd
  split <;> omega

/-- Where a reset cannot end, or none is in force, a release does nothing. -/
theorem resetRelease_ignored (fails : List (Nat × Nat)) (retOk copiesOk : Bool) (h : s.rst.level = 0 ∨ s.pins.perst = false ∨
    s.rst.unpowered = true ∨ s.rst.tripped = true) : exec (.resetRelease fails retOk copiesOk) s = .next s :=
  congrArg Host.Outcome.next (if_pos (by rcases h with h | h | h | h <;> simp [h]))

section

variable (hlevel : s.rst.level = 1) (hperst : s.pins.perst = true) (hsupply : s.rst.unpowered = false) (htrip : s.rst.tripped = false)
include hlevel hperst hsupply htrip

theorem exec_resetRelease_core (fails : List (Nat × Nat)) (retOk copiesOk : Bool) : exec (.resetRelease fails retOk copiesOk) s =
    .next (if !copiesOk && !s.rst.image.isEmpty then s.resetGo 2 true else s.resetOut false fails retOk) :=
  congrArg Host.Outcome.next ((if_neg (by simp [hlevel, hperst, hsupply, htrip])).trans (if_neg (by omega)))

theorem resetRelease_escalates (fails : List (Nat × Nat)) (retOk : Bool) (himage : s.rst.image ≠ []) (hpulse : s.pulsing = false) :
    Goes (exec (.resetRelease fails retOk false) s) (fun u => u.rst.level = 2 ∧ u.mem = [] ∧ u.rst.flash = s.rst.flash) := by
  have hleft : SystemLeft s (s.resetGo 2 true) := systemLeft_go (Keeps.refl [] s) (by decide) (by decide) (by decide) (by decide) (by decide)
    (by decide) (by decide) (by omega) fun _ => hpulse
  refine ⟨_, (exec_resetRelease_core hlevel hperst hsupply htrip fails retOk false).trans (congrArg _ (if_pos (by simpa using himage))), ?_,
    hleft.mem, ?_⟩
  · rw [hleft.rst]
    rfl
  · rw [hleft.rst]

end

theorem releaseBegun_frame (s : State) : Keeps [.regs, .rst] s s.releaseBegun ∧ s.releaseBegun.rst = { s.rst with level := 0 } ∧
    RegsKeep [Reg.RST_BKP0.addr, Reg.RST_STATUS.addr] s s.releaseBegun ∧
    s.releaseBegun.fd Fld.RST_BKP0_BOOT_ATTEMPTS = satAdd 15 (s.fd Fld.RST_BKP0_BOOT_ATTEMPTS) 1 % 16 := by
  have hcleared : Keeps [.rst] s s.levelCleared := keeps_updRst s _
  have hcount : Keeps [.regs] s.levelCleared s.releaseBegun := (keeps_fw s.levelCleared Fld.RST_BKP0_BOOT_ATTEMPTS _).trans (keeps_fw _ _ _)
  refine ⟨(hcleared.mono (by simp)).trans (hcount.mono (by simp)), (hcount .rst (by decide)).trans (rst_levelCleared s),
    (RegsKeep.of_regs_eq (hcleared .regs (by decide))).trans (((regsKeep_fw _ Fld.RST_BKP0_BOOT_ATTEMPTS _).mono (by decide)).trans
      ((regsKeep_fw _ Fld.RST_STATUS_STAGE _).mono (by decide))), ?_⟩
  have hold : s.levelCleared.fd Fld.RST_BKP0_BOOT_ATTEMPTS = s.fd Fld.RST_BKP0_BOOT_ATTEMPTS := hcleared.fd (by decide) _
  rw [releaseBegun, fd_fw_ne _ _ _ _ (by decide), attemptCounted, fd_fw_self _ _ _ (by decide) (by decide), hold]
  rfl

/-- A release begun, up to the boot, with no commit to resume and no scrub owed: the attempts stay counted and CAP_UNITS is valid. -/
theorem capShown_frame (s : State) : Holds bootAddrs s s.capValid.pinsShown ∧ s.capValid.pinsShown.fb Fld.CAP_UNITS_CAP_VALID = true := by
  obtain ⟨hcap, hvalid⟩ := s.capValid_frame
  obtain ⟨hpins, hsame⟩ := s.capValid.pinsShown_frame
  exact ⟨hcap.trans hpins, hsame.trans hvalid⟩

theorem goesOn_boots (hattempts : s.fd Fld.RST_BKP0_BOOT_ATTEMPTS < 4)
    (hcores : 2 ≤ ((List.range 4).filter (fun c => !bit (s.rd Reg.RAS_CORE_STATE) (4 + c))).length) (hboot : s.boot = 3)
    (hjournal : s.journalOpen = false) : s.goesOn = s.bootOn := by
  have hout : s.attemptsOut = false := decide_eq_false (by omega)
  simp only [goesOn, afterCap, hout, Bool.false_or, hjournal, Bool.false_eq_true, if_false]
  rw [if_neg (by rw [decide_eq_true_eq]; omega), if_neg (by omega)]

/-- The release of a core reset with sound copies: it boots to RUNNING. -/
theorem resetOut_runs (himage : s.rst.image ≠ []) (hboot : s.boot = 3) (hjournal : s.journalOpen = false) (hcfg : s.cfgCurrent = none)
    (hscrub : s.fb Fld.SEC_STATUS_SCRUB_REQUIRED = false) (hattempts : s.fd Fld.RST_BKP0_BOOT_ATTEMPTS ≤ 2)
    (hcores : 2 ≤ ((List.range 4).filter (fun c => !bit (s.rd Reg.RAS_CORE_STATE) (4 + c))).length) :
    ∃ t : State, s.resetOut false [] true = t.imageRuns.firmware ∧ t.mem = s.mem ∧ t.rst = { s.rst with level := 0 } ∧
      t.cfgCurrent = none ∧ t.fb Fld.CAP_UNITS_CAP_VALID = true := by
  obtain ⟨hk, hrst, hregs, hcount⟩ := s.releaseBegun_frame
  obtain ⟨hholds, hvalid⟩ := s.releaseBegun.capShown_frame
  have hflash : s.releaseBegun.capValid.pinsShown.rst = { s.rst with level := 0 } := (hholds.keeps .rst (by decide)).trans hrst
  have hcodes : s.releaseBegun.capValid.pinsShown.fd Fld.RST_STRAP_CODE = s.fd Fld.RST_STRAP_CODE :=
    (hholds.fd (by decide)).trans (hregs.fd (by decide))
  have howed : s.releaseBegun.capValid.pinsShown.fb Fld.SEC_STATUS_SCRUB_REQUIRED = false :=
    (hholds.fb (by decide)).trans ((congrArg (· != 0) (hregs.fd (f := Fld.SEC_STATUS_SCRUB_REQUIRED) (by decide))).trans hscrub)
  have hcounted : s.releaseBegun.capValid.pinsShown.fd Fld.RST_BKP0_BOOT_ATTEMPTS < 4 := by
    rw [hholds.fd (by decide), hcount]
    have := satAdd_one_le (m := 15) hattempts
    omega
  have hcoreRegs : s.releaseBegun.capValid.pinsShown.rd Reg.RAS_CORE_STATE = s.rd Reg.RAS_CORE_STATE :=
    (hholds.regs _ (by decide)).trans (hregs.rd (by decide))
  have hplain : s.releaseBegun.capValid.pinsShown.boot = 3 := (congrArg (· / 4) hcodes).trans hboot
  have hflashSame : s.releaseBegun.capValid.pinsShown.rst.flash = s.rst.flash := by rw [hflash]
  refine ⟨s.releaseBegun.capValid.pinsShown, ?_, (hholds.keeps .mem (by decide)).trans (hk .mem (by decide)), hflash,
    (cfgCurrent_congr hflashSame).trans hcfg, hvalid⟩
  rw [resetOut_core, resumeTaken_closed ((journalOpen_congr (by rw [hrst])).trans hjournal), scrubOwed_none howed,
    goesOn_boots hcounted (by rw [hcoreRegs]; exact hcores) hplain ((journalOpen_congr hflashSame).trans hjournal),
    bootOn_copies (by rw [hflash]; exact himage) hplain]

end Sys2Proof.Machine.State

namespace Sys2Proof

open Sys2Proof.Machine Sys2Proof.Machine.State Sys2Proof.Safety

/-- Settles O54, from what each block reset leaves and the steps of a release up to the firmware's start. -/
theorem blockResetsAndReleases : Obligations.BlockResetsAndReleases := by
  unfold Obligations.BlockResetsAndReleases
  refine ⟨fun s i hi hhere => ⟨?_, ?_, fun v hvid hfind _ => blockReset_video hi hhere hvid hfind,
      fun t hsite ht => blockReset_tile hi hhere hsite ht⟩, fun s i h => blockReset_ignored h, fun s t _ _ =>
    ⟨blockIdleTimeout_resets, fun e l h hsb => blockIdleTimeout_discards h hsb, fun h => congrArg Host.Outcome.next (if_neg (by simp [h]))⟩,
    fun s fails retOk copiesOk h => resetRelease_ignored fails retOk copiesOk h,
    fun s fails retOk hlevel hperst hsupply htrip himage hpulse =>
      resetRelease_escalates hlevel hperst hsupply htrip fails retOk himage hpulse, ?_⟩
  · rintro k hk rfl
    exact blockReset_creel hk hi hhere
  · rintro rfl
    exact blockReset_splint hi hhere
  · intro s hlevel hperst hsupply htrip himage hboot hjournal hcfg hscrub hattempts hcores
    obtain ⟨t, hrun, hmem, hrst, hnone, hvalid⟩ := resetOut_runs himage hboot hjournal hcfg hscrub hattempts hcores
    obtain ⟨hmem', hrst', _, hmeas, hcap⟩ := t.imageRuns_frame
    obtain ⟨hmem'', hrst'', hstage, hzero, hmeas', hcap'⟩ := firmware_shows ((cfgCurrent_congr (congrArg Rst.flash hrst')).trans hnone)
    refine ⟨t.imageRuns.firmware, ?_, ?_, hstage, hzero, (hcap'.trans hcap).trans hvalid, hmeas'.trans hmeas, ?_,
      hmem''.trans (hmem'.trans hmem)⟩
    · rw [exec_resetRelease_core hlevel hperst hsupply htrip, ← hrun, if_neg (by simp)]
    · rw [hrst'', hrst', hrst]
    · rw [hrst'', hrst', hrst]

end Sys2Proof
end

section
/-! Staging, commits and the configuration store (O55). -/

namespace Sys2Proof.Machine.State

open Sys2Proof.Safety

section
variable {s s1 u w : State} {via : Via} {p : Packet} {j : Job}

/-! ## The command in progress, in the state of the checks -/

theorem keeps_openRecord (s : State) (w i : Nat) : Keeps [.regs, .hif] s (s.openRecord w i).1 := by
  unfold openRecord
  split
  · exact Keeps.refl _ s
  · extract_lets raw iv aad good
    split
    · exact (keeps_wr s _ _).mono (by simp)
    · exact (keeps_withHif s _).mono (by simp)

theorem keeps_openRecords (s : State) (w : Nat) (l : List Nat) : Keeps [.regs, .hif] s (s.openRecords w l).1 := by
  induction l generalizing s with
  | nil => exact Keeps.refl _ s
  | cons i is ih =>
    have hfirst := keeps_openRecord s w i
    rw [openRecords]
    split
    next hopen => rwa [hopen] at hfirst
    next u q hopen =>
      rw [hopen] at hfirst
      have hrest := hfirst.trans (ih u)
      split
      next hs => rwa [hs] at hrest
      next hs => rwa [hs] at hrest

theorem keeps_hostLoad (s : State) (a n : Nat) : Keeps [.regs, .hif] s (s.hostLoad a n).1 := by
  unfold hostLoad
  split
  · split
    · exact Keeps.refl _ s
    next w b hwindow =>
      extract_lets o first cnt
      have hopened := keeps_openRecords s w (rangeFrom first cnt)
      split
      next hopen => rwa [hopen] at hopened
      next hopen => rwa [hopen] at hopened
  · exact Keeps.refl _ s

theorem mccCur_extBlock (s : State) (p : Packet) : (s.extBlock p).1.mcc.cur = s.mcc.cur := by
  unfold extBlock
  split
  · rfl
  · split
    · rfl
    · have hk := keeps_hostLoad s (p.u64 16) (p.u32 24)
      split
      next hload =>
        rw [hload] at hk
        exact (congrArg Mcc.cur (hk .mcc (by decide)) :)
      next hload =>
        rw [hload] at hk
        exact (congrArg Mcc.cur (hk .mcc (by decide)) :)

/-- A packet's block read leaves the command on the MCC. -/
theorem mccCur_started (h : Starts s true .mcc p j s1) : s1.mcc.cur = some j := by
  have hblock := h.block
  split at hblock
  · exact (congrArg (fun e : State × Option Ans => e.1.mcc.cur) hblock).symm.trans h.job
  · have hcur := mccCur_extBlock s p
    rw [hblock] at hcur
    exact hcur.trans h.job

theorem mcc_beginJob_mcc (s : State) (timed : Bool) (j : Job) :
    (s.beginJob timed .mcc j).mcc = { s.mcc with cur := some { j with begun := true } } := by
  simp only [beginJob]
  split
  · exact (keeps_trouble _ _ _ _ _ _ .mcc (by decide)).trans rfl
  · rfl

/-! ## What a command that begins leaves of the flash -/

theorem rst_begun (s : State) (via : Via) (j : Job) : (s.beginJob true via j).rst = s.rst := keeps_beginJob s true via j .rst (by decide)

theorem pfw_begun (s : State) (via : Via) (j : Job) : (s.beginJob true via j).pfw = s.pfw := fb_begun s via j (by decide)

theorem sector_begun (s : State) (via : Via) (j : Job) (n : Nat) : (s.beginJob true via j).sector n = s.sector n :=
  sector_congr (by rw [rst_begun]) n

theorem flashRead_begun (s : State) (via : Via) (j : Job) (n off len : Nat) : (s.beginJob true via j).flashRead n off len = s.flashRead n off len :=
  flashRead_congr (by rw [rst_begun]) n off len

theorem journalOpen_begun (s : State) (via : Via) (j : Job) : (s.beginJob true via j).journalOpen = s.journalOpen :=
  journalOpen_congr (by rw [rst_begun])

theorem stagedPieces_begun (s : State) (via : Via) (j : Job) : (s.beginJob true via j).stagedPieces = s.stagedPieces := by
  simp only [stagedPieces, stageRecords, sector_begun]

theorem stagedManifest_begun (s : State) (via : Via) (j : Job) : (s.beginJob true via j).stagedManifest = s.stagedManifest := by
  simp only [stagedManifest, stagedPieces_begun, flashRead_begun]

theorem missingPiece_begun (s : State) (via : Via) (j : Job) : (s.beginJob true via j).missingPiece = s.missingPiece := by
  simp only [missingPiece, stagedManifest_begun, stagedPieces_begun]

theorem manFail_begun (s : State) (via : Via) (j : Job) (m : List Byte) : (s.beginJob true via j).manFail m = s.manFail m := by
  simp only [manFail, fuse_begun, sec_begun]

theorem cfgFits_begun (s : State) (via : Via) (j : Job) (m : List Byte) : (s.beginJob true via j).cfgFits m = s.cfgFits m := by
  simp only [cfgFits, cfgCurrent_congr (congrArg Rst.flash (rst_begun s via j))]

theorem compFail_begun (s : State) (via : Via) (j : Job) (n : Nat) (m : List Byte) (all : Bool) :
    (s.beginJob true via j).compFail n m all = s.compFail n m all := by
  simp only [compFail, fuse_begun, flashBytes, flashRead_begun]

/-! ## The loader's start -/

/-- What a start of the loader leaves. -/
theorem flashStart_frame (s : State) (x : FlashJob) :
    Keeps [.regs, .rst] s (s.flashStart x) ∧ (s.flashStart x).rst = { s.rst with job := some { x with pulse := !s.pfw } } := by
  have hjob := keeps_updRst s (fun y => { y with job := some { x with pulse := !s.pfw } })
  have hshow := (updShow_frame (s.updRst (fun y => { y with job := some { x with pulse := !s.pfw } }))).keeps
  exact ⟨(hjob.mono (by simp)).trans (hshow.mono (by simp)), hshow .rst (by decide)⟩

/-! ## UPD_STAGE (18 R601 to R604) -/

/-- Whether the command on the MCC came over I3C. -/
def i3cJob (s : State) : Bool := match s.mcc.cur with | some j => j.i3c | none => false

/-- Whether the staged manifest has no piece of a number: without one only piece 0 exists. -/
def pieceAbsent (s : State) (n : Nat) : Bool :=
  match s.stagedManifest with | none => n != 0 | some m => n != 0 && decide (manSectors m ≤ n)

/-- What UPD_STAGE checks. -/
def stageChecks (p : Packet) (s : State) : Option Ans :=
  firstFail [(decide (479 < p.u16 16) || (s.i3cJob && s.mcc.extra.length != 65536) || s.pieceAbsent (p.u16 16), .param),
    (s.journalOpen, .refuse 0x0B07), (decide (16384 ≤ s.recordsUsed), .refuse 0x0B09)]

/-- What UPD_STAGE does. -/
def stageAct (p : Packet) (far : List Host.Cell) (ue : Option Nat) (s : State) : State × Option Ans :=
  if s.i3cJob then s.stageBegin (p.u16 16) s.mcc.extra
  else match s.getGlobal mccUnit (p.u64 24) 65536 far ue with
    | (s, .error e) => (s, some (accessAns e))
    | (s, .ok bs) => s.stageBegin (p.u16 16) bs

theorem exec_updStage (via : Via) (p : Packet) (far : List Host.Cell) (ue : Option Nat) (s : State) :
    exec (.updStage via p far ue) s = .next (s.runRow via p (p.base == 0x0B10) (stageChecks p) (stageAct p far ue)) := rfl

theorem i3cJob_started (h : Starts s true .mcc p j s1) : s1.i3cJob = j.i3c := by rw [i3cJob, mccCur_started h]

theorem i3cJob_begun (s : State) (j : Job) : (s.beginJob true .mcc j).i3cJob = j.i3c := by rw [i3cJob, mcc_beginJob_mcc]

theorem pieceAbsent_present {n : Nat} (h : n ≠ 0 → ∃ m, s.stagedManifest = some m ∧ n < manSectors m) : s.pieceAbsent n = false := by
  rcases Nat.eq_zero_or_pos n with rfl | hpos
  · unfold pieceAbsent
    split <;> rfl
  · obtain ⟨m, hm, hlt⟩ := h (by omega)
    simp [pieceAbsent, hm, hlt]

section
variable {far : List Host.Cell} {ue : Option Nat}

/-- The checks of UPD_STAGE over the MCC, for a piece that exists. -/
theorem stageChecks_present (h : Starts s true .mcc p j s1) (hextra : j.i3c = true → s1.mcc.extra.length = 65536) (hpiece : p.u16 16 ≤ 479)
    (hexists : p.u16 16 ≠ 0 → ∃ m, s1.stagedManifest = some m ∧ p.u16 16 < manSectors m) :
    stageChecks p s1 = firstFail [(s1.journalOpen, .refuse 0x0B07), (decide (16384 ≤ s1.recordsUsed), .refuse 0x0B09)] := by
  have hwhole : (s1.i3cJob && s1.mcc.extra.length != 65536) = false := by
    rw [i3cJob_started h]
    cases hi : j.i3c
    · rfl
    · simp [hextra hi]
  exact if_neg (by rw [hwhole, pieceAbsent_present hexists, decide_eq_false (by omega)]; decide)

theorem stageAct_reads {bs : List Byte} (hread : if j.i3c then w = s.beginJob true .mcc j ∧ bs = s.mcc.extra else
      (s.beginJob true .mcc j).getGlobal mccUnit (p.u64 24) 65536 far ue = (w, .ok bs)) :
    stageAct p far ue (s.beginJob true .mcc j) = w.stageBegin (p.u16 16) bs := by
  rw [stageAct, i3cJob_begun]
  split at hread
  next hi =>
    obtain ⟨rfl, rfl⟩ := hread
    rw [if_pos hi, mcc_beginJob_mcc]
  next hi => rw [if_neg hi, hread]

theorem stageBegin_piece (s : State) {n : Nat} (hn : n ≠ 0) (bs : List Byte) :
    s.stageBegin n bs = (s.flashStart ⟨0, 1, 0, 0, bs, n, false, false, false, false⟩, none) := by
  simp only [stageBegin, if_neg hn, beq_eq_false_iff_ne.2 hn, Bool.false_and, Bool.false_eq_true, if_false]

theorem stageBegin_manifest_fails (s : State) {bs : List Byte} {k : Nat} (hm : s.manFail (bs.take 4096) = some k) :
    s.stageBegin 0 bs = (s, some (.errD stsUpdManifest k)) := by
  simp only [stageBegin, if_true, hm]

theorem stageBegin_manifest (s : State) {bs : List Byte} (hm : s.manFail (bs.take 4096) = none) : ∃ n fresh,
    s.stageBegin 0 bs = (s.flashStart ⟨0, n, 0, 0, bs, 0, false, false, false, fresh⟩, none) := by
  simp only [stageBegin, if_true, hm]
  exact ⟨_, _, rfl⟩

end

end

end Sys2Proof.Machine.State
end

section
/-! The update commands settled (O55). -/

namespace Sys2Proof.Machine.State

open Sys2Proof.Safety

/-! ## The commit's sign -/

theorem committing_congr {s t : State} (h : t.rst = s.rst) : t.committing = s.committing := by rw [committing, committing, h]

/-- SEC_STATUS.COMMIT after the registers are brought up to date. -/
theorem fb_updShow_commit (s : State) : s.updShow.fb Fld.SEC_STATUS_COMMIT = s.committing := by
  unfold updShow
  split
  rename_i v l n _
  extract_lets w0 k w1 w2 w3
  split
  rename_i cv cn _
  extract_lets w4
  have hw : OnlyRegs showAddrs s w4 :=
    (((OnlyRegs.wr s _ v (by decide)).trans (.wr _ _ l (by decide))).trans ((OnlyRegs.fw w0 _ _ (by decide)).trans (.fw _ _ k (by decide)))).trans
      ((((OnlyRegs.fw w1 _ n (by decide)).trans (.fw _ _ _ (by decide))).trans (.fw w2 _ _ (by decide))).trans
        ((OnlyRegs.fw w3 _ cv (by decide)).trans (.fw _ _ cn (by decide))))
  rw [fb_fbw_self _ Fld.SEC_STATUS_COMMIT _ (by decide) (by decide) (by decide)]
  exact committing_congr (hw.keeps .rst (by decide))

theorem committing_flashStart (s : State) (x : FlashJob) : (s.flashStart x).fb Fld.SEC_STATUS_COMMIT = (x.kind == 1) :=
  fb_updShow_commit _

/-! ## Records appended (18 R603) -/

/-- What a record appended leaves. -/
theorem appendRecord_frame (s : State) (staged : Bool) (n : Nat) :
    Keeps [.rst] s (s.appendRecord staged n) ∧ (s.appendRecord staged n).rst.job = s.rst.job := ⟨keeps_updRst s _, rfl⟩

theorem appendRecords_frame (s : State) (ps : List Nat) : Keeps [.rst] s (ps.foldl (fun s p => s.appendRecord false p) s) ∧
    (ps.foldl (fun s p => s.appendRecord false p) s).rst.job = s.rst.job := by
  refine List.foldlRecOn (motive := fun t : State => Keeps [.rst] s t ∧ t.rst.job = s.rst.job) ps _ ⟨Keeps.refl _ s, rfl⟩
    fun u ⟨hk, hj⟩ n _ => ?_
  obtain ⟨hk', hj'⟩ := appendRecord_frame u false n
  exact ⟨hk.trans hk', hj'.trans hj⟩

/-! ## The start of a commit (18 R605) -/

theorem keeps_maintTake (s : State) (a : Activity) : Keeps [.ras] s (s.maintTake a) := keeps_withRas s _

theorem ras_maintTake (s : State) (a : Activity) : (s.maintTake a).ras = { s.ras with holders := s.ras.holders ++ [a] } := rfl

section
variable {s : State} (hstage : s.stage ≠ 7) (hjournal : s.journalOpen = false)
include hstage hjournal

theorem commitBegin_missing {k : Nat} (h : s.missingPiece = some k) : s.commitBegin = (s, some ⟨stsUpdIncomplete, 0, 0, k, false⟩) := by
  simp [commitBegin, hstage, hjournal, h]

section
variable (hpieces : s.missingPiece = none)
include hpieces

omit hstage in
theorem commitBegin_manifest_fails {k : Nat} (h : s.manFail (s.flashRead 512 0 4096) = some k) :
    s.commitBegin = (s, some (.errD stsUpdManifest k)) := by
  simp [commitBegin, hjournal, hpieces, h]

variable (hm : s.manFail (s.flashRead 512 0 4096) = none)
include hm

theorem commitBegin_version (h : s.cfgFits (s.flashRead 512 0 4096) = false) : s.commitBegin = (s, some (.errD stsUpdManifest 6)) := by
  simp [commitBegin, hstage, hjournal, hpieces, hm, h]

variable (hfits : s.cfgFits (s.flashRead 512 0 4096) = true)
include hfits

omit hstage in
theorem commitBegin_hash {i : Nat} {c : Comp} (h : s.compFail 512 (s.flashRead 512 0 4096) true = some (i, c)) :
    ∃ ps : List Nat, s.commitBegin = ((ps.foldl (fun s p => s.appendRecord false p) s).updShow,
      some ⟨stsUpdHash, i, 0, c.off / 65536, false⟩) := by
  refine ⟨rangeFrom (c.off / 65536) ((c.off + max 1 c.size - 1) / 65536 + 1 - c.off / 65536), ?_⟩
  simp [commitBegin, hjournal, hpieces, hm, hfits, h]

omit hstage in
theorem commitBegin_starts (h : s.compFail 512 (s.flashRead 512 0 4096) true = none) :
    s.commitBegin = ((s.maintTake ⟨actCommit, 0, 0⟩).flashStart ⟨1, 0, 0, 0, journalBytes (manSectors (s.flashRead 512 0 4096))
      (sha384 (s.flashRead 512 0 4096)), 0, false, false, false, false⟩, none) := by
  simp [commitBegin, hjournal, hpieces, hm, hfits, h]

end
end

section
variable {s s1 u w : State} {via : Via} {p : Packet} {j : Job}

/-- What UPD_COMMIT checks. -/
def commitChecks (s : State) : Option Ans :=
  (firstFail [(s.rst.job.isSome, .err Sts.busy), (s.lc == 2, .refuse 0x0B05), (s.pins.maintInhibit, .refuse 0x0B01),
    (s.pfw, .refuse 0x0B06), (!s.fb Fld.PWR_STATUS_HOLDUP_FULL, .refuse 0x0B03), (s.fb Fld.PWR_STATUS_INPUT_LOW, .refuse 0x0B04)]).or
    ((s.maintRefused ⟨actCommit, 0, 0⟩).map (.errD Sts.maintConflict))

theorem exec_updCommit (via : Via) (p : Packet) (s : State) :
    exec (.updCommit via p) s = .next (s.runRow via p (p.base == 0x0B11) commitChecks (fun s => s.commitBegin)) := rfl

theorem updCommit_refused (h : Starts s true via p j s1) (hop : p.base = 0x0B11) {a : Ans} (hcheck : s1.commitChecks = some a) :
    exec (.updCommit via p) s = .next (s1.finish via a) :=
  congrArg Host.Outcome.next (runRow_refused h (by simp [hop]) hcheck)

theorem updCommit_ends (h : Starts s true via p j s1) (hop : p.base = 0x0B11) (hcheck : s1.commitChecks = none) {a : Ans}
    (hact : (s1.beginJob true via j).commitBegin = (u, some a)) : exec (.updCommit via p) s = .next (u.finish via a) :=
  congrArg Host.Outcome.next (runRow_ends h (by simp [hop]) hcheck hact)

theorem updCommit_goesOn (h : Starts s true via p j s1) (hop : p.base = 0x0B11) (hcheck : s1.commitChecks = none)
    (hact : (s1.beginJob true via j).commitBegin = (u, none)) : exec (.updCommit via p) s = .next u :=
  congrArg Host.Outcome.next (runRow_goesOn h (by simp [hop]) hcheck hact)

/-- A commit that the module lets start: only the token decides. -/
theorem commitChecks_token (hidle : s.rst.job = none) (hlc : s.lc ≠ 2) (hinhibit : s.pins.maintInhibit = false) (hpfw : s.pfw = false)
    (hfull : s.fb Fld.PWR_STATUS_HOLDUP_FULL = true) (hlow : s.fb Fld.PWR_STATUS_INPUT_LOW = false) :
    s.commitChecks = (s.maintRefused ⟨actCommit, 0, 0⟩).map (.errD Sts.maintConflict) := by
  simp [commitChecks, firstFail, hidle, hlc, hinhibit, hpfw, hfull, hlow]

theorem stage_begun (s : State) (via : Via) (j : Job) : (s.beginJob true via j).stage = s.stage := fd_begun s via j (by decide)

/-- A commit whose pieces are all staged: the first check that fails ends it, and without one it starts. -/
theorem updCommit_staged (h : Starts s true via p j s1) (hop : p.base = 0x0B11) (hcheck : s1.commitChecks = none) (hpfw : s1.pfw = false)
    (hstage : s1.stage ≠ 7) (hjournal : s1.journalOpen = false) (hpieces : s1.missingPiece = none) :
    let m := s1.flashRead 512 0 4096
    match s1.manFail m with
    | some k => Ends (exec (.updCommit via p) s) via (.errD stsUpdManifest k) (fun u => u = s1.beginJob true via j)
    | none => if s1.cfgFits m then
        (match s1.compFail 512 m true with
        | some (i, c) => Ends (exec (.updCommit via p) s) via ⟨stsUpdHash, i, 0, c.off / 65536, false⟩ (fun u => u.ras = s1.ras ∧
            u.rst.job = s1.rst.job)
        | none => Goes (exec (.updCommit via p) s) (fun u => u.ras = { s1.ras with holders := s1.ras.holders ++ [⟨State.actCommit, 0, 0⟩] } ∧
            u.rst = { s1.rst with job := some ⟨1, 0, 0, 0, State.journalBytes (manSectors m) (sha384 m), 0, true, false, false, false⟩ } ∧
            u.fb Fld.SEC_STATUS_COMMIT = true ∧ Keeps [.regs, .rst, .ras] (s1.beginJob true via j) u))
      else Ends (exec (.updCommit via p) s) via (.errD stsUpdManifest 6) (fun u => u = s1.beginJob true via j) := by
  intro m
  have hm : (s1.beginJob true via j).flashRead 512 0 4096 = m := flashRead_begun s1 via j 512 0 4096
  have hs := (stage_begun s1 via j).trans_ne hstage
  have hj := (journalOpen_begun s1 via j).trans hjournal
  have hp := (missingPiece_begun s1 via j).trans hpieces
  split
  next k hk =>
    exact ⟨_, updCommit_ends h hop hcheck (commitBegin_manifest_fails hj hp (by rw [hm, manFail_begun]; exact hk)), rfl⟩
  next hk =>
    have hk' : (s1.beginJob true via j).manFail ((s1.beginJob true via j).flashRead 512 0 4096) = none := by rw [hm, manFail_begun]; exact hk
    split
    next hfits =>
      have hfits' : (s1.beginJob true via j).cfgFits ((s1.beginJob true via j).flashRead 512 0 4096) = true := by
        rw [hm, cfgFits_begun]; exact hfits
      split
      next i c hc =>
        obtain ⟨ps, hact⟩ := commitBegin_hash hj hp hk' hfits' (by rw [hm, compFail_begun]; exact hc)
        obtain ⟨hkeeps, hjob⟩ := appendRecords_frame (s1.beginJob true via j) ps
        have hshow := (updShow_frame (ps.foldl (fun s p => s.appendRecord false p) (s1.beginJob true via j))).keeps
        refine ⟨_, updCommit_ends h hop hcheck hact, ?_, ?_⟩
        · exact (hshow .ras (by decide)).trans ((hkeeps .ras (by decide)).trans (ras_begun s1 via j))
        · exact (congrArg Rst.job (hshow .rst (by decide))).trans (hjob.trans (congrArg Rst.job (rst_begun s1 via j)))
      next hc =>
        have hact := commitBegin_starts hj hp hk' hfits' (by rw [hm, compFail_begun]; exact hc)
        rw [hm] at hact
        obtain ⟨hkeeps, hrst⟩ := flashStart_frame ((s1.beginJob true via j).maintTake ⟨actCommit, 0, 0⟩)
          ⟨1, 0, 0, 0, journalBytes (manSectors m) (sha384 m), 0, false, false, false, false⟩
        have htoken := keeps_maintTake (s1.beginJob true via j) ⟨actCommit, 0, 0⟩
        have hkept : ((s1.beginJob true via j).maintTake ⟨actCommit, 0, 0⟩).rst = s1.rst := (htoken .rst (by decide)).trans (rst_begun s1 via j)
        have hsupply : ((s1.beginJob true via j).maintTake ⟨actCommit, 0, 0⟩).pfw = false :=
          (htoken.fb (by decide) _).trans ((pfw_begun s1 via j).trans hpfw)
        refine ⟨_, updCommit_goesOn h hop hcheck hact, ?_, ?_, committing_flashStart _ _, ?_⟩
        · exact (hkeeps .ras (by decide)).trans ((ras_maintTake _ _).trans (by rw [ras_begun]))
        · rw [hrst, hsupply, hkept]
          rfl
        · exact (htoken.mono (by simp)).trans (hkeeps.mono (by simp))
    next hfits =>
      exact ⟨_, updCommit_ends h hop hcheck (commitBegin_version hs hj hp hk' (by
        rw [hm, cfgFits_begun]; exact Bool.eq_false_iff.2 hfits)), rfl⟩

/-! ## UPD_ABANDON, UPD_QUERY and UPD_CFG_SET -/

theorem updAbandon_starts (h : Starts s true via p j s1) (hop : p.base = 0x0B12) (hjournal : s1.journalOpen = false) :
    exec (.updAbandon via p) s =
      .next ((s1.beginJob true via j).flashStart ⟨3, 0, 0, 0, [], 0, false, false, false, false⟩) :=
  congrArg Host.Outcome.next (runRow_goesOn h (by simp [hop]) (by simp [firstFail, hjournal]) rfl)

theorem updAbandon_refused (h : Starts s true via p j s1) (hop : p.base = 0x0B12) (hjournal : s1.journalOpen = true) :
    exec (.updAbandon via p) s = .next (s1.finish via (.refuse 0x0B07)) :=
  congrArg Host.Outcome.next (runRow_refused h (by simp [hop]) (by simp [firstFail, hjournal]))

theorem updQuery_missing (h : Starts s true via p j s1) (hop : p.base = 0x0B13) (hdest : p.u64 16 = 0) {k : Nat}
    (hpiece : s1.missingPiece = some k) :
    exec (.updQuery via p) s = .next ((s1.beginJob true via j).finish via (.ok (s1.rd Reg.RST_UPD_STATUS) k)) := by
  refine congrArg Host.Outcome.next (runRow_ends h (by simp [hop]) rfl ?_)
  have hpiece' := (missingPiece_begun s1 via j).trans hpiece
  simp only [hdest, if_true, hpiece', rd_begun s1 via j (r := Reg.RST_UPD_STATUS) (by decide)]

theorem rd_open (s : State) (n : Nat) (r : Reg) : (s.open_ n).2.rd r = s.rd r := rfl

theorem updQuery_staged (h : Starts s true via p j s1) (hop : p.base = 0x0B13) (hdest : p.u64 16 = 0) (hpiece : s1.missingPiece = none) :
    exec (.updQuery via p) s = .next (((s1.beginJob true via j).open_ 64).2.finish via
      (.ok (s1.rd Reg.RST_UPD_STATUS) ((s1.beginJob true via j).open_ 64).1)) := by
  refine congrArg Host.Outcome.next (runRow_ends h (by simp [hop]) rfl ?_)
  have hpiece' := (missingPiece_begun s1 via j).trans hpiece
  simp only [hdest, if_true, hpiece', rd_open, rd_begun s1 via j (r := Reg.RST_UPD_STATUS) (by decide)]

/-- The packets of a program and those of records are cut alike. -/
theorem programPackets_eq (bs : List Byte) : Machine.packetsOf bs = State.packetsOf bs := rfl

section
variable {far : List Host.Cell} {ue : Option Nat}

theorem updCfgSet_refused (h : Starts s true via p j s1) (hop : p.base = 0x0B14) (hmany : 1023 < p.u16 24) :
    exec (.updCfgSet via p far ue) s = .next (s1.finish via .param) :=
  congrArg Host.Outcome.next (runRow_refused h (by simp [hop]) (if_pos (decide_eq_true hmany)))

section
variable (h : Starts s true via p j s1) (hop : p.base = 0x0B14) (hfew : p.u16 24 ≤ 1023) {bs : List Byte}
  (hread : (s1.beginJob true via j).getGlobal mccUnit (p.u64 16) (64 * p.u16 24) far ue = (w, .ok bs))
include h hop hfew hread

theorem updCfgSet_record {i : Nat} (hbad : (packetsOf bs).findIdx? (fun q => !cfgRecordOk q) = some i) :
    exec (.updCfgSet via p far ue) s = .next (w.finish via ⟨Sts.badParam, 0, 0, i, false⟩) :=
  congrArg Host.Outcome.next (runRow_ends h (by simp [hop]) (if_neg (by simpa using hfew)) (by simp only [hread, programPackets_eq, hbad]))

theorem updCfgSet_writes (hgood : (packetsOf bs).findIdx? (fun q => !cfgRecordOk q) = none) :
    exec (.updCfgSet via p far ue) s = .next (w.flashStart ⟨2, 0, 0, 0, (w.cfgNext w.cfgVersion bs).2, (w.cfgNext w.cfgVersion bs).1, false,
      false, false, false⟩) :=
  congrArg Host.Outcome.next (runRow_goesOn h (by simp [hop]) (if_neg (by simpa using hfew)) (by simp only [hread, programPackets_eq, hgood]))

end
end

end

end Sys2Proof.Machine.State

namespace Sys2Proof

open Sys2Proof.Machine Sys2Proof.Machine.State Sys2Proof.Safety

/-- Settles O55, from the checks of each update command and the loader's start. -/
theorem updateCommandsRun : Obligations.UpdateCommandsRun := by
  unfold Obligations.UpdateCommandsRun
  refine ⟨?_, ?_, ?_, ?_, ?_⟩
  · rintro s via p far ue j s1 h hop rfl hextra hpiece hexists
    have hchecks := stageChecks_present h hextra hpiece hexists
    have hmine : (p.base == 0x0B10) = true := by simp [hop]
    refine ⟨fun hj => ?_, fun hj hr => ?_, fun w bs hj hr hread => ?_⟩
    · exact congrArg Host.Outcome.next (runRow_refused h hmine (hchecks.trans (by simp [firstFail, hj])))
    · exact congrArg Host.Outcome.next (runRow_refused h hmine (hchecks.trans (by simp [firstFail, hj, hr])))
    · have hfree := hchecks.trans (by simp [firstFail, hj, hr] : _ = none)
      have hact := stageAct_reads hread
      refine ⟨fun hn => ?_, fun hzero => ?_⟩
      · obtain ⟨hkeeps, hrst⟩ := flashStart_frame w ⟨0, 1, 0, 0, bs, p.u16 16, false, false, false, false⟩
        exact ⟨_, congrArg Host.Outcome.next (runRow_goesOn h hmine hfree (hact.trans (stageBegin_piece w hn bs))), hkeeps, hrst⟩
      · rw [hzero] at hact
        split
        next k hk => exact congrArg Host.Outcome.next (runRow_ends h hmine hfree (hact.trans (stageBegin_manifest_fails w hk)))
        next hk =>
          obtain ⟨n, fresh, hbegin⟩ := stageBegin_manifest w hk
          obtain ⟨hkeeps, hrst⟩ := flashStart_frame w ⟨0, n, 0, 0, bs, 0, false, false, false, fresh⟩
          exact ⟨_, congrArg Host.Outcome.next (runRow_goesOn h hmine hfree (hact.trans hbegin)), hkeeps, n, fresh, hrst⟩
  · intro s via p j s1 h hop _
    refine ⟨fun h1 => ?_, fun h1 h2 => ?_, fun h1 h2 h3 => ?_, fun h1 h2 h3 h4 => ?_, fun h1 h2 h3 h4 h5 => ?_,
      fun hidle hlc hinhibit hpfw hfull hlow hstage => ?_⟩
    · exact updCommit_refused h hop (by simp [commitChecks, firstFail, h1])
    · exact updCommit_refused h hop (by simp [commitChecks, firstFail, h1, h2])
    · exact updCommit_refused h hop (by simp [commitChecks, firstFail, h1, h2, h3])
    · exact updCommit_refused h hop (by simp [commitChecks, firstFail, h1, h2, h3, h4])
    · exact updCommit_refused h hop (by simp [commitChecks, firstFail, h1, h2, h3, h4, h5])
    · have htoken := commitChecks_token hidle hlc hinhibit hpfw hfull hlow
      refine ⟨fun k hk => updCommit_refused h hop (by rw [htoken, hk]; rfl), fun k hk hj hp => ?_, fun hk hj hp => ?_⟩
      · exact ⟨_, updCommit_ends h hop (by rw [htoken, hk]; rfl) (commitBegin_missing (by rw [stage_begun]; exact hstage)
          ((journalOpen_begun s1 via j).trans hj) ((missingPiece_begun s1 via j).trans hp)), rfl⟩
      · have hstaged := updCommit_staged h hop (by rw [htoken, hk]; rfl) hpfw hstage hj hp
        rwa [hidle] at hstaged
  · intro s via p j s1 h hop _
    refine ⟨updAbandon_refused h hop, fun hj => ?_⟩
    obtain ⟨hkeeps, hrst⟩ := flashStart_frame (s1.beginJob true via j) ⟨3, 0, 0, 0, [], 0, false, false, false, false⟩
    exact ⟨_, updAbandon_starts h hop hj, hkeeps, hrst.trans (by rw [rst_begun, pfw_begun])⟩
  · intro s via p j s1 h hop hdest
    refine ⟨fun k hk => ⟨_, updQuery_missing h hop hdest hk, rfl⟩, fun hnone =>
      ⟨_, BitVec.isLt _, _, updQuery_staged h hop hdest hnone, keeps_open _ 64⟩⟩
  · intro s via p far ue j s1 h hop
    refine ⟨updCfgSet_refused h hop, fun w bs hfew hread => ⟨fun i => updCfgSet_record h hop hfew hread, fun hgood => ?_⟩⟩
    obtain ⟨hkeeps, hrst⟩ := flashStart_frame w
      ⟨2, 0, 0, 0, (w.cfgNext w.cfgVersion bs).2, (w.cfgNext w.cfgVersion bs).1, false, false, false, false⟩
    exact ⟨_, updCfgSet_writes h hop hfew hread hgood, hkeeps, hrst⟩

end Sys2Proof
end

section
/-! The ends of flash pulses (O56). -/

namespace Sys2Proof.Machine.State

-- Elaborated side by side, each of these unfoldings would hold a thread and its stack while it waits for the others.
set_option Elab.async false

open Sys2Proof.Safety

/-! ## The flash written -/

/-- Nothing but the flash changes. -/
structure FlashOnly (s t : State) : Prop where
  keeps : Keeps [.rst] s t
  rst : t.rst = { s.rst with flash := t.rst.flash }

theorem flashOnly_setSector (s : State) (n : Nat) (l : List Byte) : FlashOnly s (s.setSector n l) := ⟨keeps_updRst s _, rfl⟩

theorem sector_setSector (s : State) (n : Nat) (l : List Byte) : (s.setSector n l).sector n = l := by
  simp only [sector, setSector, rst_updRst, Cells.find, if_true]

variable {s t : State} {j k : FlashJob} {good : Bool}

/-! ## A pulse's effect (18 R601, R606, R611) -/

section
variable (hkind : j.kind = 0)
include hkind

theorem pulseEnd_stage_records (hstep : j.step = 0) : s.pulseEnd j good = (s.setSector 4 [], .go { j with step := 1 }) := by
  simp only [pulseEnd, hkind, hstep]

theorem pulseEnd_stage_erase (hstep : j.step = 1) : s.pulseEnd j good = (s.setSector (512 + j.index) [], .go { j with step := 2 }) := by
  simp only [pulseEnd, hkind, hstep]

theorem pulseEnd_stage_written (hstep : j.step = 2) :
    s.pulseEnd j true = (s.setSector (512 + j.index) j.data, .go { j with step := 3 }) := by
  simp only [pulseEnd, hkind, hstep, if_true]

theorem pulseEnd_stage_bad (hstep : j.step = 2) : s.pulseEnd j false = (s.setSector (512 + j.index) j.data, .bad (512 + j.index)) := by
  simp only [pulseEnd, hkind, hstep, Bool.false_eq_true, if_false]

theorem pulseEnd_stage_record (hstep : j.step = 3) : s.pulseEnd j good = (s.appendRecord true j.index, .done 0) := by
  simp only [pulseEnd, hkind, hstep]

end

section
variable (hkind : j.kind = 1)
include hkind

theorem pulseEnd_commit_mark (hstep : j.step = 1) : s.pulseEnd j good = (s.flashProgram 3 (256 + j.sector) [0x7F], .go { j with step := 2 }) := by
  simp only [pulseEnd, hkind, hstep]

theorem pulseEnd_commit_erase (hstep : j.step = 2) : s.pulseEnd j good = (s.setSector (32 + j.sector) [], .go { j with step := 3 }) := by
  simp only [pulseEnd, hkind, hstep]

theorem pulseEnd_commit_copied (hstep : j.step = 3) :
    s.pulseEnd j true = (s.setSector (32 + j.sector) (s.sector (512 + j.sector)), .go { j with step := 4 }) := by
  simp only [pulseEnd, hkind, hstep, if_true]

theorem pulseEnd_commit_again (hstep : j.step = 3) (htries : j.tries < 2) : s.pulseEnd j false =
    (s.setSector (32 + j.sector) (s.sector (512 + j.sector)), .go { j with step := 2, tries := j.tries + 1 }) := by
  simp only [pulseEnd, hkind, hstep, Bool.false_eq_true, if_false, if_neg (Nat.not_le.2 htries)]

theorem pulseEnd_commit_bad (hstep : j.step = 3) (htries : 2 ≤ j.tries) :
    s.pulseEnd j false = (s.setSector (32 + j.sector) (s.sector (512 + j.sector)), .bad j.sector) := by
  simp only [pulseEnd, hkind, hstep, Bool.false_eq_true, if_false, if_pos htries]

end

theorem pulseEnd_config_erase (hkind : j.kind = 2) (hstep : j.step = 0) :
    s.pulseEnd j good = (s.setSector j.index [], .go { j with step := 1 }) := by
  simp only [pulseEnd, hkind, hstep]

theorem pulseEnd_config_write (hkind : j.kind = 2) (hstep : j.step ≠ 0) : s.pulseEnd j good = (s.setSector j.index j.data, .done 0) := by
  obtain ⟨n, hn⟩ := Nat.exists_eq_succ_of_ne_zero hstep
  simp only [pulseEnd, hkind, hn]

theorem pulseEnd_abandon (hkind : j.kind = 3) : s.pulseEnd j good = (s.setSector 4 [], .done 0) := by
  simp only [pulseEnd, hkind]

/-- Every pulse writes one sector. -/
theorem flashOnly_pulseEnd (s : State) (j : FlashJob) (good : Bool) : FlashOnly s (s.pulseEnd j good).1 := by
  unfold pulseEnd
  split
  case h_8 =>
    dsimp only
    split
    · exact flashOnly_setSector s _ _
    · split <;> exact flashOnly_setSector s _ _
  all_goals exact flashOnly_setSector s _ _

/-! ## What follows a pulse -/

/-- The next pulse begins, unless a power-fail warning is in force. -/
def nextPulse (s : State) (k : FlashJob) : State := (s.updRst (fun x => { x with job := some { k with pulse := !s.pfw } })).updShow

/-- The loader has ended. -/
def loaderEnded (s : State) : State := (s.updRst (fun x => { x with job := none })).updShow

/-- What the loader does next, with no reset held. -/
def goesTo (s : State) (j : FlashJob) : Next → State
  | .go k => s.nextPulse k
  | .done k => s.flashDone j k
  | .bad i => s.flashBad j i

theorem nextPulse_shows (h : FlashOnly s t) (k : FlashJob) : Keeps [.regs, .rst] s (t.nextPulse k) ∧
    (t.nextPulse k).rst.job = some { k with pulse := !s.pfw } ∧ (t.nextPulse k).rst.flash = t.rst.flash := by
  have hjob := keeps_updRst t (fun x => { x with job := some { k with pulse := !t.pfw } })
  have hshow := (updShow_frame (t.updRst (fun x => { x with job := some { k with pulse := !t.pfw } }))).keeps
  have hpfw : t.pfw = s.pfw := h.keeps.fb (by decide) _
  rw [hpfw] at hjob hshow
  rw [nextPulse, hpfw]
  refine ⟨((h.keeps.mono (by simp)).trans (hjob.mono (by simp))).trans (hshow.mono (by simp)), ?_, ?_⟩
  · exact congrArg Rst.job (hshow .rst (by decide))
  · exact (congrArg Rst.flash (hshow .rst (by decide)) :)

theorem loaderEnded_shows (h : FlashOnly s t) : Keeps [.regs, .rst] s t.loaderEnded ∧ t.loaderEnded.rst.job = none ∧
    t.loaderEnded.rst.flash = t.rst.flash := by
  have hjob := keeps_updRst t (fun x => { x with job := none })
  have hshow := (updShow_frame (t.updRst (fun x => { x with job := none }))).keeps
  refine ⟨((h.keeps.mono (by simp)).trans (hjob.mono (by simp))).trans (hshow.mono (by simp)), ?_, ?_⟩
  · exact congrArg Rst.job (hshow .rst (by decide))
  · exact (congrArg Rst.flash (hshow .rst (by decide)) :)

/-- No pulse in progress: nothing ends. -/
theorem flashPulseEnd_idle (h : ∀ j, s.rst.job = some j → j.pulse = false) : exec (.flashPulseEnd good) s = .next s := by
  refine congrArg Host.Outcome.next ?_
  split
  next j hj => exact if_neg (by simp [h j hj])
  next => rfl

theorem exec_flashPulseEnd (hjob : s.rst.job = some j) (hpulse : j.pulse = true) :
    exec (.flashPulseEnd good) s = .next (s.flashStep j good) := by
  refine congrArg Host.Outcome.next ?_
  rw [hjob]
  exact if_pos hpulse

section
variable (hjob : s.rst.job = some j) (hpulse : j.pulse = true)
include hjob hpulse

/-- A held system reset is entered at the end of the pulse. -/
theorem flashStep_held (hhold : s.rst.hold = some 2) (hlevel : s.rst.level ≤ 1) :
    Goes (exec (.flashPulseEnd good) s) (fun u => u.rst.level = 2 ∧ u.rst.hold = none ∧ u.rst.job = none ∧ u.mem = []) := by
  obtain ⟨t, n, hend⟩ : ∃ t n, s.pulseEnd { j with pulse := false } good = (t, n) := ⟨_, _, rfl⟩
  have honly := flashOnly_pulseEnd s { j with pulse := false } good
  rw [hend] at honly
  have hheld : t.rst.hold = some 2 := by rw [honly.rst]; exact hhold
  have hless : (t.updRst (fun x => { x with job := none, hold := none })).rst.level ≤ 1 := by
    rw [rst_updRst, honly.rst]
    exact hlevel
  have hleft := systemLeft_go (Keeps.refl [] (t.updRst (fun x => { x with job := none, hold := none }))) (by decide) (by decide) (by decide)
    (by decide) (by decide) (by decide) (by decide) (mayHold := true) hless fun _ => rfl
  refine ⟨_, exec_flashPulseEnd hjob hpulse, ?_⟩
  rw [flashStep, hend]
  simp only [hheld]
  exact ⟨by rw [hleft.rst]; rfl, by rw [hleft.rst]; rfl, by rw [hleft.rst]; rfl, hleft.mem⟩

variable (hhold : s.rst.hold = none) (hstop : j.stop = false)
include hhold hstop

theorem flashStep_unheld {n : Next} (hend : s.pulseEnd { j with pulse := false } good = (t, n)) :
    exec (.flashPulseEnd good) s = .next (t.goesTo j n) := by
  have honly := flashOnly_pulseEnd s { j with pulse := false } good
  rw [hend] at honly
  have hheld : t.rst.hold = none := by rw [honly.rst]; exact hhold
  rw [exec_flashPulseEnd hjob hpulse, flashStep, hend]
  simp only [hheld, hstop, Bool.false_eq_true, if_false]
  cases n <;> rfl

/-- A pulse that is followed by another. -/
theorem flashStep_goes (hend : s.pulseEnd { j with pulse := false } good = (t, .go k)) :
    Goes (exec (.flashPulseEnd good) s) (fun u => (u.rst.job = some { k with pulse := !s.pfw } ∧ Keeps [.regs, .rst] s u) ∧
      u.rst.flash = t.rst.flash) := by
  have honly := flashOnly_pulseEnd s { j with pulse := false } good
  rw [hend] at honly
  obtain ⟨hk, hnext, hflash⟩ := nextPulse_shows honly k
  exact ⟨_, flashStep_unheld hjob hpulse hhold hstop hend, ⟨hnext, hk⟩, hflash⟩

/-- A pulse that is followed by another, after it has written a sector. -/
theorem flashStep_writes {n : Nat} {l : List Byte} (hend : s.pulseEnd { j with pulse := false } good = (s.setSector n l, .go k)) :
    Goes (exec (.flashPulseEnd good) s) (fun u => (u.rst.job = some { k with pulse := !s.pfw } ∧ Keeps [.regs, .rst] s u) ∧
      u.sector n = l) := by
  obtain ⟨u, hrun, hgo, hflash⟩ := flashStep_goes hjob hpulse hhold hstop hend
  exact ⟨u, hrun, hgo, (sector_congr hflash n).trans (sector_setSector s n l)⟩

/-- The last pulse of a piece or of a slot: the command is answered. -/
theorem flashStep_done {d : Nat} (hend : s.pulseEnd { j with pulse := false } good = (t, .done d)) :
    exec (.flashPulseEnd good) s = .next (t.flashDone j d) ∧ Keeps [.regs, .rst] s t.loaderEnded ∧ t.loaderEnded.rst.job = none ∧
      t.loaderEnded.rst.flash = t.rst.flash := by
  have honly := flashOnly_pulseEnd s { j with pulse := false } good
  rw [hend] at honly
  exact ⟨flashStep_unheld hjob hpulse hhold hstop hend, loaderEnded_shows honly⟩

theorem flashStep_bad {i : Nat} (hend : s.pulseEnd { j with pulse := false } good = (t, .bad i)) :
    exec (.flashPulseEnd good) s = .next (t.flashBad j i) ∧ FlashOnly s t := by
  have honly := flashOnly_pulseEnd s { j with pulse := false } good
  rw [hend] at honly
  exact ⟨flashStep_unheld hjob hpulse hhold hstop hend, honly⟩

end

/-! ## The end of the loader's work -/

theorem stagedPieces_congr (h : t.rst.flash = s.rst.flash) : t.stagedPieces = s.stagedPieces := by
  simp only [stagedPieces, stageRecords, sector_congr h]

theorem flashDone_stage (h : j.kind = 0) (d : Nat) : s.flashDone j d = s.loaderEnded.mccReply (.ok s.loaderEnded.stagedPieces.length 0) := by
  have hflash : s.loaderEnded.rst.flash = s.rst.flash := (loaderEnded_shows ⟨Keeps.refl _ s, rfl⟩).2.2
  rw [stagedPieces_congr hflash]
  simp only [flashDone, h]
  rfl

theorem flashDone_other (h : 2 ≤ j.kind) (d : Nat) : s.flashDone j d = s.loaderEnded.mccReply .done := by
  obtain ⟨n, hn⟩ := Nat.exists_eq_add_of_le' h
  simp only [flashDone, hn]
  rfl

theorem flashBad_stage (h : j.kind = 0) (i : Nat) : s.flashBad j i = s.loaderEnded.mccReply (.errD stsUpdFlash i) := by
  simp only [flashBad, h]
  rfl

/-- The loader's work gone, its token not yet released. -/
def loaderStopped (s : State) : State := s.updRst (fun x => { x with job := none })

theorem flashBad_commit (h : j.kind = 1) (hresume : j.resume = false) (i : Nat) :
    s.flashBad j i = ((s.loaderStopped.maintRelease ⟨actCommit, 0, 0⟩).updShow).mccReply (.errD stsUpdFlash i) := by
  simp only [flashBad, h, commitAct, hresume, if_true, Bool.false_eq_true, if_false]
  rfl

theorem released_shows (hq : s.ras.queue = []) (h : FlashOnly s t) :
    ((t.loaderStopped.maintRelease ⟨actCommit, 0, 0⟩).updShow).rst.job = none ∧
      ((t.loaderStopped.maintRelease ⟨actCommit, 0, 0⟩).updShow).ras.holders = s.ras.holders.erase ⟨actCommit, 0, 0⟩ := by
  have hras : t.loaderStopped.ras = s.ras := (keeps_updRst t _ .ras (by decide)).trans (h.keeps .ras (by decide))
  have hshow := (updShow_frame (t.loaderStopped.maintRelease ⟨actCommit, 0, 0⟩)).keeps
  have hrel := maintRelease_alone (s := t.loaderStopped) (by rw [hras]; exact hq) ⟨actCommit, 0, 0⟩
  refine ⟨(congrArg Rst.job (hshow .rst (by decide))).trans ?_, (congrArg Ras.holders (hshow .ras (by decide))).trans ?_⟩
  · rw [hrel]
    rfl
  · rw [hrel, ← hras]

end Sys2Proof.Machine.State

namespace Sys2Proof

open Sys2Proof.Machine Sys2Proof.Machine.State Sys2Proof.Safety

/-- Settles O56, from what each pulse writes and what the loader does after it. -/
theorem flashPulsesProgram : Obligations.FlashPulsesProgram := by
  unfold Obligations.FlashPulsesProgram
  refine ⟨fun s good h => flashPulseEnd_idle h, ?_, ?_, ?_, fun s good j hjob hpulse hhold hlevel => flashStep_held hjob hpulse hhold hlevel⟩
  · intro s good j hjob hpulse hhold hstop hkind go
    refine ⟨fun hstep => flashStep_writes hjob hpulse hhold hstop (pulseEnd_stage_records hkind hstep),
      fun hstep => flashStep_writes hjob hpulse hhold hstop (pulseEnd_stage_erase hkind hstep), fun hstep hgood => ?_,
      fun hstep hgood => ?_, fun hstep => ?_⟩
    · subst hgood
      exact flashStep_writes hjob hpulse hhold hstop (pulseEnd_stage_written hkind hstep)
    · subst hgood
      obtain ⟨hrun, honly⟩ := flashStep_bad hjob hpulse hhold hstop (pulseEnd_stage_bad hkind hstep)
      obtain ⟨hk, hnone, _⟩ := loaderEnded_shows honly
      exact ⟨_, hrun.trans (congrArg _ (flashBad_stage hkind _)), hnone, hk⟩
    · obtain ⟨hrun, hk, hnone, hflash⟩ := flashStep_done hjob hpulse hhold hstop (pulseEnd_stage_record hkind hstep)
      exact ⟨_, hrun.trans (congrArg _ (flashDone_stage hkind 0)), hnone, hflash, hk⟩
  · intro s good j hjob hpulse hhold hstop hkind go
    refine ⟨fun hstep => flashStep_goes hjob hpulse hhold hstop (pulseEnd_commit_mark hkind hstep),
      fun hstep => flashStep_writes hjob hpulse hhold hstop (pulseEnd_commit_erase hkind hstep), fun hstep hgood => ?_,
      fun hstep hgood htries => ?_, fun hstep hgood htries hresume hq => ?_⟩
    · subst hgood
      exact flashStep_writes hjob hpulse hhold hstop (pulseEnd_commit_copied hkind hstep)
    · subst hgood
      obtain ⟨u, hrun, hgo, _⟩ := flashStep_goes hjob hpulse hhold hstop (pulseEnd_commit_again hkind hstep htries)
      exact ⟨u, hrun, hgo⟩
    · subst hgood
      obtain ⟨hrun, honly⟩ := flashStep_bad hjob hpulse hhold hstop (pulseEnd_commit_bad hkind hstep htries)
      exact ⟨_, hrun.trans (congrArg _ (flashBad_commit hkind hresume _)), released_shows hq honly⟩
  · intro s good j hjob hpulse hhold hstop htwo
    refine ⟨fun hkind hstep => ?_, fun hkind hstep => ?_, fun hkind => ?_⟩
    · obtain ⟨u, hrun, ⟨hnext, hk⟩, hsector⟩ := flashStep_writes hjob hpulse hhold hstop (pulseEnd_config_erase hkind hstep)
      exact ⟨u, hrun, hsector, hk, hnext⟩
    · obtain ⟨hrun, hk, hnone, hflash⟩ := flashStep_done hjob hpulse hhold hstop (pulseEnd_config_write hkind hstep)
      exact ⟨_, hrun.trans (congrArg _ (flashDone_other htwo 0)), (sector_congr hflash _).trans (sector_setSector s _ _), hnone, hk⟩
    · obtain ⟨hrun, hk, hnone, hflash⟩ := flashStep_done hjob hpulse hhold hstop (pulseEnd_abandon hkind)
      exact ⟨_, hrun.trans (congrArg _ (flashDone_other htwo 0)), (sector_congr hflash _).trans (sector_setSector s _ _), hnone, hk⟩

end Sys2Proof
end

section
/-! Retired units (O57, O58): memory, the map of management cores, and the marks of tile sites. -/

namespace Sys2Proof.Safety

open Sys2Proof.Machine Sys2Proof.Machine.State

/-- Memory stays. -/
structure MemKept (s t : State) : Prop where
  mem : t.mem = s.mem

namespace MemKept

variable {s t u : State}

theorem refl (s : State) : MemKept s s := ⟨rfl⟩

theorem trans (h : MemKept s t) (h' : MemKept t u) : MemKept s u := ⟨h'.mem.trans h.mem⟩

theorem of_keeps {ps : List Part} (h : Keeps ps s t) (hp : Part.mem ∉ ps) : MemKept s t := ⟨h .mem hp⟩

theorem foldl {α : Type} {f : State → α → State} {l : List α} (s : State) (h : ∀ u a, MemKept u (f u a)) : MemKept s (l.foldl f s) :=
  List.foldlRecOn l f (refl s) fun u hu a _ => hu.trans (h u a)

theorem wr (s : State) (r : Reg) (v : Nat) : MemKept s (s.wr r v) := of_keeps (keeps_wr s r v) (by decide)

theorem fw (s : State) (f : Fld) (v : Nat) : MemKept s (s.fw f v) := wr s _ _

theorem fbw (s : State) (f : Fld) (b : Bool) : MemKept s (s.fbw f b) := wr s _ _

theorem setClk (s : State) (i : Nat) (b : Bool) : MemKept s (s.setClk i b) := of_keeps (keeps_setClk s i b) (by decide)

theorem updLink (s : State) (l : Nat) (f : Link → Link) : MemKept s (s.updLink l f) := of_keeps (keeps_updLink s l f) (by decide)

theorem setPort (s : State) (p st : Nat) : MemKept s (s.setPort p st) := of_keeps (keeps_setPort s p st) (by decide)

theorem trouble (s : State) (code sev island addr data : Nat) : MemKept s (s.trouble code sev island addr data) :=
  of_keeps (keeps_trouble s code sev island addr data) (by decide)

theorem healthCheck (s : State) : MemKept s s.healthCheck := of_keeps (keeps_healthCheck s) (by decide)

theorem logRetired (s : State) (kind unit island : Nat) : MemKept s (s.logRetired kind unit island) :=
  of_keeps (logRetired_frame s kind unit island).1 (by decide)

theorem logSpare (s : State) (kind unit island : Nat) : MemKept s (s.logSpare kind unit island) := (trouble s _ _ _ _ _).trans (healthCheck _)

theorem logNoSpare (s : State) (kind : Nat) : MemKept s (s.logNoSpare kind) := (trouble s _ _ _ _ _).trans (healthCheck _)

/-! ## Ports (09 R330) -/

theorem portLost (s : State) (p : Nat) : MemKept s (s.portLost p) := by
  unfold State.portLost
  split
  · exact of_keeps (handsOver_linkHandover s).parts (by decide)
  · exact refl s

theorem rerouteVc2 (s : State) (l : Nat) : MemKept s (s.rerouteVc2 l) := by
  have hmove : ∀ (ms : List LinkMsg) (x : State × List LinkMsg), MemKept x.1 (ms.foldl (fun (s, keep) m =>
      if (s.routeLinks m.dest).isEmpty then (s, keep ++ [m]) else (s.route m, keep)) x).1 := by
    intro ms
    induction ms with
    | nil => exact fun x => refl x.1
    | cons m ms ih =>
      rintro ⟨u, keep⟩
      rw [List.foldl_cons]
      refine trans ?_ (ih _)
      dsimp only
      split
      · exact refl u
      · exact ⟨(sameMemory_route u m).mem⟩
  unfold State.rerouteVc2
  extract_lets q vc2 w
  have hw := hmove vc2 (w, [])
  split
  next v keep heq =>
    rw [heq] at hw
    have hv : MemKept w v := hw
    exact ((updLink s l _).trans hv).trans (updLink v l _)

theorem portFail (s : State) (p : Nat) : MemKept s (s.portFail p) := by
  unfold State.portFail
  extract_lets w v
  have hlost : MemKept s w := (setPort s p pFailed).trans (portLost _ p)
  have hdropped : MemKept w v := (updLink w _ _).trans (rerouteVc2 _ _)
  exact (hlost.trans hdropped).trans (trouble v _ _ _ _ _)

theorem portTrain (s : State) (p : Nat) (full : Bool) : MemKept s (s.portTrain p full) := (setPort s p pTrain).trans (updLink _ _ _)

theorem portRetireNow (s : State) (p : Nat) : MemKept s (s.portRetireNow p) := by
  unfold State.portRetireNow
  extract_lets l far w0 w1 vc2gone w2 w3 map
  have hout : MemKept s w1 := ((wr s _ _).trans (logRetired _ 2 p _)).trans (setClk _ _ _)
  split
  · exact ((hout.trans (updLink w1 l _)).trans (portFail _ p)).trans (logNoSpare _ 2)
  next q _ =>
    extract_lets w4 w5 w6 w7 w8
    have h2 : MemKept w1 w2 := ((setPort w1 p pRetired).trans (portLost _ p)).trans (rerouteVc2 _ l)
    have h3 : MemKept w2 w3 := fw w2 _ _
    have h4 : MemKept w3 w4 := (setPort w3 q pDown).trans (fw _ _ l)
    have h5 : MemKept w4 w5 := wr w4 _ _
    have h6 : MemKept w5 w6 := (wr w5 _ _).trans (logSpare _ 2 q _)
    have h7 : MemKept w6 w7 := fbw w6 _ _
    have h8 : MemKept w7 w8 := updLink w7 l _
    exact (((hout.trans h2).trans (h3.trans h4)).trans (h5.trans h6)).trans ((h7.trans h8).trans (portTrain w8 q true))

/-! ## Cores -/

theorem mgmtRetireNow (s : State) (c : Nat) : MemKept s (s.mgmtRetireNow c) := by
  unfold State.mgmtRetireNow
  extract_lets v0 v w
  have hout : MemKept s w := (wr s _ _).trans (logRetired _ 3 c _)
  split
  · exact hout.trans ((wr w _ _).trans (logSpare _ _ _ _))
  · exact hout.trans (logNoSpare w 3)

theorem vidSync (s : State) : MemKept s s.vidSync := by
  unfold State.vidSync
  extract_lets busy w v u
  exact ((((fw s _ _).trans (fw _ _ _)).trans (wr w _ _)).trans (wr v _ _)).trans (foldl u fun x e => wr x _ _)

theorem vidDemoteAux (k : Nat) (s : State) : MemKept s (vidDemoteAux k s) := by
  induction k generalizing s with
  | zero => exact refl s
  | succ k ih =>
    unfold State.vidDemoteAux
    split
    · exact refl s
    · split
      · exact refl s
      next n x _ =>
        extract_lets w
        have hw : MemKept s w := by
          refine trans ?_ (fbw (s.setVidSess n { x with live := false }) _ _)
          exact ⟨rfl⟩
        exact (hw.trans ((wr w _ _).trans (trouble _ _ _ _ _ _))).trans (ih _)

theorem vidRetireNow (s : State) (c : Nat) : MemKept s (s.vidRetireNow c) := by
  unfold State.vidRetireNow
  extract_lets v0 active v w0 w
  have hout : MemKept s w := ((wr s _ _).trans (logRetired _ 4 c _)).trans (setClk _ _ _)
  split
  · exact hout.trans (((wr w _ _).trans (logSpare _ _ _ _)).trans (setClk _ _ _))
  · split
    · exact hout.trans (((logNoSpare w 4).trans (fw _ _ _)).trans ((vidDemoteAux _ _).trans (vidSync _)))
    · exact hout

/-! ## The token's queue (19 R618) -/

theorem withRas (s : State) (x : Ras) : MemKept s ({ s with ras := x } : State) := ⟨rfl⟩

theorem actEffect (s : State) (a : Activity) : MemKept s (s.actEffect a) := by
  unfold State.actEffect
  split
  · split
    · exact of_keeps (keeps_moveStart s _) (by decide)
    · exact portRetireNow s _
    · exact mgmtRetireNow s _
    · exact vidRetireNow s _
    · exact refl s
  · split
    · exact (fbw s _ _).trans (fbw _ _ _)
    · exact refl s

theorem maintPumpAux (k : Nat) (s : State) : MemKept s (maintPumpAux k s) := by
  induction k generalizing s with
  | zero => exact refl s
  | succ k ih =>
    unfold State.maintPumpAux
    split
    · exact refl s
    next a q _ =>
      split
      · extract_lets _ w _ v
        have hw : MemKept s w := by
          refine trans ?_ (actEffect _ a)
          exact ⟨rfl⟩
        have hv : MemKept w v := by
          simp only [v]
          split
          · exact withRas w _
          · exact refl w
        exact (hw.trans hv).trans (ih v)
      · exact refl s

theorem maintStart (s : State) (a : Activity) : MemKept s (s.maintStart a) := trans (withRas s _) (maintPumpAux _ _)

theorem retire (s : State) (kind unit : Nat) : MemKept s (s.retire kind unit) := by
  unfold State.retire
  split
  · exact ⟨(sameMemory_markSite s unit).mem⟩
  · extract_lets a
    split
    · exact refl s
    · exact maintStart s a

theorem spareRetire (s : State) (kind unit : Nat) : MemKept s (s.spareRetire kind unit) := by
  unfold State.spareRetire
  split
  · exact ((wr s _ _).trans (logRetired _ 1 _ _)).trans (healthCheck _)
  · extract_lets w
    have hw : MemKept s w := (wr s _ _).trans (setPort _ _ _)
    exact ((hw.trans (setClk w _ _)).trans (logRetired _ 2 _ _)).trans (healthCheck _)
  · exact mgmtRetireNow s unit
  · exact (vidRetireNow s unit).trans (healthCheck _)

theorem testRetire (s : State) (kind unit : Nat) : MemKept s (s.testRetire kind unit) := by
  unfold State.testRetire
  split
  · exact refl s
  · split
    · exact spareRetire s kind unit
    · exact retire s kind unit

end MemKept
end Sys2Proof.Safety
end

section
/-! Units marked and retired (O57, O58). -/

namespace Sys2Proof.Machine

/-! ## Masks -/

theorem bit_setBit_self (x i : Nat) : bit (setBit x i) i = true := by
  rw [bit_eq_bits, setBit, bits_setBits_self]
  rfl

theorem bit_clrBit_self (x i : Nat) : bit (clrBit x i) i = false := by
  rw [bit_eq_bits, clrBit, bits_setBits_self]
  rfl

theorem bit_setBits_ne (x v : Nat) {i k : Nat} (h : k ≠ i) : bit (setBits x i 1 v) k = bit x k := by
  rw [bit_eq_bits, bit_eq_bits]
  rcases Nat.lt_or_gt_of_ne h with hlow | hhigh
  · rw [bits_setBits_below _ _ _ _ _ _ (by omega)]
  · rw [bits_setBits_above _ _ _ _ _ _ (by omega)]

theorem bit_setBit_ne (x : Nat) {i k : Nat} (h : k ≠ i) : bit (setBit x i) k = bit x k := bit_setBits_ne x 1 h

theorem bit_clrBit_ne (x : Nat) {i k : Nat} (h : k ≠ i) : bit (clrBit x i) k = bit x k := bit_setBits_ne x 0 h

namespace State

open Sys2Proof.Safety

theorem bit_wr (s : State) (r : Reg) (v : Nat) {i : Nat} (hi : i < r.width) (hw : r.width ≤ 64) : bit ((s.wr r v).rd r) i = bit v i := by
  rw [rd_wr_self _ _ _ hw, bit_eq_testBit, Nat.testBit_mod_two_pow, decide_eq_true hi, Bool.true_and, ← bit_eq_testBit]

/-! ## Retirements recorded -/

/-- A record of the RAS store with its CRC. -/
def storeRecord (body : Nat) : Nat := body * 256 + crc8 ((leBytes 7 body).reverse)

theorem ras_persist (s : State) (body : Nat) : (s.persist body).ras = { s.ras with unsaved := s.ras.unsaved ++ [storeRecord body] } := by
  simp only [persist, storeRecord]

theorem ras_logRetired (s : State) (kind unit island : Nat) :
    ∃ r, (s.logRetired kind unit island).ras = { s.ras with unsaved := s.ras.unsaved ++ [r] } := by
  have htrouble : (s.trouble 0x0C80 0 island 0 (kind * 2 ^ 60 + unit)).ras = s.ras := keeps_trouble s _ _ _ _ _ .ras (by decide)
  exact ⟨storeRecord (kind * 2 ^ 52 + unit), by rw [logRetired, ras_persist, htrouble]⟩

theorem logSpare_frame (s : State) (kind unit island : Nat) : Keeps [.regs, .log, .out, .hif] s (s.logSpare kind unit island) ∧
    RegsKeep [Reg.RAS_HEALTH.addr, Reg.RAS_LOG_SEQ.addr] s (s.logSpare kind unit island) ∧ s.log ⊆ (s.logSpare kind unit island).log :=
  troubleHealth_frame s _ _ _ _ _

theorem logNoSpare_frame (s : State) (kind : Nat) : Keeps [.regs, .log, .out, .hif] s (s.logNoSpare kind) ∧
    RegsKeep [Reg.RAS_HEALTH.addr, Reg.RAS_LOG_SEQ.addr] s (s.logNoSpare kind) ∧ s.log ⊆ (s.logNoSpare kind).log :=
  troubleHealth_frame s _ _ _ _ _

/-! ## Management cores (19 R625) -/

/-- RAS_CORE_STATE with a core out of service. -/
def coreOut (s : State) (c : Nat) : Nat := setBit (clrBit (s.rd Reg.RAS_CORE_STATE) c) (4 + c)

/-- A management core out of service, in the log and for the RAS store. -/
def coreMarked (s : State) (c : Nat) : State := (s.wr Reg.RAS_CORE_STATE (s.coreOut c)).logRetired 3 c mgmtIsland

theorem mgmtRetireNow_eq (s : State) (c : Nat) : s.mgmtRetireNow c =
    match (List.range 4).find? (fun k => !bit (s.coreOut c) k && !bit (s.coreOut c) (4 + k)) with
    | some k => ((s.coreMarked c).wr Reg.RAS_CORE_STATE (setBit (s.coreOut c) k)).logSpare 3 k mgmtIsland
    | none => (s.coreMarked c).logNoSpare 3 := rfl

/-- What a management core's retirement shows. -/
structure CoreRetired (s u : State) (c : Nat) : Prop where
  retired : bit (u.rd Reg.RAS_CORE_STATE) (4 + c) = true
  idle : bit (u.rd Reg.RAS_CORE_STATE) c = false
  ras : ∃ r, u.ras = { s.ras with unsaved := s.ras.unsaved ++ [r] }
  logged : ∃ r ∈ u.log, r.code = 0x0C80
  mem : u.mem = s.mem

theorem coreMarked_shows (s : State) {c : Nat} (hc : c < 4) : CoreRetired s (s.coreMarked c) c := by
  obtain ⟨hk, hregs, _, hlog⟩ := logRetired_frame (s.wr Reg.RAS_CORE_STATE (s.coreOut c)) 3 c mgmtIsland
  have hstate : (s.coreMarked c).rd Reg.RAS_CORE_STATE = (s.wr Reg.RAS_CORE_STATE (s.coreOut c)).rd Reg.RAS_CORE_STATE := hregs.rd (by decide)
  obtain ⟨r, hr⟩ := ras_logRetired (s.wr Reg.RAS_CORE_STATE (s.coreOut c)) 3 c mgmtIsland
  refine ⟨?_, ?_, ⟨r, hr⟩, hlog, hk .mem (by decide)⟩
  · rw [hstate, bit_wr _ _ _ (show 4 + c < 32 by omega) (by decide), coreOut, bit_setBit_self]
  · rw [hstate, bit_wr _ _ _ (show c < 32 by omega) (by decide), coreOut, bit_setBit_ne _ (by omega), bit_clrBit_self]

/-- Later steps that keep RAS_CORE_STATE's bits of the core and add to the log. -/
theorem CoreRetired.on {s t u : State} {c : Nat} (h : CoreRetired s t c)
    (hstate : ∀ i, i = c ∨ i = 4 + c → bit (u.rd Reg.RAS_CORE_STATE) i = bit (t.rd Reg.RAS_CORE_STATE) i)
    (hras : u.ras = t.ras) (hlog : t.log ⊆ u.log) (hmem : u.mem = t.mem) : CoreRetired s u c := by
  obtain ⟨r, hr, hcode⟩ := h.logged
  exact ⟨(hstate _ (.inr rfl)).trans h.retired, (hstate _ (.inl rfl)).trans h.idle, hras ▸ h.ras, ⟨r, hlog hr, hcode⟩, hmem.trans h.mem⟩

theorem mgmtRetireNow_shows (s : State) {c : Nat} (hc : c < 4) : CoreRetired s (s.mgmtRetireNow c) c := by
  have hmarked := coreMarked_shows s hc
  rw [mgmtRetireNow_eq]
  split
  next k hk =>
    have hfree := List.find?_some hk
    have hsmall : k < 4 := List.mem_range.1 (List.mem_of_find?_eq_some hk)
    have hother : k ≠ c := by
      rintro rfl
      rw [coreOut, bit_setBit_self] at hfree
      simp at hfree
    have hkw := keeps_wr (s.coreMarked c) Reg.RAS_CORE_STATE (setBit (s.coreOut c) k)
    obtain ⟨hks, hregs, hlog⟩ := logSpare_frame ((s.coreMarked c).wr Reg.RAS_CORE_STATE (setBit (s.coreOut c) k)) 3 k mgmtIsland
    have hsame : (s.coreMarked c).rd Reg.RAS_CORE_STATE = (s.wr Reg.RAS_CORE_STATE (s.coreOut c)).rd Reg.RAS_CORE_STATE :=
      (logRetired_frame (s.wr Reg.RAS_CORE_STATE (s.coreOut c)) 3 c mgmtIsland).2.1.rd (by decide)
    refine hmarked.on (fun i hi => ?_) ((hks .ras (by decide)).trans (hkw .ras (by decide)))
      (fun _ hr => hlog (by rw [hkw .log (by decide)]; exact hr)) ((hks .mem (by decide)).trans (hkw .mem (by decide)))
    have hwide : i < Reg.RAS_CORE_STATE.width := show i < 32 by omega
    rw [hregs.rd (by decide), bit_wr _ _ _ hwide (by decide), hsame, bit_wr _ _ _ hwide (by decide), bit_setBit_ne _ (by omega)]
  next =>
    obtain ⟨hks, hregs, hlog⟩ := logNoSpare_frame (s.coreMarked c) 3
    exact hmarked.on (fun i _ => by rw [hregs.rd (by decide)]) (hks .ras (by decide)) hlog (hks .mem (by decide))

/-- The retirement of a management core. -/
def coreRetirement (c : Nat) : Activity := ⟨actRetire, 3, c⟩

/-- The token drawn by an activity taken off the queue. -/
def tokenDrawn (s : State) (a : Activity) : State := { s with ras := { s.ras with queue := [], holders := s.ras.holders ++ [a] } }

/-- An activity's token given back. -/
def tokenGiven (s : State) (a : Activity) : State := { s with ras := { s.ras with holders := s.ras.holders.erase a } }

theorem maintFits_congr {s t : State} (h : t.ras.holders = s.ras.holders) (a : Activity) : t.maintFits a = s.maintFits a := by
  rw [maintFits, maintFits, h]

/-- An activity that holds the token started; one that is over gives it back. -/
def startedAs (s : State) (a : Activity) : State := if (s.actEffect a).actOver a then (s.actEffect a).tokenGiven a else s.actEffect a

/-- The queue's only activity starts where it fits. -/
theorem maintPump_one {s : State} {a : Activity} (hq : s.ras.queue = [a]) (hfits : s.maintFits a = true) :
    s.maintPump = (s.tokenDrawn a).startedAs a := by
  rw [maintPump, hq]
  simp only [List.length_singleton, maintPumpAux, hq, hfits, if_true]
  rfl

theorem actEffect_core (s : State) (c : Nat) : s.actEffect (coreRetirement c) = s.mgmtRetireNow c := rfl

theorem actOver_core (s : State) (c : Nat) : s.actOver (coreRetirement c) = true := rfl

theorem startedAs_core (s : State) (c : Nat) : s.startedAs (coreRetirement c) = (s.mgmtRetireNow c).tokenGiven (coreRetirement c) := by
  rw [startedAs, actOver_core, if_pos rfl, actEffect_core]

theorem tokenDrawn_maintQueue (s : State) (a : Activity) : (s.maintQueue a).tokenDrawn a = s.tokenDrawn a := rfl

theorem retire_starts {s : State} {kind n : Nat} (hkind : kind ≠ 1) (hq : s.ras.queue = []) (hholds : s.maintHolds ⟨actRetire, kind, n⟩ = false) :
    s.retire kind n = s.maintStart ⟨actRetire, kind, n⟩ := by
  unfold retire
  extract_lets a
  rw [if_neg hkind, if_neg]
  rw [show s.maintHolds a = false from hholds, hq]
  simp

/-- A management core that nothing hinders is retired at once. -/
theorem retire_core_eq {s : State} {c : Nat} (hq : s.ras.queue = []) (hfits : s.maintFits (coreRetirement c) = true)
    (hholds : s.maintHolds (coreRetirement c) = false) :
    s.retire 3 c = ((s.tokenDrawn (coreRetirement c)).mgmtRetireNow c).tokenGiven (coreRetirement c) := by
  have hqueue : (s.maintQueue (coreRetirement c)).ras.queue = [coreRetirement c] := congrArg (· ++ [coreRetirement c]) hq
  have hfits' : (s.maintQueue (coreRetirement c)).maintFits (coreRetirement c) = true := (maintFits_congr rfl _).trans hfits
  exact (retire_starts (by decide) hq hholds).trans ((maintPump_one hqueue hfits').trans
    ((congrArg (startedAs · _) (tokenDrawn_maintQueue s _)).trans (startedAs_core _ c)))

theorem retire_core {s : State} {c : Nat} (hc : c < 4) (hq : s.ras.queue = []) (hfits : s.maintFits (coreRetirement c) = true)
    (hholds : s.maintHolds (coreRetirement c) = false) :
    bit ((s.retire 3 c).rd Reg.RAS_CORE_STATE) (4 + c) = true ∧ bit ((s.retire 3 c).rd Reg.RAS_CORE_STATE) c = false ∧
      (s.retire 3 c).ras.holders = s.ras.holders ∧ (s.retire 3 c).ras.coreDown = s.ras.coreDown ∧
      (∃ r ∈ (s.retire 3 c).log, r.code = 0x0C80) ∧ (s.retire 3 c).mem = s.mem := by
  have hshown := mgmtRetireNow_shows (s.tokenDrawn (coreRetirement c)) hc
  obtain ⟨r, hr⟩ := hshown.ras
  rw [retire_core_eq hq hfits hholds]
  refine ⟨hshown.retired, hshown.idle, ?_, ?_, hshown.logged, hshown.mem⟩
  · have hnot : coreRetirement c ∉ s.ras.holders := by simpa [maintHolds] using hholds
    show ((s.tokenDrawn (coreRetirement c)).mgmtRetireNow c).ras.holders.erase _ = _
    rw [hr]
    exact (List.erase_append_right _ hnot).trans (by simp)
  · show ((s.tokenDrawn (coreRetirement c)).mgmtRetireNow c).ras.coreDown = _
    rw [hr]
    rfl

/-! ## Tile sites (19 R621, R623) -/

theorem holders_moveStart (s : State) (site : Nat) : (s.moveStart site).ras.holders = s.ras.holders := by
  unfold moveStart
  split <;> rfl

/-- The retirement of a site. -/
def siteRetirement (n : Nat) : Activity := ⟨actRetire, 1, n⟩

/-- The token drawn, or waited for, by a site's retirement. -/
def siteAsks (s : State) (n : Nat) : State :=
  if s.maintMustWait (siteRetirement n) then s.maintQueue (siteRetirement n) else (s.maintTake (siteRetirement n)).moveStart n

theorem siteAsks_shows (s : State) (n : Nat) : Keeps [.ras] s (s.siteAsks n) ∧
    (siteRetirement n ∈ (s.siteAsks n).ras.holders ∨ siteRetirement n ∈ (s.siteAsks n).ras.queue) := by
  unfold siteAsks
  split
  · exact ⟨keeps_withRas s _, .inr (List.mem_append_right _ (List.mem_singleton_self _))⟩
  · refine ⟨(keeps_withRas s _).trans (keeps_moveStart _ n), .inl ?_⟩
    rw [holders_moveStart]
    exact List.mem_append_right _ (List.mem_singleton_self _)

/-- A tile fenced, its fetched packets discarded. -/
def tileFenced (s : State) (t : Nat) : State := (s.setTile t { s.tile t with fenced := true }).setEng t { s.engOf t with fetched := [] }

/-- A site's mark. -/
def siteMarked (s : State) (n : Nat) : State := s.orReg Reg.RAS_SITE_RETIRED (2 ^ n)

theorem tileOf_congr {s u : State} (hactive : u.rd Reg.RAS_SITE_ACTIVE = s.rd Reg.RAS_SITE_ACTIVE) (hsite : ∀ t, t < 32 → u.siteOf t = s.siteOf t)
    (n : Nat) : u.tileOf n = s.tileOf n := by
  have hfind : (List.range 32).find? (fun t => u.siteOf t == n) = (List.range 32).find? (fun t => s.siteOf t == n) :=
    List.find?_congr fun t ht => by rw [hsite t (List.mem_range.1 ht)]
  rw [tileOf, tileOf, hactive, hfind]

theorem markSite_eq {s : State} {n t : Nat} (hin : bit (s.rd Reg.RAS_SITE_RETIRED) n = false) (ht : s.tileOf n = some t)
    (hrim : s.rimOwns t = false) : s.markSite n = ((s.siteMarked n).tileFenced t).siteAsks n := by
  have hregs : RegsKeep [Reg.RAS_SITE_RETIRED.addr] s (s.siteMarked n) := regsKeep_orReg s _ _
  have hsite : ∀ u, u < 32 → (s.siteMarked n).siteOf u = s.siteOf u := fun u hu =>
    siteOf_congr (hregs.rd (by simp only [Reg.RAS_TILE_MAP, Reg.RAS_SITE_RETIRED, List.mem_singleton]; omega))
  have ht' : (s.siteMarked n).tileOf n = some t := (tileOf_congr (hregs.rd (by decide)) hsite n).trans ht
  have hrim' : (s.siteMarked n).rimOwns t = false := (rimOwns_congr (hregs.rd (by decide)) (hregs.rd (by decide)) t).trans hrim
  have hlane : (s.siteMarked n).laneSite t = s.siteMarked n := if_neg (by rw [hrim']; decide)
  have hmarked : s.orReg Reg.RAS_SITE_RETIRED (2 ^ n) = s.siteMarked n := rfl
  simp only [markSite, hin, Bool.false_eq_true, if_false, hmarked, ht', hlane]
  rfl

/-- A site whose tile no lane owns, marked. -/
theorem markSite_shows {s : State} {n t : Nat} (hn : n < 64) (hin : bit (s.rd Reg.RAS_SITE_RETIRED) n = false) (ht : s.tileOf n = some t)
    (hrim : s.rimOwns t = false) : bit ((s.markSite n).rd Reg.RAS_SITE_RETIRED) n = true ∧ ((s.markSite n).tile t).fenced = true ∧
      ((s.markSite n).engOf t).fetched = [] ∧ (s.markSite n).mem = s.mem ∧
      (siteRetirement n ∈ (s.markSite n).ras.holders ∨ siteRetirement n ∈ (s.markSite n).ras.queue) := by
  obtain ⟨hkeeps, hasks⟩ := siteAsks_shows ((s.siteMarked n).tileFenced t) n
  have hkf : Keeps [.tiles, .eng] (s.siteMarked n) ((s.siteMarked n).tileFenced t) :=
    ((keeps_setTile (s.siteMarked n) t _).mono (by simp)).trans ((keeps_setEng _ t _).mono (by simp))
  rw [markSite_eq hin ht hrim]
  refine ⟨?_, ?_, ?_, ?_, hasks⟩
  · rw [hkeeps.rd (by decide), hkf.rd (by decide)]
    exact bit_orReg_self s Reg.RAS_SITE_RETIRED hn (by decide)
  · rw [tile, hkeeps .tiles (by decide)]
    exact congrArg Tile.fenced (tile_setTile_self (s.siteMarked n) t { (s.siteMarked n).tile t with fenced := true })
  · rw [engOf, hkeeps .eng (by decide)]
    exact congrArg Engine.fetched (engOf_setEng_self _ t { (s.siteMarked n).engOf t with fetched := [] })
  · exact (hkeeps .mem (by decide)).trans ((hkf .mem (by decide)).trans (keeps_orReg s _ _ .mem (by decide)))

/-- A spare site retired without entering service. -/
theorem spareRetire_site_shows (s : State) {n : Nat} (hn : n < 64) : bit ((s.spareRetire 1 n).rd Reg.RAS_SITE_RETIRED) n = true ∧
    (∃ r, (s.spareRetire 1 n).ras = { s.ras with unsaved := s.ras.unsaved ++ [r] }) ∧ (∃ r ∈ (s.spareRetire 1 n).log, r.code = 0x0C80) := by
  obtain ⟨_, hregs, _, r, hr, hcode⟩ := logRetired_frame (s.siteMarked n) 1 n (siteIsland n)
  obtain ⟨x, hx⟩ := ras_logRetired (s.siteMarked n) 1 n (siteIsland n)
  have hcheck := keeps_healthCheck ((s.siteMarked n).logRetired 1 n (siteIsland n))
  have hcheckRegs := regsKeep_healthCheck ((s.siteMarked n).logRetired 1 n (siteIsland n))
  refine ⟨?_, ⟨x, (hcheck .ras (by decide)).trans hx⟩, r, log_subset_healthCheck _ hr, hcode⟩
  exact (congrArg (bit · n) ((hcheckRegs.rd (by decide)).trans (hregs.rd (by decide)))).trans
    (bit_orReg_self s Reg.RAS_SITE_RETIRED hn (by decide))

end State
end Sys2Proof.Machine
end

section
/-! Retirement, self-tests, the store and the sensors' messages (O57). -/

namespace Sys2Proof.Machine.State

open Sys2Proof.Safety

section
variable {s s1 : State} {via : Via} {p : Packet} {j : Job}

/-! ## RAS_RETIRE (19 R620) -/

theorem tileOf_begun (s : State) (via : Via) (j : Job) (n : Nat) : (s.beginJob true via j).tileOf n = s.tileOf n :=
  tileOf_congr (rd_begun s via j (by decide)) (fun t _ => siteOf_begun s via j t) n

theorem rimOwns_begun (s : State) (via : Via) (j : Job) (t : Nat) : (s.beginJob true via j).rimOwns t = s.rimOwns t :=
  rimOwns_congr (rd_begun s via j (by decide)) (rd_begun s via j (by decide)) t

theorem unitRetired_site_begun (s : State) (via : Via) (j : Job) (n : Nat) : (s.beginJob true via j).unitRetired 1 n = s.unitRetired 1 n :=
  congrArg (bit · n) (rd_begun s via j (r := Reg.RAS_SITE_RETIRED) (by decide))

theorem unitSpare_site_begun (s : State) (via : Via) (j : Job) (n : Nat) : (s.beginJob true via j).unitSpare 1 n = s.unitSpare 1 n := by
  have hactive : (s.beginJob true via j).rd Reg.RAS_SITE_ACTIVE = s.rd Reg.RAS_SITE_ACTIVE := rd_begun s via j (by decide)
  simp only [unitSpare, unitRetired_site_begun, hactive]

section
variable (h : Starts s true via p j s1) (hop : p.base = 0x0C00) (hvid : s1.fuse.video = true ∨ p.u8 16 ≠ 4) (hunit : p.u8 17 < unitCount (p.u8 16))
include h hop hvid hunit

theorem rasRetire_inhibited (hinhibit : s1.pins.maintInhibit = true) : exec (.rasRetire via p) s = .next (s1.finish via (.refuse 0x0C03)) :=
  congrArg Host.Outcome.next (runRow_refused h (by simp [hop]) (by
    rcases hvid with hv | hv <;> simp [firstFail, hv, hinhibit, Nat.not_le.2 hunit]))

theorem rasRetire_gone (hinhibit : s1.pins.maintInhibit = false)
    (hgone : s1.unitSpare (p.u8 16) (p.u8 17) = true ∨ s1.unitRetired (p.u8 16) (p.u8 17) = true) :
    exec (.rasRetire via p) s = .next (s1.finish via (.refuse 0x0C06)) :=
  congrArg Host.Outcome.next (runRow_refused h (by simp [hop]) (by
    have hout : (s1.unitSpare (p.u8 16) (p.u8 17) || s1.unitRetired (p.u8 16) (p.u8 17)) = true := Bool.or_eq_true_iff.2 hgone
    rcases hvid with hv | hv <;> simp only [firstFail, hv, hinhibit, Nat.not_le.2 hunit, hout] <;> simp [hv]))

theorem rasRetire_retires (hinhibit : s1.pins.maintInhibit = false) (hspare : s1.unitSpare (p.u8 16) (p.u8 17) = false)
    (hretired : s1.unitRetired (p.u8 16) (p.u8 17) = false) :
    exec (.rasRetire via p) s = .next (((s1.beginJob true via j).retire (p.u8 16) (p.u8 17)).finish via .done) :=
  congrArg Host.Outcome.next (runRow_ends h (by simp [hop]) (by
    rcases hvid with hv | hv <;> simp [firstFail, hv, hinhibit, Nat.not_le.2 hunit, hspare, hretired]) rfl)

end

/-! ## RAS_SELFTEST (19 R627) -/

section
variable {fails : List (Nat × Nat × Nat)} (h : Starts s true via p j s1) (hop : p.base = 0x0C01) (hexpert : p.expert = true)
  (hvid : s1.fuse.video = true ∨ p.u8 16 ≠ 4) (hunit : p.u8 17 < unitCount (p.u8 16)) (hinhibit : s1.pins.maintInhibit = false)
  (htest : s1.testable (p.u8 16) (p.u8 17) = true)
include h hop hexpert hvid hunit hinhibit htest

theorem rasSelftest_conflict {k : Nat} (htoken : s1.maintRefused ⟨actSelftest, 0, 0⟩ = some k) :
    exec (.rasSelftest via p fails) s = .next (s1.finish via (.errD Sts.maintConflict k)) :=
  congrArg Host.Outcome.next (runRow_refused h (by simp [hop]) (by
    rcases hvid with hv | hv <;> simp [firstFail, hexpert, hv, hinhibit, Nat.not_le.2 hunit, htest, htoken]))

theorem rasSelftest_runs (htoken : s1.maintRefused ⟨actSelftest, 0, 0⟩ = none) {u : State} {a : Ans}
    (hact : (let bad := [(p.u8 16, p.u8 17)].filterMap (fun e => fails.find? (fun f => f.1 == e.1 && f.2.1 == e.2))
      (bad.foldl (fun s f => s.testRetire f.1 f.2.1) (s1.beginJob true via j),
        (match bad with | [] => .done | f :: _ => .errD stsRasTestFail f.2.2 : Ans))) = (u, a)) :
    exec (.rasSelftest via p fails) s = .next (u.finish via a) := by
  refine congrArg Host.Outcome.next (runRow_ends h (by simp [hop]) (by
    rcases hvid with hv | hv <;> simp [firstFail, hexpert, hv, hinhibit, Nat.not_le.2 hunit, htest, htoken]) ?_)
  simp only [hexpert, if_true]
  rw [Prod.mk.injEq] at hact
  exact Prod.ext hact.1 (congrArg some hact.2)

theorem rasSelftest_passes (htoken : s1.maintRefused ⟨actSelftest, 0, 0⟩ = none)
    (hpass : fails.find? (fun f => f.1 == p.u8 16 && f.2.1 == p.u8 17) = none) :
    exec (.rasSelftest via p fails) s = .next ((s1.beginJob true via j).finish via .done) :=
  rasSelftest_runs h hop hexpert hvid hunit hinhibit htest htoken (by simp only [List.filterMap_cons, hpass, List.filterMap_nil, List.foldl_nil])

theorem rasSelftest_fails (htoken : s1.maintRefused ⟨actSelftest, 0, 0⟩ = none) {f : Nat × Nat × Nat}
    (hfail : fails.find? (fun f => f.1 == p.u8 16 && f.2.1 == p.u8 17) = some f) :
    exec (.rasSelftest via p fails) s =
      .next (((s1.beginJob true via j).testRetire (p.u8 16) (p.u8 17)).finish via (.errD stsRasTestFail f.2.2)) := by
  have hnamed := List.find?_some hfail
  rw [Bool.and_eq_true, beq_iff_eq, beq_iff_eq] at hnamed
  obtain ⟨hkind, hn⟩ := hnamed
  refine rasSelftest_runs h hop hexpert hvid hunit hinhibit htest htoken ?_
  simp only [List.filterMap_cons, hfail, List.filterMap_nil, List.foldl_cons, List.foldl_nil, hkind, hn]

end

theorem testRetire_spare_site {n : Nat} (hn : n < 64) (hspare : s.unitSpare 1 n = true) :
    bit ((s.testRetire 1 n).rd Reg.RAS_SITE_RETIRED) n = true := by
  have hin : s.unitRetired 1 n = false := by
    rw [unitSpare, Bool.and_eq_true, Bool.not_eq_true'] at hspare
    exact hspare.1
  rw [testRetire, hin, hspare, if_neg (by decide), if_pos rfl]
  exact (spareRetire_site_shows s hn).1

/-! ## RAS_LOG_FETCH (19 R631) -/

theorem rasLogFetch_copies {w : State} (h : Starts s true via p j s1) (hop : p.base = 0x0C02) (hsome : p.u32 20 ≠ 0) (hfew : p.u32 20 ≤ 65536)
    (hfirst : s1.spilled (p.u32 16) = true) (hlast : s1.spilled (p.u32 16 + p.u32 20 - 1) = true)
    (hput : (s1.beginJob true via j).putGlobal mccUnit (p.u64 24)
      (((s1.beginJob true via j).recordsFrom (p.u32 16) (p.u32 20)).map recBytes).flatten = (w, none)) :
    exec (.rasLogFetch via p) s = .next (w.finish via .done) :=
  congrArg Host.Outcome.next (runRow_ends h (by simp [hop]) (by simp [firstFail, hsome, Nat.not_lt.2 hfew, hfirst, hlast]) (by simp only [hput]))

theorem rasLogFetch_refused (h : Starts s true via p j s1) (hop : p.base = 0x0C02)
    (hbad : p.u32 20 = 0 ∨ 65536 < p.u32 20 ∨ s1.spilled (p.u32 16) = false) : exec (.rasLogFetch via p) s = .next (s1.finish via .param) :=
  congrArg Host.Outcome.next (runRow_refused h (by simp [hop]) (if_pos (by rcases hbad with hb | hb | hb <;> simp [hb])))

end

/-! ## The token's queue and the spares' test (19 R618, R627) -/

section
variable {s : State}

theorem maintPump_empty (hq : s.ras.queue = []) : s.maintPump = s := by
  rw [maintPump, hq]
  rfl

theorem maintPump_blocked {a : Activity} {l : List Activity} (hq : s.ras.queue = a :: l) (hfits : s.maintFits a = false) : s.maintPump = s := by
  rw [maintPump, hq]
  simp only [List.length_cons, maintPumpAux, hq, hfits, Bool.false_eq_true, if_false]

/-- The periodic test of the spares. -/
def spareTest : Activity := ⟨actSpareTest, 0, 0⟩

theorem maintMustWait_spareTest (hq : s.ras.queue = []) : s.maintMustWait spareTest = !s.maintFits spareTest := by
  rw [maintMustWait, if_neg (by decide), hq]
  simp

/-- The spares that fail, retired. -/
def sparesTested (s : State) (fails : List (Nat × Nat)) : State :=
  (fails.filter (fun e => decide (1 ≤ e.1) && decide (e.2 < unitCount e.1))).foldl (fun s e =>
    if s.unitSpare e.1 e.2 && (e.1 != 4 || s.fuse.video) then s.spareRetire e.1 e.2 else s) s

variable (hq : s.ras.queue = []) (hnot : spareTest ∉ s.ras.holders)
include hq hnot

theorem spareTest_waits (hfits : s.maintFits spareTest = false) (fails : List (Nat × Nat)) :
    exec (.spareTestPeriod fails) s = .next (s.maintQueue spareTest) := by
  have hholds : s.maintHolds spareTest = false := by simpa [maintHolds] using hnot
  refine congrArg Host.Outcome.next ((if_neg ?_).trans (if_pos ?_))
  · rw [hq]
    decide
  · show (!s.maintHolds spareTest && s.maintMustWait spareTest) = true
    rw [hholds, maintMustWait_spareTest hq, hfits]
    rfl

theorem spareTest_runs (hfits : s.maintFits spareTest = true) (fails : List (Nat × Nat)) :
    exec (.spareTestPeriod fails) s = .next (((s.maintTake spareTest).sparesTested fails).maintRelease spareTest) := by
  have hholds : s.maintHolds spareTest = false := by simpa [maintHolds] using hnot
  refine congrArg Host.Outcome.next ((if_neg ?_).trans ((if_neg ?_).trans ?_))
  · rw [hq]
    decide
  · show ¬(!s.maintHolds spareTest && s.maintMustWait spareTest) = true
    rw [hholds, maintMustWait_spareTest hq, hfits]
    decide
  · show ((if s.maintHolds spareTest then s else s.maintTake spareTest).sparesTested fails).maintRelease spareTest = _
    rw [hholds, if_neg (by decide)]

omit hq in
theorem holders_given : (s.ras.holders ++ [spareTest]).erase spareTest = s.ras.holders := by
  rw [List.erase_append_right _ hnot]
  simp

end

/-! ## The RAS store (19 R628, R629) -/

theorem length_eraseDups_le : ∀ l : List Nat, l.eraseDups.length ≤ l.length
  | [] => Nat.le_refl _
  | a :: l => by
    have hrest := length_eraseDups_le (l.filter (fun b => !b == a))
    have hkept := List.length_filter_le (fun b => !b == a) l
    rw [List.eraseDups_cons, List.length_cons, List.length_cons]
    omega
termination_by l => l.length
decreasing_by exact Nat.lt_succ_of_le (List.length_filter_le _ _)

/-- The RAS store replaced. -/
def storeTaken (s : State) (l : List Nat) : State := { s with ras := { s.ras with store := l } }

theorem storeAppend_full {s : State} (r : Nat) (hfull : s.fb Fld.RAS_STORE_FULL = true) : s.storeAppend r = s := by
  simp only [storeAppend, hfull, if_true]

theorem storeAppend_room {s : State} (r : Nat) (hfull : s.fb Fld.RAS_STORE_FULL = false)
    (hroom : 8 * (s.ras.store.length + 1) + 65536 ≤ areaBytes) : s.storeAppend r =
      (s.storeTaken (s.ras.store ++ [r])).fw Fld.RAS_STORE_RECORDS (s.ras.store ++ [r]).length := by
  have hlen : (s.ras.store ++ [r]).length = s.ras.store.length + 1 := List.length_append
  have hlive := length_eraseDups_le (s.ras.store ++ [r])
  have hcompact : decide (areaBytes < 8 * (s.ras.store ++ [r]).length + 65536) = false := decide_eq_false (by omega)
  unfold storeAppend
  extract_lets full all live compact l _ w v
  have hfits : ¬areaBytes < 8 * live.length := by
    have hlive' : live.length ≤ (s.ras.store ++ [r]).length := hlive
    omega
  have hloose : ¬compact = true := by
    rw [show compact = false from hcompact]
    decide
  have hall : l = all := if_neg hloose
  have hstored : v = s.storeTaken all := (if_neg hloose).trans (congrArg s.storeTaken hall)
  rw [hfull, if_neg Bool.false_ne_true, if_neg hfits, hstored, hall]

section
variable {s : State}

theorem rasPersist_none (h : s.ras.unsaved = []) : exec .rasPersist s = .next s := by
  refine congrArg Host.Outcome.next ?_
  rw [h]

/-- The next record taken. -/
def recordTaken (s : State) (l : List Nat) : State := { s with ras := { s.ras with unsaved := l } }

theorem exec_rasPersist {r : Nat} {l : List Nat} (h : s.ras.unsaved = r :: l) : exec .rasPersist s = .next ((s.recordTaken l).storeAppend r) := by
  refine congrArg Host.Outcome.next ?_
  rw [h]
  rfl

theorem rasPersist_stores {r : Nat} {l : List Nat} (h : s.ras.unsaved = r :: l) (hfull : s.fb Fld.RAS_STORE_FULL = false)
    (hroom : 8 * (s.ras.store.length + 1) + 65536 ≤ areaBytes) :
    Goes (exec .rasPersist s) (fun u => u.ras = { s.ras with unsaved := l, store := s.ras.store ++ [r] } ∧
      u.fd Fld.RAS_STORE_RECORDS = s.ras.store.length + 1 ∧ Keeps [.regs, .ras] s u ∧ RegsKeep [Reg.RAS_STORE.addr] s u) := by
  have happend := storeAppend_room (s := s.recordTaken l) r hfull hroom
  have htaken : Keeps [.ras] s ((s.recordTaken l).storeTaken (s.ras.store ++ [r])) := (keeps_withRas s _).trans (keeps_withRas _ _)
  have hlen : (s.ras.store ++ [r]).length = s.ras.store.length + 1 := List.length_append
  have hshown := keeps_fw ((s.recordTaken l).storeTaken (s.ras.store ++ [r])) Fld.RAS_STORE_RECORDS (s.ras.store ++ [r]).length
  refine ⟨_, (exec_rasPersist h).trans (congrArg Host.Outcome.next happend), hshown .ras (by decide), ?_,
    (htaken.mono (by simp)).trans (hshown.mono (by simp)),
    (htaken.regsKeep (by decide) _).trans (regsKeep_fw _ Fld.RAS_STORE_RECORDS _)⟩
  have hsmall : (s.ras.store ++ [r]).length < 2 ^ 17 := by
    simp only [areaBytes] at hroom
    omega
  exact (fd_fw_self _ Fld.RAS_STORE_RECORDS _ (by decide) (by decide)).trans ((Nat.mod_eq_of_lt hsmall).trans hlen)

theorem rasPersist_drops {r : Nat} {l : List Nat} (h : s.ras.unsaved = r :: l) (hfull : s.fb Fld.RAS_STORE_FULL = true) :
    Goes (exec .rasPersist s) (fun u => u.ras = { s.ras with unsaved := l } ∧ Keeps [.ras] s u) :=
  ⟨s.recordTaken l, (exec_rasPersist h).trans (congrArg _ (storeAppend_full r hfull)), rfl, keeps_withRas s _⟩

/-! ## Sensors (19 R636) -/

/-- A sensor's change sent. -/
def sensorSent (s : State) (e : Nat × Nat) : State := s.emit (.pldm (Config.pldmBytes 1 [e.1, e.2]))

theorem sensorsSent_frame (s : State) (l : List (Nat × Nat)) : Keeps [.out] s (l.foldl sensorSent s) ∧ s.out ⊆ (l.foldl sensorSent s).out ∧
    ∀ e ∈ l, Out.pldm (Config.pldmBytes 1 [e.1, e.2]) ∈ (l.foldl sensorSent s).out := by
  induction l generalizing s with
  | nil => exact ⟨Keeps.refl _ s, List.Subset.refl _, fun e he => absurd he List.not_mem_nil⟩
  | cons e l ih =>
    obtain ⟨hk, hgrows, hsent⟩ := ih (s.sensorSent e)
    refine ⟨(keeps_emit s _).trans hk, fun o ho => hgrows (List.mem_cons_of_mem _ ho), fun x hx => ?_⟩
    rcases List.mem_cons.1 hx with rfl | hin
    · exact hgrows List.mem_cons_self
    · exact hsent x hin

theorem platformEventMessage_sends (s : State) : Goes (exec .platformEventMessage s) (fun u =>
    u.ras = { s.ras with sensors := s.stateSensors } ∧ Keeps [.ras, .out] s u ∧
      ∀ e ∈ s.stateSensors, e ∉ s.ras.sensors → Out.pldm (Config.pldmBytes 1 [e.1, e.2]) ∈ u.out) := by
  have hknown := keeps_withRas s { s.ras with sensors := s.stateSensors }
  obtain ⟨hk, _, hsent⟩ := sensorsSent_frame { s with ras := { s.ras with sensors := s.stateSensors } }
    (s.stateSensors.filter (fun e => !s.ras.sensors.contains e))
  exact ⟨_, rfl, hk .ras (by decide), (hknown.mono (by simp)).trans (hk.mono (by simp)),
    fun e he hnew => hsent e (List.mem_filter.2 ⟨he, by simpa using hnew⟩)⟩

end

end Sys2Proof.Machine.State

namespace Sys2Proof

open Sys2Proof.Machine Sys2Proof.Machine.State Sys2Proof.Safety

/-- Settles O57, from what each retirement leaves, the token's queue and the RAS store. -/
theorem maintenanceRuns : Obligations.MaintenanceRuns := by
  unfold Obligations.MaintenanceRuns
  refine ⟨?_, ?_, fun s via p j s1 h hop => ⟨fun w hsome hfew hfirst hlast hput => rasLogFetch_copies h hop hsome hfew hfirst hlast hput,
      fun hbad => rasLogFetch_refused h hop hbad⟩, ?_, ?_, fun s => ⟨rasPersist_none, fun r l h hfull hroom => rasPersist_stores h hfull hroom,
      fun r l h hfull => rasPersist_drops h hfull⟩, platformEventMessage_sends, fun s m => ⟨fun hlevel => ?_, fun hlevel =>
      congrArg Host.Outcome.next (if_pos hlevel)⟩⟩
  · intro s via p j s1 h hop hvid hunit
    refine ⟨rasRetire_inhibited h hop hvid hunit, rasRetire_gone h hop hvid hunit, fun hinhibit hspare hretired => ⟨?_, ?_⟩⟩
    · intro hkind t ht hrim
      have hrun := rasRetire_retires h hop hvid hunit hinhibit hspare hretired
      rw [hkind] at hrun hunit hretired
      obtain ⟨hbit, hfenced, hfetched, hmem, hasks⟩ := markSite_shows (s := s1.beginJob true via j) (n := p.u8 17)
        (hunit.trans (by decide)) ((unitRetired_site_begun s1 via j _).trans hretired) ((tileOf_begun s1 via j _).trans ht)
        ((rimOwns_begun s1 via j t).trans hrim)
      exact ⟨_, hrun, hbit, hfenced, hfetched, hmem.trans (keeps_beginJob s1 true via j .mem (by decide)), hasks⟩
    · intro hkind hq hfits hholds
      have hrun := rasRetire_retires h hop hvid hunit hinhibit hspare hretired
      rw [hkind] at hrun hunit
      have hras := ras_begun s1 via j
      obtain ⟨hbit, hidle, hholders, _, hlog, hmem⟩ := retire_core (s := s1.beginJob true via j) hunit (by rw [hras]; exact hq)
        ((maintFits_congr (by rw [hras]) _).trans hfits) (by rw [maintHolds, hras]; exact hholds)
      exact ⟨_, hrun, hbit, hidle, hholders.trans (by rw [hras]), hlog, hmem.trans (keeps_beginJob s1 true via j .mem (by decide))⟩
  · intro s via p fails j s1 h hop hexpert hvid hunit hinhibit htest
    refine ⟨fun k => rasSelftest_conflict h hop hexpert hvid hunit hinhibit htest,
      fun htoken hpass => ⟨_, rasSelftest_passes h hop hexpert hvid hunit hinhibit htest htoken hpass, rfl⟩, fun f htoken hfail =>
      ⟨_, rasSelftest_fails h hop hexpert hvid hunit hinhibit htest htoken hfail,
        (MemKept.testRetire _ _ _).mem.trans (keeps_beginJob s1 true via j .mem (by decide)), fun hkind hspare => ?_⟩⟩
    rw [hkind] at hunit ⊢
    exact testRetire_spare_site (hunit.trans (by decide)) ((unitSpare_site_begun s1 via j _).trans hspare)
  · intro s
    refine ⟨fun hq => congrArg _ (maintPump_empty hq), fun l hq hheld => congrArg _ (maintPump_blocked hq ?_), fun hq hfree => ?_⟩
    · rw [maintFits, if_pos (by decide)]
      simpa using hheld
    · have hfits : s.maintFits tenantScrubActivity = true := by
        rw [maintFits, if_pos (by decide), hfree]
        rfl
      have hstart := maintPump_one hq hfits
      have hdrawn : (s.tokenDrawn tenantScrubActivity).ras = { s.ras with queue := [], holders := [tenantScrubActivity] } := by
        rw [tokenDrawn, hfree]
        rfl
      have hwait := keeps_fbw (s.tokenDrawn tenantScrubActivity) Fld.SEC_STATUS_SCRUB_WAIT_TOKEN false
      have hactive := keeps_fbw ((s.tokenDrawn tenantScrubActivity).fbw Fld.SEC_STATUS_SCRUB_WAIT_TOKEN false) Fld.SEC_STATUS_SCRUB_ACTIVE true
      refine ⟨_, congrArg Host.Outcome.next hstart, ?_, ?_, ?_, ?_⟩
      · exact (hactive .ras (by decide)).trans ((hwait .ras (by decide)).trans hdrawn)
      · exact fb_fbw_self _ Fld.SEC_STATUS_SCRUB_ACTIVE true (by decide) (by decide) (by decide)
      · exact (fb_fbw_apart _ _ _ _ (by decide) (by decide) (by decide) (by decide)).trans
          (fb_fbw_self _ Fld.SEC_STATUS_SCRUB_WAIT_TOKEN false (by decide) (by decide) (by decide))
      · exact ((keeps_withRas s _).mono (by simp)).trans ((hwait.trans hactive).mono (by simp))
  · intro s a hq hnot
    refine ⟨fun hfits => ?_, fun hfits => ?_, fun n hfits hn hspare => ?_⟩
    · refine ⟨_, spareTest_runs hq hnot hfits [], ?_⟩
      rw [maintRelease_alone (by exact hq)]
      show ({ s with ras := { s.ras with holders := (s.ras.holders ++ [spareTest]).erase spareTest } } : State) = s
      rw [holders_given hnot]
    · refine ⟨_, spareTest_waits hq hnot hfits [], ?_, keeps_withRas s _⟩
      show ({ s.ras with queue := s.ras.queue ++ [spareTest] } : Ras) = _
      rw [hq]
      rfl
    · have htested : (s.maintTake spareTest).sparesTested [(1, n)] = (s.maintTake spareTest).spareRetire 1 n := by
        have hspare' : (s.maintTake spareTest).unitSpare 1 n = true := hspare
        have hin : ([(1, n)] : List (Nat × Nat)).filter (fun e => decide (1 ≤ e.1) && decide (e.2 < unitCount e.1)) = [(1, n)] := by
          simp [unitCount, hn]
        rw [sparesTested, hin, List.foldl_cons, List.foldl_nil, hspare']
        rfl
      obtain ⟨hbit, ⟨r, hr⟩, hlog⟩ := spareRetire_site_shows (s.maintTake spareTest) (n := n) (by omega)
      have hqueue : ((s.maintTake spareTest).spareRetire 1 n).ras.queue = [] := by
        rw [hr]
        exact hq
      have hrun := spareTest_runs hq hnot hfits [(1, n)]
      rw [htested, maintRelease_alone hqueue] at hrun
      refine ⟨_, hrun, hbit, ?_, ?_, hlog, (MemKept.spareRetire _ 1 n).mem⟩
      · show ((s.maintTake spareTest).spareRetire 1 n).ras.holders.erase spareTest = _
        rw [hr]
        exact holders_given hnot
      · show ((s.maintTake spareTest).spareRetire 1 n).ras.unsaved.length = _
        rw [hr]
        exact List.length_append
  · exact ⟨_, congrArg Host.Outcome.next (if_neg hlevel), keeps_emit s _, rfl⟩

end Sys2Proof
end

section
/-! Counters and semaphores (O59). -/

namespace Sys2Proof.Safety

open Sys2Proof.Machine

/-- What one step of a run over a list establishes, and the others of the list keep, the run establishes. -/
theorem foldl_sets_among {α : Type} {f : State → α → State} {Q : State → Prop} {a : α} {l : List α} (hset : ∀ u, Q (f u a))
    (hkeep : ∀ u, ∀ b ∈ l, b ≠ a → Q u → Q (f u b)) (ha : a ∈ l) (s : State) : Q (l.foldl f s) := by
  induction l generalizing s with
  | nil => exact absurd ha List.not_mem_nil
  | cons b l ih =>
    by_cases hal : a ∈ l
    · exact ih (fun u c hc => hkeep u c (List.mem_cons_of_mem _ hc)) hal (f s b)
    · obtain rfl : a = b := by simpa [hal] using ha
      exact List.foldlRecOn l f (hset s) fun u hu c hc => hkeep u c (List.mem_cons_of_mem _ hc) (fun h => hal (h ▸ hc)) hu

end Sys2Proof.Safety

namespace Sys2Proof.Machine.State

open Sys2Proof.Safety

section
variable {s s1 : State} {via : Via} {p : Packet} {j : Job}

/-! ## Wraps (20 R645, R647) -/

theorem pmuWrap_quiet {g c : Nat} (hirq : s.fb (Fld.PMU_EVSEL_IRQ g c) = false) (hc : c < 8) :
    s.pmuWrap g c = s.orReg (Reg.PMU_OVF g) (2 ^ c) := by
  have hirq' : (s.orReg (Reg.PMU_OVF g) (2 ^ c)).fb (Fld.PMU_EVSEL_IRQ g c) = false := by
    rw [← hirq]
    exact fb_wr_ne _ _ _ _ (by simp only [Fld.PMU_EVSEL_IRQ, Reg.PMU_EVSEL, Reg.PMU_OVF]; omega)
  exact if_neg (by rw [hirq']; decide)

theorem tileWrap_quiet {n e : Nat} (hirq : bit (s.rd (Reg.PMU_TIRQ n)) e = false) : s.tileWrap n e = s.orReg (Reg.PMU_TOVF n) (2 ^ e) := by
  have hsame : (s.orReg (Reg.PMU_TOVF n) (2 ^ e)).rd (Reg.PMU_TIRQ n) = s.rd (Reg.PMU_TIRQ n) :=
    rd_wr_ne _ _ _ _ (by simp only [Reg.PMU_TIRQ, Reg.PMU_TOVF]; omega)
  exact if_neg (by rw [hsame, hirq]; decide)

theorem counterWrap_group {g c : Nat} (hg : g < 53) (hc : c < 8) (hon : s.groupOn g = true) (hen : s.fb (Fld.PMU_EVSEL_EN g c) = true)
    (hev : pmuUnseen g (s.fd (Fld.PMU_EVSEL_EVENT g c)) = true) (hirq : s.fb (Fld.PMU_EVSEL_IRQ g c) = false) :
    exec (.pmuCounterWrap false g c) s = .next (s.orReg (Reg.PMU_OVF g) (2 ^ c)) := by
  refine congrArg Host.Outcome.next ((if_neg Bool.false_ne_true).trans ((if_pos ?_).trans (pmuWrap_quiet hirq hc)))
  simp [hg, hc, hon, hen, hev]

theorem counterWrap_tile {n e : Nat} (hn : n < 36) (hev : tileUnseen e = true) (hon : s.islandOn (siteIsland n) = true)
    (hirq : bit (s.rd (Reg.PMU_TIRQ n)) e = false) : exec (.pmuCounterWrap true n e) s = .next (s.orReg (Reg.PMU_TOVF n) (2 ^ e)) := by
  refine congrArg Host.Outcome.next ((if_pos rfl).trans ((if_pos ?_).trans (tileWrap_quiet hirq)))
  simp [hn, hev, hon]

theorem counterWrap_ignored {g c : Nat} (h : 8 ≤ c ∨ s.groupOn g = false) : exec (.pmuCounterWrap false g c) s = .next s := by
  refine congrArg Host.Outcome.next ((if_neg Bool.false_ne_true).trans (if_neg ?_))
  rcases h with h | h
  · simp [Nat.not_lt.2 h]
  · simp [h]

theorem lt_of_tileUnseen {e : Nat} (h : tileUnseen e = true) : e < 32 := by
  simp only [tileUnseen, Bool.or_eq_true, decide_eq_true_eq, beq_iff_eq] at h
  omega

/-! ## PMU_PROGRAM (20 R648) -/

/-- Bytes of the block as a number. -/
def blockWord (block : List Byte) (o n : Nat) : Nat := ofLE ((block.drop o).take n)

/-- EVSEL as the block gives it, an unknown event replaced. -/
def evselOf (block : List Byte) (c : Nat) : Nat :=
  let v := blockWord block (0x10 + 4 * c) 4 &&& 0xFFFFCFFF
  if pmuEvents.contains (bits v 0 12) then v else setBits v 0 12 0xFFF

/-- The registers of one counter written. -/
def counterSet (g : Nat) (block : List Byte) (s : State) (c : Nat) : State :=
  (((s.wr (Reg.PMU_EVSEL g c) (evselOf block c)).wr (Reg.PMU_CNT g c) (blockWord block (0x40 + 8 * c) 8 % 2 ^ 48)).wr (Reg.PMU_ABASE g c)
    (blockWord block (0x80 + 8 * c) 8)).wr (Reg.PMU_AMASK g c) (blockWord block (0xC0 + 8 * c) 8)

theorem pmuProgram_eq (s : State) (g : Nat) (block : List Byte) : s.pmuProgram g block = (List.range 8).foldl (counterSet g block) s := rfl

/-- The registers of a counter. -/
def counterAddrs (g c : Nat) : List Nat := [(Reg.PMU_EVSEL g c).addr, (Reg.PMU_CNT g c).addr, (Reg.PMU_ABASE g c).addr, (Reg.PMU_AMASK g c).addr]

theorem counterSet_frame (g : Nat) (block : List Byte) (s : State) (c : Nat) :
    Keeps [.regs] s (counterSet g block s c) ∧ RegsKeep (counterAddrs g c) s (counterSet g block s c) :=
  ⟨((keeps_wr _ _ _).trans (keeps_wr _ _ _)).trans ((keeps_wr _ _ _).trans (keeps_wr _ _ _)),
    (((regsKeep_wr s (Reg.PMU_EVSEL g c) _).mono (by simp [counterAddrs])).trans ((regsKeep_wr _ (Reg.PMU_CNT g c) _).mono (by simp [counterAddrs]))).trans
      (((regsKeep_wr _ (Reg.PMU_ABASE g c) _).mono (by simp [counterAddrs])).trans ((regsKeep_wr _ (Reg.PMU_AMASK g c) _).mono (by simp [counterAddrs])))⟩

/-- The counters of a group have registers of their own. -/
theorem counterAddrs_apart {g b c : Nat} (hb : b < 8) (hc : c < 8) (hne : b ≠ c) : ∀ a ∈ counterAddrs g c, a ∉ counterAddrs g b := by
  simp only [counterAddrs, Reg.PMU_EVSEL, Reg.PMU_CNT, Reg.PMU_ABASE, Reg.PMU_AMASK, List.mem_cons, List.not_mem_nil, or_false]
  omega

/-- What one counter's registers read as after the block is written. -/
structure CounterShown (g : Nat) (block : List Byte) (c : Nat) (u : State) : Prop where
  evsel : u.rd (Reg.PMU_EVSEL g c) = evselOf block c % 2 ^ 32
  cnt : u.rd (Reg.PMU_CNT g c) = blockWord block (0x40 + 8 * c) 8 % 2 ^ 48 % 2 ^ 64
  abase : u.rd (Reg.PMU_ABASE g c) = blockWord block (0x80 + 8 * c) 8 % 2 ^ 64
  amask : u.rd (Reg.PMU_AMASK g c) = blockWord block (0xC0 + 8 * c) 8 % 2 ^ 64

theorem counterSet_shows (g : Nat) (block : List Byte) (s : State) {c : Nat} (hc : c < 8) : CounterShown g block c (counterSet g block s c) := by
  refine ⟨?_, ?_, ?_, rd_wr_self _ _ _ (by exact Nat.le_refl 64)⟩
  · rw [counterSet, rd_wr_ne _ _ _ _ (by simp only [Reg.PMU_EVSEL, Reg.PMU_AMASK]; omega),
      rd_wr_ne _ _ _ _ (by simp only [Reg.PMU_EVSEL, Reg.PMU_ABASE]; omega), rd_wr_ne _ _ _ _ (by simp only [Reg.PMU_EVSEL, Reg.PMU_CNT]; omega)]
    exact rd_wr_self _ _ _ (show 32 ≤ 64 by decide)
  · rw [counterSet, rd_wr_ne _ _ _ _ (by simp only [Reg.PMU_CNT, Reg.PMU_AMASK]; omega),
      rd_wr_ne _ _ _ _ (by simp only [Reg.PMU_CNT, Reg.PMU_ABASE]; omega)]
    exact rd_wr_self _ _ _ (by exact Nat.le_refl 64)
  · rw [counterSet, rd_wr_ne _ _ _ _ (by simp only [Reg.PMU_ABASE, Reg.PMU_AMASK]; omega)]
    exact rd_wr_self _ _ _ (by exact Nat.le_refl 64)

theorem pmuProgram_shows (s : State) (g : Nat) (block : List Byte) : Keeps [.regs] s (s.pmuProgram g block) ∧
    ∀ c, c < 8 → CounterShown g block c (s.pmuProgram g block) := by
  rw [pmuProgram_eq]
  refine ⟨.foldl s fun u c _ => (counterSet_frame g block u c).1, fun c hc =>
    foldl_sets_among (fun u => counterSet_shows g block u hc) (fun u b hb hne hu => ?_) (List.mem_range.2 hc) s⟩
  have hregs := (counterSet_frame g block u b).2
  have hapart := counterAddrs_apart (g := g) (List.mem_range.1 hb) hc hne
  exact ⟨(hregs.rd (hapart _ (by simp [counterAddrs]))).trans hu.evsel, (hregs.rd (hapart _ (by simp [counterAddrs]))).trans hu.cnt,
    (hregs.rd (hapart _ (by simp [counterAddrs]))).trans hu.abase, (hregs.rd (hapart _ (by simp [counterAddrs]))).trans hu.amask⟩

theorem blockWord_lt (block : List Byte) (o n : Nat) : blockWord block o n < 2 ^ (8 * n) :=
  (ofLE_lt _).trans_le (Nat.pow_le_pow_right (by decide) (Nat.mul_le_mul_left 8 (List.length_take_le _ _)))

/-- An event of the table is taken as the block names it. -/
theorem evselOf_known {block : List Byte} {c : Nat} (h : pmuEvents.contains (bits (blockWord block (0x10 + 4 * c) 4) 0 12) = true) :
    evselOf block c = blockWord block (0x10 + 4 * c) 4 &&& 0xFFFFCFFF := by
  have hlow : bits (blockWord block (0x10 + 4 * c) 4 &&& 0xFFFFCFFF) 0 12 = bits (blockWord block (0x10 + 4 * c) 4) 0 12 := by
    simp only [bits, pow_zero, Nat.div_one, Nat.and_mod_two_pow]
    rw [show 0xFFFFCFFF % 2 ^ 12 = 2 ^ 12 - 1 from rfl, Nat.and_two_pow_sub_one_eq_mod, Nat.mod_mod]
  exact if_pos (by rw [hlow]; exact h)

theorem evselOf_lt (x : Nat) : x &&& 0xFFFFCFFF < 2 ^ 32 := Nat.and_lt_two_pow x (by decide)

section
variable {w : State} {far : List Host.Cell} {ue : Option Nat} {bs : List Byte}

theorem pmuProgram_absent (h : Starts s true via p j s1) (hop : p.base = 0x0D00) (hg : p.u8 16 ≤ 52) (hoff : s1.groupOn (p.u8 16) = false) :
    exec (.pmuProgram via p far ue) s = .next (s1.finish via (.err Sts.unitAbsent)) :=
  congrArg Host.Outcome.next (runRow_refused h (by simp [hop]) (by simp [firstFail, Nat.not_lt.2 hg, hoff]))

theorem pmuProgram_writes (h : Starts s true via p j s1) (hop : p.base = 0x0D00) (hg : p.u8 16 ≤ 52) (hon : s1.groupOn (p.u8 16) = true)
    (hcheck : (s1.beginJob true via j).runCheck mccUnit (p.u64 24) 256 opLoad = none)
    (hread : (s1.beginJob true via j).getGlobal mccUnit (p.u64 24) 256 far ue = (w, .ok bs)) :
    exec (.pmuProgram via p far ue) s = .next ((w.pmuProgram (p.u8 16) bs).finish via .done) :=
  congrArg Host.Outcome.next (runRow_ends h (by simp [hop]) (by simp [firstFail, Nat.not_lt.2 hg, hon]) (by simp only [hcheck, hread]))

end

/-! ## PMU_READ (20 R646) -/

section
variable {w z : State} {bs : List Byte} (h : Starts s true via p j s1) (hop : p.base = 0x0D01)
include h hop

theorem pmuRead_group_absent (hsite : bit (p.u8 17) 0 = false) (hg : p.u8 16 ≤ 52) (hoff : s1.groupOn (p.u8 16) = false) :
    exec (.pmuRead via p) s = .next (s1.finish via (.err Sts.unitAbsent)) :=
  congrArg Host.Outcome.next (runRow_refused h (by simp [hop]) (by simp [firstFail, hsite, Nat.not_lt.2 hg, hoff]))

theorem pmuRead_site_absent (hsite : bit (p.u8 17) 0 = true) (hg : p.u8 16 ≤ 35) (hoff : s1.islandOn (siteIsland (p.u8 16)) = false) :
    exec (.pmuRead via p) s = .next (s1.finish via (.err Sts.unitAbsent)) :=
  congrArg Host.Outcome.next (runRow_refused h (by simp [hop]) (by simp [firstFail, hsite, Nat.not_lt.2 hg, hoff]))

theorem pmuRead_group (hsite : bit (p.u8 17) 0 = false) (hg : p.u8 16 ≤ 52) (hon : s1.groupOn (p.u8 16) = true)
    (hcheck : (s1.beginJob true via j).runCheck mccUnit (p.u64 24) 96 opStore = none)
    (hread : (s1.beginJob true via j).pmuSnapshot (p.u8 16) = (w, bs)) (hput : w.putGlobal mccUnit (p.u64 24) bs = (z, none)) :
    exec (.pmuRead via p) s = .next (z.finish via .done) :=
  congrArg Host.Outcome.next (runRow_ends h (by simp [hop]) (by simp [firstFail, hsite, Nat.not_lt.2 hg, hon])
    (by simp only [hsite, Bool.false_eq_true, if_false, hcheck, hread, hput]))

theorem pmuRead_site (hsite : bit (p.u8 17) 0 = true) (hg : p.u8 16 ≤ 35) (hon : s1.islandOn (siteIsland (p.u8 16)) = true)
    (hcheck : (s1.beginJob true via j).runCheck mccUnit (p.u64 24) 544 opStore = none)
    (hread : (s1.beginJob true via j).siteSnapshot (p.u8 16) = (w, bs)) (hput : w.putGlobal mccUnit (p.u64 24) bs = (z, none)) :
    exec (.pmuRead via p) s = .next (z.finish via .done) :=
  congrArg Host.Outcome.next (runRow_ends h (by simp [hop]) (by simp [firstFail, hsite, Nat.not_lt.2 hg, hon])
    (by simp only [hsite, if_true, hcheck, hread, hput]))

end

/-! ## Semaphores (20 R655, R657) -/

theorem semForce_free {k : Nat} (h : s.fb (Fld.DBG_SEM_HELD k) = false) : s.semForce k = s := if_neg (by rw [h]; decide)

/-- What a semaphore forced free shows. -/
theorem semForce_shows (s : State) {k : Nat} (h : s.fb (Fld.DBG_SEM_HELD k) = true) :
    (s.semForce k).fb (Fld.DBG_SEM_HELD k) = false ∧ (s.semForce k).fb (Fld.DBG_SEM_FORCED k) = true ∧
      (s.semForce k).fd (Fld.DBG_SEM_OWNER k) = 0 ∧ Keeps [.regs] s (s.semForce k) ∧ RegsKeep [(Reg.DBG_SEM k).addr] s (s.semForce k) := by
  have hrun : s.semForce k = (((s.fbw (Fld.DBG_SEM_HELD k) false).fbw (Fld.DBG_SEM_OWNER_HALTED k) false).fw (Fld.DBG_SEM_OWNER k) 0).fbw
      (Fld.DBG_SEM_FORCED k) true := if_pos h
  rw [hrun]
  refine ⟨?_, fb_fbw_self _ (Fld.DBG_SEM_FORCED k) true rfl (show 29 + 1 ≤ 32 by decide) (show 32 ≤ 64 by decide), ?_,
    ((keeps_fbw _ _ _).trans (keeps_fbw _ _ _)).trans ((keeps_fw _ _ _).trans (keeps_fbw _ _ _)),
    ((regsKeep_fbw s (Fld.DBG_SEM_HELD k) _).trans (regsKeep_fbw _ (Fld.DBG_SEM_OWNER_HALTED k) _)).trans
      ((regsKeep_fw _ (Fld.DBG_SEM_OWNER k) _).trans (regsKeep_fbw _ (Fld.DBG_SEM_FORCED k) _))⟩
  · rw [fb_fbw_apart _ (Fld.DBG_SEM_FORCED k) (Fld.DBG_SEM_HELD k) _ rfl (.inr (show 29 + 1 ≤ 31 by decide)) (show 31 + 1 ≤ 32 by decide)
        (show 32 ≤ 64 by decide),
      fb_fw_apart _ (Fld.DBG_SEM_OWNER k) (Fld.DBG_SEM_HELD k) _ rfl (.inr (show 16 + 7 ≤ 31 by decide)) (show 31 + 1 ≤ 32 by decide)
        (show 32 ≤ 64 by decide),
      fb_fbw_apart _ (Fld.DBG_SEM_OWNER_HALTED k) (Fld.DBG_SEM_HELD k) _ rfl (.inr (show 30 + 1 ≤ 31 by decide)) (show 31 + 1 ≤ 32 by decide)
        (show 32 ≤ 64 by decide)]
    exact fb_fbw_self _ (Fld.DBG_SEM_HELD k) false rfl (show 31 + 1 ≤ 32 by decide) (show 32 ≤ 64 by decide)
  · rw [fd_fbw_apart _ (Fld.DBG_SEM_FORCED k) (Fld.DBG_SEM_OWNER k) _ rfl (.inl (show 16 + 7 ≤ 29 by decide)) (show 16 + 7 ≤ 32 by decide)
        (show 32 ≤ 64 by decide), fd_fw_self _ (Fld.DBG_SEM_OWNER k) _ (show 16 + 7 ≤ 32 by decide) (show 32 ≤ 64 by decide)]
    rfl

theorem semRelease_locked (h : Starts s true via p j s1) (hop : p.base = 0x0D02) (hk : p.u8 16 ≤ 31) (hdap : s1.dapOpen = false) :
    exec (.dbgSemRelease via p) s = .next (s1.finish via (.refuse 0x0D01)) :=
  congrArg Host.Outcome.next (runRow_refused h (by simp [hop]) (by simp [firstFail, Nat.not_lt.2 hk, hdap]))

theorem semRelease_runs (h : Starts s true via p j s1) (hop : p.base = 0x0D02) (hk : p.u8 16 ≤ 31) (hdap : s1.dapOpen = true) :
    exec (.dbgSemRelease via p) s = .next (((s1.beginJob true via j).semForce (p.u8 16)).finish via .done) :=
  congrArg Host.Outcome.next (runRow_ends h (by simp [hop]) (by simp [firstFail, Nat.not_lt.2 hk, hdap]) rfl)

theorem semHeld_begun (s : State) (via : Via) (j : Job) {k : Nat} (hk : k ≤ 31) :
    (s.beginJob true via j).fb (Fld.DBG_SEM_HELD k) = s.fb (Fld.DBG_SEM_HELD k) :=
  fb_begun s via j (by simp only [Fld.DBG_SEM_HELD, Reg.DBG_SEM, Reg.RAS_LOG_SEQ]; omega)

theorem semTimeout_ends {k : Nat} (hcur : s.mcc.cur = some j) (hk : k < 32) (hheld : s.fb (Fld.DBG_SEM_HELD k) = true) (hnew : j.begun = false)
    (hfree : s.queuedOn j.pkt = none) :
    exec (.semTimeout k) s = .next (s.mccReply (.err (if s.fb (Fld.DBG_SEM_OWNER_HALTED k) then Sts.semHalted else Sts.timeout))) := by
  refine congrArg Host.Outcome.next ?_
  rw [hcur]
  exact if_pos (by simp [hk, hheld, hnew, hfree])

theorem semTimeout_ignored {k : Nat} (h : s.mcc.cur = none ∨ s.fb (Fld.DBG_SEM_HELD k) = false) : exec (.semTimeout k) s = .next s := by
  refine congrArg Host.Outcome.next ?_
  split
  next hcur =>
    rcases h with h | h
    · simp [h] at hcur
    · exact if_neg (by simp [h])
  next => rfl

end

end Sys2Proof.Machine.State

namespace Sys2Proof

open Sys2Proof.Machine Sys2Proof.Machine.State Sys2Proof.Safety

/-- Settles O59, from what a wrap, a programmed group and a forced semaphore show. -/
theorem countersAndSemaphores : Obligations.CountersAndSemaphores := by
  unfold Obligations.CountersAndSemaphores
  refine ⟨fun s g c hg hc hon hen hev hirq => ⟨_, counterWrap_group hg hc hon hen hev hirq,
      Safety.bit_orReg_self s _ (show c < 32 by omega) (show 32 ≤ 64 by decide), keeps_orReg _ _ _, regsKeep_orReg _ _ _⟩,
    fun s n e hn hev hon hirq => ⟨_, counterWrap_tile hn hev hon hirq,
      Safety.bit_orReg_self s _ (show e < 64 from (lt_of_tileUnseen hev).trans (by decide)) (show 64 ≤ 64 by decide), keeps_orReg _ _ _,
      regsKeep_orReg _ _ _⟩,
    fun s g c h => counterWrap_ignored h, fun s via p far ue j s1 h hop => ⟨pmuProgram_absent h hop, ?_⟩,
    fun s via p j s1 h hop hsite hg => ⟨pmuRead_group_absent h hop hsite hg,
      fun w bs z hon hcheck hread hput => pmuRead_group h hop hsite hg hon hcheck hread hput⟩,
    fun s via p j s1 h hop hsite hg => ⟨pmuRead_site_absent h hop hsite hg,
      fun w bs z hon hcheck hread hput => pmuRead_site h hop hsite hg hon hcheck hread hput⟩,
    fun s via p j s1 h hop hk => ⟨semRelease_locked h hop hk, fun hdap hheld =>
      ⟨_, semRelease_runs h hop hk hdap, semForce_shows _ ((semHeld_begun s1 via j hk).trans hheld)⟩, fun hdap hheld =>
      ⟨_, semRelease_runs h hop hk hdap, semForce_free ((semHeld_begun s1 via j hk).trans hheld)⟩⟩,
    fun s k j hcur hk hheld hnew hfree => semTimeout_ends hcur hk hheld hnew hfree, fun s k h => semTimeout_ignored h⟩
  intro w bs hg hon hcheck hread
  obtain ⟨hkeeps, hshown⟩ := pmuProgram_shows w (p.u8 16) bs
  refine ⟨_, pmuProgram_writes h hop hg hon hcheck hread, hkeeps, fun c hc => ⟨?_, ?_, ?_, fun hknown => ?_⟩⟩
  · exact (hshown c hc).cnt.trans (Nat.mod_eq_of_lt ((Nat.mod_lt _ (by decide)).trans (by decide)))
  · exact (hshown c hc).abase.trans (Nat.mod_eq_of_lt (blockWord_lt bs _ 8))
  · exact (hshown c hc).amask.trans (Nat.mod_eq_of_lt (blockWord_lt bs _ 8))
  · rw [(hshown c hc).evsel, evselOf_known hknown]
    exact Nat.mod_eq_of_lt (evselOf_lt _)

end Sys2Proof
end

section
/-! What leaves a sync counter alone (O58): maintenance, the Rim lane, ports, video and replies write registers that are no sync counters. -/

namespace Sys2Proof.Safety

-- Elaborated side by side, each of these many unfoldings would hold a thread and its stack while it waits for the others.
set_option Elab.async false

open Sys2Proof.Machine Sys2Proof.Machine.State

/-- The sync counter of a spare site that the counterexample of O58 follows. -/
def spareSync : Reg := Reg.TILE_SYNC 1 1

/-- The followed counter stays. -/
structure SyncKept (s t : State) : Prop where
  rd : t.rd spareSync = s.rd spareSync

namespace SyncKept

variable {s t u : State}

theorem refl (s : State) : SyncKept s s := ⟨rfl⟩

theorem trans (h : SyncKept s t) (h' : SyncKept t u) : SyncKept s u := ⟨h'.rd.trans h.rd⟩

/-- The last step first, so that the state before it is known when the steps to it are looked at. -/
theorem after (h' : SyncKept t u) (h : SyncKept s t) : SyncKept s u := h.trans h'

theorem of_regs (h : t.regs = s.regs) : SyncKept s t := ⟨by rw [State.rd, h, State.rd]⟩

theorem of_keeps {ps : List Part} (h : Keeps ps s t) (hp : Part.regs ∉ ps := by decide) : SyncKept s t := of_regs (h .regs hp)

theorem of_regsKeep {as : List Nat} (h : RegsKeep as s t) (ha : 0x1040104 ∉ as) : SyncKept s t := ⟨h.rd ha⟩

theorem of_linkFrame (h : LinkFrame anyGroup s t) : SyncKept s t :=
  ⟨h.rd fun g _ => by
    simp only [countAddrs, spareSync, Reg.TILE_SYNC, Reg.PMU_OVF, Reg.PMU_OVF_LOST, Reg.RAS_LOG_SEQ, Reg.PMU_CNT, List.cons_append, List.nil_append,
      List.mem_cons, List.mem_map, List.mem_range, not_or, not_exists, not_and]
    exact ⟨by omega, by omega, by omega, fun c hc => by omega⟩⟩

theorem foldl {α : Type} {f : State → α → State} {l : List α} (s : State) (h : ∀ u a, SyncKept u (f u a)) : SyncKept s (l.foldl f s) :=
  List.foldlRecOn l f (refl s) fun u hu a _ => hu.trans (h u a)

/-- The state of an operation's outcome, named by a match on the outcome. -/
theorem fst {α : Type} {a : α} {x : State × α} (h : SyncKept s x.1) (hx : x = (u, a)) : SyncKept s u := by
  subst hx
  exact h

theorem wr (s : State) (r : Reg) (v : Nat) (h : r.addr ≠ 0x1040104 := by decide) : SyncKept s (s.wr r v) :=
  of_regsKeep (regsKeep_wr s r v) (by simpa using h.symm)

theorem fw (s : State) (f : Fld) (v : Nat) (h : f.reg.addr ≠ 0x1040104 := by decide) : SyncKept s (s.fw f v) := wr s _ _ h

theorem fbw (s : State) (f : Fld) (b : Bool) (h : f.reg.addr ≠ 0x1040104 := by decide) : SyncKept s (s.fbw f b) := wr s _ _ h

/-! ## Records and counters -/

theorem trouble (s : State) (code sev island addr data : Nat) : SyncKept s (s.trouble code sev island addr data) :=
  of_regsKeep (regsKeep_trouble s code sev island addr data) (by decide)

theorem pmuEvent (s : State) (g ev n : Nat) (o : Option Origin) : SyncKept s (s.pmuEvent g ev n o) :=
  of_linkFrame (.pmuEvent s trivial ev n o)

theorem tileEvent (s : State) (t e n : Nat) : SyncKept s (s.tileEvent t e n) := by
  refine of_regsKeep (regsKeep_tileEvent s t e n) ?_
  simp only [Reg.TILE_EVCNT, Reg.PMU_TOVF, Reg.PMU_OVF_LOST, Reg.RAS_LOG_SEQ, List.mem_cons, List.not_mem_nil, or_false, not_or]
  omega

theorem healthCheck (s : State) : SyncKept s s.healthCheck := by
  simp only [State.healthCheck]
  split
  · exact refl s
  · exact ((fw s _ _).trans (fw _ _ _)).trans (trouble _ _ _ _ _ _)

theorem logRetired (s : State) (kind unit island : Nat) : SyncKept s (s.logRetired kind unit island) :=
  of_regsKeep (logRetired_frame s kind unit island).2.1 (by decide)

theorem logSpare (s : State) (kind unit island : Nat) : SyncKept s (s.logSpare kind unit island) := (trouble s _ _ _ _ _).trans (healthCheck _)

theorem logNoSpare (s : State) (kind : Nat) : SyncKept s (s.logNoSpare kind) := (trouble s _ _ _ _ _).trans (healthCheck _)

theorem persist (s : State) (body : Nat) : SyncKept s (s.persist body) := of_regs rfl

theorem setClk (s : State) (i : Nat) (b : Bool) : SyncKept s (s.setClk i b) := by
  unfold State.setClk
  split
  · exact wr s _ _
  · exact wr s _ _

theorem pick {α : Type} (s : State) (l : List α) : SyncKept s (s.pick l).1 := of_keeps (keeps_pick s l)

/-! ## Pairing and the Rim lane (11 Table 11-6, 12 R453) -/

theorem setRole (s : State) (n role : Nat) : SyncKept s (s.setRole n role) := by
  refine of_regsKeep (regsKeep_setRole s n role) ?_
  simp only [Reg.PAIR_SVC_STATUS, List.mem_cons, List.not_mem_nil, or_false]
  omega

theorem pairCheck (s : State) : SyncKept s s.pairCheck := by
  unfold State.pairCheck
  extract_lets failing back sFailed sTold sBack healthy
  have hfailed : SyncKept s sFailed := foldl s fun u e => (setRole u e.1 4).trans (of_keeps (keeps_updSvc _ _ _))
  have htold : SyncKept sFailed sTold := foldl sFailed fun u c => by
    split
    · exact refl u
    · exact of_keeps (keeps_pairSend u _ _ _)
  have hback : SyncKept sTold sBack := foldl sTold fun u n => by
    have hreset : SyncKept u ((u.setRole n 1).fw (Fld.PAIR_SVC_STATUS_MATCH_RUN n) 0) :=
      (setRole u n 1).trans (fw _ _ _ (by simp only [Fld.PAIR_SVC_STATUS_MATCH_RUN, Reg.PAIR_SVC_STATUS]; omega))
    have hunpassed := hreset.trans (of_keeps (keeps_updSvc _ n (fun x => { x with passed := false })))
    dsimp only
    split
    · exact hunpassed.trans (of_keeps (keeps_askKat _ _ _))
    · exact hunpassed
  exact ((hfailed.trans htold).trans hback).trans (of_keeps (keeps_withPair sBack _))

theorem laneTo (s : State) (st : Nat) : SyncKept s (s.laneTo st) := by
  simp only [State.laneTo]
  refine (trans ?_ (fw _ _ _)).trans (pairCheck _)
  split
  · exact refl s
  · refine after (foldl _ fun u t => ?_) (of_keeps (keeps_withRim s _))
    split
    · exact of_keeps (keeps_setEng u _ _)
    · exact refl u

theorem lanePause (s : State) (c : Nat) : SyncKept s (s.lanePause c) := by
  have hpause : ∀ u : State, SyncKept u (if u.lane = 2 then u.laneTo 3 else u) := fun u => by
    split
    · exact laneTo u 3
    · exact refl u
  unfold State.lanePause
  refine trans ?_ (hpause _)
  split
  · exact refl s
  · exact of_regs rfl

theorem laneSite (s : State) (t : Nat) : SyncKept s (s.laneSite t) := by
  unfold State.laneSite State.laneLost
  split_ifs
  · exact lanePause s 1
  · exact refl s
  · exact ((laneTo s 6).trans (trouble _ _ _ _ _ _)).trans (healthCheck _)
  · exact refl s

/-! ## Ports (09 R330) -/

theorem setPort (s : State) (p st : Nat) : SyncKept s (s.setPort p st) :=
  fw s _ _ (by simp only [Fld.ATY_PORT_STATUS_STATE, Reg.ATY_PORT_STATUS]; omega)

theorem portLinkTo (s : State) (p v : Nat) : SyncKept s (s.fw (Fld.ATY_PORT_STATUS_LINK p) v) :=
  fw s _ _ (by simp only [Fld.ATY_PORT_STATUS_LINK, Reg.ATY_PORT_STATUS]; omega)

theorem portLost (s : State) (p : Nat) : SyncKept s (s.portLost p) := by
  unfold State.portLost
  split
  · exact of_regsKeep (handsOver_linkHandover s).regs (by decide)
  · exact refl s

theorem rerouteVc2 (s : State) (l : Nat) : SyncKept s (s.rerouteVc2 l) := of_linkFrame (linkFrame_rerouteVc2 s l)

theorem portFail (s : State) (p : Nat) : SyncKept s (s.portFail p) := by
  unfold State.portFail
  extract_lets w v
  have hlost : SyncKept s w := (setPort s p pFailed).trans (portLost _ p)
  have hdropped : SyncKept w v := after (rerouteVc2 _ _) (of_keeps (keeps_updLink w _ _))
  exact (hlost.trans hdropped).trans (trouble v _ _ _ _ _)

theorem portTrain (s : State) (p : Nat) (full : Bool) : SyncKept s (s.portTrain p full) := (setPort s p pTrain).trans (of_keeps (keeps_updLink _ _ _))

theorem portRetireNow (s : State) (p : Nat) : SyncKept s (s.portRetireNow p) := by
  unfold State.portRetireNow
  extract_lets l far w0 w1 vc2gone w2 w3 map
  have hout : SyncKept s w1 := ((wr s _ _).trans (logRetired _ 2 p _)).trans (setClk _ _ _)
  split
  · have hgone : SyncKept w1 (vc2gone w1) := of_keeps (keeps_updLink w1 _ _)
    exact ((hout.trans hgone).trans (portFail _ p)).trans (logNoSpare _ 2)
  next q _ =>
    extract_lets w4 w5 w6 w7 w8
    have h2 : SyncKept w1 w2 := ((setPort w1 p pRetired).trans (portLost _ p)).trans (rerouteVc2 _ l)
    have h3 : SyncKept w2 w3 := portLinkTo w2 _ _
    have h4 : SyncKept w3 w4 := (setPort w3 q pDown).trans (portLinkTo _ _ l)
    have h5 : SyncKept w4 w5 := wr w4 _ _ (by simp only [map]; split <;> decide)
    have h6 : SyncKept w5 w6 := (wr w5 _ _).trans (logSpare _ 2 q _)
    have h7 : SyncKept w6 w7 := fbw w6 _ _ (by simp only [Fld.ATY_PORT_STATUS_UPSTREAM, Reg.ATY_PORT_STATUS]; omega)
    have h8 : SyncKept w7 w8 := of_keeps (keeps_updLink w7 _ _)
    exact (((hout.trans h2).trans (h3.trans h4)).trans (h5.trans h6)).trans ((h7.trans h8).trans (portTrain w8 q true))

/-! ## Cores -/

theorem mgmtRetireNow (s : State) (c : Nat) : SyncKept s (s.mgmtRetireNow c) := by
  unfold State.mgmtRetireNow
  extract_lets v0 v w
  have hout : SyncKept s w := (wr s _ _).trans (logRetired _ 3 c _)
  split
  · exact hout.trans ((wr w _ _).trans (logSpare _ _ _ _))
  · exact hout.trans (logNoSpare w 3)

theorem vidSync (s : State) : SyncKept s s.vidSync := by
  unfold State.vidSync
  extract_lets busy w v u
  exact ((((fw s _ _).trans (fw _ _ _)).trans (wr w _ _)).trans (wr v _ _)).trans
    (foldl u fun x e => wr x _ _ (by simp only [Reg.VID_SESS_PEND]; omega))

theorem vidDemoteAux (k : Nat) (s : State) : SyncKept s (vidDemoteAux k s) := by
  induction k generalizing s with
  | zero => exact refl s
  | succ k ih =>
    unfold State.vidDemoteAux
    split
    · exact refl s
    · split
      · exact refl s
      next n x _ =>
        extract_lets w
        have hlive : (Fld.VID_SESS_STATUS_LIVE n).reg.addr ≠ 0x1040104 := by
          simp only [Fld.VID_SESS_STATUS_LIVE, Reg.VID_SESS_STATUS]
          omega
        have hw : SyncKept s w := after (fbw _ (Fld.VID_SESS_STATUS_LIVE n) false hlive) (of_regs rfl)
        exact (hw.trans ((wr w _ _).trans (trouble _ _ _ _ _ _))).trans (ih _)

theorem vidRetireNow (s : State) (c : Nat) : SyncKept s (s.vidRetireNow c) := by
  unfold State.vidRetireNow
  extract_lets v0 active v w0 w
  have hout : SyncKept s w := ((wr s _ _).trans (logRetired _ 4 c _)).trans (setClk _ _ _)
  split
  · exact hout.trans (((wr w _ _).trans (logSpare _ _ _ _)).trans (setClk _ _ _))
  · split
    · exact hout.trans (((logNoSpare w 4).trans (fw _ _ _)).trans ((vidDemoteAux _ _).trans (vidSync _)))
    · exact hout

/-! ## The token's queue (19 R618) -/

theorem actEffect (s : State) (a : Activity) : SyncKept s (s.actEffect a) := by
  unfold State.actEffect
  split
  · split
    · exact of_keeps (keeps_moveStart s _)
    · exact portRetireNow s _
    · exact mgmtRetireNow s _
    · exact vidRetireNow s _
    · exact refl s
  · split
    · exact (fbw s _ _).trans (fbw _ _ _)
    · exact refl s

theorem maintPumpAux (k : Nat) (s : State) : SyncKept s (maintPumpAux k s) := by
  induction k generalizing s with
  | zero => exact refl s
  | succ k ih =>
    unfold State.maintPumpAux
    split
    · exact refl s
    next a q _ =>
      split
      · extract_lets _ w _ v
        have hw : SyncKept s w := after (actEffect _ a) (of_regs rfl)
        have hv : SyncKept w v := by
          simp only [v]
          split
          · exact of_regs rfl
          · exact refl w
        exact (hw.trans hv).trans (ih v)
      · exact refl s

theorem maintRelease (s : State) (a : Activity) : SyncKept s (s.maintRelease a) := after (maintPumpAux _ _) (of_regs rfl)

/-! ## Rings (02 R77, R87) -/

theorem replyKeeps {n : Nat} (h : ReplyKeeps n s t) : SyncKept s t :=
  of_regsKeep h.2 (by simp only [Reg.HIF_RING_CPL_TAIL, List.mem_cons, List.not_mem_nil, or_false]; omega)

theorem ringSettle (s : State) (n : Nat) : SyncKept s (s.ringSettle n) := by
  unfold State.ringSettle
  split
  · exact (replyKeeps (closeRecord_replyKeeps s n)).trans
      (fw _ _ _ (by simp only [Fld.HIF_RING_STATE_STATE, Reg.HIF_RING_STATE]; omega))
  · exact refl s

theorem startNextAux (n k : Nat) (s : State) : SyncKept s (startNextAux n k s) := by
  have hhead : ∀ v, SyncKept s (if s.rimOwns n then s else s.wr (Reg.HIF_RING_HEAD n) v) := fun v => by
    split
    · exact refl s
    · exact wr s _ _ (by simp only [Reg.HIF_RING_HEAD]; omega)
  induction k generalizing s with
  | zero => exact refl s
  | succ k ih =>
    unfold State.startNextAux
    extract_lets e
    split
    · exact refl s
    · split
      · exact of_regs rfl
      · split
        · exact refl s
        · split
          · exact refl s
          next j l _ =>
            extract_lets w v
            have hw : SyncKept s w := (hhead _).trans (of_regs rfl)
            split
            · exact hw
            · have hv : SyncKept w v := of_regs rfl
              refine after (ih _ fun v => ?_) ((hw.trans hv).trans (replyKeeps (ringReply_replyKeeps v n _ _)))
              split
              · exact refl _
              · exact wr _ _ _ (by simp only [Reg.HIF_RING_HEAD]; omega)

theorem startNext (s : State) (n : Nat) : SyncKept s (s.startNext n) := (startNextAux n _ s).trans (ringSettle _ n)

end SyncKept
end Sys2Proof.Safety
end

section
/-! What leaves a sync counter alone (O58): what an operation does at its home, but for its token; a token leaves a full counter full. -/

namespace Sys2Proof.Safety

-- Elaborated side by side, each of these many unfoldings would hold a thread and its stack while it waits for the others.
set_option Elab.async false

open Sys2Proof.Machine Sys2Proof.Machine.State

namespace SyncKept

variable {s t u : State}

/-- A register of the stacks, the slices, Creel or the cascade. -/
theorem wrAbove (s : State) (r : Reg) (v : Nat) (h : 0x2000000 ≤ r.addr) : SyncKept s (s.wr r v) := wr s r v (by omega)

/-! ## Remaps and retirement (06 R213 to R215, R221 to R223; 19 R623) -/

theorem markSite (s : State) (site : Nat) : SyncKept s (s.markSite site) := by
  unfold State.markSite
  extract_lets retired fenced a
  have hretired : SyncKept s retired := wr s _ _
  have hfenced : SyncKept s fenced := by
    refine hretired.trans ?_
    cases h : retired.tileOf site with
    | none =>
      rw [show fenced = retired by simp only [fenced, h]]
      exact refl retired
    | some t =>
      refine (laneSite retired t).trans ?_
      simp only [fenced, h]
      exact (of_keeps (keeps_setTile _ t _)).trans (of_keeps (keeps_setEng _ t _))
  split_ifs
  · exact refl s
  · exact hfenced.trans (of_keeps (keeps_withRas fenced _))
  · exact after (of_keeps (keeps_moveStart _ site)) (hfenced.trans (of_keeps (keeps_withRas fenced _)))

theorem remapLine (s : State) (key : Nat) (ue : Bool) : SyncKept s (s.remapLine key ue) := by
  unfold State.remapLine
  extract_lets line used poisoned ecc forgotten ecc' remapped stored k m full spare site marked
  have hpoisoned : SyncKept s poisoned := by
    cases ue
    · exact refl s
    · exact of_keeps (keeps_withEcc s _)
  have hforgotten : SyncKept s forgotten := hpoisoned.trans (of_keeps (keeps_withEcc poisoned _))
  have hstored : SyncKept s stored := (hforgotten.trans (of_keeps (keeps_withEcc forgotten _))).trans (persist remapped _)
  split_ifs
  · exact hstored.trans (wrAbove stored _ _ (by simp only [Reg.SLC_REMAP_USED]; omega))
  · exact hstored
  · have hfull : SyncKept forgotten full := wrAbove forgotten _ _ (by simp only [Reg.SLC_MACRO_FULL]; omega)
    exact ((hforgotten.trans hfull).trans (trouble full _ _ _ _ _)).trans (healthCheck _)
  · have hmarked : SyncKept forgotten marked := by
      by_cases h : spare = true
      · rw [show marked = forgotten.markSite site from if_pos h]
        exact markSite _ _
      · rw [show marked = forgotten from if_neg h]
        exact refl _
    exact (hforgotten.trans hmarked).trans (trouble marked _ _ _ _ _)

theorem takeSkein (s : State) (sts : List Nat) : SyncKept s (s.takeSkein sts).1 := by
  unfold State.takeSkein
  split
  next w hst => exact (pick s sts).fst hst
  next w st hst =>
    have hstack : SyncKept s w := (pick s sts).fst hst
    split
    next v hpage => exact hstack.trans ((pick w (w.freeSkein st)).fst hpage)
    next v k hpage =>
      have hpicked := hstack.trans ((pick w (w.freeSkein st)).fst hpage)
      exact (hpicked.trans (of_keeps (keeps_withEcc v _))).trans
        (fw _ (Fld.HBM_REMAP_STATE_FREE st) _ (by simp only [Fld.HBM_REMAP_STATE_FREE, Reg.HBM_REMAP_STATE]; omega))

theorem retirePage (s : State) (key : Nat) : SyncKept s (s.retirePage key) := by
  simp only [State.retirePage]
  split
  · exact refl s
  · split
    next w k htaken =>
      have hw := after ((takeSkein _ _).fst htaken) (of_keeps (keeps_withEcc s _))
      exact (hw.trans (of_keeps (keeps_withEcc w _))).trans
        (fw _ _ _ (by simp only [Fld.HBM_STATUS_RETIRE_ACTIVE, Reg.HBM_STATUS]; omega))
    next w htaken =>
      have hw := after ((takeSkein _ _).fst htaken) (of_keeps (keeps_withEcc s _))
      refine after (healthCheck _) (after (persist _ _) (after (trouble _ _ _ _ _ _) (after (wrAbove _ _ _ ?_) ?_)))
      pick_goal 2
      · exact hw.trans (of_keeps (keeps_withEcc w _))
      simp only [Reg.HBM_PAGES_LOST]
      omega

theorem countUe (s : State) (key : Nat) : SyncKept s (s.countUe key) := by
  unfold State.countUe
  split
  · exact ((pmuEvent s _ _ _ _).trans (wrAbove _ _ _ (by simp only [Reg.HBM_UE_CNT]; omega))).trans
      (wrAbove _ _ _ (by simp only [Reg.HBM_ERR_ADDR]; omega))
  · exact tileEvent s _ _ _
  · exact ((pmuEvent s _ _ _ _).trans (wrAbove _ _ _ (by simp only [Reg.SLC_UE_CNT]; omega))).trans
      (wrAbove _ _ _ (by simp only [Reg.SLC_ERR_ADDR]; omega))

theorem countCe (s : State) (key : Nat) : SyncKept s (s.countCe key) := by
  unfold State.countCe
  split
  · exact ((pmuEvent s _ _ _ _).trans (wrAbove _ _ _ (by simp only [Reg.HBM_CE_CNT]; omega))).trans
      (wrAbove _ _ _ (by simp only [Reg.HBM_ERR_ADDR]; omega))
  · exact tileEvent s _ _ _
  · exact ((pmuEvent s _ _ _ _).trans (wrAbove _ _ _ (by simp only [Reg.SLC_CE_CNT]; omega))).trans
      (wrAbove _ _ _ (by simp only [Reg.SLC_ERR_ADDR]; omega))

theorem countPoison (s : State) (key : Nat) : SyncKept s (s.countPoison key) := by
  unfold State.countPoison
  split
  · exact (pmuEvent s _ _ _ _).trans (wrAbove _ _ _ (by simp only [Reg.HBM_POISON_READ_CNT]; omega))
  · exact tileEvent s _ _ _
  · exact (pmuEvent s _ _ _ _).trans (wrAbove _ _ _ (by simp only [Reg.SLC_UE_CNT]; omega))

theorem trackPage (s : State) (key : Nat) : SyncKept s (s.trackPage key) := by
  unfold State.trackPage
  extract_lets page st mine c pages ecc tracked
  have htracked : SyncKept s tracked := of_keeps (keeps_withEcc s _)
  split
  · exact htracked.trans (retirePage tracked key)
  · exact htracked

theorem trackWord (s : State) (key : Nat) : SyncKept s (s.trackWord key) := by
  unfold State.trackWord
  extract_lets w c
  split
  · exact remapLine s key false
  · exact of_keeps (keeps_withEcc s _)

theorem onCe (s : State) (key : Nat) : SyncKept s (s.onCe key) := by
  unfold State.onCe
  extract_lets counted
  split
  · exact (countCe s key).trans (trackPage counted key)
  · exact (countCe s key).trans (trackWord counted key)

theorem onUe (s : State) (key : Nat) : SyncKept s (s.onUe key) := by
  unfold State.onUe
  extract_lets counted
  split
  · exact after (retirePage _ key) ((countUe s key).trans (of_keeps (keeps_withEcc counted _)))
  · exact (countUe s key).trans (remapLine counted key true)

/-! ## Memory at its home -/

theorem lineTouch (s : State) (key n : Nat) (write : Bool) : SyncKept s (s.lineTouch key n write) := by
  unfold State.lineTouch
  split
  · extract_lets t us clear touched
    have htouched : SyncKept s touched := (tileEvent s _ _ _).trans (tileEvent _ _ _ _)
    split
    · exact htouched
    · exact htouched.trans (tileEvent touched _ _ _)
  · exact pmuEvent s _ _ _ _
  · exact refl s

theorem logUe (s : State) (r : Reader) (addr : Nat) (poison : Bool) : SyncKept s (s.logUe r addr poison) := trouble s _ _ _ _ _

theorem homeRead (s : State) (r : Reader) (key n : Nat) (seen : Seen) : SyncKept s (s.homeRead r key n seen).1 := by
  unfold State.homeRead
  extract_lets touched ms counted bs
  have htouch : SyncKept s touched := lineTouch s key n false
  split
  · exact (htouch.trans (countPoison touched _)).trans (logUe _ r _ _)
  · split
    · refine after (logUe _ r _ _) (htouch.trans ?_)
      split
      · exact countPoison touched _
      · exact countUe touched _
    · have hcounted : SyncKept s counted := htouch.trans (foldl touched fun w m => countCe w m.key)
      split
      · exact hcounted
      · exact hcounted.trans (onCe counted key)
      · exact (hcounted.trans (onUe counted key)).trans (logUe _ r _ _)

theorem homeWrite (s : State) (key : Nat) (bs : List Byte) : SyncKept s (s.homeWrite key bs) := by
  unfold State.homeWrite
  extract_lets n touched whole written
  split
  · exact refl s
  · exact ((lineTouch s key n true).trans (of_keeps (keeps_memWrite touched key bs))).trans (of_keeps (keeps_withEcc written _))

theorem homeStore (s : State) (r : Reader) (key : Nat) (bs : List Byte) (seen : Seen) : SyncKept s (s.homeStore r key bs seen).1 := by
  unfold State.homeStore
  split
  · split
    next w hread => exact (homeRead s r key bs.length seen).fst hread
    next w old hread =>
      refine after (homeWrite _ key bs) (((homeRead s r key bs.length seen).fst hread).trans ?_)
      split
      · exact tileEvent w _ _ _
      · exact refl w
  · exact homeWrite s key bs

theorem memCount (s : State) (o : Option Origin) (key n : Nat) (read write : Bool) : SyncKept s (s.memCount o key n read write) := by
  unfold State.memCount
  extract_lets g
  split
  · exact ((pmuEvent s _ _ _ _).trans (pmuEvent _ _ _ _ _)).trans (pmuEvent _ _ _ _ _)
  · exact pmuEvent s _ _ _ _
  · exact refl s

theorem tileCount (s : State) (q : Req) : SyncKept s (s.tileCount q) := by
  simp only [State.tileCount]
  split_ifs
  · exact tileEvent s _ _ _
  · exact tileEvent s _ _ _
  · exact tileEvent s _ _ _
  · exact refl s

/-! ## Creel's regions (07 R237, R242, R247 to R251) -/

theorem crlDiscard (s : State) (n u addr : Nat) (o : Option Origin) : SyncKept s (s.crlDiscard n u addr o) := by
  have hpark : SyncKept s (s.crlPark n 1 u (ownAddr addr) 250 Sts.noPages) := by
    unfold State.crlPark
    split
    · exact refl s
    · split
      · exact refl s
      · exact after (trouble _ _ _ _ _ _) (of_keeps (keeps_setCrlSeq s _ _))
  unfold State.crlDiscard
  extract_lets parked marked
  have hmarked : SyncKept parked marked := by
    unfold marked
    split
    · exact of_keeps (keeps_setCrlSeq parked _ _)
    · exact refl parked
  exact ((hpark.trans hmarked).trans (wrAbove marked _ _ (by simp only [Reg.CRL_DISCARD_CNT]; omega))).trans (pmuEvent _ _ _ _ _)

theorem tlbPut (s : State) (u n v : Nat) : SyncKept s (s.tlbPut u n v) := by
  unfold State.tlbPut
  extract_lets rest mine
  split
  · exact of_keeps (keeps_withCrl s _)
  · split
    next w e hpick => exact ((pick s mine).fst hpick).trans (of_keeps (keeps_withCrl w _))
    next w hpick => exact (pick s mine).fst hpick

theorem crlAlloc (s : State) (q : CrlSeq) (u v : Nat) : SyncKept s (s.crlAlloc q u v).1 := by
  unfold State.crlAlloc
  split
  · split
    next w k g hpick => exact ((pick s _).fst hpick).trans (of_keeps (keeps_withCrl w _))
    next w hpick => exact (pick s _).fst hpick
  · exact refl s

theorem crlDo (s : State) (g : CrlSeq) (u : Nat) (q : Req) (seen : Seen) : SyncKept s (s.crlDo g u q seen).1 := by
  unfold State.crlDo
  extract_lets n v o r write
  have hwrite : ∀ (w : State) (m : CrlPage), SyncKept w (write w m).1 := fun w m => by
    unfold write
    extract_lets crl written counted
    have hcounted : SyncKept w counted := after (memCount written _ _ _ _ _) (of_keeps (keeps_withCrl w _))
    split
    next x hstore => exact hcounted.trans ((homeStore counted r _ q.data seen).fst hstore)
    next x hstore => exact hcounted.trans ((homeStore counted r _ q.data seen).fst hstore)
  split
  · split
    · exact refl s
    next m hmap =>
      extract_lets counted
      have hcounted : SyncKept s counted := memCount s _ _ _ _ _
      split
      next x bs hread => exact hcounted.trans ((homeRead counted r _ q.size seen).fst hread)
      next x hread => exact hcounted.trans ((homeRead counted r _ q.size seen).fst hread)
  · split
    · exact crlDiscard s _ _ _ _
    · split
      · exact hwrite s _
      · have halloc := crlAlloc s g u v
        split
        next w k granted hpage =>
          exact after (hwrite _ _) (after (tlbPut _ u n v) ((halloc.fst hpage).trans (of_keeps (keeps_withCrl w _))))
        next w hpage => exact halloc.fst hpage
        next w hpage => exact (halloc.fst hpage).trans (crlDiscard w _ _ _ _)

theorem walkStart (s : State) (u n v : Nat) (o : Option Origin) : SyncKept s (s.walkStart u n v o) := by
  unfold State.walkStart
  split
  · exact refl s
  · exact after (pmuEvent _ _ _ _ _) (after (wrAbove _ _ _ (by simp only [Reg.CRL_TLB_MISS]; omega)) (of_keeps (keeps_withCrl s _)))

theorem crlWait (s : State) (q : Req) (seen : Seen) : SyncKept s (s.crlWait q seen) := of_keeps (keeps_withCrl s _)

theorem crlFault (s : State) (u v : Nat) : SyncKept s (s.wr (Reg.CRL_FAULT_ADDR u) v) :=
  wrAbove s _ _ (by simp only [Reg.CRL_FAULT_ADDR]; omega)

theorem crlArrive_arrive (q : Req) (seen : Seen) (s : State) (n v u : Nat) (g : CrlSeq) :
    SyncKept s (crlArrive.arrive q seen s n v u g).1 := by
  unfold crlArrive.arrive
  have hhit : SyncKept s ((s.bumpWrap (Reg.CRL_TLB_HIT u) 48 1).pmuEvent (12 + u) 0x110 1 (some (Origin.req q))) :=
    after (pmuEvent _ _ _ _ _) (wrAbove s _ _ (by simp only [Reg.CRL_TLB_HIT]; omega))
  split_ifs
  · exact crlFault s _ _
  · exact crlWait s q seen
  · have hdone := hhit.trans (crlDo _ g u q seen)
    split
    next w hnone => exact (hdone.fst hnone).trans (crlWait w q seen)
    · exact hdone
  · exact (walkStart s u n v _).trans (crlWait _ q seen)

theorem crlArrive (s : State) (q : Req) (seen : Seen) : SyncKept s (s.crlArrive q seen).1 := by
  unfold State.crlArrive
  extract_lets n v u
  split
  · exact crlFault s _ _
  · split
    · split
      · exact of_keeps (keeps_withCrl s _)
      · exact crlArrive_arrive q seen s n v u _
    · exact crlArrive_arrive q seen s n v u _

theorem gatherArrive (s : State) (q : Req) : SyncKept s (s.gatherArrive q).1 := by
  simp only [State.gatherArrive]
  split_ifs
  · exact refl s
  · exact of_keeps (keeps_withCrl s _)
  · exact of_keeps (keeps_withCrl s _)

/-! ## Host memory (02 R84 to R86) -/

theorem openRecord (s : State) (w idx : Nat) : SyncKept s (s.openRecord w idx).1 := by
  unfold State.openRecord
  split
  · exact refl s
  · extract_lets raw iv aad good
    split
    · exact wr s _ _
    · exact of_keeps (keeps_withHif s _)

theorem openRecords (s : State) (w : Nat) (l : List Nat) : SyncKept s (s.openRecords w l).1 := by
  induction l generalizing s with
  | nil => exact refl s
  | cons i is ih =>
    have hfirst := openRecord s w i
    rw [State.openRecords]
    split
    next hopen => exact hfirst.fst hopen
    next v p hopen =>
      have hrest := (hfirst.fst hopen).trans (ih v)
      split
      next hs => exact hrest.fst hs
      next hs => exact hrest.fst hs

theorem hostLoad (s : State) (a n : Nat) : SyncKept s (s.hostLoad a n).1 := by
  unfold State.hostLoad
  split
  · split
    · exact refl s
    next w b _ =>
      extract_lets o first cnt
      have hopened := openRecords s w (rangeFrom first cnt)
      split
      next hopen => exact hopened.fst hopen
      next hopen => exact hopened.fst hopen
  · exact refl s

theorem hostStore {a : Nat} {bs : List Byte} (h : s.hostStore a bs = some u) : SyncKept s u := by
  unfold State.hostStore at h
  split at h
  · split at h
    · simp at h
    next w b _ =>
      obtain rfl := Option.some.inj h
      exact after (foldl _ fun v i => of_keeps (keeps_sealRecord v w i _)) (of_keeps (keeps_withHif s _))
  · obtain rfl := Option.some.inj h
    exact of_keeps (keeps_hostWrite s a bs)

/-! ## Requests and their responses -/

theorem gatedAccess (s : State) (addr : Nat) : SyncKept s (s.gatedAccess addr) := (wr s _ _).trans (wr _ _ _)

theorem countReq (s : State) (q : Req) : SyncKept s (s.countReq q) := by
  unfold State.countReq
  split
  · exact (pmuEvent s _ _ _ _).trans (pmuEvent _ _ _ _ _)
  · exact refl s

theorem countResp (s : State) (q : Req) (st : Nat) : SyncKept s (s.countResp q st) := by
  unfold State.countResp
  split
  · exact (pmuEvent s _ _ _ _).trans (pmuEvent _ _ _ _ _)
  · exact refl s

theorem route (s : State) (m : LinkMsg) : SyncKept s (s.route m) := of_linkFrame (linkFrame_route s m)

theorem launchResp (s : State) (r : Resp) : SyncKept s (s.launchResp r) := by
  unfold State.launchResp
  extract_lets sent
  have hsent : SyncKept s sent := of_keeps (keeps_emit s _)
  split
  · exact hsent
  · exact hsent.trans (route sent _)

theorem ingressRefused (s : State) (q : Req) : SyncKept s ((s.ingressRefuse q).refuse q Sts.accessFault) :=
  (((wr s _ _).trans (wr _ _ _)).trans (wr _ _ _)).trans (launchResp _ _)

end SyncKept

/-! ## Tokens -/

/-- A followed counter that is full stays full. -/
structure StaysFull (s t : State) : Prop where
  full : max32 ≤ s.rd spareSync → max32 ≤ t.rd spareSync

namespace StaysFull

variable {s t u : State}

theorem of_kept (h : SyncKept s t) : StaysFull s t := ⟨fun hs => h.rd ▸ hs⟩

theorem refl (s : State) : StaysFull s s := ⟨id⟩

theorem trans (h : StaysFull s t) (h' : StaysFull t u) : StaysFull s u := ⟨fun hs => h'.full (h.full hs)⟩

theorem fst {α : Type} {a : α} {x : State × α} (h : StaysFull s x.1) (hx : x = (u, a)) : StaysFull s u := by
  subst hx
  exact h

/-- A counter that shares the followed one's address is it. -/
theorem eq_spareSync_of_addr {site ctr : Nat} (h : (Reg.TILE_SYNC site ctr).addr = spareSync.addr) : Reg.TILE_SYNC site ctr = spareSync := by
  simp only [spareSync, Reg.TILE_SYNC] at h ⊢
  rw [h]

theorem overflowShown (s : State) (site m : Nat) : SyncKept s (s.orReg (Reg.TILE_SYNC_OVF site) m) :=
  .wr s _ _ (by simp only [Reg.TILE_SYNC_OVF]; omega)

/-- A token saturates its counter, and leaves every other one alone. -/
theorem syncAdd (s : State) (t ctr inc : Nat) : StaysFull s (s.syncAdd t ctr inc) := by
  unfold State.syncAdd
  extract_lets site r v counted
  have hcounted : SyncKept s counted := .tileEvent s t 34 1
  by_cases haddr : r.addr = 0x1040104
  · have hr : r = spareSync := eq_spareSync_of_addr haddr
    have hmax : max32 ≤ (counted.wr r max32).rd spareSync := by
      rw [hr, rd_wr_self _ _ _ (by decide)]
      decide
    split
    next hle =>
      refine ⟨fun hs => ?_⟩
      have hv : v = max32 := Nat.le_antisymm hle (le_trans (hr ▸ hs) (Nat.le_add_right _ _))
      rwa [hv]
    · exact ⟨fun _ => (of_kept ((overflowShown _ site _).trans (.trouble _ _ _ _ _ _))).full hmax⟩
  · have hwr : ∀ x, SyncKept s (counted.wr r x) := fun x => hcounted.trans (.wr counted r x haddr)
    split
    · exact of_kept (hwr _)
    · exact of_kept (((hwr _).trans (overflowShown _ site _)).trans (.trouble _ _ _ _ _ _))

/-- The Splint engine's counters lie below those of the tiles: a token names one of 32. -/
theorem splSyncAdd (s : State) {ctr : Nat} (hctr : ctr < 32) (inc : Nat) : SyncKept s (s.splSyncAdd ctr inc) := by
  have hne : (Reg.SPL_SYNC ctr).addr ≠ 0x1040104 := by
    simp only [Reg.SPL_SYNC]
    omega
  unfold State.splSyncAdd
  extract_lets r v
  split
  · exact .wr s _ _ hne
  · exact ((SyncKept.wr s _ _ hne).trans (.wr _ _ _)).trans (.trouble _ _ _ _ _ _)

theorem deliver (s : State) (q : Req) : StaysFull s (s.deliver q) := by
  unfold State.deliver
  split
  · exact refl s
  · split
    · exact syncAdd s _ _ _
    · split
      · exact syncAdd s _ _ _
      · exact of_kept (.gatedAccess s _)
    · exact of_kept (splSyncAdd s (bits_lt _ _ _) _)
    · exact refl s

/-! ## Operations at their homes (08 R287 to R289) -/

theorem memPerform (s : State) (q : Req) (seen : Seen) : StaysFull s (s.memPerform q seen).1 := by
  unfold State.memPerform
  extract_lets k r counted n
  have hcounted : SyncKept s counted := (SyncKept.memCount s _ _ _ _ _).trans (.tileCount _ q)
  split
  · have hread := hcounted.trans (.homeRead counted r k q.size seen)
    split
    next hu => exact of_kept (hread.fst hu)
    next hu => exact of_kept (hread.fst hu)
  · split
    · have hstore := hcounted.trans (.homeStore counted r k q.data seen)
      split
      next w hu => exact (of_kept (hstore.fst hu)).trans (deliver w q)
      next hu => exact of_kept (hstore.fst hu)
    · have hread := hcounted.trans (.homeRead counted r k n seen)
      split
      next hu => exact of_kept (hread.fst hu)
      next w old hu =>
        extract_lets valid touched
        have htouched : SyncKept w touched := by
          unfold touched
          split
          · exact .tileEvent w _ _ _
          · exact .refl w
        exact (of_kept (((hread.fst hu).trans htouched).trans (.homeWrite touched k _))).trans (deliver _ q)

theorem homePerform (s : State) (q : Req) (seen : Seen) : StaysFull s (s.homePerform q seen).1 := by
  unfold State.homePerform
  split
  · exact refl s
  · split
    · exact of_kept (.gatedAccess s _)
    · extract_lets host
      split
      · split
        · split
          · exact of_kept (.gatherArrive s q)
          · exact of_kept (.gatedAccess s _)
        · have harrive := SyncKept.crlArrive s q seen
          split
          next w st bs hw =>
            refine (of_kept (harrive.fst hw)).trans ?_
            dsimp only
            split
            · exact deliver w q
            · exact refl w
          · exact of_kept harrive
      · split
        · split
          · exact of_kept (.logUe s _ _ _)
          · have hload := SyncKept.hostLoad s host q.size
            split
            next hw => exact of_kept (hload.fst hw)
            next hw => exact of_kept (hload.fst hw)
        · split
          next w hstore => exact of_kept (.hostStore hstore)
          · exact refl s
      · exact refl s
      · exact deliver s q
      · exact memPerform s q seen

theorem serveHome (s : State) (q : Req) (seen : Seen) : StaysFull s (s.serveHome q seen) := by
  have hperform := (of_kept (SyncKept.countReq s q)).trans (homePerform _ q seen)
  unfold State.serveHome
  split
  · exact of_kept (.of_keeps (keeps_withEcc s _))
  · split
    next w st bs hw => exact (hperform.fst hw).trans (of_kept ((SyncKept.countResp w q st).trans (.launchResp _ _)))
    next w hw => exact hperform.fst hw

theorem performReq (s : State) (q : Req) (seen : Seen) : StaysFull s (s.performReq q seen) := by
  have hrefuse : ∀ st, StaysFull s (s.refuse q st) := fun st => of_kept (.launchResp s _)
  unfold State.performReq
  split_ifs
  · exact serveHome s q seen
  · exact refl s
  · exact serveHome s q seen
  · exact of_kept (.ingressRefused s q)
  · exact of_kept (.route s _)
  · exact hrefuse _
  · exact hrefuse _
  · exact serveHome s q seen
  · exact of_kept (.ingressRefused s q)

/-! ## The end of a move (19 R623) -/

theorem heldDeliver (s : State) : StaysFull s s.heldDeliver :=
  List.foldlRecOn _ _ (of_kept (.of_keeps (keeps_withEcc s _))) fun u hu e _ => hu.trans (performReq u e.1 e.2)

/-- What a move's end does before it delivers the operations that were held. -/
def moveFreed (s : State) (m : Move) : State :=
  let s := (s.setMove m.tile none).updTile m.tile (fun x => { x with fenced := false, traps := [] })
  if s.rimOwns m.tile then
    let s := if s.ras.moves.any (fun x => s.rimOwns x.tile) then s else s.laneHoldEnd 1
    { s with rim := { s.rim with resumeAt := s.now + 500000 } }
  else s

theorem moveEnd_eq (s : State) (m : Move) :
    s.moveEnd m = ((moveFreed s m).heldDeliver.maintRelease ⟨actRetire, 1, m.site⟩).startNext m.tile := rfl

theorem moveFreed_kept (s : State) (m : Move) : SyncKept s (moveFreed s m) := by
  have hfree : SyncKept s ((s.setMove m.tile none).updTile m.tile (fun x => { x with fenced := false, traps := [] })) :=
    .of_regs rfl
  unfold moveFreed
  extract_lets w v
  split
  · refine hfree.trans (.trans (t := v) ?_ (.of_keeps (keeps_withRim v _)))
    unfold v
    split
    · exact .refl w
    · exact .of_keeps (keeps_withRim w _)
  · exact hfree

theorem ecc_moveFreed (s : State) (m : Move) : (moveFreed s m).ecc = s.ecc := by
  unfold moveFreed
  extract_lets w v
  split
  · unfold v
    split
    · rfl
    · rfl
  · rfl

theorem moveEnd (s : State) (m : Move) : StaysFull s (s.moveEnd m) := by
  rw [moveEnd_eq]
  exact ((of_kept (moveFreed_kept s m)).trans (heldDeliver _)).trans (of_kept ((SyncKept.maintRelease _ _).trans (.startNext _ _)))

/-- Where no operation is held, the end of a move leaves the counter alone. -/
theorem moveEnd_kept {s : State} (m : Move) (h : s.ecc.heldOps = []) : SyncKept s (s.moveEnd m) := by
  have hheld : SyncKept (moveFreed s m) (moveFreed s m).heldDeliver := by
    rw [State.heldDeliver, ecc_moveFreed, h]
    exact .of_keeps (keeps_withEcc _ _)
  rw [moveEnd_eq]
  exact (((moveFreed_kept s m).trans hheld).trans (.maintRelease _ _)).trans (.startNext _ _)

end StaysFull
end Sys2Proof.Safety
end

section
/-! Tiles that move (O58): a counter of more bits than its register has is not copied as it stands. -/

namespace Sys2Proof.Safety

open Sys2Proof.Machine Sys2Proof.Machine.State

/-- The move of tile 0 from site 0 to site 1, its copy made. -/
def copiedMove : Move := ⟨0, 0, 1, true, true⟩

/-- After reset, that move is in progress, and counter 1 of the old site holds a value of 33 bits. -/
def wideCounter : State :=
  { State.reset with
    regs := Cells.set 0 (Reg.TILE_SYNC 0 1).addr (BitVec.ofNat 64 (2 ^ 32)) State.reset.regs
    ras := { State.reset.ras with moves := [copiedMove] } }

/-- The model's canonical form of the register file does not exclude it. -/
theorem wideCounter_wf : Registers.wf wideCounter = true := by decide

theorem wideCounter_moves : wideCounter.moveOf 0 = some copiedMove := by decide

theorem wideCounter_source : wideCounter.rd (Reg.TILE_SYNC 0 1) = 2 ^ 32 := by decide

/-- What the end of a copy does before the move ends (19 R623). -/
def moveCopied (s : State) (t : Nat) (m : Move) : State :=
  let s := (s.moveMarks t).moveRegs m.site m.spare
  let mine := fun (k : Nat) => decide (tileKey t 0 ≤ k) && decide (k < tileKey t 0 + 2 ^ 23)
  let s := { s with ecc := { s.ecc with
    remaps := s.ecc.remaps.filter (fun k => !mine k), words := s.ecc.words.filter (fun e => !mine e.1) } }
  let s := ((s.setSite t m.spare).orReg Reg.RAS_SITE_ACTIVE (2 ^ m.spare)).siteLeaves m.site
  s.logSpare 1 m.spare (siteIsland m.spare)

theorem exec_tileMoveCopyDone {s : State} {t : Nat} {m : Move} (hmove : s.moveOf t = some m) (hcopying : m.copying = true) :
    exec (.tileMoveCopyDone t) s = .next ((moveCopied s t m).moveEnd m) := by
  rw [show exec (.tileMoveCopyDone t) s = execTileMoveCopyDone t s from rfl, execTileMoveCopyDone, hmove]
  simp only [hcopying, Bool.not_true, Bool.false_eq_true, if_false]
  rfl

/-- Where no unit of the store is marked, a copy delivers no mark. -/
theorem moveMarks_unmarked {s : State} (h : s.ecc.marks = []) (t : Nat) : s.moveMarks t = s := by
  rw [moveMarks, marksIn, h]
  rfl

theorem keeps_moveRegs (s : State) (a b : Nat) : Keeps [.regs] s (s.moveRegs a b) := by
  unfold moveRegs
  extract_lets cp counters
  have hcounters : Keeps [.regs] s counters := Keeps.foldl s fun u c _ => keeps_wr u _ _
  exact ((hcounters.trans (keeps_wr counters _ _)).trans (keeps_wr _ _ _)).trans (keeps_wr _ _ _)

/-- A counter of site 0 copied to site 1. -/
def counterCopied (s : State) (c : Nat) : State := s.wr (Reg.TILE_SYNC 1 c) (s.rd (Reg.TILE_SYNC 0 c))

theorem counterCopied_kept (s : State) {c : Nat} (h : c ≠ 1) : SyncKept s (counterCopied s c) :=
  .wr s _ _ (by simp only [Reg.TILE_SYNC]; omega)

theorem countersCopied_kept {l : List Nat} (s : State) (h : ∀ c ∈ l, c ≠ 1) : SyncKept s (l.foldl counterCopied s) :=
  List.foldlRecOn l _ (SyncKept.refl s) fun _ hu c hc => hu.trans (counterCopied_kept _ (h c hc))

/-- The copy writes the low 32 bits of the counter. -/
theorem countersCopied_spareSync (s : State) :
    ((List.range 32).foldl counterCopied s).rd spareSync = s.rd (Reg.TILE_SYNC 0 1) % 2 ^ 32 := by
  have hsource : (counterCopied s 0).rd (Reg.TILE_SYNC 0 1) = s.rd (Reg.TILE_SYNC 0 1) := rd_wr_ne _ _ _ _ (by decide)
  have hself : (counterCopied (counterCopied s 0) 1).rd spareSync = (counterCopied s 0).rd (Reg.TILE_SYNC 0 1) % 2 ^ 32 :=
    rd_wr_self _ _ _ (by decide)
  rw [show List.range 32 = 0 :: 1 :: rangeFrom 2 30 by decide, List.foldl_cons, List.foldl_cons,
    (countersCopied_kept _ (by decide)).rd, hself, hsource]

theorem moveRegs_spareSync (s : State) : (s.moveRegs 0 1).rd spareSync = s.rd (Reg.TILE_SYNC 0 1) % 2 ^ 32 := by
  unfold moveRegs
  extract_lets cp counters
  have hrest : SyncKept counters (cp (cp (cp counters Reg.TILE_SYNC_OVF) Reg.TILE_NUMFLAGS) Reg.TILE_RO_CFG) :=
    ((SyncKept.wr counters _ _).trans (.wr _ _ _)).trans (.wr _ _ _)
  exact hrest.rd.trans (countersCopied_spareSync s)

/-- What an end of a copy that finds no marks leaves of the spare's counter, and of the operations held. -/
theorem moveCopied_shows {s : State} {t : Nat} {m : Move} (ht : t < 32) (hsite : m.site = 0) (hspare : m.spare = 1)
    (hmarks : s.ecc.marks = []) :
    (moveCopied s t m).rd spareSync = s.rd (Reg.TILE_SYNC 0 1) % 2 ^ 32 ∧ (moveCopied s t m).ecc.heldOps = s.ecc.heldOps := by
  unfold moveCopied
  rw [moveMarks_unmarked hmarks, hsite, hspare]
  extract_lets copied mine ecc dropped left
  have hcopied : copied.ecc = s.ecc := keeps_moveRegs s 0 1 .ecc (by decide)
  have hsync : copied.rd spareSync = s.rd (Reg.TILE_SYNC 0 1) % 2 ^ 32 := moveRegs_spareSync s
  clear_value copied
  have hdropped : SyncKept copied dropped := .of_keeps (keeps_withEcc copied _)
  have hleft : SyncKept dropped left :=
    (((SyncKept.wr dropped _ _ (by simp only [Reg.RAS_TILE_MAP]; omega)).trans (.wr _ _ _)).trans (.wr _ _ _)).trans
      ((SyncKept.setClk _ _ _).trans (.logRetired _ _ _ _))
  have hkept : Keeps [.regs, .log, .out, .hif, .ras] dropped left := by
    have hwr : ∀ (u : State) (r : Reg) (v : Nat), Keeps [.regs, .log, .out, .hif, .ras] u (u.wr r v) := fun u r v =>
      (keeps_wr u r v).mono (by simp)
    exact (((hwr dropped _ _).trans (hwr _ _ _)).trans (hwr _ _ _)).trans
      (((keeps_setClk _ _ _).mono (by simp)).trans (logRetired_frame _ _ _ _).1)
  constructor
  · exact ((hdropped.trans hleft).trans (.logSpare left _ _ _)).rd.trans hsync
  · rw [(logSpare_frame left 1 1 (siteIsland 1)).1 .ecc (by decide), hkept .ecc (by decide)]
    change copied.ecc.heldOps = s.ecc.heldOps
    rw [hcopied]

/-- The state in which the copy leaves the module. -/
def wideCopied : State := moveCopied wideCounter 0 copiedMove

theorem wideCopied_shows : wideCopied.rd spareSync = 0 ∧ wideCopied.ecc.heldOps = [] := by
  obtain ⟨hsync, hheld⟩ := moveCopied_shows (s := wideCounter) (t := 0) (m := copiedMove) (by decide) rfl rfl rfl
  rw [wideCopied, hsync, hheld, wideCounter_source]
  exact ⟨rfl, rfl⟩

/-- The spare site's counter as the move ends. -/
theorem wideCopied_ends : (wideCopied.moveEnd copiedMove).rd spareSync = 0 :=
  (StaysFull.moveEnd_kept copiedMove wideCopied_shows.2).rd.trans wideCopied_shows.1

end Sys2Proof.Safety

namespace Sys2Proof

open Sys2Proof.Machine Sys2Proof.Machine.State Sys2Proof.Safety

/-- Refutes O58: its clause on the end of a copy asks nothing of the values in the register file, so a TILE_SYNC counter may hold more than
its 32 bits. The copy writes the low 32 bits, and nothing that the end of the move does, the held operations' tokens included, takes a full
counter below its largest value. -/
theorem not_unitsMoveAndRetire : ¬ Obligations.UnitsMoveAndRetire := by
  unfold Obligations.UnitsMoveAndRetire
  rintro ⟨htile, -⟩
  obtain ⟨-, -, -, -, -, hcopied, -⟩ := htile wideCounter 0
  obtain ⟨w, hrun, -, -, -, -, hsync, -⟩ := hcopied copiedMove (by decide) wideCounter_moves rfl (by decide) (by decide) (by decide)
  have hends : wideCopied.moveEnd copiedMove = w.moveEnd copiedMove := 
    Host.Outcome.next.inj ((exec_tileMoveCopyDone wideCounter_moves rfl).symm.trans hrun)
  have hwide : w.rd spareSync = 2 ^ 32 := (hsync 1 (by decide)).trans wideCounter_source
  have hfull : max32 ≤ (w.moveEnd copiedMove).rd spareSync := (StaysFull.moveEnd w copiedMove).full (by rw [hwide]; decide)
  rw [← hends, wideCopied_ends] at hfull
  exact absurd hfull (by decide)

end Sys2Proof
end
